-- ==== Sys2Proof/Word.lean ====
section
/-! DEFINITION. The word type of the device's registers and packets, and the plainest bit-field arithmetic on natural
numbers. -/
namespace Sys2Proof

/-- A 32-bit register or packet word. -/
abbrev Word := BitVec 32

/-- A byte of memory. -/
abbrev Byte := BitVec 8

/-- Bits [hi:lo] of a number. -/
def bitsOf (w hi lo : Nat) : Nat := (w >>> lo) % 2 ^ (hi - lo + 1)

/-- A flag as a bit. -/
def bit (b : Bool) : Nat := if b then 1 else 0

/-- `a - b`, or 0. The name says that the lower clamp is meant. -/
def monus (a b : Nat) : Nat := a - b

end Sys2Proof
end

