-- ==== Sys2Proof/Machine/Store.lean ====
section
/-! DEFINITION. Sparse stores: a list of (key, value) pairs with keys strictly rising. A key that is not listed holds the
store's default, and a write of the default removes the entry, so equal contents are equal lists. Every addressed piece
of state (memory bytes, register fields, counters, per-unit records) is held in one of these. -/
namespace Sys2Proof

/-- A sparse store from keys to values. -/
abbrev SMap (α : Type) := List (Nat × α)

/-- The value at a key; `d` where the key is not listed. -/
def SMap.get {α : Type} (d : α) : SMap α → Nat → α
  | [], _ => d
  | (k', v) :: t, k => if k = k' then v else SMap.get d t k

/-- The listed value at a key. -/
def SMap.find {α : Type} : SMap α → Nat → Option α
  | [], _ => none
  | (k', v) :: t, k => if k = k' then some v else SMap.find t k

/-- Lists a value at a key, in key order. -/
def SMap.insert {α : Type} : SMap α → Nat → α → SMap α
  | [], k, v => [(k, v)]
  | (k', v') :: t, k, v =>
    if k < k' then (k, v) :: (k', v') :: t
    else if k = k' then (k, v) :: t
    else (k', v') :: SMap.insert t k v

/-- Removes a key. -/
def SMap.erase {α : Type} (m : SMap α) (k : Nat) : SMap α := m.filter (fun p => decide (p.1 ≠ k))

/-- Writes a value at a key: the default removes the entry. -/
def SMap.put {α : Type} [DecidableEq α] (d : α) (m : SMap α) (k : Nat) (v : α) : SMap α :=
  if v = d then m.erase k else m.insert k v

/-- Writes a list of values at rising keys. -/
def SMap.putAll {α : Type} [DecidableEq α] (d : α) (m : SMap α) : Nat → List α → SMap α
  | _, [] => m
  | k, v :: vs => SMap.putAll d (SMap.put d m k v) (k + 1) vs

/-- The entries of a store with keys in `lo ≤ k < hi`. -/
def SMap.slice {α : Type} (m : SMap α) (lo hi : Nat) : SMap α :=
  m.filter (fun p => decide (lo ≤ p.1) && decide (p.1 < hi))

/-- Removes the entries with keys in `lo ≤ k < hi`. -/
def SMap.cut {α : Type} (m : SMap α) (lo hi : Nat) : SMap α :=
  m.filter (fun p => !(decide (lo ≤ p.1) && decide (p.1 < hi)))

/-- The part of `a` in `lo ≤ k < hi` replaced by the same part of `b`. -/
def SMap.splice {α : Type} (lo hi : Nat) (a b : SMap α) : SMap α :=
  a.filter (fun p => decide (p.1 < lo)) ++ b.slice lo hi ++ a.filter (fun p => decide (hi ≤ p.1))

/-- The keys rise strictly from above `b`. -/
def SMap.risesFrom {α : Type} : Nat → SMap α → Bool
  | _, [] => true
  | b, (k, _) :: t => decide (b ≤ k) && SMap.risesFrom (k + 1) t

/-- The canonical form: keys strictly rising and no entry equal to the default. -/
def SMap.wf {α : Type} [DecidableEq α] (d : α) (m : SMap α) : Bool :=
  SMap.risesFrom 0 m && m.all (fun p => decide (p.2 ≠ d))

end Sys2Proof
end

