-- ==== Sys2Proof/Machine/Operands.lean ====
section
/-! DEFINITION. The operand forms of the commands: who makes an access (R48, R51), a command packet (R96) with its path (R83),
station time in a packet (R98), and what leaves the device. -/
namespace Sys2Proof.Machine

/-- A bus master (R47, R48, R51). `debug` is the debug access master with the effect attribute, `debugPlain` without it (R650, R651). -/
inductive Master where
  | hostMgmt
  | hostData
  | cue (n : Fin 8)
  | debug
  | debugPlain
  | steward
deriving DecidableEq, Repr

/-- The answer to a register access (R51); `errRing` is a status of R323 that a debug access receives from the ring or a register port. -/
inductive BusResp where
  | done
  | value (v : Nat)
  | unsupportedRequest
  | completerAbort
  | loadFault
  | storeFault
  | errUnmapped
  | errSize
  | errDomain
  | errRing (st : Nat)
  | cmdBadTarget
  | cmdBadParam
  | cmdDomainOff
deriving DecidableEq, Repr

/-- The cause of a bus error response: a row of the table of R51, or a fabric register port that answers with an error or not at
all (R40, R155). -/
inductive BusCause where
  | unmapped
  | size
  | domainOff
  | clockStop
  | mgmtOnly
  | noAnswer
deriving DecidableEq, Repr

/-- The path a command came by (R83). -/
inductive Src where
  | set (q : Fin 16)
  | spi
  | lattice (peer : Nat)
deriving DecidableEq, Repr

/-- A command packet after its opcode was read (R96): path, tag, target word and the words from word 2 on. -/
structure Cmd where
  src    : Src
  tag    : BitVec 8
  word1  : Word
  params : List Word
deriving DecidableEq, Repr

/-- The packet's length in words (R96). -/
def Cmd.len (c : Cmd) : Nat := 2 + c.params.length
/-- The die of the target word (R96). -/
def Cmd.die (c : Cmd) : Nat := bitsOf c.word1.toNat 3 0
/-- The block window of the target word (R96). -/
def Cmd.blk (c : Cmd) : Nat := bitsOf c.word1.toNat 15 4
/-- The instance of the target word (R96). -/
def Cmd.inst (c : Cmd) : Nat := bitsOf c.word1.toNat 31 16
/-- Packet word `i`, counted from word 2 on; 0 beyond the packet. -/
def Cmd.w (c : Cmd) (i : Nat) : Nat := ((c.params.getD (i - 2) 0)).toNat
/-- Bits [hi:lo] of packet word `i`. -/
def Cmd.f (c : Cmd) (i hi lo : Nat) : Nat := bitsOf (c.w i) hi lo
/-- The block a target names, as one number (die and window). -/
def Cmd.tgt (c : Cmd) : Nat := bitsOf c.word1.toNat 15 0

/-- Two paths are the same queue set of R83, whose table makes the lattice one set whatever peer sent a command. -/
def Src.sameSet : Src → Src → Bool
  | .lattice _, .lattice _ => true
  | a, b => decide (a = b)

/-- The status codes of R108. -/
inductive Status where
  | ok | accepted | badOpcode | badLength | badParam | badTarget | busy | domainOff | fenced | authFail | wrongDevice
  | streamShort | notAuthorised | timeout | hwFault | retired | noSpare | late
deriving DecidableEq, Repr

/-- The 16-bit code of a status (R108). -/
def Status.code : Status → Nat
  | .ok => 0x0000
  | .accepted => 0x0001
  | .badOpcode => 0x0100
  | .badLength => 0x0101
  | .badParam => 0x0102
  | .badTarget => 0x0103
  | .busy => 0x0200
  | .domainOff => 0x0201
  | .fenced => 0x0202
  | .authFail => 0x0300
  | .wrongDevice => 0x0301
  | .streamShort => 0x0302
  | .notAuthorised => 0x0303
  | .timeout => 0x0400
  | .hwFault => 0x0500
  | .retired => 0x0501
  | .noSpare => 0x0502
  | .late => 0x0600

/-- A reply packet waiting to be written (R97). The sequence number is given when it is written. -/
structure Reply where
  src        : Src
  tag        : BitVec 8
  status     : Status
  completion : Bool
  opcode     : Nat
  results    : List Word
deriving DecidableEq, Repr

/-- The word of a number. -/
def wd (n : Nat) : Word := BitVec.ofNat 32 n

/-- Bytes of a number, least significant first (R14). -/
def bytesOf : Nat → Nat → List Byte
  | 0, _ => []
  | n + 1, v => BitVec.ofNat 8 v :: bytesOf n (v / 256)

/-- The number whose bytes, least significant first, are given (R14). -/
def ofBytes : List Byte → Nat
  | [] => 0
  | b :: t => b.toNat + 256 * ofBytes t

/-- The bytes of a list of words (R14). -/
def bytesOfWords (ws : List Word) : List Byte := ws.flatMap (fun w => bytesOf 4 w.toNat)

/-- Station time is held in units of 2⁻¹⁶ ns. One second in these units. -/
def second : Nat := 65536000000000
/-- One nanosecond in units of station time. -/
def nano : Nat := 65536

/-- The words T0–T2 of a station time (R98). -/
def timeWords (t : Nat) : List Word :=
  let sec := t / second
  let ns := (t % second) / nano
  [wd ns, wd ((t % nano) * 65536 + sec / 4294967296 % 65536), wd (sec % 4294967296)]

/-- The station time that T0–T2 spell; none where T0 is 1,000,000,000 or more (R98). -/
def timeOf (t0 t1 t2 : Nat) : Option Nat :=
  if t0 < 1000000000 then
    some ((bitsOf t1 15 0 * 4294967296 + t2) * second + t0 * nano + bitsOf t1 31 16)
  else none

/-- A scheduled instant: all zeros means at once (R100). -/
inductive Instant where
  | atOnce
  | at (t : Nat)
deriving DecidableEq, Repr

/-- The instant in three packet words from word `i` on (R98, R100). -/
def Cmd.instant (c : Cmd) (i : Nat) : Option Instant :=
  if c.w i = 0 ∧ c.w (i + 1) = 0 ∧ c.w (i + 2) = 0 then some .atOnce
  else (timeOf (c.w i) (c.w (i + 1)) (c.w (i + 2))).map Instant.at

/-- A PTP message as timestamped at a port (R340, R454): an announced grandmaster data set, a Sync of a grandmaster, named by its data set, with its
time (its correction included, ns), a Delay_Resp with the time t4 at which the master received the last Delay_Req, or another message. -/
inductive PtpMsg where
  | announce (gm : Nat)
  | sync (gm : Nat) (t1 : Int)
  | delayResp (t4 : Int)
  | other
deriving DecidableEq, Repr

/-- Which time value read live a master reads (R58): that of block `blk` of a die, or the instant that its facet is armed for. -/
structure BlkTime where
  blk   : Fin 512
  armed : Bool := false
deriving DecidableEq, Repr

/-- What the host does to the MSI-X settings of a function (R76): it removes its mask of a vector, enables the function's MSI-X or removes the
function mask, or sets such a mask or clears the enable, as it must have done before one is removed; or it writes an entry of the MSI-X table. -/
inductive MsixSet where
  | unmask (v : Fin 64)
  | enable
  | mask (v : Fin 64)
  | disable
  | funcUnmask
  | funcMask
  | entry (v : Fin 64) (addr : BitVec 64) (data : BitVec 32)
deriving DecidableEq, Repr

/-- A loop (R348, R362): a station loop, or fabric loop l of quadrant q. -/
inductive LoopId where
  | station (n : Fin 8)
  | fabric (q : Fin 4) (l : Fin 16)
deriving DecidableEq, Repr

/-- What the pins give when a line is read (R522, R530): the beat and bit of a single wrong bit, whether the first read is
beyond correction or fails its tag, and whether the second read is too. -/
structure LineErr where
  single : Option (Fin 8 × Fin 72) := none
  first  : Bool := false
  second : Bool := false
deriving DecidableEq, Repr

/-- A word at a lane's receiver (R379, R383, R398): its bits as they arrive, the first one lowest, how many words the transmit clock took from
the elastic buffer since the last one, and, with the pattern checker running, how many of its 64 bits are wrong. -/
structure RxWord where
  bits   : BitVec 66 := 0
  taken  : Nat := 1
  errs   : Fin 65 := 0
deriving DecidableEq, Repr

/-- One beat (R145, R419): 40 data bits and 8 side bits. -/
structure Beat where
  data   : BitVec 40
  side   : BitVec 8
deriving DecidableEq, Repr
/-- The poison signal, which side bit 2 always equals (R419). -/
def Beat.poison (x : Beat) : Bool := x.side.getLsbD 2
/-- The beat starts a line unit (R419). -/
def Beat.sol (x : Beat) : Bool := x.side.getLsbD 7

/-- A stream port of a quadrant (R143): lane receive or transmit port p, ring ingress or egress port v. -/
inductive SpPort where
  | rx (p : Fin 72)
  | tx (p : Fin 72)
  | ingress (v : Fin 96)
  | egress (v : Fin 96)
deriving DecidableEq, Repr

/-- An ANC packet (R420, R429): the fields of its header beat, its words from DID to checksum, and whether it is an audio data or
audio control packet. -/
structure Anc where
  s      : Bool
  stream : BitVec 7
  off    : BitVec 12
  c      : Bool
  line   : BitVec 11
  words  : List (BitVec 10)
  audio  : Bool
deriving DecidableEq, Repr

/-- An audio sample (R420): block start, channel, V, U, C, P bits, 24-bit sample. -/
structure AudioSmp where
  start : Bool
  ch    : BitVec 6
  vucp  : BitVec 4
  smp   : BitVec 24
deriving DecidableEq, Repr

/-- One link of a received interface line (R425–R427, R432): its EAV and SAV words XYZ, its line number LN, whether a line CRC failed, and the
active samples of each sub-image it carries, in interface order. -/
structure RxLink where
  eav    : BitVec 10
  sav    : BitVec 10
  ln     : BitVec 11
  crcBad : Bool
  subs   : List (List (BitVec 10))
deriving DecidableEq, Repr

/-- A received SDI interface line (R421–R432): when its EAV arrived (station time), its links in the order of their lanes, its ANC packets and its
embedded audio. -/
structure RxLine where
  time  : Nat
  links : List RxLink
  anc   : List Anc
  audio : List AudioSmp
deriving DecidableEq, Repr

/-- The ST 352 payload identifier of a received frame (R428), and the link numbers that the links' identifiers give, by lane (R431). -/
structure RxPid where
  pid   : Nat
  links : List (Fin 4) := []
deriving DecidableEq, Repr

/-- A row segment of an ST 2110-20 packet (R446): row number, field bit, position of its first sample in the row, and its samples (10-bit ones in
the low bits). -/
structure RowSeg where
  no    : Nat
  field : Bool
  at_   : Nat
  smps  : List (BitVec 12)
deriving DecidableEq, Repr

/-- An RTP packet matched to a flow (R446–R448): extended sequence number, RTP timestamp, when it arrived (station time), the field of its ANC
packets (RFC 8331), and its content by essence. -/
structure RtpPkt where
  seq    : Nat
  ts     : Nat
  time   : Nat
  field  : Bool := false
  rows   : List RowSeg
  marker : Bool
  audio  : List AudioSmp
  anc    : List Anc
deriving DecidableEq, Repr

/-- The headers of a packet that a transmit flow sends (R440, R444): MAC addresses, VLAN tag, IP version, DSCP, TTL or hop limit, addresses, UDP
ports, RTP payload type and SSRC. -/
structure NetHdr where
  macDst : Nat
  macSrc : Nat
  vlan   : Option Nat
  v6     : Bool
  dscp   : Nat
  ttl    : Nat
  src    : Nat
  dst    : Nat
  udpSrc : Nat
  udpDst : Nat
  pt     : Nat
  ssrc   : Nat
deriving DecidableEq, Repr

/-- What an accepted Ethernet frame carries (R443, R445): control traffic, UDP to media, or anything else. Addresses are numbers
in the layout of the port record (words 5–8 little-endian). -/
inductive EthBody where
  | control
  | media (dst src udpDst pt : Nat)
  | other
deriving DecidableEq, Repr

/-- A frame at a port's MAC (R441, R445): its destination address (first octet lowest), length in bytes, FCS correct, PAUSE or priority flow
control, its VLAN tag, and the FEC codewords corrected and uncorrectable on its way. -/
structure EthFrame where
  macDst : Nat
  len    : Nat
  fcs    : Bool
  pause  : Bool
  vlan   : Option (BitVec 12)
  corr   : Nat
  uncorr : Nat
  body   : EthBody
deriving DecidableEq, Repr

/-- Control traffic on a port (R443): a request for an address (ARP or neighbour solicitation), an echo request, the answer that
resolves an address to a MAC address, a membership query, or PTP. -/
inductive CtlPkt where
  | solicit (addr : Nat)
  | echo (addr : Nat)
  | resolved (addr mac : Nat)
  | query
  | ptp
deriving DecidableEq, Repr

/-- A short edge (R24, R25, R499): bundle b of lane die l, channel ch of stack k, or that of lamp j. -/
inductive ShortEdge where
  | bundle (l : Fin 2) (b : Fin 18)
  | dram (k : Fin 4) (ch : Fin 16)
  | lamp (j : Fin 2)
deriving DecidableEq, Repr

/-- What a tile sees (R128, R130, R132): whether CLK rises (else an input changed), the other tiles of the quadrant that see the same edge (local
facet, column, row), the signals that enter the quadrant's facets from bays, controllers, ports and balls with their new levels (local facet,
signal), for an SR that fell inside the recovery–removal window which flip-flops take init, in this tile and in each of the others, whether
a swap's edge E + 1 is still to come, and the regional clocks that rise at this edge beside those of the tiles listed (local facet, clock). -/
structure TileIn where
  rise   : Bool := true
  tiles  : List (Fin 12 × Fin 256 × Fin 120) := []
  levels : List (Fin 12 × Nat × Bool) := []
  window : Option (BitVec 32) := none
  windows : List ((Fin 12 × Fin 256 × Fin 120) × BitVec 32) := []
  early  : Bool := false
  clocks : List (Fin 12 × Fin 13) := []
deriving DecidableEq, Repr

/-- A Glenu frame (R580): the header payload, the 512 data bits, the GCM tag of a sealed frame, and the last block. -/
structure GFrame where
  hdr  : BitVec 56
  data : BitVec 512
  tag  : BitVec 64
  last : BitVec 64
deriving DecidableEq, Repr

/-- Who waits for a lattice peer (R595): a DMA channel with the units already moved, or the stage of a handle. -/
inductive LatClient where
  | dma (c : Fin 16) (n : Nat) (es : List LineErr) (ans : List (Option (List Byte × Bool)))
  | stage (h : Fin 8)
deriving DecidableEq, Repr

/-- The instructions of the TAP (R640). -/
inductive TapInstr where
  | extest | idcode | sample | clamp | highz | extestPulse | extestTrain | dbgreg | cmdpath | bypass
deriving DecidableEq, Repr

/-- Who writes a register of the DBG block (R663): JTAG by DBGREG, or a bus master. -/
inductive DbgBy where
  | jtag
  | bus (m : Master)
deriving DecidableEq, Repr

/-- Why a core halts at a breakpoint match (R655). -/
inductive BpKind where
  | exec | load | store
deriving DecidableEq, Repr

/-- What the PCS of a lane remembers from word to word (R379): the running disparity, the descrambler's history, the last bit before NRZI, and the
last character. -/
structure PcsX where
  rd   : Bool := false
  hist : Nat := 0
  line : Bool := false
  last : Nat := 0
deriving DecidableEq, Repr

end Sys2Proof.Machine
end

