-- ==== Sys2Proof/Syntax.lean ====
section
/-! DEFINITION. The commands of the block: one constructor per row of the opcode table, with the row's operands. An operand that
is not part of the device (a bus master, a measurement at a pin, bytes that arrive) comes from outside with the command. -/
namespace Sys2Proof
open Sys2Proof.Machine

/-- A command. -/
inductive Instr where
  /-- REGISTER_WRITE (R54). -/
  | registerWrite (m : Master) (a : BitVec 40) (bytes : List Byte)
  /-- TIME_LATCH_READ (R58). -/
  | timeLatchRead (m : Master) (d : Fin 8) (b : BlkTime)
  /-- POSTED_WRITE_APPLY (R59). -/
  | postedWriteApply (d : Fin 8) (b : Fin 512)
  /-- POSTED_WRITE_TIMEOUT (R62). -/
  | postedWriteTimeout (d : Fin 8) (b : Fin 512)
  /-- SNAP_WRITE (R64). -/
  | snapWrite (m : Master) (d : Fin 8) (b : Fin 512)
  /-- SNAP_CLEAR (R67). -/
  | snapClear (m : Master) (d : Fin 8) (b : Fin 512)
  /-- FABRIC_WINDOW_ACCESS (R40). -/
  | fabricWindowAccess (m : Master) (q : Fin 4) (a : BitVec 31) (write : Bool) (be : BitVec 8) (data : BitVec 64)
  /-- EVC_SET (R72). -/
  | evcSet (m : Master) (w : Fin 32) (v : Word)
  /-- EVC_MASK_WRITE (R77). -/
  | evcMaskWrite (m : Master) (w : Fin 32) (v : Word)
  /-- EVC_ROUTE_WRITE (R77). -/
  | evcRouteWrite (m : Master) (src : Fin 1024) (v : Word)
  /-- MSIX_MESSAGE (R74). -/
  | msixMessage (v : Fin 128)
  /-- MSIX_UNMASK (R76). -/
  | msixUnmask (data : Bool) (v : MsixSet)
  /-- PCIE_CONVENTIONAL_RESET (R76). -/
  | pcieConventionalReset
  /-- PCIE_HOT_RESET (R76). -/
  | pcieHotReset
  /-- FUNCTION_LEVEL_RESET (R76). -/
  | functionLevelReset (data : Bool)
  /-- PCIE_LINK_DOWN (R121). -/
  | pcieLinkDown
  /-- DOORBELL (R88). -/
  | doorbell (m : Master) (q : Fin 16) (v : Word)
  /-- HQ_RQ_HEAD_WRITE (R88). -/
  | hqRqHeadWrite (m : Master) (q : Fin 16) (v : Word)
  /-- HQ_Q_ENABLE (R91). -/
  | hqQEnable (m : Master) (q : Fin 16) (k : BitVec 4)
  /-- HQ_Q_DISABLE (R91). -/
  | hqQDisable (m : Master) (q : Fin 16) (k : BitVec 4)
  /-- COMMAND_FETCH (R89). -/
  | commandFetch (q : Fin 16)
  /-- REPLY_WRITE (R89). -/
  | replyWrite (src : Src)
  /-- SPI_GO (R94). -/
  | spiGo (m : Master)
  /-- SPI_ACK (R94). -/
  | spiAck (m : Master)
  /-- SPI_WRITE_FRAME (R95). -/
  | spiWriteFrame (off : BitVec 14) (ws : List Word)
  /-- SPI_READ_FRAME (R95). -/
  | spiReadFrame (off : BitVec 14) (n : Nat)
  /-- SPI_STATUS_FRAME (R95). -/
  | spiStatusFrame
  /-- SPI_OTHER_FRAME (R95). -/
  | spiOtherFrame (op : Byte)
  /-- LATTICE_COMMAND_RECEIVE (R85). -/
  | latticeCommandReceive (peer : Nat) (ws : List Word)
  /-- PING (R109). -/
  | ping (c : Cmd)
  /-- GET_INFO (R110). -/
  | getInfo (c : Cmd)
  /-- GET_CAPS (R110). -/
  | getCaps (c : Cmd)
  /-- SET_POWER (R111). -/
  | setPower (c : Cmd)
  /-- SET_POWER_QUERY (R111). -/
  | setPowerQuery (c : Cmd)
  /-- SET_POWER_COMPLETION (R609). -/
  | setPowerCompletion (d : Fin 85) (bad : BitVec 8)
  /-- DOMAIN_DRAIN_END (R320). -/
  | domainDrainEnd (d : Fin 85) (left : Nat)
  /-- RESET (R112). -/
  | reset (c : Cmd)
  /-- RESET_COMPLETION (R622). -/
  | resetCompletion (w : Option Word)
  /-- FACET_RESET_RELEASE (R250). -/
  | facetResetRelease (f : Fin 48)
  /-- FW_STAGE (R113). -/
  | fwStage (c : Cmd)
  /-- FW_STAGE_COMPLETION (R113). -/
  | fwStageCompletion (es : List LineErr)
  /-- FW_ACTIVATE (R114). -/
  | fwActivate (c : Cmd)
  /-- FW_HANDOVER_START (R114). -/
  | fwHandoverStart
  /-- FW_ACTIVATE_WAIT_TIMEOUT (R114). -/
  | fwActivateWaitTimeout
  /-- FW_HANDOVER_END (R114). -/
  | fwHandoverEnd (us : Fin 2001)
  /-- FW_HANDOVER_FAIL (R114). -/
  | fwHandoverFail
  /-- SCHED_CANCEL (R116). -/
  | schedCancel (c : Cmd)
  /-- SNAP (R117). -/
  | snap (c : Cmd)
  /-- SNAP_ACT (R117). -/
  | snapAct (w : Word) (edge : Nat)
  /-- SNAP_COMPLETION (R117). -/
  | snapCompletion
  /-- SCHEDULED_ACTION_MISSED (R368). -/
  | scheduledActionMissed (src : Src) (tag : BitVec 8)
  /-- OPERATION_TIMEOUT (R103). -/
  | operationTimeout (src : Src) (tag : BitVec 8) (gaps : Nat)
  /-- DMA_START (R119). -/
  | dmaStart (m : Master) (c : Fin 16) (v : Word)
  /-- DMA_DISABLE (R119). -/
  | dmaDisable (m : Master) (c : Fin 16) (v : Word)
  /-- DMA_DISABLE_DONE (R119). -/
  | dmaDisableDone (c : Fin 16) (n : Nat) (es : List LineErr) (ans : List (Option (List Byte × Bool)))
  /-- DMA_ABORT (R119). -/
  | dmaAbort (m : Master) (c : Fin 16) (v : Word) (n : Nat) (es : List LineErr) (ans : List (Option (List Byte × Bool)))
  /-- DMA_TRANSFER_DONE (R119). -/
  | dmaTransferDone (c : Fin 16) (es : List LineErr) (ans : List (Option (List Byte × Bool)))
  /-- LANE_PORT_BEAT_RECEIVE (R147). -/
  | lanePortBeatReceive (q : Fin 4) (p : Fin 72) (x : Beat) (taken : Nat)
  /-- LANE_PORT_BEAT_REQUEST (R148). -/
  | lanePortBeatRequest (q : Fin 4) (p : Fin 72) (given : List Beat)
  /-- SP_CTL_WRITE (R151). -/
  | spCtlWrite (m : Master) (q : Fin 4) (p : SpPort) (v : Word)
  /-- REGPORT_REQUEST (R154). -/
  | regportRequest (q : Fin 4)
  /-- REGPORT_RESPONSE (R155). -/
  | regportResponse (q : Fin 4) (err : Bool) (data : BitVec 64)
  /-- REGPORT_TIMEOUT (R155). -/
  | regportTimeout (q : Fin 4)
  /-- USER_EVENT_LINE (R156). -/
  | userEventLine (q : Fin 4) (j : Fin 56) (level : Bool)
  /-- PROBE_CTL_WRITE (R161). -/
  | probeCtlWrite (m : Master) (q : Fin 4) (v : Word)
  /-- BAY_WRITE (R178). -/
  | bayWrite (q : Fin 4) (deep : Bool) (i : Fin 4096) (portB : Bool) (laneWe : BitVec 4) (addr : BitVec 18) (din : BitVec 40)
  /-- BAY_READ (R180). -/
  | bayRead (q : Fin 4) (deep : Bool) (i : Fin 4096) (portB : Bool) (addr : BitVec 18)
  /-- BAY_CLEAR (R176). -/
  | bayClear (q : Fin 4) (deep : Bool) (i : Fin 4096)
  /-- BAY_MEND (R183). -/
  | bayMend (q : Fin 4) (deep : Bool) (i : Fin 4096)
  /-- BAY_REBUILD (R184). -/
  | bayRebuild (q : Fin 4) (deep : Bool) (i : Fin 4096)
  /-- BAY_SCRUB_CHECK (R186). -/
  | bayScrubCheck (q : Fin 4) (deep : Bool) (i : Fin 4096)
  /-- QC_RAW_READ (R190). -/
  | qcRawRead (m : Master) (q : Fin 4) (deep : Bool) (bay : BitVec 12)
  /-- QC_RAW_WRITE (R190). -/
  | qcRawWrite (m : Master) (q : Fin 4) (deep : Bool) (bay : BitVec 12)
  /-- RAW_ACCESS_DONE (R191). -/
  | rawAccessDone (q : Fin 4)
  /-- RAW_ACCESS_TIMEOUT (R191). -/
  | rawAccessTimeout (q : Fin 4)
  /-- QUEUE_WRITE (R199). -/
  | queueWrite (q : Fin 4) (n : Fin 480) (data : BitVec 80) (poison : Bool) (seen : Nat)
  /-- QUEUE_READ (R200). -/
  | queueRead (q : Fin 4) (n : Fin 480) (seen : Nat)
  /-- QC_QCTL_WRITE (R201). -/
  | qcQctlWrite (m : Master) (q : Fin 4) (n : Fin 480) (v : Word)
  /-- QC_QCMD_FLUSH (R202). -/
  | qcQcmdFlush (m : Master) (q : Fin 4) (n : Fin 480)
  /-- FACET_SWAP_AT (R228). -/
  | facetSwapAt (c : Cmd)
  /-- FACET_SWAP_EDGE (R234). -/
  | facetSwapEdge (f : Fin 48) (edge : Nat)
  /-- FACET_SWAP_TRIGGER_TIMEOUT (R230). -/
  | facetSwapTriggerTimeout (f : Fin 48)
  /-- FACET_SWAP_NO_EDGE (R231). -/
  | facetSwapNoEdge (f : Fin 48)
  /-- FACET_SWAP_HOLD_END (R234). -/
  | facetSwapHoldEnd (f : Fin 48)
  /-- FACET_BAY_INIT_DONE (R237). -/
  | facetBayInitDone (f : Fin 48)
  /-- FACET_FENCE (R241). -/
  | facetFence (c : Cmd)
  /-- FACET_FENCE_QUERY (R241). -/
  | facetFenceQuery (c : Cmd)
  /-- FACET_REWRITE (R246). -/
  | facetRewrite (c : Cmd)
  /-- FACET_WRITE_DONE (R247). -/
  | facetWriteDone (f : Fin 48) (fail : Option (Fin 32768))
  /-- FACET_RELEASE_STAGE (R247). -/
  | facetReleaseStage (f : Fin 48)
  /-- CFG_STAGE (R265). -/
  | cfgStage (c : Cmd)
  /-- CFG_STAGE_DATA (R261). -/
  | cfgStageData (h : Fin 8) (n : Nat) (peer : List Byte) (err : Bool) (refused : Bool)
  /-- CFG_STAGE_TIMEOUT (R261). -/
  | cfgStageTimeout (h : Fin 8)
  /-- CFG_PUSH (R266). -/
  | cfgPush (m : Master) (v : Word)
  /-- CFG_VERIFY (R268). -/
  | cfgVerify (c : Cmd)
  /-- CFG_VERIFY_COMPLETION (R261). -/
  | cfgVerifyCompletion (h : Fin 8)
  /-- CFG_APPLY (R270). -/
  | cfgApply (c : Cmd)
  /-- CFG_APPLY_WRITE_DONE (R272). -/
  | cfgApplyWriteDone (f : Fin 48) (rewritten : Nat) (fail : Option (Fin 32768))
  /-- SCRUB_CTL (R290). -/
  | scrubCtl (c : Cmd)
  /-- SCRUB_CTL_QUERY (R290). -/
  | scrubCtlQuery (c : Cmd)
  /-- SCRUB_FRAME_CHECK (R285). -/
  | scrubFrameCheck (q : Fin 4) (hits : List (Fin 33 × Fin 81)) (stuck : Bool)
  /-- KEY_LOAD (R291). -/
  | keyLoad (c : Cmd)
  /-- KEY_LOAD_COMPLETION (R291). -/
  | keyLoadCompletion (es : List LineErr)
  /-- RING_FLIT_RECEIVE (R301). -/
  | ringFlitReceive (x : Fin 24) (y : Fin 18) (dir : Fin 4) (noise : BitVec 536)
  /-- RING_REPLAY (R301). -/
  | ringReplay (x : Fin 24) (y : Fin 18) (dir : Fin 4)
  /-- RING_PACKET_ROUTE (R309). -/
  | ringPacketRoute (x : Fin 24) (y : Fin 18) (out : Fin 6)
  /-- NI_PACKET_DELIVER (R307). -/
  | niPacketDeliver (x : Fin 24) (y : Fin 18) (es : List LineErr)
  /-- CREDIT_RETURN (R307). -/
  | creditReturn (x : Fin 24) (y : Fin 18)
  /-- FENCE_PACKET (R308). -/
  | fencePacket (x : Fin 24) (y : Fin 18)
  /-- FABRIC_REQUEST (R314). -/
  | fabricRequest (q : Fin 4) (v : Fin 96) (op : Fin 8) (a : BitVec 40) (n : Fin 512) (tag : BitVec 8) (data : List Byte)
  /-- FABRIC_RESPONSE (R314). -/
  | fabricResponse (q : Fin 4) (v : Fin 96)
  /-- NI_FLOW_BEAT (R315). -/
  | niFlowBeat (q : Fin 4) (v : Fin 96) (given : List Beat)
  /-- NI_FLOW_ADMIT (R317). -/
  | niFlowAdmit (m : Master) (q : Fin 4) (v : Fin 96)
  /-- NI_FLOW_WITHDRAW (R318). -/
  | niFlowWithdraw (m : Master) (q : Fin 4) (v : Fin 96)
  /-- ROUTE_CHANGE_APPLY (R329). -/
  | routeChangeApply (x : Fin 24) (y : Fin 18) (e : Fin 64) (m : Word) (r0 : Word) (r1 : Word)
  /-- NI_STARVATION (R331). -/
  | niStarvation (x : Fin 24) (y : Fin 18)
  /-- RING_REQUEST_TIMEOUT (R322). -/
  | ringRequestTimeout (x : Fin 24) (y : Fin 18) (tag : BitVec 8)
  /-- TIME_BEACON (R337). -/
  | timeBeacon (reached : BitVec 8)
  /-- TIME_BEACON_LOSS (R337). -/
  | timeBeaconLoss (d : Fin 8)
  /-- REF_SELECT (R340). -/
  | refSelect (c : Cmd)
  /-- REF_SELECT_QUERY (R340). -/
  | refSelectQuery (c : Cmd)
  /-- REF_ENTRY_QUALIFY (R341). -/
  | refEntryQualify (e : Fin 4) (off : Int)
  /-- REF_ENTRY_DISQUALIFY (R341). -/
  | refEntryDisqualify (e : Fin 4)
  /-- TIME_LOCK (R345). -/
  | timeLock
  /-- PTP_MESSAGE_RECEIVE (R340). -/
  | ptpMessageReceive (lane : Fin 144) (domain : Fin 128) (m : PtpMsg)
  /-- PPS_EDGE (R339). -/
  | ppsEdge (tenMHz : Bool)
  /-- TIME_SET (R346). -/
  | timeSet (c : Cmd)
  /-- TIME_SET_QUERY (R346). -/
  | timeSetQuery (c : Cmd)
  /-- TIME_SET_SECONDS (R346). -/
  | timeSetSeconds
  /-- LOOP_SET (R348). -/
  | loopSet (c : Cmd)
  /-- LOOP_SET_QUERY (R348). -/
  | loopSetQuery (c : Cmd)
  /-- LOOP_LOCK (R351). -/
  | loopLock (l : LoopId) (f : Int)
  /-- LOOP_WINDOW (R352). -/
  | loopWindow (c : Cmd)
  /-- LOOP_WINDOW_QUERY (R352). -/
  | loopWindowQuery (c : Cmd)
  /-- LOOP_FALLBACK (R360). -/
  | loopFallback (c : Cmd)
  /-- LOOP_MONITOR_TRIP (R359). -/
  | loopMonitorTrip (n : Fin 8)
  /-- LOOP_REF_QUALIFY (R349). -/
  | loopRefQualify (n : Fin 8) (f : Int)
  /-- XO_READY (R358). -/
  | xoReady (i : Fin 2)
  /-- XO_FAIL (R358). -/
  | xoFail (i : Fin 2)
  /-- XO_STOP (R358). -/
  | xoStop
  /-- XO0_STOPPED (R356). -/
  | xo0Stopped
  /-- FABRIC_LOOP_REF_LOST (R363). -/
  | fabricLoopRefLost (q : Fin 4) (l : Fin 16)
  /-- FABRIC_LOOP_RELOCK (R363). -/
  | fabricLoopRelock (q : Fin 4) (l : Fin 16)
  /-- CLKOUT_SET (R364). -/
  | clkoutSet (c : Cmd)
  /-- CLKOUT_SET_QUERY (R364). -/
  | clkoutSetQuery (c : Cmd)
  /-- LANE_SET (R393). -/
  | laneSet (c : Cmd)
  /-- LANE_SET_QUERY (R393). -/
  | laneSetQuery (c : Cmd)
  /-- LANE_SET_ACT (R394). -/
  | laneSetAct (n : Fin 144) (edge : Nat)
  /-- LANE_SET_COMPLETION (R394). -/
  | laneSetCompletion (n : Fin 144) (locked : Bool)
  /-- LANE_SIGNAL_DETECT (R389). -/
  | laneSignalDetect (n : Fin 144)
  /-- LANE_SIGNAL_LOSS (R389). -/
  | laneSignalLoss (n : Fin 144)
  /-- LANE_CDR_LOCK (R388). -/
  | laneCdrLock (n : Fin 144)
  /-- LANE_LOCK_TIMEOUT (R388). -/
  | laneLockTimeout (n : Fin 144)
  /-- LANE_ALIGN_ACQUIRE (R380). -/
  | laneAlignAcquire (n : Fin 144) (pos : Nat)
  /-- LANE_HUNT_TIMEOUT (R388). -/
  | laneHuntTimeout (n : Fin 144)
  /-- LANE_ALIGN_LOSS (R380). -/
  | laneAlignLoss (n : Fin 144)
  /-- LANE_RECOVERY_TIMEOUT (R388). -/
  | laneRecoveryTimeout (n : Fin 144)
  /-- REF_PIN_LOST (R378). -/
  | refPinLost (l : Fin 2) (k : Fin 8)
  /-- REF_PIN_RETURN (R378). -/
  | refPinReturn (l : Fin 2) (k : Fin 8)
  /-- LANE_PRBS (R397). -/
  | lanePrbs (c : Cmd)
  /-- LANE_PRBS_QUERY (R397). -/
  | lanePrbsQuery (c : Cmd)
  /-- PRBS_LOCK (R398). -/
  | prbsLock (n : Fin 144)
  /-- PRBS_LOCK_LOSS (R398). -/
  | prbsLockLoss (n : Fin 144)
  /-- LANE_EYE (R399). -/
  | laneEye (c : Cmd)
  /-- LANE_EYE_COMPLETION (R400). -/
  | laneEyeCompletion (n : Fin 144) (counts : List Nat)
  /-- LANE_BITSLIP (R382). -/
  | laneBitslip (c : Cmd)
  /-- LANE_CAL (R402). -/
  | laneCal (c : Cmd)
  /-- LANE_CAL_COMPLETION (R402). -/
  | laneCalCompletion (n : Fin 144) (pass : Bool)
  /-- LANE_RETIRE (R407). -/
  | laneRetire (c : Cmd)
  /-- LANE_RETIRE_COMPLETION (R407). -/
  | laneRetireCompletion (n : Fin 144)
  /-- SDI_RX_SET (R432). -/
  | sdiRxSet (c : Cmd)
  /-- SDI_RX_SET_QUERY (R432). -/
  | sdiRxSetQuery (c : Cmd)
  /-- SDI_RX_SET_ACT (R417). -/
  | sdiRxSetAct (n : Fin 144) (edge : Nat)
  /-- SDI_RX_LINE (R421). -/
  | sdiRxLine (n : Fin 144) (l : RxLine)
  /-- SDI_RX_FRAME (R425). -/
  | sdiRxFrame (n : Fin 144) (t : Nat) (pid : RxPid) (lines : Nat) (samples : Nat) (inter : Bool)
  /-- SDI_INPUT_LOST (R430). -/
  | sdiInputLost (n : Fin 144) (skew : Bool)
  /-- SDI_TX_SET (R437). -/
  | sdiTxSet (c : Cmd)
  /-- SDI_TX_SET_QUERY (R437). -/
  | sdiTxSetQuery (c : Cmd)
  /-- SDI_TX_SET_ACT (R434). -/
  | sdiTxSetAct (n : Fin 144) (edge : Nat)
  /-- SDI_TX_FIRST_FRAME (R434). -/
  | sdiTxFirstFrame (n : Fin 144) (t : Nat)
  /-- SDI_TX_LINE (R436). -/
  | sdiTxLine (n : Fin 144) (active : Bool) (room : Bool)
  /-- XPT_AT (R438). -/
  | xptAt (c : Cmd)
  /-- XPT_AT_QUERY (R438). -/
  | xptAtQuery (c : Cmd)
  /-- XPT_AT_ACT (R439). -/
  | xptAtAct (n : Fin 144) (edge : Nat)
  /-- IP_FLOW_ADD (R444). -/
  | ipFlowAdd (c : Cmd)
  /-- IP_FLOW_ADD_QUERY (R444). -/
  | ipFlowAddQuery (c : Cmd)
  /-- IP_FLOW_DEL (R450). -/
  | ipFlowDel (c : Cmd)
  /-- MERGE_SET (R451). -/
  | mergeSet (c : Cmd)
  /-- MERGE_SET_QUERY (R451). -/
  | mergeSetQuery (c : Cmd)
  /-- STREAM_DISABLE (R455). -/
  | streamDisable (c : Cmd)
  /-- STREAM_DISABLE_COMPLETION (R455). -/
  | streamDisableCompletion (g : Fin 18) (i : Fin 512) (sel : Fin 3)
  /-- STREAM_ABORT (R456). -/
  | streamAbort (c : Cmd)
  /-- ETH_FRAME_RECEIVE (R441). -/
  | ethFrameReceive (n : Fin 144) (x : EthFrame)
  /-- ETH_CONTROL_PACKET (R443). -/
  | ethControlPacket (n : Fin 144) (x : CtlPkt)
  /-- IP_PACKET_RECEIVE (R445). -/
  | ipPacketReceive (g : Fin 18) (i : Fin 256) (p : RtpPkt)
  /-- MERGE_PACKET_RELEASE (R452). -/
  | mergePacketRelease (g : Fin 18) (i : Fin 256) (edge : Nat)
  /-- IP_FLOW_LOST (R448). -/
  | ipFlowLost (g : Fin 18) (i : Fin 256)
  /-- ETH_PORT_UP (R442). -/
  | ethPortUp (n : Fin 144) (remote : Bool)
  /-- ETH_PORT_DOWN (R442). -/
  | ethPortDown (n : Fin 144) (lf : Bool) (rf : Bool)
  /-- IP_TX_PACKET_DUE (R449). -/
  | ipTxPacketDue (g : Fin 18) (i : Fin 256) (edge : Nat) (L : Nat) (off : Nat) (len : Nat) (last : Bool)
  /-- PROT_SET (R476). -/
  | protSet (c : Cmd)
  /-- PROT_SET_QUERY (R476). -/
  | protSetQuery (c : Cmd)
  /-- PROT_EYE_PERIOD (R467). -/
  | protEyePeriod (n : Fin 144) (h : Fin 65) (v : Fin 128) (tj : Fin 65536) (aj : Fin 65536)
  /-- PROT_SECOND (R470). -/
  | protSecond (n : Fin 144)
  /-- PTP_DELAY_REQ_EXCHANGE (R471). -/
  | ptpDelayReqExchange (lane : Fin 144) (domain : Fin 128) (answer : Option (Int))
  /-- EDGE_FLIT_RECEIVE (R490). -/
  | edgeFlitReceive (e : Fin 8) (bad : Option (Fin 16 × Fin 18))
  /-- EDGE_SPARE_SWITCH (R492). -/
  | edgeSpareSwitch (e : Fin 8)
  /-- EDGE_FULL_TRAIN_DONE (R494). -/
  | edgeFullTrainDone (e : Fin 8) (fails : List (Fin 16 × Fin 18))
  /-- EDGE_FAST_RETRAIN_DONE (R495). -/
  | edgeFastRetrainDone (e : Fin 8) (fails : List (Fin 16 × Fin 18))
  /-- EDGE_WAIT_SPLIT (R496). -/
  | edgeWaitSplit (e : Fin 4)
  /-- EDGE_RETRAIN (R498). -/
  | edgeRetrain (c : Cmd)
  /-- EDGE_RETRAIN_COMPLETION (R498). -/
  | edgeRetrainCompletion (e : Fin 8)
  /-- SHORT_EDGE_WORD_RECEIVE (R499). -/
  | shortEdgeWordReceive (x : ShortEdge) (bad : Option (Fin 74))
  /-- LAMP_LINE_MEASURE (R502). -/
  | lampLineMeasure (j : Fin 2) (k : Fin 18) (power : BitVec 14) (offset : BitVec 16) (low : Bool) (lost : Bool)
  /-- LAMP_WARM_DONE (R501). -/
  | lampWarmDone (j : Fin 2)
  /-- LAMP_WARM_TIMEOUT (R619). -/
  | lampWarmTimeout (j : Fin 2)
  /-- LAMP_SWAP (R504). -/
  | lampSwap (c : Cmd)
  /-- LAMP_SWAP_COMPLETION (R504). -/
  | lampSwapCompletion (held : BitVec 18)
  /-- UCIE_LINK_TRAINED (R506). -/
  | ucieLinkTrained (rate : Fin 33) (modules : Fin 4) (tx0 : Fin 5) (tx1 : Fin 5)
  /-- UCIE_IDENTITY_RECORD (R507). -/
  | ucieIdentityRecord (vendor : BitVec 16) (dieCode : BitVec 8) (revision : BitVec 8) (power : BitVec 16)
  /-- UCIE_FLIT_RECEIVE (R509). -/
  | ucieFlitReceive (l : List Byte) (m : Fin 2)
  /-- UCIE_PARTNER_REQUEST (R510). -/
  | uciePartnerRequest
  /-- UCIE_PARTNER_EVENT (R516). -/
  | uciePartnerEvent
  /-- PSYS_WIN_WRITE (R511). -/
  | psysWinWrite (m : Master) (k : Fin 8) (limit : Bool) (v : Word)
  /-- FRAME_MEMORY_READ (R530). -/
  | frameMemoryRead (cls : Fin 7) (a : BitVec 33) (n : Fin 513) (es : List LineErr)
  /-- FRAME_MEMORY_WRITE (R533). -/
  | frameMemoryWrite (cls : Fin 7) (a : BitVec 33) (bs : List Byte) (poison : Bool) (posted : Bool) (es : List LineErr)
  /-- DRAM_REFRESH (R521). -/
  | dramRefresh (k : Fin 4) (ch : Fin 16)
  /-- CORRECTED_WRITEBACK (R522). -/
  | correctedWriteback (k : Fin 4) (line : BitVec 25)
  /-- SECTOR_SET (R527). -/
  | sectorSet (c : Cmd)
  /-- SECTOR_SET_QUERY (R527). -/
  | sectorSetQuery (c : Cmd)
  /-- SECTOR_INIT_DONE (R527). -/
  | sectorInitDone (k : Fin 4) (x : Fin 24)
  /-- SECTOR_REMOVE_DONE (R528). -/
  | sectorRemoveDone (k : Fin 4) (x : Fin 24)
  /-- SECTOR_RIGHTS (R529). -/
  | sectorRights (c : Cmd)
  /-- SECTOR_RIGHTS_QUERY (R529). -/
  | sectorRightsQuery (c : Cmd)
  /-- REKEY_SWEEP_START (R535). -/
  | rekeySweepStart (k : Fin 4) (x : Fin 24)
  /-- REKEY_SWEEP_DONE (R536). -/
  | rekeySweepDone (k : Fin 4) (x : Fin 24)
  /-- REKEY_NOW (R539). -/
  | rekeyNow (c : Cmd)
  /-- REKEY_NOW_COMPLETION (R539). -/
  | rekeyNowCompletion (k : Fin 4) (x : Fin 24)
  /-- CUE_CTL (R555). -/
  | cueCtl (c : Cmd)
  /-- CUE_CTL_QUERY (R555). -/
  | cueCtlQuery (c : Cmd)
  /-- CUE_CTL_COMPLETION (R555). -/
  | cueCtlCompletion (n : Fin 8)
  /-- CUE_FAULT (R561). -/
  | cueFault (n : Fin 8) (cause : BitVec 64) (pc : BitVec 64)
  /-- CUE_TIMER_INTERRUPT (R553). -/
  | cueTimerInterrupt (n : Fin 8)
  /-- CUE_RESERVATION_TIMEOUT (R550). -/
  | cueReservationTimeout (n : Fin 8)
  /-- CUE_WDT_EXPIRY (R558). -/
  | cueWdtExpiry (n : Fin 8)
  /-- CUE_WDT_KICK (R559). -/
  | cueWdtKick (m : Master) (n : Fin 8) (v : Word)
  /-- CUE_WDT_CFG_WRITE (R559). -/
  | cueWdtCfgWrite (m : Master) (n : Fin 8) (v : Word)
  /-- CUE_MSIP_WRITE (R553). -/
  | cueMsipWrite (m : Master) (n : Fin 8) (v : Word)
  /-- MB_CFG_WRITE (R563). -/
  | mbCfgWrite (m : Master) (i : Fin 48) (v : Word)
  /-- MB_MSG_WRITE (R564). -/
  | mbMsgWrite (m : Master) (i : Fin 48) (v : Word)
  /-- MB_RING (R565). -/
  | mbRing (m : Master) (i : Fin 48) (v : Word)
  /-- MB_REPLY (R566). -/
  | mbReply (m : Master) (i : Fin 48) (code : BitVec 16)
  /-- MB_STAT_WITHDRAW (R567). -/
  | mbStatWithdraw (m : Master) (i : Fin 48)
  /-- GLENU_FRAME_RECEIVE (R583). -/
  | glenuFrameReceive (k : Fin 16) (f : GFrame)
  /-- GLENU_RESEND_TIMEOUT (R583). -/
  | glenuResendTimeout (k : Fin 16)
  /-- GLENU_ALIGNED (R588). -/
  | glenuAligned (k : Fin 16)
  /-- GLENU_HELLO_SEND (R587). -/
  | glenuHelloSend (k : Fin 16)
  /-- GLENU_HELLO_TIMEOUT (R588). -/
  | glenuHelloTimeout (k : Fin 16)
  /-- LATTICE_REQUEST_TIMEOUT (R595). -/
  | latticeRequestTimeout (who : LatClient)
  /-- LATTICE_REPLY_RECEIVE (R597). -/
  | latticeReplyReceive (ws : List Word)
  /-- LAT_DISCOVER (R602). -/
  | latDiscover (c : Cmd)
  /-- LAT_DISCOVER_COMPLETION (R603). -/
  | latDiscoverCompletion
  /-- LAT_ASSIGN (R604). -/
  | latAssign (c : Cmd)
  /-- LAT_ASSIGN_QUERY (R604). -/
  | latAssignQuery (c : Cmd)
  /-- LAT_ROUTE_SET (R604). -/
  | latRouteSet (c : Cmd)
  /-- LAT_ROUTE_SET_QUERY (R605). -/
  | latRouteSetQuery (c : Cmd)
  /-- LINK_RECORD_REAPPLY (R607). -/
  | linkRecordReapply (k : Fin 16)
  /-- POWER_ON_RESET (R619). -/
  | powerOnReset
  /-- RAIL_LOSS (R618). -/
  | railLoss (rail : Fin 10)
  /-- STEWARD_BOOT (R620). -/
  | stewardBoot (pass : BitVec 2) (step : BitVec 8)
  /-- DEVICE_BRINGUP (R619). -/
  | deviceBringup
  /-- PARTNER_RELEASE (R619). -/
  | partnerRelease
  /-- TEMPERATURE_SAMPLE (R613). -/
  | temperatureSample (temps : List (BitVec 13))
  /-- THERMAL_CONTROL_STOP (R614). -/
  | thermalControlStop
  /-- THERM_TRIP_CLEAR (R615). -/
  | thermTripClear (m : Master)
  /-- CHANNEL_RETIRE (R628). -/
  | channelRetire (c : Cmd)
  /-- CHANNEL_RETIRE_COMPLETION (R628). -/
  | channelRetireCompletion
  /-- CHANNEL_RESTORE (R629). -/
  | channelRestore (c : Cmd)
  /-- CHANNEL_RESTORE_COMPLETION (R629). -/
  | channelRestoreCompletion (pass : Bool) (good : Fin 75)
  /-- JOURNAL_READ (R633). -/
  | journalRead (c : Cmd)
  /-- JOURNAL_CLEAR (R633). -/
  | journalClear (c : Cmd)
  /-- VCC_DBG_RISE (R638). -/
  | vccDbgRise
  /-- VCC_DBG_LOSS (R648). -/
  | vccDbgLoss
  /-- TEST_LOGIC_RESET (R640). -/
  | testLogicReset
  /-- EXTEST (R643). -/
  | extest (pins : Nat) (v : Nat)
  /-- IDCODE (R640). -/
  | idcode
  /-- SAMPLE_PRELOAD (R640). -/
  | samplePreload (pins : Nat) (v : Nat)
  /-- CLAMP (R643). -/
  | clamp
  /-- HIGHZ (R643). -/
  | highz
  /-- EXTEST_PULSE (R643). -/
  | extestPulse (pins : Nat) (v : Nat)
  /-- EXTEST_TRAIN (R643). -/
  | extestTrain (pins : Nat) (v : Nat)
  /-- BYPASS (R640). -/
  | bypass
  /-- DBGREG (R641). -/
  | dbgreg (v : BitVec 49)
  /-- CMDPATH (R641). -/
  | cmdpath (v : BitVec 49)
  /-- DBG_CHALLENGE (R646). -/
  | dbgChallenge (c : Cmd)
  /-- NONCE_EXPIRY (R646). -/
  | nonceExpiry
  /-- DBG_UNLOCK (R647). -/
  | dbgUnlock (c : Cmd)
  /-- RIGHTS_EXPIRY (R648). -/
  | rightsExpiry
  /-- DBG_RELOCK (R648). -/
  | dbgRelock (w : DbgBy) (owner : Bool)
  /-- DBGA_GO (R649). -/
  | dbgaGo (w : DbgBy) (v : Word)
  /-- DBGA_ACCESS_DONE (R649). -/
  | dbgaAccessDone (es : List LineErr) (st : Status) (data : BitVec 64) (poison : Bool)
  /-- DBGA_TIMEOUT (R649). -/
  | dbgaTimeout
  /-- DBG_HALT (R653). -/
  | dbgHalt (w : DbgBy) (n : Fin 8) (v : Word) (regs : List (Nat × Nat))
  /-- DBG_RESUME (R653). -/
  | dbgResume (w : DbgBy) (n : Fin 8) (v : Word)
  /-- DBG_STEP (R654). -/
  | dbgStep (w : DbgBy) (n : Fin 8) (v : Word) (regs : List (Nat × Nat))
  /-- DBG_GROUP_HALT (R653). -/
  | dbgGroupHalt (w : DbgBy) (mask : BitVec 8) (regs : List (Nat × Nat × Nat))
  /-- DBG_GROUP_RESUME (R653). -/
  | dbgGroupResume (w : DbgBy) (mask : BitVec 8)
  /-- BREAKPOINT_HIT (R655). -/
  | breakpointHit (n : Fin 8) (k : Fin 4) (kind : BpKind) (addr : BitVec 40) (regs : List (Nat × Nat))
  /-- DBG_CREG_GO (R656). -/
  | dbgCregGo (w : DbgBy) (n : Fin 8) (v : Word)
  /-- DBG_HOLD_CUE_WRITE (R658). -/
  | dbgHoldCueWrite (w : DbgBy) (v : Word)
  /-- DBG_HOLD_F_WRITE (R658). -/
  | dbgHoldFWrite (w : DbgBy) (hi : Bool) (v : Word)
  /-- DBG_STIM_WRITE (R660). -/
  | dbgStimWrite (w : DbgBy) (p : Fin 64) (v : Word)
  /-- PC_SAMPLE (R660). -/
  | pcSample (pcs : List (BitVec 40))
  /-- TRACE_PACKET_STORE (R661). -/
  | tracePacketStore (es : List LineErr) (ans : Bool)
  /-- DBG_TRC_CLEAR (R663). -/
  | dbgTrcClear (w : DbgBy) (v : Word)
  /-- SAU_CLOCK_EDGE (R214). -/
  | sauClockEdge (q : Fin 4) (n : Fin 2048) (sm : BitVec 40) (u : BitVec 40) (k : BitVec 48) (adv : Bool) (rst : Bool) (fresh : Bool)
  /-- TILE_CLOCK_EDGE (R130). -/
  | tileClockEdge (f : Fin 48) (col : Fin 256) (row : Fin 120) (x : TileIn)
  /-- LANE_WORD_RECEIVE (R383). -/
  | laneWordReceive (n : Fin 144) (w : RxWord)
  /-- POR_N_ASSERTED (R617). -/
  | porNAsserted
  /-- VCC_AON_LOSS (R618). -/
  | vccAonLoss
deriving DecidableEq, Repr

end Sys2Proof
end

