-- ==== Sys2Proof/Decode.lean ====
section
/-! DEFINITION. The words of the opcode table. The table gives no row a bit pattern: a command is an operation on the device's pins,
registers and queues, and reaches the model as the constructor itself. The words of chapter 3's command protocol are operands (`Cmd`). -/
namespace Sys2Proof

/-- The command that a word spells by the table's bits: none, since every row of the table has an empty list of fields. -/
def decodeTableWord (_nbits _w : Nat) : Option Instr := none

end Sys2Proof
end

