-- ==== Sys2Proof/Machine/RegTable.lean ====
section
/-! DEFINITION. The register tables of the spec as data: one constant per register field (offset in its window, bits,
access code, reset value), the rows of every block, and the block header of R45. Each field constant cites the file and
rule of its table. A field whose Reset column is a dash, "fuses", a policy or an instance number has the word 0 here; its
value comes from `Machine/Regs.lean` (views) or from a log entry. -/
namespace Sys2Proof.Machine

/-- The access codes of R15 and R54. -/
inductive Acc where
  | ro | rw | wo | lv | w1c | sh | cmd
deriving DecidableEq, Repr

/-- One field of a register: the register's offset from the window (or group) base, its bits [hi:lo], its access code
(R54) and its reset value. -/
structure Fld where
  off : Nat
  hi  : Nat
  lo  : Nat
  acc : Acc
  rst : Nat
deriving DecidableEq, Repr

/-- The width of a field in bits. -/
def Fld.width (f : Fld) : Nat := f.hi - f.lo + 1

/-- The kinds of block of R43. -/
inductive BlkKind where
  | sys | hq | dma | evc | mbx | cue | time | loop | clko | cfg | sec | jrnl | pwr | lamp | ucie | pcie | dbg | qsys | floop | facet | sp | qc | scrub | probe | fmc | seal | uio | edge | ni | lsys | refc | mcf | she | se | lane | prot | psys
deriving DecidableEq, Repr

/-- The type code of each block kind (R43). -/
def BlkKind.typeCode : BlkKind → Nat
  | .sys => 0x001
  | .hq => 0x002
  | .dma => 0x003
  | .evc => 0x004
  | .mbx => 0x005
  | .cue => 0x006
  | .time => 0x007
  | .loop => 0x008
  | .clko => 0x009
  | .cfg => 0x00A
  | .sec => 0x00B
  | .jrnl => 0x00C
  | .pwr => 0x00D
  | .lamp => 0x00E
  | .ucie => 0x00F
  | .pcie => 0x010
  | .dbg => 0x011
  | .qsys => 0x020
  | .floop => 0x021
  | .facet => 0x022
  | .sp => 0x023
  | .qc => 0x024
  | .scrub => 0x025
  | .probe => 0x026
  | .fmc => 0x027
  | .seal => 0x028
  | .uio => 0x029
  | .edge => 0x02A
  | .ni => 0x02B
  | .lsys => 0x040
  | .refc => 0x041
  | .mcf => 0x042
  | .she => 0x043
  | .se => 0x044
  | .lane => 0x045
  | .prot => 0x046
  | .psys => 0x060

/-- The number of instances of the block on its die (R43, R45). -/
def BlkKind.instances : BlkKind → Nat
  | .sys => 1
  | .hq => 1
  | .dma => 1
  | .evc => 1
  | .mbx => 1
  | .cue => 8
  | .time => 1
  | .loop => 8
  | .clko => 1
  | .cfg => 1
  | .sec => 1
  | .jrnl => 1
  | .pwr => 1
  | .lamp => 2
  | .ucie => 1
  | .pcie => 1
  | .dbg => 1
  | .qsys => 1
  | .floop => 1
  | .facet => 12
  | .sp => 1
  | .qc => 1
  | .scrub => 1
  | .probe => 1
  | .fmc => 1
  | .seal => 1
  | .uio => 1
  | .edge => 3
  | .ni => 96
  | .lsys => 1
  | .refc => 1
  | .mcf => 1
  | .she => 1
  | .se => 9
  | .lane => 72
  | .prot => 72
  | .psys => 1

/-- A register row: its offset, the repetition of it inside the window (count and stride, outermost first), and its
fields. -/
structure RegRow where
  off  : Nat
  dims : List (Nat × Nat)
  flds : List Fld
deriving DecidableEq, Repr

namespace F
/-- xxx_STAT.write_timeout (spec/02 R45). -/
def HDR_write_timeout : Fld := ⟨4, 3, 3, .w1c, 0⟩
/-- xxx_STAT.write_dropped (spec/02 R45). -/
def HDR_write_dropped : Fld := ⟨4, 1, 1, .w1c, 0⟩
/-- xxx_SNAP.snap_clear (spec/02 R45). -/
def HDR_snap_clear : Fld := ⟨8, 1, 1, .cmd, 0⟩
/-- xxx_SNAP.snap (spec/02 R45). -/
def HDR_snap : Fld := ⟨8, 0, 0, .cmd, 0⟩

/-- SYS_INFO.grade (spec/02 R46). Reset column: fuses. -/
def SYS_INFO_grade : Fld := ⟨0xC, 31, 24, .ro, 0⟩
/-- SYS_INFO.site (spec/02 R46). Reset column: fuses. -/
def SYS_INFO_site : Fld := ⟨0xC, 23, 16, .ro, 0⟩
/-- SYS_INFO.part (spec/02 R46). -/
def SYS_INFO_part : Fld := ⟨0xC, 15, 0, .ro, 0x9440⟩
/-- SYS_STEP.stepping (spec/02 R46). -/
def SYS_STEP_stepping : Fld := ⟨0x10, 7, 0, .ro, 0xB1⟩
/-- SYS_SERIAL.serial (spec/02 R46). Reset column: fuses. -/
def SYS_SERIAL_serial : Fld := ⟨0x20, 31, 0, .ro, 0⟩
/-- SYS_MEMMAP.set (spec/02 R46). -/
def SYS_MEMMAP_set : Fld := ⟨0x30, 1, 1, .ro, 0⟩
/-- SYS_MEMMAP.interleave (spec/02 R46). -/
def SYS_MEMMAP_interleave : Fld := ⟨0x30, 0, 0, .ro, 0⟩
/-- SYS_DIES.present (spec/02 R46). -/
def SYS_DIES_present : Fld := ⟨0x34, 7, 0, .lv, 1⟩
/-- EVC_LIVE.live (spec/02 R72). -/
def EVC_LIVE_live : Fld := ⟨0x100, 31, 0, .lv, 0⟩
/-- EVC_REC.rec (spec/02 R72). -/
def EVC_REC_rec : Fld := ⟨0x200, 31, 0, .w1c, 0⟩
/-- EVC_MASK.mask (spec/02 R72). -/
def EVC_MASK_mask : Fld := ⟨0x300, 31, 0, .rw, 0xFFFFFFFF⟩
/-- EVC_SET.set (spec/02 R72). -/
def EVC_SET_set : Fld := ⟨0x400, 31, 0, .cmd, 0⟩
/-- EVC_SUMMARY.group (spec/02 R72). -/
def EVC_SUMMARY_group : Fld := ⟨0x500, 31, 0, .lv, 0⟩
/-- EVC_VEC_PEND.pend (spec/02 R72). -/
def EVC_VEC_PEND_pend : Fld := ⟨0x600, 31, 0, .lv, 0⟩
/-- EVC_ROUTE.msix_en (spec/02 R72). -/
def EVC_ROUTE_msix_en : Fld := ⟨0x1000, 31, 31, .rw, 0⟩
/-- EVC_ROUTE.vector (spec/02 R72). -/
def EVC_ROUTE_vector : Fld := ⟨0x1000, 30, 24, .rw, 0⟩
/-- EVC_ROUTE.cue_en (spec/02 R72). -/
def EVC_ROUTE_cue_en : Fld := ⟨0x1000, 23, 16, .rw, 0⟩
/-- EVC_ROUTE.cue_line (spec/02 R72). -/
def EVC_ROUTE_cue_line : Fld := ⟨0x1000, 15, 12, .rw, 0⟩
/-- HQ_STAT.handover (spec/03 R688). -/
def HQ_STAT_handover : Fld := ⟨0x4, 4, 4, .lv, 0⟩
/-- HQ_FW.line (spec/03 R688). -/
def HQ_FW_line : Fld := ⟨0xC, 31, 24, .ro, 3⟩
/-- HQ_FW.minor (spec/03 R688). Reset column: —. -/
def HQ_FW_minor : Fld := ⟨0xC, 23, 16, .ro, 0⟩
/-- HQ_FW.patch (spec/03 R688). Reset column: —. -/
def HQ_FW_patch : Fld := ⟨0xC, 15, 4, .ro, 0⟩
/-- HQ_FW.other_valid (spec/03 R688). -/
def HQ_FW_other_valid : Fld := ⟨0xC, 3, 3, .ro, 0⟩
/-- HQ_FW.image (spec/03 R688). -/
def HQ_FW_image : Fld := ⟨0xC, 2, 2, .ro, 0⟩
/-- HQ_FW.state (spec/03 R688). -/
def HQ_FW_state : Fld := ⟨0xC, 1, 0, .ro, 0⟩
/-- HQ_CQ_BASE_LO.base (spec/03 R688). -/
def HQ_CQ_BASE_LO_base : Fld := ⟨0x100, 31, 12, .rw, 0⟩
/-- HQ_CQ_BASE_HI.base (spec/03 R688). -/
def HQ_CQ_BASE_HI_base : Fld := ⟨0x104, 31, 0, .rw, 0⟩
/-- HQ_RQ_BASE_LO.base (spec/03 R688). -/
def HQ_RQ_BASE_LO_base : Fld := ⟨0x108, 31, 12, .rw, 0⟩
/-- HQ_RQ_BASE_HI.base (spec/03 R688). -/
def HQ_RQ_BASE_HI_base : Fld := ⟨0x10C, 31, 0, .rw, 0⟩
/-- HQ_Q_CTL.enable (spec/03 R688). -/
def HQ_Q_CTL_enable : Fld := ⟨0x110, 31, 31, .rw, 0⟩
/-- HQ_Q_CTL.log2_slots (spec/03 R688). -/
def HQ_Q_CTL_log2_slots : Fld := ⟨0x110, 3, 0, .rw, 4⟩
/-- HQ_CQ_TAIL.tail (spec/03 R688). -/
def HQ_CQ_TAIL_tail : Fld := ⟨0x114, 11, 0, .rw, 0⟩
/-- HQ_CQ_HEAD.head (spec/03 R688). -/
def HQ_CQ_HEAD_head : Fld := ⟨0x118, 11, 0, .ro, 0⟩
/-- HQ_RQ_TAIL.tail (spec/03 R688). -/
def HQ_RQ_TAIL_tail : Fld := ⟨0x11C, 11, 0, .ro, 0⟩
/-- HQ_RQ_HEAD.head (spec/03 R688). -/
def HQ_RQ_HEAD_head : Fld := ⟨0x120, 11, 0, .rw, 0⟩
/-- HQ_Q_STAT.reply_wait (spec/03 R688). -/
def HQ_Q_STAT_reply_wait : Fld := ⟨0x124, 3, 3, .lv, 0⟩
/-- HQ_Q_STAT.fetch_error (spec/03 R688). -/
def HQ_Q_STAT_fetch_error : Fld := ⟨0x124, 2, 2, .w1c, 0⟩
/-- HQ_Q_STAT.bad_index (spec/03 R688). -/
def HQ_Q_STAT_bad_index : Fld := ⟨0x124, 1, 1, .w1c, 0⟩
/-- HQ_Q_STAT.running (spec/03 R688). -/
def HQ_Q_STAT_running : Fld := ⟨0x124, 0, 0, .lv, 0⟩
/-- HQ_SPI_DOOR.ack (spec/03 R688). -/
def HQ_SPI_DOOR_ack : Fld := ⟨0x40, 1, 1, .cmd, 0⟩
/-- HQ_SPI_DOOR.go (spec/03 R688). -/
def HQ_SPI_DOOR_go : Fld := ⟨0x40, 0, 0, .cmd, 0⟩
/-- HQ_SPI_STAT.reply_ready (spec/03 R688). -/
def HQ_SPI_STAT_reply_ready : Fld := ⟨0x44, 1, 1, .lv, 0⟩
/-- HQ_SPI_STAT.running (spec/03 R688). -/
def HQ_SPI_STAT_running : Fld := ⟨0x44, 0, 0, .lv, 0⟩
/-- HQ_SPI_CMD.word (spec/03 R688). Reset column: —. -/
def HQ_SPI_CMD_word : Fld := ⟨0x800, 31, 0, .rw, 0⟩
/-- HQ_SPI_RPL.word (spec/03 R688). -/
def HQ_SPI_RPL_word : Fld := ⟨0xC00, 31, 0, .ro, 0⟩
/-- DMA_SRC_LO.src (spec/03 R119). -/
def DMA_SRC_LO_src : Fld := ⟨0x100, 31, 0, .rw, 0⟩
/-- DMA_SRC_HI.src (spec/03 R119). -/
def DMA_SRC_HI_src : Fld := ⟨0x104, 31, 0, .rw, 0⟩
/-- DMA_DST_LO.dst (spec/03 R119). -/
def DMA_DST_LO_dst : Fld := ⟨0x108, 31, 0, .rw, 0⟩
/-- DMA_DST_HI.dst (spec/03 R119). -/
def DMA_DST_HI_dst : Fld := ⟨0x10C, 31, 0, .rw, 0⟩
/-- DMA_LEN.len (spec/03 R119). -/
def DMA_LEN_len : Fld := ⟨0x110, 31, 6, .rw, 0⟩
/-- DMA_CTL.start (spec/03 R119). -/
def DMA_CTL_start : Fld := ⟨0x114, 31, 31, .cmd, 0⟩
/-- DMA_CTL.disable (spec/03 R119). -/
def DMA_CTL_disable : Fld := ⟨0x114, 30, 30, .cmd, 0⟩
/-- DMA_CTL.abort (spec/03 R119). -/
def DMA_CTL_abort : Fld := ⟨0x114, 29, 29, .cmd, 0⟩
/-- DMA_CTL.dir (spec/03 R119). -/
def DMA_CTL_dir : Fld := ⟨0x114, 3, 2, .rw, 0⟩
/-- DMA_CTL.event_en (spec/03 R119). -/
def DMA_CTL_event_en : Fld := ⟨0x114, 0, 0, .rw, 0⟩
/-- DMA_CHSTAT.state (spec/03 R119). -/
def DMA_CHSTAT_state : Fld := ⟨0x118, 31, 30, .lv, 0⟩
/-- DMA_CHSTAT.poisoned (spec/03 R119). -/
def DMA_CHSTAT_poisoned : Fld := ⟨0x118, 2, 2, .w1c, 0⟩
/-- DMA_CHSTAT.error (spec/03 R119). -/
def DMA_CHSTAT_error : Fld := ⟨0x118, 1, 1, .w1c, 0⟩
/-- DMA_CHSTAT.done (spec/03 R119). -/
def DMA_CHSTAT_done : Fld := ⟨0x118, 0, 0, .w1c, 0⟩
/-- DMA_DONE.moved (spec/03 R119). -/
def DMA_DONE_moved : Fld := ⟨0x11C, 31, 6, .ro, 0⟩
/-- PCIE_LINK.link_up (spec/03 R121). -/
def PCIE_LINK_link_up : Fld := ⟨0xC, 31, 31, .lv, 0⟩
/-- PCIE_LINK.gen (spec/03 R121). -/
def PCIE_LINK_gen : Fld := ⟨0xC, 11, 8, .lv, 0⟩
/-- PCIE_LINK.width (spec/03 R121). -/
def PCIE_LINK_width : Fld := ⟨0xC, 4, 0, .lv, 0⟩
/-- PCIE_ERR.poisoned_tx (spec/03 R121). -/
def PCIE_ERR_poisoned_tx : Fld := ⟨0x10, 3, 3, .w1c, 0⟩
/-- PCIE_ERR.completer_abort (spec/03 R121). -/
def PCIE_ERR_completer_abort : Fld := ⟨0x10, 2, 2, .w1c, 0⟩
/-- PCIE_ERR.unsupported (spec/03 R121). -/
def PCIE_ERR_unsupported : Fld := ⟨0x10, 1, 1, .w1c, 0⟩
/-- PCIE_ERR.link_down (spec/03 R121). -/
def PCIE_ERR_link_down : Fld := ⟨0x10, 0, 0, .w1c, 0⟩
/-- QSYS_INFO.quadrant (spec/04 R162). Reset column: q. -/
def QSYS_INFO_quadrant : Fld := ⟨0xC, 31, 28, .ro, 0⟩
/-- QSYS_INFO.cols (spec/04 R162). -/
def QSYS_INFO_cols : Fld := ⟨0xC, 25, 16, .ro, 0x300⟩
/-- QSYS_INFO.rows (spec/04 R162). -/
def QSYS_INFO_rows : Fld := ⟨0xC, 8, 0, .ro, 0x1E0⟩
/-- QSYS_DESIGN.design_id (spec/04 R162). -/
def QSYS_DESIGN_design_id : Fld := ⟨0x10, 31, 0, .ro, 0⟩
/-- QSYS_REGPORT.present (spec/04 R162). -/
def QSYS_REGPORT_present : Fld := ⟨0x14, 31, 31, .ro, 0⟩
/-- QSYS_REGPORT.vertex (spec/04 R162). -/
def QSYS_REGPORT_vertex : Fld := ⟨0x14, 6, 0, .ro, 0⟩
/-- QSYS_RP_STAT.pending (spec/04 R162). -/
def QSYS_RP_STAT_pending : Fld := ⟨0x18, 2, 2, .lv, 0⟩
/-- QSYS_RP_STAT.error (spec/04 R162). -/
def QSYS_RP_STAT_error : Fld := ⟨0x18, 1, 1, .w1c, 0⟩
/-- QSYS_RP_STAT.timeout (spec/04 R162). -/
def QSYS_RP_STAT_timeout : Fld := ⟨0x18, 0, 0, .w1c, 0⟩
/-- SP_CTL.enable (spec/04 R163). -/
def SP_CTL_enable : Fld := ⟨0x0, 31, 31, .rw, 0⟩
/-- SP_CTL.clk_sel (spec/04 R163). -/
def SP_CTL_clk_sel : Fld := ⟨0x0, 3, 0, .rw, 0⟩
/-- SP_STAT.beats_overflow (spec/04 R163). -/
def SP_STAT_beats_overflow : Fld := ⟨0x4, 4, 4, .w1c, 0⟩
/-- SP_STAT.poison_seen (spec/04 R163). -/
def SP_STAT_poison_seen : Fld := ⟨0x4, 3, 3, .w1c, 0⟩
/-- SP_STAT.underflow (spec/04 R163). -/
def SP_STAT_underflow : Fld := ⟨0x4, 2, 2, .w1c, 0⟩
/-- SP_STAT.overflow (spec/04 R163). -/
def SP_STAT_overflow : Fld := ⟨0x4, 1, 1, .w1c, 0⟩
/-- SP_STAT.active (spec/04 R163). -/
def SP_STAT_active : Fld := ⟨0x4, 0, 0, .lv, 0⟩
/-- SP_SH_BEATS_LO.beats (spec/04 R163). -/
def SP_SH_BEATS_LO_beats : Fld := ⟨0x8, 31, 0, .sh, 0⟩
/-- SP_SH_BEATS_HI.overflow (spec/04 R163). -/
def SP_SH_BEATS_HI_overflow : Fld := ⟨0xC, 31, 31, .sh, 0⟩
/-- SP_SH_BEATS_HI.beats (spec/04 R163). -/
def SP_SH_BEATS_HI_beats : Fld := ⟨0xC, 15, 0, .sh, 0⟩
/-- SP_SH_DROP_LO.drop (spec/04 R163). -/
def SP_SH_DROP_LO_drop : Fld := ⟨0x10, 31, 0, .sh, 0⟩
/-- SP_SH_DROP_HI.overflow (spec/04 R163). -/
def SP_SH_DROP_HI_overflow : Fld := ⟨0x14, 31, 31, .sh, 0⟩
/-- SP_SH_DROP_HI.drop (spec/04 R163). -/
def SP_SH_DROP_HI_drop : Fld := ⟨0x14, 15, 0, .sh, 0⟩
/-- SP_SH_POISON_LO.poison (spec/04 R163). -/
def SP_SH_POISON_LO_poison : Fld := ⟨0x18, 31, 0, .sh, 0⟩
/-- SP_SH_POISON_HI.poison (spec/04 R163). -/
def SP_SH_POISON_HI_poison : Fld := ⟨0x1C, 15, 0, .sh, 0⟩
/-- PROBE_CTL.locked (spec/04 R164). Reset column: policy. -/
def PROBE_CTL_locked : Fld := ⟨0xC, 31, 31, .ro, 0⟩
/-- PROBE_CTL.enable (spec/04 R164). -/
def PROBE_CTL_enable : Fld := ⟨0xC, 3, 0, .rw, 0⟩
/-- PROBE_SEL.kind (spec/04 R164). -/
def PROBE_SEL_kind : Fld := ⟨0x10, 31, 30, .rw, 0⟩
/-- PROBE_SEL.col (spec/04 R164). -/
def PROBE_SEL_col : Fld := ⟨0x10, 29, 20, .rw, 0⟩
/-- PROBE_SEL.row (spec/04 R164). -/
def PROBE_SEL_row : Fld := ⟨0x10, 19, 11, .rw, 0⟩
/-- PROBE_SEL.out (spec/04 R164). -/
def PROBE_SEL_out : Fld := ⟨0x10, 10, 5, .rw, 0⟩
/-- PROBE_SEL.spine (spec/04 R164). -/
def PROBE_SEL_spine : Fld := ⟨0x10, 4, 0, .rw, 0⟩
/-- PROBE_OPT.sampled (spec/04 R164). -/
def PROBE_OPT_sampled : Fld := ⟨0x20, 31, 31, .rw, 0⟩
/-- PROBE_OPT.sample_clk (spec/04 R164). -/
def PROBE_OPT_sample_clk : Fld := ⟨0x20, 27, 24, .rw, 0⟩
/-- PROBE_OPT.div (spec/04 R164). -/
def PROBE_OPT_div : Fld := ⟨0x20, 3, 0, .rw, 0⟩
/-- QC_INFO.controllers (spec/05 R204). -/
def QC_INFO_controllers : Fld := ⟨0xC, 31, 21, .ro, 0x1E0⟩
/-- QC_INFO.deep_bays (spec/05 R204). -/
def QC_INFO_deep_bays : Fld := ⟨0xC, 20, 13, .ro, 0xC8⟩
/-- QC_INFO.bays (spec/05 R204). -/
def QC_INFO_bays : Fld := ⟨0xC, 12, 0, .ro, 0x1000⟩
/-- QC_BAYERR_STAT.raw_refused (spec/05 R204). -/
def QC_BAYERR_STAT_raw_refused : Fld := ⟨0x10, 7, 7, .w1c, 0⟩
/-- QC_BAYERR_STAT.raw_timeout (spec/05 R204). -/
def QC_BAYERR_STAT_raw_timeout : Fld := ⟨0x10, 6, 6, .w1c, 0⟩
/-- QC_BAYERR_STAT.partial_to_poison (spec/05 R204). -/
def QC_BAYERR_STAT_partial_to_poison : Fld := ⟨0x10, 5, 5, .w1c, 0⟩
/-- QC_BAYERR_STAT.mend_missed (spec/05 R204). -/
def QC_BAYERR_STAT_mend_missed : Fld := ⟨0x10, 4, 4, .w1c, 0⟩
/-- QC_BAYERR_STAT.permanent (spec/05 R204). -/
def QC_BAYERR_STAT_permanent : Fld := ⟨0x10, 3, 3, .w1c, 0⟩
/-- QC_BAYERR_STAT.unlocated (spec/05 R204). -/
def QC_BAYERR_STAT_unlocated : Fld := ⟨0x10, 2, 2, .w1c, 0⟩
/-- QC_BAYERR_STAT.uncorrectable (spec/05 R204). -/
def QC_BAYERR_STAT_uncorrectable : Fld := ⟨0x10, 1, 1, .w1c, 0⟩
/-- QC_BAYERR_STAT.corrected (spec/05 R204). -/
def QC_BAYERR_STAT_corrected : Fld := ⟨0x10, 0, 0, .w1c, 0⟩
/-- QC_BAYERR_LOC.outcome (spec/05 R204). -/
def QC_BAYERR_LOC_outcome : Fld := ⟨0x14, 31, 30, .ro, 0⟩
/-- QC_BAYERR_LOC.deep (spec/05 R204). -/
def QC_BAYERR_LOC_deep : Fld := ⟨0x14, 29, 29, .ro, 0⟩
/-- QC_BAYERR_LOC.permanent (spec/05 R204). -/
def QC_BAYERR_LOC_permanent : Fld := ⟨0x14, 28, 28, .ro, 0⟩
/-- QC_BAYERR_LOC.bay (spec/05 R204). -/
def QC_BAYERR_LOC_bay : Fld := ⟨0x14, 11, 0, .ro, 0⟩
/-- QC_BAYERR_POS.word (spec/05 R204). -/
def QC_BAYERR_POS_word : Fld := ⟨0x18, 31, 16, .ro, 0⟩
/-- QC_BAYERR_POS.bit (spec/05 R204). -/
def QC_BAYERR_POS_bit : Fld := ⟨0x18, 5, 0, .ro, 0⟩
/-- QC_SH_MEND_LO.mend (spec/05 R204). -/
def QC_SH_MEND_LO_mend : Fld := ⟨0x20, 31, 0, .sh, 0⟩
/-- QC_SH_MEND_HI.overflow (spec/05 R204). -/
def QC_SH_MEND_HI_overflow : Fld := ⟨0x24, 31, 31, .sh, 0⟩
/-- QC_SH_MEND_HI.mend (spec/05 R204). -/
def QC_SH_MEND_HI_mend : Fld := ⟨0x24, 15, 0, .sh, 0⟩
/-- QC_SH_UNCORR_LO.uncorr (spec/05 R204). -/
def QC_SH_UNCORR_LO_uncorr : Fld := ⟨0x28, 31, 0, .sh, 0⟩
/-- QC_SH_UNCORR_HI.overflow (spec/05 R204). -/
def QC_SH_UNCORR_HI_overflow : Fld := ⟨0x2C, 31, 31, .sh, 0⟩
/-- QC_SH_UNCORR_HI.uncorr (spec/05 R204). -/
def QC_SH_UNCORR_HI_uncorr : Fld := ⟨0x2C, 15, 0, .sh, 0⟩
/-- QC_RAW_CTL.locked (spec/05 R204). Reset column: policy. -/
def QC_RAW_CTL_locked : Fld := ⟨0x40, 31, 31, .ro, 0⟩
/-- QC_RAW_CTL.pending (spec/05 R204). -/
def QC_RAW_CTL_pending : Fld := ⟨0x40, 19, 19, .lv, 0⟩
/-- QC_RAW_CTL.write (spec/05 R204). -/
def QC_RAW_CTL_write : Fld := ⟨0x40, 18, 18, .cmd, 0⟩
/-- QC_RAW_CTL.read (spec/05 R204). -/
def QC_RAW_CTL_read : Fld := ⟨0x40, 17, 17, .cmd, 0⟩
/-- QC_RAW_CTL.deep (spec/05 R204). -/
def QC_RAW_CTL_deep : Fld := ⟨0x40, 16, 16, .rw, 0⟩
/-- QC_RAW_CTL.bay (spec/05 R204). -/
def QC_RAW_CTL_bay : Fld := ⟨0x40, 11, 0, .rw, 0⟩
/-- QC_RAW_ADDR.column (spec/05 R204). -/
def QC_RAW_ADDR_column : Fld := ⟨0x44, 16, 16, .rw, 0⟩
/-- QC_RAW_ADDR.word (spec/05 R204). -/
def QC_RAW_ADDR_word : Fld := ⟨0x44, 15, 0, .rw, 0⟩
/-- QC_RAW_DATA.data (spec/05 R204). -/
def QC_RAW_DATA_data : Fld := ⟨0x48, 31, 0, .rw, 0⟩
/-- QC_RAW_EXT.state (spec/05 R204). -/
def QC_RAW_EXT_state : Fld := ⟨0x4C, 21, 16, .rw, 0⟩
/-- QC_RAW_EXT.parity (spec/05 R204). -/
def QC_RAW_EXT_parity : Fld := ⟨0x4C, 11, 8, .rw, 0⟩
/-- QC_RAW_EXT.data (spec/05 R204). -/
def QC_RAW_EXT_data : Fld := ⟨0x4C, 7, 0, .rw, 0⟩
/-- QC_QCTL.enable (spec/05 R205). -/
def QC_QCTL_enable : Fld := ⟨0x100, 31, 31, .rw, 0⟩
/-- QC_QCTL.drop (spec/05 R205). -/
def QC_QCTL_drop : Fld := ⟨0x100, 0, 0, .rw, 0⟩
/-- QC_QTHRESH.afull (spec/05 R205). -/
def QC_QTHRESH_afull : Fld := ⟨0x104, 31, 16, .rw, 0xFFFF⟩
/-- QC_QTHRESH.aempty (spec/05 R205). -/
def QC_QTHRESH_aempty : Fld := ⟨0x104, 15, 0, .rw, 0⟩
/-- QC_QSTAT.enq_overflow (spec/05 R205). -/
def QC_QSTAT_enq_overflow : Fld := ⟨0x108, 8, 8, .w1c, 0⟩
/-- QC_QSTAT.poison_seen (spec/05 R205). -/
def QC_QSTAT_poison_seen : Fld := ⟨0x108, 7, 7, .w1c, 0⟩
/-- QC_QSTAT.overflow (spec/05 R205). -/
def QC_QSTAT_overflow : Fld := ⟨0x108, 6, 6, .w1c, 0⟩
/-- QC_QSTAT.afull_seen (spec/05 R205). -/
def QC_QSTAT_afull_seen : Fld := ⟨0x108, 5, 5, .w1c, 0⟩
/-- QC_QSTAT.bound_changed (spec/05 R205). -/
def QC_QSTAT_bound_changed : Fld := ⟨0x108, 4, 4, .w1c, 0⟩
/-- QC_QSTAT.full (spec/05 R205). -/
def QC_QSTAT_full : Fld := ⟨0x108, 3, 3, .lv, 0⟩
/-- QC_QSTAT.afull (spec/05 R205). -/
def QC_QSTAT_afull : Fld := ⟨0x108, 2, 2, .lv, 0⟩
/-- QC_QSTAT.aempty (spec/05 R205). -/
def QC_QSTAT_aempty : Fld := ⟨0x108, 1, 1, .lv, 1⟩
/-- QC_QSTAT.empty (spec/05 R205). -/
def QC_QSTAT_empty : Fld := ⟨0x108, 0, 0, .lv, 1⟩
/-- QC_QLEVEL.level (spec/05 R205). -/
def QC_QLEVEL_level : Fld := ⟨0x10C, 16, 0, .lv, 0⟩
/-- QC_QCMD.flush (spec/05 R205). -/
def QC_QCMD_flush : Fld := ⟨0x110, 0, 0, .cmd, 0⟩
/-- QC_QBIND.bound (spec/05 R205). -/
def QC_QBIND_bound : Fld := ⟨0x114, 31, 31, .ro, 0⟩
/-- QC_QBIND.deep (spec/05 R205). -/
def QC_QBIND_deep : Fld := ⟨0x114, 30, 30, .ro, 0⟩
/-- QC_QBIND.paired (spec/05 R205). -/
def QC_QBIND_paired : Fld := ⟨0x114, 29, 29, .ro, 0⟩
/-- QC_QBIND.bay (spec/05 R205). -/
def QC_QBIND_bay : Fld := ⟨0x114, 11, 0, .ro, 0⟩
/-- QC_SH_ENQ_LO.enq (spec/05 R205). -/
def QC_SH_ENQ_LO_enq : Fld := ⟨0x118, 31, 0, .sh, 0⟩
/-- QC_SH_ENQ_HI.overflow (spec/05 R205). -/
def QC_SH_ENQ_HI_overflow : Fld := ⟨0x11C, 31, 31, .sh, 0⟩
/-- QC_SH_ENQ_HI.enq (spec/05 R205). -/
def QC_SH_ENQ_HI_enq : Fld := ⟨0x11C, 15, 0, .sh, 0⟩
/-- QC_SH_DROP_LO.drop (spec/05 R205). -/
def QC_SH_DROP_LO_drop : Fld := ⟨0x120, 31, 0, .sh, 0⟩
/-- QC_SH_DROP_HI.overflow (spec/05 R205). -/
def QC_SH_DROP_HI_overflow : Fld := ⟨0x124, 31, 31, .sh, 0⟩
/-- QC_SH_DROP_HI.drop (spec/05 R205). -/
def QC_SH_DROP_HI_drop : Fld := ⟨0x124, 15, 0, .sh, 0⟩
/-- QC_SH_POISON_LO.poison (spec/05 R205). -/
def QC_SH_POISON_LO_poison : Fld := ⟨0x128, 31, 0, .sh, 0⟩
/-- QC_SH_POISON_HI.poison (spec/05 R205). -/
def QC_SH_POISON_HI_poison : Fld := ⟨0x12C, 15, 0, .sh, 0⟩
/-- FACET_STAT.cnt_overflow (spec/07 R252). -/
def FACET_STAT_cnt_overflow : Fld := ⟨0x4, 19, 19, .w1c, 0⟩
/-- FACET_STAT.drain_timeout (spec/07 R252). -/
def FACET_STAT_drain_timeout : Fld := ⟨0x4, 18, 18, .w1c, 0⟩
/-- FACET_STAT.swap_cancelled (spec/07 R252). -/
def FACET_STAT_swap_cancelled : Fld := ⟨0x4, 17, 17, .w1c, 0⟩
/-- FACET_STAT.rp_flushed (spec/07 R252). -/
def FACET_STAT_rp_flushed : Fld := ⟨0x4, 16, 16, .w1c, 0⟩
/-- FACET_STAT.stale_rsp (spec/07 R252). -/
def FACET_STAT_stale_rsp : Fld := ⟨0x4, 15, 15, .w1c, 0⟩
/-- FACET_STAT.init_busy (spec/07 R252). -/
def FACET_STAT_init_busy : Fld := ⟨0x4, 12, 12, .lv, 0⟩
/-- FACET_STAT.holding (spec/07 R252). -/
def FACET_STAT_holding : Fld := ⟨0x4, 11, 11, .lv, 1⟩
/-- FACET_STAT.fenced (spec/07 R252). -/
def FACET_STAT_fenced : Fld := ⟨0x4, 10, 10, .lv, 1⟩
/-- FACET_STAT.armed (spec/07 R252). -/
def FACET_STAT_armed : Fld := ⟨0x4, 9, 9, .lv, 0⟩
/-- FACET_STAT.state (spec/07 R252). -/
def FACET_STAT_state : Fld := ⟨0x4, 7, 4, .lv, 0⟩
/-- FACET_INFO.facet (spec/07 R252). Reset column: 12q + i. -/
def FACET_INFO_facet : Fld := ⟨0xC, 31, 26, .ro, 0⟩
/-- FACET_INFO.bays (spec/07 R252). Reset column: per R220. -/
def FACET_INFO_bays : Fld := ⟨0xC, 25, 16, .ro, 0⟩
/-- FACET_INFO.deep_bays (spec/07 R252). Reset column: per R220. -/
def FACET_INFO_deep_bays : Fld := ⟨0xC, 15, 11, .ro, 0⟩
/-- FACET_INFO.saus (spec/07 R252). Reset column: per R220. -/
def FACET_INFO_saus : Fld := ⟨0xC, 10, 3, .ro, 0⟩
/-- FACET_PLANE.active (spec/07 R252). -/
def FACET_PLANE_active : Fld := ⟨0x10, 31, 31, .ro, 0⟩
/-- FACET_PLANE.b_valid (spec/07 R252). -/
def FACET_PLANE_b_valid : Fld := ⟨0x10, 30, 30, .ro, 0⟩
/-- FACET_PLANE.a_valid (spec/07 R252). -/
def FACET_PLANE_a_valid : Fld := ⟨0x10, 29, 29, .ro, 0⟩
/-- FACET_DESIGN_A.design (spec/07 R252). -/
def FACET_DESIGN_A_design : Fld := ⟨0x14, 31, 0, .ro, 0⟩
/-- FACET_DESIGN_B.design (spec/07 R252). -/
def FACET_DESIGN_B_design : Fld := ⟨0x18, 31, 0, .ro, 0⟩
/-- FACET_ARM.trigger (spec/07 R252). -/
def FACET_ARM_trigger : Fld := ⟨0x1C, 31, 31, .ro, 0⟩
/-- FACET_ARM.event_line (spec/07 R252). -/
def FACET_ARM_event_line : Fld := ⟨0x1C, 29, 24, .ro, 0⟩
/-- FACET_ARM.swap_clk (spec/07 R252). -/
def FACET_ARM_swap_clk : Fld := ⟨0x1C, 3, 0, .ro, 0⟩
/-- FACET_ARM_T0.instant (spec/07 R252). -/
def FACET_ARM_T0_instant : Fld := ⟨0x20, 31, 0, .ro, 0⟩
/-- FACET_ARM_T1.instant (spec/07 R252). -/
def FACET_ARM_T1_instant : Fld := ⟨0x24, 31, 0, .ro, 0⟩
/-- FACET_ARM_T2.instant (spec/07 R252). -/
def FACET_ARM_T2_instant : Fld := ⟨0x28, 31, 0, .ro, 0⟩
/-- FACET_LAST_T0.edge (spec/07 R252). -/
def FACET_LAST_T0_edge : Fld := ⟨0x30, 31, 0, .ro, 0⟩
/-- FACET_LAST_T1.edge (spec/07 R252). -/
def FACET_LAST_T1_edge : Fld := ⟨0x34, 31, 0, .ro, 0⟩
/-- FACET_LAST_T2.edge (spec/07 R252). -/
def FACET_LAST_T2_edge : Fld := ⟨0x38, 31, 0, .ro, 0⟩
/-- FACET_FENCE_STAT.host_fence (spec/07 R252). -/
def FACET_FENCE_STAT_host_fence : Fld := ⟨0x40, 31, 31, .ro, 0⟩
/-- FACET_FENCE_STAT.draining (spec/07 R252). -/
def FACET_FENCE_STAT_draining : Fld := ⟨0x40, 30, 30, .lv, 0⟩
/-- FACET_FENCE_STAT.in_flight (spec/07 R252). -/
def FACET_FENCE_STAT_in_flight : Fld := ⟨0x40, 15, 0, .lv, 0⟩
/-- FACET_SH_SWAPS_LO.swaps (spec/07 R252). -/
def FACET_SH_SWAPS_LO_swaps : Fld := ⟨0x50, 31, 0, .sh, 0⟩
/-- FACET_SH_SWAPS_HI.overflow (spec/07 R252). -/
def FACET_SH_SWAPS_HI_overflow : Fld := ⟨0x54, 31, 31, .sh, 0⟩
/-- FACET_SH_SWAPS_HI.swaps (spec/07 R252). -/
def FACET_SH_SWAPS_HI_swaps : Fld := ⟨0x54, 15, 0, .sh, 0⟩
/-- FACET_SH_REFUSED_LO.refused (spec/07 R252). -/
def FACET_SH_REFUSED_LO_refused : Fld := ⟨0x58, 31, 0, .sh, 0⟩
/-- FACET_SH_REFUSED_HI.overflow (spec/07 R252). -/
def FACET_SH_REFUSED_HI_overflow : Fld := ⟨0x5C, 31, 31, .sh, 0⟩
/-- FACET_SH_REFUSED_HI.refused (spec/07 R252). -/
def FACET_SH_REFUSED_HI_refused : Fld := ⟨0x5C, 15, 0, .sh, 0⟩
/-- FACET_SH_STALE_LO.stale (spec/07 R252). -/
def FACET_SH_STALE_LO_stale : Fld := ⟨0x60, 31, 0, .sh, 0⟩
/-- FACET_SH_STALE_HI.overflow (spec/07 R252). -/
def FACET_SH_STALE_HI_overflow : Fld := ⟨0x64, 31, 31, .sh, 0⟩
/-- FACET_SH_STALE_HI.stale (spec/07 R252). -/
def FACET_SH_STALE_HI_stale : Fld := ⟨0x64, 15, 0, .sh, 0⟩
/-- CFG_STAT.apply_failed (spec/08 R293). -/
def CFG_STAT_apply_failed : Fld := ⟨0x4, 7, 7, .w1c, 0⟩
/-- CFG_STAT.verify_failed (spec/08 R293). -/
def CFG_STAT_verify_failed : Fld := ⟨0x4, 6, 6, .w1c, 0⟩
/-- CFG_STAT.stage_failed (spec/08 R293). -/
def CFG_STAT_stage_failed : Fld := ⟨0x4, 5, 5, .w1c, 0⟩
/-- CFG_STAT.push_dropped (spec/08 R293). -/
def CFG_STAT_push_dropped : Fld := ⟨0x4, 4, 4, .w1c, 0⟩
/-- CFG_PUSH.word (spec/08 R293). -/
def CFG_PUSH_word : Fld := ⟨0x40, 31, 0, .wo, 0⟩
/-- CFG_HANDLE_STATE.state (spec/08 R293). -/
def CFG_HANDLE_STATE_state : Fld := ⟨0x100, 3, 0, .lv, 0⟩
/-- CFG_HANDLE_LEN.total_length (spec/08 R293). -/
def CFG_HANDLE_LEN_total_length : Fld := ⟨0x104, 31, 0, .ro, 0⟩
/-- CFG_HANDLE_DESIGN.design_id (spec/08 R293). -/
def CFG_HANDLE_DESIGN_design_id : Fld := ⟨0x108, 31, 0, .ro, 0⟩
/-- CFG_HANDLE_BASE.base (spec/08 R293). -/
def CFG_HANDLE_BASE_base : Fld := ⟨0x10C, 23, 0, .ro, 0⟩
/-- SEC_STAT.key_refused (spec/08 R294). -/
def SEC_STAT_key_refused : Fld := ⟨0x4, 4, 4, .w1c, 0⟩
/-- SEC_OTP.owner_set (spec/08 R294). Reset column: fuses. -/
def SEC_OTP_owner_set : Fld := ⟨0xC, 31, 31, .ro, 0⟩
/-- SEC_OTP.id_key_set (spec/08 R294). Reset column: fuses. -/
def SEC_OTP_id_key_set : Fld := ⟨0xC, 30, 30, .ro, 0⟩
/-- SEC_OTP.debug_policy (spec/08 R294). Reset column: fuses. -/
def SEC_OTP_debug_policy : Fld := ⟨0xC, 7, 0, .ro, 0⟩
/-- SEC_SLOTS.loaded (spec/08 R294). -/
def SEC_SLOTS_loaded : Fld := ⟨0x10, 3, 0, .lv, 0⟩
/-- SEC_OWNER_HASH.hash (spec/08 R294). Reset column: fuses. -/
def SEC_OWNER_HASH_hash : Fld := ⟨0x20, 31, 0, .ro, 0⟩
/-- SCRUB_STAT.permanent (spec/08 R295). -/
def SCRUB_STAT_permanent : Fld := ⟨0x4, 7, 7, .w1c, 0⟩
/-- SCRUB_STAT.cnt_overflow (spec/08 R295). -/
def SCRUB_STAT_cnt_overflow : Fld := ⟨0x4, 6, 6, .w1c, 0⟩
/-- SCRUB_STAT.essential (spec/08 R295). -/
def SCRUB_STAT_essential : Fld := ⟨0x4, 5, 5, .w1c, 0⟩
/-- SCRUB_STAT.pass_done (spec/08 R295). -/
def SCRUB_STAT_pass_done : Fld := ⟨0x4, 4, 4, .w1c, 0⟩
/-- SCRUB_CFG.bay_en (spec/08 R295). -/
def SCRUB_CFG_bay_en : Fld := ⟨0xC, 31, 31, .ro, 1⟩
/-- SCRUB_CFG.frame_en (spec/08 R295). -/
def SCRUB_CFG_frame_en : Fld := ⟨0xC, 30, 30, .ro, 1⟩
/-- SCRUB_CFG.inactive_en (spec/08 R295). -/
def SCRUB_CFG_inactive_en : Fld := ⟨0xC, 29, 29, .ro, 1⟩
/-- SCRUB_CFG.bay_interval (spec/08 R295). -/
def SCRUB_CFG_bay_interval : Fld := ⟨0xC, 14, 0, .ro, 0xFA⟩
/-- SCRUB_GAP.frame_gap (spec/08 R295). -/
def SCRUB_GAP_frame_gap : Fld := ⟨0x10, 31, 0, .ro, 0x64⟩
/-- SCRUB_POS.facet (spec/08 R295). -/
def SCRUB_POS_facet : Fld := ⟨0x14, 19, 16, .lv, 0⟩
/-- SCRUB_POS.plane (spec/08 R295). -/
def SCRUB_POS_plane : Fld := ⟨0x14, 15, 15, .lv, 0⟩
/-- SCRUB_POS.frame (spec/08 R295). -/
def SCRUB_POS_frame : Fld := ⟨0x14, 14, 0, .lv, 0⟩
/-- SCRUB_LOC.outcome (spec/08 R295). -/
def SCRUB_LOC_outcome : Fld := ⟨0x18, 31, 29, .ro, 0⟩
/-- SCRUB_LOC.permanent (spec/08 R295). -/
def SCRUB_LOC_permanent : Fld := ⟨0x18, 28, 28, .ro, 0⟩
/-- SCRUB_LOC.essential (spec/08 R295). -/
def SCRUB_LOC_essential : Fld := ⟨0x18, 27, 27, .ro, 0⟩
/-- SCRUB_LOC.plane (spec/08 R295). -/
def SCRUB_LOC_plane : Fld := ⟨0x18, 26, 26, .ro, 0⟩
/-- SCRUB_LOC.facet (spec/08 R295). -/
def SCRUB_LOC_facet : Fld := ⟨0x18, 25, 20, .ro, 0⟩
/-- SCRUB_LOC.frame (spec/08 R295). -/
def SCRUB_LOC_frame : Fld := ⟨0x18, 14, 0, .ro, 0⟩
/-- SCRUB_LOC_BIT.word (spec/08 R295). -/
def SCRUB_LOC_BIT_word : Fld := ⟨0x1C, 21, 16, .ro, 0⟩
/-- SCRUB_LOC_BIT.bit (spec/08 R295). -/
def SCRUB_LOC_BIT_bit : Fld := ⟨0x1C, 6, 0, .ro, 0⟩
/-- SCRUB_SH_CORR_LO.lo (spec/08 R295). -/
def SCRUB_SH_CORR_LO_lo : Fld := ⟨0x20, 31, 0, .sh, 0⟩
/-- SCRUB_SH_CORR_HI.overflow (spec/08 R295). -/
def SCRUB_SH_CORR_HI_overflow : Fld := ⟨0x24, 31, 31, .sh, 0⟩
/-- SCRUB_SH_CORR_HI.hi (spec/08 R295). -/
def SCRUB_SH_CORR_HI_hi : Fld := ⟨0x24, 15, 0, .sh, 0⟩
/-- SCRUB_SH_UNCORR_LO.lo (spec/08 R295). -/
def SCRUB_SH_UNCORR_LO_lo : Fld := ⟨0x28, 31, 0, .sh, 0⟩
/-- SCRUB_SH_UNCORR_HI.overflow (spec/08 R295). -/
def SCRUB_SH_UNCORR_HI_overflow : Fld := ⟨0x2C, 31, 31, .sh, 0⟩
/-- SCRUB_SH_UNCORR_HI.hi (spec/08 R295). -/
def SCRUB_SH_UNCORR_HI_hi : Fld := ⟨0x2C, 15, 0, .sh, 0⟩
/-- SCRUB_SH_PASS_LO.lo (spec/08 R295). -/
def SCRUB_SH_PASS_LO_lo : Fld := ⟨0x30, 31, 0, .sh, 0⟩
/-- SCRUB_SH_PASS_HI.overflow (spec/08 R295). -/
def SCRUB_SH_PASS_HI_overflow : Fld := ⟨0x34, 31, 31, .sh, 0⟩
/-- SCRUB_SH_PASS_HI.hi (spec/08 R295). -/
def SCRUB_SH_PASS_HI_hi : Fld := ⟨0x34, 15, 0, .sh, 0⟩
/-- NI_STAT.cnt_overflow (spec/09 R332). -/
def NI_STAT_cnt_overflow : Fld := ⟨0x4, 9, 9, .w1c, 0⟩
/-- NI_STAT.starved (spec/09 R332). -/
def NI_STAT_starved : Fld := ⟨0x4, 8, 8, .w1c, 0⟩
/-- NI_STAT.returned (spec/09 R332). -/
def NI_STAT_returned : Fld := ⟨0x4, 7, 7, .w1c, 0⟩
/-- NI_STAT.dropped (spec/09 R332). -/
def NI_STAT_dropped : Fld := ⟨0x4, 6, 6, .w1c, 0⟩
/-- NI_STAT.unfit (spec/09 R332). -/
def NI_STAT_unfit : Fld := ⟨0x4, 5, 5, .w1c, 0⟩
/-- NI_STAT.refused (spec/09 R332). -/
def NI_STAT_refused : Fld := ⟨0x4, 4, 4, .w1c, 0⟩
/-- NI_INFO.x (spec/09 R332). Reset column: vertex. -/
def NI_INFO_x : Fld := ⟨0xC, 20, 16, .ro, 0⟩
/-- NI_INFO.y (spec/09 R332). Reset column: vertex. -/
def NI_INFO_y : Fld := ⟨0xC, 12, 8, .ro, 0⟩
/-- NI_INFO.v (spec/09 R332). Reset column: vertex. -/
def NI_INFO_v : Fld := ⟨0xC, 6, 0, .ro, 0⟩
/-- NI_CFG.resp_bufs (spec/09 R332). -/
def NI_CFG_resp_bufs : Fld := ⟨0x10, 23, 16, .ro, 0x20⟩
/-- NI_CFG.mgmt_quota (spec/09 R332). -/
def NI_CFG_mgmt_quota : Fld := ⟨0x10, 15, 8, .ro, 2⟩
/-- NI_CFG.req_quota (spec/09 R332). -/
def NI_CFG_req_quota : Fld := ⟨0x10, 7, 0, .ro, 4⟩
/-- NI_STARVE.bound (spec/09 R332). -/
def NI_STARVE_bound : Fld := ⟨0x14, 15, 0, .rw, 0x64⟩
/-- NI_ROUTE.y_state (spec/09 R332). -/
def NI_ROUTE_y_state : Fld := ⟨0x18, 5, 4, .lv, 0⟩
/-- NI_ROUTE.x_state (spec/09 R332). -/
def NI_ROUTE_x_state : Fld := ⟨0x18, 3, 2, .lv, 0⟩
/-- NI_ROUTE.fenced (spec/09 R332). -/
def NI_ROUTE_fenced : Fld := ⟨0x18, 1, 1, .lv, 0⟩
/-- NI_ROUTE.bypass (spec/09 R332). -/
def NI_ROUTE_bypass : Fld := ⟨0x18, 0, 0, .lv, 0⟩
/-- NI_FLOW_CTL.enable (spec/09 R332). -/
def NI_FLOW_CTL_enable : Fld := ⟨0x20, 31, 31, .rw, 0⟩
/-- NI_FLOW_CTL.kind (spec/09 R332). -/
def NI_FLOW_CTL_kind : Fld := ⟨0x20, 30, 30, .rw, 0⟩
/-- NI_FLOW_CTL.dst_x (spec/09 R332). -/
def NI_FLOW_CTL_dst_x : Fld := ⟨0x20, 20, 16, .rw, 0⟩
/-- NI_FLOW_CTL.dst_y (spec/09 R332). -/
def NI_FLOW_CTL_dst_y : Fld := ⟨0x20, 12, 8, .rw, 0⟩
/-- NI_FLOW_RATE.burst (spec/09 R332). -/
def NI_FLOW_RATE_burst : Fld := ⟨0x24, 31, 24, .rw, 0x10⟩
/-- NI_FLOW_RATE.rate (spec/09 R332). -/
def NI_FLOW_RATE_rate : Fld := ⟨0x24, 15, 0, .rw, 0⟩
/-- NI_FLOW_ADMIT.withdraw (spec/09 R332). -/
def NI_FLOW_ADMIT_withdraw : Fld := ⟨0x28, 1, 1, .cmd, 0⟩
/-- NI_FLOW_ADMIT.admit (spec/09 R332). -/
def NI_FLOW_ADMIT_admit : Fld := ⟨0x28, 0, 0, .cmd, 0⟩
/-- NI_FLOW_STAT.unfit (spec/09 R332). -/
def NI_FLOW_STAT_unfit : Fld := ⟨0x2C, 2, 2, .lv, 0⟩
/-- NI_FLOW_STAT.admitted (spec/09 R332). -/
def NI_FLOW_STAT_admitted : Fld := ⟨0x2C, 1, 1, .lv, 0⟩
/-- NI_FLOW_STAT.active (spec/09 R332). -/
def NI_FLOW_STAT_active : Fld := ⟨0x2C, 0, 0, .lv, 0⟩
/-- NI_FLOW_BASE_LO.base (spec/09 R332). -/
def NI_FLOW_BASE_LO_base : Fld := ⟨0x30, 31, 6, .rw, 0⟩
/-- NI_FLOW_BASE_HI.base (spec/09 R332). -/
def NI_FLOW_BASE_HI_base : Fld := ⟨0x34, 7, 0, .rw, 0⟩
/-- NI_FLOW_STRIDE.stride (spec/09 R332). -/
def NI_FLOW_STRIDE_stride : Fld := ⟨0x38, 31, 6, .rw, 0⟩
/-- NI_FLOW_FRAMES.index (spec/09 R332). -/
def NI_FLOW_FRAMES_index : Fld := ⟨0x3C, 15, 8, .lv, 0⟩
/-- NI_FLOW_FRAMES.frames (spec/09 R332). -/
def NI_FLOW_FRAMES_frames : Fld := ⟨0x3C, 7, 0, .rw, 1⟩
/-- NI_SH_TX_LO.lo (spec/09 R332). -/
def NI_SH_TX_LO_lo : Fld := ⟨0x40, 31, 0, .sh, 0⟩
/-- NI_SH_TX_HI.overflow (spec/09 R332). -/
def NI_SH_TX_HI_overflow : Fld := ⟨0x44, 31, 31, .sh, 0⟩
/-- NI_SH_TX_HI.hi (spec/09 R332). -/
def NI_SH_TX_HI_hi : Fld := ⟨0x44, 15, 0, .sh, 0⟩
/-- NI_SH_RX_LO.lo (spec/09 R332). -/
def NI_SH_RX_LO_lo : Fld := ⟨0x48, 31, 0, .sh, 0⟩
/-- NI_SH_RX_HI.overflow (spec/09 R332). -/
def NI_SH_RX_HI_overflow : Fld := ⟨0x4C, 31, 31, .sh, 0⟩
/-- NI_SH_RX_HI.hi (spec/09 R332). -/
def NI_SH_RX_HI_hi : Fld := ⟨0x4C, 15, 0, .sh, 0⟩
/-- NI_SH_STALL_LO.lo (spec/09 R332). -/
def NI_SH_STALL_LO_lo : Fld := ⟨0x50, 31, 0, .sh, 0⟩
/-- NI_SH_STALL_HI.overflow (spec/09 R332). -/
def NI_SH_STALL_HI_overflow : Fld := ⟨0x54, 31, 31, .sh, 0⟩
/-- NI_SH_STALL_HI.hi (spec/09 R332). -/
def NI_SH_STALL_HI_hi : Fld := ⟨0x54, 15, 0, .sh, 0⟩
/-- NI_SH_RETURNED_LO.lo (spec/09 R332). -/
def NI_SH_RETURNED_LO_lo : Fld := ⟨0x58, 31, 0, .sh, 0⟩
/-- NI_SH_RETURNED_HI.overflow (spec/09 R332). -/
def NI_SH_RETURNED_HI_overflow : Fld := ⟨0x5C, 31, 31, .sh, 0⟩
/-- NI_SH_RETURNED_HI.hi (spec/09 R332). -/
def NI_SH_RETURNED_HI_hi : Fld := ⟨0x5C, 15, 0, .sh, 0⟩
/-- NI_SH_DROP_LO.lo (spec/09 R332). -/
def NI_SH_DROP_LO_lo : Fld := ⟨0x60, 31, 0, .sh, 0⟩
/-- NI_SH_DROP_HI.overflow (spec/09 R332). -/
def NI_SH_DROP_HI_overflow : Fld := ⟨0x64, 31, 31, .sh, 0⟩
/-- NI_SH_DROP_HI.hi (spec/09 R332). -/
def NI_SH_DROP_HI_hi : Fld := ⟨0x64, 15, 0, .sh, 0⟩
/-- NI_CHORD_MATCH.valid (spec/09 R333). -/
def NI_CHORD_MATCH_valid : Fld := ⟨0x400, 31, 31, .ro, 0⟩
/-- NI_CHORD_MATCH.class_mask (spec/09 R333). -/
def NI_CHORD_MATCH_class_mask : Fld := ⟨0x400, 23, 20, .ro, 0⟩
/-- NI_CHORD_MATCH.y_hi (spec/09 R333). -/
def NI_CHORD_MATCH_y_hi : Fld := ⟨0x400, 19, 15, .ro, 0⟩
/-- NI_CHORD_MATCH.y_lo (spec/09 R333). -/
def NI_CHORD_MATCH_y_lo : Fld := ⟨0x400, 14, 10, .ro, 0⟩
/-- NI_CHORD_MATCH.x_hi (spec/09 R333). -/
def NI_CHORD_MATCH_x_hi : Fld := ⟨0x400, 9, 5, .ro, 0⟩
/-- NI_CHORD_MATCH.x_lo (spec/09 R333). -/
def NI_CHORD_MATCH_x_lo : Fld := ⟨0x400, 4, 0, .ro, 0⟩
/-- NI_CHORD_ROUTE0.turn4 (spec/09 R333). -/
def NI_CHORD_ROUTE0_turn4 : Fld := ⟨0x404, 31, 26, .ro, 0⟩
/-- NI_CHORD_ROUTE0.turn3 (spec/09 R333). -/
def NI_CHORD_ROUTE0_turn3 : Fld := ⟨0x404, 25, 20, .ro, 0⟩
/-- NI_CHORD_ROUTE0.turn2 (spec/09 R333). -/
def NI_CHORD_ROUTE0_turn2 : Fld := ⟨0x404, 19, 14, .ro, 0⟩
/-- NI_CHORD_ROUTE0.turn1 (spec/09 R333). -/
def NI_CHORD_ROUTE0_turn1 : Fld := ⟨0x404, 13, 8, .ro, 0⟩
/-- NI_CHORD_ROUTE0.first_dir (spec/09 R333). -/
def NI_CHORD_ROUTE0_first_dir : Fld := ⟨0x404, 4, 4, .ro, 0⟩
/-- NI_CHORD_ROUTE0.first_ring (spec/09 R333). -/
def NI_CHORD_ROUTE0_first_ring : Fld := ⟨0x404, 3, 3, .ro, 0⟩
/-- NI_CHORD_ROUTE0.turns (spec/09 R333). -/
def NI_CHORD_ROUTE0_turns : Fld := ⟨0x404, 2, 0, .ro, 0⟩
/-- NI_CHORD_ROUTE1.turn6 (spec/09 R333). -/
def NI_CHORD_ROUTE1_turn6 : Fld := ⟨0x408, 11, 6, .ro, 0⟩
/-- NI_CHORD_ROUTE1.turn5 (spec/09 R333). -/
def NI_CHORD_ROUTE1_turn5 : Fld := ⟨0x408, 5, 0, .ro, 0⟩
/-- TIME_STAT.active (spec/10 R370). -/
def TIME_STAT_active : Fld := ⟨0x4, 15, 14, .lv, 0⟩
/-- TIME_STAT.copy_degraded (spec/10 R370). -/
def TIME_STAT_copy_degraded : Fld := ⟨0x4, 11, 11, .w1c, 0⟩
/-- TIME_STAT.stepped (spec/10 R370). -/
def TIME_STAT_stepped : Fld := ⟨0x4, 10, 10, .w1c, 0⟩
/-- TIME_STAT.source_lost (spec/10 R370). -/
def TIME_STAT_source_lost : Fld := ⟨0x4, 9, 9, .w1c, 0⟩
/-- TIME_STAT.state (spec/10 R370). -/
def TIME_STAT_state : Fld := ⟨0x4, 7, 4, .lv, 0⟩
/-- TIME_XO.xo_wait (spec/10 R370). Reset column: strap. -/
def TIME_XO_xo_wait : Fld := ⟨0xC, 10, 8, .ro, 0⟩
/-- TIME_XO.xo1 (spec/10 R370). -/
def TIME_XO_xo1 : Fld := ⟨0xC, 3, 2, .lv, 0⟩
/-- TIME_XO.xo0 (spec/10 R370). -/
def TIME_XO_xo0 : Fld := ⟨0xC, 1, 0, .lv, 2⟩
/-- TIME_NOW_T0.now (spec/10 R370). -/
def TIME_NOW_T0_now : Fld := ⟨0x20, 31, 0, .lv, 0⟩
/-- TIME_NOW_T1.now (spec/10 R370). -/
def TIME_NOW_T1_now : Fld := ⟨0x24, 31, 0, .lv, 0⟩
/-- TIME_NOW_T2.now (spec/10 R370). -/
def TIME_NOW_T2_now : Fld := ⟨0x28, 31, 0, .lv, 0⟩
/-- TIME_OFFSET.offset (spec/10 R370). -/
def TIME_OFFSET_offset : Fld := ⟨0x30, 31, 0, .ro, 0⟩
/-- TIME_FREQ.freq (spec/10 R370). -/
def TIME_FREQ_freq : Fld := ⟨0x34, 31, 0, .ro, 0⟩
/-- TIME_REF.qualified (spec/10 R370). -/
def TIME_REF_qualified : Fld := ⟨0x40, 31, 31, .lv, 0⟩
/-- TIME_REF.present (spec/10 R370). -/
def TIME_REF_present : Fld := ⟨0x40, 30, 30, .lv, 0⟩
/-- TIME_REF.kind (spec/10 R370). -/
def TIME_REF_kind : Fld := ⟨0x40, 27, 24, .ro, 0⟩
/-- TIME_REF.domain (spec/10 R370). -/
def TIME_REF_domain : Fld := ⟨0x40, 23, 16, .ro, 0⟩
/-- TIME_REF.lane (spec/10 R370). -/
def TIME_REF_lane : Fld := ⟨0x40, 7, 0, .ro, 0⟩
/-- TIME_DEGRADED.dies (spec/10 R370). -/
def TIME_DEGRADED_dies : Fld := ⟨0x50, 7, 0, .lv, 0⟩
/-- LOOP_STAT.window_hit (spec/10 R371). -/
def LOOP_STAT_window_hit : Fld := ⟨0x4, 17, 17, .w1c, 0⟩
/-- LOOP_STAT.ref_lost (spec/10 R371). -/
def LOOP_STAT_ref_lost : Fld := ⟨0x4, 16, 16, .w1c, 0⟩
/-- LOOP_STAT.ref_ok (spec/10 R371). -/
def LOOP_STAT_ref_ok : Fld := ⟨0x4, 12, 12, .lv, 0⟩
/-- LOOP_STAT.out_of_window (spec/10 R371). -/
def LOOP_STAT_out_of_window : Fld := ⟨0x4, 11, 11, .lv, 0⟩
/-- LOOP_STAT.on_fallback (spec/10 R371). -/
def LOOP_STAT_on_fallback : Fld := ⟨0x4, 10, 10, .lv, 0⟩
/-- LOOP_STAT.fallback_not_ready (spec/10 R371). -/
def LOOP_STAT_fallback_not_ready : Fld := ⟨0x4, 9, 9, .lv, 0⟩
/-- LOOP_STAT.coasting (spec/10 R371). -/
def LOOP_STAT_coasting : Fld := ⟨0x4, 8, 8, .lv, 0⟩
/-- LOOP_STAT.state (spec/10 R371). -/
def LOOP_STAT_state : Fld := ⟨0x4, 7, 4, .lv, 0⟩
/-- LOOP_CFG.source (spec/10 R371). -/
def LOOP_CFG_source : Fld := ⟨0xC, 31, 28, .ro, 0⟩
/-- LOOP_CFG.flags (spec/10 R371). -/
def LOOP_CFG_flags : Fld := ⟨0xC, 27, 23, .ro, 0⟩
/-- LOOP_CFG.lane (spec/10 R371). -/
def LOOP_CFG_lane : Fld := ⟨0xC, 7, 0, .ro, 0⟩
/-- LOOP_NUM_LO.num (spec/10 R371). -/
def LOOP_NUM_LO_num : Fld := ⟨0x10, 31, 0, .ro, 0⟩
/-- LOOP_NUM_HI.den (spec/10 R371). -/
def LOOP_NUM_HI_den : Fld := ⟨0x14, 31, 16, .ro, 1⟩
/-- LOOP_NUM_HI.num (spec/10 R371). -/
def LOOP_NUM_HI_num : Fld := ⟨0x14, 7, 0, .ro, 0⟩
/-- LOOP_WIN.ceiling (spec/10 R371). -/
def LOOP_WIN_ceiling : Fld := ⟨0x18, 31, 16, .ro, 0x1388⟩
/-- LOOP_WIN.floor (spec/10 R371). -/
def LOOP_WIN_floor : Fld := ⟨0x18, 15, 0, .ro, 0xEC78⟩
/-- LOOP_SLEW.qual_ms (spec/10 R371). -/
def LOOP_SLEW_qual_ms : Fld := ⟨0x1C, 31, 16, .ro, 0x3E8⟩
/-- LOOP_SLEW.slew (spec/10 R371). -/
def LOOP_SLEW_slew : Fld := ⟨0x1C, 15, 0, .ro, 0x64⟩
/-- LOOP_FREQ.freq (spec/10 R371). -/
def LOOP_FREQ_freq : Fld := ⟨0x20, 31, 0, .lv, 0⟩
/-- LOOP_CODE.code (spec/10 R371). -/
def LOOP_CODE_code : Fld := ⟨0x24, 23, 0, .lv, 0⟩
/-- LOOP_FLOOR.floor_code (spec/10 R371). -/
def LOOP_FLOOR_floor_code : Fld := ⟨0x28, 23, 0, .ro, 0⟩
/-- CLKO_SET.kind (spec/10 R372). -/
def CLKO_SET_kind : Fld := ⟨0x10, 31, 28, .ro, 0⟩
/-- CLKO_SET.align (spec/10 R372). -/
def CLKO_SET_align : Fld := ⟨0x10, 27, 27, .ro, 0⟩
/-- CLKO_SET.running (spec/10 R372). -/
def CLKO_SET_running : Fld := ⟨0x10, 26, 26, .lv, 0⟩
/-- CLKO_SET.index (spec/10 R372). -/
def CLKO_SET_index : Fld := ⟨0x10, 7, 0, .ro, 0⟩
/-- CLKO_DIV.div (spec/10 R372). -/
def CLKO_DIV_div : Fld := ⟨0x14, 15, 0, .ro, 0⟩
/-- FLOOP_LOCK.lost (spec/10 R373). -/
def FLOOP_LOCK_lost : Fld := ⟨0xC, 31, 16, .w1c, 0⟩
/-- FLOOP_LOCK.locked (spec/10 R373). -/
def FLOOP_LOCK_locked : Fld := ⟨0xC, 15, 0, .lv, 0⟩
/-- FLOOP_REF.ref (spec/10 R373). -/
def FLOOP_REF_ref : Fld := ⟨0x100, 30, 24, .ro, 0⟩
/-- FLOOP_REF.mult (spec/10 R373). -/
def FLOOP_REF_mult : Fld := ⟨0x100, 7, 0, .ro, 0⟩
/-- FLOOP_DIV.div3–div0 (spec/10 R373). -/
def FLOOP_DIV_div : Fld := ⟨0x104, 31, 0, .ro, 0⟩
/-- LSYS_INFO.first_lane (spec/11 R410). Reset column: 0x00 or 0x48. -/
def LSYS_INFO_first_lane : Fld := ⟨0xC, 31, 24, .ro, 0⟩
/-- LSYS_INFO.side (spec/11 R410). Reset column: 0 or 1. -/
def LSYS_INFO_side : Fld := ⟨0xC, 16, 16, .ro, 0⟩
/-- LSYS_INFO.groups_on (spec/11 R410). -/
def LSYS_INFO_groups_on : Fld := ⟨0xC, 8, 0, .lv, 0⟩
/-- LSYS_RETIRED.groups (spec/11 R410). -/
def LSYS_RETIRED_groups : Fld := ⟨0x10, 8, 0, .ro, 0⟩
/-- LSYS_CAL.busy (spec/11 R410). -/
def LSYS_CAL_busy : Fld := ⟨0x14, 31, 31, .lv, 0⟩
/-- LSYS_CAL.lane (spec/11 R410). -/
def LSYS_CAL_lane : Fld := ⟨0x14, 6, 0, .lv, 0⟩
/-- LSYS_TEMP.temp (spec/11 R410). Reset column: —. -/
def LSYS_TEMP_temp : Fld := ⟨0x18, 12, 0, .lv, 0⟩
/-- REFC_STAT.lost (spec/11 R411). -/
def REFC_STAT_lost : Fld := ⟨0x4, 11, 4, .w1c, 0⟩
/-- REFC_STATK.present (spec/11 R411). -/
def REFC_STATK_present : Fld := ⟨0x10, 31, 31, .lv, 0⟩
/-- REFC_STATK.in_use (spec/11 R411). -/
def REFC_STATK_in_use : Fld := ⟨0x10, 30, 30, .lv, 0⟩
/-- REFC_STATK.nominal (spec/11 R411). -/
def REFC_STATK_nominal : Fld := ⟨0x10, 23, 0, .ro, 0⟩
/-- REFC_PPM.ppm (spec/11 R411). -/
def REFC_PPM_ppm : Fld := ⟨0x30, 31, 0, .lv, 0⟩
/-- LANE_STAT.ref_lost (spec/11 R412). -/
def LANE_STAT_ref_lost : Fld := ⟨0x4, 24, 24, .w1c, 0⟩
/-- LANE_STAT.cal_failed (spec/11 R412). -/
def LANE_STAT_cal_failed : Fld := ⟨0x4, 23, 23, .w1c, 0⟩
/-- LANE_STAT.suspect (spec/11 R412). -/
def LANE_STAT_suspect : Fld := ⟨0x4, 22, 22, .w1c, 0⟩
/-- LANE_STAT.eb_underflow (spec/11 R412). -/
def LANE_STAT_eb_underflow : Fld := ⟨0x4, 21, 21, .w1c, 0⟩
/-- LANE_STAT.eb_overflow (spec/11 R412). -/
def LANE_STAT_eb_overflow : Fld := ⟨0x4, 20, 20, .w1c, 0⟩
/-- LANE_STAT.align_lost (spec/11 R412). -/
def LANE_STAT_align_lost : Fld := ⟨0x4, 19, 19, .w1c, 0⟩
/-- LANE_STAT.sig_lost (spec/11 R412). -/
def LANE_STAT_sig_lost : Fld := ⟨0x4, 18, 18, .w1c, 0⟩
/-- LANE_STAT.cnt_overflow (spec/11 R412). -/
def LANE_STAT_cnt_overflow : Fld := ⟨0x4, 17, 17, .w1c, 0⟩
/-- LANE_STAT.cal_stale (spec/11 R412). -/
def LANE_STAT_cal_stale : Fld := ⟨0x4, 16, 16, .lv, 0⟩
/-- LANE_STAT.prbs_locked (spec/11 R412). -/
def LANE_STAT_prbs_locked : Fld := ⟨0x4, 15, 15, .lv, 0⟩
/-- LANE_STAT.sig_detect (spec/11 R412). -/
def LANE_STAT_sig_detect : Fld := ⟨0x4, 14, 14, .lv, 0⟩
/-- LANE_STAT.tx_ready (spec/11 R412). -/
def LANE_STAT_tx_ready : Fld := ⟨0x4, 13, 13, .lv, 0⟩
/-- LANE_STAT.state (spec/11 R412). -/
def LANE_STAT_state : Fld := ⟨0x4, 7, 4, .lv, 0⟩
/-- LANE_INFO.cause (spec/11 R412). -/
def LANE_INFO_cause : Fld := ⟨0xC, 31, 24, .ro, 0⟩
/-- LANE_INFO.lane (spec/11 R412). Reset column: n. -/
def LANE_INFO_lane : Fld := ⟨0xC, 15, 8, .ro, 0⟩
/-- LANE_INFO.group (spec/11 R412). Reset column: ⌊ℓ / 8⌋. -/
def LANE_INFO_group : Fld := ⟨0xC, 7, 4, .ro, 0⟩
/-- LANE_INFO.member (spec/11 R412). Reset column: ℓ mod 8. -/
def LANE_INFO_member : Fld := ⟨0xC, 3, 0, .ro, 0⟩
/-- LANE_CFG0.word5 (spec/11 R412). -/
def LANE_CFG0_word5 : Fld := ⟨0x10, 31, 0, .ro, 0⟩
/-- LANE_CFG1.word6 (spec/11 R412). -/
def LANE_CFG1_word6 : Fld := ⟨0x14, 31, 0, .ro, 0⟩
/-- LANE_REFKHZ.word7 (spec/11 R412). -/
def LANE_REFKHZ_word7 : Fld := ⟨0x18, 31, 0, .ro, 0⟩
/-- LANE_TXEQ.word8 (spec/11 R412). -/
def LANE_TXEQ_word8 : Fld := ⟨0x1C, 31, 0, .ro, 0⟩
/-- LANE_FILL.word9 (spec/11 R412). -/
def LANE_FILL_word9 : Fld := ⟨0x20, 31, 0, .ro, 0⟩
/-- LANE_RXEQ.ctle (spec/11 R412). -/
def LANE_RXEQ_ctle : Fld := ⟨0x24, 28, 24, .lv, 0⟩
/-- LANE_RXEQ.vga (spec/11 R412). -/
def LANE_RXEQ_vga : Fld := ⟨0x24, 21, 16, .lv, 0⟩
/-- LANE_RXEQ.dfe1 (spec/11 R412). -/
def LANE_RXEQ_dfe1 : Fld := ⟨0x24, 15, 8, .lv, 0⟩
/-- LANE_RXEQ.dfe2 (spec/11 R412). -/
def LANE_RXEQ_dfe2 : Fld := ⟨0x24, 7, 0, .lv, 0⟩
/-- LANE_PPM.ppm (spec/11 R412). -/
def LANE_PPM_ppm : Fld := ⟨0x28, 31, 0, .lv, 0⟩
/-- LANE_SH_PRBS_BITS_LO.lo (spec/11 R412). -/
def LANE_SH_PRBS_BITS_LO_lo : Fld := ⟨0x40, 31, 0, .sh, 0⟩
/-- LANE_SH_PRBS_BITS_HI.overflow (spec/11 R412). -/
def LANE_SH_PRBS_BITS_HI_overflow : Fld := ⟨0x44, 31, 31, .sh, 0⟩
/-- LANE_SH_PRBS_BITS_HI.hi (spec/11 R412). -/
def LANE_SH_PRBS_BITS_HI_hi : Fld := ⟨0x44, 15, 0, .sh, 0⟩
/-- LANE_SH_PRBS_ERR_LO.lo (spec/11 R412). -/
def LANE_SH_PRBS_ERR_LO_lo : Fld := ⟨0x48, 31, 0, .sh, 0⟩
/-- LANE_SH_PRBS_ERR_HI.overflow (spec/11 R412). -/
def LANE_SH_PRBS_ERR_HI_overflow : Fld := ⟨0x4C, 31, 31, .sh, 0⟩
/-- LANE_SH_PRBS_ERR_HI.hi (spec/11 R412). -/
def LANE_SH_PRBS_ERR_HI_hi : Fld := ⟨0x4C, 15, 0, .sh, 0⟩
/-- LANE_SH_CODE_LO.lo (spec/11 R412). -/
def LANE_SH_CODE_LO_lo : Fld := ⟨0x50, 31, 0, .sh, 0⟩
/-- LANE_SH_CODE_HI.overflow (spec/11 R412). -/
def LANE_SH_CODE_HI_overflow : Fld := ⟨0x54, 31, 31, .sh, 0⟩
/-- LANE_SH_CODE_HI.hi (spec/11 R412). -/
def LANE_SH_CODE_HI_hi : Fld := ⟨0x54, 15, 0, .sh, 0⟩
/-- LANE_SH_INS_LO.lo (spec/11 R412). -/
def LANE_SH_INS_LO_lo : Fld := ⟨0x58, 31, 0, .sh, 0⟩
/-- LANE_SH_INS_HI.overflow (spec/11 R412). -/
def LANE_SH_INS_HI_overflow : Fld := ⟨0x5C, 31, 31, .sh, 0⟩
/-- LANE_SH_INS_HI.hi (spec/11 R412). -/
def LANE_SH_INS_HI_hi : Fld := ⟨0x5C, 15, 0, .sh, 0⟩
/-- LANE_SH_DEL_LO.lo (spec/11 R412). -/
def LANE_SH_DEL_LO_lo : Fld := ⟨0x60, 31, 0, .sh, 0⟩
/-- LANE_SH_DEL_HI.overflow (spec/11 R412). -/
def LANE_SH_DEL_HI_overflow : Fld := ⟨0x64, 31, 31, .sh, 0⟩
/-- LANE_SH_DEL_HI.hi (spec/11 R412). -/
def LANE_SH_DEL_HI_hi : Fld := ⟨0x64, 15, 0, .sh, 0⟩
/-- LANE_SH_EBERR_LO.lo (spec/11 R412). -/
def LANE_SH_EBERR_LO_lo : Fld := ⟨0x68, 31, 0, .sh, 0⟩
/-- LANE_SH_EBERR_HI.overflow (spec/11 R412). -/
def LANE_SH_EBERR_HI_overflow : Fld := ⟨0x6C, 31, 31, .sh, 0⟩
/-- LANE_SH_EBERR_HI.hi (spec/11 R412). -/
def LANE_SH_EBERR_HI_hi : Fld := ⟨0x6C, 15, 0, .sh, 0⟩
/-- LANE_SH_RECOVER_LO.lo (spec/11 R412). -/
def LANE_SH_RECOVER_LO_lo : Fld := ⟨0x70, 31, 0, .sh, 0⟩
/-- LANE_SH_RECOVER_HI.overflow (spec/11 R412). -/
def LANE_SH_RECOVER_HI_overflow : Fld := ⟨0x74, 31, 31, .sh, 0⟩
/-- LANE_SH_RECOVER_HI.hi (spec/11 R412). -/
def LANE_SH_RECOVER_HI_hi : Fld := ⟨0x74, 15, 0, .sh, 0⟩
/-- LANE_SH_SIGLOSS_LO.lo (spec/11 R412). -/
def LANE_SH_SIGLOSS_LO_lo : Fld := ⟨0x78, 31, 0, .sh, 0⟩
/-- LANE_SH_SIGLOSS_HI.overflow (spec/11 R412). -/
def LANE_SH_SIGLOSS_HI_overflow : Fld := ⟨0x7C, 31, 31, .sh, 0⟩
/-- LANE_SH_SIGLOSS_HI.hi (spec/11 R412). -/
def LANE_SH_SIGLOSS_HI_hi : Fld := ⟨0x7C, 15, 0, .sh, 0⟩
/-- LANE_SH_SLIP_LO.lo (spec/11 R412). -/
def LANE_SH_SLIP_LO_lo : Fld := ⟨0x80, 31, 0, .sh, 0⟩
/-- LANE_SH_SLIP_HI.overflow (spec/11 R412). -/
def LANE_SH_SLIP_HI_overflow : Fld := ⟨0x84, 31, 31, .sh, 0⟩
/-- LANE_SH_SLIP_HI.hi (spec/11 R412). -/
def LANE_SH_SLIP_HI_hi : Fld := ⟨0x84, 15, 0, .sh, 0⟩
/-- SE_STAT.cnt_overflow (spec/12 R459). -/
def SE_STAT_cnt_overflow : Fld := ⟨0x4, 4, 4, .w1c, 0⟩
/-- SE_INFO.first_lane (spec/12 R459). Reset column: 8g. -/
def SE_INFO_first_lane : Fld := ⟨0xC, 31, 24, .ro, 0⟩
/-- SE_INFO.rx_used (spec/12 R459). -/
def SE_INFO_rx_used : Fld := ⟨0xC, 22, 14, .lv, 0⟩
/-- SE_INFO.tx_used (spec/12 R459). -/
def SE_INFO_tx_used : Fld := ⟨0xC, 8, 0, .lv, 0⟩
/-- SE_CH_CFG.rx_on (spec/12 R459). -/
def SE_CH_CFG_rx_on : Fld := ⟨0x100, 31, 31, .ro, 0⟩
/-- SE_CH_CFG.tx_on (spec/12 R459). -/
def SE_CH_CFG_tx_on : Fld := ⟨0x100, 30, 30, .ro, 0⟩
/-- SE_CH_CFG.rx_map (spec/12 R459). -/
def SE_CH_CFG_rx_map : Fld := ⟨0x100, 29, 27, .ro, 0⟩
/-- SE_CH_CFG.tx_map (spec/12 R459). -/
def SE_CH_CFG_tx_map : Fld := ⟨0x100, 26, 24, .ro, 0⟩
/-- SE_CH_CFG.raster (spec/12 R459). -/
def SE_CH_CFG_raster : Fld := ⟨0x100, 23, 21, .ro, 0⟩
/-- SE_CH_CFG.rate (spec/12 R459). -/
def SE_CH_CFG_rate : Fld := ⟨0x100, 20, 18, .ro, 0⟩
/-- SE_CH_CFG.south (spec/12 R459). -/
def SE_CH_CFG_south : Fld := ⟨0x100, 17, 17, .ro, 0⟩
/-- SE_CH_CFG.port (spec/12 R459). -/
def SE_CH_CFG_port : Fld := ⟨0x100, 16, 16, .ro, 0⟩
/-- SE_CH_STAT.discard (spec/12 R459). -/
def SE_CH_STAT_discard : Fld := ⟨0x104, 23, 23, .w1c, 0⟩
/-- SE_CH_STAT.underflow (spec/12 R459). -/
def SE_CH_STAT_underflow : Fld := ⟨0x104, 22, 22, .w1c, 0⟩
/-- SE_CH_STAT.skew (spec/12 R459). -/
def SE_CH_STAT_skew : Fld := ⟨0x104, 21, 21, .w1c, 0⟩
/-- SE_CH_STAT.pid_mismatch (spec/12 R459). -/
def SE_CH_STAT_pid_mismatch : Fld := ⟨0x104, 20, 20, .w1c, 0⟩
/-- SE_CH_STAT.pid_change (spec/12 R459). -/
def SE_CH_STAT_pid_change : Fld := ⟨0x104, 19, 19, .w1c, 0⟩
/-- SE_CH_STAT.format_change (spec/12 R459). -/
def SE_CH_STAT_format_change : Fld := ⟨0x104, 18, 18, .w1c, 0⟩
/-- SE_CH_STAT.lost (spec/12 R459). -/
def SE_CH_STAT_lost : Fld := ⟨0x104, 17, 17, .w1c, 0⟩
/-- SE_CH_STAT.crc (spec/12 R459). -/
def SE_CH_STAT_crc : Fld := ⟨0x104, 16, 16, .w1c, 0⟩
/-- SE_CH_STAT.tx_state (spec/12 R459). -/
def SE_CH_STAT_tx_state : Fld := ⟨0x104, 11, 8, .lv, 0⟩
/-- SE_CH_STAT.rx_state (spec/12 R459). -/
def SE_CH_STAT_rx_state : Fld := ⟨0x104, 7, 4, .lv, 0⟩
/-- SE_CH_PID.pid (spec/12 R459). -/
def SE_CH_PID_pid : Fld := ⟨0x108, 31, 0, .ro, 0⟩
/-- SE_CH_FMT.interlaced (spec/12 R459). -/
def SE_CH_FMT_interlaced : Fld := ⟨0x10C, 31, 31, .lv, 0⟩
/-- SE_CH_FMT.lines (spec/12 R459). -/
def SE_CH_FMT_lines : Fld := ⟨0x10C, 27, 16, .lv, 0⟩
/-- SE_CH_FMT.samples (spec/12 R459). -/
def SE_CH_FMT_samples : Fld := ⟨0x10C, 12, 0, .lv, 0⟩
/-- SE_CH_XPT.kind (spec/12 R459). -/
def SE_CH_XPT_kind : Fld := ⟨0x110, 31, 30, .ro, 0⟩
/-- SE_CH_XPT.south (spec/12 R459). -/
def SE_CH_XPT_south : Fld := ⟨0x110, 29, 29, .ro, 0⟩
/-- SE_CH_XPT.member (spec/12 R459). -/
def SE_CH_XPT_member : Fld := ⟨0x110, 2, 0, .ro, 0⟩
/-- SE_CH_SH_LINES_LO.lo (spec/12 R459). -/
def SE_CH_SH_LINES_LO_lo : Fld := ⟨0x118, 31, 0, .sh, 0⟩
/-- SE_CH_SH_LINES_HI.overflow (spec/12 R459). -/
def SE_CH_SH_LINES_HI_overflow : Fld := ⟨0x11C, 31, 31, .sh, 0⟩
/-- SE_CH_SH_LINES_HI.hi (spec/12 R459). -/
def SE_CH_SH_LINES_HI_hi : Fld := ⟨0x11C, 15, 0, .sh, 0⟩
/-- SE_CH_SH_CRC_LO.lo (spec/12 R459). -/
def SE_CH_SH_CRC_LO_lo : Fld := ⟨0x120, 31, 0, .sh, 0⟩
/-- SE_CH_SH_CRC_HI.overflow (spec/12 R459). -/
def SE_CH_SH_CRC_HI_overflow : Fld := ⟨0x124, 31, 31, .sh, 0⟩
/-- SE_CH_SH_CRC_HI.hi (spec/12 R459). -/
def SE_CH_SH_CRC_HI_hi : Fld := ⟨0x124, 15, 0, .sh, 0⟩
/-- SE_CH_SH_TRS_LO.lo (spec/12 R459). -/
def SE_CH_SH_TRS_LO_lo : Fld := ⟨0x128, 31, 0, .sh, 0⟩
/-- SE_CH_SH_TRS_HI.overflow (spec/12 R459). -/
def SE_CH_SH_TRS_HI_overflow : Fld := ⟨0x12C, 31, 31, .sh, 0⟩
/-- SE_CH_SH_TRS_HI.hi (spec/12 R459). -/
def SE_CH_SH_TRS_HI_hi : Fld := ⟨0x12C, 15, 0, .sh, 0⟩
/-- SE_CH_SH_TXLINES_LO.lo (spec/12 R459). -/
def SE_CH_SH_TXLINES_LO_lo : Fld := ⟨0x130, 31, 0, .sh, 0⟩
/-- SE_CH_SH_TXLINES_HI.overflow (spec/12 R459). -/
def SE_CH_SH_TXLINES_HI_overflow : Fld := ⟨0x134, 31, 31, .sh, 0⟩
/-- SE_CH_SH_TXLINES_HI.hi (spec/12 R459). -/
def SE_CH_SH_TXLINES_HI_hi : Fld := ⟨0x134, 15, 0, .sh, 0⟩
/-- SE_CH_SH_BLACK_LO.lo (spec/12 R459). -/
def SE_CH_SH_BLACK_LO_lo : Fld := ⟨0x138, 31, 0, .sh, 0⟩
/-- SE_CH_SH_BLACK_HI.overflow (spec/12 R459). -/
def SE_CH_SH_BLACK_HI_overflow : Fld := ⟨0x13C, 31, 31, .sh, 0⟩
/-- SE_CH_SH_BLACK_HI.hi (spec/12 R459). -/
def SE_CH_SH_BLACK_HI_hi : Fld := ⟨0x13C, 15, 0, .sh, 0⟩
/-- SE_PORT_STAT.link_up (spec/12 R459). -/
def SE_PORT_STAT_link_up : Fld := ⟨0x400, 31, 31, .lv, 0⟩
/-- SE_PORT_STAT.local_fault (spec/12 R459). -/
def SE_PORT_STAT_local_fault : Fld := ⟨0x400, 30, 30, .lv, 0⟩
/-- SE_PORT_STAT.remote_fault (spec/12 R459). -/
def SE_PORT_STAT_remote_fault : Fld := ⟨0x400, 29, 29, .lv, 0⟩
/-- SE_PORT_STAT.fec_lock (spec/12 R459). -/
def SE_PORT_STAT_fec_lock : Fld := ⟨0x400, 28, 28, .lv, 0⟩
/-- SE_PORT_STAT.link_down (spec/12 R459). -/
def SE_PORT_STAT_link_down : Fld := ⟨0x400, 10, 10, .w1c, 0⟩
/-- SE_PORT_STAT.fec_uncorr (spec/12 R459). -/
def SE_PORT_STAT_fec_uncorr : Fld := ⟨0x400, 9, 9, .w1c, 0⟩
/-- SE_PORT_STAT.bad_frame (spec/12 R459). -/
def SE_PORT_STAT_bad_frame : Fld := ⟨0x400, 8, 8, .w1c, 0⟩
/-- SE_PORT_CFG.word2 (spec/12 R459). -/
def SE_PORT_CFG_word2 : Fld := ⟨0x404, 31, 0, .ro, 0⟩
/-- SE_PORT_SH_BAD_LO.lo (spec/12 R459). -/
def SE_PORT_SH_BAD_LO_lo : Fld := ⟨0x408, 31, 0, .sh, 0⟩
/-- SE_PORT_SH_BAD_HI.overflow (spec/12 R459). -/
def SE_PORT_SH_BAD_HI_overflow : Fld := ⟨0x40C, 31, 31, .sh, 0⟩
/-- SE_PORT_SH_BAD_HI.hi (spec/12 R459). -/
def SE_PORT_SH_BAD_HI_hi : Fld := ⟨0x40C, 15, 0, .sh, 0⟩
/-- SE_PORT_SH_CORR_LO.lo (spec/12 R459). -/
def SE_PORT_SH_CORR_LO_lo : Fld := ⟨0x410, 31, 0, .sh, 0⟩
/-- SE_PORT_SH_CORR_HI.overflow (spec/12 R459). -/
def SE_PORT_SH_CORR_HI_overflow : Fld := ⟨0x414, 31, 31, .sh, 0⟩
/-- SE_PORT_SH_CORR_HI.hi (spec/12 R459). -/
def SE_PORT_SH_CORR_HI_hi : Fld := ⟨0x414, 15, 0, .sh, 0⟩
/-- SE_PORT_SH_UNCORR_LO.lo (spec/12 R459). -/
def SE_PORT_SH_UNCORR_LO_lo : Fld := ⟨0x418, 31, 0, .sh, 0⟩
/-- SE_PORT_SH_UNCORR_HI.overflow (spec/12 R459). -/
def SE_PORT_SH_UNCORR_HI_overflow : Fld := ⟨0x41C, 31, 31, .sh, 0⟩
/-- SE_PORT_SH_UNCORR_HI.hi (spec/12 R459). -/
def SE_PORT_SH_UNCORR_HI_hi : Fld := ⟨0x41C, 15, 0, .sh, 0⟩
/-- SE_RXF_STAT.valid (spec/12 R459). -/
def SE_RXF_STAT_valid : Fld := ⟨0x1000, 31, 31, .ro, 0⟩
/-- SE_RXF_STAT.merged (spec/12 R459). -/
def SE_RXF_STAT_merged : Fld := ⟨0x1000, 30, 30, .ro, 0⟩
/-- SE_RXF_STAT.state (spec/12 R459). -/
def SE_RXF_STAT_state : Fld := ⟨0x1000, 29, 28, .lv, 0⟩
/-- SE_RXF_STAT.leg_gap (spec/12 R459). -/
def SE_RXF_STAT_leg_gap : Fld := ⟨0x1000, 2, 2, .w1c, 0⟩
/-- SE_RXF_STAT.gap (spec/12 R459). -/
def SE_RXF_STAT_gap : Fld := ⟨0x1000, 1, 1, .w1c, 0⟩
/-- SE_RXF_STAT.lost (spec/12 R459). -/
def SE_RXF_STAT_lost : Fld := ⟨0x1000, 0, 0, .w1c, 0⟩
/-- SE_RXF_SH_PKTS_LO.lo (spec/12 R459). -/
def SE_RXF_SH_PKTS_LO_lo : Fld := ⟨0x1008, 31, 0, .sh, 0⟩
/-- SE_RXF_SH_PKTS_HI.overflow (spec/12 R459). -/
def SE_RXF_SH_PKTS_HI_overflow : Fld := ⟨0x100C, 31, 31, .sh, 0⟩
/-- SE_RXF_SH_PKTS_HI.hi (spec/12 R459). -/
def SE_RXF_SH_PKTS_HI_hi : Fld := ⟨0x100C, 15, 0, .sh, 0⟩
/-- SE_RXF_SH_GAP_LO.lo (spec/12 R459). -/
def SE_RXF_SH_GAP_LO_lo : Fld := ⟨0x1010, 31, 0, .sh, 0⟩
/-- SE_RXF_SH_GAP_HI.overflow (spec/12 R459). -/
def SE_RXF_SH_GAP_HI_overflow : Fld := ⟨0x1014, 31, 31, .sh, 0⟩
/-- SE_RXF_SH_GAP_HI.hi (spec/12 R459). -/
def SE_RXF_SH_GAP_HI_hi : Fld := ⟨0x1014, 15, 0, .sh, 0⟩
/-- SE_RXF_SH_FILL_LO.lo (spec/12 R459). -/
def SE_RXF_SH_FILL_LO_lo : Fld := ⟨0x1018, 31, 0, .sh, 0⟩
/-- SE_RXF_SH_FILL_HI.overflow (spec/12 R459). -/
def SE_RXF_SH_FILL_HI_overflow : Fld := ⟨0x101C, 31, 31, .sh, 0⟩
/-- SE_RXF_SH_FILL_HI.hi (spec/12 R459). -/
def SE_RXF_SH_FILL_HI_hi : Fld := ⟨0x101C, 15, 0, .sh, 0⟩
/-- SE_TXF_STAT.valid (spec/12 R459). -/
def SE_TXF_STAT_valid : Fld := ⟨0x3000, 31, 31, .ro, 0⟩
/-- SE_TXF_STAT.state (spec/12 R459). -/
def SE_TXF_STAT_state : Fld := ⟨0x3000, 29, 28, .lv, 0⟩
/-- SE_TXF_STAT.underrun (spec/12 R459). -/
def SE_TXF_STAT_underrun : Fld := ⟨0x3000, 0, 0, .w1c, 0⟩
/-- SE_TXF_SH_PKTS_LO.lo (spec/12 R459). -/
def SE_TXF_SH_PKTS_LO_lo : Fld := ⟨0x3008, 31, 0, .sh, 0⟩
/-- SE_TXF_SH_PKTS_HI.overflow (spec/12 R459). -/
def SE_TXF_SH_PKTS_HI_overflow : Fld := ⟨0x300C, 31, 31, .sh, 0⟩
/-- SE_TXF_SH_PKTS_HI.hi (spec/12 R459). -/
def SE_TXF_SH_PKTS_HI_hi : Fld := ⟨0x300C, 15, 0, .sh, 0⟩
/-- MCF_STAT.cnt_overflow (spec/12 R460). -/
def MCF_STAT_cnt_overflow : Fld := ⟨0x4, 5, 5, .w1c, 0⟩
/-- MCF_STAT.full (spec/12 R460). -/
def MCF_STAT_full : Fld := ⟨0x4, 4, 4, .w1c, 0⟩
/-- MCF_INFO.entries (spec/12 R460). -/
def MCF_INFO_entries : Fld := ⟨0xC, 31, 16, .ro, 0x1000⟩
/-- MCF_INFO.used (spec/12 R460). -/
def MCF_INFO_used : Fld := ⟨0xC, 12, 0, .lv, 0⟩
/-- MCF_STORE.reserved_kib (spec/12 R460). -/
def MCF_STORE_reserved_kib : Fld := ⟨0x10, 15, 0, .lv, 0⟩
/-- MCF_SH_MISS_LO.lo (spec/12 R460). -/
def MCF_SH_MISS_LO_lo : Fld := ⟨0x20, 31, 0, .sh, 0⟩
/-- MCF_SH_MISS_HI.overflow (spec/12 R460). -/
def MCF_SH_MISS_HI_overflow : Fld := ⟨0x24, 31, 31, .sh, 0⟩
/-- MCF_SH_MISS_HI.hi (spec/12 R460). -/
def MCF_SH_MISS_HI_hi : Fld := ⟨0x24, 15, 0, .sh, 0⟩
/-- PROT_STAT.time_step (spec/13 R484). -/
def PROT_STAT_time_step : Fld := ⟨0x4, 11, 11, .w1c, 0⟩
/-- PROT_STAT.cnt_overflow (spec/13 R484). -/
def PROT_STAT_cnt_overflow : Fld := ⟨0x4, 10, 10, .w1c, 0⟩
/-- PROT_STAT.vrx_breach (spec/13 R484). -/
def PROT_STAT_vrx_breach : Fld := ⟨0x4, 9, 9, .w1c, 0⟩
/-- PROT_STAT.cinst_breach (spec/13 R484). -/
def PROT_STAT_cinst_breach : Fld := ⟨0x4, 8, 8, .w1c, 0⟩
/-- PROT_STAT.ptp_breach (spec/13 R484). -/
def PROT_STAT_ptp_breach : Fld := ⟨0x4, 7, 7, .w1c, 0⟩
/-- PROT_STAT.jit_breach (spec/13 R484). -/
def PROT_STAT_jit_breach : Fld := ⟨0x4, 6, 6, .w1c, 0⟩
/-- PROT_STAT.eye_breach (spec/13 R484). -/
def PROT_STAT_eye_breach : Fld := ⟨0x4, 5, 5, .w1c, 0⟩
/-- PROT_STAT.t_breach (spec/13 R484). -/
def PROT_STAT_t_breach : Fld := ⟨0x4, 4, 4, .w1c, 0⟩
/-- PROT_INFO.lane (spec/13 R484). Reset column: n. -/
def PROT_INFO_lane : Fld := ⟨0xC, 15, 8, .ro, 0⟩
/-- PROT_INFO.native (spec/13 R484). -/
def PROT_INFO_native : Fld := ⟨0xC, 7, 7, .lv, 0⟩
/-- PROT_LIVE.eye_paused (spec/13 R484). -/
def PROT_LIVE_eye_paused : Fld := ⟨0x10, 10, 10, .lv, 0⟩
/-- PROT_LIVE.measuring (spec/13 R484). -/
def PROT_LIVE_measuring : Fld := ⟨0x10, 9, 9, .lv, 0⟩
/-- PROT_LIVE.ref_unlocked (spec/13 R484). -/
def PROT_LIVE_ref_unlocked : Fld := ⟨0x10, 8, 8, .lv, 0⟩
/-- PROT_LIVE.breach (spec/13 R484). -/
def PROT_LIVE_breach : Fld := ⟨0x10, 5, 0, .lv, 0⟩
/-- PROT_CFG.word (spec/13 R484). -/
def PROT_CFG_word : Fld := ⟨0x40, 31, 0, .ro, 0⟩
/-- PROT_C21_TRS.trs_ps (spec/13 R484). -/
def PROT_C21_TRS_trs_ps : Fld := ⟨0x70, 31, 0, .lv, 0⟩
/-- PROT_C21_INFO.cmax_used (spec/13 R484). -/
def PROT_C21_INFO_cmax_used : Fld := ⟨0x74, 31, 16, .lv, 0⟩
/-- PROT_C21_INFO.npackets (spec/13 R484). -/
def PROT_C21_INFO_npackets : Fld := ⟨0x74, 15, 0, .lv, 0⟩
/-- PROT_C21_VLIM.vrx_used (spec/13 R484). -/
def PROT_C21_VLIM_vrx_used : Fld := ⟨0x78, 15, 0, .lv, 0⟩
/-- PROT_SH_STAT.overflow (spec/13 R484). -/
def PROT_SH_STAT_overflow : Fld := ⟨0x80, 31, 31, .sh, 0⟩
/-- PROT_SH_STAT.unlocked (spec/13 R484). -/
def PROT_SH_STAT_unlocked : Fld := ⟨0x80, 30, 30, .sh, 0⟩
/-- PROT_SH_STAT.t_src (spec/13 R484). -/
def PROT_SH_STAT_t_src : Fld := ⟨0x80, 29, 28, .sh, 0⟩
/-- PROT_SH_AT_T0.at (spec/13 R484). -/
def PROT_SH_AT_T0_at : Fld := ⟨0x84, 31, 0, .sh, 0⟩
/-- PROT_SH_AT_T1.at (spec/13 R484). -/
def PROT_SH_AT_T1_at : Fld := ⟨0x88, 31, 0, .sh, 0⟩
/-- PROT_SH_AT_T2.at (spec/13 R484). -/
def PROT_SH_AT_T2_at : Fld := ⟨0x8C, 31, 0, .sh, 0⟩
/-- PROT_SH_T_LAST.v (spec/13 R484). -/
def PROT_SH_T_LAST_v : Fld := ⟨0x90, 31, 0, .sh, 0⟩
/-- PROT_SH_T_MIN.v (spec/13 R484). -/
def PROT_SH_T_MIN_v : Fld := ⟨0x94, 31, 0, .sh, 0x7FFFFFFF⟩
/-- PROT_SH_T_MAX.v (spec/13 R484). -/
def PROT_SH_T_MAX_v : Fld := ⟨0x98, 31, 0, .sh, 0x80000000⟩
/-- PROT_SH_T_SUM_LO.lo (spec/13 R484). -/
def PROT_SH_T_SUM_LO_lo : Fld := ⟨0x9C, 31, 0, .sh, 0⟩
/-- PROT_SH_T_SUM_HI.overflow (spec/13 R484). -/
def PROT_SH_T_SUM_HI_overflow : Fld := ⟨0xA0, 31, 31, .sh, 0⟩
/-- PROT_SH_T_SUM_HI.hi (spec/13 R484). -/
def PROT_SH_T_SUM_HI_hi : Fld := ⟨0xA0, 15, 0, .sh, 0⟩
/-- PROT_SH_T_CNT_LO.lo (spec/13 R484). -/
def PROT_SH_T_CNT_LO_lo : Fld := ⟨0xA4, 31, 0, .sh, 0⟩
/-- PROT_SH_T_CNT_HI.overflow (spec/13 R484). -/
def PROT_SH_T_CNT_HI_overflow : Fld := ⟨0xA8, 31, 31, .sh, 0⟩
/-- PROT_SH_T_CNT_HI.hi (spec/13 R484). -/
def PROT_SH_T_CNT_HI_hi : Fld := ⟨0xA8, 15, 0, .sh, 0⟩
/-- PROT_SH_EYE.h_min (spec/13 R484). -/
def PROT_SH_EYE_h_min : Fld := ⟨0xB0, 31, 24, .sh, 0xFF⟩
/-- PROT_SH_EYE.h_last (spec/13 R484). -/
def PROT_SH_EYE_h_last : Fld := ⟨0xB0, 23, 16, .sh, 0⟩
/-- PROT_SH_EYE.v_min (spec/13 R484). -/
def PROT_SH_EYE_v_min : Fld := ⟨0xB0, 15, 8, .sh, 0xFF⟩
/-- PROT_SH_EYE.v_last (spec/13 R484). -/
def PROT_SH_EYE_v_last : Fld := ⟨0xB0, 7, 0, .sh, 0⟩
/-- PROT_SH_JIT_TJ.max (spec/13 R484). -/
def PROT_SH_JIT_TJ_max : Fld := ⟨0xB4, 31, 16, .sh, 0⟩
/-- PROT_SH_JIT_TJ.last (spec/13 R484). -/
def PROT_SH_JIT_TJ_last : Fld := ⟨0xB4, 15, 0, .sh, 0⟩
/-- PROT_SH_JIT_AJ.max (spec/13 R484). -/
def PROT_SH_JIT_AJ_max : Fld := ⟨0xB8, 31, 16, .sh, 0⟩
/-- PROT_SH_JIT_AJ.last (spec/13 R484). -/
def PROT_SH_JIT_AJ_last : Fld := ⟨0xB8, 15, 0, .sh, 0⟩
/-- PROT_SH_CRC_LO.lo (spec/13 R484). -/
def PROT_SH_CRC_LO_lo : Fld := ⟨0xC0, 31, 0, .sh, 0⟩
/-- PROT_SH_CRC_HI.overflow (spec/13 R484). -/
def PROT_SH_CRC_HI_overflow : Fld := ⟨0xC4, 31, 31, .sh, 0⟩
/-- PROT_SH_CRC_HI.hi (spec/13 R484). -/
def PROT_SH_CRC_HI_hi : Fld := ⟨0xC4, 15, 0, .sh, 0⟩
/-- PROT_SH_ES_LO.lo (spec/13 R484). -/
def PROT_SH_ES_LO_lo : Fld := ⟨0xC8, 31, 0, .sh, 0⟩
/-- PROT_SH_ES_HI.overflow (spec/13 R484). -/
def PROT_SH_ES_HI_overflow : Fld := ⟨0xCC, 31, 31, .sh, 0⟩
/-- PROT_SH_ES_HI.hi (spec/13 R484). -/
def PROT_SH_ES_HI_hi : Fld := ⟨0xCC, 15, 0, .sh, 0⟩
/-- PROT_SH_SES_LO.lo (spec/13 R484). -/
def PROT_SH_SES_LO_lo : Fld := ⟨0xD0, 31, 0, .sh, 0⟩
/-- PROT_SH_SES_HI.overflow (spec/13 R484). -/
def PROT_SH_SES_HI_overflow : Fld := ⟨0xD4, 31, 31, .sh, 0⟩
/-- PROT_SH_SES_HI.hi (spec/13 R484). -/
def PROT_SH_SES_HI_hi : Fld := ⟨0xD4, 15, 0, .sh, 0⟩
/-- PROT_SH_UAS_LO.lo (spec/13 R484). -/
def PROT_SH_UAS_LO_lo : Fld := ⟨0xD8, 31, 0, .sh, 0⟩
/-- PROT_SH_UAS_HI.overflow (spec/13 R484). -/
def PROT_SH_UAS_HI_overflow : Fld := ⟨0xDC, 31, 31, .sh, 0⟩
/-- PROT_SH_UAS_HI.hi (spec/13 R484). -/
def PROT_SH_UAS_HI_hi : Fld := ⟨0xDC, 15, 0, .sh, 0⟩
/-- PROT_SH_SECS_LO.lo (spec/13 R484). -/
def PROT_SH_SECS_LO_lo : Fld := ⟨0xE0, 31, 0, .sh, 0⟩
/-- PROT_SH_SECS_HI.overflow (spec/13 R484). -/
def PROT_SH_SECS_HI_overflow : Fld := ⟨0xE4, 31, 31, .sh, 0⟩
/-- PROT_SH_SECS_HI.hi (spec/13 R484). -/
def PROT_SH_SECS_HI_hi : Fld := ⟨0xE4, 15, 0, .sh, 0⟩
/-- PROT_SH_PTP_LAST.v (spec/13 R484). -/
def PROT_SH_PTP_LAST_v : Fld := ⟨0x100, 31, 0, .sh, 0⟩
/-- PROT_SH_PTP_MIN.v (spec/13 R484). -/
def PROT_SH_PTP_MIN_v : Fld := ⟨0x104, 31, 0, .sh, 0x7FFFFFFF⟩
/-- PROT_SH_PTP_MAX.v (spec/13 R484). -/
def PROT_SH_PTP_MAX_v : Fld := ⟨0x108, 31, 0, .sh, 0x80000000⟩
/-- PROT_SH_PTP_SUM_LO.lo (spec/13 R484). -/
def PROT_SH_PTP_SUM_LO_lo : Fld := ⟨0x10C, 31, 0, .sh, 0⟩
/-- PROT_SH_PTP_SUM_HI.overflow (spec/13 R484). -/
def PROT_SH_PTP_SUM_HI_overflow : Fld := ⟨0x110, 31, 31, .sh, 0⟩
/-- PROT_SH_PTP_SUM_HI.hi (spec/13 R484). -/
def PROT_SH_PTP_SUM_HI_hi : Fld := ⟨0x110, 15, 0, .sh, 0⟩
/-- PROT_SH_PTP_CNT_LO.lo (spec/13 R484). -/
def PROT_SH_PTP_CNT_LO_lo : Fld := ⟨0x114, 31, 0, .sh, 0⟩
/-- PROT_SH_PTP_CNT_HI.overflow (spec/13 R484). -/
def PROT_SH_PTP_CNT_HI_overflow : Fld := ⟨0x118, 31, 31, .sh, 0⟩
/-- PROT_SH_PTP_CNT_HI.hi (spec/13 R484). -/
def PROT_SH_PTP_CNT_HI_hi : Fld := ⟨0x118, 15, 0, .sh, 0⟩
/-- PROT_SH_PTP_DELAY.delay (spec/13 R484). -/
def PROT_SH_PTP_DELAY_delay : Fld := ⟨0x11C, 31, 0, .sh, 0⟩
/-- PROT_SH_PTP_GM_LO.gm (spec/13 R484). -/
def PROT_SH_PTP_GM_LO_gm : Fld := ⟨0x120, 31, 0, .sh, 0⟩
/-- PROT_SH_PTP_GM_HI.gm (spec/13 R484). -/
def PROT_SH_PTP_GM_HI_gm : Fld := ⟨0x124, 31, 0, .sh, 0⟩
/-- PROT_SH_C21_PEAK.cinst_max (spec/13 R484). -/
def PROT_SH_C21_PEAK_cinst_max : Fld := ⟨0x140, 31, 16, .sh, 0⟩
/-- PROT_SH_C21_PEAK.cinst_last (spec/13 R484). -/
def PROT_SH_C21_PEAK_cinst_last : Fld := ⟨0x140, 15, 0, .sh, 0⟩
/-- PROT_SH_C21_VRX.vrx_max (spec/13 R484). -/
def PROT_SH_C21_VRX_vrx_max : Fld := ⟨0x144, 31, 16, .sh, 0⟩
/-- PROT_SH_C21_VRX.vrx_last (spec/13 R484). -/
def PROT_SH_C21_VRX_vrx_last : Fld := ⟨0x144, 15, 0, .sh, 0⟩
/-- PROT_SH_C21_FRAMES_LO.lo (spec/13 R484). -/
def PROT_SH_C21_FRAMES_LO_lo : Fld := ⟨0x148, 31, 0, .sh, 0⟩
/-- PROT_SH_C21_FRAMES_HI.overflow (spec/13 R484). -/
def PROT_SH_C21_FRAMES_HI_overflow : Fld := ⟨0x14C, 31, 31, .sh, 0⟩
/-- PROT_SH_C21_FRAMES_HI.hi (spec/13 R484). -/
def PROT_SH_C21_FRAMES_HI_hi : Fld := ⟨0x14C, 15, 0, .sh, 0⟩
/-- PROT_SH_C21_CBAD_LO.lo (spec/13 R484). -/
def PROT_SH_C21_CBAD_LO_lo : Fld := ⟨0x150, 31, 0, .sh, 0⟩
/-- PROT_SH_C21_CBAD_HI.overflow (spec/13 R484). -/
def PROT_SH_C21_CBAD_HI_overflow : Fld := ⟨0x154, 31, 31, .sh, 0⟩
/-- PROT_SH_C21_CBAD_HI.hi (spec/13 R484). -/
def PROT_SH_C21_CBAD_HI_hi : Fld := ⟨0x154, 15, 0, .sh, 0⟩
/-- PROT_SH_C21_VBAD_LO.lo (spec/13 R484). -/
def PROT_SH_C21_VBAD_LO_lo : Fld := ⟨0x158, 31, 0, .sh, 0⟩
/-- PROT_SH_C21_VBAD_HI.overflow (spec/13 R484). -/
def PROT_SH_C21_VBAD_HI_overflow : Fld := ⟨0x15C, 31, 31, .sh, 0⟩
/-- PROT_SH_C21_VBAD_HI.hi (spec/13 R484). -/
def PROT_SH_C21_VBAD_HI_hi : Fld := ⟨0x15C, 15, 0, .sh, 0⟩
/-- EDGE_STAT.cnt_overflow (spec/14 R513). -/
def EDGE_STAT_cnt_overflow : Fld := ⟨0x4, 11, 11, .w1c, 0⟩
/-- EDGE_STAT.split (spec/14 R513). -/
def EDGE_STAT_split : Fld := ⟨0x4, 10, 10, .w1c, 0⟩
/-- EDGE_STAT.step_drop (spec/14 R513). -/
def EDGE_STAT_step_drop : Fld := ⟨0x4, 9, 9, .w1c, 0⟩
/-- EDGE_STAT.lane_retired (spec/14 R513). -/
def EDGE_STAT_lane_retired : Fld := ⟨0x4, 8, 8, .w1c, 0⟩
/-- EDGE_STAT.state (spec/14 R513). -/
def EDGE_STAT_state : Fld := ⟨0x4, 7, 4, .lv, 0⟩
/-- EDGE_INFO.edge (spec/14 R513). Reset column: per edge. -/
def EDGE_INFO_edge : Fld := ⟨0xC, 31, 29, .ro, 0⟩
/-- EDGE_INFO.waveguides (spec/14 R513). Reset column: 16 or 4. -/
def EDGE_INFO_waveguides : Fld := ⟨0xC, 28, 24, .ro, 0⟩
/-- EDGE_INFO.step (spec/14 R513). -/
def EDGE_INFO_step : Fld := ⟨0xC, 17, 16, .lv, 0⟩
/-- EDGE_INFO.lanes (spec/14 R513). -/
def EDGE_INFO_lanes : Fld := ⟨0xC, 8, 0, .lv, 0⟩
/-- EDGE_WG.working (spec/14 R513). -/
def EDGE_WG_working : Fld := ⟨0x20, 22, 18, .lv, 0x12⟩
/-- EDGE_WG.retired (spec/14 R513). -/
def EDGE_WG_retired : Fld := ⟨0x20, 17, 0, .ro, 0⟩
/-- EDGE_SH_REPLAY_LO.lo (spec/14 R513). -/
def EDGE_SH_REPLAY_LO_lo : Fld := ⟨0x80, 31, 0, .sh, 0⟩
/-- EDGE_SH_REPLAY_HI.overflow (spec/14 R513). -/
def EDGE_SH_REPLAY_HI_overflow : Fld := ⟨0x84, 31, 31, .sh, 0⟩
/-- EDGE_SH_REPLAY_HI.hi (spec/14 R513). -/
def EDGE_SH_REPLAY_HI_hi : Fld := ⟨0x84, 15, 0, .sh, 0⟩
/-- EDGE_SH_LANEERR_LO.lo (spec/14 R513). -/
def EDGE_SH_LANEERR_LO_lo : Fld := ⟨0x88, 31, 0, .sh, 0⟩
/-- EDGE_SH_LANEERR_HI.overflow (spec/14 R513). -/
def EDGE_SH_LANEERR_HI_overflow : Fld := ⟨0x8C, 31, 31, .sh, 0⟩
/-- EDGE_SH_LANEERR_HI.hi (spec/14 R513). -/
def EDGE_SH_LANEERR_HI_hi : Fld := ⟨0x8C, 15, 0, .sh, 0⟩
/-- EDGE_SH_RETRAIN_LO.lo (spec/14 R513). -/
def EDGE_SH_RETRAIN_LO_lo : Fld := ⟨0x90, 31, 0, .sh, 0⟩
/-- EDGE_SH_RETRAIN_HI.overflow (spec/14 R513). -/
def EDGE_SH_RETRAIN_HI_overflow : Fld := ⟨0x94, 31, 31, .sh, 0⟩
/-- EDGE_SH_RETRAIN_HI.hi (spec/14 R513). -/
def EDGE_SH_RETRAIN_HI_hi : Fld := ⟨0x94, 15, 0, .sh, 0⟩
/-- EDGE_SH_WAIT_LO.lo (spec/14 R513). -/
def EDGE_SH_WAIT_LO_lo : Fld := ⟨0x98, 31, 0, .sh, 0⟩
/-- EDGE_SH_WAIT_HI.overflow (spec/14 R513). -/
def EDGE_SH_WAIT_HI_overflow : Fld := ⟨0x9C, 31, 31, .sh, 0⟩
/-- EDGE_SH_WAIT_HI.hi (spec/14 R513). -/
def EDGE_SH_WAIT_HI_hi : Fld := ⟨0x9C, 15, 0, .sh, 0⟩
/-- SHE_STAT.cnt_overflow (spec/14 R514). -/
def SHE_STAT_cnt_overflow : Fld := ⟨0x4, 4, 4, .w1c, 0⟩
/-- SHE_B.state (spec/14 R514). -/
def SHE_B_state : Fld := ⟨0x20, 31, 30, .lv, 0⟩
/-- SHE_B.spared (spec/14 R514). -/
def SHE_B_spared : Fld := ⟨0x20, 29, 29, .w1c, 0⟩
/-- SHE_B.exhausted (spec/14 R514). -/
def SHE_B_exhausted : Fld := ⟨0x20, 28, 28, .w1c, 0⟩
/-- SHE_B.working (spec/14 R514). -/
def SHE_B_working : Fld := ⟨0x20, 13, 8, .lv, 0x3A⟩
/-- SHE_B.spares_left (spec/14 R514). -/
def SHE_B_spares_left : Fld := ⟨0x20, 1, 0, .lv, 2⟩
/-- SHE_SH_REPLAY_LO.lo (spec/14 R514). -/
def SHE_SH_REPLAY_LO_lo : Fld := ⟨0x80, 31, 0, .sh, 0⟩
/-- SHE_SH_REPLAY_HI.overflow (spec/14 R514). -/
def SHE_SH_REPLAY_HI_overflow : Fld := ⟨0x84, 31, 31, .sh, 0⟩
/-- SHE_SH_REPLAY_HI.hi (spec/14 R514). -/
def SHE_SH_REPLAY_HI_hi : Fld := ⟨0x84, 15, 0, .sh, 0⟩
/-- LAMP_STAT.cnt_overflow (spec/14 R515). -/
def LAMP_STAT_cnt_overflow : Fld := ⟨0x4, 13, 13, .w1c, 0⟩
/-- LAMP_STAT.swapped (spec/14 R515). -/
def LAMP_STAT_swapped : Fld := ⟨0x4, 12, 12, .w1c, 0⟩
/-- LAMP_STAT.line_low (spec/14 R515). -/
def LAMP_STAT_line_low : Fld := ⟨0x4, 11, 11, .w1c, 0⟩
/-- LAMP_STAT.line_lost (spec/14 R515). -/
def LAMP_STAT_line_lost : Fld := ⟨0x4, 10, 10, .w1c, 0⟩
/-- LAMP_STAT.link_fail (spec/14 R515). -/
def LAMP_STAT_link_fail : Fld := ⟨0x4, 9, 9, .w1c, 0⟩
/-- LAMP_STAT.overtemp (spec/14 R515). -/
def LAMP_STAT_overtemp : Fld := ⟨0x4, 8, 8, .w1c, 0⟩
/-- LAMP_STAT.state (spec/14 R515). -/
def LAMP_STAT_state : Fld := ⟨0x4, 7, 4, .lv, 0⟩
/-- LAMP_INFO.lines (spec/14 R515). Reset column: 0x3_FFFF for A, 0 for B. -/
def LAMP_INFO_lines : Fld := ⟨0xC, 17, 0, .lv, 0⟩
/-- LAMP_TEMP.temp (spec/14 R515). Reset column: —. -/
def LAMP_TEMP_temp : Fld := ⟨0x10, 11, 0, .lv, 0⟩
/-- LAMP_LINE.lost (spec/14 R515). -/
def LAMP_LINE_lost : Fld := ⟨0x40, 31, 31, .lv, 0⟩
/-- LAMP_LINE.low (spec/14 R515). -/
def LAMP_LINE_low : Fld := ⟨0x40, 30, 30, .lv, 0⟩
/-- LAMP_LINE.power (spec/14 R515). -/
def LAMP_LINE_power : Fld := ⟨0x40, 29, 16, .lv, 0⟩
/-- LAMP_LINE.offset (spec/14 R515). -/
def LAMP_LINE_offset : Fld := ⟨0x40, 15, 0, .lv, 0⟩
/-- LAMP_SH_SWAPS_LO.lo (spec/14 R515). -/
def LAMP_SH_SWAPS_LO_lo : Fld := ⟨0xC0, 31, 0, .sh, 0⟩
/-- LAMP_SH_SWAPS_HI.overflow (spec/14 R515). -/
def LAMP_SH_SWAPS_HI_overflow : Fld := ⟨0xC4, 31, 31, .sh, 0⟩
/-- LAMP_SH_SWAPS_HI.hi (spec/14 R515). -/
def LAMP_SH_SWAPS_HI_hi : Fld := ⟨0xC4, 15, 0, .sh, 0⟩
/-- LAMP_SH_LOST_LO.lo (spec/14 R515). -/
def LAMP_SH_LOST_LO_lo : Fld := ⟨0xC8, 31, 0, .sh, 0⟩
/-- LAMP_SH_LOST_HI.overflow (spec/14 R515). -/
def LAMP_SH_LOST_HI_overflow : Fld := ⟨0xCC, 31, 31, .sh, 0⟩
/-- LAMP_SH_LOST_HI.hi (spec/14 R515). -/
def LAMP_SH_LOST_HI_hi : Fld := ⟨0xCC, 15, 0, .sh, 0⟩
/-- UCIE_STAT.cnt_overflow (spec/14 R516). -/
def UCIE_STAT_cnt_overflow : Fld := ⟨0x4, 9, 9, .w1c, 0⟩
/-- UCIE_STAT.partner_event (spec/14 R516). -/
def UCIE_STAT_partner_event : Fld := ⟨0x4, 8, 8, .w1c, 0⟩
/-- UCIE_STAT.id_mismatch (spec/14 R516). -/
def UCIE_STAT_id_mismatch : Fld := ⟨0x4, 7, 7, .w1c, 0⟩
/-- UCIE_STAT.rate_down (spec/14 R516). -/
def UCIE_STAT_rate_down : Fld := ⟨0x4, 6, 6, .w1c, 0⟩
/-- UCIE_STAT.module_lost (spec/14 R516). -/
def UCIE_STAT_module_lost : Fld := ⟨0x4, 5, 5, .w1c, 0⟩
/-- UCIE_STAT.lane_repaired (spec/14 R516). -/
def UCIE_STAT_lane_repaired : Fld := ⟨0x4, 4, 4, .w1c, 0⟩
/-- UCIE_LINK.state (spec/14 R516). -/
def UCIE_LINK_state : Fld := ⟨0xC, 31, 28, .lv, 1⟩
/-- UCIE_LINK.rate (spec/14 R516). -/
def UCIE_LINK_rate : Fld := ⟨0xC, 21, 16, .lv, 0⟩
/-- UCIE_LINK.modules (spec/14 R516). -/
def UCIE_LINK_modules : Fld := ⟨0xC, 1, 0, .lv, 0⟩
/-- UCIE_REPAIR.m1_rx (spec/14 R516). -/
def UCIE_REPAIR_m1_rx : Fld := ⟨0x10, 31, 24, .lv, 0⟩
/-- UCIE_REPAIR.m1_tx (spec/14 R516). -/
def UCIE_REPAIR_m1_tx : Fld := ⟨0x10, 23, 16, .lv, 0⟩
/-- UCIE_REPAIR.m0_rx (spec/14 R516). -/
def UCIE_REPAIR_m0_rx : Fld := ⟨0x10, 15, 8, .lv, 0⟩
/-- UCIE_REPAIR.m0_tx (spec/14 R516). -/
def UCIE_REPAIR_m0_tx : Fld := ⟨0x10, 7, 0, .lv, 0⟩
/-- UCIE_SH_CRC_LO.lo (spec/14 R516). -/
def UCIE_SH_CRC_LO_lo : Fld := ⟨0x80, 31, 0, .sh, 0⟩
/-- UCIE_SH_CRC_HI.overflow (spec/14 R516). -/
def UCIE_SH_CRC_HI_overflow : Fld := ⟨0x84, 31, 31, .sh, 0⟩
/-- UCIE_SH_CRC_HI.hi (spec/14 R516). -/
def UCIE_SH_CRC_HI_hi : Fld := ⟨0x84, 15, 0, .sh, 0⟩
/-- UCIE_SH_RESEND_LO.lo (spec/14 R516). -/
def UCIE_SH_RESEND_LO_lo : Fld := ⟨0x88, 31, 0, .sh, 0⟩
/-- UCIE_SH_RESEND_HI.overflow (spec/14 R516). -/
def UCIE_SH_RESEND_HI_overflow : Fld := ⟨0x8C, 31, 31, .sh, 0⟩
/-- UCIE_SH_RESEND_HI.hi (spec/14 R516). -/
def UCIE_SH_RESEND_HI_hi : Fld := ⟨0x8C, 15, 0, .sh, 0⟩
/-- UCIE_SH_REFUSED_LO.lo (spec/14 R516). -/
def UCIE_SH_REFUSED_LO_lo : Fld := ⟨0x90, 31, 0, .sh, 0⟩
/-- UCIE_SH_REFUSED_HI.overflow (spec/14 R516). -/
def UCIE_SH_REFUSED_HI_overflow : Fld := ⟨0x94, 31, 31, .sh, 0⟩
/-- UCIE_SH_REFUSED_HI.hi (spec/14 R516). -/
def UCIE_SH_REFUSED_HI_hi : Fld := ⟨0x94, 15, 0, .sh, 0⟩
/-- PSYS_STAT.refused (spec/14 R516). -/
def PSYS_STAT_refused : Fld := ⟨0x4, 7, 7, .w1c, 0⟩
/-- PSYS_STAT.write_refused (spec/14 R516). -/
def PSYS_STAT_write_refused : Fld := ⟨0x4, 6, 6, .w1c, 0⟩
/-- PSYS_STAT.fenced (spec/14 R516). -/
def PSYS_STAT_fenced : Fld := ⟨0x4, 5, 5, .lv, 1⟩
/-- PSYS_ID.vendor (spec/14 R516). -/
def PSYS_ID_vendor : Fld := ⟨0xC, 31, 16, .ro, 0⟩
/-- PSYS_ID.die_code (spec/14 R516). -/
def PSYS_ID_die_code : Fld := ⟨0xC, 15, 8, .ro, 0⟩
/-- PSYS_ID.revision (spec/14 R516). -/
def PSYS_ID_revision : Fld := ⟨0xC, 7, 0, .ro, 0⟩
/-- PSYS_PWR.max_power (spec/14 R516). -/
def PSYS_PWR_max_power : Fld := ⟨0x10, 15, 0, .ro, 0⟩
/-- PSYS_WIN_BASE.valid (spec/14 R516). -/
def PSYS_WIN_BASE_valid : Fld := ⟨0x100, 31, 31, .rw, 0⟩
/-- PSYS_WIN_BASE.read (spec/14 R516). -/
def PSYS_WIN_BASE_read : Fld := ⟨0x100, 30, 30, .rw, 0⟩
/-- PSYS_WIN_BASE.write (spec/14 R516). -/
def PSYS_WIN_BASE_write : Fld := ⟨0x100, 29, 29, .rw, 0⟩
/-- PSYS_WIN_BASE.base (spec/14 R516). -/
def PSYS_WIN_BASE_base : Fld := ⟨0x100, 27, 0, .rw, 0⟩
/-- PSYS_WIN_LIMIT.limit (spec/14 R516). -/
def PSYS_WIN_LIMIT_limit : Fld := ⟨0x104, 27, 0, .rw, 0⟩
/-- FMC_STAT.cnt_overflow (spec/15 R544). -/
def FMC_STAT_cnt_overflow : Fld := ⟨0x4, 8, 8, .w1c, 0⟩
/-- FMC_STAT.row_fault (spec/15 R544). -/
def FMC_STAT_row_fault : Fld := ⟨0x4, 7, 7, .w1c, 0⟩
/-- FMC_STAT.uncorrectable (spec/15 R544). -/
def FMC_STAT_uncorrectable : Fld := ⟨0x4, 6, 6, .w1c, 0⟩
/-- FMC_STAT.corrected (spec/15 R544). -/
def FMC_STAT_corrected : Fld := ⟨0x4, 5, 5, .w1c, 0⟩
/-- FMC_STAT.ch_retired (spec/15 R544). -/
def FMC_STAT_ch_retired : Fld := ⟨0x4, 4, 4, .w1c, 0⟩
/-- FMC_INFO.state (spec/15 R544). -/
def FMC_INFO_state : Fld := ⟨0xC, 31, 28, .lv, 1⟩
/-- FMC_INFO.ch_ok (spec/15 R544). -/
def FMC_INFO_ch_ok : Fld := ⟨0xC, 15, 0, .lv, 0xFFFF⟩
/-- FMC_TEMP.hot (spec/15 R544). -/
def FMC_TEMP_hot : Fld := ⟨0x10, 12, 12, .lv, 0⟩
/-- FMC_TEMP.temp (spec/15 R544). Reset column: —. -/
def FMC_TEMP_temp : Fld := ⟨0x10, 11, 0, .lv, 0⟩
/-- FMC_ROW.channel (spec/15 R544). -/
def FMC_ROW_channel : Fld := ⟨0x14, 31, 28, .ro, 0⟩
/-- FMC_ROW.bank (spec/15 R544). -/
def FMC_ROW_bank : Fld := ⟨0x14, 27, 24, .ro, 0⟩
/-- FMC_ROW.row (spec/15 R544). -/
def FMC_ROW_row : Fld := ⟨0x14, 23, 12, .ro, 0⟩
/-- FMC_CH.state (spec/15 R544). -/
def FMC_CH_state : Fld := ⟨0x20, 31, 30, .lv, 2⟩
/-- FMC_CH.spared (spec/15 R544). -/
def FMC_CH_spared : Fld := ⟨0x20, 29, 29, .w1c, 0⟩
/-- FMC_CH.exhausted (spec/15 R544). -/
def FMC_CH_exhausted : Fld := ⟨0x20, 28, 28, .w1c, 0⟩
/-- FMC_CH.cause (spec/15 R544). -/
def FMC_CH_cause : Fld := ⟨0x20, 27, 24, .ro, 0⟩
/-- FMC_CH.spares_left (spec/15 R544). -/
def FMC_CH_spares_left : Fld := ⟨0x20, 1, 0, .lv, 2⟩
/-- FMC_SH_RD_LO.lo (spec/15 R544). -/
def FMC_SH_RD_LO_lo : Fld := ⟨0x80, 31, 0, .sh, 0⟩
/-- FMC_SH_RD_HI.overflow (spec/15 R544). -/
def FMC_SH_RD_HI_overflow : Fld := ⟨0x84, 31, 31, .sh, 0⟩
/-- FMC_SH_RD_HI.hi (spec/15 R544). -/
def FMC_SH_RD_HI_hi : Fld := ⟨0x84, 15, 0, .sh, 0⟩
/-- FMC_SH_WR_LO.lo (spec/15 R544). -/
def FMC_SH_WR_LO_lo : Fld := ⟨0x88, 31, 0, .sh, 0⟩
/-- FMC_SH_WR_HI.overflow (spec/15 R544). -/
def FMC_SH_WR_HI_overflow : Fld := ⟨0x8C, 31, 31, .sh, 0⟩
/-- FMC_SH_WR_HI.hi (spec/15 R544). -/
def FMC_SH_WR_HI_hi : Fld := ⟨0x8C, 15, 0, .sh, 0⟩
/-- FMC_SH_CORR_LO.lo (spec/15 R544). -/
def FMC_SH_CORR_LO_lo : Fld := ⟨0x90, 31, 0, .sh, 0⟩
/-- FMC_SH_CORR_HI.overflow (spec/15 R544). -/
def FMC_SH_CORR_HI_overflow : Fld := ⟨0x94, 31, 31, .sh, 0⟩
/-- FMC_SH_CORR_HI.hi (spec/15 R544). -/
def FMC_SH_CORR_HI_hi : Fld := ⟨0x94, 15, 0, .sh, 0⟩
/-- FMC_SH_UNCORR_LO.lo (spec/15 R544). -/
def FMC_SH_UNCORR_LO_lo : Fld := ⟨0x98, 31, 0, .sh, 0⟩
/-- FMC_SH_UNCORR_HI.overflow (spec/15 R544). -/
def FMC_SH_UNCORR_HI_overflow : Fld := ⟨0x9C, 31, 31, .sh, 0⟩
/-- FMC_SH_UNCORR_HI.hi (spec/15 R544). -/
def FMC_SH_UNCORR_HI_hi : Fld := ⟨0x9C, 15, 0, .sh, 0⟩
/-- FMC_SH_REPLAY_LO.lo (spec/15 R544). -/
def FMC_SH_REPLAY_LO_lo : Fld := ⟨0xA0, 31, 0, .sh, 0⟩
/-- FMC_SH_REPLAY_HI.overflow (spec/15 R544). -/
def FMC_SH_REPLAY_HI_overflow : Fld := ⟨0xA4, 31, 31, .sh, 0⟩
/-- FMC_SH_REPLAY_HI.hi (spec/15 R544). -/
def FMC_SH_REPLAY_HI_hi : Fld := ⟨0xA4, 15, 0, .sh, 0⟩
/-- SEAL_STAT.cnt_overflow (spec/15 R545). -/
def SEAL_STAT_cnt_overflow : Fld := ⟨0x4, 9, 9, .w1c, 0⟩
/-- SEAL_STAT.list_full (spec/15 R545). -/
def SEAL_STAT_list_full : Fld := ⟨0x4, 8, 8, .w1c, 0⟩
/-- SEAL_STAT.partial_refused (spec/15 R545). -/
def SEAL_STAT_partial_refused : Fld := ⟨0x4, 7, 7, .w1c, 0⟩
/-- SEAL_STAT.refused (spec/15 R545). -/
def SEAL_STAT_refused : Fld := ⟨0x4, 6, 6, .w1c, 0⟩
/-- SEAL_STAT.poisoned (spec/15 R545). -/
def SEAL_STAT_poisoned : Fld := ⟨0x4, 5, 5, .w1c, 0⟩
/-- SEAL_STAT.sweep_done (spec/15 R545). -/
def SEAL_STAT_sweep_done : Fld := ⟨0x4, 4, 4, .w1c, 0⟩
/-- SEAL_INFO.early_used (spec/15 R545). -/
def SEAL_INFO_early_used : Fld := ⟨0xC, 14, 8, .lv, 0⟩
/-- SEAL_INFO.poison_used (spec/15 R545). -/
def SEAL_INFO_poison_used : Fld := ⟨0xC, 6, 0, .lv, 0⟩
/-- SEAL_OPEN.rights (spec/15 R545). -/
def SEAL_OPEN_rights : Fld := ⟨0x10, 13, 0, .ro, 0x3CFF⟩
/-- SEAL_POISON.valid (spec/15 R545). -/
def SEAL_POISON_valid : Fld := ⟨0x200, 31, 31, .lv, 0⟩
/-- SEAL_POISON.cause (spec/15 R545). -/
def SEAL_POISON_cause : Fld := ⟨0x200, 30, 29, .ro, 0⟩
/-- SEAL_POISON.line (spec/15 R545). -/
def SEAL_POISON_line : Fld := ⟨0x200, 24, 0, .ro, 0⟩
/-- SEAL_SECT_CFG.enable (spec/15 R545). -/
def SEAL_SECT_CFG_enable : Fld := ⟨0x400, 31, 31, .ro, 0⟩
/-- SEAL_SECT_CFG.sealed (spec/15 R545). -/
def SEAL_SECT_CFG_sealed : Fld := ⟨0x400, 30, 30, .ro, 0⟩
/-- SEAL_SECT_CFG.staging (spec/15 R545). -/
def SEAL_SECT_CFG_staging : Fld := ⟨0x400, 29, 29, .ro, 0⟩
/-- SEAL_SECT_CFG.rights (spec/15 R545). -/
def SEAL_SECT_CFG_rights : Fld := ⟨0x400, 13, 0, .ro, 0⟩
/-- SEAL_SECT_RANGE.limit (spec/15 R545). -/
def SEAL_SECT_RANGE_limit : Fld := ⟨0x404, 30, 16, .ro, 0⟩
/-- SEAL_SECT_RANGE.base (spec/15 R545). -/
def SEAL_SECT_RANGE_base : Fld := ⟨0x404, 14, 0, .ro, 0⟩
/-- SEAL_SECT_STAT.state (spec/15 R545). -/
def SEAL_SECT_STAT_state : Fld := ⟨0x408, 7, 4, .lv, 0⟩
/-- SEAL_SECT_STAT.fast (spec/15 R545). -/
def SEAL_SECT_STAT_fast : Fld := ⟨0x408, 0, 0, .lv, 0⟩
/-- SEAL_SECT_EPOCH.epoch (spec/15 R545). -/
def SEAL_SECT_EPOCH_epoch : Fld := ⟨0x40C, 31, 0, .ro, 0⟩
/-- SEAL_SECT_PTR.line (spec/15 R545). -/
def SEAL_SECT_PTR_line : Fld := ⟨0x410, 24, 0, .lv, 0⟩
/-- SEAL_SH_TAGFAIL_LO.lo (spec/15 R545). -/
def SEAL_SH_TAGFAIL_LO_lo : Fld := ⟨0x80, 31, 0, .sh, 0⟩
/-- SEAL_SH_TAGFAIL_HI.overflow (spec/15 R545). -/
def SEAL_SH_TAGFAIL_HI_overflow : Fld := ⟨0x84, 31, 31, .sh, 0⟩
/-- SEAL_SH_TAGFAIL_HI.hi (spec/15 R545). -/
def SEAL_SH_TAGFAIL_HI_hi : Fld := ⟨0x84, 15, 0, .sh, 0⟩
/-- SEAL_SH_RETRYOK_LO.lo (spec/15 R545). -/
def SEAL_SH_RETRYOK_LO_lo : Fld := ⟨0x88, 31, 0, .sh, 0⟩
/-- SEAL_SH_RETRYOK_HI.overflow (spec/15 R545). -/
def SEAL_SH_RETRYOK_HI_overflow : Fld := ⟨0x8C, 31, 31, .sh, 0⟩
/-- SEAL_SH_RETRYOK_HI.hi (spec/15 R545). -/
def SEAL_SH_RETRYOK_HI_hi : Fld := ⟨0x8C, 15, 0, .sh, 0⟩
/-- SEAL_SH_POISONRD_LO.lo (spec/15 R545). -/
def SEAL_SH_POISONRD_LO_lo : Fld := ⟨0x90, 31, 0, .sh, 0⟩
/-- SEAL_SH_POISONRD_HI.overflow (spec/15 R545). -/
def SEAL_SH_POISONRD_HI_overflow : Fld := ⟨0x94, 31, 31, .sh, 0⟩
/-- SEAL_SH_POISONRD_HI.hi (spec/15 R545). -/
def SEAL_SH_POISONRD_HI_hi : Fld := ⟨0x94, 15, 0, .sh, 0⟩
/-- SEAL_SH_REFUSED_LO.lo (spec/15 R545). -/
def SEAL_SH_REFUSED_LO_lo : Fld := ⟨0x98, 31, 0, .sh, 0⟩
/-- SEAL_SH_REFUSED_HI.overflow (spec/15 R545). -/
def SEAL_SH_REFUSED_HI_overflow : Fld := ⟨0x9C, 31, 31, .sh, 0⟩
/-- SEAL_SH_REFUSED_HI.hi (spec/15 R545). -/
def SEAL_SH_REFUSED_HI_hi : Fld := ⟨0x9C, 15, 0, .sh, 0⟩
/-- SEAL_SH_SWEPT_LO.lo (spec/15 R545). -/
def SEAL_SH_SWEPT_LO_lo : Fld := ⟨0xA0, 31, 0, .sh, 0⟩
/-- SEAL_SH_SWEPT_HI.overflow (spec/15 R545). -/
def SEAL_SH_SWEPT_HI_overflow : Fld := ⟨0xA4, 31, 31, .sh, 0⟩
/-- SEAL_SH_SWEPT_HI.hi (spec/15 R545). -/
def SEAL_SH_SWEPT_HI_hi : Fld := ⟨0xA4, 15, 0, .sh, 0⟩
/-- CUE_STAT.kick_refused (spec/16 R574). -/
def CUE_STAT_kick_refused : Fld := ⟨0x4, 11, 11, .w1c, 0⟩
/-- CUE_STAT.wdt_reset (spec/16 R574). -/
def CUE_STAT_wdt_reset : Fld := ⟨0x4, 10, 10, .w1c, 0⟩
/-- CUE_STAT.wdt_expired (spec/16 R574). -/
def CUE_STAT_wdt_expired : Fld := ⟨0x4, 9, 9, .w1c, 0⟩
/-- CUE_STAT.faulted (spec/16 R574). -/
def CUE_STAT_faulted : Fld := ⟨0x4, 8, 8, .w1c, 0⟩
/-- CUE_STAT.state (spec/16 R574). -/
def CUE_STAT_state : Fld := ⟨0x4, 7, 4, .lv, 1⟩
/-- CUE_INFO.core (spec/16 R574). Reset column: n. -/
def CUE_INFO_core : Fld := ⟨0xC, 2, 0, .ro, 0⟩
/-- CUE_ENTRY_LO.entry (spec/16 R574). Reset column: 0x0080_0000 + n × 0x2_0000, bits [31:1]. -/
def CUE_ENTRY_LO_entry : Fld := ⟨0x10, 31, 1, .rw, 0⟩
/-- CUE_ENTRY_HI.entry (spec/16 R574). -/
def CUE_ENTRY_HI_entry : Fld := ⟨0x14, 7, 0, .rw, 0x70⟩
/-- CUE_WDT_CFG.enable (spec/16 R574). -/
def CUE_WDT_CFG_enable : Fld := ⟨0x18, 31, 31, .rw, 0⟩
/-- CUE_WDT_CFG.freeze_on_halt (spec/16 R574). -/
def CUE_WDT_CFG_freeze_on_halt : Fld := ⟨0x18, 30, 30, .rw, 1⟩
/-- CUE_WDT_CFG.lock (spec/16 R574). -/
def CUE_WDT_CFG_lock : Fld := ⟨0x18, 29, 29, .rw, 0⟩
/-- CUE_WDT_CFG.action (spec/16 R574). -/
def CUE_WDT_CFG_action : Fld := ⟨0x18, 28, 27, .rw, 0⟩
/-- CUE_WDT_CFG.period (spec/16 R574). -/
def CUE_WDT_CFG_period : Fld := ⟨0x18, 23, 0, .rw, 0xF4240⟩
/-- CUE_WDT_COUNT.count (spec/16 R574). -/
def CUE_WDT_COUNT_count : Fld := ⟨0x1C, 23, 0, .lv, 0⟩
/-- CUE_WDT_KICK.kick (spec/16 R574). -/
def CUE_WDT_KICK_kick : Fld := ⟨0x20, 0, 0, .cmd, 0⟩
/-- CUE_MSIP.msip (spec/16 R574). -/
def CUE_MSIP_msip : Fld := ⟨0x24, 0, 0, .rw, 0⟩
/-- CUE_MTIMECMP_LO.cmp (spec/16 R574). -/
def CUE_MTIMECMP_LO_cmp : Fld := ⟨0x28, 31, 0, .rw, 0xFFFFFFFF⟩
/-- CUE_MTIMECMP_HI.cmp (spec/16 R574). -/
def CUE_MTIMECMP_HI_cmp : Fld := ⟨0x2C, 31, 0, .rw, 0xFFFFFFFF⟩
/-- CUE_CAUSE.interrupt (spec/16 R574). -/
def CUE_CAUSE_interrupt : Fld := ⟨0x30, 31, 31, .ro, 0⟩
/-- CUE_CAUSE.code (spec/16 R574). -/
def CUE_CAUSE_code : Fld := ⟨0x30, 30, 0, .ro, 0⟩
/-- CUE_FAULT_PC_LO.pc (spec/16 R574). -/
def CUE_FAULT_PC_LO_pc : Fld := ⟨0x34, 31, 0, .ro, 0⟩
/-- CUE_FAULT_PC_HI.pc (spec/16 R574). -/
def CUE_FAULT_PC_HI_pc : Fld := ⟨0x38, 31, 0, .ro, 0⟩
/-- CUE_MTIME_LO.mtime (spec/16 R574). -/
def CUE_MTIME_LO_mtime : Fld := ⟨0x40, 31, 0, .lv, 0⟩
/-- CUE_MTIME_HI.mtime (spec/16 R574). -/
def CUE_MTIME_HI_mtime : Fld := ⟨0x44, 31, 0, .lv, 0⟩
/-- MBX_EPOCH.epoch (spec/16 R575). -/
def MBX_EPOCH_epoch : Fld := ⟨0x10, 15, 0, .ro, 0⟩
/-- MB_CFG.enable (spec/16 R575). -/
def MB_CFG_enable : Fld := ⟨0x100, 31, 31, .rw, 0⟩
/-- MB_CFG.receiver (spec/16 R575). -/
def MB_CFG_receiver : Fld := ⟨0x100, 7, 4, .rw, 0⟩
/-- MB_CFG.sender (spec/16 R575). -/
def MB_CFG_sender : Fld := ⟨0x100, 3, 0, .rw, 0⟩
/-- MB_MSG.msg (spec/16 R575). -/
def MB_MSG_msg : Fld := ⟨0x104, 31, 0, .rw, 0⟩
/-- MB_STAT.send_epoch (spec/16 R575). -/
def MB_STAT_send_epoch : Fld := ⟨0x108, 31, 16, .ro, 0⟩
/-- MB_STAT.withdrawn (spec/16 R575). -/
def MB_STAT_withdrawn : Fld := ⟨0x108, 9, 9, .w1c, 0⟩
/-- MB_STAT.receiver_reset (spec/16 R575). -/
def MB_STAT_receiver_reset : Fld := ⟨0x108, 8, 8, .w1c, 0⟩
/-- MB_STAT.refused (spec/16 R575). -/
def MB_STAT_refused : Fld := ⟨0x108, 7, 7, .w1c, 0⟩
/-- MB_STAT.overrun (spec/16 R575). -/
def MB_STAT_overrun : Fld := ⟨0x108, 6, 6, .w1c, 0⟩
/-- MB_STAT.withdraw (spec/16 R575). -/
def MB_STAT_withdraw : Fld := ⟨0x108, 1, 1, .cmd, 0⟩
/-- MB_STAT.full (spec/16 R575). -/
def MB_STAT_full : Fld := ⟨0x108, 0, 0, .lv, 0⟩
/-- MB_DOOR.door (spec/16 R575). -/
def MB_DOOR_door : Fld := ⟨0x10C, 31, 0, .w1c, 0⟩
/-- MB_RING.ring (spec/16 R575). -/
def MB_RING_ring : Fld := ⟨0x110, 31, 0, .cmd, 0⟩
/-- MB_DMASK.mask (spec/16 R575). -/
def MB_DMASK_mask : Fld := ⟨0x114, 31, 0, .rw, 0xFFFFFFFF⟩
/-- MB_ACK.valid (spec/16 R575). -/
def MB_ACK_valid : Fld := ⟨0x118, 31, 31, .w1c, 0⟩
/-- MB_ACK.orphan (spec/16 R575). -/
def MB_ACK_orphan : Fld := ⟨0x118, 30, 30, .ro, 0⟩
/-- MB_ACK.code (spec/16 R575). -/
def MB_ACK_code : Fld := ⟨0x118, 15, 0, .ro, 0⟩
/-- MB_REPLY.code (spec/16 R575). -/
def MB_REPLY_code : Fld := ⟨0x11C, 15, 0, .wo, 0⟩
/-- PWR_STAT.brownout (spec/18 R635). -/
def PWR_STAT_brownout : Fld := ⟨0x4, 6, 6, .w1c, 0⟩
/-- PWR_STAT.warn (spec/18 R635). -/
def PWR_STAT_warn : Fld := ⟨0x4, 5, 5, .w1c, 0⟩
/-- PWR_STAT.therm_trip (spec/18 R635). -/
def PWR_STAT_therm_trip : Fld := ⟨0x4, 4, 4, .w1c, 0⟩
/-- PWR_CAUSE.cause (spec/18 R635). Reset column: hardware. -/
def PWR_CAUSE_cause : Fld := ⟨0xC, 7, 0, .ro, 0⟩
/-- PWR_THERM.trip (spec/18 R635). -/
def PWR_THERM_trip : Fld := ⟨0x10, 31, 31, .lv, 0⟩
/-- PWR_THERM.warn (spec/18 R635). -/
def PWR_THERM_warn : Fld := ⟨0x10, 30, 30, .lv, 0⟩
/-- PWR_THERM.hottest (spec/18 R635). -/
def PWR_THERM_hottest : Fld := ⟨0x10, 19, 16, .lv, 0⟩
/-- PWR_THERM.temp (spec/18 R635). Reset column: —. -/
def PWR_THERM_temp : Fld := ⟨0x10, 12, 0, .lv, 0⟩
/-- PWR_TEMP.valid (spec/18 R635). -/
def PWR_TEMP_valid : Fld := ⟨0x40, 31, 31, .lv, 0⟩
/-- PWR_TEMP.temp (spec/18 R635). Reset column: —. -/
def PWR_TEMP_temp : Fld := ⟨0x40, 12, 0, .lv, 0⟩
/-- PWR_DOM.states (spec/18 R635). Reset column: per R609. -/
def PWR_DOM_states : Fld := ⟨0x100, 31, 0, .lv, 0⟩
/-- PWR_PEND.pending (spec/18 R635). -/
def PWR_PEND_pending : Fld := ⟨0x140, 31, 0, .lv, 0⟩
/-- JRNL_STAT.replaced (spec/18 R636). -/
def JRNL_STAT_replaced : Fld := ⟨0x4, 6, 6, .w1c, 0⟩
/-- JRNL_STAT.lost (spec/18 R636). -/
def JRNL_STAT_lost : Fld := ⟨0x4, 5, 5, .w1c, 0⟩
/-- JRNL_STAT.added (spec/18 R636). -/
def JRNL_STAT_added : Fld := ⟨0x4, 4, 4, .w1c, 0⟩
/-- JRNL_INFO.next_seq (spec/18 R636). -/
def JRNL_INFO_next_seq : Fld := ⟨0xC, 31, 16, .lv, 0⟩
/-- JRNL_INFO.held (spec/18 R636). -/
def JRNL_INFO_held : Fld := ⟨0xC, 9, 0, .lv, 0⟩
/-- JRNL_THRESH.threshold (spec/18 R636). -/
def JRNL_THRESH_threshold : Fld := ⟨0x10, 7, 0, .ro, 0x10⟩
/-- JRNL_SH_LOST_LO.lo (spec/18 R636). -/
def JRNL_SH_LOST_LO_lo : Fld := ⟨0x80, 31, 0, .sh, 0⟩
/-- JRNL_SH_LOST_HI.overflow (spec/18 R636). -/
def JRNL_SH_LOST_HI_overflow : Fld := ⟨0x84, 31, 31, .sh, 0⟩
/-- JRNL_SH_LOST_HI.hi (spec/18 R636). -/
def JRNL_SH_LOST_HI_hi : Fld := ⟨0x84, 15, 0, .sh, 0⟩
/-- DBG_STAT.cnt_overflow (spec/19 R663). -/
def DBG_STAT_cnt_overflow : Fld := ⟨0x4, 9, 9, .w1c, 0⟩
/-- DBG_STAT.export_failed (spec/19 R663). -/
def DBG_STAT_export_failed : Fld := ⟨0x4, 8, 8, .w1c, 0⟩
/-- DBG_STAT.triggered (spec/19 R663). -/
def DBG_STAT_triggered : Fld := ⟨0x4, 7, 7, .w1c, 0⟩
/-- DBG_STAT.denied (spec/19 R663). -/
def DBG_STAT_denied : Fld := ⟨0x4, 6, 6, .w1c, 0⟩
/-- DBG_STAT.rights_ended (spec/19 R663). -/
def DBG_STAT_rights_ended : Fld := ⟨0x4, 5, 5, .w1c, 0⟩
/-- DBG_STAT.auth_failed (spec/19 R663). -/
def DBG_STAT_auth_failed : Fld := ⟨0x4, 4, 4, .w1c, 0⟩
/-- DBG_INFO.main_good (spec/19 R663). -/
def DBG_INFO_main_good : Fld := ⟨0xC, 31, 31, .lv, 0⟩
/-- DBG_INFO.policy (spec/19 R663). Reset column: fuses. -/
def DBG_INFO_policy : Fld := ⟨0xC, 7, 0, .ro, 0⟩
/-- DBG_RIGHTS.seconds (spec/19 R663). -/
def DBG_RIGHTS_seconds : Fld := ⟨0x10, 31, 8, .lv, 0⟩
/-- DBG_RIGHTS.rights (spec/19 R663). -/
def DBG_RIGHTS_rights : Fld := ⟨0x10, 7, 0, .lv, 0⟩
/-- DBG_CTL.relock (spec/19 R663). -/
def DBG_CTL_relock : Fld := ⟨0x14, 31, 31, .cmd, 0⟩
/-- DBG_CTL.owner (spec/19 R663). -/
def DBG_CTL_owner : Fld := ⟨0x14, 0, 0, .rw, 0⟩
/-- DBGA_ADDR_LO.addr (spec/19 R663). -/
def DBGA_ADDR_LO_addr : Fld := ⟨0x20, 31, 0, .rw, 0⟩
/-- DBGA_ADDR_HI.addr (spec/19 R663). -/
def DBGA_ADDR_HI_addr : Fld := ⟨0x24, 7, 0, .rw, 0⟩
/-- DBGA_DATA_LO.data (spec/19 R663). -/
def DBGA_DATA_LO_data : Fld := ⟨0x28, 31, 0, .rw, 0⟩
/-- DBGA_DATA_HI.data (spec/19 R663). -/
def DBGA_DATA_HI_data : Fld := ⟨0x2C, 31, 0, .rw, 0⟩
/-- DBGA_CTL.go (spec/19 R663). -/
def DBGA_CTL_go : Fld := ⟨0x30, 31, 31, .cmd, 0⟩
/-- DBGA_CTL.incr (spec/19 R663). -/
def DBGA_CTL_incr : Fld := ⟨0x30, 5, 5, .rw, 0⟩
/-- DBGA_CTL.effect (spec/19 R663). -/
def DBGA_CTL_effect : Fld := ⟨0x30, 4, 4, .rw, 0⟩
/-- DBGA_CTL.write (spec/19 R663). -/
def DBGA_CTL_write : Fld := ⟨0x30, 3, 3, .rw, 0⟩
/-- DBGA_CTL.size (spec/19 R663). -/
def DBGA_CTL_size : Fld := ⟨0x30, 1, 0, .rw, 2⟩
/-- DBGA_STAT.busy (spec/19 R663). -/
def DBGA_STAT_busy : Fld := ⟨0x34, 31, 31, .lv, 0⟩
/-- DBGA_STAT.poison (spec/19 R663). -/
def DBGA_STAT_poison : Fld := ⟨0x34, 4, 4, .ro, 0⟩
/-- DBGA_STAT.err (spec/19 R663). -/
def DBGA_STAT_err : Fld := ⟨0x34, 3, 0, .ro, 0⟩
/-- DBG_HOLD_CUE.emul (spec/19 R663). -/
def DBG_HOLD_CUE_emul : Fld := ⟨0x50, 15, 8, .lv, 0⟩
/-- DBG_HOLD_CUE.hold (spec/19 R663). -/
def DBG_HOLD_CUE_hold : Fld := ⟨0x50, 7, 0, .rw, 0⟩
/-- DBG_HOLD_F_LO.hold (spec/19 R663). -/
def DBG_HOLD_F_LO_hold : Fld := ⟨0x54, 31, 0, .rw, 0⟩
/-- DBG_HOLD_F_HI.hold (spec/19 R663). -/
def DBG_HOLD_F_HI_hold : Fld := ⟨0x58, 15, 0, .rw, 0⟩
/-- DBG_EMUL_F_LO.emul (spec/19 R663). -/
def DBG_EMUL_F_LO_emul : Fld := ⟨0x5C, 31, 0, .lv, 0⟩
/-- DBG_EMUL_F_HI.emul (spec/19 R663). -/
def DBG_EMUL_F_HI_emul : Fld := ⟨0x60, 15, 0, .lv, 0⟩
/-- DBG_GROUP.resume (spec/19 R663). -/
def DBG_GROUP_resume : Fld := ⟨0x64, 15, 8, .cmd, 0⟩
/-- DBG_GROUP.halt (spec/19 R663). -/
def DBG_GROUP_halt : Fld := ⟨0x64, 7, 0, .cmd, 0⟩
/-- DBG_RUN.halt (spec/19 R663). -/
def DBG_RUN_halt : Fld := ⟨0x100, 31, 31, .cmd, 0⟩
/-- DBG_RUN.resume (spec/19 R663). -/
def DBG_RUN_resume : Fld := ⟨0x100, 30, 30, .cmd, 0⟩
/-- DBG_RUN.step (spec/19 R663). -/
def DBG_RUN_step : Fld := ⟨0x100, 29, 29, .cmd, 0⟩
/-- DBG_RUN.halt_on_reset (spec/19 R663). -/
def DBG_RUN_halt_on_reset : Fld := ⟨0x100, 4, 4, .rw, 0⟩
/-- DBG_RUN.step_ie (spec/19 R663). -/
def DBG_RUN_step_ie : Fld := ⟨0x100, 3, 3, .rw, 0⟩
/-- DBG_RUN.reason (spec/19 R663). -/
def DBG_RUN_reason : Fld := ⟨0x100, 1, 0, .ro, 0⟩
/-- DBG_CREG_CTL.go (spec/19 R663). -/
def DBG_CREG_CTL_go : Fld := ⟨0x104, 31, 31, .cmd, 0⟩
/-- DBG_CREG_CTL.write (spec/19 R663). -/
def DBG_CREG_CTL_write : Fld := ⟨0x104, 30, 30, .rw, 0⟩
/-- DBG_CREG_CTL.err (spec/19 R663). -/
def DBG_CREG_CTL_err : Fld := ⟨0x104, 29, 29, .w1c, 0⟩
/-- DBG_CREG_CTL.regno (spec/19 R663). -/
def DBG_CREG_CTL_regno : Fld := ⟨0x104, 15, 0, .rw, 0⟩
/-- DBG_CREG_DATA_LO.data (spec/19 R663). -/
def DBG_CREG_DATA_LO_data : Fld := ⟨0x108, 31, 0, .rw, 0⟩
/-- DBG_CREG_DATA_HI.data (spec/19 R663). -/
def DBG_CREG_DATA_HI_data : Fld := ⟨0x10C, 31, 0, .rw, 0⟩
/-- DBG_BP_LO.addr (spec/19 R663). -/
def DBG_BP_LO_addr : Fld := ⟨0x110, 31, 0, .rw, 0⟩
/-- DBG_BP_HI.en (spec/19 R663). -/
def DBG_BP_HI_en : Fld := ⟨0x114, 31, 31, .rw, 0⟩
/-- DBG_BP_HI.kind (spec/19 R663). -/
def DBG_BP_HI_kind : Fld := ⟨0x114, 30, 29, .rw, 0⟩
/-- DBG_BP_HI.addr (spec/19 R663). -/
def DBG_BP_HI_addr : Fld := ⟨0x114, 7, 0, .rw, 0⟩
/-- DBG_TRC_CTL.enable (spec/19 R663). -/
def DBG_TRC_CTL_enable : Fld := ⟨0x400, 31, 31, .rw, 0⟩
/-- DBG_TRC_CTL.wrap (spec/19 R663). -/
def DBG_TRC_CTL_wrap : Fld := ⟨0x400, 30, 30, .rw, 0⟩
/-- DBG_TRC_CTL.export (spec/19 R663). -/
def DBG_TRC_CTL_export : Fld := ⟨0x400, 29, 29, .rw, 0⟩
/-- DBG_TRC_CTL.clear (spec/19 R663). -/
def DBG_TRC_CTL_clear : Fld := ⟨0x400, 28, 28, .cmd, 0⟩
/-- DBG_TRC_CTL.post (spec/19 R663). -/
def DBG_TRC_CTL_post : Fld := ⟨0x400, 15, 8, .rw, 0⟩
/-- DBG_TRC_CTL.types (spec/19 R663). -/
def DBG_TRC_CTL_types : Fld := ⟨0x400, 7, 0, .rw, 0⟩
/-- DBG_TRC_STAT.running (spec/19 R663). -/
def DBG_TRC_STAT_running : Fld := ⟨0x404, 31, 31, .lv, 0⟩
/-- DBG_TRC_STAT.wrapped (spec/19 R663). -/
def DBG_TRC_STAT_wrapped : Fld := ⟨0x404, 30, 30, .lv, 0⟩
/-- DBG_TRC_STAT.wptr (spec/19 R663). -/
def DBG_TRC_STAT_wptr : Fld := ⟨0x404, 10, 0, .lv, 0⟩
/-- DBG_TRC_TRIG.en (spec/19 R663). -/
def DBG_TRC_TRIG_en : Fld := ⟨0x408, 31, 31, .rw, 0⟩
/-- DBG_TRC_TRIG.kind (spec/19 R663). -/
def DBG_TRC_TRIG_kind : Fld := ⟨0x408, 30, 30, .rw, 0⟩
/-- DBG_TRC_TRIG.source (spec/19 R663). -/
def DBG_TRC_TRIG_source : Fld := ⟨0x408, 9, 0, .rw, 0⟩
/-- DBG_TRC_PCS.interval (spec/19 R663). -/
def DBG_TRC_PCS_interval : Fld := ⟨0x40C, 31, 16, .rw, 0⟩
/-- DBG_TRC_PCS.cores (spec/19 R663). -/
def DBG_TRC_PCS_cores : Fld := ⟨0x40C, 7, 0, .rw, 0⟩
/-- DBG_TRC_EXP_LO.base (spec/19 R663). -/
def DBG_TRC_EXP_LO_base : Fld := ⟨0x410, 31, 6, .rw, 0⟩
/-- DBG_TRC_EXP_HI.base (spec/19 R663). -/
def DBG_TRC_EXP_HI_base : Fld := ⟨0x414, 7, 0, .rw, 0⟩
/-- DBG_TRC_EXP_SIZE.size (spec/19 R663). -/
def DBG_TRC_EXP_SIZE_size : Fld := ⟨0x418, 31, 6, .rw, 0⟩
/-- DBG_TRC_EXP_PTR.ptr (spec/19 R663). -/
def DBG_TRC_EXP_PTR_ptr : Fld := ⟨0x41C, 31, 0, .lv, 0⟩
/-- DBG_SH_PKTS_LO.lo (spec/19 R663). -/
def DBG_SH_PKTS_LO_lo : Fld := ⟨0x440, 31, 0, .sh, 0⟩
/-- DBG_SH_PKTS_HI.overflow (spec/19 R663). -/
def DBG_SH_PKTS_HI_overflow : Fld := ⟨0x444, 31, 31, .sh, 0⟩
/-- DBG_SH_PKTS_HI.hi (spec/19 R663). -/
def DBG_SH_PKTS_HI_hi : Fld := ⟨0x444, 15, 0, .sh, 0⟩
/-- DBG_SH_LOST_LO.lo (spec/19 R663). -/
def DBG_SH_LOST_LO_lo : Fld := ⟨0x448, 31, 0, .sh, 0⟩
/-- DBG_SH_LOST_HI.overflow (spec/19 R663). -/
def DBG_SH_LOST_HI_overflow : Fld := ⟨0x44C, 31, 31, .sh, 0⟩
/-- DBG_SH_LOST_HI.hi (spec/19 R663). -/
def DBG_SH_LOST_HI_hi : Fld := ⟨0x44C, 15, 0, .sh, 0⟩
/-- DBG_TRC_EV.sel (spec/19 R663). -/
def DBG_TRC_EV_sel : Fld := ⟨0x480, 31, 0, .rw, 0⟩
/-- DBG_STIM.data (spec/19 R663). -/
def DBG_STIM_data : Fld := ⟨0x600, 31, 0, .wo, 0⟩
/-- DBG_TBUF.packet (spec/19 R663). -/
def DBG_TBUF_packet : Fld := ⟨0x8000, 31, 0, .ro, 0⟩
/-- UIO_INFO.quadrant (spec/20 R686). Reset column: q. -/
def UIO_INFO_quadrant : Fld := ⟨0xC, 31, 30, .ro, 0⟩
/-- UIO_INFO.count (spec/20 R686). -/
def UIO_INFO_count : Fld := ⟨0xC, 6, 0, .ro, 0x70⟩
/-- UIO_IN.in (spec/20 R686). Reset column: ball. -/
def UIO_IN_in : Fld := ⟨0x10, 31, 0, .lv, 0⟩
/-- UIO_OUT.out (spec/20 R686). -/
def UIO_OUT_out : Fld := ⟨0x20, 31, 0, .lv, 0⟩
/-- UIO_OEN.oen (spec/20 R686). -/
def UIO_OEN_oen : Fld := ⟨0x30, 31, 0, .lv, 0⟩
/-- UIO_PAD.pull (spec/20 R686). -/
def UIO_PAD_pull : Fld := ⟨0x100, 11, 10, .ro, 1⟩
/-- UIO_PAD.drive (spec/20 R686). -/
def UIO_PAD_drive : Fld := ⟨0x100, 9, 8, .ro, 1⟩
/-- UIO_PAD.fast (spec/20 R686). -/
def UIO_PAD_fast : Fld := ⟨0x100, 7, 7, .ro, 0⟩
/-- UIO_PAD.schmitt (spec/20 R686). -/
def UIO_PAD_schmitt : Fld := ⟨0x100, 6, 6, .ro, 0⟩
/-- UIO_PAD.facet (spec/20 R686). Reset column: per R220. -/
def UIO_PAD_facet : Fld := ⟨0x100, 3, 0, .ro, 0⟩
end F

/-- The rows of the block header (R45): the posted-write records and the snapshot command. Bits 2 and 0 of xxx_STAT
(clock_stopped, busy) are live views. -/
def headerRows : List RegRow := [⟨4, [], [F.HDR_write_timeout, F.HDR_write_dropped]⟩]

/-- Rows of the SYS block. -/
def rowsSys : List RegRow := [
  ⟨0xC, [], [F.SYS_INFO_grade, F.SYS_INFO_site, F.SYS_INFO_part]⟩,
  ⟨0x10, [], [F.SYS_STEP_stepping]⟩,
  ⟨0x20, [(4, 0x4)], [F.SYS_SERIAL_serial]⟩,
  ⟨0x30, [], [F.SYS_MEMMAP_set, F.SYS_MEMMAP_interleave]⟩,
  ⟨0x34, [], [F.SYS_DIES_present]⟩]

/-- Rows of the HQ block. -/
def rowsHq : List RegRow := [
  ⟨0x4, [], [F.HQ_STAT_handover]⟩,
  ⟨0xC, [], [F.HQ_FW_line, F.HQ_FW_minor, F.HQ_FW_patch, F.HQ_FW_other_valid, F.HQ_FW_image, F.HQ_FW_state]⟩,
  ⟨0x100, [(16, 0x40)], [F.HQ_CQ_BASE_LO_base]⟩,
  ⟨0x104, [(16, 0x40)], [F.HQ_CQ_BASE_HI_base]⟩,
  ⟨0x108, [(16, 0x40)], [F.HQ_RQ_BASE_LO_base]⟩,
  ⟨0x10C, [(16, 0x40)], [F.HQ_RQ_BASE_HI_base]⟩,
  ⟨0x110, [(16, 0x40)], [F.HQ_Q_CTL_enable, F.HQ_Q_CTL_log2_slots]⟩,
  ⟨0x114, [(16, 0x40)], [F.HQ_CQ_TAIL_tail]⟩,
  ⟨0x118, [(16, 0x40)], [F.HQ_CQ_HEAD_head]⟩,
  ⟨0x11C, [(16, 0x40)], [F.HQ_RQ_TAIL_tail]⟩,
  ⟨0x120, [(16, 0x40)], [F.HQ_RQ_HEAD_head]⟩,
  ⟨0x124, [(16, 0x40)], [F.HQ_Q_STAT_reply_wait, F.HQ_Q_STAT_fetch_error, F.HQ_Q_STAT_bad_index, F.HQ_Q_STAT_running]⟩,
  ⟨0x40, [], [F.HQ_SPI_DOOR_ack, F.HQ_SPI_DOOR_go]⟩,
  ⟨0x44, [], [F.HQ_SPI_STAT_reply_ready, F.HQ_SPI_STAT_running]⟩,
  ⟨0x800, [(255, 0x4)], [F.HQ_SPI_CMD_word]⟩,
  ⟨0xC00, [(255, 0x4)], [F.HQ_SPI_RPL_word]⟩]

/-- Rows of the DMA block. -/
def rowsDma : List RegRow := [
  ⟨0x100, [(16, 0x40)], [F.DMA_SRC_LO_src]⟩,
  ⟨0x104, [(16, 0x40)], [F.DMA_SRC_HI_src]⟩,
  ⟨0x108, [(16, 0x40)], [F.DMA_DST_LO_dst]⟩,
  ⟨0x10C, [(16, 0x40)], [F.DMA_DST_HI_dst]⟩,
  ⟨0x110, [(16, 0x40)], [F.DMA_LEN_len]⟩,
  ⟨0x114, [(16, 0x40)], [F.DMA_CTL_start, F.DMA_CTL_disable, F.DMA_CTL_abort, F.DMA_CTL_dir, F.DMA_CTL_event_en]⟩,
  ⟨0x118, [(16, 0x40)], [F.DMA_CHSTAT_state, F.DMA_CHSTAT_poisoned, F.DMA_CHSTAT_error, F.DMA_CHSTAT_done]⟩,
  ⟨0x11C, [(16, 0x40)], [F.DMA_DONE_moved]⟩]

/-- Rows of the EVC block. -/
def rowsEvc : List RegRow := [
  ⟨0x100, [(32, 0x4)], [F.EVC_LIVE_live]⟩,
  ⟨0x200, [(32, 0x4)], [F.EVC_REC_rec]⟩,
  ⟨0x300, [(32, 0x4)], [F.EVC_MASK_mask]⟩,
  ⟨0x400, [(32, 0x4)], [F.EVC_SET_set]⟩,
  ⟨0x500, [], [F.EVC_SUMMARY_group]⟩,
  ⟨0x600, [(4, 0x4)], [F.EVC_VEC_PEND_pend]⟩,
  ⟨0x1000, [(1024, 0x4)], [F.EVC_ROUTE_msix_en, F.EVC_ROUTE_vector, F.EVC_ROUTE_cue_en, F.EVC_ROUTE_cue_line]⟩]

/-- Rows of the MBX block. -/
def rowsMbx : List RegRow := [
  ⟨0x10, [(9, 0x4)], [F.MBX_EPOCH_epoch]⟩,
  ⟨0x100, [(48, 0x20)], [F.MB_CFG_enable, F.MB_CFG_receiver, F.MB_CFG_sender]⟩,
  ⟨0x104, [(48, 0x20)], [F.MB_MSG_msg]⟩,
  ⟨0x108, [(48, 0x20)], [F.MB_STAT_send_epoch, F.MB_STAT_withdrawn, F.MB_STAT_receiver_reset, F.MB_STAT_refused, F.MB_STAT_overrun, F.MB_STAT_withdraw, F.MB_STAT_full]⟩,
  ⟨0x10C, [(48, 0x20)], [F.MB_DOOR_door]⟩,
  ⟨0x110, [(48, 0x20)], [F.MB_RING_ring]⟩,
  ⟨0x114, [(48, 0x20)], [F.MB_DMASK_mask]⟩,
  ⟨0x118, [(48, 0x20)], [F.MB_ACK_valid, F.MB_ACK_orphan, F.MB_ACK_code]⟩,
  ⟨0x11C, [(48, 0x20)], [F.MB_REPLY_code]⟩]

/-- Rows of the CUE block. -/
def rowsCue : List RegRow := [
  ⟨0x4, [], [F.CUE_STAT_kick_refused, F.CUE_STAT_wdt_reset, F.CUE_STAT_wdt_expired, F.CUE_STAT_faulted, F.CUE_STAT_state]⟩,
  ⟨0xC, [], [F.CUE_INFO_core]⟩,
  ⟨0x10, [], [F.CUE_ENTRY_LO_entry]⟩,
  ⟨0x14, [], [F.CUE_ENTRY_HI_entry]⟩,
  ⟨0x18, [], [F.CUE_WDT_CFG_enable, F.CUE_WDT_CFG_freeze_on_halt, F.CUE_WDT_CFG_lock, F.CUE_WDT_CFG_action, F.CUE_WDT_CFG_period]⟩,
  ⟨0x1C, [], [F.CUE_WDT_COUNT_count]⟩,
  ⟨0x20, [], [F.CUE_WDT_KICK_kick]⟩,
  ⟨0x24, [], [F.CUE_MSIP_msip]⟩,
  ⟨0x28, [], [F.CUE_MTIMECMP_LO_cmp]⟩,
  ⟨0x2C, [], [F.CUE_MTIMECMP_HI_cmp]⟩,
  ⟨0x30, [], [F.CUE_CAUSE_interrupt, F.CUE_CAUSE_code]⟩,
  ⟨0x34, [], [F.CUE_FAULT_PC_LO_pc]⟩,
  ⟨0x38, [], [F.CUE_FAULT_PC_HI_pc]⟩,
  ⟨0x40, [], [F.CUE_MTIME_LO_mtime]⟩,
  ⟨0x44, [], [F.CUE_MTIME_HI_mtime]⟩]

/-- Rows of the TIME block. -/
def rowsTime : List RegRow := [
  ⟨0x4, [], [F.TIME_STAT_active, F.TIME_STAT_copy_degraded, F.TIME_STAT_stepped, F.TIME_STAT_source_lost, F.TIME_STAT_state]⟩,
  ⟨0xC, [], [F.TIME_XO_xo_wait, F.TIME_XO_xo1, F.TIME_XO_xo0]⟩,
  ⟨0x20, [], [F.TIME_NOW_T0_now]⟩,
  ⟨0x24, [], [F.TIME_NOW_T1_now]⟩,
  ⟨0x28, [], [F.TIME_NOW_T2_now]⟩,
  ⟨0x30, [], [F.TIME_OFFSET_offset]⟩,
  ⟨0x34, [], [F.TIME_FREQ_freq]⟩,
  ⟨0x40, [(4, 0x4)], [F.TIME_REF_qualified, F.TIME_REF_present, F.TIME_REF_kind, F.TIME_REF_domain, F.TIME_REF_lane]⟩,
  ⟨0x50, [], [F.TIME_DEGRADED_dies]⟩]

/-- Rows of the LOOP block. -/
def rowsLoop : List RegRow := [
  ⟨0x4, [], [F.LOOP_STAT_window_hit, F.LOOP_STAT_ref_lost, F.LOOP_STAT_ref_ok, F.LOOP_STAT_out_of_window, F.LOOP_STAT_on_fallback, F.LOOP_STAT_fallback_not_ready, F.LOOP_STAT_coasting, F.LOOP_STAT_state]⟩,
  ⟨0xC, [], [F.LOOP_CFG_source, F.LOOP_CFG_flags, F.LOOP_CFG_lane]⟩,
  ⟨0x10, [], [F.LOOP_NUM_LO_num]⟩,
  ⟨0x14, [], [F.LOOP_NUM_HI_den, F.LOOP_NUM_HI_num]⟩,
  ⟨0x18, [], [F.LOOP_WIN_ceiling, F.LOOP_WIN_floor]⟩,
  ⟨0x1C, [], [F.LOOP_SLEW_qual_ms, F.LOOP_SLEW_slew]⟩,
  ⟨0x20, [], [F.LOOP_FREQ_freq]⟩,
  ⟨0x24, [], [F.LOOP_CODE_code]⟩,
  ⟨0x28, [], [F.LOOP_FLOOR_floor_code]⟩]

/-- Rows of the CLKO block. -/
def rowsClko : List RegRow := [
  ⟨0x10, [(4, 0x8)], [F.CLKO_SET_kind, F.CLKO_SET_align, F.CLKO_SET_running, F.CLKO_SET_index]⟩,
  ⟨0x14, [(4, 0x8)], [F.CLKO_DIV_div]⟩]

/-- Rows of the CFG block. -/
def rowsCfg : List RegRow := [
  ⟨0x4, [], [F.CFG_STAT_apply_failed, F.CFG_STAT_verify_failed, F.CFG_STAT_stage_failed, F.CFG_STAT_push_dropped]⟩,
  ⟨0x40, [], [F.CFG_PUSH_word]⟩,
  ⟨0x100, [(8, 0x10)], [F.CFG_HANDLE_STATE_state]⟩,
  ⟨0x104, [(8, 0x10)], [F.CFG_HANDLE_LEN_total_length]⟩,
  ⟨0x108, [(8, 0x10)], [F.CFG_HANDLE_DESIGN_design_id]⟩,
  ⟨0x10C, [(8, 0x10)], [F.CFG_HANDLE_BASE_base]⟩]

/-- Rows of the SEC block. -/
def rowsSec : List RegRow := [
  ⟨0x4, [], [F.SEC_STAT_key_refused]⟩,
  ⟨0xC, [], [F.SEC_OTP_owner_set, F.SEC_OTP_id_key_set, F.SEC_OTP_debug_policy]⟩,
  ⟨0x10, [], [F.SEC_SLOTS_loaded]⟩,
  ⟨0x20, [(12, 0x4)], [F.SEC_OWNER_HASH_hash]⟩]

/-- Rows of the JRNL block. -/
def rowsJrnl : List RegRow := [
  ⟨0x4, [], [F.JRNL_STAT_replaced, F.JRNL_STAT_lost, F.JRNL_STAT_added]⟩,
  ⟨0xC, [], [F.JRNL_INFO_next_seq, F.JRNL_INFO_held]⟩,
  ⟨0x10, [], [F.JRNL_THRESH_threshold]⟩,
  ⟨0x80, [], [F.JRNL_SH_LOST_LO_lo]⟩,
  ⟨0x84, [], [F.JRNL_SH_LOST_HI_overflow, F.JRNL_SH_LOST_HI_hi]⟩]

/-- Rows of the PWR block. -/
def rowsPwr : List RegRow := [
  ⟨0x4, [], [F.PWR_STAT_brownout, F.PWR_STAT_warn, F.PWR_STAT_therm_trip]⟩,
  ⟨0xC, [], [F.PWR_CAUSE_cause]⟩,
  ⟨0x10, [], [F.PWR_THERM_trip, F.PWR_THERM_warn, F.PWR_THERM_hottest, F.PWR_THERM_temp]⟩,
  ⟨0x40, [(14, 0x4)], [F.PWR_TEMP_valid, F.PWR_TEMP_temp]⟩,
  ⟨0x100, [(11, 0x4)], [F.PWR_DOM_states]⟩,
  ⟨0x140, [(3, 0x4)], [F.PWR_PEND_pending]⟩]

/-- Rows of the LAMP block. -/
def rowsLamp : List RegRow := [
  ⟨0x4, [], [F.LAMP_STAT_cnt_overflow, F.LAMP_STAT_swapped, F.LAMP_STAT_line_low, F.LAMP_STAT_line_lost, F.LAMP_STAT_link_fail, F.LAMP_STAT_overtemp, F.LAMP_STAT_state]⟩,
  ⟨0xC, [], [F.LAMP_INFO_lines]⟩,
  ⟨0x10, [], [F.LAMP_TEMP_temp]⟩,
  ⟨0x40, [(18, 0x4)], [F.LAMP_LINE_lost, F.LAMP_LINE_low, F.LAMP_LINE_power, F.LAMP_LINE_offset]⟩,
  ⟨0xC0, [], [F.LAMP_SH_SWAPS_LO_lo]⟩,
  ⟨0xC4, [], [F.LAMP_SH_SWAPS_HI_overflow, F.LAMP_SH_SWAPS_HI_hi]⟩,
  ⟨0xC8, [], [F.LAMP_SH_LOST_LO_lo]⟩,
  ⟨0xCC, [], [F.LAMP_SH_LOST_HI_overflow, F.LAMP_SH_LOST_HI_hi]⟩]

/-- Rows of the UCIE block. -/
def rowsUcie : List RegRow := [
  ⟨0x4, [], [F.UCIE_STAT_cnt_overflow, F.UCIE_STAT_partner_event, F.UCIE_STAT_id_mismatch, F.UCIE_STAT_rate_down, F.UCIE_STAT_module_lost, F.UCIE_STAT_lane_repaired]⟩,
  ⟨0xC, [], [F.UCIE_LINK_state, F.UCIE_LINK_rate, F.UCIE_LINK_modules]⟩,
  ⟨0x10, [], [F.UCIE_REPAIR_m1_rx, F.UCIE_REPAIR_m1_tx, F.UCIE_REPAIR_m0_rx, F.UCIE_REPAIR_m0_tx]⟩,
  ⟨0x80, [], [F.UCIE_SH_CRC_LO_lo]⟩,
  ⟨0x84, [], [F.UCIE_SH_CRC_HI_overflow, F.UCIE_SH_CRC_HI_hi]⟩,
  ⟨0x88, [], [F.UCIE_SH_RESEND_LO_lo]⟩,
  ⟨0x8C, [], [F.UCIE_SH_RESEND_HI_overflow, F.UCIE_SH_RESEND_HI_hi]⟩,
  ⟨0x90, [], [F.UCIE_SH_REFUSED_LO_lo]⟩,
  ⟨0x94, [], [F.UCIE_SH_REFUSED_HI_overflow, F.UCIE_SH_REFUSED_HI_hi]⟩]

/-- Rows of the PCIE block. -/
def rowsPcie : List RegRow := [
  ⟨0xC, [], [F.PCIE_LINK_link_up, F.PCIE_LINK_gen, F.PCIE_LINK_width]⟩,
  ⟨0x10, [], [F.PCIE_ERR_poisoned_tx, F.PCIE_ERR_completer_abort, F.PCIE_ERR_unsupported, F.PCIE_ERR_link_down]⟩]

/-- Rows of the DBG block, part 0. -/
def rowsDbg_0 : List RegRow := [
  ⟨0x4, [], [F.DBG_STAT_cnt_overflow, F.DBG_STAT_export_failed, F.DBG_STAT_triggered, F.DBG_STAT_denied, F.DBG_STAT_rights_ended, F.DBG_STAT_auth_failed]⟩,
  ⟨0xC, [], [F.DBG_INFO_main_good, F.DBG_INFO_policy]⟩,
  ⟨0x10, [], [F.DBG_RIGHTS_seconds, F.DBG_RIGHTS_rights]⟩,
  ⟨0x14, [], [F.DBG_CTL_relock, F.DBG_CTL_owner]⟩,
  ⟨0x20, [], [F.DBGA_ADDR_LO_addr]⟩,
  ⟨0x24, [], [F.DBGA_ADDR_HI_addr]⟩,
  ⟨0x28, [], [F.DBGA_DATA_LO_data]⟩,
  ⟨0x2C, [], [F.DBGA_DATA_HI_data]⟩,
  ⟨0x30, [], [F.DBGA_CTL_go, F.DBGA_CTL_incr, F.DBGA_CTL_effect, F.DBGA_CTL_write, F.DBGA_CTL_size]⟩,
  ⟨0x34, [], [F.DBGA_STAT_busy, F.DBGA_STAT_poison, F.DBGA_STAT_err]⟩,
  ⟨0x50, [], [F.DBG_HOLD_CUE_emul, F.DBG_HOLD_CUE_hold]⟩,
  ⟨0x54, [], [F.DBG_HOLD_F_LO_hold]⟩,
  ⟨0x58, [], [F.DBG_HOLD_F_HI_hold]⟩,
  ⟨0x5C, [], [F.DBG_EMUL_F_LO_emul]⟩,
  ⟨0x60, [], [F.DBG_EMUL_F_HI_emul]⟩,
  ⟨0x64, [], [F.DBG_GROUP_resume, F.DBG_GROUP_halt]⟩,
  ⟨0x100, [(8, 0x40)], [F.DBG_RUN_halt, F.DBG_RUN_resume, F.DBG_RUN_step, F.DBG_RUN_halt_on_reset, F.DBG_RUN_step_ie, F.DBG_RUN_reason]⟩,
  ⟨0x104, [(8, 0x40)], [F.DBG_CREG_CTL_go, F.DBG_CREG_CTL_write, F.DBG_CREG_CTL_err, F.DBG_CREG_CTL_regno]⟩,
  ⟨0x108, [(8, 0x40)], [F.DBG_CREG_DATA_LO_data]⟩,
  ⟨0x10C, [(8, 0x40)], [F.DBG_CREG_DATA_HI_data]⟩]

/-- Rows of the DBG block, part 1. -/
def rowsDbg_1 : List RegRow := [
  ⟨0x110, [(8, 0x40), (4, 0x8)], [F.DBG_BP_LO_addr]⟩,
  ⟨0x114, [(8, 0x40), (4, 0x8)], [F.DBG_BP_HI_en, F.DBG_BP_HI_kind, F.DBG_BP_HI_addr]⟩,
  ⟨0x400, [], [F.DBG_TRC_CTL_enable, F.DBG_TRC_CTL_wrap, F.DBG_TRC_CTL_export, F.DBG_TRC_CTL_clear, F.DBG_TRC_CTL_post, F.DBG_TRC_CTL_types]⟩,
  ⟨0x404, [], [F.DBG_TRC_STAT_running, F.DBG_TRC_STAT_wrapped, F.DBG_TRC_STAT_wptr]⟩,
  ⟨0x408, [], [F.DBG_TRC_TRIG_en, F.DBG_TRC_TRIG_kind, F.DBG_TRC_TRIG_source]⟩,
  ⟨0x40C, [], [F.DBG_TRC_PCS_interval, F.DBG_TRC_PCS_cores]⟩,
  ⟨0x410, [], [F.DBG_TRC_EXP_LO_base]⟩,
  ⟨0x414, [], [F.DBG_TRC_EXP_HI_base]⟩,
  ⟨0x418, [], [F.DBG_TRC_EXP_SIZE_size]⟩,
  ⟨0x41C, [], [F.DBG_TRC_EXP_PTR_ptr]⟩,
  ⟨0x440, [], [F.DBG_SH_PKTS_LO_lo]⟩,
  ⟨0x444, [], [F.DBG_SH_PKTS_HI_overflow, F.DBG_SH_PKTS_HI_hi]⟩,
  ⟨0x448, [], [F.DBG_SH_LOST_LO_lo]⟩,
  ⟨0x44C, [], [F.DBG_SH_LOST_HI_overflow, F.DBG_SH_LOST_HI_hi]⟩,
  ⟨0x480, [(32, 0x4)], [F.DBG_TRC_EV_sel]⟩,
  ⟨0x600, [(64, 0x4)], [F.DBG_STIM_data]⟩,
  ⟨0x8000, [(8192, 0x4)], [F.DBG_TBUF_packet]⟩]

/-- Rows of the DBG block. -/
def rowsDbg : List RegRow := rowsDbg_0 ++ rowsDbg_1

/-- Rows of the QSYS block. -/
def rowsQsys : List RegRow := [
  ⟨0xC, [], [F.QSYS_INFO_quadrant, F.QSYS_INFO_cols, F.QSYS_INFO_rows]⟩,
  ⟨0x10, [], [F.QSYS_DESIGN_design_id]⟩,
  ⟨0x14, [], [F.QSYS_REGPORT_present, F.QSYS_REGPORT_vertex]⟩,
  ⟨0x18, [], [F.QSYS_RP_STAT_pending, F.QSYS_RP_STAT_error, F.QSYS_RP_STAT_timeout]⟩]

/-- Rows of the FLOOP block. -/
def rowsFloop : List RegRow := [
  ⟨0xC, [], [F.FLOOP_LOCK_lost, F.FLOOP_LOCK_locked]⟩,
  ⟨0x100, [(16, 0x8)], [F.FLOOP_REF_ref, F.FLOOP_REF_mult]⟩,
  ⟨0x104, [(16, 0x8)], [F.FLOOP_DIV_div]⟩]

/-- Rows of the FACET block. -/
def rowsFacet : List RegRow := [
  ⟨0x4, [], [F.FACET_STAT_cnt_overflow, F.FACET_STAT_drain_timeout, F.FACET_STAT_swap_cancelled, F.FACET_STAT_rp_flushed, F.FACET_STAT_stale_rsp, F.FACET_STAT_init_busy, F.FACET_STAT_holding, F.FACET_STAT_fenced, F.FACET_STAT_armed, F.FACET_STAT_state]⟩,
  ⟨0xC, [], [F.FACET_INFO_facet, F.FACET_INFO_bays, F.FACET_INFO_deep_bays, F.FACET_INFO_saus]⟩,
  ⟨0x10, [], [F.FACET_PLANE_active, F.FACET_PLANE_b_valid, F.FACET_PLANE_a_valid]⟩,
  ⟨0x14, [], [F.FACET_DESIGN_A_design]⟩,
  ⟨0x18, [], [F.FACET_DESIGN_B_design]⟩,
  ⟨0x1C, [], [F.FACET_ARM_trigger, F.FACET_ARM_event_line, F.FACET_ARM_swap_clk]⟩,
  ⟨0x20, [], [F.FACET_ARM_T0_instant]⟩,
  ⟨0x24, [], [F.FACET_ARM_T1_instant]⟩,
  ⟨0x28, [], [F.FACET_ARM_T2_instant]⟩,
  ⟨0x30, [], [F.FACET_LAST_T0_edge]⟩,
  ⟨0x34, [], [F.FACET_LAST_T1_edge]⟩,
  ⟨0x38, [], [F.FACET_LAST_T2_edge]⟩,
  ⟨0x40, [], [F.FACET_FENCE_STAT_host_fence, F.FACET_FENCE_STAT_draining, F.FACET_FENCE_STAT_in_flight]⟩,
  ⟨0x50, [], [F.FACET_SH_SWAPS_LO_swaps]⟩,
  ⟨0x54, [], [F.FACET_SH_SWAPS_HI_overflow, F.FACET_SH_SWAPS_HI_swaps]⟩,
  ⟨0x58, [], [F.FACET_SH_REFUSED_LO_refused]⟩,
  ⟨0x5C, [], [F.FACET_SH_REFUSED_HI_overflow, F.FACET_SH_REFUSED_HI_refused]⟩,
  ⟨0x60, [], [F.FACET_SH_STALE_LO_stale]⟩,
  ⟨0x64, [], [F.FACET_SH_STALE_HI_overflow, F.FACET_SH_STALE_HI_stale]⟩]

/-- Rows of the SP block, part 0. -/
def rowsSp_0 : List RegRow := [
  ⟨0x100, [(72, 0x20)], [F.SP_CTL_enable, F.SP_CTL_clk_sel]⟩,
  ⟨0x1000, [(72, 0x20)], [F.SP_CTL_enable, F.SP_CTL_clk_sel]⟩,
  ⟨0x2000, [(96, 0x20)], [F.SP_CTL_enable, F.SP_CTL_clk_sel]⟩,
  ⟨0x3000, [(96, 0x20)], [F.SP_CTL_enable, F.SP_CTL_clk_sel]⟩,
  ⟨0x104, [(72, 0x20)], [F.SP_STAT_beats_overflow, F.SP_STAT_poison_seen, F.SP_STAT_underflow, F.SP_STAT_overflow, F.SP_STAT_active]⟩,
  ⟨0x1004, [(72, 0x20)], [F.SP_STAT_beats_overflow, F.SP_STAT_poison_seen, F.SP_STAT_underflow, F.SP_STAT_overflow, F.SP_STAT_active]⟩,
  ⟨0x2004, [(96, 0x20)], [F.SP_STAT_beats_overflow, F.SP_STAT_poison_seen, F.SP_STAT_underflow, F.SP_STAT_overflow, F.SP_STAT_active]⟩,
  ⟨0x3004, [(96, 0x20)], [F.SP_STAT_beats_overflow, F.SP_STAT_poison_seen, F.SP_STAT_underflow, F.SP_STAT_overflow, F.SP_STAT_active]⟩,
  ⟨0x108, [(72, 0x20)], [F.SP_SH_BEATS_LO_beats]⟩,
  ⟨0x1008, [(72, 0x20)], [F.SP_SH_BEATS_LO_beats]⟩,
  ⟨0x2008, [(96, 0x20)], [F.SP_SH_BEATS_LO_beats]⟩,
  ⟨0x3008, [(96, 0x20)], [F.SP_SH_BEATS_LO_beats]⟩,
  ⟨0x10C, [(72, 0x20)], [F.SP_SH_BEATS_HI_overflow, F.SP_SH_BEATS_HI_beats]⟩,
  ⟨0x100C, [(72, 0x20)], [F.SP_SH_BEATS_HI_overflow, F.SP_SH_BEATS_HI_beats]⟩,
  ⟨0x200C, [(96, 0x20)], [F.SP_SH_BEATS_HI_overflow, F.SP_SH_BEATS_HI_beats]⟩,
  ⟨0x300C, [(96, 0x20)], [F.SP_SH_BEATS_HI_overflow, F.SP_SH_BEATS_HI_beats]⟩,
  ⟨0x110, [(72, 0x20)], [F.SP_SH_DROP_LO_drop]⟩,
  ⟨0x1010, [(72, 0x20)], [F.SP_SH_DROP_LO_drop]⟩,
  ⟨0x2010, [(96, 0x20)], [F.SP_SH_DROP_LO_drop]⟩,
  ⟨0x3010, [(96, 0x20)], [F.SP_SH_DROP_LO_drop]⟩]

/-- Rows of the SP block, part 1. -/
def rowsSp_1 : List RegRow := [
  ⟨0x114, [(72, 0x20)], [F.SP_SH_DROP_HI_overflow, F.SP_SH_DROP_HI_drop]⟩,
  ⟨0x1014, [(72, 0x20)], [F.SP_SH_DROP_HI_overflow, F.SP_SH_DROP_HI_drop]⟩,
  ⟨0x2014, [(96, 0x20)], [F.SP_SH_DROP_HI_overflow, F.SP_SH_DROP_HI_drop]⟩,
  ⟨0x3014, [(96, 0x20)], [F.SP_SH_DROP_HI_overflow, F.SP_SH_DROP_HI_drop]⟩,
  ⟨0x118, [(72, 0x20)], [F.SP_SH_POISON_LO_poison]⟩,
  ⟨0x1018, [(72, 0x20)], [F.SP_SH_POISON_LO_poison]⟩,
  ⟨0x2018, [(96, 0x20)], [F.SP_SH_POISON_LO_poison]⟩,
  ⟨0x3018, [(96, 0x20)], [F.SP_SH_POISON_LO_poison]⟩,
  ⟨0x11C, [(72, 0x20)], [F.SP_SH_POISON_HI_poison]⟩,
  ⟨0x101C, [(72, 0x20)], [F.SP_SH_POISON_HI_poison]⟩,
  ⟨0x201C, [(96, 0x20)], [F.SP_SH_POISON_HI_poison]⟩,
  ⟨0x301C, [(96, 0x20)], [F.SP_SH_POISON_HI_poison]⟩]

/-- Rows of the SP block. -/
def rowsSp : List RegRow := rowsSp_0 ++ rowsSp_1

/-- Rows of the QC block, part 0. -/
def rowsQc_0 : List RegRow := [
  ⟨0xC, [], [F.QC_INFO_controllers, F.QC_INFO_deep_bays, F.QC_INFO_bays]⟩,
  ⟨0x10, [], [F.QC_BAYERR_STAT_raw_refused, F.QC_BAYERR_STAT_raw_timeout, F.QC_BAYERR_STAT_partial_to_poison, F.QC_BAYERR_STAT_mend_missed, F.QC_BAYERR_STAT_permanent, F.QC_BAYERR_STAT_unlocated, F.QC_BAYERR_STAT_uncorrectable, F.QC_BAYERR_STAT_corrected]⟩,
  ⟨0x14, [], [F.QC_BAYERR_LOC_outcome, F.QC_BAYERR_LOC_deep, F.QC_BAYERR_LOC_permanent, F.QC_BAYERR_LOC_bay]⟩,
  ⟨0x18, [], [F.QC_BAYERR_POS_word, F.QC_BAYERR_POS_bit]⟩,
  ⟨0x20, [], [F.QC_SH_MEND_LO_mend]⟩,
  ⟨0x24, [], [F.QC_SH_MEND_HI_overflow, F.QC_SH_MEND_HI_mend]⟩,
  ⟨0x28, [], [F.QC_SH_UNCORR_LO_uncorr]⟩,
  ⟨0x2C, [], [F.QC_SH_UNCORR_HI_overflow, F.QC_SH_UNCORR_HI_uncorr]⟩,
  ⟨0x40, [], [F.QC_RAW_CTL_locked, F.QC_RAW_CTL_pending, F.QC_RAW_CTL_write, F.QC_RAW_CTL_read, F.QC_RAW_CTL_deep, F.QC_RAW_CTL_bay]⟩,
  ⟨0x44, [], [F.QC_RAW_ADDR_column, F.QC_RAW_ADDR_word]⟩,
  ⟨0x48, [], [F.QC_RAW_DATA_data]⟩,
  ⟨0x4C, [], [F.QC_RAW_EXT_state, F.QC_RAW_EXT_parity, F.QC_RAW_EXT_data]⟩,
  ⟨0x100, [(480, 0x40)], [F.QC_QCTL_enable, F.QC_QCTL_drop]⟩,
  ⟨0x104, [(480, 0x40)], [F.QC_QTHRESH_afull, F.QC_QTHRESH_aempty]⟩,
  ⟨0x108, [(480, 0x40)], [F.QC_QSTAT_enq_overflow, F.QC_QSTAT_poison_seen, F.QC_QSTAT_overflow, F.QC_QSTAT_afull_seen, F.QC_QSTAT_bound_changed, F.QC_QSTAT_full, F.QC_QSTAT_afull, F.QC_QSTAT_aempty, F.QC_QSTAT_empty]⟩,
  ⟨0x10C, [(480, 0x40)], [F.QC_QLEVEL_level]⟩,
  ⟨0x110, [(480, 0x40)], [F.QC_QCMD_flush]⟩,
  ⟨0x114, [(480, 0x40)], [F.QC_QBIND_bound, F.QC_QBIND_deep, F.QC_QBIND_paired, F.QC_QBIND_bay]⟩,
  ⟨0x118, [(480, 0x40)], [F.QC_SH_ENQ_LO_enq]⟩,
  ⟨0x11C, [(480, 0x40)], [F.QC_SH_ENQ_HI_overflow, F.QC_SH_ENQ_HI_enq]⟩]

/-- Rows of the QC block, part 1. -/
def rowsQc_1 : List RegRow := [
  ⟨0x120, [(480, 0x40)], [F.QC_SH_DROP_LO_drop]⟩,
  ⟨0x124, [(480, 0x40)], [F.QC_SH_DROP_HI_overflow, F.QC_SH_DROP_HI_drop]⟩,
  ⟨0x128, [(480, 0x40)], [F.QC_SH_POISON_LO_poison]⟩,
  ⟨0x12C, [(480, 0x40)], [F.QC_SH_POISON_HI_poison]⟩]

/-- Rows of the QC block. -/
def rowsQc : List RegRow := rowsQc_0 ++ rowsQc_1

/-- Rows of the SCRUB block. -/
def rowsScrub : List RegRow := [
  ⟨0x4, [], [F.SCRUB_STAT_permanent, F.SCRUB_STAT_cnt_overflow, F.SCRUB_STAT_essential, F.SCRUB_STAT_pass_done]⟩,
  ⟨0xC, [], [F.SCRUB_CFG_bay_en, F.SCRUB_CFG_frame_en, F.SCRUB_CFG_inactive_en, F.SCRUB_CFG_bay_interval]⟩,
  ⟨0x10, [], [F.SCRUB_GAP_frame_gap]⟩,
  ⟨0x14, [], [F.SCRUB_POS_facet, F.SCRUB_POS_plane, F.SCRUB_POS_frame]⟩,
  ⟨0x18, [], [F.SCRUB_LOC_outcome, F.SCRUB_LOC_permanent, F.SCRUB_LOC_essential, F.SCRUB_LOC_plane, F.SCRUB_LOC_facet, F.SCRUB_LOC_frame]⟩,
  ⟨0x1C, [], [F.SCRUB_LOC_BIT_word, F.SCRUB_LOC_BIT_bit]⟩,
  ⟨0x20, [], [F.SCRUB_SH_CORR_LO_lo]⟩,
  ⟨0x24, [], [F.SCRUB_SH_CORR_HI_overflow, F.SCRUB_SH_CORR_HI_hi]⟩,
  ⟨0x28, [], [F.SCRUB_SH_UNCORR_LO_lo]⟩,
  ⟨0x2C, [], [F.SCRUB_SH_UNCORR_HI_overflow, F.SCRUB_SH_UNCORR_HI_hi]⟩,
  ⟨0x30, [], [F.SCRUB_SH_PASS_LO_lo]⟩,
  ⟨0x34, [], [F.SCRUB_SH_PASS_HI_overflow, F.SCRUB_SH_PASS_HI_hi]⟩]

/-- Rows of the PROBE block. -/
def rowsProbe : List RegRow := [
  ⟨0xC, [], [F.PROBE_CTL_locked, F.PROBE_CTL_enable]⟩,
  ⟨0x10, [(4, 0x4)], [F.PROBE_SEL_kind, F.PROBE_SEL_col, F.PROBE_SEL_row, F.PROBE_SEL_out, F.PROBE_SEL_spine]⟩,
  ⟨0x20, [(4, 0x4)], [F.PROBE_OPT_sampled, F.PROBE_OPT_sample_clk, F.PROBE_OPT_div]⟩]

/-- Rows of the FMC block. -/
def rowsFmc : List RegRow := [
  ⟨0x4, [], [F.FMC_STAT_cnt_overflow, F.FMC_STAT_row_fault, F.FMC_STAT_uncorrectable, F.FMC_STAT_corrected, F.FMC_STAT_ch_retired]⟩,
  ⟨0xC, [], [F.FMC_INFO_state, F.FMC_INFO_ch_ok]⟩,
  ⟨0x10, [], [F.FMC_TEMP_hot, F.FMC_TEMP_temp]⟩,
  ⟨0x14, [], [F.FMC_ROW_channel, F.FMC_ROW_bank, F.FMC_ROW_row]⟩,
  ⟨0x20, [(16, 0x4)], [F.FMC_CH_state, F.FMC_CH_spared, F.FMC_CH_exhausted, F.FMC_CH_cause, F.FMC_CH_spares_left]⟩,
  ⟨0x80, [], [F.FMC_SH_RD_LO_lo]⟩,
  ⟨0x84, [], [F.FMC_SH_RD_HI_overflow, F.FMC_SH_RD_HI_hi]⟩,
  ⟨0x88, [], [F.FMC_SH_WR_LO_lo]⟩,
  ⟨0x8C, [], [F.FMC_SH_WR_HI_overflow, F.FMC_SH_WR_HI_hi]⟩,
  ⟨0x90, [], [F.FMC_SH_CORR_LO_lo]⟩,
  ⟨0x94, [], [F.FMC_SH_CORR_HI_overflow, F.FMC_SH_CORR_HI_hi]⟩,
  ⟨0x98, [], [F.FMC_SH_UNCORR_LO_lo]⟩,
  ⟨0x9C, [], [F.FMC_SH_UNCORR_HI_overflow, F.FMC_SH_UNCORR_HI_hi]⟩,
  ⟨0xA0, [], [F.FMC_SH_REPLAY_LO_lo]⟩,
  ⟨0xA4, [], [F.FMC_SH_REPLAY_HI_overflow, F.FMC_SH_REPLAY_HI_hi]⟩]

/-- Rows of the SEAL block. -/
def rowsSeal : List RegRow := [
  ⟨0x4, [], [F.SEAL_STAT_cnt_overflow, F.SEAL_STAT_list_full, F.SEAL_STAT_partial_refused, F.SEAL_STAT_refused, F.SEAL_STAT_poisoned, F.SEAL_STAT_sweep_done]⟩,
  ⟨0xC, [], [F.SEAL_INFO_early_used, F.SEAL_INFO_poison_used]⟩,
  ⟨0x10, [], [F.SEAL_OPEN_rights]⟩,
  ⟨0x200, [(64, 0x4)], [F.SEAL_POISON_valid, F.SEAL_POISON_cause, F.SEAL_POISON_line]⟩,
  ⟨0x400, [(32, 0x20)], [F.SEAL_SECT_CFG_enable, F.SEAL_SECT_CFG_sealed, F.SEAL_SECT_CFG_staging, F.SEAL_SECT_CFG_rights]⟩,
  ⟨0x404, [(32, 0x20)], [F.SEAL_SECT_RANGE_limit, F.SEAL_SECT_RANGE_base]⟩,
  ⟨0x408, [(32, 0x20)], [F.SEAL_SECT_STAT_state, F.SEAL_SECT_STAT_fast]⟩,
  ⟨0x40C, [(32, 0x20)], [F.SEAL_SECT_EPOCH_epoch]⟩,
  ⟨0x410, [(32, 0x20)], [F.SEAL_SECT_PTR_line]⟩,
  ⟨0x80, [], [F.SEAL_SH_TAGFAIL_LO_lo]⟩,
  ⟨0x84, [], [F.SEAL_SH_TAGFAIL_HI_overflow, F.SEAL_SH_TAGFAIL_HI_hi]⟩,
  ⟨0x88, [], [F.SEAL_SH_RETRYOK_LO_lo]⟩,
  ⟨0x8C, [], [F.SEAL_SH_RETRYOK_HI_overflow, F.SEAL_SH_RETRYOK_HI_hi]⟩,
  ⟨0x90, [], [F.SEAL_SH_POISONRD_LO_lo]⟩,
  ⟨0x94, [], [F.SEAL_SH_POISONRD_HI_overflow, F.SEAL_SH_POISONRD_HI_hi]⟩,
  ⟨0x98, [], [F.SEAL_SH_REFUSED_LO_lo]⟩,
  ⟨0x9C, [], [F.SEAL_SH_REFUSED_HI_overflow, F.SEAL_SH_REFUSED_HI_hi]⟩,
  ⟨0xA0, [], [F.SEAL_SH_SWEPT_LO_lo]⟩,
  ⟨0xA4, [], [F.SEAL_SH_SWEPT_HI_overflow, F.SEAL_SH_SWEPT_HI_hi]⟩]

/-- Rows of the UIO block. -/
def rowsUio : List RegRow := [
  ⟨0xC, [], [F.UIO_INFO_quadrant, F.UIO_INFO_count]⟩,
  ⟨0x10, [(4, 0x4)], [F.UIO_IN_in]⟩,
  ⟨0x20, [(4, 0x4)], [F.UIO_OUT_out]⟩,
  ⟨0x30, [(4, 0x4)], [F.UIO_OEN_oen]⟩,
  ⟨0x100, [(112, 0x4)], [F.UIO_PAD_pull, F.UIO_PAD_drive, F.UIO_PAD_fast, F.UIO_PAD_schmitt, F.UIO_PAD_facet]⟩]

/-- Rows of the EDGE block. -/
def rowsEdge : List RegRow := [
  ⟨0x4, [], [F.EDGE_STAT_cnt_overflow, F.EDGE_STAT_split, F.EDGE_STAT_step_drop, F.EDGE_STAT_lane_retired, F.EDGE_STAT_state]⟩,
  ⟨0xC, [], [F.EDGE_INFO_edge, F.EDGE_INFO_waveguides, F.EDGE_INFO_step, F.EDGE_INFO_lanes]⟩,
  ⟨0x20, [(16, 0x4)], [F.EDGE_WG_working, F.EDGE_WG_retired]⟩,
  ⟨0x80, [], [F.EDGE_SH_REPLAY_LO_lo]⟩,
  ⟨0x84, [], [F.EDGE_SH_REPLAY_HI_overflow, F.EDGE_SH_REPLAY_HI_hi]⟩,
  ⟨0x88, [], [F.EDGE_SH_LANEERR_LO_lo]⟩,
  ⟨0x8C, [], [F.EDGE_SH_LANEERR_HI_overflow, F.EDGE_SH_LANEERR_HI_hi]⟩,
  ⟨0x90, [], [F.EDGE_SH_RETRAIN_LO_lo]⟩,
  ⟨0x94, [], [F.EDGE_SH_RETRAIN_HI_overflow, F.EDGE_SH_RETRAIN_HI_hi]⟩,
  ⟨0x98, [], [F.EDGE_SH_WAIT_LO_lo]⟩,
  ⟨0x9C, [], [F.EDGE_SH_WAIT_HI_overflow, F.EDGE_SH_WAIT_HI_hi]⟩]

/-- Rows of the NI block, part 0. -/
def rowsNi_0 : List RegRow := [
  ⟨0x4, [], [F.NI_STAT_cnt_overflow, F.NI_STAT_starved, F.NI_STAT_returned, F.NI_STAT_dropped, F.NI_STAT_unfit, F.NI_STAT_refused]⟩,
  ⟨0xC, [], [F.NI_INFO_x, F.NI_INFO_y, F.NI_INFO_v]⟩,
  ⟨0x10, [], [F.NI_CFG_resp_bufs, F.NI_CFG_mgmt_quota, F.NI_CFG_req_quota]⟩,
  ⟨0x14, [], [F.NI_STARVE_bound]⟩,
  ⟨0x18, [], [F.NI_ROUTE_y_state, F.NI_ROUTE_x_state, F.NI_ROUTE_fenced, F.NI_ROUTE_bypass]⟩,
  ⟨0x20, [], [F.NI_FLOW_CTL_enable, F.NI_FLOW_CTL_kind, F.NI_FLOW_CTL_dst_x, F.NI_FLOW_CTL_dst_y]⟩,
  ⟨0x24, [], [F.NI_FLOW_RATE_burst, F.NI_FLOW_RATE_rate]⟩,
  ⟨0x28, [], [F.NI_FLOW_ADMIT_withdraw, F.NI_FLOW_ADMIT_admit]⟩,
  ⟨0x2C, [], [F.NI_FLOW_STAT_unfit, F.NI_FLOW_STAT_admitted, F.NI_FLOW_STAT_active]⟩,
  ⟨0x30, [], [F.NI_FLOW_BASE_LO_base]⟩,
  ⟨0x34, [], [F.NI_FLOW_BASE_HI_base]⟩,
  ⟨0x38, [], [F.NI_FLOW_STRIDE_stride]⟩,
  ⟨0x3C, [], [F.NI_FLOW_FRAMES_index, F.NI_FLOW_FRAMES_frames]⟩,
  ⟨0x40, [], [F.NI_SH_TX_LO_lo]⟩,
  ⟨0x44, [], [F.NI_SH_TX_HI_overflow, F.NI_SH_TX_HI_hi]⟩,
  ⟨0x48, [], [F.NI_SH_RX_LO_lo]⟩,
  ⟨0x4C, [], [F.NI_SH_RX_HI_overflow, F.NI_SH_RX_HI_hi]⟩,
  ⟨0x50, [], [F.NI_SH_STALL_LO_lo]⟩,
  ⟨0x54, [], [F.NI_SH_STALL_HI_overflow, F.NI_SH_STALL_HI_hi]⟩,
  ⟨0x58, [], [F.NI_SH_RETURNED_LO_lo]⟩]

/-- Rows of the NI block, part 1. -/
def rowsNi_1 : List RegRow := [
  ⟨0x5C, [], [F.NI_SH_RETURNED_HI_overflow, F.NI_SH_RETURNED_HI_hi]⟩,
  ⟨0x60, [], [F.NI_SH_DROP_LO_lo]⟩,
  ⟨0x64, [], [F.NI_SH_DROP_HI_overflow, F.NI_SH_DROP_HI_hi]⟩,
  ⟨0x400, [(64, 0x10)], [F.NI_CHORD_MATCH_valid, F.NI_CHORD_MATCH_class_mask, F.NI_CHORD_MATCH_y_hi, F.NI_CHORD_MATCH_y_lo, F.NI_CHORD_MATCH_x_hi, F.NI_CHORD_MATCH_x_lo]⟩,
  ⟨0x404, [(64, 0x10)], [F.NI_CHORD_ROUTE0_turn4, F.NI_CHORD_ROUTE0_turn3, F.NI_CHORD_ROUTE0_turn2, F.NI_CHORD_ROUTE0_turn1, F.NI_CHORD_ROUTE0_first_dir, F.NI_CHORD_ROUTE0_first_ring, F.NI_CHORD_ROUTE0_turns]⟩,
  ⟨0x408, [(64, 0x10)], [F.NI_CHORD_ROUTE1_turn6, F.NI_CHORD_ROUTE1_turn5]⟩]

/-- Rows of the NI block. -/
def rowsNi : List RegRow := rowsNi_0 ++ rowsNi_1

/-- Rows of the LSYS block. -/
def rowsLsys : List RegRow := [
  ⟨0xC, [], [F.LSYS_INFO_first_lane, F.LSYS_INFO_side, F.LSYS_INFO_groups_on]⟩,
  ⟨0x10, [], [F.LSYS_RETIRED_groups]⟩,
  ⟨0x14, [], [F.LSYS_CAL_busy, F.LSYS_CAL_lane]⟩,
  ⟨0x18, [], [F.LSYS_TEMP_temp]⟩]

/-- Rows of the REFC block. -/
def rowsRefc : List RegRow := [
  ⟨0x4, [], [F.REFC_STAT_lost]⟩,
  ⟨0x10, [(8, 0x4)], [F.REFC_STATK_present, F.REFC_STATK_in_use, F.REFC_STATK_nominal]⟩,
  ⟨0x30, [(8, 0x4)], [F.REFC_PPM_ppm]⟩]

/-- Rows of the MCF block. -/
def rowsMcf : List RegRow := [
  ⟨0x4, [], [F.MCF_STAT_cnt_overflow, F.MCF_STAT_full]⟩,
  ⟨0xC, [], [F.MCF_INFO_entries, F.MCF_INFO_used]⟩,
  ⟨0x10, [], [F.MCF_STORE_reserved_kib]⟩,
  ⟨0x20, [], [F.MCF_SH_MISS_LO_lo]⟩,
  ⟨0x24, [], [F.MCF_SH_MISS_HI_overflow, F.MCF_SH_MISS_HI_hi]⟩]

/-- Rows of the SHE block. -/
def rowsShe : List RegRow := [
  ⟨0x4, [], [F.SHE_STAT_cnt_overflow]⟩,
  ⟨0x20, [(18, 0x4)], [F.SHE_B_state, F.SHE_B_spared, F.SHE_B_exhausted, F.SHE_B_working, F.SHE_B_spares_left]⟩,
  ⟨0x80, [], [F.SHE_SH_REPLAY_LO_lo]⟩,
  ⟨0x84, [], [F.SHE_SH_REPLAY_HI_overflow, F.SHE_SH_REPLAY_HI_hi]⟩]

/-- Rows of the SE block, part 0. -/
def rowsSe_0 : List RegRow := [
  ⟨0x4, [], [F.SE_STAT_cnt_overflow]⟩,
  ⟨0xC, [], [F.SE_INFO_first_lane, F.SE_INFO_rx_used, F.SE_INFO_tx_used]⟩,
  ⟨0x100, [(8, 0x40)], [F.SE_CH_CFG_rx_on, F.SE_CH_CFG_tx_on, F.SE_CH_CFG_rx_map, F.SE_CH_CFG_tx_map, F.SE_CH_CFG_raster, F.SE_CH_CFG_rate, F.SE_CH_CFG_south, F.SE_CH_CFG_port]⟩,
  ⟨0x104, [(8, 0x40)], [F.SE_CH_STAT_discard, F.SE_CH_STAT_underflow, F.SE_CH_STAT_skew, F.SE_CH_STAT_pid_mismatch, F.SE_CH_STAT_pid_change, F.SE_CH_STAT_format_change, F.SE_CH_STAT_lost, F.SE_CH_STAT_crc, F.SE_CH_STAT_tx_state, F.SE_CH_STAT_rx_state]⟩,
  ⟨0x108, [(8, 0x40)], [F.SE_CH_PID_pid]⟩,
  ⟨0x10C, [(8, 0x40)], [F.SE_CH_FMT_interlaced, F.SE_CH_FMT_lines, F.SE_CH_FMT_samples]⟩,
  ⟨0x110, [(8, 0x40)], [F.SE_CH_XPT_kind, F.SE_CH_XPT_south, F.SE_CH_XPT_member]⟩,
  ⟨0x118, [(8, 0x40)], [F.SE_CH_SH_LINES_LO_lo]⟩,
  ⟨0x11C, [(8, 0x40)], [F.SE_CH_SH_LINES_HI_overflow, F.SE_CH_SH_LINES_HI_hi]⟩,
  ⟨0x120, [(8, 0x40)], [F.SE_CH_SH_CRC_LO_lo]⟩,
  ⟨0x124, [(8, 0x40)], [F.SE_CH_SH_CRC_HI_overflow, F.SE_CH_SH_CRC_HI_hi]⟩,
  ⟨0x128, [(8, 0x40)], [F.SE_CH_SH_TRS_LO_lo]⟩,
  ⟨0x12C, [(8, 0x40)], [F.SE_CH_SH_TRS_HI_overflow, F.SE_CH_SH_TRS_HI_hi]⟩,
  ⟨0x130, [(8, 0x40)], [F.SE_CH_SH_TXLINES_LO_lo]⟩,
  ⟨0x134, [(8, 0x40)], [F.SE_CH_SH_TXLINES_HI_overflow, F.SE_CH_SH_TXLINES_HI_hi]⟩,
  ⟨0x138, [(8, 0x40)], [F.SE_CH_SH_BLACK_LO_lo]⟩,
  ⟨0x13C, [(8, 0x40)], [F.SE_CH_SH_BLACK_HI_overflow, F.SE_CH_SH_BLACK_HI_hi]⟩,
  ⟨0x400, [(8, 0x20)], [F.SE_PORT_STAT_link_up, F.SE_PORT_STAT_local_fault, F.SE_PORT_STAT_remote_fault, F.SE_PORT_STAT_fec_lock, F.SE_PORT_STAT_link_down, F.SE_PORT_STAT_fec_uncorr, F.SE_PORT_STAT_bad_frame]⟩,
  ⟨0x404, [(8, 0x20)], [F.SE_PORT_CFG_word2]⟩,
  ⟨0x408, [(8, 0x20)], [F.SE_PORT_SH_BAD_LO_lo]⟩]

/-- Rows of the SE block, part 1. -/
def rowsSe_1 : List RegRow := [
  ⟨0x40C, [(8, 0x20)], [F.SE_PORT_SH_BAD_HI_overflow, F.SE_PORT_SH_BAD_HI_hi]⟩,
  ⟨0x410, [(8, 0x20)], [F.SE_PORT_SH_CORR_LO_lo]⟩,
  ⟨0x414, [(8, 0x20)], [F.SE_PORT_SH_CORR_HI_overflow, F.SE_PORT_SH_CORR_HI_hi]⟩,
  ⟨0x418, [(8, 0x20)], [F.SE_PORT_SH_UNCORR_LO_lo]⟩,
  ⟨0x41C, [(8, 0x20)], [F.SE_PORT_SH_UNCORR_HI_overflow, F.SE_PORT_SH_UNCORR_HI_hi]⟩,
  ⟨0x1000, [(256, 0x20)], [F.SE_RXF_STAT_valid, F.SE_RXF_STAT_merged, F.SE_RXF_STAT_state, F.SE_RXF_STAT_leg_gap, F.SE_RXF_STAT_gap, F.SE_RXF_STAT_lost]⟩,
  ⟨0x1008, [(256, 0x20)], [F.SE_RXF_SH_PKTS_LO_lo]⟩,
  ⟨0x100C, [(256, 0x20)], [F.SE_RXF_SH_PKTS_HI_overflow, F.SE_RXF_SH_PKTS_HI_hi]⟩,
  ⟨0x1010, [(256, 0x20)], [F.SE_RXF_SH_GAP_LO_lo]⟩,
  ⟨0x1014, [(256, 0x20)], [F.SE_RXF_SH_GAP_HI_overflow, F.SE_RXF_SH_GAP_HI_hi]⟩,
  ⟨0x1018, [(256, 0x20)], [F.SE_RXF_SH_FILL_LO_lo]⟩,
  ⟨0x101C, [(256, 0x20)], [F.SE_RXF_SH_FILL_HI_overflow, F.SE_RXF_SH_FILL_HI_hi]⟩,
  ⟨0x3000, [(256, 0x10)], [F.SE_TXF_STAT_valid, F.SE_TXF_STAT_state, F.SE_TXF_STAT_underrun]⟩,
  ⟨0x3008, [(256, 0x10)], [F.SE_TXF_SH_PKTS_LO_lo]⟩,
  ⟨0x300C, [(256, 0x10)], [F.SE_TXF_SH_PKTS_HI_overflow, F.SE_TXF_SH_PKTS_HI_hi]⟩]

/-- Rows of the SE block. -/
def rowsSe : List RegRow := rowsSe_0 ++ rowsSe_1

/-- Rows of the LANE block, part 0. -/
def rowsLane_0 : List RegRow := [
  ⟨0x4, [], [F.LANE_STAT_ref_lost, F.LANE_STAT_cal_failed, F.LANE_STAT_suspect, F.LANE_STAT_eb_underflow, F.LANE_STAT_eb_overflow, F.LANE_STAT_align_lost, F.LANE_STAT_sig_lost, F.LANE_STAT_cnt_overflow, F.LANE_STAT_cal_stale, F.LANE_STAT_prbs_locked, F.LANE_STAT_sig_detect, F.LANE_STAT_tx_ready, F.LANE_STAT_state]⟩,
  ⟨0xC, [], [F.LANE_INFO_cause, F.LANE_INFO_lane, F.LANE_INFO_group, F.LANE_INFO_member]⟩,
  ⟨0x10, [], [F.LANE_CFG0_word5]⟩,
  ⟨0x14, [], [F.LANE_CFG1_word6]⟩,
  ⟨0x18, [], [F.LANE_REFKHZ_word7]⟩,
  ⟨0x1C, [], [F.LANE_TXEQ_word8]⟩,
  ⟨0x20, [], [F.LANE_FILL_word9]⟩,
  ⟨0x24, [], [F.LANE_RXEQ_ctle, F.LANE_RXEQ_vga, F.LANE_RXEQ_dfe1, F.LANE_RXEQ_dfe2]⟩,
  ⟨0x28, [], [F.LANE_PPM_ppm]⟩,
  ⟨0x40, [], [F.LANE_SH_PRBS_BITS_LO_lo]⟩,
  ⟨0x44, [], [F.LANE_SH_PRBS_BITS_HI_overflow, F.LANE_SH_PRBS_BITS_HI_hi]⟩,
  ⟨0x48, [], [F.LANE_SH_PRBS_ERR_LO_lo]⟩,
  ⟨0x4C, [], [F.LANE_SH_PRBS_ERR_HI_overflow, F.LANE_SH_PRBS_ERR_HI_hi]⟩,
  ⟨0x50, [], [F.LANE_SH_CODE_LO_lo]⟩,
  ⟨0x54, [], [F.LANE_SH_CODE_HI_overflow, F.LANE_SH_CODE_HI_hi]⟩,
  ⟨0x58, [], [F.LANE_SH_INS_LO_lo]⟩,
  ⟨0x5C, [], [F.LANE_SH_INS_HI_overflow, F.LANE_SH_INS_HI_hi]⟩,
  ⟨0x60, [], [F.LANE_SH_DEL_LO_lo]⟩,
  ⟨0x64, [], [F.LANE_SH_DEL_HI_overflow, F.LANE_SH_DEL_HI_hi]⟩,
  ⟨0x68, [], [F.LANE_SH_EBERR_LO_lo]⟩]

/-- Rows of the LANE block, part 1. -/
def rowsLane_1 : List RegRow := [
  ⟨0x6C, [], [F.LANE_SH_EBERR_HI_overflow, F.LANE_SH_EBERR_HI_hi]⟩,
  ⟨0x70, [], [F.LANE_SH_RECOVER_LO_lo]⟩,
  ⟨0x74, [], [F.LANE_SH_RECOVER_HI_overflow, F.LANE_SH_RECOVER_HI_hi]⟩,
  ⟨0x78, [], [F.LANE_SH_SIGLOSS_LO_lo]⟩,
  ⟨0x7C, [], [F.LANE_SH_SIGLOSS_HI_overflow, F.LANE_SH_SIGLOSS_HI_hi]⟩,
  ⟨0x80, [], [F.LANE_SH_SLIP_LO_lo]⟩,
  ⟨0x84, [], [F.LANE_SH_SLIP_HI_overflow, F.LANE_SH_SLIP_HI_hi]⟩]

/-- Rows of the LANE block. -/
def rowsLane : List RegRow := rowsLane_0 ++ rowsLane_1

/-- Rows of the PROT block, part 0. -/
def rowsProt_0 : List RegRow := [
  ⟨0x4, [], [F.PROT_STAT_time_step, F.PROT_STAT_cnt_overflow, F.PROT_STAT_vrx_breach, F.PROT_STAT_cinst_breach, F.PROT_STAT_ptp_breach, F.PROT_STAT_jit_breach, F.PROT_STAT_eye_breach, F.PROT_STAT_t_breach]⟩,
  ⟨0xC, [], [F.PROT_INFO_lane, F.PROT_INFO_native]⟩,
  ⟨0x10, [], [F.PROT_LIVE_eye_paused, F.PROT_LIVE_measuring, F.PROT_LIVE_ref_unlocked, F.PROT_LIVE_breach]⟩,
  ⟨0x40, [(10, 0x4)], [F.PROT_CFG_word]⟩,
  ⟨0x70, [], [F.PROT_C21_TRS_trs_ps]⟩,
  ⟨0x74, [], [F.PROT_C21_INFO_cmax_used, F.PROT_C21_INFO_npackets]⟩,
  ⟨0x78, [], [F.PROT_C21_VLIM_vrx_used]⟩,
  ⟨0x80, [], [F.PROT_SH_STAT_overflow, F.PROT_SH_STAT_unlocked, F.PROT_SH_STAT_t_src]⟩,
  ⟨0x84, [], [F.PROT_SH_AT_T0_at]⟩,
  ⟨0x88, [], [F.PROT_SH_AT_T1_at]⟩,
  ⟨0x8C, [], [F.PROT_SH_AT_T2_at]⟩,
  ⟨0x90, [], [F.PROT_SH_T_LAST_v]⟩,
  ⟨0x94, [], [F.PROT_SH_T_MIN_v]⟩,
  ⟨0x98, [], [F.PROT_SH_T_MAX_v]⟩,
  ⟨0x9C, [], [F.PROT_SH_T_SUM_LO_lo]⟩,
  ⟨0xA0, [], [F.PROT_SH_T_SUM_HI_overflow, F.PROT_SH_T_SUM_HI_hi]⟩,
  ⟨0xA4, [], [F.PROT_SH_T_CNT_LO_lo]⟩,
  ⟨0xA8, [], [F.PROT_SH_T_CNT_HI_overflow, F.PROT_SH_T_CNT_HI_hi]⟩,
  ⟨0xB0, [], [F.PROT_SH_EYE_h_min, F.PROT_SH_EYE_h_last, F.PROT_SH_EYE_v_min, F.PROT_SH_EYE_v_last]⟩,
  ⟨0xB4, [], [F.PROT_SH_JIT_TJ_max, F.PROT_SH_JIT_TJ_last]⟩]

/-- Rows of the PROT block, part 1. -/
def rowsProt_1 : List RegRow := [
  ⟨0xB8, [], [F.PROT_SH_JIT_AJ_max, F.PROT_SH_JIT_AJ_last]⟩,
  ⟨0xC0, [], [F.PROT_SH_CRC_LO_lo]⟩,
  ⟨0xC4, [], [F.PROT_SH_CRC_HI_overflow, F.PROT_SH_CRC_HI_hi]⟩,
  ⟨0xC8, [], [F.PROT_SH_ES_LO_lo]⟩,
  ⟨0xCC, [], [F.PROT_SH_ES_HI_overflow, F.PROT_SH_ES_HI_hi]⟩,
  ⟨0xD0, [], [F.PROT_SH_SES_LO_lo]⟩,
  ⟨0xD4, [], [F.PROT_SH_SES_HI_overflow, F.PROT_SH_SES_HI_hi]⟩,
  ⟨0xD8, [], [F.PROT_SH_UAS_LO_lo]⟩,
  ⟨0xDC, [], [F.PROT_SH_UAS_HI_overflow, F.PROT_SH_UAS_HI_hi]⟩,
  ⟨0xE0, [], [F.PROT_SH_SECS_LO_lo]⟩,
  ⟨0xE4, [], [F.PROT_SH_SECS_HI_overflow, F.PROT_SH_SECS_HI_hi]⟩,
  ⟨0x100, [], [F.PROT_SH_PTP_LAST_v]⟩,
  ⟨0x104, [], [F.PROT_SH_PTP_MIN_v]⟩,
  ⟨0x108, [], [F.PROT_SH_PTP_MAX_v]⟩,
  ⟨0x10C, [], [F.PROT_SH_PTP_SUM_LO_lo]⟩,
  ⟨0x110, [], [F.PROT_SH_PTP_SUM_HI_overflow, F.PROT_SH_PTP_SUM_HI_hi]⟩,
  ⟨0x114, [], [F.PROT_SH_PTP_CNT_LO_lo]⟩,
  ⟨0x118, [], [F.PROT_SH_PTP_CNT_HI_overflow, F.PROT_SH_PTP_CNT_HI_hi]⟩,
  ⟨0x11C, [], [F.PROT_SH_PTP_DELAY_delay]⟩,
  ⟨0x120, [], [F.PROT_SH_PTP_GM_LO_gm]⟩]

/-- Rows of the PROT block, part 2. -/
def rowsProt_2 : List RegRow := [
  ⟨0x124, [], [F.PROT_SH_PTP_GM_HI_gm]⟩,
  ⟨0x140, [], [F.PROT_SH_C21_PEAK_cinst_max, F.PROT_SH_C21_PEAK_cinst_last]⟩,
  ⟨0x144, [], [F.PROT_SH_C21_VRX_vrx_max, F.PROT_SH_C21_VRX_vrx_last]⟩,
  ⟨0x148, [], [F.PROT_SH_C21_FRAMES_LO_lo]⟩,
  ⟨0x14C, [], [F.PROT_SH_C21_FRAMES_HI_overflow, F.PROT_SH_C21_FRAMES_HI_hi]⟩,
  ⟨0x150, [], [F.PROT_SH_C21_CBAD_LO_lo]⟩,
  ⟨0x154, [], [F.PROT_SH_C21_CBAD_HI_overflow, F.PROT_SH_C21_CBAD_HI_hi]⟩,
  ⟨0x158, [], [F.PROT_SH_C21_VBAD_LO_lo]⟩,
  ⟨0x15C, [], [F.PROT_SH_C21_VBAD_HI_overflow, F.PROT_SH_C21_VBAD_HI_hi]⟩]

/-- Rows of the PROT block. -/
def rowsProt : List RegRow := rowsProt_0 ++ rowsProt_1 ++ rowsProt_2

/-- Rows of the PSYS block. -/
def rowsPsys : List RegRow := [
  ⟨0x4, [], [F.PSYS_STAT_refused, F.PSYS_STAT_write_refused, F.PSYS_STAT_fenced]⟩,
  ⟨0xC, [], [F.PSYS_ID_vendor, F.PSYS_ID_die_code, F.PSYS_ID_revision]⟩,
  ⟨0x10, [], [F.PSYS_PWR_max_power]⟩,
  ⟨0x100, [(8, 0x8)], [F.PSYS_WIN_BASE_valid, F.PSYS_WIN_BASE_read, F.PSYS_WIN_BASE_write, F.PSYS_WIN_BASE_base]⟩,
  ⟨0x104, [(8, 0x8)], [F.PSYS_WIN_LIMIT_limit]⟩]

/-- The register rows of each block kind. -/
def BlkKind.rows : BlkKind → List RegRow
  | .sys => rowsSys
  | .hq => rowsHq
  | .dma => rowsDma
  | .evc => rowsEvc
  | .mbx => rowsMbx
  | .cue => rowsCue
  | .time => rowsTime
  | .loop => rowsLoop
  | .clko => rowsClko
  | .cfg => rowsCfg
  | .sec => rowsSec
  | .jrnl => rowsJrnl
  | .pwr => rowsPwr
  | .lamp => rowsLamp
  | .ucie => rowsUcie
  | .pcie => rowsPcie
  | .dbg => rowsDbg
  | .qsys => rowsQsys
  | .floop => rowsFloop
  | .facet => rowsFacet
  | .sp => rowsSp
  | .qc => rowsQc
  | .scrub => rowsScrub
  | .probe => rowsProbe
  | .fmc => rowsFmc
  | .seal => rowsSeal
  | .uio => rowsUio
  | .edge => rowsEdge
  | .ni => rowsNi
  | .lsys => rowsLsys
  | .refc => rowsRefc
  | .mcf => rowsMcf
  | .she => rowsShe
  | .se => rowsSe
  | .lane => rowsLane
  | .prot => rowsProt
  | .psys => rowsPsys

end Sys2Proof.Machine
end

