-- ==== Sys2Proof/Config.lean ====
section
/-! DEFINITION. What the spec leaves to another standard, to the device model (R10) or to nature, as constants without a
body: nothing can evaluate them, so a claim holds whatever they are. Each is named in the assumption log. -/
namespace Sys2Proof.Config

/-- A fresh value of the `n`-th open choice (assumption log 2): the device applies it to the counter `State.fresh`. -/
opaque free : Nat → Nat

/-- Whether the `n`-th abandoned posted write took effect (R62). -/
opaque tookEffect : Nat → Bool

/-- SHA-384 of a byte string, as a number (R257, FIPS 180-4: not restated in the spec). -/
opaque sha384 : List Byte → Nat

/-- ECDSA P-384 verification of (key, message digest, signature) (R258, R647, FIPS 186-5). -/
opaque ecdsaOk : Nat → Nat → List Byte → Bool

/-- AES-256-GCM decryption of a segment: the plain bytes where the tag passes (R259, NIST SP 800-38D). -/
opaque gcmOpen : Nat → Nat → List Byte → Option (List Byte)

/-- AES key unwrap of a key blob with the wrapping key (R291, NIST SP 800-38F): the key where the check passes. -/
opaque keyUnwrap : Nat → List Byte → Option Nat

/-- The key derivation function of R535 and R291: (root, label, epoch) to key. -/
opaque kdf : Nat → Nat → Nat → Nat

/-- The 256-bit nonce drawn at the `n`-th challenge (R646). -/
opaque nonce : Nat → Nat

/-- The best master clock algorithm of IEEE 1588-2019 (R340, not restated in the spec): whether the first announced data set
is better than the second. -/
opaque bmcaBetter : Nat → Nat → Bool

/-- The limits of SMPTE ST 2110-21 (R472, not restated in the spec): model, NPACKETS and TRS in ps to CMAX. -/
opaque c21Cmax : Nat → Nat → Nat → Nat

/-- The same for VRXFULL. -/
opaque c21Vrx : Nat → Nat → Nat → Nat

/-- The default TROFFSET of ST 2110-21 in ns (R444, R474, not restated): words 2 and 12 of the flow record. -/
opaque troDefault : Nat → Nat → Nat

/-- The value of a cell's qw_src and qn_src at which the flip-flop loads its bypass input (R127, R280: the two sources are named, their
codes are not). -/
opaque bypassCode : Bool

/-- The payload identifier that SMPTE ST 352 gives for a raster, rate code and mapping (R437, not restated in the spec). -/
opaque payloadId : Nat → Nat → Nat → Nat

/-- Whether, at the `n`-th free choice, the fresh pass map that a die sends after its reset shows no new failure
(R497). -/
opaque edgeSame : Nat → Bool

/-- The announce interval of a PTP domain in ns, which its grandmasters set (R339): port and domain. -/
opaque announceNs : Nat → Nat → Nat

/-- What makes up the factory nominal power of a lamp's line (R502), which no rule gives: lamp and line. -/
opaque linePower : Nat → Nat → Nat
/-- The factory nominal power of a line, in 10 µW: not 0. -/
def lineNominal (j k : Nat) : Nat := 1 + linePower j k

/-- How often beyond twice a flit must fail at one sequence position, with no pass between, for its link to be retired: R301 says only that the
same position fails repeatedly. -/
opaque positionRepeats : Nat

/-- The GCM tag of a sealed Glenu frame (R585): key, IV, header payload, data. -/
opaque glenuTag : Nat → Nat → Nat → Nat → Nat

/-- The keystream of a sealed Glenu frame (R585): key, IV. -/
opaque glenuPad : Nat → Nat → Nat

end Sys2Proof.Config
end

