-- ==== Sys2Proof/Machine/State.lean ====
section
/-! DEFINITION. The state of the SLN-9440, as plain data: everything the spec gives the device (INVENTORY.md, heading State,
lists each piece with its rule), the queue of commands waiting, and what has left the device. Register fields live in one
sparse store keyed by address and lowest bit (`State.regs`); a field that is not listed holds its reset value. -/
namespace Sys2Proof.Machine

/-! ## The device as fitted, and its surroundings -/

/-- What fuses and assembly fix (R3, R46, R294): the model is read for every value of these. -/
structure Ident where
  grade       : Nat := 2
  site        : Nat := 1
  serial      : Nat := 1
  idKeySet    : Bool := true
  debugPolicy : Nat := 0
  ownerHash   : Nat := 0
  xoWait      : Nat := 0
deriving DecidableEq, Repr
/-- The owner key hash is programmed (R262, R294). -/
def Ident.ownerSet (i : Ident) : Bool := i.ownerHash != 0

/-- A range of host addresses whose accesses the host answers with an error, or whose reads it answers with poisoned data (R91, R119). -/
structure HostBad where
  lo     : Nat
  hi     : Nat
  poison : Bool := false
deriving DecidableEq, Repr

/-! ## Register access -/

/-- A posted write on its way to a block outside die C (R59): the block's window base, the register's address, the words
(one or two, R50), who wrote it and when. -/
structure Posted where
  base   : Nat
  addr   : Nat
  words  : List Word
  master : Master
  time   : Nat
deriving DecidableEq, Repr

/-- A master's latch of a time value read live (R58): the master, the low word's address, the value. -/
structure Latch where
  master : Master
  addr   : Nat
  value  : Nat
deriving DecidableEq, Repr

/-! ## The queue sets and the steward -/

/-- The states of a queue set (R91). -/
inductive QState where
  | off | running | held | stopped
deriving DecidableEq, Repr

/-- A queue set beside its ring registers: its state and the count of replies since enable (R91, R97). -/
structure QSet where
  state : QState := .off
  seq   : Nat := 0
deriving DecidableEq, Repr

/-- A long or scheduled operation awaiting completion (R100–R103): its path and tag, its opcode, its target word, its
parameter words, the instant it is armed for, when it was accepted, when its next event is due, a progress number and the
result words gathered so far. -/
structure Op where
  src     : Src
  tag     : BitVec 8
  opcode  : Nat
  word1   : Word
  params  : List Word
  instant : Option Nat := none
  began   : Nat := 0
  due     : Nat := 0
  stage   : Nat := 0
  acc     : List Word := []
deriving DecidableEq, Repr

/-- The command paths (R83–R95, R113–R115): the sets, the commands fetched and not yet carried out (an opcode with 65,536 added is a packet
to be answered BAD_OPCODE, with 131,072 added BAD_LENGTH, and with 262,144 added one that a full lattice queue did not take), the replies ready and not yet written, the pending operations, the SPI path, the lattice queue and the replies for peers not yet on their way, the
firmware images (the slot that runs, the persistent one, which slots hold a good image, and each one's release as 4096 × minor +
patch) and the handover. -/
structure Hq where
  sets       : SMap QSet := []
  inbox      : List (Nat × Cmd) := []
  ready      : List Reply := []
  ops        : List Op := []
  spiRunning : Bool := false
  spiReply   : Bool := false
  spiGoHeld  : Bool := false
  latQueue   : List (Nat × Cmd) := []
  latOut     : List (Nat × List Word) := []
  image      : Nat := 0
  persistent : Nat := 0
  slotOk     : List Bool := [true, false]
  slotVer    : List Nat := [0, 0]
  handover   : Bool := false
deriving DecidableEq, Repr

/-! ## Events and MSI-X -/

/-- The delivery of events (R74–R76): the pending state each vector had when its last message was considered, the
per-vector masks, the MSI-X enables and function masks of the two functions and their MSI-X tables (vector: address and data; PCI configuration
space), and the PCIe link's generation and width while it is up, which a reset of the centroid's registers leaves (R76). -/
structure Evc where
  link    : Option (Nat × Nat) := none
  sent    : BitVec 128 := 0
  vecMask : BitVec 128 := BitVec.allOnes 128
  enMgmt  : Bool := false
  enData  : Bool := false
  fmMgmt  : Bool := false
  fmData  : Bool := false
  table   : SMap (Nat × Nat) := []
deriving DecidableEq, Repr

/-! ## Power, reset and the journal -/

/-- One journal entry (R631). -/
structure JEntry where
  code      : Nat
  permanent : Bool
  seq       : Nat
  target    : Nat
  time      : Nat
  d0        : Nat
  d1        : Nat
  d2        : Nat
deriving DecidableEq, Repr

/-- The fault journal (R631–R633), the next sequence number, the channel threshold T and the errors charged to channels in
the last second (R625): channel word and time. -/
structure Jrnl where
  held      : List JEntry := []
  nextSeq   : Nat := 0
  threshold : Nat := 16
  charged   : List (Nat × Nat) := []
deriving DecidableEq, Repr

/-- How far the power-on sequence has come (R619): in reset, t₀ reached, clocks running (step 3), firmware running
(step 4), dies released (steps 5 and 6), ready (step 7), or failed with no image (R620); `stopped` after 10 ms at the trip
temperature (R614). -/
inductive Boot where
  | inReset | t0 | clocks | firmware | dies | ready | failed | stopped
deriving DecidableEq, Repr

/-- Power, reset and thermal state (R609–R623): each domain's state code as PWR_DOM gives it (lamps apart), the last state each domain
reached (R111), the boot progress, whether it is a warm reset, the rail whose loss brought the device down (R618), the time of t₀, the
dies under reset, the thermal trip, since when sensor 0 has been at the trip temperature (R614), THERM_N, and a warm reset that
waits for its reply, with the queue set that sent it (R112, R632). -/
structure Pwr where
  dom       : SMap Nat := [(48,1),(49,1),(50,1),(51,1),(70,1),(71,1),(72,1),(73,1),(76,1),(77,1),(78,1),(79,1),(80,1),(81,1),(82,1),(83,1),(84,1)]
  last      : SMap Nat := [(48,1),(49,1),(50,1),(51,1),(70,1),(71,1),(72,1),(73,1),(76,1),(77,1),(78,1),(79,1),(80,1),(81,1),(82,1),(83,1),(84,1)]
  boot      : Boot := .inReset
  warm      : Bool := false
  brownout  : Option Nat := none
  t0        : Nat := 0
  inReset   : BitVec 8 := 0xFE
  trip      : Bool := false
  hotSince  : Option Nat := none
  thermN    : Bool := true
  warmAt    : Option Nat := none
  warmSrc   : Nat := 0xFF
deriving DecidableEq, Repr

/-! ## The fabric of the quadrants -/

/-- A request at a quadrant's fabric register port (R153, R154): the master that waits, the byte offset in the window, write
or read, byte enables, data, when it was presented, and the header words of the ring request that it answers, where it came that way, with
whether it is the last of the 64-bit accesses that such a request makes (R299). -/
structure RpReq where
  master : Master
  addr   : Nat
  write  : Bool
  be     : BitVec 8
  data   : BitVec 64
  time   : Nat
  ring   : Option (List Nat) := none
  last   : Bool := true
deriving DecidableEq, Repr

/-- A stream port's queue and intake (R146, R147, R151): the beats held, whether the port is discarding to the next
start of line, whether a line is in progress on the input side, and the ring packets that the network interface had accepted for it when
its intake stopped. -/
structure SpQ where
  beats   : List Beat := []
  discard : Bool := false
  inLine  : Bool := false
  stopped : Bool := true
  owed    : Nat := 0
deriving DecidableEq, Repr

/-- The configuration bits of a queue controller (R193). -/
structure QcBind where
  n      : Nat
  deep   : Bool
  paired : Bool
  bay    : Nat
deriving DecidableEq, Repr, Inhabited

/-- The configuration fields of an SAU (R207, R209–R213; the table of *Signals and configuration*, spec/06). -/
structure SauCfg where
  mode      : BitVec 2 := 0
  pre       : BitVec 2 := 0
  inSigned  : Bool := false
  join      : BitVec 2 := 0
  holdTotal : Bool := false
  shift     : BitVec 6 := 0
  rnd       : BitVec 2 := 0
  outW      : Bool := false
  outSigned : Bool := false
  clkSel    : BitVec 4 := 0
deriving DecidableEq, Repr, Inhabited

/-- What a facet plane configures outside its tiles (R221), as the device model's layout of frames 30,720–32,767 gives it
(R280): the spine codes of the 12 regional clocks (R139), the port widths of bays (key: unit, 2 × index + port; absent is
40), the bays' initialisation requests (1 clear, 2 initial contents), the queue-controller bindings, the SAU fields, the
register-port vertex, the isolation cells that it drives with their 2-bit held values (R225), the pads' settings, the codes of the
spines that it sets (R138), the regional clocks of the bays' ports (key: unit, 2 × index + port; absent is no clock, R167), the selects
of border channels and of user I/O by isolation cell, of SAU inputs and of bay port inputs (R134, R136, R169, R206; `Mux.number`), and which
input bits of an SAU and of a bay port (key: unit, 2 × index + port) select a source from outside the fabric, whose level a command's operand
gives, as a mask. -/
structure PlaneCfg where
  regional : List Nat := []
  widths   : List (Nat × Nat) := []
  bayInit  : List (Nat × Nat) := []
  binds    : List QcBind := []
  saus     : List (Nat × SauCfg) := []
  regport  : Option Nat := none
  cells    : List (Nat × Nat) := []
  pads     : List (Nat × Nat) := []
  spines   : List (Nat × Nat) := []
  clocks   : List (Nat × Nat) := []
  sels     : List (Nat × Nat) := []
  sauIn    : List (Nat × Nat) := []
  bayIn    : List (Nat × Nat) := []
deriving DecidableEq, Repr, Inhabited

/-- The fabric state of the quadrants (R40, R127, R146, R156): requests waiting in the network interface and requests
outstanding at each register port, responses still to come for requests that timed out, the queues of the stream ports (key:
address of the port's register group), flip-flops that differ from their init value (key: 32 × (30,720 × facet + tile) +
flip-flop), the level the design gives each user event line (key: 56q + j), the isolation cells held at 1, each with the facet that holds
it plus 1 (key: 33,554,432q + cell), the spine multiplexers (key: 24q + spine), and the levels of the signals that enter facets from bays,
controllers, ports and balls, as last given (key: 16,777,216 × facet + signal), for each quadrant what the accesses of the ring request
in progress at its register port have answered so far (R299): the first error status, and the bytes; and what each sampled probe took at the
last two edges of its sample clock, the older in bit 1 (key: 4q + k; R164). -/
structure Fab where
  wait   : SMap (List RpReq) := []
  rp     : SMap (List RpReq) := []
  late   : SMap Nat := []
  ports  : SMap SpQ := []
  ffs    : SMap Nat := []
  lines  : SMap Nat := []
  held   : SMap Nat := []
  spines : SMap Nat := []
  levels : SMap Nat := []
  gather : SMap (Nat × List Byte) := []
  samples : SMap Nat := []
deriving DecidableEq, Repr

/-! ## Bays and queue controllers -/

/-- A stored bay word (R166, R172, R177): 40 data bits, four row-parity bits, three 2-bit state copies. -/
structure BWord where
  data : BitVec 40 := 0
  par  : BitVec 4 := 0
  st   : BitVec 6 := 0
deriving DecidableEq, Repr

/-- A column-parity word (R177). -/
structure CWord where
  data : BitVec 40 := 0
  par  : BitVec 4 := 0
deriving DecidableEq, Repr

/-- A queued mend or rebuild of a bay (R181, R182). -/
structure BayJob where
  rebuild  : Bool
  group    : Nat
  restarts : Nat
deriving DecidableEq, Repr

/-- An outcome remembered for R189: unit, word, bit, time and whether it was a correction. -/
structure BayEvt where
  unit      : Nat
  word      : Nat
  bit       : Nat
  time      : Nat
  corrected : Bool
deriving DecidableEq, Repr

/-- A queue controller's pointers (R195): entries written and read since the last flush, each side's view of the other,
and the cycles its ports stay closed after a flush (R202). -/
structure QcPtr where
  w     : Nat := 0
  r     : Nat := 0
  wSees : Nat := 0
  rSees : Nat := 0
deriving DecidableEq, Repr

/-- The bays of the quadrants (R165). A unit is 4296q + bay for a bay and 4296q + 4096 + deep for a deep bay. Words are keyed
65536 × unit + word, column words and those marked stale (R179) 2048 × unit + group. -/
structure Bays where
  words  : SMap BWord := []
  cols   : SMap CWord := []
  jobs   : SMap (Option BayJob) := []
  next   : SMap Nat := []
  hist   : List BayEvt := []
  perm   : List Nat := []
  stale  : List Nat := []
  qcs    : SMap QcPtr := []
  raw    : SMap (Option Bool) := []
  flush  : List Nat := []
deriving DecidableEq, Repr

/-! ## Sample arithmetic units -/

/-- Registers of one SAU (R214): the input stage, the pre-adder stage, the partial products, M, TOTAL, and the outputs.
Numbers are the exact two's complement values. `edges` counts the clock edges that it saw, and `was` is TOTAL before the last of them, which
its neighbour adds at that edge (R215). -/
structure SauReg where
  s     : BitVec 40 := 0
  u     : BitVec 40 := 0
  k     : BitVec 48 := 0
  fr0   : Bool := false
  e     : List Int := []
  k1    : BitVec 48 := 0
  fr1   : Bool := false
  pp    : List Int := []
  fr2   : Bool := false
  m     : List Int := []
  fr3   : Bool := false
  total : Int := 0
  lanes : List Int := []
  wrapped : Bool := false
  y     : BitVec 40 := 0
  clip  : BitVec 4 := 0
  edges : Nat := 0
  was   : Int := 0
deriving DecidableEq, Repr

/-! ## Facets -/

/-- What a facet holds beside its registers: the bay initialisation under way (R237), the reset in progress (1 held at init, 2
flip-flops released, R250), whether it ever had a valid active plane (R225), the next release stage (0 none, 1–3; R247, R276), the
direct rewrite in progress (handle and bay_init, R246), when its drain began (R247, R249), whether clocks have returned and the cells still
hold (R227), whether its clocks ran when it began to drain to OFF (R249), and whether a host fence cleared during a swap still fences its ports
(R245). -/
structure FacetX where
  initLoad  : Bool := false
  reset     : Nat := 0
  ever      : Bool := false
  stage     : Nat := 0
  rewrite   : Option (Nat × Nat) := none
  drainFrom : Option Nat := none
  clkReturn : Bool := false
  ran       : Bool := false
  unfencing : Bool := false
deriving DecidableEq, Repr

/-- The facets: their own state, the frames of their planes (key: 33 × (32768 × (2F + plane) + frame) + word; word 32 is
the column-parity word; each value is 80 bits and a parity bit above them, R281), the decoded configuration of each plane
(key 2F + plane), the golden copy of each plane, a handle number plus one (R279), each scrubber's position (key q: 32768 × (2i +
plane) + frame of local facet i) and the next frame of the inactive plane of an armed facet (R232), in each quadrant the armed facet last
served, plus 1, the outcomes of the last second, and the planes (2F + plane) that a permanent fault alone marked invalid (R288). -/
structure Facets where
  x      : SMap FacetX := []
  frames : SMap Nat := []
  cfg    : SMap PlaneCfg := []
  golden : SMap Nat := []
  pos    : SMap Nat := []
  ahead  : SMap Nat := []
  turn   : SMap Nat := []
  hist   : List BayEvt := []
  marked : List Nat := []
deriving DecidableEq, Repr

/-! ## Configuration streams and keys -/

/-- A staging handle beside its registers (R260–R269): the region's size and the bytes received. -/
structure Handle where
  size : Nat := 0
  got  : Nat := 0
deriving DecidableEq, Repr

/-- One CFG_APPLY in progress (R270–R276): its command, mode, handle, the facets selected, still to write, passed and
failed, and the rewrites counted. -/
structure Apply where
  src      : Src
  tag      : BitVec 8
  mirror   : Bool
  handle   : Nat
  selected : List Nat
  todo     : List Nat
  passed   : List Nat
  failed   : List Nat
  rewrites : Nat
deriving DecidableEq, Repr

/-- The configuration controller and the security engine: handles, the applies in progress, the planes whose initial contents wait
for a swap (2F + plane, handle; R237), the four volatile key slots (R291, R292), and the firmware image that FW_STAGE stages: its
bytes so far. -/
structure Cfg where
  handles : SMap Handle := []
  applies : List Apply := []
  keep    : List (Nat × Nat) := []
  fw      : List Byte := []
  slots   : SMap (Option Nat) := []
deriving DecidableEq, Repr

/-! ## Station time and clocks (R335–R373) -/

/-- A PTP port as the steward's clock sees it (R340): the grandmaster's data set selected by the best master clock algorithm,
whether an Announce and a Sync of it have arrived (R339), the last Sync (master time and device time, ns), the mean path delay in ns, when the last
Delay_Req left (ns, R454), whether a Delay_Req was answered, and when the last Announce of the selected grandmaster came. -/
structure Ptp where
  gm      : Option Nat := none
  annc    : Bool := false
  sync    : Bool := false
  t1      : Int := 0
  t2      : Int := 0
  delay   : Int := 0
  offset  : Int := 0
  t3      : Option Int := none
  answered : Bool := false
  anncAt  : Nat := 0
deriving DecidableEq, Repr

/-- The time master beside its registers (R337–R347): REF_SELECT words 2–10 as last given, whether the one step of R343 is
still allowed and whether the entries came from a REF_SELECT not yet acted on, whether LOCKED was ever reached, a pending
mode 1 replacement and the second boundary at which it acts (station time), the offset a mode 2 slew still removes (2⁻¹⁶ × 10⁻¹⁰ ns) and the correction it is counted from, the stretches (length in ns,
correction) of the last 60 s under an active entry and when the present one began (R344), when each die last got a beacon, each degraded die's copy of
station time, by how much it is ahead (2⁻¹⁶ ns) and the correction that it runs at (0.0001 ppm, R337), the PTP ports
(key 256 × first lane + domain), the 1PPS and 10 MHz inputs, the station time after the last step (R466), when LOCKED was last
reached, the corrections that held within the last second until they changed, with when, and the correction that it returns to after a slew (R343, R346),
the last measurement of the active entry (offset in ns, and when), and when the pulse began that a CLKOUT of kind 6 gave at the last step (R364). -/
structure TimeX where
  refs     : List Nat := [0, 0, 0, 0, 0, 0, 0, 0, 0]
  selected : Bool := false
  stepOk   : Bool := false
  locked   : Bool := false
  seconds  : Option Nat := none
  secAt    : Nat := 0
  slew     : Int := 0
  base     : Int := 0
  past     : List (Nat × Int) := []
  since    : Nat := 0
  beacons  : SMap Nat := []
  copies   : SMap (Int × Int) := []
  ptp      : SMap Ptp := []
  in10     : Bool := false
  ppsAt    : Option Nat := none
  stepAt   : Option Nat := none
  lockedAt : Nat := 0
  freqs    : List (Nat × Int) := []
  back     : Option Int := none
  seen     : Option (Int × Nat) := none
  pulse    : Option Nat := none
deriving DecidableEq, Repr

/-- A station loop beside its registers (R351–R354): whether its output has started since it left OFF, the offset from nominal that its
reference asks for (0.0001 ppm), the output's offset from nominal (10⁻⁷ ppm) and when it had it, how far its rising edges stand behind
the instants of R354 (a fraction of a period, in units of 1 / (den × 65,536 × 10⁹)), and the offset that its servo asks for while it regains
alignment (0.0001 ppm). -/
structure LoopX where
  running : Bool := false
  asked   : Int := 0
  freq    : Int := 0
  seen    : Nat := 0
  phase   : Int := 0
  regain  : Int := 0
deriving DecidableEq, Repr

/-- The clocks (R348–R365): the station loops, when each XO began to start, when XO[1] lost its last user (R358), and the
fabric loops, by 16 × quadrant + number, whose outputs a change of their frequency holds low until they lock (R350). -/
structure Clk where
  loops   : SMap LoopX := []
  xoFrom  : SMap Nat := []
  xo1Free : Option Nat := none
  floopLow : List Nat := []
deriving DecidableEq, Repr


/-! ## Frame memory and the sealing engine (R518–R546) -/

/-- What stands beside the data of a stored line (R522, R523, R532): the key its tag was made under (0 for SEC-DED check bits),
its write count, and whether its tag or check bits match no data. -/
structure Line where
  key   : Nat := 0
  count : Nat := 0
  bad   : Bool := false
deriving DecidableEq, Repr

/-- A range of lines of a stack filled with zeros under a key: its lines that are not listed one by one (R527). -/
structure Fill where
  stack : Nat
  lo    : Nat
  hi    : Nat
  key   : Nat
deriving DecidableEq, Repr

/-- A sector slot beside its registers (R527, R535–R539): the draw number of its root, the root of the key a sweep moves to,
whether a count has reached 65,535, the early list, the REKEY_NOW whose sweep runs, the epoch at which that sweep ended, the lowest line
not yet swept, whether the sweep was asked to be fast, when the fill or sweep began, and for how long a sweep has paused (ns). -/
structure Sect where
  root    : Nat := 0
  newRoot : Nat := 0
  due     : Bool := false
  early   : List Nat := []
  op      : Option (Src × BitVec 8) := none
  done    : Option Nat := none
  ptr     : Nat := 0
  fast    : Bool := false
  since   : Nat := 0
  paused  : Nat := 0
deriving DecidableEq, Repr

/-- An access to frame memory that waits for a sweep, or behind one that does (R534, R537, R538): class, address, bytes, a write's data and
poison, whether it is posted or a read, and what the pins give. -/
structure FmWait where
  cls    : Nat
  addr   : Nat
  n      : Nat
  data   : List Byte
  poison : Bool
  posted : Bool
  write  : Bool
  es     : List LineErr
deriving DecidableEq, Repr

/-- A correction or poisoning remembered for 1 s (R540): stack, line, place in the line (0 for poison) and time. -/
structure DramEvt where
  stack : Nat
  line  : Nat
  place : Nat
  time  : Nat
deriving DecidableEq, Repr

/-- Frame memory beside its bytes: the lines (key 2²⁵ × stack + line), the filled ranges (newest first), the sectors (key 32 ×
stack + slot), the poison lists' entry numbers, oldest first (key: stack), lines to be written back (R522), the refresh
position of each channel (key 16 × stack + channel), how many roots were drawn (R527), and the accesses that wait, oldest first. -/
structure Fm where
  lines   : SMap Line := []
  fills   : List Fill := []
  sects   : SMap Sect := []
  order   : SMap (List Nat) := []
  wback   : List (Nat × Nat) := []
  refresh : SMap Nat := []
  hist    : List DramEvt := []
  roots   : Nat := 0
  waits   : List FmWait := []
deriving DecidableEq, Repr


/-! ## Serial lanes (R374–R413) -/

/-- A lane beside its registers: the LANE_SET last applied (words 5–9, kept across a group's OFF and CLOCK_STOP for R409), the
transmit PLL's lock, consecutive failed recovery attempts and full calibrations (R405), the word boundary (R381), the elastic
buffer's fill and the words received that it holds, oldest first (R383), LANE_PRBS words 2 and 3 (R397), the running eye scan and calibration, the die's temperature at the last full calibration (R404), the edge at
which it took its group's clock (R387), while the group's clock is stopped what PROT_LIVE.ref_unlocked showed when it stopped (R52), the values of the
receive equaliser while it does not adapt (R401, as LANE_RXEQ), the CDR's last frequency (0.1 ppm from the lane's own rate, R386), and what the
PCS remembers (R379). -/
structure LaneX where
  set      : List Nat := []
  pll      : Bool := false
  fails    : Nat := 0
  calFails : Nat := 0
  boundary : Nat := 0
  fill     : Nat := 32
  eb       : List Nat := []
  prbs     : Nat := 0
  pattern  : Nat := 0
  scanning : Bool := false
  calTemp  : Option Nat := none
  clkAt    : Option Nat := none
  held     : Option Bool := none
  eq       : Nat := 0
  cdr      : Int := 0
  pcs      : PcsX := {}
deriving DecidableEq, Repr


/-! ## Stream engines (R414–R461) -/

/-- A channel of a stream engine beside its registers: the settings in force (SDI_RX_SET words 5–6, SDI_TX_SET words 5–7, the
port record's words 2–13), the quadrant that delivery moves to at the next start of frame, whether the next unit opens a frame,
whether a unit is open, the field of the last unit delivered, the raster line to be built next, the beats taken from the transmit port and not yet used, XPT_AT word 5 as last in force
(kept for R458), when the last received frame started, the edge at which transmit was set, the engine's own count of received lines (R426), the link
numbers of the received frame (R431), when the transmitted frame in progress started, the SDI_TX_SET words that the next frame takes (R437), and the
receive flows whose packet in a frame at the port's MAC is still to be taken (R445). -/
structure SeCh where
  rx      : List Nat := []
  tx      : List Nat := []
  port    : List Nat := []
  move    : Option Bool := none
  sof     : Bool := false
  open_   : Bool := false
  field   : Bool := false
  txLine  : Nat := 0
  taken   : List Beat := []
  xpt     : Nat := 0
  frameAt : Option Nat := none
  txFrom  : Nat := 0
  rxLine  : Nat := 0
  links   : List (Fin 4) := []
  txAt    : Nat := 0
  txNext  : Option (List Nat) := none
  matched : List Nat := []
deriving DecidableEq, Repr

/-- A packet in a merge store (R452): extended sequence number, the packet, when its first copy arrived, and the legs it came
on. -/
structure Stored where
  seq   : Nat
  pkt   : RtpPkt
  time  : Nat
  legs  : Nat
deriving DecidableEq, Repr

/-- The row a video flow is filling (R446, R448): number, field bit, when its first packet arrived, the lanes received as
(position, value), and whether it opens a frame. -/
structure RowBuf where
  no    : Nat
  field : Bool
  time  : Nat
  lanes : SMap (BitVec 10)
  sof   : Bool
deriving DecidableEq, Repr

/-- A flow beside its registers: words 2–15 of its record, the next sequence number expected, the RTP timestamp of the frame in
progress, the open row, the other leg of a merge (device flow number; `true` where this flow is leg A) with MERGE_SET words
2–4, the packets in its merge store, whether a frame has been opened that no unit has shown yet (R446), the MAC address its destination resolved to
(R443), the field of the last unit delivered, of the last packet that arrived the RTP timestamp and the sequence number that follows it (R475), whether a
leg of a merge has been silent for the loss time (R453), and how many beats of the unit at hand a transmit flow has sent (R449). -/
structure Flow where
  words  : List Nat := []
  next   : Option Nat := none
  ts     : Option Nat := none
  row    : Option RowBuf := none
  leg    : Option (Bool × Nat) := none
  merge  : List Nat := []
  store  : List Stored := []
  opening : Bool := false
  mac    : Nat := 0
  field  : Bool := false
  seen   : Option (Nat × Nat) := none
  silent : Bool := false
  sent   : Nat := 0
deriving DecidableEq, Repr

/-- The stream engines: channels by device lane, flows by 512 × device lane group + instance, and what steward
firmware re-applies when a group returns to ON (R458). -/
structure Se where
  ch      : SMap SeCh := []
  flows   : SMap Flow := []
  keptCh  : SMap SeCh := []
  keptFl  : SMap Flow := []
deriving DecidableEq, Repr



/-! ## Protractors (R462–R484) -/

/-- The ST 2110-21 measurement in progress (R472–R475): whether the frame in progress
has been measured since its first packet, its packets, whether it may be judged and holds a gap, the drain model (level, next drain in ps, peak), the read model (level, next read in
ps, peak, underflow) and whether each limit was passed in it. -/
structure C21 where
  live   : Bool := false
  count  : Nat := 0
  judge  : Bool := false
  gap    : Bool := false
  level  : Nat := 0
  drain  : Nat := 0
  peak   : Nat := 0
  vlevel : Nat := 0
  vread  : Nat := 0
  vpeak  : Nat := 0
  under  : Bool := false
deriving DecidableEq, Repr

/-- A protractor beside its registers and gauges: the PROT_SET last given (words 2–11), the start of the last frame (station time),
the error events of the second, whether the second is UAS so far and was enabled from its start, the time of the last snapshot,
whether the eye measurement in progress and the jitter measurement in progress are to be discarded (R469, R478), and the ST 2110-21 measurement. -/
structure ProtX where
  set     : List Nat := []
  frameAt : Option Nat := none
  events  : Nat := 0
  uas     : Bool := false
  whole   : Bool := false
  snapAt  : Nat := 0
  cut     : Bool := false
  cutJ    : Bool := false
  c21     : C21 := {}
deriving DecidableEq, Repr


/-! ## The ring network (R296–R334) -/

/-- A ring packet (R302): its header words 0–7, its payload and the numbers of the flits whose data is poisoned (R300). -/
structure Pkt where
  hdr    : List Nat := []
  data   : List Byte := []
  poison : List Nat := []
deriving DecidableEq, Repr

/-- A packet in a queue of a vertex (R303, R304, R331): its dateline bit, the direction it leaves a relay buffer in where a chord fixed one, when it
was queued, whether it was reported as starved, and how many of its flits have left on the link that it takes. -/
structure Queued where
  pkt     : Pkt
  d       : Bool := false
  dir     : Option Nat := none
  time    : Nat := 0
  starved : Bool := false
  gone    : Nat := 0
deriving DecidableEq, Repr

/-- A packet whose flits an output is sending (R305): its input and virtual channel there, the dateline bit it takes, and whether the chord's next
turn is taken. -/
structure Prog where
  inp  : Nat
  vc   : Nat
  d    : Bool
  step : Bool
deriving DecidableEq, Repr

/-- What an output link is sending (R305): a stream packet, and a packet of another class. -/
structure OutPort where
  stream : Option Prog := none
  other  : Option Prog := none
deriving DecidableEq, Repr

/-- A ring link in one direction (R300, R301): flits on the wire, flits sent and not yet acknowledged (the replay buffer), the next
sequence numbers, the failed replays of the flit awaited, whether a replay is asked for or has begun, the flits of packets
received in part, by virtual channel, and by sequence number how often a flit failed there since one last passed at once (R301). -/
structure Link where
  wire    : List (BitVec 536) := []
  sent    : List (BitVec 536) := []
  txSeq   : Nat := 0
  rxSeq   : Nat := 0
  fails   : Nat := 0
  naked   : Bool := false
  replay  : Bool := false
  part    : SMap (List (BitVec 536)) := []
  posFail : SMap Nat := []
deriving DecidableEq, Repr

/-- A request outstanding at its source (R307, R314): ring tag, client (0 the facet's request port, 1 a Glenu transit, 2 the facet's request
port before a swap edge, 3 the partner), the client's
tag, class, op, destination vertex, when it was sent, and whether its returned packet or response was lost (R322). -/
structure Outst where
  tag    : Nat
  client : Nat := 0
  ctag   : Nat := 0
  cls    : Nat := 0
  op     : Nat := 0
  dst    : Nat := 0
  since  : Nat := 0
  lost   : Bool := false
deriving DecidableEq, Repr

/-- A network interface beside its registers: requests outstanding, request credits in use (key 2 × destination, + 1 for management),
responses waiting for the fabric (its tag, status, data, poisoned flits), packets at its local port, packets that wait for room in its local
queue, fences not yet acknowledged, packets held and the chord change they wait for (R329: entry and its three words), destinations and classes used, and the flow's packer:
beats or bytes gathered, the poisoned pieces of the bytes, tokens (1/100 bit) with the time they were reckoned, the offset in the frame and
whether beats are discarded to the next frame (R330); packets turned back that wait for a place in the relay buffer (R313, R322), and since when
the local port has a packet ready that waits for a credit or a reservation (R331). -/
structure Ni where
  outst   : List Outst := []
  used    : SMap Nat := []
  ready   : List (Nat × Nat × List Byte × List Nat) := []
  arrive  : List Pkt := []
  back    : List Queued := []
  fences  : Nat := 0
  held    : List Pkt := []
  change  : Option (Nat × List Nat) := none
  towards : List (Nat × Nat) := []
  pack    : List Beat := []
  bytes   : List Byte := []
  poison  : List (Nat × Nat) := []
  tokens  : Int := 0
  tokAt   : Nat := 0
  offset  : Nat := 0
  skip    : Bool := false
  turned  : List Queued := []
  stall   : Option Nat := none
  asks    : Bool := false
deriving DecidableEq, Repr

/-- A change of routes that waits behind fences (R326, R329): ring r enters its fold or split, link `no` is in service again, or edge e has
finished the training that split its rings, or the targets that the retired centroid edge e served move to the other pair of endpoints (R498). -/
inductive RingChange where
  | fold (r : Nat)
  | link (no : Nat)
  | edge (e : Nat)
  | remap (e : Nat)
deriving DecidableEq, Repr

/-- The ring network: links by 4 × receiving vertex + direction of travel, queues by 48 × vertex + 8 × input + virtual channel (inputs
0–3 links, 4 local, 5 relay), network interfaces by vertex, retired links and the edges whose wait split the rings (R324), admitted
flows in the order of admission (vertex and rate), each output's arbiter (key 5 × vertex + output): last source served, and
consecutive stream flits; what each output link sends (key 4 × vertex + direction), the ring directions that have sent in the present
round at an edge (key 4 × edge + quadrant they leave: 4 × vertex + direction, R22), the columns whose endpoints are relayed in row 14 (R310),
the vertices in bypass (R321), and the changes of routes that wait behind fences (R329), oldest first. A vertex is 32x + y. -/
structure RingS where
  links   : SMap Link := []
  queues  : SMap (List Queued) := []
  nis     : SMap Ni := []
  retired : List Nat := []
  split   : List Nat := []
  ledger  : List (Nat × Nat) := []
  last    : SMap Nat := []
  run     : SMap Nat := []
  outs    : SMap OutPort := []
  turns   : SMap (List Nat) := []
  relays  : List Nat := []
  byp     : List Nat := []
  changing : List RingChange := []
  remap   : List Nat := []
deriving DecidableEq, Repr


/-! ## Edges, lamps and the partner link (R485–R517) -/

/-- An edge beside its registers: retired lanes that still carry traffic until their spare is switched in (18 × waveguide + wavelength, R492), when its training began, whether a restoration
lets its width rise (R488), and since when its credits have been withheld (R496). -/
structure EdgeX where
  spare : List Nat := []
  since : Nat := 0
  rise  : Bool := false
  shut  : Nat := 0
deriving DecidableEq, Repr

/-- A partner flit kept for resend (R509): its sequence number, its valid slots (endpoint and ring flit), how often it was resent, and the credits
that it returns. -/
structure UFlit where
  seq   : Nat := 0
  slots : List (Nat × BitVec 536) := []
  tries : Nat := 0
  owe   : SMap Nat := []
deriving DecidableEq, Repr

/-- The partner link beside its registers (R508–R510): sequence numbers, flits sent and not acknowledged, resends of the flit awaited,
whether a resend is asked for, ring flits received in part (key 8 × endpoint + virtual channel), credits of the partner in use
(same key), requests received and not yet checked against the windows, while the partner's clock is stopped the values plus one that its registers
were read to hold (R52), ring flits waiting to be sent (endpoint and flit), credits owed to the partner (same key), the time until which
its reset is held (R512), and the requests sent to the partner that it has not answered (endpoint and packet). -/
structure Ucie where
  rxSeq : Nat := 0
  txSeq : Nat := 0
  sent  : List UFlit := []
  fails : Nat := 0
  naked : Bool := false
  part  : SMap (List (BitVec 536)) := []
  used  : SMap Nat := []
  reqs  : List (Nat × Pkt) := []
  held  : SMap Nat := []
  queue : List (Nat × BitVec 536) := []
  owe   : SMap Nat := []
  freeAt : Nat := 0
  wait  : List (Nat × Pkt) := []
deriving DecidableEq, Repr

/-- The optics (R488–R517): edges by number, the last failing lane plus one and the failures of the flit or word awaited (key: unit), the last 1 ms interval with an
error and the intervals in a row (key: channel word, or lane), the times at which lines of each lamp were lost with the line, the retired lanes of each short edge
(key 18 × lane die + bundle, 36 + lamp, 40 + 16 × stack + channel), when each lamp began to warm, the partner link, and since when
plus one the power of a line (key 18 × lamp + line) is below 80 % and below 50 % of its nominal (R502). -/
structure Optics where
  edges : SMap EdgeX := []
  fails : SMap (Nat × Nat) := []
  runs  : SMap (Nat × Nat) := []
  lost  : SMap (List (Nat × Nat)) := []
  short : SMap Nat := []
  warm  : SMap Nat := []
  ucie  : Ucie := {}
  dim   : SMap (Nat × Nat) := []
deriving DecidableEq, Repr

/-! ## Lattice (R576–R608) -/

/-- A Glenu link (R588, R605): word 2 of its record as applied, whether a lane-die reset left the record pending (R607), its state, the
sequence numbers of the next frame and of the last frame received good, whether it asks for a resend, the replay buffer with the
resends of each frame, hellos sent, the five counters with their saturation, the peer as its hellos told it, the mismatch
record, the peer's frame counter bits [63:32], when tags failed and frames were resent, slots of the far queues in use (key: credit
code), credits owed to the far end, ring flits received in part (key: virtual channel), whether a frame received awaits its acknowledgement,
and when ack last advanced, a valid hello last came and one was last sent. -/
structure GLink where
  word     : Nat := 0
  pend     : Bool := false
  state    : Nat := 0
  txSeq    : Nat := 0
  rxSeq    : Nat := 4095
  nak      : Bool := false
  sent     : List (GFrame × Nat) := []
  hellos   : Nat := 0
  frames   : Nat := 0
  resends  : Nat := 0
  crcs     : Nat := 0
  tags     : Nat := 0
  hops     : Nat := 0
  satd     : Bool := false
  assigned : Bool := false
  same     : Bool := false
  mismatch : Bool := false
  arrival  : Nat := 0
  peer     : Nat := 0
  serial   : Nat := 0
  lattice  : Nat := 0
  peerHi   : Nat := 0
  tagAt    : List Nat := []
  resentAt : List Nat := []
  used     : SMap Nat := []
  owed     : SMap Nat := []
  part     : SMap (List (BitVec 536)) := []
  due      : Bool := false
  row      : Nat := 0
  ackAt    : Nat := 0
  helloAt  : Nat := 0
  helloOut : Nat := 0
deriving DecidableEq, Repr

/-- A device of a discovery in progress (R602): its address, the next link to ask
about, the step of the visit, the child being joined and the child's arrival link. -/
structure Visit where
  addr    : Nat
  k       : Nat := 0
  step    : Nat := 0
  child   : Nat := 0
  arrival : Nat := 0
  serial  : Nat := 0
deriving DecidableEq, Repr

/-- A device record of a discovery (R603). -/
structure DevRec where
  serial  : Nat
  addr    : Nat
  parent  : Nat
  plink   : Nat
  arrival : Nat
  depth   : Nat
deriving DecidableEq, Repr

/-- The discovery in progress (R602): the next address, the devices being visited (innermost first), the records in preorder, the foreign
devices, whether it stopped early, and the opcode of the relay whose reply it awaits. -/
structure Disc where
  next    : Nat
  stack   : List Visit
  recs    : List DevRec
  foreign : Nat := 0
  full    : Bool := false
  await   : Option Nat := none
deriving DecidableEq, Repr

/-- What an accepted LAT_ASSIGN sets once its reply has been sent (R604): the address, root_only, lattice id and root. -/
structure LatNew where
  addr     : Option Nat
  rootOnly : Bool
  id       : Nat
  root     : Nat
deriving DecidableEq, Repr

/-- The lattice (R589–R605): the device's address, root_only, lattice id and root, the route table (words 2 and 3 of each entry), the
links, the frame counter of each key slot (R585), the discovery in progress, and the assignments whose replies have not been sent. -/
structure Lat where
  addr     : Option Nat := none
  rootOnly : Bool := false
  id       : Nat := 0
  root     : Nat := 0
  routes   : SMap (Nat × Nat) := []
  links    : SMap GLink := []
  ctr      : SMap Nat := []
  disc     : Option Disc := none
  next     : List (Src × LatNew) := []
deriving DecidableEq, Repr

/-! ## Cue cores (R547–R562) -/

/-- A cue core beside its registers and memories: its reservation (the 64-byte block, and when it was made; R550), the machine timer
interrupt (R553), the watchdog's ticks at a time, whether it is frozen and whether it has expired without a kick since (R558, R560),
and the core's own registers under the numbers of R656. -/
structure CueX where
  resv   : Option (Nat × Nat) := none
  timer  : Bool := false
  wdt    : Nat := 0
  wdtAt  : Nat := 0
  frozen : Bool := false
  first  : Bool := false
  regs   : SMap Nat := []
deriving DecidableEq, Repr

/-! ## Debug (R638–R663) -/

/-- A trace packet in the funnel (R659–R661): its four words, and whether it is the one that fired the trigger. -/
structure TPkt where
  words : List Nat
  trig  : Bool
deriving DecidableEq, Repr

/-- The debug domain beside its registers: VCC_DBG present, the TAP instruction and boundary-scan register, the value for the next
Capture-DR (R641), the nonce outstanding with its time and the number of challenges (R646), when the rights expire (R648), the debug
access under way, the funnel's queue, the packets lost since the last one stored and the count for seq (R661), the trace
buffer (slot to 128 bits), whether capture has stopped, the packets still to store after the trigger and whether export has
stopped (R662); and when that debug access started (R649). -/
structure Dbg where
  on      : Bool := false
  tap     : TapInstr := .idcode
  scan    : Nat := 0
  capture : Nat := 0
  nonce   : Option (Nat × Nat) := none
  drawn   : Nat := 0
  expiry  : Option Nat := none
  queue   : List TPkt := []
  lost    : Nat := 0
  seq     : Nat := 0
  tbuf    : SMap Nat := []
  stopped : Bool := false
  remain  : Option Nat := none
  noExp   : Bool := false
  goAt    : Nat := 0
deriving DecidableEq, Repr


/-! ## What leaves the device -/

/-- What the device has sent or answered, newest first in `State.out`. -/
inductive Out where
  /-- The answer to a register access (R51). -/
  | bus (m : Master) (addr : Nat) (r : BusResp)
  /-- An MSI-X message for vector 0–127 (R72, R74). -/
  | msix (vector : Nat)
  /-- A reply posted to a lattice peer (R85, R597). -/
  | latticeReply (peer : Nat) (words : List Word)
  /-- Bytes driven on MISO (R95). -/
  | miso (bytes : List Byte)
  /-- A beat given to user logic by a receive or ingress port, or to a lane or flow by a transmit or egress port. -/
  | beat (port : Nat) (b : Beat)
  /-- A request shown to user logic at the register port of quadrant q (R153). -/
  | regport (q : Nat) (r : RpReq)
  /-- A bay port's read result (R169): data, err bits, poison. -/
  | bayRead (unit : Nat) (dout : Nat) (err : Nat) (poison : Bool)
  /-- A queue controller's entry (R200): data and r_poison. -/
  | entry (q n : Nat) (data : Nat) (poison : Bool)
  /-- w_ready = 0: the entry offered was not taken (R199, R201). -/
  | notReady (q n : Nat)
  /-- The answer to a request of a master class at a device-local address (R526, R530): status, data, poison. -/
  | memory (cls addr : Nat) (st : Status) (data : List Byte) (poison : Bool)
  /-- A raster line an SDI output sends (R436, R437): lane, line, whether all or part of it is black, the beats it carries, and the payload
  identifier that it carries, if any. -/
  | sdi (lane line : Nat) (black : Bool) (unit : List Beat) (pid : Option Nat)
  /-- A packet a transmit flow sends (R449, R450): device flow number, its headers, RTP sequence number and timestamp, and the beats it carries. -/
  | packet (flow : Nat) (hdr : NetHdr) (seq ts : Nat) (unit : List Beat)
  /-- A response handed to the fabric at a request port (R314): quadrant, local vertex, tag, status, data, poisoned flits. -/
  | fabric (q v tag st : Nat) (data : List Byte) (poison : List Nat)
  /-- A 256-byte flit sent to the partner site (R508, R509). -/
  | partner (flit : List Byte)
  /-- A word that a lane's receiver hands to its stream engine in service (R379, R390): lane and decoded word. -/
  | word (lane value : Nat)
  /-- What steward firmware sends on an Ethernet port (R443): lane of the port, kind and address. -/
  | control (lane kind : Nat) (addr : Nat)
  /-- A frame driven on Glenu link k (R580). -/
  | glenu (k : Nat) (f : GFrame)
  /-- The bits shifted out on TDO by one scan of a data register, first bit lowest (R637, R640). -/
  | tdo (width value : Nat)
  /-- An event of another unit, by a number of its own and data words. -/
  | note (kind : Nat) (data : List Nat)
deriving DecidableEq, Repr

/-! ## The whole state -/

/-- The state of the device and of what stands beside it: host memory and configuration flash. -/
structure State where
  ident   : Ident := {}
  regs    : SMap Nat := [(32 * 0x7F00100010 + 1, 0x400000), (32 * 0x7F00110010 + 1, 0x410000), (32 * 0x7F00120010 + 1, 0x420000), (32 * 0x7F00130010 + 1, 0x430000), (32 * 0x7F00140010 + 1, 0x440000), (32 * 0x7F00150010 + 1, 0x450000), (32 * 0x7F00160010 + 1, 0x460000), (32 * 0x7F00170010 + 1, 0x470000), (32 * 0x7F0060000C, 0x3FFFF)]
  ctrs    : SMap Nat := []
  snaps   : SMap Nat := []
  mem     : List Host.Cell := []
  host    : List Host.Cell := []
  flash   : List Host.Cell := []
  hostBad : List HostBad := []
  pending : List Instr := []
  out     : List Out := []
  now     : Nat := 0
  sta     : Nat := 0
  fresh   : Nat := 0
  posted  : List Posted := []
  latches : List Latch := []
  hq      : Hq := {}
  evc     : Evc := {}
  pwr     : Pwr := {}
  jrnl    : Jrnl := {}
  fab     : Fab := {}
  bays    : Bays := {}
  saus    : SMap SauReg := []
  fac     : Facets := {}
  cfg     : Cfg := {}
  fm      : Fm := {}
  lanes   : SMap LaneX := []
  se      : Se := {}
  prot    : SMap ProtX := []
  ring    : RingS := {}
  opt     : Optics := {}
  tim     : TimeX := {}
  clk     : Clk := {}
  lat     : Lat := {}
  cue     : SMap CueX := []
  dbg     : Dbg := {}
deriving DecidableEq, Repr

/-- Reasons for which the machine stops with a fault. No command of this model faults: every error the spec describes is an
answer, a record or a status in a next state. -/
inductive Fault where
  /-- Raised by no meaning. A build of the model that must stop where the spec promises nothing (R82) would use it; safe. -/
  | clockRatioBroken
deriving DecidableEq, Repr

/-- Reasons for which a command is refused. -/
inductive Refusal where
  /-- Raised by an arm of `exec` that has no meaning yet; safe. -/
  | notModelled (mnemonic : String)
deriving DecidableEq, Repr

/-- The answer of a meaning. -/
abbrev Result := Host.Outcome State Fault Refusal

/-- The device after power-on reset, before t₀ (R617): every field at its reset value, nothing pending. The registers listed
are those whose reset value differs between instances: CUE_ENTRY_LO of each core (R574) and LAMP_INFO.lines of lamp A
(R515). -/
def State.reset : State := {}

end Sys2Proof.Machine
end

