-- ==== Sys2Proof/Machine/Ops.lean ====
section
/-! DEFINITION. The named operations over registers, counters, memories, events, the journal and the command paths. Every
meaning is written with these. -/
namespace Sys2Proof.Machine

/-! ## Windows (R41–R44) -/

/-- The window `b` of die `d` (R41). -/
def winBase (d b : Nat) : Nat := 0x7F00000000 + d * 0x10000000 + b * 0x10000
/-- SYS (R43). -/
def sysBase : Nat := winBase 0 0x000
/-- HQ (R43). -/
def hqBase : Nat := winBase 0 0x001
/-- DMA (R43). -/
def dmaBase : Nat := winBase 0 0x002
/-- EVC (R43). -/
def evcBase : Nat := winBase 0 0x004
/-- MBX (R43). -/
def mbxBase : Nat := winBase 0 0x008
/-- CUE n (R43). -/
def cueBase (n : Nat) : Nat := winBase 0 (0x010 + n)
/-- TIME (R43). -/
def timeBase : Nat := winBase 0 0x020
/-- LOOP of station loop i (R43). -/
def loopBase (i : Nat) : Nat := winBase 0 (0x028 + i)
/-- CLKO (R43). -/
def clkoBase : Nat := winBase 0 0x030
/-- CFG (R43). -/
def cfgBase : Nat := winBase 0 0x040
/-- SEC (R43). -/
def secBase : Nat := winBase 0 0x048
/-- JRNL (R43). -/
def jrnlBase : Nat := winBase 0 0x050
/-- PWR (R43). -/
def pwrBase : Nat := winBase 0 0x058
/-- LAMP a (R43): 0 is lamp A, 1 is lamp B. -/
def lampBase (a : Nat) : Nat := winBase 0 (0x060 + a)
/-- UCIE (R43). -/
def ucieBase : Nat := winBase 0 0x068
/-- PCIE (R43). -/
def pcieBase : Nat := winBase 0 0x070
/-- DBG (R43). -/
def dbgBase : Nat := winBase 0 0x0F0
/-- QSYS of Qq (R43). -/
def qsysBase (q : Nat) : Nat := winBase (1 + q) 0x000
/-- FLOOP of Qq (R43). -/
def floopBase (q : Nat) : Nat := winBase (1 + q) 0x008
/-- FACET F of the device (R43, R218). -/
def facetBase (f : Nat) : Nat := winBase (1 + f / 12) (0x010 + f % 12)
/-- SP of Qq (R43). -/
def spBase (q : Nat) : Nat := winBase (1 + q) 0x020
/-- QC of Qq (R43). -/
def qcBase (q : Nat) : Nat := winBase (1 + q) 0x028
/-- SCRUB of Qq (R43). -/
def scrubBase (q : Nat) : Nat := winBase (1 + q) 0x030
/-- PROBE of Qq (R43). -/
def probeBase (q : Nat) : Nat := winBase (1 + q) 0x038
/-- FMC of Qq (R43). -/
def fmcBase (q : Nat) : Nat := winBase (1 + q) 0x040
/-- SEAL of Qq (R43). -/
def sealBase (q : Nat) : Nat := winBase (1 + q) 0x048
/-- UIO of Qq (R43). -/
def uioBase (q : Nat) : Nat := winBase (1 + q) 0x050
/-- NI of vertex v of Qq (R43). -/
def niBase (q v : Nat) : Nat := winBase (1 + q) (0x100 + v)
/-- LSYS of lane die l (R43). -/
def lsysBase (l : Nat) : Nat := winBase (5 + l) 0x000
/-- REFC of lane die l (R43). -/
def refcBase (l : Nat) : Nat := winBase (5 + l) 0x008
/-- MCF of lane die l (R43). -/
def mcfBase (l : Nat) : Nat := winBase (5 + l) 0x010
/-- SHE of lane die l (R43). -/
def sheBase (l : Nat) : Nat := winBase (5 + l) 0x018
/-- SE of device lane group g (R43). -/
def seBase (g : Nat) : Nat := winBase (5 + g / 9) (0x040 + g % 9)
/-- LANE n of the device (R44). -/
def laneBase (n : Nat) : Nat := winBase (5 + n / 72) (0x100 + n % 72)
/-- PROT n of the device (R44). -/
def protBase (n : Nat) : Nat := winBase (5 + n / 72) (0x180 + n % 72)
/-- PSYS (R43). -/
def psysBase : Nat := winBase 7 0x000

/-- The kind of the block at window `b` of die `d` (R43). -/
def blkAt (d b : Nat) : Option BlkKind :=
  if d = 0 then
    match b with
    | 0x000 => some .sys
    | 0x001 => some .hq
    | 0x002 => some .dma
    | 0x004 => some .evc
    | 0x008 => some .mbx
    | 0x020 => some .time
    | 0x030 => some .clko
    | 0x040 => some .cfg
    | 0x048 => some .sec
    | 0x050 => some .jrnl
    | 0x058 => some .pwr
    | 0x060 => some .lamp
    | 0x061 => some .lamp
    | 0x068 => some .ucie
    | 0x070 => some .pcie
    | 0x0F0 => some .dbg
    | _ => if 0x010 ≤ b ∧ b ≤ 0x017 then some .cue else if 0x028 ≤ b ∧ b ≤ 0x02F then some .loop else none
  else if d ≤ 4 then
    match b with
    | 0x000 => some .qsys
    | 0x008 => some .floop
    | 0x020 => some .sp
    | 0x028 => some .qc
    | 0x030 => some .scrub
    | 0x038 => some .probe
    | 0x040 => some .fmc
    | 0x048 => some .seal
    | 0x050 => some .uio
    | _ =>
      if 0x010 ≤ b ∧ b ≤ 0x01B then some .facet
      else if 0x058 ≤ b ∧ b ≤ 0x05A then some .edge
      else if 0x100 ≤ b ∧ b ≤ 0x15F then some .ni
      else none
  else if d ≤ 6 then
    match b with
    | 0x000 => some .lsys
    | 0x008 => some .refc
    | 0x010 => some .mcf
    | 0x018 => some .she
    | _ =>
      if 0x040 ≤ b ∧ b ≤ 0x048 then some .se
      else if 0x100 ≤ b ∧ b ≤ 0x147 then some .lane
      else if 0x180 ≤ b ∧ b ≤ 0x1C7 then some .prot
      else none
  else if d = 7 ∧ b = 0 then some .psys
  else none

/-! ## Register fields (R54) -/

/-- The key of a field in the register store: its register's address and its lowest bit. -/
def regKey (base : Nat) (f : Fld) : Nat := 32 * (base + f.off) + f.lo

/-- The value of a field. `base` is the window base, plus the displacement of the unit where registers repeat. -/
def State.getF (s : State) (base : Nat) (f : Fld) : Nat := SMap.get f.rst s.regs (regKey base f)

/-- A field as a flag. -/
def State.flag (s : State) (base : Nat) (f : Fld) : Bool := s.getF base f != 0

/-- Gives a field a value, cut to the field's width. -/
def State.setF (s : State) (base : Nat) (f : Fld) (v : Nat) : State :=
  { s with regs := SMap.put f.rst s.regs (regKey base f) (v % 2 ^ f.width) }

/-- Sets a one-bit field. -/
def State.raise (s : State) (base : Nat) (f : Fld) : State := s.setF base f 1
/-- Clears a field to 0. -/
def State.lower (s : State) (base : Nat) (f : Fld) : State := s.setF base f 0
/-- A one-bit field from a truth value. -/
def State.setB (s : State) (base : Nat) (f : Fld) (b : Bool) : State := s.setF base f (bit b)

/-- Writes the three words of a station time into a T0–T2 register triple (R98). -/
def State.setT (s : State) (base : Nat) (f0 f1 f2 : Fld) (t : Nat) : State :=
  let ws := timeWords t
  ((s.setF base f0 (ws.getD 0 0).toNat).setF base f1 (ws.getD 1 0).toNat).setF base f2 (ws.getD 2 0).toNat

/-- Forgets every listed field of the windows `[lo, hi)`, which returns them to their reset values. -/
def State.clearRegs (s : State) (lo hi : Nat) : State := { s with regs := SMap.cut s.regs (32 * lo) (32 * hi) }

/-- Puts something on the record of what left the device. -/
def State.emit (s : State) (o : Out) : State := { s with out := o :: s.out }

/-- The next free value, and the state with the counter advanced (assumption log 2). -/
def State.freeVal (s : State) : Nat × State := (Config.free s.fresh, { s with fresh := s.fresh + 1 })

/-! ## Events (R71–R77) -/

/-- The record of a source. -/
def State.recorded (s : State) (src : Nat) : Bool := (s.getF (evcBase + 4 * (src / 32)) F.EVC_REC_rec).testBit (src % 32)

/-- The granted time has passed (R648). -/
def State.rightsOver (s : State) : Bool := s.dbg.expiry.any (fun t => decide (t ≤ s.now))
/-- A right of the debug rights word stands (R645, R648). -/
def State.right (s : State) (i : Nat) : Bool := (s.getF dbgBase F.DBG_RIGHTS_rights).testBit i && !s.rightsOver
/-- A policy bit stands and is not lifted by its right (R644, R645). -/
def State.policyBars (s : State) (bitNo right : Nat) : Bool :=
  s.ident.debugPolicy.testBit bitNo && !(s.right right && !s.ident.debugPolicy.testBit 5)
/-- The top value of a statistics counter (R66). -/
def ctrMax : Nat := 0xFFFFFFFFFFFF
/-- A live counter, keyed by the address of its _LO holding register. -/
def State.ctr (s : State) (a : Nat) : Nat := SMap.get 0 s.ctrs a
/-- Adds to a live counter, which stops at its top value (R66). -/
def State.bump (s : State) (a n : Nat) : State :=
  { s with ctrs := SMap.put 0 s.ctrs a (min ctrMax (s.ctr a + n)) }

/-- Capture runs (R648, R662). -/
def State.tracing (s : State) : Bool :=
  s.dbg.on && s.flag dbgBase F.DBG_TRC_CTL_enable && !s.dbg.stopped && !s.policyBars 4 5
/-- Packets of type t are emitted (R660). -/
def State.traces (s : State) (t : Nat) : Bool := s.tracing && (s.getF dbgBase F.DBG_TRC_CTL_types).testBit t
/-- Adds to a counter of the DBG block, which drives no event source. -/
def State.dbgCount (s : State) (f : Fld) (n : Nat) : State :=
  let s1 := s.bump (dbgBase + f.off) n
  if s.ctr (dbgBase + f.off) < ctrMax ∧ ctrMax ≤ s.ctr (dbgBase + f.off) + n then s1.raise dbgBase F.DBG_STAT_cnt_overflow else s1
/-- A packet of a type enters the funnel, stamped with station time (R659, R661); it is dropped when 64 are waiting. -/
def State.tracePacket (s : State) (t src aux w1 : Nat) (trig : Bool) : State :=
  if 64 ≤ s.dbg.queue.length then
    ({ s with dbg := { s.dbg with lost := min 0xFFFFFFFF (s.dbg.lost + 1) } }).dbgCount F.DBG_SH_LOST_LO_lo 1
  else
    let ws := timeWords s.sta
    let p : TPkt := { words := [t * 268435456 + src % 4096 * 65536 + aux % 256 * 256, w1 % 4294967296, (ws.getD 0 0).toNat, (ws.getD 2 0).toNat],
                      trig := trig }
    { s with dbg := { s.dbg with queue := s.dbg.queue ++ [p] } }
/-- The trigger names this event source (`kind` 0) or stimulus port (`kind` 1), and has not fired (R662). -/
def State.triggers (s : State) (kind src : Nat) : Bool :=
  s.tracing && s.dbg.remain.isNone && s.flag dbgBase F.DBG_TRC_TRIG_en && s.getF dbgBase F.DBG_TRC_TRIG_kind == kind &&
  s.getF dbgBase F.DBG_TRC_TRIG_source == src
/-- Capture stops after so many further packets (R662), where it is not to stop already. -/
def State.stopAfter (s : State) (n : Nat) : State :=
  if s.dbg.remain.isSome then s else { s with dbg := { s.dbg with remain := some n, stopped := s.dbg.stopped || n == 0 } }
/-- An event or a stimulus: its packet, where its type is enabled and selected, and the trigger. Where it leaves no packet, those that wait in
the funnel came before it. -/
def State.traceFrom (s : State) (kind src : Nat) (emits : Bool) (t aux w1 : Nat) : State :=
  let fires := s.triggers kind src
  let s1 := if fires then s.raise dbgBase F.DBG_STAT_triggered else s
  let s2 := if emits then s1.tracePacket t src aux w1 fires else s1
  if fires && !(emits && decide (s.dbg.queue.length < 64)) then
    s2.stopAfter (64 * s.getF dbgBase F.DBG_TRC_CTL_post + s2.dbg.queue.length) else s2
/-- The setting of an event record as the trace sees it (R660). -/
def State.traceEvent (s : State) (src : Nat) : State :=
  if s.tracing then
    s.traceFrom 0 src (s.traces 2 && (s.getF (dbgBase + 4 * (src / 32)) F.DBG_TRC_EV_sel).testBit (src % 32)) 2 0 1
  else s
/-- A scheduled action as the trace sees it (R660). -/
def State.traceAction (s : State) (o : Op) : State :=
  if o.instant.isSome && s.traces 5 then s.tracePacket 5 o.opcode 0 o.word1.toNat false else s

/-- A boundary-scan instruction holds the covered balls and lanes (R639, R643). -/
def State.scanHolds (s : State) : Bool :=
  s.dbg.on && s.pwr.boot != .inReset &&
  (match s.dbg.tap with
   | .extest | .clamp | .highz | .extestPulse | .extestTrain => true
   | _ => false)

/-- Sets the record of a source (R73). -/
def State.signal (s : State) (src : Nat) : State :=
  let b := evcBase + 4 * (src / 32)
  let s1 := s.setF b F.EVC_REC_rec (s.getF b F.EVC_REC_rec ||| 2 ^ (src % 32))
  if s.recorded src then s1 else s1.traceEvent src

/-- The mask of a source. -/
def State.masked (s : State) (src : Nat) : Bool := (s.getF (evcBase + 4 * (src / 32)) F.EVC_MASK_mask).testBit (src % 32)

/-- The source is in use: the others have live and record at 0 (R118, R295, R334, R369, R517, R637). -/
def srcUsed (n : Nat) : Bool :=
  !(decide (20 ≤ n) && decide (n < 32)) && n != 39 && !(decide (52 ≤ n) && decide (n < 64)) && !(decide (118 ≤ n) && decide (n < 128)) &&
  !(decide (560 ≤ n) && decide (n < 592) && decide (6 ≤ n % 8)) && !(decide (611 ≤ n) && decide (n < 624)) && !(decide (774 ≤ n) && decide (n < 784))

/-- Sets a W1C record and signals its source. -/
def State.mark (s : State) (base : Nat) (f : Fld) (src : Nat) : State := (s.raise base f).signal src

/-- A vector is pending while some source routed to it is recorded and not masked (R74). Only listed msix_en cells of
EVC_ROUTE can be 1. -/
def State.vecPending (s : State) (v : Nat) : Bool :=
  (SMap.slice s.regs (32 * (evcBase + 0x1000)) (32 * (evcBase + 0x2000))).any (fun p =>
    p.1 % 32 == 31 && p.2 == 1 &&
    (let src := (p.1 / 32 - (evcBase + 0x1000)) / 4
     s.getF (evcBase + 4 * src) F.EVC_ROUTE_vector == v && s.recorded src && !s.masked src))

/-- The level of interrupt input `line` of cue[n] (R75). -/
def State.cueInput (s : State) (n line : Nat) : Bool :=
  (List.range 1024).any (fun src =>
    (s.getF (evcBase + 4 * src) F.EVC_ROUTE_cue_en).testBit n &&
    s.getF (evcBase + 4 * src) F.EVC_ROUTE_cue_line == line && s.recorded src && !s.masked src)

/-- Whether the PCIe masks and enables block a vector (R76). -/
def State.vecBlocked (s : State) (v : Nat) : Bool :=
  s.evc.vecMask.getLsbD v || (if v < 64 then !s.evc.enMgmt || s.evc.fmMgmt else !s.evc.enData || s.evc.fmData)

/-- After a change that can lower a vector's pending state: a vector no longer pending may signal again (R74). -/
def State.settleVectors (s : State) : State :=
  let w := (List.range 128).foldl
    (fun w v => if w.getLsbD v && !s.vecPending v then w &&& ~~~(BitVec.twoPow 128 v) else w) s.evc.sent
  { s with evc := { s.evc with sent := w } }

/-- Sends the message of a vector that is pending, unblocked and not yet signalled (R74, R76). What the event's commands wrote to host memory
stands there before (R78), since each write takes effect in the row that makes it. -/
def State.sendVector (s : State) (v : Nat) : State :=
  if s.vecPending v && !s.evc.sent.getLsbD v && !s.vecBlocked v then
    { s with out := .msix v :: s.out, evc := { s.evc with sent := s.evc.sent ||| BitVec.twoPow 128 v } }
  else s

/-! ## Counters and snapshots (R64–R67) -/

/-- Counts `n` on the counter at `base + f.off`; reaching the top value sets the counter's record `r` (in the registers at
`rbase`) and signals `src` (R66). -/
def State.count (s : State) (base : Nat) (f : Fld) (n : Nat) (rbase : Nat) (r : Fld) (src : Nat) : State :=
  let s' := s.bump (base + f.off) n
  if s.ctr (base + f.off) < ctrMax ∧ ctrMax ≤ s.ctr (base + f.off) + n then s'.mark rbase r src else s'

/-- The value a counter had at the last snapshot of its block (R64). -/
def State.snapped (s : State) (a : Nat) : Nat := SMap.get 0 s.snaps a

/-- A snapshot of every statistics counter of the window at `base` (R64); with `clear` the live counters restart at 0
(R67). -/
def State.snapWindow (s : State) (base : Nat) (clear : Bool) : State :=
  { s with
    snaps := SMap.splice base (base + 0x10000) s.snaps s.ctrs
    ctrs := if clear then SMap.cut s.ctrs base (base + 0x10000) else s.ctrs }

/-- Forgets the counters and their holding values of the windows `[lo, hi)` (R70). -/
def State.clearCounters (s : State) (lo hi : Nat) : State :=
  { s with ctrs := SMap.cut s.ctrs lo hi, snaps := SMap.cut s.snaps lo hi }

/-! ## Memories -/

/-- Reads `n` bytes of device memory from a device-local address; a byte nothing has written reads 0 (assumption log 3). -/
def State.load (s : State) (a n : Nat) : List Byte := (List.range n).map (fun i => SMap.get 0 s.mem (a + i))
/-- A core's state beside its registers. -/
def State.cueX (s : State) (n : Nat) : CueX := SMap.get {} s.cue n
/-- Replaces it. -/
def State.setCueX (s : State) (n : Nat) (x : CueX) : State := { s with cue := SMap.put {} s.cue n x }
/-- A store to `[a, a + n)` clears the reservations it meets (R550). -/
def State.clearResv (s : State) (a n : Nat) : State :=
  (List.range 8).foldl (fun s k => match (s.cueX k).resv with
    | some (r, _) => if r < a + n ∧ a < r + 64 then s.setCueX k { s.cueX k with resv := none } else s
    | none => s) s
/-- Writes bytes of device memory. -/
def State.store (s : State) (a : Nat) (bs : List Byte) : State :=
  ({ s with mem := SMap.putAll 0 s.mem a bs } : State).clearResv a bs.length
/-- A store by a master: a core's own store leaves its own reservation (R550). -/
def State.storeBy (s : State) (m : Master) (a : Nat) (bs : List Byte) : State :=
  match m with
  | .cue n => (s.store a bs).setCueX n.val { (s.store a bs).cueX n.val with resv := (s.cueX n.val).resv }
  | _ => s.store a bs
/-- Clears a range of device memory to zeros. -/
def State.zero (s : State) (a n : Nat) : State := { s with mem := SMap.cut s.mem a (a + n) }
/-- Reads bytes of host memory. -/
def State.hostLoad (s : State) (a n : Nat) : List Byte := (List.range n).map (fun i => SMap.get 0 s.host (a + i))
/-- Writes bytes of host memory. -/
def State.hostStore (s : State) (a : Nat) (bs : List Byte) : State := { s with host := SMap.putAll 0 s.host a bs }
/-- Whether an access to `[a, a + n)` of host memory is answered with an error or poison (R91). -/
def State.hostFails (s : State) (a n : Nat) : Bool := s.hostBad.any (fun r => decide (a < r.hi) && decide (r.lo < a + n))
/-- Whether it is answered with an error (R91). -/
def State.hostErrs (s : State) (a n : Nat) : Bool := s.hostBad.any (fun r => decide (a < r.hi) && decide (r.lo < a + n) && !r.poison)
/-- Whether a read of `[a, a + n)` of host memory returns poisoned data (R91, R119). -/
def State.hostPoison (s : State) (a n : Nat) : Bool := s.hostBad.any (fun r => decide (a < r.hi) && decide (r.lo < a + n) && r.poison)

/-- The cue-shared SRAM (R38). -/
def sramBase : Nat := 0x7000000000
/-- Its size, 2 MiB. -/
def sramSize : Nat := 0x200000

/-! ## Power domains (R609) -/

/-- The state code of domain `d` as PWR_DOM gives it, lamps apart. -/
def State.dom (s : State) (d : Nat) : Nat := SMap.get 0 s.pwr.dom d
/-- Sets the state code of a domain. -/
def State.setDom (s : State) (d v : Nat) : State := { s with pwr := { s.pwr with dom := SMap.put 0 s.pwr.dom d v } }
/-- Domain `d` reaches state `v`, which is then also the last state it reached (R111). -/
def State.reachDom (s : State) (d v : Nat) : State :=
  { s with pwr := { s.pwr with dom := SMap.put 0 s.pwr.dom d v, last := SMap.put 0 s.pwr.last d v } }
/-- Domain number of the spine of Qq. -/
def spineDom (q : Nat) : Nat := 48 + q
/-- Domain number of device lane group g. -/
def groupDom (g : Nat) : Nat := 52 + g
/-- Domain number of stack Mk. -/
def stackDom (k : Nat) : Nat := 70 + k
/-- Domain number of the partner site. -/
def partnerDom : Nat := 76
/-- Domain number of cue[n]. -/
def cueDom (n : Nat) : Nat := 77 + n

/-- The domain that powers the block at window `b` of die `d`; none for blocks of the centroid that have no domain of
R609 (always-on, debug and control path) and for lane-die blocks shared by every group. -/
def blkDom (d b : Nat) : Option Nat :=
  if d = 0 then (if 0x010 ≤ b ∧ b ≤ 0x017 then some (cueDom (b - 0x010)) else none)
  else if d ≤ 4 then some (spineDom (d - 1))
  else if d ≤ 6 then
    (if 0x040 ≤ b ∧ b ≤ 0x048 then some (groupDom (9 * (d - 5) + (b - 0x040)))
     else if 0x100 ≤ b ∧ b ≤ 0x147 then some (groupDom (9 * (d - 5) + (b - 0x100) / 8))
     else if 0x180 ≤ b ∧ b ≤ 0x1C7 then some (groupDom (9 * (d - 5) + (b - 0x180) / 8))
     else none)
  else if d = 7 ∧ b ≠ 0 then some partnerDom
  else none

/-- A register block answers while its domain is ON, in CLOCK_STOP, drained, powering or in self-refresh; OFF it answers
with a bus error (R51), and so do the blocks of a die under reset (R623), and DBG without VCC_DBG (R638). Cue-core blocks lie on die C and answer
whatever the core's domain does, and so does PSYS, which lies in the adapter on die C (R516). -/
def State.blkOff (s : State) (d b : Nat) : Bool :=
  (d == 0 && b == 0x0F0 && !s.dbg.on) || d != 0 && !(d == 7 && b == 0) && (s.pwr.inReset.getLsbD d || (match blkDom d b with | some x => s.dom x == 0 | none => false))

/-- The block's domain is in CLOCK_STOP (R51, R52). -/
def State.blkStopped (s : State) (d b : Nat) : Bool :=
  match blkDom d b with
  | some x => d != 0 && s.dom x == 2
  | none => false

/-! ## The fault journal (R631–R633) -/

/-- Replaces the oldest entry that may give way (R633). -/
def dropOldest : List JEntry → Option (List JEntry)
  | [] => none
  | e :: t => if !e.permanent && e.code != 0x04 then some t else (dropOldest t).map (e :: ·)

/-- Records a journal entry (R631, R633). -/
def State.journal (s : State) (code : Nat) (permanent : Bool) (target d0 d1 d2 : Nat) : State :=
  let e : JEntry := { code := code, permanent := permanent, seq := s.jrnl.nextSeq, target := target, time := s.sta,
                      d0 := d0, d1 := d1, d2 := d2 }
  let s1 := { s with jrnl := { s.jrnl with nextSeq := (s.jrnl.nextSeq + 1) % 65536 } }
  if s.jrnl.held.length < 512 then
    ({ s1 with jrnl := { s1.jrnl with held := s.jrnl.held ++ [e] } }).mark jrnlBase F.JRNL_STAT_added 770
  else
    match dropOldest s.jrnl.held with
    | some l =>
      ((({ s1 with jrnl := { s1.jrnl with held := l ++ [e] } }).raise jrnlBase F.JRNL_STAT_added).signal 770).mark
        jrnlBase F.JRNL_STAT_replaced 771
    | none => (s1.bump (jrnlBase + F.JRNL_SH_LOST_LO_lo.off) 1).mark jrnlBase F.JRNL_STAT_lost 771

/-- The target word of a block (R96). -/
def targetWord (d b i : Nat) : Nat := i * 65536 + b * 16 + d

/-- Charges an error to a channel; the answer says whether the count of the last second now exceeds the threshold
(R625). -/
def State.charge (s : State) (channel : Nat) : Bool × State :=
  let l := (s.jrnl.charged.filter (fun p => decide (s.now < p.2 + 1000000000))) ++ [(channel, s.now)]
  (decide (s.jrnl.threshold < (l.filter (fun p => p.1 == channel)).length),
   { s with jrnl := { s.jrnl with charged := l } })

/-- Forgets the errors charged to a channel (R626), or to its lanes, which are charged above the 32 bits of its channel word (R499). -/
def State.uncharge (s : State) (channel : Nat) : State :=
  { s with jrnl := { s.jrnl with charged := s.jrnl.charged.filter (fun p => p.1 != channel && p.1 % 4294967296 != channel) } }

/-- The register bus runs from the end of step 3 of R619 until a control stop (R614, R621). -/
def State.busUp (s : State) : Bool :=
  match s.pwr.boot with
  | .inReset | .t0 | .stopped => false
  | _ => true

/-! ## Bus error responses (R51) -/

/-- The answer of each master to each cause (R51). -/
def busErrorOf (m : Master) (write : Bool) (c : BusCause) : BusResp :=
  match m, c with
  | .hostMgmt, .unmapped => .unsupportedRequest
  | .hostData, .unmapped => .unsupportedRequest
  | .hostMgmt, _ => .completerAbort
  | .hostData, _ => .completerAbort
  | .cue _, _ => if write then .storeFault else .loadFault
  | .debug, .unmapped => .errUnmapped
  | .debug, .size => .errSize
  | .debug, _ => .errDomain
  | .debugPlain, .unmapped => .errUnmapped
  | .debugPlain, .size => .errSize
  | .debugPlain, _ => .errDomain
  | .steward, .unmapped => .cmdBadTarget
  | .steward, .size => .cmdBadParam
  | .steward, _ => .cmdDomainOff

/-- Answers an access with the bus error of its cause; over PCIe the endpoint records the kind it returned (R121). -/
def State.busError (s : State) (m : Master) (write : Bool) (addr : Nat) (c : BusCause) : State :=
  let r := busErrorOf m write c
  let s1 := s.emit (.bus m addr r)
  match r with
  | .unsupportedRequest => s1.raise pcieBase F.PCIE_ERR_unsupported
  | .completerAbort => s1.raise pcieBase F.PCIE_ERR_completer_abort
  | _ => s1

/-! ## Queue sets, replies and operations (R83–R108) -/

/-- A queue set. -/
def State.qset (s : State) (q : Nat) : QSet := SMap.get {} s.hq.sets q
/-- The number under which a path's reply count is kept: the set's, 16 for the SPI, 17 for the lattice (R97). -/
def Src.index : Src → Nat
  | .set q => q.val
  | .spi => 16
  | .lattice _ => 17
/-- Replaces a queue set. -/
def State.setQ (s : State) (q : Nat) (v : QSet) : State := { s with hq := { s.hq with sets := SMap.put {} s.hq.sets q v } }
/-- The base of queue set q's registers (R92). -/
def setBase (q : Nat) : Nat := hqBase + 0x40 * q
/-- The slots exponent k of a set: 0–3 act as 4, 13–15 as 12 (HQ_Q_CTL.log2_slots). -/
def State.ringK (s : State) (q : Nat) : Nat := min 12 (max 4 (s.getF (setBase q) F.HQ_Q_CTL_log2_slots))
/-- Slots of a set's rings, 2^k (R87). -/
def State.ringSlots (s : State) (q : Nat) : Nat := 2 ^ s.ringK q
/-- The reply ring has a free slot (R88). -/
def State.replyFree (s : State) (q : Nat) : Bool :=
  (s.getF (setBase q) F.HQ_RQ_TAIL_tail + 1) % s.ringSlots q != s.getF (setBase q) F.HQ_RQ_HEAD_head
/-- The reply ring holds unconsumed replies (R118). -/
def State.replyHeld (s : State) (q : Nat) : Bool :=
  s.getF (setBase q) F.HQ_RQ_TAIL_tail != s.getF (setBase q) F.HQ_RQ_HEAD_head
/-- The free slots of the reply ring (R88). -/
def State.replySlots (s : State) (q : Nat) : Nat :=
  s.ringSlots q - 1 - (s.getF (setBase q) F.HQ_RQ_TAIL_tail + s.ringSlots q - s.getF (setBase q) F.HQ_RQ_HEAD_head) % s.ringSlots q
/-- A reply of the set waits for a slot (R89, HQ_Q_STAT.reply_wait): more replies are ready than slots are free. -/
def State.replyWait (s : State) (q : Nat) : Bool :=
  decide (s.replySlots q < (s.hq.ready.filter (fun r => match r.src with | .set p => p.val == q | _ => false)).length)
/-- A pending operation of a path with a tag. -/
def Op.is (o : Op) (src : Src) (tag : BitVec 8) : Bool := decide (o.src = src) && o.tag == tag
/-- The pending operation of a path and tag. -/
def State.opOf (s : State) (src : Src) (tag : BitVec 8) : Option Op := s.hq.ops.find? (fun o => o.is src tag)
/-- Removes a pending operation. -/
def State.dropOp (s : State) (src : Src) (tag : BitVec 8) : State :=
  { s with hq := { s.hq with ops := s.hq.ops.filter (fun o => !o.is src tag) } }
/-- Replaces a pending operation by path and tag; one that leaves stage 0 has been performed (R660). -/
def State.putOp (s : State) (o : Op) : State :=
  let s1 : State := { s with hq := { s.hq with ops := s.hq.ops.map (fun p => if p.is o.src o.tag then o else p) } }
  if o.stage != 0 && s.hq.ops.any (fun p => p.is o.src o.tag && p.stage == 0) then s1.traceAction o else s1
/-- Makes a reply ready (R89). -/
def State.pushReply (s : State) (r : Reply) : State := { s with hq := { s.hq with ready := s.hq.ready ++ [r] } }
/-- Added to the opcode of a packet that waits for its answer: BAD_OPCODE, BAD_LENGTH, or the BUSY of a full lattice queue (R85, R104, R108). -/
def badOpMark : Nat := 65536
@[inherit_doc badOpMark] def badLenMark : Nat := 131072
@[inherit_doc badOpMark] def refusedMark : Nat := 262144
/-- The packets of a set that wait, in ring order (R104). -/
def State.waiting (s : State) (src : Src) : List (Nat × Cmd) := (s.hq.inbox ++ s.hq.latQueue).filter (fun p => p.2.src.sameSet src)
/-- The packets at the front of a set that are answered unread. -/
def State.unread (s : State) (src : Src) : List (Nat × Cmd) :=
  (s.waiting src).takeWhile (fun p => decide (badOpMark ≤ p.1 % refusedMark))
/-- The answer to such a packet. -/
def unreadReply (p : Nat × Cmd) : Reply :=
  { src := p.2.src, tag := p.2.tag, status := if p.1 % refusedMark < badLenMark then .badOpcode else .badLength, completion := false, opcode := p.1 % 65536,
    results := [] }
/-- The packets at the front of a set that fail their first checks are answered (R104, R108). -/
def State.settle (s : State) (src : Src) : State :=
  { s with hq := { s.hq with
      inbox := (s.unread src).foldl List.erase s.hq.inbox, latQueue := (s.unread src).foldl List.erase s.hq.latQueue
      ready := s.hq.ready ++ (s.unread src).map unreadReply } }
/-- The steward takes a command from those that wait, after the answers of those before it. -/
def State.take (s : State) (op : Nat) (c : Cmd) : State :=
  let t := s.settle c.src
  { t with hq := { t.hq with inbox := t.hq.inbox.erase (op, c), latQueue := t.hq.latQueue.erase (op, c) } }
/-- The one reply of an immediate command, or the first reply of any command (R100). -/
def State.answer (s : State) (op : Nat) (c : Cmd) (st : Status) (results : List Word) : State :=
  s.pushReply { src := c.src, tag := c.tag, status := st, completion := false, opcode := op, results := results }
/-- Accepts a long or scheduled operation (R100): ACCEPTED, and the operation awaits completion. -/
def State.accept (s : State) (op : Nat) (c : Cmd) (instant : Option Nat) : State :=
  let s1 := s.answer op c .accepted []
  let o : Op := { src := c.src, tag := c.tag, opcode := op, word1 := c.word1, params := c.params, instant := instant, began := s.now }
  { s1 with hq := { s1.hq with ops := s1.hq.ops ++ [o] } }
/-- Completes an operation: it is pending no longer and its completion reply is ready (R100). -/
def State.complete (s : State) (o : Op) (st : Status) (results : List Word) : State :=
  ((if st = .ok ∧ o.stage = 0 then s.traceAction o else s).dropOp o.src o.tag).pushReply
    { src := o.src, tag := o.tag, status := st, completion := true, opcode := o.opcode, results := results }
/-- Completes an operation named by path, tag and opcode, where it is pending. -/
def State.completeOf (s : State) (src : Src) (tag : BitVec 8) (st : Status) (results : List Word) : State :=
  match s.opOf src tag with
  | some o => s.complete o st results
  | none => s
/-- The packet word `i` of an operation. -/
def Op.w (o : Op) (i : Nat) : Nat := (o.params.getD (i - 2) 0).toNat
/-- Bits of packet word `i` of an operation. -/
def Op.f (o : Op) (i hi lo : Nat) : Nat := bitsOf (o.w i) hi lo
/-- The die of an operation's target. -/
def Op.die (o : Op) : Nat := bitsOf o.word1.toNat 3 0
/-- The window of an operation's target. -/
def Op.blk (o : Op) : Nat := bitsOf o.word1.toNat 15 4
/-- The instance of an operation's target. -/
def Op.inst (o : Op) : Nat := bitsOf o.word1.toNat 31 16
/-- The set that sent a command, where one did. -/
def Src.setOf : Src → Option Nat
  | .set q => some q.val
  | _ => none
/-- Microseconds since an operation was accepted. -/
def State.opMicros (s : State) (o : Op) : Nat := (s.now - o.began) / 1000

/-- What is known of an opcode (R109): allowed on the priority lane, and not immediate. -/
structure OpInfo where
  code : Nat
  prio : Bool
  long : Bool
  quer : Bool
deriving DecidableEq, Repr

/-- The opcode table of R109. -/
def opcodeTable : List OpInfo := [
  ⟨0x0100, true, false, false⟩, ⟨0x0101, false, false, false⟩, ⟨0x0102, false, false, false⟩, ⟨0x0103, false, true, true⟩,
  ⟨0x0104, false, true, false⟩, ⟨0x0105, false, true, false⟩, ⟨0x0106, false, true, false⟩, ⟨0x0107, true, false, false⟩,
  ⟨0x0108, false, true, true⟩, ⟨0x0200, false, true, false⟩, ⟨0x0201, false, true, false⟩, ⟨0x0202, false, true, false⟩,
  ⟨0x0203, true, true, false⟩, ⟨0x0204, true, false, true⟩, ⟨0x0205, false, true, false⟩, ⟨0x0206, false, false, true⟩,
  ⟨0x0300, false, false, true⟩, ⟨0x0301, false, false, true⟩, ⟨0x0302, false, true, true⟩, ⟨0x0303, false, false, true⟩,
  ⟨0x0304, false, false, true⟩, ⟨0x0305, true, false, false⟩] ++ [
  ⟨0x0400, true, true, true⟩, ⟨0x0401, false, false, true⟩, ⟨0x0402, false, true, false⟩, ⟨0x0403, false, true, false⟩,
  ⟨0x0404, false, true, false⟩, ⟨0x0405, true, false, false⟩, ⟨0x0500, true, true, true⟩, ⟨0x0501, true, true, true⟩,
  ⟨0x0502, false, false, true⟩, ⟨0x0503, false, false, false⟩, ⟨0x0504, false, false, true⟩, ⟨0x0505, true, true, true⟩,
  ⟨0x0506, false, true, false⟩, ⟨0x0507, true, false, false⟩, ⟨0x0600, false, false, true⟩, ⟨0x0601, true, true, false⟩,
  ⟨0x0700, false, false, true⟩, ⟨0x0701, false, false, true⟩, ⟨0x0702, false, true, false⟩, ⟨0x0800, false, true, false⟩,
  ⟨0x0801, false, false, true⟩, ⟨0x0802, false, false, true⟩] ++ [
  ⟨0x0900, false, false, false⟩, ⟨0x0901, false, false, false⟩, ⟨0x0902, false, true, false⟩, ⟨0x0A00, false, false, false⟩,
  ⟨0x0A01, false, false, false⟩, ⟨0x0A02, false, true, false⟩, ⟨0x0A03, false, true, false⟩, ⟨0x0A04, false, true, false⟩,
  ⟨0x0A05, false, true, false⟩]

/-- The opcode is in the table, as itself or as a query form (R109). -/
def opcodeKnown (op : Nat) : Bool :=
  opcodeTable.any (fun i => i.code == op || (i.quer && i.code + 0x80 == op))
/-- The opcode is allowed on sets 4 and 5: marked P, and no query form (R109). -/
def opcodePrio (op : Nat) : Bool := opcodeTable.any (fun i => i.code == op && i.prio)
/-- The opcode is a long or scheduled operation. -/
def opcodeLong (op : Nat) : Bool := opcodeTable.any (fun i => i.code == op && i.long)

/-- The opcode may be used on the command's path (R84, R620). -/
def State.opcodeOpen (s : State) (src : Src) (op : Nat) : Bool :=
  opcodeKnown op &&
  (match src.setOf with | some q => (q != 4 && q != 5) || opcodePrio op | none => true) &&
  (s.pwr.boot != .failed || op == 0x0101 || op == 0x0A00 || op == 0x0105 || op == 0x0106)

/-- The path may not use the opcode at all (R86). RESET is barred by its kind, in its own meaning. -/
def barred (src : Src) (op : Nat) : Bool :=
  (match src with | .set q => decide (8 ≤ q.val) | .spi => false | .lattice _ => true) &&
  (op == 0x0105 || op == 0x0106 || op == 0x0902 || op == 0x0900 || op == 0x0901)

/-- R598: root_only is set and the command came from another peer than the root. -/
def State.rootBars (s : State) (src : Src) : Bool :=
  match src with | .lattice p => s.lat.rootOnly && p % 65536 != s.lat.root | _ => false

/-- Pending operations of a queue set of R83. -/
def State.opsOn (s : State) (src : Src) : List Op := s.hq.ops.filter (fun o => o.src.sameSet src)

/-- The kind of a RESET. -/
def Cmd.resetKind (c : Cmd) : Nat := c.f 2 3 0
/-- A warm reset: kind 1, or kind 2 of die 0 (R622). -/
def Cmd.resetWarm (c : Cmd) : Bool := c.resetKind == 1 || (c.resetKind == 2 && c.die == 0)
/-- R102: the set already has 32 operations, or the tag is that of a pending one; a warm RESET is immediate (R112). -/
def State.crowded (s : State) (c : Cmd) (op : Nat) : Bool :=
  (s.opsOn c.src).any (fun o => o.tag == c.tag) || (opcodeLong op && !(op == 0x0104 && c.resetWarm) && decide (32 ≤ (s.opsOn c.src).length))

/-- The blocks a SNAP lists (R117): die and window, as in a target word. -/
def snapList (params : List Word) : List Nat := (params.drop 4).map (fun w => bitsOf w.toNat 15 0)
/-- An operation holds a block, named as a target names it, whatever the instance (R106); a SNAP holds the blocks that it lists (R117). -/
def Op.holdsBlk (o : Op) (t : Nat) : Bool :=
  if o.opcode = 0x0601 then (o.params.drop 4).any (fun w => bitsOf w.toNat 15 0 == t) else bitsOf o.word1.toNat 15 0 == t
/-- An operation holds a command's block (R106). PWR is held per domain (R610), so SET_POWER compares the domain word too. -/
def Op.holds (o : Op) (c : Cmd) : Bool := o.holdsBlk c.tgt && (o.opcode != 0x0103 || o.params.getD 0 0 == c.params.getD 0 0)

/-- R106: another set's long operation holds the command's block. -/
def State.heldByOther (s : State) (c : Cmd) : Bool := s.hq.ops.any (fun o => o.holds c && !o.src.sameSet c.src)
/-- The target that names the block of a window (R96). -/
def tgtAt (base : Nat) : Nat := (base - 0x7F00000000) / 0x10000 % 4096 * 16 + (base - 0x7F00000000) / 0x10000000
/-- R106: another set's long operation holds the block of a window that the command changes beside its target's. -/
def State.otherHolds (s : State) (c : Cmd) (base : Nat) : Bool := s.hq.ops.any (fun o => !o.src.sameSet c.src && o.holdsBlk (tgtAt base))

/-- The checks of a command, each true where it passes. -/
structure Chk where
  len  : Bool := true
  tgt  : Bool := true
  auth : Bool := true
  par  : Bool := true
  dom  : Bool := true
  fen  : Bool := true
  ret  : Bool := true
  free : Bool := true
  late : Bool := true
deriving DecidableEq, Repr

/-- A 32-bit little-endian word of a byte string. -/
def w32 (l : List Byte) (o : Nat) : Nat := ofBytes ((l.drop o).take 4)
/-- The facets that a header names, as a mask (R255). -/
def headerFacets (h : List Byte) : Nat := bitsOf (w32 h 0x034) 15 0 * 4294967296 + w32 h 0x030
/-- The registers of handle h (R293). -/
def handleBase (h : Nat) : Nat := cfgBase + 0x10 * h
/-- The first byte of a handle's region (R293). -/
def State.regionBase (s : State) (h : Nat) : Nat := s.getF (handleBase h) F.CFG_HANDLE_BASE_base * 65536
/-- Bytes of a handle's image, in linear mapping (R260). -/
def State.imageBytes (s : State) (h o n : Nat) : List Byte := s.load (s.regionBase h + o) n
/-- The facets of a handle's image. -/
def State.imageFacets (s : State) (h : Nat) : Nat := headerFacets (s.imageBytes h 0 512)
/-- The facets that a CFG_APPLY selects, as a mask. -/
def State.applyMask (s : State) (c : Cmd) : Nat :=
  if c.w 3 = 0 ∧ c.w 4 = 0 then s.imageFacets (c.f 2 15 0) else c.w 4 * 4294967296 + c.w 3
/-- The facets of a mask. -/
def facetsOf (m : Nat) : List Nat := (List.range 48).filter (fun f => m.testBit f)

/-! ## Topology (R296–R298) -/

/-- A vertex as one number. -/
def vkOf (x y : Nat) : Nat := 32 * x + y
/-- Its column. -/
def vkX (vk : Nat) : Nat := vk / 32
/-- Its row; 16 and 17 are endpoint vertices. -/
def vkY (vk : Nat) : Nat := vk % 32
/-- Columns with two endpoint vertices (R298). -/
def twoEnds (x : Nat) : Bool := x == 6 || x == 7 || x == 10 || x == 11 || x == 12 || x == 13 || x == 16 || x == 17
/-- Vertices of a ring: X-ring y is ring y, Y-ring x is ring 16 + x. -/
def ringSize (r : Nat) : Nat := if r < 16 then 24 else if twoEnds (r - 16) then 18 else 17
/-- The ring of a direction at a vertex. -/
def ringAt (vk dir : Nat) : Nat := if dir < 2 then vkY vk else 16 + vkX vk
/-- The position on that ring. -/
def posAt (vk dir : Nat) : Nat := if dir < 2 then vkX vk else vkY vk
/-- The other direction of the same ring. -/
def flip (dir : Nat) : Nat := if dir % 2 = 0 then dir + 1 else dir - 1
/-- The number of the link that leaves position `pos` of ring r: the link from i to the next position ascending is i, and the last
is the return track's. -/
def linkIdx (r pos dir : Nat) : Nat := if dir % 2 = 0 then pos else (pos + ringSize r - 1) % ringSize r
/-- A link of the device as one number. -/
def linkNo (r i : Nat) : Nat := 32 * r + i
/-- The next vertex in a direction (R297). -/
def nextVk (vk dir : Nat) : Nat :=
  let r := ringAt vk dir
  let p := (posAt vk dir + (if dir % 2 = 0 then 1 else ringSize r - 1)) % ringSize r
  if dir < 2 then vkOf p (vkY vk) else vkOf (vkX vk) p
/-- The quadrant of a crossing vertex; for an endpoint vertex that of its relay (R332). -/
def vkQuad (vk : Nat) : Nat := (if 8 ≤ vkY vk then 2 else 0) + vkX vk / 12
/-- The local index of a crossing vertex. -/
def vkLocal (vk : Nat) : Nat := vkY vk % 8 * 12 + vkX vk % 12
/-- The vertex of a local index. -/
def vkOfLocal (q v : Nat) : Nat := vkOf (q % 2 * 12 + v % 12) (q / 2 * 8 + v / 12)
/-- The registers of a vertex's network interface. Those of endpoint vertices lie outside the address map (R331, R332). -/
def vkBase (vk : Nat) : Nat := if vkY vk < 16 then niBase (vkQuad vk) (vkLocal vk) else 0x10000000000 + vk * 0x10000
/-- The die of an endpoint vertex and its endpoint index (R298): 5, 6 lane dies, 0 the centroid, 7 the partner. -/
def endpointOf (vk : Nat) : Nat × Nat :=
  let x := vkX vk
  if vkY vk = 16 then
    (if x < 8 then (5, x) else if x < 12 then (0, x - 8) else if x < 16 then (0, x - 6) else (6, x - 16))
  else if x = 6 ∨ x = 7 then (0, x - 2)
  else if x = 16 ∨ x = 17 then (0, x - 6)
  else if x = 10 ∨ x = 11 then (7, x - 10)
  else (7, x - 10)
/-- The vertex of C endpoint index i. -/
def cEndpoint (i : Nat) : Nat :=
  if i < 4 then vkOf (8 + i) 16 else if i < 6 then vkOf (2 + i) 17 else if i < 10 then vkOf (6 + i) 16 else vkOf (6 + i) 17
/-- The vertex of P endpoint index i. -/
def pEndpoint (i : Nat) : Nat := vkOf (10 + i) 17
/-- The vertex of endpoint index i of lane die l. -/
def lEndpoint (l i : Nat) : Nat := vkOf (16 * l + i) 16

/-! ## Edges by their ends (R485, R513) -/

/-- The registers of an end of an edge. -/
def edgeEnd (q i : Nat) : Nat := winBase (1 + q) (0x058 + i)
/-- The two ends of edge e in the order of GET_CAPS word 6 (R513); a centroid edge has one. -/
def edgeEnds (e : Nat) : List Nat :=
  if e = 0 then [edgeEnd 0 0, edgeEnd 1 0] else if e = 1 then [edgeEnd 2 0, edgeEnd 3 0]
  else if e = 2 then [edgeEnd 0 1, edgeEnd 2 1] else if e = 3 then [edgeEnd 1 1, edgeEnd 3 1]
  else [edgeEnd (e - 4) 2]
/-- The first end. -/
def edgeBase (e : Nat) : Nat := (edgeEnds e).headD 0
/-- The edge of an EDGE target. -/
def edgeOf (die blk : Nat) : Option Nat :=
  if 1 ≤ die ∧ die ≤ 4 then
    (if blk = 0x058 then some ((die - 1) / 2) else if blk = 0x059 then some (2 + (die - 1) % 2) else if blk = 0x05A then some (3 + die) else none)
  else none
/-- The edges of a quadrant. -/
def quadEdges (q : Nat) : List Nat := [q / 2, 2 + q % 2, 4 + q]
/-- Waveguides of an edge. -/
def edgeWgs (e : Nat) : Nat := if e < 4 then 16 else 4

/-! ## Channel words (R627) -/

/-- A channel that CHANNEL_RETIRE and CHANNEL_RESTORE name. -/
inductive Chan where
  | lane (n : Nat)
  | wave (e w k : Nat)
  | edge (e : Nat)
  | short (l b lane : Nat)
  | dram (k ch : Nat)
  | ring (no : Nat)
deriving DecidableEq, Repr

/-- The link that a channel word of kind 0x6 names: position p of X-ring y, or of Y-ring x. -/
def ringLinkOf (w : Nat) : Option Nat :=
  let x := bitsOf w 20 16
  let y := bitsOf w 12 8
  let r := if w.testBit 1 then 16 + x else y
  let i := if w.testBit 1 then y else x
  if (w.testBit 1 && decide (x < 24) || !w.testBit 1 && decide (y < 16)) && decide (i < ringSize r) then some (linkNo r i) else none
/-- The channel that a word names; none where a field is out of range or a reserved bit is set. -/
def chanOf (w : Nat) : Option Chan :=
  match bitsOf w 31 28 with
  | 1 => if bitsOf w 27 8 = 0 ∧ bitsOf w 7 0 < 144 then some (.lane (bitsOf w 7 0)) else none
  | 2 =>
    let e := bitsOf w 26 24
    if bitsOf w 27 27 = 0 ∧ bitsOf w 14 0 = 0 ∧ bitsOf w 23 20 < edgeWgs e ∧ bitsOf w 19 15 < 18 then some (.wave e (bitsOf w 23 20) (bitsOf w 19 15))
    else none
  | 3 => if bitsOf w 27 27 = 0 ∧ bitsOf w 23 0 = 0 then some (.edge (bitsOf w 26 24)) else none
  | 4 =>
    if bitsOf w 27 25 = 0 ∧ bitsOf w 12 0 = 0 ∧ bitsOf w 23 20 < 9 ∧ bitsOf w 18 13 < 58 then
      some (.short (bitsOf w 24 24) (2 * bitsOf w 23 20 + bitsOf w 19 19) (bitsOf w 18 13))
    else none
  | 5 => if bitsOf w 27 6 = 0 then some (.dram (bitsOf w 5 4) (bitsOf w 3 0)) else none
  | 6 =>
    if bitsOf w 27 21 = 0 ∧ bitsOf w 15 13 = 0 ∧ bitsOf w 7 2 = 0 ∧ bitsOf w 0 0 = 0 then (ringLinkOf w).map Chan.ring else none
  | _ => none

/-- The vertices at the ends of a link. -/
def linkVks (no : Nat) : List Nat :=
  let r := no / 32
  let at_ (p : Nat) : Nat := if r < 16 then vkOf p r else vkOf (r - 16) p
  [at_ (no % 32), at_ ((no % 32 + 1) % ringSize r)]

/-! ## The checks of a command -/

/-- The windows of the blocks that hold a channel's state and are written when it is retired or restored (R627). -/
def Chan.windows : Chan → List Nat
  | .lane n => [laneBase n]
  | .wave e _ _ => edgeEnds e
  | .edge e => edgeEnds e
  | .short l _ _ => [sheBase l]
  | .dram k _ => [fmcBase k]
  | .ring no => ((linkVks no).filter (fun vk => decide (vkY vk < 16))).map vkBase
/-- R106: another set's long operation holds a block of the channel that the command changes. -/
def State.chanHeld (s : State) (c : Cmd) (x : Chan) : Bool := x.windows.any (fun b => s.otherHolds c b)

/-- The steward writes the block that a packet with this opcode names when it carries it out (R107): no query form, none of the commands that
only ask, not FACET_FENCE, which answers BUSY only under R102 (R241), and none of those of `cmdBlocks` that write other blocks. -/
def stewardWrites (op : Nat) : Bool :=
  opcodeTable.any (fun i => i.code == op) && !(([0x0100, 0x0101, 0x0102, 0x0103, 0x0204, 0x0601, 0x0A00] : List Nat).contains op)

/-- The window bases of the blocks that the steward writes when it carries out a command packet (R107): those that a SNAP lists, the facet, the
edges, the lanes or the memory controller whose domain a SET_POWER changes, those of the channel that a CHANNEL_RETIRE or CHANNEL_RESTORE names,
both ends of the edge of an EDGE_RETRAIN, the stream engines of both flows of a MERGE_SET, and else the block of the target; `also` are the facets that a CFG_APPLY selects. -/
def cmdBlocks (op : Nat) (c : Cmd) (also : List Nat) : List Nat :=
  if op = 0x0601 then (c.params.drop 4).map (fun w => winBase (bitsOf w.toNat 3 0) (bitsOf w.toNat 15 4))
  else if op = 0x0103 then
    match c.f 2 31 24 with
    | 1 => [facetBase (c.f 2 15 0)]
    | 2 => (quadEdges (c.f 2 15 0)).flatMap edgeEnds
    | 3 => (List.range 8).map (fun k => laneBase (8 * c.f 2 15 0 + k))
    | 4 => [fmcBase (c.f 2 15 0)]
    | _ => []
  else if op = 0x0202 then also.map facetBase
  else if op = 0x0A02 ∨ op = 0x0A03 then (chanOf (c.w 2)).elim [] Chan.windows
  else if op = 0x0A04 then (edgeOf c.die c.blk).elim [] edgeEnds
  else if op = 0x0504 then [winBase c.die c.blk, winBase c.die (0x040 + c.f 2 11 8)].eraseDups
  else if stewardWrites op && c.die != 0 then [winBase c.die c.blk]
  else []
/-- The blocks outside die C that a command packet writes and that another master's posted write holds (R59, R107). -/
def State.blockedBy (s : State) (op : Nat) (c : Cmd) : List Nat :=
  (cmdBlocks op c (facetsOf (s.applyMask c))).filter (fun b => s.posted.any (fun p => p.base == b && decide (p.master ≠ .steward)))

/-- R107: another master's posted write still holds a block that the command writes when the steward's last retry comes. Only blocks outside
die C hold posted writes (R59). The row of a command stands where its retries are over, so a write that is applied in time has its row before
it (assumption log 86). -/
def State.retriesFail (s : State) (op : Nat) (c : Cmd) : Bool := !(s.blockedBy op c).isEmpty

/-- The first status of R108, from the top of its table, whose condition holds. A die under reset is off (R623). -/
def State.gate (s : State) (op : Nat) (c : Cmd) (k : Chk) : Option Status :=
  if !s.opcodeOpen c.src op then some .badOpcode
  else if !k.len then some .badLength
  else if !k.tgt then some .badTarget
  else if !k.auth || barred c.src op || s.rootBars c.src then some .notAuthorised
  else if !k.par then some .badParam
  else if !k.dom || (decide (c.die < 8) && s.pwr.inReset.getLsbD c.die) then some .domainOff
  else if !k.fen then some .fenced
  else if !k.ret then some .retired
  else if !k.free || s.crowded c op then some .busy
  else if s.retriesFail op c then some .busy
  else if !k.late then some .late
  else none

/-- The steward's write and its retries were discarded by the busy block, which records it (R59, R107). -/
def State.noteDropped (s : State) (op : Nat) (c : Cmd) (k : Chk) (st : Status) : State :=
  if st = .busy ∧ k.free ∧ ¬s.crowded c op then (s.blockedBy op c).foldl (fun s b => s.raise b F.HDR_write_dropped) s else s

/-- The steward handles commands: firmware running (R621) and not handing over (R115), or the boot ROM answering alone (R620). -/
def State.fetching (s : State) : Bool := (s.pwr.boot == .ready || s.pwr.boot == .failed) && !s.hq.handover

/-- The packet whose turn it is (R104): the first of its set that waits, packets answered unread apart. -/
def State.turnOf (s : State) (src : Src) : Option (Nat × Cmd) := (s.waiting src).find? (fun p => decide (p.1 % refusedMark < badOpMark))
/-- The packet is one that a full lattice queue did not take, and its turn has come (R85). -/
def State.refused (s : State) (op : Nat) (c : Cmd) : Bool := decide (s.turnOf c.src = some (op + refusedMark, c))
/-- A packet's turn has come (R89, R104): it has been fetched and is the first of its set that waits. -/
def State.inOrder (s : State) (op : Nat) (c : Cmd) : Bool := decide (s.turnOf c.src = some (op, c))
/-- The steward handles this packet now. -/
def State.handles (s : State) (op : Nat) (c : Cmd) : Bool := s.fetching && s.inOrder op c
/-- A packet that a full lattice queue did not take is answered in its turn: BUSY, or what stands above it in the table (R85, R104, R108). -/
def State.answerRefused (s : State) (op : Nat) (c : Cmd) (k : Chk) : State :=
  let s1 := s.take (op + refusedMark) c
  s1.answer op c ((s1.gate op c { k with free := false }).getD .busy) []

/-- Carries out an immediate command: the first failing check answers, else `run`, its answer, and what follows the answer. Nothing carries it
out while no steward runs (R614, R621), or before its turn (R104). -/
def State.immediateThen (s : State) (op : Nat) (c : Cmd) (k : Chk) (run : State → State × List Word) (after : State → State) : State :=
  if s.fetching && s.refused op c then s.answerRefused op c k
  else if !s.handles op c then s
  else
    let s1 := s.take op c
    match s1.gate op c k with
    | some st => (s1.noteDropped op c k st).answer op c st []
    | none =>
      let r := run s1
      after (r.1.answer op c .ok r.2)
/-- Carries out an immediate command that ends with its answer. -/
def State.immediate (s : State) (op : Nat) (c : Cmd) (k : Chk) (run : State → State × List Word) : State := s.immediateThen op c k run id

/-- Carries out the first part of a long operation: the first failing check answers, else ACCEPTED and `run`; nothing while no steward
runs, or before its turn. -/
def State.long (s : State) (op : Nat) (c : Cmd) (k : Chk) (instant : Option Nat) (run : State → State) : State :=
  if s.fetching && s.refused op c then s.answerRefused op c k
  else if !s.handles op c then s
  else
    let s1 := s.take op c
    match s1.gate op c k with
    | some st => (s1.noteDropped op c k st).answer op c st []
    | none => run (s1.accept op c instant)

/-- By how much die d's copy of station time is ahead of the centroid's (2⁻¹⁶ ns): 0 unless the die is degraded (R337). -/
def State.copyAhead (s : State) (d : Nat) : Int := (SMap.get (0, 0) s.tim.copies d).1
/-- Station time as die d's copy has it (R337). -/
def State.staAt (s : State) (d : Nat) : Nat := ((s.sta : Int) + s.copyAhead d).toNat
/-- R34: the station time of a target on die d has already reached the instant. -/
def State.instantPassed (s : State) (d : Nat) : Instant → Bool
  | .atOnce => false
  | .at t => decide (t ≤ s.staAt d)
/-- The station time an instant stands for. -/
def State.instantTime (s : State) : Instant → Nat
  | .atOnce => s.sta
  | .at t => t
/-- The instant of a command, where its words spell one, is still to come on die d. -/
def State.inTime (s : State) (d : Nat) (i : Option Instant) : Bool := match i with | some i => !s.instantPassed d i | none => true

/-- A scheduled action of an opcode is armed on a target and has not acted yet (R35). -/
def State.armedOn (s : State) (op : Nat) (word1 : Word) : Bool :=
  s.hq.ops.any (fun o => o.opcode == op && o.word1 == word1 && o.instant.isSome && o.stage == 0)

/-- The correction of station time against the system timebase (R343, R370), in 0.0001 ppm. -/
def State.timeFreq (s : State) : Int := (BitVec.ofNat 32 (s.getF timeBase F.TIME_FREQ_freq)).toInt
/-- Station time that passes while the system timebase passes `ns` at correction `f` (0.0001 ppm, R343, R370), counted from the start of
the timebase so that rounding does not add up (R336). -/
def staPassed (now ns : Nat) (f : Int) : Nat :=
  let at_ (t : Nat) : Int := (t * nano : Nat) + ((t * nano : Nat) : Int) * f / 10000000000
  (at_ (now + ns) - at_ now).toNat
/-- What is left of a slew once `ns` have passed (R346): what the correction differs by from the one before the slew comes off the offset. -/
def State.slewLeft (s : State) (ns : Nat) : Int :=
  let l := s.tim.slew - (s.timeFreq - s.tim.base) * (ns * nano : Nat)
  if s.tim.slew = 0 then 0 else if l = 0 then (if s.tim.base < s.timeFreq then -1 else 1) else l
/-- `ns` of the timebase and `d` of station time pass: a slew goes on (R346), and the copies of degraded dies run on their local time clocks (R337). -/
def State.timeRuns (s : State) (ns d : Nat) : State :=
  { s with
    now := s.now + ns, sta := s.sta + d
    tim := { s.tim with slew := s.slewLeft ns, copies := s.tim.copies.map (fun p => (p.1, (p.2.1 + (staPassed s.now ns p.2.2 : Nat) - (d : Int), p.2.2))) } }
/-- An event happens at station time `t`: time has come at least that far, at the correction that holds (R344; assumption log 12). -/
def State.reach (s : State) (t : Nat) : State :=
  if s.sta < t then s.timeRuns ((t - s.sta) * 10000000000 / (10000000000 + s.timeFreq).toNat / nano) (t - s.sta) else s
/-- An event happens when the timebase reads `t` ns: time has come at least that far. -/
def State.reachNow (s : State) (t : Nat) : State :=
  if s.now < t then s.timeRuns (t - s.now) (staPassed s.now (t - s.now) s.timeFreq) else s

/-- An event happens on die d when its copy of station time reads `t` (R337). -/
def State.reachAt (s : State) (d t : Nat) : State := s.reach ((t : Int) - s.copyAhead d).toNat

/-- The station time by which the acting clock must have given an edge for an action armed for `i` (R368): 1 µs after the instant, or after a
step that went past it (R367). -/
def State.edgeLimit (s : State) (i : Nat) : Nat := max i (s.tim.stepAt.getD 0) + 1000 * nano
/-- A facet swap that waits for its event line has a timeout of its own (R230). -/
def Op.onEvent (o : Op) : Bool := o.opcode == 0x0203 && o.f 5 31 31 == 1
/-- An edge of the acting clock at station time `t` is one that the action may act on (R33, R368); a facet swap tests its own bound (R230, R231). -/
def State.edgeActs (s : State) (o : Op) (t : Nat) : Bool :=
  match o.instant with
  | some i => decide (i ≤ t) && (o.opcode == 0x0203 || decide (t ≤ s.edgeLimit i))
  | none => true
/-- The armed operation of an opcode on a target that acts on an edge at station time `t` (R33, R35, R368). -/
def State.armedBy (s : State) (op : Nat) (word1 : Word) (t : Nat) : Option Op :=
  s.hq.ops.find? (fun o => o.opcode == op && o.word1 == word1 && o.stage == 0 && s.edgeActs o t)

/-- An operation of an opcode on a target that has acted and awaits completion. -/
def State.actedOn (s : State) (op : Nat) (word1 : Word) : Option Op :=
  s.hq.ops.find? (fun o => o.opcode == op && o.word1 == word1 && o.stage != 0)

/-- The first pending operation of an opcode on a target. -/
def State.pendingOn (s : State) (op : Nat) (word1 : Word) : Option Op :=
  s.hq.ops.find? (fun o => o.opcode == op && o.word1 == word1)

/-- Completes every pending operation of an opcode on a target with a status. -/
def State.endOps (s : State) (op : Nat) (word1 : Word) (st : Status) : State :=
  (s.hq.ops.filter (fun o => o.opcode == op && o.word1 == word1)).foldl (fun s o => s.complete o st []) s

/-- The target of a command is this block and instance. -/
def Cmd.aims (c : Cmd) (d b i : Nat) : Bool := c.die == d && c.blk == b && c.inst == i

end Sys2Proof.Machine
end

