-- ==== Sys2Proof/Machine/Queues.lean ====
section
/-! DEFINITION. The command paths of spec/03: queue sets with their rings, doorbells, command fetch, reply writing, the SPI
path with its frames, and the lattice queue. -/
namespace Sys2Proof.Machine

/-! ## Access to the HQ block (R47, R92, R93) -/

/-- Sets that exist: 0–5 and 8–15 (R92). -/
def setExists (q : Nat) : Bool := q != 6 && q != 7 && decide (q < 16)

/-- Who may write a set's registers (R47, R93). -/
def setWritable (m : Master) (q : Nat) : Bool :=
  if q = 5 then decide (m = .hostData) || decide (m = .hostMgmt)
  else if 8 ≤ q then
    (match m with
     | .hostMgmt => true
     | .debug => true
     | .cue n => n.val + 8 == q
     | _ => false)
  else !decide (m = .hostData)

/-- Who may access a set's registers at all (R93): set 5 only the two functions. -/
def setAccess (m : Master) (q : Nat) : Bool := q != 5 || decide (m = .hostData) || decide (m = .hostMgmt)
/-- The set whose registers hold an offset of HQ (R92). -/
def setOfOff (o : Nat) : Option Nat := if 0x100 ≤ o ∧ o < 0x500 then some ((o - 0x100) / 0x40) else none
/-- A write to a set's register: refused under R93 with a store access fault or a completer abort, else `act`. Sets 6 and
7 have no registers (R53, R92). -/
def State.setWrite (s : State) (m : Master) (q : Nat) (act : State → State) : State :=
  if !setExists q then s
  else if setWritable m q then act s
  else s.busError m true (setBase q) .mgmtOnly

/-- The doorbell (R88): a tail, bits [11:0], below 2^k is taken; any other is ignored and sets bad_index. -/
def State.ringTail (s : State) (q v : Nat) : State :=
  if v % 4096 < s.ringSlots q then s.setF (setBase q) F.HQ_CQ_TAIL_tail v else s.raise (setBase q) F.HQ_Q_STAT_bad_index

/-- Freeing reply slots (R88). -/
def State.ringHead (s : State) (q v : Nat) : State :=
  if v % 4096 < s.ringSlots q then s.setF (setBase q) F.HQ_RQ_HEAD_head v else s.raise (setBase q) F.HQ_Q_STAT_bad_index

/-- Head and tail of both rings of a set are 0. -/
def State.ringsZero (s : State) (q : Nat) : State :=
  (((s.lower (setBase q) F.HQ_CQ_HEAD_head).lower (setBase q) F.HQ_CQ_TAIL_tail).lower (setBase q) F.HQ_RQ_HEAD_head).lower (setBase q)
    F.HQ_RQ_TAIL_tail
/-- Setting enable (R91): from OFF the set runs with head, tail and sequence number at 0. During a handover it starts HELD (DESIGN CHOICE,
assumption log 87: R91 gives only RUNNING, and R115 fetches nothing then). -/
def State.enableSet (s : State) (q k : Nat) : State :=
  let s1 := (s.setF (setBase q) F.HQ_Q_CTL_log2_slots k).raise (setBase q) F.HQ_Q_CTL_enable
  if (s.qset q).state = .off then (s1.ringsZero q).setQ q { state := if s.hq.handover then .held else .running, seq := 0 } else s1

/-- What belongs to set `q` is forgotten: its pending operations, its fetched commands and its waiting replies (R91). What an abandoned
operation had begun stays as it is, a domain POWERING or DRAINING with it (DESIGN CHOICE, assumption log 88). -/
def State.abandonSet (s : State) (q : Nat) : State :=
  let mine (r : Src) : Bool := r.setOf == some q
  { s with hq := { s.hq with
      ops := s.hq.ops.filter (fun o => !mine o.src)
      inbox := s.hq.inbox.filter (fun p => !mine p.2.src)
      ready := s.hq.ready.filter (fun r => !mine r.src) } }

/-- Clearing enable (R91, R92): pending long operations are abandoned without completion replies, the set's state is cleared and it is OFF. -/
def State.disableSet (s : State) (q k : Nat) : State :=
  ((((s.setF (setBase q) F.HQ_Q_CTL_log2_slots k).lower (setBase q) F.HQ_Q_CTL_enable).abandonSet q).ringsZero q).setQ q {}

/-- A failed ring access (R91): the set stops, fetch_error is set, source 7 is raised, head and tail stay. -/
def State.ringFail (s : State) (q : Nat) : State :=
  (s.setQ q { (s.qset q) with state := .stopped }).mark (setBase q) F.HQ_Q_STAT_fetch_error 7

/-- The base of a ring (R688): a host address for sets 0–5, an offset in the cue-shared SRAM for sets 8–15. -/
def State.ringBase (s : State) (q : Nat) (reply : Bool) : Nat :=
  let lo := if reply then s.getF (setBase q) F.HQ_RQ_BASE_LO_base else s.getF (setBase q) F.HQ_CQ_BASE_LO_base
  let hi := if reply then s.getF (setBase q) F.HQ_RQ_BASE_HI_base else s.getF (setBase q) F.HQ_CQ_BASE_HI_base
  hi * 4294967296 + lo * 4096

/-- An access of `n` bytes to a slot of a ring fails (R91, R688): a read of host memory with an error or poison, a write with an error. A fetch
is judged over 1,020 bytes and a reply over 1,024, whatever the packet's length (DESIGN CHOICE, assumption log 89). -/
def State.ringBad (s : State) (q : Nat) (reply : Bool) (slot n : Nat) : Bool :=
  if q < 8 then (if reply then s.hostErrs (s.ringBase q reply + slot * 1024) n else s.hostFails (s.ringBase q reply + slot * 1024) n)
  else decide (sramSize < s.ringBase q reply + 1024 * s.ringSlots q)

/-- The words of a slot (R87). -/
def State.ringWords (s : State) (q : Nat) (reply : Bool) (slot n : Nat) : List Word :=
  let a := s.ringBase q reply + slot * 1024
  (List.range n).map (fun i =>
    wd (ofBytes (if q < 8 then s.hostLoad (a + 4 * i) 4 else s.load (sramBase + a + 4 * i) 4)))

/-- Writes words into a slot (R87). -/
def State.ringStore (s : State) (q : Nat) (reply : Bool) (slot : Nat) (ws : List Word) : State :=
  let a := s.ringBase q reply + slot * 1024
  if q < 8 then s.hostStore a (bytesOfWords ws) else s.store (sramBase + a) (bytesOfWords ws)

/-- The opcode of a packet (R96). -/
def pktOp (ws : List Word) : Nat := bitsOf (ws.getD 0 0).toNat 15 0
/-- Its length (R96). -/
def pktLen (ws : List Word) : Nat := bitsOf (ws.getD 0 0).toNat 23 16
/-- The packet that a path brings (R96). -/
def pktCmd (src : Src) (ws : List Word) : Cmd :=
  { src := src, tag := BitVec.ofNat 8 (bitsOf (ws.getD 0 0).toNat 31 24), word1 := ws.getD 1 0, params := (ws.take (pktLen ws)).drop 2 }
/-- The mark of a packet that fails its first checks (R96, R108): an unknown opcode, one not allowed on the path, or a length of 0 or 1. -/
def State.packetMark (s : State) (src : Src) (ws : List Word) : Nat :=
  if !s.opcodeOpen src (pktOp ws) then badOpMark else if pktLen ws < 2 then badLenMark else 0
/-- Takes a packet the steward has fetched (R89, R96, R104): it waits for its turn; one that fails its first checks is answered when its turn
comes, at once where none waits before it. -/
def State.received (s : State) (src : Src) (ws : List Word) : State :=
  ({ s with hq := { s.hq with inbox := s.hq.inbox ++ [(pktOp ws + s.packetMark src ws, pktCmd src ws)] } } : State).settle src

/-! ## Reaching HQ (R47, R51) -/

/-- The register bus runs from the end of step 3 of R619; an access before it gets no answer, or err_domain for a debug access (R614, R639). -/
def State.busDead (s : State) (m : Master) (write : Bool) (addr : Nat) : State :=
  if m = .debug ∨ m = .debugPlain then s.busError m write addr .domainOff else s
/-- Why an access of a master to an offset of HQ ends with a bus error (R47, R93), if it does: the data function reaches the header, for
reading, and its own set. -/
def hqDenied (m : Master) (off : Nat) (write : Bool) : Bool :=
  (decide (m = .hostData) && !((decide (off < 0x10) && !write) || setOfOff off == some 5)) ||
  (match setOfOff off with | some q => !setAccess m q | none => false)
/-- A write to a register of a set that has a row of its own (R47, R51, R93). -/
def State.setOwn (s : State) (m : Master) (q r : Nat) (act : State → State) : State :=
  if !s.busUp then s.busDead m true (setBase q + 0x100 + r)
  else if hqDenied m (0x100 + 0x40 * q + r) true then s.busError m true (setBase q + 0x100 + r) .mgmtOnly
  else s.setWrite m q act

/-! ## The queue sets -/

/-- DOORBELL (R88, R115, R621): a new command-ring tail. Doorbells are kept whatever the state of the firmware. -/
def execDoorbell (m : Master) (q : Fin 16) (v : Word) (s : State) : Result :=
  .next (s.setOwn m q.val 0x14 (fun s => s.ringTail q.val v.toNat))

/-- HQ_RQ_HEAD_WRITE (R88, R118). -/
def execHqRqHeadWrite (m : Master) (q : Fin 16) (v : Word) (s : State) : Result :=
  .next (s.setOwn m q.val 0x20 (fun s => s.ringHead q.val v.toNat))

/-- HQ_Q_ENABLE (R91): a write of HQ_Q_CTL with enable = 1 and exponent field `k`. -/
def execHqQEnable (m : Master) (q : Fin 16) (k : BitVec 4) (s : State) : Result :=
  .next (s.setOwn m q.val 0x10 (fun s => s.enableSet q.val k.toNat))

/-- HQ_Q_DISABLE (R91): a write of HQ_Q_CTL with enable = 0. -/
def execHqQDisable (m : Master) (q : Fin 16) (k : BitVec 4) (s : State) : Result :=
  .next (s.setOwn m q.val 0x10 (fun s => s.disableSet q.val k.toNat))

/-- The state in which set `q` fetches (R89, R91). -/
def State.canFetch (s : State) (q : Nat) : Bool :=
  s.fetching && (s.qset q).state == .running &&
  s.getF (setBase q) F.HQ_CQ_TAIL_tail != s.getF (setBase q) F.HQ_CQ_HEAD_head &&
  s.replyFree q && !s.replyWait q

/-- COMMAND_FETCH (R89, R91, R96): the command at head is read, checked and head advances; a ring that fails stops the set.
While a reply waits for a slot, source 18 is raised and nothing is fetched. -/
def execCommandFetch (q : Fin 16) (s : State) : Result :=
  .next
    (if s.canFetch q.val then
      let h := s.getF (setBase q.val) F.HQ_CQ_HEAD_head
      if s.ringBad q.val false h 1020 then s.ringFail q.val
      else
        let ws := s.ringWords q.val false h 255
        (s.setF (setBase q.val) F.HQ_CQ_HEAD_head ((h + 1) % s.ringSlots q.val)).received (.set q) ws
    else if s.replyWait q.val then s.signal 18 else s)

/-! ## Replies (R89, R90, R97) -/

/-- The words of a reply with its sequence number (R97). -/
def Reply.words (r : Reply) (seq : Nat) : List Word :=
  [wd (r.tag.toNat * 16777216 + (2 + r.results.length) * 65536 + r.status.code),
   wd (seq * 65536 + bit r.completion * 32768 + r.opcode % 32768)] ++ r.results

/-- Writes words into HQ_SPI_RPL (R94). -/
def State.spiStore (s : State) (ws : List Word) : State :=
  (ws.foldl (fun (p : Nat × State) w => (p.1 + 1, p.2.setF (hqBase + 4 * p.1) F.HQ_SPI_RPL_word w.toNat)) (0, s)).2

/-- Counts a reply on its path (R97). -/
def State.countReply (s : State) (i : Nat) : State := s.setQ i { (s.qset i) with seq := ((s.qset i).seq + 1) % 65536 }

/-- The reply to a warm RESET is written: the reset begins 10 µs later (R112). -/
def State.warmDue (s : State) (r : Reply) : State :=
  if r.opcode = 0x0104 ∧ r.status = .ok ∧ !r.completion then { s with pwr := { s.pwr with warmAt := some (s.now + 10000) } } else s
/-- A new address takes effect once the reply to its LAT_ASSIGN has been sent (R604, R608). -/
def State.latTake (s : State) (src : Src) : State :=
  match s.lat.next.find? (fun n => decide (n.1 = src)) with
  | some n =>
    let s1 : State := { s with lat := { s.lat with addr := n.2.addr, rootOnly := n.2.rootOnly, id := n.2.id, root := n.2.root, next := s.lat.next.erase n } }
    if n.2.addr = s.lat.addr then s1 else s1.signal 784
  | none => s
/-- What follows a reply that was sent: a warm reset, or a new lattice address. -/
def State.replySent (s : State) (r : Reply) : State := if r.opcode = 0x0801 then s.latTake r.src else s.warmDue r
/-- Writes one ready reply (R89, R90, R94): a set's reply needs a free slot of a running or held set, and is in memory before the
tail moves and the source is recorded; the SPI's waits until the earlier one is acknowledged, and running falls with the first reply to the go; a lattice peer's leaves
over the lattice. -/
def State.writeReply (s : State) (r : Reply) : State :=
  let gone : State := { s with hq := { s.hq with ready := s.hq.ready.erase r } }
  match r.src with
  | .set q =>
    if (s.qset q.val).state == .off || (s.qset q.val).state == .stopped then s
    else if !s.replyFree q.val then s.signal 18
    else
      let t := s.getF (setBase q.val) F.HQ_RQ_TAIL_tail
      if s.ringBad q.val true t 1024 then s.ringFail q.val
      else
        ((((gone.ringStore q.val true t (r.words (s.qset q.val).seq)).countReply q.val).setF (setBase q.val)
          F.HQ_RQ_TAIL_tail ((t + 1) % s.ringSlots q.val)).signal q.val).replySent r
  | .spi =>
    if s.hq.spiReply then s
    else
      let s1 := (gone.spiStore (r.words (s.qset 16).seq)).countReply 16
      (({ s1 with hq := { s1.hq with spiReply := true, spiRunning := s1.hq.spiRunning && r.completion } } : State).signal 6).replySent r
  | .lattice p =>
    let s1 := (gone.emit (.latticeReply p (r.words (s.qset 17).seq))).countReply 17
    { s1 with hq := { s1.hq with latOut := s1.hq.latOut ++ [(p, r.words (s.qset 17).seq)] } }

/-- The reply that a path writes next (R104, R89): the first that is ready, where it is a completion; the first replies of a set go in order, and
the lattice is one set (R83), so the oldest of them goes, whichever peer it is for. -/
def State.nextReply (s : State) (src : Src) : Option Reply :=
  s.hq.ready.find? (fun r => if r.completion then decide (r.src = src) else r.src.sameSet src)
/-- REPLY_WRITE (R89, R90, R104, R115): the next ready reply of a path is written; during a handover none is. -/
def execReplyWrite (src : Src) (s : State) : Result :=
  .next
    (if s.hq.handover then s
     else
       let t := if s.fetching then s.settle src else s
       match t.nextReply src with
       | some r => t.writeReply r
       | none => t)

/-! ## The SPI path (R94, R95) -/

/-- The steward takes the packet in HQ_SPI_CMD. -/
def State.spiSubmit (s : State) : State :=
  let ws := (List.range 255).map (fun i => wd (s.getF (hqBase + 4 * i) F.HQ_SPI_CMD_word))
  let s1 : State := { s with hq := { s.hq with spiRunning := true, spiGoHeld := false } }
  s1.received .spi ws

/-- go (R94, R95): ignored while a command runs or a reply is unacknowledged; held until the firmware is ready. -/
def State.spiGo (s : State) : State :=
  if s.hq.spiRunning || s.hq.spiReply then s
  else if s.fetching then s.spiSubmit
  else { s with hq := { s.hq with spiRunning := true, spiGoHeld := true } }

/-- The steward handles commands from now on: a go held until the firmware is ready acts (R95), and what the lattice brought is answered. -/
def State.spiHeldGo (s : State) : State :=
  let s1 := if s.hq.spiGoHeld && s.fetching then s.spiSubmit else s
  if s1.fetching then s1.settle (.lattice 0) else s1

/-- ack (R94): reply_ready falls, and a held completion reply is written; during a handover none is (R115). -/
def State.spiAck (s : State) : State :=
  let s1 : State := { s with hq := { s.hq with spiReply := false } }
  if s.hq.handover then s1
  else match s1.hq.ready.find? (fun r => decide (r.src = .spi)) with
  | some r => s1.writeReply r
  | none => s1

/-- A write to HQ_SPI_DOOR (R47): refused to the data function, else `act`. -/
def State.doorWrite (s : State) (m : Master) (act : State → State) : State :=
  if !s.busUp then s.busDead m true (hqBase + 0x40)
  else if hqDenied m 0x40 true then s.busError m true (hqBase + 0x40) .mgmtOnly
  else act s

/-- SPI_GO (R94). -/
def execSpiGo (m : Master) (s : State) : Result := .next (s.doorWrite m State.spiGo)
/-- SPI_ACK (R94). -/
def execSpiAck (m : Master) (s : State) : Result := .next (s.doorWrite m State.spiAck)

/-- The word of the HQ block at offset `o` (R92), live views included. -/
def State.hqRead (s : State) (o : Nat) : Nat :=
  if o = 0x40 then 0
  else if o = 0x44 then bit s.hq.spiReply * 2 + bit s.hq.spiRunning
  else if 0x800 ≤ o ∧ o < 0xBFC then s.getF (hqBase + (o - 0x800)) F.HQ_SPI_CMD_word
  else if 0xC00 ≤ o ∧ o < 0xFFC then s.getF (hqBase + (o - 0xC00)) F.HQ_SPI_RPL_word
  else if 0x100 ≤ o ∧ o < 0x500 then
    let q := (o - 0x100) / 0x40
    let b := setBase q
    if !setExists q then 0
    else match (o - 0x100) % 0x40 with
      | 0x00 => s.getF b F.HQ_CQ_BASE_LO_base * 4096
      | 0x04 => s.getF b F.HQ_CQ_BASE_HI_base
      | 0x08 => s.getF b F.HQ_RQ_BASE_LO_base * 4096
      | 0x0C => s.getF b F.HQ_RQ_BASE_HI_base
      | 0x10 => s.getF b F.HQ_Q_CTL_enable * 2147483648 + s.getF b F.HQ_Q_CTL_log2_slots
      | 0x14 => s.getF b F.HQ_CQ_TAIL_tail
      | 0x18 => s.getF b F.HQ_CQ_HEAD_head
      | 0x1C => s.getF b F.HQ_RQ_TAIL_tail
      | 0x20 => s.getF b F.HQ_RQ_HEAD_head
      | 0x24 => bit (s.replyWait q) * 8 + s.getF b F.HQ_Q_STAT_fetch_error * 4 + s.getF b F.HQ_Q_STAT_bad_index * 2 +
          bit ((s.qset q).state == .running)
      | _ => 0
  else 0

/-- HQ_Q_STAT: a 1 clears a record (R54). -/
def State.qStatClear (s : State) (q v : Nat) : State :=
  let b := setBase q
  let s1 := if v.testBit 2 then s.lower b F.HQ_Q_STAT_fetch_error else s
  if v.testBit 1 then s1.lower b F.HQ_Q_STAT_bad_index else s1

/-- A write to a register of a set at offset `r` of its group (R92). -/
def State.setRegWrite (s : State) (q r v : Nat) : State :=
  let b := setBase q
  match r with
  | 0x00 => s.setF b F.HQ_CQ_BASE_LO_base (v / 4096)
  | 0x04 => s.setF b F.HQ_CQ_BASE_HI_base v
  | 0x08 => s.setF b F.HQ_RQ_BASE_LO_base (v / 4096)
  | 0x0C => s.setF b F.HQ_RQ_BASE_HI_base v
  | 0x10 => if v.testBit 31 then s.enableSet q (v % 16) else s.disableSet q (v % 16)
  | 0x14 => s.ringTail q v
  | 0x20 => s.ringHead q v
  | 0x24 => s.qStatClear q v
  | _ => s

/-- A write to the HQ block (R92–R94). HQ_SPI_DOOR: a 1 in ack acts before a 1 in go. -/
def State.hqWrite (s : State) (m : Master) (o v : Nat) : State :=
  if o = 0x40 then
    let s1 := if v.testBit 1 then s.spiAck else s
    if v.testBit 0 then s1.spiGo else s1
  else if 0x800 ≤ o ∧ o < 0xBFC then s.setF (hqBase + (o - 0x800)) F.HQ_SPI_CMD_word v
  else if 0x100 ≤ o ∧ o < 0x500 then
    s.setWrite m ((o - 0x100) / 0x40) (fun s => s.setRegWrite ((o - 0x100) / 0x40) ((o - 0x100) % 0x40) v)
  else s

/-- The SPI path answers from the end of step 3 of R619 (R95). -/
def State.spiAnswers (s : State) : Bool :=
  match s.pwr.boot with
  | .inReset => false
  | .t0 => false
  | .stopped => false
  | _ => true

/-- Offsets that SPI frames and CMDPATH reach: 0x0040–0x0FFF (R95, R641). -/
def inSpiWindow (o : Nat) : Bool := decide (0x40 ≤ o) && decide (o < 0x1000)

/-- The word of HQ that an SPI frame or CMDPATH reads (R93, R95): 0 outside the window, and of set 5, which accepts accesses of the two
functions only (assumption log 90). -/
def State.pathRead (s : State) (o : Nat) : Nat := if inSpiWindow o && !hqDenied .steward o false then s.hqRead o else 0
/-- A write by an SPI frame or CMDPATH (R93, R95): ignored outside the window, and to sets 5 and 8–15 (assumption log 90). -/
def State.pathWrite (s : State) (o v : Nat) : State :=
  if inSpiWindow o && (match setOfOff o with | some q => setExists q && setWritable .steward q | none => true) then s.hqWrite .steward o v else s
/-- Writes words at advancing offsets (R95). -/
def State.spiWrites : State → Nat → List Word → State
  | s, _, [] => s
  | s, o, w :: ws => State.spiWrites (s.pathWrite o w.toNat) (o + 4) ws

/-- SPI_WRITE_FRAME (R95): the complete words of a frame with opcode 0x02. The offset's two lowest bits are 0. -/
def execSpiWriteFrame (off : BitVec 14) (ws : List Word) (s : State) : Result :=
  .next (if s.spiAnswers then s.spiWrites (4 * off.toNat) ws else s)

/-- The words a read frame drives. -/
def State.spiReads (s : State) (o n : Nat) : List Word :=
  (List.range n).map (fun i => wd (s.pathRead (o + 4 * i)))

/-- SPI_READ_FRAME (R95): `n` words are driven on MISO, least significant byte first. -/
def execSpiReadFrame (off : BitVec 14) (n : Nat) (s : State) : Result :=
  .next (if s.spiAnswers then s.emit (.miso (bytesOfWords (s.spiReads (4 * off.toNat) n))) else s)

/-- The status byte (R95). -/
def State.spiStatus (s : State) : Nat :=
  s.getF hqBase F.HQ_FW_state * 4 + bit s.hq.spiReply * 2 + bit s.hq.spiRunning

/-- SPI_STATUS_FRAME (R95). -/
def execSpiStatusFrame (s : State) : Result :=
  .next (if s.spiAnswers then s.emit (.miso [BitVec.ofNat 8 s.spiStatus]) else s)

/-- SPI_OTHER_FRAME (R95): the rest of the frame is ignored and MISO stays high-impedance. -/
def execSpiOtherFrame (_op : Byte) (s : State) : Result := .next s

/-! ## The lattice queue (R85) -/

/-- The queue holds 64 commands (R83). -/
def State.latFull (s : State) : Bool := decide (64 ≤ (s.hq.latQueue.filter (fun p => decide (p.1 < refusedMark))).length)

/-- A peer's command enters the queue (R85, R104). One that a full queue does not take waits for its answer behind those before it, BUSY or what
stands above it in the table (R108), and is not carried out. Source 19 is live, and recorded, while the queue holds 64. -/
def State.latReceive (s : State) (peer : Nat) (ws : List Word) : State :=
  let c := pktCmd (.lattice peer) ws
  let mark := s.packetMark c.src ws
  let late := if s.latFull then refusedMark else 0
  let s1 : State := { s with hq := { s.hq with latQueue := s.hq.latQueue ++ [(pktOp ws + mark + late, c)] } }
  let s2 := if !s.latFull && s1.latFull then s1.signal 19 else s1
  if s2.fetching then s2.settle c.src else s2

end Sys2Proof.Machine
end

