-- ==== Sys2Proof/Machine/Access.lean ====
section
/-! DEFINITION. Who reaches which block (R47–R53), the acceptance of a register write (R59, R60), and the event controller's
own registers and messages (R72–R77). -/
namespace Sys2Proof.Machine

/-! ## Reaching a block -/

/-- The die of a register address (R41). -/
def dieOf (a : Nat) : Nat := (a - 0x7F00000000) / 0x10000000
/-- The window of a register address (R41). -/
def winOf (a : Nat) : Nat := (a - 0x7F00000000) / 0x10000 % 4096
/-- The offset of a register address in its window (R41). -/
def offOf (a : Nat) : Nat := a % 0x10000

/-- The partner die's own blocks (R43), present on a device with a partner site (R3). -/
def State.partnerBlock (s : State) (d b : Nat) : Bool := d == 7 && decide (0x100 ≤ b) && decide (b < 0x200) && s.ident.site != 0

/-- The window holds a block (R43). -/
def State.placed (s : State) (d b : Nat) : Bool := (blkAt d b).isSome || s.partnerBlock d b

/-- The instance is one that the window holds (R42, R99): an SE block holds channels, flows and ports, SEAL the sectors 0–23, any other
window instance 0. -/
def instOk (k : Option BlkKind) (i : Nat) : Bool :=
  match k with
  | some .se => decide (i < 512) || (decide (0x8000 ≤ i) && decide (i < 0x8008))
  | some .seal => decide (i < 24)
  | _ => i == 0
/-- A target that some block holds (R99, R108). -/
def State.targetOk (s : State) (w : Nat) : Bool :=
  let d := bitsOf w 3 0
  let b := bitsOf w 15 4
  decide (d < 8) && s.placed d b && (d != 7 || s.ident.site != 0) && instOk (blkAt d b) (bitsOf w 31 16)

/-- What the data function reaches (R47): SP, QC, PROT and DMA blocks, the header of HQ for reading, its own queue set 5. -/
def dataReaches (d b off : Nat) (write : Bool) : Bool :=
  match blkAt d b with
  | some .sp => true
  | some .qc => true
  | some .prot => true
  | some .dma => true
  | some .hq => !hqDenied .hostData off write
  | _ => false

/-- Why an access of master `m` at offset `off` of window `b` of die `d` ends with a bus error (R47, R51, R516), if it does. -/
def State.denied (s : State) (m : Master) (d b off : Nat) (write : Bool) : Option BusCause :=
  if !s.placed d b || (d == 7 && s.ident.site == 0) then some .unmapped
  else if m = .hostData ∧ !dataReaches d b off write then some .mgmtOnly
  else if blkAt d b = some .hq ∧ hqDenied m off write then some .mgmtOnly
  else if s.blkOff d b then some .domainOff
  else if write && s.blkStopped d b then some .clockStop
  else none

/-- Writes to the block are posted (R59): every block outside die C. PSYS is the adapter's own view on die C. -/
def isPosted (d b : Nat) : Bool := d != 0 && !(d == 7 && b == 0)

/-- xxx_STAT.busy (R45, R60). -/
def State.blkBusy (s : State) (d b : Nat) : Bool := s.posted.any (fun p => p.base == winBase d b)

/-- A write to a register that has a row of its own, from its arrival to its application (R51, R59): a denied write answers
with the bus error, a write to a busy block is discarded and sets write_dropped, and any other is applied. -/
def State.ownWrite (s : State) (m : Master) (d b off : Nat) (act : State → State) : State :=
  if !s.busUp then s.busDead m true (winBase d b + off)
  else match s.denied m d b off true with
    | some c => s.busError m true (winBase d b + off) c
    | none => if s.blkBusy d b then s.raise (winBase d b) F.HDR_write_dropped else act s

/-- The pending posted writes whose block's base satisfies `hit` are discarded (R63); one lost to a power-off is journalled. -/
def State.discardPosted (s : State) (hit : Nat → Bool) (powerOff : Bool) : State :=
  let gone := s.posted.filter (fun p => hit p.base)
  let s1 : State := { s with posted := s.posted.filter (fun p => !hit p.base) }
  gone.foldl (fun s p =>
    let s2 := s.raise p.base F.HDR_write_dropped
    if powerOff then
      let a := p.base - 0x7F00000000
      s2.journal 0x06 false (targetWord (a / 0x10000000) (a / 0x10000 % 4096) 0) (p.addr % 0x10000) 1 0
    else s2) s1
/-- The windows of die 7 that hold the partner's own blocks. -/
def onPartner (base : Nat) : Bool := decide (winBase 7 1 ≤ base) && decide (base < winBase 8 0)

/-! ## The event controller -/

/-- Only host software, cue-core software and effectful debug writes change the registers of EVC (R81). -/
def State.evcWrite (s : State) (m : Master) (off : Nat) (act : State → State) : State :=
  if m = .steward ∨ m = .debugPlain then s else s.ownWrite m 0 0x004 off act

/-- Sets the records of the sources named by the bits of a word (R72); an unused source has none. -/
def State.evcSet (s : State) (w v : Nat) : State :=
  (List.range 32).foldl (fun s i => if v.testBit i && srcUsed (32 * w + i) then s.signal (32 * w + i) else s) s

/-- EVC_SET (R72): each 1 sets a record as if its source had signalled. -/
def execEvcSet (m : Master) (w : Fin 32) (v : Word) (s : State) : Result :=
  .next (s.evcWrite m (0x400 + 4 * w.val) (fun s => s.evcSet w.val v.toNat))

/-- The mask word takes a value (R72). -/
def State.evcMask (s : State) (w v : Nat) : State := s.setF (evcBase + 4 * w) F.EVC_MASK_mask v

/-- EVC_MASK_WRITE (R72, R77). -/
def execEvcMaskWrite (m : Master) (w : Fin 32) (v : Word) (s : State) : Result :=
  .next (s.evcWrite m (0x300 + 4 * w.val) (fun s => (s.evcMask w.val v.toNat).settleVectors))

/-- The routing word of a source takes a value (R72). -/
def State.evcRoute (s : State) (src v : Nat) : State :=
  let b := evcBase + 4 * src
  (((s.setF b F.EVC_ROUTE_msix_en (bitsOf v 31 31)).setF b F.EVC_ROUTE_vector (bitsOf v 30 24)).setF b F.EVC_ROUTE_cue_en
    (bitsOf v 23 16)).setF b F.EVC_ROUTE_cue_line (bitsOf v 15 12)

/-- EVC_ROUTE_WRITE (R72, R77). -/
def execEvcRouteWrite (m : Master) (src : Fin 1024) (v : Word) (s : State) : Result :=
  .next (s.evcWrite m (0x1000 + 4 * src.val) (fun s => (s.evcRoute src.val v.toNat).settleVectors))

/-- MSIX_MESSAGE (R74, R76): the message of a vector that became pending. -/
def execMsixMessage (v : Fin 128) (s : State) : Result := .next (s.sendVector v.val)

/-- MSIX_UNMASK (R76): the per-vector mask of a vector (`some v`), or the MSI-X enable block of a function (`none`), is
removed; the message goes out only for a vector still pending. The removal re-arms nothing that was already signalled. -/
def State.unmaskVector (s : State) (v : Fin 128) : State :=
  ({ s with evc := { s.evc with vecMask := s.evc.vecMask &&& ~~~(BitVec.twoPow 128 v.val) } }).sendVector v.val

/-- The vectors of a function that are pending and no longer blocked send their messages (R76). -/
def State.sendFunction (s : State) (data : Bool) : State :=
  (List.range 64).foldl (fun s v => s.sendVector (if data then 64 + v else v)) s
/-- The MSI-X enable of a function is set; its vectors still pending send their messages (R76). -/
def State.enableMsix (s : State) (data : Bool) : State :=
  ({ s with evc := if data then { s.evc with enData := true } else { s.evc with enMgmt := true } } : State).sendFunction data
/-- The function mask of a function is set or removed (R76). -/
def State.maskFunction (s : State) (data on : Bool) : State :=
  let s1 : State := { s with evc := if data then { s.evc with fmData := on } else { s.evc with fmMgmt := on } }
  if on then s1 else s1.sendFunction data
/-- An entry of a function's MSI-X table is written (R76). -/
def State.writeMsixEntry (s : State) (data : Bool) (v : Fin 64) (a d : Nat) : State :=
  { s with evc := { s.evc with table := SMap.put (0, 0) s.evc.table (if data then 64 + v.val else v.val) (a, d) } }

/-- The per-vector mask of a vector is set, or the MSI-X enable of a function cleared: its messages are blocked (R76). -/
def State.blockMsix (s : State) (data : Bool) (v : Option (Fin 64)) : State :=
  match v with
  | some j => { s with evc := { s.evc with vecMask := s.evc.vecMask ||| BitVec.twoPow 128 (if data then 64 + j.val else j.val) } }
  | none => { s with evc := if data then { s.evc with enData := false } else { s.evc with enMgmt := false } }

/-- MSIX_UNMASK (R76): the host removes, or sets, a mask or enable block of a function, or writes its table. -/
def execMsixUnmask (data : Bool) (v : MsixSet) (s : State) : Result :=
  .next
    (match v with
     | .unmask j => s.unmaskVector (if data then ⟨64 + j.val, by omega⟩ else ⟨j.val, by omega⟩)
     | .enable => s.enableMsix data
     | .mask j => s.blockMsix data (some j)
     | .disable => s.blockMsix data none
     | .funcUnmask => s.maskFunction data false
     | .funcMask => s.maskFunction data true
     | .entry j a d => s.writeMsixEntry data j a.toNat d.toNat)

end Sys2Proof.Machine
end

