-- ==== Sys2Proof/Machine/Gauges.lean ====
section
/-! DEFINITION. What a protractor measures from the events of other blocks (R464–R466, R470–R475, R479–R482): gauges, timing
samples, error events, PTP offsets and the ST 2110-21 models. A gauge is kept live in `State.ctrs` as the exclusive or of its
value and its reset value, so that clearing counters resets it (R479). -/
namespace Sys2Proof.Machine

/-! ## Numbers -/

/-- A signed number in a 32-bit field. -/
def i32 (i : Int) : Nat := (BitVec.ofInt 32 i).toNat
/-- The signed number in a 32-bit field. -/
def s32 (n : Nat) : Int := (BitVec.ofNat 32 n).toInt
/-- Cuts a signed number to `[-m, m]`. -/
def clampTo (m i : Int) : Int := max (-m) (min m i)

/-! ## Registers of a protractor -/

/-- A protractor's own state. -/
def State.protX (s : State) (n : Nat) : ProtX := SMap.get {} s.prot n
/-- Replaces it. -/
def State.setProtX (s : State) (n : Nat) (x : ProtX) : State := { s with prot := SMap.put {} s.prot n x }
/-- PROT_SET word `w` as applied. -/
def State.protW (s : State) (n w : Nat) : Nat := s.getF (protBase n + 4 * (w - 2)) F.PROT_CFG_word
/-- Bits of it. -/
def State.protF (s : State) (n w hi lo : Nat) : Nat := bitsOf (s.protW n w) hi lo
/-- The protractor is enabled. -/
def State.protOn (s : State) (n : Nat) : Bool := s.protF n 2 31 31 == 1
/-- A PROT_STAT record (R482). -/
def State.protMark (s : State) (n : Nat) (f : Fld) : State := s.mark (protBase n) f (416 + n)
/-- A live gauge register: offset and reset value. -/
def State.gauge (s : State) (n off rst : Nat) : Nat := s.ctr (protBase n + off) ^^^ rst
/-- Sets it. -/
def State.setGauge (s : State) (n off rst v : Nat) : State := { s with ctrs := SMap.put 0 s.ctrs (protBase n + off) (v ^^^ rst) }
/-- Counts on a counter of the protractor. -/
def State.protCount (s : State) (n : Nat) (f : Fld) (k : Nat) : State :=
  s.count (protBase n) f k (protBase n) F.PROT_STAT_cnt_overflow (416 + n)

/-- The most recent sample of measurement `i` breaches or does not (R481). -/
def State.setBreach (s : State) (n i : Nat) (b : Bool) (f : Fld) : State :=
  let v := s.getF (protBase n) F.PROT_LIVE_breach
  let cleared := if v.testBit i then v - 2 ^ i else v
  if b then (s.setF (protBase n) F.PROT_LIVE_breach (cleared + 2 ^ i)).protMark n f
  else s.setF (protBase n) F.PROT_LIVE_breach cleared

/-- The limit of a sum (R479). -/
def sumMax : Int := 140737488355327
/-- A signed 48-bit sum. -/
def s48 (n : Nat) : Int := (BitVec.ofNat 48 n).toInt

/-- A signed sample goes into last, min, max, sum and count at five register offsets (R479). -/
def State.sample (s : State) (n last mn mx sum cnt : Nat) (v : Int) : State :=
  let s1 := s.setGauge n last 0 (i32 v)
  let s2 := if v < s32 (s.gauge n mn 0x7FFFFFFF) then s1.setGauge n mn 0x7FFFFFFF (i32 v) else s1
  let s3 := if s32 (s.gauge n mx 0x80000000) < v then s2.setGauge n mx 0x80000000 (i32 v) else s2
  let t := s48 (s.gauge n sum 0) + v
  let s4 := s3.setGauge n sum 0 ((BitVec.ofInt 48 (clampTo sumMax t)).toNat)
  let s5 := if sumMax ≤ t ∨ t ≤ -sumMax then s4.protMark n F.PROT_STAT_cnt_overflow else s4
  let c := s5.bump (protBase n + cnt) 1
  if s5.ctr (protBase n + cnt) < ctrMax ∧ ctrMax ≤ s5.ctr (protBase n + cnt) + 1 then c.protMark n F.PROT_STAT_cnt_overflow else c

/-! ## Rates and alignment points (R339, R433, R465) -/

/-- Frames per second of a rate code, as a numerator; the denominator is `rateDen`. -/
def rateNum (r : Nat) : Nat := [24000, 24, 25, 30000, 30, 50, 60000, 60].getD r 0
/-- The denominator. -/
def rateDen (r : Nat) : Nat := if r = 0 ∨ r = 3 ∨ r = 6 then 1001 else 1
/-- The rate code whose period lies within 500 ppm of a period, in 2⁻¹⁶ ns (R465). -/
def rateOf (period : Nat) : Option Nat :=
  (List.range 8).find? (fun r =>
    let nom := second * rateDen r
    let got := period * rateNum r
    decide ((monus got nom + monus nom got) * 1000000 ≤ 500 * nom))
/-- The `k`-th point of the grid of `m` points a frame at a rate, in 2⁻¹⁶ ns from the epoch of station time. -/
def gridPoint (r m k : Nat) : Nat := k * second * rateDen r / (rateNum r * m)
/-- The grid point nearest to `t`. -/
def nearestGrid (r m t : Nat) : Nat := gridPoint r m ((2 * t * (rateNum r * m) + second * rateDen r) / (2 * second * rateDen r))
/-- The `k`-th alignment point of a rate, in 2⁻¹⁶ ns from the epoch of station time. -/
def alignPoint (r k : Nat) : Nat := k * second * rateDen r / rateNum r
/-- The alignment point nearest to `t`. -/
def nearestPoint (r t : Nat) : Nat := nearestGrid r 1 t
/-- The first alignment point at or after `t`. -/
def nextPoint (r t : Nat) : Nat :=
  let k := t * rateNum r / (second * rateDen r)
  if t ≤ alignPoint r k then alignPoint r k else alignPoint r (k + 1)
/-- The last alignment point at or before `t`. -/
def lastPoint (r t : Nat) : Nat :=
  let k := t * rateNum r / (second * rateDen r)
  if alignPoint r (k + 1) ≤ t then alignPoint r (k + 1) else alignPoint r k
/-- The frame period in 2⁻¹⁶ ns. -/
def framePeriod (r : Nat) : Nat := second * rateDen r / rateNum r

/-- The grid point nearest to `t` whose 90 kHz count is `ts` modulo 2³² (R450, R464): an alignment point, or with two points a frame that of a second
field. -/
def rtpPoint (r m t ts : Nat) : Option Nat :=
  let tc := t * 90000 / second
  let d : Int := ((BitVec.ofNat 32 ts) - (BitVec.ofNat 32 tc)).toInt
  let c := ((tc : Int) + d).toNat
  let k := (c * (rateNum r * m) + 90000 * rateDen r - 1) / (90000 * rateDen r)
  if k * 90000 * rateDen r / (rateNum r * m) = c then some (gridPoint r m k) else none

/-! ## Timing (R464–R466) -/

/-- The rate code in use: as set, or found from the period since the frame start before (R465). -/
def State.protRate (s : State) (n : Nat) (prev : Option Nat) (t : Nat) : Option Nat :=
  let r := s.protF n 3 31 28
  if r < 8 then some r else match prev with | some p => rateOf (t - p) | none => none

/-- A frame start lies within one frame period after a step of station time (R466). -/
def State.afterStep (s : State) (r t : Nat) : Bool :=
  match s.tim.stepAt with
  | some p => decide (p ≤ t) && decide (t < p + framePeriod r)
  | none => false

/-- The rate code and points a frame of the alignment grid of a flow with `m` pictures a frame (R464, R465): a rate that is found from the period between
frame starts is that of the pictures. -/
def State.protGrid (s : State) (n m : Nat) (prev : Option Nat) (t : Nat) : Option (Nat × Nat) :=
  (s.protRate n prev t).map (fun r => (r, if s.protF n 3 31 28 < 8 then m else 1))

/-- A timing sample of a frame that started at `t` against the point `p` (R464, R466, R481). -/
def State.protTiming (s : State) (n r t p : Nat) : State :=
  if s.afterStep r t then s.protMark n F.PROT_STAT_time_step
  else
    let v := ((t : Int) - (p : Int)) / (nano : Int) - s32 (s.protW n 4)
    let lim := s.protF n 3 27 0
    (s.sample n 0x90 0x94 0x98 0x9C 0xA4 v).setBreach n 0 (lim != 0 && decide (lim < v.natAbs)) F.PROT_STAT_t_breach

/-- PROT_TIMING_SAMPLE for an SDI input: line 1's EAV of a frame reached the ball at `t` (R464, R465). -/
def State.protSdi (s : State) (n t : Nat) : State :=
  if s.protOn n then
    let x := s.protX n
    let s1 := s.setProtX n { x with frameAt := some t }
    match s.protRate n x.frameAt t with
    | some r => s1.protTiming n r t (nearestPoint r t)
    | none => s1
  else s

/-! ## Error events (R470) -/

/-- Error events of the second in progress. -/
def State.protEvents (s : State) (n k : Nat) : State :=
  if s.protOn n && k != 0 then s.setProtX n { s.protX n with events := (s.protX n).events + k } else s

/-- A line CRC failure of the lane's SDI input (PROT_SH_CRC). -/
def State.protCrc (s : State) (n : Nat) : State := if s.protOn n then s.protCount n F.PROT_SH_CRC_LO_lo 1 else s

/-- The lane, channel or flow left service: the second is UAS. -/
def State.protBad (s : State) (n : Nat) : State :=
  if s.protOn n then s.setProtX n { s.protX n with uas := true } else s

/-- The eye and jitter measurement in progress was cut short, or starts anew at the next eye_period (R469, R478). -/
def State.protCut (s : State) (n : Nat) : State :=
  if s.protOn n then s.setProtX n { s.protX n with cut := true, cutJ := true } else s

/-- A lane becomes oversampled: eye and jitter stop, and their enables read back as 0 (R478). -/
def State.protOversample (s : State) (n : Nat) : State :=
  let w := s.protW n 2
  let x := s.protX n
  let s1 := (s.setF (protBase n) F.PROT_CFG_word (w &&& 0x9FFFFFFF)).setProtX n { x with set := x.set.set 0 (x.set.getD 0 0 &&& 0x9FFFFFFF) }
  let v := s.getF (protBase n) F.PROT_LIVE_breach
  s1.setF (protBase n) F.PROT_LIVE_breach (v &&& 0x39)

/-! ## PTP (R471) -/

/-- The protractor is enabled, its group runs and its lane is not retired (R483). -/
def State.protMeasures (s : State) (n : Nat) : Bool := s.protOn n && s.dom (groupDom (n / 8)) == 1 && s.getF (laneBase n) F.LANE_STAT_state != 8
/-- A Sync of the selected grandmaster on the port and domain: `off` is offset as R471 defines it, `delay` the mean path delay
once an exchange was answered. -/
def State.protPtp (s : State) (n domain gm : Nat) (off delay : Int) : State :=
  if s.protMeasures n && s.protF n 2 28 28 == 1 && s.protF n 2 23 16 == domain then
    let v := clampTo 2147483647 off
    let lim := s.protW n 8
    let s1 := (s.sample n 0x100 0x104 0x108 0x10C 0x114 v).setBreach n 3 (lim != 0 && decide (lim < v.natAbs)) F.PROT_STAT_ptp_breach
    ((s1.setGauge n 0x11C 0 (i32 delay)).setGauge n 0x120 0 (gm % 4294967296)).setGauge n 0x124 0 (gm / 4294967296 % 4294967296)
  else s

/-! ## ST 2110-21 (R472–R475, R480) -/

/-- Active over total lines of a height (R433, R472); none for other heights. -/
def activeRatio (h : Nat) : Option (Nat × Nat) :=
  if h = 486 then some (487, 525) else if h = 576 then some (576, 625) else if h = 720 then some (720, 750)
  else if h = 1080 then some (1080, 1125) else if h = 2160 then some (2160, 2250) else none

/-- TRS in ps for `np` packets of a flow whose record word 12 is `w12` under a model (R472); 0 while there is no NPACKETS. -/
def trsOf (model w12 np : Nat) : Nat :=
  if np = 0 then 0
  else
    let r := bitsOf w12 3 0
    let a := if model = 1 then (1, 1) else (activeRatio (bitsOf w12 19 8)).getD (1, 1)
    1000000000000 * rateDen r * a.1 / (rateNum r * (if bitsOf w12 4 4 = 1 then 2 else 1) * a.2 * np)

/-- TRS in force, in whole picoseconds (R472). PROT_C21_TRS shows its low 32 bits. -/
def State.c21Trs (s : State) (n w12 : Nat) : Nat := trsOf (s.protF n 2 26 25) w12 (s.getF (protBase n) F.PROT_C21_INFO_npackets)

/-- Puts NPACKETS and what follows from it into the registers (R472). -/
def State.setNpackets (s : State) (n np w12 : Nat) : State :=
  let b := protBase n
  let model := s.protF n 2 26 25
  let trs := trsOf model w12 np
  let cm := s.protF n 9 31 16
  let vf := s.protF n 9 15 0
  (((s.setF b F.PROT_C21_TRS_trs_ps trs).setF b F.PROT_C21_INFO_npackets np).setF b F.PROT_C21_INFO_cmax_used
    (if cm = 0 then Config.c21Cmax model np trs else cm)).setF b F.PROT_C21_VLIM_vrx_used (if vf = 0 then Config.c21Vrx model np trs else vf)

/-- A frame of the selected flow closes (R475); `lost` where it was closed by loss. One that was not measured from its first packet leaves nothing. -/
def State.c21Close (s : State) (n w12 : Nat) (lost : Bool) : State :=
  let c := (s.protX n).c21
  let b := protBase n
  if !c.live then s
  else
    let whole := !c.gap && !lost
    let s1 :=
      if whole && c.judge && s.c21Trs n w12 != 0 then
        let cbad := decide (s.getF b F.PROT_C21_INFO_cmax_used < c.peak)
        let vbad := c.under || decide (s.getF b F.PROT_C21_VLIM_vrx_used < c.vpeak)
        let s2 := s.protCount n F.PROT_SH_C21_FRAMES_LO_lo 1
        let s3 := if cbad then s2.protCount n F.PROT_SH_C21_CBAD_LO_lo 1 else s2
        let s4 := if vbad then s3.protCount n F.PROT_SH_C21_VBAD_LO_lo 1 else s3
        (s4.setGauge n 0x140 0 (s.gauge n 0x140 0 / 65536 * 65536 + min 65535 c.peak)).setGauge n 0x144 0
          (s.gauge n 0x144 0 / 65536 * 65536 + min 65535 c.vpeak)
      else s
    s1.setNpackets n (if whole then min 65535 c.count else 0) w12

/-- Reads or drains due up to `t` from `next` in steps of `trs`. -/
def dueBy (t next trs : Nat) : Nat := if next ≤ t ∧ 0 < trs then (t - next) / trs + 1 else 0

/-- A frame of the selected flow starts at `t` ps, with packets lost before it or not; `point` is its alignment instant and `tro` troffset, both in ps. Packets lost where two frames meet are a
gap of both (R475; DEDUCED, assumption log 111). -/
def C21.start (c : C21) (gap : Bool) (t point tro trs : Nat) : C21 :=
  { live := true, count := 0, judge := c.live, gap := gap, level := 0, drain := t + trs, peak := 0,
    vlevel := 0, vread := point + tro, vpeak := 0, under := false }

/-- A read up to `t` ps finds the buffer empty (R474). -/
def C21.runsDry (c : C21) (t trs : Nat) : Bool := decide (c.vlevel < dueBy t c.vread trs)
/-- A packet arrives at `t` ps, with packets lost before it or not (R473, R474). -/
def C21.packet (c : C21) (gap : Bool) (t trs : Nat) : C21 :=
  let d := dueBy t c.drain trs
  let r := dueBy t c.vread trs
  let level := monus c.level d + 1
  let vlevel := monus c.vlevel r + 1
  { c with
    count := c.count + 1, gap := c.gap || gap
    level := level, drain := c.drain + d * trs, peak := max c.peak level
    vlevel := vlevel, vread := c.vread + r * trs, vpeak := max c.vpeak vlevel, under := c.under || c.runsDry t trs }

/-- A packet's effect on the records and the running maxima (R475, R480, R481): `dry` tells whether a read before it underflowed. -/
def State.c21Judge (s : State) (n : Nat) (old c : C21) (dry : Bool) : State :=
  let b := protBase n
  let cmax := s.getF b F.PROT_C21_INFO_cmax_used
  let vmax := s.getF b F.PROT_C21_VLIM_vrx_used
  let cb := decide (cmax < c.level)
  let vb := decide (vmax < c.vlevel) || dry
  let s1 := (s.setGauge n 0x140 0 (max (s.gauge n 0x140 0 / 65536) (min 65535 c.level) * 65536 + s.gauge n 0x140 0 % 65536)).setGauge n
    0x144 0 (max (s.gauge n 0x144 0 / 65536) (min 65535 c.vlevel) * 65536 + s.gauge n 0x144 0 % 65536)
  let live (s : State) (i : Nat) (x : Bool) : State :=
    let v := s.getF b F.PROT_LIVE_breach
    let z := if v.testBit i then v - 2 ^ i else v
    if x then (s.setF b F.PROT_LIVE_breach (z + 2 ^ i)).signal (416 + n) else s.setF b F.PROT_LIVE_breach z
  let s2 := live (live s1 4 cb) 5 vb
  let s3 := if cb && decide (old.peak ≤ cmax) then s2.protMark n F.PROT_STAT_cinst_breach else s2
  if (vb && decide (old.vpeak ≤ vmax) && !old.under) then s3.protMark n F.PROT_STAT_vrx_breach else s3

/-- PROT_CINST_UPDATE and PROT_TIMING_SAMPLE for a packet of the selected flow of the port whose first lane is n: flow record
words 2 and 12, timestamp and following sequence number of the packet before it, extended sequence number, RTP timestamp, arrival in station time (R464,
R472–R475). A packet opens a frame where its timestamp differs from the one before; the first packet of a flow may lie inside a frame, so the measurements wait for the
next frame start (R478). A frame whose timestamp is that of no alignment instant
is measured from the nearest one (DESIGN CHOICE, assumption log 111). -/
def State.protPacket (s : State) (n w2 w12 : Nat) (seen : Option (Nat × Nat)) (seq ts t : Nat) : State :=
  if !s.protOn n then s
  else
    let r := bitsOf w12 3 0 % 8
    let m := if bitsOf w12 4 4 = 1 then 2 else 1
    let c0 := (s.protX n).c21
    let opens := seen.any (fun p => p.1 != ts)
    let gap := seen.any (fun p => seq % 4294967296 != p.2 % 4294967296)
    let point := rtpPoint r m t ts
    let sT :=
      if opens then
        let s1 := s.setProtX n { s.protX n with frameAt := some t }
        match s.protGrid n m (s.protX n).frameAt t with
        | some g => (match rtpPoint g.1 g.2 t ts with | some p => s1.protTiming n g.1 t p | none => s1)
        | none => s1
      else s
    if s.protF n 2 27 27 = 0 then sT.setProtX n { sT.protX n with c21 := {} }
    else
      let tps := t * 1000 / nano
      let sG := sT.setProtX n { sT.protX n with c21 := { c0 with gap := c0.gap || gap } }
      let sC := if opens then sG.c21Close n w12 false else sT
      let trs := sC.c21Trs n w12
      let tro := (if s.protW n 11 = 0 then Config.troDefault w2 w12 else s.protW n 11) * 1000
      let c := if opens then c0.start gap tps ((point.getD (nearestGrid r m t)) * 1000 / nano) tro trs else c0
      let c' := if c.live then c.packet gap tps trs else c
      let s2 := sC.setProtX n { sC.protX n with c21 := c' }
      if c.live && trs != 0 then s2.c21Judge n c c' (c.runsDry tps trs) else s2

/-- The selected flow is lost or ends: its frame is not judged (R475). -/
def State.protFlowLost (s : State) (n w12 : Nat) : State :=
  if s.protOn n then
    let s1 := if s.protF n 2 27 27 = 1 then s.c21Close n w12 true else s
    s1.setProtX n { s1.protX n with c21 := {}, frameAt := none }
  else s

end Sys2Proof.Machine
end

