-- ==== Sys2Proof/Machine/Time.lean ====
section
/-! DEFINITION. Station time and the time master (R335–R347, R369, R370): beacons, time sources, REF_SELECT, TIME_SET, PTP
messages and the 1PPS input. -/
namespace Sys2Proof.Machine

/-! ## Shared operations -/

/-- States of the time master (R345). -/
def tmFree : Nat := 0
def tmAcquiring : Nat := 1
def tmLocked : Nat := 2
def tmHoldover : Nat := 3

/-- The time master's state. -/
def State.tmState (s : State) : Nat := s.getF timeBase F.TIME_STAT_state
/-- The active entry (R341), which means something in ACQUIRING and LOCKED. -/
def State.tmActive (s : State) : Nat := s.getF timeBase F.TIME_STAT_active
/-- There is an active entry. -/
def State.tmDriven (s : State) : Bool := s.tmState == tmAcquiring || s.tmState == tmLocked
/-- Goes to a state; source 32 is live in every state but LOCKED (R369). -/
def State.toTm (s : State) (v : Nat) : State :=
  let s1 := s.setF timeBase F.TIME_STAT_state v
  if v = tmLocked then
    (if s.tmState = tmLocked then s1 else { s1 with tim := { s1.tim with lockedAt := s.now } })
  else s1.signal 32
/-- Entry e's registers. -/
def refBase (e : Nat) : Nat := timeBase + 4 * e
/-- The first word of entry e of the REF_SELECT in force. -/
def State.refWord (s : State) (e : Nat) : Nat := s.tim.refs.getD (1 + 2 * e) 0
/-- The offset of entry e in ns. -/
def State.refOffset (s : State) (e : Nat) : Int := s32 (s.tim.refs.getD (2 + 2 * e) 0)
/-- The kind of entry e. -/
def State.refKind (s : State) (e : Nat) : Nat := s.getF (refBase e) F.TIME_REF_kind
/-- Entry e is qualified. -/
def State.refQualified (s : State) (e : Nat) : Bool := s.flag (refBase e) F.TIME_REF_qualified
/-- revertive of the REF_SELECT in force. -/
def State.revertive (s : State) : Bool := (s.tim.refs.getD 0 0).testBit 0
/-- allow_step of the REF_SELECT in force. -/
def State.allowStep (s : State) : Bool := (s.tim.refs.getD 0 0).testBit 1
/-- The largest correction in ppm (REF_SELECT word 2). -/
def State.maxAdj (s : State) : Nat := let m := bitsOf (s.tim.refs.getD 0 0) 31 24; if m = 0 then 20 else m
/-- The qualified entry of highest priority. -/
def State.bestRef (s : State) : Option Nat := (List.range 4).find? (fun e => s.refQualified e)

/-- The remainder of `a` by `m` that lies nearest to 0. -/
def nearRem (a : Int) (m : Nat) : Int := let r := a % m; if r * 2 ≤ m then r else r - m
/-- Station time steps by `d`: the edges of a running loop, which the step does not move, stand by that much behind the instants of R354. -/
def State.loopStep (s : State) (d : Int) (n : Nat) : State :=
  let x : LoopX := SMap.get {} s.clk.loops n
  let num := s.getF (loopBase n) F.LOOP_NUM_HI_num * 4294967296 + s.getF (loopBase n) F.LOOP_NUM_LO_num
  let y : LoopX := if x.running then { x with phase := nearRem (x.phase + d * num) (s.getF (loopBase n) F.LOOP_NUM_HI_den * second) } else x
  { s with clk := { s.clk with loops := SMap.put {} s.clk.loops n y } }
/-- When the pulse of R364 began that runs now, if one does: the nanoseconds of station time passed to 0 within the last millisecond, by its running or
by a step to that instant. -/
def State.pulseFrom (s : State) : Option Nat :=
  let from_ := s.now - s.sta % second / nano
  if s.sta % second < 1000000 * nano ∧ s.tim.stepAt.getD 0 ≤ s.sta / second * second then some from_
  else s.tim.pulse.filter (fun t => decide (s.now < t + 1000000))
/-- A step of station time to `t` (R343, R346, R354, R369): source 33, TIME_STAT.stepped and a journal entry with the size in ns. The copy of a
degraded die, which gets no beacon, is not stepped (R337). -/
def State.stepTime (s : State) (t : Nat) : State :=
  let size : Int := ((t : Int) - (s.sta : Int)) / (nano : Int)
  let s0 : State := (List.range 8).foldl (fun s' n => s'.loopStep ((t : Int) - (s.sta : Int)) n) s
  let s1 : State := { s0 with sta := t, tim := { s0.tim with
    pulse := s.pulseFrom, secAt := (t / second + 1) * second, stepAt := some t, seen := none, copies := s0.tim.copies.map (fun p => (p.1, (p.2.1 - ((t : Int) - (s.sta : Int)), p.2.2))) } }
  (s1.mark timeBase F.TIME_STAT_stepped 33).journal 0x28 false (targetWord 0 0x020 0) 3 (i32 size) 0

/-- The first `ns` nanoseconds of a list of stretches. -/
def lastNs : Nat → List (Nat × Int) → List (Nat × Int)
  | _, [] => []
  | ns, (d, f) :: l => if ns ≤ d then [(ns, f)] else (d, f) :: lastNs (ns - d) l
/-- A stretch of time under the correction `f` ends now: while an entry drives station time, its last 60 s are remembered (R344). -/
def State.keepPast (s : State) (f : Int) : State :=
  { s with tim := { s.tim with
      past := if s.tmDriven then lastNs 60000000000 ((s.now - s.tim.since, f) :: s.tim.past) else s.tim.past, since := s.now } }
/-- The mean correction of the stretches remembered (R344); with no time remembered, the correction `f`. -/
def meanOf (l : List (Nat × Int)) (f : Int) : Int :=
  let d : Nat := (l.map (·.1)).sum
  if d = 0 then f else (l.map (fun p => (p.1 : Int) * p.2)).sum / (d : Int)
/-- The corrections that held within the last second, should the present one change now (R343). -/
def State.freqsThen (s : State) : List (Nat × Int) := (s.now, s.timeFreq) :: s.tim.freqs.filter (fun p => decide (s.now < p.1 + 1000000000))
/-- HOLDOVER begins: station time runs at the mean correction of the last 60 s under an active entry (R344). -/
def State.holdFreq (s : State) : State :=
  let cur := s32 (s.getF timeBase F.TIME_FREQ_freq)
  let s1 := s.keepPast cur
  let f := meanOf s1.tim.past cur
  let s2 := s1.setF timeBase F.TIME_FREQ_freq (i32 f)
  { s2 with tim := { s2.tim with base := f, freqs := s.freqsThen, back := none, seen := none } }

/-- The correction to the system timebase now (0.0001 ppm). -/
def State.freqNow (s : State) : Int := s32 (s.getF timeBase F.TIME_FREQ_freq)
/-- The correction becomes `v`. -/
def State.setFreq (s : State) (v : Int) : State :=
  let s1 := (s.keepPast s.freqNow).setF timeBase F.TIME_FREQ_freq (i32 v)
  { s1 with tim := { s1.tim with freqs := if v = s.freqNow then s.tim.freqs else s.freqsThen } }
/-- The most that the correction may be now (R343): once LOCKED was reached, 1 ppm above the least that it was within the last second. -/
def State.freqHi (s : State) : Int :=
  if s.tim.locked then (s.freqsThen.map (·.2)).foldl min s.freqNow + 10000 else s.freqNow + 2 * (s.maxAdj * 10000 : Nat)
/-- The least that it may be: 1 ppm below the most that it was. -/
def State.freqLo (s : State) : Int :=
  if s.tim.locked then (s.freqsThen.map (·.2)).foldl max s.freqNow - 10000 else s.freqNow - 2 * (s.maxAdj * 10000 : Nat)
/-- The new correction of a servo that is `off` away from its aim, `rate` being the correction at which it would stay there (R343, R346): within
±max_adj and the limit on its change, and as far as these go on the side of `rate` that brings it nearer. Its value there is the servo's, which
the spec leaves to steward firmware (R340; assumption log 2). -/
def State.newFreq (s : State) (off rate : Int) : State :=
  let f := s.freeVal
  let m : Int := s.maxAdj * 10000
  let lo := max (-m) (min m s.freqLo)
  let hi := max (-m) (min m s.freqHi)
  let lo1 := if 0 < off then max lo (min hi rate) else lo
  let hi1 := if off < 0 then min hi (max lo rate) else hi
  f.2.setFreq (lo1 + (f.1 % ((hi1 - lo1).toNat + 1) : Nat))

/-- The correction at which station time would keep pace with the active entry, as its last measurement and one of `off` ns now give it. -/
def State.entryRate (s : State) (off : Int) : Int :=
  match s.tim.seen with
  | some (o, t) => if t < s.now then s.freqNow + (off - o) * 10000000000 / (s.now - t : Nat) else s.freqNow
  | none => s.freqNow

/-- A slew is abandoned (R346): without an active entry the correction returns to the one before it. -/
def State.endSlew (s : State) : State :=
  { s with tim := { s.tim with slew := 0, back := if s.tim.slew ≠ 0 ∧ s.tmDriven = false then some s.tim.base else s.tim.back } }

/-- A measurement of the active entry against station time (R343): TIME_OFFSET takes it, and in ACQUIRING the one step is made
where it is allowed and the offset exceeds 1 µs; otherwise the servo corrects the frequency. -/
def State.measured (s : State) (off : Int) : State :=
  let s1 := s.setF timeBase F.TIME_OFFSET_offset (i32 (clampTo 2147483647 off))
  if s.tim.stepOk && s.tmState == tmAcquiring && decide (1000 < off.natAbs) then
    let t : Int := (s1.sta : Int) + off * (nano : Int)
    let s2 := s1.stepTime t.toNat
    { s2 with tim := { s2.tim with stepOk := false } }
  else
    let s2 := s1.newFreq off (s1.entryRate off)
    { s2 with tim := { s2.tim with seen := some (off, s.now) } }

/-! ## Beacons -/

/-- TIME_BEACON (R337): the dies of `reached` get this microsecond's beacon, their copies agree with it, and they are degraded no longer. -/
def execTimeBeacon (reached : BitVec 8) (s : State) : Result :=
  .next
    ((List.range 8).foldl (fun s d =>
      if reached.getLsbD d then
        ({ s with tim := { s.tim with beacons := SMap.put 0 s.tim.beacons d s.now, copies := SMap.put (0, 0) s.tim.copies d (0, 0) } }).setF
          timeBase F.TIME_DEGRADED_dies (s.getF timeBase F.TIME_DEGRADED_dies &&& (255 - 2 ^ d))
      else s) s)

/-- A die's copy of station time runs on its local time clock from now on (R337), at a correction that the spec does not give (assumption log 10). -/
def State.copyAlone (s : State) (d : Nat) : State :=
  let f := s.freeVal
  let s1 := f.2
  { s1 with tim := { s1.tim with copies := SMap.put (0, 0) s1.tim.copies d (s1.copyAhead d, ((f.1 % 4000001 : Nat) : Int) - 2000000) } }
/-- TIME_BEACON_LOSS (R337): die `d` has had no beacon for 1 ms, which time reaches first (assumption log 6). -/
def execTimeBeaconLoss (d : Fin 8) (s : State) : Result :=
  .next
    (if (s.getF timeBase F.TIME_DEGRADED_dies).testBit d.val then s
     else
       let s0 := s.reachNow (SMap.get 0 s.tim.beacons d.val + 1000000)
       let s1 := (s0.copyAlone d.val).setF timeBase F.TIME_DEGRADED_dies (s.getF timeBase F.TIME_DEGRADED_dies ||| 2 ^ d.val)
       (s1.mark timeBase F.TIME_STAT_copy_degraded 35).journal 0x28 false (targetWord 0 0x020 0) 2 d.val 0)

/-! ## Time sources -/

/-- The word 3 + 2e of REF_SELECT is in range (R339, R340). -/
def refWordOk (w : Nat) (off : Int) : Bool :=
  let kind := bitsOf w 31 28
  decide (kind ≤ 3) && bitsOf w 26 16 == 0 && (kind != 1 || decide (bitsOf w 15 8 < 128)) &&
  ((kind != 1 && kind != 3) || decide (bitsOf w 7 0 < 144)) && decide (off.natAbs ≤ 1000000)

/-- The parameters of REF_SELECT. -/
def Cmd.refSelectOk (c : Cmd) : Bool :=
  decide (c.f 2 31 24 ≤ 200) && c.f 2 15 2 == 0 &&
  (List.range 4).all (fun e => refWordOk (c.w (3 + 2 * e)) (s32 (c.w (4 + 2 * e))))

/-- A PTP port in a domain. -/
def State.ptpOf (s : State) (lane domain : Nat) : Ptp := SMap.get {} s.tim.ptp (256 * lane + domain)
/-- Replaces it. -/
def State.setPtp (s : State) (lane domain : Nat) (p : Ptp) : State :=
  { s with tim := { s.tim with ptp := SMap.put {} s.tim.ptp (256 * lane + domain) p } }
/-- An entry of kind 1 listens to its port anew: the Announce and the Sync that make it present are still to come (R339, R342). -/
def State.ptpAnew (s : State) (w : Nat) : State :=
  if bitsOf w 31 28 = 1 then
    s.setPtp (bitsOf w 7 0) (bitsOf w 15 8) { s.ptpOf (bitsOf w 7 0) (bitsOf w 15 8) with annc := false, sync := false }
  else s
/-- An entry takes its REF_SELECT word and starts to qualify again (R342). -/
def State.setRef (s0 : State) (e w : Nat) : State :=
  let b := refBase e
  let s := s0.ptpAnew w
  ((((s.setF b F.TIME_REF_kind (bitsOf w 31 28)).setF b F.TIME_REF_domain (bitsOf w 15 8)).setF b F.TIME_REF_lane
    (bitsOf w 7 0)).lower b F.TIME_REF_qualified).lower b F.TIME_REF_present

/-- REF_SELECT's effect (R342): every entry is replaced, and the master is FREE if it was FREE and else in HOLDOVER. -/
def State.refSelect (s : State) (ws : List Nat) : State :=
  let s1 : State := { s with tim := { s.tim with refs := ws, selected := true, stepOk := false } }
  let s2 := (List.range 4).foldl (fun s e => s.setRef e (ws.getD (1 + 2 * e) 0)) s1
  if s.tmState = tmFree then s2 else (if s.tmDriven then s2.holdFreq else s2).toTm tmHoldover

/-- The target of the time commands. -/
def Cmd.aimsTime (c : Cmd) : Bool := c.aims 0 0x020 0

/-- REF_SELECT (R340–R342). -/
def execRefSelect (c : Cmd) (s : State) : Result :=
  .next (s.immediate 0x0301 c { len := c.len == 11, tgt := c.aimsTime, par := c.refSelectOk, free := !s.heldByOther c }
    (fun s => (s.refSelect ((List.range 9).map (fun i => c.w (2 + i))), [])))

/-- REF_SELECT_QUERY (R340): words 2–10 of the entries in force. -/
def execRefSelectQuery (c : Cmd) (s : State) : Result :=
  .next (s.immediate 0x0381 c { len := c.len == 2, tgt := c.aimsTime } (fun s => (s, s.tim.refs.map wd)))

/-- The master enters ACQUIRING on entry `e`; `step` says whether R343 allows a step from here. -/
def State.acquire (s : State) (e : Nat) (step : Bool) : State :=
  let s1 := ((s.keepPast (s32 (s.getF timeBase F.TIME_FREQ_freq))).setF timeBase F.TIME_STAT_active e).toTm tmAcquiring
  { s1 with tim := { s1.tim with stepOk := step && s.allowStep, selected := false, back := none, seen := none } }

/-- An entry of R339 qualifies (R341, R345). -/
def State.refQualify (s : State) (e : Nat) : State :=
  let s1 := (s.raise (refBase e) F.TIME_REF_present).raise (refBase e) F.TIME_REF_qualified
  if s.tmState = tmFree then s1.acquire e true
  else if s.tmState = tmHoldover then s1.acquire e s.tim.selected
  else if s.revertive && decide (e < s.tmActive) then s1.acquire e false
  else s1

/-- REF_ENTRY_QUALIFY (R341, R343): entry `e` has been present for qual_s seconds; `off` is its offset in ns from station
time, which counts where the entry becomes the active one. -/
def execRefEntryQualify (e : Fin 4) (off : Int) (s : State) : Result :=
  .next
    (if s.refKind e.val = 0 || s.refQualified e.val then s
     else
       let s1 := s.refQualify e.val
       if s1.tmDriven && s1.tmActive == e.val then s1.measured off else s1)

/-- The selected grandmaster of a kind 1 entry is heard no longer (R339): the best master clock algorithm selects anew. -/
def State.ptpLost (s : State) (e : Nat) : State :=
  if s.refKind e = 1 then
    let lane := s.getF (refBase e) F.TIME_REF_lane
    let domain := s.getF (refBase e) F.TIME_REF_domain
    s.setPtp lane domain { s.ptpOf lane domain with gm := none, annc := false, sync := false }
  else s
/-- An entry stops being present (R341, R344, R345). -/
def State.refDisqualify (s : State) (e : Nat) : State :=
  let s1 := ((s.ptpLost e).lower (refBase e) F.TIME_REF_qualified).lower (refBase e) F.TIME_REF_present
  if s.tmDriven && s.tmActive == e then
    let s2 := s1.mark timeBase F.TIME_STAT_source_lost 34
    match s2.bestRef with
    | some e' => s2.acquire e' false
    | none => s2.holdFreq.toTm tmHoldover
  else s1

/-- REF_ENTRY_DISQUALIFY (R341, R345). -/
def execRefEntryDisqualify (e : Fin 4) (s : State) : Result :=
  .next (if s.refKind e.val = 0 then s else s.refDisqualify e.val)

/-- TIME_LOCK (R345): the offset has been within ±100 ns for 4 consecutive seconds. -/
def execTimeLock (s : State) : Result :=
  .next
    (if s.tmState = tmAcquiring then
       let s1 := s.toTm tmLocked
       { s1 with tim := { s1.tim with locked := true, stepOk := false } }
     else s)

/-- Some entry of kind 1 names the port and the domain (R339). -/
def State.ptpEntry (s : State) (lane domain : Nat) : Bool :=
  (List.range 4).any (fun e => s.refKind e == 1 && s.getF (refBase e) F.TIME_REF_lane == lane &&
    s.getF (refBase e) F.TIME_REF_domain == domain)

/-- The active entry is of kind 1 on this port and domain. -/
def State.ptpActive (s : State) (lane domain : Nat) : Bool :=
  s.tmDriven && s.refKind s.tmActive == 1 && s.getF (refBase s.tmActive) F.TIME_REF_lane == lane &&
  s.getF (refBase s.tmActive) F.TIME_REF_domain == domain

/-- The protractor of the port's first lane measures the domain (R471). -/
def State.ptpProt (s : State) (lane domain : Nat) : Bool :=
  s.protOn lane && s.protF lane 2 28 28 == 1 && s.protF lane 2 23 16 == domain

/-- Station time in ns as the die of a lane has it (R454). -/
def State.staNs (s : State) (lane : Nat) : Int := (s.staAt (5 + lane / 72) / nano : Nat)

/-- The answer to the last Delay_Req, with the time t4 at which the master received it, gives the mean path delay (R340); t3 is the station time at
which it left (R454). -/
def State.ptpDelay (s : State) (lane domain : Nat) (t4 : Int) : State :=
  let p := s.ptpOf lane domain
  match p.t3 with
  | some t3 => s.setPtp lane domain { p with delay := ((p.t2 - p.t1) + (t4 - t3)) / 2, t3 := none, answered := true }
  | none => s

/-- The selected grandmaster has been silent for more than 3 announce intervals (R339, R471): it is dropped. -/
def State.ptpSilent (s : State) (lane domain : Nat) : State :=
  let p := s.ptpOf lane domain
  if p.gm.isSome && decide (p.anncAt < s.now) && decide (p.anncAt + 3 * Config.announceNs lane domain < s.now) then
    s.setPtp lane domain { p with gm := none, annc := false, sync := false }
  else s
/-- A message on a port (R339, R340, R471): Announce goes to the best master clock algorithm, a Sync of the selected grandmaster gives the offset
from it to the servo and to the protractor, and a Delay_Resp the mean path delay. A selected grandmaster that has not announced itself within 3 announce
intervals is heard no longer, and another may be selected. -/
def State.ptpMessage (s0 : State) (lane domain : Nat) (m : PtpMsg) : State :=
  let s := s0.ptpSilent lane domain
  let p := s.ptpOf lane domain
  match m with
  | .announce gm =>
    match p.gm with
    | some g =>
      if g = gm then s.setPtp lane domain { p with annc := true, anncAt := s.now }
      else if Config.bmcaBetter gm g then s.setPtp lane domain { p with gm := some gm, annc := true, sync := false, anncAt := s.now }
      else s
    | none => s.setPtp lane domain { p with gm := some gm, annc := true, sync := false, anncAt := s.now }
  | .sync gm t1 =>
    if p.gm = some gm then
      let off := t1 + p.delay - s.staNs lane
      let s1 := s.setPtp lane domain { p with t1 := t1, t2 := s.staNs lane, offset := off, sync := true }
      let s2 := if p.answered then s1.protPtp lane domain gm (-off) p.delay else s1
      if s.ptpActive lane domain then s2.measured (off + s.refOffset s.tmActive) else s2
    else s
  | .delayResp t4 => s.ptpDelay lane domain t4
  | .other => s
/-- The message is one that makes a source present (R339): an Announce or a Sync of the selected grandmaster. -/
def State.ptpFrom (s : State) (lane domain : Nat) : PtpMsg → Bool
  | .announce gm => (s.ptpOf lane domain).gm == some gm
  | .sync gm _ => (s.ptpOf lane domain).gm == some gm
  | _ => false
/-- Announce and Sync have arrived from the selected grandmaster of the port and domain (R339). -/
def State.ptpHeard (s : State) (lane domain : Nat) : Bool := (s.ptpOf lane domain).annc && (s.ptpOf lane domain).sync
/-- The lane is the first one of an Ethernet port that runs (R454): its group is ON and it is not retired (R458, R483). -/
def State.ptpPort (s : State) (lane : Nat) : Bool :=
  !(SMap.get {} s.se.ch lane).port.isEmpty && s.dom (groupDom (lane / 8)) == 1 && s.getF (laneBase lane) F.LANE_STAT_state != 8

/-- PTP_MESSAGE_RECEIVE (R339, R340, R454, R471): a message in `domain` on the Ethernet port whose first lane is `lane`. -/
def execPtpMessageReceive (lane : Fin 144) (domain : Fin 128) (m : PtpMsg) (s : State) : Result :=
  .next
    (if s.ptpPort lane.val && (s.ptpEntry lane.val domain.val || s.ptpProt lane.val domain.val) then
       let s1 := s.ptpMessage lane.val domain.val m
       if s1.ptpHeard lane.val domain.val && s1.ptpFrom lane.val domain.val m then
         (List.range 4).foldl (fun s e =>
           if s.refKind e == 1 && s.getF (refBase e) F.TIME_REF_lane == lane.val && s.getF (refBase e) F.TIME_REF_domain == domain.val
           then s.raise (refBase e) F.TIME_REF_present else s) s1
       else s1
     else s)

/-- The active entry has hybrid = 1 (R340). -/
def State.ptpHybrid (s : State) : Bool := (s.refWord s.tmActive).testBit 27
/-- PTP_DELAY_REQ_EXCHANGE (R340, R454, R471): the steward sends a Delay_Req on the port of the active entry, by unicast (kind 6 of `Out.control`) where
the entry is hybrid and else by multicast (kind 5), or by multicast on another port that a protractor measures; `answer` holds the time t4 where the
exchange is answered at once. R471 gives the addressing of no port but the active one (assumption log 10). -/
def execPtpDelayReqExchange (lane : Fin 144) (domain : Fin 128) (answer : Option Int) (s : State) : Result :=
  .next
    (if s.ptpPort lane.val && (s.ptpActive lane.val domain.val || s.ptpProt lane.val domain.val) then
       let s1 := s.emit (.control lane.val (if s.ptpActive lane.val domain.val && s.ptpHybrid then 6 else 5) domain.val)
       let s2 := s1.setPtp lane.val domain.val { s1.ptpOf lane.val domain.val with t3 := some (s1.staNs lane.val) }
       match answer with
       | some t4 => s2.ptpDelay lane.val domain.val t4
       | none => s2
     else s)

/-- The distance in ns from station time to the nearest whole second. -/
def State.toSecond (s : State) : Int :=
  let ns : Nat := s.sta % second / nano
  if ns < 500000000 then -(ns : Int) else 1000000000 - (ns : Int)

/-- PPS_EDGE (R339, R341): a rising edge marks a whole second plus the entry's offset; `tenMHz` says that the 10 MHz input has had no
gap of 4 periods. An edge more than 1.5 s after the one before, or without the 10 MHz input, disqualifies the entries of kind 2. -/
def execPpsEdge (tenMHz : Bool) (s : State) : Result :=
  .next
    (let here := tenMHz && (match s.tim.ppsAt with | some t => decide (s.now ≤ t + 1500000000) | none => false)
     let s1 : State := { s with tim := { s.tim with in10 := tenMHz, ppsAt := some s.now } }
     let s2 := (List.range 4).foldl (fun s e =>
       if s.refKind e == 2 then (if here then s.raise (refBase e) F.TIME_REF_present else s.refDisqualify e) else s) s1
     if here && s2.tmDriven && s2.refKind s2.tmActive == 2 then s2.measured (s2.toSecond + s2.refOffset s2.tmActive) else s2)

/-- A received frame whose line-1 EAV reached the ball at `t` on a lane that entries of kind 3 name (R339): the entries are
present, and the active one is measured where the frame rate is known from the frame start before. -/
def State.sdiReference (s : State) (lane t : Nat) (prev : Option Nat) : State :=
  let mine (e : Nat) : Bool := s.refKind e == 3 && s.getF (refBase e) F.TIME_REF_lane == lane
  let s1 := (List.range 4).foldl (fun s e => if mine e then s.raise (refBase e) F.TIME_REF_present else s) s
  match prev with
  | some p =>
    if s.tmDriven && mine s.tmActive then
      match rateOf (t - p) with
      | some r => s1.measured (((nearestPoint r t : Nat) - (t : Int)) / (nano : Int) + s.refOffset s.tmActive)
      | none => s1
    else s1
  | none => s1

/-! ## TIME_SET -/

/-- Some scheduled action is armed in the device (R35): once it has acted its operation's stage is no longer 0, and a SNAP is armed in each
listed block that has not copied (R117). -/
def State.anyArmed (s : State) : Bool :=
  s.hq.ops.any (fun o => o.instant.isSome && (o.stage == 0 || o.opcode == 0x0601 && (snapList o.params).any (fun x => !o.acc.contains (wd x))))

/-- The parameters of TIME_SET, R347 included. -/
def State.timeSetOk (s : State) (c : Cmd) : Bool :=
  let mode := c.f 2 31 28
  decide (mode ≤ 2) && c.f 2 27 1 == 0 && !(s.tmDriven && s.refKind s.tmActive == 1) &&
  (if mode = 2 then decide ((s32 (c.w 3)).natAbs ≤ 1000000000) && c.w 4 == 0 && c.w 5 == 0
   else (timeOf (c.w 3) (c.w 4) (c.w 5)).isSome && (mode != 1 || (c.w 3 == 0 && c.f 4 31 16 == 0)))

/-- TIME_SET's effect (R346). -/
def State.timeSet (s : State) (c : Cmd) : State × List Word :=
  let mode := c.f 2 31 28
  let t := (timeOf (c.w 3) (c.w 4) (c.w 5)).getD 0
  if mode = 0 then
    (({ s with tim := { s.tim with seconds := none } }).endSlew.stepTime t, timeWords s.sta)
  else if mode = 1 then ({ s with tim := { s.tim with seconds := some (t / second), secAt := (s.sta / second + 1) * second } }, timeWords s.sta)
  else
    let base := if s.tim.slew = 0 then s.tim.back.getD s.freqNow else s.tim.base
    ({ s with tim := { s.tim with slew := s32 (c.w 3) * (10000000000 * nano : Nat), base := base, back := none } }, [0, 0, 0])

/-- TIME_SET (R346, R347). -/
def execTimeSet (c : Cmd) (s : State) : Result :=
  .next (s.immediate 0x0300 c
    { len := c.len == 6, tgt := c.aimsTime, par := s.timeSetOk c,
      free := !s.heldByOther c && (c.f 2 31 28 == 2 || c.f 2 0 0 == 1 || !s.anyArmed) }
    (fun s => s.timeSet c))

/-- TIME_SET_QUERY (R346). -/
def execTimeSetQuery (c : Cmd) (s : State) : Result :=
  .next (s.immediate 0x0380 c { len := c.len == 2, tgt := c.aimsTime }
    (fun s => (s, wd (s.tmActive * 16384 + s.tmState * 16) :: timeWords s.sta)))

/-- TIME_SET_SECONDS (R346): at the next second boundary after it was asked for, which time reaches first, a pending mode 1 replacement replaces the
seconds; what has passed since then stays. -/
def execTimeSetSeconds (s : State) : Result :=
  .next
    (match s.tim.seconds with
     | some sec =>
       let s1 := s.reach s.tim.secAt
       ({ s1 with tim := { s1.tim with seconds := none } }).endSlew.stepTime (sec * second + (s1.sta - s.tim.secAt))
     | none => s)

end Sys2Proof.Machine
end

