-- ==== Sys2Proof/Machine/Rates.lean ====
section
/-! DEFINITION. Nominal frequencies as fractions of Hz (R348, R362, R376, R385), and which clock feeds what (R138, R139, R350,
R387, R395). -/
namespace Sys2Proof.Machine

/-- A frequency num / den in Hz. -/
structure Hz where
  num : Nat
  den : Nat
deriving DecidableEq, Repr

/-- `lo ≤ f ≤ hi`, in Hz. -/
def Hz.within (f : Hz) (lo hi : Nat) : Bool := decide (0 < f.den) && decide (lo * f.den ≤ f.num) && decide (f.num ≤ hi * f.den)
/-- `f × m / d`. -/
def Hz.scale (f : Hz) (m d : Nat) : Hz := { num := f.num * m, den := f.den * d }

/-! ## Station loops -/

/-- The loop's nominal frequency (R348). -/
def State.loopHz (s : State) (n : Nat) : Hz :=
  { num := s.getF (loopBase n) F.LOOP_NUM_HI_num * 4294967296 + s.getF (loopBase n) F.LOOP_NUM_LO_num
    den := s.getF (loopBase n) F.LOOP_NUM_HI_den }
/-- LOOP_STAT.state. -/
def State.loopState (s : State) (n : Nat) : Nat := s.getF (loopBase n) F.LOOP_STAT_state
/-- LOOP_CFG.source. -/
def State.loopSource (s : State) (n : Nat) : Nat := s.getF (loopBase n) F.LOOP_CFG_source

/-! ## Lanes -/

/-- LANE_SET word 5 in force. -/
def State.laneCfg (s : State) (n : Nat) : Nat := s.getF (laneBase n) F.LANE_CFG0_word5
/-- LANE_STAT.state. -/
def State.laneState (s : State) (n : Nat) : Nat := s.getF (laneBase n) F.LANE_STAT_state
/-- The oversampling factor of code `os`. -/
def osFactor (os : Nat) : Nat := if os = 1 then 5 else if os = 2 then 11 else 1
/-- The divisor of rc_div; 0 is none (R385). -/
def rcDivisor (c : Nat) : Nat := [0, 10, 20, 33, 40, 66, 80, 160].getD c 0

/-- The reference of LANE_SET words 5 and 7 (R377). -/
def State.laneRefHz (s : State) (w5 w7 : Nat) : Hz :=
  let ref := bitsOf w5 7 0
  if ref < 8 then { num := w7 * 1000, den := 1 } else s.loopHz (ref - 8)
/-- The PMA rate (R376). -/
def State.lanePma (s : State) (w5 w6 w7 : Nat) : Hz := (s.laneRefHz w5 w7).scale (bitsOf w6 25 16) (bitsOf w6 3 0 + 1)
/-- The payload rate (R376). -/
def State.lanePayload (s : State) (w5 w6 w7 : Nat) : Hz := (s.lanePma w5 w6 w7).scale 1 (osFactor (bitsOf w5 27 26))
/-- The recovered clock (R385). -/
def State.laneRecovered (s : State) (w5 w6 w7 : Nat) : Hz := (s.lanePayload w5 w6 w7).scale 1 (rcDivisor (bitsOf w5 19 16))
/-- The recovered clock of lane `n` as configured; 0 Hz with rc_div = 0. -/
def State.recoveredHz (s : State) (n : Nat) : Hz :=
  if bitsOf (s.laneCfg n) 19 16 = 0 then { num := 0, den := 1 }
  else s.laneRecovered (s.laneCfg n) (s.getF (laneBase n) F.LANE_CFG1_word6) (s.getF (laneBase n) F.LANE_REFKHZ_word7)
/-- The lane that supplies the clock of device lane group `g` (R387). -/
def State.groupClk (s : State) (g : Nat) : Option Nat :=
  ((List.range 8).map (fun k => 8 * g + k)).find? (fun n => (s.laneCfg n).testBit 23)
/-- The lane die on the side of quadrant `q` (R143): its device lane groups start here. -/
def sideGroup (q : Nat) : Nat := if q % 2 = 0 then 0 else 9

/-! ## Fabric loops -/

/-- Fabric loop `l` of Qq: the base of its registers. -/
def floopAt (q l : Nat) : Nat := floopBase q + 8 * l
/-- The nominal frequency of reference code `r` in quadrant `q` (LOOP_SET word 2). -/
def State.floopRefHz (s : State) (q r : Nat) : Hz :=
  if 65 ≤ r ∧ r ≤ 72 then s.loopHz (r - 65)
  else if 73 ≤ r ∧ r ≤ 81 then
    (match s.groupClk (sideGroup q + (r - 73)) with | some n => s.recoveredHz n | none => { num := 0, den := 1 })
  else { num := 27000000, den := 1 }
/-- The oscillator of a fabric loop (R362). -/
def State.floopHz (s : State) (q l : Nat) : Hz :=
  (s.floopRefHz q (s.getF (floopAt q l) F.FLOOP_REF_ref)).scale (s.getF (floopAt q l) F.FLOOP_REF_mult) 1
/-- Divider k of a fabric loop. -/
def State.floopDiv (s : State) (q l k : Nat) : Nat := bitsOf (s.getF (floopAt q l) F.FLOOP_DIV_div) (8 * k + 7) (8 * k)

/-! ## Who uses a clock -/

/-- FACET_STAT.state of facet F. -/
def State.facetState (s : State) (f : Nat) : Nat := s.getF (facetBase f) F.FACET_STAT_state
/-- The plane that is active (R221). -/
def State.facetPlane (s : State) (f : Nat) : Nat := s.getF (facetBase f) F.FACET_PLANE_active
/-- The configuration of a plane of facet F. -/
def State.planeCfg (s : State) (f p : Nat) : PlaneCfg := SMap.get {} s.fac.cfg (2 * f + p)
/-- The spine that regional clock `r` (1–12) selects in a plane; none for no clock (R139). -/
def State.regionalSpine (s : State) (f p r : Nat) : Option Nat :=
  let c := (s.planeCfg f p).regional.getD (r - 1) 0
  if 1 ≤ r ∧ 1 ≤ c ∧ c ≤ 24 then some (c - 1) else none
/-- The source code of spine `x` of Qq (R138). -/
def State.spineCode (s : State) (q x : Nat) : Nat := SMap.get 0 s.fab.spines (24 * q + x)

/-- A facet of Qq in RUNNING, STOPPED or SWAPPING has a regional clock on a spine with source code `code`. -/
def State.spineUsed (s : State) (q code : Nat) : Bool :=
  (List.range 12).any (fun i =>
    let f := 12 * q + i
    (s.facetState f == 4 || s.facetState f == 5 || s.facetState f == 6) &&
    (List.range 12).any (fun r => match s.regionalSpine f (s.facetPlane f) (r + 1) with
      | some x => s.spineCode q x == code
      | none => false))

/-- Some fabric loop of Qq has this reference code. -/
def State.floopUses (s : State) (q code : Nat) : Bool :=
  (List.range 16).any (fun l => s.getF (floopAt q l) F.FLOOP_REF_ref == code)

/-- Some enabled CLKOUT has this kind and an index of `idx`. -/
def State.clkoutUses (s : State) (kind : Nat) (idx : Nat → Bool) : Bool :=
  (List.range 4).any (fun k => s.getF (clkoBase + 8 * k) F.CLKO_SET_kind == kind && idx (s.getF (clkoBase + 8 * k) F.CLKO_SET_index))

/-- Station loop `n` feeds a used spine, a fabric loop, a lane that is not OFF or an enabled CLKOUT (R350). -/
def State.loopFeeds (s : State) (n : Nat) : Bool :=
  (List.range 4).any (fun q => s.spineUsed q (65 + n) || s.floopUses q (65 + n)) ||
  (List.range 144).any (fun m => s.laneState m != 0 && bitsOf (s.laneCfg m) 7 0 == 8 + n) ||
  s.clkoutUses 1 (fun i => i == n)

/-- Fabric loop `l` of Qq feeds a used spine or an enabled CLKOUT (R350). -/
def State.floopFeeds (s : State) (q l : Nat) : Bool :=
  (List.range 4).any (fun k => s.spineUsed q (4 * l + k + 1)) || s.clkoutUses 2 (fun i => i / 4 == 16 * q + l)

/-- The clock of device lane group `g`, supplied by lane `n`, feeds a used spine, a fabric loop, a station loop or an enabled
CLKOUT (R395). -/
def State.groupClkFeeds (s : State) (g n : Nat) : Bool :=
  (List.range 4).any (fun q => sideGroup q == 9 * (g / 9) && (s.spineUsed q (73 + g % 9) || s.floopUses q (73 + g % 9))) ||
  (List.range 8).any (fun i => s.loopSource i == 3 && s.getF (loopBase i) F.LOOP_CFG_lane == n) ||
  s.clkoutUses 3 (fun i => i == n)

end Sys2Proof.Machine
end

