-- ==== Sys2Proof/Machine/Clocks.lean ====
section
/-! DEFINITION. Station loops, fallback oscillators, fabric loops and clock outputs (R348–R365, R371–R373). -/
namespace Sys2Proof.Machine

/-! ## Shared operations -/

/-- States of a station loop (R361). -/
def slOff : Nat := 0
def slAcquiring : Nat := 1
def slLocked : Nat := 2
def slCoasting : Nat := 3
def slFallback : Nat := 4

/-- Code of an XO: stopped, starting, ready, failed (R370). -/
def State.xo (s : State) (i : Nat) : Nat := if i = 0 then s.getF timeBase F.TIME_XO_xo0 else s.getF timeBase F.TIME_XO_xo1
/-- Sets the code of an XO; sources 36 and 37 are live while it is starting or failed (R369). -/
def State.toXo (s : State) (i v : Nat) : State :=
  let s0 : State := if v = 1 then { s with clk := { s.clk with xoFrom := SMap.put 0 s.clk.xoFrom i s.now } } else s
  let s1 := s0.setF timeBase (if i = 0 then F.TIME_XO_xo0 else F.TIME_XO_xo1) v
  if v = 1 ∨ v = 3 then s1.signal (36 + i) else s1

/-- A flag of LOOP_CFG.flags, in LOOP_SET order: auto_fallback 4, revertive 3, fallback 2, force 1, align 0. -/
def State.loopFlag (s : State) (n k : Nat) : Bool := (s.getF (loopBase n) F.LOOP_CFG_flags).testBit k
/-- The fallback oscillator of a loop. -/
def State.loopXo (s : State) (n : Nat) : Nat := bit (s.loopFlag n 2)
/-- The floor of a loop in 0.0001 ppm. -/
def State.loopFloor (s : State) (n : Nat) : Int := (BitVec.ofNat 16 (s.getF (loopBase n) F.LOOP_WIN_floor)).toInt * 100
/-- The ceiling of a loop in 0.0001 ppm. -/
def State.loopCeil (s : State) (n : Nat) : Int := (BitVec.ofNat 16 (s.getF (loopBase n) F.LOOP_WIN_ceiling)).toInt * 100

/-- A loop's record. -/
def State.loopX (s : State) (n : Nat) : LoopX := SMap.get {} s.clk.loops n
/-- Replaces a loop's record. -/
def State.setLoopX (s : State) (n : Nat) (x : LoopX) : State := { s with clk := { s.clk with loops := SMap.put {} s.clk.loops n x } }

/-- The loop is aligned to station time (R354). -/
def State.loopAligned (s : State) (n : Nat) : Bool :=
  s.loopSource n == 1 && s.loopFlag n 0 && (s.loopX n).running && s.loopState n == slLocked
/-- The offset from nominal that the loop is to have, before its window bounds it: the floor while it coasts (R353), station time's rate with
source 0x1 (R348), but for what regaining alignment takes (R354), and otherwise what its reference or oscillator asks for. -/
def State.loopAsked (s : State) (n : Nat) : Int :=
  if s.loopState n = slCoasting then s.loopFloor n
  else if s.loopSource n = 1 && s.loopState n != slFallback then
    (if s.loopAligned n && (s.loopX n).phase != 0 then (s.loopX n).regain else s32 (s.getF timeBase F.TIME_FREQ_freq))
  else (s.loopX n).asked
/-- That offset inside the window (R352). -/
def State.loopTarget (s : State) (n : Nat) : Int := max (s.loopFloor n) (min (s.loopCeil n) (s.loopAsked n))
/-- The output's offset from nominal now, in 10⁻⁷ ppm: once the output has started it moves to the target by no more than the slew rate
(0.1 ppm/s units, R353), and before that it is there at once (R351). -/
def State.loopFreq (s : State) (n : Nat) : Int :=
  let x := s.loopX n
  let most : Int := (s.getF (loopBase n) F.LOOP_SLEW_slew * (s.now - x.seen) / 1000 : Nat)
  if x.running then max (x.freq - most) (min (x.freq + most) (1000 * s.loopTarget n)) else 1000 * s.loopTarget n
/-- The control code is the oscillator's own: the floor code at the floor (R352, R353), and elsewhere a free value (assumption log 2). -/
def State.loopCode (s : State) (n : Nat) : State :=
  let f := s.freeVal
  f.2.setF (loopBase n) F.LOOP_CODE_code
    (if s.loopFreq n = 1000 * s.loopFloor n then s.getF (loopBase n) F.LOOP_FLOOR_floor_code else f.1)
/-- The loop's registers follow its output: LOOP_FREQ, the code of a frequency that has moved (R371), and at an edge of the window that its reference
asks it to pass, out_of_window and window_hit (R352). -/
def State.loopMove (s : State) (n : Nat) : State :=
  let b := loopBase n
  let f := s.loopFreq n
  let edge := decide (s.loopAsked n ≠ s.loopTarget n) && f == 1000 * s.loopTarget n
  let s0 := s.setLoopX n { s.loopX n with freq := f, seen := s.now }
  let s1 := ((if f = (s.loopX n).freq then s0 else s0.loopCode n).setF b F.LOOP_FREQ_freq (i32 (f / 1000))).setB b
    F.LOOP_STAT_out_of_window edge
  if edge && !s.flag b F.LOOP_STAT_out_of_window then s1.mark b F.LOOP_STAT_window_hit (40 + n) else s1
/-- The loop's reference asks for `f` (0.0001 ppm from nominal). -/
def State.loopAim (s : State) (n : Nat) (f : Int) : State :=
  let s1 := s.loopMove n
  (s1.setLoopX n { s1.loopX n with asked := f }).loopMove n
/-- After a step of station time an aligned loop regains alignment within its window and slew rate (R354): its servo asks for a frequency of its own
choice, on the side of station time's rate that brings the edges nearer (assumption log 98), the output moves to it (R353), and what it has differed
by from station time's rate in the last `ns` comes off the phase. Within 1 ns, and with the output as near to that rate as one move goes, it is
aligned again. -/
def State.loopRegain (s : State) (n ns : Nat) : State :=
  let x := s.loopX n
  if !s.loopAligned n || x.phase == 0 then s
  else
    let rate := max (s.loopFloor n) (min (s.loopCeil n) (s32 (s.getF timeBase F.TIME_FREQ_freq)))
    let f := s.freeVal
    let want : Int := if 0 < x.phase then rate + (f.1 % ((s.loopCeil n - rate).toNat + 1) : Nat) else rate - (f.1 % ((rate - s.loopFloor n).toNat + 1) : Nat)
    let left : Int := x.phase - (x.freq - 1000 * rate) * ((s.loopHz n).num * ns * nano : Nat) / 10000000000000
    let near : Bool := decide (left.natAbs ≤ (s.loopHz n).num * nano) &&
      decide ((x.freq - 1000 * rate).natAbs ≤ s.getF (loopBase n) F.LOOP_SLEW_slew * ns / 1000)
    f.2.setLoopX n { x with regain := want, phase := if near then 0 else left }
/-- The first rising edge of an aligned loop at or after station time `t` (R354): the first instant for which t × num / den is a whole number,
but for the phase still to be regained. -/
def State.loopEdge (s : State) (n t : Nat) : Nat :=
  let hz := s.loopHz n
  let away : Nat := (((s.loopX n).phase - (t : Int) * (hz.num : Int)) % (hz.den * second : Nat)).toNat
  t + (away + hz.num - 1) / hz.num
/-- The first rising edge of the divider of CLKOUT k at or after `t`, where its setting aligns it to a loop whose edges are aligned: the instants
of R354 for the divided frequency (CLKOUT_SET word 2). -/
def State.clkoutEdge (s : State) (k t : Nat) : Option Nat :=
  let n := s.getF (clkoBase + 8 * k) F.CLKO_SET_index
  if s.getF (clkoBase + 8 * k) F.CLKO_SET_kind = 1 && s.flag (clkoBase + 8 * k) F.CLKO_SET_align && s.loopAligned n && (s.loopX n).phase == 0 then
    let hz := (s.loopHz n).scale 1 (s.getF (clkoBase + 8 * k) F.CLKO_DIV_div + 1)
    some (t + ((hz.den * second - t * hz.num % (hz.den * second)) % (hz.den * second) + hz.num - 1) / hz.num)
  else none

/-- Goes to a state with its LV bits; source 40 + n is live while coasting or on fallback (R369, R371). -/
def State.toLoop (s : State) (n v : Nat) : State :=
  let b := loopBase n
  let s1 := (((s.setF b F.LOOP_STAT_state v).setB b F.LOOP_STAT_coasting (v == slCoasting)).setB b F.LOOP_STAT_on_fallback
    (v == slFallback)).loopCode n
  if v = slCoasting ∨ v = slFallback then s1.signal (40 + n) else s1

/-- The loop recomputes its floor code (R352; assumption log 2). -/
def State.newFloor (s : State) (n : Nat) : State := s.freeVal.2.setF (loopBase n) F.LOOP_FLOOR_floor_code s.freeVal.1

/-- Completes every LOOP_SET pending on a target, on a quadrant for fabric loop `l` alone, with OK and the state reached (R351, R362). -/
def State.loopDone (s : State) (word1 : Word) (l : Option Nat) (st : Status) (v : Nat) : State :=
  (s.hq.ops.filter (fun o => o.opcode == 0x0302 && o.word1 == word1 && l.all (fun l => o.f 2 23 20 == l))).foldl (fun s o => s.complete o st [wd v]) s

/-- The target word of station loop `n`. -/
def loopWord (n : Nat) : Word := wd (targetWord 0 (0x028 + n) 0)

/-- A loop's output starts when it first reaches LOCKED, COASTING or ON_FALLBACK, and LOOP_SET completes (R351). A loop that locks to station
time has its phase within 1 ns (R351). -/
def State.loopReached (s : State) (n v : Nat) : State :=
  let s1 := s.loopMove n
  ((s1.setLoopX n { s1.loopX n with running := true, phase := if v = slLocked then 0 else (s1.loopX n).phase }).toLoop n v).loopDone
    (loopWord n) none .ok v

/-- The output has the frequency of the floor code at once (R353). -/
def State.loopToFloor (s : State) (n : Nat) : State := s.setLoopX n { s.loopX n with freq := 1000 * s.loopFloor n, seen := s.now }

/-- Enters COASTING: the floor code at once (R353). -/
def State.loopCoast (s : State) (n : Nat) : State := ((s.setF (loopBase n) F.LOOP_STAT_state slCoasting).loopToFloor n).loopReached n slCoasting

/-- The offset of an oscillator against the system timebase, which is XO[0] (R356), in 0.0001 ppm: for XO[1], one part within ±50 ppm against
another, a free value within ±100 ppm (assumption log 2). -/
def State.xoOffset (s : State) (i : Nat) : Int × State :=
  if i = 0 then (0, s) else (((s.freeVal.1 % 2000001 : Nat) : Int) - 1000000, s.freeVal.2)

/-- Locks to the fallback oscillator, with slew (R353, R359). -/
def State.loopToXo (s : State) (n : Nat) : State :=
  let x := s.xoOffset (s.loopXo n)
  ((((x.2.setF (loopBase n) F.LOOP_STAT_state slFallback).loopAim n x.1).lower (loopBase n) F.LOOP_STAT_fallback_not_ready)).loopReached n slFallback
/-- After LOOP_SET changed flags alone (R350, R353, R359): a loop on fallback, or coasting with auto_fallback, locks to the oscillator that it names now
where that is ready; a loop on fallback whose oscillator is not ready coasts, and a coasting one shows whether it waits for it. `xo` is the
oscillator named before. -/
def State.loopRename (s : State) (n xo : Nat) : State :=
  let wait := s.loopFlag n 4 && s.xo (s.loopXo n) != 2
  if s.loopState n = slFallback then
    (if s.loopXo n = xo then s
     else if s.xo (s.loopXo n) = 2 then s.loopToXo n
     else (s.setB (loopBase n) F.LOOP_STAT_fallback_not_ready wait).loopCoast n)
  else if s.loopState n = slCoasting then
    (if s.loopFlag n 4 && s.xo (s.loopXo n) == 2 then s.loopToXo n else s.setB (loopBase n) F.LOOP_STAT_fallback_not_ready wait)
  else s

/-- XO[1] is named by a loop as fallback or by a CLKOUT as source (R358). -/
def State.xo1Named (s : State) : Bool :=
  (List.range 8).any (fun n => s.loopSource n != 0 && s.loopFlag n 2) || s.clkoutUses 4 (fun i => i == 1)

/-- After a setting changed: XO[1] starts when named, and its stop is due 1 s after the last user has gone (R358). -/
def State.settleXo1 (s : State) : State :=
  if s.xo1Named then
    let s1 := if s.xo 1 = 0 then s.toXo 1 1 else s
    { s1 with clk := { s1.clk with xo1Free := none } }
  else if s.xo 1 ≠ 0 ∧ s.clk.xo1Free = none then { s with clk := { s.clk with xo1Free := some s.now } }
  else s

/-- One tick of the station loops: the outputs move (R353) and aligned loops regain alignment (R354). -/
def State.loopsRun (s : State) : State :=
  (List.range 8).foldl (fun s n => if s.loopState n = slOff then s else (s.loopRegain n (s.now - (s.loopX n).seen)).loopMove n) s
/-- One tick of the oscillators (R358): the edges of a failed one may return, which is the world's (assumption log 2), and it starts again. -/
def State.xosRun (s : State) : State :=
  (List.range 2).foldl (fun s i => if s.xo i = 3 then (if s.freeVal.1 % 2 = 1 then s.freeVal.2.toXo i 1 else s.freeVal.2) else s) s
/-- The start delay of the XO inputs in ns (R357). -/
def State.xoDelay (s : State) : Nat := 500000 * 2 ^ (s.ident.xoWait % 8)

/-! ## LOOP_SET -/

/-- The command targets station loop n. -/
def Cmd.loopOf (c : Cmd) : Option Nat :=
  if c.die = 0 ∧ c.inst = 0 ∧ 0x028 ≤ c.blk ∧ c.blk ≤ 0x02F then some (c.blk - 0x028) else none
/-- The command targets the fabric loops of Qq. -/
def Cmd.floopOf (c : Cmd) : Option Nat :=
  if 1 ≤ c.die ∧ c.die ≤ 4 ∧ c.inst = 0 ∧ c.blk = 0x008 then some (c.die - 1) else none

/-- The nominal frequency a LOOP_SET asks for. -/
def Cmd.loopHz (c : Cmd) : Hz := { num := c.f 4 7 0 * 4294967296 + c.w 3, den := c.f 4 31 16 }

/-- The parameters of LOOP_SET on a station loop (R348). -/
def Cmd.loopSetOk (c : Cmd) : Bool :=
  decide (c.f 2 31 28 ≤ 3) && c.f 2 22 8 == 0 && (c.f 2 31 28 != 3 || decide (c.f 2 7 0 < 144)) && c.f 4 15 8 == 0 &&
  c.w 5 == 0 && c.loopHz.within 1000000 1000000000

/-- A divider of a fabric loop is in range. -/
def divOk (v : Nat) : Bool := v == 0 || (decide (2 ≤ v) && decide (v ≤ 64))

/-- The parameters of LOOP_SET on a fabric loop (R362). -/
def State.floopSetOk (s : State) (q : Nat) (c : Cmd) : Bool :=
  let ref := c.f 2 30 24
  c.f 2 19 8 == 0 && c.w 4 == 0 && c.w 5 == 0 && (ref == 0 || (decide (65 ≤ ref) && decide (ref ≤ 82))) &&
  decide (2 ≤ c.f 2 7 0) && decide (c.f 2 7 0 ≤ 128) && (List.range 4).all (fun k => divOk (c.f 3 (8 * k + 7) (8 * k))) &&
  (ref == 0 || ((s.floopRefHz q ref).scale (c.f 2 7 0) 1).within 1600000000 3200000000)

/-- LOOP_SET changes a running station loop's nominal frequency (R350). -/
def State.loopInterrupts (s : State) (n : Nat) (c : Cmd) : Bool :=
  s.loopState n != slOff && decide (c.loopHz.num * (s.loopHz n).den ≠ (s.loopHz n).num * c.loopHz.den)

/-- LOOP_SET changes a running fabric loop's mult or dividers (R350). -/
def State.floopInterrupts (s : State) (q : Nat) (c : Cmd) : Bool :=
  let b := floopAt q (c.f 2 23 20)
  s.getF b F.FLOOP_REF_ref != 0 && (s.getF b F.FLOOP_REF_mult != c.f 2 7 0 || s.getF b F.FLOOP_DIV_div != c.w 3)

/-- The registers of a station loop take a LOOP_SET. -/
def State.loopStore (s : State) (n : Nat) (c : Cmd) : State :=
  let b := loopBase n
  (((((s.setF b F.LOOP_CFG_source (c.f 2 31 28)).setF b F.LOOP_CFG_flags (c.f 2 27 23)).setF b F.LOOP_CFG_lane (c.f 2 7 0)).setF b
    F.LOOP_NUM_LO_num (c.w 3)).setF b F.LOOP_NUM_HI_num (c.f 4 7 0)).setF b F.LOOP_NUM_HI_den (c.f 4 31 16)

/-- Only flags, fallback or revertive change: source, lane and nominal stay. -/
def State.loopSame (s : State) (n : Nat) (c : Cmd) : Bool :=
  s.loopSource n == c.f 2 31 28 && (c.f 2 31 28 != 3 || s.getF (loopBase n) F.LOOP_CFG_lane == c.f 2 7 0) &&
  !s.loopInterrupts n c

/-- LOOP_SET's effect on a station loop (R350, R351, R361): off at once with source 0x0; a change of flags alone leaves the
state but for a change of fallback (`State.loopRename`); any other acquires, with the output held low where the nominal changed. -/
def State.loopSet (s : State) (n : Nat) (c : Cmd) : State :=
  let b := loopBase n
  let st := s.loopState n
  let stop := s.loopInterrupts n c
  let same := s.loopSame n c
  let s1 := (((if st = slOff then s else s.loopMove n).loopStore n c).newFloor n).settleXo1
  if c.f 2 31 28 = 0 then
    (((((s1.toLoop n slOff).lower b F.LOOP_STAT_fallback_not_ready).lower b F.LOOP_STAT_ref_ok).lower b
      F.LOOP_STAT_out_of_window).setLoopX n {}).loopDone (loopWord n) none .ok slOff
  else if same && st != slOff then
    if st = slAcquiring then s1
    else
      let s2 := s1.loopRename n (s.loopXo n)
      let s3 := if s2.loopState n = slCoasting then s2.loopCode n else s2
      s3.loopDone (loopWord n) none .ok (s2.loopState n)
  else
    let s2 := ((s1.lower b F.LOOP_STAT_fallback_not_ready).toLoop n slAcquiring).setB b F.LOOP_STAT_ref_ok (c.f 2 31 28 == 1)
    if stop || st == slOff then s2.setLoopX n {} else s2.loopMove n

/-- A bit of a 16-bit field is set or cleared. -/
def State.setBitOf (s : State) (base : Nat) (f : Fld) (i : Nat) (v : Bool) : State :=
  let w := s.getF base f
  s.setF base f (if v then w ||| 2 ^ i else w &&& (2 ^ f.width - 1 - 2 ^ i))

/-- The outputs of a fabric loop are held low, or run (R350). -/
def State.floopHold (s : State) (q l : Nat) (v : Bool) : State :=
  let m := s.clk.floopLow.filter (· != 16 * q + l)
  { s with clk := { s.clk with floopLow := if v then (16 * q + l) :: m else m } }
/-- LOOP_SET's effect on a fabric loop (R362): it is unlocked until it locks; off with reference 0. Source 48 + q is live while
a loop with a reference is unlocked (R369). A change of its mult or dividers holds its outputs low until then (R350). -/
def State.floopSet (s : State) (q : Nat) (c : Cmd) : State :=
  let l := c.f 2 23 20
  let b := floopAt q l
  let off := c.f 2 30 24 == 0
  let s1 := ((s.setF b F.FLOOP_REF_ref (c.f 2 30 24)).setF b F.FLOOP_REF_mult (if off then 0 else c.f 2 7 0)).setF b
    F.FLOOP_DIV_div (c.w 3)
  let s2 := (s1.setBitOf (floopBase q) F.FLOOP_LOCK_locked l false).floopHold q l (s.floopInterrupts q c && !off)
  if off then s2.loopDone c.word1 (some l) .ok 0 else s2.signal (48 + q)

/-- LOOP_SET (R348–R351, R362). -/
def execLoopSet (c : Cmd) (s : State) : Result :=
  .next
    (match c.loopOf, c.floopOf with
     | some n, _ =>
       s.long 0x0302 c
         { len := c.len == 6, par := c.loopSetOk,
           free := !s.heldByOther c && (!s.loopInterrupts n c || c.f 2 24 24 == 1 || !s.loopFeeds n) } none
         (fun s => s.loopSet n c)
     | none, some q =>
       s.long 0x0302 c
         { len := c.len == 6, par := s.floopSetOk q c, dom := !s.blkOff (q + 1) 8,
           free := !s.heldByOther c && (!s.floopInterrupts q c || c.f 2 31 31 == 1 || !s.floopFeeds q (c.f 2 23 20)) } none
         (fun s => s.floopSet q c)
     | none, none => s.long 0x0302 c { len := c.len == 6, tgt := false } none id)

/-- LOOP_SET_QUERY (R109): LOOP_SET words 2–5 in force, state; a fabric-loop target takes the key word loop. -/
def execLoopSetQuery (c : Cmd) (s : State) : Result :=
  .next
    (match c.loopOf, c.floopOf with
     | some n, _ =>
       s.immediate 0x0382 c { len := c.len == 2 } (fun s =>
         let b := loopBase n
         (s, [wd (s.loopSource n * 268435456 + s.getF b F.LOOP_CFG_flags * 8388608 + s.getF b F.LOOP_CFG_lane),
              wd (s.getF b F.LOOP_NUM_LO_num),
              wd (s.getF b F.LOOP_NUM_HI_den * 65536 + s.getF b F.LOOP_NUM_HI_num), 0]))
     | none, some q =>
       s.immediate 0x0382 c
         { len := c.len == 3, par := c.f 2 31 24 == 0 && c.f 2 19 0 == 0, dom := !s.blkOff (q + 1) 8 } (fun s =>
         let b := floopAt q (c.f 2 23 20)
         (s, [wd (s.getF b F.FLOOP_REF_ref * 16777216 + c.f 2 23 20 * 1048576 + s.getF b F.FLOOP_REF_mult),
              wd (s.getF b F.FLOOP_DIV_div), 0, 0]))
     | none, none => s.immediate 0x0382 c { len := c.len == 2 || c.len == 3, tgt := false } (fun s => (s, [])))

/-- The lock criterion of R351: the output is within 0.01 ppm of what the reference asks for. -/
def State.loopNear (s : State) (n : Nat) : Bool := decide ((s.loopFreq n - 1000 * s.loopAsked n).natAbs ≤ 100000)
/-- A loop's source shows itself present: where it is the 10 MHz input, that input is (R369). -/
def State.sourceSeen (s : State) (n : Nat) : State :=
  let s1 := s.raise (loopBase n) F.LOOP_STAT_ref_ok
  if s.loopSource n = 2 then { s1 with tim := { s1.tim with in10 := true } } else s1
/-- LOOP_LOCK (R351–R353, R361, R362): a loop meets its lock criterion, `f` being the offset from nominal that its reference asks for
(0.0001 ppm). A station loop whose output is not there yet, at its slew rate or for its window, does not lock. -/
def execLoopLock (l : LoopId) (f : Int) (s : State) : Result :=
  .next
    (match l with
     | .station n =>
       if s.loopState n.val = slAcquiring then
         let s1 := s.loopAim n.val f
         if !s1.loopNear n.val then s1
         else (s1.sourceSeen n.val).loopReached n.val slLocked
       else s
     | .fabric q k =>
       if s.getF (floopAt q.val k.val) F.FLOOP_REF_ref = 0 then s
       else ((s.setBitOf (floopBase q.val) F.FLOOP_LOCK_locked k.val true).floopHold q.val k.val false).loopDone (wd (targetWord (q.val + 1) 8 0)) (some k.val) .ok 2)

/-! ## LOOP_WINDOW, LOOP_FALLBACK -/

/-- The parameters of LOOP_WINDOW. -/
def Cmd.windowOk (c : Cmd) : Bool :=
  decide (c.f 2 31 16 ≤ 20000) && (c.f 2 15 0 == 0 || decide (45536 ≤ c.f 2 15 0)) && c.f 3 31 16 == 0 &&
  decide (c.f 3 15 0 ≤ 10000) && c.f 4 31 16 == 0 &&
  (c.f 4 15 0 == 0 || (decide (10 ≤ c.f 4 15 0) && decide (c.f 4 15 0 ≤ 60000)))

/-- LOOP_WINDOW's effect (R352, R353): the window holds at once, and a running loop moves into it, a coasting one to its floor, at the slew
rate. -/
def State.loopWindow (s : State) (n : Nat) (c : Cmd) : State :=
  let b := loopBase n
  let s0 := if s.loopState n = slOff then s else s.loopMove n
  let s1 := (((s0.setF b F.LOOP_WIN_ceiling (c.f 2 31 16)).setF b F.LOOP_WIN_floor (c.f 2 15 0)).setF b F.LOOP_SLEW_slew
    (if c.f 3 15 0 = 0 then 100 else c.f 3 15 0)).setF b F.LOOP_SLEW_qual_ms (if c.f 4 15 0 = 0 then 1000 else c.f 4 15 0)
  let s2 := s1.newFloor n
  if s.loopState n = slOff then s2 else (s2.loopMove n).loopCode n

/-- LOOP_WINDOW (R352). -/
def execLoopWindow (c : Cmd) (s : State) : Result :=
  .next (s.immediate 0x0303 c { len := c.len == 5, tgt := c.loopOf.isSome, par := c.windowOk, free := !s.heldByOther c }
    (fun s => (s.loopWindow (c.loopOf.getD 0) c, [])))

/-- LOOP_WINDOW_QUERY: words 2–4 in force. -/
def execLoopWindowQuery (c : Cmd) (s : State) : Result :=
  .next (s.immediate 0x0383 c { len := c.len == 2, tgt := c.loopOf.isSome } (fun s =>
    let b := loopBase (c.loopOf.getD 0)
    (s, [wd (s.getF b F.LOOP_WIN_ceiling * 65536 + s.getF b F.LOOP_WIN_floor), wd (s.getF b F.LOOP_SLEW_slew),
         wd (s.getF b F.LOOP_SLEW_qual_ms)])))

/-- The action of LOOP_FALLBACK is already in force (R360). -/
def State.fallbackThere (s : State) (n action : Nat) : Bool :=
  if action = 0 then s.loopState n == slFallback else s.loopState n == slAcquiring || s.loopState n == slLocked

/-- LOOP_FALLBACK (R360, R361). -/
def execLoopFallback (c : Cmd) (s : State) : Result :=
  .next
    (let n := c.loopOf.getD 0
     let action := c.f 2 0 0
     s.immediate 0x0305 c
       { len := c.len == 3, tgt := c.loopOf.isSome,
         par := c.f 2 31 1 == 0 && s.loopState n != slOff && s.loopSource n != 1,
         free := !s.heldByOther c && (s.fallbackThere n action ||
           (if action = 0 then s.xo (s.loopXo n) == 2 else s.flag (loopBase n) F.LOOP_STAT_ref_ok)) }
       (fun s =>
         (if s.fallbackThere n action then s
          else if action = 0 then s.loopToXo n
          else (s.lower (loopBase n) F.LOOP_STAT_fallback_not_ready).toLoop n slAcquiring, [])))

/-- LOOP_MONITOR_TRIP (R349, R359, R361): the reference of a loop with source 0x2 or 0x3 is lost. -/
def execLoopMonitorTrip (n : Fin 8) (s : State) : Result :=
  .next
    (let b := loopBase n.val
     let src := s.loopSource n.val
     if src ≠ 2 ∧ src ≠ 3 then s
     else
       let s1 := s.lower b F.LOOP_STAT_ref_ok
       let s2 := if src = 2 then ({ s1 with tim := { s1.tim with in10 := false } }).signal 38 else s1
       if s.loopState n.val = slAcquiring ∨ s.loopState n.val = slLocked then
         let s3 := s2.mark b F.LOOP_STAT_ref_lost (40 + n.val)
         if s.loopFlag n.val 4 && s.xo (s.loopXo n.val) == 2 then (s3.loopToFloor n.val).loopToXo n.val
         else (s3.setB b F.LOOP_STAT_fallback_not_ready (s.loopFlag n.val 4)).loopCoast n.val
       else s2)

/-- LOOP_REF_QUALIFY (R349, R352, R359, R361): the reference, present for qual_ms, asks for offset `f`; a loop that follows it moves there, as far as
its window lets it. -/
def execLoopRefQualify (n : Fin 8) (f : Int) (s : State) : Result :=
  .next
    (if s.loopState n.val = slOff then s
     else
       let s1 := s.sourceSeen n.val
       if s.loopState n.val = slCoasting || (s.loopState n.val == slFallback && s.loopFlag n.val 3) then
         ((s1.lower (loopBase n.val) F.LOOP_STAT_fallback_not_ready).toLoop n.val slAcquiring).loopAim n.val f
       else if s.loopState n.val = slAcquiring ∨ s.loopState n.val = slLocked then s1.loopAim n.val f
       else s1)

/-! ## Fallback oscillators -/

/-- XO_READY (R357–R359, R619): the start delay has passed and edges show; an oscillator that had failed starts again here and waits the full
delay. Loops coasting for this oscillator lock to it. With XO[0] ready
the system loop locks, the centroid's clocks start and both lamps go WARMING. -/
def execXoReady (i : Fin 2) (s : State) : Result :=
  .next
    (if s.xo i.val = 1 ∨ s.xo i.val = 3 then
       let s0 := if s.xo i.val = 3 then s.toXo i.val 1 else s
       let s1 := (s0.reachNow (SMap.get 0 s0.clk.xoFrom i.val + s0.xoDelay)).toXo i.val 2
       let s2 : State := if i = 0 ∧ s1.pwr.boot = .t0 then
           ({ s1 with pwr := { s1.pwr with boot := .clocks }, opt := { s1.opt with warm := [(0, s1.now), (1, s1.now)] } }.setF (lampBase 0)
             F.LAMP_STAT_state 1).setF (lampBase 1) F.LAMP_STAT_state 1
         else s1
       (List.range 8).foldl (fun s n =>
         if s.loopState n == slCoasting && s.loopFlag n 4 && s.loopXo n == i.val then s.loopToXo n else s) s2
     else s)

/-- An oscillator has failed: loops on it coast (R358, R361). -/
def State.xoFailed (s : State) (i : Nat) : State :=
  (List.range 8).foldl (fun s n =>
    if s.loopState n == slFallback && s.loopXo n == i then
      (s.setB (loopBase n) F.LOOP_STAT_fallback_not_ready (s.loopFlag n 4)).loopCoast n
    else s) (s.toXo i 3)

/-- XO[0] has stopped after power-on: the journal records it (R356). -/
def State.xo0Journal (s : State) : State := s.journal 0x28 false (targetWord 0 0x020 0) 1 0 0
/-- XO_FAIL (R356, R358): no edge for 4 periods. Where it is XO[0], which ran, the journal records it. -/
def execXoFail (i : Fin 2) (s : State) : Result :=
  .next
    (if s.xo i.val = 1 ∨ s.xo i.val = 2 then
       (if i = 0 ∧ s.pwr.boot ≠ .t0 ∧ s.pwr.boot ≠ .inReset then (s.xoFailed i.val).xo0Journal else s.xoFailed i.val)
     else s)

/-- XO_STOP (R358): 1 s after the last loop or output naming XO[1] was changed. -/
def execXoStop (s : State) : Result :=
  .next
    (if s.clk.xo1Free.isSome && !s.xo1Named then
       let s1 := s.reachNow ((s.clk.xo1Free.getD 0) + 1000000000)
       ({ s1 with clk := { s1.clk with xo1Free := none } }).toXo 1 0
     else s)

/-- XO0_STOPPED (R356): the system loop holds its last control; source 36 is live and the journal records it, once for each time that it
stops. -/
def execXo0Stopped (s : State) : Result :=
  .next (if s.xo 0 = 3 then s else (s.xoFailed 0).xo0Journal)

/-! ## Fabric loops -/

/-- FABRIC_LOOP_REF_LOST (R363, R373). -/
def execFabricLoopRefLost (q : Fin 4) (l : Fin 16) (s : State) : Result :=
  .next
    (if s.getF (floopAt q.val l.val) F.FLOOP_REF_ref = 0 then s
     else ((s.setBitOf (floopBase q.val) F.FLOOP_LOCK_locked l.val false).setBitOf (floopBase q.val) F.FLOOP_LOCK_lost l.val
       true).signal (48 + q.val))

/-- FABRIC_LOOP_RELOCK (R363). -/
def execFabricLoopRelock (q : Fin 4) (l : Fin 16) (s : State) : Result :=
  .next
    (if s.getF (floopAt q.val l.val) F.FLOOP_REF_ref = 0 then s
     else (s.setBitOf (floopBase q.val) F.FLOOP_LOCK_locked l.val true).floopHold q.val l.val false)

/-! ## Clock outputs -/

/-- The source nominal of a CLKOUT setting; kind 6 has no divider (R364). -/
def State.clkoutHz (s : State) (kind index : Nat) : Hz :=
  if kind = 1 then s.loopHz index
  else if kind = 2 then
    (s.floopHz (index / 64) (index % 64 / 4)).scale 1 (max 1 (s.floopDiv (index / 64) (index % 64 / 4) (index % 4)))
  else if kind = 3 then s.recoveredHz index
  else if kind = 4 then { num := 27000000, den := 1 }
  else if kind = 5 then { num := 10000000, den := 1 }
  else { num := 0, den := 1 }

/-- The index suits the kind. -/
def clkoutIndexOk (kind index : Nat) : Bool :=
  if kind = 1 then decide (index < 8) else if kind = 2 then decide (index < 256) else if kind = 3 then decide (index < 144)
  else if kind = 4 then decide (index < 2) else true

/-- The parameters of CLKOUT_SET (R364). -/
def State.clkoutOk (s : State) (c : Cmd) : Bool :=
  let kind := c.f 2 31 28
  decide (kind ≤ 6) && c.f 2 26 26 == 0 && c.f 2 23 8 == 0 && c.f 3 31 16 == 0 && clkoutIndexOk kind (c.f 2 7 0) &&
  (kind == 0 || kind == 6 || ((s.clkoutHz kind (c.f 2 7 0)).scale 1 (c.f 3 15 0 + 1)).within 0 250000000)

/-- CLKOUT_SET's effect (R364, R365). -/
def State.clkoutSet (s : State) (c : Cmd) : State :=
  let b := clkoBase + 8 * c.f 2 25 24
  let kind := c.f 2 31 28
  ((((s.setF b F.CLKO_SET_kind kind).setF b F.CLKO_SET_align (c.f 2 27 27)).setF b F.CLKO_SET_index (c.f 2 7 0)).setF b
    F.CLKO_DIV_div (c.f 3 15 0)).settleXo1

/-- The target of CLKOUT commands. -/
def Cmd.aimsClko (c : Cmd) : Bool := c.aims 0 0x030 0

/-- CLKOUT_SET (R364, R365). -/
def execClkoutSet (c : Cmd) (s : State) : Result :=
  .next (s.immediate 0x0304 c { len := c.len == 4, tgt := c.aimsClko, par := s.clkoutOk c, free := !s.heldByOther c }
    (fun s => (s.clkoutSet c, [])))

/-- CLKOUT_SET_QUERY: words 2–3 of output `out`, the key word's bits [25:24] (R109). -/
def execClkoutSetQuery (c : Cmd) (s : State) : Result :=
  .next (s.immediate 0x0384 c
    { len := c.len == 3, tgt := c.aimsClko, par := c.f 2 31 26 == 0 && c.f 2 23 0 == 0 }
    (fun s =>
      let b := clkoBase + 8 * c.f 2 25 24
      (s, [wd (s.getF b F.CLKO_SET_kind * 268435456 + s.getF b F.CLKO_SET_align * 134217728 + c.f 2 25 24 * 16777216 +
             s.getF b F.CLKO_SET_index), wd (s.getF b F.CLKO_DIV_div)])))

end Sys2Proof.Machine
end

