-- ==== Sys2Proof/Machine/FrameMem.lean ====
section
/-! DEFINITION. Frame memory, sectors and the sealing engine (R39, R518–R546). A sealed line is held as its plain data with the
number of the key its tag was made under: a check passes exactly for a line written under the key in force (assumption log:
the tag is ideal). -/
namespace Sys2Proof.Machine

/-! ## Addresses -/

/-- Frame memory's size (R38). -/
def fmSize : Nat := 0x200000000

/-- The interleaved mapping is in force (R39). -/
def State.interleaved (s : State) : Bool := s.flag sysBase F.SYS_MEMMAP_interleave

/-- Stack and stack address of a device-local address (R39), as 2³¹ × stack + address: the key of a byte of frame memory. -/
def State.phys (s : State) (a : Nat) : Nat :=
  if s.interleaved then bitsOf a 13 12 * 0x80000000 + bitsOf a 32 14 * 0x1000 + a % 0x1000 else a

/-- The stack of a key. -/
def stackOf (p : Nat) : Nat := p / 0x80000000
/-- The line A[30:6] of a key. -/
def lineOf (p : Nat) : Nat := p % 0x80000000 / 64
/-- The channel of a line (R518). -/
def channelOf (line : Nat) : Nat := line / 8 % 16
/-- The 64 KiB unit of a line (R524). -/
def unitOf (line : Nat) : Nat := line / 1024

/-- Reads bytes at keys as device memory holds them, whatever their checks. -/
def State.rawFm (s : State) (a n : Nat) : List Byte := (List.range n).map (fun i => SMap.get 0 s.mem (s.phys (a + i)))
/-- Writes bytes at their keys. -/
def State.putFm : State → Nat → List Byte → State
  | s, _, [] => s
  | s, a, b :: bs => State.putFm { s with mem := SMap.put 0 s.mem (s.phys a) b } (a + 1) bs

/-! ## Sectors -/

/-- The base of slot `x` in the SEAL block of stack k. -/
def slotBase (k x : Nat) : Nat := sealBase k + 0x20 * x
/-- Sector states (R545). -/
def secFree : Nat := 0
def secInit : Nat := 1
def secActive : Nat := 2
def secSweep : Nat := 3
def secDrain : Nat := 4
/-- The state of a slot. -/
def State.secState (s : State) (k x : Nat) : Nat := s.getF (slotBase k x) F.SEAL_SECT_STAT_state
/-- A slot's record beside its registers. -/
def State.sect (s : State) (k x : Nat) : Sect := SMap.get {} s.fm.sects (32 * k + x)
/-- Replaces it. -/
def State.setSect (s : State) (k x : Nat) (v : Sect) : State := { s with fm := { s.fm with sects := SMap.put {} s.fm.sects (32 * k + x) v } }
/-- The slot is sealed. -/
def State.secSealed (s : State) (k x : Nat) : Bool := s.flag (slotBase k x) F.SEAL_SECT_CFG_sealed
/-- A unit lies in the slot's range. -/
def State.secCovers (s : State) (k x u : Nat) : Bool :=
  s.secState k x != secFree && decide (s.getF (slotBase k x) F.SEAL_SECT_RANGE_base ≤ u) &&
  decide (u ≤ s.getF (slotBase k x) F.SEAL_SECT_RANGE_limit)
/-- The sector that new requests to a line meet (R524, R528): a draining one admits none. -/
def State.secOf (s : State) (k line : Nat) : Option Nat :=
  (List.range 32).find? (fun x => s.secCovers k x (unitOf line) && s.secState k x != secDrain)
/-- The rights in force at a line (R525). -/
def State.rightsAt (s : State) (k line : Nat) : Nat :=
  match s.secOf k line with
  | some x => s.getF (slotBase k x) F.SEAL_SECT_CFG_rights
  | none => 0x3CFF
/-- The master class of the configuration controller: within class 5 it alone addresses the staging slots (R525). -/
def clsConfig : Nat := 7
/-- A request that was admitted before, under the rights then in force (R529). -/
def clsAdmitted : Nat := 8
/-- Master class `cls` has the rights (R525, R526): 0–6 as in R302, where 5 is the steward, and the configuration controller apart. -/
def State.mayAccess (s : State) (cls k line : Nat) (rd wr : Bool) : Bool :=
  let c := if cls = clsConfig then 5 else cls
  let staging := match s.secOf k line with | some x => decide (24 ≤ x) | none => false
  cls == clsAdmitted || (!rd || (s.rightsAt k line).testBit (2 * c)) && (!wr || (s.rightsAt k line).testBit (2 * c + 1)) && (!staging || cls != 5)

/-- The number of the key of a root's epoch: never 0. -/
def keyNo (root epoch : Nat) : Nat := root * 4294967296 + epoch + 1
/-- The key in force in a slot before its sweep. -/
def State.oldKey (s : State) (k x : Nat) : Nat := keyNo (s.sect k x).root (s.getF (slotBase k x) F.SEAL_SECT_EPOCH_epoch)
/-- The epoch a sweep moves to (R535). -/
def State.nextEpoch (s : State) (k x : Nat) : Nat :=
  let e := s.getF (slotBase k x) F.SEAL_SECT_EPOCH_epoch
  if e = 0xFFFFFFFF then 0 else e + 1
/-- The key a sweep moves to (R535). -/
def State.newKey (s : State) (k x : Nat) : Nat := keyNo (s.sect k x).newRoot (s.nextEpoch k x)
/-- A line uses the new key: its channel's pointer has passed it, or it is in the early list (R536). The channels sweep abreast (assumption log
102). -/
def State.passed (s : State) (k x line : Nat) : Bool :=
  s.secState k x == secSweep && ((s.sect k x).early.contains line || decide (line < (s.sect k x).ptr))
/-- The key a line's tag must be made under; 0 for an unsealed line (R522, R523, R536). -/
def State.keyAt (s : State) (k line : Nat) : Nat :=
  match s.secOf k line with
  | some x =>
    if !s.secSealed k x then 0
    else if s.passed k x line then s.newKey k x
    else s.oldKey k x
  | none => 0

/-! ## Lines and the poison list -/

/-- A line's record as last written: listed by itself, or by the newest fill that covers it. -/
def State.lineKept (s : State) (k line : Nat) : Line :=
  match SMap.find s.fm.lines (33554432 * k + line) with
  | some l => l
  | none =>
    match s.fm.fills.find? (fun f => f.stack == k && decide (f.lo ≤ line) && decide (line ≤ f.hi)) with
    | some f => { key := f.key, count := 0, bad := false }
    | none => {}
/-- A line's record: what the pointer of a sweep has passed stands under the new key with count 0 (R536). -/
def State.lineRec (s : State) (k line : Nat) : Line :=
  let l := s.lineKept k line
  match s.secOf k line with
  | some x => if s.passed k x line && l.key == s.oldKey k x then { l with key := s.newKey k x, count := 0 } else l
  | none => l
/-- Lists a line. -/
def State.setLine (s : State) (k line : Nat) (l : Line) : State :=
  { s with fm := { s.fm with lines := SMap.insert s.fm.lines (33554432 * k + line) l } }
/-- The stored line passes its check. -/
def State.lineGood (s : State) (k line : Nat) : Bool := (s.lineRec k line).key == s.keyAt k line && !(s.lineRec k line).bad

/-- Entry numbers of the poison list, oldest first. -/
def State.poisonOrder (s : State) (k : Nat) : List Nat := SMap.get [] s.fm.order k
/-- The base of entry i. -/
def poisonBase (k i : Nat) : Nat := sealBase k + 4 * i
/-- The entry that holds a line. -/
def State.poisonEntry (s : State) (k line : Nat) : Option Nat :=
  (s.poisonOrder k).find? (fun i => s.getF (poisonBase k i) F.SEAL_POISON_line == line)
/-- Replaces the order and shows the count in SEAL_INFO. -/
def State.setOrder (s : State) (k : Nat) (l : List Nat) : State :=
  ({ s with fm := { s.fm with order := SMap.put [] s.fm.order k l } }).setF (sealBase k) F.SEAL_INFO_poison_used l.length

/-- The word of poison entry i. -/
def State.poisonWord (s : State) (k i : Nat) : Nat :=
  s.getF (poisonBase k i) F.SEAL_POISON_valid * 2147483648 + s.getF (poisonBase k i) F.SEAL_POISON_cause * 536870912 +
  s.getF (poisonBase k i) F.SEAL_POISON_line

/-- An event is remembered; it repeats one of the last second (R540). -/
def State.dramRepeat (s : State) (k line place : Nat) : Bool × State :=
  let l := s.fm.hist.filter (fun e => decide (s.now < e.time + 1000000000))
  (l.any (fun e => e.stack == k && e.line == line && e.place == place),
   { s with fm := { s.fm with hist := { stack := k, line := line, place := place, time := s.now } :: l } })

/-- A permanent location fault (R540). -/
def State.rowFault (s : State) (k line : Nat) : State :=
  let b := fmcBase k
  let a := line * 64
  let s1 := ((s.setF b F.FMC_ROW_channel (channelOf line)).setF b F.FMC_ROW_bank (bitsOf a 18 15)).setF b F.FMC_ROW_row
    (bitsOf a 30 19)
  (s1.mark b F.FMC_STAT_row_fault (624 + 4 * k)).journal 0x22 true (targetWord (k + 1) 0x040 0)
    (channelOf line * 268435456 + bitsOf a 18 15 * 16777216 + bitsOf a 30 19 * 4096) 0 0

/-- Enters a line in the poison list (R530, R531): a line already there keeps its entry; a full list gives up its oldest. Data written with
poison are no fault of the location (R540; assumption log 102). -/
def State.addPoison (s : State) (k line cause : Nat) : State :=
  match s.poisonEntry k line with
  | some _ => s
  | none =>
    let o := s.poisonOrder k
    let free := (List.range 64).find? (fun i => !o.contains i)
    let i := free.getD (o.headD 0)
    let s1 := (((s.raise (poisonBase k i) F.SEAL_POISON_valid).setF (poisonBase k i) F.SEAL_POISON_cause cause).setF
      (poisonBase k i) F.SEAL_POISON_line line).setOrder k ((if free.isSome then o else o.drop 1) ++ [i])
    let s2 := if free.isSome then s1 else s1.mark (sealBase k) F.SEAL_STAT_list_full (625 + 4 * k)
    let s3 := (s2.mark (sealBase k) F.SEAL_STAT_poisoned (625 + 4 * k)).journal 0x20 false (targetWord (k + 1) 0x048 0)
      (s2.poisonWord k i) ((s.secOf k line).getD 0xFF) 0
    let r := s3.dramRepeat k line 0
    if cause = 2 then s3 else if r.1 then r.2.rowFault k line else r.2

/-- Removes a line from the poison list (R531). -/
def State.dropPoison (s : State) (k line : Nat) : State :=
  match s.poisonEntry k line with
  | none => s
  | some i => (((s.lower (poisonBase k i) F.SEAL_POISON_valid).lower (poisonBase k i) F.SEAL_POISON_cause).lower
      (poisonBase k i) F.SEAL_POISON_line).setOrder k ((s.poisonOrder k).filter (· != i))

/-- Counts on an FMC or SEAL counter (R544, R545). -/
def State.fmcCount (s : State) (k : Nat) (f : Fld) (n : Nat) : State := s.count (fmcBase k) f n (fmcBase k) F.FMC_STAT_cnt_overflow (624 + 4 * k)
/-- Counts on a SEAL counter. -/
def State.sealCount (s : State) (k : Nat) (f : Fld) (n : Nat) : State :=
  s.count (sealBase k) f n (sealBase k) F.SEAL_STAT_cnt_overflow (627 + 4 * k)

/-! ## One line -/

/-- A single bit was corrected (R522, R540): it is counted and the line is to be written back. -/
def State.corrected (s : State) (k line : Nat) (p : Fin 8 × Fin 72) : State :=
  let s1 := (s.fmcCount k F.FMC_SH_CORR_LO_lo 1).mark (fmcBase k) F.FMC_STAT_corrected (624 + 4 * k)
  let s2 : State := { s1 with fm := { s1.fm with wback := (k, line) :: s1.fm.wback.filter (· != (k, line)) } }
  let r := s2.dramRepeat k line (1 + 72 * p.1.val + p.2.val)
  if r.1 then r.2.rowFault k line else r.2

/-- The line could not be trusted after its re-read (R530): it is poisoned. -/
def State.spoil (s : State) (k line : Nat) : State :=
  let s1 := s.setLine k line { s.lineRec k line with bad := true }
  s1.addPoison k line (if s.keyAt k line = 0 then 1 else 0)

/-- Checks a line (R522, R530, R531): true where its data may be returned. A single bad bit is corrected in an unsealed line and fails the tag
of a sealed one. -/
def State.checkLine (s : State) (k line : Nat) (e : LineErr) : Bool × State :=
  let s0 := s.fmcCount k F.FMC_SH_RD_LO_lo 1
  if (s.poisonEntry k line).isSome then (false, s0)
  else if s.lineGood k line && !e.first && (s.keyAt k line == 0 || e.single.isNone) then
    (true, match e.single with
      | some p => if s.keyAt k line = 0 then s0.corrected k line p else s0
      | none => s0)
  else
    let s1 := (s0.sealCount k F.SEAL_SH_TAGFAIL_LO_lo 1).fmcCount k F.FMC_SH_RD_LO_lo 1
    let s2 := if s.keyAt k line = 0 then
        (s1.fmcCount k F.FMC_SH_UNCORR_LO_lo 1).mark (fmcBase k) F.FMC_STAT_uncorrectable (624 + 4 * k)
      else s1
    if s.lineGood k line && !e.second then (true, s2.sealCount k F.SEAL_SH_RETRYOK_LO_lo 1) else (false, s2.spoil k line)

/-- Entries of the early list of a stack's sealing engine (R537). -/
def State.earlyUsed (s : State) (k : Nat) : Nat := ((List.range 32).map (fun x => (s.sect k x).early.length)).sum
/-- SEAL_INFO shows them. -/
def State.showEarly (s : State) (k : Nat) : State := s.setF (sealBase k) F.SEAL_INFO_early_used (s.earlyUsed k)

/-- A sweep of a sector starts (R535): the next key, of a new root after the last epoch. -/
def State.startSweep (s : State) (k x : Nat) (fast : Bool) (op : Option (Src × BitVec 8)) : State :=
  let last := s.getF (slotBase k x) F.SEAL_SECT_EPOCH_epoch == 0xFFFFFFFF
  let root := if last then s.fm.roots + 1 else (s.sect k x).root
  let s1 : State := { s with fm := { s.fm with roots := if last then s.fm.roots + 1 else s.fm.roots } }
  ((((s1.setSect k x { s1.sect k x with
      newRoot := root, due := false, early := [], op := op <|> (s1.sect k x).op, ptr := s.getF (slotBase k x) F.SEAL_SECT_RANGE_base * 1024
      fast := fast, since := s.now, paused := 0 }).setF (slotBase k x)
    F.SEAL_SECT_STAT_state secSweep).setB (slotBase k x) F.SEAL_SECT_STAT_fast fast).setF (slotBase k x) F.SEAL_SECT_PTR_line
    (s.getF (slotBase k x) F.SEAL_SECT_RANGE_base * 1024)).signal (627 + 4 * k)

/-- A line at 65,535 goes to the new key of the sweep that runs, and into the early list (R537): none while that is full. -/
def State.stampEarly (s : State) (k x line : Nat) (poison : Bool) : Option State :=
  if 64 ≤ s.earlyUsed k then none
  else
    some (((s.setLine k line { key := s.newKey k x, count := 0, bad := poison }).setSect k x
      { s.sect k x with early := line :: (s.sect k x).early }).showEarly k)
/-- A line's record after the write that finds its count at 65,534: the sector's sweep is due (R535), and one that is running waits. -/
def State.stampLast (s : State) (k x line key : Nat) (poison : Bool) : Option State :=
  if s.passed k x line then none
  else
    some ((s.setLine k line { key := key, count := 65535, bad := poison }).setSect k x
      { s.sect k x with due := (s.sect k x).due || s.secState k x != secSweep })
/-- The line's record after a write (R523, R535, R537): in a sealed sector the count rises; at 65,535 the sweep is due, and a
line at 65,535 goes to the new key with the sweep running. The answer is none while the write must wait. -/
def State.stamp (s : State) (k line : Nat) (poison : Bool) : Option State :=
  let l := s.lineRec k line
  match s.secOf k line with
  | none => some (s.setLine k line { key := 0, count := 0, bad := poison })
  | some x =>
    if !s.secSealed k x then some (s.setLine k line { key := 0, count := 0, bad := poison })
    else
      let key := s.keyAt k line
      let count := if l.key = key then l.count else 0
      if count < 65534 then some (s.setLine k line { key := key, count := count + 1, bad := poison })
      else if count = 65534 then s.stampLast k x line key poison
      else (if s.secState k x = secSweep then s else s.startSweep k x false none).stampEarly k x line poison

/-- Stores bytes in one line (R531–R533): `off` bytes into the line at device-local address `a`. The first answer is the status:
none while the write waits. -/
def State.writeLine (s : State) (k line a : Nat) (bs : List Byte) (poison : Bool) (e : LineErr) : Option Status × State :=
  let whole := bs.length == 64
  let c := if whole then (true, s) else s.checkLine k line e
  if !c.1 then
    (some .hwFault, (c.2.mark (sealBase k) F.SEAL_STAT_partial_refused (625 + 4 * k)).journal 0x21 false
      (targetWord (k + 1) 0x048 0) line 0 0)
  else
    match c.2.stamp k line poison with
    | none => (none, s)
    | some s1 =>
      let s2 := (s1.putFm a bs).fmcCount k F.FMC_SH_WR_LO_lo 1
      let s3 : State := { s2 with fm := { s2.fm with wback := s2.fm.wback.filter (· != (k, line)) } }
      let s4 := s3.dropPoison k line
      (some .ok, if poison then s4.addPoison k line 2 else s4)

/-! ## Requests -/

/-- What a request to frame memory meets before its lines are touched (R526–R528, R541, R542). -/
def State.fmAdmit (s : State) (cls a : Nat) (rd wr : Bool) : Option Status × State :=
  let p := s.phys a
  let k := stackOf p
  let line := lineOf p
  if fmSize ≤ a then (some .badTarget, s)
  else if s.dom (stackDom k) ≠ 1 then (some .domainOff, s)
  else if !s.mayAccess cls k line rd wr then
    (some .notAuthorised, (s.sealCount k F.SEAL_SH_REFUSED_LO_lo 1).mark (sealBase k) F.SEAL_STAT_refused (626 + 4 * k))
  else if (match s.secOf k line with | some x => s.secState k x == secInit | none => false) then (some .fenced, s)
  else if s.getF (fmcBase k + 4 * channelOf line) F.FMC_CH_state = 3 then (some .retired, s)
  else (none, s)

/-- The pieces of `[a, a + n)` that each lie in one block of `g` bytes: address and length. -/
def piecesOf (g a n : Nat) : List (Nat × Nat) :=
  ((List.range (n / g + 2)).map (fun i =>
    let lo := max a ((a / g + i) * g)
    let hi := min (a + n) ((a / g + i + 1) * g)
    (lo, hi - lo))).filter (fun p => p.2 != 0)
/-- Its pieces in lines. -/
def linePieces (a n : Nat) : List (Nat × Nat) := piecesOf 64 a n
/-- The requests that an access to `[a, a + n)` makes: one per 512-byte block (R519). -/
def blocksOf (a n : Nat) : List (Nat × Nat) := if n = 0 then [(a, 0)] else piecesOf 512 a n

/-- The answer to a request: `bad` lists the poisoned pieces of the data, by offset and length. -/
structure MemAns where
  status : Status
  data   : List Byte
  bad    : List (Nat × Nat)
deriving DecidableEq, Repr
/-- Any of the data is poisoned. -/
def MemAns.poison (r : MemAns) : Bool := !r.bad.isEmpty
/-- The poisoned pieces of `n` bytes that are poisoned as a whole, or not at all. -/
def allBad (poison : Bool) (n : Nat) : List (Nat × Nat) := if poison then [(0, n)] else []
/-- A poisoned piece touches bytes [at_, at_ + n). -/
def badIn (bad : List (Nat × Nat)) (at_ n : Nat) : Bool := bad.any (fun b => decide (b.1 < at_ + n) && decide (at_ < b.1 + b.2))
/-- Poisoned pieces `n` bytes further on. -/
def badShift (bad : List (Nat × Nat)) (n : Nat) : List (Nat × Nat) := bad.map (fun b => (b.1 + n, b.2))

/-- Reads the pieces of a request in turn (R530, R531). -/
def State.readPieces : State → List (Nat × Nat) → List LineErr → MemAns × State
  | s, [], _ => ({ status := .ok, data := [], bad := [] }, s)
  | s, (a, n) :: t, es =>
    let p := s.phys a
    let c := s.checkLine (stackOf p) (lineOf p) (es.headD {})
    let s1 := if c.1 then c.2 else c.2.sealCount (stackOf p) F.SEAL_SH_POISONRD_LO_lo 1
    let r := State.readPieces s1 t (es.drop 1)
    ({ status := .ok, data := (if c.1 then s.rawFm a n else List.replicate n 0) ++ r.1.data,
       bad := allBad (!c.1) n ++ badShift r.1.bad n }, r.2)

/-- Reads of frame memory, block by block, up to the first that is refused (R519, R526–R531). -/
def State.readBlocks : State → Nat → List (Nat × Nat) → List LineErr → MemAns × State
  | s, _, [], _ => ({ status := .ok, data := [], bad := [] }, s)
  | s, cls, (a, n) :: t, es =>
    match s.fmAdmit cls a true false with
    | (some st, s1) => ({ status := st, data := [], bad := [] }, s1)
    | (none, s1) =>
      let r := s1.readPieces (linePieces a n) es
      let u := State.readBlocks r.2 cls t (es.drop (linePieces a n).length)
      (if u.1.status = .ok then { status := .ok, data := r.1.data ++ u.1.data, bad := r.1.bad ++ badShift u.1.bad n } else u.1, u.2)
/-- A read of frame memory (R526–R531). -/
def State.fmRead (s : State) (cls a n : Nat) (es : List LineErr) : MemAns × State := s.readBlocks cls (blocksOf a n) es

/-- Writes the pieces of a request in turn from offset `o` of its data; the first piece that fails or waits gives the answer (R533, R537). -/
def State.writePieces : State → List (Nat × Nat) → Nat → List Byte → List (Nat × Nat) → List LineErr → Option Status × State
  | s, [], _, _, _, _ => (some .ok, s)
  | s, (a, n) :: t, o, bs, bad, es =>
    let p := s.phys a
    match s.writeLine (stackOf p) (lineOf p) a (bs.take n) (badIn bad o n) (es.headD {}) with
    | (some .ok, s1) => State.writePieces s1 t (o + n) (bs.drop n) bad (es.drop 1)
    | r => r

/-- Writes of frame memory, block by block from offset `o` of the data, up to the first that is refused, fails or waits (R519). -/
def State.writeBlocks : State → Nat → List (Nat × Nat) → Nat → List Byte → List (Nat × Nat) → List LineErr → Option Status × State
  | s, _, [], _, _, _, _ => (some .ok, s)
  | s, cls, (a, n) :: t, o, bs, bad, es =>
    match s.fmAdmit cls a false true with
    | (some st, s1) => (some st, s1)
    | (none, s1) =>
      match s1.writePieces (linePieces a n) o (bs.take n) bad es with
      | (some .ok, s2) => State.writeBlocks s2 cls t (o + n) (bs.drop n) bad (es.drop (linePieces a n).length)
      | r => r
/-- Two ranges touch one line. -/
def sameLine (a n b m : Nat) : Bool := decide (a / 64 ≤ (b + m - 1) / 64) && decide (b / 64 ≤ (a + n - 1) / 64)
/-- The accesses that wait. -/
def State.setFmWaits (s : State) (l : List FmWait) : State := { s with fm := { s.fm with waits := l } }
/-- An access waits behind one to the same line (R534). -/
def State.fmBlocked (s : State) (a n : Nat) : Bool := s.fm.waits.any (fun w => sameLine a n w.addr w.n)
/-- A write of frame memory (R526–R533), of data poisoned in the pieces `bad`: the status, none while it waits (R534, R537, R538). -/
def State.fmWrite (s : State) (cls a : Nat) (bs : List Byte) (bad : List (Nat × Nat)) (es : List LineErr) : Option Status × State :=
  if s.fmBlocked a bs.length && (s.fmAdmit cls a false true).1.isNone then (none, s) else s.writeBlocks cls (blocksOf a bs.length) 0 bs bad es

/-- What the PCIe endpoint notes of the completion it returns for a read (R121, R323). -/
def State.pcieCompletion (s : State) (r : MemAns) : State :=
  match r.status with
  | .ok => if r.poison then s.raise pcieBase F.PCIE_ERR_poisoned_tx else s
  | .badTarget => s.raise pcieBase F.PCIE_ERR_unsupported
  | _ => s.raise pcieBase F.PCIE_ERR_completer_abort

/-- A read by master class `cls` is performed with the rights of class `adm`, and answered. -/
def State.fmAnswer (s : State) (cls adm a n : Nat) (es : List LineErr) : State :=
  let r := s.fmRead adm a n es
  (if cls = 2 then r.2.pcieCompletion r.1 else r.2).emit (.memory cls a r.1.status r.1.data r.1.poison)
/-- An access waits. -/
def State.fmWaits (s : State) (w : FmWait) : State := { s with fm := { s.fm with waits := s.fm.waits ++ [w] } }
/-- An access that waited is tried again, under the rights it was admitted by (R529): none while it still waits. -/
def State.fmRetry (s : State) (w : FmWait) : Option State :=
  if !w.write then some (s.fmAnswer w.cls clsAdmitted w.addr w.n w.es)
  else match s.writeBlocks clsAdmitted (blocksOf w.addr w.data.length) 0 w.data (allBad w.poison w.data.length) w.es with
    | (none, _) => none
    | (some st, s1) => some (if w.posted then s1 else s1.emit (.memory w.cls w.addr st [] false))
/-- Every access that waits is tried again, oldest first; one to a line for which another still waits stays behind it (R534). -/
def State.fmRetryAll (s : State) : State :=
  s.fm.waits.foldl (fun s w => if s.fmBlocked w.addr w.n then s.fmWaits w else (s.fmRetry w).getD (s.fmWaits w))
    { s with fm := { s.fm with waits := [] } }

/-- FRAME_MEMORY_READ (R526, R530, R531): a read by master class `cls` of `n` bytes at `a`, inside one 512-byte block (R519);
`es` says what the pins give for each line in turn. -/
def execFrameMemoryRead (cls : Fin 7) (a : BitVec 33) (n : Fin 513) (es : List LineErr) (s : State) : Result :=
  .next
    (if s.fmBlocked a.toNat n.val = true ∧ (s.fmAdmit cls.val a.toNat true false).1 = none then
       s.fmWaits { cls := cls.val, addr := a.toNat, n := n.val, data := [], poison := false, posted := false, write := false, es := es }
     else s.fmAnswer cls.val cls.val a.toNat n.val es)

/-- FRAME_MEMORY_WRITE (R526, R531–R534, R537, R538): a write, `posted` when it has no answer. One that must wait is kept until it can be made. -/
def execFrameMemoryWrite (cls : Fin 7) (a : BitVec 33) (bs : List Byte) (poison posted : Bool) (es : List LineErr) (s : State) : Result :=
  .next
    (match s.fmWrite cls.val a.toNat bs (allBad poison bs.length) es with
     | (none, _) =>
       s.fmWaits { cls := cls.val, addr := a.toNat, n := bs.length, data := bs, poison := poison, posted := posted, write := true, es := es }
     | (some st, s1) => if posted then s1 else s1.emit (.memory cls.val a.toNat st [] false))

/-- DRAM_REFRESH (R521): the next row of a channel is refreshed, one bank at a time, in every state but OFF. -/
def execDramRefresh (k : Fin 4) (ch : Fin 16) (s : State) : Result :=
  .next
    (if s.dom (stackDom k.val) = 0 then s
     else
       let at_ := 16 * k.val + ch.val
       let v := (SMap.get 0 s.fm.refresh at_ + 1) % 65536
       { s with fm := { s.fm with refresh := SMap.put 0 s.fm.refresh at_ v } })

/-- CORRECTED_WRITEBACK (R522): a line corrected on read is written back, unless a write came first. -/
def execCorrectedWriteback (k : Fin 4) (line : BitVec 25) (s : State) : Result :=
  .next
    (if s.fm.wback.contains (k.val, line.toNat) then
       ({ s with fm := { s.fm with wback := s.fm.wback.filter (· != (k.val, line.toNat)) } }).fmcCount k.val F.FMC_SH_WR_LO_lo 1
     else s)

/-! ## Sector commands -/

/-- The stack a sector command targets: die q + 1, block 0x048, instance 0–23. -/
def Cmd.aimsSector (c : Cmd) : Bool := decide (1 ≤ c.die) && decide (c.die ≤ 4) && c.blk == 0x048 && decide (c.inst < 24)
/-- Its stack. -/
def Cmd.stack (c : Cmd) : Nat := c.die - 1
/-- The stack is ON, with its quadrant's spine (R542). -/
def State.stackOn (s : State) (k : Nat) : Bool := s.dom (stackDom k) == 1 && !s.blkOff (k + 1) 0x048

/-- A new range overlaps a sector of the stack (R527). -/
def State.overlaps (s : State) (k lo hi : Nat) : Bool :=
  (List.range 32).any (fun x => s.secState k x != secFree && decide (s.getF (slotBase k x) F.SEAL_SECT_RANGE_base ≤ hi) &&
    decide (lo ≤ s.getF (slotBase k x) F.SEAL_SECT_RANGE_limit))

/-- The parameters of SECTOR_SET (R527, R528). -/
def State.sectorOk (s : State) (c : Cmd) : Bool :=
  c.f 2 27 0 == 0 && c.f 3 31 15 == 0 && c.f 4 31 15 == 0 && c.f 5 31 14 == 0 &&
  (if c.f 2 31 31 = 1 then
     s.secState c.stack c.inst == secFree && decide (c.w 3 ≤ c.w 4) && !s.overlaps c.stack (c.w 3) (c.w 4)
   else s.secState c.stack c.inst != secFree)

/-- The lines of a range leave the poison list, written whole (R531). -/
def State.dropPoisons (s : State) (k lo hi : Nat) : State :=
  (s.poisonOrder k).foldl (fun s i =>
    let l := s.getF (poisonBase k i) F.SEAL_POISON_line
    if lo ≤ l ∧ l ≤ hi then s.dropPoison k l else s) s
/-- A range of a stack's lines was written whole under a key (R523, R531). -/
def State.wroteLines (s : State) (k lo hi key : Nat) : State :=
  ({ s with fm := { s.fm with
      lines := SMap.cut s.fm.lines (33554432 * k + lo) (33554432 * k + hi + 1)
      fills := { stack := k, lo := lo, hi := hi, key := key } :: s.fm.fills } } : State).dropPoisons k lo hi
/-- Fills a range of a stack's lines with zeros under a key (R527, R542). -/
def State.fillLines (s : State) (k lo hi key : Nat) : State :=
  ({ s with
    mem := s.mem.filter (fun (p : Host.Cell) => !(decide (p.1 < fmSize) && stackOf p.1 == k && decide (lo ≤ lineOf p.1) && decide (lineOf p.1 ≤ hi))) } : State).wroteLines k lo hi key

/-- Gives a slot its registers. -/
def State.openSlot (s : State) (k x : Nat) (isSealed staging : Bool) (rights base limit state : Nat) : State :=
  let b := slotBase k x
  (((((((s.raise b F.SEAL_SECT_CFG_enable).setB b F.SEAL_SECT_CFG_sealed isSealed).setB b F.SEAL_SECT_CFG_staging staging).setF b
    F.SEAL_SECT_CFG_rights rights).setF b F.SEAL_SECT_RANGE_base base).setF b F.SEAL_SECT_RANGE_limit limit).setF b
    F.SEAL_SECT_EPOCH_epoch 0).setF b F.SEAL_SECT_STAT_state state

/-- Creates a sector (R527): a sealed one takes a new root at epoch 0. -/
def State.createSector (s : State) (k x : Nat) (c : Cmd) : State :=
  let isSealed := c.f 2 30 30 == 1
  let root := if isSealed then s.fm.roots + 1 else 0
  let s1 : State := { s with fm := { s.fm with roots := if isSealed then root else s.fm.roots } }
  let s2 := (s1.setSect k x { root := root, since := s.now }).openSlot k x isSealed false (c.w 5) (c.w 3) (c.w 4)
    (if c.f 2 29 29 = 1 then secInit else secActive)
  if c.f 2 29 29 = 1 then
    ((s2.fillLines k (c.w 3 * 1024) (c.w 4 * 1024 + 1023) (if isSealed then keyNo root 0 else 0)).fmcCount k F.FMC_SH_WR_LO_lo
      ((c.w 4 + 1 - c.w 3) * 1024)).signal (627 + 4 * k)
  else s2

/-- A slot becomes free (R528, R546): root and keys erased, any sweep abandoned. -/
def State.freeSlot (s : State) (k x : Nat) : State :=
  let b := slotBase k x
  ({ s with
    regs := SMap.cut s.regs (32 * (b + 0x400)) (32 * (b + 0x420))
    fm := { s.fm with sects := SMap.put {} s.fm.sects (32 * k + x) {} } } : State).showEarly k

/-- Ends a REKEY_NOW pending on a slot. -/
def State.endRekey (s : State) (k x : Nat) (st : Status) : State :=
  match (s.sect k x).op with
  | some (src, tag) => (s.setSect k x { s.sect k x with op := none, done := none }).completeOf src tag st []
  | none => s

/-- A waiting access of a sector that is removed ends (R528): at once with HW_FAULT where the removal aborts; else it completes under the old
key, which is then erased. -/
def State.fmEnd (s : State) (k x : Nat) (abort : Bool) (w : FmWait) : State :=
  if abort then (if w.posted then s else s.emit (.memory w.cls w.addr .hwFault [] false))
  else if !w.write then s.fmAnswer w.cls clsAdmitted w.addr w.n w.es
  else
    let s1 := (linePieces w.addr w.n).foldl (fun s p =>
      s.setLine (stackOf (s.phys p.1)) (lineOf (s.phys p.1)) { key := s.oldKey k x, count := 65535, bad := w.poison }) (s.putFm w.addr w.data)
    if w.posted then s1 else s1.emit (.memory w.cls w.addr .ok [] false)
/-- The waiting accesses of a sector end. -/
def State.endWaits (s : State) (k x : Nat) (abort : Bool) : State :=
  let mine (w : FmWait) : Bool := stackOf (s.phys w.addr) == k && s.secOf k (lineOf (s.phys w.addr)) == some x
  (s.fm.waits.filter mine).foldl (fun s w => s.fmEnd k x abort w) { s with fm := { s.fm with waits := s.fm.waits.filter (fun w => !mine w) } }
/-- Removes a sector (R528): what it admitted completes or is aborted, it drains, and its sweep is abandoned. -/
def State.removeSector (s0 : State) (k x : Nat) (abort : Bool) : State :=
  let s := s0.endWaits k x abort
  (((s.endRekey k x .hwFault).setF (slotBase k x) F.SEAL_SECT_STAT_state secDrain).lower (slotBase k x) F.SEAL_SECT_PTR_line).signal
    (627 + 4 * k)

/-- SECTOR_SET (R524–R528). -/
def execSectorSet (c : Cmd) (s : State) : Result :=
  .next (s.immediate 0x0700 c
    { len := c.len == 6, tgt := c.aimsSector, par := s.sectorOk c, dom := s.stackOn c.stack,
      free := !s.heldByOther c && (c.f 2 31 31 == 1 || s.secState c.stack c.inst != secDrain) }
    (fun s => (if c.f 2 31 31 = 1 then s.createSector c.stack c.inst c else s.removeSector c.stack c.inst (c.f 2 28 28 == 1), [])))

/-- SECTOR_SET_QUERY: words 2–5 in effect; words 3–5 read 0 for a free slot. -/
def execSectorSetQuery (c : Cmd) (s : State) : Result :=
  .next (s.immediate 0x0780 c { len := c.len == 2, tgt := c.aimsSector, dom := s.stackOn c.stack } (fun s =>
    let b := slotBase c.stack c.inst
    (s, [wd (s.getF b F.SEAL_SECT_CFG_enable * 2147483648 + s.getF b F.SEAL_SECT_CFG_sealed * 1073741824),
         wd (s.getF b F.SEAL_SECT_RANGE_base), wd (s.getF b F.SEAL_SECT_RANGE_limit), wd (s.getF b F.SEAL_SECT_CFG_rights)])))

/-- The fill of a sector, at no more than half of each channel's bandwidth, 409.6 GB/s, can have ended (R527). -/
def State.filled (s : State) (k x : Nat) : Bool :=
  decide ((s.sect k x).since + (s.getF (slotBase k x) F.SEAL_SECT_RANGE_limit + 1 - s.getF (slotBase k x) F.SEAL_SECT_RANGE_base) * 160 ≤ s.now)
/-- SECTOR_INIT_DONE (R527, R546): the fill of a sector ends. -/
def execSectorInitDone (k : Fin 4) (x : Fin 24) (s : State) : Result :=
  .next
    (if s.secState k.val x.val = secInit ∧ s.dom (stackDom k.val) = 1 ∧ s.filled k.val x.val = true then
       (s.setF (slotBase k.val x.val) F.SEAL_SECT_STAT_state secActive).signal (627 + 4 * k.val)
     else s)

/-- SECTOR_REMOVE_DONE (R528, R546): a removed sector is idle. -/
def execSectorRemoveDone (k : Fin 4) (x : Fin 24) (s : State) : Result :=
  .next (if s.secState k.val x.val = secDrain then (s.freeSlot k.val x.val).signal (627 + 4 * k.val) else s)

/-- SECTOR_RIGHTS (R529). -/
def execSectorRights (c : Cmd) (s : State) : Result :=
  .next (s.immediate 0x0701 c
    { len := c.len == 3, tgt := c.aimsSector, par := c.f 2 31 14 == 0 && s.secState c.stack c.inst != secFree,
      dom := s.stackOn c.stack, free := !s.heldByOther c }
    (fun s => (s.setF (slotBase c.stack c.inst) F.SEAL_SECT_CFG_rights (c.w 2), [])))

/-- SECTOR_RIGHTS_QUERY. -/
def execSectorRightsQuery (c : Cmd) (s : State) : Result :=
  .next (s.immediate 0x0781 c { len := c.len == 2, tgt := c.aimsSector, dom := s.stackOn c.stack }
    (fun s => (s, [wd (s.getF (slotBase c.stack c.inst) F.SEAL_SECT_CFG_rights)])))

/-! ## Sweeps -/

/-- REKEY_SWEEP_START (R535): a count has reached 65,535. -/
def execRekeySweepStart (k : Fin 4) (x : Fin 24) (s : State) : Result :=
  .next
    (if (s.sect k.val x.val).due && s.secState k.val x.val == secActive && s.dom (stackDom k.val) == 1 then
       s.startSweep k.val x.val false none
     else s)

/-- The line after a sector's last. -/
def State.secEnd (s : State) (k x : Nat) : Nat := (s.getF (slotBase k x) F.SEAL_SECT_RANGE_limit + 1) * 1024
/-- Lines below m in channel c (R518). -/
def linesBelow (c m : Nat) : Nat := m / 128 * 8 + min 8 (m % 128 - 8 * c)
/-- Lines from the pointer up to `p` that a sweep re-encrypts: those of retired channels and of the early list are skipped (R537, R541). -/
def State.sweptLines (s : State) (k x p : Nat) : Nat :=
  let at_ := (s.sect k x).ptr
  let good := (List.range 16).filter (fun c => s.getF (fmcBase k + 4 * c) F.FMC_CH_state != 3)
  monus ((good.map (fun c => linesBelow c p - linesBelow c at_)).sum)
    ((s.sect k x).early.filter (fun l => decide (l < p) && good.contains (channelOf l))).length
/-- The pointer of a sweep comes to line `p` (R536, R537): the lines it passes are read, re-encrypted and written, and leave the early
list. -/
def State.sweepTo (s : State) (k x p : Nat) : State :=
  let n := s.sweptLines k x p
  let s1 := ((s.sealCount k F.SEAL_SH_SWEPT_LO_lo n).fmcCount k F.FMC_SH_RD_LO_lo n).fmcCount k F.FMC_SH_WR_LO_lo n
  ((s1.setSect k x { s1.sect k x with ptr := p, early := (s1.sect k x).early.filter (fun l => decide (p ≤ l)) }).setF (slotBase k x)
    F.SEAL_SECT_PTR_line (min p 33554431)).showEarly k
/-- Lines that a sweep passes in `ns`: 20.48 GB/s of sector, ten times that at half of the bandwidth (R536, R539). -/
def sweepPace (fast : Bool) (ns : Nat) : Nat := ns * (if fast then 32 else 3) / 10 + (if fast then 0 else ns / 50)
/-- A sweep goes on for `ns`; in self-refresh it pauses (R536–R539). It is fast where REKEY_NOW asked so, or while a write waits for it. -/
def State.sweepRun (s : State) (ns key : Nat) : State :=
  let k := key / 32
  let x := key % 32
  if s.secState k x ≠ secSweep then s
  else if s.dom (stackDom k) ≠ 1 then s.setSect k x { s.sect k x with paused := (s.sect k x).paused + ns }
  else
    let fast := (s.sect k x).fast || decide (64 ≤ s.earlyUsed k) ||
      s.fm.waits.any (fun w => stackOf (s.phys w.addr) == k && s.secOf k (lineOf (s.phys w.addr)) == some x)
    (s.sweepTo k x (min (s.secEnd k x) ((s.sect k x).ptr + sweepPace fast ns))).setB (slotBase k x) F.SEAL_SECT_STAT_fast fast
/-- Frame memory runs for `ns`: every sweep goes on, and what waited for one is tried again. -/
def State.fmRun (s : State) (ns : Nat) : State :=
  let s1 := s.fm.sects.foldl (fun s p => s.sweepRun ns p.1) s
  if s1.fm.waits.isEmpty then s1 else s1.fmRetryAll

/-- Every channel has swept (R536): lines under the old key are under the new one with count 0, the old key is erased and the
epoch advances. A line that failed its check stays bad. What waited for the sweep is tried again (R538). -/
def State.sweepDone (s : State) (k x : Nat) : State :=
  let old := s.oldKey k x
  let new := s.newKey k x
  let b := slotBase k x
  let s1 := s.sweepTo k x (s.secEnd k x)
  let s2 : State := { s1 with fm := { s1.fm with
    lines := s1.fm.lines.map (fun p => if p.2.key = old then (p.1, { p.2 with key := new, count := 0 }) else p)
    fills := s1.fm.fills.map (fun f => if f.key = old then { f with key := new } else f) } }
  let x1 := s.sect k x
  ((((((s2.setSect k x { root := x1.newRoot, due := x1.due, op := x1.op, done := if x1.op.isSome then some (s.nextEpoch k x) else none }).setF b
    F.SEAL_SECT_EPOCH_epoch (s.nextEpoch k x)).setF b F.SEAL_SECT_STAT_state secActive).lower b F.SEAL_SECT_STAT_fast).lower b
    F.SEAL_SECT_PTR_line).mark (sealBase k) F.SEAL_STAT_sweep_done (627 + 4 * k)).fmRetryAll

/-- REKEY_SWEEP_DONE (R536): the pointers have passed the sector's last line. -/
def execRekeySweepDone (k : Fin 4) (x : Fin 24) (s : State) : Result :=
  .next
    (if s.secState k.val x.val = secSweep ∧ s.dom (stackDom k.val) = 1 ∧ s.secEnd k.val x.val ≤ (s.sect k.val x.val).ptr then
       s.sweepDone k.val x.val
     else s)

/-- REKEY_NOW (R539). -/
def execRekeyNow (c : Cmd) (s : State) : Result :=
  .next (s.long 0x0702 c
    { len := c.len == 3, tgt := c.aimsSector,
      par := c.f 2 31 1 == 0 && s.secSealed c.stack c.inst &&
        (s.secState c.stack c.inst == secActive || s.secState c.stack c.inst == secSweep),
      dom := s.stackOn c.stack, free := !s.heldByOther c && s.secState c.stack c.inst != secSweep } none
    (fun s => s.startSweep c.stack c.inst (c.f 2 0 0 == 1) (some (c.src, c.tag))))

/-- REKEY_NOW_COMPLETION (R539): its sweep has ended. -/
def execRekeyNowCompletion (k : Fin 4) (x : Fin 24) (s : State) : Result :=
  .next
    (match (s.sect k.val x.val).op, (s.sect k.val x.val).done with
     | some (src, tag), some epoch =>
       (s.setSect k.val x.val { s.sect k.val x.val with op := none, done := none }).completeOf src tag .ok [wd epoch]
     | _, _ => s)

/-- A sweep that reached its bound (R539): it is abandoned, the old key stays and lines already swept return to it. -/
def State.abandonSweep (s : State) (k x : Nat) : State :=
  let b := slotBase k x
  let new := s.newKey k x
  let old := s.oldKey k x
  let s1 : State := { s with fm := { s.fm with
    lines := s.fm.lines.map (fun p => if p.2.key = new then (p.1, { p.2 with key := old }) else p) } }
  (((((s1.setSect k x { s1.sect k x with early := [], op := none, ptr := 0 }).setF b F.SEAL_SECT_STAT_state secActive).lower b
    F.SEAL_SECT_STAT_fast).lower b F.SEAL_SECT_PTR_line).showEarly k).fmRetryAll

/-! ## Whole stacks -/

/-- Every sector of a stack is removed, its keys erased and its poison list emptied (R542, R543). -/
def State.dropSectors (s : State) (k : Nat) : State :=
  let s1 := (List.range 32).foldl (fun s x => (s.endRekey k x .domainOff).freeSlot k x) s
  ((List.range 64).foldl (fun s i => ((s.lower (poisonBase k i) F.SEAL_POISON_valid).lower (poisonBase k i)
    F.SEAL_POISON_cause).lower (poisonBase k i) F.SEAL_POISON_line) s1).setOrder k []

/-- A stack comes ON from OFF: every line zeroed with valid SEC-DED (R542). -/
def State.zeroStack (s : State) (k : Nat) : State := s.fillLines k 0 33554431 0

end Sys2Proof.Machine
end

