-- ==== Sys2Proof/Machine/RingOps.lean ====
section
/-! DEFINITION. The ring network's shared operations: rings, vertices and links, packets and flits, where an address lies, chords, and
the route of a packet (R296–R313, R320–R329). Directions: 0 and 1 ascending and descending on an X-ring, 2 and 3 on a Y-ring. -/
namespace Sys2Proof.Machine

/-! ## Edges as the rings meet them (R297, R485, R513) -/

/-- Edge states (R498). -/
def egDown : Nat := 0
def egFull : Nat := 1
def egFast : Nat := 2
def egActive : Nat := 3
def egRetired : Nat := 4
/-- EDGE_STAT.state. -/
def State.edgeState (s : State) (e : Nat) : Nat := s.getF (edgeBase e) F.EDGE_STAT_state
/-- EDGE_INFO.step: 0 full, 1 half, 2 quarter, 3 retired. -/
def State.edgeStep (s : State) (e : Nat) : Nat := s.getF (edgeBase e) F.EDGE_INFO_step
/-- The quadrant edge that a link crosses (R297). -/
def linkEdge (no : Nat) : Option Nat :=
  let r := no / 32
  let i := no % 32
  if r < 16 then (if i = 11 ∨ i = 23 then some (if r < 8 then 0 else 1) else none)
  else if i = 7 ∨ i + 1 = ringSize r then some (if r - 16 < 12 then 2 else 3) else none

/-- The rings that cross an edge. -/
def edgeRings (e : Nat) : List Nat :=
  if e = 0 then List.range 8 else if e = 1 then (List.range 8).map (· + 8) else if e = 2 then (List.range 12).map (· + 16)
  else if e = 3 then (List.range 12).map (· + 28) else []
/-- The rings whose routes a change concerns (R329). -/
def RingChange.rings : RingChange → List Nat
  | .fold r => [r]
  | .link no => [no / 32]
  | .edge e => edgeRings e
  | .remap _ => []
/-- A change of routes begins, behind fences (R329). -/
def State.changeRoutes (s : State) (c : RingChange) : State :=
  if s.ring.changing.contains c then s else { s with ring := { s.ring with changing := s.ring.changing ++ [c] } }

/-! ## Folds and splits (R324) -/

/-- A link is broken: retired, or on an edge that is retired or whose wait split the rings. -/
def State.linkBroken (s : State) (no : Nat) : Bool :=
  s.ring.retired.contains no ||
  (match linkEdge no with | some e => s.edgeState e == egRetired || s.ring.split.contains e | none => false)
/-- Broken links of a ring. -/
def State.ringBreaks (s : State) (r : Nat) : List Nat := (List.range (ringSize r)).filter (fun i => s.linkBroken (linkNo r i))
/-- NI_ROUTE's code of a ring: whole, folded or split. -/
def State.ringState (s : State) (r : Nat) : Nat := min 2 (s.ringBreaks r).length
/-- Positions up to `n` links ascending from `pos` that no break cuts off. -/
def State.ringRun (s : State) (r : Nat) (up : Bool) : Nat → Nat → List Nat
  | 0, pos => [pos]
  | n + 1, pos =>
    if s.linkBroken (linkNo r (linkIdx r pos (if up then 0 else 1))) then [pos]
    else pos :: s.ringRun r up n ((pos + (if up then 1 else ringSize r - 1)) % ringSize r)
/-- Position `tp` lies on the same part of the ring as `pos`. -/
def State.ringReach (s : State) (r pos tp : Nat) : Bool :=
  decide ((s.ringBreaks r).length < 2) || (s.ringRun r true (ringSize r) pos).contains tp || (s.ringRun r false (ringSize r) pos).contains tp
/-- The direction with fewer hops, ascending on a tie (R309): 0 or 1. -/
def fewer (r pos tp : Nat) : Nat :=
  let n := ringSize r
  let up := (tp + n - pos) % n
  if up ≤ n - up then 0 else 1

/-! ## Packets and flits (R300, R302) -/

/-- Bits of a header word. -/
def Pkt.f (p : Pkt) (w hi lo : Nat) : Nat := bitsOf (p.hdr.getD w 0) hi lo
/-- Gives bits [hi:lo] of a word a value. -/
def putBits (w hi lo v : Nat) : Nat := w - bitsOf w hi lo * 2 ^ lo + v % 2 ^ (hi - lo + 1) * 2 ^ lo
/-- Gives bits of a header word a value. -/
def Pkt.set (p : Pkt) (w hi lo v : Nat) : Pkt := { p with hdr := p.hdr.set w (putBits (p.hdr.getD w 0) hi lo v) }
/-- The destination vertex. -/
def Pkt.dst (p : Pkt) : Nat := vkOf (p.f 0 4 0) (p.f 0 9 5)
/-- The source vertex. -/
def Pkt.src (p : Pkt) : Nat := vkOf (p.f 0 14 10) (p.f 0 19 15)
/-- The op. -/
def Pkt.op (p : Pkt) : Nat := p.f 0 25 22
/-- The class. -/
def Pkt.cls (p : Pkt) : Nat := p.f 0 21 20
/-- The packet is returning (R322). -/
def Pkt.returned (p : Pkt) : Bool := p.f 0 31 31 == 1
/-- The route is taken from words 4–5. -/
def Pkt.chord (p : Pkt) : Bool := p.f 0 30 30 == 1
/-- The device-local address of a request. -/
def Pkt.addr (p : Pkt) : Nat := p.f 1 31 24 * 4294967296 + p.hdr.getD 2 0
/-- The tag. -/
def Pkt.tag (p : Pkt) : Nat := p.f 1 7 0
/-- Bytes that the header names. -/
def Pkt.bytes (p : Pkt) : Nat := p.f 1 17 8 + 1
/-- Ops whose packets carry a payload. -/
def opCarries (op : Nat) : Bool := op == 1 || op == 2 || op == 3 || op == 4 || op == 5 || op == 6 || op == 7 || op == 9 || op == 0xB
/-- Flits of a packet with `n` bytes of payload. -/
def flitsOf (n : Nat) : Nat := if n ≤ 32 then 1 else 1 + (n - 32 + 63) / 64
/-- Flits of a packet. -/
def Pkt.flits (p : Pkt) : Nat := flitsOf p.data.length

/-- The bytes of the payload that flit i carries: offset and length (R302). -/
def flitSpan (i : Nat) : Nat × Nat := if i = 0 then (0, 32) else (32 + 64 * (i - 1), 64)
/-- The flits of a payload of `n` bytes that carry poisoned pieces of it (R300). -/
def flitsBad (bad : List (Nat × Nat)) (n : Nat) : List Nat := (List.range (flitsOf n)).filter (fun i => badIn bad (flitSpan i).1 (flitSpan i).2)
/-- The poisoned pieces of a packet's payload. -/
def Pkt.bad (p : Pkt) : List (Nat × Nat) := p.poison.map flitSpan

/-- A packet from its fields (R302). `w2` is word 2: the address's low part, a status, or an essence count; `poison` lists its poisoned flits.
Peek is 0: the debug access master, whose plain reads set it (R650), has rows of its own. -/
def mkPkt (src dst op cls addrHi master bytes tag w2 : Nat) (data : List Byte) (poison : List Nat) : Pkt :=
  { hdr := [(flitsOf data.length - 1) * 67108864 + op * 4194304 + cls * 1048576 + vkY src * 32768 + vkX src * 1024 + vkY dst * 32 + vkX dst,
            addrHi % 256 * 16777216 + master * 1048576 + (bytes - 1) % 1024 * 256 + tag % 256, w2 % 4294967296, 0, 0, 0, 0, 0],
    data := data, poison := poison }

/-- One step of CRC-12 (R300): polynomial 0x80F. -/
def crcStep (c : Nat) (b : Bool) : Nat :=
  let t := c.testBit 11 != b
  let v := c * 2 % 4096
  if t then v ^^^ 0x80F else v
/-- CRC-12 of a flit's data and the header bits below it, data bit 511 first (R300). -/
def flitCrc (data hdr : Nat) : Nat :=
  (List.range 12).foldl (fun c i => crcStep c (hdr.testBit (11 - i)))
    ((List.range 512).foldl (fun c i => crcStep c (data.testBit (511 - i))) 0xFFF)
/-- A flit from its parts (R300). -/
def mkFlit (data seq vc : Nat) (poison tail head : Bool) : BitVec 536 :=
  let h := seq % 64 * 64 + bit poison * 32 + bit tail * 16 + bit head * 8 + vc
  BitVec.ofNat 536 ((flitCrc data h * 4096 + h) * 2 ^ 512 + data)
/-- The flit header. -/
def flitHdr (x : BitVec 536) : Nat := x.toNat / 2 ^ 512
/-- The data bits. -/
def flitData (x : BitVec 536) : Nat := x.toNat % 2 ^ 512
/-- The check passes. -/
def flitGood (x : BitVec 536) : Bool := flitCrc (flitData x) (flitHdr x % 4096) == flitHdr x / 4096
/-- Sequence number. -/
def flitSeq (x : BitVec 536) : Nat := bitsOf (flitHdr x) 11 6
/-- Virtual channel. -/
def flitVc (x : BitVec 536) : Nat := flitHdr x % 8
/-- Last flit of its packet. -/
def flitTail (x : BitVec 536) : Bool := (flitHdr x).testBit 4

/-- The data of each flit of a packet (R302). -/
def Pkt.words (p : Pkt) : List Nat :=
  let head := (List.range 8).foldl (fun a i => a + p.hdr.getD i 0 % 4294967296 * 4294967296 ^ i) 0 + ofBytes (p.data.take 32) * 2 ^ 256
  head :: (List.range (p.flits - 1)).map (fun i => ofBytes ((p.data.drop (32 + 64 * i)).take 64))
/-- Flit i of a packet on virtual channel vc, with sequence number `seq`. -/
def Pkt.flit (p : Pkt) (vc seq i : Nat) : BitVec 536 := mkFlit (p.words.getD i 0) seq vc (p.poison.contains i) (i + 1 == p.flits) (i == 0)
/-- The flits of a packet on virtual channel vc from sequence number `seq`. -/
def Pkt.toFlits (p : Pkt) (vc seq : Nat) : List (BitVec 536) := (List.range p.flits).map (fun i => p.flit vc (seq + i) i)
/-- The packet of its flits. -/
def ofFlits (l : List (BitVec 536)) : Pkt :=
  let h := flitData (l.headD 0)
  let hdr := (List.range 8).map (fun i => bitsOf h (32 * i + 31) (32 * i))
  let all := bytesOf 32 (h / 2 ^ 256) ++ (l.drop 1).flatMap (fun x => bytesOf 64 (flitData x))
  let p : Pkt := { hdr := hdr }
  { hdr := hdr, data := if opCarries p.op then all.take p.bytes else [], 
    poison := (List.range l.length).filter (fun i => (flitHdr (l.getD i 0)).testBit 5) }

/-! ## Links, queues and network interfaces -/

/-- The link into a vertex in a direction of travel. -/
def State.link (s : State) (vk dir : Nat) : Link := SMap.get {} s.ring.links (4 * vk + dir)
/-- Replaces it. -/
def State.setLink (s : State) (vk dir : Nat) (l : Link) : State := { s with ring := { s.ring with links := SMap.put {} s.ring.links (4 * vk + dir) l } }
/-- A queue of a vertex. -/
def State.vq (s : State) (vk inp vc : Nat) : List Queued := SMap.get [] s.ring.queues (48 * vk + 8 * inp + vc)
/-- Replaces it. -/
def State.setVq (s : State) (vk inp vc : Nat) (l : List Queued) : State :=
  { s with ring := { s.ring with queues := SMap.put [] s.ring.queues (48 * vk + 8 * inp + vc) l } }
/-- A network interface. -/
def State.ni (s : State) (vk : Nat) : Ni := SMap.get {} s.ring.nis vk
/-- Replaces it. -/
def State.setNi (s : State) (vk : Nat) (n : Ni) : State := { s with ring := { s.ring with nis := SMap.put {} s.ring.nis vk n } }
/-- A vertex in bypass (R321). -/
def State.bypass (s : State) (vk : Nat) : Bool := s.ring.byp.contains vk
/-- The event source k of the vertex's quadrant (R334). -/
def niSrc (vk k : Nat) : Nat := 560 + 8 * vkQuad vk + k
/-- A record of NI_STAT. -/
def State.niMark (s : State) (vk : Nat) (f : Fld) (k : Nat) : State := s.mark (vkBase vk) f (niSrc vk k)
/-- Counts on an NI counter (R332). -/
def State.niCount (s : State) (vk : Nat) (f : Fld) (n : Nat) : State :=
  s.count (vkBase vk) f n (vkBase vk) F.NI_STAT_cnt_overflow (niSrc vk 4)
/-- The request at source `vk` with a tag is lost on its way home (R322). -/
def State.loseAt (s : State) (vk tag : Nat) : State :=
  s.setNi vk { s.ni vk with outst := (s.ni vk).outst.map (fun o => if o.tag = tag then { o with lost := true } else o) }
/-- A vertex dropped a packet (R320, R322, R332). -/
def State.dropCount (s : State) (vk : Nat) : State := (s.niCount vk F.NI_SH_DROP_LO_lo 1).niMark vk F.NI_STAT_dropped 3
/-- A stream packet of the same flow belongs to the frame of packet `p` still: essence without a start of frame, or a write of the frame's own stretch
of memory beyond it (R315). -/
def State.sameFrame (s : State) (p q : Pkt) : Bool :=
  let b := vkBase p.src
  let base := s.getF b F.NI_FLOW_BASE_HI_base * 4294967296 + s.getF b F.NI_FLOW_BASE_LO_base * 64
  let st := s.getF b F.NI_FLOW_STRIDE_stride * 64
  if p.op = 7 then q.op == 7 && decide (p.addr ≤ q.addr) && (q.addr - base) / max 1 st == (p.addr - base) / max 1 st || (st == 0 && q.op == 7 && decide (p.addr ≤ q.addr))
  else q.op == 6 && q.f 2 6 6 == 0
/-- Drops the packets of a frame from a queue up to the next frame, but for one that is being sent; and whether the next frame was met. -/
def dropRun (same : Pkt → Bool) : List Queued → List Queued × Bool
  | [] => ([], false)
  | q :: t =>
    if q.pkt.cls ≠ 2 ∨ q.gone ≠ 0 then (q :: (dropRun same t).1, (dropRun same t).2)
    else if same q.pkt then dropRun same t
    else (q :: t, true)
/-- The flow of a dropped packet loses the rest of its frame (R330): what waits of it at its source, what the NI has gathered of it, and the beats to
come before the next start of frame. -/
def State.loseFrame (s : State) (p : Pkt) : State :=
  let n := s.ni p.src
  let a := dropRun (s.sameFrame p) (s.vq p.src 4 4)
  let b := if a.2 then (n.back, true) else dropRun (s.sameFrame p) n.back
  let c := if b.2 then (n.held.map (fun q => ({ pkt := q } : Queued)), true) else dropRun (s.sameFrame p) (n.held.map (fun q => { pkt := q }))
  let s1 := (s.setVq p.src 4 4 a.1).setNi p.src { n with back := b.1, held := c.1.map (·.pkt) }
  if c.2 || (n.pack.head?.any (fun x => x.side.getLsbD 6)) || (!n.bytes.isEmpty && n.offset == 0) then s1
  else s1.setNi p.src { s1.ni p.src with skip := true, pack := [], bytes := [], poison := [] }
/-- A packet that cannot proceed is dropped at a vertex and counted (R322). A stream flow loses the rest of its frame (R330). -/
def State.dropPkt (s : State) (vk : Nat) (p : Pkt) : State :=
  let s1 := s.dropCount vk
  if p.cls = 2 then s1.loseFrame p
  else if p.returned || p.op == 9 || p.op == 0xA || p.op == 0xB || p.op == 0xF then s1.loseAt p.dst p.tag
  else s1

/-! ## Chords and addresses (R311, R312) -/

/-- The base of chord entry e. -/
def chordBase (vk e : Nat) : Nat := vkBase vk + 16 * e
/-- Chord entry e matches a destination and a class (R312, R333). -/
def State.chordHit (s : State) (vk e dst cls : Nat) : Bool :=
  let b := chordBase vk e
  s.flag b F.NI_CHORD_MATCH_valid && (s.getF b F.NI_CHORD_MATCH_class_mask).testBit cls &&
  decide (s.getF b F.NI_CHORD_MATCH_y_lo ≤ vkY dst) && decide (vkY dst ≤ s.getF b F.NI_CHORD_MATCH_y_hi) &&
  decide (s.getF b F.NI_CHORD_MATCH_x_lo ≤ vkX dst) && decide (vkX dst ≤ s.getF b F.NI_CHORD_MATCH_x_hi) &&
  s.getF b F.NI_CHORD_ROUTE0_turns != 7
/-- The entry that supplies a route. -/
def State.chordOf (s : State) (vk dst cls : Nat) : Option Nat := (List.range 64).find? (fun e => s.chordHit vk e dst cls)
/-- NI_CHORD_ROUTE0 of an entry. -/
def State.chordWord0 (s : State) (vk e : Nat) : Nat :=
  let b := chordBase vk e
  s.getF b F.NI_CHORD_ROUTE0_turn4 * 67108864 + s.getF b F.NI_CHORD_ROUTE0_turn3 * 1048576 + s.getF b F.NI_CHORD_ROUTE0_turn2 * 16384 +
  s.getF b F.NI_CHORD_ROUTE0_turn1 * 256 + s.getF b F.NI_CHORD_ROUTE0_first_dir * 16 + s.getF b F.NI_CHORD_ROUTE0_first_ring * 8 +
  s.getF b F.NI_CHORD_ROUTE0_turns
/-- NI_CHORD_ROUTE1 of an entry. -/
def State.chordWord1 (s : State) (vk e : Nat) : Nat :=
  s.getF (chordBase vk e) F.NI_CHORD_ROUTE1_turn6 * 64 + s.getF (chordBase vk e) F.NI_CHORD_ROUTE1_turn5
/-- A packet takes its route from the chord table of its source (R312): request, stream and management packets only. -/
def State.chordRoute (s : State) (vk : Nat) (p : Pkt) : Pkt :=
  if p.cls = 1 then p
  else match s.chordOf vk p.dst p.cls with
    | some e => { (p.set 0 30 30 1) with hdr := ((p.set 0 30 30 1).hdr.set 4 (s.chordWord0 vk e)).set 5 (s.chordWord1 vk e) }
    | none => p

/-- The vertex that serves a device-local address for a source (R311); none is answered with BAD_TARGET. -/
def State.homeOf (s : State) (srcX a : Nat) : Option Nat :=
  if a < fmSize then
    let p := s.phys a
    let c := channelOf (lineOf p)
    some (vkOfLocal (stackOf p) (if c < 8 then 38 + c else 50 + (c - 8)))
  else if 0x4000000000 ≤ a ∧ a < 0x5000000000 then
    let q := bitsOf a 35 34
    if s.flag (qsysBase q) F.QSYS_REGPORT_present then some (vkOfLocal q (s.getF (qsysBase q) F.QSYS_REGPORT_vertex)) else none
  else if 0x6000000000 ≤ a ∧ a < 0x7000000000 then
    (if s.ident.site = 0 then none
     else
       let i := bitsOf a 7 6
       -- R498: a retired C–Q2 or C–Q3 edge moves its partner indices to the other pair
       some (pEndpoint (if s.ring.remap.contains 6 then i % 2 + 2 else if s.ring.remap.contains 7 then i % 2 else i)))
  else if sramBase ≤ a ∧ a < sramBase + sramSize then
    (let i := a / 64 % 6
     let west := if s.ring.remap.contains 6 then false else if s.ring.remap.contains 7 then true else decide (srcX < 12)
     some (cEndpoint (if west then i else 6 + i)))
  else none

/-! ## Sending (R307, R312, R329) -/

/-- Flits of a queue that have not left. -/
def flitsHeld (l : List Queued) : Nat := l.foldl (fun a q => a + (q.pkt.flits - q.gone)) 0
/-- The local queue of a class has room for `n` flits (R303): nothing waits ahead of them. -/
def State.localRoom (s : State) (vk cls n : Nat) : Bool :=
  decide (flitsHeld (s.vq vk 4 (2 * cls)) + n ≤ 18) && (s.ni vk).back.all (fun q => q.pkt.cls != cls)
/-- A packet enters the local queue of its class, or waits for room in it. -/
def State.queueLocal (s : State) (vk : Nat) (q : Queued) : State :=
  if s.localRoom vk q.pkt.cls q.pkt.flits then s.setVq vk 4 (2 * q.pkt.cls) (s.vq vk 4 (2 * q.pkt.cls) ++ [q])
  else s.setNi vk { s.ni vk with back := (s.ni vk).back ++ [q] }
/-- What waits for room enters the local queues as far as they have it. -/
def State.refill (s : State) (vk : Nat) : State :=
  (s.ni vk).back.foldl (fun s q => s.queueLocal vk q) (s.setNi vk { s.ni vk with back := [] })
/-- The packet goes to a local queue of its source. -/
def State.enqueue (s : State) (vk : Nat) (p : Pkt) : State :=
  (s.setNi vk { s.ni vk with towards := (p.dst, p.cls) :: (s.ni vk).towards.filter (· != (p.dst, p.cls)) }).queueLocal vk { pkt := p, time := s.now }
/-- A route change at `vk` concerns a destination: it lies in the rectangle of the new match word, or of the entry replaced. -/
def State.changeHits (s : State) (vk dst cls : Nat) : Bool :=
  match (s.ni vk).change with
  | some (e, ws) =>
    let w := ws.getD 0 0
    s.chordHit vk e dst cls || (decide (bitsOf w 14 10 ≤ vkY dst) && decide (vkY dst ≤ bitsOf w 19 15) && decide (bitsOf w 4 0 ≤ vkX dst) &&
      decide (vkX dst ≤ bitsOf w 9 5))
  | none => false
/-- An NI sends a packet: held behind a route change (R329), else by chord or XY. -/
def State.send (s : State) (vk : Nat) (p : Pkt) : State :=
  if s.changeHits vk p.dst p.cls then s.setNi vk { s.ni vk with held := (s.ni vk).held ++ [p] } else s.enqueue vk (s.chordRoute vk p)

/-- The path word of the answer to a request that carried one (R591): its slots reversed, from slot 0, to be followed first. -/
def backPath (w6 : Nat) : Nat :=
  let n := bitsOf w6 31 29
  if n = 0 then 0
  else n * 536870912 + 33554432 + (List.range n).foldl (fun a j => a + bitsOf w6 (4 * (n - 1 - j) + 3) (4 * (n - 1 - j)) * 16 ^ j) 0
/-- The device's own lattice address, 0xFFFF while unassigned (R589). -/
def State.latAddr (s : State) : Nat := s.lat.addr.getD 0xFFFF

/-- The answer to a request (R302): from `vk` to its source, in the response class, or in management for a management request; `bad` lists
the poisoned pieces of its data. -/
def State.respond (s : State) (vk : Nat) (p : Pkt) (op status : Nat) (data : List Byte) (bad : List (Nat × Nat)) : State :=
  let cls := if p.cls = 3 then 3 else 1
  let r := mkPkt vk p.src op cls 0 (p.f 1 23 20) (max 1 data.length) p.tag status data (flitsBad bad data.length)
  s.send vk (if p.f 1 18 18 = 1 then { r with hdr := ((r.set 1 18 18 1).hdr.set 3 (s.latAddr * 65536 + bitsOf (p.hdr.getD 3 0) 31 16)).set 6 (backPath (p.hdr.getD 6 0)) } else r)

/-! ## The route at a vertex (R304, R309, R310, R313, R322) -/

/-- What a vertex does with a packet: pass it on in a direction with a dateline bit (`step`: the chord's next turn is taken), hand it
to its local port, take it into the relay buffer, or turn it back with a status. -/
inductive Act where
  | go (dir : Nat) (d step : Bool)
  | deliver
  | relay (dir : Option Nat) (step : Bool)
  | back (status : Nat)
deriving DecidableEq, Repr

/-- A packet leaves a vertex in a direction: a broken link turns it back (R324). The dateline lies on the return track, and on a folded
or split ring at the turn-back that the ascending track reaches. Until its ring has entered the fold, a packet on the old route is held at the
broken link and returned (R322, R329). -/
def State.leave (s : State) (vk dir : Nat) (d step : Bool) : Act :=
  let r := ringAt vk dir
  let i := linkIdx r (posAt vk dir) dir
  let whole := (s.ringBreaks r).isEmpty
  if !s.linkBroken (linkNo r i) then .go dir (d || (whole && i + 1 == ringSize r)) step
  else if s.ring.changing.contains (.fold r) then .back 0x0501
  else
    let j := linkIdx r (posAt vk dir) (flip dir)
    if s.linkBroken (linkNo r j) then .back 0x0501 else .go (flip dir) (d || dir % 2 == 0) step
/-- A packet enters ring X (`y` false) or Y towards a position (R309): ROUTE_BLOCKED where a split cuts it off (R325). -/
def State.enter (s : State) (vk : Nat) (y : Bool) (tp : Nat) : Act :=
  let base := if y then 2 else 0
  let r := ringAt vk base
  if s.ringReach r (posAt vk base) tp then s.leave vk (base + fewer r (posAt vk base) tp) false false else .back 0x0203
/-- The row of the relay vertex of column x (R310). -/
def State.relayRow (s : State) (x : Nat) : Nat := if s.ring.relays.contains x then 14 else 15
/-- Turn k (1–6) of a chord packet. -/
def Pkt.turn (p : Pkt) (k : Nat) : Nat :=
  if k ≤ 4 then bitsOf (p.hdr.getD 4 0) (6 * k + 7) (6 * k + 2) else bitsOf (p.hdr.getD 5 0) (6 * (k - 5) + 5) (6 * (k - 5))
/-- A chord packet that entered this vertex in a direction, or starts in it (R313). -/
def State.chordAct (s : State) (vk inp : Nat) (q : Queued) : Act :=
  let p := q.pkt
  let cur := if inp < 4 then inp else p.f 4 3 3 * 2 + p.f 4 4 4
  let n := p.f 4 7 5
  let t := p.turn (n + 1)
  let at_ := if t / 2 = 31 then posAt p.dst cur else t / 2
  if n < p.f 4 2 0 ∧ posAt vk cur = at_ then
    (if s.bypass vk then .back 0x0203 else if 2 ≤ cur then .relay (some (t % 2)) true else s.leave vk (2 + t % 2) false true)
  else s.leave vk cur q.d false
/-- A vertex takes a packet into its relay buffer, unless it is in bypass (R321, R322). -/
def State.relayAt (s : State) (vk : Nat) : Act := if s.bypass vk then .back 0x0203 else .relay none false
/-- An answer, a credit, or a packet on its way home: a fenced local port takes it, since the fence only keeps requests out (R320). -/
def Pkt.answers (p : Pkt) : Bool := p.returned || p.op == 9 || p.op == 0xA || p.op == 0xB || p.op == 0xC || p.op == 0xD || p.op == 0xF
/-- A packet of an endpoint vertex of this column has not been relayed yet (R310): it left no ring and took no turn. A chord that starts on
the Y-ring is told from it by place. -/
def State.unrelayed (s : State) (vk inp : Nat) (q : Queued) : Bool :=
  let p := q.pkt
  (inp == 2 || inp == 3) && decide (16 ≤ vkY p.src) && vkX p.src == vkX vk &&
  (!p.chord || (p.f 4 7 5 == 0 && (p.f 4 3 3 == 0 || (inp == 3 && !q.d && decide (s.relayRow (vkX vk) ≤ vkY vk)))))
/-- A packet of an endpoint vertex, without a chord, is on its first leg, down its Y-ring to the relay vertex of its column (R310); where the ring
is folded between them, it comes there from below. -/
def State.firstLeg (s : State) (vk inp : Nat) (q : Queued) : Bool :=
  let p := q.pkt
  let y := s.relayRow (vkX vk)
  !p.chord && !q.d && decide (16 ≤ vkY p.src) && vkX p.src == vkX vk && ((inp == 3 && decide (y < vkY vk)) || (inp == 2 && decide (vkY vk < y)))
/-- The route of a packet at a vertex, from input `inp` (0–3 a link, 4 local, 5 relay). -/
def State.route (s : State) (vk inp : Nat) (q : Queued) : Act :=
  let p := q.pkt
  match q.dir with
  | some dir => s.leave vk dir false false
  | none =>
    if vk = p.dst ∧ !s.firstLeg vk inp q then (if s.bypass vk && !p.answers then .back 0x0202 else .deliver)
    else if 16 ≤ vkY vk ∧ (inp = 4 ∨ (inp = 5 ∧ vkX vk ≠ vkX p.dst)) then s.leave vk 3 false false
    else if s.unrelayed vk inp q && vkY vk == s.relayRow (vkX vk) then s.relayAt vk
    else if s.unrelayed vk inp q && (p.chord || s.firstLeg vk inp q) then s.leave vk inp q.d false
    else if p.chord && vkY vk < 16 then s.chordAct vk inp q
    else if inp = 2 ∨ inp = 3 then
      (if vkX vk = vkX p.dst ∨ 16 ≤ vkY vk then s.leave vk inp q.d false
       else s.relayAt vk)
    else if vkX vk ≠ vkX p.dst then
      (if inp < 2 then s.leave vk inp q.d false else s.enter vk false (vkX p.dst))
    else if inp < 2 ∧ s.bypass vk then .back 0x0203
    else s.enter vk true (vkY p.dst)

/-! ## Flits to the partner (R508, R509) -/

/-- One step of CRC-32 with the IEEE 802.3 polynomial, bit-reflected. -/
def crc32Step (c : Nat) (b : Byte) : Nat :=
  (List.range 8).foldl (fun c _ => if c % 2 = 1 then (c / 2) ^^^ 0xEDB88320 else c / 2) (c ^^^ b.toNat)
/-- The CRC-32 of a list of bytes (IEEE 802.3). -/
def crc32 (l : List Byte) : Nat := (l.foldl crc32Step 0xFFFFFFFF) ^^^ 0xFFFFFFFF

/-- One slot of a partner flit: 67 bytes of a ring flit, then valid and the endpoint; an empty slot is 0. -/
def slotBytes : Option (Nat × BitVec 536) → List Byte
  | some (e, f) => bytesOf 67 f.toNat ++ bytesOf 1 (128 + 32 * e)
  | none => bytesOf 68 0
/-- A partner flit (R508): three slots, its sequence number, the number of the last flit received good, nak, the credits returned, and the
CRC-32 of the rest. -/
def partnerFlit (f : UFlit) (ack : Nat) (nak : Bool) (owe : SMap Nat) : List Byte :=
  let l := [0, 1, 2].flatMap (fun i => slotBytes f.slots[i]?) ++ bytesOf 2 f.seq ++ bytesOf 2 ack ++ bytesOf 4 (bit nak) ++
    (List.range 32).flatMap (fun k => bytesOf 1 (SMap.get 0 owe k)) ++ bytesOf 8 0
  l ++ bytesOf 4 (crc32 l)
/-- The flits that the next partner flit takes: up to three in order, each where its queue at the partner has one of its 18 places free (R509);
the others of a full queue wait behind it. -/
def Ucie.fill (u : Ucie) : List (Nat × BitVec 536) × Ucie :=
  let r := u.queue.foldl (fun (a : List (Nat × BitVec 536) × List (Nat × BitVec 536) × SMap Nat × List Nat) x =>
    let k := 8 * x.1 + flitVc x.2
    if a.1.length < 3 && !a.2.2.2.contains k && decide (SMap.get 0 a.2.2.1 k < 18) then
      (a.1 ++ [x], a.2.1, SMap.put 0 a.2.2.1 k (SMap.get 0 a.2.2.1 k + 1), a.2.2.2)
    else (a.1, a.2.1 ++ [x], a.2.2.1, k :: a.2.2.2)) ([], [], u.used, [])
  (r.1, { u with queue := r.2.1, used := r.2.2.1 })
/-- The adapter sends one partner flit, which it keeps for resend: with slots or credits to send, or where `force` asks for an
acknowledgement or a resend (assumption log 101). No more than 256 wait for their acknowledgement (R509). -/
def State.ucieSend (s : State) (force : Bool) : State :=
  let u := s.opt.ucie
  if s.getF ucieBase F.UCIE_LINK_state ≠ 3 ∨ 256 ≤ u.sent.length then s
  else
    let r := u.fill
    if r.1.isEmpty && u.owe.isEmpty && !force then s
    else
      let f : UFlit := { seq := u.txSeq, slots := r.1, owe := u.owe }
      let s1 : State := { s with opt := { s.opt with ucie := { r.2 with txSeq := (u.txSeq + 1) % 65536, sent := u.sent ++ [f], owe := [] } } }
      s1.emit (.partner (partnerFlit f ((u.rxSeq + 65535) % 65536) u.naked u.owe))
/-- What waits for the partner is sent as far as its credits allow. -/
def State.ucieDrain (s : State) : State := s.opt.ucie.queue.foldl (fun s _ => if s.opt.ucie.queue.isEmpty then s else s.ucieSend false) s
/-- A packet goes to the partner at endpoint e, as ring flits on the virtual channel of its class (R508). -/
def State.toPartner (s : State) (e : Nat) (p : Pkt) : State :=
  ({ s with opt := { s.opt with ucie := { s.opt.ucie with
      queue := s.opt.ucie.queue ++ (p.toFlits (2 * p.cls) 0).map (fun f => (e, f)) } } } : State).ucieDrain
/-- Every flit not acknowledged is sent again (R509), with the credits that it returns. -/
def State.ucieResend (s : State) : State :=
  let u := s.opt.ucie
  let s1 : State := { s with opt := { s.opt with ucie := { u with sent := u.sent.map (fun f => { f with tries := f.tries + 1 }) } } }
  u.sent.foldl (fun s f => s.emit (.partner (partnerFlit f ((u.rxSeq + 65535) % 65536) u.naked f.owe))) s1

end Sys2Proof.Machine
end

