-- ==== Sys2Proof/Machine/Glenu.lean ====
section
/-! DEFINITION. The state of Glenu links (R576, R588, R605) and what their member lanes do to it. -/
namespace Sys2Proof.Machine

/-- The codes of a link's state (R588). -/
def glOff : Nat := 0
@[inherit_doc glOff] def glAligning : Nat := 1
@[inherit_doc glOff] def glHello : Nat := 2
@[inherit_doc glOff] def glUp : Nat := 3
@[inherit_doc glOff] def glFailed : Nat := 4

/-- A link. -/
def State.glink (s : State) (k : Nat) : GLink := SMap.get {} s.lat.links k
/-- Replaces it. -/
def State.setGlink (s : State) (k : Nat) (l : GLink) : State := { s with lat := { s.lat with links := SMap.put {} s.lat.links k l } }
/-- Fields of a link record (R604). -/
def GLink.enabled (l : GLink) : Bool := l.word.testBit 31
@[inherit_doc GLink.enabled] def GLink.south (l : GLink) : Bool := l.word.testBit 30
@[inherit_doc GLink.enabled] def GLink.rate (l : GLink) : Nat := bitsOf l.word 29 28
@[inherit_doc GLink.enabled] def GLink.isSealed (l : GLink) : Bool := l.word.testBit 27
@[inherit_doc GLink.enabled] def GLink.slot (l : GLink) : Nat := bitsOf l.word 26 25
@[inherit_doc GLink.enabled] def GLink.first (l : GLink) : Nat := bitsOf l.word 7 0
/-- The lanes of a link (R576). -/
def GLink.lanes (l : GLink) : List Nat := (List.range 4).map (· + l.first)
/-- The link whose record in force names lane n. -/
def State.linkOfLane (s : State) (n : Nat) : Option Nat :=
  (List.range 16).find? (fun k => (s.glink k).enabled && !(s.glink k).pend && decide ((s.glink k).first ≤ n) && decide (n < (s.glink k).first + 4))

/-- The source of a link (R608). -/
def glSrc (k : Nat) : Nat := 784 + k
/-- A link changes state (R588, R606, R608): leaving UP it discards its replay buffer and what it holds in part. -/
def State.toGl (s : State) (k v : Nat) : State :=
  let l := s.glink k
  if l.state = v then s
  else
    let l1 := if v = glUp then { l with state := v }
      else { l with state := v, sent := [], part := [], used := [], owed := [], nak := false }
    (s.setGlink k l1).signal (glSrc k)

/-- Adds to one of a link's 48-bit counters: the new value, and whether it saturated now (R605). -/
def glAdd (v n : Nat) : Nat × Bool := (min ctrMax (v + n), decide (v < ctrMax) && decide (ctrMax ≤ v + n))
/-- The record of a saturation. -/
def State.glOver (s : State) (k : Nat) (full : Bool) : State :=
  if full then (s.setGlink k { s.glink k with satd := true }).signal (glSrc k) else s

/-- Word 3 of a link's query (R605). A link of a pending record reports OFF (R607). -/
def GLink.word3 (l : GLink) : Nat :=
  (if l.pend then glOff else l.state) * 268435456 + bit l.assigned * 134217728 + bit l.same * 67108864 + bit l.mismatch * 33554432 +
  l.arrival * 2097152 + bit l.satd * 1048576 + l.peer % 65536

/-- A link's fault is permanent (R584, R586): FAILED, with a journal entry. -/
def State.glFail (s : State) (k : Nat) : State :=
  if (s.glink k).state = glOff ∨ (s.glink k).state = glFailed then s
  else
    let s1 := s.toGl k glFailed
    s1.journal 0x1F true (targetWord 0 0x000 k) k (s1.glink k).word3 0

/-- Lane n leaves IN_SERVICE (R588). -/
def State.glLaneLost (s : State) (n : Nat) : State :=
  match s.linkOfLane n with
  | some k => if (s.glink k).state = glUp ∨ (s.glink k).state = glHello then s.toGl k glAligning else s
  | none => s
/-- Lane n suffers a permanent fault or is retired (R584). -/
def State.glLaneFailed (s : State) (n : Nat) : State :=
  match s.linkOfLane n with
  | some k => s.glFail k
  | none => s
/-- An UP link takes essence from the transmit port of lane n in a quadrant of its side (R600). -/
def State.glUses (s : State) (n : Nat) (south : Bool) : Bool :=
  match s.linkOfLane n with
  | some k => (s.glink k).state == glUp && (s.glink k).south == south
  | none => false

end Sys2Proof.Machine
end

