-- ==== Sys2Proof/Machine/Pcs.lean ====
section
/-! DEFINITION. What a lane's receiver makes of the bits of one word (R379, R383): the 8b/10b code of IEEE 802.3 Clause 36, the Clause 49 sync
headers and descrambler, and NRZI with the SMPTE descrambler. The spec names these standards; their tables and polynomials are taken from them
(PRESUMED, assumption log 107). In every word bit 0 is the bit that arrived first. -/
namespace Sys2Proof.Machine

/-! ## 8b/10b (Clause 36) -/

/-- abcdei of D.0 to D.31 under negative running disparity, a lowest. -/
def code6 : List Nat :=
  [57, 46, 45, 35, 43, 37, 38, 7, 39, 41, 42, 11, 44, 13, 14, 58, 54, 49, 50, 19, 52, 21, 22, 23, 51, 25, 26, 27, 28, 29, 30, 53]
/-- fghj of D.x.0 to D.x.7 (the primary D.x.7) under negative running disparity, f lowest. -/
def code4 : List Nat := [13, 9, 10, 3, 11, 5, 6, 7]
/-- The control characters under negative running disparity: the ten bits and the octet. -/
def codeK : List (Nat × Nat) :=
  [(188, 0x1C), (636, 0x3C), (700, 0x5C), (828, 0x7C), (316, 0x9C), (380, 0xBC), (444, 0xDC), (124, 0xFC), (87, 0xF7), (91, 0xFB), (93, 0xFD),
   (94, 0xFE)]
/-- The ones among the low `n` bits. -/
def onesOf (n v : Nat) : Nat := ((List.range n).map (fun i => bit (v.testBit i))).sum
/-- The running disparity after an n-bit sub-block (Clause 36.2.4.4), `true` for positive: more ones, or 000111 and 0011, leave it positive, more zeros, or
111000 and 1100, negative. -/
def dispAfter (n v : Nat) (rd : Bool) : Bool :=
  let k := onesOf n v
  if n < 2 * k ∨ (n = 6 ∧ v = 56) ∨ (n = 4 ∧ v = 12) then true
  else if 2 * k < n ∨ (n = 6 ∧ v = 7) ∨ (n = 4 ∧ v = 3) then false
  else rd
/-- A sub-block code under the running disparity: complemented under a positive one where it is not balanced, or is one of the two that change sides. -/
def codeAt (n c : Nat) (rd : Bool) : Nat :=
  if rd && (2 * onesOf n c != n || (n == 6 && c == 7) || (n == 4 && c == 3)) then 2 ^ n - 1 - c else c
/-- The place of a value in a list. -/
def placeOf (l : List Nat) (v : Nat) : Option Nat := (List.range l.length).find? (fun i => l.getD i 0 == v)
/-- The octet of a data character, the second sub-block under the disparity that the first one leaves; the alternate D.x.7 stands where the primary one would
make five equal bits in a row. -/
def dataOctet (v : Nat) (rd : Bool) : Option Nat :=
  let a := v % 64
  let b := v / 64
  let rd1 := dispAfter 6 a rd
  match placeOf (code6.map (fun c => codeAt 6 c rd)) a with
  | none => none
  | some x =>
    let alt := if rd1 then x == 11 || x == 13 || x == 14 else x == 17 || x == 18 || x == 20
    let y := if alt then (if b = (if rd1 then 1 else 14) then some 7 else placeOf ((code4.take 7).map (fun c => codeAt 4 c rd1)) b)
      else placeOf (code4.map (fun c => codeAt 4 c rd1)) b
    y.map (fun y => 32 * y + x)
/-- A ten-bit code group: the character (bit 8 is the K flag), or none for a code violation, and the running disparity after it. -/
def decode10 (v : Nat) (rd : Bool) : Option Nat × Bool :=
  let k := codeK.find? (fun p => (if rd then 1023 - p.1 else p.1) == v)
  (match k with | some p => some (256 + p.2) | none => dataOctet v rd, dispAfter 4 (v / 64) (dispAfter 6 (v % 64) rd))

/-! ## Descramblers -/

/-- A self-synchronising descrambler over `n` bits: `hist` holds the `len` scrambled bits before, the latest lowest, and each bit is added to those
that lie `a + 1` and `b + 1` before it. Answers the descrambled bits and the history. -/
def descramble (a b len : Nat) : Nat → Nat → Nat → Nat × Nat
  | 0, _, hist => (0, hist)
  | n + 1, v, hist =>
    let x := v % 2
    let r := descramble a b len n (v / 2) ((2 * hist + x) % 2 ^ len)
    (bit ((x == 1) ^^ hist.testBit a ^^ hist.testBit b) + 2 * r.1, r.2)
/-- NRZI over `n` bits: a 1 for each change from the bit before. Answers the bits and the last one received. -/
def nrzi : Nat → Nat → Bool → Nat × Bool
  | 0, _, last => (0, last)
  | n + 1, v, last =>
    let x := v % 2 == 1
    let r := nrzi n (v / 2) x
    (bit (x ^^ last) + 2 * r.1, r.2)

/-! ## One word -/

/-- What a word is: a code violation or invalid sync header, the decoded value (a character, 66 bits, or the raw word), and whether it ends a filler. -/
structure PcsWord where
  bad    : Bool := false
  value  : Nat := 0
  filler : Bool := false
deriving DecidableEq, Repr

/-- Bits in a word of a mode (R382): one character, one block, 64 raw bits, or one 20-bit word. -/
def pcsBits (pcs : Nat) : Nat := [10, 66, 64, 20].getD pcs 20
/-- One word through the PCS of mode `pcs` (R379), `fill` being LANE_SET word 9 (R383). -/
def pcsWord (pcs fill v : Nat) (x : PcsX) : PcsWord × PcsX :=
  if pcs = 0 then
    let d := decode10 (v % 1024) x.rd
    let c := d.1.getD 512
    let ends := if fill.testBit 31 then c == bitsOf fill 17 9 && x.last == bitsOf fill 8 0 else c == bitsOf fill 8 0
    ({ bad := d.1.isNone, value := c, filler := ends }, { x with rd := d.2, last := c })
  else if pcs = 1 then
    let h := v % 4
    let d := descramble 38 57 58 64 (v / 4) x.hist
    ({ bad := h == 0 || h == 3, value := h + 4 * d.1, filler := h == 1 && d.1 == 0x1E }, { x with hist := d.2 })
  else if pcs = 2 then ({ value := v % 2 ^ 64 }, x)
  else
    let n := nrzi 20 v x.line
    let d := descramble 3 8 9 20 n.1 x.hist
    ({ value := d.1 }, { x with line := n.2, hist := d.2 })

end Sys2Proof.Machine
end

