-- ==== Sys2Proof/Machine/Lanes.lean ====
section
/-! DEFINITION. Serial lanes (R374–R413): LANE_SET and the lane state machine, reference pins, patterns, eye scans, bit slips,
calibration, retirement and the elastic buffer. -/
namespace Sys2Proof.Machine

/-! ## Shared operations -/

/-- Lane states (R388). -/
def lnOff : Nat := 0
def lnCal : Nat := 1
def lnNoSignal : Nat := 2
def lnLocking : Nat := 3
def lnHunting : Nat := 4
def lnService : Nat := 5
def lnRecovering : Nat := 6
def lnTest : Nat := 7
def lnRetired : Nat := 8

/-- The device lane a command targets: die 5 or 6, block 0x100 + local lane, instance 0. -/
def Cmd.laneOf (c : Cmd) : Option Nat :=
  if (c.die = 5 ∨ c.die = 6) ∧ c.inst = 0 ∧ 0x100 ≤ c.blk ∧ c.blk < 0x148 then some (72 * (c.die - 5) + (c.blk - 0x100)) else none
/-- The target word of lane `n`. -/
def laneWord (n : Nat) : Word := wd (targetWord (5 + n / 72) (0x100 + n % 72) 0)
/-- The lane's record. -/
def State.laneX (s : State) (n : Nat) : LaneX := SMap.get {} s.lanes n
/-- Replaces it. -/
def State.setLaneX (s : State) (n : Nat) (x : LaneX) : State := { s with lanes := SMap.put {} s.lanes n x }
/-- The event source of lane `n`. -/
def laneSrc (n : Nat) : Nat := 128 + n
/-- A record of LANE_STAT (R413). -/
def State.laneMark (s : State) (n : Nat) (f : Fld) : State := s.mark (laneBase n) f (laneSrc n)
/-- Counts on a lane counter (R412). Code violations and elastic-buffer errors are error events (R470). -/
def State.laneCount (s : State) (n : Nat) (f : Fld) (k : Nat) : State :=
  (if f = F.LANE_SH_CODE_LO_lo ∨ f = F.LANE_SH_EBERR_LO_lo then s.protEvents n k else s).count (laneBase n) f k (laneBase n) F.LANE_STAT_cnt_overflow (laneSrc n)
/-- rx_en of the LANE_SET in force. -/
def State.laneRxEn (s : State) (n : Nat) : Bool := (s.laneCfg n).testBit 31
/-- tx_en of the LANE_SET in force. -/
def State.laneTxEn (s : State) (n : Nat) : Bool := (s.laneCfg n).testBit 30
/-- pcs of the LANE_SET in force (R379). -/
def State.lanePcs (s : State) (n : Nat) : Nat := bitsOf (s.laneCfg n) 29 28
/-- The lane's group is ON. -/
def State.laneOn (s : State) (n : Nat) : Bool := s.dom (groupDom (n / 8)) == 1

/-- tx_ready (R391). -/
def State.settleTx (s : State) (n : Nat) : State :=
  s.setB (laneBase n) F.LANE_STAT_tx_ready
    (s.laneTxEn n && (s.laneX n).pll && s.laneState n != lnCal && s.laneState n != lnRetired && s.laneState n != lnOff)

/-- The lane oversamples (R375). -/
def State.laneWide (s : State) (n : Nat) : Bool := bitsOf (s.laneCfg n) 27 26 != 0
/-- The bits of LANE_RXEQ that a receiver has: CTLE alone while it oversamples (R375, R412). -/
def State.eqMask (s : State) (n : Nat) : Nat := if s.laneWide n then 0x1F000000 else 0x1F3FFFFF
/-- The receiver adapts (R401): in service, native, not frozen and clocked. -/
def State.adapts (s : State) (n : Nat) : Bool :=
  s.laneState n == 5 && !s.laneWide n && !(s.laneCfg n).testBit 13 && (s.laneX n).held.isNone
/-- The receive equaliser takes new values, its own (assumption log 2). -/
def State.newEq (s : State) (n : Nat) : State :=
  let f := s.freeVal
  f.2.setLaneX n { f.2.laneX n with eq := f.1 &&& s.eqMask n }
/-- An adapting receiver stops here, with the values that it has reached (R401). -/
def State.settleEq (s : State) (n : Nat) : State := if s.adapts n then s.newEq n else s
/-- A receiver that goes to LOCKING starts with new equaliser values: out of OFF, NO_SIGNAL or a calibration, and not frozen with values that it has (R401). -/
def State.eqStarts (s : State) (n : Nat) : Bool :=
  (s.laneState n == lnOff || s.laneState n == lnCal || s.laneState n == lnNoSignal) && (!(s.laneCfg n).testBit 13 || (s.laneX n).eq == 0)
/-- The far-end offset that a receiver in lock tracks (R375, in 0.1 ppm; assumption log 2). -/
def State.newPpm (s : State) (n : Nat) : State :=
  let f := s.freeVal
  let m := if s.laneWide n then 5000 else 3000
  let v : Int := ((f.1 % (2 * m + 1) : Nat) : Int) - (m : Int)
  (f.2.setLaneX n { f.2.laneX n with cdr := v }).setF (laneBase n) F.LANE_PPM_ppm (i32 v)
/-- The lane's recovered clock now (R385, R386): at the offset that the CDR tracks or last tracked, and in NO_SIGNAL at the lane's own rate. -/
def State.recoveredNow (s : State) (n : Nat) : Hz :=
  let hz := s.recoveredHz n
  let ppm : Int := if s.laneState n = lnNoSignal then 0 else (s.laneX n).cdr
  { num := hz.num * (10000000 + ppm).toNat, den := hz.den * 10000000 }

/-- Goes to a state (R388). The far-end offset is the receiver's own and reads 0 outside service; the equaliser starts at values of its own when
the receiver starts and adapts in service (R401). The lane's source is live while rx_en = 1 in the states of R413. -/
def State.toLane (s : State) (n v : Nat) : State :=
  let b := laneBase n
  let s0 := (if v = lnLocking ∧ s.eqStarts n then s.newEq n else s.settleEq n)
  let s1 := s0.setF b F.LANE_STAT_state v
  let s2 := if v = lnService ∨ v = lnTest then s1.newPpm n else s1.lower b F.LANE_PPM_ppm
  let s3 := if v = lnTest then s2 else s2.lower b F.LANE_STAT_prbs_locked
  let s4 := if v = lnService ∨ v = lnTest then s3.settleTx n else ((s3.settleTx n).protBad n).protCut n
  let s5 := if s.laneState n = lnService ∧ v ≠ lnService then s4.glLaneLost n else s4
  if s.laneRxEn n && (v == lnNoSignal || v == lnLocking || v == lnHunting || v == lnRecovering || v == lnRetired) then
    s5.signal (laneSrc n)
  else s5

/-- The receiver starts: LOCKING with a signal, else NO_SIGNAL (R388). -/
def State.startRx (s : State) (n : Nat) : State :=
  s.toLane n (if s.flag (laneBase n) F.LANE_STAT_sig_detect then lnLocking else lnNoSignal)

/-- The receiver stops (R388). -/
def State.stopRx (s : State) (n : Nat) : State :=
  let s1 := (s.lower (laneBase n) F.LANE_STAT_sig_detect).toLane n lnOff
  s1.setLaneX n { s1.laneX n with eq := 0, cdr := 0, pcs := {} }

/-- LANE_INFO as a word (R412). -/
def State.laneInfo (s : State) (n : Nat) : Nat :=
  s.getF (laneBase n) F.LANE_INFO_cause * 16777216 + n * 256 + n % 72 / 8 * 16 + n % 8

/-- LANE_STAT[31:4] as a word (R412). -/
def State.laneStat (s : State) (n : Nat) : Nat :=
  [F.LANE_STAT_ref_lost, F.LANE_STAT_cal_failed, F.LANE_STAT_suspect, F.LANE_STAT_eb_underflow, F.LANE_STAT_eb_overflow,
   F.LANE_STAT_align_lost, F.LANE_STAT_sig_lost, F.LANE_STAT_cnt_overflow, F.LANE_STAT_cal_stale, F.LANE_STAT_prbs_locked,
   F.LANE_STAT_sig_detect, F.LANE_STAT_tx_ready, F.LANE_STAT_state].foldl (fun w f => w + s.getF (laneBase n) f * 2 ^ f.lo) 0

/-- A journal entry 0x18 for lane `n`. -/
def State.laneJournal (s : State) (n : Nat) (permanent : Bool) : State :=
  s.journal 0x18 permanent (targetWord (5 + n / 72) (0x100 + n % 72) 0) (s.laneInfo n) (s.laneStat n) 0

/-- REFC_PPM of a pin pair: 0 while it is unused or absent, and else what is measured, a free value (R411, assumption log 2). -/
def State.settleRefPpm (s : State) (l k : Nat) : State :=
  let b := refcBase l + 4 * k
  if s.flag b F.REFC_STATK_in_use && s.flag b F.REFC_STATK_present then s.freeVal.2.setF b F.REFC_PPM_ppm s.freeVal.1
  else s.lower b F.REFC_PPM_ppm
/-- REFC shows which pin pairs of lane die `l` are named, with their nominal (R377, R411). -/
def State.settleRefc (s : State) (l : Nat) : State :=
  (List.range 8).foldl (fun s k =>
    let user := ((List.range 72).map (· + 72 * l)).find? (fun n => bitsOf (s.laneCfg n) 31 30 != 0 && bitsOf (s.laneCfg n) 7 0 == k)
    let b := refcBase l + 4 * k
    (match user with
    | some n => (s.raise b F.REFC_STATK_in_use).setF b F.REFC_STATK_nominal (s.getF (laneBase n) F.LANE_REFKHZ_word7)
    | none => (s.lower b F.REFC_STATK_in_use).lower b F.REFC_STATK_nominal).settleRefPpm l k) s

/-- LSYS_CAL names local lane `k`, or shows that none is under full calibration (R410). -/
def State.putCal (s : State) (l : Nat) (k : Option Nat) : State :=
  (s.setB (lsysBase l) F.LSYS_CAL_busy k.isSome).setF (lsysBase l) F.LSYS_CAL_lane (k.getD 0)
/-- The lanes of group g, by device number, that are calibrated as it comes ON: those not retired, and out of CLOCK_STOP the stale ones (R403, R612). -/
def State.calDue (s : State) (g : Nat) : List Nat :=
  ((List.range 8).map (fun k => 8 * g + k)).filter (fun n =>
    s.laneState n != lnRetired && (SMap.get 0 s.pwr.last (groupDom g) == 0 || s.flag (laneBase n) F.LANE_STAT_cal_stale))
/-- A group of lane die l that is coming ON, whose lanes are calibrated one after another (R403): the first of them. -/
def State.calComing (s : State) (l : Nat) : Option Nat :=
  ((List.range 9).map (fun i => 9 * l + i)).findSome? (fun g => if s.dom (groupDom g) = 5 then (s.calDue g).head? else none)
/-- LSYS_CAL names lane `n`. -/
def State.calNames (s : State) (n : Nat) : Bool :=
  s.flag (lsysBase (n / 72)) F.LSYS_CAL_busy && s.getF (lsysBase (n / 72)) F.LSYS_CAL_lane == n % 72
/-- Local lane `n` is under full calibration, or no longer: then a group that comes ON goes on with its own (R403, R410). -/
def State.setCal (s : State) (n : Nat) (on : Bool) : State :=
  s.putCal (n / 72) (if on then some (n % 72) else (s.calComing (n / 72)).map (· % 72))
/-- A full calibration of lane n that runs ends with the lane's retirement (R407). -/
def State.calDrop (s : State) (n : Nat) : State := if s.calNames n then s.setCal n false else s
/-- The calibrations of a group that has come ON are over (R403): a calibration of another lane goes on. -/
def State.calDone (s : State) (g : Nat) : State := (List.range 8).foldl (fun s k => s.calDrop (8 * g + k)) s
/-- While a group of lane die l comes ON, the calibration goes on from lane to lane; when it does is the device's own (R403, R410; assumption log 2). -/
def State.calOn (s : State) (l : Nat) : State :=
  let n := 72 * l + s.getF (lsysBase l) F.LSYS_CAL_lane
  if s.flag (lsysBase l) F.LSYS_CAL_busy && s.dom (groupDom (n / 8)) == 5 then
    (match (s.calDue (n / 8)).find? (fun m => decide (n < m)) with
    | some m => if s.freeVal.1 % 2 = 0 then s.freeVal.2 else s.freeVal.2.putCal l (some (m % 72))
    | none => s)
  else s

/-- Retires a lane with a cause (R407): armed LANE_SET, running LANE_EYE and LANE_CAL end with RETIRED, grp_clk is cleared and
the entry is permanent. -/
def State.retireLane (s : State) (n cause : Nat) : State :=
  let b := laneBase n
  let s1 := (((s.calDrop n).endOps 0x0400 (laneWord n) .retired).endOps 0x0402 (laneWord n) .retired).endOps 0x0404 (laneWord n) .retired
  let s2 := s1.setF b F.LANE_CFG0_word5 (s.laneCfg n &&& 0xFF7FFFFF)
  let s3 := (s2.setF b F.LANE_INFO_cause cause).setLaneX n { s2.laneX n with scanning := false, pll := false }
  ((((s3.toLane n lnRetired).signal (laneSrc n)).laneJournal n true).uncharge (laneWord n).toNat).glLaneFailed n

/-- A permanent recovery fault (R405, R406). -/
def State.laneFault (s : State) (n : Nat) : State :=
  let s1 := s.laneMark n F.LANE_STAT_suspect
  if (s.laneCfg n).testBit 24 then s1.retireLane n 2 else (s1.laneJournal n true).glLaneFailed n

/-! ## LANE_SET -/

/-- Word 5 of LANE_SET is in range (R379, R381, R385, R392). -/
def laneWord5Ok (w : Nat) : Bool :=
  bitsOf w 27 26 != 3 && decide (bitsOf w 22 20 ≤ 2) && decide (bitsOf w 19 16 ≤ 7) && bitsOf w 11 8 == 0 &&
  decide (bitsOf w 7 0 ≤ 15) && !(w.testBit 25 && (bitsOf w 29 28 == 1 || bitsOf w 29 28 == 2))

/-- The rates of LANE_SET lie within the lane limits (R375, R376, R385). -/
def State.laneRatesOk (s : State) (w5 w6 w7 : Nat) : Bool :=
  let wide := bitsOf w5 27 26 != 0
  (s.laneRefHz w5 w7).within 50000000 400000000 &&
  (s.lanePma w5 w6 w7).within 1250000000 (if wide then 13750000000 else 56250000000) &&
  (s.lanePayload w5 w6 w7).within (if wide then 270000000 else 1250000000) (if wide then 1250000000 else 56250000000) &&
  (bitsOf w5 19 16 == 0 || (s.laneRecovered w5 w6 w7).within 10000000 800000000)

/-- The reference of LANE_SET exists (R377): a pin pair's nominal agrees with the other lanes that name it, a station loop is not
OFF. -/
def State.laneRefOk (s : State) (n w5 w7 : Nat) : Bool :=
  let ref := bitsOf w5 7 0
  if ref < 8 then
    decide (50000 ≤ w7) && decide (w7 ≤ 400000) &&
    ((List.range 72).map (· + 72 * (n / 72))).all (fun m =>
      m == n || bitsOf (s.laneCfg m) 31 30 == 0 || bitsOf (s.laneCfg m) 7 0 != ref || s.getF (laneBase m) F.LANE_REFKHZ_word7 == w7)
  else s.loopState (ref - 8) != slOff

/-- The parameters of LANE_SET. -/
def State.laneSetOk (s : State) (n : Nat) (c : Cmd) : Bool :=
  (c.instant 2).isSome && laneWord5Ok (c.w 5) && c.f 6 31 26 == 0 && c.f 6 15 4 == 0 && decide (8 ≤ c.f 6 25 16) &&
  c.f 8 31 24 == 0 && decide (c.f 8 23 16 ≤ 15) && decide (c.f 8 15 8 ≤ 63) && decide (c.f 8 7 0 ≤ 31) &&
  decide (c.f 8 23 16 + c.f 8 15 8 + c.f 8 7 0 ≤ 63) && c.f 9 30 18 == 0 && s.laneRefOk n (c.w 5) (c.w 7) &&
  s.laneRatesOk (c.w 5) (c.w 6) (c.w 7)

/-- LANE_SET changes rc_div or grp_clk of the lane that supplies its group's clock, while that clock is used (R395): its own, or, taking the group's
clock, the other lane's. -/
def State.laneSetInterrupts (s : State) (n : Nat) (c : Cmd) : Bool :=
  match s.groupClk (n / 8) with
  | some m => s.groupClkFeeds (n / 8) m &&
    (if m = n then bitsOf (s.laneCfg n) 19 16 != c.f 5 19 16 || c.f 5 23 23 == 0 else c.f 5 23 23 == 1)
  | none => false

/-- LANE_SET (R393–R396): armed in the lane. -/
def execLaneSet (c : Cmd) (s : State) : Result :=
  .next
    (let n := c.laneOf.getD 0
     let t := c.instant 2
     s.long 0x0400 c
       { len := c.len == 10, tgt := c.laneOf.isSome, par := s.laneSetOk n c, dom := s.laneOn n, ret := s.laneState n != lnRetired,
         free := !s.heldByOther c && !s.armedOn 0x0400 c.word1 &&
           (!s.laneSetInterrupts n c || c.f 5 12 12 == 1),
         late := s.inTime c.die t }
       (t.map s.instantTime) id)

/-- LANE_SET_QUERY: words 5–9 in effect (R109). -/
def execLaneSetQuery (c : Cmd) (s : State) : Result :=
  .next
    (let b := laneBase (c.laneOf.getD 0)
     s.immediate 0x0480 c { len := c.len == 2, tgt := c.laneOf.isSome, dom := !s.blkOff c.die c.blk }
       (fun s => (s, [wd (s.getF b F.LANE_CFG0_word5), wd (s.getF b F.LANE_CFG1_word6), wd (s.getF b F.LANE_REFKHZ_word7),
                      wd (s.getF b F.LANE_TXEQ_word8), wd (s.getF b F.LANE_FILL_word9)])))

/-- Settings that interrupt the lane when they change (R394): ref, mult, div, os, pcs, loopback, rx_en, tx_en. -/
def laneBreaks (old5 new5 old6 new6 : Nat) : Bool :=
  (old5 &&& 0xFC7000FF) != (new5 &&& 0xFC7000FF) || old6 != new6

/-- The registers of a lane take words 5–9. grp_clk on one lane clears it on the lane of its group that held it (R387), and
oversampling leaves the receiver its CTLE alone (R375). -/
def State.laneStore (s : State) (n : Nat) (ws : List Nat) : State :=
  let b := laneBase n
  let s := if (ws.getD 0 0).testBit 13 || bitsOf (ws.getD 0 0) 27 26 != 0 then s.settleEq n else s
  let s1 := if (ws.getD 0 0).testBit 23 then
      (List.range 8).foldl (fun s k => let m := n / 8 * 8 + k
        if m = n then s else s.setF (laneBase m) F.LANE_CFG0_word5 (s.laneCfg m &&& 0xFF7FFFFF)) s
    else s
  let s2 := if bitsOf (ws.getD 0 0) 27 26 = 0 then s1 else s1.protOversample n
  let s3 := ((((s2.setF b F.LANE_CFG0_word5 (ws.getD 0 0)).setF b F.LANE_CFG1_word6 (ws.getD 1 0)).setF b F.LANE_REFKHZ_word7
    (ws.getD 2 0)).setF b F.LANE_TXEQ_word8 (ws.getD 3 0)).setF b F.LANE_FILL_word9 (ws.getD 4 0)
  s3.setLaneX n { s3.laneX n with eq := (s3.laneX n).eq &&& s3.eqMask n }

/-- A lane applies settings (R388, R394): an interrupting change drops the PLL and restarts or stops the receiver, a receiver that stands in OFF
starts with rx_en = 1, and any other stops with rx_en = 0. -/
def State.laneApply (s : State) (n : Nat) (ws : List Nat) : State :=
  let breaks := laneBreaks (s.laneCfg n) (ws.getD 0 0) (s.getF (laneBase n) F.LANE_CFG1_word6) (ws.getD 1 0)
  let s1 := s.laneStore n ws
  let s2 := (s1.setLaneX n { s1.laneX n with set := ws, pll := (s1.laneX n).pll && !breaks, fails := 0 }).settleRefc (n / 72)
  if !breaks ∧ (s.laneState n = lnOff ∨ s.laneState n = lnRetired ∨ (ws.getD 0 0).testBit 31) then
    (if s.laneState n = lnOff ∧ (ws.getD 0 0).testBit 31 then s2.startRx n else s2.settleTx n)
  else if !(ws.getD 0 0).testBit 31 then s2.stopRx n
  else if s.laneState n = lnCal then s2
  else s2.startRx n

/-- Words 5–9 with which lane n acts on an edge: grp_clk falls to the higher-numbered of two lanes of a group whose LANE_SETs act on one edge
(R387). -/
def State.laneAtEdge (s : State) (n edge : Nat) (ws : List Nat) : List Nat :=
  if (List.range 8).any (fun k => let m := n / 8 * 8 + k
      decide (n < m) && (s.laneCfg m).testBit 23 && (s.laneX m).clkAt == some edge) then
    ws.set 0 (ws.getD 0 0 &&& 0xFF7FFFFF)
  else ws

/-- LANE_SET_ACT (R377, R387, R394): the first edge of the lane's transmit clock at or past the instant, at station time `edge`. Where the pin pair that it
names has another nominal by then, this is the later LANE_SET. -/
def execLaneSetAct (n : Fin 144) (edge : Nat) (s : State) : Result :=
  .next
    (match s.armedBy 0x0400 (laneWord n.val) edge with
     | some o =>
       if o.f 5 7 0 < 8 ∧ !s.laneRefOk n.val (o.w 5) (o.w 7) then (s.reachAt (5 + n.val / 72) edge).complete o .badParam []
       else
       let ws := s.laneAtEdge n.val edge ((List.range 5).map (fun i => o.w (5 + i)))
       let s1 := (s.reachAt (5 + n.val / 72) edge).laneApply n.val ws
       let s2 := s1.setLaneX n.val { s1.laneX n.val with clkAt := if (ws.getD 0 0).testBit 23 then some edge else none }
       s2.putOp { o with stage := 1, acc := timeWords edge }
     | none => s)

/-- LANE_SET_COMPLETION (R394): the transmit PLL has locked (`locked`), the lane is OFF, or 2 ms have passed without either. -/
def execLaneSetCompletion (n : Fin 144) (locked : Bool) (s : State) : Result :=
  .next
    (match s.actedOn 0x0400 (laneWord n.val) with
     | some o =>
       if locked then
         let s1 := (s.setLaneX n.val { s.laneX n.val with pll := true }).settleTx n.val
         s1.complete o .ok (o.acc ++ [wd (s1.laneState n.val)])
       else if s.laneState n.val = lnOff ∨ (s.laneX n.val).pll then s.complete o .ok (o.acc ++ [wd (s.laneState n.val)])
       else s.complete o .timeout []
     | none => s)

/-! ## The receiver -/

/-- LANE_SIGNAL_DETECT (R388, R389): the input has exceeded 60 mV for 10 µs. -/
def execLaneSignalDetect (n : Fin 144) (s : State) : Result :=
  .next
    (if s.laneState n.val = lnOff ∨ s.laneState n.val = lnRetired then s
     else
       let s1 := s.raise (laneBase n.val) F.LANE_STAT_sig_detect
       if s.laneState n.val = lnNoSignal then s1.toLane n.val lnLocking else s1)

/-- What a lane's transmitter sends (R391, R392): nothing, stream-engine data with fillers where the engine has none in 8b/10b and 64b/66b, the
LANE_PRBS pattern, or the receiver's recovered bits. -/
inductive TxSource where
  | nothing | stream (fillers : Bool) | pattern | recovered
deriving DecidableEq, Repr
/-- What the transmitter of lane n sends (R391, R392). -/
def State.txSource (s : State) (n : Nat) : TxSource :=
  if !s.flag (laneBase n) F.LANE_STAT_tx_ready then .nothing
  else if bitsOf (s.laneCfg n) 22 20 = 2 then .recovered
  else if bitsOf (s.laneX n).prbs 31 28 ≠ 0 then .pattern
  else .stream (decide (s.lanePcs n < 2))
/-- The stream engine's data leaves on lane n (R391, R392). -/
def State.txStreams (s : State) (n : Nat) : Bool := match s.txSource n with | .stream _ => true | _ => false
/-- The transmitter's output of lane n returns to its receiver, and its balls are idle (R392). -/
def State.nearEnd (s : State) (n : Nat) : Bool := bitsOf (s.laneCfg n) 22 20 == 1

/-- The states that a loss of signal leaves (R388). -/
def lnListening (v : Nat) : Bool := v == lnLocking || v == lnHunting || v == lnService || v == lnRecovering || v == lnTest

/-- LANE_SIGNAL_LOSS (R388, R389, R405): the input has stayed below 40 mV for 1 µs. Attempts that failed before do not count on. -/
def execLaneSignalLoss (n : Fin 144) (s : State) : Result :=
  .next
    (if lnListening (s.laneState n.val) then
       ((((s.setLaneX n.val { s.laneX n.val with fails := 0 }).lower (laneBase n.val) F.LANE_STAT_sig_detect).laneMark n.val
         F.LANE_STAT_sig_lost).laneCount n.val F.LANE_SH_SIGLOSS_LO_lo 1).toLane n.val lnNoSignal
     else s.lower (laneBase n.val) F.LANE_STAT_sig_detect)

/-- LANE_CDR_LOCK (R388): the CDR locks; a raw lane goes straight into service, from recovery too. -/
def execLaneCdrLock (n : Fin 144) (s : State) : Result :=
  .next
    (if s.laneState n.val = lnLocking then
       (if s.lanePcs n.val = 2 then (s.setLaneX n.val { s.laneX n.val with fails := 0 }).toLane n.val lnService else s.toLane n.val lnHunting)
     else if s.laneState n.val = lnRecovering ∧ s.lanePcs n.val = 2 then
       (s.setLaneX n.val { s.laneX n.val with fails := 0 }).toLane n.val lnService
     else s)

/-- LANE_LOCK_TIMEOUT (R388): no lock within 100 µs; the CDR restarts. -/
def execLaneLockTimeout (n : Fin 144) (s : State) : Result :=
  .next (if s.laneState n.val = lnLocking then s.toLane n.val lnLocking else s)

/-- LANE_ALIGN_ACQUIRE (R380, R381, R388): the acquisition criterion is met at position `pos`. -/
def execLaneAlignAcquire (n : Fin 144) (pos : Nat) (s : State) : Result :=
  .next
    (let st := s.laneState n.val
     if st = lnHunting ∨ st = lnRecovering then
       (s.setLaneX n.val { s.laneX n.val with boundary := pos, fails := 0 }).toLane n.val lnService
     else if st = lnService ∧ (s.laneCfg n.val).testBit 25 ∧ (s.laneX n.val).boundary ≠ pos then
       (s.setLaneX n.val { s.laneX n.val with boundary := pos }).laneCount n.val F.LANE_SH_SLIP_LO_lo 1
     else s)

/-- LANE_HUNT_TIMEOUT (R388): alignment was not acquired within 1 ms; the CDR restarts. -/
def execLaneHuntTimeout (n : Fin 144) (s : State) : Result :=
  .next (if s.laneState n.val = lnHunting then s.toLane n.val lnLocking else s)

/-- LANE_ALIGN_LOSS (R388, R405): the loss criterion is met, or the CDR unlocks, with the signal present. Recoveries above the
channel threshold within 1 s are a permanent fault. -/
def execLaneAlignLoss (n : Fin 144) (s : State) : Result :=
  .next
    (if s.laneState n.val = lnService && s.flag (laneBase n.val) F.LANE_STAT_sig_detect then
       let s1 := ((s.laneMark n.val F.LANE_STAT_align_lost).laneCount n.val F.LANE_SH_RECOVER_LO_lo 1).toLane n.val lnRecovering
       let r := s1.charge (laneWord n.val).toNat
       if r.1 then r.2.laneFault n.val else r.2
     else s)

/-- LANE_RECOVERY_TIMEOUT (R388, R405, R406): an attempt was not regained within 1 ms. -/
def execLaneRecoveryTimeout (n : Fin 144) (s : State) : Result :=
  .next
    (if s.laneState n.val = lnRecovering then
       let f := (s.laneX n.val).fails + 1
       if 2 ≤ f ∧ s.flag (laneBase n.val) F.LANE_STAT_sig_detect then
         (s.setLaneX n.val { s.laneX n.val with fails := 0 }).laneFault n.val
       else s.setLaneX n.val { s.laneX n.val with fails := f }
     else s)

/-! ## Reference pins -/

/-- The lanes of lane die `l` that use pin pair `k`. -/
def State.refUsers (s : State) (l k : Nat) : List Nat :=
  ((List.range 72).map (· + 72 * l)).filter (fun n => bitsOf (s.laneCfg n) 31 30 != 0 && bitsOf (s.laneCfg n) 7 0 == k)

/-- REF_PIN_LOST (R378, R411, R413): no edge for 4 nominal periods. -/
def execRefPinLost (l : Fin 2) (k : Fin 8) (s : State) : Result :=
  .next
    (let s1 := ((s.setBitOf (refcBase l.val) F.REFC_STAT_lost k.val true).lower (refcBase l.val + 4 * k.val)
       F.REFC_STATK_present).settleRefPpm l.val k.val
     ((s.refUsers l.val k.val).filter (fun n => s.laneOn n)).foldl (fun s n => s.laneMark n F.LANE_STAT_ref_lost) s1)

/-- REF_PIN_RETURN (R378): the pair shows edges again and the PLLs of its lanes relock. -/
def execRefPinReturn (l : Fin 2) (k : Fin 8) (s : State) : Result :=
  .next
    (((s.refUsers l.val k.val).filter (fun n => s.laneOn n)).foldl (fun s n => (s.setLaneX n { s.laneX n with pll := true }).settleTx n)
      ((s.raise (refcBase l.val + 4 * k.val) F.REFC_STATK_present).settleRefPpm l.val k.val))

/-! ## Patterns -/

/-- rx_pat of the LANE_PRBS in force. -/
def State.rxPat (s : State) (n : Nat) : Nat := bitsOf (s.laneX n).prbs 27 24

/-- LANE_PRBS's effect (R388, R397, R398). -/
def State.lanePrbs (s : State) (n : Nat) (c : Cmd) : State :=
  let s1 := s.setLaneX n { s.laneX n with prbs := c.w 2 / 2 * 2, pattern := c.w 3 }
  let s2 := if c.f 2 0 0 = 1 ∧ c.f 2 31 28 ≠ 0 then s1.emit (.note 1 [n]) else s1
  if c.f 2 27 24 ≠ 0 then
    if s.laneState n = lnOff then s2 else (s2.lower (laneBase n) F.LANE_STAT_prbs_locked).toLane n lnTest
  else if s.laneState n = lnTest then s2.toLane n lnLocking
  else s2

/-- LANE_PRBS (R396–R398). -/
def execLanePrbs (c : Cmd) (s : State) : Result :=
  .next
    (let n := c.laneOf.getD 0
     s.immediate 0x0401 c
       { len := c.len == 4, tgt := c.laneOf.isSome,
         par := decide (c.f 2 31 28 ≤ 7) && decide (c.f 2 27 24 ≤ 7) && c.f 2 21 1 == 0,
         dom := s.laneOn n, ret := s.laneState n != lnRetired, free := !s.heldByOther c && !s.armedOn 0x0400 c.word1 }
       (fun s => (s.lanePrbs n c, [])))

/-- LANE_PRBS_QUERY: words 2 and 3 in effect. -/
def execLanePrbsQuery (c : Cmd) (s : State) : Result :=
  .next
    (let n := c.laneOf.getD 0
     s.immediate 0x0481 c { len := c.len == 2, tgt := c.laneOf.isSome, dom := !s.blkOff c.die c.blk }
       (fun s => (s, [wd (s.laneX n).prbs, wd (s.laneX n).pattern])))

/-- PRBS_LOCK (R398): 64 consecutive correct bits. -/
def execPrbsLock (n : Fin 144) (s : State) : Result :=
  .next (if s.laneState n.val = lnTest ∧ s.rxPat n.val ≠ 0 then s.raise (laneBase n.val) F.LANE_STAT_prbs_locked else s)

/-- PRBS_LOCK_LOSS (R398): 4 consecutive windows with more than 16 errors each. -/
def execPrbsLockLoss (n : Fin 144) (s : State) : Result :=
  .next
    (if s.flag (laneBase n.val) F.LANE_STAT_prbs_locked then
       (s.lower (laneBase n.val) F.LANE_STAT_prbs_locked).laneMark n.val F.LANE_STAT_align_lost
     else s)

/-! ## Eye scans and bit slips -/

/-- The phases of a scan (R400). -/
def eyePhases (h : Nat) : List Int := (List.range (63 / h + 1)).map (fun k => -32 + (k * h : Nat))
/-- The offsets of a scan (R400). -/
def eyeOffsets (v : Nat) : List Int := (List.range (126 / v + 1)).map (fun j => -63 + (j * v : Nat))
/-- The points of a scan, phase outer. -/
def eyePoints (h v : Nat) : List (Int × Int) := (eyePhases h).flatMap (fun p => (eyeOffsets v).map (fun o => (p, o)))

/-- The record's range lies in frame memory or in cue-shared SRAM (R400). -/
def recordPlace (a n : Nat) : Bool :=
  decide (a + n ≤ fmSize) || (decide (sramBase ≤ a) && decide (a + n ≤ sramBase + sramSize))

/-- The record's address. -/
def Cmd.eyeAddr (c : Cmd) : Nat := c.f 4 7 0 * 4294967296 + c.w 3
/-- The record's size (R400). -/
def Cmd.eyeBytes (c : Cmd) : Nat := 64 + 8 * (eyePoints (c.f 2 31 24) (c.f 2 23 16)).length

/-- The parameters of LANE_EYE (R399, R400). -/
def State.eyeOk (s : State) (n : Nat) (c : Cmd) : Bool :=
  decide (1 ≤ c.f 2 31 24) && decide (c.f 2 31 24 ≤ 32) && decide (1 ≤ c.f 2 23 16) && decide (c.f 2 23 16 ≤ 63) &&
  c.f 2 15 6 == 0 && decide (20 ≤ c.f 2 5 0) && decide (c.f 2 5 0 ≤ 40) && c.w 3 % 64 == 0 && c.f 4 31 8 == 0 && c.w 6 == 0 &&
  decide (c.eyeBytes ≤ c.w 5) && recordPlace c.eyeAddr c.eyeBytes && bitsOf (s.laneCfg n) 27 26 == 0 &&
  (s.laneState n == lnService || s.laneState n == lnTest)

/-- The steward class may write the range (R400, R525). -/
def State.stewardMay (s : State) (a n : Nat) : Bool :=
  decide (fmSize ≤ a) || (linePieces a n).all (fun p => s.mayAccess 5 (stackOf (s.phys p.1)) (lineOf (s.phys p.1)) false true)

/-- LANE_EYE (R399). -/
def execLaneEye (c : Cmd) (s : State) : Result :=
  .next
    (let n := c.laneOf.getD 0
     s.long 0x0402 c
       { len := c.len == 7, tgt := c.laneOf.isSome, auth := s.stewardMay c.eyeAddr c.eyeBytes, par := s.eyeOk n c,
         dom := s.laneOn n, ret := s.laneState n != lnRetired,
         free := !s.heldByOther c && (s.pendingOn 0x0402 c.word1).isNone } none
       (fun s =>
         let s1 := (s.setLaneX n { s.laneX n with scanning := true }).protCut n
         match s1.opOf c.src c.tag with
         | some o => s1.putOp { o with acc := timeWords (s.staAt (5 + n / 72)) }
         | none => s1))

/-- The record of a scan (R400). -/
def eyeRecord (n : Nat) (o : Op) (counts : List Nat) : List Byte :=
  let pts := eyePoints (o.f 2 31 24) (o.f 2 23 16)
  bytesOfWords ([wd 0x4559454B, wd (n + o.f 2 5 0 * 256), wd (o.f 2 31 24 + o.f 2 23 16 * 256), wd pts.length] ++ o.acc) ++
  List.replicate 36 0 ++
  (pts.zip (counts ++ List.replicate pts.length 0)).flatMap (fun p =>
    [BitVec.ofInt 8 p.1.1, BitVec.ofInt 8 p.1.2] ++ bytesOf 6 p.2)

/-- Writes bytes of device memory as the steward (R525): frame memory through its engine, on-chip memory at once. -/
def State.stewardStore (s : State) (a : Nat) (bs : List Byte) : State :=
  if a < fmSize then
    (match s.fmWrite 5 a bs [] [] with | (some .ok, s1) => s1 | _ => s)
  else s.store a bs

/-- LANE_EYE_COMPLETION (R399, R400): the scan ends with the error counts measured at its points. -/
def execLaneEyeCompletion (n : Fin 144) (counts : List Nat) (s : State) : Result :=
  .next
    (match s.pendingOn 0x0402 (laneWord n.val) with
     | some o =>
       let a := o.f 4 7 0 * 4294967296 + o.w 3
       let s1 := (s.setLaneX n.val { s.laneX n.val with scanning := false }).stewardStore a (eyeRecord n.val o counts)
       s1.complete o .ok [wd (eyePoints (o.f 2 31 24) (o.f 2 23 16)).length]
     | none => s)

/-- The largest slip of a mode, plus 1: the word's width. -/
def slipWidth (pcs : Nat) : Nat := [40, 66, 64, 20].getD pcs 20

/-- LANE_BITSLIP (R382). -/
def execLaneBitslip (c : Cmd) (s : State) : Result :=
  .next
    (let n := c.laneOf.getD 0
     s.immediate 0x0405 c
       { len := c.len == 3, tgt := c.laneOf.isSome,
         par := c.f 2 31 7 == 0 && decide (1 ≤ c.w 2) && decide (c.w 2 < slipWidth (s.lanePcs n)) &&
           (s.laneState n == lnService || s.laneState n == lnTest),
         dom := s.laneOn n, ret := s.laneState n != lnRetired, free := !s.heldByOther c }
       (fun s => ((s.setLaneX n { s.laneX n with boundary := ((s.laneX n).boundary + c.w 2) % slipWidth (s.lanePcs n) }).laneCount n
         F.LANE_SH_SLIP_LO_lo 1, [])))

/-! ## Calibration and retirement -/

/-- LANE_CAL (R402, R403). -/
def execLaneCal (c : Cmd) (s : State) : Result :=
  .next
    (let n := c.laneOf.getD 0
     let full := c.f 2 0 0 == 0
     s.long 0x0404 c
       { len := c.len == 3, tgt := c.laneOf.isSome, par := c.f 2 31 1 == 0, dom := s.laneOn n, ret := s.laneState n != lnRetired,
         free := !s.heldByOther c && (!full ||
           (!s.flag (lsysBase (n / 72)) F.LSYS_CAL_busy && !s.armedOn 0x0400 c.word1)) } none
       (fun s =>
         if full then (let s1 := s.setCal n true; if s.laneState n = lnOff then s1 else s1.toLane n lnCal) else s))

/-- A full calibration fails (R405, R406): the second in a row retires the lane with cause 0x04. -/
def State.calFailed (s : State) (n : Nat) : State :=
  let s1 := s.laneMark n F.LANE_STAT_cal_failed
  if 1 ≤ (s.laneX n).calFails then (s1.laneMark n F.LANE_STAT_suspect).retireLane n 4
  else
    let s2 := (s1.setLaneX n { s1.laneX n with calFails := 1 }).laneJournal n false
    if s.laneState n = lnCal then s2.startRx n else s2

/-- The last temperature measured on the die of lane n, in 0.125 °C (R613). -/
def State.laneTemp (s : State) (n : Nat) : Nat := s.getF (pwrBase + 4 * (5 + n / 72)) F.PWR_TEMP_temp
/-- LANE_STAT.cal_stale of lane n follows its die's temperature: 1 while it is more than 30 °C from that of the last full calibration (R404). -/
def State.calAge (s : State) (n : Nat) : State :=
  match (s.laneX n).calTemp with
  | some t => if s.dom (groupDom (n / 8)) = 2 then s else s.setB (laneBase n) F.LANE_STAT_cal_stale (decide (240 < monus t (s.laneTemp n) + monus (s.laneTemp n) t))
  | none => s
/-- A full calibration passes (R402, R404). -/
def State.calPassed (s : State) (n : Nat) : State :=
  let s1 := (s.setLaneX n { s.laneX n with calFails := 0, calTemp := some (s.laneTemp n) }).lower (laneBase n) F.LANE_STAT_cal_stale
  if s.laneState n = lnCal then s1.toLane n lnLocking else s1

/-- A retired lane passed the calibration of CHANNEL_RESTORE (R407, R629): its transmit PLL, which the calibration trimmed, runs again (R391). -/
def State.laneRestored (s : State) (n : Nat) : State :=
  let s1 := (s.setCal n false).lower (laneBase n) F.LANE_INFO_cause
  ((s1.setLaneX n { s1.laneX n with pll := !(s1.laneX n).set.isEmpty }).uncharge (laneWord n).toNat).calPassed n
/-- It did not, and stays RETIRED (R407, R629). -/
def State.laneUnrestored (s : State) (n : Nat) : State := ((s.calDrop n).laneMark n F.LANE_STAT_cal_failed).toLane n lnRetired
/-- Lane n is being restored (R388): CALIBRATING, with the cause of its retirement still shown. -/
def State.laneReturns (s : State) (n : Nat) : Bool := s.laneState n == lnCal && s.getF (laneBase n) F.LANE_INFO_cause != 0
/-- A full calibration of lane n ends (R402, R405, R406). -/
def State.calEnds (s : State) (n : Nat) (pass : Bool) : State :=
  if s.laneReturns n then (if pass then s.laneRestored n else s.laneUnrestored n)
  else if pass then (s.calDrop n).calPassed n
  else (s.calDrop n).calFailed n
/-- LANE_CAL_COMPLETION (R402, R405, R406): a calibration ends, passed or not; none ends while the lane's clock is stopped (R52). A full one ends as it
would where its command has ended before it. -/
def execLaneCalCompletion (n : Fin 144) (pass : Bool) (s : State) : Result :=
  .next
    (if s.dom (groupDom (n.val / 8)) = 2 then s
     else
       match s.pendingOn 0x0404 (laneWord n.val) with
       | some o =>
         if o.f 2 0 0 = 1 then s.complete o (if pass then .ok else .hwFault) []
         else if pass then (s.calEnds n.val true).complete o .ok []
         else (s.complete o .hwFault []).calEnds n.val false
       | none =>
         if s.hq.ops.any (fun o => o.opcode == 0x0A03 && chanOf (o.w 2) == some (.lane n.val)) then s
         else if s.laneState n.val = lnCal ∨ (s.laneOn n.val ∧ s.calNames n.val) then s.calEnds n.val pass
         else s)

/-- LANE_RETIRE (R407). -/
def execLaneRetire (c : Cmd) (s : State) : Result :=
  .next
    (let n := c.laneOf.getD 0
     s.long 0x0403 c
       { len := c.len == 2, tgt := c.laneOf.isSome, dom := s.laneOn n, ret := s.laneState n != lnRetired,
         free := !s.heldByOther c } none id)

/-- LANE_RETIRE_COMPLETION (R407): receiver stopped, transmitter idle, armed action cancelled. A lane that the device retired meanwhile stays as it is. -/
def execLaneRetireCompletion (n : Fin 144) (s : State) : Result :=
  .next
    (match s.pendingOn 0x0403 (laneWord n.val) with
     | some o => (if s.laneState n.val = lnRetired then s else s.retireLane n.val 1).complete o .ok []
     | none => s)

/-! ## The elastic buffer -/

/-- The filler of a lane, word by word (R383): the one or two characters of LANE_SET word 9, or the control block of type 0x1E with eight idles. -/
def State.fillerWords (s : State) (n : Nat) : List Nat :=
  let w := s.getF (laneBase n) F.LANE_FILL_word9
  if s.lanePcs n = 1 then [0x79] else if w.testBit 31 then [bitsOf w 8 0, bitsOf w 17 9] else [bitsOf w 8 0]
/-- Words in the filler of a lane (R383). -/
def State.fillerLen (s : State) (n : Nat) : Nat := (s.fillerWords n).length
/-- One word leaves the elastic buffer for the stream engine: the oldest received one, or, before those, a word of the fillers that it held at first. -/
def State.ebOut (s : State) (n : Nat) : State :=
  let x := s.laneX n
  let own := decide (x.eb.length < x.fill)
  (s.setLaneX n { x with fill := x.fill - 1, eb := if own then x.eb else x.eb.tail }).emit
    (.word n (if own then (s.fillerWords n).headD 0 else x.eb.headD 0))
/-- The transmit clock takes `k` words (R384): at a fill of 0 a filler of the buffer's own is sent. -/
def State.ebTake (s : State) (n : Nat) : Nat → State
  | 0 => s
  | k + 1 =>
    let s1 := if (s.laneX n).fill = 0 then
        (let t := (s.laneMark n F.LANE_STAT_eb_underflow).laneCount n F.LANE_SH_EBERR_LO_lo (s.fillerLen n)
         t.setLaneX n { t.laneX n with fill := s.fillerLen n, eb := s.fillerWords n })
      else s
    State.ebTake (s1.ebOut n) n k

/-- A word of `n`'s mode has passed its PCS: what it is (R379, R383). -/
def State.lanePcsWord (s : State) (n : Nat) (w : RxWord) : PcsWord × PcsX :=
  let v := w.bits.toNat % 2 ^ pcsBits (s.lanePcs n)
  pcsWord (s.lanePcs n) (s.getF (laneBase n) F.LANE_FILL_word9) (if (s.laneCfg n).testBit 15 then 2 ^ pcsBits (s.lanePcs n) - 1 - v else v) (s.laneX n).pcs
/-- A word arrives at the buffer (R383, R384). -/
def State.ebPut (s : State) (n : Nat) (d : PcsWord) : State :=
  let x := s.laneX n
  let f := x.fill + 1
  let ws := x.eb ++ [d.value]
  if 64 ≤ x.fill then (s.laneMark n F.LANE_STAT_eb_overflow).laneCount n F.LANE_SH_EBERR_LO_lo 1
  else if d.filler && decide (40 < f) then
    (s.setLaneX n { x with fill := f - s.fillerLen n, eb := ws.take (ws.length - s.fillerLen n) }).laneCount n F.LANE_SH_DEL_LO_lo 1
  else if d.filler && decide (f < 24) then
    (s.setLaneX n { x with fill := f + s.fillerLen n, eb := ws ++ s.fillerWords n }).laneCount n F.LANE_SH_INS_LO_lo 1
  else s.setLaneX n { x with fill := f, eb := ws }

/-- LANE_WORD_RECEIVE (R379, R383, R384, R390, R398): a word in service passes the PCS, and in 8b/10b and 64b/66b the elastic buffer, to the stream
engine; in TEST, a locked checker counts the unit and its wrong bits. The PCS runs on in every state. -/
def execLaneWordReceive (n : Fin 144) (w : RxWord) (s : State) : Result :=
  .next
    (if s.laneState n.val = lnTest ∧ s.flag (laneBase n.val) F.LANE_STAT_prbs_locked then
       (s.laneCount n.val F.LANE_SH_PRBS_BITS_LO_lo 1).laneCount n.val F.LANE_SH_PRBS_ERR_LO_lo w.errs.val
     else
       let d := s.lanePcsWord n.val w
       let s0 := s.setLaneX n.val { s.laneX n.val with pcs := d.2 }
       if s.laneState n.val = lnService then
         let s1 := if d.1.bad then s0.laneCount n.val F.LANE_SH_CODE_LO_lo 1 else s0
         if s.lanePcs n.val < 2 then (s1.ebTake n.val w.taken).ebPut n.val d.1 else s1.emit (.word n.val d.1.value)
       else s0)

end Sys2Proof.Machine
end

