-- ==== Sys2Proof/Machine/Wires.lean ====
section
/-! DEFINITION. The fabric between flip-flops: stored frames (R280, R281), which clocks run (R138–R140), the tables and outputs of cells
(R125–R127), wires, border channels and their multiplexers (R132–R137), and the isolation cells (R224–R227). -/
namespace Sys2Proof.Machine

/-! ## Stored frames -/

/-- The key of word `w` of a frame of plane p of facet f: words 0–31 and the column-parity word 32 (R281). -/
def frameKey (f p fr w : Nat) : Nat := 33 * (32768 * (2 * f + p) + fr) + w
/-- A stored frame word: 80 bits with the parity bit above them. -/
def State.fword (s : State) (f p fr w : Nat) : Nat := SMap.get 0 s.fac.frames (frameKey f p fr w)
/-- Replaces it. -/
def State.setFword (s : State) (f p fr w v : Nat) : State :=
  { s with fac := { s.fac with frames := SMap.put 0 s.fac.frames (frameKey f p fr w) v } }
/-- A frame bit (R281). -/
def State.fbit (s : State) (f p fr k : Nat) : Bool := (s.fword f p fr (k / 80)).testBit (k % 80)
/-- `n` frame bits from bit `k` on, least significant first (R280). -/
def State.fbits (s : State) (f p fr k n : Nat) : Nat := (List.range n).foldl (fun v i => v + bit (s.fbit f p fr (k + i)) * 2 ^ i) 0

/-! ## Facets and their clocks -/

/-- Facet states (R251). -/
def fcOff : Nat := 0
def fcEmpty : Nat := 1
def fcWriting : Nat := 2
def fcReleasing : Nat := 3
def fcRunning : Nat := 4
def fcSwapping : Nat := 5
def fcStopped : Nat := 6
def fcDraining : Nat := 7

/-- A facet's record. -/
def State.facetX (s : State) (f : Nat) : FacetX := SMap.get {} s.fac.x f
/-- Replaces it. -/
def State.setFacetX (s : State) (f : Nat) (x : FacetX) : State := { s with fac := { s.fac with x := SMap.put {} s.fac.x f x } }
/-- The facet's isolation cells hold (R227). -/
def State.holding (s : State) (f : Nat) : Bool := s.flag (facetBase f) F.FACET_STAT_holding
/-- The facet's clocks are not stopped (R227, R247, R249): it runs or swaps, is being released, or drains before its clocks stop. -/
def State.clocksRun (s : State) (f : Nat) : Bool :=
  let st := s.facetState f
  st == fcRunning || st == fcSwapping || st == fcReleasing || (st == fcWriting && (s.facetX f).drainFrom.isSome) ||
    (st == fcDraining && (s.facetX f).ran)
/-- Bays, controllers, SAUs and stream ports work (R247, R275): the clocks run, and a release has passed stage 2. -/
def State.baysRun (s : State) (f : Nat) : Bool := s.clocksRun f && (s.facetState f != fcReleasing || (s.facetX f).stage == 3)

/-- The recovered clock of lane n runs: it never stops while rc_div is not 0 and its group has power (R386). -/
def State.recoveredRuns (s : State) (n : Nat) : Bool := s.laneOn n && bitsOf (s.laneCfg n) 19 16 != 0
/-- Output k of fabric loop l of Qq gives edges: the loop has a reference, the output a divider, and no change holds it low (R350, R362). -/
def State.floopRuns (s : State) (q l k : Nat) : Bool :=
  s.getF (floopAt q l) F.FLOOP_REF_ref != 0 && s.floopDiv q l k != 0 && !s.clk.floopLow.contains (16 * q + l)
/-- The source of a spine gives edges (R138). -/
def State.spineRuns (s : State) (q x : Nat) : Bool :=
  let c := s.spineCode q x
  if 1 ≤ c ∧ c ≤ 64 then
    s.floopRuns q ((c - 1) / 4) ((c - 1) % 4)
  else if 65 ≤ c ∧ c ≤ 72 then (SMap.get {} s.clk.loops (c - 65) : LoopX).running
  else if 73 ≤ c ∧ c ≤ 81 then
    (match s.groupClk (sideGroup q + (c - 73)) with
     | some n => s.recoveredRuns n
     | none => false)
  else false
/-- The source of CLKOUT k gives edges (R364, R365): a station loop, a fabric loop's output, a lane's recovered clock, an oscillator, the 10 MHz
input, or the seconds of station time. -/
def State.clkoutRuns (s : State) (k : Nat) : Bool :=
  let i := s.getF (clkoBase + 8 * k) F.CLKO_SET_index
  match s.getF (clkoBase + 8 * k) F.CLKO_SET_kind with
  | 1 => (SMap.get {} s.clk.loops i : LoopX).running
  | 2 => s.floopRuns (i / 64) (i % 64 / 4) (i % 4)
  | 3 => s.recoveredRuns i
  | 4 => s.xo i == 2
  | 5 => s.tim.in10
  | 6 => true
  | _ => false
/-- Regional clock `r` of facet `f` gives edges (R139, R140): a code 1–12 whose spine runs, while the facet's clocks are not stopped. -/
def State.regionRuns (s : State) (f r : Nat) : Bool :=
  decide (1 ≤ r) && decide (r ≤ 12) && s.clocksRun f &&
  (match s.regionalSpine f (s.facetPlane f) r with
   | some x => s.spineRuns (f / 12) x
   | none => false)

/-! ## Where tiles, vertices and user I/O lie (R122–R124, R219, R220) -/

/-- The local facet of tile (c, r) of a quadrant (R123, R219). -/
def tileLocal (c r : Nat) : Nat := 3 * (r / 120) + c / 256
/-- The frame of a tile in its facet's planes (R280). -/
def tileFrame (c r : Nat) : Nat := 120 * (c % 256) + r % 120
/-- The local facet of a resource that has `n` in a facet row, of which columns 0 and 1 hold those below `a` and `b`. -/
def localFacet (n a b i : Nat) : Nat := 3 * (i / n) + (if i % n < a then 0 else if i % n < b then 1 else 2)
/-- The local facet of SAU n (R220). -/
def sauLocal (n : Nat) : Nat := localFacet 512 171 341 n
/-- Facet of user I/O k (R220, R686), device number. -/
def uioFacet (q k : Nat) : Nat := 12 * q + 1 + 3 * (k / 28)

/-- A direction in which a tile drives wires, in the order of the frame layout (R132, R280). -/
inductive Dir where
  | north | east | south | west
deriving DecidableEq, Repr, Inhabited

/-- Where a direction's fields stand among those of R280. -/
def Dir.index : Dir → Nat
  | .north => 0
  | .east => 1
  | .south => 2
  | .west => 3
/-- The tiles between tile (c, r) and the facet border that lies in a direction (R123). -/
def Dir.room (d : Dir) (c r : Nat) : Nat :=
  match d with
  | .north => r % 120
  | .east => 255 - c % 256
  | .south => 119 - r % 120
  | .west => c % 256
/-- Tile (c', r') lies `n` tiles from (c, r) in a direction. -/
def Dir.at (d : Dir) (n c r c' r' : Nat) : Bool :=
  match d with
  | .north => c' == c && r' + n == r
  | .east => c' == c + n && r' == r
  | .south => c' == c && r' == r + n
  | .west => c' + n == c && r' == r

/-- A kind of routing wire (R132). -/
inductive WireKind where
  | span1 | span4 | span16
deriving DecidableEq, Repr, Inhabited

/-- The span of a wire (R132). -/
def WireKind.span : WireKind → Nat
  | .span1 => 1
  | .span4 => 4
  | .span16 => 16
/-- The sources of its driving multiplexer (R132, R136). -/
def WireKind.sources : WireKind → Nat
  | .span1 => 24
  | .span4 => 16
  | .span16 => 12
/-- Where the select of the wire with index `i` stands among the 108 bits of its direction, and its width (R280). -/
def WireKind.field (k : WireKind) (i : Nat) : Nat × Nat :=
  match k with
  | .span1 => (5 * i, 5)
  | .span4 => (80 + 5 * i, 5)
  | .span16 => (100 + 4 * i, 4)
/-- A wire's length: one whose span would cross a facet border ends in the last tile before it (R133). -/
def wireLength (k : WireKind) (d : Dir) (c r : Nat) : Nat := min k.span (d.room c r)
/-- Tile (c', r') reads a wire that starts in tile (c, r): it lies where the wire passes or ends (R132, R133). -/
def wireReaches (k : WireKind) (d : Dir) (c r c' r' : Nat) : Bool :=
  (List.range (wireLength k d c r + 1)).any (fun n => d.at n c r c' r' && (n != 0 || wireLength k d c r == 0))
/-- A border channel with index `i` leaves tile (c, r) in a direction (R134): the tile lies at a border between two facets of its quadrant,
which has 16 channels per tile row and 8 per tile column. -/
def borderExists (d : Dir) (c r i : Nat) : Bool :=
  decide (c < 768) && decide (r < 480) && d.room c r == 0 &&
  (match d with
   | .north => r != 0 && decide (i < 8)
   | .east => c != 767 && decide (i < 16)
   | .south => r != 479 && decide (i < 8)
   | .west => c != 0 && decide (i < 16))

/-! ## Nodes and multiplexers (R127, R132–R137) -/

/-- What drives a net of a quadrant: output o of tile (c, r) (R127), a wire by its starting tile, a border channel by the tile that drives it,
bit b of the outputs of SAU n (y, clip, over), or a signal that enters local facet i from a bay, a controller, a port or a ball. -/
inductive Node where
  | out (c r o : Nat)
  | wire (c r : Nat) (d : Dir) (k : WireKind) (i : Nat)
  | border (c r : Nat) (d : Dir) (i : Nat)
  | sau (n b : Nat)
  | ext (i n : Nat)
deriving DecidableEq, Repr, Inhabited

/-- A multiplexer (R136): input i (P0–P5, DW, DN) of a cell, a control input (0 CE0, 1 CE1, 2 SR) of a tile, the driver of a wire or of a
border channel, the output (0) or output enable (1) of user I/O k, input bit b of SAU n (R206), and input bit b of a port (0 A, 1 B) of the bay
with index u, or of deep bay u − 4,096 (R169). -/
inductive Mux where
  | cell (c r n i : Nat)
  | ctl (c r i : Nat)
  | wire (c r : Nat) (d : Dir) (k : WireKind) (i : Nat)
  | border (c r : Nat) (d : Dir) (i : Nat)
  | pad (k oen : Nat)
  | sau (n b : Nat)
  | bay (u port b : Nat)
deriving DecidableEq, Repr

/-- The source that code 1, 2, … of a multiplexer names: the source lists are part of the device model (R136, assumption log 94). -/
opaque Config.muxSource : Mux → Nat → Node
/-- What a node of a loop of tables without a flip-flop carries, which the spec does not say (assumption log 94). -/
opaque Config.unsettled : Node → Bool

/-- The number of an isolation cell of a quadrant (R224): user event line j is j, the output and output enable of user I/O k are 64 + 2k and
65 + 2k, and border channels follow from 1,024 on. -/
def padCell (k oen : Nat) : Nat := 64 + 2 * k + oen
@[inherit_doc padCell] def borderCell (d : Dir) (c r i : Nat) : Nat := 1024 + 16 * (4 * (480 * c + r) + d.index) + i
/-- The key under which a held cell is kept. -/
def cellKey (q n : Nat) : Nat := 33554432 * q + n

/-- The local facet whose planes hold a multiplexer's select. -/
def Mux.facet : Mux → Nat
  | .cell c r _ _ => tileLocal c r
  | .ctl c r _ => tileLocal c r
  | .wire c r _ _ _ => tileLocal c r
  | .border c r _ _ => tileLocal c r
  | .pad k _ => 1 + 3 * (k / 28)
  | .sau n _ => sauLocal n
  | .bay u _ _ => if 4096 ≤ u then localFacet 50 17 33 (u - 4096) else localFacet 1024 341 683 u
/-- Wires of a kind that start in each tile, per direction (R132). -/
def WireKind.number : WireKind → Nat
  | .span1 => 16
  | .span4 => 4
  | .span16 => 2
/-- A quadrant has this node (R122, R127, R132, R134, R206): 64 outputs per tile, the wires of each kind, border channels where a border lies, and
the output bits of the SAUs. -/
def Node.present : Node → Bool
  | .out c r o => decide (c < 768) && decide (r < 480) && decide (o < 64)
  | .wire c r _ k i => decide (c < 768) && decide (r < 480) && decide (i < k.number)
  | .border c r d i => borderExists d c r i
  | .sau n b => decide (n < 2048) && decide (b < 45)
  | .ext i _ => decide (i < 12)
/-- The sources of a multiplexer (R136). That of an SAU input or of a bay port input is no row of R136's table; it has 48 here, as a cell input has,
and codes 49 and up give 0 (assumption log 94). -/
def Mux.sources : Mux → Nat
  | .cell .. => 48
  | .ctl .. => 48
  | .wire _ _ _ k _ => k.sources
  | .border .. => 16
  | .pad .. => 48
  | .sau .. => 48
  | .bay .. => 48
/-- Where a tile's multiplexer has its select in the tile's frame, and its width; none for one outside the tile frames (R280). -/
def Mux.field : Mux → Option (Nat × Nat)
  | .cell _ _ n i => some (1200 + 6 * (8 * n + i), 6)
  | .ctl _ _ i => some (1968 + 6 * i, 6)
  | .wire _ _ d k i => some (1986 + 108 * d.index + (k.field i).1, (k.field i).2)
  | _ => none
/-- The tile in which a multiplexer stands. -/
def Mux.tile : Mux → Option (Nat × Nat)
  | .cell c r _ _ => some (c, r)
  | .ctl c r _ => some (c, r)
  | .wire c r _ _ _ => some (c, r)
  | .border c r _ _ => some (c, r)
  | .pad .. => none
  | .sau .. => none
  | .bay .. => none
/-- The number under which a plane lists the select of a multiplexer outside the tile frames. -/
def Mux.number : Mux → Nat
  | .border c r d i => borderCell d c r i
  | .pad k oen => padCell k oen
  | .sau n b => 33554432 + 256 * n + b
  | .bay u p b => 67108864 + 256 * (2 * u + p) + b
  | .cell .. => 0
  | .ctl .. => 0
  | .wire .. => 0
/-- The local facet in which a node can be read: a border channel is read beyond its border. -/
def Node.facet : Node → Nat
  | .out c r _ => tileLocal c r
  | .wire c r _ _ _ => tileLocal c r
  | .border c r d _ =>
    match d with
    | .north => tileLocal c (r - 1)
    | .east => tileLocal (c + 1) r
    | .south => tileLocal c (r + 1)
    | .west => tileLocal (c - 1) r
  | .sau n _ => sauLocal n
  | .ext i _ => i
/-- A node reaches a multiplexer (R132–R135): a tile output in its own tile, a wire where it passes or ends, a border channel in the tile
beyond the border, and nothing of another facet or quadrant. The input of an SAU or of a bay port, which stands in no tile, can take any node of its
facet (assumption log 94). -/
def Node.reaches (n : Node) (m : Mux) : Bool :=
  n.present && n.facet == m.facet &&
  (match n, m.tile with
   | .out c r _, some t => t.1 == c && t.2 == r
   | .wire c r d k _, some t => wireReaches k d c r t.1 t.2
   | .border c r d i, some t => borderExists d c r i && d.at 1 c r t.1 t.2
   | .border c r d i, none => borderExists d c r i
   | _, _ => true)

/-- The select of a multiplexer in plane p of its facet: a frame field, or a code of the plane's other frames (R280). -/
def State.muxCode (s : State) (q : Nat) (m : Mux) : Nat :=
  let f := 12 * q + m.facet
  let p := s.facetPlane f
  match m.field, m.tile with
  | some x, some t => s.fbits f p (tileFrame t.1 t.2) x.1 x.2
  | _, _ =>
    match (s.planeCfg f p).sels.find? (fun x => x.1 == m.number) with
    | some x => x.2
    | none => 0
/-- What a multiplexer passes: the one source that its code names, or the constant 0 (R136, R137). -/
def State.muxVal (s : State) (q : Nat) (val : Node → Bool) (m : Mux) : Bool :=
  let code := s.muxCode q m
  decide (1 ≤ code) && decide (code ≤ m.sources) && (Config.muxSource m code).reaches m && val (Config.muxSource m code)

/-! ## Cells (R125–R127) -/

/-- The truth-table bit TW of a table with inputs P0–P5 in the bits of `p` (R125, R126). -/
def tableW (t : Nat) (halve : Bool) (p : Nat) : Bool := t.testBit (if halve then 2 * (p / 2 % 32) + 1 else p % 64)
/-- The truth-table bit TN (R125). -/
def tableN (t p : Nat) : Bool := t.testBit (2 * (p / 2 % 32))
/-- The configuration bit of a flip-flop (0 QW, 1 QN) of cell `c` at field offset `o` of its four bits (R280). -/
def ffBit (c j o : Nat) : Nat := 75 * c + 67 + 4 * j + o
/-- A flip-flop's key: whether it differs from its init value. -/
def ffKey (f fr k : Nat) : Nat := 32 * (30720 * f + fr) + k
/-- A flip-flop's value. -/
def State.ffVal (s : State) (f p fr k : Nat) : Bool :=
  (SMap.get 0 s.fab.ffs (ffKey f fr k) == 1) != s.fbit f p fr (ffBit (k / 2) (k % 2) 3)
/-- The inputs of a cell of tile (c, r) after their multiplexers: P0–P5, DW, DN. -/
def State.cellIn (s : State) (q : Nat) (val : Node → Bool) (c r cell : Nat) : Nat :=
  (List.range 8).foldl (fun a i => a + bit (s.muxVal q val (.cell c r cell i)) * 2 ^ i) 0
/-- Output o = 4 × cell + j of tile (c, r): TW, TN, QW or QN (R125–R127). -/
def State.outVal (s : State) (q : Nat) (val : Node → Bool) (c r o : Nat) : Bool :=
  let f := 12 * q + tileLocal c r
  let p := s.facetPlane f
  let fr := tileFrame c r
  let t := s.fbits f p fr (75 * (o / 4)) 64
  match o % 4 with
  | 0 => tableW t (s.fbit f p fr (75 * (o / 4) + 64)) (s.cellIn q val c r (o / 4))
  | 1 => tableN t (s.cellIn q val c r (o / 4))
  | 2 => s.ffVal f p fr (2 * (o / 4))
  | _ => s.ffVal f p fr (2 * (o / 4) + 1)

/-- The level that an isolation cell of facet f holds (R225, R226): held at 1 is listed, anything else is 0. -/
def State.cellHeld (s : State) (f n : Nat) : Bool := SMap.get 0 s.fab.held (cellKey (f / 12) n) == f + 1
/-- A level as it leaves facet f through an isolation cell (R224). -/
def State.isolated (s : State) (f n : Nat) (driven : Bool) : Bool := if s.holding f then s.cellHeld f n else driven
/-- Bits of an SAU's outputs: y, clip from bit 40 on, over at bit 44. -/
def SauReg.outBit (r : SauReg) (b : Nat) : Bool := if b < 40 then r.y.getLsbD b else if b < 44 then r.clip.getLsbD (b - 40) else b == 44 && r.wrapped
/-- The level of a signal that enters facet f from a bay, a controller, a port or a ball, as last given. -/
def State.extVal (s : State) (f n : Nat) : Bool := SMap.get 0 s.fab.levels (16777216 * f + n) == 1

/-- The level of a node of Qq, found through at most `k` multiplexers and tables; a longer path is a loop. -/
def State.nodeIn (s : State) (q : Nat) : Nat → Node → Bool
  | 0, n => Config.unsettled n
  | k + 1, n =>
    match n with
    | .out c r o => s.outVal q (s.nodeIn q k) c r o
    | .wire c r d w i => s.muxVal q (s.nodeIn q k) (.wire c r d w i)
    | .border c r d i => s.isolated (12 * q + tileLocal c r) (borderCell d c r i) (s.muxVal q (s.nodeIn q k) (.border c r d i))
    | .sau n b => (SMap.get {} s.saus (2048 * q + n) : SauReg).outBit b
    | .ext i n => s.extVal (12 * q + i) n
/-- The level of a node of Qq (R137): more multiplexers and tables than this, 64 outputs and 88 wires in each of 368,640 tiles with the border
channels, are on no path without a loop. -/
def State.node (s : State) (q : Nat) (n : Node) : Bool := s.nodeIn q 67108864 n
/-- What a multiplexer of Qq passes. -/
def State.muxed (s : State) (q : Nat) (m : Mux) : Bool := s.muxVal q (s.node q) m
/-- The select of a multiplexer names a source (R136): it is neither 0 nor a remaining code. -/
def State.muxNames (s : State) (q : Nat) (m : Mux) : Bool := decide (1 ≤ s.muxCode q m) && decide (s.muxCode q m ≤ m.sources)
/-- An input bit of an SAU or of a bay port (R136, R169, R206): 0 unless its select names a source. A source from outside the fabric has the level of a
command's operand (`outside`); any other has what the multiplexer passes. -/
def State.pinBit (s : State) (q : Nat) (m : Mux) (outside given : Bool) : Bool := s.muxNames q m && (if outside then given else s.muxed q m)
/-- `w` input bits from bit `lo` on, whose operand is `v`; `mask` has the bits whose source lies outside the fabric. -/
def State.pinBits (s : State) (q : Nat) (m : Nat → Mux) (mask lo w v : Nat) : Nat :=
  (List.range w).foldl (fun a i => a + bit (s.pinBit q (m (lo + i)) (mask.testBit (lo + i)) (v.testBit i)) * 2 ^ i) 0
/-- The tile output that probe k of Qq samples, and its sample clock (R164): column, row, output, regional clock. -/
def State.probeSampled (s : State) (q k : Nat) : Option (Nat × Nat × Nat × Nat) :=
  let b := probeBase q + 4 * k
  let c := s.getF b F.PROBE_SEL_col
  let r := s.getF b F.PROBE_SEL_row
  let clk := s.getF b F.PROBE_OPT_sample_clk
  if s.getF b F.PROBE_SEL_kind = 1 ∧ s.flag b F.PROBE_OPT_sampled = true ∧ c < 768 ∧ r < 480 ∧ 1 ≤ clk ∧ clk ≤ 12 then
    some (c, r, s.getF b F.PROBE_SEL_out, clk)
  else none

/-! ## Isolation cells (R224–R227) -/

/-- The active plane of facet f, while its cells do not hold, drives an isolation cell (R224): a plane lists the cells it uses. -/
def State.drives (s : State) (f n : Nat) : Bool := !s.holding f && (s.planeCfg f (s.facetPlane f)).cells.any (fun p => p.1 == n)
/-- The level that leaves line `j` of Qq, through its isolation cell (R156, R224, R225). A line that no design drives is 0. -/
def State.lineOut (s : State) (q j : Nat) : Nat :=
  bit (SMap.get 0 s.fab.held (cellKey q j) != 0 ||
    ((List.range 12).any (fun i => s.drives (12 * q + i) j) && SMap.get 0 s.fab.lines (56 * q + j) == 1))
/-- The output (0) or output enable (1) of user I/O k of Qq behind its isolation cell (R224, R686). -/
def State.uioOut (s : State) (q k oen : Nat) : Bool := s.isolated (uioFacet q k) (padCell k oen) (s.muxed q (.pad k oen))
/-- The level that leaves cell `n` of Qq, which facet f drives. -/
def State.cellOut (s : State) (f n : Nat) : Bool :=
  let q := f / 12
  if n < 64 then s.lineOut q n == 1
  else if n < 1024 then s.uioOut q ((n - 64) / 2) (n % 2)
  else
    let k := (n - 1024) / 16
    let t := k / 4
    let d := match k % 4 with | 0 => Dir.north | 1 => .east | 2 => .south | _ => .west
    s.isolated f n (s.muxed q (.border (t / 480) (t % 480) d (n % 16)))
/-- The cells of a facet begin to hold what its active plane says (R225, R226): 0, 1 or the last value driven. Those of a facet that never had
a valid active plane hold 0. -/
def State.holdCells (s : State) (f : Nat) : State :=
  let ones := if (s.facetX f).ever then
      (s.planeCfg f (s.facetPlane f)).cells.filter (fun p => p.2 == 1 || (decide (2 ≤ p.2) && s.cellOut f p.1))
    else []
  { s with fab := { s.fab with held := ones.foldl (fun m p => SMap.put 0 m (cellKey (f / 12) p.1) (f + 1)) s.fab.held } }
/-- The event source of line `j` of Qq. -/
def lineSrc (q j : Nat) : Nat := 800 + 56 * q + j
/-- Event lines of Qq that are 1 record their sources (R156). -/
def State.signalLines (s : State) (q : Nat) : State :=
  (List.range 56).foldl (fun s j => if s.lineOut q j = 1 then s.signal (lineSrc q j) else s) s
/-- The cells of a facet follow again (R227): every value that it held is given up. -/
def State.releaseCells (s : State) (f : Nat) : State :=
  ({ s with fab := { s.fab with held := s.fab.held.filter (fun p => p.2 != f + 1) } } : State).signalLines (f / 12)

/-- The isolation cells of a facet hold (R225–R227). -/
def State.hold (s : State) (f : Nat) : State := if s.holding f then s else (s.holdCells f).raise (facetBase f) F.FACET_STAT_holding
/-- They follow the design again. -/
def State.unhold (s : State) (f : Nat) : State := (s.lower (facetBase f) F.FACET_STAT_holding).releaseCells f

end Sys2Proof.Machine
end

