-- ==== Sys2Proof/Machine/Fabric.lean ====
section
/-! DEFINITION. The fabric's edge: stream ports (R143–R152, R163), the fabric register port (R153–R155, R162), user event lines
(R156) and the probe enables (R157–R161). -/
namespace Sys2Proof.Machine

/-! ## Where things sit -/

/-- The device facet of lane port `p` of Qq (R144): outer column, row ⌊p / 18⌋. -/
def laneFacet (q p : Nat) : Nat := 12 * q + 3 * (p / 18) + (if q % 2 = 0 then 0 else 2)
/-- The device facet that holds local vertex `v` of Qq (R144, R219). -/
def vertexFacet (q v : Nat) : Nat := 12 * q + 3 * (v / 12 / 2) + v % 12 / 4

/-- The offset of a port's register group (R163). -/
def SpPort.off : SpPort → Nat
  | .rx p => 0x100 + 0x20 * p.val
  | .tx p => 0x1000 + 0x20 * p.val
  | .ingress v => 0x2000 + 0x20 * v.val
  | .egress v => 0x3000 + 0x20 * v.val
/-- The facet of a port (R144). -/
def SpPort.facet (q : Nat) : SpPort → Nat
  | .rx p => laneFacet q p.val
  | .tx p => laneFacet q p.val
  | .ingress v => vertexFacet q v.val
  | .egress v => vertexFacet q v.val
/-- The beats a port's queue holds (R146). -/
def SpPort.depth : SpPort → Nat
  | .rx _ => 64
  | .tx _ => 64
  | _ => 128
/-- The address of a port's registers. -/
def portBase (q : Nat) (p : SpPort) : Nat := spBase q + p.off

/-! ## Facet conditions -/

/-- The host fence (R241). -/
def State.hostFence (s : State) (f : Nat) : Bool := s.flag (facetBase f) F.FACET_FENCE_STAT_host_fence
/-- The facet's ports are fenced (R242, R245). -/
def State.fenced (s : State) (f : Nat) : Bool :=
  s.hostFence f || (s.facetX f).unfencing || !(s.facetState f == fcRunning || s.facetState f == fcSwapping || s.facetState f == fcStopped) ||
  (s.facetX f).reset != 0
/-- The lane groups that an endpoint vertex of a lane die serves: its own index, and index 0 the ninth too (assumption log 96). -/
def endGroups (vk : Nat) : List Nat :=
  let g := 9 * ((endpointOf vk).1 - 5) + (endpointOf vk).2
  if (endpointOf vk).2 = 0 then [g, g + 8] else [g]
/-- A domain is OFF or drains to go OFF (R320). -/
def State.domGone (s : State) (d : Nat) : Bool := s.dom d == 0 || s.dom d == 4
/-- The endpoint vertex has lost its die or its spine: its lane die is held in reset, all of the lane groups that it serves there are OFF or drain, or
so is the spine on which it lies (R320, R611, R623). -/
def State.endGone (s : State) (vk : Nat) : Bool :=
  decide (16 ≤ vkY vk) &&
  (s.domGone (spineDom (vkQuad vk)) ||
    ((endpointOf vk).1 == 5 || (endpointOf vk).1 == 6) &&
      (s.pwr.inReset.getLsbD (endpointOf vk).1 || (endGroups vk).all (fun g => s.domGone (groupDom g))))
/-- The endpoint vertex is fenced beside the fence of the partner (R320, R498): it has lost its die or its spine, or the edge of its die is retired. -/
def State.endFenced (s : State) (vk : Nat) : Bool :=
  s.endGone vk ||
  decide (16 ≤ vkY vk) && !((endpointOf vk).1 == 5 || (endpointOf vk).1 == 6) && s.edgeState (if vkX vk < 12 then 6 else 7) == egRetired
/-- The local port of a vertex is fenced (R320, R321, R508, R512). No address of R311 leads to a cue core, and a stack's spine client answers
for itself. -/
def State.niFenced (s : State) (vk : Nat) : Bool :=
  s.bypass vk ||
  (if vkY vk < 16 then s.fenced (vertexFacet (vkQuad vk) (vkLocal vk))
   else s.endFenced vk || ((endpointOf vk).1 == 7 && s.flag psysBase F.PSYS_STAT_fenced))
/-- A record of the facet's own source (R156, R205, R253). -/
def facetSrc (f : Nat) : Nat := 64 + f
/-- Counts a refusal of a fenced facet (R243). -/
def State.facetRefused (s : State) (f n : Nat) : State :=
  s.count (facetBase f) F.FACET_SH_REFUSED_LO_refused n (facetBase f) F.FACET_STAT_cnt_overflow (facetSrc f)

/-! ## Stream ports -/

/-- A port's queue and intake. -/
def State.spq (s : State) (b : Nat) : SpQ := SMap.get {} s.fab.ports b
/-- Replaces it. -/
def State.setSpq (s : State) (b : Nat) (v : SpQ) : State := { s with fab := { s.fab with ports := SMap.put {} s.fab.ports b v } }
/-- The port is enabled. -/
def State.spOn (s : State) (b : Nat) : Bool := s.flag b F.SP_CTL_enable
/-- The port's regional clock runs and its facet lets beats transfer (R145, R149, R247). -/
def State.spMoves (s : State) (b f : Nat) : Bool := s.regionRuns f (s.getF b F.SP_CTL_clk_sel) && s.baysRun f && !s.holding f
/-- Counts discarded or missing beats; saturation sets overflow (R163). -/
def State.spDrop (s : State) (b f n : Nat) : State := s.count b F.SP_SH_DROP_LO_drop n b F.SP_STAT_overflow (facetSrc f)

/-- A beat transfers between a port and user logic and is counted (R145, R163). -/
def State.spCount (s : State) (b f : Nat) (x : Beat) : State :=
  let s1 := s.count b F.SP_SH_BEATS_LO_beats 1 b F.SP_STAT_beats_overflow (facetSrc f)
  if x.poison then
    (s1.count b F.SP_SH_POISON_LO_poison 1 b F.SP_STAT_poison_seen (facetSrc f)).mark b F.SP_STAT_poison_seen (facetSrc f)
  else s1

/-- A beat of a receive or ingress port transfers to user logic. -/
def State.spPass (s : State) (b f : Nat) (x : Beat) : State := (s.spCount b f x).emit (.beat b x)

/-- `n` beats at most leave the queue of a receive or ingress port for user logic. -/
def State.spDrain (s : State) (b f : Nat) : Nat → State
  | 0 => s
  | n + 1 =>
    match (s.spq b).beats with
    | [] => s
    | x :: t => State.spDrain ((s.setSpq b { s.spq b with beats := t }).spPass b f x) b f n

/-- User logic takes beats of a receive or ingress port on the edges at which valid and ready are both 1 (R145): how many is open (assumption
log 93). A port with nothing to give, without a clock or in a facet whose cells hold gives none. -/
def State.spTake (s : State) (b f : Nat) : State :=
  if (s.spq b).beats.isEmpty || !s.spMoves b f then s
  else
    let n := s.freeVal
    n.2.spDrain b f (n.1 % ((s.spq b).beats.length + 1))

/-- The port takes intake of a beat (R151): a cleared enable stops it at the next start of line, or at once when no line is in
progress. -/
def State.spTakes (s : State) (b : Nat) (sol : Bool) : Bool :=
  if s.spOn b then true else (s.spq b).inLine && !(s.spq b).stopped && !sol

/-- A beat that meets a facet OFF or fenced is discarded and counted (R150, R243). -/
def State.spRefuse (s : State) (b f : Nat) : State := (s.spDrop b f 1).facetRefused f 1
/-- A beat enters the input side of a port with room for `depth` beats (R146, R147, R151); `sure`: it is of a ring packet accepted
before intake stopped. -/
def State.spEnter (s : State) (b f depth : Nat) (sure : Bool) (x : Beat) : State :=
  let p := s.spq b
  if !sure && !s.spTakes b x.sol then (s.setSpq b { p with stopped := true, inLine := false }).spDrop b f 1
  else if (p.discard && !x.sol) || decide (depth ≤ p.beats.length) then
    ((s.setSpq b { p with discard := true }).spDrop b f 1).mark b F.SP_STAT_overflow (facetSrc f)
  else if sure && !s.spOn b then s.setSpq b { p with beats := p.beats ++ [x] }
  else s.setSpq b { p with beats := p.beats ++ [x], discard := false, inLine := true, stopped := false }

/-- A beat arrives at the input side of a lane receive port (R146, R147, R150, R151). -/
def State.spArrive (s : State) (b f depth : Nat) (x : Beat) : State :=
  if s.facetState f = fcOff ∨ s.fenced f then s.spRefuse b f else s.spEnter b f depth false x

/-- LANE_PORT_BEAT_RECEIVE (R145, R147, R150): a beat arrives at lane receive port `p` of Qq, after the design took up to `taken` beats
from its queue. -/
def execLanePortBeatReceive (q : Fin 4) (p : Fin 72) (x : Beat) (taken : Nat) (s : State) : Result :=
  .next
    (let b := portBase q.val (.rx p)
     let f := laneFacet q.val p.val
     let s1 := if s.spMoves b f then s.spDrain b f taken else s
     s1.spArrive b f 64 x)

/-- Beats the design gives a transmit or egress port while its queue has room and intake runs (R145, R146, R149, R151). The first that finds ready 0 stays
with the design, and those behind it; a start of line that meets a cleared enable ends intake. -/
def State.spGive (s : State) (b f depth : Nat) : List Beat → State
  | [] => s
  | x :: t =>
    let p := s.spq b
    if !s.spMoves b f || s.fenced f then s
    else if !s.spTakes b x.sol then s.setSpq b { p with stopped := true, inLine := false }
    else if depth ≤ p.beats.length then s
    else State.spGive ((s.setSpq b { p with beats := p.beats ++ [x], inLine := true, stopped := false }).spCount b f x) b f depth t

/-- The next beat of a transmit or egress port leaves its queue on the input side of lane or network; it was counted as it transferred from the
fabric (R145, R146). -/
def State.spSend (s : State) (b : Nat) : State :=
  match (s.spq b).beats with
  | [] => s
  | x :: t => (s.setSpq b { s.spq b with beats := t }).emit (.beat b x)
/-- The engine requests a beat from a transmit port (R148). -/
def State.spRequest (s : State) (b f : Nat) : State :=
  match (s.spq b).beats with
  | [] => (s.spDrop b f 1).mark b F.SP_STAT_underflow (facetSrc f)
  | _ :: _ => s.spSend b

/-- The essence packets that the network interface of a port's vertex has accepted and not yet delivered (R151). -/
def State.spOwed (s : State) (q : Nat) (p : SpPort) : Nat :=
  match p with
  | .ingress v => ((s.ni (vkOfLocal q v.val)).arrive.filter (fun x => x.op == 6)).length
  | _ => 0
/-- SP_CTL of a port takes a value (R151, R163). Ring packets accepted before intake stops are still taken. -/
def State.spCtl (s : State) (q : Nat) (p : SpPort) (v : Nat) : State :=
  let b := portBase q p
  let s1 := (s.setF b F.SP_CTL_enable (bitsOf v 31 31)).setF b F.SP_CTL_clk_sel (v % 16)
  if v.testBit 31 then s1.setSpq b { s1.spq b with stopped := false, owed := 0 }
  else
    let x : SpQ := { s1.spq b with owed := if s.spOn b then s.spOwed q p else (s.spq b).owed }
    s1.setSpq b (if x.inLine then x else { x with stopped := true })

/-- SP_CTL_WRITE (R151): a write of SP_CTL of a port. -/
def execSpCtlWrite (m : Master) (q : Fin 4) (p : SpPort) (v : Word) (s : State) : Result :=
  .next (s.ownWrite m (1 + q.val) 0x020 p.off (fun s => s.spCtl q.val p v.toNat))

/-! ## The register port -/

/-- The facet of the register port of Qq (R153). -/
def State.regportFacet (s : State) (q : Nat) : Option Nat :=
  if s.flag (qsysBase q) F.QSYS_REGPORT_present then some (vertexFacet q (s.getF (qsysBase q) F.QSYS_REGPORT_vertex)) else none
/-- Requests outstanding at the port of Qq. -/
def State.rpOut (s : State) (q : Nat) : List RpReq := SMap.get [] s.fab.rp q
/-- Requests that wait in the network interface. -/
def State.rpWait (s : State) (q : Nat) : List RpReq := SMap.get [] s.fab.wait q
/-- Replaces the outstanding requests. -/
def State.setRpOut (s : State) (q : Nat) (l : List RpReq) : State :=
  ({ s with fab := { s.fab with rp := SMap.put [] s.fab.rp q l } }).setB (qsysBase q) F.QSYS_RP_STAT_pending (!l.isEmpty)
/-- Replaces the waiting requests. -/
def State.setRpWait (s : State) (q : Nat) (l : List RpReq) : State := { s with fab := { s.fab with wait := SMap.put [] s.fab.wait q l } }
/-- The device-local address of a request. -/
def winAddr (q a : Nat) : Nat := 0x4000000000 + q * 0x400000000 + a

/-- The answer to a ring request of the register port (R153, R323): none to a posted write. -/
def State.rpAnswer (s : State) (q : Nat) (h : List Nat) (st : Nat) (data : List Byte) : State :=
  let p : Pkt := { hdr := h }
  let v := vkOfLocal q (s.getF (qsysBase q) F.QSYS_REGPORT_vertex)
  if p.op = 2 then s
  else if st ≠ 0 then s.respond v p 0xF st [] []
  else if p.op = 0 then s.respond v p 9 0 data []
  else s.respond v p 0xA 0 [] []
/-- One 64-bit access of a ring request ended with a status and bytes; the last answers the request, with the first error (R299). -/
def State.rpPart (s : State) (q : Nat) (h : List Nat) (last : Bool) (st : Nat) (data : List Byte) : State :=
  let g := SMap.get (0, []) s.fab.gather q
  let g1 : Nat × List Byte := (if g.1 = 0 then st else g.1, g.2 ++ data)
  let s1 : State := { s with fab := { s.fab with gather := SMap.put (0, []) s.fab.gather q (if last then (0, []) else g1) } }
  if last then s1.rpAnswer q h g1.1 g1.2 else s1
/-- A request ends with an error (R40, R155, R323): a bus error response, or an error on the ring with status `st`. -/
def State.rpFail (s : State) (q : Nat) (r : RpReq) (st : Nat) : State :=
  match r.ring with
  | some h => s.rpPart q h r.last st []
  | none =>
    if r.master = .debug ∨ r.master = .debugPlain then s.emit (.bus r.master (winAddr q r.addr) (.errRing st))
    else s.busError r.master r.write (winAddr q r.addr) (if st = 0x0103 then .unmapped else .noAnswer)

/-- An access to the fabric window of Qq (R40, R153): it waits for the register port; without one, or with its facet fenced, it
ends at once. -/
def State.windowAccess (s : State) (q : Nat) (r : RpReq) : State :=
  match s.regportFacet q with
  | none => s.rpFail q r 0x0103
  | some f =>
    if s.fenced f then
      (s.facetRefused f 1).rpFail q r (if s.facetState f = fcOff ∨ s.facetState f = fcDraining then 0x0201 else 0x0202)
    else s.setRpWait q (s.rpWait q ++ [{ r with time := s.now }])

/-- The 64-bit accesses that a ring request of `n` bytes at offset `off` of a window makes (R153, R299). -/
def windowParts (p : Pkt) (off n : Nat) (now : Nat) : List RpReq :=
  let l := piecesOf 8 off n
  (List.range l.length).map (fun i =>
    let x := l.getD i (off, n)
    { master := .steward, addr := x.1 / 8 * 8, write := p.op != 0, be := BitVec.ofNat 8 ((2 ^ x.2 - 1) * 2 ^ (x.1 % 8)),
      data := BitVec.ofNat 64 (ofBytes ((p.data.drop (x.1 - off)).take x.2) * 256 ^ (x.1 % 8)), time := now, ring := some p.hdr,
      last := i + 1 == l.length })
/-- A new ring request to the fabric window of Qq meets the fence of facet f (R243, R320): it is answered at once, and a posted write is dropped
and counted. -/
def State.windowRefuse (s : State) (q f vk : Nat) (p : Pkt) : State :=
  let s1 := s.facetRefused f 1
  (if p.op = 2 then s1.dropCount vk else s1).rpAnswer q p.hdr (if s.facetState f = fcOff ∨ s.facetState f = fcDraining then 0x0201 else 0x0202) []
/-- A ring request to the fabric window of Qq that the network interface has accepted (R40, R244, R299): it waits for the register port as a row of
64-bit accesses; without a port, or with its facet OFF, it is answered at once. -/
def State.windowRing (s : State) (q vk : Nat) (p : Pkt) : State :=
  match s.regportFacet q with
  | none => s.rpAnswer q p.hdr 0x0103 []
  | some f =>
    if s.facetState f = fcOff then s.windowRefuse q f vk p
    else s.setRpWait q (s.rpWait q ++ windowParts p (p.addr % 0x400000000) p.bytes s.now)

/-- The register port of Qq takes requests: its facet does not hold its cells, as at a swap (R234). -/
def State.regportReady (s : State) (q : Nat) : Bool :=
  match s.regportFacet q with
  | some f => !s.holding f
  | none => false
/-- REGPORT_REQUEST (R154, R234): the next waiting request is presented, up to 8 outstanding, unless req_ready is 0 because the facet holds. -/
def execRegportRequest (q : Fin 4) (s : State) : Result :=
  .next
    (match s.rpWait q.val with
     | [] => s
     | r :: t =>
       if (s.rpOut q.val).length < 8 ∧ s.regportReady q.val then
         ((s.setRpWait q.val t).setRpOut q.val (s.rpOut q.val ++ [{ r with time := s.now }])).emit (.regport q.val r)
       else s)

/-- A record of QSYS_RP_STAT drives the source of the facet with the port (R156). -/
def State.rpMark (s : State) (q : Nat) (f : Fld) : State :=
  match s.regportFacet q with
  | some x => s.mark (qsysBase q) f (facetSrc x)
  | none => s.raise (qsysBase q) f

/-- The bytes that the enables select, at their places. -/
def enabledBytes (be : BitVec 8) (d : BitVec 64) : Nat :=
  (List.range 8).foldl (fun v i => if be.getLsbD i then v + (d.toNat / 256 ^ i % 256) * 256 ^ i else v) 0

/-- The bytes that the enables select, in order. -/
def enabledList (be : BitVec 8) (d : BitVec 64) : List Byte :=
  (List.range 8).filterMap (fun i => if be.getLsbD i then (bytesOf 8 d.toNat)[i]? else none)

/-- REGPORT_RESPONSE (R153–R155): user logic answers the oldest request; an answer for a request that timed out is discarded. -/
def execRegportResponse (q : Fin 4) (err : Bool) (data : BitVec 64) (s : State) : Result :=
  .next
    (if SMap.get 0 s.fab.late q.val ≠ 0 then
       { s with fab := { s.fab with late := SMap.put 0 s.fab.late q.val (SMap.get 0 s.fab.late q.val - 1) } }
     else
       match s.rpOut q.val with
       | [] => s
       | r :: t =>
         let s1 := s.setRpOut q.val t
         if err then (s1.rpMark q.val F.QSYS_RP_STAT_error).rpFail q.val r 0x0500
         else match r.ring with
         | some h =>
           s1.rpPart q.val h r.last 0 (if r.write then [] else enabledList r.be data)
         | none => s1.emit (.bus r.master (winAddr q.val r.addr) (if r.write then .done else .value (enabledBytes r.be data))))

/-- REGPORT_TIMEOUT (R155): the oldest request has had no response for 10 µs; where none is outstanding, the oldest that waits has not been taken
for as long, as in a facet that is STOPPED. -/
def execRegportTimeout (q : Fin 4) (s : State) : Result :=
  .next
    (match s.rpOut q.val with
     | [] =>
       (match s.rpWait q.val with
        | [] => s
        | r :: t => ((s.setRpWait q.val t).rpMark q.val F.QSYS_RP_STAT_timeout).rpFail q.val r 0x0400)
     | r :: t =>
       let s1 := s.setRpOut q.val t
       let s2 : State := { s1 with fab := { s1.fab with late := SMap.put 0 s1.fab.late q.val (SMap.get 0 s1.fab.late q.val + 1) } }
       (s2.rpMark q.val F.QSYS_RP_STAT_timeout).rpFail q.val r 0x0400)

/-! ## User event lines -/

/-- USER_EVENT_LINE (R156): the design drives line `j` of Qq; the source is live while the line, as its isolation cell passes it,
is 1. -/
def execUserEventLine (q : Fin 4) (j : Fin 56) (level : Bool) (s : State) : Result :=
  .next
    (let s1 : State := { s with fab := { s.fab with lines := SMap.put 0 s.fab.lines (56 * q.val + j.val) (bit level) } }
     if s1.lineOut q.val j.val = 1 then s1.signal (lineSrc q.val j.val) else s1)

/-! ## Probes -/

/-- PROBE_CTL.locked (R161). -/
def State.probeLocked (s : State) : Bool := s.policyBars 1 6

/-- PROBE_CTL takes a value (R161, R164). -/
def State.probeCtl (s : State) (q v : Nat) : State :=
  if s.probeLocked then s else s.setF (probeBase q) F.PROBE_CTL_enable (v % 16)

/-- PROBE_CTL_WRITE (R161). -/
def execProbeCtlWrite (m : Master) (q : Fin 4) (v : Word) (s : State) : Result :=
  .next (s.ownWrite m (1 + q.val) 0x038 0x0C (fun s => s.probeCtl q.val v.toNat))

end Sys2Proof.Machine
end

