-- ==== Sys2Proof/Machine/Ring.lean ====
section
/-! DEFINITION. The commands of the ring network: flits, routing, delivery, credits, the fabric request port, stream flows and their
admission, route changes (R299–R331). -/
namespace Sys2Proof.Machine

/-! ## Requests and their ends (R307, R322) -/

/-- The op of the answer to a request. -/
def answerOp (op : Nat) : Nat := if op = 0 then 9 else if op = 1 then 0xA else 0xB

/-- The key of a request credit: destination, and management or request class. -/
def creditKey (dst cls : Nat) : Nat := 2 * dst + (if cls = 3 then 1 else 0)
/-- A packet that needs a request credit (R307, R308). -/
def Pkt.needsCredit (p : Pkt) : Bool := (p.cls == 0 || p.cls == 3) && decide (p.op ≤ 5) && !p.returned
/-- The quota that a destination grants in a class (R307, R308). -/
def State.quota (s : State) (dst cls : Nat) : Nat :=
  if cls = 3 then s.getF (vkBase dst) F.NI_CFG_mgmt_quota else s.getF (vkBase dst) F.NI_CFG_req_quota
/-- Credits in use. -/
def State.used (s : State) (vk dst cls : Nat) : Nat := SMap.get 0 (s.ni vk).used (creditKey dst cls)
/-- Gives credits back. -/
def State.creditBack (s : State) (vk dst cls n : Nat) : State :=
  s.setNi vk { s.ni vk with used := SMap.put 0 (s.ni vk).used (creditKey dst cls) (monus (s.used vk dst cls) n) }

/-- A request ends at its source: its response buffer is freed, its credit returns, and a request of the fabric port has its response
ready (R307, R314); one that the fabric issued before a swap edge is stale (R239), and one of the partner is answered to it (R510). -/
def State.endRequest (s : State) (vk tag status : Nat) (data : List Byte) (poison : List Nat) : State :=
  match (s.ni vk).outst.find? (fun o => o.tag == tag) with
  | none => s
  | some o =>
    let s1 := s.creditBack vk o.dst o.cls 1
    let n := s1.ni vk
    let s2 := s1.setNi vk { n with outst := n.outst.filter (fun e => e.tag != tag),
                                   ready := if o.client = 0 then n.ready ++ [(o.ctag, status, data, poison)] else n.ready }
    if o.client = 2 then
      let f := vertexFacet (vkQuad vk) (vkLocal vk)
      (s2.count (facetBase f) F.FACET_SH_STALE_LO_stale 1 (facetBase f) F.FACET_STAT_cnt_overflow (facetSrc f)).mark (facetBase f)
        F.FACET_STAT_stale_rsp (facetSrc f)
    else if o.client = 3 then
      s2.toPartner (endpointOf vk).2 (mkPkt vk vk (if status = 0 then answerOp o.op else 0xF) (if o.cls = 3 then 3 else 1) 0 0 (max 1 data.length) o.ctag status
        data poison)
    else s2
/-- A packet is turned back, and the vertex takes it into its relay buffer, or holds it until that has a place (R313, R322). -/
def State.turnIn (s : State) (vk : Nat) (q : Queued) : State :=
  let k := 2 * q.pkt.cls
  if (s.vq vk 5 k).length < 4 then s.setVq vk 5 k (s.vq vk 5 k ++ [q]) else s.setNi vk { s.ni vk with turned := (s.ni vk).turned ++ [q] }
/-- What waits for a place in the relay buffer enters it as far as there is one. -/
def State.turnOn (s : State) (vk : Nat) : State :=
  (s.ni vk).turned.foldl (fun s q => s.turnIn vk q) (s.setNi vk { s.ni vk with turned := [] })
/-- The packet is returned where it cannot proceed (R322): a request, management packet or fence that is not on its way home. -/
def Pkt.goesHome (p : Pkt) : Bool :=
  (p.cls == 0 || p.cls == 3 || p.op == 8) && p.op != 2 && p.op != 0xD && p.op != 9 && p.op != 0xA && p.op != 0xB && p.op != 0xC && p.op != 0xF && !p.returned
/-- The packet that goes home: a header alone, with returned = 1, chord = 0 and flits = 0, source and destination swapped and the reason (R302, R322). -/
def Pkt.homeward (p : Pkt) (st : Nat) : Pkt :=
  let r := (((((p.set 0 31 26 32).set 0 4 0 (vkX p.src)).set 0 9 5 (vkY p.src)).set 0 14 10 (vkX p.dst)).set 0 19 15 (vkY p.dst))
  { (r.set 7 15 0 st) with data := [], poison := [] }

/-- A packet at a vertex cannot proceed (R322): a request, management packet or fence is returned with the reason; anything else, and
a packet on its way home, is dropped. -/
def State.turnBack (s : State) (vk : Nat) (p : Pkt) (st : Nat) : State :=
  if p.goesHome then s.turnIn vk { pkt := p.homeward st, time := s.now } else s.dropPkt vk p

/-! ## The ledger (R317, R319) -/

/-- The links of a route, each as 2 × link + direction, from a packet at input `inp` of a vertex. -/
def State.pathOf (s : State) : Nat → Nat → Nat → Queued → List Nat
  | 0, _, _, _ => []
  | n + 1, vk, inp, q =>
    let next (q : Queued) (step : Bool) : Queued := if step then { q with pkt := q.pkt.set 4 7 5 (q.pkt.f 4 7 5 + 1) } else q
    match s.route vk inp q with
    | .go dir d step =>
      (2 * linkNo (ringAt vk dir) (linkIdx (ringAt vk dir) (posAt vk dir) dir) + dir % 2) ::
        s.pathOf n (nextVk vk dir) dir { next q step with d := d, dir := none }
    | .relay dir step => s.pathOf n vk 5 { next q step with d := false, dir := dir }
    | _ => []

/-- The destination of the flow of a vertex (R315); a memory flow's is that of its base address. -/
def State.flowDst (s : State) (vk : Nat) : Option Nat :=
  let b := vkBase vk
  if s.flag b F.NI_FLOW_CTL_kind then
    s.homeOf (vkX vk) (s.getF b F.NI_FLOW_BASE_HI_base * 4294967296 + s.getF b F.NI_FLOW_BASE_LO_base * 64)
  else if s.getF b F.NI_FLOW_CTL_dst_x < 24 ∧ s.getF b F.NI_FLOW_CTL_dst_y < 16 then
    some (vkOf (s.getF b F.NI_FLOW_CTL_dst_x) (s.getF b F.NI_FLOW_CTL_dst_y))
  else none
/-- The links of the flow of a vertex. -/
def State.flowPath (s : State) (vk : Nat) : List Nat :=
  match s.flowDst vk with
  | some dst => s.pathOf 120 vk 4 { pkt := s.chordRoute vk (mkPkt vk dst 6 2 0 6 1 0 0 [] []) }
  | none => []

/-- The stream budget of a link in one direction, in 10 Mb/s (R317). -/
def State.budget (s : State) (key : Nat) : Nat :=
  let no := key / 2
  if s.ringState (no / 32) ≠ 0 then 32768
  else match linkEdge no with
    | none => 65536
    | some e => if no / 32 < 16 then [65536, 36000, 18000].getD (s.edgeStep e) 0 else [48000, 24000, 12000].getD (s.edgeStep e) 0

/-- Rates of flows that use a link, in a list of flows with their links. -/
def loadOn (fs : List (Nat × Nat × List Nat)) (key : Nat) : Nat := fs.foldl (fun a f => if f.2.2.contains key then a + f.2.1 else a) 0
/-- Admitted flows with their links, oldest first. -/
def State.ledgerPaths (s : State) : List (Nat × Nat × List Nat) := s.ring.ledger.map (fun f => (f.1, f.2, s.flowPath f.1))

/-- LEDGER_RECOMPUTE (R319): on every link the latest flows beyond its budget are unfit. -/
def State.ledgerRecompute (s : State) : State :=
  let fs := s.ledgerPaths
  ((List.range fs.length).map (fun i => (fs.take (i + 1), fs.getD i (0, 0, [])))).foldl (fun s p =>
    let vk := p.2.1
    let bad := p.2.2.2.any (fun k => decide (s.budget k < loadOn p.1 k))
    let was := s.flag (vkBase vk) F.NI_FLOW_STAT_unfit
    let s1 := s.setB (vkBase vk) F.NI_FLOW_STAT_unfit bad
    if bad && !was then s1.niMark vk F.NI_STAT_unfit 0 else s1) s

/-- A ring's fold state changed (R324, R326, R334): the event sources of its quadrants, and the ledger. -/
def State.ringChanged (s : State) (r : Nat) : State :=
  let qs := if r < 8 then [0, 1] else if r < 16 then [2, 3] else if r < 28 then [0, 2] else [1, 3]
  (qs.foldl (fun s q => s.signal (560 + 8 * q + 5)) s).ledgerRecompute

/-- The fold state of the rings that cross an edge changed. -/
def State.edgeRingsChanged (s : State) (e : Nat) : State := (edgeRings e).foldl (fun s r => s.ringChanged r) s

/-! ## Links (R300, R301) -/

/-- Whole packets in a run of flits of one virtual channel. -/
def packetsIn : List (BitVec 536) → List (BitVec 536) → List Pkt
  | _, [] => []
  | acc, x :: t => if flitTail x then ofFlits (acc ++ [x]) :: packetsIn [] t else packetsIn (acc ++ [x]) t

/-- The channel word of a link (R627). -/
def linkWord (no : Nat) : Nat :=
  let r := no / 32
  0x60000000 + (if r < 16 then (no % 32) * 65536 + r * 256 else (r - 16) * 65536 + (no % 32) * 256 + 2)

/-- What an output of a vertex is sending (R305). -/
def State.outPort (s : State) (vk dir : Nat) : OutPort := SMap.get {} s.ring.outs (4 * vk + dir)
/-- Replaces it. -/
def State.setOut (s : State) (vk dir : Nat) (p : OutPort) : State := { s with ring := { s.ring with outs := SMap.put {} s.ring.outs (4 * vk + dir) p } }
/-- A packet whose flits an output was sending is held at the retired link: the sending vertex turns it back whole (R322). -/
def State.unsend (s : State) (vk : Nat) (g : Option Prog) : State :=
  match g with
  | none => s
  | some g =>
    match s.vq vk g.inp g.vc with
    | [] => s
    | q :: t => (s.setVq vk g.inp g.vc t).turnBack vk q.pkt 0x0501
/-- What a retired link carried in one direction is returned or dropped by the sending vertex (R322). -/
def State.salvage (s : State) (sender vk dir : Nat) : State :=
  let l := s.link vk dir
  let o := s.outPort sender dir
  let ps := (List.range 8).flatMap (fun vc => packetsIn [] (SMap.get [] l.part vc ++ l.sent.filter (fun x => flitVc x == vc)))
  (((ps.foldl (fun s p => s.turnBack sender p 0x0501) (s.setLink vk dir {})).setOut sender dir {}).unsend sender o.stream).unsend sender o.other

/-- Vertices enter bypass while steward firmware changes their routing state (R321, R334; how long that takes is open: assumption log 96). -/
def State.enterBypass (s : State) (vks : List Nat) : State :=
  vks.foldl (fun s vk => if s.bypass vk then s else
    ({ s with ring := { s.ring with byp := vk :: s.ring.byp } } : State).signal (niSrc vk 5)) s
/-- A vertex leaves bypass. -/
def State.leaveBypass (s : State) (vk : Nat) : State :=
  ({ s with ring := { s.ring with byp := s.ring.byp.filter (· != vk) } } : State).signal (niSrc vk 5)

/-- RING_LINK_RETIRE (R301, R321, R324): both directions between two vertices go out of service, the vertices enter bypass, and the ring folds. -/
def State.linkRetire (s : State) (no : Nat) : State :=
  if s.ring.retired.contains no then s
  else
    let r := no / 32
    let i := no % 32
    let vkAt (p : Nat) : Nat := if r < 16 then vkOf p r else vkOf (r - 16) p
    let a := vkAt i
    let b := vkAt ((i + 1) % ringSize r)
    let base := if r < 16 then 0 else 2
    let s1 := (({ s with ring := { s.ring with retired := no :: s.ring.retired } } : State).changeRoutes (.fold r)).enterBypass [a, b]
    let s2 := (s1.salvage a b base).salvage b a (base + 1)
    ((s2.uncharge (linkWord no)).journal 0x1C true (targetWord (1 + vkQuad a) (0x100 + (if vkY a < 16 then vkLocal a else 0)) 0) (linkWord no) 0 0).ringChanged r

/-- A vertex exists (R296, R298). -/
def vkReal (x y : Nat) : Bool := decide (x < 24) && (decide (y < 17) || (y == 17 && twoEnds x))
/-- The link that a vertex receives on in a direction of travel. -/
def linkInto (vk dir : Nat) : Nat := linkNo (ringAt vk dir) (linkIdx (ringAt vk dir) (posAt vk dir) (flip dir))

/-- The edge that a link crosses, if any, holds its flits: it trains, or waits for a replay of a flit whose check failed (R490, R495). -/
def State.edgeHolds (s : State) (no : Nat) : Bool :=
  match linkEdge no with
  | some e => s.edgeState e != egActive || (SMap.get (0, 0) s.opt.fails e).2 != 0
  | none => false

/-- RING_FLIT_RECEIVE (R300, R301, R303, R490, R495): the next flit on the wire into vertex (x, y) in direction `dir` arrives with the bits of
`noise` inverted. A good flit is acknowledged, and a tail completes its packet in the input queue; a failed check or a gap asks for a
replay, or retires the link: at its threshold, after two failed replays, or where flits keep failing at one sequence position. -/
def execRingFlitReceive (x : Fin 24) (y : Fin 18) (dir : Fin 4) (noise : BitVec 536) (s : State) : Result :=
  .next
    (let vk := vkOf x.val y.val
     let l := s.link vk dir.val
     let no := linkInto vk dir.val
     match l.wire with
     | [] => s
     | w :: t =>
       if !vkReal x.val y.val || s.linkBroken no || l.naked || s.edgeHolds no then s
       else
         let f := w ^^^ noise
         if flitGood f && flitSeq f == l.rxSeq then
           let acc := SMap.get [] l.part (flitVc f) ++ [f]
           let l1 := { l with wire := t, sent := l.sent.drop 1, rxSeq := (l.rxSeq + 1) % 64, fails := 0, replay := false,
                              posFail := if l.replay then l.posFail else SMap.put 0 l.posFail l.rxSeq 0 }
           if flitTail f then
             let s1 := s.setLink vk dir.val { l1 with part := SMap.put [] l.part (flitVc f) [] }
             s1.setVq vk dir.val (flitVc f) (s1.vq vk dir.val (flitVc f) ++ [{ pkt := ofFlits acc, d := flitVc f % 2 == 1, time := s.now }])
           else s.setLink vk dir.val { l1 with part := SMap.put [] l.part (flitVc f) acc }
         else
           let c := s.charge (linkWord no)
           let fails := if l.replay then l.fails + 1 else 0
           let again := SMap.get 0 l.posFail l.rxSeq + bit (!l.replay)
           let s1 := c.2.setLink vk dir.val { l with wire := t, naked := true, replay := false, fails := fails, posFail := SMap.put 0 l.posFail l.rxSeq again }
           if c.1 || decide (2 ≤ fails) || decide (2 + Config.positionRepeats ≤ again) then s1.linkRetire no else s1)

/-- RING_REPLAY (R301): the sender of the link resends from the failed flit out of its replay buffer. -/
def execRingReplay (x : Fin 24) (y : Fin 18) (dir : Fin 4) (s : State) : Result :=
  .next
    (let vk := vkOf x.val y.val
     let l := s.link vk dir.val
     if l.naked then s.setLink vk dir.val { l with wire := l.sent, naked := false, replay := true } else s)

/-! ## Routing and arbitration (R303–R313, R322) -/

/-- Flits still to come, on a virtual channel, of a packet that a vertex is sending. -/
def State.progLeft (s : State) (vk vc : Nat) (g : Option Prog) : Nat :=
  match g with
  | some g => (match s.vq vk g.inp g.vc with | q :: _ => if 2 * q.pkt.cls + bit g.d = vc then q.pkt.flits - q.gone else 0 | [] => 0)
  | none => 0
/-- The downstream queue of a direction has credits for a whole packet (R303), beside the packets that are on their way. -/
def State.linkSpace (s : State) (vk dir vc need : Nat) : Bool :=
  let nv := nextVk vk dir
  let l := s.link nv dir
  let o := s.outPort vk dir
  decide (flitsHeld (s.vq nv dir vc) + (SMap.get [] l.part vc).length + (l.sent.filter (fun x => flitVc x == vc)).length +
    s.progLeft vk vc o.stream + s.progLeft vk vc o.other + need ≤ 18)
/-- The edge that a direction crosses, if any, carries traffic: an edge in training withholds credits (R495). -/
def State.edgeOpen (s : State) (vk dir : Nat) : Bool :=
  match linkEdge (linkNo (ringAt vk dir) (linkIdx (ringAt vk dir) (posAt vk dir) dir)) with
  | some e => s.edgeState e == egActive
  | none => true
/-- An endpoint vertex reaches its die (R298): over a centroid edge, for the partner then over its link, and over the southern bundles of the lane
groups that it serves, where one of them works (R24, R499, R514). One that is fenced answers itself (R320, R508). -/
def State.dieOpen (s : State) (vk : Nat) : Bool :=
  let d := (endpointOf vk).1
  if vkY vk < 16 ∨ s.endFenced vk = true then true
  else if d = 5 ∨ d = 6 then
    s.niFenced vk || (endGroups vk).any (fun g => s.getF (sheBase (g / 9) + 4 * (2 * (g % 9) + 1)) F.SHE_B_state != 3)
  else s.edgeState (if vkX vk < 12 then 6 else 7) == egActive &&
    (d != 7 || s.flag psysBase F.PSYS_STAT_fenced || s.getF ucieBase F.UCIE_LINK_state == 3)
/-- Fence acknowledgements that a network interface owes or has not sent (R308). -/
def State.acksHeld (s : State) (vk : Nat) : Nat :=
  ((s.vq vk 4 2 ++ s.vq vk 4 6 ++ (s.ni vk).back).filter (fun q => q.pkt.op == 0xC)).length + ((s.ni vk).arrive.filter (fun p => p.op == 8 && !p.returned)).length
/-- The ring ingress port of a crossing vertex discards a new essence packet: its facet is OFF or fenced, or its intake has stopped (R150, R151). -/
def State.essenceOff (s : State) (vk : Nat) : Bool :=
  let b := spBase (vkQuad vk) + 0x2000 + 0x20 * vkLocal vk
  let f := vertexFacet (vkQuad vk) (vkLocal vk)
  s.facetState f == fcOff || s.fenced f || (!s.spOn b && (s.spq b).stopped)
/-- It has room for an essence packet beside those accepted (R148), or discards it. -/
def State.essenceRoom (s : State) (vk : Nat) (p : Pkt) : Bool :=
  let b := spBase (vkQuad vk) + 0x2000 + 0x20 * vkLocal vk
  let due := ((s.ni vk).arrive.filter (fun x => x.op == 6)).foldl (fun a x => a + x.f 2 5 0 + 1) 0
  s.essenceOff vk || decide ((s.spq b).beats.length + due + p.f 2 5 0 + 1 ≤ 128)
/-- The local port takes a packet now (R148, R298, R308): a fence and essence may have to wait in the input queue. -/
def State.portTakes (s : State) (vk : Nat) (p : Pkt) : Bool :=
  s.dieOpen vk && (p.op != 8 || p.returned || decide (s.acksHeld vk < 64)) && (p.op != 6 || decide (16 ≤ vkY vk) || s.essenceRoom vk p)

/-- An output of a vertex is sending the head of a queue. -/
def State.sending (s : State) (vk inp vc : Nat) : Bool :=
  (List.range 4).any (fun dir => [(s.outPort vk dir).stream, (s.outPort vk dir).other].any (fun g =>
    match g with | some g => g.inp == inp && g.vc == vc | none => false))
/-- A packet at the head of a queue that may take an output. -/
structure Cand where
  inp : Nat
  vc  : Nat
  q   : Queued
  act : Act
deriving DecidableEq, Repr

/-- Hops of the XY path of whole rings from a vertex to another (R309, R310). -/
def State.xyHops (s : State) (vk dst : Nat) : Nat :=
  let near (n a b : Nat) : Nat := min ((b + n - a) % n) ((a + n - b) % n)
  let y := if vkY vk < 16 then vkY vk else s.relayRow (vkX vk)
  (vkY vk - y) + near 24 (vkX vk) (vkX dst) + near (ringSize (16 + vkX dst)) y (vkY dst)
/-- The folded path of a packet without a chord exceeds its XY path by more than 24 hops: until a chord is in place for it, it is blocked (R325).
No response takes a chord (R312), and a packet on its way home goes on. -/
def State.tooFar (s : State) (vk : Nat) (q : Queued) : Bool :=
  let p := q.pkt
  !p.chord && p.cls != 1 && !p.returned && (s.ringState (vkY p.src) != 0 || s.ringState (16 + vkX p.dst) != 0 || s.ringState (16 + vkX p.src) != 0) &&
  decide (s.xyHops vk p.dst + 24 < (s.pathOf 120 vk 4 q).length)
/-- The head packets of a vertex that no output has begun to send, with what the vertex does with each: relay buffer before local injection
(R313). The stream packets among them are served in this order of their inputs (R305; assumption log 48). -/
def State.heads (s : State) (vk : Nat) : List Cand :=
  [0, 1, 2, 3, 5, 4].flatMap (fun inp => (List.range 8).filterMap (fun vc =>
    match s.vq vk inp vc with
    | q :: _ =>
      if s.sending vk inp vc then none
      else some { inp := inp, vc := vc, q := q, act := if inp = 4 ∧ s.tooFar vk q then .back 0x0203 else s.route vk inp q }
    | [] => none))
/-- A packet at the local port waits behind a change of routes that concerns its own (R310, R329): a fold entered or left on a ring of its path,
or the move of its column's relay. -/
def State.routeHeld (s : State) (vk : Nat) (q : Queued) : Bool :=
  (!s.ring.changing.isEmpty && decide (16 ≤ vkY q.pkt.dst) && ((endpointOf q.pkt.dst).1 == 0 || (endpointOf q.pkt.dst).1 == 7) && !q.pkt.answers &&
    s.ring.changing.any (fun c => match c with | .remap _ => true | _ => false)) ||
  (!s.ring.changing.isEmpty &&
    (({ s with ring := { s.ring with changing := [] } } : State).pathOf 120 vk 4 q).any (fun k =>
      s.ring.changing.any (fun c => c.rings.contains (k / 2 / 32)))) ||
  (decide (16 ≤ vkY vk) && s.ring.relays.contains (vkX vk) != s.bypass (vkOf (vkX vk) 15))
/-- A packet at the local port has the request credit that it needs (R307, R308), to its own vertex too. -/
def State.hasCredit (s : State) (vk : Nat) (p : Pkt) : Bool := !p.needsCredit || decide (s.used vk p.dst p.cls < s.quota p.dst p.cls)
/-- A head may use an output now (R303, R307). -/
def State.mayGo (s : State) (vk out : Nat) (c : Cand) : Bool :=
  match c.act with
  | .go dir d _ =>
    dir == out && s.linkSpace vk dir (2 * c.q.pkt.cls + bit d) c.q.pkt.flits && s.edgeOpen vk dir &&
    (c.inp != 4 || ((List.range 8).all (fun vc => (s.vq vk 5 vc).isEmpty) && s.hasCredit vk c.q.pkt && !s.routeHeld vk c.q))
  | .deliver => out == 4 && s.portTakes vk c.q.pkt && (c.inp != 4 || s.hasCredit vk c.q.pkt)
  | .relay _ _ => out == 5 && decide ((s.vq vk 5 (2 * c.q.pkt.cls)).length < 4)
  | .back _ =>
    out == 5 && (c.inp == 5 || !c.q.pkt.goesHome || decide ((s.vq vk 5 (2 * c.q.pkt.cls)).length < 4)) && 
    (c.inp != 4 || (!s.routeHeld vk c.q && (!c.q.pkt.goesHome || s.hasCredit vk c.q.pkt)))
/-- The number by which request, response and management packets are served in turn: source and virtual channel (R305). -/
def Cand.turn (c : Cand) : Nat := 8 * c.q.pkt.src + c.vc + 1
/-- The candidate that comes first in turn. -/
def firstTurn (l : List Cand) : Option Cand :=
  match l with
  | [] => none
  | c :: t => some (t.foldl (fun a b => if b.turn < a.turn then b else a) c)
/-- The candidate whose turn follows the last served (R305). -/
def State.nextTurn (s : State) (vk out : Nat) (l : List Cand) : Option Cand :=
  let later := l.filter (fun c => decide (SMap.get 0 s.ring.last (5 * vk + out) < c.turn))
  if later.isEmpty then firstTurn l else firstTurn later
/-- Which of a stream and another packet takes a slot (R305): the stream, but for the 8th slot. -/
def State.slotFor (s : State) (vk out : Nat) {α : Type} (stream other : Option α) : Option α :=
  match stream, other with
  | some a, some b => if 7 ≤ SMap.get 0 s.ring.run (5 * vk + out) then some b else some a
  | some a, none => some a
  | none, o => o
/-- The packet that the local port or the relay buffer takes next, by the rule of the links (R305). -/
def State.pick (s : State) (vk out : Nat) : Option Cand :=
  let cs := (s.heads vk).filter (fun c => s.mayGo vk out c)
  s.slotFor vk 4 (cs.filter (fun c => c.q.pkt.cls == 2)).head? (s.nextTurn vk 4 (cs.filter (fun c => c.q.pkt.cls != 2)))

/-- The packet that an output is in the middle of sending. -/
def State.inProgress (s : State) (vk dir : Nat) (g : Option Prog) : Option Cand :=
  match g with
  | some g => (s.vq vk g.inp g.vc).head?.map (fun q => { inp := g.inp, vc := g.vc, q := q, act := .go dir g.d g.step })
  | none => none
/-- The packet whose next flit takes the next slot of an output link (R305): one in progress goes on to its end in its turn, and a new one
starts only where the whole has credits. The link waits while its replay buffer, of 64 flits or at an edge 128 (R301, R490), is full or its edge
withholds credits. -/
def State.slot (s : State) (vk dir : Nat) : Option Cand :=
  let o := s.outPort vk dir
  let cs := (s.heads vk).filter (fun c => s.mayGo vk dir c)
  if !s.edgeOpen vk dir || s.linkBroken (linkNo (ringAt vk dir) (linkIdx (ringAt vk dir) (posAt vk dir) dir)) ||
    decide ((if (linkEdge (linkNo (ringAt vk dir) (linkIdx (ringAt vk dir) (posAt vk dir) dir))).isSome then 128 else 64) ≤
      (s.link (nextVk vk dir) dir).sent.length) then none
  else
    s.slotFor vk dir (match s.inProgress vk dir o.stream with | some c => some c | none => (cs.filter (fun c => c.q.pkt.cls == 2)).head?)
      (match s.inProgress vk dir o.other with | some c => some c | none => s.nextTurn vk dir (cs.filter (fun c => c.q.pkt.cls != 2)))

/-! ## Ring directions at an edge (R22) -/

/-- The ring directions that cross edge e out of quadrant q: 4 × sending vertex + direction (R297). -/
def edgeOuts (e q : Nat) : List Nat :=
  let xs (r : Nat) : List Nat := [4 * vkOf 11 r, 4 * vkOf 12 r + 1, 4 * vkOf 0 r + 1, 4 * vkOf 23 r]
  let ys (x : Nat) : List Nat := [4 * vkOf x 7 + 2, 4 * vkOf x 8 + 3, 4 * vkOf x 0 + 3, 4 * vkOf x (ringSize (16 + x) - 1) + 2]
  ((List.range (if e < 2 then 8 else 12)).flatMap (fun i => if e < 2 then xs (8 * e + i) else ys (12 * (e - 2) + i))).filter
    (fun k => vkQuad (k / 4) == q)
/-- The edge that an output of a vertex crosses. -/
def outEdge (vk dir : Nat) : Option Nat := linkEdge (linkNo (ringAt vk dir) (linkIdx (ringAt vk dir) (posAt vk dir) dir))
/-- Ring directions that have sent a flit in the present round at an edge. -/
def State.round (s : State) (e q : Nat) : List Nat := SMap.get [] s.ring.turns (4 * e + q)
/-- An output may send a flit now (R22): the ring directions that cross an edge take turns, one flit each, while others have flits to send. -/
def State.edgeTurn (s : State) (vk dir : Nat) : Bool :=
  match outEdge vk dir with
  | none => true
  | some e =>
    let l := s.round e (vkQuad vk)
    !l.contains (4 * vk + dir) || (edgeOuts e (vkQuad vk)).all (fun k => l.contains k || (s.slot (k / 4) (k % 4)).isNone)
/-- It has sent one. -/
def State.tookTurn (s : State) (vk dir : Nat) : State :=
  match outEdge vk dir with
  | none => s
  | some e =>
    let l := s.round e (vkQuad vk)
    let k := 4 * vk + dir
    { s with ring := { s.ring with turns := SMap.put [] s.ring.turns (4 * e + vkQuad vk) (if l.contains k then [k] else k :: l) } }

/-- The output gave `n` slots to a packet. -/
def State.served (s : State) (vk out n : Nat) (c : Cand) : State :=
  let k := 5 * vk + out
  if c.q.pkt.cls = 2 then { s with ring := { s.ring with run := SMap.put 0 s.ring.run k (SMap.get 0 s.ring.run k + n) } }
  else { s with ring := { s.ring with run := SMap.put 0 s.ring.run k 0, last := SMap.put 0 s.ring.last k c.turn } }

/-- A packet is ready at the local port, and waits for a credit (R307) or for flit credits downstream, or a request of the fabric waits for a response
buffer (R331). -/
def State.localWaits (s : State) (vk : Nat) : Bool :=
  ((s.ni vk).asks && decide (s.getF (vkBase vk) F.NI_CFG_resp_bufs ≤ (s.ni vk).outst.length + (s.ni vk).ready.length)) ||
  (s.heads vk).any (fun c => c.inp == 4 && (match c.act with
    | .go dir d _ => !s.hasCredit vk c.q.pkt || !s.linkSpace vk dir (2 * c.q.pkt.cls + bit d) c.q.pkt.flits
    | _ => false))
/-- The wait for a credit or a reservation at a local port begins, where none runs. -/
def State.stallFrom (s : State) (vk : Nat) : State :=
  if (s.ni vk).stall.isSome then s else s.setNi vk { s.ni vk with stall := some s.now }
/-- It ends, and its ring cycles are counted in NI_SH_STALL (R331). -/
def State.stallEnd (s : State) (vk : Nat) : State :=
  match (s.ni vk).stall with
  | none => s
  | some t => (if t < s.now then s.niCount vk F.NI_SH_STALL_LO_lo ((s.now - t) * 16 / 10) else s).setNi vk { s.ni vk with stall := none }
/-- A vertex has arbitrated: whether its local port waits now. -/
def State.stallCheck (s : State) (vk : Nat) : State := if s.localWaits vk then s.stallFrom vk else s.stallEnd vk
/-- A packet starts from the local port and takes a credit (R307). -/
def State.startLocal (s : State) (vk : Nat) (c : Cand) : State :=
  let p := c.q.pkt
  if c.inp = 4 ∧ c.q.gone = 0 then
    if p.needsCredit then s.setNi vk { s.ni vk with used := SMap.put 0 (s.ni vk).used (creditKey p.dst p.cls) (s.used vk p.dst p.cls + 1) }
    else s
  else s
/-- The output has a packet in progress, or none. -/
def OutPort.put (o : OutPort) (stream : Bool) (g : Option Prog) : OutPort := if stream then { o with stream := g } else { o with other := g }
/-- The packet with the next turn of its chord taken. -/
def Pkt.stepped (p : Pkt) (step : Bool) : Pkt := if step then p.set 4 7 5 (p.f 4 7 5 + 1) else p
/-- The next flit of a packet goes on a link (R300, R305); with its last flit it leaves its queue. -/
def State.sendFlit (s : State) (vk dir : Nat) (d step : Bool) (c : Cand) : State :=
  let nv := nextVk vk dir
  let l := s.link nv dir
  let p := c.q.pkt.stepped step
  let f := p.flit (2 * p.cls + bit d) l.txSeq c.q.gone
  let tail := c.q.gone + 1 == p.flits
  let rest := (s.vq vk c.inp c.vc).drop 1
  let s1 := (s.startLocal vk c).setLink nv dir { l with wire := l.wire ++ [f], sent := l.sent ++ [f], txSeq := (l.txSeq + 1) % 64 }
  let s2 := (s1.served vk dir 1 c).tookTurn vk dir
  let s3 := if c.inp = 4 then s2.niCount vk F.NI_SH_TX_LO_lo 1 else s2
  let s4 := (s3.setVq vk c.inp c.vc (if tail then rest else { c.q with gone := c.q.gone + 1 } :: rest)).setOut vk dir
    ((s3.outPort vk dir).put (p.cls == 2) (if tail then none else some { inp := c.inp, vc := c.vc, d := d, step := step }))
  if tail && c.inp == 4 then s4.refill vk else if tail && c.inp == 5 then s4.turnOn vk else s4

/-- Beat i of an essence packet: five data bytes and the side byte (R315), poisoned by its mark or by a flit that carries part of it (R300). -/
def Pkt.beat (p : Pkt) (i : Nat) : Beat :=
  let l := p.data.drop (6 * i)
  let side := l.getD 5 0
  { data := BitVec.ofNat 40 (ofBytes (l.take 5)), side := if badIn p.bad (6 * i) 6 then side ||| 4 else side }
/-- The beats of an essence packet. -/
def Pkt.beats (p : Pkt) : List Beat := (List.range (p.f 2 5 0 + 1)).map (fun i => p.beat i)
/-- A posted write gives its credit back once taken (R307). -/
def State.creditPacket (s : State) (vk : Nat) (p : Pkt) : State :=
  let r := mkPkt vk p.src 0xD (if p.cls = 3 then 3 else 1) 0 0 1 p.tag 0 [] []
  s.send vk { r with hdr := r.hdr.set 6 (p.cls * 256 + 1) }
/-- A packet for the fabric register port of the quadrant (R311). -/
def Pkt.forWindow (p : Pkt) : Bool :=
  (p.op == 0 || p.op == 1 || p.op == 2) && !p.returned && decide (0x4000000000 ≤ p.addr) && decide (p.addr < 0x5000000000)
/-- The quadrant of a fabric window. -/
def Pkt.window (p : Pkt) : Nat := bitsOf p.addr 35 34
/-- A new request meets the fence of the facet with the register port (R243). -/
def State.windowFence (s : State) (vk : Nat) (p : Pkt) : Option Nat :=
  if decide (vkY vk < 16) && p.forWindow then (s.regportFacet p.window).filter (fun f => s.fenced f) else none
/-- The local port of a vertex accepts a packet. What a fence or a stopped intake refuses is refused as it comes (R150, R243); what was accepted
before stays accepted (R151, R244). With the facet OFF or fenced the vertex counts a dropped packet beside the port's beats (R320). -/
def State.portAccept (s : State) (vk : Nat) (p : Pkt) : State :=
  let s1 := s.niCount vk F.NI_SH_RX_LO_lo p.flits
  if p.op == 6 && !p.returned && decide (vkY vk < 16) && s.essenceOff vk then
    let b := spBase (vkQuad vk) + 0x2000 + 0x20 * vkLocal vk
    let f := vertexFacet (vkQuad vk) (vkLocal vk)
    if s.facetState f = fcOff ∨ s.fenced f then p.beats.foldl (fun s _ => s.spRefuse b f) (s1.dropCount vk)
    else p.beats.foldl (fun s _ => s.spDrop b f 1) s1
  else match s.windowFence vk p with
    | some f => if p.op = 2 then (s1.windowRefuse p.window f vk p).creditPacket vk p else s1.windowRefuse p.window f vk p
    | none => s1.setNi vk { s1.ni vk with arrive := (s1.ni vk).arrive ++ [p] }
/-- The local port or the relay buffer of a vertex takes a whole packet, or turns it back (R299, R313, R322). -/
def State.takeWhole (s : State) (vk : Nat) (c : Cand) : State :=
  let s0 := match c.act with
    | .deliver => s.startLocal vk c
    | .back _ => if c.q.pkt.goesHome then s.startLocal vk c else s
    | _ => s
  let s1 := (s0.setVq vk c.inp c.vc ((s0.vq vk c.inp c.vc).drop 1)).served vk 4 c.q.pkt.flits c
  let s2 := if c.inp = 4 then s1.refill vk else if c.inp = 5 then s1.turnOn vk else s1
  match c.act with
  | .go .. => s
  | .deliver => s2.portAccept vk c.q.pkt
  | .relay dir step =>
    s2.setVq vk 5 (2 * c.q.pkt.cls) (s2.vq vk 5 (2 * c.q.pkt.cls) ++ [{ pkt := c.q.pkt.stepped step, dir := dir, time := s.now }])
  | .back st => s2.turnBack vk c.q.pkt st
/-- An output link sends the next flit. -/
def State.linkSlot (s : State) (vk dir : Nat) : State :=
  if !s.edgeTurn vk dir then s
  else match s.slot vk dir with
    | some c => (match c.act with | .go _ d step => s.sendFlit vk dir d step c | _ => s)
    | none => s
/-- RING_PACKET_ROUTE (R22, R303–R313, R321–R325, R331): output `out` of vertex (x, y) arbitrates: a link (0–3) sends the next flit, and the local
port (4) and the relay buffer (5, which also turns packets back) take whole packets. -/
def execRingPacketRoute (x : Fin 24) (y : Fin 18) (out : Fin 6) (s : State) : Result :=
  .next
    (let vk := vkOf x.val y.val
     if !vkReal x.val y.val then s
     else if out.val < 4 then (s.linkSlot vk out.val).stallCheck vk
     else match s.pick vk out.val with
       | none => s
       | some c => s.takeWhole vk c)

/-! ## Delivery (R299, R307, R308, R314) -/

/-- The bytes of a beat in an essence packet. -/
def Beat.bytes (b : Beat) : List Byte := bytesOf 5 b.data.toNat ++ [b.side]

/-- The result of an atomic on 8 bytes: the new value. -/
def atomicNew (op old a b : Nat) : Nat :=
  if op = 3 then (old + a) % 2 ^ 64 else if op = 4 then a else if old = a then b else old


/-- The answer to an atomic whose result was written: none while the write waits. -/
def State.atomicDone (s : State) (old : List Byte) (w : Option Status × State) : Option Nat × List Byte × List (Nat × Nat) × State :=
  match w.1 with
  | none => (none, [], [], s)
  | some st => (some st.code, old, [], w.2)
/-- The value an atomic stores: its operands applied to the old bytes. -/
def Pkt.atomicBytes (p : Pkt) (old : List Byte) : List Byte :=
  bytesOf 8 (atomicNew p.op (ofBytes old) (ofBytes (p.data.take 8)) (ofBytes ((p.data.drop 8).take 8)))
/-- An atomic in frame memory, once its 8 bytes are read. -/
def State.atomicFm (s : State) (p : Pkt) (es : List LineErr) (r : MemAns × State) : Option Nat × List Byte × List (Nat × Nat) × State :=
  if r.1.status ≠ .ok ∨ r.1.poison then (some r.1.status.code, r.1.data, r.1.bad, r.2)
  else s.atomicDone r.1.data (r.2.fmWrite (p.f 1 23 20) p.addr (p.atomicBytes r.1.data) (allBad (!p.poison.isEmpty) 8) (es.drop 1))
/-- An atomic (R302): its 8-byte operands are applied to the 8 bytes at the address, and the old value is answered. -/
def State.atomic (s : State) (p : Pkt) (es : List LineErr) : Option Nat × List Byte × List (Nat × Nat) × State :=
  if p.addr < fmSize then s.atomicFm p es (s.fmRead (p.f 1 23 20) p.addr 8 es)
  else (some 0, s.load p.addr 8, [], s.store p.addr (p.atomicBytes (s.load p.addr 8)))
/-- The answer to a read of frame memory. -/
def readDone (r : MemAns × State) : Option Nat × List Byte × List (Nat × Nat) × State := (some r.1.status.code, r.1.data, r.1.bad, r.2)
/-- The answer to a write of frame memory. -/
def writeDone (w : Option Status × State) : Option Nat × List Byte × List (Nat × Nat) × State := (w.1.map (·.code), [], [], w.2)
/-- Bytes that a request touches: the header of an atomic counts its operands (R302). -/
def Pkt.touches (p : Pkt) : Nat := if 3 ≤ p.op ∧ p.op ≤ 5 then 8 else p.bytes
/-- An access that a request makes at its destination: the status (none while it waits), data, its poisoned pieces, and the state after. -/
def State.access (s : State) (p : Pkt) (es : List LineErr) : Option Nat × List Byte × List (Nat × Nat) × State :=
  if p.op = 0 then
    (if p.addr < fmSize then readDone (s.fmRead (p.f 1 23 20) p.addr p.bytes es)
     else (some 0, s.load p.addr p.bytes, [], s))
  else if p.op = 1 ∨ p.op = 2 ∨ p.op = 7 then
    (if p.addr < fmSize then writeDone (s.fmWrite (p.f 1 23 20) p.addr p.data p.bad es)
     else (some 0, [], [], s.store p.addr p.data))
  else s.atomic p es

/-- The partner owes the answer to a request (R512). -/
def State.partnerOwes (s : State) (e : Nat) (p : Pkt) : State :=
  { s with opt := { s.opt with ucie := { s.opt.ucie with wait := s.opt.ucie.wait ++ [(e, p)] } } }
/-- A request at the local port of its destination is performed (R299, R307, R311, R328). A write that frame memory holds back waits. -/
def State.perform (s : State) (vk : Nat) (p : Pkt) (es : List LineErr) : Option State :=
  let a := p.addr
  if 0x4000000000 ≤ a ∧ a < 0x5000000000 then
    some (if 3 ≤ p.op ∧ p.op ≤ 5 then s.respond vk p 0xF 0x0102 [] []
      else if p.op = 2 then (s.windowRing (bitsOf a 35 34) vk p).creditPacket vk p
      else s.windowRing (bitsOf a 35 34) vk p)
  else if 0x6000000000 ≤ a ∧ a < 0x7000000000 then 
    some (if s.flag psysBase F.PSYS_STAT_fenced then
        (if p.op = 2 then (s.dropCount vk).creditPacket vk p
         else s.respond vk p 0xF (if s.dom partnerDom = 1 ∧ s.getF ucieBase F.UCIE_LINK_state ≠ 6 then 0x0202 else 0x0201) [] [])
      else if p.op = 2 then (s.toPartner (endpointOf vk).2 p).creditPacket vk p
      else (s.toPartner (endpointOf vk).2 p).partnerOwes (endpointOf vk).2 p)
  else if a < fmSize ∧ s.fmBlocked a p.touches then none
  else if a < fmSize ∨ (sramBase ≤ a ∧ a + p.touches ≤ sramBase + sramSize) then
    let r := s.access p es
    match r.1 with
    | none => none
    | some st =>
      -- R320, R526, R533: what is posted and cannot be stored is dropped and counted (assumption log 102)
      let s1 := if (p.op = 2 ∨ p.op = 7) ∧ st ≠ 0 then r.2.2.2.dropCount vk else r.2.2.2
      some (if p.op = 7 then s1
            else if p.op = 2 then s1.creditPacket vk p
            else if st = 0 then s1.respond vk p (answerOp p.op) 0 r.2.1 r.2.2.1
            else s1.respond vk p 0xF st [] [])
  else if p.op = 2 then some ((s.dropCount vk).creditPacket vk p)
  else some (s.respond vk p 0xF 0x0103 [] [])

/-- A packet for a Glenu link or the steward's lattice queue (R594) is taken from the local port by the lattice, not by the NI. -/
def Pkt.forLattice (p : Pkt) (vk : Nat) : Bool :=
  (p.f 1 18 18 == 1 && decide (16 ≤ vkY vk) && ((endpointOf vk).1 == 5 || (endpointOf vk).1 == 6)) ||
  (p.op == 2 && p.cls == 3 && p.addr == 0x7F0000FF00)

/-- The packets that NI_PACKET_DELIVER takes: fences and credit returns have rows of their own, and so have packets for the lattice, unless the
endpoint is fenced (R320). A request waits while an answer of its class still waits for room in the local queue (R331). -/
def State.delivers (s : State) (vk : Nat) (p : Pkt) : Bool :=
  (p.returned || (p.op != 8 && p.op != 0xD)) && (!p.forLattice vk || (s.endFenced vk && !p.answers)) &&
  (p.answers || decide (5 < p.op) || (s.ni vk).back.all (fun q => q.pkt.cls != (if p.cls = 3 then 3 else 1)))
/-- A request is refused with a status, and what needs no answer is dropped and counted (R243, R320). -/
def State.refuse (s : State) (vk : Nat) (p : Pkt) (st : Nat) : State :=
  if p.op = 6 ∨ p.op = 7 then s.dropPkt vk p
  else if p.op = 2 then (s.dropCount vk).creditPacket vk p
  else s.respond vk p 0xF st [] []
/-- A request to a fenced endpoint vertex is answered with an error, DOMAIN_OFF where its die or spine is OFF, in reset or draining and else FENCED, and
what needs no answer is dropped and counted (R243, R320, R498). -/
def State.fencedAnswer (s : State) (vk : Nat) (p : Pkt) : State := s.refuse vk p (if s.endGone vk then 0x0201 else 0x0202)

/-- An essence packet that the network interface has accepted reaches the ring ingress port of its vertex, whose user logic takes its beats (R145,
R151, R244; assumption log 93). -/
def State.essence (s : State) (vk : Nat) (p : Pkt) : State :=
  let b := spBase (vkQuad vk) + 0x2000 + 0x20 * vkLocal vk
  let f := vertexFacet (vkQuad vk) (vkLocal vk)
  let owed := (s.spq b).owed
  let s2 := p.beats.foldl (fun s x => s.spEnter b f 128 (owed != 0) x) s
  s2.setSpq b { s2.spq b with owed := owed - 1 }

/-- NI_PACKET_DELIVER (R299, R307, R308, R314, R322): the network interface takes the next packet at its local port. `es` says what the
pins of frame memory give. -/
def execNiPacketDeliver (x : Fin 24) (y : Fin 18) (es : List LineErr) (s : State) : Result :=
  .next
    (let vk := vkOf x.val y.val
     match (s.ni vk).arrive.find? (fun p => s.delivers vk p) with
     | none => s
     | some p =>
       let s1 := s.setNi vk { s.ni vk with arrive := (s.ni vk).arrive.erase p }
       if s.endFenced vk && !p.answers then s1.fencedAnswer vk p
       else if p.returned then
         let s2 := (s1.niCount vk F.NI_SH_RETURNED_LO_lo 1).niMark vk F.NI_STAT_returned 2
         if p.op = 8 then s2.setNi vk { s2.ni vk with fences := monus (s2.ni vk).fences 1 }
         else s2.endRequest vk p.tag (p.f 7 15 0) [] []
       else if p.op = 0xC then s1.setNi vk { s1.ni vk with fences := monus (s1.ni vk).fences 1 }
       else if p.op = 9 ∨ p.op = 0xA ∨ p.op = 0xB ∨ p.op = 0xF then s1.endRequest vk p.tag (p.f 2 15 0) p.data p.poison
       else if p.op = 6 then
         (if vkY vk < 16 then s1.essence vk p else s1.dropPkt vk p)
       else (s1.perform vk p es).getD s)

/-- CREDIT_RETURN (R307): an op 0xD packet gives credits back at its source. -/
def execCreditReturn (x : Fin 24) (y : Fin 18) (s : State) : Result :=
  .next
    (let vk := vkOf x.val y.val
     match (s.ni vk).arrive.find? (fun p => p.op == 0xD && !p.returned) with
     | none => s
     | some p => (s.setNi vk { s.ni vk with arrive := (s.ni vk).arrive.erase p }).creditBack vk p.src (p.f 6 9 8) (p.f 6 7 0))

/-- FENCE_PACKET (R308): the NI sinks a fence in any class and answers it from its 64-entry acknowledgement queue; while that is full
the fence waits. -/
def execFencePacket (x : Fin 24) (y : Fin 18) (s : State) : Result :=
  .next
    (let vk := vkOf x.val y.val
     let acks := ((s.vq vk 4 2 ++ s.vq vk 4 6 ++ (s.ni vk).back).filter (fun q => q.pkt.op == 0xC)).length
     match (s.ni vk).arrive.find? (fun p => p.op == 8 && !p.returned) with
     | none => s
     | some p =>
       if 64 ≤ acks then s
       else (s.setNi vk { s.ni vk with arrive := (s.ni vk).arrive.erase p }).respond vk p 0xC 0 [] [])

/-! ## The fabric request port (R314) -/

/-- Response buffers that are reserved: by requests outstanding, and by responses that wait for the fabric (R314). -/
def Ni.buffers (n : Ni) : Nat := n.outst.length + n.ready.length
/-- A tag is that of a request outstanding, or of one whose response waits for the fabric (R314). -/
def Ni.tagUsed (n : Ni) (tag : Nat) : Bool := n.outst.any (fun o => o.tag == tag) || n.ready.any (fun r => r.1 == tag)
/-- FABRIC_REQUEST (R243, R307, R311, R314, R331): the design offers a request at the port of local vertex v of Qq: rq_op, address, bytes, tag
and write data. The port takes none while its local port is fenced, every response buffer is reserved, or its request queue has no room. -/
def execFabricRequest (q : Fin 4) (v : Fin 96) (op : Fin 8) (a : BitVec 40) (n : Fin 512) (tag : BitVec 8) (data : List Byte) (s : State) :
    Result :=
  .next
    (let vk := vkOfLocal q.val v.val
     let ni := { s.ni vk with asks := false }
     let len := if 3 ≤ op.val then 8 else n.val + 1
     let posted := op.val == 2
     let want := if op.val = 0 then 0 else if op.val = 5 then 16 else len
     if s.niFenced vk || !s.localRoom vk 0 (flitsOf want) then s
     else if !posted && decide (s.getF (vkBase vk) F.NI_CFG_resp_bufs ≤ ni.buffers) then (s.setNi vk { ni with asks := true }).stallFrom vk
     else
       let bad := decide (6 ≤ op.val) || decide (512 < a.toNat % 512 + len) || (decide (3 ≤ op.val) && (a.toNat % 8 != 0 || n.val != 7)) ||
         ni.tagUsed tag.toNat
       let answer (st : Nat) : State := s.setNi vk { ni with ready := ni.ready ++ [(tag.toNat, st, [], [])] }
       if bad then answer 0x0102
       else match s.homeOf (vkX vk) a.toNat with
         | none => if posted then s.setNi vk ni else answer 0x0103
         | some dst =>
           let ds := (data ++ List.replicate want 0).take want
           let p := mkPkt vk dst op.val 0 (a.toNat / 4294967296) 0 (if op.val = 5 then 16 else len) tag.toNat (a.toNat % 4294967296) ds []
           let s1 := if posted then s.setNi vk ni
             else s.setNi vk { ni with outst := ni.outst ++ [{ tag := tag.toNat, ctag := tag.toNat, cls := 0, op := op.val, dst := dst, since := s.now }] }
           s1.send vk p)

/-- FABRIC_RESPONSE (R314): the fabric takes the next response. -/
def execFabricResponse (q : Fin 4) (v : Fin 96) (s : State) : Result :=
  .next
    (let vk := vkOfLocal q.val v.val
     match (s.ni vk).ready with
     | [] => s
     | r :: t => (s.setNi vk { s.ni vk with ready := t }).emit (.fabric q.val v.val r.1 r.2.1 r.2.2.1 r.2.2.2))

/-! ## Stream flows (R315–R319) -/

/-- Tokens at this moment, in 1/100 bit, at most `burst` flits (R316). -/
def State.tokens (s : State) (vk : Nat) : Int :=
  let b := vkBase vk
  let cap : Int := (max 1 (s.getF b F.NI_FLOW_RATE_burst) * 51200 : Nat)
  min cap ((s.ni vk).tokens + ((s.getF b F.NI_FLOW_RATE_rate * (s.now - (s.ni vk).tokAt) : Nat) : Int))
/-- The flow sends a packet and pays its flits. -/
def State.flowSend (s : State) (vk : Nat) (p : Pkt) : State :=
  let s1 := s.setNi vk { s.ni vk with tokens := s.tokens vk - ((p.flits * 51200 : Nat) : Int), tokAt := s.now }
  s1.send vk p
/-- The beats gathered leave as an op 0x6 packet (R315). -/
def State.flushBeats (s : State) (vk : Nat) : State :=
  let bs := (s.ni vk).pack
  match s.flowDst vk, bs with
  | some dst, b :: _ =>
    let data := bs.flatMap Beat.bytes
    (s.setNi vk { s.ni vk with pack := [] }).flowSend vk
      (mkPkt vk dst 6 2 0 6 data.length 0 (bs.length - 1 + bit (b.side.getLsbD 6) * 64) data
        (flitsBad (((bs.zip (List.range bs.length)).filter (fun x => x.1.poison)).map (fun x => (6 * x.2, 6))) data.length))
  | _, _ => s
/-- A piece of the bytes gathered, from address `a`, leaves as an op 0x7 write (R315). -/
def State.flushPiece (s : State) (vk a : Nat) (bs : List Byte) (bad : List (Nat × Nat)) : State :=
  match s.homeOf (vkX vk) a with
  | some dst => s.flowSend vk (mkPkt vk dst 7 2 (a / 4294967296) 6 bs.length 0 (a % 4294967296) bs (flitsBad bad bs.length))
  | none => s
/-- The bytes gathered leave as op 0x7 writes, one for each 512-byte block that they touch (R315, R519). -/
def State.flushBytes (s : State) (vk : Nat) : State :=
  let n := s.ni vk
  let b := vkBase vk
  if n.bytes.isEmpty then s
  else
    let a := s.getF b F.NI_FLOW_BASE_HI_base * 4294967296 + s.getF b F.NI_FLOW_BASE_LO_base * 64 +
      s.getF b F.NI_FLOW_FRAMES_index * (s.getF b F.NI_FLOW_STRIDE_stride * 64) + n.offset
    (blocksOf a n.bytes.length).foldl (fun s x => s.flushPiece vk x.1 ((n.bytes.drop (x.1 - a)).take x.2)
      (n.poison.filterMap (fun b => if b.1 + b.2 ≤ x.1 - a then none else some (b.1 - (x.1 - a), b.1 + b.2 - max b.1 (x.1 - a)))))
      (s.setNi vk { n with bytes := [], poison := [], offset := n.offset + n.bytes.length })

/-- A beat enters an egress flow (R315). -/
def State.packBeat (s : State) (vk : Nat) (x : Beat) : State :=
  let s1 := if x.sol then s.flushBeats vk else s
  let s2 := s1.setNi vk { s1.ni vk with pack := (s1.ni vk).pack ++ [x] }
  if 64 ≤ (s2.ni vk).pack.length then s2.flushBeats vk else s2
/-- A beat enters a memory flow (R315): a start of frame moves on to the next frame; timing beats are not stored. -/
def State.packBytes (s : State) (vk : Nat) (x : Beat) : State :=
  let b := vkBase vk
  let s1 :=
    if x.side.getLsbD 6 then
      let s2 := s.flushBytes vk
      let fr := max 1 (s.getF b F.NI_FLOW_FRAMES_frames)
      (s2.setF b F.NI_FLOW_FRAMES_index ((s.getF b F.NI_FLOW_FRAMES_index + 1) % fr)).setNi vk { s2.ni vk with offset := 0 }
    else s
  if bitsOf x.side.toNat 4 3 = 3 then s1
  else
    let n := s1.ni vk
    let s2 := s1.setNi vk { n with bytes := n.bytes ++ bytesOf 5 x.data.toNat, poison := if x.poison then n.poison ++ [(n.bytes.length, 5)] else n.poison }
    if 320 ≤ (s2.ni vk).bytes.length then s2.flushBytes vk else s2

/-- The ring port that a flow drains is ready (R148, R316, R318, R321): the flow is admitted and enabled, its bucket holds a token, its queue
has room for a packet, and the local port is not fenced. -/
def State.flowReady (s : State) (vk : Nat) : Bool :=
  s.flag (vkBase vk) F.NI_FLOW_STAT_admitted && s.flag (vkBase vk) F.NI_FLOW_CTL_enable && decide (51200 ≤ s.tokens vk) && !s.niFenced vk &&
  s.localRoom vk 2 7
/-- NI_FLOW_BEAT (R145, R148, R315, R316, R330): the NI of local vertex v of Qq takes the next beat of its ring egress port, after the design
gave `given`, while the flow is ready. R145 and R148 name this port egress, R315 and R316 ingress (assumption log 93). -/
def execNiFlowBeat (q : Fin 4) (v : Fin 96) (given : List Beat) (s : State) : Result :=
  .next
    (let vk := vkOfLocal q.val v.val
     let b := vkBase vk
     let pb := portBase q.val (.egress v)
     let f := vertexFacet q.val v.val
     if !s.flowReady vk then s
     else
       let s1 := s.spGive pb f 128 given
       match (s1.spq pb).beats with
       | [] => s1
       | x :: _ =>
         let s2 := s1.spSend pb
         if (s2.ni vk).skip && !x.side.getLsbD 6 then s2
         else
           let s3 := s2.setNi vk { s2.ni vk with skip := false }
           if s.flag b F.NI_FLOW_CTL_kind then s3.packBytes vk x else s3.packBeat vk x)

/-- An admission request (R317): the flow's rate goes into the ledger where every link of its route stays within budget. -/
def State.flowAdmit (s : State) (vk : Nat) : State :=
  let b := vkBase vk
  if s.flag b F.NI_FLOW_STAT_admitted then s
  else
    let rate := s.getF b F.NI_FLOW_RATE_rate
    let path := s.flowPath vk
    let fs := s.ledgerPaths
    if rate != 0 && (s.flowDst vk).isSome && path.all (fun k => decide (loadOn fs k + rate ≤ s.budget k)) then
      (({ s with ring := { s.ring with ledger := s.ring.ledger ++ [(vk, rate)] } }).raise b F.NI_FLOW_STAT_admitted).setNi vk
        { s.ni vk with tokens := 0, tokAt := s.now, pack := [], bytes := [], offset := 0 }
    else s.niMark vk F.NI_STAT_refused 0
/-- A withdrawal (R318). -/
def State.flowWithdraw (s : State) (vk : Nat) : State :=
  let b := vkBase vk
  if s.flag b F.NI_FLOW_STAT_admitted then
    ((({ s with ring := { s.ring with ledger := s.ring.ledger.filter (fun f => f.1 != vk) } }).lower b F.NI_FLOW_STAT_admitted).lower b
      F.NI_FLOW_STAT_unfit).ledgerRecompute
  else s
/-- A write of NI_FLOW_ADMIT: withdraw acts before admit. -/
def State.admitWrite (s : State) (vk v : Nat) : State :=
  let s1 := if v.testBit 1 then s.flowWithdraw vk else s
  if v.testBit 0 then s1.flowAdmit vk else s1

/-- NI_FLOW_ADMIT (R317): a write of 1 to admit. -/
def execNiFlowAdmit (m : Master) (q : Fin 4) (v : Fin 96) (s : State) : Result :=
  .next (s.ownWrite m (1 + q.val) (0x100 + v.val) 0x28 (fun s => s.admitWrite (vkOfLocal q.val v.val) 1))

/-- NI_FLOW_WITHDRAW (R318): a write of 1 to withdraw. -/
def execNiFlowWithdraw (m : Master) (q : Fin 4) (v : Fin 96) (s : State) : Result :=
  .next (s.ownWrite m (1 + q.val) (0x100 + v.val) 0x28 (fun s => s.admitWrite (vkOfLocal q.val v.val) 2))

/-! ## Route changes, starvation, timeout (R322, R329, R331) -/

/-- The words of a chord entry go into its registers (R333). -/
def State.chordWrite (s : State) (vk e m r0 r1 : Nat) : State :=
  let b := chordBase vk e
  let s1 := (((((s.setF b F.NI_CHORD_MATCH_valid (bitsOf m 31 31)).setF b F.NI_CHORD_MATCH_class_mask (bitsOf m 23 20)).setF b
    F.NI_CHORD_MATCH_y_hi (bitsOf m 19 15)).setF b F.NI_CHORD_MATCH_y_lo (bitsOf m 14 10)).setF b F.NI_CHORD_MATCH_x_hi
    (bitsOf m 9 5)).setF b F.NI_CHORD_MATCH_x_lo (bitsOf m 4 0)
  let s2 := ((((((s1.setF b F.NI_CHORD_ROUTE0_turn4 (bitsOf r0 31 26)).setF b F.NI_CHORD_ROUTE0_turn3 (bitsOf r0 25 20)).setF b
    F.NI_CHORD_ROUTE0_turn2 (bitsOf r0 19 14)).setF b F.NI_CHORD_ROUTE0_turn1 (bitsOf r0 13 8)).setF b F.NI_CHORD_ROUTE0_first_dir
    (bitsOf r0 4 4)).setF b F.NI_CHORD_ROUTE0_first_ring (bitsOf r0 3 3)).setF b F.NI_CHORD_ROUTE0_turns (bitsOf r0 2 0)
  (s2.setF b F.NI_CHORD_ROUTE1_turn6 (bitsOf r1 11 6)).setF b F.NI_CHORD_ROUTE1_turn5 (bitsOf r1 5 0)

/-- ROUTE_CHANGE_APPLY (R319, R325, R329): steward firmware gives chord entry e of the NI of (x, y) the words m, r0, r1. The NI first
holds new packets for the destinations concerned and sends a fence in each class it has used towards them; with every fence
acknowledged or returned, the entry takes effect and the packets held go out on the new route. -/
def execRouteChangeApply (x : Fin 24) (y : Fin 18) (e : Fin 64) (m r0 r1 : Word) (s : State) : Result :=
  .next
    (let vk := vkOf x.val y.val
     let ws := [m.toNat, r0.toNat, r1.toNat]
     let n := s.ni vk
     if !vkReal x.val y.val then s
     else match n.change with
       | none =>
         let s1 := s.setNi vk { n with change := some (e.val, ws) }
         let hit := n.towards.filter (fun d => s1.changeHits vk d.1 d.2)
         let s2 := s1.setNi vk { s1.ni vk with fences := hit.length, towards := n.towards.filter (fun d => !hit.contains d) }
         hit.foldl (fun s d => s.queueLocal vk { pkt := s.chordRoute vk (mkPkt vk d.1 8 d.2 0 5 1 0 0 [] []), time := s.now }) s2
       | some c =>
         if c = (e.val, ws) ∧ n.fences = 0 then
           let s1 := (s.setNi vk { n with change := none, held := [] }).chordWrite vk e.val m.toNat r0.toNat r1.toNat
           (n.held.foldl (fun s p => s.send vk p) s1).ledgerRecompute
         else s)

/-- NI_STARVATION (R331): a packet has waited at the local port of (x, y) longer than NI_STARVE.bound; it is reported once. -/
def execNiStarvation (x : Fin 24) (y : Fin 18) (s : State) : Result :=
  .next
    (let vk := vkOf x.val y.val
     let bound := s.getF (vkBase vk) F.NI_STARVE_bound
     match (List.range 8).find? (fun vc => (s.vq vk 4 vc).head?.any (fun q =>
       !q.starved && bound != 0 && decide (bound * 1000 < s.now - q.time))) with
     | none => s
     | some vc =>
       match s.vq vk 4 vc with
       | q :: t => (s.setVq vk 4 vc ({ q with starved := true } :: t)).niMark vk F.NI_STAT_starved 1
       | [] => s)

/-- RING_REQUEST_TIMEOUT (R322): a request of (x, y) whose returned packet or response was dropped ends with TIMEOUT. -/
def execRingRequestTimeout (x : Fin 24) (y : Fin 18) (tag : BitVec 8) (s : State) : Result :=
  .next
    (let vk := vkOf x.val y.val
     if (s.ni vk).outst.any (fun o => o.tag == tag.toNat && o.lost) then s.endRequest vk tag.toNat 0x0400 [] [] else s)

/-! ## What goes on between commands (R145, R310, R321) -/

/-- Nothing sent by the endpoint vertices of column x is on its Y-ring (R310, R329: as a fence from them shows). -/
def State.columnQuiet (s : State) (x : Nat) : Bool :=
  let mine (p : Pkt) : Bool := vkX p.src == x && decide (16 ≤ vkY p.src)
  (List.range (ringSize (16 + x))).all (fun y =>
    let vk := vkOf x y
    (s.link vk 2).sent.isEmpty && (s.link vk 3).sent.isEmpty && (s.ni vk).turned.all (fun q => !mine q.pkt) &&
    (List.range 6).all (fun inp => (List.range 8).all (fun vc => (s.vq vk inp vc).all (fun q => !mine q.pkt || (inp == 4 && q.gone == 0)))))
/-- The packets on the network, each with the vertex and input at which it is or next arrives: those in queues, but for packets that their local
port has not begun to send, those that wait to turn back, and those on links. -/
def State.inNet (s : State) : List (Nat × Nat × Queued) :=
  s.ring.queues.flatMap (fun e =>
    (e.2.filter (fun q => e.1 % 48 / 8 != 4 || q.gone != 0)).map (fun q => (e.1 / 48, e.1 % 48 / 8, q))) ++
  s.ring.nis.flatMap (fun e => e.2.turned.map (fun q => (e.1, 5, q))) ++
  s.ring.links.flatMap (fun e => (List.range 8).flatMap (fun vc =>
    (packetsIn [] (SMap.get [] e.2.part vc ++ e.2.sent.filter (fun x => flitVc x == vc))).map (fun p =>
      (e.1 / 4, e.1 % 4, ({ pkt := p, d := vc % 2 == 1 } : Queued)))))
/-- No packet on the network is still to cross one of these rings: what fences on the old routes show (R329; assumption log 48). -/
def State.ringsQuiet (s : State) (rs : List Nat) : Bool :=
  s.inNet.all (fun x => (s.pathOf 120 x.1 x.2.1 x.2.2).all (fun k => !rs.contains (k / 2 / 32)))
/-- A change of routes takes effect (R326, R329). An edge that no longer carries traffic joins nothing. -/
def State.applyChange (s : State) (c : RingChange) : State :=
  let s1 : State := { s with ring := { s.ring with changing := s.ring.changing.erase c } }
  match c with
  | .fold r => s1.ringChanged r
  | .link no => ({ s1 with ring := { s1.ring with retired := s1.ring.retired.filter (· != no) } } : State).ringChanged (no / 32)
  | .edge e =>
    if s1.edgeState e = egActive then ({ s1 with ring := { s1.ring with split := s1.ring.split.filter (· != e) } } : State).edgeRingsChanged e
    else s1
  | .remap e =>
    { s1 with ring := { s1.ring with remap := if s1.edgeState e = egRetired then e :: s1.ring.remap.filter (· != e) else s1.ring.remap.filter (· != e) } }
/-- The old routes that a change concerns are empty: no packet is still to cross its rings, or goes to the endpoints whose targets move (R329,
R498). -/
def State.changeQuiet (s : State) (c : RingChange) : Bool :=
  match c with
  | .remap _ => s.inNet.all (fun x => x.2.2.pkt.returned || !((endpointOf x.2.2.pkt.dst).1 == 0 || (endpointOf x.2.2.pkt.dst).1 == 7) || decide (vkY x.2.2.pkt.dst < 16))
  | _ => s.ringsQuiet c.rings
/-- Changes of routes take effect once the old routes are empty. -/
def State.settleRoutes (s : State) : State :=
  s.ring.changing.foldl (fun s c => if s.changeQuiet c then s.applyChange c else s) s
/-- The relay of a column's endpoints moves to row 14 while (x, 15) is in bypass, and back, behind a fence (R310): its endpoints hold new packets
meanwhile. -/
def State.moveRelay (s : State) (x : Nat) : State :=
  let moved := s.ring.relays.contains x
  if moved == s.bypass (vkOf x 15) || !s.columnQuiet x then s
  else { s with ring := { s.ring with relays := if moved then s.ring.relays.filter (· != x) else x :: s.ring.relays } }
/-- Steward firmware may end its change at a vertex in bypass: when is open (R321; assumption log 96). -/
def State.mayLeave (s : State) (vk : Nat) : State :=
  let v := s.freeVal
  if v.1 % 2 = 0 then v.2.leaveBypass vk else v.2
/-- The stream port of Qq whose registers stand at an address gives user logic beats, where it is a lane receive port or a ring ingress port
(R145). -/
def State.drainPort (s : State) (q a : Nat) : State :=
  let o := a - spBase q
  if a < spBase q then s
  else if 0x100 ≤ o ∧ o < 0x100 + 0x20 * 72 then s.spTake a (laneFacet q ((o - 0x100) / 0x20))
  else if 0x2000 ≤ o ∧ o < 0x2000 + 0x20 * 96 then s.spTake a (vertexFacet q ((o - 0x2000) / 0x20))
  else s
/-- One tick of the ring network. -/
def State.ringTick (s : State) : State :=
  let s1 := s.ring.byp.foldl (fun s vk => s.mayLeave vk) s
  let s2 := ((List.range 24).foldl (fun s x => s.moveRelay x) s1).settleRoutes
  (s2.fab.ports.filter (fun p => !p.2.beats.isEmpty)).foldl (fun s p =>
    (List.range 4).foldl (fun s q => s.drainPort q p.1) s) s2

end Sys2Proof.Machine
end

