-- ==== Sys2Proof/Machine/Se.lean ====
section
/-! DEFINITION. What the stream engines share (R414–R423, R459–R461): channels, beats and line units, delivery to lane ports, and
taking beats from lane transmit ports. -/
namespace Sys2Proof.Machine

/-! ## Channels -/

/-- Device lane group of a lane. -/
def grpOf (n : Nat) : Nat := n / 8
/-- The base of channel registers of lane n (R459). -/
def chBase (n : Nat) : Nat := seBase (n / 8) + 0x40 * (n % 8)
/-- The base of the port registers of the port whose first lane is n (R459). -/
def ethBase (n : Nat) : Nat := seBase (n / 8) + 0x20 * (n % 8)
/-- A channel's record. -/
def State.seCh (s : State) (n : Nat) : SeCh := SMap.get {} s.se.ch n
/-- Replaces it. -/
def State.setSeCh (s : State) (n : Nat) (x : SeCh) : State := { s with se := { s.se with ch := SMap.put {} s.se.ch n x } }
/-- The event source of lane n's engine channel (R461). -/
def seSrc (n : Nat) : Nat := 272 + n
/-- A record of SE_CH_STAT (R461). -/
def State.seMark (s : State) (n : Nat) (f : Fld) : State := s.mark (chBase n) f (seSrc n)
/-- Counts on a counter at `base + f.off` of the engine of lane n (R459, R461). -/
def State.seCount (s : State) (n base : Nat) (f : Fld) (k : Nat) : State :=
  s.count base f k (seBase (grpOf n)) F.SE_STAT_cnt_overflow (seSrc (grpOf n * 8))
/-- SE_CH_STAT.rx_state. -/
def State.rxState (s : State) (n : Nat) : Nat := s.getF (chBase n) F.SE_CH_STAT_rx_state
/-- SE_CH_STAT.tx_state. -/
def State.txState (s : State) (n : Nat) : Nat := s.getF (chBase n) F.SE_CH_STAT_tx_state

/-- Receive states (R459). -/
def rxIdle : Nat := 0
def rxSearching : Nat := 1
def rxRunning : Nat := 2
def rxDisabling : Nat := 3
def rxMember : Nat := 4
/-- Transmit states (R459). -/
def txIdle : Nat := 0
def txStarting : Nat := 1
def txRunning : Nat := 2
def txDisabling : Nat := 3

/-- Lanes of a mapping (R424). -/
def mapLanes (m : Nat) : Nat := [1, 1, 1, 1, 2, 4, 4].getD m 0
/-- Receive on channel n left RUNNING: the second is UAS on each link of its stream (R463, R470). -/
def State.streamBad (s : State) (n : Nat) : State :=
  (List.range (mapLanes (s.getF (chBase n) F.SE_CH_CFG_rx_map))).foldl (fun s k => s.protBad (n + k)) s
/-- Goes to a receive state: SE_CH_FMT reads 0 outside RUNNING, and the source is live while the channel is enabled and not
RUNNING (R459, R461). -/
def State.toRx (s : State) (n v : Nat) : State :=
  let b := chBase n
  let s1 := s.setF b F.SE_CH_STAT_rx_state v
  if v = rxRunning then s1
  else
    let s2 := ((s1.lower b F.SE_CH_FMT_lines).lower b F.SE_CH_FMT_samples).lower b F.SE_CH_FMT_interlaced
    if s.flag b F.SE_CH_CFG_rx_on then (s2.signal (seSrc n)).streamBad n else s2.streamBad n

/-- The port record of the port whose first lane is n; empty where there is none. -/
def State.portRec (s : State) (n : Nat) : List Nat := (s.seCh n).port
/-- A channel that is a member of a port (R416). -/
def State.portMember (s : State) (n : Nat) : Bool := s.flag (chBase n) F.SE_CH_CFG_port && (s.portRec n).isEmpty

/-- The engine a command targets and its device group. -/
def Cmd.seOf (c : Cmd) : Option Nat :=
  if (c.die = 5 ∨ c.die = 6) ∧ 0x040 ≤ c.blk ∧ c.blk ≤ 0x048 then some (9 * (c.die - 5) + (c.blk - 0x040)) else none
/-- The device lane of a channel target. -/
def Cmd.chOf (c : Cmd) : Option Nat := if c.inst < 8 then c.seOf.map (fun g => 8 * g + c.inst) else none
/-- The target word of channel n. -/
def chWord (n : Nat) : Word := wd (targetWord (5 + n / 72) (0x040 + n % 72 / 8) (n % 8))
/-- The device group is ON. -/
def State.grpOn (s : State) (g : Nat) : Bool := s.dom (groupDom g) == 1

/-! ## Beats (R419–R422) -/

/-- Type codes of side bits [4:3]. -/
def btVideo : Nat := 0
def btAudio : Nat := 1
def btAnc : Nat := 2
def btTiming : Nat := 3

/-- A beat from its parts (R419). -/
def mkBeat (data : Nat) (type count : Nat) (poison sol sof field : Bool) : Beat :=
  { data := BitVec.ofNat 40 data
    side := BitVec.ofNat 8 (bit sol * 128 + bit sof * 64 + bit field * 32 + type * 8 + bit poison * 4 + count) }

/-- The count field of `k` valid lanes (R419). -/
def countCode (k : Nat) : Nat := k % 4
/-- The valid lanes of a video or ANC beat (R419). -/
def Beat.lanes (x : Beat) : Nat := if bitsOf x.side.toNat 1 0 = 0 then 4 else bitsOf x.side.toNat 1 0
/-- The valid lanes' values. -/
def Beat.values (x : Beat) : List (BitVec 10) := (List.range x.lanes).map (fun j => x.data.extractLsb' (10 * j) 10)

/-- Four 10-bit lanes in a beat (R420). -/
def lanesData (l : List (BitVec 10)) : Nat :=
  (l.getD 0 0).toNat + (l.getD 1 0).toNat * 1024 + (l.getD 2 0).toNat * 1048576 + (l.getD 3 0).toNat * 1073741824

/-- Cuts a list into fours. -/
def fours {α : Type} : Nat → List α → List (List α)
  | 0, _ => []
  | _, [] => []
  | n + 1, l => l.take 4 :: fours n (l.drop 4)

/-- Word beats of 10-bit lanes. -/
def laneBeats (type : Nat) (field : Bool) (l : List (BitVec 10)) : List Beat :=
  (fours l.length l).map (fun g => mkBeat (lanesData g) type (countCode g.length) false false false field)

/-- An ANC packet: one header beat and its word beats (R420). -/
def Anc.beats (a : Anc) (field : Bool) : List Beat :=
  mkBeat (bit a.s * 2147483648 + a.stream.toNat * 16777216 + a.off.toNat * 4096 + bit a.c * 2048 + a.line.toNat) btAnc 0 false
    false false field :: laneBeats btAnc field a.words

/-- An audio sample's beat (R420): block start and the V, U, C, P bits are ST 2110-31's alone (`st31`), and an L16 sample (`l16`) stands in bits
[23:8]. -/
def AudioSmp.beat (a : AudioSmp) (st31 l16 field poison : Bool) : Beat :=
  mkBeat ((if st31 then bit a.start * 17179869184 + a.vucp.toNat * 16777216 else 0) + a.ch.toNat * 268435456 +
    (if l16 then a.smp.toNat % 65536 * 256 else a.smp.toNat)) btAudio 0 poison false false field

/-- The timing beats that open a unit (R421, R422): timestamp and line header. -/
def unitHead (t flow line : Nat) (gap crc sof field : Bool) : List Beat :=
  let ws := timeWords t
  [mkBeat (ws.getD 0 0).toNat btTiming 0 false true sof field,
   mkBeat (0x1000000000 + (ws.getD 1 0).toNat) btTiming 0 false false false field,
   mkBeat (0x2000000000 + (ws.getD 2 0).toNat) btTiming 0 false false false field,
   mkBeat (0x3000000000 + flow * 65536 + bit gap * 16384 + bit crc * 8192 + line) btTiming 0 false false false field]

/-- The beat that marks a lost input, in the field of the unit that it ends (R419, R422). -/
def lostBeat (field : Bool) : Beat := mkBeat 0x4000000000 btTiming 0 false false false field

/-- The kind of a timing beat; none for other types. -/
def Beat.kind (x : Beat) : Option Nat :=
  if bitsOf x.side.toNat 4 3 = btTiming then some (bitsOf x.data.toNat 39 36) else none
/-- The type of a beat. -/
def Beat.type (x : Beat) : Nat := bitsOf x.side.toNat 4 3

/-! ## Delivery (R417, R418) -/

/-- The quadrant of lane n's side (R143, R417). -/
def sideQuad (n : Nat) (south : Bool) : Nat := n / 72 + (if south then 2 else 0)

/-- Beats to the lane receive port of lane n in a quadrant (R418): user logic takes beats before each arrives (R145, R147). -/
def State.deliver (s : State) (n : Nat) (south : Bool) (xs : List Beat) : State :=
  let q := sideQuad n south
  let b := spBase q + 0x100 + 0x20 * (n % 72)
  let f := laneFacet q (n % 72)
  xs.foldl (fun s x => (s.spTake b f).spArrive b f 64 x) s

/-! ## Transmit ports (R423, R438, R449) -/

/-- The first unit of a list of beats, from one start of line up to the next (R423), and the beats after it. Beats before it are dropped. -/
def splitUnit (xs : List Beat) : List Beat × List Beat :=
  match xs.dropWhile (fun y => !y.sol) with
  | [] => ([], [])
  | x :: t => (x :: t.takeWhile (fun y => !y.sol), t.dropWhile (fun y => !y.sol))

/-- The line header of a unit: before its first ANC, audio or video beat (R422, R423). -/
def unitHeader (u : List Beat) : Option Nat :=
  ((u.takeWhile (fun x => x.type == btTiming)).find? (fun x => x.kind == some 3)).map (fun x => x.data.toNat)

/-- The crosspoint of output n takes port `p` of the group in quadrant `south` (R438). -/
def State.xptUses (s : State) (n member : Nat) (south : Bool) : Bool :=
  s.getF (chBase n) F.SE_CH_XPT_kind == 1 && s.getF (chBase n) F.SE_CH_XPT_member == member &&
  s.flag (chBase n) F.SE_CH_XPT_south == south && (s.txState n == txRunning || s.txState n == txStarting)

/-- A flow's record word. -/
def Flow.w (f : Flow) (i : Nat) : Nat := f.words.getD (i - 2) 0
/-- Bits of a flow's record. -/
def Flow.f (f : Flow) (i hi lo : Nat) : Nat := bitsOf (f.w i) hi lo
/-- Flow `i` of device group g. -/
def State.flow (s : State) (g i : Nat) : Flow := SMap.get {} s.se.flows (512 * g + i)
/-- Replaces it. -/
def State.setFlow (s : State) (g i : Nat) (x : Flow) : State := { s with se := { s.se with flows := SMap.put {} s.se.flows (512 * g + i) x } }
/-- The lane whose stream ports carry a flow (R444). -/
def flowLane (g : Nat) (f : Flow) : Nat := 8 * g + f.f 2 23 21 + f.f 2 20 19

/-- The base of receive flow i's registers, taken from the offsets of flow 0. -/
def rxfBase (g i : Nat) : Nat := seBase g + 0x20 * i
/-- The base of transmit flow registers of instance i. -/
def txfBase (g i : Nat) : Nat := seBase g + 0x10 * (i - 256)
/-- Flow states (R459). -/
def flIdle : Nat := 0
def flSearching : Nat := 1
def flRunning : Nat := 2
def flDisabling : Nat := 3
/-- A flow's state. -/
def State.flState (s : State) (g i : Nat) : Nat :=
  if i < 256 then s.getF (rxfBase g i) F.SE_RXF_STAT_state else s.getF (txfBase g i) F.SE_TXF_STAT_state

/-- A transmit flow of the engine of lane n takes beats from lane n's port in quadrant `south` (R449): while it is RUNNING, so not once it is disabled or aborted (R455,
R456). -/
def State.flowUses (s : State) (n : Nat) (south : Bool) : Bool :=
  (SMap.slice s.se.flows (512 * grpOf n + 256) (512 * grpOf n + 512)).any (fun p =>
    !p.2.words.isEmpty && flowLane (grpOf n) p.2 == n && (p.2.f 2 18 18 == 1) == south &&
    s.flState (grpOf n) (p.1 % 512) == flRunning)

/-- The beat that a request took from the port of lane n goes to every output and flow that the port feeds (R438, R449). -/
def State.giveTaken (s : State) (n : Nat) (south : Bool) (x : Beat) : State :=
  let s1 := (List.range 8).foldl (fun s k =>
    let m := n / 8 * 8 + k
    if s.xptUses m (n % 8) south then s.setSeCh m { s.seCh m with taken := (s.seCh m).taken ++ [x] } else s) s
  if s.flowUses n south || s.glUses n south then s1.setSeCh n { s1.seCh n with taken := (s1.seCh n).taken ++ [x] } else s1

/-- The port of lane n in quadrant `south` feeds something (R438). -/
def State.portFeeds (s : State) (n : Nat) (south : Bool) : Bool :=
  s.flowUses n south || s.glUses n south || (List.range 8).any (fun k => s.xptUses (n / 8 * 8 + k) (n % 8) south)

/-- LANE_PORT_BEAT_REQUEST (R148, R438, R600): the stream engine requests a beat from lane transmit port `p` of Qq, after the design
gave `given`. A port that feeds nothing is not read, and a Glenu link that finds no beat counts no underflow. -/
def execLanePortBeatRequest (q : Fin 4) (p : Fin 72) (given : List Beat) (s : State) : Result :=
  .next
    (let b := portBase q.val (.tx p)
     let f := laneFacet q.val p.val
     let n := 72 * (q.val % 2) + p.val
     let south := decide (2 ≤ q.val)
     let s1 := s.spGive b f 64 given
     if s1.portFeeds n south then
       (match (s1.spq b).beats with
        | [] => if s1.glUses n south then s1 else s1.spRequest b f
        | x :: _ => (s1.spRequest b f).giveTaken n south x)
     else s1)

end Sys2Proof.Machine
end

