-- ==== Sys2Proof/Machine/Sdi.lean ====
section
/-! DEFINITION. SDI receive and transmit, the output crosspoint, and the disable and abort of streams (R424–R439, R455–R457). -/
namespace Sys2Proof.Machine

/-! ## Mappings and rates (R424, R433) -/

/-- A rate is `r` or `r / 1.001`. -/
def Hz.isSdi (f : Hz) (r : Nat) : Bool := decide (0 < f.den) && (f.num == r * f.den || f.num * 1001 == r * 1000 * f.den)

/-- A lane's payload rate suits a mapping (R424). -/
def mapRateOk (f : Hz) (m : Nat) : Bool :=
  if m = 0 then (decide (0 < f.den) && f.num == 270000000 * f.den) || f.isSdi 1485000000
  else if m = 1 ∨ m = 4 ∨ m = 5 ∨ m = 6 then f.isSdi 2970000000
  else if m = 2 then f.isSdi 5940000000
  else if m = 3 then f.isSdi 11880000000
  else false

/-- The payload rate a lane is set to. -/
def State.payloadOf (s : State) (n : Nat) : Hz :=
  s.lanePayload (s.laneCfg n) (s.getF (laneBase n) F.LANE_CFG1_word6) (s.getF (laneBase n) F.LANE_REFKHZ_word7)

/-- Two fractions are equal. -/
def Hz.same (a b : Hz) : Bool := a.num * b.den == b.num * a.den

/-- Lanes n to n + k − 1 carry SDI: they run in PCS mode SDI and belong to no Ethernet port (R415, R424). -/
def State.sdiLanes (s : State) (n k : Nat) : Bool :=
  (List.range k).all (fun i => s.lanePcs (n + i) == 3 && !s.flag (chBase (n + i)) F.SE_CH_CFG_port)

/-- Lane n runs SDI at the mapping's rate, starts a group of its lanes, and its members run at the same rate (R415, R416, R432). -/
def State.sdiLaneOk (s : State) (n m : Nat) : Bool :=
  decide (m ≤ 6) && n % 8 % mapLanes m == 0 && s.sdiLanes n (mapLanes m) &&
  (List.range (mapLanes m)).all (fun k => (s.payloadOf (n + k)).same (s.payloadOf n)) && mapRateOk (s.payloadOf n) m

/-- The channel is a member of another channel's stream (R416). -/
def State.isMember (s : State) (n : Nat) : Bool := s.rxState n == rxMember ||
  (List.range (n % 8)).any (fun k => let h := n / 8 * 8 + k
    s.flag (chBase h) F.SE_CH_CFG_tx_on && decide (n % 8 - k < mapLanes (s.getF (chBase h) F.SE_CH_CFG_tx_map)))

/-- A raster combination that the table lists (R433). -/
def rasterOk (raster rate m : Nat) : Bool :=
  if raster = 1 then rate == 3 && m == 0
  else if raster = 2 then rate == 2 && m == 0
  else if raster = 3 then m == 0
  else if raster = 4 then decide (2 ≤ rate) && decide (rate ≤ 4) && m == 0
  else if raster = 5 then (m == 0 && decide (rate ≤ 4)) || (m == 1 && decide (5 ≤ rate)) || m == 4
  else if raster = 6 then (m == 2 && decide (rate ≤ 4)) || ((m == 3 || m == 5 || m == 6) && decide (5 ≤ rate))
  else false

/-- Lines per frame (R433). -/
def rasterLines (raster : Nat) : Nat := [0, 525, 625, 750, 1125, 1125, 2250].getD raster 0
/-- Total luma samples of a line by rate code (R433). -/
def rasterTotal (raster rate : Nat) : Nat :=
  ([[], [0, 0, 0, 858], [0, 0, 864], [4125, 4125, 3960, 3300, 3300, 1980, 1650, 1650], [0, 0, 2640, 2200, 2200],
    [2750, 2750, 2640, 2200, 2200, 2640, 2200, 2200], [5500, 5500, 5280, 4400, 4400, 5280, 4400, 4400]].getD raster []).getD rate 0
/-- The active lines of a raster, as ranges of line numbers: as many as R433 gives, at the places of the SMPTE standards of the formats (PRESUMED, assumption
log 108). With square division the two halves start at interface line 42 (R432). -/
def rasterRanges (raster m : Nat) : List (Nat × Nat) :=
  if raster = 1 then [(20, 263), (283, 525)]
  else if raster = 2 then [(23, 310), (336, 623)]
  else if raster = 3 then [(26, 745)]
  else if raster = 4 then [(21, 560), (584, 1123)]
  else if raster = 5 then [(42, 1121)]
  else if raster = 6 then (if m = 5 then [(42, 2201)] else [(83, 2242)])
  else []
/-- Line L of a raster is an active line. -/
def rasterActiveAt (raster m L : Nat) : Bool := (rasterRanges raster m).any (fun r => decide (r.1 ≤ L) && decide (L ≤ r.2))
/-- Active luma samples (R433). -/
def rasterActive (raster : Nat) : Nat := [0, 720, 720, 1280, 1920, 1920, 3840].getD raster 0
/-- Samples of an active line in interface order: two for each luma sample in 4:2:2 and three in 4:4:4 (R420, R433). -/
def rasterSamples (raster m : Nat) : Nat := rasterActive raster * (if m = 4 then 3 else 2)
/-- The period of a raster line on the clock of its lanes, in 2⁻¹⁶ ns times the returned denominator (R433): 20 bits for each luma sample, and 40
in the two links of mapping 0x4, which up to 30 frames a second
fills half of their words (R424). -/
def linePeriod (payload : Hz) (raster rate m : Nat) : Nat × Nat :=
  (rasterTotal raster rate * (if m = 4 then (if rate ≤ 4 then 80 else 40) else 20) * second * payload.den, payload.num * mapLanes m)

/-! ## Ending work (R455–R457) -/

/-- Removes an armed action of an opcode on a channel; its command completes with FENCED (R457). -/
def State.dropArmed (s : State) (op n : Nat) : State := s.endOps op (chWord n) .fenced

/-- The current unit is closed with a lost beat (R430, R455). -/
def State.closeUnit (s : State) (n : Nat) : State :=
  if (s.seCh n).open_ then
    (s.setSeCh n { s.seCh n with open_ := false }).deliver n (s.flag (chBase n) F.SE_CH_CFG_south) [lostBeat (s.seCh n).field]
  else s

/-- Every lane of the stream received on channel n carries SDI and is in service (R415, R416, R430). -/
def State.rxInService (s : State) (n : Nat) : Bool :=
  let k := mapLanes (s.getF (chBase n) F.SE_CH_CFG_rx_map)
  s.sdiLanes n k && (List.range k).all (fun i => s.laneState (n + i) == lnService)
/-- A lane of the stream is not retired. -/
def State.sdiLanesLeft (s : State) (n m : Nat) : Bool := (List.range (mapLanes m)).all (fun k => s.laneState (n + k) != lnRetired)
/-- SD, which has no line CRC and no audio to de-embed (R424, R427, R429). -/
def State.isSd (s : State) (n : Nat) : Bool := (s.payloadOf n).same { num := 270000000, den := 1 }

/-- Receive becomes IDLE: the registers of its setting are cleared, and members are free. -/
def State.rxOff (s : State) (n : Nat) : State :=
  let b := chBase n
  let k := mapLanes (s.getF b F.SE_CH_CFG_rx_map)
  let s1 := (List.range 4).foldl (fun s i =>
    if 1 ≤ i ∧ i < k ∧ s.rxState (n + i) = rxMember then s.setF (chBase (n + i)) F.SE_CH_STAT_rx_state rxIdle else s) (s.streamBad n)
  let s2 := ((s1.lower b F.SE_CH_CFG_rx_on).lower b F.SE_CH_CFG_rx_map).toRx n rxIdle
  s2.setSeCh n { s2.seCh n with rx := [], move := none, sof := false, open_ := false, frameAt := none, rxLine := 0, links := [] }

/-- Transmit becomes IDLE. -/
def State.txOff (s : State) (n : Nat) : State :=
  let b := chBase n
  let s1 := ((((s.lower b F.SE_CH_CFG_tx_on).lower b F.SE_CH_CFG_tx_map).lower b F.SE_CH_CFG_raster).lower b F.SE_CH_CFG_rate).setF b
    F.SE_CH_STAT_tx_state txIdle
  s1.setSeCh n { s1.seCh n with tx := [], taken := [], txLine := 0, txNext := none }
/-- Transmit becomes IDLE after a disable or an abort: a raster that runs goes on black (R455). -/
def State.txBlack (s : State) (n : Nat) : State :=
  if (s.seCh n).txLine = 0 then s.txOff n
  else (s.setSeCh n { s.seCh n with taken := [] }).setF (chBase n) F.SE_CH_STAT_tx_state txIdle

/-- Ends SDI receive at once (R456). -/
def State.rxAbort (s : State) (n : Nat) : State := ((s.dropArmed 0x0500 n).closeUnit n).rxOff n
/-- Ends SDI transmit at once (R456). -/
def State.txAbort (s : State) (n : Nat) : State := ((s.dropArmed 0x0501 n).dropArmed 0x0505 n).txBlack n

/-! ## SDI_RX_SET -/

/-- The parameters of SDI_RX_SET. -/
def State.sdiRxOk (s : State) (n : Nat) (c : Cmd) : Bool :=
  (c.instant 2).isSome && c.f 5 22 0 == 0 && c.f 5 25 24 != 3 && s.sdiLaneOk n (c.f 5 29 27) && !s.isMember n

/-- SDI_RX_SET (R415–R417, R424–R432). -/
def execSdiRxSet (c : Cmd) (s : State) : Result :=
  .next
    (let n := c.chOf.getD 0
     let t := c.instant 2
     s.long 0x0500 c
       { len := c.len == 7, tgt := c.chOf.isSome, par := s.sdiRxOk n c, dom := s.grpOn (grpOf n), ret := s.sdiLanesLeft n (c.f 5 29 27),
         free := !s.heldByOther c && !s.armedOn 0x0500 c.word1 && s.rxState n != rxDisabling, late := s.inTime c.die t }
       (t.map s.instantTime) id)

/-- SDI_RX_SET_QUERY: words 5–6 in effect. -/
def execSdiRxSetQuery (c : Cmd) (s : State) : Result :=
  .next
    (let n := c.chOf.getD 0
     s.immediate 0x0580 c { len := c.len == 2, tgt := c.chOf.isSome, par := !s.isMember n && !s.portMember n, dom := !s.blkOff c.die c.blk }
       (fun s => (s, [wd ((s.seCh n).rx.getD 0 0), wd ((s.seCh n).rx.getD 1 0)])))

/-- SDI_RX_SET's effect at its edge (R417, R430): off as STREAM_ABORT does; a change of quadrant alone moves delivery at the next
start of frame; any other change searches anew. The answer says whether delivery still has to move. -/
def State.sdiRxApply (s : State) (n w5 w6 : Nat) : Bool × State :=
  let b := chBase n
  let m := bitsOf w5 29 27
  if !w5.testBit 31 then (false, ((s.closeUnit n).rxOff n))
  else
    let south := w5.testBit 30
    let running := s.rxState n = rxRunning ∧ s.getF b F.SE_CH_CFG_rx_map = m
    if running then
      if s.flag b F.SE_CH_CFG_south = south then (false, s.setSeCh n { s.seCh n with rx := [w5, w6], move := none })
      else (true, s.setSeCh n { s.seCh n with rx := [w5, w6], move := some south })
    else
      let s0 := if s.flag b F.SE_CH_CFG_rx_on then (s.closeUnit n).rxOff n else s
      let s1 := ((s0.raise b F.SE_CH_CFG_rx_on).setF b F.SE_CH_CFG_rx_map m).setB b F.SE_CH_CFG_south south
      let s2 := (List.range 4).foldl (fun s i =>
        if 1 ≤ i ∧ i < mapLanes m then
          (if s.flag (chBase (n + i)) F.SE_CH_CFG_rx_on then s.rxAbort (n + i) else s).setF (chBase (n + i)) F.SE_CH_STAT_rx_state rxMember
        else s) s1
      (false, (s2.setSeCh n { s2.seCh n with rx := [w5, w6], move := none, sof := true, open_ := false }).toRx n rxSearching)

/-- The SDI_RX_SETs of a channel that have acted complete: no delivery is left to move (R417). -/
def State.rxMoved (s : State) (n t : Nat) : State :=
  (s.hq.ops.filter (fun o => o.opcode == 0x0500 && o.word1 == chWord n && o.stage != 0)).foldl (fun s o =>
    s.complete o .ok (timeWords t ++ [wd (s.rxState n)])) s

/-- SDI_RX_SET_ACT (R417, R430): at station time `edge`. A channel that by now is a member gives BAD_PARAM (R416). -/
def execSdiRxSetAct (n : Fin 144) (edge : Nat) (s : State) : Result :=
  .next
    (match s.armedBy 0x0500 (chWord n.val) edge with
     | some o =>
       if s.isMember n.val ∨ s.portMember n.val then (s.reachAt (5 + n.val / 72) edge).complete o .badParam []
       else
       let r := (s.reachAt (5 + n.val / 72) edge).sdiRxApply n.val (o.w 5) (o.w 6)
       let s1 := r.2.putOp { o with stage := 1 }
       if r.1 then s1 else s1.rxMoved n.val edge
     | none => s)

/-- ANC packets that SDI_RX_SET.anc selects (R429). -/
def ancPick (sel : Nat) (l : List Anc) : List Anc := if sel = 0 then [] else if sel = 1 then l.filter (fun a => !a.audio) else l

/-- The XYZ word of F, V and H, with the protection bits of ITU-R BT.656 (R425, R426; PRESUMED, assumption log 108). -/
def xyzWord (f v h : Bool) : BitVec 10 :=
  BitVec.ofNat 10 (512 + bit f * 256 + bit v * 128 + bit h * 64 + bit (v != h) * 32 + bit (f != h) * 16 + bit (f != v) * 8 +
    bit (f != (v != h)) * 4)
/-- How many bits of two XYZ words differ. -/
def bitsApart (a b : BitVec 10) : Nat := ((List.range 10).filter (fun i => (a ^^^ b).getLsbD i)).length
/-- F and V of an XYZ word as the engine takes it, where EAV (`h`) or SAV stands, and how many events it counts (R426): one wrong bit is corrected,
and with two or more the TRS is absent. -/
def xyzRead (h : Bool) (w : BitVec 10) : Option (Bool × Bool) × Nat :=
  match [(false, false), (false, true), (true, false), (true, true)].find? (fun p => decide (bitsApart w (xyzWord p.1 p.2 h) ≤ 1)) with
  | some p => (some p, bit (w != xyzWord p.1 p.2 h))
  | none => (none, 1)

/-- The engine's own number for the interface line that arrives on channel n; 0 before its first frame (R426). -/
def State.rxLineNo (s : State) (n : Nat) : Nat := if (s.seCh n).frameAt = none then 0 else (s.seCh n).rxLine + 1
/-- The events of R426 on a link of a line: in HD and above a line number other than the engine's count is one. -/
def State.linkTrs (s : State) (n L : Nat) (k : RxLink) : Nat :=
  (xyzRead true k.eav).2 + (xyzRead false k.sav).2 +
  bit (!s.isSd n && L != 0 && (xyzRead true k.eav).1.isSome && k.ln.toNat != L)
/-- A line CRC failed on a link; SD has none (R427). -/
def State.linkCrc (s : State) (n : Nat) (k : RxLink) : Bool := !s.isSd n && k.crcBad
/-- The links of a line that channel n receives. -/
def State.rxLinks (s : State) (n : Nat) (l : RxLine) : List RxLink := l.links.take (mapLanes (s.getF (chBase n) F.SE_CH_CFG_rx_map))

/-- TRS events and CRC failures of a line are counted (R426, R427); a link's own protractor takes the line as one error event (R463, R470). -/
def State.rxErrors (s : State) (n L : Nat) (l : RxLine) : State :=
  let b := chBase n
  let ks := s.rxLinks n l
  let s0 := (ks.zip (List.range ks.length)).foldl (fun a p =>
    let a1 := a.protEvents (n + p.2) (bit (s.linkCrc n p.1 || s.linkTrs n L p.1 != 0))
    if s.linkCrc n p.1 then a1.protCrc (n + p.2) else a1) s
  let s1 := s0.seCount n b F.SE_CH_SH_TRS_LO_lo ((ks.map (s.linkTrs n L)).foldl (· + ·) 0)
  if ks.any (s.linkCrc n) then (s1.seCount n b F.SE_CH_SH_CRC_LO_lo 1).seMark n F.SE_CH_STAT_crc else s1

/-- The links in the order of their sub-images (R431): with link_auto by the link numbers of their payload identifiers, else by lane. -/
def orderLinks (auto : Bool) (nums : List (Fin 4)) (l : List RxLink) : List RxLink :=
  if auto && decide (1 < l.length) then
    (List.range 4).filterMap (fun i => ((l.zip nums).find? (fun p => p.2.val == i)).map (·.1))
  else l

/-- Two sub-images joined sample pair by sample pair, four words each (R432). -/
def weave (a b : List (BitVec 10)) : List (BitVec 10) :=
  ((fours a.length a).zip (fours b.length b)).flatMap (fun p => p.1 ++ p.2)

/-- The two links of a 4:4:4 picture (R424, R432): the first has all the luma samples and the chroma of the even ones, the second the chroma of the odd
ones beside the key, which is no essence. The samples leave from left to right, three for each luma sample. -/
def weave444 (a b : List (BitVec 10)) : List (BitVec 10) :=
  ((fours a.length a).zip (fours b.length b)).flatMap (fun p =>
    [p.1.getD 0 0, p.1.getD 1 0, p.1.getD 2 0, p.2.getD 0 0, p.1.getD 3 0, p.2.getD 2 0])

/-- The raster lines that interface line L of a mapping carries, with their samples, in the order of their delivery (R432). How sub-images lie in a raster
line is taken from SMPTE ST 425-3 and ST 425-5 (PRESUMED, assumption log 108). -/
def linesOf (m L : Nat) (subs : List (List (BitVec 10))) : List (Nat × List (BitVec 10)) :=
  if m = 2 ∨ m = 3 ∨ m = 6 then [(2 * L - 1, weave (subs.getD 0 []) (subs.getD 1 [])), (2 * L, weave (subs.getD 2 []) (subs.getD 3 []))]
  else if m = 4 then [(L, weave444 (subs.getD 0 []) (subs.getD 1 []))]
  else if m = 5 then [(L, subs.getD 0 [] ++ subs.getD 1 []), (L + 1080, subs.getD 2 [] ++ subs.getD 3 [])]
  else [(L, subs.flatten)]

/-- What an interface line is to the engine (R425, R426): its field and whether it is active; none where its EAV is absent. Without its SAV a line has no
active samples (assumption log 108). -/
def RxLink.reads (k : RxLink) : Option (Bool × Bool) :=
  (xyzRead true k.eav).1.map (fun e => (e.1, match (xyzRead false k.sav).1 with | some p => !p.2 | none => false))

/-- What an interface line is to the engine by its links (R425, R426): a raster line is whole, so a TRS that is absent on one link is absent. -/
def State.rxReads (s : State) (n : Nat) (l : RxLine) : Option (Bool × Bool) :=
  let rs := (s.rxLinks n l).map RxLink.reads
  match rs.head? with
  | some (some r) => if rs.all (·.isSome) then some (r.1, rs.all (fun x => x.any (·.2))) else none
  | _ => none

/-- The units of interface line L (R421, R429, R432): the ANC packets and the embedded audio, of at most 32 channels, in the first of them (assumption
log 108). SD has no audio to de-embed (R429). A line with nothing selected gives none. -/
def State.rxUnits (s : State) (n L : Nat) (l : RxLine) : List (List Beat) :=
  let w5 := (s.seCh n).rx.getD 0 0
  let ks := s.rxLinks n l
  match s.rxReads n l with
  | none => []
  | some (field, active) =>
    let anc := ancPick (bitsOf w5 25 24) l.anc
    let audio := if w5.testBit 23 && !s.isSd n then l.audio.filter (fun a => decide (a.ch.toNat < 32)) else []
    let crc := ks.any (s.linkCrc n)
    let lines := linesOf (s.getF (chBase n) F.SE_CH_CFG_rx_map) L
      ((orderLinks (w5.testBit 26) (s.seCh n).links ks).flatMap (·.subs))
    if !active && anc.isEmpty && audio.isEmpty then []
    else
      ((if active then lines else lines.take 1).zip (List.range 2)).map (fun p =>
        unitHead l.time 0 p.1.1 false crc ((s.seCh n).sof && p.2 == 0) field ++
        (if p.2 = 0 then anc.flatMap (fun a => a.beats field) ++ audio.map (fun a => a.beat false false field false) else []) ++
        (if active then laneBeats btVideo field p.1.2 else []))

/-- SDI_RX_LINE (R421, R425–R432): an interface line of lanes in service that carry SDI. Its TRS events and CRC failure are counted; in RUNNING an active
line, and a blanking line with selected ANC packets or audio, is delivered as the units of its raster lines. -/
def execSdiRxLine (n : Fin 144) (l : RxLine) (s : State) : Result :=
  .next
    (let b := chBase n.val
     let L := s.rxLineNo n.val
     if s.scanHolds = true ∨ s.rxInService n.val = false ∨ (s.rxState n.val ≠ rxRunning ∧ s.rxState n.val ≠ rxSearching) then s
     else
       let s1 := (s.rxErrors n.val L l).setSeCh n.val { s.seCh n.val with rxLine := (s.seCh n.val).rxLine + 1 }
       let us := s.rxUnits n.val L l
       if s.rxState n.val ≠ rxRunning ∨ us = [] then s1
       else
         let s2 := (s1.setSeCh n.val { s1.seCh n.val with sof := false, open_ := true, field := (s.rxReads n.val l).any (·.1) }).deliver n.val (s1.flag b F.SE_CH_CFG_south) us.flatten
         s2.seCount n.val b F.SE_CH_SH_LINES_LO_lo
           (if (s.rxReads n.val l).any (·.2) then us.length else 0))

/-- Delivery moves to another quadrant at a start of frame (R417), and the SDI_RX_SET that asked completes. -/
def State.moveDelivery (s : State) (n t : Nat) : State :=
  match (s.seCh n).move with
  | none => s
  | some south =>
    ((s.setSeCh n { s.seCh n with move := none }).setB (chBase n) F.SE_CH_CFG_south south).rxMoved n t

/-- A change of format while RUNNING sends a lost beat (R425). -/
def State.formatCheck (s : State) (n lines samples : Nat) : State :=
  let b := chBase n
  if s.rxState n = rxRunning ∧ (s.getF b F.SE_CH_FMT_lines ≠ lines ∨ s.getF b F.SE_CH_FMT_samples ≠ samples) then
    ((s.seMark n F.SE_CH_STAT_format_change).setSeCh n { s.seCh n with open_ := false }).deliver n (s.flag b F.SE_CH_CFG_south) [lostBeat (s.seCh n).field]
  else s

/-- The protractor of each link takes the arrival of line 1's EAV on its own link (R463): on the first lane at `t`, and on the others with a skew of up
to 4 µs (R431), a free value (assumption log 2). -/
def State.protLinks (s : State) (n t : Nat) : State :=
  (List.range (mapLanes (s.getF (chBase n) F.SE_CH_CFG_rx_map) - 1)).foldl (fun s k =>
    s.freeVal.2.protSdi (n + 1 + k) (t + s.freeVal.1 % (8000 * nano + 1) - 4000 * nano)) (s.protSdi n t)

/-- SDI_RX_FRAME (R417, R425, R428, R430, R431): a frame starts at station time `t` with payload identifier `pid`, `lines` active lines of
`samples` luma samples. -/
def execSdiRxFrame (n : Fin 144) (t : Nat) (pid : RxPid) (lines samples : Nat) (inter : Bool) (s : State) : Result :=
  .next
    (let b := chBase n.val
     if s.scanHolds = true ∨ s.rxInService n.val = false ∨ (s.rxState n.val ≠ rxRunning ∧ s.rxState n.val ≠ rxSearching) then s
     else
       let old := s.getF b F.SE_CH_PID_pid
       let want := (s.seCh n.val).rx.getD 1 0
       let s1 := (s.formatCheck n.val lines samples).setF b F.SE_CH_PID_pid pid.pid
       let s2 := if (s.seCh n.val).frameAt ≠ none ∧ old ≠ pid.pid % 4294967296 then s1.seMark n.val F.SE_CH_STAT_pid_change else s1
       let s3 := if want ≠ 0 ∧ want ≠ pid.pid % 4294967296 then s2.seMark n.val F.SE_CH_STAT_pid_mismatch else s2
       let s4 := (((s3.toRx n.val rxRunning).setF b F.SE_CH_FMT_lines lines).setF b F.SE_CH_FMT_samples samples).setB b
         F.SE_CH_FMT_interlaced inter
       let s5 := (s4.setSeCh n.val { s4.seCh n.val with sof := true, open_ := false, frameAt := some t, rxLine := 0, links := pid.links }).moveDelivery n.val t
       (s5.sdiReference n.val t (s.seCh n.val).frameAt).protLinks n.val t)

/-- SDI_INPUT_LOST (R430, R431): no valid TRS for 2 line periods, the lane out of service, or (`skew`) more than 4 µs of skew
between the links of a multi-link mapping. -/
def execSdiInputLost (n : Fin 144) (skew : Bool) (s : State) : Result :=
  .next
    (if skew = true ∧ mapLanes (s.getF (chBase n.val) F.SE_CH_CFG_rx_map) = 1 then s
     else
       let on := s.rxState n.val = rxRunning ∨ s.rxState n.val = rxSearching
       let s1 := if skew = true ∧ on then s.seMark n.val F.SE_CH_STAT_skew else s
       if s.rxState n.val = rxRunning then
         let s2 := s1.deliver n.val (s1.flag (chBase n.val) F.SE_CH_CFG_south) [lostBeat (s.seCh n.val).field]
         ((s2.setSeCh n.val { s2.seCh n.val with open_ := false, sof := true }).seMark n.val F.SE_CH_STAT_lost).toRx n.val rxSearching
       else s1)

/-! ## SDI_TX_SET -/

/-- The parameters of SDI_TX_SET (R433). -/
def State.sdiTxOk (s : State) (n : Nat) (c : Cmd) : Bool :=
  (c.instant 2).isSome && c.f 5 30 30 == 0 && c.f 5 20 0 == 0 && decide (c.w 6 ≤ 100000000) &&
  rasterOk (c.f 5 26 24) (c.f 5 23 21) (c.f 5 29 27) && s.sdiLaneOk n (c.f 5 29 27) && !s.isMember n

/-- SDI_TX_SET (R415, R433, R434, R437). -/
def execSdiTxSet (c : Cmd) (s : State) : Result :=
  .next
    (let n := c.chOf.getD 0
     let t := c.instant 2
     s.long 0x0501 c
       { len := c.len == 8, tgt := c.chOf.isSome, par := s.sdiTxOk n c, dom := s.grpOn (grpOf n), ret := s.sdiLanesLeft n (c.f 5 29 27),
         free := !s.heldByOther c && !s.armedOn 0x0501 c.word1 && s.txState n != txDisabling, late := s.inTime c.die t }
       (t.map s.instantTime) id)

/-- SDI_TX_SET_QUERY: words 5–7 in effect. -/
def execSdiTxSetQuery (c : Cmd) (s : State) : Result :=
  .next
    (let n := c.chOf.getD 0
     s.immediate 0x0581 c { len := c.len == 2, tgt := c.chOf.isSome, par := !s.isMember n && !s.portMember n, dom := !s.blkOff c.die c.blk }
       (fun s => (s, (List.range 3).map (fun i => wd ((s.seCh n).tx.getD i 0)))))

/-- The offset of SDI_TX_SET words 5–7, modulo the frame period of a rate code (R437), in 2⁻¹⁶ ns. -/
def offsetOf (ws : List Nat) (r : Nat) : Nat := ws.getD 1 0 * nano % framePeriod r
/-- SDI_TX_SET's effect at its edge (R416, R434, R437, R438): off at once; a change of offset or pid alone waits for the next frame, which of a
raster that starts is the first one whose alignment point is to come; any
other change restarts the raster, black until an XPT_AT acts, and ends what its member lanes sent. -/
def State.sdiTxApply (s : State) (n edge : Nat) (ws : List Nat) : State :=
  let b := chBase n
  let w5 := ws.getD 0 0
  let m := bitsOf w5 29 27
  if !w5.testBit 31 then s.txOff n
  else if s.txState n = txRunning ∧ (s.seCh n).tx.getD 0 0 = w5 then s.setSeCh n { s.seCh n with txNext := some ws }
  else if s.txState n = txStarting ∧ (s.seCh n).tx.getD 0 0 = w5 then
    s.setSeCh n { s.seCh n with tx := ws, txFrom := max (s.seCh n).txFrom (monus edge (offsetOf ws (bitsOf w5 23 21) + 1000000 * nano)) }
  else
    let s0 := (List.range 4).foldl (fun s i =>
      if 1 ≤ i ∧ i < mapLanes m ∧ s.flag (chBase (n + i)) F.SE_CH_CFG_tx_on = true then (s.txAbort (n + i)).txOff (n + i) else s) s
    let s1 := ((((s0.raise b F.SE_CH_CFG_tx_on).setF b F.SE_CH_CFG_tx_map m).setF b F.SE_CH_CFG_raster
      (bitsOf w5 26 24)).setF b F.SE_CH_CFG_rate (bitsOf w5 23 21)).setF b F.SE_CH_STAT_tx_state txStarting
    let s2 := ((s1.lower b F.SE_CH_XPT_kind).lower b F.SE_CH_XPT_south).lower b F.SE_CH_XPT_member
    s2.setSeCh n { s2.seCh n with tx := ws, taken := [], txLine := 0, txFrom := edge, txNext := none }

/-- SDI_TX_SET_ACT (R434): at station time `edge`. A channel that by now is a member gives BAD_PARAM (R416). -/
def execSdiTxSetAct (n : Fin 144) (edge : Nat) (s : State) : Result :=
  .next
    (match s.armedBy 0x0501 (chWord n.val) edge with
     | some o =>
       if s.isMember n.val ∨ s.portMember n.val then (s.reachAt (5 + n.val / 72) edge).complete o .badParam []
       else
       let s1 := (s.reachAt (5 + n.val / 72) edge).sdiTxApply n.val edge [o.w 5, o.w 6, o.w 7]
       if o.f 5 31 31 = 0 then s1.complete o .ok (timeWords edge ++ [wd (s1.txState n.val)]) else s1.putOp { o with stage := 1 }
     | none => s)

/-- The offset of an output in force, modulo its frame period (R437), in 2⁻¹⁶ ns. -/
def State.txOffset (s : State) (n : Nat) : Nat := offsetOf (s.seCh n).tx (s.getF (chBase n) F.SE_CH_CFG_rate)
/-- When line 1's EAV of the first frame leaves the ball (R434): the first alignment point of the frame rate at least 1 ms after the acting edge,
plus the offset. -/
def State.firstFrame (s : State) (n : Nat) : Nat :=
  nextPoint (s.getF (chBase n) F.SE_CH_CFG_rate) ((s.seCh n).txFrom + 1000000 * nano) + s.txOffset n
/-- When the EAV of an output's next line leaves the ball while the output stays aligned (R433, R434). -/
def State.eavAt (s : State) (n : Nat) : Nat :=
  let x := s.seCh n
  let b := chBase n
  let p := linePeriod (s.payloadOf n) (s.getF b F.SE_CH_CFG_raster) (s.getF b F.SE_CH_CFG_rate) (s.getF b F.SE_CH_CFG_tx_map)
  if x.txLine = 0 then s.firstFrame n else x.txAt + (x.txLine - 1) * p.1 / p.2
/-- The lane's reference is a station loop with source station time and align = 1 (R434). -/
def State.txAligned (s : State) (n : Nat) : Bool :=
  let ref := bitsOf (s.laneCfg n) 7 0
  decide (8 ≤ ref) && s.loopAligned (ref - 8)
/-- The next EAV of an output may leave the ball at station time `t` (R434): of a raster that starts, and of an aligned one, when the rule says; a raster
on another reference runs on its lane's transmit clock, which only the pin shows. -/
def State.eavOk (s : State) (n t : Nat) : Bool := ((s.seCh n).txLine != 0 && !s.txAligned n) || t == s.eavAt n

/-- The SDI_TX_SETs of a channel that have acted complete: their first frame starts at `t` (R437). -/
def State.txStarted (s : State) (n t : Nat) : State :=
  (s.hq.ops.filter (fun o => o.opcode == 0x0501 && o.word1 == chWord n && o.stage != 0)).foldl (fun s o =>
    s.complete o .ok (timeWords t ++ [wd txRunning])) s

/-- SDI_TX_FIRST_FRAME (R434, R437): line 1's EAV of the first frame under the new settings leaves the ball at station time `t`: of a raster that
starts, at its alignment point; of one that runs and took a new offset or pid, at the start of that frame. -/
def execSdiTxFirstFrame (n : Fin 144) (t : Nat) (s : State) : Result :=
  .next
    (let x := s.seCh n.val
     if !s.eavOk n.val t then s
     else if s.txState n.val = txStarting then
       let s0 := s.reachAt (5 + n.val / 72) t
       ((s0.setF (chBase n.val) F.SE_CH_STAT_tx_state txRunning).setSeCh n.val { s0.seCh n.val with txLine := 1, txAt := t }).txStarted n.val t
     else if s.txState n.val = txRunning ∧ x.txLine = 1 ∧ x.txNext = none then (s.reachAt (5 + n.val / 72) t).txStarted n.val t
     else s)

/-! ## Building lines (R436, R437) -/

/-- Looks for the unit of line `L` in the beats taken: units below it, and units without a header, are discarded. The answer: the
unit if found, the beats left, and whether anything was discarded. -/
def seekUnit : Nat → List Beat → Nat → Option (List Beat) × List Beat × Bool
  | 0, xs, _ => (none, xs, false)
  | fuel + 1, xs, L =>
    match xs with
    | [] => (none, [], false)
    | _ :: _ =>
      let u := splitUnit xs
      match unitHeader u.1 with
      | none => (let r := seekUnit fuel u.2 L; (r.1, r.2.1, true))
      | some h =>
        if bitsOf h 11 0 < L then let r := seekUnit fuel u.2 L; (r.1, r.2.1, true)
        else if bitsOf h 11 0 = L then (some u.1, u.2, false)
        else (none, xs, false)

/-- The video beats of a unit. -/
def videoOf (u : List Beat) : List Beat := u.filter (fun x => x.type == btVideo)
/-- The ANC beats of a unit. -/
def ancOf (u : List Beat) : List Beat := u.filter (fun x => x.type == btAnc)
/-- The audio beats of a unit. -/
def audioOf (u : List Beat) : List Beat := u.filter (fun x => x.type == btAudio)

/-- The video beats that fill `need` samples: beats hold as many as their count says (R419, R436). -/
def takeVideo : Nat → List Beat → List Beat
  | _, [] => []
  | need, x :: t => if need = 0 then [] else x :: takeVideo (need - x.lanes) t
/-- The samples in beats (R419). -/
def lanesIn (l : List Beat) : Nat := l.foldl (fun a x => a + x.lanes) 0

/-- The ANC packets in a unit's ANC beats (R420): header and words; DC tells how many words a packet has. -/
def ancPackets : Nat → List Beat → List (Nat × List (BitVec 10))
  | 0, _ => []
  | _, [] => []
  | fuel + 1, h :: t =>
    let n := bitsOf (t.headD h).data.toNat 27 20 + 4
    (h.data.toNat, ((t.take ((n + 3) / 4)).flatMap Beat.values).take n) :: ancPackets fuel (t.drop ((n + 3) / 4))
/-- The 10-bit words of a data stream of a line, numbered from the word after SAV: the active words, and where the horizontal blanking that ANC packets may
use starts and ends (R437; layout PRESUMED, assumption log 108). -/
def ancSpace (raster rate m : Nat) : Nat × Nat × Nat :=
  let k := if m = 2 ∨ m = 3 ∨ m = 5 ∨ m = 6 then 2 else 1
  let a := rasterActive raster / k
  let t := rasterTotal raster rate / k
  if raster ≤ 2 then (2 * a, 2 * a + 4, 2 * t - 4) else (a, a + 8, t - 4)
/-- Where a packet of `size` words with header `h` goes in a line, given the places taken in its data stream (R437): the first free place in the blanking,
or its own offset; none where it does not fit. -/
def ancPlace (sp : Nat × Nat × Nat) (active : Bool) (used : List (Nat × Nat)) (h size : Nat) : Option Nat :=
  let fits (a : Nat) : Bool := ((decide (sp.2.1 ≤ a) && decide (a + size ≤ sp.2.2)) || (!active && decide (a + size ≤ sp.1))) &&
    used.all (fun p => decide (p.2 ≤ a) || decide (a + size ≤ p.1))
  if bitsOf h 23 12 = 0xFFF then ((sp.2.1 :: used.map (·.2)).filter (fun a => decide (sp.2.1 ≤ a) && fits a)).min?
  else if fits (bitsOf h 23 12) then some (bitsOf h 23 12) else none
/-- The raster lines that carry the payload identifier (R437), by ST 352 for the format: line 10 of a progressive interface picture (PRESUMED, assumption
log 108). -/
def pidLines (raster m : Nat) : List Nat :=
  if raster = 1 then [13, 276]
  else if raster = 2 then [9, 322]
  else if raster = 4 then [10, 572]
  else if raster = 6 then (if m = 5 then [10, 1090] else [19, 20])
  else [10]
/-- The places of a line's blanking that the engine fills itself (R437): the 11 words of the payload identifier open those of the luma stream, and of the one
stream of SD (PRESUMED, assumption log 108). -/
def pidPlace (raster m L : Nat) (sp : Nat × Nat × Nat) (c : Bool) : List (Nat × Nat) :=
  if (pidLines raster m).contains L && (!c || decide (raster ≤ 2)) then [(sp.2.1, sp.2.1 + 11)] else []
/-- Inserts ANC packets into a line (R437), whose places `own` the engine fills itself. The answer: the beats inserted, each header with the offset its packet was given, and whether a packet was
discarded. A stream is named by the stream number, where s says that it counts, and by c. -/
def insertAnc (sp : Nat × Nat × Nat) (active : Bool) (own : Bool → List (Nat × Nat)) :
    List (Nat × List (BitVec 10)) → List ((Nat × Bool) × Nat × Nat) → List Beat × Bool
  | [], _ => ([], false)
  | p :: t, used =>
    let key := (if p.1.testBit 31 then bitsOf p.1 30 24 else 0, p.1.testBit 11)
    let size := p.2.length + 3
    match (if p.2.length < 4 then none else ancPlace sp active (own (p.1.testBit 11) ++ (used.filter (fun u => u.1 == key)).map (·.2)) p.1 size) with
    | none => ((insertAnc sp active own t used).1, true)
    | some a =>
      let r := insertAnc sp active own t ((key, a, a + size) :: used)
      (mkBeat (bitsOf p.1 31 24 * 16777216 + a * 4096 + bitsOf p.1 11 0) btAnc 0 false false false false ::
        laneBeats btAnc false p.2 ++ r.1, r.2)

/-- A line of lane n's output is blacked, in whole or in part (R436). -/
def State.blacked (s : State) (n : Nat) : State :=
  (s.seMark n F.SE_CH_STAT_underflow).seCount n (chBase n) F.SE_CH_SH_BLACK_LO_lo 1

/-- The payload identifier that an output inserts (R437): as SDI_TX_SET gives it, or the one of ST 352 for its settings. -/
def State.txPid (s : State) (n : Nat) : Nat :=
  let w := (s.seCh n).tx.getD 2 0
  let b := chBase n
  if w ≠ 0 then w else Config.payloadId (s.getF b F.SE_CH_CFG_raster) (s.getF b F.SE_CH_CFG_rate) (s.getF b F.SE_CH_CFG_tx_map)

/-- Every lane of an output sends what its stream engine gives it (R391, R392). -/
def State.txSends (s : State) (n : Nat) : Bool :=
  (List.range (mapLanes (s.getF (chBase n) F.SE_CH_CFG_tx_map))).all (fun k => s.txStreams (n + k))

/-- The output goes on to its next line with the beats left (R434, R437): a new frame takes a new offset and pid, and starts at the next alignment point
plus the offset. -/
def State.txAdvance (s : State) (n : Nat) (left : List Beat) : State :=
  let x := s.seCh n
  let r := s.getF (chBase n) F.SE_CH_CFG_rate
  if x.txLine < rasterLines (s.getF (chBase n) F.SE_CH_CFG_raster) then s.setSeCh n { x with taken := left, txLine := x.txLine + 1 }
  else
    let s1 := s.setSeCh n { x with taken := left, txLine := 1, tx := x.txNext.getD x.tx, txNext := none }
    s1.setSeCh n { s1.seCh n with txAt := nextPoint r (monus x.txAt (s.txOffset n) + 1) + s1.txOffset n }

/-- What an output sends for line L (R436–R439): the unit found, or none. The answer: the state with its records, whether all or part of the line
is black, and the beats that the line carries. -/
def State.txBuild (s : State) (n L : Nat) (u : Option (List Beat)) : State × Bool × List Beat :=
  let b := chBase n
  let raster := s.getF b F.SE_CH_CFG_raster
  let m := s.getF b F.SE_CH_CFG_tx_map
  let active := rasterActiveAt raster m L
  match u with
  | some u =>
    let need := if active then rasterSamples raster m else 0
    let short := decide (lanesIn (videoOf u) < need)
    let sp := ancSpace raster (s.getF b F.SE_CH_CFG_rate) m
    let anc := insertAnc sp active (pidPlace raster m L sp) (ancPackets u.length (ancOf u)) []
    let s1 := if anc.2 || !(audioOf u).isEmpty then s.seMark n F.SE_CH_STAT_discard else s
    (if short then s1.blacked n else s1, short, anc.1 ++ takeVideo need (videoOf u))
  | none =>
    let kind := s.getF b F.SE_CH_XPT_kind
    let runs := s.txState n == txRunning || s.txState n == txStarting
    (if active && kind == 1 && runs then s.blacked n else s, !(kind == 2 && runs), [])

/-- SDI_TX_LINE (R436, R437, R439, R455): the output builds its next raster line, and its lanes send it. The raster says whether the line is active and
the unit's packets whether they fit, so the operands decide nothing. -/
def execSdiTxLine (n : Fin 144) (_active _room : Bool) (s : State) : Result :=
  .next
    (let b := chBase n.val
     let x := s.seCh n.val
     let m := s.getF b F.SE_CH_CFG_tx_map
     if x.txLine = 0 ∨ s.flag b F.SE_CH_CFG_tx_on = false ∨ s.sdiLanes n.val (mapLanes m) = false then s
     else
       let r := seekUnit x.taken.length x.taken x.txLine
       let l := s.txBuild n.val x.txLine r.1
       let s1 := (if r.2.2 then l.1.seMark n.val F.SE_CH_STAT_discard else l.1).txAdvance n.val r.2.1
       if s.txSends n.val = false then s1
       else
         (if rasterActiveAt (s.getF b F.SE_CH_CFG_raster) m x.txLine then s1.seCount n.val b F.SE_CH_SH_TXLINES_LO_lo 1 else s1).emit
           (.sdi n.val x.txLine l.2.1 l.2.2
            (if (pidLines (s.getF b F.SE_CH_CFG_raster) m).contains x.txLine then some (s.txPid n.val) else none)))

/-! ## The crosspoint -/

/-- Two outputs agree on raster, rate, mapping, offset modulo the frame period and reference (R437, R438). -/
def State.sameOutput (s : State) (n m : Nat) : Bool :=
  (s.seCh n).tx.getD 0 0 == (s.seCh m).tx.getD 0 0 && s.txOffset n == s.txOffset m &&
  bitsOf (s.laneCfg n) 7 0 == bitsOf (s.laneCfg m) 7 0

/-- Every other output fed by the port agrees with output n (R438). -/
def State.shareOk (s : State) (n member : Nat) (south : Bool) : Bool :=
  (List.range 8).all (fun k => let m := n / 8 * 8 + k
    m == n || !s.xptUses m member south || s.sameOutput n m)

/-- The parameters of XPT_AT. -/
def State.xptOk (s : State) (n : Nat) (c : Cmd) : Bool :=
  (c.instant 2).isSome && c.f 5 31 30 != 3 && c.f 5 28 3 == 0 && s.txState n != txIdle && !s.isMember n &&
  (c.f 5 31 30 != 1 || s.shareOk n (c.f 5 2 0) (c.f 5 29 29 == 1))

/-- XPT_AT (R438, R439). -/
def execXptAt (c : Cmd) (s : State) : Result :=
  .next
    (let n := c.chOf.getD 0
     let t := c.instant 2
     s.long 0x0505 c
       { len := c.len == 6, tgt := c.chOf.isSome && !s.flag (chBase n) F.SE_CH_CFG_port, par := s.xptOk n c, dom := s.grpOn (grpOf n),
         ret := s.laneState n != lnRetired,
         free := !s.heldByOther c && !s.armedOn 0x0505 c.word1 && s.txState n != txDisabling, late := s.inTime c.die t }
       (t.map s.instantTime) id)

/-- XPT_AT_QUERY: word 5 in effect. -/
def execXptAtQuery (c : Cmd) (s : State) : Result :=
  .next
    (let b := chBase (c.chOf.getD 0)
     s.immediate 0x0585 c
       { len := c.len == 2, tgt := c.chOf.isSome && !s.flag b F.SE_CH_CFG_port, par := !s.isMember (c.chOf.getD 0), dom := !s.blkOff c.die c.blk }
       (fun s => (s, [wd (s.getF b F.SE_CH_XPT_kind * 1073741824 + s.getF b F.SE_CH_XPT_south * 536870912 +
         s.getF b F.SE_CH_XPT_member)])))

/-- XPT_AT_ACT (R438, R439): the first EAV of the output at or past the instant, at station time `edge`. Beats taken from the old source
are discarded. A source that by now may not feed this output too gives BAD_PARAM, as does a channel that by now is a member (R416). -/
def execXptAtAct (n : Fin 144) (edge : Nat) (s : State) : Result :=
  .next
    (match s.armedBy 0x0505 (chWord n.val) edge with
     | some o =>
       let b := chBase n.val
       let port := o.f 5 31 30 == 1
       let s0 := s.reachAt (5 + n.val / 72) edge
       if !s.eavOk n.val edge then s
       else if s.isMember n.val || port && !s.shareOk n.val (o.f 5 2 0) (o.f 5 29 29 == 1) then s0.complete o .badParam []
       else
         let s1 := ((s0.setF b F.SE_CH_XPT_kind (o.f 5 31 30)).setF b F.SE_CH_XPT_south
           (if port then o.f 5 29 29 else 0)).setF b F.SE_CH_XPT_member (if port then o.f 5 2 0 else 0)
         (s1.setSeCh n.val { s1.seCh n.val with taken := [] }).complete o .ok (timeWords edge)
     | none => s)

end Sys2Proof.Machine
end

