-- ==== Sys2Proof/Machine/Ip.lean ====
section
/-! DEFINITION. Ethernet ports, IP media flows, ST 2022-7 merging, and the disable and abort of streams (R440–R458). -/
namespace Sys2Proof.Machine

/-! ## Flows and their registers (R444, R459) -/

/-- Goes to a state: the source of the lane is live while a receive flow delivered on it is SEARCHING (R461), and the lane's protractor ends its
measurement of a flow that does not run (R470, R475). -/
def State.toFlow (s : State) (g i v : Nat) : State :=
  if i < 256 then
    let s1 := s.setF (rxfBase g i) F.SE_RXF_STAT_state v
    let f := s.flow g i
    let n := 8 * g + f.f 2 23 21
    let s2 := if v ≠ flRunning ∧ s.protF n 2 15 8 = i then (s1.protBad n).protFlowLost n (f.w 12) else s1
    if v = flSearching then s2.signal (seSrc (flowLane g f)) else s2
  else s.setF (txfBase g i) F.SE_TXF_STAT_state v
/-- A W1C record of a receive flow. -/
def State.rxfMark (s : State) (g i : Nat) (f : Fld) : State := s.mark (rxfBase g i) f (seSrc (flowLane g (s.flow g i)))
/-- Counts on a counter of a flow's registers at `base`. -/
def State.flCount (s : State) (g base : Nat) (f : Fld) (k : Nat) : State := s.seCount (8 * g) base f k

/-- The four words of an address from word `i` of a record, as one number: octet 0 lowest (R440). -/
def addrOf (words : List Nat) (i : Nat) : Nat :=
  (List.range 4).foldl (fun a k => a + words.getD (i - 2 + k) 0 * 4294967296 ^ k) 0
/-- Multicast: an IPv4 first octet of 224–239 or an IPv6 first octet of 0xFF. -/
def isMulticast (v6 : Bool) (a : Nat) : Bool := if v6 then a % 256 == 255 else decide (224 ≤ a % 256) && decide (a % 256 ≤ 239)
/-- The first `p` bits on the wire of two addresses agree. -/
def samePrefix (p a b : Nat) : Bool :=
  (List.range p).all (fun j => a.testBit (8 * (j / 8) + (7 - j % 8)) == b.testBit (8 * (j / 8) + (7 - j % 8)))

/-! ## Ports (R440–R442) -/

/-- Lanes of a speed. -/
def speedLanes (speed : Nat) : Nat := if speed < 2 then 1 else 4
/-- Lanes of the port whose first lane is n. -/
def State.portLanes (s : State) (n : Nat) : Nat := speedLanes (bitsOf ((s.portRec n).getD 0 0) 27 26)
/-- The port record selects IPv6. -/
def State.portV6 (s : State) (n : Nat) : Bool := ((s.portRec n).getD 0 0).testBit 24
/-- The port's own address. -/
def State.portAddr (s : State) (n : Nat) : Nat := addrOf (s.portRec n) 5
/-- Where packets to `a` are sent: to `a` on the subnet, else to the gateway; nowhere with no gateway (R440, R443). -/
def State.nextHop (s : State) (n a : Nat) : Option Nat :=
  let gw := addrOf (s.portRec n) 10
  if samePrefix (bitsOf ((s.portRec n).getD 7 0) 7 0) a (s.portAddr n) then some a else if gw = 0 then none else some gw
/-- The port's own MAC address, first octet lowest (R440). -/
def State.portMac (s : State) (n : Nat) : Nat := (s.portRec n).getD 1 0 + bitsOf ((s.portRec n).getD 2 0) 15 0 * 4294967296
/-- The MAC address of a multicast group, first octet lowest: RFC 1112 and RFC 2464 (PRESUMED, assumption log 109). -/
def groupMac (v6 : Bool) (a : Nat) : Nat :=
  if v6 then 0x3333 + a / 2 ^ 96 % 2 ^ 32 * 65536 else 0x5E0001 + a / 256 % 128 * 2 ^ 24 + a / 65536 % 65536 * 2 ^ 32

/-- Lane n runs the mode of a speed (R440). -/
def State.speedOk (s : State) (n speed : Nat) (fec : Bool) : Bool :=
  let mode := s.lanePcs n
  let rate := s.payloadOf n
  s.laneRxEn n && s.laneTxEn n &&
  (if speed = 0 then !fec && mode == 1 && rate.same { num := 10312500000, den := 1 }
   else if speed = 1 then mode == (if fec then 2 else 1) && rate.same { num := 25781250000, den := 1 }
   else if speed = 2 then !fec && mode == 2 && rate.same { num := 10312500000, den := 1 }
   else mode == 2 && rate.same { num := 25781250000, den := 1 })

/-- The parameters of a port record (R440). -/
def State.portOk (s : State) (n : Nat) (c : Cmd) : Bool :=
  let k := speedLanes (c.f 2 27 26)
  c.f 2 31 28 == 0 && c.f 2 22 12 == 0 && (c.f 2 23 23 == 0 || (decide (1 ≤ c.f 2 11 0) && decide (c.f 2 11 0 ≤ 4094))) &&
  c.f 4 31 16 == 0 && c.f 9 31 16 == 0 && (c.f 2 24 24 == 1 || (c.w 6 == 0 && c.w 7 == 0 && c.w 8 == 0 && c.w 11 == 0 && c.w 12 == 0 && c.w 13 == 0)) && decide (c.f 9 7 0 ≤ if c.f 2 24 24 = 1 then 128 else 32) &&
  n % k == 0 && !s.portMember n && !s.isMember n &&
  (List.range k).all (fun j => (j == 0 || (s.portRec (n + j)).isEmpty) && s.speedOk (n + j) (c.f 2 27 26) (c.f 2 25 25 == 1))

/-! ## Multicast filter and merge store (R444, R451) -/

/-- The receive flows of lane die l: group, instance and flow. -/
def State.dieFlows (s : State) (l : Nat) : List (Nat × Nat × Flow) :=
  ((SMap.slice s.se.flows (512 * (9 * l)) (512 * (9 * l + 9))).filter (fun p => decide (p.1 % 512 < 256))).map
    (fun p => (p.1 / 512, p.1 % 512, p.2))

/-- The filter entry of a receive flow: port lane, group and source (0 any); none for a unicast flow. -/
def State.mcfKey (s : State) (g : Nat) (f : Flow) : Option (Nat × Nat × Nat) :=
  let n := 8 * g + f.f 2 23 21
  let d := addrOf f.words 4
  if isMulticast (s.portV6 n) d then some (n, d, if f.f 2 17 17 = 1 then addrOf f.words 8 + 1 else 0) else none

/-- The entries of lane die l in use. -/
def State.mcfUsed (s : State) (l : Nat) : List (Nat × Nat × Nat) :=
  (s.dieFlows l).foldl (fun acc p => match s.mcfKey p.1 p.2.2 with
    | some k => if acc.contains k then acc else k :: acc
    | none => acc) []

/-- Bits that a merge reserves: rate × window, in Mb/s and µs (R451). -/
def mergeBits (m : List Nat) : Nat := bitsOf (m.getD 2 0) 15 0 * bitsOf (m.getD 1 0) 15 0

/-- Bits reserved on lane die l, flow `except` apart. -/
def State.mergeReserved (s : State) (l except : Nat) : Nat :=
  (s.dieFlows l).foldl (fun a p => if 512 * p.1 + p.2.1 = except then a else match p.2.2.leg with
    | some (true, _) => a + mergeBits p.2.2.merge
    | _ => a) 0

/-- Brings MCF_INFO.used and MCF_STORE.reserved_kib, in whole KiB rounded up, up to date (R460). -/
def State.settleMcf (s : State) (l : Nat) : State :=
  (s.setF (mcfBase l) F.MCF_INFO_used (s.mcfUsed l).length).setF (mcfBase l) F.MCF_STORE_reserved_kib
    ((s.mergeReserved l (512 * 18) + 8191) / 8192)

/-- The event source of MCF records of lane die l (R461). -/
def mcfSrc (l : Nat) : Nat := 272 + 72 * l

/-! ## Receiving: rows and units (R445–R448) -/

/-- 10-bit lanes of a row. -/
def Flow.rowLanes (f : Flow) : Nat :=
  f.f 12 31 20 * (if f.f 12 7 6 = 0 then 2 else 3) * (if f.f 12 5 5 = 1 then 2 else 1)
/-- Audio samples of a packet. -/
def Flow.packetSmps (f : Flow) : Nat := f.f 12 7 0 * (if f.f 12 8 8 = 1 then 6 else 48)
/-- The essence code. -/
def Flow.essence (f : Flow) : Nat := f.f 2 27 24

/-- Video beats of a row: positions not received read 0 in poisoned beats (R448). -/
def rowBeats (lanes : SMap (BitVec 10)) (field : Bool) (w : Nat) : List Beat :=
  (fours w (List.range w)).map (fun g =>
    mkBeat (lanesData (g.map (fun p => SMap.get 0 lanes p))) btVideo (countCode g.length)
      (g.any (fun p => (SMap.find lanes p).isNone)) false false field)

/-- Beats of receive flow i go to the port of its lane. -/
def State.flowDeliver (s : State) (g i : Nat) (xs : List Beat) : State :=
  let f := s.flow g i
  s.deliver (flowLane g f) (f.f 2 18 18 == 1) xs

/-- Closes the open row of a video flow: one unit, with the missing samples filled (R446, R448). -/
def State.closeRow (s : State) (g i : Nat) : State :=
  let f := s.flow g i
  match f.row with
  | none => s
  | some r =>
    let bs := rowBeats r.lanes r.field f.rowLanes
    (s.setFlow g i { f with row := none, field := r.field }).flowDeliver g i
      (unitHead r.time i (r.no + 1) (bs.any (·.poison)) false r.sof r.field ++ bs)

/-- The 10-bit lanes of a sample (R420): a 12-bit one takes two. -/
def smpLanes (deep : Bool) (v : BitVec 12) : List (BitVec 10) :=
  if deep then [v.extractLsb' 2 10, BitVec.ofNat 10 (v.toNat % 4)] else [v.extractLsb' 0 10]

/-- One row segment of a video packet arriving at `t`; the first row of a frame opens it (R446). The row's timestamp is the arrival of the first packet of
it that arrives (R32; where the packet with its first active sample is lost, the model's choice: DESIGN CHOICE, assumption log 110). -/
def State.rowSegment (s : State) (g i t : Nat) (seg : RowSeg) : State :=
  let f := s.flow g i
  if f.f 12 19 8 ≤ seg.no then s
  else
    let same := match f.row with | some r => r.no == seg.no && r.field == seg.field | none => false
    let s1 := if same then s else s.closeRow g i
    let f1 := s1.flow g i
    let r := f1.row.getD { no := seg.no, field := seg.field, time := t, lanes := [], sof := f1.opening }
    let deep := f.f 12 5 5 == 1
    let ls := seg.smps.flatMap (smpLanes deep)
    let at_ := if deep then 2 * seg.at_ else seg.at_
    s1.setFlow g i { f1 with opening := false, row := some { r with
      lanes := (ls.zip (List.range ls.length)).foldl (fun m p => m.insert (at_ + p.2) p.1) r.lanes } }

/-- A video packet (R446). -/
def State.videoPacket (s : State) (g i t : Nat) (p : RtpPkt) : State :=
  let f := s.flow g i
  let opens := f.ts != some p.ts
  let s1 := if opens then s.closeRow g i else s
  let s2 := s1.setFlow g i { s1.flow g i with ts := some p.ts, opening := opens || f.opening }
  let s3 := (p.rows.take 3).foldl (fun s seg => s.rowSegment g i t seg) s2
  if p.marker then s3.closeRow g i else s3

/-- A unit of poisoned zero samples for a missing audio packet (R448). No arrival stamps it, so it carries that of the packet that showed the loss (R32;
the model's choice: DESIGN CHOICE, assumption log 110). -/
def State.poisonPacket (s : State) (g i t : Nat) : State :=
  let f := s.flow g i
  let ch := max 1 (f.f 12 7 0)
  s.flowDeliver g i (unitHead t i 0 true false false false ++
    (List.range f.packetSmps).map (fun k => AudioSmp.beat { start := false, ch := BitVec.ofNat 6 (k % ch), vucp := 0, smp := 0 } false false false true))

/-- `k` packets of a flow are declared lost (R448, R453). -/
def State.missing (s : State) (g i t k : Nat) : State :=
  if k = 0 then s
  else
    let n := 8 * g + (s.flow g i).f 2 23 21
    let s0 := if s.protF n 2 15 8 = i then s.protEvents n k else s
    let s1 := (s0.flCount g (rxfBase g i) F.SE_RXF_SH_GAP_LO_lo k).rxfMark g i F.SE_RXF_STAT_gap
    if (s.flow g i).essence = 1 ∨ (s.flow g i).essence = 2 then (List.range k).foldl (fun s _ => s.poisonPacket g i t) s1 else s1

/-- Sequence numbers of an essence: 32 bits with the extended number of ST 2110-20, else 16 bits. -/
def Flow.seqMod (f : Flow) : Nat := if f.essence = 0 then 4294967296 else 65536
/-- How far `seq` lies ahead of `base`; half the range and more is behind. -/
def Flow.ahead (f : Flow) (seq base : Nat) : Nat := (seq % f.seqMod + f.seqMod - base % f.seqMod) % f.seqMod

/-- A packet leaves for delivery in sequence: packets skipped are declared lost, one behind is discarded (R447, R448). -/
def State.unpack (s : State) (g i t : Nat) (p : RtpPkt) : State :=
  let f := s.flow g i
  let gap := match f.next with | some n => f.ahead p.seq n | none => 0
  if f.seqMod / 2 ≤ gap then s
  else
    let s1 := s.missing g i t gap
    let s2 := s1.setFlow g i { s1.flow g i with next := some ((p.seq + 1) % f.seqMod), field := if f.essence = 3 then p.field else (s1.flow g i).field }
    if f.essence = 0 then s2.videoPacket g i t p
    else if f.essence = 3 then
      s2.flowDeliver g i (unitHead t i (match p.anc with | a :: _ => a.line.toNat | [] => 0) false false false p.field ++
        p.anc.flatMap (fun a => a.beats p.field))
    else s2.flowDeliver g i (unitHead t i 0 false false false false ++ p.audio.map (fun a => a.beat (f.essence == 2) (f.essence == 1 && f.f 12 9 9 == 1) false false))

/-- Counts an accepted packet, and a searching flow runs (R444, R459). -/
def State.accepted (s : State) (g i : Nat) : State :=
  let s1 := s.flCount g (rxfBase g i) F.SE_RXF_SH_PKTS_LO_lo 1
  if s.flState g i = flSearching then s1.toFlow g i flRunning else s1

/-- Leg A of a merge that flow i of group g belongs to, and the bit of its leg. -/
def Flow.legA (f : Flow) (g i : Nat) : Option (Nat × Nat × Nat) :=
  match f.leg with
  | some (true, _) => some (g, i, 1)
  | some (false, a) => some (a / 512, a % 512, 2)
  | none => none

/-- A packet reaches the merge store of A (R452): a second copy is noted, one already gone is discarded, and so is every one while A is disabled or
aborted (R455, R456). -/
def State.mergeArrive (s : State) (g i bitv : Nat) (p : RtpPkt) : State :=
  let f := s.flow g i
  let gone := match f.next with | some n => decide (f.seqMod / 2 ≤ f.ahead p.seq n) | none => false
  if gone || !(s.flState g i == flSearching || s.flState g i == flRunning) then s
  else if f.store.any (fun e => e.seq == p.seq) then
    s.setFlow g i { f with store := f.store.map (fun e => if e.seq = p.seq then { e with legs := e.legs ||| bitv } else e) }
  else
    (s.accepted g i).setFlow g i { f with store := f.store ++ [{ seq := p.seq, pkt := p, time := p.time, legs := bitv }] }

/-- IP_PACKET_RECEIVE (R442, R445–R448, R452): the packet of a frame that flow i matched at the port's MAC. -/
def execIpPacketReceive (g : Fin 18) (i : Fin 256) (p : RtpPkt) (s : State) : Result :=
  .next
    (let st := s.flState g.val i.val
     let f := s.flow g.val i.val
     let n := 8 * g.val + f.f 2 23 21
     let x := s.seCh n
     if (st ≠ flSearching ∧ st ≠ flRunning) ∨ x.matched.contains i.val = false then s
     else
       let sR := ((s.reachAt (5 + g.val / 9) p.time).setSeCh n { x with matched := x.matched.erase i.val }).setFlow g.val i.val
         { f with seen := some (p.ts % 4294967296, p.seq + 1), silent := false }
       let s0 := if f.essence = 0 ∧ s.protF n 2 15 8 = i.val then sR.protPacket n (f.w 2) (f.w 12) f.seen p.seq (p.ts % 4294967296) p.time else sR
       match f.legA g.val i.val with
       | some (a, j, b) =>
         let s1 := if st = flSearching then s0.toFlow g.val i.val flRunning else s0
         s1.mergeArrive a j b p
       | none =>
         let late := match f.next with | some n => decide (f.seqMod / 2 ≤ f.ahead p.seq n) | none => false
         if late then s0 else (s0.accepted g.val i.val).unpack g.val i.val p.time p)

/-- The stored packet that leaves next: the one least ahead in sequence. -/
def Flow.first (f : Flow) : Option Stored :=
  match f.store with
  | [] => none
  | e :: t => some (t.foldl (fun a b => if f.ahead b.seq (f.next.getD e.seq) < f.ahead a.seq (f.next.getD e.seq) ∧ f.ahead b.seq e.seq < f.seqMod / 2 ∨
      f.seqMod / 2 ≤ f.ahead b.seq a.seq then b else a) e)

/-- One packet leaves the merge store (R452, R453). -/
def State.mergeLeave (s : State) (g i : Nat) (e : Stored) : State :=
  let f := s.flow g i
  let s1 := s.setFlow g i { f with store := f.store.filter (fun x => x.seq != e.seq) }
  let s2 := if e.legs = 3 then s1
    else (s1.flCount g (rxfBase g i) F.SE_RXF_SH_FILL_LO_lo 1).rxfMark g i F.SE_RXF_STAT_leg_gap
  s2.unpack g i e.time e.pkt

/-- MERGE_PACKET_RELEASE (R452, R453): at station time `edge` the first stored packet whose window has passed leaves. -/
def execMergePacketRelease (g : Fin 18) (i : Fin 256) (edge : Nat) (s : State) : Result :=
  .next
    (let f := s.flow g.val i.val
     match f.leg, f.first with
     | some (true, _), some e =>
       if (s.flState g.val i.val = flSearching ∨ s.flState g.val i.val = flRunning) ∧ e.time + bitsOf (f.merge.getD 1 0) 15 0 * 1000 * nano ≤ edge then (s.reachAt (5 + g.val / 9) edge).mergeLeave g.val i.val e else s
     | _, _ => s)

/-- Everything in the merge store leaves (R455). -/
def State.mergeFlush (s : State) (g i : Nat) : State :=
  (List.range (s.flow g i).store.length).foldl (fun s _ => match (s.flow g i).first with
    | some e => s.mergeLeave g i e
    | none => s) s

/-- A running flow loses its input (R448). -/
def State.flowLost (s : State) (g i : Nat) : State :=
  if s.flState g i = flRunning then
    let f := s.flow g i
    let s1 := (s.closeRow g i).flowDeliver g i [lostBeat ((s.closeRow g i).flow g i).field]
    ((s1.setFlow g i { s1.flow g i with next := none, ts := none, seen := none }).rxfMark g i F.SE_RXF_STAT_lost).toFlow g i flSearching
  else s

/-- A leg has been silent for the loss time (R453): the frame in progress that its protractor measures closes by loss (R475). -/
def State.legSilent (s : State) (g i : Nat) : State :=
  let f := s.flow g i
  let n := 8 * g + f.f 2 23 21
  let s1 := s.setFlow g i { f with silent := true, seen := none }
  if s.protF n 2 15 8 = i then s1.protFlowLost n (f.w 12) else s1
/-- The merged flow of leg A, flow i of group g, is lost when both legs are silent (R453). -/
def State.mergeLost (s : State) (g i : Nat) : State :=
  match (s.flow g i).leg with
  | some (true, b) =>
    if (s.flow g i).silent && (s.flow (b / 512) (b % 512)).silent then
      let s1 := s.flowLost g i
      if s1.flState (b / 512) (b % 512) = flRunning then s1.toFlow (b / 512) (b % 512) flSearching else s1
    else s
  | _ => s
/-- IP_FLOW_LOST (R448, R453): no packet of the flow for the loss time. A merged flow is lost once that holds of both its legs. -/
def execIpFlowLost (g : Fin 18) (i : Fin 256) (s : State) : Result :=
  .next
    (match (s.flow g.val i.val).legA g.val i.val with
     | some (a, j, _) => (s.legSilent g.val i.val).mergeLost a j
     | none => s.flowLost g.val i.val)

/-! ## Ending flows (R450, R456, R457) -/

/-- SE_RXF_STAT.merged of a receive flow follows the merge that it belongs to, unless its group's clock is stopped (R52). -/
def State.showMerged (s : State) (g i : Nat) : State :=
  if s.dom (groupDom g) = 2 then s else s.setB (rxfBase g i) F.SE_RXF_STAT_merged (s.flow g i).leg.isSome
/-- Separates the merge that flow i of group g belongs to: what is stored leaves, and both deliver on their own (R451). -/
def State.separate (s : State) (g i : Nat) : State :=
  match (s.flow g i).legA g i with
  | none => s
  | some (a, j, _) =>
    let s1 := s.mergeFlush a j
    let b := match (s1.flow a j).leg with | some (_, b) => b | none => 512 * a + j
    let s2 := (s1.setFlow a j { s1.flow a j with leg := none, merge := [] }).showMerged a j
    ((s2.setFlow (b / 512) (b % 512) { s2.flow (b / 512) (b % 512) with leg := none }).showMerged (b / 512) (b % 512)).settleMcf (a / 9)

/-- The units of a flow are dropped from the beats taken on its lane. -/
def dropUnits : Nat → Nat → List Beat → List Beat
  | 0, _, xs => xs
  | fuel + 1, i, xs =>
    match xs with
    | [] => []
    | _ :: _ =>
      let u := splitUnit xs
      let rest := dropUnits fuel i u.2
      if (unitHeader u.1).map (fun h => bitsOf h 23 16) = some i then rest else u.1 ++ rest

/-- Ends a flow at once (R456): the flow is IDLE, its record stays. -/
def State.flowAbort (s : State) (g i : Nat) : State :=
  let f := s.flow g i
  if i < 256 then
    let s1 := s.setFlow g i { f with row := none, next := none, ts := none, store := [], seen := none, silent := false }
    let s2 := if s.flState g i = flRunning ∨ s.flState g i = flDisabling then s1.flowDeliver g i [lostBeat ((f.row.map (·.field)).getD f.field)] else s1
    s2.toFlow g i flIdle
  else
    let n := flowLane g f
    let xs := (s.seCh n).taken
    ((s.setSeCh n { s.seCh n with taken := dropUnits xs.length (i - 256) xs }).setFlow g i { f with sent := 0 }).toFlow g i flIdle

/-- The target word of a channel or flow. -/
def streamWord (g i : Nat) : Word := wd (targetWord (5 + g / 9) (0x040 + g % 9) i)
/-- The pending STREAM_DISABLEs of a stream. -/
def State.disablesOf (s : State) (g i sel : Nat) : List Op :=
  s.hq.ops.filter (fun o => o.opcode == 0x0506 && o.word1 == streamWord g i && o.f 2 1 0 == sel)
/-- They complete (R455, R456): result word 2 bit 0 is aborted, word 3 the µs taken. -/
def State.endDisable (s : State) (g i sel : Nat) (aborted : Bool) : State :=
  (s.disablesOf g i sel).foldl (fun s o => s.complete o .ok [wd (bit aborted), wd (s.opMicros o)]) s

/-- The membership report for an entry of the multicast filter: for any source (kind 3), or source-specific (kind 6, R443). -/
def reportOf (k : Nat × Nat × Nat) : Out := if k.2.2 = 0 then .control k.1 3 k.2.1 else .control k.1 6 (k.2.1 + (k.2.2 - 1) * 2 ^ 128)
/-- The last receive flow on a multicast group leaves it (R443). -/
def State.leaveGroup (s : State) (g : Nat) (f : Flow) : State :=
  let n := 8 * g + f.f 2 23 21
  match s.mcfKey g f with
  | some k => if (s.mcfUsed (g / 9)).any (fun e => e.1 == k.1 && e.2.1 == k.2.1) then s else s.emit (.control n 4 k.2.1)
  | none => s

/-- Ends a flow as STREAM_ABORT does, and removes it (R450). -/
def State.flowRemove (s : State) (g i : Nat) : State :=
  let f := s.flow g i
  if f.words.isEmpty then s
  else
    let s1 := ((if i < 256 then s.separate g i else s).flowAbort g i).endDisable g i 2 true
    let n := 8 * g + f.f 2 23 21
    let s2 := (s1.setFlow g i {}).setSeCh n { s1.seCh n with matched := (s1.seCh n).matched.filter (fun j => j != i) }
    let s3 := if i < 256 then (s2.lower (rxfBase g i) F.SE_RXF_STAT_valid).leaveGroup g f else s2.lower (txfBase g i) F.SE_TXF_STAT_valid
    s3.settleMcf (g / 9)

/-- The flows of the port whose first lane is n. -/
def State.portFlows (s : State) (n : Nat) : List Nat :=
  ((SMap.slice s.se.flows (512 * grpOf n) (512 * grpOf n + 512)).filter (fun p => !p.2.words.isEmpty && p.2.f 2 23 21 == n % 8)).map
    (fun p => p.1 % 512)

/-- A port hears nothing any more: what SE_PORT_STAT shows of its line is 0 (R459). -/
def State.portSilent (s : State) (n : Nat) : State :=
  let b := ethBase n
  (((s.lower b F.SE_PORT_STAT_link_up).lower b F.SE_PORT_STAT_fec_lock).lower b F.SE_PORT_STAT_local_fault).lower b F.SE_PORT_STAT_remote_fault
/-- Removes a port with its flows (R450). -/
def State.portRemove (s : State) (n : Nat) : State :=
  let k := s.portLanes n
  let s1 := (s.portFlows n).foldl (fun s i => s.flowRemove (grpOf n) i) s
  let s2 := (List.range k).foldl (fun s j => s.lower (chBase (n + j)) F.SE_CH_CFG_port) s1
  let s3 := s2.setSeCh n { s2.seCh n with port := [], matched := [] }
  let b := ethBase n
  (s3.portSilent n).lower b F.SE_PORT_CFG_word2

/-! ## IP_FLOW_ADD (R440, R444) -/

/-- The target names a flow or a port of an engine. -/
def Cmd.flowTgt (c : Cmd) : Bool := c.seOf.isSome && (decide (c.inst < 512) || (decide (0x8000 ≤ c.inst) && decide (c.inst < 0x8008)))

/-- Words 12–15 suit the essence (R444). -/
def flowWordsOk (tx : Bool) (c : Cmd) : Bool :=
  let e := c.f 2 27 24
  decide (e ≤ 3) &&
  (if e = 0 then
     decide (1 ≤ c.f 12 31 20) && decide (c.f 12 31 20 ≤ 3840) && decide (1 ≤ c.f 12 19 8) && decide (c.f 12 19 8 ≤ 2160) &&
     c.f 12 7 6 != 3 && decide (c.f 12 3 0 ≤ 7) &&
     (!tx || (c.f 2 9 8 != 3 && (c.f 2 16 16 == 1 || c.f 13 15 0 == 0 || (decide (200 ≤ c.f 13 15 0) && decide (c.f 13 15 0 ≤ 8952))) &&
       decide (c.w 15 ≤ 10000000)))
   else if e = 3 then true
   else decide (1 ≤ c.f 12 7 0) && decide (c.f 12 7 0 ≤ 64) && (e != 2 || (c.f 12 7 0 % 2 == 0 && c.f 12 9 9 == 0)))

/-- The match of a receive flow (R445): port, destination, UDP port, payload type, source with ssm. -/
def matchOf (words : List Nat) : Nat × Nat × Nat × Nat × Nat :=
  (bitsOf (words.getD 0 0) 23 21, addrOf words 4, bitsOf (words.getD 1 0) 31 16, bitsOf (words.getD 0 0) 7 0,
   if bitsOf (words.getD 0 0) 17 17 = 1 then addrOf words 8 + 1 else 0)

/-- Another receive flow of the engine has the same match. -/
def State.matchTaken (s : State) (g i : Nat) (ws : List Nat) : Bool :=
  (SMap.slice s.se.flows (512 * g) (512 * g + 256)).any (fun p => p.1 != 512 * g + i && !p.2.words.isEmpty && matchOf p.2.words == matchOf ws)

/-- The add needs an entry of a full multicast filter. -/
def State.mcfNeeds (s : State) (g : Nat) (f : Flow) : Bool :=
  match s.mcfKey g f with
  | some k => !(s.mcfUsed (g / 9)).contains k && decide (4096 ≤ (s.mcfUsed (g / 9)).length)
  | none => false

/-- The words of a command from word 2 on. -/
def Cmd.words (c : Cmd) : List Nat := c.params.map (·.toNat)

/-- The refusals of R444 that set MCF_STAT.full. -/
def State.mcfRefuses (s : State) (g : Nat) (c : Cmd) : Bool :=
  decide (c.inst < 256) && (s.mcfNeeds g { words := c.words } || s.matchTaken g c.inst c.words)

/-- The parameters of a flow record, the filter apart (R444). -/
def State.flowOk (s : State) (g : Nat) (c : Cmd) : Bool :=
  let tx := decide (256 ≤ c.inst)
  let n := 8 * g + c.f 2 23 21
  let lane := n + c.f 2 20 19
  c.f 2 31 28 == (if tx then 2 else 1) && !(s.portRec n).isEmpty && decide (c.f 2 20 19 < s.portLanes n) &&
  ((decide (96 ≤ c.f 2 7 0) && decide (c.f 2 7 0 ≤ 127)) || (!tx && c.f 2 7 0 == 0)) && flowWordsOk tx c &&
  (s.portFlows n).all (fun j => j == c.inst || flowLane g (s.flow g j) != lane || (s.flow g j).f 2 18 18 == c.f 2 18 18)

/-- Ends SDI on a lane as STREAM_ABORT does (R456), with what is armed on its channel: an Ethernet port takes the lane (R415), or its group goes OFF (R458). -/
def State.sdiEnd (s : State) (n : Nat) : State :=
  let s1 := (s.rxAbort n).txAbort n
  let s2 := if s1.flag (chBase n) F.SE_CH_CFG_tx_on then s1.txOff n else s1
  (s2.endDisable (n / 8) (n % 8) 0 true).endDisable (n / 8) (n % 8) 1 true

/-- Sets up a port (R415, R440, R442): down until its lanes, markers and FEC lock. -/
def State.portAdd (s : State) (n : Nat) (ws : List Nat) : State :=
  let old := s.portRec n
  let b := ethBase n
  let keeps := !old.isEmpty && old.take 3 == ws.take 3 && bitsOf (old.getD 7 0) 7 0 == bitsOf (ws.getD 7 0) 7 0
  let s1 := if keeps || old.isEmpty then s
    else if s.flag b F.SE_PORT_STAT_link_up then (s.portRemove n).mark b F.SE_PORT_STAT_link_down (seSrc n) else s.portRemove n
  let s2 := s1.setSeCh n { s1.seCh n with port := ws }
  if keeps then s2
  else
    let s3 := (List.range (speedLanes (bitsOf (ws.getD 0 0) 27 26))).foldl (fun s j => (s.sdiEnd (n + j)).raise (chBase (n + j)) F.SE_CH_CFG_port) s2
    (s3.setF b F.SE_PORT_CFG_word2 (ws.getD 0 0)).signal (seSrc n)

/-- Sets up a flow (R444). A transmit flow to a multicast address needs no resolution. -/
def State.flowAdd (s : State) (g i : Nat) (ws : List Nat) : State :=
  let s0 := s.flowRemove g i
  let f : Flow := { words := ws }
  let n := 8 * g + f.f 2 23 21
  let s1 := s0.setFlow g i f
  if i < 256 then
    let s2 := ((s1.raise (rxfBase g i) F.SE_RXF_STAT_valid).toFlow g i flSearching).settleMcf (g / 9)
    (match s2.mcfKey g f with | some k => s2.emit (reportOf k) | none => s2)
  else
    let d := addrOf ws 4
    let s2 := s1.raise (txfBase g i) F.SE_TXF_STAT_valid
    if isMulticast (s.portV6 n) d then s2.toFlow g i flRunning
    else
      let s3 := s2.toFlow g i flSearching
      match s.nextHop n d with | some a => s3.emit (.control n 2 a) | none => s3

/-- IP_FLOW_ADD (R440, R444, R457). -/
def execIpFlowAdd (c : Cmd) (s : State) : Result :=
  .next
    (let g := c.seOf.getD 0
     let port := decide (0x8000 ≤ c.inst)
     let n := 8 * g + c.inst % 8
     let k : Chk := { len := c.len == (if port then 14 else 16), tgt := c.flowTgt,
                      par := if port then s.portOk n c else s.flowOk g c, dom := s.grpOn g,
                      ret := if port then (List.range (speedLanes (c.f 2 27 26))).all (fun j => s.laneState (n + j) != lnRetired)
                             else s.laneState (8 * g + c.f 2 23 21 + c.f 2 20 19) != lnRetired,
                      free := !s.heldByOther c && (port || s.flState g c.inst != flDisabling) }
     let full := !port && s.mcfRefuses g c
     let s1 := s.immediate 0x0502 c { k with par := k.par && !full }
       (fun s => (if port then s.portAdd n c.words else s.flowAdd g c.inst c.words, []))
     if s.handles 0x0502 c && full && k.len && k.tgt && k.par && s.opcodeOpen c.src 0x0502 && !barred c.src 0x0502 && !s.rootBars c.src then
       s1.mark (mcfBase (g / 9)) F.MCF_STAT_full (mcfSrc (g / 9))
     else s1)

/-- IP_FLOW_ADD_QUERY: the record of a flow, zeros where it is not defined, or of a port, which a member channel does not name (R416). -/
def execIpFlowAddQuery (c : Cmd) (s : State) : Result :=
  .next
    (let g := c.seOf.getD 0
     s.immediate 0x0582 c { len := c.len == 2, tgt := c.flowTgt,
                            par := decide (c.inst < 512) || (!s.portMember (8 * g + c.inst % 8) && !s.isMember (8 * g + c.inst % 8)), dom := !s.blkOff c.die c.blk }
       (fun s => (s, if c.inst < 512 then (List.range 14).map (fun i => wd ((s.flow g c.inst).words.getD i 0))
                     else (List.range 12).map (fun i => wd ((s.portRec (8 * g + c.inst % 8)).getD i 0)))))

/-- IP_FLOW_DEL (R450). -/
def execIpFlowDel (c : Cmd) (s : State) : Result :=
  .next
    (let g := c.seOf.getD 0
     let n := 8 * g + c.inst % 8
     s.immediate 0x0503 c
       { len := c.len == 2, tgt := c.flowTgt,
         par := if c.inst < 512 then !(s.flow g c.inst).words.isEmpty else !(s.portRec n).isEmpty,
         dom := s.grpOn g, free := !s.heldByOther c }
       (fun s => (if c.inst < 512 then s.flowRemove g c.inst else s.portRemove n, [])))

/-! ## MERGE_SET (R451) -/

/-- Flow B of a MERGE_SET: its device lane group and instance. -/
def Cmd.legB (c : Cmd) : Nat × Nat := (9 * (c.die - 5) + c.f 2 11 8, c.f 2 7 0)

/-- The parameters of MERGE_SET. -/
def State.mergeOk (s : State) (g : Nat) (c : Cmd) : Bool :=
  let b := c.legB
  let fa := s.flow g c.inst
  let fb := s.flow b.1 b.2
  c.f 2 30 12 == 0 && decide (c.f 2 11 8 ≤ 8) && !fa.words.isEmpty && !fb.words.isEmpty && 512 * g + c.inst != 512 * b.1 + b.2 &&
  (c.f 2 31 31 == 0 ||
   (fa.w 12 == fb.w 12 && fa.essence == fb.essence && decide (100 ≤ c.f 3 15 0) && decide (c.f 3 15 0 ≤ 10000) && decide (1 ≤ c.f 4 15 0) &&
    decide (c.f 4 15 0 ≤ 60000) && (fa.leg == none || fa.leg == some (true, 512 * b.1 + b.2)) &&
    (fb.leg == none || fb.leg == some (false, 512 * g + c.inst)) &&
    decide (s.mergeReserved (g / 9) (512 * g + c.inst) + mergeBits c.words ≤ 32 * 1048576 * 8)))

/-- Joins two flows (R451). -/
def State.merge (s : State) (g i gb ib : Nat) (ws : List Nat) : State :=
  let s1 := s.setFlow g i { s.flow g i with leg := some (true, 512 * gb + ib), merge := ws, silent := false }
  let s2 := s1.closeRow gb ib
  let s3 := s2.setFlow gb ib { s2.flow gb ib with leg := some (false, 512 * g + i), next := none, ts := none, silent := false }
  ((s3.raise (rxfBase g i) F.SE_RXF_STAT_merged).raise (rxfBase gb ib) F.SE_RXF_STAT_merged).settleMcf (g / 9)

/-- MERGE_SET (R451, R457). -/
def execMergeSet (c : Cmd) (s : State) : Result :=
  .next
    (let g := c.seOf.getD 0
     let b := c.legB
     s.immediate 0x0504 c
       { len := c.len == 5, tgt := c.seOf.isSome && decide (c.inst < 256), par := s.mergeOk g c, dom := s.grpOn g && s.grpOn b.1,
         free := !s.heldByOther c && !s.otherHolds c (seBase b.1) && s.flState g c.inst != flDisabling && s.flState b.1 b.2 != flDisabling }
       (fun s => (if c.f 2 31 31 = 1 then s.merge g c.inst b.1 b.2 c.words
                  else if (s.flow g c.inst).leg = some (true, 512 * b.1 + b.2) then s.separate g c.inst else s, [])))

/-- MERGE_SET_QUERY: words 2–4. -/
def execMergeSetQuery (c : Cmd) (s : State) : Result :=
  .next
    (let g := c.seOf.getD 0
     s.immediate 0x0584 c { len := c.len == 2, tgt := c.seOf.isSome && decide (c.inst < 256), dom := !s.blkOff c.die c.blk }
       (fun s => (s, (List.range 3).map (fun i => wd ((s.flow g c.inst).merge.getD i 0)))))

/-! ## Transmitting (R449, R450) -/

/-- A transmit flow of the lane has this number. -/
def State.flowOnLane (s : State) (n fl : Nat) : Bool :=
  let f := s.flow (grpOf n) (256 + fl)
  !f.words.isEmpty && flowLane (grpOf n) f == n

/-- Looks for the unit of flow `fl` for line `L` (0 for audio and ANC packets) in the beats taken on lane n. The answer: the unit,
the beats before and after it that stay, and whether anything was discarded (R449). -/
def State.seekFlow (s : State) (n fl L : Nat) : Nat → List Beat → Option (List Beat) × List Beat × Bool
  | 0, xs => (none, xs, false)
  | fuel + 1, xs =>
    match xs with
    | [] => (none, [], false)
    | _ :: _ =>
      let u := splitUnit xs
      let r := s.seekFlow n fl L fuel u.2
      match unitHeader u.1 with
      | none => (r.1, r.2.1, true)
      | some h =>
        if !s.flowOnLane n (bitsOf h 23 16) then (r.1, r.2.1, true)
        else if bitsOf h 23 16 ≠ fl then (r.1, u.1 ++ r.2.1, r.2.2)
        else if L ≠ 0 ∧ bitsOf h 11 0 < L then (r.1, r.2.1, true)
        else if L ≠ 0 ∧ bitsOf h 11 0 ≠ L then (none, xs, false)
        else (some u.1, u.2, false)


/-- Octets and beats of a pgroup of ST 2110-20 (R420; PRESUMED, assumption log 109). -/
def Flow.pgroup (f : Flow) : Nat × Nat :=
  if f.f 12 7 6 = 0 then (if f.f 12 5 5 = 1 then (6, 2) else (5, 1)) else (if f.f 12 5 5 = 1 then (9, 3) else (15, 3))
/-- Beats of a row. -/
def Flow.rowBeats (f : Flow) : Nat := (f.rowLanes + 3) / 4
/-- The essence of a flow in a unit (R419, R449): of video the samples that fill a row, in whole beats, of audio and ANC the beats. -/
def Flow.essenceIn (f : Flow) (u : List Beat) : List Beat :=
  if f.essence = 0 then laneBeats btVideo false (((videoOf u).flatMap Beat.values).take f.rowLanes)
  else if f.essence = 3 then ancOf u else audioOf u
/-- A unit's essence reaches as far as beat `k` of its row or packet. -/
def Flow.reaches (f : Flow) (es : List Beat) (k : Nat) : Bool :=
  if f.essence = 0 then decide (min (4 * k) f.rowLanes ≤ lanesIn es) else decide (k ≤ es.length)
/-- Beats that a packet carries at most: whole pgroups in the record's payload, in block packing mode of 1,260 octets (R444; packets of a row start anew,
PRESUMED, assumption log 109), or a packet's audio samples. -/
def Flow.packetBeats (f : Flow) : Nat :=
  if f.essence = 0 then
    max 1 ((if f.f 2 16 16 = 1 then 1260 else if f.f 13 15 0 = 0 then 1200 else f.f 13 15 0) / f.pgroup.1) * f.pgroup.2
  else f.packetSmps
/-- Packets of a row. -/
def Flow.rowPackets (f : Flow) : Nat := (f.rowBeats + f.packetBeats - 1) / f.packetBeats
/-- Pictures a frame holds: two fields where it is interlaced or PsF. -/
def Flow.fields (f : Flow) : Nat := if f.f 12 4 4 = 1 then 2 else 1
/-- Rows of a frame or field. -/
def Flow.rows (f : Flow) : Nat := f.f 12 19 8 / f.fields

/-- The instant that stamps a packet due at `edge` (R449, R450): of audio `edge` itself, a multiple of ptime; of video the alignment point of the frame or
field, from which troffset and TRS place the packet to within 100 ns; of ANC the point that lies troffset before. None where no packet is due. -/
def Flow.duePoint (f : Flow) (edge L off : Nat) : Option Nat :=
  if f.essence = 0 ∨ f.essence = 3 then
    let tro := (if f.w 15 = 0 then Config.troDefault (f.w 2) (f.w 12) else f.w 15) * nano
    let j := (L - 1) * f.rowPackets + off / f.packetBeats
    let lag := if f.essence = 0 then tro + j * trsOf (f.f 2 9 8) (f.w 12) (f.rowPackets * f.rows) * nano / 1000 else tro
    let tol := if f.essence = 0 then 100 * nano else 0
    let p := nearestGrid (f.f 12 3 0 % 8) f.fields (monus edge lag)
    if p + lag ≤ edge + tol ∧ edge ≤ p + lag + tol then some p else none
  else if edge % ((if f.f 12 8 8 = 1 then 125 else 1000) * 1000 * nano) = 0 then some edge
  else none
/-- The packet has the place and size of one that the flow sends (R444, R449): part of a row of video, one audio packet, or the ANC packets of a frame. -/
def Flow.packetFits (f : Flow) (L off len : Nat) (last : Bool) : Bool :=
  if f.essence = 0 then
    decide (1 ≤ L) && decide (L ≤ f.rows) && off % f.packetBeats == 0 && decide (off < f.rowBeats) &&
    len == min f.packetBeats (f.rowBeats - off) && last == decide (off + len = f.rowBeats)
  else L == 0 && off == 0 && last && (f.essence == 3 || len == f.packetSmps)
/-- The RTP timestamp of an instant (R450): on a 90 kHz clock for video and ANC, on a 48 kHz clock for audio. -/
def Flow.rtpTime (f : Flow) (p : Nat) : Nat := p * (if f.essence = 0 ∨ f.essence = 3 then 90000 else 48000) / second % 4294967296

/-- The headers of a flow's packets (R440, R444). -/
def State.flowHdr (s : State) (g : Nat) (f : Flow) : NetHdr :=
  let n := 8 * g + f.f 2 23 21
  let p := s.portRec n
  let d := addrOf f.words 4
  let hops := bitsOf (p.getD 7 0) 15 8
  { macDst := if isMulticast (s.portV6 n) d then groupMac (s.portV6 n) d else f.mac
    macSrc := s.portMac n
    vlan := if (p.getD 0 0).testBit 23 then some (p.getD 0 0 % 4096) else none
    v6 := s.portV6 n, dscp := f.f 2 15 10, ttl := if hops = 0 then 64 else hops, src := s.portAddr n, dst := d
    udpSrc := f.f 3 15 0, udpDst := f.f 3 31 16, pt := f.f 2 7 0, ssrc := f.w 14 }
/-- Transmit flow i sends a packet of beats `xs` stamped `ts`: its lanes send what the engine gives them (R391, R392), or the packet is lost to them. -/
def State.sendPacket (s : State) (g i ts : Nat) (xs : List Beat) : State :=
  let f := s.flow g i
  let n := 8 * g + f.f 2 23 21
  let v := s.freeVal
  let seq := f.next.getD (v.1 % 65536)
  let s1 := v.2.setFlow g i { f with next := some ((seq + 1) % f.seqMod), ts := some ts }
  if (List.range (s.portLanes n)).all (fun k => s.txStreams (n + k)) then
    (s1.flCount g (txfBase g i) F.SE_TXF_SH_PKTS_LO_lo 1).emit (.packet (512 * g + i) (s.flowHdr g f) seq ts xs)
  else s1

/-- IP_TX_PACKET_DUE (R449, R450): at station time `edge` a packet of transmit flow i is due. It carries `len` essence beats from
position `off` of the unit of line `L` (row number + 1 for video, else 0), and an ANC packet the whole unit; `last` is the unit's last packet. -/
def execIpTxPacketDue (g : Fin 18) (i : Fin 256) (edge L off len : Nat) (last : Bool) (s : State) : Result :=
  .next
    (let f := s.flow g.val (256 + i.val)
     match f.duePoint edge L off with
     | none => s
     | some p =>
       if s.flState g.val (256 + i.val) ≠ flRunning ∨ f.packetFits L off len last = false then s
       else
         let s0 := s.reachAt (5 + g.val / 9) edge
         let n := flowLane g.val f
         let xs := (s.seCh n).taken
         let r := s.seekFlow n i.val L xs.length xs
         let s1 := if r.2.2 then s0.seMark n F.SE_CH_STAT_discard else s0
         let es := f.essenceIn (r.1.getD [])
         let len := if f.essence = 3 then es.length else len
         let short := r.1.isNone || !f.reaches es (off + len)
         let s2 := s1.setSeCh n { s1.seCh n with taken := if last || short then r.2.1 else r.1.getD [] ++ r.2.1 }
         let s3 := s2.setFlow g.val (256 + i.val) { f with sent := if last || short then 0 else off + len }
         if short then s3.mark (txfBase g.val (256 + i.val)) F.SE_TXF_STAT_underrun (seSrc n)
         else s3.sendPacket g.val (256 + i.val) (f.rtpTime p) ((es.drop off).take len))

/-- Cuts beats into packets of at most k. -/
def packetsOf : Nat → Nat → List Beat → List (List Beat)
  | 0, _, _ => []
  | _, _, [] => []
  | fuel + 1, k, l => l.take k :: packetsOf fuel k (l.drop k)
/-- The essence of the units of a flow, number `fl`, in the beats taken on its lane. -/
def Flow.unitsOf (f : Flow) : Nat → Nat → List Beat → List (List Beat)
  | 0, _, _ => []
  | fuel + 1, fl, xs =>
    match xs with
    | [] => []
    | _ :: _ =>
      let u := splitUnit xs
      if (unitHeader u.1).map (fun h => bitsOf h 23 16) = some fl then f.essenceIn u.1 :: f.unitsOf fuel fl u.2 else f.unitsOf fuel fl u.2
/-- The packets of transmit flow i that are already built: the units taken whole, less what was sent of the first. They leave at once, unpaced (R455), stamped on
from the last packet sent. -/
def State.sendBuilt (s : State) (g i : Nat) : State :=
  let f := s.flow g i
  let n := flowLane g f
  let xs := (s.seCh n).taken
  let need := if f.essence = 0 then f.rowBeats else if f.essence = 3 then 0 else f.packetSmps
  let us := (f.unitsOf xs.length (i - 256) xs).filter (fun u => f.reaches u need)
  let cut (u : List Beat) : List (List Beat) := if f.essence = 3 then [u] else packetsOf u.length f.packetBeats (if need = 0 then u else u.take need)
  let ps := match us with | [] => [] | u :: t => cut (u.drop f.sent) ++ t.flatMap cut
  let s1 := s.setSeCh n { s.seCh n with taken := dropUnits xs.length (i - 256) xs }
  let base := f.ts.getD (f.rtpTime (s.staAt (5 + g / 9)))
  let step := if f.essence = 1 ∨ f.essence = 2 then f.packetSmps / max 1 (f.f 12 7 0) else 0
  let s2 := (ps.zip (List.range ps.length)).foldl (fun s p => s.sendPacket g i ((base + (p.2 + 1) * step) % 4294967296) p.1) s1
  s2.setFlow g i { s2.flow g i with sent := 0 }

/-! ## STREAM_DISABLE and STREAM_ABORT (R455–R457) -/

/-- The target suits word 2: a channel for SDI, a flow for IP. -/
def Cmd.streamTgt (c : Cmd) : Bool := c.seOf.isSome && decide (c.inst < if c.f 2 1 0 = 2 then 512 else 8)
/-- The parameters of STREAM_DISABLE and STREAM_ABORT. -/
def State.streamOk (s : State) (g : Nat) (c : Cmd) : Bool :=
  c.f 2 1 0 != 3 && c.f 2 31 2 == 0 && (c.f 2 1 0 == 2 || (!s.isMember (8 * g + c.inst) && !s.portMember (8 * g + c.inst)))
/-- The state shown for a stream: 0 where it is IDLE. -/
def State.streamState (s : State) (g i sel : Nat) : Nat :=
  if sel = 0 then s.rxState (8 * g + i) else if sel = 1 then s.txState (8 * g + i) else s.flState g i

/-- Enters DISABLING (R455, R457): what is armed on the target goes, on an IDLE one too. -/
def State.toDisabling (s : State) (g i sel : Nat) : State :=
  let n := 8 * g + i
  let s0 := if sel = 0 then s.dropArmed 0x0500 n else if sel = 1 then (s.dropArmed 0x0501 n).dropArmed 0x0505 n else s
  if s.streamState g i sel = 0 then s0
  else if sel = 0 then (s0.closeUnit n).toRx n rxDisabling
  else if sel = 1 then s0.setF (chBase n) F.SE_CH_STAT_tx_state txDisabling
  else if i < 256 then ((s0.mergeFlush g i).closeRow g i).toFlow g i flDisabling
  else (s0.sendBuilt g i).toFlow g i flDisabling

/-- STREAM_DISABLE (R455, R457). -/
def execStreamDisable (c : Cmd) (s : State) : Result :=
  .next
    (let g := c.seOf.getD 0
     s.long 0x0506 c
       { len := c.len == 3, tgt := c.streamTgt, par := s.streamOk g c, dom := s.grpOn g, free := !s.heldByOther c } none
       (fun s => s.toDisabling g c.inst (c.f 2 1 0)))

/-- The next line of an output is built from beats already taken (R435, R455). -/
def State.txSending (s : State) (n : Nat) : Bool :=
  (s.seCh n).txLine != 0 && (seekUnit (s.seCh n).taken.length (s.seCh n).taken (s.seCh n).txLine).1.isSome
/-- STREAM_DISABLE_COMPLETION (R455): the work in flight is done and the target is IDLE. An SDI output keeps its black raster; while the next line is built
from beats already taken, they are sent first. -/
def execStreamDisableCompletion (g : Fin 18) (i : Fin 512) (sel : Fin 3) (s : State) : Result :=
  .next
    (let n := 8 * g.val + i.val
     if s.disablesOf g.val i.val sel.val = [] ∨ (sel.val = 1 ∧ s.txState n = txDisabling ∧ s.txSending n = true) then s
     else
       let s1 :=
         if s.streamState g.val i.val sel.val ≠ 3 then s
         else if sel.val = 0 then s.rxOff n
         else if sel.val = 1 then s.txBlack n
         else s.toFlow g.val i.val flIdle
       s1.endDisable g.val i.val sel.val false)

/-- Ends a stream at once (R456). -/
def State.streamAbort (s : State) (g i sel : Nat) : State :=
  if sel = 0 then s.rxAbort (8 * g + i) else if sel = 1 then s.txAbort (8 * g + i) else s.flowAbort g i

/-- STREAM_ABORT (R456): the reply, then a pending STREAM_DISABLE completes as aborted. -/
def execStreamAbort (c : Cmd) (s : State) : Result :=
  .next
    (let g := c.seOf.getD 0
     let k : Chk := { len := c.len == 3, tgt := c.streamTgt, par := s.streamOk g c, dom := s.grpOn g }
     let s1 := s.immediate 0x0507 c k (fun s => (s.streamAbort g c.inst (c.f 2 1 0), []))
     if s.handles 0x0507 c && ((s.take 0x0507 c).gate 0x0507 c k).isNone then s1.endDisable g c.inst (c.f 2 1 0) true else s1)

/-- Every channel, flow and port of a lane group ends as under STREAM_ABORT, which completes a pending STREAM_DISABLE too (R456). The settings of a group
that was ON are kept for its return (R458). -/
def State.groupStreamsOff (s : State) (g : Nat) : State :=
  let chs := (List.range 8).map (fun k => (8 * g + k, { s.seCh (8 * g + k) with
    taken := [], move := none, open_ := false, sof := false, matched := [], tx := (s.seCh (8 * g + k)).txNext.getD (s.seCh (8 * g + k)).tx, txNext := none,
    xpt := s.getF (chBase (8 * g + k)) F.SE_CH_XPT_kind * 1073741824 + s.getF (chBase (8 * g + k)) F.SE_CH_XPT_south * 536870912 +
      s.getF (chBase (8 * g + k)) F.SE_CH_XPT_member }))
  let fls := (SMap.slice s.se.flows (512 * g) (512 * g + 512)).map (fun p => (p.1, { p.2 with next := none, ts := none, row := none, store := [], sent := 0, seen := none, silent := false }))
  let s1 := if SMap.get 0 s.pwr.last (groupDom g) = 1 then
      { s with se := { s.se with keptCh := SMap.splice (8 * g) (8 * g + 8) s.se.keptCh (chs.filter (fun p => p.2 ≠ {}))
                                 keptFl := SMap.splice (512 * g) (512 * g + 512) s.se.keptFl fls } }
    else s
  let s2 := fls.foldl (fun s p => (s.flowAbort g (p.1 % 512)).endDisable g (p.1 % 512) 2 true) s1
  (List.range 8).foldl (fun s k =>
    let n := 8 * g + k
    let s3 := s.sdiEnd n
    (s3.setSeCh n { s3.seCh n with matched := [] }).portSilent n) s2

/-- Steward firmware re-applies a group's last streams when the group returns to ON (R458). -/
def State.groupStreamsOn (s : State) (g : Nat) : State :=
  let s0 := { s with se := { s.se with ch := SMap.splice (8 * g) (8 * g + 8) s.se.ch [], flows := SMap.splice (512 * g) (512 * g + 512) s.se.flows [] } }
  let s1 := (List.range 8).foldl (fun s k =>
    let n := 8 * g + k
    let x := SMap.get {} s.se.keptCh n
    let sa := if x.port.isEmpty then s else s.portAdd n x.port
    let sb := if x.rx.isEmpty then sa else (sa.sdiRxApply n (x.rx.getD 0 0) (x.rx.getD 1 0)).2
    if x.tx.isEmpty then sb
    else
      let b := chBase n
      (((sb.sdiTxApply n (s.staAt (5 + n / 72)) x.tx).setF b F.SE_CH_XPT_kind (bitsOf x.xpt 31 30)).setF b F.SE_CH_XPT_south (bitsOf x.xpt 29 29)).setF b
        F.SE_CH_XPT_member (bitsOf x.xpt 2 0)) s0
  let fls := SMap.slice s.se.keptFl (512 * g) (512 * g + 512)
  let s2 := fls.foldl (fun s p => s.flowAdd g (p.1 % 512) p.2.words) s1
  fls.foldl (fun s p => match p.2.leg with
    | some (true, b) => if (s.flow (b / 512) (b % 512)).words.isEmpty then s else s.merge g (p.1 % 512) (b / 512) (b % 512) p.2.merge
    | some (false, a) => if (s.flow (a / 512) (a % 512)).words.isEmpty then s
        else s.merge (a / 512) (a % 512) g (p.1 % 512) (SMap.get {} s.se.keptFl a).merge
    | none => s) s2

/-! ## Frames and control traffic (R441–R443) -/

/-- The port hears its line: it is up and its lanes are in service (R390, R442). -/
def State.portHears (s : State) (n : Nat) : Bool :=
  !s.scanHolds && !(s.portRec n).isEmpty && s.flag (ethBase n) F.SE_PORT_STAT_link_up &&
  (List.range (s.portLanes n)).all (fun k => s.laneState (n + k) == lnService)
/-- The receive flows of the port that this traffic matches (R445). -/
def State.flowMatches (s : State) (n mac dst src udpDst pt : Nat) : List Nat :=
  if mac ≠ (if isMulticast (s.portV6 n) dst then groupMac (s.portV6 n) dst else s.portMac n) then []
  else (s.portFlows n).filter (fun i => decide (i < 256) &&
    (let f := s.flow (grpOf n) i
     addrOf f.words 4 == dst && f.f 3 31 16 == udpDst && (f.f 2 7 0 == 0 || f.f 2 7 0 == pt) &&
     (f.f 2 17 17 == 0 || addrOf f.words 8 == src)))

/-- A multicast frame of the port has a filter entry (R444). -/
def State.mcfHas (s : State) (n dst src : Nat) : Bool :=
  (s.mcfUsed (n / 72)).any (fun k => k.1 == n && k.2.1 == dst && (k.2.2 == 0 || k.2.2 == src + 1))

/-- A frame discarded and counted (R441, R443). -/
def State.badFrame (s : State) (n : Nat) : State :=
  (s.seCount n (ethBase n) F.SE_PORT_SH_BAD_LO_lo 1).mark (ethBase n) F.SE_PORT_STAT_bad_frame (seSrc n)

/-- ETH_FRAME_RECEIVE (R441, R443, R445): a frame at the MAC of the port whose first lane is n. A frame that a flow or the steward
takes is followed by the command of its content. -/
def execEthFrameReceive (n : Fin 144) (x : EthFrame) (s : State) : Result :=
  .next
    (let b := ethBase n.val
     if s.portHears n.val = false then s
     else
       let w2 := (s.portRec n.val).getD 0 0
       let s0 := s.protEvents n.val (x.uncorr + bit (!x.fcs))
       let s1 := s0.seCount n.val b F.SE_PORT_SH_CORR_LO_lo x.corr
       let s2 := if x.uncorr = 0 then s1
         else (s1.seCount n.val b F.SE_PORT_SH_UNCORR_LO_lo x.uncorr).mark b F.SE_PORT_STAT_fec_uncorr (seSrc n.val)
       let vlanOk := if w2.testBit 23 then x.vlan == some (BitVec.ofNat 12 w2) else x.vlan == none
       if x.pause || !x.fcs || x.uncorr != 0 || decide (x.len < 64) || decide (9600 < x.len) || !vlanOk then s2.badFrame n.val
       else match x.body with
         | .control => s2
         | .other => s2.badFrame n.val
         | .media dst src udpDst pt =>
           let fs := s.flowMatches n.val x.macDst dst src udpDst pt
           if fs ≠ [] then
             s2.setSeCh n.val { s2.seCh n.val with matched := (s2.seCh n.val).matched ++ fs.filter (fun i =>
               let st := s.flState (grpOf n.val) i; st == flSearching || st == flRunning) }
           else if isMulticast (s.portV6 n.val) dst && !s.mcfHas n.val dst src then
             (s2.badFrame n.val).count (mcfBase (n.val / 72)) F.MCF_SH_MISS_LO_lo 1 (mcfBase (n.val / 72)) F.MCF_STAT_cnt_overflow
               (mcfSrc (n.val / 72))
           else s2.badFrame n.val)

/-- ETH_CONTROL_PACKET (R443, R444): control traffic of a port reaches the steward, which answers it. -/
def execEthControlPacket (n : Fin 144) (x : CtlPkt) (s : State) : Result :=
  .next
    (if s.portHears n.val = false then s
     else match x with
       | .solicit a => if a = s.portAddr n.val then s.emit (.control n.val 0 a) else s
       | .echo a => if a = s.portAddr n.val then s.emit (.control n.val 1 a) else s
       | .resolved a mac =>
         (s.portFlows n.val).foldl (fun s i =>
           if 256 ≤ i ∧ s.nextHop n.val (addrOf (s.flow (grpOf n.val) i).words 4) = some a then
             let s1 := s.setFlow (grpOf n.val) i { s.flow (grpOf n.val) i with mac := mac }
             if s.flState (grpOf n.val) i = flSearching then s1.toFlow (grpOf n.val) i flRunning else s1
           else s) s
       | .query => ((s.mcfUsed (n.val / 72)).filter (fun k => k.1 == n.val)).foldl (fun s k => s.emit (reportOf k)) s
       | .ptp => s)

/-- ETH_PORT_UP (R442): block lock, markers and FEC lock with no local fault for 1 ms. A retired lane keeps a port down (R458).
`remote` tells whether remote fault is received. -/
def execEthPortUp (n : Fin 144) (remote : Bool) (s : State) : Result :=
  .next
    (let b := ethBase n.val
     let k := s.portLanes n.val
     if !(s.portRec n.val).isEmpty && !s.flag b F.SE_PORT_STAT_link_up &&
        (List.range k).all (fun j => s.laneState (n.val + j) == lnService) then
       (((s.raise b F.SE_PORT_STAT_link_up).setB b F.SE_PORT_STAT_fec_lock (((s.portRec n.val).getD 0 0).testBit 25)).lower b
         F.SE_PORT_STAT_local_fault).setB b F.SE_PORT_STAT_remote_fault remote
     else s)

/-- A port that is down shows the faults that it receives, and whether its FEC is in lock, which lanes in service allow and only the line tells (R459;
assumption log 2). -/
def State.downShows (s : State) (n : Nat) (lf rf : Bool) : State :=
  let b := ethBase n
  let f := s.freeVal
  let lock := ((s.portRec n).getD 0 0).testBit 25 && (List.range (s.portLanes n)).all (fun k => s.laneState (n + k) == lnService) && f.1 % 2 == 1
  ((f.2.setB b F.SE_PORT_STAT_fec_lock lock).setB b F.SE_PORT_STAT_local_fault lf).setB b F.SE_PORT_STAT_remote_fault rf
/-- ETH_PORT_DOWN (R442): the port goes down, and its flows lose their input. `lf` and `rf` are the faults being
received, which a port that is down shows too. -/
def execEthPortDown (n : Fin 144) (lf rf : Bool) (s : State) : Result :=
  .next
    (let b := ethBase n.val
     if s.dom (groupDom (n.val / 8)) ≠ 1 then s
     else if s.flag b F.SE_PORT_STAT_link_up then
       let s1 := (((s.lower b F.SE_PORT_STAT_link_up).downShows n.val lf rf).mark b F.SE_PORT_STAT_link_down (seSrc n.val))
       (s.portFlows n.val).foldl (fun s i => if i < 256 then
         (match (s.flow (grpOf n.val) i).leg with
          | some _ => s
          | none => s.flowLost (grpOf n.val) i) else s) s1
     else if (s.portRec n.val).isEmpty then s
     else s.downShows n.val lf rf)

/-- A port sends remote fault while it receives local fault (R442). -/
def State.sendsRemoteFault (s : State) (n : Nat) : Bool := !(s.portRec n).isEmpty && s.flag (ethBase n) F.SE_PORT_STAT_local_fault

end Sys2Proof.Machine
end

