-- ==== Sys2Proof/Machine/Protractor.lean ====
section
/-! DEFINITION. The commands of the protractors: PROT_SET, the eye and jitter periods and the seconds (R462–R483). -/
namespace Sys2Proof.Machine

/-- The device lane of a PROT target (R476). -/
def Cmd.protOf (c : Cmd) : Option Nat :=
  if (c.die = 5 ∨ c.die = 6) ∧ 0x180 ≤ c.blk ∧ c.blk ≤ 0x1C7 ∧ c.inst = 0 then some (72 * (c.die - 5) + (c.blk - 0x180)) else none

/-- The lane is native (R376). -/
def State.laneNative (s : State) (n : Nat) : Bool := bitsOf (s.laneCfg n) 27 26 == 0

/-- A value is 0 or lies in a range. -/
def zeroOr (v lo hi : Nat) : Bool := v == 0 || (decide (lo ≤ v) && decide (v ≤ hi))

/-- The ranges of PROT_SET's words (R476). -/
def Cmd.protWordsOk (c : Cmd) : Bool :=
  c.f 2 26 25 != 3 && c.f 2 24 24 == 0 && decide (c.f 2 23 16 ≤ 127) && decide (c.f 3 31 28 ≤ 8) && decide (c.f 3 27 0 ≤ 100000000) &&
  decide ((s32 (c.w 4)).natAbs ≤ 50000000) && c.f 5 31 16 == 0 && decide (c.f 5 15 8 ≤ 64) && decide (c.f 5 7 0 ≤ 127) &&
  c.f 7 31 16 == 0 && decide (c.f 7 15 0 ≤ 10000) && decide (c.w 8 ≤ 1000000000) && c.f 10 31 16 == 0 && zeroOr (c.f 10 15 0) 10 60000 &&
  decide (c.w 11 ≤ 10000000)

/-- The conditions of R477. -/
def State.protSetOk (s : State) (n : Nat) (c : Cmd) : Bool :=
  let f := s.flow (grpOf n) (c.f 2 15 8)
  let starts := !(s.portRec n).isEmpty
  c.protWordsOk && ((c.f 2 30 29 == 0) || s.laneNative n) && ((c.f 2 28 27 == 0) || starts) &&
  (let video := !f.words.isEmpty && f.essence == 0 && f.f 2 23 21 == n % 8
   (c.f 2 27 27 == 0 || video) && (!starts || !video || c.f 2 26 25 == 1 || (activeRatio (f.f 12 19 8)).isSome))

/-- The settings take effect (R478): measurements whose parameters change restart, disabled ones stop. An SDI lane ignores the flow (R477). The frame in progress is
not measured on after a restart: timing and ST 2110-21 wait for the next frame start, which the timestamp of the frame in progress tells. -/
def State.protApply (s : State) (n : Nat) (ws : List Nat) : State :=
  let x := s.protX n
  let b := protBase n
  let w2 := ws.getD 0 0
  let old2 := s.protW n 2
  let on := w2.testBit 31
  let turned := bitsOf old2 31 31 != bitsOf w2 31 31
  let flow := !(s.portRec n).isEmpty && bitsOf old2 15 8 != bitsOf w2 15 8
  let word (i : Nat) : Bool := s.protW n i != ws.getD (i - 2) 0
  let timing := turned || flow || word 3 || word 4
  let c21 := turned || flow || bitsOf old2 27 25 != bitsOf w2 27 25 || word 9 || word 11
  let secs := turned || flow || bitsOf old2 7 0 != bitsOf w2 7 0
  let eye := turned || bitsOf old2 30 30 != bitsOf w2 30 30 || word 5 || word 10
  let jit := turned || bitsOf old2 29 29 != bitsOf w2 29 29 || word 6 || word 7 || word 10
  let s1 := (List.range 10).foldl (fun s i => s.setF (b + 4 * i) F.PROT_CFG_word (ws.getD i 0)) s
  let v := s.getF b F.PROT_LIVE_breach
  let keep := (if on then 1 else 0) + (if on && w2.testBit 30 then 2 else 0) + (if on && w2.testBit 29 then 4 else 0) +
    (if on && w2.testBit 28 then 8 else 0) + (if on && w2.testBit 27 then 48 else 0)
  let s2 := s1.setF b F.PROT_LIVE_breach (v &&& keep)
  let s3 := if c21 then s2.setNpackets n 0 0 else s2
  s3.setProtX n { x with set := ws, frameAt := if timing then none else x.frameAt,
                         c21 := if turned || flow || c21 then {} else x.c21,
                         cut := x.cut || eye, cutJ := x.cutJ || jit, whole := x.whole && !secs, events := if secs then 0 else x.events }

/-- PROT_SET (R476–R478). -/
def execProtSet (c : Cmd) (s : State) : Result :=
  .next
    (let n := c.protOf.getD 0
     s.immediate 0x0600 c
       { len := c.len == 12, tgt := c.protOf.isSome, par := s.protSetOk n c, dom := s.grpOn (grpOf n), ret := s.laneState n != lnRetired,
         free := !s.heldByOther c }
       (fun s => (s.protApply n c.words, [])))

/-- PROT_SET_QUERY: words 2–11. -/
def execProtSetQuery (c : Cmd) (s : State) : Result :=
  .next
    (let n := c.protOf.getD 0
     s.immediate 0x0680 c { len := c.len == 2, tgt := c.protOf.isSome, dom := !s.blkOff c.die c.blk }
       (fun s => (s, (List.range 10).map (fun i => wd (s.protW n (2 + i))))))

/-- Eye and jitter measurement pause (R469): a LANE_EYE runs, or the lane is outside IN_SERVICE and TEST, CALIBRATING included. -/
def State.eyePaused (s : State) (n : Nat) : Bool :=
  ((s.laneX n).scanning && (s.pendingOn 0x0402 (laneWord n)).isSome) || !(s.laneState n == lnService || s.laneState n == lnTest)

/-- The two minimum and last values of PROT_SH_EYE as one register. -/
def State.eyeGauge (s : State) (n h v : Nat) : State :=
  let g := s.gauge n 0xB0 0xFF00FF00
  s.setGauge n 0xB0 0xFF00FF00 (min (bitsOf g 31 24) h * 16777216 + h * 65536 + min (bitsOf g 15 8) v * 256 + v)

/-- A jitter gauge: the greatest and the last value. -/
def State.jitGauge (s : State) (n off v : Nat) : State :=
  s.setGauge n off 0 (max (bitsOf (s.gauge n off 0) 31 16) v * 65536 + v)

/-- PROT_EYE_PERIOD (R467–R469, R481): the openings `h` (1/64 UI) and `v` (codes), and timing and alignment jitter in 0.001 UI,
measured over an eye_period. A measurement that was cut short gives no sample. -/
def execProtEyePeriod (n : Fin 144) (h : Fin 65) (v : Fin 128) (tj aj : Fin 65536) (s : State) : Result :=
  .next
    (if !s.protOn n.val || !s.laneNative n.val || s.eyePaused n.val then s
     else
       let x := s.protX n.val
       let hm := s.protF n.val 5 15 8
       let vm := s.protF n.val 5 7 0
       let tm := s.protF n.val 6 31 16
       let am := s.protF n.val 6 15 0
       let s0 := s.setProtX n.val { x with cut := false, cutJ := false }
       let s1 := if s.protF n.val 2 30 30 = 1 ∧ x.cut = false then
           (s0.eyeGauge n.val h.val v.val).setBreach n.val 1 (decide (h.val < hm) || decide (v.val < vm)) F.PROT_STAT_eye_breach
         else s0
       if s.protF n.val 2 29 29 = 1 ∧ x.cutJ = false then
         ((s1.jitGauge n.val 0xB4 tj.val).jitGauge n.val 0xB8 aj.val).setBreach n.val 2
           ((tm != 0 && decide (tm < tj.val)) || (am != 0 && decide (am < aj.val))) F.PROT_STAT_jit_breach
       else s1)

/-- The channel that receives on lane n: its own, or the one whose stream it is a member of (R416). -/
def State.rxHead (s : State) (n : Nat) : Nat :=
  if s.rxState n = rxMember then
    (match (List.range (n % 8)).find? (fun k => let h := n - 1 - k
        s.flag (chBase h) F.SE_CH_CFG_rx_on && decide (k + 1 < mapLanes (s.getF (chBase h) F.SE_CH_CFG_rx_map))) with
     | some k => n - 1 - k
     | none => n)
  else n
/-- The lane, its SDI receive channel or its selected flow is out of service (R470). A lane inside a port has neither. -/
def State.protDown (s : State) (n : Nat) : Bool :=
  !(s.laneState n == lnService || s.laneState n == lnTest) ||
  (if !(s.portRec n).isEmpty then s.flState (grpOf n) (s.protF n 2 15 8) != flRunning
   else if s.portMember n then false
   else s.rxState (s.rxHead n) != rxRunning)

/-- PROT_SECOND (R470, R483): a second of station time ends. A protractor whose group is not ON has no clock. -/
def execProtSecond (n : Fin 144) (s : State) : Result :=
  .next
    (let x := s.protX n.val
     if !s.protOn n.val ∨ s.dom (groupDom (n.val / 8)) ≠ 1 then s
     else
       let uas := x.uas || s.protDown n.val
       let thr := s.protF n.val 2 7 0
       let s1 :=
         if !x.whole then s
         else
           let s2 := s.protCount n.val F.PROT_SH_SECS_LO_lo 1
           if uas then s2.protCount n.val F.PROT_SH_UAS_LO_lo 1
           else
             let s3 := if x.events = 0 then s2 else s2.protCount n.val F.PROT_SH_ES_LO_lo 1
             if (if thr = 0 then 100 else thr) ≤ x.events then s3.protCount n.val F.PROT_SH_SES_LO_lo 1 else s3
       s1.setProtX n.val { s1.protX n.val with events := 0, uas := s.protDown n.val, whole := true })

/-- The gauges of the measured grandmaster read 0 where none is measured (R484). -/
def State.showGm (s : State) (n : Nat) : State :=
  let d := s.protF n 2 23 16
  let gm := s.gauge n 0x120 0 + s.gauge n 0x124 0 * 4294967296
  if s.protOn n && s.protF n 2 28 28 == 1 && (((s.ptpSilent n d).ptpOf n d).gm.map (· % 2 ^ 64) == some gm) then s
  else (s.setGauge n 0x120 0 0).setGauge n 0x124 0 0
/-- The header record of a snapshot (R479, R484): instant, sticky overflow, whether time was unlocked since the one before, and
the timing source. A snap_clear resets the gauges of R479, not the mean path delay and the grandmaster. -/
def State.protSnap (s : State) (n : Nat) (clear : Bool) : State :=
  let b := protBase n
  let unl := s.tmState != tmLocked || decide ((s.protX n).snapAt ≤ s.tim.lockedAt)
  let f := s.flow (grpOf n) (s.protF n 2 15 8)
  let src := if s.rxState (s.rxHead n) = rxRunning then 1
    else if !(s.portRec n).isEmpty && !f.words.isEmpty && f.essence == 0 && f.f 2 23 21 == n % 8 then 2 else 0
  let ws := timeWords (s.staAt (5 + n / 72))
  let s0 := s.showGm n
  let s1 := [0x11C, 0x120, 0x124].foldl (fun t r => t.setGauge n r 0 (s0.gauge n r 0)) (s0.snapWindow b clear)
  let put (s : State) (off v : Nat) : State := { s with snaps := SMap.put 0 s.snaps (b + off) v }
  let s2 := put (put (put (put s1 0x80 (s.getF b F.PROT_STAT_cnt_overflow * 2147483648 + bit unl * 1073741824 + src * 268435456)) 0x84
    (ws.getD 0 0).toNat) 0x88 (ws.getD 1 0).toNat) 0x8C (ws.getD 2 0).toNat
  s2.setProtX n { s2.protX n with snapAt := s.now }

/-- Steward firmware re-applies a group's last PROT_SETs when the group returns to ON (R483); every measurement starts anew. -/
def State.groupProtsOn (s : State) (g : Nat) : State :=
  (List.range 8).foldl (fun s k =>
    let n := 8 * g + k
    let x := s.protX n
    if x.set.isEmpty then s else (s.setProtX n { set := x.set, snapAt := x.snapAt, cut := true, cutJ := true }).protApply n x.set) s

end Sys2Proof.Machine
end

