-- ==== Sys2Proof/Machine/Edges.lean ====
section
/-! DEFINITION. Optical edges, short edges, lamps and the partner link (R485–R517). -/
namespace Sys2Proof.Machine

/-! ## Edges: width and state (R485–R489, R498) -/

/-- Lanes per waveguide of a step (R486). -/
def stepLanes (step : Nat) : Nat := [16, 8, 4].getD step 0
/-- An edge's own record. -/
def State.edgeX (s : State) (e : Nat) : EdgeX := SMap.get {} s.opt.edges e
/-- Replaces it. -/
def State.setEdgeX (s : State) (e : Nat) (x : EdgeX) : State := { s with opt := { s.opt with edges := SMap.put {} s.opt.edges e x } }
/-- Retired lanes of waveguide w: the centroid's record (R493), as both ends show it. -/
def State.wgRetired (s : State) (e w : Nat) : Nat := s.getF (edgeBase e + 4 * w) F.EDGE_WG_retired
/-- Bits set among 18. -/
def ones18 (m : Nat) : Nat := ((List.range 18).filter (fun i => m.testBit i)).length
/-- Working lanes of waveguide w. -/
def State.wgWorking (s : State) (e w : Nat) : Nat := 18 - ones18 (s.wgRetired e w)
/-- The highest step that every waveguide can serve (R488); 3 where one has fewer than 4 working lanes. -/
def State.bestStep (s : State) (e : Nat) : Nat :=
  let least := (List.range (edgeWgs e)).foldl (fun a w => min a (s.wgWorking e w)) 18
  if 16 ≤ least then 0 else if 8 ≤ least then 1 else if 4 ≤ least then 2 else 3
/-- A record of EDGE_STAT at both ends (R513, R517). -/
def State.edgeMark (s : State) (e : Nat) (f : Fld) : State := (edgeEnds e).foldl (fun s b => s.mark b f (592 + e)) s
/-- Counts on an edge counter at both ends. -/
def State.edgeCount (s : State) (e : Nat) (f : Fld) (n : Nat) : State :=
  (edgeEnds e).foldl (fun s b => s.count b f n b F.EDGE_STAT_cnt_overflow (592 + e)) s
/-- Sets a field at both ends. -/
def State.edgeSet (s : State) (e : Nat) (f : Fld) (v : Nat) : State := (edgeEnds e).foldl (fun s b => s.setF b f v) s
/-- The lanes carried, which follow state and step (EDGE_INFO.lanes). -/
def State.edgeLanes (s : State) (e : Nat) : Nat :=
  if s.edgeState e = egActive ∨ s.edgeState e = egFast then edgeWgs e * stepLanes (s.edgeStep e) else 0
/-- Goes to a state and step: the source is live while the edge is not ACTIVE at full width (R517). -/
def State.toEdge (s : State) (e st step : Nat) : State :=
  let s1 := (s.edgeSet e F.EDGE_STAT_state st).edgeSet e F.EDGE_INFO_step step
  let s2 := s1.edgeSet e F.EDGE_INFO_lanes (s1.edgeLanes e)
  if st = egActive ∧ step = 0 then s2 else s2.signal (592 + e)
/-- EDGE_INFO as a word. -/
def State.edgeInfo (s : State) (e : Nat) : Nat :=
  e * 536870912 + edgeWgs e * 16777216 + s.edgeStep e * 65536 + s.edgeLanes e
/-- The block of an edge's first end, as a target word. -/
def edgeWord (e : Nat) : Nat :=
  if e < 2 then targetWord (1 + 2 * e) 0x058 0 else if e < 4 then targetWord (1 + (e - 2)) 0x059 0 else targetWord (1 + (e - 4)) 0x05A 0
/-- The channel word of a wavelength-lane (R627). -/
def waveWord (e w k : Nat) : Nat := 0x20000000 + e * 16777216 + w * 1048576 + k * 32768
/-- The rings that cross an edge enter their split, behind fences (R329). -/
def State.edgeFolds (s : State) (e : Nat) : State := (edgeRings e).foldl (fun s r => s.changeRoutes (.fold r)) s
/-- The edge is training. -/
def State.edgeTraining (s : State) (e : Nat) : Bool := s.edgeState e == egFull || s.edgeState e == egFast
/-- Ring cycles with credits withheld since the state of the edge began (EDGE_SH_WAIT, R513). -/
def State.edgeWaited (s : State) (e : Nat) : State :=
  let n := (s.now - (s.edgeX e).since) * 16 / 10
  if n = 0 then s else s.edgeCount e F.EDGE_SH_WAIT_LO_lo n
/-- A training begins (R494–R496): it takes its map from the record, so no spare is awaited; a sequence that runs once more keeps the time
from which credits are withheld. The rings that a retired edge split stay so until its training has brought it back (R326). -/
def State.edgeTrain (s0 : State) (e st step : Nat) : State :=
  let s1 : State := if s0.edgeState e = egRetired ∧ e < 4 then { s0 with ring := { s0.ring with split := e :: s0.ring.split.filter (· != e) } } else s0
  let s := if s0.edgeState e = egDown then s1.edgeWaited e else s1
  let x := s.edgeX e
  (s.setEdgeX e { x with since := s.now, spare := [], shut := if s.edgeTraining e then x.shut else s.now }).toEdge e st step

/-- The pending EDGE_RETRAIN of an edge. -/
def State.retrainOp (s : State) (e : Nat) : Option Op := s.hq.ops.find? (fun o => o.opcode == 0x0A04 && edgeOf o.die o.blk == some e)

/-- What the rings had on a retired edge is returned or dropped by the vertices that sent it (R322). -/
def State.edgeSalvage (s : State) (e : Nat) : State :=
  ((List.range 4).flatMap (fun q => if e < 4 then edgeOuts e q else [])).foldl (fun s k => s.salvage (k / 4) (nextVk (k / 4) (k % 4)) (k % 4)) s
/-- The targets that a centroid edge served move to the other pair of endpoints, or back, behind fences (R329, R498). -/
def State.edgeRemap (s : State) (e : Nat) : State :=
  if (e = 6 ∨ e = 7) ∧ (s.edgeState e == egRetired) ≠ s.ring.remap.contains e then s.changeRoutes (.remap e) else s
/-- An edge retires (R488, R498): the rings that cross it split, or the targets behind it move. -/
def State.edgeRetire (s : State) (e : Nat) : State :=
  ((((s.toEdge e egRetired 3).edgeSalvage e).edgeMark e F.EDGE_STAT_step_drop).journal 0x1A true (edgeWord e) (0x30000000 + e * 16777216) 0 0 |>.edgeFolds e).edgeRingsChanged e |>.edgeRemap e

/-- The rings that waited for an edge's training or for its spine are joined again (R326, R496), behind fences (R329). -/
def State.edgeJoin (s : State) (e : Nat) : State := if s.ring.split.contains e then s.changeRoutes (.edge e) else s

/-- A wavelength-lane is retired in both directions (R487, R491): the record, the journal, and a spare to be trained. -/
def State.laneGone (s : State) (e w k : Nat) (journal : Bool) : State :=
  if (s.wgRetired e w).testBit k then s
  else
    let m := s.wgRetired e w + 2 ^ k
    let s1 := (edgeEnds e).foldl (fun s b => (s.setF (b + 4 * w) F.EDGE_WG_retired m).setF (b + 4 * w) F.EDGE_WG_working (18 - ones18 m)) s
    let s2 := (s1.edgeMark e F.EDGE_STAT_lane_retired).uncharge (waveWord e w k)
    if journal then s2.journal 0x19 true (edgeWord e) (waveWord e w k) (s2.edgeInfo e) 0 else s2

/-- A retired lane still carries traffic: its spare is not switched in yet (R492). -/
def State.laneLeaving (s : State) (e w k : Nat) : Bool := (s.edgeX e).spare.contains (18 * w + k)
/-- A lane is out of the map by which its waveguide carries traffic. -/
def State.laneOut (s : State) (e w k : Nat) : Bool := (s.wgRetired e w).testBit k && !s.laneLeaving e w k
/-- Lane (w, k) carries traffic: it is among the lowest-numbered working wavelengths of its waveguide (R486), or its spare is not switched in yet
(R492). -/
def State.laneCarries (s : State) (e w k : Nat) : Bool :=
  !s.laneOut e w k && decide (((List.range k).filter (fun i => !s.laneOut e w i)).length < stepLanes (s.edgeStep e))

/-- The waveguide's missing lane is replaced, or an ACTIVE edge drops to the step it can serve by a fast retrain (R488, R492). An edge that
trains takes the record at its end, and one that is DOWN when it next trains. -/
def State.spareOrDrop (s : State) (e : Nat) : State :=
  let best := s.bestStep e
  if s.edgeState e ≠ egActive ∨ best ≤ s.edgeStep e then s
  else if best = 3 then s.edgeRetire e
  else
    let s1 := ((s.edgeTrain e egFast best).edgeMark e F.EDGE_STAT_step_drop)
    s1.journal 0x19 false (edgeWord e) (0x30000000 + e * 16777216) (s1.edgeInfo e) 0

/-! ## Errors (R490, R491, R499) -/

/-- The flit or word that failed is replayed: it has been replayed less than 3 times (R490). -/
def State.replays (s : State) (unit : Nat) : Bool := decide ((SMap.get (0, 0) s.opt.fails unit).2 < 3)
/-- A check failed on a lane: unit (edge, bundle or channel), lane, and the channel word charged. The answer says whether the fault is
permanent (R491): two consecutive replays of one flit failed on that lane, the threshold is passed, or 4 intervals of 1 ms in a row had
errors. With its third replay failed the flit's count ends (R490; assumption log 100). -/
def State.checkFail (s : State) (unit lane chan : Nat) : Bool × State :=
  let f := SMap.get (0, 0) s.opt.fails unit
  let r := SMap.get (0, 0) s.opt.runs chan
  let iv := s.now / 1000000 + 1
  let run := if r.1 = iv then r.2 else if r.1 + 1 = iv then r.2 + 1 else 1
  let c := s.charge chan
  let s1 : State := { c.2 with opt := { c.2.opt with fails := SMap.put (0, 0) c.2.opt.fails unit (if f.2 < 3 then (lane + 1, f.2 + 1) else (0, 0))
                                                     runs := SMap.put (0, 0) c.2.opt.runs chan (iv, run) } }
  (c.1 || (decide (2 ≤ f.2) && f.1 == lane + 1) || decide (4 ≤ run), s1)
/-- A flit or word passed: its failures are forgotten. -/
def State.checkPass (s : State) (unit : Nat) : State := { s with opt := { s.opt with fails := SMap.put (0, 0) s.opt.fails unit (0, 0) } }

/-- A LAMP_SWAP is running. -/
def State.swapping (s : State) : Bool := s.hq.ops.any (fun o => o.opcode == 0x0A05)

/-- EDGE_FLIT_RECEIVE (R486, R489–R492): an edge end checks a flit; `bad` names the lane (waveguide, wavelength) whose check failed. Only lanes
that carry traffic are lit, and while a swap moves lanes between wavelengths any working one may carry (R504). A failure asks for a
replay, until which the rings that cross the edge receive nothing (R490); a permanent fault retires the lane, which carries on, with its failures
replayed, until the spare that is trained for it is switched in (R492). -/
def execEdgeFlitReceive (e : Fin 8) (bad : Option (Fin 16 × Fin 18)) (s : State) : Result :=
  .next
    (if s.edgeState e.val ≠ egActive then s
     else match bad with
       | none => s.checkPass e.val
       | some l =>
         if edgeWgs e.val ≤ l.1.val ∨ !(s.laneCarries e.val l.1.val l.2.val || s.swapping) ∨ s.laneOut e.val l.1.val l.2.val = true then s
         else
           let s0 := s.edgeCount e.val F.EDGE_SH_LANEERR_LO_lo 1
           let s1 := if s.replays e.val then s0.edgeCount e.val F.EDGE_SH_REPLAY_LO_lo 1 else s0
           if s.laneLeaving e.val l.1.val l.2.val then s1
           else
             let r := s1.checkFail e.val (18 * l.1.val + l.2.val) (waveWord e.val l.1.val l.2.val)
             if r.1 then
               let s2 := (r.2.checkPass e.val).laneGone e.val l.1.val l.2.val true
               s2.setEdgeX e.val { s2.edgeX e.val with spare := (s2.edgeX e.val).spare ++ [18 * l.1.val + l.2.val] }
             else r.2)

/-- EDGE_SPARE_SWITCH (R488, R492): at a flit boundary the trained spare of the lane that has waited longest takes over, or the edge drops a
step. -/
def execEdgeSpareSwitch (e : Fin 8) (s : State) : Result :=
  .next
    (match (s.edgeX e.val).spare with
     | [] => s
     | _ :: t => (s.setEdgeX e.val { s.edgeX e.val with spare := t }).spareOrDrop e.val)

/-! ## Training (R494–R498) -/

/-- The lanes that a training found failing are retired (R494, R495). -/
def State.trainFails (s : State) (e : Nat) (l : List (Fin 16 × Fin 18)) : State :=
  l.foldl (fun s p => if p.1.val < edgeWgs e then s.laneGone e p.1.val p.2.val true else s) s

/-- The flits that the rings have on the edge and that were not acknowledged are sent again, from the oldest (R495). -/
def State.edgeResend (s : State) (e : Nat) : State :=
  ((List.range 4).flatMap (fun q => if e < 4 then edgeOuts e q else [])).foldl (fun s k =>
    let nv := nextVk (k / 4) (k % 4)
    let l := s.link nv (k % 4)
    if l.sent.isEmpty then s else s.setLink nv (k % 4) { l with wire := l.sent, naked := false }) (s.checkPass e)
/-- Carries traffic again: what was not acknowledged is resent, credits are released, rings joined (R326, R495, R496, R498). -/
def State.edgeActive (s : State) (e step : Nat) : State :=
  ((((s.setEdgeX e { s.edgeX e with rise := false, spare := [], since := s.now }).edgeResend e).toEdge e egActive step).edgeJoin e).edgeRemap e

/-- EDGE_FULL_TRAIN_DONE (R488, R493, R494): a full training ends with the lanes that failed it. -/
def execEdgeFullTrainDone (e : Fin 8) (fails : List (Fin 16 × Fin 18)) (s : State) : Result :=
  .next
    (if s.edgeState e.val ≠ egFull then s
     else
       let old := s.edgeStep e.val
       let s1 := ((s.edgeWaited e.val).edgeCount e.val F.EDGE_SH_RETRAIN_LO_lo 1).trainFails e.val fails
       let best := s1.bestStep e.val
       let step := if (s.edgeX e.val).rise || old == 3 then best else max old best
       if best = 3 then s1.edgeRetire e.val
       else
         let s2 := if old < step then s1.edgeMark e.val F.EDGE_STAT_step_drop else s1
         let s3 := s2.edgeActive e.val step
         (if old = step ∨ old = 3 then s3 else s3.journal 0x19 false (edgeWord e.val) (0x30000000 + e.val * 16777216) (s3.edgeInfo e.val) 0).ledgerRecompute)

/-- EDGE_FAST_RETRAIN_DONE (R495, R498): a fast retrain, which tests only the lanes in use at its step, ends; a failure that forces a new step runs the sequence once more. -/
def execEdgeFastRetrainDone (e : Fin 8) (fails : List (Fin 16 × Fin 18)) (s : State) : Result :=
  .next
    (if s.edgeState e.val ≠ egFast then s
     else
       let tested := fails.filter (fun p => s.laneCarries e.val p.1.val p.2.val)
       let s1 := ((s.edgeWaited e.val).edgeCount e.val F.EDGE_SH_RETRAIN_LO_lo 1).trainFails e.val tested
       let best := s1.bestStep e.val
       if best = 3 then s1.edgeRetire e.val
       else if s.edgeStep e.val < best then
         let s2 := (s1.edgeTrain e.val egFast best).edgeMark e.val F.EDGE_STAT_step_drop
         s2.journal 0x19 false (edgeWord e.val) (0x30000000 + e.val * 16777216) (s2.edgeInfo e.val) 0
       else (s1.edgeActive e.val (s.edgeStep e.val)).ledgerRecompute)

/-- EDGE_WAIT_SPLIT (R324, R496): ring directions that have waited more than 20 µs at an edge that trains split. -/
def execEdgeWaitSplit (e : Fin 4) (s : State) : Result :=
  .next
    (if s.edgeTraining e.val && !s.ring.split.contains e.val && decide ((s.edgeX e.val).shut + 20000 < s.now) then
       ((({ s with ring := { s.ring with split := e.val :: s.ring.split } }).edgeMark e.val F.EDGE_STAT_split).edgeFolds e.val).edgeRingsChanged e.val
     else s)

/-- The spine domains at the ends of an edge; the centroid has none. -/
def edgeSpines (e : Nat) : List Nat :=
  if e = 0 then [0, 1] else if e = 1 then [2, 3] else if e = 2 then [0, 2] else if e = 3 then [1, 3] else [e - 4]
/-- A CHANNEL_RETIRE or CHANNEL_RESTORE on edge e runs (R630). -/
def State.edgeChanging (s : State) (e : Nat) : Bool :=
  s.hq.ops.any (fun o => (o.opcode == 0x0A02 || o.opcode == 0x0A03) && (o.f 2 31 28 == 2 || o.f 2 31 28 == 3) && o.f 2 26 24 == e)

/-- EDGE_RETRAIN (R498). -/
def execEdgeRetrain (c : Cmd) (s : State) : Result :=
  .next
    (let e := (edgeOf c.die c.blk).getD 0
     s.long 0x0A04 c
       { len := c.len == 3, tgt := (edgeOf c.die c.blk).isSome && c.inst == 0, par := c.f 2 31 1 == 0,
         dom := (edgeSpines e).all (fun q => s.dom (spineDom q) != 0), ret := s.edgeState e != egRetired,
         free := !s.heldByOther c && !s.edgeTraining e && !s.swapping && (s.retrainOp e).isNone && !s.edgeChanging e } none
       (fun s => if s.edgeState e = egActive then s.edgeTrain e (if c.f 2 0 0 = 1 then egFull else egFast) (s.edgeStep e) else s))

/-- EDGE_RETRAIN_COMPLETION (R498): the training it started has ended. -/
def execEdgeRetrainCompletion (e : Fin 8) (s : State) : Result :=
  .next
    (match s.retrainOp e.val with
     | none => s
     | some o =>
       let res := [wd (s.edgeStep e.val * 65536 + s.edgeLanes e.val), wd (s.opMicros o)]
       if s.edgeState e.val = egRetired then s.complete o .retired res
       else if s.edgeTraining e.val then s
       else if s.edgeState e.val = egDown then s.complete o .domainOff []
       else s.complete o .ok res)

/-- An edge goes DOWN (R498, R611): its credits are withheld, which its count of such cycles takes in when it next trains (R513), and the rings
crossing it split. -/
def State.edgeDown (s : State) (e : Nat) : State :=
  if s.edgeState e = egDown ∨ s.edgeState e = egRetired then s
  else
    let s0 := if s.edgeTraining e then s.edgeWaited e else s
    let s1 := (s0.setEdgeX e { s0.edgeX e with since := s.now }).toEdge e egDown (s.edgeStep e)
    if e < 4 ∧ !s1.ring.split.contains e then
      (({ s1 with ring := { s1.ring with split := e :: s1.ring.split } }).edgeFolds e).edgeRingsChanged e
    else s1
/-- An edge is released from reset or its spines come ON: full training (R498). -/
def State.edgeUp (s : State) (e : Nat) : State :=
  if s.edgeState e = egDown then s.edgeTrain e egFull (s.edgeStep e) else s
/-- The records of retired lanes and of the step at the two ends of an edge agree: a die keeps its own through its reset (R497). -/
def State.recordsAgree (s : State) (e : Nat) : Bool :=
  (edgeEnds e).all (fun b => s.getF b F.EDGE_INFO_step == s.edgeStep e &&
    (List.range (edgeWgs e)).all (fun w => s.getF (b + 4 * w) F.EDGE_WG_retired == s.wgRetired e w))
/-- An edge comes back after a partial reset of a die at its end (R497): by a fast retrain where the die's record equals the centroid's and its
pass map shows no new failure, which is open, and else by a full training, whose failures are those either side reports. -/
def State.edgeReturn (s : State) (e : Nat) : State :=
  if s.edgeState e = egDown then
    ({ s with fresh := s.fresh + 1 } : State).edgeTrain e (if s.recordsAgree e && Config.edgeSame s.fresh then egFast else egFull) (s.edgeStep e)
  else s

/-! ## Short edges (R25, R408, R499, R500, R541) -/

/-- SHE_B of bundle b of lane die l. -/
def sheB (l b : Nat) : Nat := sheBase l + 4 * b
/-- SHE_B as a word. -/
def State.sheWord (s : State) (l b : Nat) : Nat :=
  s.getF (sheB l b) F.SHE_B_state * 1073741824 + s.getF (sheB l b) F.SHE_B_spared * 536870912 + s.getF (sheB l b) F.SHE_B_exhausted * 268435456 +
  s.getF (sheB l b) F.SHE_B_working * 256 + s.getF (sheB l b) F.SHE_B_spares_left
/-- The channel word of a short-edge lane (R627). -/
def shortWord (l b lane : Nat) : Nat := 0x40000000 + l * 16777216 + b / 2 * 1048576 + b % 2 * 524288 + lane * 8192

/-- The retired lanes of bundle b of lane die l. -/
def State.shortGone (s : State) (l b : Nat) : Nat := SMap.get 0 s.opt.short (18 * l + b)
/-- A lane of the short edge with key u carries nothing more. -/
def State.shortLost (s : State) (u lane : Nat) : State :=
  { s with opt := { s.opt with short := SMap.put 0 s.opt.short u (SMap.get 0 s.opt.short u ||| 2 ^ lane) } }

/-- A lane of a bundle fails for good (R25, R408, R499): a spare replaces it, or the group's lanes are retired. -/
def State.bundleFail (s : State) (l b lane : Nat) : State :=
  let r := sheB l b
  let src := 600 + 2 * l + b % 2
  let n := s.getF r F.SHE_B_spares_left
  let s0 := s.shortLost (18 * l + b) lane
  let s1 := s0.setF r F.SHE_B_working (s.getF r F.SHE_B_working - 1)
  if n ≠ 0 then
    let s2 := (s1.setF r F.SHE_B_spares_left (n - 1)).mark r F.SHE_B_spared src
    s2.journal 0x1B true (targetWord (5 + l) 0x018 0) (shortWord l b lane) (s2.sheWord l b) 0
  else
    let s2 := (s1.setF r F.SHE_B_state 3).mark r F.SHE_B_exhausted src
    let s3 := (s2.journal 0x1B true (targetWord (5 + l) 0x018 0) (shortWord l b lane) (s2.sheWord l b) 0).setBitOf (lsysBase l)
      F.LSYS_RETIRED_groups (b / 2) true
    (List.range 8).foldl (fun s k => s.retireLane (8 * (9 * l + b / 2) + k) 3) s3

/-- FMC_CH of channel ch of stack k. -/
def fmcCh (k ch : Nat) : Nat := fmcBase k + 4 * ch
/-- FMC_CH as a word. -/
def State.fmcWord (s : State) (k ch : Nat) : Nat :=
  s.getF (fmcCh k ch) F.FMC_CH_state * 1073741824 + s.getF (fmcCh k ch) F.FMC_CH_spared * 536870912 +
  s.getF (fmcCh k ch) F.FMC_CH_exhausted * 268435456 + s.getF (fmcCh k ch) F.FMC_CH_cause * 16777216 + s.getF (fmcCh k ch) F.FMC_CH_spares_left
/-- The channel word of a DRAM channel (R627). -/
def dramWord (k ch : Nat) : Nat := 0x50000000 + k * 16 + ch
/-- Lane n of a channel whose channel word names no lane, as errors are charged to it (R491, R499). -/
def laneIn (channel n : Nat) : Nat := channel + 4294967296 * (n + 1)
/-- A DRAM channel is retired (R541). -/
def State.dramRetire (s : State) (k ch cause : Nat) : State :=
  let b := fmcCh k ch
  let ok := s.getF (fmcBase k) F.FMC_INFO_ch_ok
  let s1 := (s.setF b F.FMC_CH_state 3).setF b F.FMC_CH_cause cause
  (((s1.setF (fmcBase k) F.FMC_INFO_ch_ok (if ok.testBit ch then ok - 2 ^ ch else ok)).mark (fmcBase k) F.FMC_STAT_ch_retired
    (624 + 4 * k)).uncharge (dramWord k ch)).journal 0x23 true (targetWord (k + 1) 0x040 0) (dramWord k ch) cause 0
/-- A lane of a DRAM channel's short edge fails for good (R25, R491, R541): a spare replaces it, or the channel is retired for its link errors,
as the example of R637 shows. -/
def State.dramFail (s0 : State) (k ch lane : Nat) : State :=
  let s := s0.shortLost (40 + 16 * k + ch) lane
  let b := fmcCh k ch
  let n := s.getF b F.FMC_CH_spares_left
  if n ≠ 0 then (s.setF b F.FMC_CH_spares_left (n - 1)).mark b F.FMC_CH_spared (604 + k)
  else (s.mark b F.FMC_CH_exhausted (604 + k)).dramRetire k ch 2

/-! ## Lamps (R501–R505) -/

/-- Lamp states (R515). -/
def lpCold : Nat := 0
def lpWarming : Nat := 1
def lpStandby : Nat := 2
def lpActive : Nat := 3
def lpFailed : Nat := 4
/-- LAMP_STAT.state. -/
def State.lampState (s : State) (j : Nat) : Nat := s.getF (lampBase j) F.LAMP_STAT_state
/-- The domain reading of a lamp (R505). -/
def State.lampDom (s : State) (j : Nat) : Nat :=
  let v := s.lampState j
  if v = lpStandby ∨ v = lpActive then 1 else if v = lpWarming then 5 else 0
/-- A record of LAMP_STAT (R517). -/
def State.lampMark (s : State) (j : Nat) (f : Fld) : State := s.mark (lampBase j) f (608 + j)
/-- Goes to a state; the source is live while FAILED. A lamp that warms has 200 ms (R501). -/
def State.toLamp (s0 : State) (j v : Nat) : State :=
  let s : State := { s0 with opt := { s0.opt with warm := SMap.put 0 s0.opt.warm j (if v = lpWarming then s0.now else 0) } }
  let s1 := s.setF (lampBase j) F.LAMP_STAT_state v
  if v = lpFailed then s1.signal (608 + j) else s1
/-- LAMP_STAT as a word. -/
def State.lampWord (s : State) (j : Nat) : Nat :=
  let b := lampBase j
  s.getF b F.LAMP_STAT_cnt_overflow * 8192 + s.getF b F.LAMP_STAT_swapped * 4096 + s.getF b F.LAMP_STAT_line_low * 2048 +
  s.getF b F.LAMP_STAT_line_lost * 1024 + s.getF b F.LAMP_STAT_link_fail * 512 + s.getF b F.LAMP_STAT_overtemp * 256 + s.lampState j * 16
/-- A journal entry about a lamp. -/
def State.lampJournal (s : State) (j : Nat) (permanent : Bool) : State := s.journal 0x1D permanent (targetWord 0 (0x060 + j) 0) j (s.lampWord j) 0
/-- Counts on a lamp counter. -/
def State.lampCount (s : State) (j : Nat) (f : Fld) (n : Nat) : State :=
  s.count (lampBase j) f n (lampBase j) F.LAMP_STAT_cnt_overflow (608 + j)
/-- Line switch k selects lamp j. -/
def State.lineServes (s : State) (j k : Nat) : Bool := (s.getF (lampBase j) F.LAMP_INFO_lines).testBit k
/-- A line of a lamp is healthy: the lamp is lit, and the line neither low nor lost. -/
def State.lineHealthy (s : State) (j k : Nat) : Bool :=
  (s.lampState j == lpStandby || s.lampState j == lpActive) && !s.flag (lampBase j + 4 * k) F.LAMP_LINE_lost &&
  !s.flag (lampBase j + 4 * k) F.LAMP_LINE_low
/-- Line switch k moves to lamp j. -/
def State.moveLine (s : State) (j k : Nat) : State :=
  let a := s.getF (lampBase j) F.LAMP_INFO_lines
  let o := s.getF (lampBase (1 - j)) F.LAMP_INFO_lines
  (s.setF (lampBase j) F.LAMP_INFO_lines (if a.testBit k then a else a + 2 ^ k)).setF (lampBase (1 - j)) F.LAMP_INFO_lines
    (if o.testBit k then o - 2 ^ k else o)
/-- Every line switch selects lamp j. -/
def State.allLines (s : State) (j : Nat) : State :=
  (s.setF (lampBase j) F.LAMP_INFO_lines 0x3FFFF).setF (lampBase (1 - j)) F.LAMP_INFO_lines 0
/-- A swap or failover involved both lamps. -/
def State.lampsSwapped (s : State) : State :=
  (((s.lampCount 0 F.LAMP_SH_SWAPS_LO_lo 1).lampCount 1 F.LAMP_SH_SWAPS_LO_lo 1).lampMark 0 F.LAMP_STAT_swapped).lampMark 1 F.LAMP_STAT_swapped
/-- The lanes on wavelength k are retired in every waveguide of every edge (R502). -/
def State.lineDark (s : State) (k : Nat) : State :=
  (List.range 8).foldl (fun s e =>
    ((List.range (edgeWgs e)).foldl (fun s w => s.laneGone e w k true) s).spareOrDrop e) s
/-- LAMP_FAILOVER (R503): lamp j fails while it serves. A STANDBY lamp takes all 18 lines and every edge takes a fast retrain; without
one, the lines that are lost go dark one by one. -/
def State.lampFailover (s : State) (j : Nat) : State :=
  let o := 1 - j
  if s.lampState j ≠ lpActive then
    (if s.lampState j = lpStandby then
       let s1 := (s.toLamp j lpFailed).lampJournal j true
       if s1.lampState o = lpActive then s1.allLines o else s1
     else s)
  else if s.lampState o = lpStandby then
    let s1 := ((((s.allLines o).toLamp o lpActive).toLamp j lpFailed).lampsSwapped).lampJournal j true
    (List.range 8).foldl (fun s e => if s.edgeState e = egActive then s.edgeTrain e egFast (s.edgeStep e) else s) s1
  else
    (List.range 18).foldl (fun s k => if s.flag (lampBase j + 4 * k) F.LAMP_LINE_lost then s.lineDark k else s) s

/-- Since when plus one a line's power is below a share of its nominal, 0 where it is not. -/
def dimSince (now since : Nat) (below : Bool) : Nat := if !below then 0 else if since = 0 then now + 1 else since
/-- The offset of a line as its lamp's controller lets it stand: a STANDBY line within 2 GHz of the ACTIVE lamp's (R501), in two's complement. -/
def State.lineOffset (s : State) (j k : Nat) (offset : BitVec 16) : Nat :=
  if s.lampState j = lpStandby ∧ s.lampState (1 - j) = lpActive then
    let a := (BitVec.ofNat 16 (s.getF (lampBase (1 - j) + 4 * k) F.LAMP_LINE_offset)).toInt
    (BitVec.ofInt 16 (max (a - 2000) (min (a + 2000) offset.toInt))).toNat
  else offset.toNat
/-- Lines of a lamp lost within the last 1 µs, by line (R503). -/
def linesLost (l : List (Nat × Nat)) : Nat := ((List.range 18).filter (fun k => l.any (fun x => x.2 == k))).length
/-- LAMP_LINE_MEASURE (R501–R503): line k of lamp j measures `power` (10 µW) at `offset` (MHz) from its grid frequency. With its power below 80 % of
its nominal it is low once that has lasted 1 ms, and below 50 % lost once that has lasted 200 ns: `low` and `lost` tell that it has, and the measurements
before this one may show it. -/
def execLampLineMeasure (j : Fin 2) (k : Fin 18) (power : BitVec 14) (offset : BitVec 16) (low lost : Bool) (s : State) : Result :=
  .next
    (let b := lampBase j.val + 4 * k.val
     let wasLow := s.flag b F.LAMP_LINE_low
     let wasLost := s.flag b F.LAMP_LINE_lost
     let key := 18 * j.val + k.val
     let dim := SMap.get (0, 0) s.opt.dim key
     let nominal := Config.lineNominal j.val k.val
     let d := (dimSince s.now dim.1 (decide (power.toNat * 5 < nominal * 4)), dimSince s.now dim.2 (decide (power.toNat * 2 < nominal)))
     let low := d.1 != 0 && (low || decide (d.1 + 1000000 ≤ s.now + 1))
     let lost := d.2 != 0 && (lost || decide (d.2 + 200 ≤ s.now + 1))
     let s0 : State := { s with opt := { s.opt with dim := SMap.put (0, 0) s.opt.dim key d } }
     let s1 := (((s0.setF b F.LAMP_LINE_power power.toNat).setF b F.LAMP_LINE_offset (s.lineOffset j.val k.val offset)).setB b F.LAMP_LINE_low low).setB b
       F.LAMP_LINE_lost lost
     let lit := s.lampState j.val == lpStandby || s.lampState j.val == lpActive
     let s2 := if low && !wasLow && lit then s1.lampMark j.val F.LAMP_STAT_line_low else s1
     if !lost || wasLost || !lit then s2
     else
       let s3 := ((s2.lampCount j.val F.LAMP_SH_LOST_LO_lo 1).lampMark j.val F.LAMP_STAT_line_lost).lampJournal j.val false
       let recent := (s.now, k.val) :: (SMap.get [] s.opt.lost j.val).filter (fun t => decide (s.now < t.1 + 1000))
       let s4 : State := { s3 with opt := { s3.opt with lost := SMap.put [] s3.opt.lost j.val recent } }
       if 4 ≤ linesLost recent ∧ s.lampState j.val = lpActive ∧ s.lampState (1 - j.val) = lpStandby then s4.lampFailover j.val
       else if !s.lineServes j.val k.val then s4
       else if s.lineHealthy (1 - j.val) k.val then s4.moveLine (1 - j.val) k.val
       else s4.lineDark k.val)

/-- The pending SET_POWER of a domain (R111). -/
def State.powerOp (s : State) (kind idx : Nat) : Option Op :=
  s.hq.ops.find? (fun o => o.opcode == 0x0103 && o.f 2 31 24 == kind && o.f 2 15 0 == idx)
/-- Completes it, where it asks for ON. -/
def State.endPower (s : State) (kind idx : Nat) (st : Status) (drainTimeout : Bool) : State :=
  match (s.powerOp kind idx).filter (fun o => o.f 3 1 0 == 1) with
  | some o => s.complete o st (if st = .ok then [wd (bit drainTimeout)] else [])
  | none => s

/-- LAMP_WARM_DONE (R501, R505, R515, R616, R619): a warming lamp reaches STANDBY. Where no lamp is ACTIVE it becomes ACTIVE; while the device
comes up lamp B waits for lamp A. -/
def execLampWarmDone (j : Fin 2) (s : State) : Result :=
  .next
    (if s.lampState j.val ≠ lpWarming then s
     else
       let o := 1 - j.val
       let none_ := s.lampState o != lpActive
       let waits := j.val == 1 && s.pwr.boot != .ready && s.lampState 0 == lpWarming
       let s1 := if none_ && !waits then (s.toLamp j.val lpActive).allLines j.val else s.toLamp j.val lpStandby
       s1.endPower 5 j.val .ok false)

/-- LAMP_WARM_TIMEOUT (R501, R505, R619): a lamp has not reached STANDBY within 200 ms. -/
def execLampWarmTimeout (j : Fin 2) (s : State) : Result :=
  .next
    (if s.lampState j.val ≠ lpWarming ∨ s.now < SMap.get 0 s.opt.warm j.val + 200000000 then s
     else
       let o := 1 - j.val
       let s1 := ((s.toLamp j.val lpFailed).lampJournal j.val true).endPower 5 j.val .hwFault false
       if s1.lampState o = lpStandby ∧ s1.lampState j.val ≠ lpActive then (s1.toLamp o lpActive).allLines o else s1)

/-- The lamp of a LAMP target. -/
def Cmd.lampOf (c : Cmd) : Option Nat :=
  if c.die = 0 ∧ (c.blk = 0x060 ∨ c.blk = 0x061) ∧ c.inst = 0 then some (c.blk - 0x060) else none
/-- LAMP_SWAP (R504). -/
def execLampSwap (c : Cmd) (s : State) : Result :=
  .next
    (let j := c.lampOf.getD 0
     s.long 0x0A05 c
       { len := c.len == 2, tgt := c.lampOf.isSome, par := s.lampState j == lpStandby,
         free := !s.heldByOther c && !s.swapping && !(List.range 8).any (fun e => s.edgeTraining e || s.edgeChanging e) } none id)

/-- Line k of the lamps may need a hold when its switch moves (R504): in some waveguide of an ACTIVE edge it carries traffic and no spare is
free. -/
def State.lineHolds (s : State) (k : Nat) : Bool :=
  (List.range 8).any (fun e => s.edgeState e == egActive &&
    (List.range (edgeWgs e)).any (fun w => s.laneCarries e w k && decide (s.wgWorking e w ≤ stepLanes (s.edgeStep e))))
/-- The next line of a swap moves to the named lamp (R504), λ0 to λ17, one each tick: its lanes go to a free spare, or are held where there is none, and
come back after their test. The operation's stage counts the lines, and its result gathers those that were held. -/
def State.swapLine (s : State) (op : Op) : State :=
  let j := op.blk - 0x060
  if op.stage < 18 ∧ s.lampState j = lpStandby ∧ op.due ≤ s.now then
    (s.moveLine j op.stage).putOp { op with
      stage := op.stage + 1, due := s.now + 10000
      acc := [wd ((op.acc.headD (wd 0)).toNat + (if s.lineHolds op.stage then 2 ^ op.stage else 0))] }
  else s
/-- A running swap goes on. -/
def State.swapOn (s : State) : State :=
  match s.hq.ops.find? (fun o => o.opcode == 0x0A05) with
  | some op => s.swapLine op
  | none => s
/-- LAMP_SWAP_COMPLETION (R504): every line has moved; for the lines that had not, bit k of `held` tells that line k needed a hold, which only a line that
carries traffic with no spare free does. A lamp that failed meanwhile ends the swap with HW_FAULT. -/
def execLampSwapCompletion (held : BitVec 18) (s : State) : Result :=
  .next
    (match s.hq.ops.find? (fun o => o.opcode == 0x0A05) with
     | none => s
     | some op =>
       let j := op.blk - 0x060
       let o := 1 - j
       if s.lampState j ≠ lpStandby then s.complete op .hwFault []
       else
         let bad := (List.range 18).any (fun k => !s.lineHealthy o k)
         let s1 := (((s.allLines j).toLamp j lpActive).toLamp o (if bad then lpFailed else lpStandby)).lampsSwapped
         s1.complete op .ok [wd ((op.acc.headD (wd 0)).toNat +
           (((List.range 18).filter (fun k => decide (op.stage ≤ k) && held.getLsbD k && s.lineHolds k)).map (2 ^ ·)).sum), wd (s1.opMicros op)])

/-! ## SHORT_EDGE_WORD_RECEIVE -/

/-- A lane of a lamp's short edge fails for good (R25, R503): its one spare takes over, or the edge is lost and the lamp with it. -/
def State.lampLaneFail (s : State) (j lane : Nat) : State :=
  let gone := SMap.get 0 s.opt.short (36 + j)
  let s1 := s.shortLost (36 + j) lane
  if gone = 0 ∨ gone.testBit lane then s1 else (s1.lampMark j F.LAMP_STAT_link_fail).lampFailover j

/-- A word was replayed on a bundle of lane die l; a counter that saturates is recorded for both sides (R514, R517). -/
def State.sheReplay (s : State) (l : Nat) : State :=
  let s1 := s.count (sheBase l) F.SHE_SH_REPLAY_LO_lo 1 (sheBase l) F.SHE_STAT_cnt_overflow (600 + 2 * l)
  if s.ctr (sheBase l + F.SHE_SH_REPLAY_LO_lo.off) < ctrMax ∧ ctrMax ≤ s1.ctr (sheBase l + F.SHE_SH_REPLAY_LO_lo.off) then s1.signal (601 + 2 * l) else s1

/-- SHORT_EDGE_WORD_RECEIVE (R25, R408, R499, R503, R541): a word arrives on a short edge; `bad` names the lane whose check failed. A failure is
replayed, and a permanent fault takes a spare or ends the channel. -/
def execShortEdgeWordReceive (x : ShortEdge) (bad : Option (Fin 74)) (s : State) : Result :=
  .next
    (match x with
     | .bundle l b =>
       let unit := 100 + 18 * l.val + b.val
       if s.getF (sheB l.val b.val) F.SHE_B_state ≠ 2 then s
       else match bad with
         | none => s.checkPass unit
         | some k =>
           let s1 := if s.replays unit then s.sheReplay l.val else s
           let r := s1.checkFail unit k.val (shortWord l.val b.val k.val)
           if (s.shortGone l.val b.val).testBit k.val then s
           else if r.1 then ((r.2.checkPass unit).uncharge (shortWord l.val b.val k.val)).bundleFail l.val b.val k.val else r.2
     | .dram k ch =>
       let unit := 200 + 16 * k.val + ch.val
       if s.getF (fmcCh k.val ch.val) F.FMC_CH_state ≠ 2 then s
       else match bad with
         | none => s.checkPass unit
         | some n =>
           let s1 := if s.replays unit then s.fmcCount k.val F.FMC_SH_REPLAY_LO_lo 1 else s
           let r := s1.checkFail unit n.val (laneIn (dramWord k.val ch.val) n.val)
           if (SMap.get 0 s.opt.short (40 + 16 * k.val + ch.val)).testBit n.val then s
           else if r.1 then ((r.2.checkPass unit).uncharge (laneIn (dramWord k.val ch.val) n.val)).dramFail k.val ch.val n.val else r.2
     | .lamp j =>
       let unit := 300 + j.val
       match bad with
       | none => s.checkPass unit
       | some n =>
         let r := s.checkFail unit n.val (laneIn (0x70000000 + j.val) n.val)
         if (SMap.get 0 s.opt.short (36 + j.val)).testBit n.val then s
         else if r.1 then ((r.2.checkPass unit).uncharge (laneIn (0x70000000 + j.val) n.val)).lampLaneFail j.val n.val else r.2)

/-- A group's bundles enter state v: they train while it goes ON, and go dark when it leaves ON (R500). Only a bundle whose quadrant spine is ON
trains; a retired one stays so. -/
def State.groupBundles (s : State) (g v : Nat) : State :=
  [0, 1].foldl (fun s i =>
    let b := sheB (g / 9) (2 * (g % 9) + i)
    if s.getF b F.SHE_B_state = 3 then s
    else s.setF b F.SHE_B_state (if s.dom (spineDom (sideQuad (8 * g) (i == 1))) == 1 then v else 0)) s

/-- The bundles between the spine of Qq and the lane groups that are ON enter state v: dark while the spine is OFF, they train when it comes ON
(R616). A retired one stays so. -/
def State.spineBundles (s : State) (q v : Nat) : State :=
  (List.range 18).foldl (fun s g =>
    [0, 1].foldl (fun s i =>
      let b := sheB (g / 9) (2 * (g % 9) + i)
      if sideQuad (8 * g) (i == 1) ≠ q ∨ s.dom (groupDom g) ≠ 1 ∨ s.getF b F.SHE_B_state = 3 then s else s.setF b F.SHE_B_state v) s) s

/-! ## The partner link (R506–R512) -/

/-- The link has no rate, module or redundant lane, and its queues are empty. -/
def State.ucieIdle (s : State) : State :=
  let t := [F.UCIE_LINK_rate, F.UCIE_LINK_modules, F.UCIE_REPAIR_m0_rx, F.UCIE_REPAIR_m0_tx, F.UCIE_REPAIR_m1_rx, F.UCIE_REPAIR_m1_tx].foldl
    (fun s f => s.setF ucieBase f 0) s
  { t with opt := { t.opt with ucie := { freeAt := t.opt.ucie.freeAt, held := t.opt.ucie.held } } }
/-- A record of UCIE_STAT (R517). -/
def State.ucieMark (s : State) (f : Fld) : State := s.mark ucieBase f 610
/-- Goes to a link state; the source is live while the link is not active on a fitted site. In reset and OFF no rate, module or redundant
lane is in use, and nothing waits for the partner. -/
def State.toUcie (s0 : State) (v : Nat) : State :=
  let s := if v = 1 ∨ v = 6 then s0.ucieIdle else s0
  let s1 := s.setF ucieBase F.UCIE_LINK_state v
  if v ≠ 3 ∧ s.ident.site ≠ 0 then s1.signal 610 else s1
/-- UCIE_STAT and UCIE_LINK as words. -/
def State.ucieJournal (s : State) (permanent : Bool) : State :=
  let b := ucieBase
  s.journal 0x1E permanent (targetWord 0 0x068 0)
    (s.getF b F.UCIE_STAT_cnt_overflow * 512 + s.getF b F.UCIE_STAT_partner_event * 256 + s.getF b F.UCIE_STAT_id_mismatch * 128 +
      s.getF b F.UCIE_STAT_rate_down * 64 + s.getF b F.UCIE_STAT_module_lost * 32 + s.getF b F.UCIE_STAT_lane_repaired * 16)
    (s.getF b F.UCIE_LINK_state * 268435456 + s.getF b F.UCIE_LINK_rate * 65536 + s.getF b F.UCIE_LINK_modules) 0
/-- The pending RESET of the partner die (R112). -/
def State.partnerReset (s : State) : Option Op := s.hq.ops.find? (fun o => o.opcode == 0x0104 && o.die == 7)
/-- Ends what waits for the partner. -/
def State.endPartner (s : State) (st : Status) : State :=
  let s1 := match s.partnerReset with
    | some o => s.complete o (if st = Status.ok then Status.ok else Status.timeout) []
    | none => s
  s1.endPower 6 0 st false

/-- The link starts anew, with nothing sent or received. -/
def State.freeUcie (s : State) : State := { s with opt := { s.opt with ucie := {} } }
/-- UCIE_LINK_TRAINED (R506, R508): the link comes up at `rate` GT/s on the modules in `modules`; training put `tx0` and `tx1` redundant
lanes of the transmitters of modules 0 and 1 to use. After a link fault the rate is no higher than the next lower one, the modules are among
those left, and what waits for the partner is kept. -/
def execUcieLinkTrained (rate : Fin 33) (modules : Fin 4) (tx0 tx1 : Fin 5) (s : State) : Result :=
  .next
    (if s.ident.site = 0 ∨ s.getF ucieBase F.UCIE_LINK_state ≠ 2 ∨ [4, 8, 12, 16, 24, 32].contains rate.val = false ∨ modules.val = 0 ∨
        (s.getF ucieBase F.UCIE_LINK_rate ≠ 0 ∧ (s.getF ucieBase F.UCIE_LINK_rate < rate.val ∨
          (s.getF ucieBase F.UCIE_LINK_modules ≠ 3 ∧ modules.val ≠ s.getF ucieBase F.UCIE_LINK_modules))) then s
     else
       let oldR := s.getF ucieBase F.UCIE_LINK_rate
       let s1 := ((((s.setF ucieBase F.UCIE_LINK_rate rate.val).setF ucieBase F.UCIE_LINK_modules modules.val).setF ucieBase
         F.UCIE_REPAIR_m0_tx tx0.val).setF ucieBase F.UCIE_REPAIR_m1_tx tx1.val).toUcie 3
       let s2 := if oldR ≠ 0 ∧ rate.val < oldR then s1.ucieMark F.UCIE_STAT_rate_down else s1
       let s2' := if s.getF ucieBase F.UCIE_REPAIR_m0_tx < tx0.val ∨ s.getF ucieBase F.UCIE_REPAIR_m1_tx < tx1.val then
         s2.ucieMark F.UCIE_STAT_lane_repaired else s2
       let s3 := if s.getF ucieBase F.UCIE_LINK_modules = 3 ∧ modules.val ≠ 3 then s2'.ucieMark F.UCIE_STAT_module_lost else s2'
       if oldR = 0 then s3.freeUcie else s3.ucieDrain)

/-- The partner is held in reset, and a domain that was coming ON is OFF again (R507). -/
def State.partnerHold (s : State) : State :=
  let s0 : State := { s with pwr := { s.pwr with inReset := s.pwr.inReset ||| 0x80 } }
  let s1 := s0.discardPosted onPartner (s0.dom partnerDom == 5)
  if s1.dom partnerDom = 5 then s1.reachDom partnerDom 0 else s1
/-- UCIE_IDENTITY_RECORD (R507): the partner's identity record. A die code other than the site code, or more than 40 W, holds the partner
in reset; otherwise the partner domain is ON and unfenced. -/
def execUcieIdentityRecord (vendor : BitVec 16) (dieCode revision : BitVec 8) (power : BitVec 16) (s : State) : Result :=
  .next
    (if s.ident.site = 0 ∨ s.getF ucieBase F.UCIE_LINK_state ≠ 3 then s
     else
       let s1 := (((s.setF psysBase F.PSYS_ID_vendor vendor.toNat).setF psysBase F.PSYS_ID_die_code dieCode.toNat).setF psysBase
         F.PSYS_ID_revision revision.toNat).setF psysBase F.PSYS_PWR_max_power power.toNat
       if dieCode.toNat ≠ s.ident.site ∨ 400 < power.toNat then
         (((s1.partnerHold.toUcie 5).ucieMark F.UCIE_STAT_id_mismatch).ucieJournal true).endPartner .hwFault
       else ((s1.lower psysBase F.PSYS_STAT_fenced).reachDom partnerDom 1).endPartner .ok)

/-- The rate below. -/
def rateBelow (r : Nat) : Nat := if r = 32 then 24 else if r = 24 then 16 else if r = 16 then 12 else if r = 12 then 8 else if r = 8 then 4 else 0
/-- The rate field of a redundant-lane count. -/
def repairFld (m : Nat) : Fld := if m = 0 then F.UCIE_REPAIR_m0_rx else F.UCIE_REPAIR_m1_rx
/-- The partner answers nothing more: the requests that it owes an answer end with DOMAIN_OFF (R320, R512). -/
def State.partnerDrain (s : State) : State :=
  s.opt.ucie.wait.foldl (fun s x => s.respond (pEndpoint x.1) x.2 0xF 0x0201 [] [])
    { s with opt := { s.opt with ucie := { s.opt.ucie with wait := [] } } }
/-- The link can serve no more, and the partner domain is fenced as if it were OFF, which is journalled (R508): what it owes is answered with
DOMAIN_OFF. The spec does not say what becomes of a posted write that is pending for the partner: the model discards it with its write_dropped record
and makes no entry 0x06 (DESIGN CHOICE, assumption log 115). -/
def State.ucieFence (s : State) : State :=
  let s1 := ((s.partnerDrain.setF ucieBase F.UCIE_LINK_modules 0).toUcie 6).raise psysBase F.PSYS_STAT_fenced
  (s1.discardPosted onPartner false).ucieJournal true
/-- A lane fault in module m (R508): a redundant lane comes into use, else the module is dropped, and without another the partner is fenced. -/
def State.ucieLaneFault (s : State) (m : Nat) : State :=
  let used := s.getF ucieBase (repairFld m)
  if used < 4 then (s.setF ucieBase (repairFld m) (used + 1)).ucieMark F.UCIE_STAT_lane_repaired
  else if s.getF ucieBase F.UCIE_LINK_modules = 3 then (s.setF ucieBase F.UCIE_LINK_modules (2 - m)).ucieMark F.UCIE_STAT_module_lost
  else s.ucieFence
/-- A permanent fault of the link (R508): it trains at the next lower rate, and below 4 GT/s the partner is fenced. -/
def State.ucieLinkFault (s : State) : State :=
  let rate := rateBelow (s.getF ucieBase F.UCIE_LINK_rate)
  if rate ≠ 0 then ((s.setF ucieBase F.UCIE_LINK_rate rate).toUcie 2).ucieMark F.UCIE_STAT_rate_down else s.ucieFence

/-- A ring flit from a slot of a partner flit (R508). -/
def slotFlit (l : List Byte) : BitVec 536 := BitVec.ofNat 536 (ofBytes (l.take 67))
/-- Places of the queue of endpoint e and virtual channel v are free again, and credits for them are owed (R509). -/
def State.ucieOwe (s : State) (e v n : Nat) : State :=
  { s with opt := { s.opt with ucie := { s.opt.ucie with owe := SMap.put 0 s.opt.ucie.owe (8 * e + v) (SMap.get 0 s.opt.ucie.owe (8 * e + v) + n) } } }
/-- The partner has answered a request. -/
def State.partnerAnswered (s : State) (e : Nat) (p : Pkt) : State :=
  match s.opt.ucie.wait.find? (fun x => x.1 == e && x.2.tag == p.tag && x.2.src == p.dst) with
  | some x => { s with opt := { s.opt with ucie := { s.opt.ucie with wait := s.opt.ucie.wait.erase x } } }
  | none => s
/-- A packet from the partner that the windows check (R510): a request, or a stream write to memory. -/
def Pkt.windowed (p : Pkt) : Bool := decide (p.op ≤ 5) || p.op == 7
/-- A ring flit of endpoint e arrives from the partner: a whole packet is a request to be checked, or goes on into the ring. While the partner is
fenced, its requests are dropped. -/
def State.slotIn (s : State) (e : Nat) (f : BitVec 536) : State :=
  let u := s.opt.ucie
  let k := 8 * e + flitVc f
  let acc := SMap.get [] u.part k ++ [f]
  if flitTail f then
    let p := ofFlits acc
    let s1 : State := { s with opt := { s.opt with ucie := { u with part := SMap.put [] u.part k [] } } }
    if p.windowed && s.flag psysBase F.PSYS_STAT_fenced then s1.ucieOwe e (2 * p.cls + flitVc f % 2) p.flits
    else if p.windowed then { s1 with opt := { s1.opt with ucie := { s1.opt.ucie with reqs := s1.opt.ucie.reqs ++ [(e, p)] } } }
    else ((s1.partnerAnswered e p).ucieOwe e (2 * p.cls + flitVc f % 2) p.flits).send (pEndpoint e) p
  else { s with opt := { s.opt with ucie := { u with part := SMap.put [] u.part k acc } } }

/-- UCIE_FLIT_RECEIVE (R508, R509): a 256-byte partner flit. A good one in sequence delivers its valid slots, acknowledges and returns credits;
a bad one, or one out of sequence, asks for a resend. A flit that fails again in two resends, or that the partner did not take after 3, is a fault of the
link, and errors that pass a threshold are charged to a lane of module `m` (R491, R508). While the partner drains, what it sends is still taken
(R512). The adapter answers with what it has to send (assumption log 101). -/
def execUcieFlitReceive (l : List Byte) (m : Fin 2) (s : State) : Result :=
  .next
    (let u := s.opt.ucie
     if s.ident.site = 0 ∨ s.getF ucieBase F.UCIE_LINK_state ≠ 3 then s
     else
       let n (i k : Nat) : Nat := ofBytes ((l.drop i).take k)
       if l.length ≠ 256 ∨ n 252 4 ≠ crc32 (l.take 252) then
         let s1 := s.count ucieBase F.UCIE_SH_CRC_LO_lo 1 ucieBase F.UCIE_STAT_cnt_overflow 610
         let r := s1.checkFail 310 0 0x7E000000
         let s2 : State := { r.2 with opt := { r.2.opt with ucie := { u with naked := true, fails := u.fails + 1 } } }
         if r.1 && decide (2 ≤ (SMap.get (0, 0) s.opt.fails 310).2) then ((s2.checkPass 310).uncharge 0x7E000000).ucieLinkFault
         else if r.1 then ((s2.checkPass 310).uncharge 0x7E000000).ucieLaneFault m.val else s2.ucieSend true
       else if n 204 2 ≠ u.rxSeq then ({ s with opt := { s.opt with ucie := { u with naked := true } } } : State).ucieSend true
       else
         let again := u.sent.filter (fun q => decide ((n 206 2 + 65536 - q.seq) % 65536 < 32768) == false)
         let s1 := s.checkPass 310
         let s2 : State := { s1 with opt := { s1.opt with ucie := { u with
           rxSeq := (u.rxSeq + 1) % 65536, naked := false, fails := 0, sent := again
           used := (List.range 32).foldl (fun m k => SMap.put 0 m k (monus (SMap.get 0 m k) (n (212 + k) 1))) u.used } } }
         let s3 :=
           if (n 208 1) % 2 = 1 then
             (if again.any (fun f => decide (3 ≤ f.tries)) then s2.ucieLinkFault
              else (s2.count ucieBase F.UCIE_SH_RESEND_LO_lo again.length ucieBase F.UCIE_STAT_cnt_overflow 610).ucieResend)
           else s2
         let valid := [0, 1, 2].filter (fun i => (n (68 * i + 67) 1).testBit 7)
         let s4 := valid.foldl (fun s i => s.slotIn (bitsOf (n (68 * i + 67) 1) 6 5) (slotFlit (l.drop (68 * i)))) s3
         (s4.ucieSend (!valid.isEmpty)).ucieDrain)

/-- Window k of PSYS admits an access (R510). -/
def State.winAdmits (s : State) (k : Nat) (a n : Nat) (rd wr : Bool) : Bool :=
  let b := psysBase + 8 * k
  s.flag b F.PSYS_WIN_BASE_valid && (!rd || s.flag b F.PSYS_WIN_BASE_read) && (!wr || s.flag b F.PSYS_WIN_BASE_write) &&
  decide (s.getF b F.PSYS_WIN_BASE_base ≤ a / 4096) && decide ((a + n - 1) / 4096 ≤ s.getF b F.PSYS_WIN_LIMIT_limit)

/-- The answer of the endpoint to a partner request that goes no further. -/
def State.partnerAnswer (s : State) (e : Nat) (p : Pkt) (st : Nat) : State :=
  s.toPartner e (mkPkt (pEndpoint e) (pEndpoint e) 0xF 1 0 0 1 p.tag st [] [])
/-- The endpoint has no response buffer left for a partner request that is answered, or its tag is outstanding there (R307, R314). -/
def State.partnerWaits (s : State) (e : Nat) (p : Pkt) : Bool :=
  p.op != 2 && p.op != 7 && (decide (s.getF (vkBase (pEndpoint e)) F.NI_CFG_resp_bufs ≤ (s.ni (pEndpoint e)).outst.length) ||
    (s.ni (pEndpoint e)).outst.any (fun o => o.tag == p.tag))
/-- A response buffer of the endpoint is reserved for a partner request (R307). -/
def State.partnerReserve (s : State) (e : Nat) (p : Pkt) (dst : Nat) : State :=
  let vk := pEndpoint e
  if p.op = 2 ∨ p.op = 7 then s
  else s.setNi vk { s.ni vk with outst := (s.ni vk).outst ++ [{ tag := p.tag, client := 3, ctag := p.tag, cls := p.cls, op := p.op, dst := dst, since := s.now }] }
/-- A partner request that a window admits goes to vertex `d` as master 0 (R510); where nothing answers the address, BAD_TARGET. -/
def State.partnerTo (s : State) (e : Nat) (p : Pkt) (d : Option Nat) : State :=
  match d with
  | some dst =>
    (s.partnerReserve e p dst).send (pEndpoint e)
      (((((p.set 1 23 20 0).set 0 4 0 (vkX dst)).set 0 9 5 (vkY dst)).set 0 14 10 (vkX (pEndpoint e))).set 0 19 15 (vkY (pEndpoint e)))
  | none => if p.op = 2 ∨ p.op = 7 then s else s.partnerAnswer e p 0x0103
/-- A partner request that a window admits is sent on (R510). -/
def State.partnerForward (s : State) (e : Nat) (p : Pkt) : State := s.partnerTo e p (s.homeOf (vkX (pEndpoint e)) p.addr)
/-- A valid window admits the whole request. -/
def State.partnerAdmits (s : State) (p : Pkt) : Bool :=
  (List.range 8).any (fun k => s.winAdmits k p.addr p.touches (p.op == 0 || decide (3 ≤ p.op)) (p.op != 0))
/-- UCIE_PARTNER_REQUEST (R307, R510): the oldest partner request is forwarded as master 0 where a valid window admits it, once a response buffer
is free for it, else refused. -/
def execUciePartnerRequest (s : State) : Result :=
  .next
    (match s.opt.ucie.reqs with
     | [] => s
     | (e, p) :: t =>
       let s1 := ({ s with opt := { s.opt with ucie := { s.opt.ucie with reqs := t } } } : State).ucieOwe e (2 * p.cls) p.flits
       if s.partnerAdmits p then (if s.partnerWaits e p then s else s1.partnerForward e p)
       else
         ((s1.count ucieBase F.UCIE_SH_REFUSED_LO_lo 1 ucieBase F.UCIE_STAT_cnt_overflow 610).mark psysBase F.PSYS_STAT_refused 610).partnerAnswer
           e p 0x0303)

/-- UCIE_PARTNER_EVENT (R516): an error sideband message from the partner. -/
def execUciePartnerEvent (s : State) : Result := .next (if s.ident.site = 0 then s else s.ucieMark F.UCIE_STAT_partner_event)

/-- A PSYS window register takes a value: only from the management function while the partner is fenced (R511). -/
def State.psysWrite (s : State) (m : Master) (k : Nat) (limit : Bool) (v : Nat) : State :=
  let b := psysBase + 8 * k
  if m = .hostMgmt ∧ s.flag psysBase F.PSYS_STAT_fenced then
    (if limit then s.setF b F.PSYS_WIN_LIMIT_limit v
     else (((s.setF b F.PSYS_WIN_BASE_valid (bitsOf v 31 31)).setF b F.PSYS_WIN_BASE_read (bitsOf v 30 30)).setF b F.PSYS_WIN_BASE_write
       (bitsOf v 29 29)).setF b F.PSYS_WIN_BASE_base v)
  else s.mark psysBase F.PSYS_STAT_write_refused 610

/-- PSYS_WIN_WRITE (R511): a write of window k's base or limit register. -/
def execPsysWinWrite (m : Master) (k : Fin 8) (limit : Bool) (v : Word) (s : State) : Result :=
  .next (s.ownWrite m 7 0 (0x100 + 8 * k.val + (if limit then 4 else 0)) (fun s => s.psysWrite m k.val limit v.toNat))

end Sys2Proof.Machine
end

