-- ==== Sys2Proof/Machine/Bays.lean ====
section
/-! DEFINITION. Bays and deep bays with their product code (R165–R189), raw test access (R190–R192) and queue controllers
(R193–R205). -/
namespace Sys2Proof.Machine

/-! ## Where bays lie (R165, R220) -/

/-- The local facet of a bay or deep bay (R220). -/
def bayLocal (deep : Bool) (i : Nat) : Nat := if deep then localFacet 50 17 33 i else localFacet 1024 341 683 i
/-- The unit number of a bay or deep bay of Qq. -/
def bayUnit (q : Nat) (deep : Bool) (i : Nat) : Nat := 4296 * q + (if deep then 4096 + i else i)
/-- The quadrant of a unit. -/
def unitQuad (u : Nat) : Nat := u / 4296
/-- The unit is a deep bay. -/
def unitDeep (u : Nat) : Bool := decide (4096 ≤ u % 4296)
/-- The index of a unit among its kind. -/
def unitIndex (u : Nat) : Nat := if unitDeep u then u % 4296 - 4096 else u % 4296
/-- The device facet of a unit. -/
def unitFacet (u : Nat) : Nat := 12 * unitQuad u + bayLocal (unitDeep u) (unitIndex u)
/-- The words of a unit (R166). -/
def unitDepth (u : Nat) : Nat := if unitDeep u then 65536 else 1024
/-- The index is that of a bay or deep bay (R165). -/
def bayExists (deep : Bool) (i : Nat) : Bool := decide (i < if deep then 200 else 4096)

/-! ## Words and parity (R166, R172, R177) -/

/-- Lane `j` of a word. -/
def laneOfWord (d : BitVec 40) (j : Nat) : Nat := d.toNat / 1024 ^ j % 1024
/-- The parity of a number's lowest `n` bits. -/
def parityOf : Nat → Nat → Bool
  | 0, _ => false
  | n + 1, v => (v % 2 == 1) != parityOf n (v / 2)
/-- The four row-parity bits of a word (R177). -/
def rowParity (d : BitVec 40) : BitVec 4 :=
  BitVec.ofNat 4 ((List.range 4).foldl (fun v j => v + bit (parityOf 10 (laneOfWord d j)) * 2 ^ j) 0)
/-- The lanes that fail their row parity (R180). -/
def badLanes (d : BitVec 40) (par : BitVec 4) : BitVec 4 := rowParity d ^^^ par
/-- The bits of a 4-bit lane mask, spread over the lanes. -/
def laneMask (we : BitVec 4) : BitVec 40 :=
  BitVec.ofNat 40 ((List.range 4).foldl (fun v j => if we.getLsbD j then v + 1023 * 1024 ^ j else v) 0)

/-- The state of a word by bitwise majority (R172). -/
def BWord.state (w : BWord) : Nat :=
  let c (k : Nat) := bitsOf w.st.toNat (2 * k + 1) (2 * k)
  (c 0 &&& c 1) ||| (c 1 &&& c 2) ||| (c 0 &&& c 2)
/-- Three copies of a state. -/
def copies (v : Nat) : BitVec 6 := BitVec.ofNat 6 (v * 21)
/-- The word is valid. -/
def BWord.valid (w : BWord) : Bool := w.state == 1
/-- The word is poisoned. -/
def BWord.poisoned (w : BWord) : Bool := decide (2 ≤ w.state)
/-- The word's part in its column (R177). -/
def BWord.counted (w : BWord) : BitVec 40 := if w.valid then w.data else 0
/-- The failing lanes of a valid word. -/
def BWord.bad (w : BWord) : BitVec 4 := if w.valid then badLanes w.data w.par else 0

/-- A word of a unit. -/
def State.bword (s : State) (u w : Nat) : BWord := SMap.get {} s.bays.words (65536 * u + w)
/-- Replaces it. -/
def State.setBword (s : State) (u w : Nat) (v : BWord) : State :=
  { s with bays := { s.bays with words := SMap.put {} s.bays.words (65536 * u + w) v } }
/-- A column-parity word. -/
def State.cword (s : State) (u g : Nat) : CWord := SMap.get {} s.bays.cols (2048 * u + g)
/-- Replaces it. -/
def State.setCword (s : State) (u g : Nat) (v : CWord) : State :=
  { s with bays := { s.bays with cols := SMap.put {} s.bays.cols (2048 * u + g) v } }
/-- Stores a column-parity word with fresh row parity. -/
def State.setCol (s : State) (u g : Nat) (d : BitVec 40) : State := s.setCword u g { data := d, par := rowParity d }
/-- Adds a change of a word to its column-parity word, row parity included (R178): a row parity of that word that does not match its data goes on
not matching (DESIGN CHOICE, assumption log 95: the spec does not say whether it is made fresh). -/
def State.addCol (s : State) (u g : Nat) (x : BitVec 40) : State :=
  s.setCword u g { data := (s.cword u g).data ^^^ x, par := (s.cword u g).par ^^^ rowParity x }
/-- The words of a group. -/
def State.group (s : State) (u g : Nat) : List BWord := (List.range 32).map (fun i => s.bword u (32 * g + i))
/-- The XOR of a group's words (R177). -/
def State.groupXor (s : State) (u g : Nat) : BitVec 40 := (s.group u g).foldl (fun x w => x ^^^ w.counted) 0

/-! ## The configuration in force -/

/-- The configuration of the active plane of the unit's facet. -/
def State.unitCfg (s : State) (u : Nat) : PlaneCfg := s.planeCfg (unitFacet u) (s.facetPlane (unitFacet u))
/-- The clock of port A (`false`) or B of a unit runs: the regional clock that its facet's active plane names (R167). -/
def State.portRuns (s : State) (u : Nat) (portB : Bool) : Bool :=
  s.baysRun (unitFacet u) &&
  (match (s.unitCfg u).clocks.find? (fun p => p.1 == 2 * (u % 4296) + bit portB) with
   | some p => s.regionRuns (unitFacet u) p.2
   | none => false)
/-- The unit is being loaded with initial contents (R237). -/
def State.unitLoading (s : State) (u : Nat) : Bool :=
  (s.facetX (unitFacet u)).initLoad && (s.unitCfg u).bayInit.contains (u % 4296, 2)
/-- A controller of the active plane owns the unit (R194). -/
def State.unitOwned (s : State) (u : Nat) : Bool :=
  (s.unitCfg u).binds.any (fun b => b.deep == unitDeep u && (b.bay == unitIndex u || (b.paired && b.bay + 1 == unitIndex u)))
/-- User logic reaches the port, which has a clock (R167, R169, R194). -/
def State.portOpen (s : State) (u : Nat) (portB : Bool) : Bool := s.portRuns u portB && !s.unitOwned u
/-- The width of a port: 40, 20 or 10 (R167). -/
def State.portWidth (s : State) (u : Nat) (portB : Bool) : Nat :=
  match (s.unitCfg u).widths.find? (fun p => p.1 == 2 * (u % 4296) + bit portB) with
  | some p => p.2
  | none => 40

/-- Input bits of a bay port whose select names a source from outside the fabric: en 0, we 1, lane_we 2–5, addr 6–23, din 24–63, clr 64. A bit that is
not routed reads 0 (R169). -/
def State.bayIn (s : State) (u : Nat) (portB : Bool) : Nat :=
  match (s.unitCfg u).bayIn.find? (fun p => p.1 == 2 * (u % 4296) + bit portB) with
  | some p => p.2
  | none => 0
/-- `w` input bits of a bay port from bit `lo` on, whose operand is `v` (R169). -/
def State.bayPins (s : State) (u : Nat) (portB : Bool) (lo w v : Nat) : Nat :=
  s.pinBits (unitQuad u) (Mux.bay (u % 4296) (bit portB)) (s.bayIn u portB) lo w v

/-- A port performs an access in every cycle now (R188): its en comes from the fabric and is 1. -/
def State.portBusy (s : State) (u : Nat) (portB : Bool) : Bool := !s.unitOwned u && s.bayPins u portB 0 1 0 == 1

/-! ## Records (R185) -/

/-- Sets a record of QC_BAYERR_STAT and signals the facet's source. -/
def State.bayMark (s : State) (u : Nat) (f : Fld) : State := s.mark (qcBase (unitQuad u)) f (facetSrc (unitFacet u))
/-- A unit's queued group. -/
def State.bayJob (s : State) (u : Nat) : Option BayJob := SMap.get none s.bays.jobs u
/-- Replaces it. -/
def State.setJob (s : State) (u : Nat) (j : Option BayJob) : State :=
  { s with bays := { s.bays with jobs := SMap.put none s.bays.jobs u j } }
/-- Queues a group for a mend or a rebuild (R179, R180, R182). A rebuild takes the place of a mend of the same group. -/
def State.queueJob (s : State) (u g : Nat) (rebuild : Bool) : State :=
  match s.bayJob u with
  | none => s.setJob u (some { rebuild := rebuild, group := g, restarts := 0 })
  | some j =>
    if j.group = g then s.setJob u (some { j with rebuild := j.rebuild || rebuild })
    else s.bayMark u F.QC_BAYERR_STAT_mend_missed
/-- The column-parity word of a group is marked stale (R179). -/
def State.markStale (s : State) (u g : Nat) : State :=
  if s.bays.stale.contains (2048 * u + g) then s else { s with bays := { s.bays with stale := s.bays.stale ++ [2048 * u + g] } }
/-- It is not stale. -/
def State.clearStale (s : State) (u g : Nat) : State := { s with bays := { s.bays with stale := s.bays.stale.filter (fun k => k != 2048 * u + g) } }
/-- A port wrote a group: a mend or rebuild of it restarts, at most 4 times (R181), also where it has read no slot yet (assumption log 95). -/
def State.disturb (s : State) (u g : Nat) : State :=
  match s.bayJob u with
  | some j =>
    if j.group ≠ g then s
    else if j.restarts = 4 then (s.setJob u none).bayMark u F.QC_BAYERR_STAT_mend_missed
    else s.setJob u (some { j with restarts := j.restarts + 1 })
  | none => s

/-- QC_BAYERR_LOC as one word, without its outcome bits. -/
def State.bayLoc (s : State) (u : Nat) : Nat :=
  bit (unitDeep u) * 536870912 + bit (s.bays.perm.contains u) * 268435456 + unitIndex u
/-- QC_BAYERR_LOC and QC_BAYERR_POS take an outcome. -/
def State.locate (s : State) (u outcome w b : Nat) : State :=
  let q := qcBase (unitQuad u)
  (((((s.setF q F.QC_BAYERR_LOC_outcome outcome).setB q F.QC_BAYERR_LOC_deep (unitDeep u)).setB q F.QC_BAYERR_LOC_permanent
    (s.bays.perm.contains u)).setF q F.QC_BAYERR_LOC_bay (unitIndex u)).setF q F.QC_BAYERR_POS_word w).setF q F.QC_BAYERR_POS_bit b
/-- A journal entry of a bay (R632). -/
def State.bayJournal (s : State) (u outcome w b : Nat) (permanent : Bool) : State :=
  s.journal 0x10 permanent (targetWord (1 + unitQuad u) 0x028 0) (outcome * 1073741824 + s.bayLoc u) (w * 65536 + b) 0
/-- Counts on a block-level counter of QC. -/
def State.qcCount (s : State) (u : Nat) (f r : Fld) : State :=
  s.count (qcBase (unitQuad u)) f 1 (qcBase (unitQuad u)) r (facetSrc (unitFacet u))

/-- The outcomes of the last second. -/
def recent (now : Nat) (l : List BayEvt) : List BayEvt := l.filter (fun e => decide (now < e.time + 1000000000))

/-- R189: the fault becomes permanent with this outcome. -/
def State.bayPermanent (s : State) (u outcome w b : Nat) : Bool :=
  let l := recent s.now s.bays.hist
  (outcome == 0 && l.any (fun e => e.unit == u && e.word == w && e.bit == b && e.corrected)) ||
  decide (s.jrnl.threshold < (l.filter (fun e => e.unit == u)).length + 1)

/-- An outcome of a mend, a rebuild or a scrub check (R185, R189). A bay whose fault is permanent already makes no second record, entry or signal
(DESIGN CHOICE, assumption log 95). -/
def State.bayOutcome (s : State) (u outcome w b : Nat) : State :=
  let perm := s.bayPermanent u outcome w b && !s.bays.perm.contains u
  let s1 : State := { s with bays := { s.bays with
    hist := recent s.now s.bays.hist ++ [{ unit := u, word := w, bit := b, time := s.now, corrected := outcome == 0 }]
    perm := if perm then s.bays.perm ++ [u] else s.bays.perm } }
  let s2 := s1.locate u outcome w b
  let s3 :=
    if outcome = 0 ∨ outcome = 3 then (s2.qcCount u F.QC_SH_MEND_LO_mend F.QC_BAYERR_STAT_corrected).bayMark u F.QC_BAYERR_STAT_corrected
    else if outcome = 1 then
      ((s2.qcCount u F.QC_SH_UNCORR_LO_uncorr F.QC_BAYERR_STAT_uncorrectable).bayMark u F.QC_BAYERR_STAT_uncorrectable).bayJournal
        u outcome w b false
    else (s2.bayMark u F.QC_BAYERR_STAT_unlocated).bayJournal u outcome w b false
  if perm then (s3.bayMark u F.QC_BAYERR_STAT_permanent).bayJournal u outcome w b true else s3

/-! ## Raw accesses in their slot (R190, R191) -/

/-- The unit that the raw registers of Qq address. -/
def State.rawUnit (s : State) (q : Nat) : Nat := bayUnit q (s.flag (qcBase q) F.QC_RAW_CTL_deep) (s.getF (qcBase q) F.QC_RAW_CTL_bay)
/-- The raw access is refused (R191). -/
def State.rawRefused (s : State) (q : Nat) : Bool :=
  let b := qcBase q
  !bayExists (s.flag b F.QC_RAW_CTL_deep) (s.getF b F.QC_RAW_CTL_bay) ||
  (!s.flag b F.QC_RAW_CTL_deep && decide (1024 ≤ s.getF b F.QC_RAW_ADDR_word))
/-- The raw access of Qq is over. -/
def State.rawOver (s : State) (q : Nat) : State :=
  ({ s with bays := { s.bays with raw := SMap.put none s.bays.raw q none } }).lower (qcBase q) F.QC_RAW_CTL_pending
/-- A record of QC_BAYERR_STAT for a raw access; an index beyond the count has no facet, and then no source is signalled. -/
def State.rawMark (s : State) (q : Nat) (f : Fld) : State :=
  if bayExists (s.flag (qcBase q) F.QC_RAW_CTL_deep) (s.getF (qcBase q) F.QC_RAW_CTL_bay) then s.bayMark (s.rawUnit q) f
  else s.raise (qcBase q) f
/-- Loads QC_RAW_DATA and QC_RAW_EXT. -/
def State.rawLoad (s : State) (q : Nat) (d : BitVec 40) (par : BitVec 4) (st : BitVec 6) : State :=
  let b := qcBase q
  (((s.setF b F.QC_RAW_DATA_data (d.toNat % 4294967296)).setF b F.QC_RAW_EXT_data (d.toNat / 4294967296)).setF b F.QC_RAW_EXT_parity
    par.toNat).setF b F.QC_RAW_EXT_state st.toNat
/-- The raw read (R190); a column-parity word has no state copies, and state then reads 0 (assumption log 95). -/
def State.rawRead (s : State) (q : Nat) : State :=
  let w := s.getF (qcBase q) F.QC_RAW_ADDR_word
  if s.flag (qcBase q) F.QC_RAW_ADDR_column then
    s.rawLoad q (s.cword (s.rawUnit q) (w / 32)).data (s.cword (s.rawUnit q) (w / 32)).par 0
  else s.rawLoad q (s.bword (s.rawUnit q) w).data (s.bword (s.rawUnit q) w).par (s.bword (s.rawUnit q) w).st
/-- The raw write (R190). -/
def State.rawWrite (s : State) (q : Nat) : State :=
  let b := qcBase q
  let w := s.getF b F.QC_RAW_ADDR_word
  let d := BitVec.ofNat 40 (s.getF b F.QC_RAW_EXT_data * 4294967296 + s.getF b F.QC_RAW_DATA_data)
  let par := BitVec.ofNat 4 (s.getF b F.QC_RAW_EXT_parity)
  if s.flag b F.QC_RAW_ADDR_column then s.setCword (s.rawUnit q) (w / 32) { data := d, par := par }
  else s.setBword (s.rawUnit q) w { data := d, par := par, st := BitVec.ofNat 6 (s.getF b F.QC_RAW_EXT_state) }

/-- The pending raw access of Qq takes a maintenance slot (R190, R191), with the values that the raw registers then hold (assumption log 95). -/
def State.rawAct (s : State) (q : Nat) : State :=
  match SMap.get none s.bays.raw q with
  | none => s
  | some wr =>
    if s.rawRefused q then (s.rawOver q).rawMark q F.QC_BAYERR_STAT_raw_refused
    else if wr then (s.rawOver q).rawWrite q
    else (s.rawOver q).rawRead q
/-- A maintenance slot of a unit can come (R181, R186, R188): the clock of a port runs that has idle cycles. -/
def State.slotFree (s : State) (u : Nat) : Bool := (s.portRuns u false && !s.portBusy u false) || (s.portRuns u true && !s.portBusy u true)
/-- A raw access that waits for the unit takes its slot before a mend, a rebuild or a scrub check does (R181). -/
def State.rawFirst (s : State) (u : Nat) : State :=
  if (SMap.get none s.bays.raw (unitQuad u)).isSome && s.rawUnit (unitQuad u) == u then s.rawAct (unitQuad u) else s

/-! ## The mender (R181–R186) -/

/-- The words of a group that fail row parity, with their failing lanes. -/
def State.failing (s : State) (u g : Nat) : List (Nat × BitVec 4) :=
  ((List.range 32).map (fun i => (32 * g + i, (s.bword u (32 * g + i)).bad))).filter (fun p => p.2 != 0)
/-- The one bit that is set, if exactly one is. -/
def oneBit (x : BitVec 40) : Option Nat := (List.range 40).find? (fun b => x == BitVec.twoPow 40 b)
/-- The one lane that fails, if exactly one does. -/
def oneLane (x : BitVec 4) : Option Nat := (List.range 4).find? (fun j => x == BitVec.twoPow 4 j)
/-- Sets words poisoned; the column word follows (R177). The three copies of the state say so, and data and row parity stay as they are stored, as a
raw read shows (DESIGN CHOICE, assumption log 95). -/
def State.poisonWords (s : State) (u g : Nat) (l : List Nat) : State :=
  let s1 := l.foldl (fun s w => s.setBword u w { s.bword u w with st := copies 2 }) s
  s1.setCol u g (s1.groupXor u g)

/-- The rebuild of a group's column-parity word (R184). -/
def State.rebuildGroup (s : State) (u g : Nat) : State :=
  ((s.poisonWords u g ((s.failing u g).map (·.1))).clearStale u g).bayOutcome u 3 (32 * g) 63
/-- The mend of a group (R183). A failing column-parity word beside a failing word counts as a second failing word (assumption log 38), and of
several failing words QC_BAYERR_POS names the lowest (assumption log 95). -/
def State.mendWords (s : State) (u g : Nat) : State :=
  let c := s.cword u g
  let syn := s.groupXor u g ^^^ c.data
  match s.failing u g with
  | [] =>
    if badLanes c.data c.par ≠ 0 then (s.setCol u g (s.groupXor u g)).bayOutcome u 3 (32 * g) 63
    else if syn ≠ 0 then (s.setCol u g (s.groupXor u g)).bayOutcome u 2 (32 * g) 63
    else s
  | [(w, lanes)] =>
    if badLanes c.data c.par ≠ 0 then (s.poisonWords u g [w]).bayOutcome u 1 w 63
    else match oneLane lanes, oneBit syn with
    | some j, some b =>
      if b / 10 = j then (s.setBword u w { s.bword u w with data := (s.bword u w).data ^^^ BitVec.twoPow 40 b }).bayOutcome u 0 w b
      else (s.poisonWords u g [w]).bayOutcome u 1 w 63
    | _, _ => (s.poisonWords u g [w]).bayOutcome u 1 w 63
  | (w, _) :: l => (s.poisonWords u g (w :: l.map (·.1))).bayOutcome u 1 w 63

/-- The mend of a group; where its column-parity word is marked stale, that word is rebuilt (R179; assumption log 95). -/
def State.mendGroup (s : State) (u g : Nat) : State :=
  if s.bays.stale.contains (2048 * u + g) then s.rebuildGroup u g else s.mendWords u g
/-- What a maintenance pass does with the group queued of a unit, if it is a mend or a rebuild as asked (R181). -/
def State.doJob (s : State) (u : Nat) (rebuild : Bool) : State :=
  match s.bayJob u with
  | some j =>
    if j.rebuild != rebuild then s
    else if rebuild then (s.setJob u none).rebuildGroup u j.group
    else (s.setJob u none).mendGroup u j.group
  | none => s

/-- BAY_MEND (R183): the queued mend of a unit has read its group and acts. -/
def execBayMend (q : Fin 4) (deep : Bool) (i : Fin 4096) (s : State) : Result :=
  .next
    (let u := bayUnit q.val deep i.val
     if !bayExists deep i.val || !s.slotFree u then s else (s.rawFirst u).doJob u false)

/-- BAY_REBUILD (R184). -/
def execBayRebuild (q : Fin 4) (deep : Bool) (i : Fin 4096) (s : State) : Result :=
  .next
    (let u := bayUnit q.val deep i.val
     if !bayExists deep i.val || !s.slotFree u then s else (s.rawFirst u).doJob u true)

/-- The scrubber rewrites state copies that disagree (R172). -/
def State.tidyCopies (s : State) (u g : Nat) : State :=
  (List.range 32).foldl (fun s i =>
    let w := s.bword u (32 * g + i)
    if w.st = copies w.state then s else s.setBword u (32 * g + i) { w with st := copies w.state }) s

/-- BAY_SCRUB_CHECK (R186): the next group of a unit is checked. -/
def execBayScrubCheck (q : Fin 4) (deep : Bool) (i : Fin 4096) (s : State) : Result :=
  .next
    (let u := bayUnit q.val deep i.val
     let g := SMap.get 0 s.bays.next u
     if !bayExists deep i.val || !s.slotFree u || (s.bayJob u).isSome || !s.flag (scrubBase q.val) F.SCRUB_CFG_bay_en then s
     else
       let s1 := ((s.rawFirst u).tidyCopies u g).mendGroup u g
       { s1 with bays := { s1.bays with next := SMap.put 0 s1.bays.next u ((g + 1) % (unitDepth u / 32)) } })

/-! ## Port accesses (R168–R180) -/

/-- Stores the lanes `we` of a word as a port write does (R174, R175, R178, R179). -/
def State.bayStore (s : State) (u w : Nat) (we : BitVec 4) (din : BitVec 40) : State :=
  let old := s.bword u w
  let g := w / 32
  if we = 0 then s
  else if old.poisoned && we != 15 then s.bayMark u F.QC_BAYERR_STAT_partial_to_poison
  else
    let m := laneMask we
    let base := old.counted
    let d := (base &&& ~~~m) ||| (din &&& m)
    let keepPar := if old.valid then old.par else 0
    let par := (keepPar &&& ~~~we) ||| (rowParity d &&& we)
    let s1 := s.disturb u g
    let s2 := (s1.setBword u w { data := d, par := par, st := copies 1 }).addCol u g ((base &&& m) ^^^ (din &&& m))
    let s3 := if old.bad &&& we ≠ 0 then (s2.markStale u g).queueJob u g true else s2
    if old.bad &&& ~~~we ≠ 0 then s3.queueJob u g false else s3

/-- Stores a poisoned word (the w_poison entry of R194): its data is discarded. What data and row parity then stand in the word the spec does not
say: zeros (assumption log 95). All lanes of the old word go (R179). -/
def State.bayStorePoison (s : State) (u w : Nat) : State :=
  let g := w / 32
  let s1 := ((s.disturb u g).setBword u w { data := 0, par := 0, st := copies 2 }).addCol u g (s.bword u w).counted
  if (s.bword u w).bad = 0 then s1 else (s1.markStale u g).queueJob u g true

/-- The word and lane mask that an address selects at a width (R168). -/
def selectOf (width addr : Nat) (laneWe : BitVec 4) : Nat × BitVec 4 :=
  if width = 20 then (addr / 2, if addr % 2 = 0 then 3 else 12)
  else if width = 10 then (addr / 4, BitVec.twoPow 4 (addr % 4))
  else (addr, laneWe)
/-- Write data moved to the lanes of a mask. -/
def toLanes (width addr : Nat) (din : BitVec 40) : BitVec 40 :=
  if width = 20 then BitVec.ofNat 40 (din.toNat % 1048576 * 1048576 ^ (addr % 2))
  else if width = 10 then BitVec.ofNat 40 (din.toNat % 1024 * 1024 ^ (addr % 4))
  else din


/-- What a read of the lanes `sel` of a word returns: data, failing lanes and poison (R173, R180). -/
def State.bayFetch (s : State) (u w : Nat) (sel : BitVec 4) : BitVec 40 × BitVec 4 × Bool × State :=
  let x := s.bword u w
  if x.poisoned then (0, 0, true, s)
  else
    let bad := x.bad &&& sel
    (x.counted &&& laneMask sel, bad, false, if bad = 0 then s else s.queueJob u (w / 32) false)

/-- A port writes the lanes that its width and address select (R168, R178). -/
def State.portWrite (s : State) (u : Nat) (portB : Bool) (laneWe : BitVec 4) (addr : Nat) (din : BitVec 40) : State :=
  let width := s.portWidth u portB
  let p := selectOf width addr laneWe
  s.bayStore u (p.1 % unitDepth u) p.2 (toLanes width addr din)
/-- A port reads what its width and address select (R168, R173, R180). -/
def State.portRead (s : State) (u : Nat) (portB : Bool) (addr : Nat) : State :=
  let width := s.portWidth u portB
  let p := selectOf width addr 15
  let r := s.bayFetch u (p.1 % unitDepth u) p.2
  let shift := if width = 20 then 2 * (addr % 2) else if width = 10 then addr % 4 else 0
  r.2.2.2.emit (.bayRead u (r.1.toNat / 1024 ^ shift) (r.2.1.toNat / 2 ^ shift) r.2.2.1)
/-- Every word of a unit invalid and every column-parity word 0 (R176). What data, row parity and state copies stand in an invalid word the spec
does not say: zeros, as a raw read shows (assumption log 95). A mend or rebuild that is queued stays (same log). -/
def State.clearUnit (s : State) (u : Nat) : State :=
  { s with bays := { s.bays with
      words := SMap.cut s.bays.words (65536 * u) (65536 * (u + 1))
      cols := SMap.cut s.bays.cols (2048 * u) (2048 * (u + 1))
      stale := s.bays.stale.filter (fun k => k / 2048 != u) } }

/-- clr of port A (R176). While initial contents are loaded it does nothing (DESIGN CHOICE, assumption log 95: R237 tells only of reads and
writes). -/
def State.bayClr (s : State) (u : Nat) : State := if s.unitLoading u then s else s.clearUnit u
/-- A cycle of a bay port with en = 1 (R168, R169): its inputs are what routing brings them, so without en it is idle, and without we a write
reads. Where the fabric brings clr to port A, the bay is cleared in this cycle, and a write is discarded (R176); a read then finds the cleared bay
(DESIGN CHOICE, assumption log 95). While initial contents are loaded, writes are dropped and reads give 0 (R237). -/
def State.portCycle (s0 : State) (u : Nat) (portB we : Bool) (laneWe : BitVec 4) (addr : BitVec 18) (din : BitVec 40) : State :=
  let clr := !portB && s0.bayPins u false 64 1 0 == 1
  let s := if clr then s0.bayClr u else s0
  let a := s.bayPins u portB 6 18 addr.toNat
  if s.bayPins u portB 0 1 1 = 0 then s
  else if s.bayPins u portB 1 1 (bit we) = 1 then
    (if s.unitLoading u || clr then s
     else s.portWrite u portB (BitVec.ofNat 4 (s.bayPins u portB 2 4 laneWe.toNat)) a (BitVec.ofNat 40 (s.bayPins u portB 24 40 din.toNat)))
  else if s.unitLoading u then s.emit (.bayRead u 0 0 false)
  else s.portRead u portB a

/-- BAY_WRITE (R168, R169, R178): a write on port A (`false`) or B of a bay. -/
def execBayWrite (q : Fin 4) (deep : Bool) (i : Fin 4096) (portB : Bool) (laneWe : BitVec 4) (addr : BitVec 18) (din : BitVec 40)
    (s : State) : Result :=
  .next
    (let u := bayUnit q.val deep i.val
     if !bayExists deep i.val || !s.portOpen u portB then s else s.portCycle u portB true laneWe addr din)

/-- BAY_READ (R168, R169, R173, R180). -/
def execBayRead (q : Fin 4) (deep : Bool) (i : Fin 4096) (portB : Bool) (addr : BitVec 18) (s : State) : Result :=
  .next
    (let u := bayUnit q.val deep i.val
     if !bayExists deep i.val || !s.portOpen u portB then s else s.portCycle u portB false 0 addr 0)

/-- BAY_CLEAR (R169, R176): clr of port A. -/
def execBayClear (q : Fin 4) (deep : Bool) (i : Fin 4096) (s : State) : Result :=
  .next
    (let u := bayUnit q.val deep i.val
     if !bayExists deep i.val || !s.portOpen u false || s.bayPins u false 64 1 1 = 0 then s else s.bayClr u)

/-- The units of a device facet. -/
def facetUnits (f : Nat) : List Nat :=
  ((List.range 4296).map (fun x => 4296 * (f / 12) + x)).filter (fun u => unitFacet u == f)

/-- A facet's bays lose their contents (R176: OFF, then ON), with the mends queued. The faults found permanent and the outcomes of the last
second are kept (R189; assumption log 95). -/
def State.clearFacetBays (s : State) (f : Nat) : State :=
  let mine (u : Nat) : Bool := unitFacet u == f
  { s with bays := { s.bays with
      words := s.bays.words.filter (fun p => !mine (p.1 / 65536))
      cols := s.bays.cols.filter (fun p => !mine (p.1 / 2048))
      jobs := s.bays.jobs.filter (fun p => !mine p.1)
      stale := s.bays.stale.filter (fun k => !mine (k / 2048)) } }

/-! ## Raw test access (R190–R192) -/

/-- QC_RAW_CTL.locked (R192, R645). -/
def State.injectLocked (s : State) : Bool := s.policyBars 2 7

/-- QC_RAW_CTL takes a value (R190–R192): an access out of range is refused. An access already pending goes on. -/
def State.rawCtl (s : State) (q v : Nat) : State :=
  let b := qcBase q
  let s1 := (s.setF b F.QC_RAW_CTL_deep (bitsOf v 16 16)).setF b F.QC_RAW_CTL_bay (v % 4096)
  let wr := v.testBit 18
  if !(wr || v.testBit 17) || (wr && s.injectLocked) || (SMap.get none s.bays.raw q).isSome then s1
  else if s1.rawRefused q then s1.rawMark q F.QC_BAYERR_STAT_raw_refused
  else { s1 with bays := { s1.bays with raw := SMap.put none s1.bays.raw q (some wr) } }.raise b F.QC_RAW_CTL_pending

/-- QC_RAW_READ (R190): a write of QC_RAW_CTL with read = 1 and write = 0. -/
def execQcRawRead (m : Master) (q : Fin 4) (deep : Bool) (bay : BitVec 12) (s : State) : Result :=
  .next (s.ownWrite m (1 + q.val) 0x028 0x40 (fun s => s.rawCtl q.val (131072 + bit deep * 65536 + bay.toNat)))

/-- QC_RAW_WRITE (R190, R192): a write of QC_RAW_CTL with write = 1, whatever read is. -/
def execQcRawWrite (m : Master) (q : Fin 4) (deep : Bool) (bay : BitVec 12) (s : State) : Result :=
  .next (s.ownWrite m (1 + q.val) 0x028 0x40 (fun s => s.rawCtl q.val (262144 + bit deep * 65536 + bay.toNat)))

/-- RAW_ACCESS_DONE (R190, R191): the pending raw access of Qq is refused, or a maintenance slot comes and it acts. -/
def execRawAccessDone (q : Fin 4) (s : State) : Result :=
  .next
    (if s.rawRefused q.val || s.slotFree (s.rawUnit q.val) then s.rawAct q.val else s)

/-- RAW_ACCESS_TIMEOUT (R191): no slot came within 1 ms. -/
def execRawAccessTimeout (q : Fin 4) (s : State) : Result :=
  .next
    (match SMap.get none s.bays.raw q.val with
     | none => s
     | some _ => (s.rawOver q.val).rawMark q.val (if s.rawRefused q.val then F.QC_BAYERR_STAT_raw_refused else F.QC_BAYERR_STAT_raw_timeout))

/-! ## Queue controllers (R193–R205) -/

/-- The registers of controller n of Qq (R205). -/
def qctlBase (q n : Nat) : Nat := qcBase q + 0x40 * n
/-- The facet of controller n of Qq (R193). -/
def qctlFacet (q n : Nat) : Nat := 12 * q + n / 40
/-- The binding of a controller in the active plane of its facet (R193). -/
def State.qbind (s : State) (q n : Nat) : Option QcBind :=
  (s.planeCfg (qctlFacet q n) (s.facetPlane (qctlFacet q n))).binds.find? (fun b => b.n == n)
/-- A controller's pointers. -/
def State.qptr (s : State) (q n : Nat) : QcPtr := SMap.get {} s.bays.qcs (480 * q + n)
/-- Replaces them. -/
def State.setQptr (s : State) (q n : Nat) (p : QcPtr) : State := { s with bays := { s.bays with qcs := SMap.put {} s.bays.qcs (480 * q + n) p } }
/-- The lower unit of a binding. -/
def QcBind.unit (b : QcBind) (q : Nat) : Nat := bayUnit q b.deep b.bay
/-- The units of a binding (R193). -/
def QcBind.units (b : QcBind) (q : Nat) : List Nat := if b.paired then [b.unit q, b.unit q + 1] else [b.unit q]
/-- The depth of a binding (R194). -/
def QcBind.depth (b : QcBind) : Nat := if b.deep then 65536 else 1024
/-- The write-side level (R196). -/
def QcPtr.level (p : QcPtr) : Nat := p.w - p.wSees
/-- w_afull (R198). -/
def State.qcAfull (s : State) (q n : Nat) : Bool :=
  match s.qbind q n with
  | some b => decide (s.getF (qctlBase q n) F.QC_QTHRESH_afull < (s.qptr q n).level) && decide (s.getF (qctlBase q n) F.QC_QTHRESH_afull < b.depth)
  | none => false
/-- r_aempty (R198). -/
def State.qcAempty (s : State) (q n : Nat) : Bool := decide ((s.qptr q n).rSees - (s.qptr q n).r ≤ s.getF (qctlBase q n) F.QC_QTHRESH_aempty)
/-- A record of QC_QSTAT (R205). -/
def State.qcMark (s : State) (q n : Nat) (f : Fld) : State := s.mark (qctlBase q n) f (facetSrc (qctlFacet q n))
/-- Counts on a controller's counter. -/
def State.qctlCount (s : State) (q n : Nat) (f r : Fld) : State := s.count (qctlBase q n) f 1 (qctlBase q n) r (facetSrc (qctlFacet q n))
/-- The clock of one side of a controller runs (R194): write, on port A, or read, on port B. -/
def State.qcSide (s : State) (q : Nat) (b : QcBind) (read : Bool) : Bool := (b.units q).all (fun u => s.portRuns u read)
/-- Both clocks of a controller run (R202); one that is bound to no bay has none. -/
def State.qcClocks (s : State) (q n : Nat) : Bool :=
  match s.qbind q n with
  | some b => s.qcSide q b false && s.qcSide q b true
  | none => false
/-- A side of the controller works: its clock runs, no cell holds (R203) and no unit of it is being loaded (R237). -/
def State.qcRuns (s : State) (q n : Nat) (b : QcBind) (read : Bool) : Bool :=
  s.qcSide q b read && !s.holding (qctlFacet q n) && !(b.units q).any s.unitLoading
/-- Each side whose clock runs has seen the other side's pointer (R195), as it has within 5 cycles. -/
def State.qcSync (s : State) (q n : Nat) : State :=
  match s.qbind q n with
  | none => s
  | some b =>
    let p := s.qptr q n
    s.setQptr q n { p with wSees := if s.qcSide q b false then p.r else p.wSees, rSees := if s.qcSide q b true then p.w else p.rSees }
/-- Every controller that holds anything. -/
def State.qcSyncAll (s : State) : State := s.bays.qcs.foldl (fun s p => s.qcSync (p.1 / 480) (p.1 % 480)) s
/-- w_afull has been 1 (QC_QSTAT.afull_seen), where it was not before. -/
def State.sawAfull (s : State) (before : Bool) (q n : Nat) : State :=
  if s.qcAfull q n && !before then s.qcMark q n F.QC_QSTAT_afull_seen else s

/-- An entry enters the units of a binding at word `w` (R194). -/
def State.storeEntry (s : State) (b : QcBind) (q w : Nat) (data : Nat) (poison : Bool) : State :=
  ((b.units q).foldl (fun (p : State × Nat) u =>
    (if poison then p.1.bayStorePoison u w else p.1.bayStore u w 15 (BitVec.ofNat 40 p.2), p.2 / 1099511627776)) (s, data)).1

/-- QUEUE_WRITE (R195, R196, R199, R201): an entry is offered to controller n of Qq, after the write side has seen up to `seen` more
slots freed. -/
def execQueueWrite (q : Fin 4) (n : Fin 480) (data : BitVec 80) (poison : Bool) (seen : Nat) (s : State) : Result :=
  .next
    (match s.qbind q.val n.val with
     | none => s
     | some b =>
       if !s.qcRuns q.val n.val b false then s
       else
         let was := s.qcAfull q.val n.val
         let p0 := s.qptr q.val n.val
         let p : QcPtr := { p0 with wSees := min p0.r (p0.wSees + seen) }
         let s1 := s.setQptr q.val n.val p
         if !s.flag (qctlBase q.val n.val) F.QC_QCTL_enable then s1.emit (.notReady q.val n.val)
         else if b.depth ≤ p.level then
           (if s.flag (qctlBase q.val n.val) F.QC_QCTL_drop then
              (s1.qctlCount q.val n.val F.QC_SH_DROP_LO_drop F.QC_QSTAT_overflow).qcMark q.val n.val F.QC_QSTAT_overflow
            else s1.emit (.notReady q.val n.val))
         else
           (((s1.storeEntry b q.val (p.w % b.depth) data.toNat poison).setQptr q.val n.val { p with w := p.w + 1 }).qctlCount q.val
             n.val F.QC_SH_ENQ_LO_enq F.QC_QSTAT_enq_overflow).sawAfull was q.val n.val)

/-- An entry read from the units of a binding at word `w` (R200): its data and r_poison. -/
def State.fetchEntry (s : State) (q w : Nat) : List Nat → Nat × Bool × State
  | [] => (0, false, s)
  | u :: us =>
    let a := s.bayFetch u w 15
    let r := State.fetchEntry a.2.2.2 q w us
    (a.1.toNat + 1099511627776 * r.1, a.2.2.1 || a.2.1 != 0 || r.2.1, r.2.2)

/-- QUEUE_READ (R195, R200): the reader takes the entry offered, after the read side has seen up to `seen` more entries. A paired entry of which one
word is poisoned is a poisoned entry, and all its 80 bits read 0 (DESIGN CHOICE, assumption log 95). -/
def execQueueRead (q : Fin 4) (n : Fin 480) (seen : Nat) (s : State) : Result :=
  .next
    (match s.qbind q.val n.val with
     | none => s
     | some b =>
       if !s.qcRuns q.val n.val b true then s
       else
         let p0 := s.qptr q.val n.val
         let p : QcPtr := { p0 with rSees := min p0.w (p0.rSees + seen) }
         let s1 := s.setQptr q.val n.val p
         if p.rSees = p.r then s1
         else
           let e := s1.fetchEntry q.val (p.r % b.depth) (b.units q.val)
           let poisonedWord := (b.units q.val).any (fun u => (s1.bword u (p.r % b.depth)).poisoned)
           let s2 := (e.2.2.setQptr q.val n.val { p with r := p.r + 1 }).emit (.entry q.val n.val (if poisonedWord then 0 else e.1) e.2.1)
           if e.2.1 then (s2.qctlCount q.val n.val F.QC_SH_POISON_LO_poison F.QC_QSTAT_poison_seen).qcMark q.val n.val F.QC_QSTAT_poison_seen
           else s2)

/-- QC_QCTL takes a value (R201). -/
def State.qctl (s : State) (q n v : Nat) : State :=
  (s.setF (qctlBase q n) F.QC_QCTL_enable (bitsOf v 31 31)).setF (qctlBase q n) F.QC_QCTL_drop (v % 2)

/-- QC_QCTL_WRITE (R201). -/
def execQcQctlWrite (m : Master) (q : Fin 4) (n : Fin 480) (v : Word) (s : State) : Result :=
  .next (s.ownWrite m (1 + q.val) 0x028 (0x100 + 0x40 * n.val) (fun s => s.qctl q.val n.val v.toNat))

/-- Discards the entries held (R202, R203). -/
def State.flushQc (s : State) (q n : Nat) : State := s.setQptr q n {}
/-- Flushes every controller that a configuration binds. -/
def State.flushBound (s : State) (q : Nat) (c : PlaneCfg) : State := c.binds.foldl (fun s b => s.flushQc q b.n) s

/-- QC_QCMD.flush (R202): without both its clocks it waits as a posted write, and R62 then abandons it. -/
def State.qcFlush (s : State) (m : Master) (q n : Nat) : State :=
  if s.qcClocks q n then s.flushQc q n
  else { s with posted := s.posted ++ [{ base := qcBase q, addr := qctlBase q n + 0x110, words := [1], master := m, time := s.now }] }

/-- QC_QCMD_FLUSH (R202). -/
def execQcQcmdFlush (m : Master) (q : Fin 4) (n : Fin 480) (s : State) : Result :=
  .next (s.ownWrite m (1 + q.val) 0x028 (0x110 + 0x40 * n.val) (fun s => s.qcFlush m q.val n.val))

end Sys2Proof.Machine
end

