-- ==== Sys2Proof/Machine/Sau.lean ====
section
/-! DEFINITION. Sample arithmetic units (R206–R217). -/
namespace Sys2Proof.Machine

/-- The device facet of SAU n of Qq. -/
def sauFacet (q n : Nat) : Nat := 12 * q + sauLocal n
/-- The configuration of SAU n of Qq in the active plane; an SAU it does not name has no clock. -/
def State.sauCfg (s : State) (q n : Nat) : SauCfg :=
  match (s.planeCfg (sauFacet q n) (s.facetPlane (sauFacet q n))).saus.find? (fun p => p.1 == n) with
  | some p => p.2
  | none => {}
/-- The registers of an SAU. -/
def State.sau (s : State) (q n : Nat) : SauReg := SMap.get {} s.saus (2048 * q + n)
/-- Replaces them. -/
def State.setSau (s : State) (q n : Nat) (r : SauReg) : State := { s with saus := SMap.put {} s.saus (2048 * q + n) r }
/-- The mode is Q4L (R210). -/
def SauCfg.long (c : SauCfg) : Bool := c.mode == 1
/-- The mode is W1 (R210). -/
def SauCfg.wide (c : SauCfg) : Bool := c.mode == 2

/-- `w` bits of a number at bit `lo`, as an exact number (R209). -/
def fieldOf (sgn : Bool) (v : Nat) (lo w : Nat) : Int :=
  let x := v / 2 ^ lo % 2 ^ w
  if sgn && decide (2 ^ (w - 1) ≤ x) then (x : Int) - (2 ^ w : Nat) else (x : Int)

/-- The pre-adder (R209). -/
def SauCfg.preAdd (c : SauCfg) (a b : Int) : Int := if c.pre = 0 then a else if c.pre = 1 then a + b else if c.pre = 2 then a - b else b - a
/-- The sums E of an input stage, one per lane, or one in W1 (R209). -/
def SauCfg.sums (c : SauCfg) (s u : BitVec 40) : List Int :=
  if c.wide then [c.preAdd (fieldOf c.inSigned s.toNat 0 20) (fieldOf c.inSigned u.toNat 0 20)]
  else (List.range 4).map (fun j => c.preAdd (fieldOf c.inSigned s.toNat (10 * j) 10) (fieldOf c.inSigned u.toNat (10 * j) 10))
/-- The weights (R210). -/
def SauCfg.weights (c : SauCfg) (k : BitVec 48) : List Int :=
  if c.wide then [fieldOf true k.toNat 0 24] else (List.range 4).map (fun j => fieldOf true k.toNat (12 * j) 12)
/-- M, or the four products in Q4L (R210). -/
def SauCfg.products (c : SauCfg) (pp : List Int) : List Int := if c.long then pp else [pp.foldl (· + ·) 0]

/-- The limits of TOTAL (R211). -/
def totalMin : Int := -140737488355328
def totalMax : Int := 140737488355327
/-- TOTAL after an exact sum, and whether it overflowed (R211). -/
def SauCfg.take (c : SauCfg) (x : Int) : Int × Bool :=
  if totalMin ≤ x ∧ x ≤ totalMax then (x, false)
  else if c.holdTotal then (if x < totalMin then totalMin else totalMax, true)
  else ((BitVec.ofInt 48 x).toInt, true)

/-- Shift and rounding (R212). -/
def SauCfg.round (c : SauCfg) (v : Int) : Int :=
  let n := min 47 c.shift.toNat
  let d : Int := (2 ^ n : Nat)
  if n = 0 then v
  else if c.rnd = 1 then (v + d / 2) / d
  else if c.rnd = 2 then
    let f := v / d
    let r := v % d
    if 2 * r < d then f else if d < 2 * r then f + 1 else if f % 2 = 0 then f else f + 1
  else v / d

/-- Clamping to `w` bits (R213): the value within range and whether it was clamped. -/
def SauCfg.clamp (c : SauCfg) (w : Nat) (v : Int) : Int × Bool :=
  let lo : Int := if c.outSigned then -(2 ^ (w - 1) : Nat) else 0
  let hi : Int := if c.outSigned then (2 ^ (w - 1) : Nat) - 1 else (2 ^ w : Nat) - 1
  if v < lo then (lo, true) else if hi < v then (hi, true) else (v, false)

/-- A result in `w` bits of y at bit `at_` (R210, R213). -/
def placed (w at_ : Nat) (v : Int) : Nat := (BitVec.ofInt w v).toNat * 2 ^ at_

/-- y and clip from the summing stage (R210, R212, R213). -/
def SauCfg.output (c : SauCfg) (r : SauReg) : BitVec 40 × BitVec 4 :=
  if c.long then
    (List.range 4).foldl (fun (p : BitVec 40 × BitVec 4) j =>
      let x := c.clamp 10 (c.round (r.lanes.getD j 0))
      (p.1 ||| BitVec.ofNat 40 (placed 10 (10 * j) x.1), p.2 ||| BitVec.ofNat 4 (bit x.2 * 2 ^ j))) (0, 0)
  else
    let w := if c.outW then 20 else 10
    let x := c.clamp w (c.round r.total)
    (BitVec.ofNat 40 (placed w 0 x.1), BitVec.ofNat 4 (bit x.2))

/-- TOTAL, the lane products and over after the summing stage's edge (R211). `chain` is the upstream SAU's TOTAL before it. -/
def SauCfg.summing (c : SauCfg) (r : SauReg) (chain : Int) : SauReg :=
  if c.long then { r with lanes := r.m, wrapped := false }
  else
    let own := if c.join.getLsbD 0 && !r.fr3 then r.total else 0
    let up := if c.join.getLsbD 1 then chain else 0
    let t := c.take (r.m.headD 0 + own + up)
    { r with total := t.1, wrapped := t.2 || (r.wrapped && !r.fr3) }

/-- Every stage one edge on (R214). -/
def SauCfg.advance (c : SauCfg) (r : SauReg) (chain : Int) (s u : BitVec 40) (k : BitVec 48) (fresh : Bool) : SauReg :=
  let o := c.output r
  let t := c.summing r chain
  { t with
    y := o.1, clip := o.2
    m := c.products r.pp, fr3 := r.fr2
    pp := List.zipWith (· * ·) r.e (c.weights r.k1), fr2 := r.fr1
    e := c.sums r.s r.u, k1 := r.k, fr1 := r.fr0
    s := s, u := u, k := k, fr0 := fresh }

/-- The chain input (R208, R215): the upstream SAU's TOTAL before this edge. Where both have one clock and the upstream SAU has already been
given this edge, that is its TOTAL from before it. -/
def State.sauChain (s : State) (q n : Nat) : Int :=
  if n = 0 ∨ sauLocal (n - 1) ≠ sauLocal n then 0
  else
    let up := s.sau q (n - 1)
    if (s.sauCfg q (n - 1)).clkSel = (s.sauCfg q n).clkSel ∧ (s.sau q n).edges < up.edges then up.was else up.total

/-- The SAU has a running clock and is released (R207, R217, R247, R250). -/
def State.sauClocked (s : State) (q n : Nat) : Bool :=
  s.baysRun (sauFacet q n) && (s.facetX (sauFacet q n)).reset != 1 && s.regionRuns (sauFacet q n) (s.sauCfg q n).clkSel.toNat

/-- Input bits of an SAU whose select names a source from outside the fabric: s 0–39, u 40–79, k 80–127, fresh 128, adv 129, rst 130. A bit that is
not routed reads 0 (R206). -/
def State.sauIn (s : State) (q n : Nat) : Nat :=
  match (s.planeCfg (sauFacet q n) (s.facetPlane (sauFacet q n))).sauIn.find? (fun p => p.1 == n) with
  | some p => p.2
  | none => 0
/-- An edge of its clock that leaves an SAU's registers with `r` (R215). -/
def SauReg.clocked (old r : SauReg) : SauReg := { r with edges := old.edges + 1, was := old.total }

/-- `w` input bits of SAU n of Qq from bit `lo` on, whose operand is `v` (R206). -/
def State.sauPins (s : State) (q n lo w v : Nat) : Nat := s.pinBits q (Mux.sau n) (s.sauIn q n) lo w v
/-- SAU_CLOCK_EDGE (R206, R214, R216, R217): an edge of the clock of SAU n of Qq. Its inputs are what routing brings them. An SAU whose cells
hold is held too, also on the edges between the return of its clock and the end of the hold (R217, R227; assumption log 106). Of the rows of one clock
edge a later one sees what an earlier one has left on a wire between them, an SAU's y or a flip-flop (DESIGN CHOICE, assumption log 40). -/
def execSauClockEdge (q : Fin 4) (n : Fin 2048) (sm u : BitVec 40) (k : BitVec 48) (adv rst fresh : Bool) (s : State) : Result :=
  .next
    (let old := s.sau q.val n.val
     let pin (lo w v : Nat) : Nat := s.sauPins q.val n.val lo w v
     if !s.sauClocked q.val n.val then s
     else if pin 130 1 (bit rst) = 1 then s.setSau q.val n.val (old.clocked {})
     else if pin 129 1 (bit adv) = 0 || s.holding (sauFacet q.val n.val) then s.setSau q.val n.val (old.clocked old)
     else s.setSau q.val n.val (old.clocked ((s.sauCfg q.val n.val).advance old (s.sauChain q.val n.val)
       (BitVec.ofNat 40 (pin 0 40 sm.toNat)) (BitVec.ofNat 40 (pin 40 40 u.toNat)) (BitVec.ofNat 48 (pin 80 48 k.toNat)) (pin 128 1 (bit fresh) = 1))))

/-- A facet's SAUs return to 0 (R217). -/
def State.clearSaus (s : State) (f : Nat) : State :=
  { s with saus := s.saus.filter (fun p => !(sauFacet (p.1 / 2048) (p.1 % 2048) == f)) }

end Sys2Proof.Machine
end

