-- ==== Sys2Proof/Machine/Tiles.lean ====
section
/-! DEFINITION. The flip-flops of the tiles (R127–R131, R136, R139). -/
namespace Sys2Proof.Machine

/-- A flip-flop holds init, or not. -/
def State.setFf (s : State) (f fr k : Nat) (differs : Bool) : State :=
  { s with fab := { s.fab with ffs := SMap.put 0 s.fab.ffs (ffKey f fr k) (bit differs) } }
/-- All flip-flops of a facet at init (R131). -/
def State.initFfs (s : State) (f : Nat) : State :=
  { s with fab := { s.fab with ffs := SMap.cut s.fab.ffs (32 * 30720 * f) (32 * 30720 * (f + 1)) } }

/-- D of flip-flop `j` (0 QW, 1 QN) of a cell of tile (c, r): its table output, or its bypass input (R127). -/
def State.ffD (s : State) (q c r cell j : Nat) : Bool :=
  let f := 12 * q + tileLocal c r
  if s.fbit f (s.facetPlane f) (tileFrame c r) (75 * cell + 65 + j) = Config.bypassCode then s.muxed q (.cell c r cell (6 + j))
  else s.node q (.out c r (4 * cell + j))

/-- The tile's flip-flops are held at init whatever its inputs are (R131, R235): outside a facet whose clocks run or are only stopped, be it on its way to OFF, in its
release, in a facet reset and, at a swap, before the edge after E + 1. -/
def State.tileHeld (s : State) (f : Nat) (early : Bool) : Bool :=
  !(s.clocksRun f || s.facetState f == fcStopped || s.facetState f == fcDraining) || s.facetState f == fcReleasing || (s.facetX f).reset == 1 ||
  (s.facetState f == fcSwapping && early)

/-- What flip-flop `k` of tile (c, r) comes to hold, as whether it differs from init (R129, R130). `late`: its SR fell inside the
recovery–removal window of this edge and init won. -/
def State.ffNext (s : State) (q c r : Nat) (rise late : Bool) (k : Nat) : Bool :=
  let f := 12 * q + tileLocal c r
  let p := s.facetPlane f
  let fr := tileFrame c r
  let cell := k / 2
  let j := k % 2
  let differs := SMap.get 0 s.fab.ffs (ffKey f fr k) == 1
  let async := s.fbit f p fr 2422
  let srEn := s.fbit f p fr (ffBit cell j 2)
  let sr := srEn && s.muxed q (.ctl c r 2)
  let sel := s.fbits f p fr (ffBit cell j 0) 2
  let en := if sel = 1 then s.muxed q (.ctl c r 0) else if sel = 2 then s.muxed q (.ctl c r 1) else true
  if async && sr then false
  else if !rise then differs
  else if sr || (async && srEn && late) then false
  else if en then s.ffD q c r cell j != s.fbit f p fr (ffBit cell j 3)
  else differs

/-- The 32 flip-flops of a tile take what state `s0`, from before the edge, gives them. A tile whose CLK selects no regional clock that runs sees
no rise (R136, R139). -/
def State.tileEdge (s0 : State) (q c r : Nat) (x : TileIn) (window : Option (BitVec 32)) (s : State) : State :=
  let f := 12 * q + tileLocal c r
  let fr := tileFrame c r
  let rise := x.rise && s0.regionRuns f (s0.fbits f (s0.facetPlane f) fr 2418 4)
  let late (k : Nat) : Bool := window.any (fun w => w.getLsbD k)
  if s0.tileHeld f x.early then s
  else (List.range 32).foldl (fun s k => s.setFf f fr k (s0.ffNext q c r rise (late k) k)) s

/-- The signals that enter facets of Qq from outside the fabric take levels. -/
def State.setLevels (s : State) (q : Nat) (l : List (Fin 12 × Nat × Bool)) : State :=
  { s with fab := { s.fab with
      levels := l.foldl (fun m e => SMap.put 0 m (16777216 * (12 * q + e.1.val) + e.2.1 % 16777216) (bit e.2.2)) s.fab.levels } }

/-- The sample clock of probe k of Qq rises, at one of these tiles or by itself (R159, R164): the probe shows what it took at the edge before, and
takes what the probed output gave before this one. What a probe shows before it has taken two samples since it was selected is what an earlier
selection left, at first 0: the spec does not say (DESIGN CHOICE, assumption log 113). -/
def State.probeLatch (s0 : State) (q k : Nat) (tiles : List (Nat × Nat)) (clocks : List (Fin 12 × Fin 13)) (s : State) : State :=
  match s0.probeSampled q k with
  | none => s
  | some p =>
    let f := 12 * q + tileLocal p.1 p.2.1
    if s0.regionRuns f p.2.2.2 && (tiles.any (fun t => tileLocal t.1 t.2 == tileLocal p.1 p.2.1 &&
        s0.fbits f (s0.facetPlane f) (tileFrame t.1 t.2) 2418 4 == p.2.2.2) ||
        clocks.any (fun e => e.1.val == tileLocal p.1 p.2.1 && e.2.val == p.2.2.2)) then
      let old := SMap.get 0 s.fab.samples (4 * q + k)
      { s with fab := { s.fab with samples := SMap.put 0 s.fab.samples (4 * q + k) (2 * (old % 2) + bit (s0.node q (.out p.1 p.2.1 p.2.2.1))) } }
    else s

/-- TILE_CLOCK_EDGE (R130, R132–R139, R164): CLK of tile (c', r') of facet `f`, and of the tiles beside it whose edge is the same one, rises, or the
signals that reach them change. Every flip-flop takes what the fabric gave before the edge. -/
def execTileClockEdge (f : Fin 48) (col : Fin 256) (row : Fin 120) (x : TileIn) (s : State) : Result :=
  .next
    (let q := f.val / 12
     let c := 256 * (f.val % 12 % 3) + col.val
     let r := 120 * (f.val % 12 / 3) + row.val
     let s0 := s.setLevels q x.levels
     let s1 := x.tiles.foldl (fun t e =>
       let w := (x.windows.find? (fun p => decide (p.1 = e))).map (fun p => p.2)
       s0.tileEdge q (256 * (e.1.val % 3) + e.2.1.val) (120 * (e.1.val / 3) + e.2.2.val) x w t) (s0.tileEdge q c r x x.window s0)
     let own : List (Nat × Nat) := (c, r) :: x.tiles.map (fun e => (256 * (e.1.val % 3) + e.2.1.val, 120 * (e.1.val / 3) + e.2.2.val))
     if x.rise then (List.range 4).foldl (fun s k => s0.probeLatch q k own x.clocks s) s1 else s1)

end Sys2Proof.Machine
end

