-- ==== Sys2Proof/Machine/Images.lean ====
section
/-! DEFINITION. Configuration images: the stream envelope (R254–R259), the checks of its parts (R261–R263), staging regions and
handles (R260, R265, R269, R524), and what an image puts into a plane (R256, R279–R282). -/
namespace Sys2Proof

/-- What the frames 30,720–32,767 of a plane configure (R280: their layout is part of a device model that is not in the spec),
from the stored frame words that are not 0, keyed by 33 × frame + word within the plane. -/
opaque Config.decodePlane : SMap Nat → Machine.PlaneCfg

namespace Machine

/-! ## The envelope -/

/-- A number of big-endian bytes (R258). -/
def ofBytesBE (l : List Byte) : Nat := ofBytes l.reverse

/-- The words of a 512-byte header that are not reserved bits are checked; these must be 0 (R255). -/
def reservedClear (h : List Byte) : Bool :=
  bitsOf (w32 h 0x00C) 31 19 == 0 && bitsOf (w32 h 0x00C) 15 10 == 0 && bitsOf (w32 h 0x020) 31 1 == 0 && bitsOf (w32 h 0x028) 23 13 == 0 &&
  bitsOf (w32 h 0x034) 31 16 == 0 && bitsOf (w32 h 0x038) 31 2 == 0 && (h.drop 0x044).all (· == 0)

/-- The site number of the header's site mask (R3, R255): bit 0 is B0, bit n is Cn. -/
def Ident.siteBit (i : Ident) : Nat := i.site

/-- Step 1 of R261 on a 512-byte header, for streams of `kind`. -/
def Ident.headerOk (i : Ident) (kind : Nat) (h : List Byte) : Bool :=
  w32 h 0 == 0x4E4C534B && w32 h 4 == kind * 65536 + 1 && reservedClear h &&
  bitsOf (w32 h 8) 15 0 == 0x9440 && (w32 h 8).testBit 21 && (w32 h 0x00C).testBit (16 + (i.grade - 1)) &&
  (w32 h 0x00C).testBit i.siteBit && (w32 h 0x020 == 0 || ofBytes ((h.drop 0x010).take 16) == i.serial) &&
  w32 h 0x024 % 16 == 0 && decide (0x400 ≤ w32 h 0x024) && decide (w32 h 0x024 ≤ 0xFFFFFFF0) &&
  decide (1 ≤ bitsOf (w32 h 0x028) 12 0) && decide (bitsOf (w32 h 0x028) 12 0 ≤ 4096) &&
  (if kind = 1 then w32 h 0x02C != 0 else w32 h 0x02C == 0)

/-- The end marker (R259). -/
def endMarkerOk (l : List Byte) (total : Nat) : Bool :=
  w32 l (total - 16) == 0x444E454B && w32 l (total - 12) == total && w32 l (total - 8) == 0 && w32 l (total - 4) == 0

/-- A segment (R256). -/
structure Seg where
  off   : Nat
  len   : Nat
  first : Nat
  facet : Nat
  kind  : Nat
  iv    : Nat
deriving DecidableEq, Repr

/-- The segments of a stream. -/
def segmentsOf (l : List Byte) : List Seg :=
  (List.range (bitsOf (w32 l 0x028) 12 0)).map (fun i =>
    let o := 0x200 + 16 * i
    { off := w32 l o, len := w32 l (o + 4), first := bitsOf (w32 l (o + 8)) 31 16, facet := bitsOf (w32 l (o + 8)) 15 8,
      kind := bitsOf (w32 l (o + 8)) 7 0, iv := w32 l (o + 12) })
/-- The bytes of a segment before its tag. -/
def Seg.body (g : Seg) (l : List Byte) : List Byte := (l.drop g.off).take (g.len - 16)
/-- A segment as stored. -/
def Seg.stored (g : Seg) (l : List Byte) : List Byte := (l.drop g.off).take g.len
/-- Rounded up to a multiple of 64. -/
def up64 (n : Nat) : Nat := (n + 63) / 64 * 64

/-- A segment entry by itself (R256): its kind and its frames within the facet. -/
def Seg.ok (g : Seg) (kind facets : Nat) : Bool :=
  decide (17 ≤ g.len) && decide (g.len ≤ 16777232) && g.off % 64 == 0 &&
  (if kind = 2 then g.kind == 0x10 && g.facet == 0xFF && g.first == 0
   else facets.testBit g.facet && decide (g.facet < 48) &&
    (if g.kind = 1 then (g.len - 16) % 320 == 0 && decide (g.first + (g.len - 16) / 320 ≤ 32768)
     else if g.kind = 2 then g.first == 0
     else g.kind == 3 && g.first == 0 && g.len == 131088))
/-- Segments ascend from `lo` without overlap and end by `hi` (R256). -/
def segsOrdered (hi : Nat) : Nat → List Seg → Bool
  | _, [] => true
  | lo, g :: t => decide (lo ≤ g.off) && decide (g.off + g.len ≤ hi) && segsOrdered hi (g.off + g.len) t

/-- Step 4 of R261. -/
def tableOk (kind : Nat) (l : List Byte) : Bool :=
  let segs := segmentsOf l
  segs.all (fun g => g.ok kind (headerFacets l)) && (segs.map (·.off)).headD 0 == up64 (0x300 + 64 * segs.length) &&
  segsOrdered (w32 l 0x024 - 16) 0 segs

/-- The SHA-384 of the two coordinates of a key is the fused owner hash, or none is fused (R261, R262). For KEY_LOAD (R291) the comparison is skipped on a
device with no owner hash too: the model's choice (DESIGN CHOICE, assumption log 112). -/
def Ident.ownerKeyOk (i : Ident) (xy : List Byte) : Bool := i.ownerHash == 0 || Config.sha384 xy == i.ownerHash

/-- Step 3 of R261, with R262 and R263. -/
def Ident.signatureOk (i : Ident) (l : List Byte) : Bool :=
  let o := 0x200 + 64 * bitsOf (w32 l 0x028) 12 0
  let xy := (l.drop o).take 96
  i.ownerKeyOk xy && Config.ecdsaOk (ofBytesBE xy) (Config.sha384 (l.take o)) ((l.drop (o + 96)).take 96) &&
  !(bitsOf (w32 l 0x028) 31 24 == 0xFF && i.debugPolicy.testBit 3)

/-- A record of bay initial contents (R256): deep, index, first word, values. -/
structure BayRec where
  deep  : Bool
  bay   : Nat
  first : Nat
  vals  : List Nat
deriving DecidableEq, Repr

/-- The records of a kind 0x02 segment in facet `f`, if every one passes (R256, step 5 of R261). The fuel is the segment's length. -/
def bayRecords (f : Nat) : Nat → List Byte → Option (List BayRec)
  | 0, _ => some []
  | _ + 1, [] => some []
  | fuel + 1, l =>
    let w0 := w32 l 0
    let count := bitsOf w0 31 16 + 1
    let size := (8 + 5 * count + 7) / 8 * 8
    let r : BayRec := { deep := w0.testBit 12, bay := bitsOf w0 11 0, first := w32 l 4,
                        vals := (List.range count).map (fun i => ofBytes ((l.drop (8 + 5 * i)).take 5)) }
    if l.length < size || bitsOf w0 15 13 != 0 || !((l.take size).drop (8 + 5 * count)).all (· == 0) || !bayExists r.deep r.bay ||
       bayLocal r.deep r.bay != f % 12 || decide ((if r.deep then 65536 else 1024) < r.first + count) then none
    else (bayRecords f fuel (l.drop size)).map (r :: ·)

/-- One segment of step 5 (R257, R259, R261, R263): its decrypted bytes, none where it fails. `key` is the key slot's. -/
def Seg.opened (g : Seg) (l : List Byte) (i : Nat) (key : Option Nat) : Option (List Byte) :=
  let digest := ofBytesBE ((l.drop (0x200 + 16 * bitsOf (w32 l 0x028) 12 0 + 48 * i)).take 48)
  if Config.sha384 (g.stored l) ≠ digest then none
  else
    let plain :=
      if bitsOf (w32 l 0x028) 31 24 = 0xFF then some (g.body l)
      else match key with
        | some k => Config.gcmOpen k ((w32 l 0x040 * 4294967296 + w32 l 0x03C) * 4294967296 + g.iv) (g.stored l)
        | none => none
    match plain with
    | some b => if g.kind = 2 ∧ (bayRecords g.facet b.length b).isNone then none else some b
    | none => none

/-- Step 5 of R261 over all segments: the stream with its segments decrypted in place. -/
def openAll (key : Option Nat) : Nat → List Seg → List Byte → Option (List Byte)
  | _, [], l => some l
  | i, g :: t, l =>
    match g.opened l i key with
    | some b => openAll key (i + 1) t (l.take g.off ++ b ++ l.drop (g.off + b.length))
    | none => none

/-! ## Handles and regions (R260, R265, R269, R524) -/

/-- CFG_HANDLE_STATE. -/
def State.hState (s : State) (h : Nat) : Nat := s.getF (handleBase h) F.CFG_HANDLE_STATE_state
/-- A handle's record. -/
def State.handle (s : State) (h : Nat) : Handle := SMap.get {} s.cfg.handles h
/-- Replaces it. -/
def State.setHandle (s : State) (h : Nat) (v : Handle) : State := { s with cfg := { s.cfg with handles := SMap.put {} s.cfg.handles h v } }
/-- A record of CFG_STAT. -/
def State.cfgMark (s : State) (f : Fld) : State := s.mark cfgBase f 112
/-- The handle holds a verified image (R261), in use or not. -/
def State.verified (s : State) (h : Nat) : Bool := s.hState h == 4 || s.hState h == 5
/-- A handle's whole image. -/
def State.image (s : State) (h : Nat) : List Byte := s.imageBytes h 0 (s.getF (handleBase h) F.CFG_HANDLE_LEN_total_length)

/-- The parts of a region in each stack: stack, first and last 64 KiB unit (R524). -/
def regionParts (base units : Nat) : List (Nat × Nat × Nat) :=
  (List.range 4).filterMap (fun k =>
    let lo := max base (32768 * k)
    let hi := min (base + units) (32768 * (k + 1))
    if lo < hi then some (k, lo - 32768 * k, hi - 1 - 32768 * k) else none)

/-- Opens the staging slots of a region (R260, R524, R525). -/
def State.openRegion (s : State) (h base units : Nat) : State :=
  (regionParts base units).foldl (fun s p => s.openSlot p.1 (24 + h) false true 0x0C00 p.2.1 p.2.2 secActive) s
/-- Closes them, the region's lines filled with zeros (R261). -/
def State.closeRegion (s : State) (h : Nat) : State :=
  (regionParts (s.getF (handleBase h) F.CFG_HANDLE_BASE_base) ((s.handle h).size / 65536)).foldl
    (fun s p => (s.fillLines p.1 (p.2.1 * 1024) (p.2.2 * 1024 + 1023) 0).freeSlot p.1 (24 + h)) s
/-- The handle is free, its registers 0 (R293); golden copies that it was are lost (R279). -/
def State.freeHandle (s : State) (h : Nat) : State :=
  let b := handleBase h
  let s1 := (((s.lower b F.CFG_HANDLE_STATE_state).lower b F.CFG_HANDLE_LEN_total_length).lower b F.CFG_HANDLE_DESIGN_design_id).lower b
    F.CFG_HANDLE_BASE_base
  { s1 with
    cfg := { s1.cfg with handles := SMap.put {} s1.cfg.handles h {}, keep := s1.cfg.keep.filter (fun p => p.2 != h) }
    fac := { s1.fac with golden := s1.fac.golden.filter (fun p => p.2 != h + 1) } }
/-- Erases a handle (R261, R265). -/
def State.eraseHandle (s : State) (h : Nat) : State := (s.closeRegion h).freeHandle h

/-- The command that uses a handle: CFG_STAGE, CFG_VERIFY, CFG_APPLY or FACET_REWRITE, with the handle in its word 2. -/
def State.handleOp (s : State) (opcode h : Nat) : Option Op := s.hq.ops.find? (fun o => o.opcode == opcode && o.f 2 15 0 == h)
/-- A direct rewrite from a handle is in progress (R246). -/
def State.rewriteFrom (s : State) (h : Nat) : Bool :=
  (List.range 48).any (fun f => match (SMap.get {} s.fac.x f : FacetX).rewrite with | some r => r.1 == h | none => false)
/-- The handle is used by a CFG_APPLY, a FACET_REWRITE or contents that wait for a swap (R237, R265). -/
def State.handleUsed (s : State) (h : Nat) : Bool :=
  s.cfg.applies.any (fun a => a.handle == h) || s.rewriteFrom h || s.cfg.keep.any (fun p => p.2 == h)
/-- CFG_HANDLE_STATE shows verified or in use (R293). -/
def State.settleHandle (s : State) (h : Nat) : State :=
  if s.verified h then s.setF (handleBase h) F.CFG_HANDLE_STATE_state (if s.handleUsed h then 5 else 4) else s
/-- All handles. -/
def State.settleHandles (s : State) : State := (List.range 8).foldl (fun s h => s.settleHandle h) s

/-! ## What an image puts into a plane -/

/-- The segments of a kind for a facet. -/
def State.facetSegs (s : State) (h f kind : Nat) : List Seg :=
  (segmentsOf (s.imageBytes h 0 (0x200 + 16 * 4096))).filter (fun g => g.kind == kind && g.facet == f)

/-- The parity of an 80-bit word, above it (R281). -/
def withParity (v : Nat) : Nat := v % 2 ^ 80 + bit (parityOf 80 v) * 2 ^ 80
/-- A stored word passes its row parity (R281). -/
def fwordGood (x : Nat) : Bool := x == withParity x

/-- Stores a frame of 2,560 bits with its parity and its column-parity word (R281). -/
def State.putFrame (s : State) (f p fr bits : Nat) : State :=
  let ws := (List.range 32).map (fun w => bitsOf bits (80 * w + 79) (80 * w))
  let s1 := ((List.range 32).zip ws).foldl (fun s x => s.setFword f p fr x.1 (withParity x.2)) s
  s1.setFword f p fr 32 (withParity (ws.foldl (· ^^^ ·) 0))

/-- The configuration that a plane's stored frames give: their 32 words of 80 bits, without parity and column-parity word (R281, R282). -/
def State.decodedPlane (s : State) (f p : Nat) : PlaneCfg :=
  let lo := 33 * 32768 * (2 * f + p)
  Config.decodePlane ((SMap.slice s.fac.frames (lo + 33 * 30720) (lo + 33 * 32768)).filterMap (fun x =>
    if (x.1 - lo) % 33 = 32 ∨ x.2 % 2 ^ 80 = 0 then none else some (x.1 - lo, x.2 % 2 ^ 80)))
/-- Takes it as the plane's configuration. -/
def State.refreshCfg (s : State) (f p : Nat) : State :=
  { s with fac := { s.fac with cfg := SMap.put {} s.fac.cfg (2 * f + p) (s.decodedPlane f p) } }

/-- Writes a plane of a facet from an image (R280, R281): the frames of its kind 0x01 segments; a frame that the image does not
hold keeps its bits. The handle is the plane's golden copy (R279). -/
def State.writePlane (s : State) (f p h : Nat) : State :=
  let s1 := (s.facetSegs h f 1).foldl (fun s g =>
    (List.range ((g.len - 16) / 320)).foldl (fun s i => s.putFrame f p (g.first + i) (ofBytes (s.imageBytes h (g.off + 320 * i) 320))) s) s
  let s2 := s1.refreshCfg f p
  { s2 with fac := { s2.fac with golden := SMap.put 0 s2.fac.golden (2 * f + p) (h + 1) } }

/-- The golden copy of a plane, where its handle is still verified (R279). -/
def State.goldenOf (s : State) (f p : Nat) : Option Nat :=
  let g := SMap.get 0 s.fac.golden (2 * f + p)
  if g = 0 ∨ !s.verified (g - 1) then none else some (g - 1)
/-- A frame of an image, where it holds it. -/
def State.goldenFrame (s : State) (h f fr : Nat) : Option Nat :=
  match (s.facetSegs h f 1).find? (fun g => decide (g.first ≤ fr) && decide (fr < g.first + (g.len - 16) / 320)) with
  | some g => some (ofBytes (s.imageBytes h (g.off + 320 * (fr - g.first)) 320))
  | none => none
/-- The essential mask of a frame (R283): every word where there is no map or no golden copy. -/
def State.essential (s : State) (f p fr : Nat) : Nat :=
  match s.goldenOf f p with
  | some h => (match s.facetSegs h f 3 with | g :: _ => w32 (s.imageBytes h (g.off + 4 * fr) 4) 0 | [] => 0xFFFFFFFF)
  | none => 0xFFFFFFFF

/-- Loads the initial contents that an image holds for a facet, for the bays a configuration names (R237, R274). -/
def State.loadContents (s : State) (f h : Nat) (c : PlaneCfg) : State :=
  let recs := (s.facetSegs h f 2).flatMap (fun g => (bayRecords f g.len (s.imageBytes h g.off (g.len - 16))).getD [])
  recs.foldl (fun s r =>
    let u := bayUnit (f / 12) r.deep r.bay
    if c.bayInit.contains (u % 4296, 2) then
      (r.vals.foldl (fun (x : Nat × State) v => (x.1 + 1, x.2.bayStore u x.1 15 (BitVec.ofNat 40 v))) (r.first, s)).2
    else s) s
/-- Clears the bays that a configuration asks to initialise (R176, R237). -/
def State.clearRequested (s : State) (f : Nat) (c : PlaneCfg) : State :=
  c.bayInit.foldl (fun s b => if b.2 = 1 ∨ b.2 = 2 then s.clearUnit (4296 * (f / 12) + b.1) else s) s

end Machine
end Sys2Proof
end

