-- ==== Sys2Proof/Machine/Facets.lean ====
section
/-! DEFINITION. Facets (R218–R253): swaps, fences, direct rewrites, releases and facet resets. -/
namespace Sys2Proof.Machine

/-! ## Shared conditions -/

/-- The target word of a facet (R228). -/
def facetWord (f : Nat) : Word := wd (targetWord (1 + f / 12) (0x010 + f % 12) 0)
/-- The facet that a command targets (R228). -/
def Cmd.facetOf (c : Cmd) : Option Nat :=
  if 1 ≤ c.die ∧ c.die ≤ 4 ∧ 0x010 ≤ c.blk ∧ c.blk ≤ 0x01B ∧ c.inst = 0 then some (12 * (c.die - 1) + (c.blk - 0x010)) else none
/-- The quadrant's spine is ON and its die is not in reset (R241). -/
def State.quadUp (s : State) (q : Nat) : Bool := !s.blkOff (q + 1) 0
/-- The other plane. -/
def otherPlane (p : Nat) : Nat := 1 - p
/-- The valid bit of a plane. -/
def validF (p : Nat) : Fld := if p = 0 then F.FACET_PLANE_a_valid else F.FACET_PLANE_b_valid
/-- The design identifier of a plane. -/
def designF (p : Nat) : Fld := if p = 0 then F.FACET_DESIGN_A_design else F.FACET_DESIGN_B_design
/-- A plane is valid. -/
def State.planeValid (s : State) (f p : Nat) : Bool := s.flag (facetBase f) (validF p)
/-- A plane is one that a permanent fault alone marked invalid, or is not (R288). -/
def State.setMarked (s : State) (f p : Nat) (on : Bool) : State :=
  { s with fac := { s.fac with marked := (if on then [2 * f + p] else []) ++ s.fac.marked.filter (· != 2 * f + p) } }
/-- Marks a plane valid with a design (R273). -/
def State.validate (s : State) (f p design : Nat) : State :=
  ((s.setMarked f p false).raise (facetBase f) (validF p)).setF (facetBase f) (designF p) design
/-- FACET_PLANE shows a plane as invalid; its design identifier reads 0 (R252). -/
def State.invalidateOnly (s : State) (f p : Nat) : State := (s.lower (facetBase f) (validF p)).lower (facetBase f) (designF p)
/-- A plane is invalid: its contents are lost or cannot be trusted. -/
def State.invalidate (s : State) (f p : Nat) : State := (s.setMarked f p false).invalidateOnly f p
/-- Moves a facet to a state (R251). -/
def State.toFacet (s : State) (f v : Nat) : State := s.setF (facetBase f) F.FACET_STAT_state v
/-- A record of FACET_STAT (R253). -/
def State.facetMark (s : State) (f : Nat) (x : Fld) : State := s.mark (facetBase f) x (facetSrc f)

/-- Regional clock `r` selects the same running spine in both planes (R229). -/
def State.sameClock (s : State) (f r : Nat) : Bool :=
  match s.regionalSpine f 0 r, s.regionalSpine f 1 r with
  | some a, some b => a == b && s.spineRuns (f / 12) a
  | _, _ => false

/-- The armed swap of a facet (R228). -/
def State.swapOp (s : State) (f : Nat) : Option Op :=
  s.hq.ops.find? (fun o => o.opcode == 0x0203 && o.word1 == facetWord f && o.stage == 0)
/-- A swap of the facet is armed (R233). -/
def State.swapArmed (s : State) (f : Nat) : Bool := (s.swapOp f).isSome
/-- A CFG_APPLY has selected the facet (R271). -/
def State.applying (s : State) (f : Nat) : Bool := s.cfg.applies.any (fun a => a.selected.contains f)
/-- The armed swap is removed and completes with a status (R233). -/
def State.endSwap (s : State) (f : Nat) (st : Status) : State :=
  match s.swapOp f with
  | some o => s.complete o st []
  | none => s

/-- The local vertices of a facet (R219). -/
def facetVertices (f : Nat) : List Nat := ((List.range 96).filter (fun v => vertexFacet (f / 12) v == f)).map (vkOfLocal (f / 12))
/-- The register port of the quadrant lies in the facet. -/
def State.hasRegport (s : State) (f : Nat) : Bool := s.regportFacet (f / 12) == some f
/-- Packets of the facet that a network interface accepted and has not sent yet, of the kinds that no response ends: posted writes and the
packets of its stream flow, in the local queue, behind it or behind a route change; and essence and requests for the register port that it has not
yet given the facet (R151, R244). -/
def State.niHolds (s : State) (vk : Nat) : Nat :=
  let mine (p : Pkt) : Bool := (p.op == 2 || p.op == 6 || p.op == 7) && p.src == vk && !p.returned
  (((List.range 8).flatMap (fun vc => s.vq vk 4 vc) ++ (s.ni vk).back).filter (fun q => mine q.pkt)).length + ((s.ni vk).held.filter mine).length +
  ((s.ni vk).arrive.filter (fun p => p.op == 6 || p.forWindow)).length
/-- Packets that the facet's network interfaces accepted and that are not yet complete (R241, R244). -/
def State.inFlight (s : State) (f : Nat) : Nat :=
  ((facetVertices f).map (fun vk =>
    ((s.ni vk).outst.filter (fun o => o.client != 1)).length + (s.ni vk).ready.length + s.niHolds vk)).foldl (· + ·) 0 +
  (if s.hasRegport f then ((s.rpOut (f / 12) ++ s.rpWait (f / 12)).filter (fun r => r.last)).length else 0)

/-- Every request at the register port of a facet ends (R155, R239, R247). The design that owed answers to requests that timed out is gone, so
none of the next design's answers is taken for one of those. -/
def State.endRegport (s : State) (f st : Nat) (waiting : Bool) : State :=
  let q := f / 12
  if !s.hasRegport f then s
  else
    let l := s.rpOut q ++ (if waiting then s.rpWait q else [])
    let s0 : State := { s with fab := { s.fab with late := SMap.put 0 s.fab.late q 0 } }
    let s1 := s0.setRpOut q []
    l.foldl (fun s r => s.rpFail q r st) (if waiting then s1.setRpWait q [] else s1)
/-- What is still in flight when a drain ends is answered with a status, and what has no answer is dropped (R244, R247, R249). -/
def State.endFlight (s : State) (f st : Nat) : State :=
  (facetVertices f).foldl (fun s vk =>
    let s1 := (s.ni vk).outst.foldl (fun s o => if o.client = 1 then s else s.endRequest vk o.tag st [] []) s
    let s2 := s1.setNi vk { s1.ni vk with ready := [], arrive := (s1.ni vk).arrive.filter (fun p => !(p.op == 6 || p.forWindow)) }
    (s.ni vk).arrive.foldl (fun s p =>
      if p.op = 6 then s.dropCount vk
      else if p.forWindow then (if p.op = 2 then (s.dropCount vk).creditPacket vk p else s.rpAnswer p.window p.hdr st [])
      else s) s2) (s.endRegport f st true)

/-- QSYS_REGPORT, QSYS_DESIGN and the spines follow the active plane of a facet (R138, R153, R162, R239). -/
def State.planeActive (s : State) (f : Nat) : State :=
  let q := f / 12
  let c := s.planeCfg f (s.facetPlane f)
  let s1 : State := { s with fab := { s.fab with spines := (c.spines.filter (fun x => decide (x.1 < 24))).foldl (fun m x => SMap.put 0 m (24 * q + x.1) (x.2 % 128)) s.fab.spines } }
  let s2 := match c.regport with
    | some v => (s1.raise (qsysBase q) F.QSYS_REGPORT_present).setF (qsysBase q) F.QSYS_REGPORT_vertex v
    | none => if s1.hasRegport f then (s1.lower (qsysBase q) F.QSYS_REGPORT_present).lower (qsysBase q) F.QSYS_REGPORT_vertex else s1
  s2.setF (qsysBase q) F.QSYS_DESIGN_design_id (s2.getF (facetBase f) (designF (s2.facetPlane f)))

/-- Without a register port, every request that waits for it ends at once (R155). -/
def State.portlessEnd (s : State) (q : Nat) : State :=
  match s.regportFacet q with
  | some _ => s
  | none => (s.rpWait q).foldl (fun s r => s.rpFail q r 0x0103) (s.setRpWait q [])
/-- The register port of the quadrant is gone with the plane that placed it in the facet (R153, R162): what it had to answer ends with a status. -/
def State.regportGone (s : State) (f st : Nat) : State :=
  if s.hasRegport f then
    ((s.endRegport f st true).lower (qsysBase (f / 12)) F.QSYS_REGPORT_present).lower (qsysBase (f / 12)) F.QSYS_REGPORT_vertex
  else s
/-- The designs that run in a quadrant: those of the valid active planes (R162). -/
def State.designs (s : State) (q : Nat) : List Nat :=
  ((List.range 12).filter (fun i => s.planeValid (12 * q + i) (s.facetPlane (12 * q + i)))).map
    (fun i => s.getF (facetBase (12 * q + i)) (designF (s.facetPlane (12 * q + i))))
/-- QSYS_DESIGN after a plane was lost (R162): it keeps a design that still runs, else names one that does, or 0. -/
def State.designGone (s : State) (q : Nat) : State :=
  if (s.designs q).contains (s.getF (qsysBase q) F.QSYS_DESIGN_design_id) then s
  else s.setF (qsysBase q) F.QSYS_DESIGN_design_id ((s.designs q).headD 0)
/-- Flip-flops at init, SAUs at 0 and the bound controllers flushed (R203, R217, R247, R250). -/
def State.quietFacet (s : State) (f : Nat) : State := ((s.initFfs f).clearSaus f).flushBound (f / 12) (s.planeCfg f (s.facetPlane f))

/-! ## Swaps (R228–R240) -/

/-- The inactive plane asks for initial contents that are no longer in a verified handle (R229, R237). -/
def State.contentsLost (s : State) (f p : Nat) : Bool :=
  (s.planeCfg f p).bayInit.any (fun b => b.2 == 2) && (s.goldenOf f p).isNone

/-- The parameters and states for which FACET_SWAP_AT gives BAD_PARAM (R228, R229). -/
def State.swapOk (s : State) (f : Nat) (c : Cmd) : Bool :=
  let p := otherPlane (s.facetPlane f)
  (c.instant 2).isSome && c.f 5 30 30 == 0 && decide (c.f 5 29 24 < 56) && c.f 5 23 4 == 0 && decide (1 ≤ c.f 5 3 0) && decide (c.f 5 3 0 ≤ 12) &&
  (c.f 5 31 31 == 0 || (decide (1 ≤ c.w 6) && decide (c.w 6 ≤ 1000000))) &&
  (s.facetState f == fcOff || s.facetState f == fcDraining ||
    (s.facetState f == fcRunning && s.planeValid f p && (c.w 7 == 0 || c.w 7 == s.getF (facetBase f) (designF p)) && s.sameClock f (c.f 5 3 0) &&
      !s.contentsLost f p))

/-- FACET_SWAP_AT (R228, R229): arms a swap. -/
def execFacetSwapAt (c : Cmd) (s : State) : Result :=
  .next
    (let f := c.facetOf.getD 0
     let t := c.instant 2
     s.long 0x0203 c
       { len := c.len == 8, tgt := c.facetOf.isSome, par := s.swapOk f c,
         dom := s.quadUp (f / 12) && s.facetState f != fcOff && s.facetState f != fcDraining, fen := !s.hostFence f,
         free := !s.heldByOther c && !s.swapArmed f && !s.applying f && (s.facetX f).reset == 0, late := s.inTime c.die t }
       (t.map s.instantTime) id)

/-- A controller's binding or mode changes at the swap, or its bays are initialised (R203). -/
def rebound (old new : PlaneCfg) (n : Nat) : Bool :=
  let a := old.binds.find? (fun b => b.n == n)
  let b := new.binds.find? (fun b => b.n == n)
  decide (a ≠ b) || (match b with
    | some x => new.bayInit.any (fun i => (i.2 == 1 || i.2 == 2) && ((x.units 0).contains i.1))
    | none => false)

/-- The swap of a facet that was performed. -/
def State.swapDone (s : State) (f : Nat) : Option Op :=
  s.hq.ops.find? (fun o => o.opcode == 0x0203 && o.word1 == facetWord f && o.stage == 1)
/-- The completion of a swap (R228, R237); the handle that kept its contents is released. -/
def State.finishSwap (s : State) (f : Nat) : State :=
  let k := 2 * f + s.facetPlane f
  let s1 : State := { s with cfg := { s.cfg with keep := s.cfg.keep.filter (fun p => p.1 != k) } }
  let s2 := s1.settleHandles
  match s2.swapDone f with
  | some o => s2.complete o .ok o.acc
  | none => s2
/-- The load of initial contents ends (R237), and with it the swap completes: `whole`, or cut short as the facet is rewritten or goes OFF. One
that runs when the facet swaps again ends with that edge (DESIGN CHOICE, assumption log 114). -/
def State.endInit (s : State) (f : Nat) (whole : Bool) : State :=
  if (s.facetX f).initLoad then
    let p := s.facetPlane f
    let s1 := match (if whole then s.goldenOf f p else none) with
      | some h => s.loadContents f h (s.planeCfg f p)
      | none => s
    ((s1.setFacetX f { s1.facetX f with initLoad := false }).lower (facetBase f) F.FACET_STAT_init_busy).finishSwap f
  else s

/-- Swap edge E (R234–R239): the incoming plane takes control. -/
def State.swapAt (s0 : State) (f : Nat) (o : Op) (edge : Nat) : State :=
  let q := f / 12
  let p := otherPlane (s0.facetPlane f)
  if s0.contentsLost f p then (s0.facetMark f F.FACET_STAT_swap_cancelled).complete o .hwFault []
  else
    let s := s0.endInit f true
    let old := s.planeCfg f (s.facetPlane f)
    let new := s.planeCfg f p
    let s1 := s.hold f
    let flushed := s1.hasRegport f && !(s1.rpOut q).isEmpty
    let s2 := (if flushed then s1.facetMark f F.FACET_STAT_rp_flushed else s1).endRegport f 0x0500 false
    let s3 := (facetVertices f).foldl (fun s vk => s.setNi vk
      { s.ni vk with outst := (s.ni vk).outst.map (fun x => if x.client = 0 then { x with client := 2 } else x) }) s2
    let s4 := (((s3.toFacet f fcSwapping).setF (facetBase f) F.FACET_PLANE_active p).initFfs f).clearSaus f
    let s5 := (List.range 40).foldl (fun s i =>
      let n := 40 * (f % 12) + i
      if rebound old new n then (s.flushQc q n).qcMark q n F.QC_QSTAT_bound_changed else s) s4
    let load := new.bayInit.any (fun b => b.2 == 2)
    let s6 := ((s5.clearRequested f new).planeActive f).portlessEnd q
    let s7 := if load then (s6.setFacetX f { s6.facetX f with initLoad := true }).raise (facetBase f) F.FACET_STAT_init_busy else s6
    let s8 := s7.setT (facetBase f) F.FACET_LAST_T0_edge F.FACET_LAST_T1_edge F.FACET_LAST_T2_edge edge
    let s9 := s8.count (facetBase f) F.FACET_SH_SWAPS_LO_swaps 1 (facetBase f) F.FACET_STAT_cnt_overflow (facetSrc f)
    s9.putOp { o with stage := 1, acc := timeWords edge ++ [wd (bit (new.bayInit.any (fun b => b.2 == 1 || b.2 == 2)) * 2 + p)] }

/-- The swap waits for its trigger (R230): no sample of the event line was 1 yet. -/
def Op.awaitsLine (o : Op) : Bool := o.f 5 31 31 == 1 && o.acc.isEmpty
/-- The last station time at which a swap's edge, or the sample that leads to it, may come (R230, R231, R367). -/
def State.swapBound (s : State) (o : Op) : Nat := if o.f 5 31 31 = 1 then o.instant.getD 0 + o.w 6 * 1000 * nano else s.edgeLimit (o.instant.getD 0)
/-- The swap was not performed in time (R230, R231): without a trigger, the journal records the facet. -/
def State.swapLate (s : State) (f : Nat) (o : Op) : State :=
  let s1 := s.complete o .timeout []
  if o.f 5 31 31 = 1 then s1 else s1.journal 0x08 false (facetWord f).toNat 0x0203 0 0

/-- FACET_SWAP_EDGE (R230, R231, R234): an edge of swap_clk, which runs, at station time `edge`, at or past the instant of the armed swap. It is
E without a trigger; with one, the first edge at which the event line is 1 is remembered, and E is the next edge. An edge past the bound finds
the swap timed out. -/
def execFacetSwapEdge (f : Fin 48) (edge : Nat) (s : State) : Result :=
  .next
    (match s.armedBy 0x0203 (facetWord f.val) edge with
     | none => s
     | some o =>
       if !s.regionRuns f.val (o.f 5 3 0) then s
       else
         let s1 := s.reachAt (f.val / 12 + 1) edge
         if (o.awaitsLine || o.f 5 31 31 == 0) && decide (s.swapBound o < edge) then s1.swapLate f.val o
         else if o.awaitsLine then
           (if s1.lineOut (f.val / 12) (o.f 5 29 24) = 1 then s1.putOp { o with acc := [1] } else s1)
         else s1.swapAt f.val o edge)

/-- FACET_SWAP_TRIGGER_TIMEOUT (R230): no sample was 1 within the timeout, which has passed. -/
def execFacetSwapTriggerTimeout (f : Fin 48) (s : State) : Result :=
  .next
    (match s.swapOp f.val with
     | some o => if o.awaitsLine then (s.reachAt (f.val / 12 + 1) (s.swapBound o)).swapLate f.val o else s
     | none => s)

/-- FACET_SWAP_NO_EDGE (R231): no edge of swap_clk came within 1 µs after the instant, which has passed. -/
def execFacetSwapNoEdge (f : Fin 48) (s : State) : Result :=
  .next
    (match s.swapOp f.val with
     | some o => if o.f 5 31 31 = 0 then (s.reachAt (f.val / 12 + 1) (s.swapBound o)).swapLate f.val o else s
     | none => s)

/-- FACET_SWAP_HOLD_END (R227, R234, R238, R245): edge E + 3. -/
def execFacetSwapHoldEnd (f : Fin 48) (s : State) : Result :=
  .next
    (if s.facetState f.val = fcSwapping then
       let s0 := (s.setFacetX f.val { s.facetX f.val with unfencing := false }).toFacet f.val fcRunning
       let s1 := if (s.facetX f.val).clkReturn then s0 else s0.unhold f.val
       if (s1.facetX f.val).initLoad then s1 else s1.finishSwap f.val
     else s)

/-- FACET_BAY_INIT_DONE (R237): the load of initial contents ends. -/
def execFacetBayInitDone (f : Fin 48) (s : State) : Result :=
  .next
    (if (s.facetX f.val).initLoad ∧ s.facetState f.val = fcRunning then s.endInit f.val true else s)

/-! ## Fences (R241–R245) -/

/-- The host fence is set or cleared; cleared during a swap it unfences the ports when the swap ends (R245). -/
def State.setHostFence (s : State) (f : Nat) (on : Bool) : State :=
  let s1 := if s.hostFence f && !on && s.facetState f == fcSwapping then s.setFacetX f { s.facetX f with unfencing := true } else s
  s1.setB (facetBase f) F.FACET_FENCE_STAT_host_fence on
/-- FACET_FENCE (R241). -/
def execFacetFence (c : Cmd) (s : State) : Result :=
  .next
    (let f := c.facetOf.getD 0
     s.immediate 0x0204 c { len := c.len == 3, tgt := c.facetOf.isSome, par := c.f 2 31 1 == 0, dom := s.quadUp (f / 12) } (fun s =>
       let s1 := s.setHostFence f (c.f 2 0 0 == 1)
       (s1, [wd (min 65535 (s1.inFlight f))])))

/-- FACET_FENCE_QUERY (R241). -/
def execFacetFenceQuery (c : Cmd) (s : State) : Result :=
  .next
    (let f := c.facetOf.getD 0
     s.immediate 0x0284 c { len := c.len == 2, tgt := c.facetOf.isSome, dom := s.quadUp (f / 12) } (fun s =>
       (s, [wd (bit (s.hostFence f)), wd (min 65535 (s.inFlight f))])))

/-! ## Direct rewrite (R246–R248) -/

/-- The image of a handle holds the facet (R246, R270). -/
def State.imageHas (s : State) (h f : Nat) : Bool := decide (h < 8) && s.verified h && (s.imageFacets h).testBit f
/-- A release gap parameter (R246). -/
def gapOk (v : Nat) : Bool := v == 0 || (decide (8 ≤ v) && decide (v ≤ 65535))

/-- The active plane of a facet is invalid, and its design and register port are gone (R162, R247). -/
def State.planeGone (s : State) (f : Nat) : State :=
  ((s.regportGone f 0x0202).invalidate f (s.facetPlane f)).designGone (f / 12)
/-- Clocks stop, cells hold, the active plane is invalid, flip-flops, SAUs and controllers are cleared (R247 steps 2 and 3). -/
def State.beginWrite (s : State) (f : Nat) : State := ((((s.endInit f false).hold f).quietFacet f).planeGone f).toFacet f fcWriting

/-- FACET_REWRITE begins (R247 step 1). -/
def State.rewrite (s : State) (f : Nat) (c : Cmd) : State :=
  let x : FacetX := { s.facetX f with rewrite := some (c.f 2 15 0, c.f 3 1 0) }
  let s1 := (s.setFacetX f x).settleHandles
  if s.facetState f = fcRunning then
    ((s1.setFacetX f { x with drainFrom := some s.now }).raise (facetBase f) F.FACET_FENCE_STAT_draining).toFacet f fcWriting
  else s1.beginWrite f

/-- FACET_REWRITE (R246). -/
def execFacetRewrite (c : Cmd) (s : State) : Result :=
  .next
    (let f := c.facetOf.getD 0
     let st := s.facetState f
     s.long 0x0205 c
       { len := c.len == 5, tgt := c.facetOf.isSome,
         par := c.f 2 31 16 == 0 && s.imageHas (c.f 2 15 0) f && c.f 3 31 2 == 0 && c.f 3 1 0 != 3 && c.f 4 31 16 == 0 && gapOk (c.f 4 15 0) &&
           st != fcStopped,
         dom := s.quadUp (f / 12) && st != fcOff && st != fcDraining,
         free := !s.heldByOther c && (st == fcRunning || st == fcEmpty) && !s.swapArmed f && (s.facetX f).reset == 0 &&
           !(st == fcEmpty && s.applying f) } none
       (fun s => s.rewrite f c))

/-- The operation that rewrites a facet. -/
def State.rewriteOp (s : State) (f : Nat) : Option Op := s.pendingOn 0x0205 (facetWord f)
/-- The drain of a direct rewrite ends (R247): what is left is answered with FENCED. -/
def State.rewriteDrained (s : State) (f : Nat) : State :=
  let n := s.inFlight f
  let s1 := (s.setFacetX f { s.facetX f with drainFrom := none }).lower (facetBase f) F.FACET_FENCE_STAT_draining
  let s2 := if n = 0 then s1
    else ((s1.endFlight f 0x0202).facetMark f F.FACET_STAT_drain_timeout).journal 0x07 false (facetWord f).toNat f n 0
  let s3 := match s2.rewriteOp f with
    | some o => s2.putOp { o with acc := [wd (bit (n != 0))] }
    | none => s2
  s3.beginWrite f

/-- The facet is left EMPTY with its plane invalid, its cells holding and its ports fenced (R247, R274). -/
def State.toEmpty (s : State) (f : Nat) : State :=
  (((s.planeGone f).setFacetX f { s.facetX f with rewrite := none, stage := 0, drainFrom := none }).lower (facetBase f)
    F.FACET_FENCE_STAT_draining).toFacet f fcEmpty
/-- A facet's readback passed: its plane is valid (R225, R275) and, once clocks run, it is released in stages (R247 steps 3 and 4). -/
def State.writePassed (s : State) (f h : Nat) : State :=
  let p := s.facetPlane f
  ((s.writePlane f p h).validate f p (s.getF (handleBase h) F.CFG_HANDLE_DESIGN_design_id)).setFacetX f { s.facetX f with ever := true }
/-- Clocks start and the first release gap begins. -/
def State.startRelease (s : State) (f : Nat) : State :=
  ((s.setFacetX f { s.facetX f with stage := 1 }).toFacet f fcReleasing).planeActive f
/-- Bays as bay_init asks (R246). -/
def State.initBays (s : State) (f h mode : Nat) : State :=
  let c := s.planeCfg f (s.facetPlane f)
  if mode = 1 then (s.clearRequested f c).loadContents f h c else if mode = 2 then s.clearFacetBays f else s

/-- FACET_WRITE_DONE (R247): the write and readback of a facet's active plane by FACET_REWRITE end; `fail` is the frame whose readback
failed. -/
def execFacetWriteDone (f : Fin 48) (fail : Option (Fin 32768)) (s : State) : Result :=
  .next
    (let x := s.facetX f.val
     match x.rewrite, x.drainFrom with
     | some (h, mode), none =>
       if s.facetState f.val ≠ fcWriting then s
       else match fail with
         | none => ((s.writePassed f.val h).initBays f.val h mode).startRelease f.val
         | some fr =>
           let s1 := ((s.writePlane f.val (s.facetPlane f.val) h).toEmpty f.val).settleHandles.journal 0x12 false (facetWord f.val).toNat f.val fr.val 0
           (match s1.rewriteOp f.val with
            | some o => s1.complete o .hwFault []
            | none => s1)
     | _, _ => s)

/-- A CFG_APPLY completes (R274, R276): one whose every facet has released, or one that failed. Its result words come with every status, HW_FAULT too (DESIGN
CHOICE, assumption log 112). -/
def State.finishApply (s : State) (a : Apply) (st : Status) (done : List Nat) : State :=
  let m := done.foldl (fun m f => m ||| 2 ^ f) 0
  let s1 : State := { s with cfg := { s.cfg with applies := s.cfg.applies.filter (fun b => !(decide (b.src = a.src) && b.tag == a.tag)) } }
  let s2 := (if st = .hwFault ∨ st = .timeout then s1.cfgMark F.CFG_STAT_apply_failed else s1).settleHandles
  s2.completeOf a.src a.tag st [wd (m % 4294967296), wd (m / 4294967296), wd (min 65535 a.rewrites)]

/-- FACET_RELEASE_STAGE (R245, R247, R276): a release gap of a facet expires. After stage 3 the facet runs, and the rewrite, or the full
load whose last facet it is, completes. -/
def execFacetReleaseStage (f : Fin 48) (s : State) : Result :=
  .next
    (let x := s.facetX f.val
     if s.facetState f.val ≠ fcReleasing then s
     else if x.stage = 1 then (s.setFacetX f.val { x with stage := 2 }).unhold f.val
     else if x.stage = 2 then s.setFacetX f.val { x with stage := 3 }
     else
       let s1 := ((s.setFacetX f.val { x with stage := 0, rewrite := none }).toFacet f.val fcRunning).settleHandles
       match x.rewrite with
       | some _ =>
         (match s1.rewriteOp f.val with
          | some o => s1.complete o .ok [wd ((o.acc.headD 0).toNat), wd (s1.opMicros o)]
          | none => s1)
       | none =>
         match s1.cfg.applies.find? (fun a => !a.mirror && a.selected.contains f.val) with
         | some a => if a.selected.all (fun g => s1.facetState g == fcRunning) then s1.finishApply a .ok a.selected else s1
         | none => s1)

/-- FACET_REWRITE reaches its bound (R247): the facet is left EMPTY. -/
def State.rewriteTimeout (s : State) (f : Nat) (o : Op) : State :=
  ((((s.hold f).quietFacet f).toEmpty f).settleHandles.journal 0x12 false (facetWord f).toNat f 0 0).complete o .timeout []

/-! ## Facet reset (R250) -/

/-- A facet reset begins. -/
def State.resetFacet (s : State) (f : Nat) : State :=
  let s1 := (s.hold f).quietFacet f
  s1.setFacetX f { s1.facetX f with reset := 1 }

/-- FACET_RESET_RELEASE (R227, R250): 16 cycles after its start a facet reset releases the flip-flops and, 2 cycles later, at the next of these
events, the cells and the fence, unless the facet drains to OFF or its clocks have only just returned. Its cycles are those of a running clock. -/
def execFacetResetRelease (f : Fin 48) (s : State) : Result :=
  .next
    (let x := s.facetX f.val
     if !s.clocksRun f.val || x.reset = 0 then s
     else if x.reset = 1 then s.setFacetX f.val { x with reset := 2 }
     else
       let s1 := s.setFacetX f.val { x with reset := 0 }
       if x.clkReturn || s.facetState f.val != fcRunning then s1 else s1.unhold f.val)

/-! ## Power (R249) -/

/-- What a facet holds is gone (R249): OFF, both planes invalid, bays, SAUs and flip-flops lost. -/
def State.facetLost (s : State) (f : Nat) : State :=
  let s3 := (((((((s.endInit f false).hold f).quietFacet f).clearFacetBays f).regportGone f 0x0201).invalidate f 0).invalidate f 1).designGone (f / 12)
  let lo := 33 * 32768 * 2 * f
  let s4 : State := { s3 with
    fac := { s3.fac with
      frames := SMap.cut s3.fac.frames lo (lo + 33 * 32768 * 2)
      cfg := SMap.cut s3.fac.cfg (2 * f) (2 * f + 2)
      golden := SMap.cut s3.fac.golden (2 * f) (2 * f + 2) }
    cfg := { s3.cfg with keep := s3.cfg.keep.filter (fun p => p.1 / 2 != f) } }
  (((s4.setFacetX f { ever := (s4.facetX f).ever }).lower (facetBase f) F.FACET_STAT_init_busy).lower (facetBase f)
    F.FACET_FENCE_STAT_draining).toFacet f fcOff |>.settleHandles
/-- A facet powers up (R249): EMPTY, plane A next. -/
def State.facetPowered (s : State) (f : Nat) : State := (s.toFacet f fcEmpty).lower (facetBase f) F.FACET_PLANE_active
/-- Its clocks stop (R227, R249, R251): a facet that runs. -/
def State.facetStop (s : State) (f : Nat) : State := if s.facetState f = fcRunning then (s.hold f).toFacet f fcStopped else s
/-- Its clocks return; the cells hold for two cycles more (R227). -/
def State.facetResume (s : State) (f : Nat) : State := (s.setFacetX f { s.facetX f with clkReturn := true }).toFacet f fcRunning
/-- Two cycles of each regional clock later they follow the design, unless something else holds them by then (R227). -/
def State.facetResumed (s : State) (f : Nat) : State :=
  if (s.facetX f).clkReturn then
    let s1 := s.setFacetX f { s.facetX f with clkReturn := false }
    if (s.facetX f).reset = 0 ∧ s.facetState f = fcRunning then s1.unhold f else s1
  else s

end Sys2Proof.Machine
end

