-- ==== Sys2Proof/Machine/Streams.lean ====
section
/-! DEFINITION. Configuration streams: staging, verifying and applying (R254–R279), the frame scrubber (R283–R290, R295) and key loading
(R291, R292). -/
namespace Sys2Proof.Machine

/-! ## Staging (R260–R267) -/

/-- The command targets the configuration controller. -/
def Cmd.aimsCfg (c : Cmd) : Bool := c.aims 0 0x040 0
/-- The source of a CFG_STAGE. -/
def srcOfStage (w2 : Nat) : Nat := bitsOf w2 31 28
/-- The running CFG_STAGE of a handle. -/
def State.stageOp (s : State) (h : Nat) : Option Op := if s.hState h = 1 then s.handleOp 0x0200 h else none
/-- The running stage with source 3 (R266): its handle. -/
def State.pushHandle (s : State) : Option Nat :=
  (List.range 8).find? (fun h => match s.stageOp h with | some o => srcOfStage (o.w 2) == 3 | none => false)
/-- A new region overlaps a sector, or another handle's region (R265). -/
def State.regionTaken (s : State) (h base units : Nat) : Bool :=
  (regionParts base units).any (fun p => (List.range 32).any (fun x => x != 24 + h && s.secState p.1 x != secFree &&
    decide (s.getF (slotBase p.1 x) F.SEAL_SECT_RANGE_base ≤ p.2.2) && decide (p.2.1 ≤ s.getF (slotBase p.1 x) F.SEAL_SECT_RANGE_limit)))
/-- A device-local source range (R265). -/
def localRange (a n : Nat) : Bool := decide (a + n ≤ fmSize) || (decide (sramBase ≤ a) && decide (a + n ≤ sramBase + sramSize))

/-- The parameters of CFG_STAGE (R265 and its table). With `bytes` 0 only source, timeout and handle are checked, and the OK carries 0 in both result
words; a region in a stack that is POWERING or DRAINING is refused like one in a stack that is OFF (DESIGN CHOICE, assumption log 46). -/
def State.stageOk (s : State) (c : Cmd) : Bool :=
  let base := c.w 6
  let units := c.w 7
  decide (srcOfStage (c.w 2) < 5) && decide (c.f 2 27 16 ≤ 600) && decide (c.f 2 15 0 < 8) &&
  (c.w 5 == 0 ||
    (decide (1024 ≤ c.w 5) && c.f 6 31 24 == 0 && c.f 7 31 16 == 0 && units != 0 && decide ((base + units) * 65536 ≤ fmSize) &&
      (regionParts base units).all (fun p => s.dom (stackDom p.1) == 1) && !s.regionTaken (c.f 2 15 0) base units &&
      (srcOfStage (c.w 2) != 4 || c.f 4 15 8 == 0) &&
      (srcOfStage (c.w 2) != 0 || localRange (c.w 4 * 4294967296 + c.w 3) (c.w 5))))

/-- A stage begins (R260), after what the handle held is erased (R265). -/
def State.stage (s : State) (c : Cmd) : State :=
  let h := c.f 2 15 0
  let s1 := if s.hState h = 0 then s else s.eraseHandle h
  if c.w 5 = 0 then s1.completeOf c.src c.tag .ok [0, 0]
  else
    ((((s1.openRegion h (c.w 6) (c.w 7)).setF (handleBase h) F.CFG_HANDLE_STATE_state 1).setF (handleBase h) F.CFG_HANDLE_BASE_base
      (c.w 6)).setHandle h { size := c.w 7 * 65536, got := 0 })

/-- CFG_STAGE (R260, R265, R266). -/
def execCfgStage (c : Cmd) (s : State) : Result :=
  .next
    (let h := c.f 2 15 0
     s.long 0x0200 c
       { len := c.len == 8, tgt := c.aimsCfg, par := s.stageOk c,
         free := !s.heldByOther c && s.hState h != 3 && s.hState h != 5 && s.hState h != 6 && (s.stageOp h).isNone &&
           !(srcOfStage (c.w 2) == 3 && s.pushHandle.isSome) } none
       (fun s => s.stage c))

/-- A stage fails (R261): its handle is erased and the command ends. -/
def State.failStage (s : State) (h : Nat) (o : Op) (st : Status) : State :=
  let s1 := (s.eraseHandle h).complete o st []
  if st = .wrongDevice ∨ st = .streamShort then s1.cfgMark F.CFG_STAT_stage_failed else s1

/-- The lines of a linear range that it covers whole were written by the configuration controller, unsealed (R260, R531). -/
def State.stagedLines (s : State) (a n : Nat) : State :=
  (List.range 4).foldl (fun s k =>
    let lo := max ((a + 63) / 64) (33554432 * k)
    let hi := min ((a + n) / 64) (33554432 * (k + 1))
    if lo < hi then s.wroteLines k (lo - 33554432 * k) (hi - 1 - 33554432 * k) 0 else s) s
/-- Bytes enter the region. -/
def State.stageStore (s : State) (h : Nat) (bs : List Byte) : State :=
  ((s.store (s.regionBase h + (s.handle h).got) bs).stagedLines (s.regionBase h + (s.handle h).got) bs.length).setHandle h { s.handle h with got := (s.handle h).got + bs.length }

/-- Bytes after the header (R261 step 2, R267). -/
def State.stageRest (s : State) (h : Nat) (o : Op) (bs : List Byte) : State :=
  let total := s.getF (handleBase h) F.CFG_HANDLE_LEN_total_length
  let s1 := s.stageStore h (bs.take (total - (s.handle h).got))
  let got := (s1.handle h).got
  if got = total then
    (if endMarkerOk (s1.image h) total then
       (s1.setF (handleBase h) F.CFG_HANDLE_STATE_state 2).complete o .ok
         [wd total, wd (s1.getF (handleBase h) F.CFG_HANDLE_DESIGN_design_id)]
     else s1.failStage h o .streamShort)
  else if o.w 5 ≤ got then s1.failStage h o .streamShort
  else s1

/-- Stream bytes arrive (R261, R267); the header is checked when its 512 bytes are there, before anything beyond it is written. -/
def State.stageBytes (s : State) (h : Nat) (o : Op) (bs0 : List Byte) : State :=
  let got := (s.handle h).got
  let bs := bs0.take (o.w 5 - got)
  if 512 ≤ got then s.stageRest h o bs
  else
    let s1 := s.stageStore h (bs.take (512 - got))
    if (s1.handle h).got < 512 then s1
    else
      let hdr := s1.imageBytes h 0 512
      if !s1.ident.headerOk 1 hdr then s1.failStage h o .wrongDevice
      else if (s1.handle h).size < w32 hdr 0x024 then s1.failStage h o .badParam
      else
        ((s1.setF (handleBase h) F.CFG_HANDLE_LEN_total_length (w32 hdr 0x024)).setF (handleBase h) F.CFG_HANDLE_DESIGN_design_id
          (w32 hdr 0x02C)).stageRest h o (bs.drop (512 - got))

/-- The bytes that a read of frame memory gave; none where it failed or carried poison. -/
def bytesRead (r : MemAns × State) : Option (List Byte) × State := (if r.1.status = .ok ∧ !r.1.poison then some r.1.data else none, r.2)
/-- `k` bytes at an address of source `sel` (R265): device memory, flash, host memory, or what a lattice peer sent; none where the read fails. -/
def State.readFrom (s : State) (sel a k : Nat) (peer : List Byte) : Option (List Byte) × State :=
  if sel = 0 then (if a < fmSize then bytesRead (s.fmRead clsConfig a k []) else (some (s.load a k), s))
  else if sel = 1 then (some ((List.range k).map (fun i => SMap.get 0 s.flash (a + i))), s)
  else if sel = 2 then (if s.hostFails a k then none else some (s.hostLoad a k), s)
  else (some (peer.take k), s)
/-- The next `n` bytes of a stage's source (R265). -/
def State.stageRead (s : State) (h : Nat) (o : Op) (n : Nat) (peer : List Byte) : Option (List Byte) × State :=
  s.readFrom (srcOfStage (o.w 2)) (o.w 4 * 4294967296 + o.w 3 + (s.handle h).got) (min n (o.w 5 - (s.handle h).got)) peer

/-- CFG_STAGE_DATA (R261, R265–R267): the next `n` bytes come from the source of handle h; `peer` are those of a lattice peer. `err`:
the read failed; `refused`: the peer's rights do not admit it. -/
def execCfgStageData (h : Fin 8) (n : Nat) (peer : List Byte) (err refused : Bool) (s : State) : Result :=
  .next
    (if s.hState h.val ≠ 1 then s
     else match s.stageOp h.val with
       | none => s.eraseHandle h.val
       | some o =>
         if srcOfStage (o.w 2) = 3 then s
         else if refused && srcOfStage (o.w 2) == 4 then s.failStage h.val o .notAuthorised
         else
           let r := s.stageRead h.val o n peer
           match if err then none else r.1 with
           | some bs => r.2.stageBytes h.val o bs
           | none => r.2.failStage h.val o .hwFault)

/-- CFG_STAGE_TIMEOUT (R261): the staging timeout ends. -/
def execCfgStageTimeout (h : Fin 8) (s : State) : Result :=
  .next
    (if s.hState h.val ≠ 1 then s
     else match s.stageOp h.val with
       | none => s.eraseHandle h.val
       | some o => s.failStage h.val o .streamShort)

/-- A word enters CFG_PUSH (R266). -/
def State.push (s : State) (v : Nat) : State :=
  match s.pushHandle with
  | some h =>
    (match s.stageOp h with
     | some o => s.stageBytes h o (bytesOf 4 v)
     | none => s.cfgMark F.CFG_STAT_push_dropped)
  | none => s.cfgMark F.CFG_STAT_push_dropped

/-- CFG_PUSH (R266). -/
def execCfgPush (m : Master) (v : Word) (s : State) : Result := .next (s.ownWrite m 0 0x040 0x40 (fun s => s.push v.toNat))

/-! ## Verifying (R261–R264, R268) -/

/-- CFG_VERIFY (R268). -/
def execCfgVerify (c : Cmd) (s : State) : Result :=
  .next
    (let h := c.w 2
     s.long 0x0201 c
       { len := c.len == 3, tgt := c.aimsCfg, par := decide (h < 8) && s.hState h == 2, free := !s.heldByOther c } none
       (fun s => s.setF (handleBase h) F.CFG_HANDLE_STATE_state 3))

/-- The key of a header's key slot (R263). -/
def State.slotKey (s : State) (img : List Byte) : Option Nat :=
  let k := bitsOf (w32 img 0x028) 31 24
  if k < 4 then SMap.get none s.cfg.slots k else none

/-- Steps 3–5 of R261: the decrypted stream. -/
def State.checked (s : State) (kind : Nat) (img : List Byte) : Option (List Byte) :=
  if !s.ident.signatureOk img || !tableOk kind img then none else openAll (s.slotKey img) 0 (segmentsOf img) img

/-- A verification ends with a status that erases the handle (R261, R268). -/
def State.failVerify (s : State) (h : Nat) (o : Op) (st : Status) : State :=
  let s1 := (s.eraseHandle h).complete o st []
  if st = .authFail then s1.cfgMark F.CFG_STAT_verify_failed else s1

/-- CFG_VERIFY_COMPLETION (R261–R263): the checks of handle h end. None ends with HW_FAULT, which the status list has and no rule gives a cause for
(DESIGN CHOICE, assumption log 46). -/
def execCfgVerifyCompletion (h : Fin 8) (s : State) : Result :=
  .next
    (if s.hState h.val ≠ 3 then s
     else match s.handleOp 0x0201 h.val with
       | none => s.eraseHandle h.val
       | some o =>
         match s.checked 1 (s.image h.val) with
         | some plain =>
           ((s.store (s.regionBase h.val) plain).setF (handleBase h.val) F.CFG_HANDLE_STATE_state 4).complete o .ok []
         | none => s.failVerify h.val o .authFail)

/-! ## Applying (R270–R279) -/

/-- Some facet is RUNNING, STOPPED or SWAPPING (R277). -/
def State.anyLive (s : State) : Bool :=
  (List.range 48).any (fun f => s.facetState f == fcRunning || s.facetState f == fcStopped || s.facetState f == fcSwapping)
/-- R277: the frame-memory mapping that a stream sets does not stand against the load. -/
def State.mappingOk (s : State) (h mode : Nat) : Bool :=
  let w := w32 (s.imageBytes h 0 512) 0x038
  !w.testBit 1 || ((mode == 0 && !s.anyLive) || w % 2 == s.getF sysBase F.SYS_MEMMAP_interleave)

/-- The parameters of CFG_APPLY (R270, R277). -/
def State.applyOk (s : State) (c : Cmd) : Bool :=
  let h := c.f 2 15 0
  let mode := c.f 2 31 30
  let sel := s.applyMask c
  let fit (f : Nat) : Bool :=
    let st := s.facetState f
    st == fcOff || st == fcDraining || (if mode = 0 then st == fcEmpty else st == fcRunning || st == fcStopped)
  decide (mode < 2) && c.f 2 29 16 == 0 && decide (h < 8) && s.verified h && c.f 4 31 16 == 0 && c.f 5 31 16 == 0 &&
  (mode == 1 || gapOk (c.f 5 15 0)) && (facetsOf sel).all (fun f => (s.imageFacets h).testBit f) && (facetsOf sel).all fit && s.mappingOk h mode

/-- The write of a facet's plane begins (R272–R274). -/
def State.beginLoad (s : State) (mirror : Bool) (f : Nat) : State :=
  if mirror then
    let p := otherPlane (s.facetPlane f)
    let s1 := s.invalidate f p
    { s1 with
      cfg := { s1.cfg with keep := s1.cfg.keep.filter (fun x => x.1 != 2 * f + p) }
      fac := { s1.fac with golden := SMap.put 0 s1.fac.golden (2 * f + p) 0 } }
  else s.beginWrite f
/-- The facet that a quadrant writes now: the first of those to do. -/
def Apply.current (a : Apply) (q : Nat) : Option Nat := a.todo.find? (fun f => f / 12 == q)
/-- Replaces an apply. -/
def State.putApply (s : State) (a : Apply) : State :=
  { s with cfg := { s.cfg with applies := s.cfg.applies.map (fun b => if b.src = a.src ∧ b.tag = a.tag then a else b) } }

/-- CFG_APPLY begins (R272, R277). -/
def State.apply (s : State) (c : Cmd) : State :=
  let h := c.f 2 15 0
  let mirror := c.f 2 31 30 == 1
  let sel := facetsOf (s.applyMask c)
  let a : Apply := { src := c.src, tag := c.tag, mirror := mirror, handle := h, selected := sel, todo := sel, passed := [], failed := [],
                     rewrites := 0 }
  let w := w32 (s.imageBytes h 0 512) 0x038
  let s1 := if !mirror ∧ w.testBit 1 ∧ !s.anyLive then (s.setF sysBase F.SYS_MEMMAP_interleave (w % 2)).raise sysBase F.SYS_MEMMAP_set else s
  let s2 : State := { s1 with cfg := { s1.cfg with applies := s1.cfg.applies ++ [a] } }
  ((List.range 4).foldl (fun s q => match a.current q with | some f => s.beginLoad mirror f | none => s) s2).settleHandles

/-- CFG_APPLY (R270, R271, R277). -/
def execCfgApply (c : Cmd) (s : State) : Result :=
  .next
    (let sel := facetsOf (s.applyMask c)
     s.long 0x0202 c
       { len := c.len == 6, tgt := c.aimsCfg, par := s.applyOk c,
         dom := sel.all (fun f => s.facetState f != fcOff && s.facetState f != fcDraining && s.quadUp (f / 12)),
         free := !s.heldByOther c && sel.all (fun f => !s.applying f && !s.swapArmed f && (s.facetX f).rewrite.isNone && !s.otherHolds c (facetBase f)) } none
       (fun s => s.apply c))

/-- A facet of a full load that ended early is left EMPTY (R274); the journal records one whose write was aborted (R251), as it has recorded one
whose readback failed. -/
def State.abortLoad (s : State) (a : Apply) (f : Nat) : State :=
  if s.facetState f = fcOff then s
  else
    let s1 := ((s.hold f).quietFacet f).toEmpty f
    if s.facetState f = fcWriting ∧ !a.failed.contains f then s1.journal 0x12 false (facetWord f).toNat f 0 0 else s1
/-- A CFG_APPLY ends early (R272, R274): in mode 0b00 every selected facet is left EMPTY; in mode 0b01 the facets not passed keep an
invalid inactive plane. -/
def State.stopApply (s : State) (a : Apply) (st : Status) : State :=
  if a.mirror then
    (a.selected.foldl (fun s f => if a.passed.contains f ∨ s.facetState f = fcOff then s else s.invalidate f (otherPlane (s.facetPlane f))) s).finishApply a
      st a.passed
  else
    (a.selected.foldl (fun s f => s.abortLoad a f) s).finishApply a st []

/-- One facet of an apply is written and passed (R273, R274). -/
def State.loadPassed (s : State) (a : Apply) (f : Nat) : State :=
  if a.mirror then
    let p := otherPlane (s.facetPlane f)
    let s1 := (s.writePlane f p a.handle).validate f p (s.getF (handleBase a.handle) F.CFG_HANDLE_DESIGN_design_id)
    if (s1.planeCfg f p).bayInit.any (fun b => b.2 == 2) then
      { s1 with cfg := { s1.cfg with keep := s1.cfg.keep ++ [(2 * f + p, a.handle)] } }
    else s1
  else (s.writePassed f a.handle).initBays f a.handle 1

/-- CFG_APPLY_WRITE_DONE (R272–R274): the quadrant of facet f ends the write and readback of its plane; `rewritten` frames failed once,
and `fail` is a frame that failed twice. -/
def execCfgApplyWriteDone (f : Fin 48) (rewritten : Nat) (fail : Option (Fin 32768)) (s : State) : Result :=
  .next
    (match s.cfg.applies.find? (fun a => a.current (f.val / 12) == some f.val) with
     | none => s
     | some a =>
       let a1 : Apply := { a with todo := a.todo.filter (· != f.val), rewrites := a.rewrites + rewritten,
                                  passed := if fail.isNone then a.passed ++ [f.val] else a.passed,
                                  failed := if fail.isNone then a.failed else a.failed ++ [f.val] }
       let s1 := match fail with
         | none => s.loadPassed a f.val
         | some fr => s.journal 0x12 false (targetWord 0 0x040 0) f.val fr.val 0
       let s2 := s1.putApply a1
       if !a.mirror ∧ fail.isSome then s2.stopApply a1 .hwFault
       else
         let s3 := match a1.current (f.val / 12) with
           | some g => s2.beginLoad a.mirror g
           | none => s2
         if !a1.todo.isEmpty then s3
         else if a.mirror then s3.finishApply a1 (if a1.failed.isEmpty then Status.ok else Status.hwFault) a1.passed
         else a1.selected.foldl (fun s g => s.startRelease g) s3)

/-- A handle is lost with its stack's contents or a reset of its quadrant (R269): what uses it completes with DOMAIN_OFF. -/
def State.loseHandle (s : State) (h : Nat) : State :=
  let s1 := (s.cfg.applies.filter (fun a => a.handle == h)).foldl (fun s a => s.stopApply a .domainOff) s
  let s2 := [0x0200, 0x0201].foldl (fun s op => match s.handleOp op h with | some o => s.complete o .domainOff [] | none => s) s1
  s2.eraseHandle h
/-- The handles with a part of their region in stack k. -/
def State.handlesIn (s : State) (k : Nat) : List Nat :=
  (List.range 8).filter (fun h => s.hState h != 0 &&
    (regionParts (s.getF (handleBase h) F.CFG_HANDLE_BASE_base) ((s.handle h).size / 65536)).any (fun p => p.1 == k))

/-! ## The scrubber (R283–R290) -/

/-- The planes that the scrubber of Qq may check, by 2i + plane (R284): the valid ones, and those that a permanent fault alone marked invalid,
whose mending continues (R288). -/
def State.scrubPlanes (s : State) (q : Nat) : List Nat :=
  (List.range 24).filter (fun x =>
    let f := 12 * q + x / 2
    let p := x % 2
    s.facetState f != fcOff && (s.planeValid f p || s.fac.marked.contains (2 * f + p)) && (p == s.facetPlane f || s.flag (scrubBase q) F.SCRUB_CFG_inactive_en))
/-- The armed facet of Qq whose inactive plane is checked ahead of all other work (R232): several take turns, frame by frame (assumption
log 97). -/
def State.armedFacet (s : State) (q : Nat) : Option Nat :=
  let l := ((List.range 12).map (12 * q + ·)).filter (fun f => s.swapArmed f)
  match l.find? (fun f => decide (SMap.get 0 s.fac.turn q < f + 1)) with
  | some f => some f
  | none => l.head?

/-- The position after plane x, frame fr, and whether a pass ended. -/
def scrubNext (planes : List Nat) (x fr : Nat) : Nat × Bool :=
  if fr + 1 < 32768 ∧ planes.contains x then (32768 * x + fr + 1, false)
  else match planes.find? (fun y => decide (x < y)) with
    | some y => (32768 * y, false)
    | none => (32768 * planes.headD 0, true)

/-- A record of SCRUB_STAT. -/
def State.scrubMark (s : State) (q : Nat) (f : Fld) : State := s.mark (scrubBase q) f (114 + q)
/-- Counts on a SCRUB counter. -/
def State.scrubCount (s : State) (q : Nat) (f : Fld) : State := s.count (scrubBase q) f 1 (scrubBase q) F.SCRUB_STAT_cnt_overflow (114 + q)

/-- Changes a stored frame word in place. Flip-flops keep their values when an init bit of the active plane changes. -/
def State.alterFword (s : State) (f p fr w v : Nat) : State :=
  let old := s.fword f p fr w
  let s1 := s.setFword f p fr w v
  if fr < 30720 ∧ p = s.facetPlane f ∧ w < 32 then
    (List.range 32).foldl (fun s k =>
      let b := ffBit (k / 2) (k % 2) 3
      if b / 80 = w ∧ old.testBit (b % 80) ≠ v.testBit (b % 80) then
        s.setFf f fr k (SMap.get 0 s.fab.ffs (ffKey f fr k) != 1) else s) s1
  else if 30720 ≤ fr then s1.refreshCfg f p
  else s1
/-- Rewrites a frame's words in place (R282). -/
def State.alterFrame (s : State) (f p fr bits : Nat) : State :=
  let ws := (List.range 32).map (fun w => bitsOf bits (80 * w + 79) (80 * w))
  let s1 := ((List.range 32).zip ws).foldl (fun s x => s.alterFword f p fr x.1 (withParity x.2)) s
  s1.setFword f p fr 32 (withParity (ws.foldl (· ^^^ ·) 0))
/-- The stored words of a frame, the column word last. -/
def State.frameWords (s : State) (f p fr : Nat) : List Nat := (List.range 33).map (fun w => s.fword f p fr w)
/-- The one bit that is set in an 80-bit syndrome, if exactly one is. -/
def oneBitOf (x : Nat) : Option Nat := (List.range 80).find? (fun b => x == 2 ^ b)

/-- The result of a frame check (R285, R287): outcome, word and bit located; none where nothing is wrong. The model's choices (DESIGN CHOICE, assumption log
45): of several failing words the lowest is named (R295), the bit is 127 where the column word is rebuilt (R295), and a golden copy that does not hold the
frame counts as none (R287). -/
def State.frameCheck (s : State) (f p fr : Nat) : Option (Nat × Nat × Nat) :=
  let ws := s.frameWords f p fr
  let bad := (List.range 33).filter (fun w => !fwordGood (ws.getD w 0))
  let syn := ws.foldl (fun x w => x ^^^ (w % 2 ^ 80)) 0
  let rewrite := if ((s.goldenOf f p).bind (fun h => s.goldenFrame h f fr)).isSome then 1 else 2
  match bad with
  | [w] =>
    if w = 32 then some (4, 32, 127)
    else (match oneBitOf syn with
    | some b => some (0, w, b)
    | none => some (rewrite, w, 127))
  | w :: _ => some (rewrite, w, 127)
  | [] =>
    if syn ≠ 0 then some (if rewrite = 1 then 3 else 2, 63, 127)
    else none

/-- An essential word of the frame is among those that fail; any word is where the fault lies in none of them (R289). -/
def State.frameEss (s : State) (f p fr : Nat) : Bool :=
  let mask := s.essential f p fr
  let bad := (List.range 33).filter (fun w => !fwordGood (s.fword f p fr w))
  if bad.isEmpty then mask != 0 else bad.any (fun w => if w = 32 then mask != 0 else mask.testBit w)
/-- The action of an outcome on the frame (R285, R287). -/
def State.frameMend (s : State) (f p fr outcome w b : Nat) : State :=
  if outcome = 0 then s.alterFword f p fr w (s.fword f p fr w ^^^ 2 ^ b)
  else if outcome = 4 then
    s.setFword f p fr 32 (withParity (((s.frameWords f p fr).take 32).foldl (fun x w => x ^^^ (w % 2 ^ 80)) 0))
  else if outcome = 2 then s.invalidate f p
  else match (s.goldenOf f p).bind (fun h => s.goldenFrame h f fr) with
    | some bits => s.alterFrame f p fr bits
    | none => s

/-- R288: the fault is permanent with this outcome. -/
def State.framePermanent (s : State) (k outcome fr w b : Nat) (stuck : Bool) : Bool :=
  let l := recent s.now s.fac.hist
  (stuck && (outcome == 1 || outcome == 3)) ||
  (outcome == 0 && l.any (fun e => e.unit == k && e.word == 64 * fr + w && e.bit == b && e.corrected)) ||
  decide (s.jrnl.threshold < (l.filter (fun e => e.unit == k)).length + 1)

/-- The records of an outcome (R288, R289). -/
def State.frameOutcome (s : State) (f p fr outcome w b : Nat) (ess stuck : Bool) : State :=
  let q := f / 12
  let base := scrubBase q
  let perm := s.framePermanent (2 * f + p) outcome fr w b stuck
  let s1 : State := { s with fac := { s.fac with
    hist := recent s.now s.fac.hist ++ [{ unit := 2 * f + p, word := 64 * fr + w, bit := b, time := s.now, corrected := outcome == 0 }] } }
  let s2 := s1.scrubCount q (if outcome = 0 ∨ outcome = 4 then F.SCRUB_SH_CORR_LO_lo else F.SCRUB_SH_UNCORR_LO_lo)
  let s3 := (((((((s2.setF base F.SCRUB_LOC_outcome outcome).setB base F.SCRUB_LOC_permanent perm).setB base F.SCRUB_LOC_essential ess).setF
    base F.SCRUB_LOC_plane p).setF base F.SCRUB_LOC_facet f).setF base F.SCRUB_LOC_frame fr).setF base F.SCRUB_LOC_BIT_word w).setF base
    F.SCRUB_LOC_BIT_bit b
  let loc := outcome * 536870912 + bit perm * 268435456 + bit ess * 134217728 + p * 67108864 + f * 1048576 + fr
  let entry (x : State) (isPerm : Bool) : State := x.journal 0x11 isPerm (targetWord (1 + q) 0x030 0) loc (w * 65536 + b) 0
  let s4 := if ess then entry (s3.scrubMark q F.SCRUB_STAT_essential) false else s3
  if perm then entry (((if s4.planeValid f p then s4.setMarked f p true else s4).invalidateOnly f p).scrubMark q F.SCRUB_STAT_permanent) true else s4

/-- One frame is checked after upsets have flipped the bits `hits` (word, bit; bit 80 is the parity bit) of it (R285–R289). An armed
swap whose incoming plane is invalid afterwards is cancelled (R232). -/
def State.checkFrame (s : State) (f p fr : Nat) (hits : List (Fin 33 × Fin 81)) (stuck : Bool) : State :=
  let s1 := hits.foldl (fun s x => s.alterFword f p fr x.1.val (s.fword f p fr x.1.val ^^^ 2 ^ x.2.val)) s
  match s1.frameCheck f p fr with
  | none => s1
  | some (outcome, w, b) =>
    let s2 := (s1.frameMend f p fr outcome w b).frameOutcome f p fr outcome w b (s1.frameEss f p fr) stuck
    if s2.swapArmed f ∧ p = otherPlane (s2.facetPlane f) ∧ !s2.planeValid f p then
      (s2.facetMark f F.FACET_STAT_swap_cancelled).endSwap f .hwFault
    else s2

/-- A frame of the facet is being written (R290). -/
def State.beingWritten (s : State) (f p : Nat) : Bool :=
  (s.facetState f == fcWriting && (s.facetX f).drainFrom.isNone && p == s.facetPlane f) ||
  (s.cfg.applies.any (fun a => a.mirror && a.current (f / 12) == some f) && p == otherPlane (s.facetPlane f)) || (s.facetX f).initLoad

/-- SCRUB_FRAME_CHECK (R284–R290): the next frame is checked. `stuck`: a rewritten frame fails its readback twice (R286). -/
def execScrubFrameCheck (q : Fin 4) (hits : List (Fin 33 × Fin 81)) (stuck : Bool) (s : State) : Result :=
  .next
    (match s.armedFacet q.val with
     | some f =>
       let p := otherPlane (s.facetPlane f)
       let fr := SMap.get 0 s.fac.ahead f
       let s1 : State := { s with fac := { s.fac with ahead := SMap.put 0 s.fac.ahead f ((fr + 1) % 32768), turn := SMap.put 0 s.fac.turn q.val (f + 1) } }
       s1.checkFrame f p fr hits stuck
     | none =>
       let planes := s.scrubPlanes q.val
       if !s.flag (scrubBase q.val) F.SCRUB_CFG_frame_en || planes.isEmpty then s
       else
         let pos0 := SMap.get 0 s.fac.pos q.val
         -- a plane that is no longer checked is left; past the last plane the pass ends
         let start := if planes.contains (pos0 / 32768) then (pos0, false) else scrubNext planes (pos0 / 32768) 32768
         let pos := start.1
         let x := pos / 32768
         let f := 12 * q.val + x / 2
         let nx := scrubNext planes x (pos % 32768)
         let s1 := if s.beingWritten f (x % 2) then s else s.checkFrame f (x % 2) (pos % 32768) hits stuck
         let s2 : State := { s1 with fac := { s1.fac with pos := SMap.put 0 s1.fac.pos q.val nx.1 } }
         if nx.2 || start.2 then (s2.scrubCount q.val F.SCRUB_SH_PASS_LO_lo).scrubMark q.val F.SCRUB_STAT_pass_done else s2)

/-- The quadrant whose scrubber a command targets. -/
def Cmd.scrubOf (c : Cmd) : Option Nat := if 1 ≤ c.die ∧ c.die ≤ 4 ∧ c.blk = 0x030 ∧ c.inst = 0 then some (c.die - 1) else none

/-- SCRUB_CTL (R290 and its table). -/
def execScrubCtl (c : Cmd) (s : State) : Result :=
  .next
    (let q := c.scrubOf.getD 0
     let b := scrubBase q
     s.immediate 0x0206 c
       { len := c.len == 5, tgt := c.scrubOf.isSome,
         par := c.f 2 31 3 == 0 && (c.w 3 == 0 || (decide (16 ≤ c.w 3) && decide (c.w 3 ≤ 16384))) &&
           (c.w 4 == 0 || (decide (80 ≤ c.w 4) && decide (c.w 4 ≤ 100000))),
         dom := s.quadUp q, free := !s.heldByOther c } (fun s =>
       (((((s.setF b F.SCRUB_CFG_inactive_en (c.f 2 2 2)).setF b F.SCRUB_CFG_frame_en (c.f 2 1 1)).setF b F.SCRUB_CFG_bay_en (c.f 2 0 0)).setF b
         F.SCRUB_CFG_bay_interval (if c.w 3 = 0 then 250 else c.w 3)).setF b F.SCRUB_GAP_frame_gap (if c.w 4 = 0 then 100 else c.w 4), [])))

/-- SCRUB_CTL_QUERY: words 2–4. -/
def execScrubCtlQuery (c : Cmd) (s : State) : Result :=
  .next
    (let q := c.scrubOf.getD 0
     let b := scrubBase q
     s.immediate 0x0286 c { len := c.len == 2, tgt := c.scrubOf.isSome, dom := s.quadUp q } (fun s =>
       (s, [wd (s.getF b F.SCRUB_CFG_inactive_en * 4 + s.getF b F.SCRUB_CFG_frame_en * 2 + s.getF b F.SCRUB_CFG_bay_en),
            wd (s.getF b F.SCRUB_CFG_bay_interval), wd (s.getF b F.SCRUB_GAP_frame_gap)])))

/-! ## Keys (R291, R292) -/

/-- The device-local address of a key blob. -/
def blobAddr (w3 w4 : Nat) : Nat := w4 * 4294967296 + w3
/-- A key slot is filled or erased (R291, R292): SEC_SLOTS shows which slots hold a key (R294), and the slot's frame counter returns
to 0 (R585). -/
def State.setSlot (s : State) (k : Nat) (key : Option Nat) : State :=
  let s1 : State := { s with cfg := { s.cfg with slots := SMap.put none s.cfg.slots k key }
                             lat := { s.lat with ctr := SMap.put 0 s.lat.ctr k 0 } }
  s1.setF secBase F.SEC_SLOTS_loaded
    ((List.range 4).foldl (fun m i => m + bit (SMap.get none s1.cfg.slots i).isSome * 2 ^ i) 0)

/-- KEY_LOAD (R291). -/
def execKeyLoad (c : Cmd) (s : State) : Result :=
  .next
    (s.long 0x0902 c
       { len := c.len == 5, tgt := c.aims 0 0x048 0,
         par := decide (c.w 2 < 4) && c.f 4 31 8 == 0 && c.w 3 % 64 == 0 && localRange (blobAddr (c.w 3) (c.w 4)) 256,
         free := !s.heldByOther c } none id)

/-- The bytes of a key blob; none where the read fails. -/
def State.blobBytes (s : State) (a : Nat) (es : List LineErr) : Option (List Byte) × State :=
  if a < fmSize then bytesRead (s.fmRead 5 a 256 es) else (some (s.load a 256), s)
/-- The key-encryption key, derived from the device identity key (R291); the identity key is the device's own. -/
def Ident.kek (i : Ident) : Nat := Config.kdf i.serial 1 0
/-- The key in a blob, or why it is refused (R291). -/
def Ident.blobKey (i : Ident) (slot : Nat) (b : List Byte) : Except Status Nat :=
  let xy := (b.drop 0xA0).take 96
  if ofBytes (b.take 16) ≠ i.serial ∨ (b.getD 16 0).toNat ≠ slot then .error .wrongDevice
  else if !i.ownerKeyOk xy || !Config.ecdsaOk (ofBytesBE xy) (Config.sha384 (b.take 0x40)) ((b.drop 0x40).take 96) then .error .authFail
  else match Config.keyUnwrap i.kek ((b.drop 0x18).take 40) with
    | some k => .ok k
    | none => .error .authFail

/-- The check of a key blob ends with the key or a refusal (R291). -/
def State.keyLoadEnd (s : State) (o : Op) (k : Except Status Nat) : State :=
  match k with
  | .ok k => (s.setSlot (o.w 2) (some k)).complete o .ok []
  | .error st => (s.mark secBase F.SEC_STAT_key_refused 113).complete o st []
/-- The bytes of a key blob were read, or not (R291). -/
def State.keyBlobRead (s : State) (o : Op) (r : Option (List Byte) × State) : State :=
  match r.1 with
  | none => r.2.complete o .hwFault []
  | some b => r.2.keyLoadEnd o (s.ident.blobKey (o.w 2) b)
/-- KEY_LOAD_COMPLETION (R291): the check of the blob ends. `es` is what the pins of frame memory give. -/
def execKeyLoadCompletion (es : List LineErr) (s : State) : Result :=
  .next
    (match s.hq.ops.find? (fun o => o.opcode == 0x0902) with
     | none => s
     | some o => s.keyBlobRead o (s.blobBytes (blobAddr (o.w 3) (o.w 4)) es))

end Sys2Proof.Machine
end

