-- ==== Sys2Proof/Machine/Cue.lean ====
section
/-! DEFINITION. Cue cores and their watchdogs (R547–R562): states, resets, timers and CUE_CTL. Their programs act through the rows
for register and memory accesses. -/
namespace Sys2Proof.Machine

/-! ## States (R557) -/

/-- The codes of CUE_STAT.state. -/
def cuOff : Nat := 0
@[inherit_doc cuOff] def cuHeld : Nat := 1
@[inherit_doc cuOff] def cuRunning : Nat := 2
@[inherit_doc cuOff] def cuHalted : Nat := 3
@[inherit_doc cuOff] def cuFaulted : Nat := 4
@[inherit_doc cuOff] def cuStopped : Nat := 5

/-- CUE_STAT.state. -/
def State.cueState (s : State) (n : Nat) : Nat := s.getF (cueBase n) F.CUE_STAT_state
/-- The instruction memory of cue[n] (R38). -/
def cueImem (n : Nat) : Nat := 0x7000800000 + n * 0x20000
/-- Its data memory (R38). -/
def cueDmem (n : Nat) : Nat := 0x7000810000 + n * 0x20000
/-- A record of CUE_STAT that source 688 + n marks (R562). -/
def State.cueMark (s : State) (n : Nat) (f : Fld) : State := s.mark (cueBase n) f (688 + n)
/-- Microseconds (ticks) since a time. -/
def State.ticksSince (s : State) (t : Nat) : Nat := (s.now - t) / 1000

/-! ## Watchdogs (R558–R560) -/

/-- CUE_WDT_CFG.enable. -/
def State.wdtOn (s : State) (n : Nat) : Bool := s.flag (cueBase n) F.CUE_WDT_CFG_enable
/-- The watchdog counts: enabled, in a state that counts, and not frozen. -/
def State.wdtCounts (s : State) (n : Nat) : Bool :=
  s.wdtOn n && s.cueState n != cuHeld && s.cueState n != cuOff && !(s.cueX n).frozen
/-- Ticks remaining (CUE_WDT_COUNT): 0 while disabled. -/
def State.wdtLeft (s : State) (n : Nat) : Nat :=
  if !s.wdtOn n then 0
  else if s.wdtCounts n then monus (s.cueX n).wdt (s.ticksSince (s.cueX n).wdtAt) else (s.cueX n).wdt
/-- The watchdog's count is `v` from now on. -/
def State.setWdt (s : State) (n v : Nat) : State := s.setCueX n { s.cueX n with wdt := v, wdtAt := s.now }
/-- It loads period; 0 acts as 1 (R574). -/
def State.loadWdt (s : State) (n : Nat) : State := s.setWdt n (max 1 (s.getF (cueBase n) F.CUE_WDT_CFG_period))
/-- The state in which a watchdog is frozen (R557, R560): STOPPED, and HALTED where freeze_on_halt is set. -/
def State.freezes (s : State) (n v : Nat) : Bool :=
  v == cuStopped || (v == cuHalted && s.flag (cueBase n) F.CUE_WDT_CFG_freeze_on_halt)

/-- A core changes state (R557, R560, R562, R660): the trace and source 696 + n see it; a frozen count stands still, and on return to
RUNNING it is at least 1,024. -/
def State.toCue (s : State) (n v : Nat) : State :=
  if s.cueState n = v then s
  else
    let left := s.wdtLeft n
    let was := (s.cueX n).frozen
    let s1 := s.setF (cueBase n) F.CUE_STAT_state v
    let s2 := s1.setCueX n { s1.cueX n with
      wdt := if was && v == cuRunning then max 1024 left else left, wdtAt := s1.now, frozen := s1.freezes n v }
    let s3 := if s2.traces 3 then
        s2.tracePacket 3 n (if v = cuHalted then s2.getF (dbgBase + 0x40 * n) F.DBG_RUN_reason else 0) v false
      else s2
    if v = cuHalted ∨ v = cuFaulted then s3.signal (696 + n) else s3

/-! ## Resets and starts (R554–R556) -/

/-- An agent's epoch (R569). -/
def State.epoch (s : State) (a : Nat) : Nat := s.getF (mbxBase + 4 * a) F.MBX_EPOCH_epoch
/-- The group of mailbox i (R575). -/
def mbBase (i : Nat) : Nat := mbxBase + 0x20 * i
/-- A record of a mailbox (R573). -/
def State.mbMark (s : State) (i : Nat) (f : Fld) : State := s.mark (mbBase i) f (640 + i)
/-- MB_STAT.full. -/
def State.mbFull (s : State) (i : Nat) : Bool := s.flag (mbBase i) F.MB_STAT_full
/-- An agent is reset (R569, R570): its epoch goes up, and mailboxes whose posted message it should have received record that. -/
def State.agentReset (s : State) (a : Nat) : State :=
  (List.range 48).foldl (fun s i =>
    if s.mbFull i ∧ s.getF (mbBase i) F.MB_CFG_receiver = a then s.mbMark i F.MB_STAT_receiver_reset else s)
    (s.setF (mbxBase + 4 * a) F.MBX_EPOCH_epoch (s.epoch a + 1))

/-- A core is reset (R556). -/
def State.resetCue (s : State) (n : Nat) : State :=
  let s1 := s.setCueX n { s.cueX n with resv := none, first := false }
  ((s1.lower (cueBase n) F.CUE_MSIP_msip).lower (cueBase n) F.CUE_WDT_CFG_lock).agentReset (n + 1)

/-- CUE_ENTRY. -/
def State.cueEntry (s : State) (n : Nat) : Nat :=
  s.getF (cueBase n) F.CUE_ENTRY_HI_entry * 4294967296 + s.getF (cueBase n) F.CUE_ENTRY_LO_entry * 2
/-- The number of the resume pc (R656). -/
def regPc : Nat := 0x2000
/-- A register of a core by its number (R656). -/
def State.cueReg (s : State) (n r : Nat) : Nat := SMap.get 0 (s.cueX n).regs r
/-- Gives it a value. -/
def State.setCueReg (s : State) (n r v : Nat) : State :=
  s.setCueX n { s.cueX n with regs := SMap.put 0 (s.cueX n).regs r (v % 2 ^ 64) }

/-- A core begins at its entry (R554, R558, R655): the watchdog loads period, and with halt_on_reset the core halts before its first fetch. -/
def State.startCue (s : State) (n : Nat) : State :=
  let s1 := (s.loadWdt n).setCueReg n regPc (s.cueEntry n)
  if s1.flag (dbgBase + 0x40 * n) F.DBG_RUN_halt_on_reset && s1.right 0 && s1.dbg.on then
    (s1.setF (dbgBase + 0x40 * n) F.DBG_RUN_reason 3).toCue n cuHalted
  else s1.toCue n cuRunning

/-- Reset and hold. -/
def State.holdCue (s : State) (n : Nat) : State := (s.resetCue n).toCue n cuHeld
/-- Reset, then begin at entry; a core already running starts anew. -/
def State.restartCue (s : State) (n : Nat) : State := (s.holdCue n).startCue n

/-! ## CUE_CTL (R554, R555) -/

/-- The core that a command targets. -/
def Cmd.cueOf (c : Cmd) : Option Nat := if c.die = 0 ∧ 0x010 ≤ c.blk ∧ c.blk ≤ 0x017 ∧ c.inst = 0 then some (c.blk - 0x010) else none
/-- The entry a CUE_CTL gives. -/
def Cmd.cueEntry (c : Cmd) : Nat := c.f 4 7 0 * 4294967296 + c.w 3
/-- A non-zero entry must lie in the core's own instruction memory or the shared SRAM and be 2-byte aligned (R555). -/
def entryOk (n e : Nat) : Bool :=
  e == 0 || (e % 2 == 0 && ((decide (cueImem n ≤ e) && decide (e < cueImem n + 0x10000)) || (decide (sramBase ≤ e) && decide (e < sramBase + sramSize))))
/-- The parameters of CUE_CTL (R554, R555). -/
def State.cueCtlOk (s : State) (n : Nat) (c : Cmd) : Bool :=
  c.f 2 31 2 == 0 && c.f 2 1 0 != 3 && c.f 4 31 8 == 0 && entryOk n c.cueEntry &&
  !(c.f 2 1 0 == 1 && (s.cueState n == cuRunning || s.cueState n == cuHalted || s.cueState n == cuFaulted))

/-- CUE_CTL acts (R554–R557). -/
def State.cueCtl (s : State) (n : Nat) (c : Cmd) : State :=
  let e := c.cueEntry
  let s1 := if e = 0 then s else (s.setF (cueBase n) F.CUE_ENTRY_LO_entry (e / 2 % 2147483648)).setF (cueBase n) F.CUE_ENTRY_HI_entry (e / 4294967296)
  if c.f 2 1 0 = 0 then s1.holdCue n else if c.f 2 1 0 = 1 then s1.startCue n else s1.restartCue n

/-- CUE_CTL (R554, R555). -/
def execCueCtl (c : Cmd) (s : State) : Result :=
  .next
    (let n := c.cueOf.getD 0
     s.long 0x0108 c
       { len := c.len == 5, tgt := c.cueOf.isSome, par := s.cueCtlOk n c, dom := s.cueState n != cuOff,
         free := !s.heldByOther c && s.cueState n != cuStopped } none (fun s => s.cueCtl n c))

/-- CUE_CTL_QUERY (R554): action 1 while RUNNING, and CUE_ENTRY. -/
def execCueCtlQuery (c : Cmd) (s : State) : Result :=
  .next
    (let n := c.cueOf.getD 0
     s.immediate 0x0188 c { len := c.len == 2, tgt := c.cueOf.isSome } (fun s =>
       (s, [wd (bit (s.cueState n == cuRunning)), wd (s.cueEntry n % 4294967296), wd (s.cueEntry n / 4294967296)])))

/-- The target word of a core. -/
def cueWord (n : Nat) : Word := wd (targetWord 0 (0x010 + n) 0)
/-- CUE_CTL_COMPLETION (R555). -/
def execCueCtlCompletion (n : Fin 8) (s : State) : Result :=
  .next
    (match s.pendingOn 0x0108 (cueWord n.val) with
     | some o => s.complete o .ok [wd (s.cueState n.val)]
     | none => s)

/-! ## Traps, timers and reservations (R550, R553, R561) -/

/-- CUE_FAULT (R561): a trap of a running core whose handler cannot be fetched: mcause and mepc of the first trap. -/
def execCueFault (n : Fin 8) (cause pc : BitVec 64) (s : State) : Result :=
  .next
    (if s.cueState n.val ≠ cuRunning then s
     else
       let b := cueBase n.val
       let s1 := ((s.raise b F.CUE_STAT_faulted).setF b F.CUE_CAUSE_interrupt (bitsOf cause.toNat 63 63)).setF b F.CUE_CAUSE_code cause.toNat
       let s2 := (s1.setF b F.CUE_FAULT_PC_LO_pc pc.toNat).setF b F.CUE_FAULT_PC_HI_pc (bitsOf pc.toNat 39 32)
       (s2.setCueX n.val { s2.cueX n.val with resv := none }).toCue n.val cuFaulted)

/-- mtime (R553): 10 ns counts of the timebase since power-on. -/
def State.mtime (s : State) : Nat := (s.now - s.pwr.t0) / 10 % 2 ^ 64
/-- CUE_MTIMECMP. -/
def State.mtimecmp (s : State) (n : Nat) : Nat :=
  s.getF (cueBase n) F.CUE_MTIMECMP_HI_cmp * 4294967296 + s.getF (cueBase n) F.CUE_MTIMECMP_LO_cmp
/-- The machine timer interrupt follows the comparison (R553). -/
def State.settleTimer (s : State) (n : Nat) : State := s.setCueX n { s.cueX n with timer := decide (s.mtimecmp n ≤ s.mtime) }

/-- Time comes `d` ns further: an event that marks its passing has come. -/
def State.waitNs (s : State) (d : Nat) : State := s.reachNow (s.now + d)
/-- CUE_TIMER_INTERRUPT (R553): mtime has reached the compare value, so time has come at least that far. -/
def execCueTimerInterrupt (n : Fin 8) (s : State) : Result :=
  .next
    (let t := s.mtimecmp n.val
     if t ≤ s.mtime then s.settleTimer n.val
     else (s.waitNs (10 * (t - s.mtime))).settleTimer n.val)

/-- CUE_RESERVATION_TIMEOUT (R550): a reservation is 4,096 core cycles of 1.2 GHz old, so time has come at least that far. -/
def execCueReservationTimeout (n : Fin 8) (s : State) : Result :=
  .next
    (match (s.cueX n.val).resv with
     | some (_, t) => let s1 := s.waitNs (monus (t + 3414) s.now)
       s1.setCueX n.val { s1.cueX n.val with resv := none }
     | none => s)

/-! ## Watchdog commands (R558, R559) -/

/-- CUE_WDT_EXPIRY (R558): the count of a counting watchdog reaches 0, so time has come at least that far. -/
def execCueWdtExpiry (n : Fin 8) (s0 : State) : Result :=
  .next
    (let x := s0.cueX n.val
     let s := s0.waitNs (monus (x.wdtAt + x.wdt * 1000) s0.now)
     if !s0.wdtCounts n.val then s0
     else if !x.first then
       ((s.cueMark n.val F.CUE_STAT_wdt_expired).loadWdt n.val |> fun s => s.setCueX n.val { s.cueX n.val with first := true })
     else
       let a := s.getF (cueBase n.val) F.CUE_WDT_CFG_action
       let s1 := (s.setCueX n.val { x with first := false }).loadWdt n.val
       if a = 0 then s1
       else
         let s2 := s1.cueMark n.val F.CUE_STAT_wdt_reset
         if a = 2 then s2.holdCue n.val else s2.restartCue n.val)

/-- Masters that may write a CUE block (R574). -/
def cueWriter : Master → Bool
  | .hostMgmt => true
  | .cue _ => true
  | .debug => true
  | _ => false
/-- A write to a register of cue[n] (R574). -/
def State.cueWrite (s : State) (m : Master) (n off : Nat) (act : State → State) : State :=
  s.ownWrite m 0 (0x010 + n) off (fun s => if cueWriter m then act s else s)

/-- A write of CUE_WDT_KICK (R559, R651). -/
def State.wdtKick (s : State) (m : Master) (n v : Nat) : State :=
  if m = .debug ∨ m = .cue (Fin.ofNat 8 n) then
    (if v % 2 = 1 then
       let s1 := s.setCueX n { s.cueX n with first := false }
       if s1.wdtOn n then s1.loadWdt n else s1
     else s)
  else s.cueMark n F.CUE_STAT_kick_refused
/-- CUE_WDT_KICK (R559). -/
def execCueWdtKick (m : Master) (n : Fin 8) (v : Word) (s : State) : Result :=
  .next (s.ownWrite m 0 (0x010 + n.val) 0x20 (fun s => s.wdtKick m n.val v.toNat))

/-- A write of CUE_WDT_CFG (R558–R560): a cue core's is ignored while lock = 1; setting enable loads period. -/
def State.wdtCfg (s : State) (m : Master) (n v : Nat) : State :=
  let b := cueBase n
  let isCue := match m with | .cue _ => true | _ => false
  if isCue && s.flag b F.CUE_WDT_CFG_lock then s
  else
    let left := s.wdtLeft n
    let was := s.wdtOn n
    let s1 := ((((s.setF b F.CUE_WDT_CFG_enable (bitsOf v 31 31)).setF b F.CUE_WDT_CFG_freeze_on_halt (bitsOf v 30 30)).setF b
      F.CUE_WDT_CFG_lock (bitsOf v 29 29)).setF b F.CUE_WDT_CFG_action (bitsOf v 28 27)).setF b F.CUE_WDT_CFG_period (bitsOf v 23 0)
    let s2 := s1.setCueX n { s1.cueX n with frozen := s1.freezes n (s1.cueState n) }
    if v.testBit 31 ∧ !was then (s2.setCueX n { s2.cueX n with first := false }).loadWdt n else s2.setWdt n left
/-- CUE_WDT_CFG_WRITE (R558, R559). -/
def execCueWdtCfgWrite (m : Master) (n : Fin 8) (v : Word) (s : State) : Result :=
  .next (s.cueWrite m n.val 0x18 (fun s => s.wdtCfg m n.val v.toNat))

/-- CUE_MSIP_WRITE (R553). -/
def execCueMsipWrite (m : Master) (n : Fin 8) (v : Word) (s : State) : Result :=
  .next (s.cueWrite m n.val 0x24 (fun s => s.setF (cueBase n.val) F.CUE_MSIP_msip (v.toNat % 2)))

/-! ## Power (R556, R557) -/

/-- A core goes OFF: reset, its memories lost. -/
def State.cueLost (s : State) (n : Nat) : State := (((s.resetCue n).zero (cueImem n) 0x20000).toCue n cuOff)
/-- A core comes ON from OFF: both memories zeroed, HELD. -/
def State.cuePowered (s : State) (n : Nat) : State := (s.zero (cueImem n) 0x20000).toCue n cuHeld

end Sys2Proof.Machine
end

