-- ==== Sys2Proof/Machine/Mailbox.lean ====
section
/-! DEFINITION. The mailbox bank (R563–R573). -/
namespace Sys2Proof.Machine

/-- The agent a master is (R563). -/
def agentOf : Master → Option Nat
  | .hostMgmt => some 0
  | .cue n => some (n.val + 1)
  | _ => none
/-- A master is admitted as agent a (R568): it is that agent, or an effectful debug write. -/
def isAgent (m : Master) (a : Nat) : Bool := decide (m = .debug) || agentOf m == some a

/-- MB_CFG.sender and MB_CFG.receiver. -/
def State.mbSender (s : State) (i : Nat) : Nat := s.getF (mbBase i) F.MB_CFG_sender
@[inherit_doc State.mbSender] def State.mbReceiver (s : State) (i : Nat) : Nat := s.getF (mbBase i) F.MB_CFG_receiver
/-- The mailbox is bound: enabled, with agent codes 0–8 (R563). -/
def State.mbBound (s : State) (i : Nat) : Bool :=
  s.flag (mbBase i) F.MB_CFG_enable && decide (s.mbSender i ≤ 8) && decide (s.mbReceiver i ≤ 8)
/-- A write that is ignored and recorded (R563, R568). -/
def State.mbRefuse (s : State) (i : Nat) : State := s.mbMark i F.MB_STAT_refused
/-- A write to mailbox i that only agents `who` may make. -/
def State.mbBy (s : State) (m : Master) (i : Nat) (who : List Nat) (act : State → State) : State :=
  if s.mbBound i && who.any (fun a => isAgent m a) then act s else s.mbRefuse i
/-- Source 640 + i follows full and the unmasked doorbells (R573). -/
def State.mbLive (s : State) (i : Nat) : Bool :=
  s.mbFull i || (s.getF (mbBase i) F.MB_DOOR_door &&& (0xFFFFFFFF ^^^ s.getF (mbBase i) F.MB_DMASK_mask)) != 0
/-- Records source 640 + i where it is live. -/
def State.mbSettle (s : State) (i : Nat) : State := if s.mbLive i then s.signal (640 + i) else s

/-- MB_CFG takes a value (R563). -/
def State.mbCfg (s : State) (m : Master) (i v : Nat) : State :=
  if isAgent m 0 && !s.mbFull i then
    ((s.setF (mbBase i) F.MB_CFG_enable (bitsOf v 31 31)).setF (mbBase i) F.MB_CFG_receiver (bitsOf v 7 4)).setF (mbBase i)
      F.MB_CFG_sender (bitsOf v 3 0)
  else s.mbRefuse i
/-- MB_MSG (R564). -/
def State.mbMsg (s : State) (m : Master) (i v : Nat) : State :=
  s.mbBy m i [s.mbSender i] (fun s =>
    if s.mbFull i then s.mbMark i F.MB_STAT_overrun
    else
      let b := mbBase i
      (((((s.setF b F.MB_MSG_msg v).raise b F.MB_STAT_full).setF b F.MB_STAT_send_epoch (s.epoch (s.mbSender i))).lower b
        F.MB_ACK_valid).lower b F.MB_ACK_orphan).mbSettle i)
/-- MB_RING (R565). -/
def State.mbRing (s : State) (m : Master) (i v : Nat) : State :=
  s.mbBy m i [s.mbSender i] (fun s => (s.setF (mbBase i) F.MB_DOOR_door (s.getF (mbBase i) F.MB_DOOR_door ||| v)).mbSettle i)
/-- MB_REPLY (R566). -/
def State.mbReply (s : State) (m : Master) (i v : Nat) : State :=
  s.mbBy m i [s.mbReceiver i] (fun s =>
    let b := mbBase i
    if !s.mbFull i then s.mbRefuse i
    else
      (((((s.setF b F.MB_ACK_code v).raise b F.MB_ACK_valid).lower b F.MB_STAT_full).setB b F.MB_ACK_orphan
        (s.epoch (s.mbSender i) != s.getF b F.MB_STAT_send_epoch)).signal (640 + i)))
/-- MB_STAT (R54, R567): a 1 in withdraw by the sender takes the message back; a 1 in a record clears it. -/
def State.mbStat (s : State) (m : Master) (i v : Nat) : State :=
  if !s.mbBound i then s.mbRefuse i
  else
    let b := mbBase i
    let clr (s : State) (n : Nat) (f : Fld) : State := if v.testBit n then s.lower b f else s
    let s1 := clr (clr (clr (clr s 9 F.MB_STAT_withdrawn) 8 F.MB_STAT_receiver_reset) 7 F.MB_STAT_refused) 6 F.MB_STAT_overrun
    if !v.testBit 1 then s1
    else s1.mbBy m i [s1.mbSender i] (fun s => if s.mbFull i then (s.lower b F.MB_STAT_full).mbMark i F.MB_STAT_withdrawn else s)
/-- MB_DOOR (R565): the receiver, or the management function, clears doorbells. -/
def State.mbDoor (s : State) (m : Master) (i v : Nat) : State :=
  s.mbBy m i [s.mbReceiver i, 0] (fun s =>
    s.setF (mbBase i) F.MB_DOOR_door (s.getF (mbBase i) F.MB_DOOR_door &&& (0xFFFFFFFF ^^^ v)))
/-- MB_DMASK (R565). -/
def State.mbDmask (s : State) (m : Master) (i v : Nat) : State :=
  s.mbBy m i [s.mbReceiver i, 0] (fun s => (s.setF (mbBase i) F.MB_DMASK_mask v).mbSettle i)
/-- MB_ACK (R566): the sender, or the management function, clears valid. -/
def State.mbAck (s : State) (m : Master) (i v : Nat) : State :=
  s.mbBy m i [s.mbSender i, 0] (fun s => if v.testBit 31 then s.lower (mbBase i) F.MB_ACK_valid else s)

/-- A write at offset `r` of the group of mailbox i. -/
def State.mbWrite (s : State) (m : Master) (i r v : Nat) : State :=
  match r with
  | 0x00 => s.mbCfg m i v
  | 0x04 => s.mbMsg m i v
  | 0x08 => s.mbStat m i v
  | 0x0C => s.mbDoor m i v
  | 0x10 => s.mbRing m i v
  | 0x14 => s.mbDmask m i v
  | 0x18 => s.mbAck m i v
  | 0x1C => s.mbReply m i v
  | _ => s

/-- A write to MBX, whose data function has no access (R47, R563). -/
def State.mbxWrite (s : State) (m : Master) (i : Fin 48) (r : Nat) (act : State → State) : State :=
  s.ownWrite m 0 0x008 (0x100 + 0x20 * i.val + r) act

/-- MB_CFG_WRITE (R563). -/
def execMbCfgWrite (m : Master) (i : Fin 48) (v : Word) (s : State) : Result := .next (s.mbxWrite m i 0x00 (fun s => s.mbCfg m i.val v.toNat))
/-- MB_MSG_WRITE (R564). -/
def execMbMsgWrite (m : Master) (i : Fin 48) (v : Word) (s : State) : Result := .next (s.mbxWrite m i 0x04 (fun s => s.mbMsg m i.val v.toNat))
/-- MB_RING (R565). -/
def execMbRing (m : Master) (i : Fin 48) (v : Word) (s : State) : Result := .next (s.mbxWrite m i 0x10 (fun s => s.mbRing m i.val v.toNat))
/-- MB_REPLY (R566). -/
def execMbReply (m : Master) (i : Fin 48) (code : BitVec 16) (s : State) : Result :=
  .next (s.mbxWrite m i 0x1C (fun s => s.mbReply m i.val code.toNat))
/-- MB_STAT_WITHDRAW (R567): a write of MB_STAT with withdraw = 1. -/
def execMbStatWithdraw (m : Master) (i : Fin 48) (s : State) : Result := .next (s.mbxWrite m i 0x08 (fun s => s.mbStat m i.val 2))

end Sys2Proof.Machine
end

