-- ==== Sys2Proof/Machine/Pcie.lean ====
section
/-! DEFINITION. The PCIe endpoint's resets and link (R76, R121, R569), and the DMA channels (R119, R120, R599). -/
namespace Sys2Proof.Machine

/-! ## Resets that reach the PCI configuration (R76) -/

/-- The vectors of a function: 0–63 management, 64–127 data. -/
def fnMask (data : Bool) : BitVec 128 := if data then BitVec.allOnes 128 <<< 64 else BitVec.allOnes 128 >>> 64
/-- MSI-X masks, the enable and the table of a function return to their defaults (R76, assumption log 9). -/
def State.msixDefault (s : State) (data : Bool) : State :=
  { s with evc := { s.evc with
      vecMask := s.evc.vecMask ||| fnMask data
      enData := if data then false else s.evc.enData
      enMgmt := if data then s.evc.enMgmt else false
      fmData := if data then false else s.evc.fmData
      fmMgmt := if data then s.evc.fmMgmt else false
      table := if data then SMap.cut s.evc.table 64 128 else SMap.cut s.evc.table 0 64 } }
/-- The host's epoch goes up (R569, R570). -/
def State.hostReset (s : State) : State := s.agentReset 0
/-- The link goes down after being up (R121, R569). -/
def State.linkDown (s : State) : State :=
  if s.evc.link.isSome then
    ((((({ s with evc := { s.evc with link := none } } : State).lower pcieBase F.PCIE_LINK_link_up).lower pcieBase F.PCIE_LINK_gen).lower pcieBase
      F.PCIE_LINK_width).raise pcieBase F.PCIE_ERR_link_down).hostReset
  else s

/-- PCIE_CONVENTIONAL_RESET (R76): PERST_N. The link goes down with it. -/
def execPcieConventionalReset (s : State) : Result := .next ((s.msixDefault false).msixDefault true).linkDown
/-- PCIE_HOT_RESET (R76, R569). -/
def execPcieHotReset (s : State) : Result := .next ((s.msixDefault false).msixDefault true).hostReset
/-- FUNCTION_LEVEL_RESET (R76, R569). -/
def execFunctionLevelReset (data : Bool) (s : State) : Result :=
  .next (let s1 := s.msixDefault data; if data then s1 else s1.hostReset)
/-- PCIE_LINK_DOWN (R121, R569). -/
def execPcieLinkDown (s : State) : Result := .next s.linkDown

/-! ## DMA channels (R119, R120) -/

/-- The group of channel c. -/
def dmaCh (c : Nat) : Nat := dmaBase + 0x40 * c
/-- DMA_CHSTAT.state: 0 IDLE, 1 RUNNING, 2 DISABLING. -/
def State.dmaState (s : State) (c : Nat) : Nat := s.getF (dmaCh c) F.DMA_CHSTAT_state
/-- DMA_SRC, DMA_DST. -/
def State.dmaSrc (s : State) (c : Nat) : Nat := s.getF (dmaCh c) F.DMA_SRC_HI_src * 4294967296 + s.getF (dmaCh c) F.DMA_SRC_LO_src
@[inherit_doc State.dmaSrc] def State.dmaDst (s : State) (c : Nat) : Nat :=
  s.getF (dmaCh c) F.DMA_DST_HI_dst * 4294967296 + s.getF (dmaCh c) F.DMA_DST_LO_dst
/-- The channel belongs to the other function (R119). -/
def dmaForeign (m : Master) (c : Nat) : Bool := (decide (m = .hostMgmt) && decide (8 ≤ c)) || (decide (m = .hostData) && decide (c < 8))
/-- The function that owns channel c. -/
def dmaOwner (c : Nat) : Master := if c < 8 then .hostMgmt else .hostData
/-- A write to a register of a channel. -/
def State.dmaWrite (s : State) (m : Master) (c off : Nat) (act : State → State) : State :=
  if !s.busUp then s.busDead m true (dmaCh c + 0x100 + off)
  else if dmaForeign m c then s.busError m true (dmaCh c + 0x100 + off) .mgmtOnly
  else s.ownWrite m 0 0x002 (0x100 + 0x40 * c + off) act

/-- A transfer ends (R119): `ok` in full, `err` by error or abort. -/
def State.dmaEnd (s : State) (c moved : Nat) (ok err : Bool) : State :=
  let b := dmaCh c
  let s1 := (s.lower b F.DMA_CHSTAT_state).setF b F.DMA_DONE_moved moved
  let s2 := if ok then s1.raise b F.DMA_CHSTAT_done else s1
  let s3 := if err then s2.raise b F.DMA_CHSTAT_error else s2
  if (ok || err) && s3.flag b F.DMA_CTL_event_en then s3.signal (704 + c) else s3

/-- An address that names a lattice peer (R599) has bits [62:56] clear. -/
def peerAddrOk (a : Nat) : Bool := !a.testBit 63 || bitsOf a 62 56 == 0
/-- start (R119, R120, R599). -/
def State.dmaStart (s : State) (c : Nat) : State :=
  if s.dmaState c ≠ 0 then s
  else if s.dmaSrc c % 64 ≠ 0 ∨ s.dmaDst c % 64 ≠ 0 ∨
      (2 ≤ s.getF (dmaCh c) F.DMA_CTL_dir ∧ !(peerAddrOk (s.dmaSrc c) && peerAddrOk (s.dmaDst c))) then s.dmaEnd c 0 false true
  else if s.getF (dmaCh c) F.DMA_LEN_len = 0 then s.dmaEnd c 0 true false
  else (s.setF (dmaCh c) F.DMA_CHSTAT_state 1).lower (dmaCh c) F.DMA_DONE_moved

/-- A 64-byte access of a channel: the data with its poison, none where it ends with an error, and the answers of others still to come. -/
structure DmaRead where
  data : Option (List Byte × Bool)
  rest : List (Option (List Byte × Bool))
deriving DecidableEq, Repr

/-- The memory of a core that answers (R551). -/
def State.cueMemOpen (s : State) (a : Nat) : Bool :=
  decide (0x7000800000 ≤ a) && decide (a < 0x7000900000) &&
  (let n := (a - 0x7000800000) / 0x20000; s.cueState n != cuOff && s.cueState n != cuStopped)
/-- The address lies where another unit answers: the partner site, where there is one (R3, R38), or a lattice peer. -/
def State.answeredElsewhere (s : State) (a : Nat) : Bool :=
  a.testBit 63 || (decide (0x6000000000 ≤ a) && decide (a < 0x7000000000) && s.ident.site != 0)
/-- The requests by which 64 bytes reach a fabric window: eight 64-bit words (R40, R153). -/
def winRequests (m : Master) (a : Nat) (write : Bool) (bs : List Byte) (t : Nat) : List RpReq :=
  (List.range 8).map (fun i =>
    { master := m, addr := (a - 0x4000000000) % 0x400000000 + 8 * i, write := write, be := 0xFF
      data := BitVec.ofNat 64 (ofBytes ((bs.drop (8 * i)).take 8)), time := t })
/-- The requests of a channel wait before the register port that serves an address of a fabric window: req_ready is 0 while its facet holds at a
swap (R234), or older requests are outstanding or wait, which go first, 8 at a time (R154). In a facet that is STOPPED they wait 10 µs and end
(R155). -/
def State.portHeld (s : State) (a : Nat) : Bool :=
  let q := (a - 0x4000000000) / 0x400000000
  decide (0x4000000000 ≤ a) && decide (a < 0x5000000000) &&
  (match s.regportFacet q with
   | some f => !s.fenced f && ((!s.regportReady q && s.facetState f != fcStopped) || !(s.rpOut q).isEmpty || !(s.rpWait q).isEmpty)
   | none => false)
/-- Responses still to come for requests that timed out (R155). -/
def State.setLate (s : State) (q n : Nat) : State := { s with fab := { s.fab with late := SMap.put 0 s.fab.late q n } }
/-- An access of a master to 64 bytes of a fabric window (R40, R153–R155): without a register port, or with its facet fenced or its domain OFF,
it ends at once; else the port shows the requests, and user logic answers with data, with rsp_err (no bytes), or not at all within 10 µs, where
its later answers are discarded. Answers come in order, so that none is still to come for older requests once these are answered (R154). -/
def State.portBurst (s : State) (q : Nat) (rs : List RpReq) (ans : Option (List Byte × Bool)) : Option (List Byte × Bool) × State :=
  if s.blkOff (1 + q) 0 then (none, s)
  else match s.regportFacet q with
    | none => (none, s)
    | some f =>
      if s.fenced f then (none, s.facetRefused f 1)
      else if !s.regportReady q then (none, (s.reachNow (s.now + 10000)).rpMark q F.QSYS_RP_STAT_timeout)
      else
        let s1 := rs.foldl (fun s r => s.emit (.regport q r)) s
        match ans with
        | none => (none, ((s1.setLate q (SMap.get 0 s1.fab.late q + rs.length)).reachNow (s1.now + 10000)).rpMark q F.QSYS_RP_STAT_timeout)
        | some ([], _) => (none, (s1.setLate q 0).rpMark q F.QSYS_RP_STAT_error)
        | some d => (some d, s1.setLate q 0)
@[inherit_doc State.portBurst] def State.windowBurst (s : State) (m : Master) (a : Nat) (write : Bool) (bs : List Byte) (ans : Option (List Byte × Bool)) :
    Option (List Byte × Bool) × State := s.portBurst ((a - 0x4000000000) / 0x400000000) (winRequests m a write bs s.now) ans

/-- The address lies in the shared SRAM or in the memory of a core that answers. -/
def State.memOpen (s : State) (a : Nat) : Bool := (decide (sramBase ≤ a) && decide (a < sramBase + sramSize)) || s.cueMemOpen a

/-- What frame memory answered to a channel's read. -/
def dmaRead (ans : List (Option (List Byte × Bool))) (r : MemAns × State) : DmaRead × State :=
  ({ data := if r.1.status = .ok then some (r.1.data, r.1.poison) else none, rest := ans }, r.2)
/-- A channel reads 64 bytes of device-local space (R119, R526). -/
def State.dmaLoad (s : State) (m : Master) (a : Nat) (es : List LineErr) (ans : List (Option (List Byte × Bool))) : DmaRead × State :=
  if a < fmSize then dmaRead ans (s.fmRead 2 a 64 es)
  else if 0x4000000000 ≤ a ∧ a < 0x5000000000 then
    let r := s.windowBurst m a false [] (ans.headD none)
    ({ data := r.1, rest := ans.drop 1 }, r.2)
  else if s.answeredElsewhere a then ({ data := ans.headD none, rest := ans.drop 1 }, s)
  else if s.memOpen a then ({ data := some (s.load a 64, false), rest := ans }, s)
  else ({ data := none, rest := ans }, s)
/-- A channel reads the 64 bytes of its source: of host memory (direction 0), whose poison it passes on, or of device-local space. -/
def State.dmaFetch (s : State) (m : Master) (dir a : Nat) (es : List LineErr) (ans : List (Option (List Byte × Bool))) : DmaRead × State :=
  if dir = 0 then ({ data := if s.hostErrs a 64 then none else some (s.hostLoad a 64, s.hostPoison a 64), rest := ans }, s) else s.dmaLoad m a es ans

/-- What frame memory answered to a channel's write. -/
def dmaWritten (ans : List (Option (List Byte × Bool))) (w : Option Status × State) : Option Bool × List (Option (List Byte × Bool)) × State :=
  (w.1.map (fun st => st == .ok), ans, w.2)
/-- A channel writes 64 bytes of device-local space: none while the write waits (R537), else whether it passed. -/
def State.dmaStore (s : State) (m : Master) (a : Nat) (bs : List Byte) (poison : Bool) (es : List LineErr) (ans : List (Option (List Byte × Bool))) :
    Option Bool × List (Option (List Byte × Bool)) × State :=
  if a < fmSize then dmaWritten ans (s.fmWrite 2 a bs (allBad poison bs.length) es)
  else if 0x4000000000 ≤ a ∧ a < 0x5000000000 then
    let r := s.windowBurst m a true bs (ans.headD none)
    (some r.1.isSome, ans.drop 1, r.2)
  else if s.answeredElsewhere a then (some (ans.headD none).isSome, ans.drop 1, s)
  else if s.memOpen a then (some true, ans, s.store a bs)
  else (some false, ans, s)
/-- A channel writes the 64 bytes of its destination: to host memory (direction 1), or to device-local space. -/
def State.dmaPut (s : State) (m : Master) (dir a : Nat) (bs : List Byte) (poison : Bool) (es : List LineErr) (ans : List (Option (List Byte × Bool))) :
    Option Bool × List (Option (List Byte × Bool)) × State :=
  if dir = 1 then (if s.hostErrs a 64 then (some false, ans, s) else (some true, ans, s.hostStore a bs)) else s.dmaStore m a bs poison es ans
/-- The 64 bytes that a channel read go to their destination; a failed read ends the transfer. -/
def dmaPass (c dir a : Nat) (es : List LineErr) (r : DmaRead × State) : Option Bool × List (Option (List Byte × Bool)) × State :=
  match r.1.data with
  | none => (some false, r.1.rest, r.2)
  | some d => (if d.2 then r.2.raise (dmaCh c) F.DMA_CHSTAT_poisoned else r.2).dmaPut (dmaOwner c) dir a d.1 d.2 es r.1.rest
/-- One 64-byte unit: whether it moved, none while it waits, be it for a register port (R234). `es` is what the pins of frame memory give to its read and to its write. -/
def State.dmaUnit (s : State) (c dir src dst : Nat) (es : List LineErr) (ans : List (Option (List Byte × Bool))) :
    Option Bool × List (Option (List Byte × Bool)) × State :=
  if (dir != 0 && s.portHeld src) || (dir != 1 && s.portHeld dst) then (none, ans, s)
  else dmaPass c dir dst (es.drop 1) (s.dmaFetch (dmaOwner c) dir src es ans)
/-- Moves 64-byte units in turn, until one ends with an error: units moved, whether all were, and the state; none where one waits. -/
def State.dmaMove (c dir src dst : Nat) : State → List LineErr → List (Option (List Byte × Bool)) → Nat → Nat → Option (Nat × Bool × State)
  | s, _, _, i, 0 => some (i, true, s)
  | s, es, ans, i, n + 1 =>
    let u := s.dmaUnit c dir (src + 64 * i) (dst + 64 * i) es ans
    match u.1 with
    | none => none
    | some false => some (i, false, u.2.2)
    | some true => State.dmaMove c dir src dst u.2.2 (es.drop 2) u.2.1 (i + 1) n

/-- A transfer ends after the units that moved; `full`: they were to be all of it. One that waits goes on, but for an abort, which ends it at once
(R119). -/
def State.dmaMoved (s : State) (c : Nat) (full cut err : Bool) (r : Option (Nat × Bool × State)) : State :=
  match r with
  | none => if err then s.dmaEnd c 0 false true else s
  | some m => m.2.2.dmaEnd c m.1 (m.2.1 && full && !err) (err || !(m.2.1 && (cut || full)))
/-- The first `n` units of a channel's transfer move, and it ends: `cut` when it was disabled, `err` when it was aborted. -/
def State.dmaFinish (s : State) (c n : Nat) (cut err : Bool) (es : List LineErr) (ans : List (Option (List Byte × Bool))) : State :=
  s.dmaMoved c (decide (s.getF (dmaCh c) F.DMA_LEN_len ≤ n)) cut err
    (State.dmaMove c (s.getF (dmaCh c) F.DMA_CTL_dir) (s.dmaSrc c) (s.dmaDst c) s es ans 0 (min n (s.getF (dmaCh c) F.DMA_LEN_len)))

/-- disable (R119). -/
def State.dmaDisable (s : State) (c : Nat) : State := if s.dmaState c = 1 then s.setF (dmaCh c) F.DMA_CHSTAT_state 2 else s
/-- abort (R119, R120): the units already moved stay; `n` of them were. -/
def State.dmaAbort (s : State) (c n : Nat) (es : List LineErr) (ans : List (Option (List Byte × Bool))) : State :=
  if s.dmaState c = 0 then s else s.dmaFinish c n false true es ans
/-- dir and event_en of DMA_CTL. -/
def State.dmaCtl (s : State) (c v : Nat) : State :=
  (s.setF (dmaCh c) F.DMA_CTL_dir (bitsOf v 3 2)).setF (dmaCh c) F.DMA_CTL_event_en (v % 2)

/-- DMA_START (R119, R120): a write of DMA_CTL with start = 1. -/
def execDmaStart (m : Master) (c : Fin 16) (v : Word) (s : State) : Result :=
  .next (s.dmaWrite m c.val 0x14 (fun s => (s.dmaCtl c.val v.toNat).dmaStart c.val))
/-- DMA_DISABLE (R119): a write of DMA_CTL with disable = 1. -/
def execDmaDisable (m : Master) (c : Fin 16) (v : Word) (s : State) : Result :=
  .next (s.dmaWrite m c.val 0x14 (fun s => (s.dmaCtl c.val v.toNat).dmaDisable c.val))
/-- DMA_DISABLE_DONE (R119): the requests issued have finished; `n` units were moved. `es` says what the pins of frame memory give, `ans`
what other units answer. -/
def execDmaDisableDone (c : Fin 16) (n : Nat) (es : List LineErr) (ans : List (Option (List Byte × Bool))) (s : State) : Result :=
  .next (if s.dmaState c.val = 2 ∧ !s.hq.handover then s.dmaFinish c.val n true false es ans else s)
/-- DMA_ABORT (R119): a write of DMA_CTL with abort = 1, after `n` units were moved. -/
def execDmaAbort (m : Master) (c : Fin 16) (v : Word) (n : Nat) (es : List LineErr) (ans : List (Option (List Byte × Bool))) (s : State) : Result :=
  .next (s.dmaWrite m c.val 0x14 (fun s => (s.dmaAbort c.val n es ans).dmaCtl c.val v.toNat))
/-- DMA_TRANSFER_DONE (R119, R624): a transfer ends in full or by error; a handover holds it. -/
def execDmaTransferDone (c : Fin 16) (es : List LineErr) (ans : List (Option (List Byte × Bool))) (s : State) : Result :=
  .next (if s.dmaState c.val = 1 ∧ !s.hq.handover then s.dmaFinish c.val (s.getF (dmaCh c.val) F.DMA_LEN_len) false false es ans else s)

end Sys2Proof.Machine
end

