-- ==== Sys2Proof/Machine/Lattice.lean ====
section
/-! DEFINITION. The lattice (R576–R608): Glenu frames and their retry, sealing, hellos, routing between devices, relays, discovery and the
commands of addresses and routes. -/
namespace Sys2Proof.Machine

/-! ## Link records (R576–R578, R604, R607) -/

/-- Lane n runs as a link at this rate needs (R577). -/
def State.glLaneOk (s : State) (n rate : Nat) : Bool :=
  let w := s.laneCfg n
  bitsOf w 31 30 == 3 && bitsOf w 27 26 == 0 && bitsOf w 29 28 == 1 && !w.testBit 25 &&
  (s.payloadOf n).same { num := if rate = 0 then 25781250000 else 53125000000, den := 1 }
/-- All four lanes do. -/
def State.glLanesOk (s : State) (l : GLink) : Bool := l.lanes.all (fun n => s.glLaneOk n l.rate)
/-- The endpoint vertex of a link (R594). -/
def GLink.vertex (l : GLink) : Nat := let g := l.first / 8; lEndpoint (g / 9) (g % 9 % 8)

/-- A record takes effect (R588, R605): counters cleared, and the link waits for its lanes, whose channels are its members (R578). -/
def State.glEnable (s : State) (k w : Nat) : State :=
  let l : GLink := { word := w, state := glOff }
  ((l.lanes.foldl (fun s n => s.setF (chBase n) F.SE_CH_STAT_rx_state rxMember) s).setGlink k l).toGl k glAligning
/-- The channels of a link are its members no longer. -/
def State.glFree (s : State) (k : Nat) : State :=
  if (s.glink k).enabled then
    (s.glink k).lanes.foldl (fun s n => if s.rxState n = rxMember then s.setF (chBase n) F.SE_CH_STAT_rx_state rxIdle else s) s
  else s
/-- A record with enable = 0 (R588). -/
def State.glDisable (s : State) (k w : Nat) : State :=
  let s1 := (s.toGl k glOff).glFree k
  s1.setGlink k { s1.glink k with word := w, pend := false }
/-- A lane group leaves ON, or returns to it (R588, R607). -/
def State.groupLinks (s : State) (g : Nat) (on : Bool) : State :=
  (List.range 16).foldl (fun s k =>
    let l := s.glink k
    if !l.enabled || l.first / 8 != g || l.pend then s
    else if !on then s.toGl k glOff
    else if s.glLanesOk l then s.glEnable k l.word else s) s
/-- A reset of lane die l keeps its records, pending (R607). -/
def State.dieLinks (s : State) (l : Nat) : State :=
  (List.range 16).foldl (fun s k =>
    if (s.glink k).enabled && (s.glink k).first / 72 == l then
      let s1 := (s.toGl k glOff).glFree k
      s1.setGlink k { s1.glink k with pend := true }
    else s) s

/-! ## Frames (R580–R585) -/

/-- The bytes under the CRC of a frame (R580). -/
def GFrame.covered (f : GFrame) : List Byte :=
  bytesOf 7 f.hdr.toNat ++ (if bitsOf f.hdr.toNat 30 28 = 3 then [] else bytesOf 64 f.data.toNat) ++
  (if f.hdr.toNat.testBit 21 then bytesOf 8 f.tag.toNat else [])
/-- Its CRC passes. -/
def GFrame.good (f : GFrame) : Bool := crc32 f.covered == f.last.toNat % 4294967296
/-- The sequence number of a frame. -/
def GFrame.seq (f : GFrame) : Nat := bitsOf f.hdr.toNat 55 44
/-- The IV of a sealed frame (R585): the sender's frame counter and the low word of its serial. -/
def glIv (ctr serial : Nat) : Nat := ctr % 2 ^ 64 * 4294967296 + serial % 4294967296
/-- The key of a volatile slot; 0 for an empty one. -/
def State.glKey (s : State) (slot : Nat) : Nat := (SMap.get none s.cfg.slots slot).getD 0
/-- The frame counter of a slot. -/
def State.glCtr (s : State) (slot : Nat) : Nat := SMap.get 0 s.lat.ctr slot

/-- Sends a frame of a kind (R580, R583, R585): `sub` holds header bits [27:22]. A full replay buffer sends nothing. The frame acknowledges
what came. -/
def State.glSend (s : State) (k kind sub data : Nat) : State :=
  let l := s.glink k
  if 256 ≤ l.sent.length ∧ kind ≠ 3 then s
  else
    let sld := l.isSealed && decide (kind < 2)
    let owed := (l.owed.headD (15, 0))
    let hdr := l.txSeq * 2 ^ 44 + l.rxSeq * 2 ^ 32 + bit l.nak * 2 ^ 31 + kind * 2 ^ 28 + sub * 2 ^ 22 + bit sld * 2 ^ 21 + owed.1 * 2 ^ 17 +
      min 63 owed.2 * 2 ^ 11
    let ctr := s.glCtr l.slot
    let iv := glIv ctr s.ident.serial
    let body := if sld then data ^^^ Config.glenuPad (s.glKey l.slot) iv % 2 ^ 512 else data
    let f0 : GFrame := { hdr := BitVec.ofNat 56 hdr, data := BitVec.ofNat 512 body
                         tag := if sld then BitVec.ofNat 64 (Config.glenuTag (s.glKey l.slot) iv hdr body) else 0, last := 0 }
    let f := { f0 with last := BitVec.ofNat 64 (crc32 f0.covered + (if sld then ctr % 4294967296 * 4294967296 else 0)) }
    let n := glAdd l.frames 1
    let s1 := (s.setGlink k { l with
      txSeq := if kind = 3 then l.txSeq else (l.txSeq + 1) % 4096, sent := if kind = 3 then l.sent else l.sent ++ [(f, 0)]
      nak := false, owed := SMap.put 0 l.owed owed.1 (monus owed.2 63), frames := n.1, due := false
      ackAt := if l.sent.isEmpty then s.now else l.ackAt }).glOver k n.2
    let s2 : State := if sld then { s1 with lat := { s1.lat with ctr := SMap.put 0 s1.lat.ctr l.slot (ctr + 1) } } else s1
    s2.emit (.glenu k f)

/-- The oldest unacknowledged frame and those after it are sent again (R583). Two resends of one frame that failed, or more resends in 1 s
than the channel threshold, are a permanent fault (R584). -/
def State.glResend (s : State) (k : Nat) : State :=
  let l := s.glink k
  match l.sent with
  | [] => s
  | (_, r) :: _ =>
    let times := s.now :: l.resentAt.filter (fun t => decide (s.now < t + 1000000000))
    if 2 ≤ r ∨ s.jrnl.threshold < times.length then s.glFail k
    else
      let n := glAdd l.resends l.sent.length
      let s1 := (s.setGlink k { l with sent := l.sent.map (fun p => (p.1, p.2 + 1)), resentAt := times, resends := n.1, ackAt := s.now }).glOver k n.2
      l.sent.foldl (fun s p => s.emit (.glenu k p.1)) s1

/-- Acknowledged frames leave the replay buffer. -/
def glAcked (ack : Nat) (l : List (GFrame × Nat)) : List (GFrame × Nat) := l.dropWhile (fun p => decide ((ack + 4096 - p.1.seq) % 4096 < 2048))

/-- The hello block of a link (R587). -/
def State.helloBlock (s : State) (k : Nat) : Nat :=
  let l := s.glink k
  let ws := [0x4F4C4548, s.getF hqBase F.HQ_FW_line * 16777216 + 0xB1 * 65536 + 0x9440] ++
    (List.range 4).map (fun i => bitsOf s.ident.serial (32 * i + 31) (32 * i)) ++
    [bit s.lat.addr.isSome * 2147483648 + s.latAddr, if s.lat.addr.isSome then s.lat.id else 0, s.lat.root % 65536 * 65536 + k,
     bit l.isSealed * 2147483648 + l.rate * 268435456 + l.slot, s.glCtr l.slot / 4294967296 % 4294967296, l.hellos % 4294967296]
  ofBytes (ws.flatMap (fun w => bytesOf 4 w))
/-- A hello is sent (R587), unless the replay buffer is full. -/
def State.glHelloSend (s : State) (k : Nat) : State :=
  if 256 ≤ (s.glink k).sent.length then s.setGlink k { s.glink k with helloOut := s.now }
  else
    let s1 := s.glSend k 2 0 (s.helloBlock k)
    s1.setGlink k { s1.glink k with hellos := ((s1.glink k).hellos + 1) % 4294967296, helloOut := s.now }

/-- A hello arrives (R587, R588): in HELLO a matching one brings the link UP, and any other sets mismatch. -/
def State.glHelloIn (s : State) (k data : Nat) : State :=
  let w (i : Nat) : Nat := bitsOf data (32 * i + 31) (32 * i)
  if w 0 ≠ 0x4F4C4548 then s
  else
    let l := s.glink k
    let same := (w 9).testBit 31 == l.isSealed && bitsOf (w 9) 29 28 == l.rate && bitsOf (w 9) 1 0 == l.slot
    let s1 := s.setGlink k { l with
      assigned := (w 6).testBit 31, peer := bitsOf (w 6) 15 0, lattice := w 7, arrival := bitsOf (w 8) 3 0
      same := (w 6).testBit 31 && s.lat.addr.isSome && w 7 == s.lat.id
      serial := bitsOf data 191 64, peerHi := w 10, helloAt := s.now, mismatch := if l.state = glHello then !same else l.mismatch }
    if l.state ≠ glHello then s1
    else if same then s1.toGl k glUp
    else s1.signal (glSrc k)

/-! ## Routing (R589–R593) -/

/-- What a device does with a lattice packet: deliver it here, send it on a link, return it with a status, or drop it. -/
inductive LatAct where
  | here
  | link (j : Nat) (p : Pkt)
  | back (status : Nat)
  | drop
deriving DecidableEq, Repr

/-- The lowest-numbered valid entry that holds an address (R592): its link and hop limit. -/
def State.latEntry (s : State) (dst : Nat) : Option (Nat × Nat) :=
  ((List.range 64).find? (fun e =>
    let w := SMap.get (0, 0) s.lat.routes e
    w.1.testBit 31 && decide (bitsOf w.2 11 0 ≤ dst) && decide (dst ≤ bitsOf w.2 27 16))).map (fun e =>
      let w := SMap.get (0, 0) s.lat.routes e
      (bitsOf w.1 27 24, if bitsOf w.1 23 16 = 0 then 32 else bitsOf w.1 23 16))
/-- The packet leaves on link j; the source gives it hop_left (R593). -/
def State.latOn (s : State) (j limit : Nat) (p : Pkt) : LatAct :=
  if (s.glink j).state ≠ glUp then .back 0x0203 else .link j (if p.f 7 23 16 = 0 then p.set 7 23 16 limit else p)
/-- The table stage (R592). -/
def State.latTable (s : State) (p : Pkt) : LatAct :=
  match s.latEntry (p.f 3 15 0) with
  | some (j, h) => s.latOn j h p
  | none => .back 0x0103
/-- Link number in slot i of the path word. -/
def pathSlot (w6 i : Nat) : Nat := bitsOf w6 (4 * i + 3) (4 * i)
/-- R591. A packet whose table stage ended names 0xFFFF on its path, so that the next device knows the stage. -/
def State.latRoute (s : State) (p : Pkt) : LatAct :=
  let w6 := p.hdr.getD 6 0
  let n := bitsOf w6 31 29
  let i := bitsOf w6 28 26
  let dst := p.f 3 15 0
  let src := p.f 3 31 16
  if n = 7 ∨ (0x1000 ≤ dst ∧ dst < 0xFFFF) ∨ (0x1000 ≤ src ∧ src < 0xFFFF) then .drop
  else if !w6.testBit 25 then
    (if dst ≠ 0xFFFF ∧ dst ≠ s.latAddr then s.latTable p
     else if i < n then s.latOn (pathSlot w6 i) 32 (p.set 3 15 0 0xFFFF)
     else .here)
  else if i < n then s.latOn (pathSlot w6 i) 32 (p.set 6 28 26 (i + 1))
  else if dst = s.latAddr then .here
  else s.latTable p

/-- A packet is given out and its hop-limit drop counted (R589, R590, R593). -/
def State.hopDrop (s : State) (k : Nat) : State :=
  let n := glAdd (s.glink k).hops 1
  ((s.setGlink k { s.glink k with hops := n.1 }).glOver k n.2).signal (glSrc k)

/-- A packet goes by ring from one endpoint vertex to another, as the request of a lattice master (R594). -/
def State.latRing (s : State) (vk dst : Nat) (p : Pkt) : State :=
  s.send vk (((((((p.set 0 30 30 0).set 0 14 10 (vkX vk)).set 0 19 15 (vkY vk)).set 0 4 0 (vkX dst)).set 0 9 5 (vkY dst)).set 1 23 20 4).set 1 18 18 1)

/-- A packet turned back on its way through the lattice (R322, R592): answers and posted writes are dropped. -/
def State.latBack (s : State) (vk : Nat) (p : Pkt) (st : Nat) : State :=
  if p.returned || p.op == 2 || decide (9 ≤ p.op) then s.dropPkt vk p
  else
    let r := (((p.set 0 31 31 1).set 7 15 0 st).set 7 23 16 0)
    let q := { ((r.set 3 15 0 (p.f 3 31 16)).set 3 31 16 s.latAddr) with data := [] }
    let b : Pkt := { q with hdr := q.hdr.set 6 (backPath (p.hdr.getD 6 0)) }
    match s.latRoute b with
    | .link j b' => s.latRing vk (s.glink j).vertex b'
    | _ => s

/-- The C endpoint that takes commands and replies of peers (R594). -/
def State.latDoor (s : State) : Nat := cEndpoint (if s.edgeState 6 = egRetired then 6 else 0)

/-- A packet for this device (R594, R311): commands and replies go to the steward, requests to the vertex of their address, and register space
and reserved ranges are refused. Answers to this device's own requests come as operands of the commands that made them. -/
def State.latHere (s : State) (vk : Nat) (p : Pkt) : State :=
  if p.returned || decide (9 ≤ p.op) then s
  else if p.op = 2 ∧ p.cls = 3 ∧ p.addr = 0x7F0000FF00 then s.latRing vk s.latDoor p
  else match s.homeOf (vkX vk) p.addr with
    | some d => s.latRing vk d p
    | none => if p.op = 2 then s.dropPkt vk p else s.respond vk ((p.set 0 14 10 (vkX vk)).set 0 19 15 (vkY vk)) 0xF 0x0103 [] []

/-- A whole packet has come over link k (R591, R593, R594). -/
def State.glArrive (s : State) (k : Nat) (p0 : Pkt) : State :=
  let vk := (s.glink k).vertex
  let hop := monus (p0.f 7 23 16) 1
  let p1 := p0.set 7 23 16 hop
  let w6 := p1.hdr.getD 6 0
  let i := bitsOf w6 28 26
  let p := if !w6.testBit 25 && p1.f 3 15 0 == 0xFFFF && decide (i < bitsOf w6 31 29) && decide (i < 6) then
      (p1.set 6 (4 * i + 3) (4 * i) k).set 6 28 26 (i + 1)
    else p1
  match s.latRoute p with
  | .drop => s.hopDrop k
  | .here => s.latHere vk p
  | .back st => s.latBack vk p st
  | .link j p' => if hop = 0 then s.hopDrop k else s.latRing vk (s.glink j).vertex p'

/-! ## Receiving (R581, R583, R586) -/

/-- The beats of an essence frame (R581). -/
def glBeats (data : Nat) : List Beat :=
  (List.range (min 10 (bitsOf data 483 480))).map (fun j =>
    let side : Byte := BitVec.ofNat 8 (bitsOf data (48 * j + 47) (48 * j + 40))
    { data := BitVec.ofNat 40 (bitsOf data (48 * j + 39) (48 * j)), side := side })
/-- A slot of a receiving queue is free again, and its credit is owed to the far end. -/
def State.glOwe (s : State) (k code : Nat) : State :=
  s.setGlink k { s.glink k with owed := SMap.put 0 (s.glink k).owed code (SMap.get 0 (s.glink k).owed code + 1) }

/-- A frame accepted in sequence is handed on (R581, R600). -/
def State.glAccept (s : State) (k : Nat) (hdr data : Nat) : State :=
  let l := s.glink k
  let kind := bitsOf hdr 30 28
  if kind = 2 then s.glHelloIn k data
  else if l.state ≠ glUp then s
  else if kind = 1 then
    let m := bitsOf hdr 27 26
    (s.deliver (l.first + m) l.south (glBeats data)).glOwe k (8 + m)
  else
    let vc := bitsOf hdr 27 25
    let f := mkFlit data 0 vc (hdr.testBit 22) (hdr.testBit 23) (hdr.testBit 24)
    let acc := (if hdr.testBit 24 then [] else SMap.get [] l.part vc) ++ [f]
    let s1 := (s.setGlink k { l with part := SMap.put [] l.part vc (if hdr.testBit 23 then [] else acc) }).glOwe k vc
    if hdr.testBit 23 then s1.glArrive k (ofFlits acc) else s1

/-- A frame is discarded and naked (R583). -/
def State.glNak (s : State) (k : Nat) : State := s.setGlink k { s.glink k with nak := true }

/-- GLENU_FRAME_RECEIVE (R583, R585, R586): a frame arrives on link k. In HELLO, where what was sent before may be lost for good, a hello is taken
whatever its number, which the next frame follows (assumption log 103). -/
def execGlenuFrameReceive (k : Fin 16) (f : GFrame) (s : State) : Result :=
  .next
    (let l := s.glink k.val
     let hdr := f.hdr.toNat
     let kind := bitsOf hdr 30 28
     let isSealed := hdr.testBit 21
     if s.scanHolds = true ∨ (l.state ≠ glHello ∧ l.state ≠ glUp) then s
     else if !f.good then
       let n := glAdd l.crcs 1
       ((s.setGlink k.val { l with crcs := n.1 }).glOver k.val n.2).glNak k.val
     else if 4 ≤ kind then s
     else if kind ≠ 3 ∧ f.seq ≠ (l.rxSeq + 1) % 4096 ∧ ¬(kind = 2 ∧ l.state = glHello) then s.glNak k.val
     else
       let ctr := l.peerHi * 4294967296 + f.last.toNat / 4294967296
       let iv := glIv ctr l.serial
       let key := s.glKey l.slot
       if kind < 2 ∧ (isSealed ≠ l.isSealed ∨ (isSealed ∧ Config.glenuTag key iv hdr f.data.toNat % 2 ^ 64 ≠ f.tag.toNat)) then
         let n := glAdd l.tags 1
         let times := s.now :: l.tagAt.filter (fun t => decide (s.now < t + 1000000000))
         let s1 := (((s.setGlink k.val { l with tags := n.1, tagAt := times }).glOver k.val n.2).glNak k.val).signal (glSrc k.val)
         if 3 ≤ times.length then s1.glFail k.val else s1
       else
         let code := bitsOf hdr 20 17
         let l1 := { l with
           rxSeq := if kind = 3 then l.rxSeq else f.seq, sent := glAcked (bitsOf hdr 43 32) l.sent, due := l.due || kind != 3
           ackAt := if (glAcked (bitsOf hdr 43 32) l.sent).length < l.sent.length then s.now else l.ackAt
           used := if code < 12 then SMap.put 0 l.used code (monus (SMap.get 0 l.used code) (bitsOf hdr 16 11)) else l.used }
         let s1 := s.setGlink k.val l1
         let s2 := if hdr.testBit 31 then s1.glResend k.val else s1
         if kind = 3 then s2
         else s2.glAccept k.val hdr (if isSealed ∧ kind < 2 then f.data.toNat ^^^ Config.glenuPad key iv % 2 ^ 512 else f.data.toNat))

/-- GLENU_RESEND_TIMEOUT (R583, R584): an UP link saw no advance of ack for 10 µs, so time has come at least that far. In HELLO the far end
may not listen yet, and the next hello takes the place of a resend (assumption log 103). -/
def execGlenuResendTimeout (k : Fin 16) (s : State) : Result :=
  .next
    (let l := s.glink k.val
     if l.state = glUp ∧ l.sent ≠ [] then (s.waitNs (monus (l.ackAt + 10000) s.now)).glResend k.val else s)

/-- GLENU_ALIGNED (R577, R587, R588): markers are locked with the skew within 100 ns, on lanes that run as the link's rate needs. -/
def execGlenuAligned (k : Fin 16) (s : State) : Result :=
  .next
    (if (s.glink k.val).state = glAligning ∧ ((s.glink k.val).lanes.all (fun n => s.laneState n == lnService) && s.glLanesOk (s.glink k.val)) = true then
       (s.toGl k.val glHello).glHelloSend k.val
     else s)

/-- GLENU_HELLO_SEND (R587): 1 ms after the hello before, so time has come at least that far. -/
def execGlenuHelloSend (k : Fin 16) (s : State) : Result :=
  .next
    (let l := s.glink k.val
     if l.state = glHello ∨ l.state = glUp then (s.waitNs (monus (l.helloOut + 1000000) s.now)).glHelloSend k.val else s)

/-- GLENU_HELLO_TIMEOUT (R588): no valid hello for 3 ms, so time has come at least that far. -/
def execGlenuHelloTimeout (k : Fin 16) (s : State) : Result :=
  .next
    (let l := s.glink k.val
     if l.state = glUp then (s.waitNs (monus (l.helloAt + 3000000) s.now)).toGl k.val glHello else s)

/-! ## Sending essence and packets (R581, R582, R594, R600) -/

/-- The data of an essence frame. -/
def glEssence (xs : List Beat) : Nat :=
  (xs.zip (List.range 10)).foldl (fun a x => a + (x.1.data.toNat + x.1.side.toNat * 2 ^ 40) * 2 ^ (48 * x.2)) 0 + xs.length * 2 ^ 480
/-- A list cut into parts of `n`, at most `k` of them: the parts and the rest. -/
def chunks {α : Type} (n : Nat) : Nat → List α → List (List α) × List α
  | 0, l => ([], l)
  | _, [] => ([], [])
  | k + 1, l => let r := chunks n k (l.drop n); (l.take n :: r.1, r.2)
/-- Essence first, and after 7 essence frames in a row a waiting flit (R582); `r` essence frames in a row went before. -/
def interleave {α : Type} : Nat → Nat → List α → List α → List α
  | 0, _, _, _ => []
  | _, _, [], b => b
  | _, _, a, [] => a
  | n + 1, r, x :: a, y :: b => if r = 7 then y :: interleave n 0 (x :: a) b else x :: interleave n (r + 1) a (y :: b)
/-- How many essence frames in a row end with the frames of a list, `r` before it. -/
def essenceRow (r : Nat) (l : List (Nat × Nat × Nat)) : Nat := l.foldl (fun n x => if x.1 = 1 then min 7 (n + 1) else 0) r
/-- One of each list in turn, of `n` in all at least. -/
def roundRobin {α : Type} : Nat → List (List α) → List α
  | 0, _ => []
  | n + 1, ls => (ls.filterMap List.head?) ++ roundRobin n ((ls.map (List.drop 1)).filter (fun l => !l.isEmpty))

/-- Slots of the far end's queues that a link may still fill (R581). -/
def GLink.room (l : GLink) (code : Nat) : Nat := monus 32 (SMap.get 0 l.used code)
/-- A link uses far slots. -/
def State.glUse (s : State) (k code n : Nat) : State :=
  s.setGlink k { s.glink k with used := SMap.put 0 (s.glink k).used code (SMap.get 0 (s.glink k).used code + n) }

/-- The essence frames of a member, `free` at most: header bits [27:22] and data; the beats sent leave the channel. -/
def State.glTakeEssence (s : State) (k m free : Nat) : List (Nat × Nat) × State :=
  let l := s.glink k
  let n := l.first + m
  let c := chunks 10 (min free (l.room (8 + m))) (s.seCh n).taken
  (c.1.map (fun xs => (m * 16, glEssence xs)), (s.setSeCh n { s.seCh n with taken := c.2 }).glUse k (8 + m) c.1.length)

/-- The flits of a packet as header bits [27:22] and data. -/
def glFlits (vc : Nat) (p : Pkt) : List (Nat × Nat) :=
  let ws := p.words
  (ws.zip (List.range ws.length)).map (fun w => (vc * 8 + bit (w.2 == 0) * 4 + bit (w.2 + 1 == ws.length) * 2 + bit (p.poison.contains w.2), w.1))

/-- The link takes a packet from its endpoint's local port: the credit of its request returns, and its flits are ready. -/
def State.glTakePkt (s : State) (k vk free : Nat) (p p' : Pkt) : List (Nat × Nat) × State :=
  let vc := 2 * p.cls
  if (s.glink k).room vc < p.flits ∨ free < p.flits then ([], s)
  else
    let s1 := s.setNi vk { s.ni vk with arrive := (s.ni vk).arrive.erase p }
    let s2 := if p.needsCredit then s1.creditPacket vk p
      else if p.cls = 1 ∧ 9 ≤ p.op then s1.creditBack vk p.src 0 1 else s1
    (glFlits vc p', s2.glUse k vc p.flits)

/-- The packets at a link's endpoint that it takes, as far as the replay buffer has `free` slots, or turns back (R589, R592, R594). -/
def State.glTakePkts (s : State) (k free : Nat) : List (List (Nat × Nat)) × State :=
  let vk := (s.glink k).vertex
  ((s.ni vk).arrive.filter (fun p => p.forLattice vk)).foldl (fun (acc : List (List (Nat × Nat)) × State) p =>
    match acc.2.latRoute p with
    | .link j p' =>
      if j = k then (let r := acc.2.glTakePkt k vk (monus free (acc.1.map List.length).sum) p p'; (acc.1 ++ [r.1], r.2)) else acc
    | .back st =>
      (acc.1, (acc.2.setNi vk { acc.2.ni vk with arrive := (acc.2.ni vk).arrive.erase p }).latBack vk p st)
    | .here => (acc.1, (acc.2.setNi vk { acc.2.ni vk with arrive := (acc.2.ni vk).arrive.erase p }).latHere vk p)
    | .drop => (acc.1, (acc.2.setNi vk { acc.2.ni vk with arrive := (acc.2.ni vk).arrive.erase p }).dropPkt vk p)) ([], s)

/-- An UP link sends what waits for it, as far as its replay buffer has room (R582, R583). -/
def State.glTraffic (s : State) (k : Nat) : State :=
    let room := monus 256 (s.glink k).sent.length
    let e := [0, 1, 2, 3].foldl (fun (acc : List (Nat × Nat) × State) m =>
      let r := acc.2.glTakeEssence k m (monus room acc.1.length); (acc.1 ++ r.1, r.2)) ([], s)
    let p := e.2.glTakePkts k (monus room e.1.length)
    let byVc := ((List.range 8).map (fun v => p.1.flatten.filter (fun x => x.1 / 8 % 8 == v))).filter (fun l => !l.isEmpty)
    let flits := roundRobin p.1.flatten.length byVc
    let ess := e.1.map (fun x => (1, x.1, x.2))
    let out := interleave (ess.length + flits.length) (s.glink k).row ess (flits.map (fun x => (0, x.1, x.2)))
    let s1 := p.2.setGlink k { p.2.glink k with row := essenceRow (s.glink k).row out }
    out.foldl (fun s x => s.glSend k x.1 x.2.1 x.2.2) s1

/-- A link sends what waits for it; then, where a frame received, a nak or credits are still owed to the far end, a frame of credits only carries
them (R580, R583; assumption log 103). -/
def State.glRun (s : State) (k : Nat) : State :=
  let s1 := if (s.glink k).state = glUp then s.glTraffic k else s
  let l := s1.glink k
  if (l.state = glUp ∨ l.state = glHello) ∧ (l.nak ∨ l.due ∨ l.owed ≠ []) then s1.glSend k 3 0 0 else s1

/-! ## Relays and replies (R594, R597, R603) -/

/-- This device posts words to the command address of a peer (R594, R597): none while the first link is blocked or no route matches. -/
def State.latPost (s : State) (dst path : Nat) (ws : List Word) : Option State :=
  let c := s.latDoor
  let p0 := mkPkt c c 2 3 0x7F 4 (4 * ws.length) 0 0x0000FF00 (bytesOfWords ws) []
  let p := ((p0.set 1 18 18 1).set 3 31 16 s.latAddr).set 3 15 0 dst
  let p1 : Pkt := { p with hdr := p.hdr.set 6 path }
  match s.latRoute p1 with
  | .link j p' => some (s.latRing c (s.glink j).vertex p')
  | .here => some (s.latRing c c p1)
  | _ => none

/-- A reply for a peer goes on its way; one of more than 128 words is cut to its header with BAD_LENGTH (R597). -/
def cutReply (ws : List Word) : List Word :=
  if 128 < ws.length then [wd ((ws.getD 0 0).toNat / 16777216 * 16777216 + 2 * 65536 + 0x0101), ws.getD 1 0] else ws
/-- Replies for peers leave in order; `peer` holds the request's lattice_src and, above it, its path word (R591). -/
def State.latReplies (s : State) : State :=
  s.hq.latOut.foldl (fun s r =>
    let s1 : State := { s with hq := { s.hq with latOut := s.hq.latOut.erase r } }
    let s2 := (s1.latPost (r.1 % 65536) (backPath (r.1 / 65536)) (cutReply r.2)).getD s1
    if bitsOf ((r.2.getD 1 0).toNat) 14 0 = 0x0801 then s2.latTake (.lattice r.1) else s2) s

/-- A relay is sent, or waits while it meets ROUTE_BLOCKED (R603). -/
def State.relayTry (s : State) (o : Op) : State :=
  match s.latPost (o.f 3 15 0) (o.w 4) (o.params.drop 4) with
  | some s1 => s1.putOp { o with stage := 1 }
  | none => s
/-- Relays that wait are sent again, and every link sends what it can. -/
def State.latticeRun (s : State) : State :=
  let s1 := (s.hq.ops.filter (fun o => o.opcode == 0x0800 && o.f 2 1 0 == 1 && o.stage == 0)).foldl (fun s o => s.relayTry o) s
  (List.range 16).foldl (fun s k => s.glRun k) s1.latReplies

/-- The endpoint at which a posted write for the steward has arrived: a change of the door leaves what came before at the other (R594). -/
def State.postedAt (s : State) (ws : List Word) : Option (Nat × Pkt) :=
  [cEndpoint 0, cEndpoint 6].findSome? (fun c =>
    ((s.ni c).arrive.find? (fun p => p.op == 2 && p.addr == 0x7F0000FF00 && p.data == bytesOfWords ws)).map (fun p => (c, p)))
/-- A posted write for the steward is taken from the endpoint (R594). -/
def State.takePosted (s : State) (ws : List Word) : State :=
  match s.postedAt ws with
  | some (c, p) => (s.setNi c { s.ni c with arrive := (s.ni c).arrive.erase p }).creditPacket c p
  | none => s

/-- LATTICE_COMMAND_RECEIVE (R85, R86, R594): the steward takes a command that a peer posted. `peer` is its lattice_src and, in bits above
16, the path word that came with it. -/
def execLatticeCommandReceive (peer : Nat) (ws : List Word) (s : State) : Result := .next ((s.takePosted ws).latReceive peer ws)

/-! ## Discovery (R602, R603) -/

/-- The operation of the discovery. -/
def State.discOp (s : State) : Option Op := s.hq.ops.find? (fun o => o.opcode == 0x0800 && o.f 2 1 0 == 0)
/-- A command packet of the discovery. -/
def discCmd (op target : Nat) (ws : List Nat) : List Word :=
  [wd ((2 + ws.length) * 65536 + op), wd target] ++ ws.map wd
/-- The discovery asks a visited device, along a path of one more link or none, and waits for the reply. -/
def State.discAsk (s : State) (d : Disc) (addr : Nat) (hop : Option Nat) (op target : Nat) (ws : List Nat) : State :=
  let dst := if addr = s.latAddr then 0xFFFF else addr
  let path := match hop with | some k => 0x20000000 + k | none => 0
  let s1 : State := { s with lat := { s.lat with disc := some { d with await := some op } } }
  (s1.latPost dst path (discCmd op target ws)).getD s1

/-- The query results of a link as the algorithm uses them: state, peer_assigned, arrival, serial, lattice id. -/
structure LinkView where
  up       : Bool
  assigned : Bool
  arrival  : Nat
  serial   : Nat
  lattice  : Nat
deriving DecidableEq, Repr
/-- The view of this device's own link. -/
def GLink.view (l : GLink) : LinkView :=
  { up := !l.pend && l.state == glUp, assigned := l.assigned, arrival := l.arrival, serial := l.serial, lattice := l.lattice }
/-- The view in a link query's reply. -/
def viewOf (ws : List Word) : LinkView :=
  let w (i : Nat) : Nat := (ws.getD i 0).toNat
  { up := bitsOf (w 3) 31 28 == glUp, assigned := (w 3).testBit 27, arrival := bitsOf (w 3) 24 21
    serial := w 4 + w 5 * 2 ^ 32 + w 6 * 2 ^ 64 + w 7 * 2 ^ 96, lattice := w 8 }

/-- Writes a route entry of this device. -/
def State.setRoute (s : State) (e w2 w3 : Nat) : State := { s with lat := { s.lat with routes := SMap.put (0, 0) s.lat.routes e (w2, w3) } }
/-- Replaces the device being visited. -/
def Disc.top (d : Disc) (v : Visit) : Disc := { d with stack := v :: d.stack.drop 1, await := none }

/-- What a link's query says (R602). -/
def Disc.sees (d : Disc) (id limit : Nat) (v : Visit) (x : LinkView) : Disc :=
  if x.up && !x.assigned then
    (if limit ≤ d.recs.length ∨ 0x0FFF < d.next then { d.top { v with k := v.k + 1, step := 0 } with full := true }
     else d.top { v with step := 1, arrival := x.arrival, serial := x.serial })
  else
    let d1 := d.top { v with k := v.k + 1, step := 0 }
    if x.assigned && x.lattice != id then { d1 with foreign := d1.foreign + 1 } else d1

/-- One step of the discovery by its root (R602); a step at another device asks it and waits. -/
def State.discStep (s : State) (d : Disc) (limit : Nat) : State :=
  let upd (s : State) (d : Disc) : State := { s with lat := { s.lat with disc := some d } }
  match d.stack with
  | [] => s
  | v :: rest =>
    let here := v.addr == s.latAddr
    if v.step = 0 then
      (if 16 ≤ v.k then
         -- the visit ends, and its parent narrows its entry
         upd s { d with stack := (match rest with | u :: t => { u with step := 4 } :: t | [] => []) }
       else if here then upd s (d.sees s.lat.id limit v (s.glink v.k).view)
       else s.discAsk d v.addr none 0x0882 (v.k * 65536) [])
    else if v.step = 1 then
      s.discAsk d v.addr (some v.k) 0x0801 0 [0x80000000 + d.next, s.lat.id, s.latAddr]
    else if v.step = 2 then
      let w2 := 0x80000000 + v.k * 16777216
      let w3 := 0x0FFF * 65536 + v.child
      if here then upd (s.setRoute v.k w2 w3) (d.top { v with step := 3 }) else s.discAsk d v.addr none 0x0802 ((0x100 + v.k) * 65536) [w2, w3]
    else if v.step = 3 then
      s.discAsk d v.addr (some v.k) 0x0802 ((0x100 + 63) * 65536) [0x80000000 + v.arrival * 16777216, 0x0FFF * 65536]
    else
      let w2 := 0x80000000 + v.k * 16777216
      let w3 := (d.next - 1) % 4096 * 65536 + v.child
      if here then upd (s.setRoute v.k w2 w3) (d.top { v with k := v.k + 1, step := 0 })
      else s.discAsk d v.addr none 0x0802 ((0x100 + v.k) * 65536) [w2, w3]

/-- The discovery goes on until it waits for a reply or has ended. -/
def State.discRun : Nat → State → State
  | 0, s => s
  | n + 1, s =>
    match s.lat.disc, s.discOp with
    | some d, some o =>
      if d.await.isSome ∨ d.stack.isEmpty then s
      else State.discRun n (s.discStep d (let m := o.f 4 31 16; if m = 0 then 4096 else m))
    | _, _ => s

/-- The discovery takes the reply it waits for (R602). -/
def State.discReply (s : State) (d : Disc) (ws : List Word) : State :=
  let upd (s : State) (d : Disc) : State := { s with lat := { s.lat with disc := some d } }
  let ok := bitsOf ((ws.getD 0 0).toNat) 15 0 == 0
  let limit := match s.discOp with | some o => (let m := o.f 4 31 16; if m = 0 then 4096 else m) | none => 4096
  match d.stack with
  | [] => upd s { d with await := none }
  | v :: rest =>
    let s1 :=
      if v.step = 0 then upd s (if ok then d.sees s.lat.id limit v (viewOf ws) else d.top { v with k := v.k + 1 })
      else if v.step = 1 then
        (if ok then
           let r : DevRec := { serial := v.serial, addr := d.next, parent := v.addr, plink := v.k, arrival := v.arrival, depth := rest.length + 1 }
           upd s { d.top { v with step := 2, child := d.next } with next := d.next + 1, recs := d.recs ++ [r] }
         else
           let d1 := d.top { v with k := v.k + 1, step := 0 }
           upd s (if bitsOf ((ws.getD 0 0).toNat) 15 0 = 0x0303 then { d1 with foreign := d1.foreign + 1 } else d1))
      else if v.step = 2 then upd s (d.top { v with step := 3 })
      else if v.step = 3 then upd s { d with await := none, stack := { addr := v.child } :: v :: rest }
      else upd s (d.top { v with k := v.k + 1, step := 0 })
    s1.discRun 4096

/-- LATTICE_REPLY_RECEIVE (R597, R602, R603): the reply a peer posts completes the relay whose command it answers, or takes the
discovery on. -/
def execLatticeReplyReceive (ws : List Word) (s : State) : Result :=
  .next
    (let s0 := s.takePosted ws
     let tag := bitsOf ((ws.getD 0 0).toNat) 31 24
     let op := bitsOf ((ws.getD 1 0).toNat) 14 0
     match s0.hq.ops.find? (fun o => o.opcode == 0x0800 && o.f 2 1 0 == 1 && o.stage == 1 && o.f 6 31 24 == tag && o.f 6 15 0 == op) with
     | some o => s0.complete o .ok ws
     | none =>
       match s0.lat.disc with
       | some d => if d.await = some op ∧ tag = 0 then s0.discReply d ws else s0
       | none => s0)

/-- The bytes of a device record (R603). -/
def DevRec.bytes (r : DevRec) : List Byte :=
  bytesOf 16 r.serial ++ bytesOf 2 r.addr ++ bytesOf 2 r.parent ++ bytesOf 1 r.plink ++ bytesOf 1 r.arrival ++ bytesOf 1 r.depth ++ bytesOf 9 0

/-- LAT_DISCOVER_COMPLETION (R602, R603): the discovery has visited every device. -/
def execLatDiscoverCompletion (s : State) : Result :=
  .next
    (match s.lat.disc, s.discOp with
     | some d, some o =>
       if !d.stack.isEmpty ∨ d.await.isSome then s
       else
         let a := o.f 6 7 0 * 4294967296 + o.w 5
         let s1 := (d.recs.zip (List.range d.recs.length)).foldl (fun s r => s.stewardStore (a + 32 * r.2) r.1.bytes) s
         let depth := d.recs.foldl (fun m r => max m r.depth) 0
         ({ s1 with lat := { s1.lat with disc := none } }).complete o .ok
           [wd d.recs.length, wd (d.foreign * 256 + depth % 256), wd (bit d.full * 2147483648 + (d.next - 1) % 4096)]
     | _, _ => s)

/-- The parameters of LAT_DISCOVER (R602, R603). -/
def State.discoverOk (s : State) (c : Cmd) : Bool :=
  let max_ := if c.f 4 31 16 = 0 then 4096 else c.f 4 31 16
  c.f 2 31 2 == 0 &&
  (if c.f 2 1 0 = 0 then
     c.f 3 31 12 == 0 && s.lat.addr.isSome && c.w 3 != s.latAddr && decide (max_ ≤ 4096) && c.w 5 % 64 == 0 && c.f 6 31 8 == 0 &&
     recordPlace (c.f 6 7 0 * 4294967296 + c.w 5) (32 * max_)
   else
     c.f 2 1 0 == 1 && c.f 3 31 16 == 0 && (decide (c.w 3 ≤ 0x0FFF) || c.w 3 == 0xFFFF) && c.f 4 28 24 == 0 && decide (c.f 4 31 29 ≤ 6) &&
     c.f 5 31 16 == 0)

/-- LAT_DISCOVER (R597, R602). -/
def execLatDiscover (c : Cmd) (s : State) : Result :=
  .next
    (let act := c.f 2 1 0
     let max_ := if c.f 4 31 16 = 0 then 4096 else c.f 4 31 16
     s.long 0x0800 c
       { len := if act = 0 then c.len == 7 else if act = 1 then decide (8 ≤ c.len) && decide (c.len ≤ 134) else true
         tgt := c.aims 0 0x000 0, par := s.discoverOk c
         auth := act != 0 || s.stewardMay (c.f 6 7 0 * 4294967296 + c.w 5) (32 * max_)
         free := !s.heldByOther c && (act != 0 || s.discOp.isNone) } none
       (fun s =>
         if act = 0 then
           let root : DevRec := { serial := s.ident.serial, addr := s.latAddr, parent := s.latAddr, plink := 0xFF, arrival := 0xFF, depth := 0 }
           ({ s with lat := { s.lat with disc := some { next := c.w 3, stack := [{ addr := s.latAddr }], recs := [root] } } } : State).discRun 4096
         else match s.opOf c.src c.tag with
           | some o => s.relayTry o
           | none => s))

/-! ## LATTICE_REQUEST_TIMEOUT (R595) -/

/-- LATTICE_REQUEST_TIMEOUT (R595): a request of DMA channel `c` to a peer, after `n` units, or of the stage of handle h, has had no response
for 1 ms. -/
def execLatticeRequestTimeout (who : LatClient) (s : State) : Result :=
  .next
    (match who with
     | .dma c n es ans =>
       if s.dmaState c.val = 1 ∧ ((s.dmaSrc c.val).testBit 63 ∨ (s.dmaDst c.val).testBit 63) then s.dmaAbort c.val n es ans else s
     | .stage h =>
       if s.hState h.val ≠ 1 then s
       else match s.stageOp h.val with
         | some o => if srcOfStage (o.w 2) = 4 then s.failStage h.val o .timeout else s
         | none => s)

/-! ## Addresses and routes (R604, R605) -/

/-- LAT_ASSIGN is admitted on a path (R604). -/
def State.assignAllowed (s : State) (c : Cmd) : Bool :=
  match c.src with
  | .lattice p => s.lat.addr.isNone || (p % 65536 == s.lat.root && c.w 3 == s.lat.id)
  | _ => true
/-- LAT_ASSIGN (R604, R608): what it sets takes effect once its reply has been sent. -/
def execLatAssign (c : Cmd) (s : State) : Result :=
  .next
    (s.immediate 0x0801 c
       { len := c.len == 5, tgt := c.aims 0 0x000 0, auth := s.assignAllowed c
         par := c.f 2 29 16 == 0 && decide (c.f 2 15 0 ≤ 0x0FFF) && c.w 3 != 0 && c.f 4 31 16 == 0, free := !s.heldByOther c }
       (fun s =>
         let a := if c.f 2 31 31 = 1 then some (c.f 2 15 0) else none
         ({ s with lat := { s.lat with next := s.lat.next ++ [(c.src, { addr := a, rootOnly := c.f 2 30 30 == 1, id := c.w 3, root := c.w 4 })] } }, [])))
/-- LAT_ASSIGN_QUERY (R604). -/
def execLatAssignQuery (c : Cmd) (s : State) : Result :=
  .next
    (s.immediate 0x0881 c { len := c.len == 2, tgt := c.aims 0 0x000 0 } (fun s =>
       (s, [wd (bit s.lat.addr.isSome * 2147483648 + bit s.lat.rootOnly * 1073741824 + s.lat.addr.getD 0), wd s.lat.id, wd s.lat.root])))

/-- The parameters of a link record (R576, R577, R604). -/
def State.linkOk (s : State) (k : Nat) (c : Cmd) : Bool :=
  let l : GLink := { word := c.w 2 }
  c.f 2 24 8 == 0 && decide (l.rate < 2) &&
  (!l.enabled ||
    (l.first % 4 == 0 && decide (l.first < 144) && s.glLanesOk l &&
     l.lanes.all (fun n => match s.linkOfLane n with | some j => j == k | none => true)))
/-- The lanes of a record stand in its way. -/
def Cmd.linkLanes (c : Cmd) : List Nat := if c.f 2 31 31 = 1 ∧ c.f 2 7 0 < 144 then ({ word := c.w 2 } : GLink).lanes else []
/-- LAT_ROUTE_SET (R604, R607). -/
def execLatRouteSet (c : Cmd) (s : State) : Result :=
  .next
    (let k := c.inst
     let isLink := decide (k < 16)
     s.immediate 0x0802 c
       { len := if isLink then c.len == 3 else c.len == 4
         tgt := c.die == 0 && c.blk == 0x000 && (isLink || (decide (0x100 ≤ k) && decide (k < 0x140)))
         par := if isLink then s.linkOk k c else c.f 2 30 28 == 0 && c.f 2 15 0 == 0 && c.f 3 31 28 == 0 && c.f 3 15 12 == 0
         dom := !isLink || c.linkLanes.all (fun n => s.laneOn n)
         ret := !isLink || c.linkLanes.all (fun n => s.laneState n != lnRetired), free := !s.heldByOther c }
       (fun s =>
         if !isLink then (s.setRoute (k - 0x100) (c.w 2) (c.w 3), [])
         else if c.f 2 31 31 = 1 then ((s.glDisable k 0).glEnable k (c.w 2), [])
         else (s.glDisable k (c.w 2), [])))
/-- LAT_ROUTE_SET_QUERY (R605, R607). -/
def execLatRouteSetQuery (c : Cmd) (s : State) : Result :=
  .next
    (let k := c.inst
     let isLink := decide (k < 16)
     s.immediate 0x0882 c
       { len := c.len == 2, tgt := c.die == 0 && c.blk == 0x000 && (isLink || (decide (0x100 ≤ k) && decide (k < 0x140))) }
       (fun s =>
         if isLink then
           let l := s.glink k
           (s, [wd l.word, wd l.word3] ++ (List.range 4).map (fun i => wd (bitsOf l.serial (32 * i + 31) (32 * i))) ++ [wd l.lattice] ++
             [l.frames, l.resends, l.crcs, l.tags, l.hops].flatMap (fun n => [wd (n % 4294967296), wd (n / 4294967296)]))
         else
           let w := SMap.get (0, 0) s.lat.routes (k - 0x100)
           (s, [wd w.1, wd w.2])))

/-- LINK_RECORD_REAPPLY (R607): host LANE_SETs meet R577 on all four lanes of a pending record again. -/
def execLinkRecordReapply (k : Fin 16) (s : State) : Result :=
  .next
    (let l := s.glink k.val
     if l.pend && l.enabled && s.glLanesOk l && l.lanes.all (fun n => s.laneOn n && s.laneState n != lnRetired && (s.linkOfLane n).isNone) then s.glEnable k.val l.word
     else s)

end Sys2Proof.Machine
end

