-- ==== Sys2Proof/Machine/Debug.lean ====
section
/-! DEFINITION. The debug domain (R638–R663): the TAP, the rights, run control, sleep emulation and trace. The accesses of the debug
master and of the DBGREG and CMDPATH registers are in DebugAccess. -/
namespace Sys2Proof.Machine

/-! ## Writes to DBG (R663) -/

/-- The rails of R617 are good, as the debug domain sees them (DBG_INFO.main_good). -/
def State.mainGood (s : State) : Bool := s.pwr.boot != .inReset
/-- DBG_STIM lies here (R663). -/
def inStim (off : Nat) : Bool := decide (0x600 ≤ off) && decide (off < 0x700)
/-- A write to a register of DBG: the management function and JTAG may make it, and cue cores to DBG_STIM. -/
def State.dbgWrite (s : State) (w : DbgBy) (off : Nat) (act : State → State) : State :=
  match w with
  | .jtag => if s.dbg.on then act s else s
  | .bus m =>
    if !s.busUp then s.busDead m true (dbgBase + off)
    else match s.denied m 0 0x0F0 off true with
    | some c => s.busError m true (dbgBase + off) c
    | none =>
      let may := match m with
        | .hostMgmt => true
        | .cue _ => inStim off
        | _ => false
      if may then act s else s.busError m true (dbgBase + off) .mgmtOnly
/-- The writer is the owner (DBG_CTL.owner). -/
def State.dbgOwner (s : State) (w : DbgBy) : Bool :=
  match w with
  | .jtag => !s.flag dbgBase F.DBG_CTL_owner
  | .bus _ => s.flag dbgBase F.DBG_CTL_owner
/-- A write that the owner may make where `right` stands; any other is ignored and recorded. -/
def State.dbgOwned (s : State) (w : DbgBy) (right : Bool) (act : State → State) : State :=
  if s.dbgOwner w && right then act s else s.raise dbgBase F.DBG_STAT_denied
/-- The group of cue[n]. -/
def dbgCore (n : Nat) : Nat := dbgBase + 0x40 * n

/-! ## Run control (R653–R656) -/

/-- What a core's instructions left in its registers, as (number, value), where it comes to a stop. -/
def State.cueTook (s : State) (n : Nat) (regs : List (Nat × Nat)) : State :=
  regs.foldl (fun s r => if r.1 = 0x1000 then s else s.setCueReg n r.1 r.2) s
/-- A running core halts (R557, R653). -/
def State.haltCue (s : State) (n reason : Nat) (regs : List (Nat × Nat)) : State :=
  if s.cueState n ≠ cuRunning then s
  else
    let s1 := (s.cueTook n regs).setF (dbgCore n) F.DBG_RUN_reason reason
    (s1.setCueX n { s1.cueX n with resv := none }).toCue n cuHalted
/-- A halted core goes on (R557). -/
def State.resumeCue (s : State) (n : Nat) : State := if s.cueState n = cuHalted then s.toCue n cuRunning else s
/-- A halted core retires one instruction and halts again (R654). -/
def State.stepCue (s : State) (n : Nat) (regs : List (Nat × Nat)) : State :=
  if s.cueState n = cuHalted then (s.resumeCue n).haltCue n 2 regs else s

/-- A write of DBG_RUN of core n; each request acts on the state that the write finds. -/
def State.runWrite (s : State) (w : DbgBy) (n v : Nat) (regs : List (Nat × Nat)) : State :=
  s.dbgOwned w (s.right 0) (fun s =>
    let s1 := (s.setF (dbgCore n) F.DBG_RUN_halt_on_reset (bitsOf v 4 4)).setF (dbgCore n) F.DBG_RUN_step_ie (bitsOf v 3 3)
    if !s1.mainGood then s1
    else if s1.cueState n = cuRunning then (if v.testBit 31 then s1.haltCue n 0 regs else s1)
    else if v.testBit 30 then s1.resumeCue n
    else if v.testBit 29 then s1.stepCue n regs
    else s1)
/-- The register contents given for core n. -/
def regsOf (n : Nat) (l : List (Nat × Nat × Nat)) : List (Nat × Nat) := (l.filter (fun p => p.1 == n)).map (fun p => p.2)
/-- A write of DBG_GROUP. -/
def State.groupWrite (s : State) (w : DbgBy) (v : Nat) (regs : List (Nat × Nat × Nat)) : State :=
  s.dbgOwned w (s.right 0) (fun s =>
    if !s.mainGood then s
    else (List.range 8).foldl (fun s' n =>
      if s.cueState n = cuRunning then (if v.testBit n then s'.haltCue n 0 (regsOf n regs) else s')
      else if v.testBit (8 + n) then s'.resumeCue n else s') s)

/-- DBG_HALT (R653): DBG_RUN of core n is written with halt = 1. -/
def execDbgHalt (w : DbgBy) (n : Fin 8) (v : Word) (regs : List (Nat × Nat)) (s : State) : Result :=
  .next (s.dbgWrite w (0x100 + 0x40 * n.val) (fun s => s.runWrite w n.val (v.toNat ||| 2 ^ 31) regs))
/-- DBG_RESUME (R653): DBG_RUN of core n is written with resume = 1. -/
def execDbgResume (w : DbgBy) (n : Fin 8) (v : Word) (s : State) : Result :=
  .next (s.dbgWrite w (0x100 + 0x40 * n.val) (fun s => s.runWrite w n.val (v.toNat ||| 2 ^ 30) []))
/-- DBG_STEP (R654): DBG_RUN of core n is written with step = 1; `regs` is what the instruction, or the entry to a handler where step_ie
lets a pending interrupt in, leaves in the core's registers. -/
def execDbgStep (w : DbgBy) (n : Fin 8) (v : Word) (regs : List (Nat × Nat)) (s : State) : Result :=
  .next (s.dbgWrite w (0x100 + 0x40 * n.val) (fun s => s.runWrite w n.val (v.toNat ||| 2 ^ 29) regs))
/-- DBG_GROUP_HALT (R653): DBG_GROUP is written with halt bits. -/
def execDbgGroupHalt (w : DbgBy) (mask : BitVec 8) (regs : List (Nat × Nat × Nat)) (s : State) : Result :=
  .next (s.dbgWrite w 0x64 (fun s => s.groupWrite w mask.toNat regs))
/-- DBG_GROUP_RESUME (R653): DBG_GROUP is written with resume bits. -/
def execDbgGroupResume (w : DbgBy) (mask : BitVec 8) (s : State) : Result :=
  .next (s.dbgWrite w 0x64 (fun s => s.groupWrite w (256 * mask.toNat) []))

/-- Breakpoint k of core n. -/
def bpBase (n k : Nat) : Nat := dbgCore n + 8 * k
/-- The kinds that a breakpoint's kind field takes (R663). -/
def bpTakes (kind : Nat) (k : BpKind) : Bool :=
  match k with
  | .exec => kind == 0
  | .load => kind == 1 || kind == 3
  | .store => kind == 2 || kind == 3
/-- A breakpoint is armed for an access of a kind at an address (R655): it matches on an 8-byte granule. -/
def State.bpHit (s : State) (n k : Nat) (kind : BpKind) (addr : Nat) : Bool :=
  s.dbg.on && s.right 0 && s.flag (bpBase n k) F.DBG_BP_HI_en && bpTakes (s.getF (bpBase n k) F.DBG_BP_HI_kind) kind &&
  addr / 8 == (s.getF (bpBase n k) F.DBG_BP_HI_addr * 4294967296 + s.getF (bpBase n k) F.DBG_BP_LO_addr) / 8
/-- BREAKPOINT_HIT (R655): core n is about to execute at an address, or has completed an access to it. -/
def execBreakpointHit (n : Fin 8) (k : Fin 4) (kind : BpKind) (addr : BitVec 40) (regs : List (Nat × Nat)) (s : State) : Result :=
  .next (if s.bpHit n.val k.val kind addr.toNat then s.haltCue n.val 1 regs else s)

/-- Sleep emulation of cue[n] (DBG_HOLD_CUE.emul). -/
def State.cueEmul (s : State) (n : Nat) : Bool := (s.getF dbgBase F.DBG_HOLD_CUE_emul).testBit n
/-- A register number that a core has (R656). -/
def cregOk (r : Nat) : Bool := decide (r < 0x1000) || (decide (0x1000 ≤ r) && decide (r < 0x1040)) || r == regPc
/-- What a read of a core's register gives (R552, R553, R656): mip shows its interrupt inputs, its timer and its software interrupt as they are,
and the time CSR mtime. -/
def State.cueRegRead (s : State) (n r : Nat) : Nat :=
  if r = 0xC01 then s.mtime
  else if r = 0x344 then
    (s.cueReg n r &&& 0xFFFFFFFF0000FF77) + 8 * s.getF (cueBase n) F.CUE_MSIP_msip +
      128 * bit ((s.cueX n).timer || decide (s.mtimecmp n ≤ s.mtime)) +
      ((List.range 16).map (fun k => 2 ^ (16 + k) * bit (s.cueInput n k))).sum
  else s.cueReg n r
/-- The core is halted, as the debugger sees it (R656, R657). -/
def State.cueIsHalted (s : State) (n : Nat) : Bool := s.cueState n == cuHalted || s.cueEmul n
/-- A write of DBG_CREG_CTL of core n. -/
def State.cregWrite (s : State) (w : DbgBy) (n v : Nat) : State :=
  s.dbgOwned w (s.right 0) (fun s =>
    let b := dbgCore n
    let s0 := if v.testBit 29 then s.lower b F.DBG_CREG_CTL_err else s
    let s1 := (s0.setF b F.DBG_CREG_CTL_write (bitsOf v 30 30)).setF b F.DBG_CREG_CTL_regno (bitsOf v 15 0)
    if !v.testBit 31 then s1
    else
      let r := bitsOf v 15 0
      if !(s1.mainGood && s1.cueIsHalted n && cregOk r) then s1.raise b F.DBG_CREG_CTL_err
      else if v.testBit 30 then
        (if r = 0x1000 then s1
         else s1.setCueReg n r (s1.getF b F.DBG_CREG_DATA_HI_data * 4294967296 + s1.getF b F.DBG_CREG_DATA_LO_data))
      else (s1.setF b F.DBG_CREG_DATA_LO_data (s1.cueRegRead n r)).setF b F.DBG_CREG_DATA_HI_data (s1.cueRegRead n r / 4294967296))
/-- DBG_CREG_GO (R656): DBG_CREG_CTL of core n is written with go = 1. -/
def execDbgCregGo (w : DbgBy) (n : Fin 8) (v : Word) (s : State) : Result :=
  .next (s.dbgWrite w (0x104 + 0x40 * n.val) (fun s => s.cregWrite w n.val (v.toNat ||| 2 ^ 31)))

/-! ## Sleep emulation (R657, R658) -/

/-- Sleep emulation of facet f (DBG_EMUL_F). -/
def State.facetEmul (s : State) (f : Nat) : Bool :=
  if f < 32 then (s.getF dbgBase F.DBG_EMUL_F_LO_emul).testBit f else (s.getF dbgBase F.DBG_EMUL_F_HI_emul).testBit (f - 32)
/-- The hold right stands and the core's, or the facet's, hold bit is set. -/
def State.holdsCue (s : State) (n : Nat) : Bool := s.dbg.on && s.right 4 && (s.getF dbgBase F.DBG_HOLD_CUE_hold).testBit n
@[inherit_doc State.holdsCue] def State.holdsFacet (s : State) (f : Nat) : Bool :=
  s.dbg.on && s.right 4 &&
  (if f < 32 then (s.getF dbgBase F.DBG_HOLD_F_LO_hold).testBit f else (s.getF dbgBase F.DBG_HOLD_F_HI_hold).testBit (f - 32))
/-- Notes whether cue[n], or facet f, is emulated. -/
def State.noteCue (s : State) (n : Nat) (on : Bool) : State := s.setBitOf dbgBase F.DBG_HOLD_CUE_emul n on
@[inherit_doc State.noteCue] def State.noteFacet (s : State) (f : Nat) (on : Bool) : State :=
  if f < 32 then s.setBitOf dbgBase F.DBG_EMUL_F_LO_emul f on else s.setBitOf dbgBase F.DBG_EMUL_F_HI_emul (f - 32) on
/-- cue[n] shows OFF (or STOPPED), halted with reason 0, and keeps what it holds. -/
def State.emulCue (s : State) (n : Nat) (off : Bool) : State :=
  let s1 := s.setF (dbgCore n) F.DBG_RUN_reason 0
  ((if off then (s1.resetCue n).toCue n cuOff else (s1.setCueX n { s1.cueX n with resv := none }).toCue n cuStopped)).noteCue n true
/-- Facet f shows OFF (or STOPPED): its cells hold, requests to it are answered, its planes show no validity, and it keeps the rest. -/
def State.emulFacet (s : State) (f : Nat) (off : Bool) : State :=
  let s1 := if off then ((((s.hold f).endRegport f 0x0201 true).invalidate f 0).invalidate f 1).toFacet f fcOff else s.facetStop f
  s1.noteFacet f true
/-- An emulated core becomes really OFF. -/
def State.endCueEmul (s : State) (n : Nat) : State :=
  if s.cueEmul n then
    let s1 := s.noteCue n false
    let s2 := if s1.cueState n = cuOff then s1.zero (cueImem n) 0x20000 else s1.cueLost n
    (s2.setCueX n { s2.cueX n with regs := [] }).reachDom (cueDom n) 0
  else s
/-- An emulated facet becomes really OFF. -/
def State.endFacetEmul (s : State) (f : Nat) : State := if s.facetEmul f then ((s.noteFacet f false).facetLost f).reachDom f 0 else s
/-- Every emulated domain becomes really OFF (R658). -/
def State.endEmulation (s : State) : State :=
  (List.range 48).foldl (fun s f => s.endFacetEmul f) ((List.range 8).foldl (fun s n => s.endCueEmul n) s)

/-- A write of DBG_HOLD_CUE (R658). -/
def State.holdCueWrite (s : State) (w : DbgBy) (v : Nat) : State :=
  s.dbgOwned w (s.right 4) (fun s =>
    (List.range 8).foldl (fun s n => if v.testBit n then s else s.endCueEmul n) (s.setF dbgBase F.DBG_HOLD_CUE_hold (v % 256)))
/-- A write of DBG_HOLD_F_LO, or _HI (R658). -/
def State.holdFWrite (s : State) (w : DbgBy) (hi : Bool) (v : Nat) : State :=
  s.dbgOwned w (s.right 4) (fun s =>
    if hi then (List.range 16).foldl (fun s i => if v.testBit i then s else s.endFacetEmul (32 + i)) (s.setF dbgBase F.DBG_HOLD_F_HI_hold v)
    else (List.range 32).foldl (fun s i => if v.testBit i then s else s.endFacetEmul i) (s.setF dbgBase F.DBG_HOLD_F_LO_hold v))
/-- DBG_HOLD_CUE_WRITE (R657, R658). -/
def execDbgHoldCueWrite (w : DbgBy) (v : Word) (s : State) : Result := .next (s.dbgWrite w 0x50 (fun s => s.holdCueWrite w v.toNat))
/-- DBG_HOLD_F_WRITE (R657, R658): of DBG_HOLD_F_LO, or _HI. -/
def execDbgHoldFWrite (w : DbgBy) (hi : Bool) (v : Word) (s : State) : Result :=
  .next (s.dbgWrite w (if hi then 0x58 else 0x54) (fun s => s.holdFWrite w hi v.toNat))

/-! ## Rights (R644–R648) -/

/-- Policy bit 0, which reads 1 on a dead device (R644). -/
def State.rightsLocked (s : State) : Bool := s.ident.debugPolicy.testBit 0 || s.ident.debugPolicy.testBit 6
/-- The rights become `r`; what rested on a right that is gone ends with it (R161, R648). -/
def State.setRights (s : State) (r : Nat) (expiry : Option Nat) : State :=
  let gone (s : State) (i : Nat) : Bool := (s.getF dbgBase F.DBG_RIGHTS_rights).testBit i && !r.testBit i
  let g0 := gone s 0
  let g4 := gone s 4
  let g5 := gone s 5
  let s1 := (s.setF dbgBase F.DBG_RIGHTS_rights r)
  let s2 : State := { s1 with dbg := { s1.dbg with expiry := expiry } }
  let s3 := if g0 then (List.range 8).foldl (fun s n => s.resumeCue n) s2 else s2
  let s4 := if g4 then s3.endEmulation else s3
  let s5 := if s4.probeLocked then (List.range 4).foldl (fun s q => s.setF (probeBase q) F.PROBE_CTL_enable 0) s4 else s4
  if g5 && s5.policyBars 4 5 then { s5 with dbg := { s5.dbg with stopped := true } } else s5
/-- All rights end (R648); on a device with policy bit 0 clear they stand for good (R644). -/
def State.endRights (s : State) : State :=
  if s.rightsLocked then
    (if s.getF dbgBase F.DBG_RIGHTS_rights = 0 then s else (s.setRights 0 none).raise dbgBase F.DBG_STAT_rights_ended)
  else s

/-- DBG is the target (R645). -/
def Cmd.aimsDbg (c : Cmd) : Bool := c.aims 0 0x0F0 0
/-- DBG_CHALLENGE (R646). -/
def execDbgChallenge (c : Cmd) (s : State) : Result :=
  .next
    (s.immediate 0x0900 c { len := c.len == 2, tgt := c.aimsDbg, auth := !s.ident.debugPolicy.testBit 6, dom := s.dbg.on } (fun s =>
      let v := Config.nonce s.dbg.drawn
      ({ s with dbg := { s.dbg with nonce := some (s.dbg.drawn, s.now), drawn := s.dbg.drawn + 1 } },
       (List.range 8).map (fun i => wd (v / 2 ^ (32 * i))))))
/-- NONCE_EXPIRY (R646): 60 s after its issue, so time has come at least that far. -/
def execNonceExpiry (s : State) : Result :=
  .next
    (match s.dbg.nonce with
     | some (_, t) =>
       let s1 := s.reachNow (t + 60000000000)
       { s1 with dbg := { s1.dbg with nonce := none } }
     | none => s)

/-- The bytes of packet words `i` to `i + n − 1` (R96). -/
def Cmd.bytesAt (c : Cmd) (i n : Nat) : List Byte := bytesOfWords ((c.params.drop (i - 2)).take n)
/-- Step 1 of R647. -/
def Cmd.unlockOk (c : Cmd) : Bool :=
  c.f 2 31 16 != 0 && c.f 2 15 8 == 0 && c.f 99 31 8 == 0 && c.f 2 7 0 &&& (255 - c.f 99 7 0) == 0
/-- Steps 2 to 5 of R647, with the nonce not expired (R646). -/
def State.tokenOk (s : State) (c : Cmd) : Bool :=
  match s.dbg.nonce with
  | none => false
  | some (i, t) =>
    let dbgKey := c.bytesAt 3 24
    let ownKey := c.bytesAt 51 24
    decide (s.now < t + 60000000000) && s.ident.ownerKeyOk ownKey &&
    Config.ecdsaOk (ofBytesBE ownKey) (Config.sha384 (dbgKey ++ c.bytesAt 99 1)) (c.bytesAt 75 24) &&
    Config.ecdsaOk (ofBytesBE dbgKey) (Config.sha384 (bytesOf 32 (Config.nonce i) ++ bytesOf 16 s.ident.serial ++ c.bytesAt 2 1)) (c.bytesAt 27 24)
/-- The rights and the seconds left, as DBG_RIGHTS shows them. -/
def State.rightsLeft (s : State) : Nat :=
  match s.dbg.expiry with | some t => min 16777215 ((t - s.now + 999999999) / 1000000000) | none => 0
/-- DBG_UNLOCK (R647). -/
def execDbgUnlock (c : Cmd) (s : State) : Result :=
  .next
    (let chk : Chk := { len := c.len == 100, tgt := c.aimsDbg, auth := !s.ident.debugPolicy.testBit 6, par := c.unlockOk, dom := s.dbg.on }
     let used (s : State) : State := { s with dbg := { s.dbg with nonce := none } }
     if s.fetching && s.refused 0x0901 c then s.answerRefused 0x0901 c chk
     else if !s.handles 0x0901 c then s else
     let s1 := s.take 0x0901 c
     match s1.gate 0x0901 c chk with
     | some st => ((used (if st = .badParam then s1.raise dbgBase F.DBG_STAT_auth_failed else s1))).answer 0x0901 c st []
     | none =>
       if !s1.tokenOk c then ((used s1).raise dbgBase F.DBG_STAT_auth_failed).answer 0x0901 c .authFail []
       else
         let s2 := if s1.rightsLocked then (used s1).setRights (c.f 2 7 0) (some (s1.now + c.f 2 31 16 * 60000000000)) else used s1
         s2.answer 0x0901 c .ok [wd (s2.getF dbgBase F.DBG_RIGHTS_rights), wd s2.rightsLeft])
/-- RIGHTS_EXPIRY (R648): the granted time has passed. -/
def execRightsExpiry (s : State) : Result :=
  .next
    (match s.dbg.expiry with
     | some t => (s.reachNow t).endRights
     | none => s)
/-- A write of DBG_CTL. -/
def State.dbgCtl (s : State) (v : Nat) : State :=
  let s1 := s.setF dbgBase F.DBG_CTL_owner (v % 2)
  if v.testBit 31 then s1.endRights else s1
/-- DBG_RELOCK (R648): DBG_CTL is written with relock = 1. -/
def execDbgRelock (w : DbgBy) (owner : Bool) (s : State) : Result :=
  .next (s.dbgWrite w 0x14 (fun s => s.dbgCtl (2 ^ 31 + bit owner)))

/-! ## VCC_DBG and the TAP (R638–R643) -/

/-- VCC_DBG_RISE (R638, R644, R663): every register of DBG at its reset value; with policy bit 0 clear every right is granted. -/
def execVccDbgRise (s : State) : Result :=
  .next
    (if s.dbg.on then s
     else
       let s1 : State := ((s.clearRegs dbgBase (dbgBase + 0x10000)).clearCounters dbgBase (dbgBase + 0x10000))
       let s2 : State := { s1 with dbg := { on := true, drawn := s.dbg.drawn } }
       if s2.rightsLocked then s2 else s2.setF dbgBase F.DBG_RIGHTS_rights 0xFF)
/-- VCC_DBG_LOSS (R638, R648): all rights end, with what rests on them, and the domain loses everything. -/
def execVccDbgLoss (s : State) : Result :=
  .next
    (if !s.dbg.on then s
     else
       let s1 := s.setRights 0 none
       { ((s1.clearRegs dbgBase (dbgBase + 0x10000)).clearCounters dbgBase (dbgBase + 0x10000)) with
         dbg := { drawn := s1.dbg.drawn } })

/-- An instruction enters the instruction register; without VCC_DBG the TAP ignores its pins (R638), and the boundary-scan family acts as
BYPASS while the other rails are not good (R639). -/
def State.tapLoad (s : State) (i : TapInstr) : State :=
  let family := match i with
    | .idcode | .bypass | .dbgreg | .cmdpath => false
    | _ => true
  { s with dbg := { s.dbg with tap := if family && !s.mainGood then .bypass else i } }
/-- One scan of the bypass register gives a 0 bit. -/
def State.tapBypass (s : State) (i : TapInstr) : State := if s.dbg.on then (s.tapLoad i).emit (.tdo 1 0) else s
/-- Cells of the boundary-scan register. -/
def scanCells : Nat := 1747
/-- One scan of the boundary-scan register: what the pins showed goes out, what is shifted in stays. -/
def State.tapScan (s : State) (i : TapInstr) (pins v : Nat) : State :=
  if !s.dbg.on then s
  else if !s.mainGood then s.tapBypass .bypass
  else
    let s1 := (s.tapLoad i).emit (.tdo scanCells (pins % 2 ^ scanCells))
    { s1 with dbg := { s1.dbg with scan := v % 2 ^ scanCells } }

/-- TEST_LOGIC_RESET (R640). -/
def execTestLogicReset (s : State) : Result := .next (if s.dbg.on then s.tapLoad .idcode else s)
/-- EXTEST (R643). -/
def execExtest (pins v : Nat) (s : State) : Result := .next (s.tapScan .extest pins v)
/-- IDCODE (R640). -/
def execIdcode (s : State) : Result := .next (if s.dbg.on then (s.tapLoad .idcode).emit (.tdo 32 0x1944056D) else s)
/-- SAMPLE_PRELOAD (R640). -/
def execSamplePreload (pins v : Nat) (s : State) : Result := .next (s.tapScan .sample pins v)
/-- CLAMP (R643). -/
def execClamp (s : State) : Result := .next (s.tapBypass .clamp)
/-- HIGHZ (R643). -/
def execHighz (s : State) : Result := .next (s.tapBypass .highz)
/-- EXTEST_PULSE (R643). -/
def execExtestPulse (pins v : Nat) (s : State) : Result := .next (s.tapScan .extestPulse pins v)
/-- EXTEST_TRAIN (R643). -/
def execExtestTrain (pins v : Nat) (s : State) : Result := .next (s.tapScan .extestTrain pins v)
/-- BYPASS (R640): its own code, or one that is not listed. -/
def execBypass (s : State) : Result := .next (s.tapBypass .bypass)

/-! ## Trace (R659–R662) -/

/-- The agent of a stimulus packet. -/
def stimAgent : DbgBy → Nat
  | .jtag => 9
  | .bus (.cue n) => n.val + 1
  | .bus _ => 0
/-- A write of DBG_STIM[p] (R660). -/
def State.stim (s : State) (w : DbgBy) (p v : Nat) : State :=
  if s.tracing then s.traceFrom 1 p (s.traces 1) 1 (stimAgent w) v else s
/-- DBG_STIM_WRITE (R660). -/
def execDbgStimWrite (w : DbgBy) (p : Fin 64) (v : Word) (s : State) : Result :=
  .next (s.dbgWrite w (0x600 + 4 * p.val) (fun s => s.stim w p.val v.toNat))
/-- PC_SAMPLE (R660): `pcs` holds the cores' program counters. -/
def execPcSample (pcs : List (BitVec 40)) (s : State) : Result :=
  .next
    (if s.getF dbgBase F.DBG_TRC_PCS_interval = 0 ∨ !s.traces 4 then s
     else (List.range 8).foldl (fun s n =>
       let pc := (pcs.getD n 0).toNat
       if (s.getF dbgBase F.DBG_TRC_PCS_cores).testBit n then s.tracePacket 4 n (pc / 4294967296) pc false else s) s)

/-- The slot the next packet takes (DBG_TRC_STAT.wptr). -/
def State.trcPtr (s : State) : Nat := s.getF dbgBase F.DBG_TRC_STAT_wptr
/-- The export ring's base and size. -/
def State.expBase (s : State) : Nat := s.getF dbgBase F.DBG_TRC_EXP_HI_base * 4294967296 + s.getF dbgBase F.DBG_TRC_EXP_LO_base * 64
@[inherit_doc State.expBase] def State.expSize (s : State) : Nat := s.getF dbgBase F.DBG_TRC_EXP_SIZE_size * 64
/-- Whether frame memory took a write. -/
def expWritten (w : Option Status × State) : Bool × State := (w.1 == some .ok, w.2)
/-- A write of the export ring as master class 3; `ans` is the answer of another unit that holds the address. -/
def State.expStore (s : State) (a : Nat) (bs : List Byte) (es : List LineErr) (ans : Bool) : Bool × State :=
  if a < fmSize then expWritten (s.fmWrite 3 a bs [] es)
  else if 0x4000000000 ≤ a ∧ a < 0x5000000000 then
    let r := s.windowBurst .debug a true bs (if ans then some ([0], false) else none)
    (r.1.isSome, r.2)
  else if s.answeredElsewhere a then (ans, s)
  else if s.memOpen a then (true, s.store a bs)
  else (false, s)
/-- Where in the export ring the next packet goes. -/
def State.expPtr (s : State) : Nat := s.getF dbgBase F.DBG_TRC_EXP_PTR_ptr % s.expSize
/-- The write of the export ring ended: the pointer moves on, or export stops (R662). -/
def exported (next : Nat) (r : Bool × State) : State :=
  if r.1 then r.2.setF dbgBase F.DBG_TRC_EXP_PTR_ptr (next % r.2.expSize)
  else { r.2.raise dbgBase F.DBG_STAT_export_failed with dbg := { r.2.dbg with noExp := true } }
/-- A packet is exported (R662). -/
def State.exportPacket (s : State) (v : Nat) (es : List LineErr) (ans : Bool) : State :=
  if !s.flag dbgBase F.DBG_TRC_CTL_export || s.dbg.noExp || s.expSize == 0 then s
  else exported (s.expPtr + 16) (s.expStore (s.expBase + s.expPtr) (bytesOf 16 v) es ans)
/-- A packet is stored: numbered, in its slot, counted; with wrap = 0 capture stops when the buffer is full, and after the trigger when
its packets are stored (R662). -/
def State.storePacket (s : State) (p : TPkt) (es : List LineErr) (ans : Bool) : State :=
  let v := (p.words.getD 0 0 / 256 * 256 + s.dbg.seq % 256) + 2 ^ 32 * (p.words.getD 1 0) + 2 ^ 64 * (p.words.getD 2 0) + 2 ^ 96 * (p.words.getD 3 0)
  let at_ := s.trcPtr
  let s1 : State := { s with dbg := { s.dbg with
    tbuf := SMap.put 0 s.dbg.tbuf at_ v, seq := (s.dbg.seq + 1) % 256
    remain := s.dbg.remain.map (fun k => k - 1)
    stopped := s.dbg.stopped || decide (s.dbg.remain = some 1) || (at_ == 2047 && !s.flag dbgBase F.DBG_TRC_CTL_wrap) } }
  let s2 := ((s1.setF dbgBase F.DBG_TRC_STAT_wptr ((at_ + 1) % 2048)).dbgCount F.DBG_SH_PKTS_LO_lo 1).exportPacket v es ans
  let s3 := if at_ = 2047 ∧ s.flag dbgBase F.DBG_TRC_CTL_wrap then s2.raise dbgBase F.DBG_TRC_STAT_wrapped else s2
  if p.trig then s3.stopAfter (64 * s3.getF dbgBase F.DBG_TRC_CTL_post) else s3
/-- The export ring lies in a fabric window whose register port takes no request now (R234). -/
def State.exportWaits (s : State) : Bool :=
  s.flag dbgBase F.DBG_TRC_CTL_export && !s.dbg.noExp && s.expSize != 0 && s.portHeld (s.expBase + s.expPtr)
/-- TRACE_PACKET_STORE (R661, R662): the packet at the head of the queue is stored, after a type 6 packet where some were dropped. -/
def execTracePacketStore (es : List LineErr) (ans : Bool) (s : State) : Result :=
  .next
    (match s.dbg.queue with
     | [] => s
     | p :: t =>
       let s1 : State := { s with dbg := { s.dbg with queue := t } }
       if !s1.tracing then s1
       else if s1.exportWaits then s
       else
         let s2 :=
           if s1.dbg.lost = 0 then s1
           else ({ s1 with dbg := { s1.dbg with lost := 0 } } : State).storePacket
             { words := [0x60000000, s1.dbg.lost, p.words.getD 2 0, p.words.getD 3 0], trig := false } es ans
         if s2.tracing then s2.storePacket p es ans else s2)

/-- A write of DBG_TRC_CTL: capture begins anew when enable is set, and with clear the buffer is emptied. -/
def State.trcCtl (s : State) (w : DbgBy) (v : Nat) : State :=
  s.dbgOwned w (!s.policyBars 4 5) (fun s =>
    let was := s.flag dbgBase F.DBG_TRC_CTL_enable
    let s1 := ((((s.setF dbgBase F.DBG_TRC_CTL_enable (bitsOf v 31 31)).setF dbgBase F.DBG_TRC_CTL_wrap (bitsOf v 30 30)).setF dbgBase
      F.DBG_TRC_CTL_export (bitsOf v 29 29)).setF dbgBase F.DBG_TRC_CTL_post (bitsOf v 15 8)).setF dbgBase F.DBG_TRC_CTL_types (bitsOf v 7 0)
    let s2 : State := if v.testBit 28 ∨ (v.testBit 31 ∧ !was) then
        { s1 with dbg := { s1.dbg with stopped := false, remain := none, noExp := false } } else s1
    if v.testBit 28 then
      ({ s2 with dbg := { s2.dbg with tbuf := [] } }.lower dbgBase F.DBG_TRC_STAT_wptr).lower dbgBase F.DBG_TRC_STAT_wrapped
    else s2)
/-- DBG_TRC_CLEAR (R663): DBG_TRC_CTL is written with clear = 1. -/
def execDbgTrcClear (w : DbgBy) (v : Word) (s : State) : Result :=
  .next (s.dbgWrite w 0x400 (fun s => s.trcCtl w (v.toNat ||| 2 ^ 28)))

end Sys2Proof.Machine
end

