-- ==== Sys2Proof/Machine/Reset.lean ====
section
/-! DEFINITION. What resets and power changes do to the registers (R63, R70) and to the units (R623, R624): the parts that SET_POWER,
RESET, the thermal trip and the power-on reset share. -/
namespace Sys2Proof.Machine

/-! ## Register fields by address (R54, R70) -/

/-- A displacement is one of a repeated row's (counts and strides, outermost first). -/
def unitsHit : List (Nat × Nat) → Nat → Bool
  | [], x => x == 0
  | (n, st) :: t, x => unitsHit t (x - min (n - 1) (x / st) * st)
/-- The row covers the register at an offset of its window. -/
def RegRow.covers (r : RegRow) (off : Nat) : Bool := decide (r.off ≤ off) && unitsHit r.dims (off - r.off)
/-- The rows of a block with its header's. -/
def BlkKind.allRows (k : BlkKind) : List RegRow := headerRows ++ k.rows
/-- The fields of the register at an offset of a block. -/
def BlkKind.fieldsAt (k : BlkKind) (off : Nat) : List Fld := (k.allRows.filter (fun r => r.covers off)).flatMap (fun r => r.flds)
/-- The block and field that a cell of the register store belongs to. -/
def keyField (key : Nat) : Option (BlkKind × Fld) :=
  let a := key / 32
  match blkAt ((a - 0x7F00000000) / 0x10000000) ((a - 0x7F00000000) / 0x10000 % 4096) with
  | some k => ((k.fieldsAt (a % 0x10000)).find? (fun f => f.lo == key % 32)).map (fun f => (k, f))
  | none => none
/-- The fields of `[lo, hi)` after a reset or a power change (R70): W1C records stay where `records`, live and read-only fields of the
blocks in `live` follow their sources, and all others return to their reset values; so do the masters' latches of them (R58). -/
def State.resetRegs (s : State) (lo hi : Nat) (records : Bool) (live : BlkKind → Bool) : State :=
  { s with
    latches := s.latches.filter (fun l => !(decide (lo ≤ l.addr) && decide (l.addr < hi)))
    regs := s.regs.filter (fun p =>
      !(decide (32 * lo ≤ p.1) && decide (p.1 < 32 * hi)) ||
      (match keyField p.1 with
       | some (k, f) => (records && f.acc == .w1c) || (live k && (f.acc == .lv || f.acc == .ro))
       | none => false)) }

/-! ## Posted writes and operations -/

/-- The windows of domain d. -/
def domHas (d base : Nat) : Bool :=
  let a := base - 0x7F00000000
  blkDom (a / 0x10000000) (a / 0x10000 % 4096) == some d
/-- Pending operations that satisfy `hit` are removed and complete with a status; a CFG_APPLY among them stops as R272 gives. -/
def State.endOpsWhere (s : State) (hit : Op → Bool) (st : Status) : State :=
  (s.hq.ops.filter hit).foldl (fun s o =>
    match (if o.opcode = 0x0202 then s.cfg.applies.find? (fun a => decide (a.src = o.src) && a.tag == o.tag) else none) with
    | some a => s.stopApply a st
    | none => if (s.opOf o.src o.tag).isSome then s.complete o st [] else s) s
/-- The applies that select a facet of `hit` stop (R614, R623). -/
def State.stopApplies (s : State) (hit : Nat → Bool) (st : Status) : State :=
  (s.cfg.applies.filter (fun a => a.selected.any hit)).foldl (fun s a => s.stopApply a st) s

/-! ## Domains (R609) -/

/-- The SET_POWER kind and index of domain d. -/
def domKind (d : Nat) : Nat × Nat :=
  if d < 48 then (1, d) else if d < 52 then (2, d - 48) else if d < 70 then (3, d - 52) else if d < 74 then (4, d - 70)
  else if d < 76 then (5, d - 74) else if d = 76 then (6, 0) else (7, d - 77)
/-- The domain that a kind and an index name (R609, R111). -/
def kindDom (kind idx : Nat) : Option Nat :=
  if kind = 1 ∧ idx < 48 then some idx
  else if kind = 2 ∧ idx < 4 then some (48 + idx)
  else if kind = 3 ∧ idx < 18 then some (52 + idx)
  else if kind = 4 ∧ idx < 4 then some (70 + idx)
  else if kind = 5 ∧ idx < 2 then some (74 + idx)
  else if kind = 6 ∧ idx = 0 then some 76
  else if kind = 7 ∧ idx < 8 then some (77 + idx)
  else none
/-- The state of a domain as PWR_DOM shows it; lamps read as R505 gives. -/
def State.domShown (s : State) (d : Nat) : Nat := if d = 74 ∨ d = 75 then s.lampDom (d - 74) else s.dom d
/-- The pending SET_POWER of a domain. -/
def State.domOp (s : State) (d : Nat) : Option Op := s.powerOp (domKind d).1 (domKind d).2

/-- The serial lanes of a group leave service: receivers stop and transmitters idle (R388, R612). A retired lane stays retired, and one that was
being restored is retired again (R407). -/
def State.lanesStop (s : State) (g : Nat) : State :=
  (List.range 8).foldl (fun s k =>
    let n := 8 * g + k
    let s0 := s.calDrop n
    let s1 := s0.setLaneX n { s0.laneX n with pll := false }
    if s.laneState n = lnRetired then s1.settleTx n
    else if s.laneReturns n then s1.toLane n lnRetired
    else s1.stopRx n) s
/-- A lane group leaves ON: its lanes, streams, links and bundles stop (R458, R500, R607, R612). -/
def State.groupStop (s : State) (g : Nat) : State := (((s.groupStreamsOff g).groupLinks g false).lanesStop g).groupBundles g 0
/-- A lane that comes ON fails its calibration and, since the group waits until it passes or is retired, the next one too (R403, R405). -/
def State.calGivesUp (s : State) (n : Nat) : State :=
  let s1 := s.calFailed n
  if s1.laneState n = lnRetired then s1 else s1.calFailed n
/-- A lane group is ON again: the lanes whose bit of `bad` is set fail their calibration (R403, R405), and steward firmware re-applies the lane,
stream, protractor and link settings (R409, R458, R483, R607); the transmit PLLs of the lanes lock again (R394). -/
def State.groupStart (s : State) (g : Nat) (full : Bool) (bad : BitVec 8) : State :=
  let s1 := (List.range 8).foldl (fun s k =>
    let n := 8 * g + k
    if s.laneState n = lnRetired ∨ !(full || s.flag (laneBase n) F.LANE_STAT_cal_stale) then s
    else if bad.getLsbD k then s.calGivesUp n else s.calPassed n) s
  let s2 := (List.range 8).foldl (fun s k =>
    let n := 8 * g + k
    let ws := (s.laneX n).set
    if s.laneState n = lnRetired ∨ ws.isEmpty then s
    else
      let s3 := (s.laneStore n (ws.set 0 (ws.getD 0 0 % 2 ^ 31))).laneApply n ws
      (s3.setLaneX n { s3.laneX n with pll := true }).settleTx n) s1
  (((s2.groupBundles g 2).groupStreamsOn g).groupProtsOn g).groupLinks g true

/-- The windows of a lane group: LANE, PROT and SE. -/
def groupWindow (g base : Nat) : Bool := domHas (groupDom g) base
/-- The registers of a lane group after OFF (R70): records and counters are 0, and its protractors stand disabled until they are set
again (R483). -/
def State.groupRegs (s : State) (g : Nat) : State :=
  let one (s : State) (b : Nat) : State := (s.resetRegs b (b + 0x10000) false (fun k => k != .prot)).clearCounters b (b + 0x10000)
  (List.range 8).foldl (fun s k =>
    let n := 8 * g + k
    (one (one s (laneBase n)) (protBase n)).setProtX n { set := (s.protX n).set, snapAt := (s.protX n).snapAt }) (one s (seBase g))

/-- What frame memory stack k holds is lost (R269, R542): sectors, keys and the poison list go, and the handles staged in it. -/
def State.stackLost (s : State) (k : Nat) : State := ((s.handlesIn k).foldl (fun s h => s.loseHandle h) s).dropSectors k

/-- The NIs of a quadrant lose their state, and the flows they source are withdrawn; a vertex of it leaves bypass (R334). -/
def State.quadNis (s : State) (q : Nat) : State :=
  let t := if s.ring.byp.any (fun vk => vkQuad vk == q) then s.signal (560 + 8 * q + 5) else s
  ({ t with ring := { t.ring with
      nis := s.ring.nis.filter (fun p => vkQuad p.1 != q)
      byp := s.ring.byp.filter (fun vk => vkQuad vk != q)
      ledger := s.ring.ledger.filter (fun p => vkQuad p.1 != q) } } : State).ledgerRecompute
/-- What the blocks of a quadrant hold beside their registers is gone: queues, requests, controllers and clocks. -/
def State.quadUnits (s : State) (q : Nat) : State :=
  let b := winBase (1 + q) 0
  { s with
    fab := { s.fab with
      ports := SMap.cut s.fab.ports b (b + 0x10000000), wait := SMap.cut s.fab.wait q (q + 1), rp := SMap.cut s.fab.rp q (q + 1)
      late := SMap.cut s.fab.late q (q + 1), gather := SMap.cut s.fab.gather q (q + 1), spines := SMap.cut s.fab.spines (24 * q) (24 * q + 24) }
    bays := { s.bays with
      perm := s.bays.perm.filter (fun u => unitQuad u != q), qcs := SMap.cut s.bays.qcs (480 * q) (480 * q + 480), raw := SMap.cut s.bays.raw q (q + 1)
      flush := s.bays.flush.filter (fun n => n / 480 != q) }
    fac := { s.fac with pos := SMap.cut s.fac.pos q (q + 1), ahead := SMap.cut s.fac.ahead (12 * q) (12 * q + 12), turn := SMap.cut s.fac.turn q (q + 1) } }
/-- The facets of a quadrant enter OFF. -/
def State.quadFacets (s : State) (q : Nat) : State :=
  (List.range 12).foldl (fun s i => ((s.endFacetEmul (12 * q + i)).facetLost (12 * q + i)).reachDom (12 * q + i) 0) s
/-- The registers and counters of the network interfaces of the endpoint vertices beside Q2 and Q3, which the address map does not show, return
to their reset values with the quadrant (R332); their records stay where those of the quadrant do (R70). -/
def State.endNis (s : State) (q : Nat) (records : Bool) : State :=
  let lo := 0x10000000000 + 0x10000 * (384 * (q - 2))
  let hi := lo + 0x10000 * 384
  if q < 2 then s
  else ({ s with regs := s.regs.filter (fun p => !(decide (32 * lo ≤ p.1) && decide (p.1 < 32 * hi)) || (records && p.1 / 32 % 0x10000 == 4)) } : State).clearCounters lo hi
/-- Every block of Qq is reset (R70, R623); retirement records of edge lanes and DRAM channels stay. -/
def State.quadBlocks (s : State) (q : Nat) (records : Bool) : State :=
  let lo := winBase (1 + q) 0
  let hi := winBase (2 + q) 0
  ((((((s.quadFacets q).quadNis q).quadUnits q).discardPosted (fun b => decide (lo ≤ b) && decide (b < hi)) false).resetRegs lo hi records
    (fun k => k == .edge || k == .fmc)).clearCounters lo hi).endNis q records

/-- Every block of lane die l is reset (R409, R458, R483, R607, R623): its groups are OFF and its settings gone. -/
def State.laneDieBlocks (s : State) (l : Nat) : State :=
  let lo := winBase (5 + l) 0
  let hi := winBase (6 + l) 0
  let s1 := (List.range 9).foldl (fun s i => ((s.groupStop (9 * l + i)).setDom (groupDom (9 * l + i)) 0).reachDom (groupDom (9 * l + i)) 0)
    (s.dieLinks l)
  let s2 : State := { s1 with
    lanes := SMap.cut s1.lanes (72 * l) (72 * l + 72)
    prot := SMap.cut s1.prot (72 * l) (72 * l + 72)
    se := { s1.se with
      ch := SMap.cut s1.se.ch (72 * l) (72 * l + 72), keptCh := SMap.cut s1.se.keptCh (72 * l) (72 * l + 72)
      flows := SMap.cut s1.se.flows (4608 * l) (4608 * l + 4608), keptFl := SMap.cut s1.se.keptFl (4608 * l) (4608 * l + 4608) } }
  ((s2.discardPosted (fun b => decide (lo ≤ b) && decide (b < hi)) false).resetRegs lo hi true (fun k => k == .she)).clearCounters lo hi

/-! ## Die resets (R623) -/

/-- The operation is a SNAP with a listed block for which `hit` (die, window) holds: it goes with that block (R117). -/
def Op.lists (o : Op) (hit : Nat → Nat → Bool) : Bool := o.opcode == 0x0601 && (snapList o.params).any (fun x => hit (bitsOf x 3 0) (bitsOf x 15 4))
/-- The pending RESET of kind 2 of a die. -/
def State.dieResetOp (s : State) (d : Nat) : Option Op := s.hq.ops.find? (fun o => o.opcode == 0x0104 && o.die == d && o.f 2 3 0 == 2)
/-- The operation acts on die d: its target lies there, or it changes the power of one of the die's domains, or of its stack. -/
def onDie (d : Nat) (o : Op) : Bool :=
  o.opcode != 0x0104 &&
  (o.die == d || o.lists (fun x _ => x == d) ||
    (o.opcode == 0x0103 &&
      (match kindDom (o.f 2 31 24) (o.f 2 15 0) with
       | some x => if x < 48 then x / 12 + 1 == d else if x < 52 then x - 47 == d else if x < 70 then (x - 52) / 9 + 5 == d
           else if x < 74 then x - 69 == d else false
       | none => false)))
/-- A die reset begins: what is pending against the die completes with DOMAIN_OFF, and its NIs are fenced. -/
def State.dieResetStart (s : State) (d : Nat) : State :=
  let s1 : State := { s with pwr := { s.pwr with inReset := s.pwr.inReset ||| BitVec.twoPow 8 d } }
  let s2 := s1.stopApplies (fun f => f / 12 + 1 == d) .domainOff
  let s3 := s2.endOpsWhere (onDie d) .domainOff
  (if 1 ≤ d ∧ d ≤ 4 then (s3.handlesIn (d - 1)).foldl (fun s h => s.loseHandle h) s3 else s3).journal 0x03 false (targetWord 0 0x058 0) d 2 0
/-- Qq after its drain (R623 steps 2 to 4): Mq in self-refresh with its sectors gone, its blocks reset, its edges down and training again
(R497) with the dies that are up. -/
def State.quadReset (s : State) (q : Nat) : State :=
  let s1 := if s.dom (stackDom q) = 0 then s else (s.dropSectors q).setDom (stackDom q) 3
  let s2 := (quadEdges q).foldl (fun s e => s.edgeDown e) (s1.quadBlocks q true)
  (quadEdges q).foldl (fun s e => if (edgeSpines e).all (fun x => x == q || s.dom (spineDom x) == 1) then s.edgeReturn e else s) s2
/-- Lane die l is reset. -/
def State.laneDieReset (s : State) (l : Nat) : State := s.laneDieBlocks l
/-- A die reset ends (R623 steps 5 and 6, R637). During a thermal trip every domain of the die stays OFF (R615, R689). -/
def State.dieResetEnd (s : State) (d : Nat) : State :=
  let s1 : State := { s with pwr := { s.pwr with inReset := s.pwr.inReset &&& ~~~(BitVec.twoPow 8 d) } }
  let s2 :=
    if s1.pwr.trip ∨ !(1 ≤ d ∧ d ≤ 4) then s1
    else
      let q := d - 1
      (((if s1.dom (stackDom q) = 0 then s1.zeroStack q else s1).reachDom (stackDom q) 1).reachDom (spineDom q) 1)
  s2.signal 773

end Sys2Proof.Machine
end

