-- ==== Sys2Proof/Machine/Power.lean ====
section
/-! DEFINITION. Power commands (R111, R609–R612, R616), resets (R112, R622–R624), power-on (R617–R621) and temperature (R613–R615, R689). -/
namespace Sys2Proof.Machine

/-! ## SET_POWER (R111, R609–R612, R616) -/

/-- The PWR_DOM code of a SET_POWER state, and the reverse (R111, R635). -/
def stateOf (c : Nat) : Nat := if c = 0 then 1 else if c = 1 then 2 else if c = 2 then 0 else 3
@[inherit_doc stateOf] def codeOf (v : Nat) : Nat := if v = 1 then 0 else if v = 2 then 1 else if v = 3 then 3 else 2
/-- The state a SET_POWER asks for, as PWR_DOM codes it. -/
def Op.asks (o : Op) : Nat := stateOf (o.f 3 1 0)
/-- R609 allows the state for the kind of domain. -/
def stateAllowed (kind v : Nat) : Bool :=
  v == 0 || v == 1 || (v == 2 && (kind == 1 || kind == 3 || kind == 6 || kind == 7)) || (v == 3 && kind == 4)
/-- The state can be reached from the domain's (R249, R505, R542, R557, R610). -/
def State.reachable (s : State) (d v : Nat) : Bool :=
  let k := domKind d
  let cur := s.domShown d
  if k.1 = 1 then
    let st := s.facetState k.2
    if v = 1 then st == fcOff || st == fcStopped else if v = 2 then st == fcRunning else st == fcRunning || st == fcStopped || st == fcEmpty
  else if k.1 = 7 then
    let st := s.cueState k.2
    if v = 1 then st == cuOff || st == cuStopped else if v = 2 then st == cuRunning else st != cuOff
  else if k.1 = 5 then (if v = 1 then true else s.lampState k.2 != lpActive)
  else if k.1 = 4 then (if v = 1 then cur == 0 || cur == 3 else if v = 3 then cur == 1 else cur == 1 || cur == 3)
  else if v = 1 then cur == 0 || cur == 2
  else if v = 2 then cur == 1
  else cur == 1 || cur == 2
/-- The order of R611 and R616. -/
def State.powerOrder (s : State) (d v : Nat) : Bool :=
  let k := domKind d
  if k.1 = 2 then
    (if v = 1 then s.lampState 0 == lpActive || s.lampState 1 == lpActive
     else (List.range 12).all (fun i => s.dom (12 * k.2 + i) == 0) && s.dom (stackDom k.2) == 0)
  else if v ≠ 1 then true
  else if k.1 = 1 then s.dom (spineDom (k.2 / 12)) == 1
  else if k.1 = 4 then s.dom (spineDom k.2) == 1
  else if k.1 = 3 then (if k.2 < 9 then s.dom (spineDom 0) == 1 || s.dom (spineDom 2) == 1 else s.dom (spineDom 1) == 1 || s.dom (spineDom 3) == 1)
  else true
/-- What makes a SET_POWER of a domain wait its turn (R233, R271, R396, R542, R610, R615). -/
def State.powerFree (s : State) (d v : Nat) : Bool :=
  let k := domKind d
  (s.domOp d).isNone && !(v == 1 && s.pwr.trip) &&
  (k.1 != 1 || (!s.swapArmed k.2 && !s.applying k.2)) &&
  (k.1 != 3 || (List.range 8).all (fun i => !s.armedOn 0x0400 (laneWord (8 * k.2 + i)))) &&
  (k.1 != 2 || (List.range 12).all (fun i => !s.swapArmed (12 * k.2 + i) && !s.applying (12 * k.2 + i))) &&
  (k.1 != 4 || (s.handlesIn k.2).all (fun h => v == 1 && s.cfg.applies.all (fun a => a.handle != h)))
/-- The block of a window lies in a domain, or is changed with it: a facet's, a stack's controllers, a lamp's. -/
def domTouches (d base : Nat) : Bool :=
  domHas d base || decide (d < 48) && base == facetBase d || decide (70 ≤ d) && decide (d < 74) && (base == fmcBase (d - 70) || base == sealBase (d - 70)) ||
  decide (74 ≤ d) && decide (d < 76) && base == lampBase (d - 74)
/-- R106: another set's long operation holds a block of the domain that the command changes. -/
def State.domainHeld (s : State) (c : Cmd) (d : Nat) : Bool :=
  s.hq.ops.any (fun o => !o.src.sameSet c.src && o.opcode != 0x0601 && domTouches d (winBase o.die o.blk))
/-- The die that a domain lies on, where a reset can hold it. -/
def domDie (d : Nat) : Nat := if d < 48 then d / 12 + 1 else if d < 52 then d - 47 else if d < 70 then (d - 52) / 9 + 5 else if d < 74 then d - 69 else 0

/-- A change of a domain begins (R609, R635): DRAINING or POWERING; lamps warm or, for OFF, are COLD (R505), the partner's link trains, edges of a spine train. -/
def State.powerStart (s : State) (d v : Nat) : State :=
  let k := domKind d
  if k.1 = 5 then (if v = 0 then s.toLamp k.2 lpCold else if s.lampDom k.2 = 0 then s.toLamp k.2 lpWarming else s)
  else if v = 0 ∨ v = 3 then
    let s1 := s.setDom d 4
    if k.1 = 1 then
      (((s1.hold k.2).setFacetX k.2 { s1.facetX k.2 with drainFrom := some s1.now, ran := s1.clocksRun k.2 }).raise (facetBase k.2) F.FACET_FENCE_STAT_draining).toFacet k.2
        fcDraining
    else if k.1 = 6 then s1.raise psysBase F.PSYS_STAT_fenced
    else s1
  else if v = 2 then (if k.1 = 1 ∧ !s.holdsFacet k.2 then s.facetStop k.2 else s)
  else
    let s1 := s.setDom d 5
    if k.1 = 1 then (if s.facetState k.2 = fcStopped then s1.facetResume k.2 else s1)
    else if k.1 = 2 then
      (quadEdges k.2).foldl (fun s e => if (edgeSpines e).all (fun q => q == k.2 || s.dom (spineDom q) == 1) then s.edgeUp e else s)
        (s1.spineBundles k.2 1)
    else if k.1 = 3 then
      let s2 := s1.groupBundles k.2 1
      if s2.flag (lsysBase (k.2 / 9)) F.LSYS_CAL_busy then s2 else s2.putCal (k.2 / 9) ((s2.calComing (k.2 / 9)).map (· % 72))
    else if k.1 = 6 ∧ s.dom partnerDom = 0 then
      ({ s1 with pwr := { s1.pwr with inReset := s1.pwr.inReset &&& 0x7F } } : State).toUcie 2
    else s1

/-- The domain that a command names (R111). -/
def Cmd.domain (c : Cmd) : Option Nat := kindDom (c.f 2 31 24) (c.f 2 15 0)
/-- SET_POWER (R111, R610). -/
def execSetPower (c : Cmd) (s : State) : Result :=
  .next
    (let d := c.domain.getD 0
     let v := stateOf (c.f 3 1 0)
     let there := s.domShown d == v
     let idle := (s.domOp d).isNone
     s.long 0x0103 c
       { len := c.len == 4, tgt := c.aims 0 0x058 0 && !(c.f 2 31 24 == 6 && s.ident.site == 0)
         par := c.domain.isSome && c.f 2 23 16 == 0 && c.f 3 31 2 == 0 && stateAllowed (domKind d).1 v &&
           (!idle || there || (s.reachable d v && s.powerOrder d v))
         dom := !s.pwr.inReset.getLsbD (domDie d) && !(d == partnerDom && s.partnerReset.isSome)
         free := !s.heldByOther c && s.powerFree d v && (there || !s.domainHeld c d) } none
       (fun t => if there then t.completeOf c.src c.tag .ok [wd 0] else t.powerStart d v))

/-- SET_POWER_QUERY (R111): the key word, the last state reached and whether a change is pending. -/
def execSetPowerQuery (c : Cmd) (s : State) : Result :=
  .next
    (let d := c.domain.getD 0
     let last := if d = 74 ∨ d = 75 then (if s.lampDom (d - 74) = 1 then 1 else 0) else SMap.get 0 s.pwr.last d
     s.immediate 0x0183 c
       { len := c.len == 3, tgt := c.aims 0 0x058 0 && !(c.f 2 31 24 == 6 && s.ident.site == 0)
         par := c.domain.isSome && c.f 2 23 16 == 0 }
       (fun s => (s, [wd (c.w 2), wd (bit (s.domOp d).isSome * 2147483648 + codeOf last)])))

/-- A drain is over with `n` packets left, which have been answered with DOMAIN_OFF (R320, R632). -/
def State.drainNote (s : State) (d n target : Nat) : State := if n = 0 then s else s.journal 0x07 false target d n 0
/-- The drain of a facet that goes OFF ends (R249, R251): the rest is answered and power removed, or only shown removed (R657). -/
def State.facetOffNow (s : State) (f n : Nat) : State :=
  let s1 := (s.setFacetX f { s.facetX f with drainFrom := none }).lower (facetBase f) F.FACET_FENCE_STAT_draining
  let s2 := if n = 0 then s1 else ((s1.endFlight f 0x0201).facetMark f F.FACET_STAT_drain_timeout)
  let s3 := s2.drainNote f n (facetWord f).toNat
  if s3.holdsFacet f then s3.emulFacet f true else (s3.noteFacet f false).facetLost f
/-- The endpoint vertices that a domain owns (R320): those of a lane group, of the partner, and those on a quadrant's spine. -/
def domEnds (d : Nat) : List Nat :=
  let k := domKind d
  ((List.range 24).flatMap (fun x => [vkOf x 16, vkOf x 17])).filter (fun vk => vkReal (vkX vk) (vkY vk) &&
    (if k.1 = 2 then vkQuad vk == k.2
     else if k.1 = 3 then ((endpointOf vk).1 == 5 || (endpointOf vk).1 == 6) && (endGroups vk).contains k.2
     else k.1 == 6 && (endpointOf vk).1 == 7))
/-- What the network interface of an endpoint vertex has still to answer or to be answered (R320). -/
def State.endLeft (s : State) (vk : Nat) : Nat :=
  ((s.ni vk).outst.filter (fun o => o.client != 1)).length + ((s.ni vk).arrive.filter (fun p => !p.answers && p.op != 8)).length
/-- It is answered with DOMAIN_OFF (R249, R320). -/
def State.endDrain (s : State) (vk : Nat) : State :=
  let s1 := (s.ni vk).outst.foldl (fun s o => if o.client = 1 then s else s.endRequest vk o.tag 0x0201 [] []) s
  (s.ni vk).arrive.foldl (fun s p => if p.answers || p.op == 8 then s else s.refuse vk p 0x0201)
    (s1.setNi vk { s1.ni vk with arrive := (s1.ni vk).arrive.filter (fun p => p.answers || p.op == 8) })
/-- The endpoint vertices of a domain that a drain concerns: those whose port it fences. -/
def State.drained (s : State) (d : Nat) : List Nat := (domEnds d).filter (fun vk => s.niFenced vk)
/-- What a drain outside the facets leaves (R320, R512): at the domain's endpoints, and at the partner. -/
def State.drainLeft (s : State) (d : Nat) : Nat :=
  ((s.drained d).map s.endLeft).sum + (if d = partnerDom then s.opt.ucie.wait.length else 0)
/-- It is answered with DOMAIN_OFF. -/
def State.drainDone (s : State) (d : Nat) : State :=
  let s1 := (s.drained d).foldl (fun s vk => s.endDrain vk) s
  if d = partnerDom then s1.partnerDrain else s1
/-- DOMAIN_DRAIN_END (R247, R320, R512, R623): a drain ends with nothing in flight, or after 100 µs; `left` counts what is then answered behind an
endpoint outside the facets, beside what the endpoint itself holds. -/
def execDomainDrainEnd (d : Fin 85) (left : Nat) (s : State) : Result :=
  .next
    (match s.domOp d.val with
     | some o =>
       if o.stage ≠ 0 ∨ s.dom d.val ≠ 4 then s
       else if d.val < 48 then
         let n := s.inFlight d.val
         (s.facetOffNow d.val n).putOp { o with stage := 1, acc := [wd (bit (n != 0))] }
       else
         let n := s.drainLeft d.val + left
         ((s.drainDone d.val).drainNote d.val n (targetWord 0 0x058 0)).putOp { o with stage := 1, acc := [wd (bit (n != 0))] }
     | none =>
       if d.val < 48 then
         (if (s.facetX d.val).rewrite.isSome && (s.facetX d.val).drainFrom.isSome then s.rewriteDrained d.val else s)
       else if d.val < 52 then
         let q := d.val - 48
         (match s.dieResetOp (q + 1) with
          | some o =>
            if o.stage ≠ 0 then s
            else
              let n := (List.range 12).foldl (fun n i => n + s.inFlight (12 * q + i)) 0
              let s1 := (List.range 12).foldl (fun s i => if s.inFlight (12 * q + i) = 0 then s else s.endFlight (12 * q + i) 0x0201) s
              ((s1.drainNote d.val n (targetWord 0 0x058 0)).quadReset q).putOp { o with stage := 1 }
          | none => s)
       else s)

/-- The lanes of a group keep what their live registers show when its clock stops (R52). -/
def State.holdViews (s : State) (g : Nat) : State :=
  (List.range 8).foldl (fun s k =>
    let t := s.settleEq (8 * g + k)
    t.setLaneX (8 * g + k) { t.laneX (8 * g + k) with held := some (s.tmState != tmLocked) }) s
/-- They follow their sources again. -/
def State.freeViews (s : State) (g : Nat) : State :=
  (List.range 256).foldl (fun s i => s.showMerged g i)
    ((List.range 8).foldl (fun s k => (s.setLaneX (8 * g + k) { s.laneX (8 * g + k) with held := none }).calAge (8 * g + k)) s)
/-- What the partner's registers held while its clock was stopped is forgotten. -/
def State.freePartner (s : State) : State := { s with opt := { s.opt with ucie := { s.opt.ucie with held := [] } } }
/-- The domain is OFF (R249, R505, R512, R542, R556, R611, R612), or shown so (R657). -/
def State.domainOff (s : State) (d : Nat) : State :=
  let k := domKind d
  let s1 := s.discardPosted (domHas d) true
  match k.1 with
  | 1 => s1.reachDom d 0
  | 2 => (((quadEdges k.2).foldl (fun s e => s.edgeDown e) (s1.quadBlocks k.2 false)).spineBundles k.2 0).reachDom d 0
  | 3 => (((s1.groupStop k.2).freeViews k.2).groupRegs k.2).reachDom d 0
  | 4 => (s1.stackLost k.2).reachDom d 0
  | 5 => s1.toLamp k.2 lpCold
  | 6 => ((s1.freePartner.toUcie 6).raise psysBase F.PSYS_STAT_fenced).reachDom d 0
  | _ => (if s1.cueEmul k.2 then s1.emulCue k.2 true else if s1.holdsCue k.2 then s1.emulCue k.2 true else s1.cueLost k.2).reachDom d 0
/-- The domain's clock has stopped (R249, R512, R557, R612), or is shown so (R657). -/
def State.domainStop (s : State) (d : Nat) : State :=
  let k := domKind d
  match k.1 with
  | 1 => (if s.holdsFacet k.2 then s.emulFacet k.2 false else s.facetStop k.2).reachDom d 2
  | 3 => ((s.groupStop k.2).holdViews k.2).reachDom d 2
  | 6 => (s.toUcie 4).reachDom d 2
  | _ => (if s.holdsCue k.2 then s.emulCue k.2 false else s.toCue k.2 cuStopped).reachDom d 2
/-- The domain is ON (R249, R512, R542, R557, R612, R616, R658). -/
def State.domainOn (s : State) (d : Nat) (bad : BitVec 8) : State :=
  let k := domKind d
  let s1 := s.reachDom d 1
  match k.1 with
  | 1 =>
    if s.facetState k.2 = fcOff then
      (if s.facetEmul k.2 then (s1.noteFacet k.2 false).facetLost k.2 else s1).facetPowered k.2
    else (s1.noteFacet k.2 false).facetResumed k.2
  | 2 => s1.spineBundles k.2 2
  | 3 => ((s1.freeViews k.2).calDone k.2).groupStart k.2 (SMap.get 0 s.pwr.last d == 0) bad
  | 4 => if SMap.get 0 s.pwr.last d = 0 then s1.zeroStack k.2 else s1
  | 7 =>
    if s.cueState k.2 = cuOff then
      (if s.cueEmul k.2 then (s1.noteCue k.2 false).setCueX k.2 { s1.cueX k.2 with regs := [] } else s1).cuePowered k.2
    else (s1.noteCue k.2 false).toCue k.2 cuRunning
  | _ => s1

/-- SET_POWER_COMPLETION (R63, R609, R657, R658): the change ends. `bad` names the lanes of a lane group whose calibration failed. A lamp's
ON ends when it has warmed, a spine's when its edges have trained, and the partner's, from OFF, when its identity has been read. -/
def execSetPowerCompletion (d : Fin 85) (bad : BitVec 8) (s : State) : Result :=
  .next
    (match s.domOp d.val with
     | none => s
     | some o =>
       let k := domKind d.val
       let v := o.asks
       let drained := [o.acc.headD (wd 0)]
       if v = 0 then (if k.1 ≠ 5 ∧ o.stage = 0 then s else (s.domainOff d.val).complete o .ok drained)
       else if v = 3 then (if o.stage = 0 then s else (s.reachDom d.val 3).complete o .ok [wd 0])
       else if v = 2 then (s.domainStop d.val).complete o .ok [wd 0]
       else if k.1 = 5 then (if s.lampDom k.2 = 1 then s.complete o .ok [wd 0] else s)
       else if k.1 = 6 then
         (if s.getF ucieBase F.UCIE_LINK_state = 4 then (((s.freePartner.toUcie 3).reachDom d.val 1).ucieDrain).complete o .ok [wd 0] else s)
       else if k.1 = 2 ∧ (quadEdges k.2).any (fun e => s.edgeTraining e) then s
       else (s.domainOn d.val bad).complete o .ok [wd 0])

/-! ## Warm reset (R622, R624) -/

/-- A boot step is reached, and HQ_FW.state with it; entry to ready records source 17 (R118), and a held go then acts (R95). -/
def State.toBoot (s : State) (b : Boot) : State :=
  let s1 : State := { s with pwr := { s.pwr with boot := b } }
  let v := match b with
    | .ready => 1
    | .failed => 3
    | _ => 0
  let s2 := s1.setF hqBase F.HQ_FW_state v
  if b = .ready then (s2.signal 17).spiHeldGo else s2
/-- CUE_ENTRY of each core at reset (R574). -/
def State.entryDefaults (s : State) : State :=
  (List.range 8).foldl (fun s n => s.setF (cueBase n) F.CUE_ENTRY_LO_entry (0x400000 + n * 0x10000)) s
/-- The state of the domains after power-on (R609): no partner on SLN-9440-B0. -/
def State.domDefaults (s : State) : State :=
  let m := if s.ident.site = 0 then SMap.put 0 ({} : Pwr).dom partnerDom 0 else ({} : Pwr).dom
  { s with pwr := { s.pwr with dom := m, last := m } }
/-- The register fields of die C after a warm reset (R70): the always-on blocks and DBG keep all, lamps and the temperatures follow their
sources, SYS_MEMMAP stays, and HQ and PCIE return to their reset values, records with them (R112, R121). -/
def State.dieCRegs (s : State) : State :=
  let one (s : State) (lo hi : Nat) : State :=
    (s.resetRegs lo hi true (fun k => k == .sys || k == .lamp || k == .pwr)).clearCounters lo hi
  let x0 := s.xo 0
  let x1 := s.xo 1
  let w := s.getF timeBase F.TIME_XO_xo_wait
  let s1 := one (one (one (one s (winBase 0 0) mbxBase) (cueBase 0) jrnlBase) pwrBase dbgBase) (dbgBase + 0x10000) (winBase 1 0)
  let s2 := (s1.clearRegs hqBase (hqBase + 0x10000)).clearRegs pcieBase (pcieBase + 0x10000)
  (((s2.setF timeBase F.TIME_XO_xo0 x0).setF timeBase F.TIME_XO_xo1 x1).setF timeBase F.TIME_XO_xo_wait w).entryDefaults
/-- A warm reset begins (R622, R624): what it clears is cleared, and steps 3 to 7 of R619 follow. A stack that was OFF comes ON zeroed
(R542). During a thermal trip every domain stays OFF (R615). -/
def State.warmReset (s : State) : State :=
  let s1 := (List.range 2).foldl (fun s l => s.laneDieBlocks l) ((s.endEmulation.discardPosted onPartner false).setFmWaits [])
  let s2 := (List.range 4).foldl (fun s q =>
    let sz := if SMap.get 0 s.pwr.last (stackDom q) = 0 ∧ !s.pwr.trip then s.zeroStack q else s
    (quadEdges q).foldl (fun s e => s.edgeDown e) ((sz.dropSectors q).quadBlocks q true)) s1
  let s3 := if s2.pwr.trip then s2
    else (List.range 8).foldl (fun s n => if s.cueState n = cuOff then s.cuePowered n else s.holdCue n) s2
  let s4 := (List.range 8).foldl (fun s n => s.setCueX n { s.cueX n with timer := false, wdt := 0, frozen := false }) s3
  let s5 : State := (({ s4 with
    hq := { image := s4.hq.image, persistent := s4.hq.persistent, slotOk := s4.hq.slotOk, slotVer := s4.hq.slotVer }
    latches := [], tim := {}, clk := { xo1Free := if s4.xo 1 = 0 then none else some s4.now }, cfg := {}, fac := { s4.fac with hist := [] }
    ring := { retired := s4.ring.retired, remap := s4.ring.remap }, opt := { short := s4.opt.short, warm := s4.opt.warm, lost := s4.opt.lost, dim := s4.opt.dim }, lat := {} } : State).dieCRegs).resetRegs psysBase (psysBase + 0x10000) true (fun _ => false)
  let s6 := s5.setF hqBase F.HQ_FW_image s5.hq.image
  let s7 := if s6.ident.site = 0 then s6.lower ucieBase F.UCIE_LINK_state else s6
  let s8 := s7.setF pwrBase F.PWR_CAUSE_cause 3
  let s9 : State := if s8.pwr.trip then { s8 with pwr := { s8.pwr with inReset := 0 } }
    else
      let t := s8.domDefaults
      { t with pwr := { t.pwr with inReset := 0xFE } }
  let s10 : State := { s9 with pwr := { s9.pwr with warm := true, warmAt := none, warmSrc := 0xFF } }
  (s10.toBoot .clocks).journal 0x02 false (targetWord 0 0x058 0) s.pwr.warmSrc 0 0

/-! ## RESET (R112, R622) -/

/-- The targets of R112. -/
def State.resetTgt (s : State) (c : Cmd) : Bool :=
  let k := c.resetKind
  if k = 1 then c.aims 15 0xFFF 0
  else if k = 3 then c.facetOf.isSome
  else if k = 4 then c.cueOf.isSome
  else if k = 5 then c.die == 7 && s.targetOk c.word1.toNat
  else s.targetOk c.word1.toNat
/-- The partner is reset by a RESET of a kind (R512): fenced, its reset held, the link to be trained again. -/
def State.partnerHeld (s : State) (kind : Nat) : State :=
  let s1 := ((s.endOpsWhere (fun o => o.die == 7 && o.opcode != 0x0104) .domainOff).raise psysBase F.PSYS_STAT_fenced).drainDone partnerDom
  let s2 : State := { s1 with
    pwr := { s1.pwr with inReset := s1.pwr.inReset ||| 0x80 }, opt := { s1.opt with ucie := { s1.opt.ucie with freeAt := s1.now + 1000000 } } }
  ((s2.discardPosted onPartner false).toUcie 1).journal 0x03 false (targetWord 0 0x058 0) 7 kind 0
/-- A long RESET begins (R250, R512, R556, R623). -/
def State.resetStart (s : State) (c : Cmd) : State :=
  let k := c.resetKind
  if k = 3 then s.resetFacet (c.facetOf.getD 0)
  else if k = 4 then s.holdCue (c.cueOf.getD 0)
  else if k = 5 ∨ c.die = 7 then s.partnerHeld k
  else
    let s1 := s.dieResetStart c.die
    if c.die = 5 ∨ c.die = 6 then s1.laneDieReset (c.die - 5) else s1
/-- RESET (R112, R250, R622). -/
def execReset (c : Cmd) (s : State) : Result :=
  .next
    (let k := c.resetKind
     let f := c.facetOf.getD 0
     let n := c.cueOf.getD 0
     let lim := match c.src with
       | .set q => decide (8 ≤ q.val)
       | .spi => false
       | .lattice _ => true
     let chk : Chk := {
       len := c.len == 3, tgt := s.resetTgt c, auth := !(lim && c.resetWarm)
       par := c.f 2 31 4 == 0 && decide (1 ≤ k) && decide (k ≤ 5) && (k != 3 || (s.facetState f != fcEmpty && s.facetState f != fcStopped))
       dom := (k != 3 || (s.facetState f != fcOff && s.facetState f != fcDraining)) && (k != 4 || s.cueState n != cuOff) &&
         ((k != 5 && c.die != 7) || (s.dom partnerDom != 0 && s.getF ucieBase F.UCIE_LINK_state != 5))
       free := !s.heldByOther c && (k != 3 || (s.facetState f == fcRunning && !s.swapArmed f && !s.applying f && (s.facetX f).reset == 0)) &&
         (k != 4 || s.cueState n != cuStopped) }
     if c.resetWarm then
       s.immediate 0x0104 c chk (fun s =>
         ({ s with pwr := { s.pwr with warmSrc := c.src.setOf.getD 0xFF } }, []))
     else s.long 0x0104 c chk none (fun s => s.resetStart c))

/-- RESET_COMPLETION (R112, R622, R623, R637): a long reset of a target ends, that of a quadrant when its edges have trained; with `none`, a warm reset whose reply was written 10 µs ago
begins. A reset of the partner ends when its identity has been read (R507). -/
def execResetCompletion (w : Option Word) (s : State) : Result :=
  .next
    (match w with
     | none =>
       (match s.pwr.warmAt with
        | some t => (s.reachNow t).warmReset
        | none => s)
     | some tw =>
       (match s.pendingOn 0x0104 tw with
        | none => s
        | some o =>
          let k := o.f 2 3 0
          if k = 3 then (if (s.facetX (12 * (o.die - 1) + (o.blk - 0x010))).reset = 0 then s.complete o .ok [] else s)
          else if k = 4 then s.complete o .ok []
          else if k = 5 ∨ o.die = 7 then s
          else if o.die ≤ 4 ∧ (o.stage = 0 ∨ (quadEdges (o.die - 1)).any (fun e => s.edgeTraining e)) then s
          else (s.dieResetEnd o.die).complete o .ok []))

/-! ## Temperature (R613–R615, R689) -/

/-- Temperatures in units of 0.125 °C. -/
def degrees (t : Nat) : Nat := 8 * t
/-- A sensor is valid: its die is powered and present (R635). -/
def State.sensorValid (s : State) (i : Nat) : Bool :=
  if i ≤ 6 then true
  else if i ≤ 10 then s.dom (stackDom (i - 7)) != 0
  else if i ≤ 12 then s.lampState (i - 11) != lpCold
  else s.ident.site != 0 && s.dom partnerDom != 0
/-- Every domain goes OFF at once, and what it holds with it (R614). -/
def State.allOff (s : State) : State :=
  let s1 := s.endEmulation.discardPosted (fun b => (List.range 85).any (fun d => domHas d b)) true
  let s2 := (List.range 48).foldl (fun s f => (s.endFlight f 0x0201).facetLost f) s1
  let s3 := (List.range 18).foldl (fun s g => if s.dom (groupDom g) = 0 then s else (s.groupStop g).groupRegs g) s2
  let s4 := (List.range 4).foldl (fun s k => if s.dom (stackDom k) = 0 then s else s.stackLost k) s3
  let s5 := (List.range 4).foldl (fun s q => (quadEdges q).foldl (fun s e => s.edgeDown e) (s.quadBlocks q false)) s4
  let s6 := (List.range 2).foldl (fun s j => s.toLamp j lpCold) s5
  let s7 := if s6.ident.site = 0 then s6 else (s6.toUcie 6).raise psysBase F.PSYS_STAT_fenced
  let s8 := (List.range 8).foldl (fun s n => s.cueLost n) s7
  { s8 with pwr := { s8.pwr with dom := [], last := [], inReset := 0 } }
/-- The operation's target lies in a domain, or it works on one (R614). -/
def inDomain (o : Op) : Bool :=
  (blkDom o.die o.blk).isSome || o.lists (fun d b => (blkDom d b).isSome || d == 7) || o.die == 7 || o.opcode == 0x0A04 || o.opcode == 0x0A05 || o.opcode == 0x0200 || o.opcode == 0x0201 ||
  o.opcode == 0x0202
/-- The thermal trip (R614, R689), at sensor i with reading t. -/
def State.thermalTrip (s : State) (i t : Nat) : State :=
  let s1 := s.endOpsWhere (fun o => o.opcode == 0x0103 || o.opcode == 0x0104) .hwFault
  let s2 := (s1.stopApplies (fun _ => true) .domainOff).endOpsWhere inDomain .domainOff
  let s3 := s2.allOff
  let s4 : State := { s3 with pwr := { s3.pwr with trip := true, thermN := false } }
  let s5 := if s.hq.ops.any (fun o => o.opcode == 0x0104 && o.f 2 3 0 == 2 && decide (o.die ≤ 6)) then s4.signal 773 else s4
  (s5.mark pwrBase F.PWR_STAT_therm_trip 768).journal 0x04 false (targetWord 0 0x058 0) i (2147483648 + t) 0
/-- A lamp's die above 95 °C sets its record as it passes that temperature, and a lamp that serves fails (R503, R515). -/
def State.lampHeat (s : State) (j before : Nat) : State :=
  let t := s.getF (pwrBase + 4 * (11 + j)) F.PWR_TEMP_temp
  if !s.flag (pwrBase + 4 * (11 + j)) F.PWR_TEMP_valid || decide (t ≤ degrees 95) then s
  else
    let s1 := if before ≤ degrees 95 then s.lampMark j F.LAMP_STAT_overtemp else s
    if s1.lampState j = lpActive then s1.lampFailover j else s1
/-- TEMPERATURE_SAMPLE (R404, R503, R613, R614): the readings of the 14 sensors. -/
def execTemperatureSample (temps : List (BitVec 13)) (s : State) : Result :=
  .next
    (if s.pwr.boot = .inReset ∨ s.pwr.boot = .stopped then s
     else
       let t (i : Nat) : Nat := (temps.getD i 0).toNat
       let valid := (List.range 14).filter (fun i => s.sensorValid i)
       let s1 := (List.range 14).foldl (fun s' i =>
         (s'.setF (pwrBase + 4 * i) F.PWR_TEMP_temp (t i)).setB (pwrBase + 4 * i) F.PWR_TEMP_valid (s.sensorValid i)) s
       let s1 := (List.range 144).foldl (fun s n => s.calAge n) s1
       let s1 := (List.range 2).foldl (fun s' j => s'.lampHeat j (s.getF (pwrBase + 4 * (11 + j)) F.PWR_TEMP_temp)) s1
       let hot := valid.foldl (fun b i => if t b < t i then i else b) 0
       let warn := valid.any (fun i => decide (degrees 105 ≤ t i))
       let s2 := ((s1.setF pwrBase F.PWR_THERM_hottest hot).setF pwrBase F.PWR_THERM_temp (t hot)).setB pwrBase F.PWR_THERM_warn warn
       let s3 := if !warn then s2 else if s.flag pwrBase F.PWR_THERM_warn then s2.raise pwrBase F.PWR_STAT_warn else s2.mark pwrBase F.PWR_STAT_warn 769
       let s4 := if !s3.pwr.trip && valid.any (fun i => decide (degrees 115 ≤ t i)) then s3.thermalTrip hot (t hot) else s3
       { s4 with pwr := { s4.pwr with
         hotSince := if s4.pwr.trip ∧ degrees 115 ≤ t 0 then some (s4.pwr.hotSince.getD s4.now) else none } })
/-- THERMAL_CONTROL_STOP (R614): sensor 0 has stayed at the trip temperature for 10 ms. -/
def execThermalControlStop (s : State) : Result :=
  .next
    (match s.pwr.hotSince with
     | some t =>
       let s1 := s.reachNow (t + 10000000)
       { s1 with pwr := { s1.pwr with boot := .stopped } }
     | none => s)
/-- Every valid sensor reads below 100 °C (R615). -/
def State.cool (s : State) : Bool :=
  (List.range 14).all (fun i => !s.sensorValid i || decide (s.getF (pwrBase + 4 * i) F.PWR_TEMP_temp < degrees 100))
/-- A 1 is written to PWR_STAT.therm_trip (R615). -/
def State.tripClear (s : State) : State :=
  if s.cool then
    let s1 := s.lower pwrBase F.PWR_STAT_therm_trip
    { s1 with pwr := { s1.pwr with trip := false, thermN := true, hotSince := none } }
  else s
/-- THERM_TRIP_CLEAR (R615). -/
def execThermTripClear (m : Master) (s : State) : Result :=
  .next (s.ownWrite m 0 0x058 4 (fun s => s.tripClear))

/-! ## Power-on (R617–R621) -/

/-- Power-on reset (R617, R618, R624): everything but fuses, flash, the debug domain and, while VCC_AON stays up, the journal's entries. -/
def State.powerReset (s : State) (aon : Bool) (rail : Option Nat) : State :=
  let dbgRegs := SMap.slice s.regs (32 * dbgBase) (32 * (dbgBase + 0x10000))
  let s0 := State.reset
  let s1 : State := { s0 with
    ident := s.ident, host := s.host, flash := s.flash, hostBad := s.hostBad, pending := s.pending, out := s.out, now := s.now, fresh := s.fresh
    dbg := s.dbg
    regs := SMap.splice (32 * dbgBase) (32 * (dbgBase + 0x10000)) s0.regs dbgRegs
    ctrs := SMap.slice s.ctrs dbgBase (dbgBase + 0x10000), snaps := SMap.slice s.snaps dbgBase (dbgBase + 0x10000)
    hq := { image := s.hq.persistent, persistent := s.hq.persistent, slotOk := s.hq.slotOk, slotVer := s.hq.slotVer }
    jrnl := if aon then { held := s.jrnl.held, nextSeq := s.jrnl.nextSeq } else {} }
  let s2 := ((s1.lower dbgBase F.DBG_HOLD_CUE_emul).lower dbgBase F.DBG_EMUL_F_LO_emul).lower dbgBase F.DBG_EMUL_F_HI_emul
  let s3 := if s2.ident.site = 0 then s2.domDefaults.lower ucieBase F.UCIE_LINK_state else s2
  { s3 with pwr := { s3.pwr with brownout := rail } }
/-- POWER_ON_RESET (R617, R619): t₀. -/
def execPowerOnReset (s : State) : Result :=
  .next
    (if s.pwr.boot ≠ .inReset then s
     else
       let cause := if s.pwr.brownout.isSome then 2 else 1
       let s1 : State := { s with sta := 0, pwr := { s.pwr with t0 := s.now } }
       let s2 := (((s1.toBoot .t0).setF timeBase F.TIME_XO_xo_wait s.ident.xoWait).toXo 0 1).setF pwrBase F.PWR_CAUSE_cause cause
       let s3 := match s.pwr.brownout with
         | some r => s2.journal 0x05 false (targetWord 0 0x058 0) r 0 0
         | none => s2
       s3.journal 0x01 false (targetWord 0 0x058 0) cause 0 0)
/-- RAIL_LOSS (R618): a rail other than VCC_AON, by its number in R632, is out of tolerance for 10 µs. -/
def execRailLoss (rail : Fin 10) (s : State) : Result := .next (s.powerReset true (some rail.val))
/-- POR_N_ASSERTED (R617). A brown-out not yet reported stays the cause. -/
def execPorNAsserted (s : State) : Result := .next (s.powerReset true (if s.pwr.boot = .inReset then s.pwr.brownout else none))
/-- VCC_AON_LOSS (R618): a plain power-on follows. -/
def execVccAonLoss (s : State) : Result := .next (s.powerReset false none)

/-- HQ_FW as a word (R92). -/
def State.fwWord (s : State) : Nat :=
  s.getF hqBase F.HQ_FW_line * 16777216 + s.getF hqBase F.HQ_FW_minor * 65536 + s.getF hqBase F.HQ_FW_patch * 16 +
  s.getF hqBase F.HQ_FW_other_valid * 8 + s.getF hqBase F.HQ_FW_image * 4 + s.getF hqBase F.HQ_FW_state
/-- An image slot holds a verified image. -/
def State.slotGood (s : State) (i : Nat) : Bool := s.hq.slotOk.getD i false
/-- Notes whether an image slot is good. -/
def State.noteSlot (s : State) (i : Nat) (ok : Bool) : State := { s with hq := { s.hq with slotOk := s.hq.slotOk.set i ok } }
/-- The image in slot i runs. -/
def State.runImage (s : State) (i : Nat) : State :=
  let s1 : State := { s with hq := { s.hq with image := i } }
  let v := s.hq.slotVer.getD i 0
  (((s1.setF hqBase F.HQ_FW_image i).setF hqBase F.HQ_FW_minor (v / 4096)).setF hqBase F.HQ_FW_patch v).setB hqBase F.HQ_FW_other_valid
    (s1.slotGood (1 - i))
/-- STEWARD_BOOT (R620): bit i of `pass` tells that the image in slot i passes the checks of R261, else `step` is the first that failed. -/
def execStewardBoot (pass : BitVec 2) (step : BitVec 8) (s : State) : Result :=
  .next
    (if s.pwr.boot ≠ .clocks then s
     else
       let p := s.hq.persistent % 2
       let ok (i : Nat) : Bool := s.slotGood i && pass.getLsbD i
       let s1 := (s.noteSlot 0 (ok 0 || (p == 1 && ok 1 && s.slotGood 0))).noteSlot 1 (ok 1 || (p == 0 && ok 0 && s.slotGood 1))
       if ok p then (s1.runImage p).toBoot .firmware
       else if ok (1 - p) then (s1.runImage (1 - p)).toBoot .firmware
       else
         let s2 := s1.toBoot .failed
         s2.journal 0x09 true (targetWord 0 0x001 0) s2.fwWord step.toNat 0)

/-- Step 7 of R619: ready, and the end of a power-on whose cause was a brown-out (R635, R637). -/
def State.bootDone (s : State) : State :=
  let s1 := s.toBoot .ready
  if s1.pwr.brownout.isSome ∧ !s1.pwr.warm then
    let s2 := s1.mark pwrBase F.PWR_STAT_brownout 772
    { s2 with pwr := { s2.pwr with brownout := none } }
  else s1
/-- A thermal trip has abandoned this reset (R689): its domains are OFF, also where the trip has been cleared since. -/
def State.bootCut (s : State) : Bool := s.pwr.trip || (List.range 4).any (fun q => s.dom (spineDom q) != 1)
/-- An edge trains as the device comes up: in full after power-on (R619), under R497 in a warm reset (R622). -/
def State.bootEdge (s : State) (e : Nat) : State := if s.pwr.warm then s.edgeReturn e else s.edgeUp e
/-- DEVICE_BRINGUP (R19, R619 steps 5 to 7, R624, R689): with a lamp ACTIVE the C–Qq edges train; when they have, the quadrants are released
and the edges between them train; when those have, the stacks come ON, the lane dies are released, and the device is ready. In a warm reset the
edges return as R497 gives. With both lamps FAILED, or neither lit nor warming in a warm reset, it is ready with those dies held; a reset that a
trip abandoned goes to ready at once. -/
def execDeviceBringup (s : State) : Result :=
  .next
    (if s.pwr.boot = .firmware then
       if s.bootCut then s.bootDone
       else if s.lampDom 0 = 0 ∧ s.lampDom 1 = 0 then s.bootDone
       else if s.lampState 0 = lpActive ∨ s.lampState 1 = lpActive then
         ([4, 5, 6, 7].foldl (fun s e => s.bootEdge e) s).toBoot .dies
       else s
     else if s.pwr.boot = .dies then
       if s.bootCut then s.bootDone
       else if (List.range 8).any (fun e => s.edgeTraining e) then s
       else if s.pwr.inReset &&& 0x1E ≠ 0 then
         let s1 : State := { s with pwr := { s.pwr with inReset := s.pwr.inReset &&& 0xE1 } }
         [0, 1, 2, 3].foldl (fun s e => s.bootEdge e) s1
       else
         let s1 : State := { s with pwr := { s.pwr with inReset := s.pwr.inReset &&& 0x80 } }
         let s2 := (List.range 4).foldl (fun s k => (if s.pwr.warm then s else s.zeroStack k).reachDom (stackDom k) 1) s1
         s2.bootDone
     else s)
/-- PARTNER_RELEASE (R512, R619 step 8): the partner's reset, which a RESET holds for 1 ms, is released and the link trains. -/
def execPartnerRelease (s : State) : Result :=
  .next
    (if s.ident.site = 0 ∨ s.pwr.boot ≠ .ready ∨ s.pwr.trip ∨ s.getF ucieBase F.UCIE_LINK_state ≠ 1 ∨ s.now < s.opt.ucie.freeAt then s
     else
       let s1 : State := { s with pwr := { s.pwr with inReset := s.pwr.inReset &&& 0x7F } }
       s1.toUcie 2)

end Sys2Proof.Machine
end

