-- ==== Sys2Proof/Machine/Retire.lean ====
section
/-! DEFINITION. Retirement and restoration by command (R627–R630), and the fault journal's commands (R631–R633). -/
namespace Sys2Proof.Machine

/-! ## Channels (R627) -/

/-- The device lanes of a bundle's group. -/
def bundleGroup (l b : Nat) : Nat := 9 * l + b / 2
/-- The channel is out of service, or the group of its bundle is. -/
def State.chanRetired (s : State) : Chan → Bool
  | .lane n => s.laneState n == lnRetired
  | .wave e w k => (s.wgRetired e w).testBit k
  | .edge e => s.edgeState e == egRetired
  | .short l b lane => (s.shortGone l b).testBit lane || s.getF (sheB l b) F.SHE_B_state == 3
  | .dram k ch => s.getF (fmcCh k ch) F.FMC_CH_state == 3
  | .ring no => s.ring.retired.contains no
/-- The channel itself has been retired, and a CHANNEL_RESTORE may return it. -/
def State.chanOut (s : State) : Chan → Bool
  | .short l b lane => (s.shortGone l b).testBit lane
  | x => s.chanRetired x
/-- The retirement or restoration of a lane goes on while its edge trains at another step. -/
def State.chanSettles (s : State) : Chan → Bool
  | .wave e _ _ => s.edgeTraining e
  | _ => false
/-- A spine domain is ON and its die out of reset. -/
def State.spineUp (s : State) (q : Nat) : Bool := s.dom (spineDom q) == 1 && !s.pwr.inReset.getLsbD (q + 1)
/-- The domains that carry the channel are ON. -/
def State.chanPowered (s : State) : Chan → Bool
  | .lane n => s.laneOn n && !s.pwr.inReset.getLsbD (5 + n / 72)
  | .wave e _ _ => (edgeSpines e).all (fun q => s.spineUp q)
  | .edge e => (edgeSpines e).all (fun q => s.spineUp q)
  | .short l b _ => s.dom (groupDom (bundleGroup l b)) == 1 && !s.pwr.inReset.getLsbD (5 + l)
  | .dram k _ => s.dom (stackDom k) == 1 && !s.pwr.inReset.getLsbD (k + 1)
  | .ring no => (linkVks no).all (fun vk => decide (16 ≤ vkY vk) || s.spineUp (vkQuad vk))
/-- R630: no training or lamp swap runs on the channel's edge; a full calibration has its die's engine to itself (R403). -/
def State.chanFree (s : State) (restore : Bool) : Chan → Bool
  | .wave e _ _ => !s.edgeTraining e && !s.swapping && (s.retrainOp e).isNone
  | .edge e => !s.edgeTraining e && !s.swapping && (s.retrainOp e).isNone
  | .lane n => !(restore && s.flag (lsysBase (n / 72)) F.LSYS_CAL_busy)
  | _ => true
/-- A vertex's NI_ROUTE (R332). -/
def State.niRoute (s : State) (vk : Nat) : Nat :=
  s.ringState (16 + vkX vk) * 16 + (if vkY vk < 16 then s.ringState (vkY vk) * 4 else 0) + bit (s.niFenced vk) * 2 + bit (s.bypass vk)
/-- Result word 2 (R627). -/
def State.chanWord (s : State) : Chan → Nat
  | .lane n => s.laneStat n
  | .wave e _ _ => s.edgeInfo e
  | .edge e => s.edgeInfo e
  | .short l b _ => s.sheWord l b
  | .dram k ch => s.fmcWord k ch
  | .ring no => s.niRoute ((linkVks no).headD 0)

/-- JRNL is the target. -/
def Cmd.aimsJrnl (c : Cmd) : Bool := c.aims 0 0x050 0
/-- The pending operation of an opcode on JRNL. -/
def State.chanOp (s : State) (op : Nat) : Option Op := s.hq.ops.find? (fun o => o.opcode == op)

/-! ## CHANNEL_RETIRE (R627, R628) -/

/-- CHANNEL_RETIRE (R628). -/
def execChannelRetire (c : Cmd) (s : State) : Result :=
  .next
    (let x := chanOf (c.w 2)
     s.long 0x0A02 c
       { len := c.len == 4, tgt := c.aimsJrnl
         par := x.isSome && c.f 2 31 28 != 3 && c.f 3 31 1 == 0
         dom := x.all (fun x => s.chanPowered x), ret := !x.any (fun x => s.chanRetired x)
         free := !s.heldByOther c && x.all (fun x => s.chanFree false x && !s.chanHeld c x) } none id)

/-- The retirement would leave a waveguide with fewer than 4 working lanes. -/
def State.leavesFew (s : State) (x : Chan) : Bool :=
  match x with
  | .wave e w _ => decide (s.wgWorking e w < 5)
  | _ => false
/-- A channel is retired by command (R628). -/
def State.chanRetire (s : State) : Chan → State
  | .lane n => s.retireLane n 1
  | .wave e w k => (s.laneGone e w k true).spareOrDrop e
  | .edge _ => s
  | .short l b lane => s.bundleFail l b lane
  | .dram k ch => s.dramRetire k ch 3
  | .ring no => s.linkRetire no
/-- A retirement by command has ended. -/
def State.chanRetireEnd (s : State) (o : Op) (x : Chan) : State :=
  (s.journal 0x2A true (targetWord 0 0x050 0) (o.w 2) (s.chanWord x) 0).complete o .ok [wd (s.chanWord x), wd (s.opMicros o)]
/-- CHANNEL_RETIRE_COMPLETION (R628): the channel is retired, and a step drop that this asks for has ended. A channel that has meanwhile
been retired gives RETIRED, and one whose domain went OFF DOMAIN_OFF. -/
def execChannelRetireCompletion (s : State) : Result :=
  .next
    (match s.chanOp 0x0A02 with
     | none => s
     | some o =>
       match chanOf (o.w 2) with
       | none => s
       | some x =>
         let res : List Word := [wd (s.chanWord x), wd (s.opMicros o)]
         if o.stage ≠ 0 then (if s.chanSettles x then s else s.chanRetireEnd o x)
         else if !s.chanPowered x then s.complete o .domainOff []
         else if s.chanRetired x then s.complete o .retired res
         else if s.leavesFew x && o.f 3 0 0 == 0 then s.complete o .noSpare res
         else
           let s1 := s.chanRetire x
           if s1.chanSettles x then s1.putOp { o with stage := 1 } else s1.chanRetireEnd o x)

/-! ## CHANNEL_RESTORE (R629) -/

/-- The test of a channel begins. -/
def State.restoreStart (s : State) : Chan → State
  | .lane n => (s.setCal n true).toLane n lnCal
  | .edge e => if s.bestStep e = 3 then s else (s.setEdgeX e { s.edgeX e with rise := true }).edgeTrain e egFull 3
  | _ => s
/-- CHANNEL_RESTORE (R629). -/
def execChannelRestore (c : Cmd) (s : State) : Result :=
  .next
    (let x := chanOf (c.w 2)
     s.long 0x0A03 c
       { len := c.len == 3, tgt := c.aimsJrnl
         par := x.any (fun x => s.chanOut x)
         dom := x.all (fun x => s.chanPowered x)
         free := !s.heldByOther c && x.all (fun x => s.chanFree true x && !s.chanHeld c x) } none
       (fun s => match x with | some x => s.restoreStart x | none => s))

/-- A wavelength-lane is a spare again, and the edge rises where every waveguide can serve a higher step. -/
def State.waveBack (s : State) (e w k : Nat) : State :=
  let m := s.wgRetired e w
  let m1 := if m.testBit k then m - 2 ^ k else m
  let s1 := (edgeEnds e).foldl (fun s b => (s.setF (b + 4 * w) F.EDGE_WG_retired m1).setF (b + 4 * w) F.EDGE_WG_working (18 - ones18 m1)) s
  let s2 := s1.uncharge (waveWord e w k)
  if s2.edgeState e = egActive ∧ s2.bestStep e < s2.edgeStep e then
    (s2.setEdgeX e { s2.edgeX e with rise := true }).edgeTrain e egFast (s2.bestStep e)
  else s2
/-- A lane of a bundle is a spare again; a group retired with its bundle returns to OFF (R408). -/
def State.shortBack (s : State) (l b lane : Nat) : State :=
  let r := sheB l b
  let gone := s.shortGone l b
  let was := gone.testBit lane
  let s1 : State := { s with opt := { s.opt with short := SMap.put 0 s.opt.short (18 * l + b) (if was then gone - 2 ^ lane else gone) } }
  let n := s1.getF r F.SHE_B_working + bit was
  let s2 := ((s1.setF r F.SHE_B_working n).setF r F.SHE_B_spares_left (min 2 (monus n 56))).uncharge (shortWord l b lane)
  if s2.getF r F.SHE_B_state ≠ 3 then s2
  else if s2.getF (sheB l (b / 2 * 2 + (1 - b % 2))) F.SHE_B_state = 3 then s2.setF r F.SHE_B_state 2
  else
    (List.range 8).foldl (fun s k =>
      let v := 8 * bundleGroup l b + k
      if s.laneState v = lnRetired ∧ s.getF (laneBase v) F.LANE_INFO_cause = 3 then (s.lower (laneBase v) F.LANE_INFO_cause).toLane v lnOff else s)
      ((s2.setF r F.SHE_B_state 2).setBitOf (lsysBase l) F.LSYS_RETIRED_groups (b / 2) false)
/-- A DRAM channel returns with `good` of its 74 lanes: its lines are zeros under valid SEC-DED, which match no seal. -/
def State.dramBack (s : State) (k ch good : Nat) : State :=
  let b := fmcCh k ch
  let ok := s.getF (fmcBase k) F.FMC_INFO_ch_ok
  let lines := SMap.slice s.fm.lines (33554432 * k) (33554432 * (k + 1))
  let s1 := lines.foldl (fun s p => if channelOf (p.1 % 33554432) = ch then s.setLine k (p.1 % 33554432) {} else s) s
  let s2 : State := { s1 with mem := s1.mem.filter (fun c => !(decide (c.1 < fmSize) && stackOf c.1 == k && channelOf (lineOf c.1) == ch)) }
  let s3 := ((s2.setF b F.FMC_CH_state 2).setF b F.FMC_CH_cause 0).setF b F.FMC_CH_spares_left (min 2 (monus good 72))
  let s4 : State := { s3 with opt := { s3.opt with short := SMap.put 0 s3.opt.short (40 + 16 * k + ch) 0 } }
  (s4.setF (fmcBase k) F.FMC_INFO_ch_ok (ok ||| 2 ^ ch)).uncharge (dramWord k ch)
/-- A ring link is in service again, and its ring unfolds behind fences (R326, R329). -/
def State.ringBack (s : State) (no : Nat) : State := ((s.uncharge (linkWord no)).enterBypass (linkVks no)).changeRoutes (.link no)
/-- The channel passed its test. -/
def State.chanRestore (s : State) (good : Nat) : Chan → State
  | .lane n => s.laneRestored n
  | .wave e w k => s.waveBack e w k
  | .edge _ => s
  | .short l b lane => s.shortBack l b lane
  | .dram k ch => s.dramBack k ch good
  | .ring no => s.ringBack no
/-- The channel failed its test and stays retired. -/
def State.chanFailed (s : State) : Chan → State
  | .lane n => s.laneUnrestored n
  | _ => s
/-- A restoration has ended with the channel in service. -/
def State.chanRestoreEnd (s : State) (o : Op) (x : Chan) : State :=
  (s.journal 0x29 false (targetWord 0 0x050 0) (o.w 2) (s.chanWord x) 0).complete o .ok [wd (s.chanWord x), wd (s.opMicros o)]
/-- A lane left CALIBRATING before its test ended, retired again or stopped with its group (R388, R407). -/
def State.chanDropped (s : State) : Chan → Bool
  | .lane n => s.laneState n != lnCal
  | _ => false
/-- CHANNEL_RESTORE_COMPLETION (R629): the test ends. `pass` is its outcome, and `good` the lanes of a DRAM channel's short edge that
pass; an edge shows its own by its training, and one that rises with a lane has trained. A channel whose domain went OFF gives DOMAIN_OFF. -/
def execChannelRestoreCompletion (pass : Bool) (good : Fin 75) (s : State) : Result :=
  .next
    (match s.chanOp 0x0A03 with
     | none => s
     | some o =>
       match chanOf (o.w 2) with
       | none => s
       | some x =>
         let res (s : State) : List Word := [wd (s.chanWord x), wd (s.opMicros o)]
         if o.stage ≠ 0 then (if s.chanSettles x then s else s.chanRestoreEnd o x)
         else if !s.chanPowered x then s.complete o .domainOff []
         else match x with
           | .edge e =>
             if s.edgeTraining e then s
             else if s.edgeState e = egActive then s.chanRestoreEnd o x
             else s.complete o (if s.bestStep e = 3 then .noSpare else .hwFault) (res s)
           | .dram .. =>
             if pass ∧ 72 ≤ good.val then (s.chanRestore good.val x).chanRestoreEnd o x
             else s.complete o (if pass then .noSpare else .hwFault) (res s)
           | _ =>
             if s.chanDropped x then s.complete o .hwFault (res s)
             else if pass then
               let s1 := s.chanRestore 0 x
               if s1.chanSettles x then s1.putOp { o with stage := 1 } else s1.chanRestoreEnd o x
             else
               let s1 := s.chanFailed x
               s1.complete o .hwFault (res s1))

/-! ## The journal (R631–R633) -/

/-- The words of an entry (R631). -/
def JEntry.words (e : JEntry) : List Word :=
  [wd (e.code * 16777216 + bit e.permanent * 8388608 + e.seq), wd e.target] ++ timeWords e.time ++ [wd e.d0, wd e.d1, wd e.d2]
/-- The newest entry that carries a number, by position. -/
def newestNamed (n : Nat) : Nat → List JEntry → Option Nat → Option Nat
  | _, [], r => r
  | i, e :: t, r => newestNamed n (i + 1) t (if e.seq = n then some i else r)
/-- The position of the held entry that a number names (R631). -/
def entryNamed (l : List JEntry) (n : Nat) : Option Nat :=
  match l with
  | [] => none
  | e :: _ => if e.seq = n then some 0 else newestNamed n 0 l none
/-- JOURNAL_READ (R633). -/
def execJournalRead (c : Cmd) (s : State) : Result :=
  .next
    (s.immediate 0x0A00 c { len := c.len == 4, tgt := c.aimsJrnl, par := c.f 2 31 16 == 0 && c.f 3 31 5 == 0 && c.f 3 4 0 != 0 } (fun s =>
      let l := s.jrnl.held
      let es := match entryNamed l (c.f 2 15 0) with
        | some i => (l.drop i).take (c.f 3 4 0)
        | none => []
      let oldest := match l.head? with | some e => e.seq | none => 0
      let newest := match l.getLast? with | some e => e.seq | none => 0
      (s, [wd (oldest * 65536 + newest), wd (l.length * 65536 + es.length)] ++ es.flatMap JEntry.words)))
/-- JOURNAL_CLEAR (R625, R633). -/
def execJournalClear (c : Cmd) (s : State) : Result :=
  .next
    (s.immediate 0x0A01 c
      { len := c.len == 4, tgt := c.aimsJrnl, par := c.f 2 30 16 == 0 && c.f 3 31 8 == 0 && c.f 3 7 0 != 1, free := !s.heldByOther c } (fun s =>
      let l := if c.f 2 31 31 = 1 then []
        else match entryNamed s.jrnl.held (c.f 2 15 0) with
          | some i => s.jrnl.held.drop (i + 1)
          | none => s.jrnl.held
      let t := if c.f 3 7 0 = 0 then s.jrnl.threshold else c.f 3 7 0
      ({ s with jrnl := { s.jrnl with held := l, threshold := t } }, [wd l.length])))

end Sys2Proof.Machine
end

