-- ==== Sys2Proof/Machine/Steward.lean ====
section
/-! DEFINITION. What steward firmware answers of itself (R109, R110), firmware images and the handover (R113–R115), and the snapshots of
counters, by register (R64, R67) and by command (R117). -/
namespace Sys2Proof.Machine

/-! ## Targets (R99) -/

/-- The target that names the whole device (R99). -/
def Cmd.aimsDevice (c : Cmd) : Bool := c.aims 15 0xFFF 0

/-! ## PING, GET_INFO, GET_CAPS (R109, R110) -/

/-- PING (R109). -/
def execPing (c : Cmd) (s : State) : Result :=
  .next (s.immediate 0x0100 c { len := decide (c.len ≤ 252), tgt := c.aimsDevice || s.targetOk c.word1.toNat }
    (fun s => (s, timeWords s.sta ++ c.params)))

/-- SYS_INFO, and word 2 of GET_INFO. -/
def Ident.infoWord (i : Ident) : Nat := i.grade * 16777216 + i.site * 65536 + 0x9440
/-- Results of GET_INFO (R110). -/
def State.infoWords (s : State) : List Word :=
  [wd s.ident.infoWord, wd 0xB1, wd s.fwWord] ++ (List.range 4).map (fun i => wd (s.ident.serial / 2 ^ (32 * i) % 4294967296)) ++
  [wd (match s.lat.addr with | some a => 65536 + a | none => 0)]
/-- GET_INFO (R110). -/
def execGetInfo (c : Cmd) (s : State) : Result :=
  .next (s.immediate 0x0101 c { len := c.len == 2, tgt := c.aimsDevice || c.aims 0 0 0 } (fun s => (s, s.infoWords)))

/-- SYS_DIES.present (R46). -/
def State.diesPresent (s : State) : Nat :=
  ((List.range 8).map (fun d => if d = 0 ∨ ((1 ≤ d ∧ d ≤ 6) ∧ !s.pwr.inReset.getLsbD d) ∨
    (d = 7 ∧ s.ident.site ≠ 0 ∧ !s.pwr.inReset.getLsbD 7 ∧ s.getF ucieBase F.UCIE_LINK_state ≠ 5) then 2 ^ d else 0)).sum
/-- The facets whose domain is ON, as a mask (R110). -/
def State.facetsOn (s : State) : Nat := ((List.range 48).map (fun f => if s.dom f = 1 then 2 ^ f else 0)).sum
/-- DRAM channels retired in a stack. -/
def State.channelsRetired (s : State) (k : Nat) : Nat := ((List.range 16).filter (fun ch => s.getF (fmcCh k ch) F.FMC_CH_state == 3)).length
/-- Results of GET_CAPS (R110). -/
def State.capsWords (s : State) : List Word :=
  let u := s.getF ucieBase F.UCIE_LINK_state
  [wd s.diesPresent, wd (s.facetsOn % 4294967296), wd (s.facetsOn / 4294967296),
   wd (262143 - (s.getF (lsysBase 0) F.LSYS_RETIRED_groups + 512 * s.getF (lsysBase 1) F.LSYS_RETIRED_groups)),
   wd ((List.range 8).map (fun e => 4 ^ e * s.edgeStep e)).sum, wd ((List.range 4).map (fun k => 256 ^ k * s.channelsRetired k)).sum,
   wd (if u = 3 ∨ u = 4 then s.getF ucieBase F.UCIE_LINK_rate else 0)]
/-- GET_CAPS (R110). -/
def execGetCaps (c : Cmd) (s : State) : Result :=
  .next (s.immediate 0x0102 c { len := c.len == 2, tgt := c.aimsDevice || c.aims 0 0 0 } (fun s => (s, s.capsWords)))

/-! ## Firmware images (R113) -/

/-- HQ is the target. -/
def Cmd.aimsHq (c : Cmd) : Bool := c.aims 0 0x001 0
/-- FW_STAGE (R113). -/
def execFwStage (c : Cmd) (s : State) : Result :=
  .next (s.long 0x0105 c { len := c.len == 6, tgt := c.aimsHq, par := decide (c.w 2 ≤ 1), free := !s.heldByOther c } none id)

/-- The bytes of an image's source, none where they cannot be read. -/
def State.fwBytes (s : State) (o : Op) (es : List LineErr) : Option (List Byte) × State :=
  let a := o.w 4 * 4294967296 + o.w 3
  if o.w 2 = 1 then (some ((List.range (o.w 5)).map (fun i => SMap.get 0 s.flash (a + i))), s)
  else if !localRange a (o.w 5) then (none, s)
  else if a < fmSize then bytesRead (s.fmRead 5 a (o.w 5) es)
  else (some (s.load a (o.w 5)), s)
/-- The checks of R261 on an image: its plain bytes, or the status of the first step that fails. -/
def State.fwCheck (s : State) (img : List Byte) : Except Status (List Byte) :=
  if img.length < 512 then .error .streamShort
  else if !s.ident.headerOk 2 (img.take 512) then .error .wrongDevice
  else
    let total := w32 img 0x024
    if img.length < total || !endMarkerOk img total then .error .streamShort
    else match s.checked 2 (img.take total) with
      | some plain => .ok plain
      | none => .error .authFail
/-- The inactive slot takes an image, or is invalid. -/
def State.setOtherSlot (s : State) (ok : Bool) : State := (s.noteSlot (1 - s.hq.image) ok).setB hqBase F.HQ_FW_other_valid ok
/-- FW_STAGE_COMPLETION (R113, R261): the image is checked and written to the inactive slot; its release is the image's own. -/
def execFwStageCompletion (es : List LineErr) (s : State) : Result :=
  .next
    (match s.hq.ops.find? (fun o => o.opcode == 0x0105) with
     | none => s
     | some o =>
       match s.fwBytes o es with
       | (none, s1) => (s1.setOtherSlot false).complete o .streamShort []
       | (some img, s1) =>
         match s1.fwCheck img with
         | .error st => (s1.setOtherSlot false).complete o st []
         | .ok plain =>
           let v := s1.freeVal
           let t := v.2.setOtherSlot true
           ({ t with cfg := { t.cfg with fw := plain }, hq := { t.hq with slotVer := t.hq.slotVer.set (1 - t.hq.image) (v.1 % 1048576) } } : State).complete
             o .ok [])

/-! ## The handover (R114, R115) -/

/-- FW_ACTIVATE (R114). -/
def execFwActivate (c : Cmd) (s : State) : Result :=
  .next (s.long 0x0106 c { len := c.len == 3, tgt := c.aimsHq, par := c.f 2 31 1 == 0 && s.flag hqBase F.HQ_FW_other_valid, free := !s.heldByOther c }
    none id)
/-- The FW_ACTIVATE that waits (stage 0) or hands over (stage 1). -/
def State.activating (s : State) (stage : Nat) : Option Op := s.hq.ops.find? (fun o => o.opcode == 0x0106 && o.stage == stage)
/-- A long or scheduled operation other than this one is pending on some set (R83, R114): the SPI and the lattice are sets too. -/
def State.othersPending (s : State) (o : Op) : Bool := s.hq.ops.any (fun p => !p.is o.src o.tag)
/-- Sets in one state enter another. -/
def State.setsFromTo (s : State) (a b : QState) : State :=
  { s with hq := { s.hq with sets := s.hq.sets.map (fun p => if p.2.state = a then (p.1, { p.2 with state := b }) else p) } }
/-- FW_HANDOVER_START (R114, R115): every running set is HELD, and source 16 raised. -/
def execFwHandoverStart (s : State) : Result :=
  .next
    (match s.activating 0 with
     | none => s
     | some o =>
       if s.othersPending o ∨ s.hq.handover then s
       else
         let s1 := (s.setsFromTo .running .held).putOp { o with stage := 1, due := s.now }
         ((({ s1 with hq := { s1.hq with handover := true } } : State).raise hqBase F.HQ_STAT_handover).setF hqBase F.HQ_FW_state 2).signal 16)
/-- FW_ACTIVATE_WAIT_TIMEOUT (R114): another operation is still pending after 1 s. -/
def execFwActivateWaitTimeout (s : State) : Result :=
  .next
    (match s.activating 0 with
     | none => s
     | some o =>
       if s.othersPending o then (s.reachNow (o.began + 1000000000)).complete o .busy []
       else s)
/-- A handover is over: the sets run, and a firmware is ready (R114, R118). -/
def State.handoverOver (s : State) : State :=
  let s1 := (s.setsFromTo .held .running).lower hqBase F.HQ_STAT_handover
  let s2 : State := { s1 with hq := { s1.hq with handover := false } }
  ((s2.setF hqBase F.HQ_FW_state 1).signal 17).spiHeldGo
/-- FW_HANDOVER_END (R114): the new image takes over after `us` microseconds. A device that no image had booted goes on with steps 5 to 8
of R619. -/
def execFwHandoverEnd (us : Fin 2001) (s : State) : Result :=
  .next
    (match s.activating 1 with
     | none => s
     | some o =>
       let i := 1 - s.hq.image
       let s1 := (s.reachNow (s.now + us.val * 1000)).runImage i
       let s2 : State := if o.f 2 0 0 = 1 then { s1 with hq := { s1.hq with persistent := i } } else s1
       let s3 := s2.handoverOver.complete o .ok [wd us.val]
       if s.pwr.boot = .failed then s3.toBoot .firmware else s3)
/-- FW_HANDOVER_FAIL (R114, R632): the new image has not started within 2 ms and the old one resumes. No check step failed, so the
journal's second detail is open. -/
def execFwHandoverFail (s : State) : Result :=
  .next
    (match s.activating 1 with
     | none => s
     | some o =>
       let s1 := (s.reachNow (s.now + 2000000)).handoverOver
       let s2 := if s.pwr.boot = .failed then s1.setF hqBase F.HQ_FW_state 3 else s1
       let v := s2.freeVal
       (v.2.journal 0x09 true (targetWord 0 0x001 0) s2.fwWord (v.1 % 4294967296) 0).complete o .hwFault [])

/-! ## Snapshots (R64, R67, R117) -/

/-- The block has statistics counters. -/
def BlkKind.counts (k : BlkKind) : Bool := k.rows.any (fun r => r.flds.any (fun f => f.acc == .sh))
/-- Copies the counters of a block (R64, R67); a protractor's header record with them (R479). -/
def State.snapBlock (s : State) (d b : Nat) (clear : Bool) : State :=
  match blkAt d b with
  | some .prot => s.protSnap (72 * (d - 5) + (b - 0x180)) clear
  | some k => if k.counts then s.snapWindow (winBase d b) clear else s
  | none => s
/-- SNAP_WRITE (R45, R61, R64): a write of xxx_SNAP with snap = 1 and snap_clear = 0. -/
def execSnapWrite (m : Master) (d : Fin 8) (b : Fin 512) (s : State) : Result :=
  .next (s.ownWrite m d.val b.val 8 (fun s => s.snapBlock d.val b.val false))
/-- SNAP_CLEAR (R45, R67): a write of xxx_SNAP with snap_clear = 1, which acts whatever snap is. -/
def execSnapClear (m : Master) (d : Fin 8) (b : Fin 512) (s : State) : Result :=
  .next (s.ownWrite m d.val b.val 8 (fun s => s.snapBlock d.val b.val true))

/-- A listed block can be snapped (R99, R117). -/
def State.snapTarget (s : State) (w : Nat) : Bool :=
  s.targetOk w && (match blkAt (bitsOf w 3 0) (bitsOf w 15 4) with | some k => k.counts | none => false)
/-- The block's domain is OFF or being drained, or its clock is stopped, so that a command's write to it gets DOMAIN_OFF (R51, R108). -/
def State.blkGone (s : State) (d b : Nat) : Bool :=
  s.blkOff d b || s.blkStopped d b || (d != 0 && (match blkDom d b with | some x => s.dom x == 4 | none => false))
/-- A SNAP that lists the block is pending and has not copied it (R35). -/
def Op.snaps (o : Op) (x : Nat) : Bool := o.opcode == 0x0601 && (snapList o.params).contains x && !o.acc.contains (wd x)
/-- SNAP (R69, R117). -/
def execSnap (c : Cmd) (s : State) : Result :=
  .next
    (let l := snapList c.params
     let n := c.f 5 5 0
     s.long 0x0601 c
       { len := c.len == 6 + n, tgt := (c.aimsDevice || s.targetOk c.word1.toNat) && (c.params.drop 4).all (fun w => s.snapTarget w.toNat)
         par := (c.instant 2).isSome && decide (1 ≤ n) && decide (n ≤ 32) && c.f 5 30 6 == 0 && decide l.Nodup
         dom := l.all (fun x => !s.blkGone (bitsOf x 3 0) (bitsOf x 15 4))
         free := !l.any (fun x => s.hq.ops.any (fun o => o.snaps x)), late := l.all (fun x => s.inTime (bitsOf x 3 0) (c.instant 2)) }
       (some (s.instantTime ((c.instant 2).getD .atOnce))) id)
/-- SNAP_ACT (R33, R117, R368): the first edge of a listed block's clock at or past the instant, at station time `edge`. A block whose clock
stands still has none (R52). -/
def execSnapAct (w : Word) (edge : Nat) (s : State) : Result :=
  .next
    (let x := bitsOf w.toNat 15 0
     match s.hq.ops.find? (fun o => o.snaps x && s.edgeActs o edge) with
     | none => s
     | some o =>
       if s.blkOff (bitsOf x 3 0) (bitsOf x 15 4) || s.blkStopped (bitsOf x 3 0) (bitsOf x 15 4) then s else
       let s1 := (s.reachAt (bitsOf x 3 0) edge).snapBlock (bitsOf x 3 0) (bitsOf x 15 4) (o.f 5 31 31 == 1)
       s1.putOp { o with stage := 1, acc := o.acc ++ [wd x], due := max o.due edge })
/-- SNAP_COMPLETION (R117): every listed block has copied. -/
def execSnapCompletion (s : State) : Result :=
  .next
    (match s.hq.ops.find? (fun o => o.opcode == 0x0601 && (snapList o.params).all (fun x => o.acc.contains (wd x))) with
     | none => s
     | some o => s.complete o .ok (timeWords o.due))

end Sys2Proof.Machine
end

