-- ==== Sys2Proof/Machine/Scheduling.lean ====
section
/-! DEFINITION. What ends pending operations from outside their own course: SCHED_CANCEL (R116, R117), an acting clock without an edge
(R368), and an operation that exceeds its stated bound (R103). -/
namespace Sys2Proof.Machine

/-! ## SCHED_CANCEL (R116) -/

/-- The pending scheduled command of an opcode that a block holds (R116); a SNAP is held by each block it lists (R117). -/
def State.scheduledOn (s : State) (opcode : Nat) (w : Word) : Option Op :=
  s.hq.ops.find? (fun o => o.opcode == opcode && o.instant.isSome &&
    (if opcode = 0x0601 then (snapList o.params).contains (bitsOf w.toNat 15 0) else o.word1 == w))
/-- SCHED_CANCEL (R106, R116, R117). -/
def execSchedCancel (c : Cmd) (s : State) : Result :=
  .next
    (let x := s.scheduledOn (c.f 2 15 0) c.word1
     s.immediateThen 0x0107 c
       { len := c.len == 3, tgt := s.targetOk c.word1.toNat, par := c.f 2 31 16 == 0 && x.isSome, late := x.all (fun o => o.stage == 0) }
       (fun s => (s, [])) (fun s => match x with | some o => s.complete o .fenced [] | none => s))

/-! ## SCHEDULED_ACTION_MISSED (R231, R368) -/

/-- The block of a scheduled action that has not acted: the target, or the first block of a SNAP that has not copied. -/
def Op.waitsFor (o : Op) : Option Nat :=
  if o.opcode = 0x0601 then (snapList o.params).find? (fun x => !o.acc.contains (wd x))
  else if o.stage = 0 then some o.word1.toNat else none
/-- SCHEDULED_ACTION_MISSED (R231, R368): the acting clock has given no edge within 1 µs after the instant, or after the step that went past it (R367). A facet swap that waits for its
event line has a timeout of its own (R230). -/
def execScheduledActionMissed (src : Src) (tag : BitVec 8) (s : State) : Result :=
  .next
    (match s.opOf src tag with
     | none => s
     | some o =>
       if o.onEvent then s
       else match o.instant, o.waitsFor with
         | some t, some w => ((s.reachAt (bitsOf w 3 0) (s.edgeLimit t)).complete o .timeout []).journal 0x08 false w o.opcode 0 0
         | _, _ => s)

/-! ## OPERATION_TIMEOUT (R103) -/

/-- Nanoseconds per microsecond and per millisecond. -/
def usNs : Nat := 1000
@[inherit_doc usNs] def msNs : Nat := 1000000
/-- The bound of a SET_POWER (R512, R542, R609): domain kind, the state last reached and the state asked for. -/
def powerBound (kind last asks : Nat) : Nat :=
  match kind with
  | 1 => if asks = 1 then 2 * msNs else if asks = 2 then 10 * usNs else 1200 * usNs
  | 2 => if asks = 1 then 5 * msNs else 1200 * usNs
  | 3 => if asks = 1 then (if last = 2 then msNs else 26 * msNs) else if asks = 2 then 100 * usNs else msNs
  | 4 => if asks = 1 then (if last = 3 then 20 * usNs else 10 * msNs) else 200 * usNs
  | 5 => if asks = 1 then 200 * msNs else msNs
  | 6 => if asks = 1 then (if last = 2 then msNs else 100 * msNs) else if asks = 2 then msNs else 1200 * usNs
  | _ => if asks = 1 then msNs else if asks = 2 then 10 * usNs else 100 * usNs
/-- The bound of a RESET (R622). -/
def resetBound (kind die : Nat) : Nat :=
  if kind = 2 then (if die ≤ 4 then 5 * msNs else if die ≤ 6 then 2 * msNs else 100 * msNs)
  else if kind = 5 then 100 * msNs else 100 * usNs
/-- The bound of CHANNEL_RETIRE and CHANNEL_RESTORE (R628, R629). -/
def chanBound (restore : Bool) : Chan → Nat
  | .lane _ => if restore then 5 * msNs else msNs
  | .short _ _ _ => msNs
  | .dram _ _ => if restore then 10 * msNs else msNs
  | _ => 2 * msNs
/-- The selected facets of an apply in the quadrant that has most of them (R272). -/
def Apply.most (a : Apply) : Nat := (List.range 4).foldl (fun m q => max m ((a.selected.filter (fun f => f / 12 == q)).length)) 0
/-- The bits a scan of a lane compares, over its rate, in nanoseconds (R400). -/
def State.eyeTime (s : State) (n : Nat) (o : Op) : Nat :=
  let b := laneBase n
  let r := s.lanePma (s.laneCfg n) (s.getF b F.LANE_CFG1_word6) (s.getF b F.LANE_REFKHZ_word7)
  (eyePoints (o.f 2 31 24) (o.f 2 23 16)).length * 2 ^ o.f 2 5 0 * 1000000000 * r.den / r.num
/-- The apply that a command started. -/
def State.applyOf (s : State) (o : Op) : Option Apply := s.cfg.applies.find? (fun a => decide (a.src = o.src) && a.tag == o.tag)
/-- The bound of a long operation from ACCEPTED, or of a scheduled one from its instant, in nanoseconds, where one is stated (R103).
`gaps` is how long the three release gaps of a load take (R246). -/
def State.opBound (s : State) (o : Op) (gaps : Nat) : Option Nat :=
  match o.opcode with
  | 0x0103 => (kindDom (o.f 2 31 24) (o.f 2 15 0)).map (fun d => powerBound (o.f 2 31 24) (SMap.get 0 s.pwr.last d) o.asks)
  | 0x0104 => some (resetBound (o.f 2 3 0) o.die)
  | 0x0108 => some (100 * usNs)
  | 0x0201 => some (20 * msNs + 200000 * s.getF (handleBase (o.f 2 15 0)) F.CFG_HANDLE_LEN_total_length / 1048576)
  | 0x0202 => (s.applyOf o).map (fun a => 5 * msNs + 20 * msNs * a.most + (if a.mirror then 0 else gaps))
  | 0x0205 => some (20 * msNs + gaps)
  | 0x0302 => some (if o.die = 0 then 100 * msNs else msNs)
  | 0x0402 => some (s.eyeTime (72 * (o.die - 5) + (o.blk - 0x100)) o + 10 * msNs)
  | 0x0403 => some msNs
  | 0x0404 => some (if o.f 2 0 0 = 0 then 5 * msNs else 50 * msNs)
  | 0x0501 => if o.stage = 1 then some (100 * msNs) else none
  | 0x0506 => some (64 * usNs)
  | 0x0702 =>
    let b := slotBase (o.die - 1) o.inst
    let size := (s.getF b F.SEAL_SECT_RANGE_limit + 1 - s.getF b F.SEAL_SECT_RANGE_base) * 65536
    some (10 * msNs + size * 100 / (if o.f 2 0 0 = 1 then 20480 else 2048) + (s.sect (o.die - 1) o.inst).paused)
  | 0x0800 =>
    if o.f 2 1 0 = 0 then some ((if o.f 4 15 0 = 0 then 1000 else o.f 4 15 0) * msNs)
    else some ((if o.f 5 15 0 = 0 then 10 else o.f 5 15 0) * msNs + 50 * usNs)
  | 0x0902 => some (10 * msNs)
  | 0x0A02 => (chanOf (o.w 2)).map (chanBound false)
  | 0x0A03 => (chanOf (o.w 2)).map (chanBound true)
  | 0x0A04 => some (2 * msNs)
  | 0x0A05 => some (5 * msNs)
  | _ => none
/-- An operation has reached its bound (R247, R268, R272, R539, R602): TIMEOUT, and what the spec says it leaves. -/
def State.timeOut (s : State) (o : Op) : State :=
  match o.opcode with
  | 0x0201 => s.failVerify (o.f 2 15 0) o .timeout
  | 0x0202 => match s.applyOf o with | some a => s.stopApply a .timeout | none => s.complete o .timeout []
  | 0x0205 => if (s.facetX (12 * (o.die - 1) + (o.blk - 0x010))).stage = 0 then s.rewriteTimeout (12 * (o.die - 1) + (o.blk - 0x010)) o else s
  | 0x0402 =>
    let n := 72 * (o.die - 5) + (o.blk - 0x100)
    (s.setLaneX n { s.laneX n with scanning := false }).complete o .timeout []
  | 0x0702 => ((s.endRekey (o.die - 1) o.inst .timeout).abandonSweep (o.die - 1) o.inst)
  | 0x0A03 =>
    (match chanOf (o.w 2) with
    | some (.lane n) => if s.laneReturns n then (s.calDrop n).toLane n lnRetired else s
    | _ => s).complete o .timeout []
  | 0x0800 => ((if o.f 2 1 0 = 0 then { s with lat := { s.lat with disc := none } } else s) : State).complete o .timeout []
  | _ => s.complete o .timeout []
/-- OPERATION_TIMEOUT (R103): the operation of a path and tag reaches its bound. -/
def execOperationTimeout (src : Src) (tag : BitVec 8) (gaps : Nat) (s : State) : Result :=
  .next
    (match s.opOf src tag with
     | none => s
     | some o => match s.opBound o gaps with
       | some b =>
         let t := match o.instant with
           | some i => monus (i + b * nano) (s.staAt o.die)
           | none => monus (o.began + b) s.now * nano
         (s.reach (s.sta + t)).timeOut o
       | none => s)

end Sys2Proof.Machine
end

