-- ==== Sys2Proof/Machine/Live.lean ====
section
/-! DEFINITION. The event sources that signal while a condition lasts (R73, R80, R118, R334, R369, R413, R461, R482, R517, R546, R562,
R573, R608, R637): `State.live`. Sources that only mark an occurrence signal where it happens and are never live. -/
namespace Sys2Proof.Machine

/-! ## Sources 0–63 -/

/-- Sources 0–31 (R118). -/
def State.liveSys (s : State) (n : Nat) : Bool :=
  if n = 6 then s.hq.spiReply
  else if n = 7 then (List.range 16).any (fun q => s.flag (setBase q) F.HQ_Q_STAT_fetch_error)
  else if n < 16 then s.replyHeld n
  else if n = 16 then s.hq.handover
  else if n = 17 then s.getF hqBase F.HQ_FW_state == 1
  else if n = 18 then (List.range 16).any (fun q => s.replyWait q)
  else if n = 19 then s.latFull
  else false
/-- The 1PPS or 10 MHz input is absent while an entry or a loop names it (R369). -/
def State.liveInputs (s : State) : Bool :=
  (List.range 4).any (fun e => s.refKind e == 2 && !s.flag (refBase e) F.TIME_REF_present) ||
  (List.range 8).any (fun n => s.loopState n != slOff && s.loopSource n == 2 && !s.tim.in10)
/-- Station loop n is coasting, on fallback or out of window (R369). -/
def State.liveLoop (s : State) (n : Nat) : Bool :=
  s.flag (loopBase n) F.LOOP_STAT_coasting || s.flag (loopBase n) F.LOOP_STAT_on_fallback || s.flag (loopBase n) F.LOOP_STAT_out_of_window
/-- A fabric loop of Qq whose reference code is not 0 is unlocked (R369). -/
def State.liveFloops (s : State) (q : Nat) : Bool :=
  (List.range 16).any (fun l => s.getF (floopAt q l) F.FLOOP_REF_ref != 0 && !(s.getF (floopBase q) F.FLOOP_LOCK_locked).testBit l)
/-- Sources 32–63 (R369). -/
def State.liveTime (s : State) (n : Nat) : Bool :=
  if n = 32 then s.tmState != tmLocked
  else if n = 34 then (s.tmDriven && !s.flag (refBase s.tmActive) F.TIME_REF_present) || s.flag timeBase F.TIME_STAT_source_lost
  else if n = 35 then s.getF timeBase F.TIME_DEGRADED_dies != 0
  else if n = 36 ∨ n = 37 then s.xo (n - 36) == 1 || s.xo (n - 36) == 3
  else if n = 38 then s.liveInputs
  else if 40 ≤ n ∧ n < 48 then s.liveLoop (n - 40)
  else if 48 ≤ n ∧ n < 52 then s.liveFloops (n - 48)
  else false

/-! ## Lanes, stream engines and links -/

/-- Lane n (R413). -/
def State.liveLane (s : State) (n : Nat) : Bool :=
  (s.getF (laneBase n) F.LANE_CFG0_word5).testBit 31 &&
  (let v := s.laneState n
   v == lnNoSignal || v == lnLocking || v == lnHunting || v == lnRecovering || v == lnRetired)
/-- The stream-engine channel of lane n (R461). -/
def State.liveSe (s : State) (n : Nat) : Bool :=
  (s.flag (chBase n) F.SE_CH_CFG_rx_on && s.rxState n != rxRunning && s.rxState n != rxMember) ||
  (!(s.portRec n).isEmpty && !s.flag (ethBase n) F.SE_PORT_STAT_link_up) ||
  (SMap.slice s.se.flows (512 * (n / 8)) (512 * (n / 8) + 256)).any (fun p =>
    s.flState (n / 8) (p.1 % 512) == flSearching && flowLane (n / 8) p.2 == n)
/-- A ring of Qq is folded or split, or a vertex of Qq is in bypass (R334). -/
def State.liveRings (s : State) (q : Nat) : Bool :=
  s.ring.byp.any (fun vk => vkQuad vk == q) ||
  ((List.range 8).map (· + q / 2 * 8) ++ (List.range 12).map (· + 16 + q % 2 * 12)).any (fun r => s.ringState r != 0)
/-- Sources 592–623 (R517). -/
def State.liveLinks (s : State) (n : Nat) : Bool :=
  if n < 600 then s.edgeState (n - 592) != egActive || s.edgeStep (n - 592) != 0
  else if n < 604 then
    (List.range 9).any (fun g =>
      s.dom (groupDom (9 * ((n - 600) / 2) + g)) == 1 && s.getF (sheB ((n - 600) / 2) (2 * g + n % 2)) F.SHE_B_state != 2)
  else if n < 608 then s.dom (stackDom (n - 604)) == 1 && (List.range 16).any (fun c => s.getF (fmcCh (n - 604) c) F.FMC_CH_state != 2)
  else if n < 610 then s.lampState (n - 608) == lpFailed
  else if n = 610 then s.ident.site != 0 && s.getF ucieBase F.UCIE_LINK_state != 3
  else false

/-! ## The rest -/

/-- Source `n` of stack k (R546). -/
def State.liveStack (s : State) (k n : Nat) : Bool :=
  if n = 0 then (List.range 16).any (fun c => s.getF (fmcCh k c) F.FMC_CH_state == 3)
  else if n = 1 then !(s.poisonOrder k).isEmpty
  else if n = 3 then
    (List.range 24).any (fun x => let v := s.getF (slotBase k x) F.SEAL_SECT_STAT_state; v == 1 || v == 3 || v == 4)
  else false
/-- Sources 768–783 (R637). -/
def State.livePower (s : State) (n : Nat) : Bool :=
  if n = 768 then s.pwr.trip
  else if n = 769 then s.flag pwrBase F.PWR_THERM_warn
  else if n = 770 then !s.jrnl.held.isEmpty
  else if n = 773 then (List.range 85).any (fun d => (s.domOp d).isSome)
  else false
/-- The domains of a source, and the dies it lies on (R80): an edge lies in the spine domains of the quadrants that it joins (R609).
A lamp, the partner link and a Glenu link lie in none (assumption log 28). -/
def srcDom (n : Nat) : List Nat × List Nat :=
  if 48 ≤ n ∧ n < 52 then ([spineDom (n - 48)], [n - 47])
  else if 64 ≤ n ∧ n < 112 then ([n - 64], [(n - 64) / 12 + 1])
  else if 114 ≤ n ∧ n < 118 then ([spineDom (n - 114)], [n - 113])
  else if 128 ≤ n ∧ n < 560 then ([groupDom ((n - 128) % 144 / 8)], [(n - 128) % 144 / 72 + 5])
  else if 560 ≤ n ∧ n < 592 then ([spineDom ((n - 560) / 8)], [(n - 560) / 8 + 1])
  else if 592 ≤ n ∧ n < 600 then ((edgeSpines (n - 592)).map spineDom, (edgeSpines (n - 592)).map (· + 1))
  else if 624 ≤ n ∧ n < 640 then ([spineDom ((n - 624) / 4)], [(n - 624) / 4 + 1])
  else if 688 ≤ n ∧ n < 704 then ([cueDom (n % 8)], [])
  else if 800 ≤ n ∧ n < 1024 then ([spineDom ((n - 800) / 56)], [(n - 800) / 56 + 1])
  else ([], [])
/-- A domain of a source is OFF (R80), or a die of it under reset, where its live bit reads 0 too (DESIGN CHOICE, assumption log 91: R80 speaks
only of a domain that is OFF). -/
def State.srcOff (s : State) (n : Nat) : Bool :=
  (srcDom n).1.any (fun d => s.dom d == 0) || (srcDom n).2.any (fun d => s.pwr.inReset.getLsbD d)
/-- The condition of a source holds. -/
def State.liveCond (s : State) (n : Nat) : Bool :=
  if n < 32 then s.liveSys n
  else if n < 64 then s.liveTime n
  else if n < 128 then false
  else if n < 272 then s.liveLane (n - 128)
  else if n < 416 then s.liveSe (n - 272)
  else if n < 560 then s.getF (protBase (n - 416)) F.PROT_LIVE_breach != 0
  else if n < 592 then n % 8 == 5 && s.liveRings ((n - 560) / 8)
  else if n < 624 then s.liveLinks n
  else if n < 640 then s.liveStack ((n - 624) / 4) (n % 4)
  else if n < 688 then s.mbLive (n - 640)
  else if n < 696 then false
  else if n < 704 then s.cueState (n - 696) == cuHalted || s.cueState (n - 696) == cuFaulted
  else if n < 768 then false
  else if n < 784 then s.livePower n
  else if n < 800 then (s.glink (n - 784)).enabled && (s.glink (n - 784)).state != glUp
  else s.lineOut ((n - 800) / 56) ((n - 800) % 56) == 1
/-- The source signals (EVC_LIVE, R72). -/
def State.live (s : State) (n : Nat) : Bool := decide (n < 1024) && srcUsed n && !s.srcOff n && s.liveCond n
/-- Word `w` of EVC_LIVE. -/
def State.liveWord (s : State) (w : Nat) : Nat := ((List.range 32).map (fun j => if s.live (32 * w + j) then 2 ^ j else 0)).sum
/-- A cycle passes: every source that signals is recorded (R73). -/
def State.recordLive (s : State) : State := (List.range 1024).foldl (fun t n => if s.live n then t.signal n else t) s

end Sys2Proof.Machine
end

