-- ==== Sys2Proof/Machine/Views.lean ====
section
/-! DEFINITION. Reading a register (R45, R52, R54, R65): the fields that the store holds, the counters of the last snapshot, and the
fields that show a condition or an identity (`State.view`). -/
namespace Sys2Proof.Machine

/-! ## Views -/

/-- Bits of a register word that come from a condition and not from the store: which bits, and their value. -/
structure View where
  mask  : Nat := 0
  value : Nat := 0
deriving DecidableEq, Repr

/-- A field shows a value. -/
def Fld.shows (f : Fld) (v : Nat) : View := { mask := (2 ^ f.width - 1) * 2 ^ f.lo, value := v % 2 ^ f.width * 2 ^ f.lo }
/-- A field shows a truth value. -/
def Fld.tells (f : Fld) (b : Bool) : View := f.shows (bit b)
/-- Two views of different bits. -/
def View.and (a b : View) : View := { mask := a.mask ||| b.mask, value := a.value ||| b.value }
/-- The whole word. -/
def wholeWord (v : Nat) : View := { mask := 0xFFFFFFFF, value := v % 4294967296 }
/-- Every view of a list. -/
def views (l : List View) : View := l.foldl View.and {}
/-- The station time in the layout of R98: word `i`. -/
def timeWord (t i : Nat) : Nat := ((timeWords t).getD i 0).toNat
/-- The master that a latch belongs to: the debug access master has one, whatever its effect attribute (R58, R650). -/
def latchOwner (m : Master) : Master := if m = .debugPlain then .debug else m
/-- A master's latch of the time value whose lowest word is at an address (R58): 0 until it reads that word. -/
def State.latched (s : State) (m : Master) (a : Nat) : Nat :=
  match s.latches.find? (fun l => decide (l.master = latchOwner m) && l.addr == a) with | some l => l.value | none => 0

/-- SYS (R46). -/
def State.viewSys (s : State) (off : Nat) : View :=
  match off with
  | 0x0C => wholeWord s.ident.infoWord
  | 0x20 => wholeWord s.ident.serial
  | 0x24 => wholeWord (s.ident.serial / 2 ^ 32)
  | 0x28 => wholeWord (s.ident.serial / 2 ^ 64)
  | 0x2C => wholeWord (s.ident.serial / 2 ^ 96)
  | 0x34 => F.SYS_DIES_present.shows s.diesPresent
  | _ => {}

/-- The sources of word w of EVC_REC that would be delivered (EVC_SUMMARY). -/
def State.unmaskedRecs (s : State) (w : Nat) : Nat :=
  s.getF (evcBase + 4 * w) F.EVC_REC_rec &&& (0xFFFFFFFF ^^^ s.getF (evcBase + 4 * w) F.EVC_MASK_mask)
/-- EVC_LIVE, EVC_SUMMARY and EVC_VEC_PEND (R72, R74). -/
def State.viewEvc (s : State) (off : Nat) : View :=
  if 0x100 ≤ off ∧ off < 0x180 then wholeWord (s.liveWord ((off - 0x100) / 4))
  else if off = 0x500 then wholeWord ((List.range 32).map (fun w => if s.unmaskedRecs w = 0 then 0 else 2 ^ w)).sum
  else if 0x600 ≤ off ∧ off < 0x610 then
    wholeWord ((List.range 32).map (fun j => if s.vecPending (8 * (off - 0x600) + j) then 2 ^ j else 0)).sum
  else {}

/-- CUE n (R574); CUE_MTIME_HI is the master's latch (R58). -/
def State.viewCue (s : State) (m : Master) (n off : Nat) : View :=
  match off with
  | 0x0C => F.CUE_INFO_core.shows n
  | 0x1C => F.CUE_WDT_COUNT_count.shows (s.wdtLeft n)
  | 0x40 => wholeWord s.mtime
  | 0x44 => wholeWord (s.latched m (cueBase n + 0x40) / 4294967296)
  | _ => {}

/-- TIME (R370): the upper words of TIME_NOW are the master's latch (R58). -/
def State.viewTime (s : State) (m : Master) (off : Nat) : View :=
  match off with
  | 0x20 => wholeWord (timeWord s.sta 0)
  | 0x24 => wholeWord (timeWord (s.latched m (timeBase + 0x20)) 1)
  | 0x28 => wholeWord (timeWord (s.latched m (timeBase + 0x20)) 2)
  | _ => {}

/-- CLKO (R372): an output runs while its ball toggles. -/
def State.viewClko (s : State) (off : Nat) : View :=
  if 0x10 ≤ off ∧ off < 0x30 ∧ off % 8 = 0 then F.CLKO_SET_running.tells (s.clkoutRuns ((off - 0x10) / 8)) else {}

/-- The debug policy as DBG shows it: bit 0 of a dead device reads 1 (R644). -/
def State.policyShown (s : State) : Nat := s.ident.debugPolicy ||| bit (s.ident.debugPolicy.testBit 6)
/-- SEC (R294). -/
def State.viewSec (s : State) (off : Nat) : View :=
  if off = 0x0C then
    views [F.SEC_OTP_owner_set.tells s.ident.ownerSet, F.SEC_OTP_id_key_set.tells s.ident.idKeySet, F.SEC_OTP_debug_policy.shows s.policyShown]
  else if 0x20 ≤ off ∧ off < 0x50 then wholeWord (ofBytes (((bytesOf 48 s.ident.ownerHash).reverse.drop (off - 0x20)).take 4))
  else {}

/-- JRNL (R636). -/
def State.viewJrnl (s : State) (off : Nat) : View :=
  match off with
  | 0x0C => (F.JRNL_INFO_next_seq.shows s.jrnl.nextSeq).and (F.JRNL_INFO_held.shows s.jrnl.held.length)
  | 0x10 => F.JRNL_THRESH_threshold.shows s.jrnl.threshold
  | _ => {}

/-- PWR (R635): which sensors are valid, the nibbles of PWR_DOM and the bits of PWR_PEND, by domain. -/
def State.viewPwr (s : State) (off : Nat) : View :=
  if off = 0x10 then F.PWR_THERM_trip.tells s.pwr.trip
  else if 0x40 ≤ off ∧ off < 0x78 then F.PWR_TEMP_valid.tells (s.sensorValid ((off - 0x40) / 4))
  else if 0x100 ≤ off ∧ off < 0x12C then
    wholeWord ((List.range 8).map (fun i => if 2 * (off - 0x100) + i < 85 then 16 ^ i * s.domShown (2 * (off - 0x100) + i) else 0)).sum
  else if 0x140 ≤ off ∧ off < 0x14C then
    wholeWord ((List.range 32).map (fun i =>
      if 8 * (off - 0x140) + i < 85 ∧ (s.domOp (8 * (off - 0x140) + i)).isSome then 2 ^ i else 0)).sum
  else {}

/-- The temperature that sensor i last gave, as a field of `n` bits shows it (R613). -/
def State.sensorTemp (s : State) (i n : Nat) : Nat := min (2 ^ n - 1) (s.getF (pwrBase + 4 * i) F.PWR_TEMP_temp)

/-- DBG (R663). -/
def State.viewDbg (s : State) (off : Nat) : View :=
  if off = 0x0C then (F.DBG_INFO_main_good.tells s.mainGood).and (F.DBG_INFO_policy.shows s.policyShown)
  else if off = 0x10 then
    (F.DBG_RIGHTS_seconds.shows s.rightsLeft).and (F.DBG_RIGHTS_rights.shows (if s.rightsOver then 0 else s.getF dbgBase F.DBG_RIGHTS_rights))
  else if off = 0x404 then F.DBG_TRC_STAT_running.tells s.tracing
  else if 0x8000 ≤ off ∧ off < 0x10000 then wholeWord (SMap.get 0 s.dbg.tbuf ((off - 0x8000) / 16) / 2 ^ (8 * (off % 16)))
  else {}

/-- The facet resources of R220: bays, deep bays and SAUs of a facet column. -/
def facetCounts (col : Nat) : Nat × Nat × Nat := if col = 0 then (341, 17, 171) else if col = 1 then (342, 16, 170) else (341, 17, 171)
/-- FACET F (R244, R251, R252): the armed swap, the packets still to drain, and the drain that a host fence begins. -/
def State.viewFacet (s : State) (m : Master) (f off : Nat) : View :=
  let armed := s.swapOp f
  let r := facetCounts (f % 3)
  match off with
  | 0x04 => (F.FACET_STAT_fenced.tells (s.fenced f)).and (F.FACET_STAT_armed.tells armed.isSome)
  | 0x0C =>
    views [F.FACET_INFO_facet.shows f, F.FACET_INFO_bays.shows r.1, F.FACET_INFO_deep_bays.shows r.2.1, F.FACET_INFO_saus.shows r.2.2]
  | 0x1C =>
    (match armed with
     | some o =>
       views [F.FACET_ARM_trigger.shows (o.f 5 31 31), F.FACET_ARM_event_line.shows (o.f 5 29 24), F.FACET_ARM_swap_clk.shows (o.f 5 3 0)]
     | none => {})
  | 0x20 => (match armed with | some o => wholeWord (o.w 2) | none => {})
  | 0x24 => wholeWord (timeWord (s.latched m (facetBase f + 0x20)) 1)
  | 0x28 => wholeWord (timeWord (s.latched m (facetBase f + 0x20)) 2)
  | 0x34 => wholeWord (timeWord (s.latched m (facetBase f + 0x30)) 1)
  | 0x38 => wholeWord (timeWord (s.latched m (facetBase f + 0x30)) 2)
  | 0x40 =>
    let n := s.inFlight f
    let in_ := F.FACET_FENCE_STAT_in_flight.shows (min 65535 n)
    if s.hostFence f && n != 0 then in_.and (F.FACET_FENCE_STAT_draining.tells true) else in_
  | _ => {}

/-- The port whose register group holds an offset of SP (R163), and the offset in the group. -/
def portAt (off : Nat) : Option (SpPort × Nat) :=
  if h : 0x100 ≤ off ∧ off < 0xA00 then some (.rx ⟨(off - 0x100) / 32, by omega⟩, off % 32)
  else if h : 0x1000 ≤ off ∧ off < 0x1900 then some (.tx ⟨(off - 0x1000) / 32, by omega⟩, off % 32)
  else if h : 0x2000 ≤ off ∧ off < 0x2C00 then some (.ingress ⟨(off - 0x2000) / 32, by omega⟩, off % 32)
  else if h : 0x3000 ≤ off ∧ off < 0x3C00 then some (.egress ⟨(off - 0x3000) / 32, by omega⟩, off % 32)
  else none
/-- SP_STAT.active (R163): enabled, clocked by a regional clock that runs, and the facet ON. -/
def State.viewSp (s : State) (q off : Nat) : View :=
  match portAt off with
  | some (p, 4) =>
    F.SP_STAT_active.tells (s.spOn (portBase q p) && s.regionRuns (p.facet q) (s.getF (portBase q p) F.SP_CTL_clk_sel) && s.dom (12 * q + p.facet q % 12) == 1)
  | _ => {}

/-- QC (R190, R205): the lock of raw writes, and a controller's levels and binding. -/
def State.viewQc (s : State) (q off : Nat) : View :=
  if off = 0x40 then F.QC_RAW_CTL_locked.tells s.injectLocked
  else if 0x100 ≤ off ∧ off < 0x7900 then
    let n := (off - 0x100) / 0x40
    let p := s.qptr q n
    match (off - 0x100) % 0x40, s.qbind q n with
    | 0x08, b =>
      views [F.QC_QSTAT_full.tells (match b with | some b => decide (b.depth ≤ p.level) | none => false), F.QC_QSTAT_afull.tells (s.qcAfull q n),
             F.QC_QSTAT_aempty.tells (s.qcAempty q n), F.QC_QSTAT_empty.tells (decide (p.rSees ≤ p.r))]
    | 0x0C, _ => F.QC_QLEVEL_level.shows p.level
    | 0x14, some b =>
      views [F.QC_QBIND_bound.shows 1, F.QC_QBIND_deep.tells b.deep, F.QC_QBIND_paired.tells b.paired, F.QC_QBIND_bay.shows b.bay]
    | _, _ => {}
  else {}

/-- SCRUB_POS (R284, R289, R295): an armed facet's inactive plane goes ahead (R232). -/
def State.viewScrub (s : State) (q off : Nat) : View :=
  if off = 0x14 then
    (match s.armedFacet q with
     | some f =>
       views [F.SCRUB_POS_facet.shows (f % 12), F.SCRUB_POS_plane.shows (otherPlane (s.facetPlane f)), F.SCRUB_POS_frame.shows (SMap.get 0 s.fac.ahead f)]
     | none =>
       let x := SMap.get 0 s.fac.pos q
       views [F.SCRUB_POS_facet.shows (x / 65536), F.SCRUB_POS_plane.shows (x / 32768), F.SCRUB_POS_frame.shows x])
  else {}

/-- FMC k (R544): the state of the stack and its temperature, hot above 85 °C. -/
def State.viewFmc (s : State) (k off : Nat) : View :=
  match off with
  | 0x0C =>
    let v := s.dom (stackDom k)
    F.FMC_INFO_state.shows (if v = 3 then 2 else if v = 4 then 3 else if v = 5 then 4 else v)
  | 0x10 => (F.FMC_TEMP_hot.tells (decide (degrees 85 < s.getF (pwrBase + 4 * (7 + k)) F.PWR_TEMP_temp))).and (F.FMC_TEMP_temp.shows (s.sensorTemp (7 + k) 12))
  | _ => {}

/-- The facet shows the power-on pull of its balls (R686): it is OFF or never had a valid plane. -/
def State.uioIdle (s : State) (f : Nat) : Bool := s.facetState f == fcOff || !(s.facetX f).ever
/-- The user I/O of a facet are high-impedance under a full load (R275): it is EMPTY, or a full load of it has not come to stage 1 of its release, from
which the cells follow the design (R276). -/
def State.uioLoading (s : State) (f : Nat) : Bool :=
  s.facetState f == fcEmpty || ((s.facetState f == fcWriting || s.facetState f == fcReleasing) && (s.facetX f).rewrite.isNone && s.holding f)
/-- User I/O k of Qq is driven (R275, R686): the isolation cell of its output enable passes 1, and its facet is neither idle nor under a full load. -/
def State.uioDriven (s : State) (q k : Nat) : Bool :=
  !s.uioIdle (uioFacet q k) && !s.uioLoading (uioFacet q k) && s.uioOut q k 1
/-- The balls of word w of UIO_IN, UIO_OUT and UIO_OEN for which a property holds (R686). -/
def uioWord (w : Nat) (p : Nat → Bool) : Nat := ((List.range 32).map (fun i => if 32 * w + i < 112 && p (32 * w + i) then 2 ^ i else 0)).sum
/-- UIO (R686): the settings of the pads, what the isolation cells pass, and the levels of the balls that the design drives; an idle facet
leaves its balls undriven. -/
def State.viewUio (s : State) (q off : Nat) : View :=
  if off = 0x0C then F.UIO_INFO_quadrant.shows q
  else if 0x10 ≤ off ∧ off < 0x20 then wholeWord (uioWord (off % 16 / 4) (fun k => s.uioDriven q k && s.uioOut q k 0))
  else if 0x20 ≤ off ∧ off < 0x30 then wholeWord (uioWord (off % 16 / 4) (fun k => s.uioOut q k 0))
  else if 0x30 ≤ off ∧ off < 0x40 then wholeWord (uioWord (off % 16 / 4) (fun k => s.uioDriven q k))
  else if 0x100 ≤ off ∧ off < 0x2C0 then
    let k := (off - 0x100) / 4
    let f := uioFacet q k
    let own := F.UIO_PAD_facet.shows (f % 12)
    if s.uioIdle f then own
    else
      match (s.planeCfg f (s.facetPlane f)).pads.find? (fun p => p.1 == k) with
      | some p =>
        views [own, F.UIO_PAD_pull.shows (p.2 / 1024), F.UIO_PAD_drive.shows (p.2 / 256), F.UIO_PAD_fast.shows (p.2 / 128),
               F.UIO_PAD_schmitt.shows (p.2 / 64)]
      | none => own
  else {}

/-- EDGE e (R513). -/
def viewEdge (e off : Nat) : View :=
  if off = 0x0C then (F.EDGE_INFO_edge.shows e).and (F.EDGE_INFO_waveguides.shows (edgeWgs e))
  else if 0x20 ≤ off ∧ off < 0x60 ∧ edgeWgs e ≤ (off - 0x20) / 4 then F.EDGE_WG_working.shows 0
  else {}

/-- NI of vertex vk (R332). -/
def State.viewNi (s : State) (vk off : Nat) : View :=
  match off with
  | 0x0C => views [F.NI_INFO_x.shows (vkX vk), F.NI_INFO_y.shows (vkY vk), F.NI_INFO_v.shows (vkLocal vk)]
  | 0x18 => wholeWord (s.niRoute vk)
  | 0x2C =>
    F.NI_FLOW_STAT_active.tells (s.flag (vkBase vk) F.NI_FLOW_STAT_admitted && s.flag (vkBase vk) F.NI_FLOW_CTL_enable &&
      s.facetState (vertexFacet (vkQuad vk) (vkLocal vk)) == fcRunning)
  | _ => {}

/-- LSYS of lane die l (R410). -/
def State.viewLsys (s : State) (l off : Nat) : View :=
  match off with
  | 0x0C =>
    views [F.LSYS_INFO_first_lane.shows (72 * l), F.LSYS_INFO_side.shows l,
           F.LSYS_INFO_groups_on.shows ((List.range 9).map (fun i => if s.grpOn (9 * l + i) then 2 ^ i else 0)).sum]
  | 0x18 => F.LSYS_TEMP_temp.shows (s.sensorTemp (5 + l) 13)
  | _ => {}

/-- SE of device lane group g (R459): its first lane and the flows defined. -/
def State.viewSe (s : State) (g off : Nat) : View :=
  if off = 0x0C then
    let used (lo : Nat) : Nat := ((List.range 256).filter (fun i => !(s.flow g (lo + i)).words.isEmpty)).length
    views [F.SE_INFO_first_lane.shows (8 * g), F.SE_INFO_rx_used.shows (used 0), F.SE_INFO_tx_used.shows (used 256)]
  else if 0x400 ≤ off ∧ off < 0x500 ∧ (s.portRec (8 * g + (off - 0x400) / 0x20)).isEmpty then wholeWord 0
  else {}

/-- LANE n (R412); the equaliser of a stopped group reads as when it stopped (R52). -/
def State.viewLane (s : State) (n off : Nat) : View :=
  if off = 0x0C then views [F.LANE_INFO_lane.shows n, F.LANE_INFO_group.shows (n % 72 / 8), F.LANE_INFO_member.shows (n % 8)]
  else if off = 0x24 then { mask := 0x1F3FFFFF, value := (s.laneX n).eq &&& 0x1F3FFFFF }
  else {}

/-- PROT n (R484). -/
def State.viewProt (s : State) (n off : Nat) : View :=
  match off with
  | 0x0C => (F.PROT_INFO_lane.shows n).and (F.PROT_INFO_native.tells (s.laneNative n))
  | 0x10 =>
    views [F.PROT_LIVE_eye_paused.tells (s.eyePaused n), F.PROT_LIVE_measuring.tells (s.protOn n && (s.laneState n == lnService || s.laneState n == lnTest)),
           F.PROT_LIVE_ref_unlocked.tells ((s.laneX n).held.getD (s.tmState != tmLocked))]
  | _ => {}

/-- The fields of a block's register that do not come from the store, as master `m` reads them. -/
def State.view (s : State) (m : Master) (d b : Nat) (k : BlkKind) (off : Nat) : View :=
  match k with
  | .sys => s.viewSys off
  | .hq => if 0x40 ≤ off then wholeWord (s.hqRead off) else {}
  | .evc => s.viewEvc off
  | .cue => s.viewCue m (b - 0x010) off
  | .time => s.viewTime m off
  | .clko => s.viewClko off
  | .sec => s.viewSec off
  | .jrnl => s.viewJrnl off
  | .pwr => s.viewPwr off
  | .lamp => if off = 0x10 then F.LAMP_TEMP_temp.shows (s.sensorTemp (11 + (b - 0x060)) 12) else {}
  | .dbg => s.viewDbg off
  | .qsys => if off = 0x0C then F.QSYS_INFO_quadrant.shows (d - 1) else {}
  | .facet => s.viewFacet m (12 * (d - 1) + (b - 0x010)) off
  | .sp => s.viewSp (d - 1) off
  | .qc => s.viewQc (d - 1) off
  | .scrub => s.viewScrub (d - 1) off
  | .probe => if off = 0x0C then F.PROBE_CTL_locked.tells s.probeLocked else {}
  | .fmc => s.viewFmc (d - 1) off
  | .uio => s.viewUio (d - 1) off
  | .edge => (match edgeOf d b with | some e => viewEdge e off | none => {})
  | .ni => s.viewNi (vkOfLocal (d - 1) (b - 0x100)) off
  | .lsys => s.viewLsys (d - 5) off
  | .se => s.viewSe (9 * (d - 5) + (b - 0x040)) off
  | .lane => s.viewLane (72 * (d - 5) + (b - 0x100)) off
  | .prot => s.viewProt (72 * (d - 5) + (b - 0x180)) off
  | .dma | .mbx | .loop | .cfg | .ucie | .pcie | .floop | .seal | .refc | .mcf | .she | .psys => {}

/-! ## Words -/

/-- The value that a field has in the store; nothing is read of a command or a write-only field (R54). -/
def State.cellOf (s : State) (a : Nat) (f : Fld) : Nat :=
  match f.acc with
  | .cmd => 0
  | .wo => 0
  | .sh => 0
  | _ => SMap.get f.rst s.regs (32 * a + f.lo) * 2 ^ f.lo
/-- The word of a holding register (R64, R66): the upper half of a counter with its saturation flag, or the low half or gauge. -/
def State.heldWord (s : State) (a : Nat) (fs : List Fld) : Nat :=
  if fs.any (fun f => f.hi == 15 && f.lo == 0) && fs.all (fun f => f.lo != 16) then
    let v := s.snapped (a - 4)
    let sum := a % 0x10000 == 0xA0 || a % 0x10000 == 0x110
    v / 4294967296 % 65536 + bit (fs.any (fun f => f.lo == 31)) * bit (if sum then v == 0x7FFFFFFFFFFF || v == 0x800000000001 else v == ctrMax) * 2147483648
  else (s.snapped a ^^^ (fs.map (fun f => f.rst * 2 ^ f.lo)).sum) % 4294967296
/-- The bits of a register that nothing in the spec fixes (R412, R686): the receiver's equaliser, and the levels at balls that the device does
not drive. -/
def State.openBits (s : State) (d b : Nat) (k : BlkKind) (off : Nat) : Nat :=
  match k with
  | .lane =>
    let n := 72 * (d - 5) + (b - 0x100)
    if off = 0x24 ∧ s.adapts n then s.eqMask n else 0
  | .uio =>
    if 0x10 ≤ off ∧ off < 0x20 then uioWord (off % 16 / 4) (fun k => s.scanHolds || !s.uioDriven (d - 1) k) else 0
  | _ => 0

/-- The word of the register at offset `off` of the block at window `b` of die `d`, as master `m` reads it: the header of R45, the stored
fields, the holding registers and the views. An offset with no register reads 0 (R53). -/
def State.wordAt (s : State) (m : Master) (d b : Nat) (k : BlkKind) (off : Nat) : Nat :=
  let a := winBase d b + off
  if off = 0 then k.typeCode * 1048576 + 65536 + k.instances
  else
    let fs := k.fieldsAt off
    let held := fs.filter (fun f => f.acc == .sh)
    let stored := (fs.map (s.cellOf a)).sum + (if held.isEmpty then 0 else s.heldWord a held)
    let head := if off = 4 then bit (s.blkStopped d b) * 4 + bit (s.blkBusy d b) else 0
    let v := s.view m d b k off
    ((stored + head) &&& (0xFFFFFFFF ^^^ v.mask)) ||| v.value

/-- What a read of a register gives. A partner's own block answers itself, through its adapter (R516); while its clock is stopped it gives the
value that it gave first (R52). -/
def State.readWord (s : State) (m : Master) (d b off : Nat) : Nat × State :=
  match blkAt d b with
  | some k =>
    let o := s.openBits d b k off
    if o = 0 then (s.wordAt m d b k off, s)
    else
      let v := s.freeVal
      ((s.wordAt m d b k off &&& (0xFFFFFFFF ^^^ o)) ||| (v.1 &&& o), v.2)
  | none =>
    let a := winBase d b + off
    let kept := SMap.get 0 s.opt.ucie.held a
    if s.blkStopped d b ∧ kept ≠ 0 then (kept - 1, s)
    else
      let v := s.freeVal
      (v.1 % 4294967296,
       if s.blkStopped d b then { v.2 with opt := { v.2.opt with ucie := { v.2.opt.ucie with held := SMap.put 0 v.2.opt.ucie.held a (v.1 % 4294967296 + 1) } } }
       else v.2)

/-- A lowest word of a time value wider than 32 bits, and the value (R58): TIME_NOW, FACET_LAST and FACET_ARM_T of a facet (0 when nothing is
armed) and CUE_MTIME. -/
def State.timeAt (s : State) (d b off : Nat) : Option Nat :=
  match blkAt d b with
  | some .time => if off = 0x20 then some s.sta else none
  | some .cue => if off = 0x40 then some s.mtime else none
  | some .facet =>
    if off = 0x30 then
      let f := winBase d b
      timeOf (s.getF f F.FACET_LAST_T0_edge) (s.getF f F.FACET_LAST_T1_edge) (s.getF f F.FACET_LAST_T2_edge)
    else if off = 0x20 then
      (match s.swapOp (12 * (d - 1) + (b - 0x010)) with
       | some o => timeOf (o.w 2) (o.w 3) (o.w 4)
       | none => some 0)
    else none
  | _ => none
/-- A read of such a word replaces the master's latch (R58, R650). -/
def State.latch (s : State) (m : Master) (a v : Nat) : State :=
  { s with latches := { master := latchOwner m, addr := a, value := v } ::
      s.latches.filter (fun l => !(decide (l.master = latchOwner m) && l.addr == a)) }

end Sys2Proof.Machine
end

