-- ==== Sys2Proof/Machine/Regs.lean ====
section
/-! DEFINITION. Writing a register (R45, R49–R63): the block that holds it applies each field by its access code, or does what the register
asks; then the rows for register writes, posted writes, latched reads and fabric windows. -/
namespace Sys2Proof.Machine

/-! ## Plain fields (R54, R57) -/

/-- A field after a software write of a word to its register: RW takes its bits, a 1 clears a record, all else stays. -/
def State.cellWrite (s : State) (a v : Nat) (f : Fld) : State :=
  let key := 32 * a + f.lo
  let old := SMap.get f.rst s.regs key
  let x := bitsOf v f.hi f.lo
  match f.acc with
  | .rw => { s with regs := SMap.put f.rst s.regs key x }
  | .w1c => { s with regs := SMap.put f.rst s.regs key (old &&& (old ^^^ x)) }
  | _ => s
/-- Each field of the register at an offset by its own code (R57); an offset with no register ignores the write (R53). -/
def State.plainWrite (s : State) (d b off v : Nat) : State :=
  match blkAt d b with
  | some k => (k.fieldsAt off).foldl (fun s f => s.cellWrite (winBase d b + off) v f) s
  | none => s

/-! ## Registers that do more -/

/-- EVC (R72, R81). -/
def State.evcReg (s : State) (m : Master) (off v : Nat) : State :=
  if m = .steward ∨ m = .debugPlain then s
  else if 0x300 ≤ off ∧ off < 0x380 then s.evcMask ((off - 0x300) / 4) v
  else if 0x400 ≤ off ∧ off < 0x480 then s.evcSet ((off - 0x400) / 4) v
  else if 0x1000 ≤ off ∧ off < 0x2000 then s.evcRoute ((off - 0x1000) / 4) v
  else s.plainWrite 0 0x004 off v
/-- CUE n (R553, R559, R574). -/
def State.cueBlockReg (s : State) (m : Master) (n off v : Nat) : State :=
  if off = 0x20 then s.wdtKick m n v
  else if !cueWriter m then s
  else if off = 0x18 then s.wdtCfg m n v
  else if off = 0x28 ∨ off = 0x2C then (s.plainWrite 0 (0x010 + n) off v).settleTimer n
  else s.plainWrite 0 (0x010 + n) off v
/-- MBX (R563–R568, R575). -/
def State.mbxReg (s : State) (m : Master) (off v : Nat) : State :=
  if 0x100 ≤ off ∧ off < 0x700 then s.mbWrite m ((off - 0x100) / 32) (off % 32) v else s.plainWrite 0 0x008 off v
/-- DMA (R119, R120): start acts first, then disable, then abort; no unit of an aborted transfer has been moved. -/
def State.dmaReg (s : State) (off v : Nat) : State :=
  if 0x100 ≤ off ∧ off < 0x500 ∧ off % 64 = 0x14 then
    let c := (off - 0x100) / 64
    let s1 := s.dmaCtl c v
    let s2 := if v.testBit 31 then s1.dmaStart c else s1
    let s3 := if v.testBit 30 then s2.dmaDisable c else s2
    if v.testBit 29 then s3.dmaAbort c 0 [] [] else s3
  else s.plainWrite 0 0x002 off v
/-- PWR_STAT: therm_trip clears only when the device is cool (R615), and warn stays set while a sensor is hot (R613). -/
def State.pwrReg (s : State) (off v : Nat) : State :=
  if off = 4 then
    let s1 := s.plainWrite 0 0x058 off (v &&& (0xFFFFFFFF ^^^ (if s.flag pwrBase F.PWR_THERM_warn then 0x30 else 0x10)))
    if v.testBit 4 then s1.tripClear else s1
  else s.plainWrite 0 0x058 off v
/-- SP (R151, R163). -/
def State.spReg (s : State) (q off v : Nat) : State :=
  match portAt off with
  | some (p, 0) => s.spCtl q p v
  | _ => s.plainWrite (1 + q) 0x020 off v
/-- QC (R190, R198, R201, R202). -/
def State.qcReg (s : State) (m : Master) (q off v : Nat) : State :=
  if off = 0x40 then s.rawCtl q v
  else if 0x100 ≤ off ∧ off < 0x7900 then
    let n := (off - 0x100) / 0x40
    match (off - 0x100) % 0x40 with
    | 0x00 => s.qctl q n v
    | 0x04 => (s.plainWrite (1 + q) 0x028 off v).sawAfull (s.qcAfull q n) q n
    | 0x10 => if v.testBit 0 then s.qcFlush m q n else s
    | _ => s.plainWrite (1 + q) 0x028 off v
  else s.plainWrite (1 + q) 0x028 off v
/-- NI of local vertex v of Qq (R317, R318). -/
def State.niReg (s : State) (q v off w : Nat) : State :=
  if off = 0x28 then s.admitWrite (vkOfLocal q v) w
  else if (off = 0x20 ∨ off = 0x24) ∧ s.flag (vkBase (vkOfLocal q v)) F.NI_FLOW_STAT_admitted then s
  else s.plainWrite (1 + q) (0x100 + v) off w
/-- PSYS (R511). -/
def State.psysReg (s : State) (m : Master) (off v : Nat) : State :=
  if 0x100 ≤ off ∧ off < 0x140 then s.psysWrite m ((off - 0x100) / 8) (off % 8 == 4) v else s.plainWrite 7 0 off v

/-! ## DBG (R663) -/

/-- The debug access master's address. -/
def State.dbgaAddr (s : State) : Nat := s.getF dbgBase F.DBGA_ADDR_HI_addr * 4294967296 + s.getF dbgBase F.DBGA_ADDR_LO_addr
/-- Its write data. -/
def State.dbgaData (s : State) : Nat := s.getF dbgBase F.DBGA_DATA_HI_data * 4294967296 + s.getF dbgBase F.DBGA_DATA_LO_data
/-- Bytes of its access. -/
def State.dbgaSize (s : State) : Nat := 2 ^ s.getF dbgBase F.DBGA_CTL_size
/-- The master of its access (R650, R651). -/
def State.dbgaMaster (s : State) : Master := if s.flag dbgBase F.DBGA_CTL_effect then .debug else .debugPlain
/-- The byte enables of `n` bytes at an address, in its 64-bit word. -/
def byteEnables (a n : Nat) : BitVec 8 := BitVec.ofNat 8 ((2 ^ n - 1) * 2 ^ (a % 8))
/-- An access starts (R649). One to a fabric window is a request at the quadrant's register port (R40, R153). -/
def State.dbgaStart (s : State) : State :=
  let a := s.dbgaAddr
  let s1 := (s.setF dbgBase F.DBGA_STAT_err 0).raise dbgBase F.DBGA_STAT_busy
  let s2 : State := { s1 with dbg := { s1.dbg with goAt := s1.now } }
  if 0x4000000000 ≤ a ∧ a < 0x5000000000 then
    let q := (a - 0x4000000000) / 0x400000000
    let r : RpReq := { master := s.dbgaMaster, addr := a % 0x400000000 / 8 * 8, write := s.flag dbgBase F.DBGA_CTL_write,
                       be := byteEnables a s.dbgaSize, data := BitVec.ofNat 64 (s.dbgaData * 256 ^ (a % 8)), time := s.now }
    if s2.blkOff (1 + q) 0 then s2.emit (.bus r.master (winAddr q r.addr) (.errRing 0x0201)) else s2.windowAccess q r
  else s2
/-- An access that the write of DBGA_CTL just made asks for is refused with err_rights (R649, R650): a read or write without its right, the
effect attribute without its right, or a peek to a fabric window. -/
def State.dbgaBarred (s : State) : Bool :=
  let wr := s.flag dbgBase F.DBGA_CTL_write
  let eff := s.flag dbgBase F.DBGA_CTL_effect
  let a := s.dbgaAddr
  (if wr then !s.right 2 else !s.right 1) || (eff && !s.right 3) ||
  (!wr && !eff && decide (0x4000000000 ≤ a) && decide (a < 0x5000000000))
/-- DBGA_CTL takes a value; with go = 1 it starts an access (R649), while none is under way. An access that its rights bar, or made while the
other rails are not good (R639), ends at once. -/
def State.dbgaCtl (s : State) (w : DbgBy) (v : Nat) : State :=
  s.dbgOwned w true (fun s =>
    if s.flag dbgBase F.DBGA_STAT_busy then s
    else
      let s1 := s.plainWrite 0 0x0F0 0x30 v
      if !v.testBit 31 then s1
      else
        let s2 := s1.lower dbgBase F.DBGA_STAT_poison
        if s2.dbgaBarred then s2.setF dbgBase F.DBGA_STAT_err 7
        else if !s2.mainGood then s2.setF dbgBase F.DBGA_STAT_err 3
        else s2.dbgaStart)
/-- A register of core n's group at offset r of it. -/
def State.dbgCoreReg (s : State) (w : DbgBy) (n r v : Nat) : State :=
  if r = 0 then s.runWrite w n v []
  else if r = 4 then s.cregWrite w n v
  else s.dbgOwned w (s.right 0) (fun s => s.plainWrite 0 0x0F0 (0x100 + 0x40 * n + r) v)
/-- A write to a register of DBG that its access rule admits; the registers of the access master, run control, hold and trace take it only
from the owner, with the right each needs. -/
def State.dbgReg (s : State) (w : DbgBy) (off v : Nat) : State :=
  if off = 8 then (if v.testBit 1 then s.snapBlock 0 0x0F0 true else if v.testBit 0 then s.snapBlock 0 0x0F0 false else s)
  else if off = 0x14 then s.dbgCtl v
  else if 0x20 ≤ off ∧ off < 0x30 then s.dbgOwned w true (fun s => s.plainWrite 0 0x0F0 off v)
  else if off = 0x30 then s.dbgaCtl w v
  else if off = 0x50 then s.holdCueWrite w v
  else if off = 0x54 then s.holdFWrite w false v
  else if off = 0x58 then s.holdFWrite w true v
  else if off = 0x64 then s.groupWrite w v []
  else if 0x100 ≤ off ∧ off < 0x300 then s.dbgCoreReg w ((off - 0x100) / 0x40) (off % 0x40) v
  else if off = 0x400 then s.trcCtl w v
  else if (0x408 ≤ off ∧ off < 0x41C) ∨ (0x480 ≤ off ∧ off < 0x500) then
    s.dbgOwned w (!s.policyBars 4 5) (fun s => s.plainWrite 0 0x0F0 off v)
  else if inStim off then s.stim w ((off - 0x600) / 4) v
  else s.plainWrite 0 0x0F0 off v

/-! ## A word of a block -/

/-- The block at window `b` of die `d` applies a word that master `m` wrote at an offset. What the partner's own blocks do with a word is
theirs. -/
def State.regWrite (s : State) (m : Master) (d b off v : Nat) : State :=
  match blkAt d b with
  | none => s
  | some k =>
    if k = .dbg then s.dbgWrite (.bus m) off (fun s => s.dbgReg (.bus m) off v)
    else if off = 8 then
      (if v.testBit 1 then s.snapBlock d b true else if v.testBit 0 then s.snapBlock d b false else s)
    else match k with
      | .hq => if 0x40 ≤ off then s.hqWrite m off v else s.plainWrite d b off v
      | .evc => s.evcReg m off v
      | .cue => s.cueBlockReg m (b - 0x010) off v
      | .mbx => s.mbxReg m off v
      | .dma => s.dmaReg off v
      | .cfg => if off = 0x40 then s.push v else s.plainWrite d b off v
      | .pwr => s.pwrReg off v
      | .sp => s.spReg (d - 1) off v
      | .qc => s.qcReg m (d - 1) off v
      | .probe => if off = 0x0C then s.probeCtl (d - 1) v else s.plainWrite d b off v
      | .ni => s.niReg (d - 1) (b - 0x100) off v
      | .psys => s.psysReg m off v
      | .sys | .time | .loop | .clko | .sec | .jrnl | .lamp | .ucie | .pcie | .dbg | .qsys | .floop | .facet | .scrub | .fmc | .seal | .uio
      | .edge | .lsys | .refc | .mcf | .she | .se | .lane | .prot => s.plainWrite d b off v
/-- The words of one write, at rising offsets, in one cycle (R50). -/
def State.regWords (s : State) (m : Master) (d b : Nat) : Nat → List Word → State
  | _, [] => s
  | off, w :: ws => State.regWords (s.regWrite m d b off w.toNat) m d b (off + 4) ws
/-- A block applies one write: the vectors follow a change to EVC in the next cycle, once for the whole write (R77). -/
def State.regWrites (s : State) (m : Master) (d b off : Nat) (ws : List Word) : State :=
  let t := s.regWords m d b off ws
  if d = 0 ∧ b = 0x004 then t.settleVectors else t

/-! ## Addresses (R38) -/

/-- The address lies in register space. -/
def inRegs (a : Nat) : Bool := decide (0x7F00000000 ≤ a) && decide (a < 0x7F80000000)
/-- The address lies in the cue-shared SRAM. -/
def inSram (a : Nat) : Bool := decide (sramBase ≤ a) && decide (a < sramBase + sramSize)
/-- The address lies in a cue core's memories. -/
def inCueMem (a : Nat) : Bool := decide (0x7000800000 ≤ a) && decide (a < 0x7000900000)
/-- The address lies in the fabric windows. -/
def inWindow (a : Nat) : Bool := decide (0x4000000000 ≤ a) && decide (a < 0x5000000000)
/-- The address lies in the partner site's range, which is no range of a device without one (R38). -/
def State.inPartner (s : State) (a : Nat) : Bool := decide (0x6000000000 ≤ a) && decide (a < 0x7000000000) && s.ident.site != 0
/-- The address lies in no listed range. -/
def State.reservedAddr (s : State) (a : Nat) : Bool :=
  !(decide (a < fmSize) || inWindow a || s.inPartner a || inSram a || inCueMem a || inRegs a)

/-- A write of `n` bytes is a register write that R49 admits. -/
def regWidthOk (a n : Nat) : Bool := (n == 4 && a % 4 == 0) || (n == 8 && a % 8 == 0)
/-- The 32-bit words of bytes. -/
def wordsOf : List Byte → List Word
  | b0 :: b1 :: b2 :: b3 :: t => wd (ofBytes [b0, b1, b2, b3]) :: wordsOf t
  | _ => []

/-- Why a register access ends with a bus error, if it does: the address first, then the width of a write, then the block (R49, R51, R119). -/
def State.regCause (s : State) (m : Master) (d b off n : Nat) (write : Bool) : Option BusCause :=
  match s.denied m d b off write with
  | some .unmapped => some .unmapped
  | c =>
    if write && !regWidthOk off n then some .size
    else if (d == 0 && b == 0x002 && decide (0x100 ≤ off) && decide (off < 0x500) && dmaForeign m ((off - 0x100) / 64)) then some .mgmtOnly
    else c
/-- A register write that a rule of the access refuses, or none does (R49–R51, R59): posted to a block outside die C, which is busy until it
is applied and discards another, and applied at once otherwise. -/
def State.regTake (s : State) (m : Master) (d b off a : Nat) (bytes : List Byte) (c : Option BusCause) : State :=
  match c with
  | some c => s.busError m true a c
  | none =>
    if !isPosted d b then s.regWrites m d b off (wordsOf bytes)
    else if s.blkBusy d b then s.raise (winBase d b) F.HDR_write_dropped
    else { s with posted := s.posted ++ [{ base := winBase d b, addr := a, words := wordsOf bytes, master := m, time := s.now }] }
/-- A register write arrives (R49–R51, R59). -/
def State.regArrive (s : State) (m : Master) (a : Nat) (bytes : List Byte) : State :=
  s.regTake m (dieOf a) (winOf a) (offOf a) a bytes (s.regCause m (dieOf a) (winOf a) (offOf a) bytes.length true)

/-- A write at a device-local address (R38): registers, and the memories of the cue subsystem (R551). Frame memory and fabric windows have
rows of their own, and the partner's range is the partner's. -/
def State.busWrite (s : State) (m : Master) (a : Nat) (bytes : List Byte) : State :=
  if !s.busUp then s.busDead m true a
  else if inRegs a then s.regArrive m a bytes
  else if inSram a then (if a + bytes.length ≤ sramBase + sramSize then s.storeBy m a bytes else s.busError m true a .unmapped)
  else if inCueMem a then (if s.cueMemOpen a then s.storeBy m a bytes else s.busError m true a .domainOff)
  else if s.reservedAddr a then s.busError m true a .unmapped
  else s
/-- The size of the first memory BAR of a PCIe function: eight dies of 32 MiB (R47). -/
def barSize : Nat := 0x10000000
/-- The device-local address that an offset of the first memory BAR reaches (R47). -/
def barLocal (o : Nat) : Nat := 0x7F00000000 + o / 0x2000000 * 0x10000000 + o % 0x2000000
/-- The device-local address of an access: a PCIe function gives an offset of its BAR, or an address already mapped; no other address below
the BAR's size is theirs (R47). -/
def Master.toLocal (m : Master) (a : Nat) : Nat := if (m = .hostMgmt ∨ m = .hostData) ∧ a < barSize then barLocal a else a
/-- REGISTER_WRITE (R47, R49–R51, R54, R57, R59): master `m` writes bytes at a device-local address, or a PCIe function at an offset of its BAR. -/
def execRegisterWrite (m : Master) (a : BitVec 40) (bytes : List Byte) (s : State) : Result := .next (s.busWrite m (m.toLocal a.toNat) bytes)

/-! ## Posted writes (R59–R62) -/

/-- The pending posted write of a block. -/
def State.postedTo (s : State) (d b : Nat) : Option Posted := s.posted.find? (fun p => p.base == winBase d b)
/-- Its block is no longer busy with it. -/
def State.dropPosted (s : State) (d b : Nat) : State := { s with posted := s.posted.filter (fun p => p.base != winBase d b) }
/-- The block applies it. -/
def State.applyPosted (s : State) (d b : Nat) (p : Posted) : State := s.regWrites p.master d b (offOf p.addr) p.words
/-- It waits for the clocks of a queue controller: a flush (R202). -/
def State.postedWaits (s : State) (d b : Nat) (p : Posted) : Bool :=
  let off := offOf p.addr
  (match blkAt d b with | some .qc => true | _ => false) && decide (0x100 ≤ off) && decide (off < 0x7900) &&
  off % 0x40 == 0x10 && (p.words.headD 0).toNat % 2 == 1 && !s.qcClocks (d - 1) ((off - 0x100) / 0x40)
/-- POSTED_WRITE_APPLY (R59, R60): the block applies its pending write in its own clock, which runs. -/
def execPostedWriteApply (d : Fin 8) (b : Fin 512) (s : State) : Result :=
  .next
    (match s.postedTo d.val b.val with
     | some p => if s.blkStopped d.val b.val || s.postedWaits d.val b.val p then s else (s.dropPosted d.val b.val).applyPosted d.val b.val p
     | none => s)
/-- The bound of R62 in nanoseconds. -/
def postedBound (d : Nat) : Nat := if d ≤ 4 then 25000 else if d ≤ 6 then 30000 else 50000
/-- POSTED_WRITE_TIMEOUT (R62, R632): the bound has passed. The abandoned write may have taken effect or not. -/
def execPostedWriteTimeout (d : Fin 8) (b : Fin 512) (s : State) : Result :=
  .next
    (match s.postedTo d.val b.val with
     | some p =>
       let s1 := (s.reachNow (p.time + postedBound d.val)).dropPosted d.val b.val
       let s2 := if Config.tookEffect s1.fresh && !s1.postedWaits d.val b.val p then s1.applyPosted d.val b.val p else s1
       (({ s2 with fresh := s2.fresh + 1 } : State).raise (winBase d.val b.val) F.HDR_write_timeout).journal 0x06 false
         (targetWord d.val b.val 0) (offOf p.addr) 0 0
     | none => s)

/-! ## Reads that latch (R58) -/

/-- The offset of a block's time value that is read live: `armed` names FACET_ARM_T0–T2. -/
def timeOff (armed : Bool) : Option BlkKind → Nat
  | some .time => 0x20
  | some .cue => 0x40
  | _ => if armed then 0x20 else 0x30
/-- TIME_LATCH_READ (R58): master `m` reads the lowest word of TIME_NOW, CUE_MTIME, FACET_LAST or, with `armed`, FACET_ARM_T of the block at
window `b` of die `d`. -/
def execTimeLatchRead (m : Master) (d : Fin 8) (b : BlkTime) (s : State) : Result :=
  .next
    (let off := timeOff b.armed (blkAt d.val b.blk.val)
     let a := winBase d.val b.blk.val + off
     if !s.busUp then s.busDead m false a
     else match s.denied m d.val b.blk.val off false with
       | some c => s.busError m false a c
       | none =>
         match s.timeAt d.val b.blk.val off with
         | some v =>
           let r := s.readWord m d.val b.blk.val off
           (r.2.latch m a v).emit (.bus m a (.value r.1))
         | none => s)

/-! ## Fabric windows (R40, R153) -/

/-- FABRIC_WINDOW_ACCESS (R40, R153–R155): an access of master `m` to the 64-bit word at offset 8 × `a` of the window of Qq. The register
port lies in the quadrant's spine domain. -/
def execFabricWindowAccess (m : Master) (q : Fin 4) (a : BitVec 31) (write : Bool) (be : BitVec 8) (data : BitVec 64) (s : State) : Result :=
  .next
    (let r : RpReq := { master := m, addr := 8 * a.toNat, write := write, be := be, data := data, time := s.now }
     if s.blkOff (1 + q.val) 0 then s.busError m write (winAddr q.val r.addr) .domainOff else s.windowAccess q.val r)

end Sys2Proof.Machine
end

