-- ==== Sys2Proof/Machine/DebugAccess.lean ====
section
/-! DEFINITION. The accesses of the debug domain: the debug access master (R649–R652), and the registers that JTAG reaches (R641). -/
namespace Sys2Proof.Machine

/-! ## Statuses (R323, R663) -/

/-- DBGA_STAT.err of a ring status (R323). -/
def dbgaErr (st : Nat) : Nat :=
  if st = 0 then 0
  else if st = 0x0103 then 1
  else if st = 0x0202 ∨ st = 0x0201 ∨ st = 0x0203 ∨ st = 0x0501 then 3
  else if st = 0x0303 then 4
  else if st = 0x0400 then 5
  else 6
/-- DBGA_STAT.err of the answer to an access. -/
def respErr : BusResp → Nat
  | .errUnmapped => 1
  | .errSize => 2
  | .errDomain => 3
  | .errRing st => dbgaErr st
  | .done | .value _ | .unsupportedRequest | .completerAbort | .loadFault | .storeFault | .cmdBadTarget | .cmdBadParam | .cmdDomainOff => 0

/-- The answer that the bus gave master `m`, where `o` is one. -/
def Out.busTo (m : Master) (o : Out) : Option BusResp :=
  match o with
  | .bus m' _ r => if m' = m then some r else none
  | _ => none
/-- The answer that the bus gave master `m` at address `a`, where `o` is one. -/
def Out.busAt (m : Master) (a : Nat) (o : Out) : Option BusResp :=
  match o with
  | .bus m' a' r => if m' = m ∧ a' = a then some r else none
  | _ => none

/-- What an access gives: DBGA_STAT.err, the data read and whether it carried poison. -/
structure DbgaAns where
  err    : Nat := 0
  data   : Nat := 0
  poison : Bool := false
deriving DecidableEq, Repr

/-! ## Registers -/

/-- The value `v` of a time register read at address `a`, where it is one, is latched (R58, R650). -/
def State.latchIf (s : State) (m : Master) (a : Nat) (v : Option Nat) : State :=
  match v with
  | some v => s.latch m a v
  | none => s
/-- The bytes of `n` words of register space from an address on (R49); each read of a time value's lowest word latches (R650). -/
def State.regBytes (s : State) (m : Master) : Nat → Nat → List Byte × State
  | _, 0 => ([], s)
  | a, n + 1 =>
    let r := s.readWord m (dieOf a) (winOf a) (offOf a)
    let t := State.regBytes (r.2.latchIf m a (s.timeAt (dieOf a) (winOf a) (offOf a))) m (a + 4) n
    (bytesOf 4 r.1 ++ t.1, t.2)
/-- What an answer of the bus, where there is one, says of a write. -/
def dbgaWrote (o : Option BusResp) : DbgaAns :=
  match o with
  | some r => { err := respErr r }
  | none => {}
/-- A register write (R51). -/
def State.dbgaRegPut (s : State) (m : Master) (a n : Nat) : DbgaAns × State :=
  let s1 := s.regArrive m a (bytesOf n s.dbgaData)
  (dbgaWrote ((s1.out.take (s1.out.length - s.out.length)).findSome? (Out.busTo m)), s1)
/-- A register read (R49): the addressed bytes of the containing words. -/
def State.dbgaRegGet (s : State) (m : Master) (a n : Nat) : DbgaAns × State :=
  let r := s.regBytes m (a / 4 * 4) ((a % 4 + n + 3) / 4)
  ({ data := ofBytes ((r.1.drop (a % 4)).take n) }, r.2)
/-- A register access (R49, R51) with the cause `c` of an error, where it has one. -/
def State.dbgaRegTake (s : State) (m : Master) (a n : Nat) (wr : Bool) (c : Option BusCause) : DbgaAns × State :=
  match c with
  | some c => ({ err := respErr (busErrorOf m wr c) }, s)
  | none => if wr then s.dbgaRegPut m a n else s.dbgaRegGet m a n
/-- A register access (R49, R51). -/
def State.dbgaReg (s : State) (m : Master) (a n : Nat) (wr : Bool) : DbgaAns × State :=
  s.dbgaRegTake m a n wr (s.regCause m (dieOf a) (winOf a) (offOf a) n wr)

/-! ## Memories -/

/-- The debug master reaches a core's memories in their true state (R551, R657). -/
def State.dbgaCueOpen (s : State) (a : Nat) : Bool := s.cueMemOpen a || s.cueEmul ((a - 0x7000800000) / 0x20000)
/-- An access to the SRAM or a core's memories. -/
def State.dbgaMem (s : State) (a n : Nat) (wr : Bool) : DbgaAns × State :=
  if wr then ({}, s.store a (bytesOf n s.dbgaData)) else ({ data := ofBytes (s.load a n) }, s)
/-- The answer of frame memory to a write: none while it waits. -/
def dbgaWritten (w : Option Status × State) : Option (DbgaAns × State) :=
  match w.1 with
  | some st => some ({ err := dbgaErr st.code }, w.2)
  | none => none
/-- The answer of frame memory to a read. -/
def dbgaGot (r : MemAns × State) : DbgaAns × State :=
  ({ err := dbgaErr r.1.status.code, data := ofBytes r.1.data, poison := r.1.poison }, r.2)
/-- An access to frame memory as master class 3 (R525, R649): none while a write waits (R537). -/
def State.dbgaFm (s : State) (a n : Nat) (wr : Bool) (es : List LineErr) : Option (DbgaAns × State) :=
  if wr then dbgaWritten (s.fmWrite 3 a (bytesOf n s.dbgaData) [] es) else some (dbgaGot (s.fmRead 3 a n es))

/-- The requests of the debug access master that Qq's register port has not answered. -/
def State.dbgaAtPort (s : State) (q : Nat) : Bool :=
  (s.rpWait q ++ s.rpOut q).any (fun r => decide (r.ring = none) && (decide (r.master = .debug) || decide (r.master = .debugPlain)))
/-- What the register port answered last at an address. -/
def State.dbgaPort (s : State) (a n : Nat) : DbgaAns :=
  match s.out.findSome? (Out.busAt s.dbgaMaster (a / 8 * 8)) with
  | some (.value v) => { data := v / 256 ^ (a % 8) % 256 ^ n }
  | some r => { err := respErr r }
  | none => {}

/-! ## An access -/

/-- The access under way meets its target (R38, R649): none while it must still wait. `es` says what the pins of frame memory give, `st`, `data`
and `poison` what the partner site answers. -/
def State.dbgaDo (s : State) (es : List LineErr) (st : Status) (data : BitVec 64) (poison : Bool) : Option (DbgaAns × State) :=
  let a := s.dbgaAddr
  let n := s.dbgaSize
  let wr := s.flag dbgBase F.DBGA_CTL_write
  if !s.busUp then some ({ err := 3 }, s)
  else if inRegs a then some (s.dbgaReg s.dbgaMaster a n wr)
  else if a < fmSize then s.dbgaFm a n wr es
  else if inWindow a then (if s.dbgaAtPort ((a - 0x4000000000) / 0x400000000) then none else some (s.dbgaPort a n, s))
  else if inSram a then some (s.dbgaMem a n wr)
  else if inCueMem a then (if s.dbgaCueOpen a then some (s.dbgaMem a n wr) else some ({ err := 3 }, s))
  else if s.inPartner a then some ({ err := dbgaErr st.code, data := data.toNat % 256 ^ n, poison := poison }, s)
  else some ({ err := 1 }, s)
/-- The access ends (R649, R652, R663). -/
def State.dbgaEnd (s : State) (n : Nat) (wr : Bool) (r : DbgaAns) : State :=
  let b := dbgBase
  let s1 := ((s.lower b F.DBGA_STAT_busy).setF b F.DBGA_STAT_err r.err).setB b F.DBGA_STAT_poison r.poison
  let s2 := if wr || r.err != 0 then s1 else (s1.setF b F.DBGA_DATA_LO_data r.data).setF b F.DBGA_DATA_HI_data (r.data / 4294967296)
  if s2.flag b F.DBGA_CTL_incr then
    (s2.setF b F.DBGA_ADDR_LO_addr (s.dbgaAddr + n)).setF b F.DBGA_ADDR_HI_addr ((s.dbgaAddr + n) / 4294967296)
  else s2

/-- DBGA_GO (R649, R650, R663): DBGA_CTL is written with go = 1. -/
def execDbgaGo (w : DbgBy) (v : Word) (s : State) : Result := .next (s.dbgWrite w 0x30 (fun s => s.dbgaCtl w (v.toNat ||| 2 ^ 31)))
/-- The access under way found no response within 10 µs (R649). -/
def State.dbgaLate (s : State) : State := (s.lower dbgBase F.DBGA_STAT_busy).setF dbgBase F.DBGA_STAT_err 5
/-- DBGA_ACCESS_DONE (R649, R652): the access under way completes, within its 10 µs. -/
def execDbgaAccessDone (es : List LineErr) (st : Status) (data : BitVec 64) (poison : Bool) (s : State) : Result :=
  .next
    (if !s.flag dbgBase F.DBGA_STAT_busy then s
     else if s.dbg.goAt + 10000 < s.now then s.dbgaLate
     else match s.dbgaDo es st data poison with
       | some r => r.2.dbgaEnd s.dbgaSize (s.flag dbgBase F.DBGA_CTL_write) r.1
       | none => s)
/-- DBGA_TIMEOUT (R649): 10 µs after its start the access has no response, so time has come at least that far. -/
def execDbgaTimeout (s : State) : Result :=
  .next
    (if !s.flag dbgBase F.DBGA_STAT_busy then s
     else
       (s.reachNow (s.dbg.goAt + 10000)).dbgaLate)

/-! ## DBGREG and CMDPATH (R641) -/

/-- A scan of a 49-bit data register: the answer of the access before goes out. -/
def State.tapAccess (s : State) (i : TapInstr) : State := (s.tapLoad i).emit (.tdo 49 s.dbg.capture)
/-- What the next Capture-DR takes: read data, and bit 32 where the access completed. -/
def State.setCapture (s : State) (v : Nat) : State := { s with dbg := { s.dbg with capture := v } }
/-- The value captured after an access that completed with read data. -/
def captured (data : Nat) : Nat := 4294967296 + data % 4294967296
/-- The offset of a DBGREG or CMDPATH scan. -/
def scanOff (v : BitVec 49) : Nat := bitsOf v.toNat 47 34 * 4
/-- DBGREG (R641): a register of DBG; the access completes at once. -/
def execDbgreg (v : BitVec 49) (s : State) : Result :=
  .next
    (if !s.dbg.on then s
     else
       let s1 := s.tapAccess .dbgreg
       if v.getLsbD 48 then (s1.dbgWrite .jtag (scanOff v) (fun s => s.dbgReg .jtag (scanOff v) (bitsOf v.toNat 31 0))).setCapture (captured 0)
       else s1.setCapture (captured (s1.wordAt .debug 0 0x0F0 .dbg (scanOff v))))
/-- CMDPATH (R641): the SPI command path; nothing completes while it does not answer (R95, R639). -/
def execCmdpath (v : BitVec 49) (s : State) : Result :=
  .next
    (if !s.dbg.on then s
     else
       let s1 := s.tapAccess .cmdpath
       let o := scanOff v
       if !s1.spiAnswers then s1.setCapture 0
       else if v.getLsbD 48 then (s1.pathWrite o (bitsOf v.toNat 31 0)).setCapture (captured 0)
       else s1.setCapture (captured (s1.pathRead o)))

end Sys2Proof.Machine
end

