-- ==== Sys2Proof/Machine/Dispatch.lean ====
section
/-! DEFINITION. The meaning of each command: one arm per constructor, each one call of its meaning. -/
namespace Sys2Proof.Machine

/-- The effect of a command on everything but the queue. -/
def exec (i : Instr) (s : State) : Host.Outcome State Fault Refusal :=
  match i with
  | .registerWrite m a bytes => Sys2Proof.Machine.execRegisterWrite m a bytes s
  | .timeLatchRead m d b => Sys2Proof.Machine.execTimeLatchRead m d b s
  | .postedWriteApply d b => Sys2Proof.Machine.execPostedWriteApply d b s
  | .postedWriteTimeout d b => Sys2Proof.Machine.execPostedWriteTimeout d b s
  | .snapWrite m d b => Sys2Proof.Machine.execSnapWrite m d b s
  | .snapClear m d b => Sys2Proof.Machine.execSnapClear m d b s
  | .fabricWindowAccess m q a write be data => Sys2Proof.Machine.execFabricWindowAccess m q a write be data s
  | .evcSet m w v => Sys2Proof.Machine.execEvcSet m w v s
  | .evcMaskWrite m w v => Sys2Proof.Machine.execEvcMaskWrite m w v s
  | .evcRouteWrite m src v => Sys2Proof.Machine.execEvcRouteWrite m src v s
  | .msixMessage v => Sys2Proof.Machine.execMsixMessage v s
  | .msixUnmask data v => Sys2Proof.Machine.execMsixUnmask data v s
  | .pcieConventionalReset => Sys2Proof.Machine.execPcieConventionalReset s
  | .pcieHotReset => Sys2Proof.Machine.execPcieHotReset s
  | .functionLevelReset data => Sys2Proof.Machine.execFunctionLevelReset data s
  | .pcieLinkDown => Sys2Proof.Machine.execPcieLinkDown s
  | .doorbell m q v => Sys2Proof.Machine.execDoorbell m q v s
  | .hqRqHeadWrite m q v => Sys2Proof.Machine.execHqRqHeadWrite m q v s
  | .hqQEnable m q k => Sys2Proof.Machine.execHqQEnable m q k s
  | .hqQDisable m q k => Sys2Proof.Machine.execHqQDisable m q k s
  | .commandFetch q => Sys2Proof.Machine.execCommandFetch q s
  | .replyWrite src => Sys2Proof.Machine.execReplyWrite src s
  | .spiGo m => Sys2Proof.Machine.execSpiGo m s
  | .spiAck m => Sys2Proof.Machine.execSpiAck m s
  | .spiWriteFrame off ws => Sys2Proof.Machine.execSpiWriteFrame off ws s
  | .spiReadFrame off n => Sys2Proof.Machine.execSpiReadFrame off n s
  | .spiStatusFrame => Sys2Proof.Machine.execSpiStatusFrame s
  | .spiOtherFrame op => Sys2Proof.Machine.execSpiOtherFrame op s
  | .latticeCommandReceive peer ws => Sys2Proof.Machine.execLatticeCommandReceive peer ws s
  | .ping c => Sys2Proof.Machine.execPing c s
  | .getInfo c => Sys2Proof.Machine.execGetInfo c s
  | .getCaps c => Sys2Proof.Machine.execGetCaps c s
  | .setPower c => Sys2Proof.Machine.execSetPower c s
  | .setPowerQuery c => Sys2Proof.Machine.execSetPowerQuery c s
  | .setPowerCompletion d bad => Sys2Proof.Machine.execSetPowerCompletion d bad s
  | .domainDrainEnd d left => Sys2Proof.Machine.execDomainDrainEnd d left s
  | .reset c => Sys2Proof.Machine.execReset c s
  | .resetCompletion w => Sys2Proof.Machine.execResetCompletion w s
  | .facetResetRelease f => Sys2Proof.Machine.execFacetResetRelease f s
  | .fwStage c => Sys2Proof.Machine.execFwStage c s
  | .fwStageCompletion es => Sys2Proof.Machine.execFwStageCompletion es s
  | .fwActivate c => Sys2Proof.Machine.execFwActivate c s
  | .fwHandoverStart => Sys2Proof.Machine.execFwHandoverStart s
  | .fwActivateWaitTimeout => Sys2Proof.Machine.execFwActivateWaitTimeout s
  | .fwHandoverEnd us => Sys2Proof.Machine.execFwHandoverEnd us s
  | .fwHandoverFail => Sys2Proof.Machine.execFwHandoverFail s
  | .schedCancel c => Sys2Proof.Machine.execSchedCancel c s
  | .snap c => Sys2Proof.Machine.execSnap c s
  | .snapAct w edge => Sys2Proof.Machine.execSnapAct w edge s
  | .snapCompletion => Sys2Proof.Machine.execSnapCompletion s
  | .scheduledActionMissed src tag => Sys2Proof.Machine.execScheduledActionMissed src tag s
  | .operationTimeout src tag gaps => Sys2Proof.Machine.execOperationTimeout src tag gaps s
  | .dmaStart m c v => Sys2Proof.Machine.execDmaStart m c v s
  | .dmaDisable m c v => Sys2Proof.Machine.execDmaDisable m c v s
  | .dmaDisableDone c n es ans => Sys2Proof.Machine.execDmaDisableDone c n es ans s
  | .dmaAbort m c v n es ans => Sys2Proof.Machine.execDmaAbort m c v n es ans s
  | .dmaTransferDone c es ans => Sys2Proof.Machine.execDmaTransferDone c es ans s
  | .lanePortBeatReceive q p x taken => Sys2Proof.Machine.execLanePortBeatReceive q p x taken s
  | .lanePortBeatRequest q p given => Sys2Proof.Machine.execLanePortBeatRequest q p given s
  | .spCtlWrite m q p v => Sys2Proof.Machine.execSpCtlWrite m q p v s
  | .regportRequest q => Sys2Proof.Machine.execRegportRequest q s
  | .regportResponse q err data => Sys2Proof.Machine.execRegportResponse q err data s
  | .regportTimeout q => Sys2Proof.Machine.execRegportTimeout q s
  | .userEventLine q j level => Sys2Proof.Machine.execUserEventLine q j level s
  | .probeCtlWrite m q v => Sys2Proof.Machine.execProbeCtlWrite m q v s
  | .bayWrite q deep ix portB laneWe addr din => Sys2Proof.Machine.execBayWrite q deep ix portB laneWe addr din s
  | .bayRead q deep ix portB addr => Sys2Proof.Machine.execBayRead q deep ix portB addr s
  | .bayClear q deep ix => Sys2Proof.Machine.execBayClear q deep ix s
  | .bayMend q deep ix => Sys2Proof.Machine.execBayMend q deep ix s
  | .bayRebuild q deep ix => Sys2Proof.Machine.execBayRebuild q deep ix s
  | .bayScrubCheck q deep ix => Sys2Proof.Machine.execBayScrubCheck q deep ix s
  | .qcRawRead m q deep bay => Sys2Proof.Machine.execQcRawRead m q deep bay s
  | .qcRawWrite m q deep bay => Sys2Proof.Machine.execQcRawWrite m q deep bay s
  | .rawAccessDone q => Sys2Proof.Machine.execRawAccessDone q s
  | .rawAccessTimeout q => Sys2Proof.Machine.execRawAccessTimeout q s
  | .queueWrite q n data poison seen => Sys2Proof.Machine.execQueueWrite q n data poison seen s
  | .queueRead q n seen => Sys2Proof.Machine.execQueueRead q n seen s
  | .qcQctlWrite m q n v => Sys2Proof.Machine.execQcQctlWrite m q n v s
  | .qcQcmdFlush m q n => Sys2Proof.Machine.execQcQcmdFlush m q n s
  | .facetSwapAt c => Sys2Proof.Machine.execFacetSwapAt c s
  | .facetSwapEdge f edge => Sys2Proof.Machine.execFacetSwapEdge f edge s
  | .facetSwapTriggerTimeout f => Sys2Proof.Machine.execFacetSwapTriggerTimeout f s
  | .facetSwapNoEdge f => Sys2Proof.Machine.execFacetSwapNoEdge f s
  | .facetSwapHoldEnd f => Sys2Proof.Machine.execFacetSwapHoldEnd f s
  | .facetBayInitDone f => Sys2Proof.Machine.execFacetBayInitDone f s
  | .facetFence c => Sys2Proof.Machine.execFacetFence c s
  | .facetFenceQuery c => Sys2Proof.Machine.execFacetFenceQuery c s
  | .facetRewrite c => Sys2Proof.Machine.execFacetRewrite c s
  | .facetWriteDone f fail => Sys2Proof.Machine.execFacetWriteDone f fail s
  | .facetReleaseStage f => Sys2Proof.Machine.execFacetReleaseStage f s
  | .cfgStage c => Sys2Proof.Machine.execCfgStage c s
  | .cfgStageData h n peer err refused => Sys2Proof.Machine.execCfgStageData h n peer err refused s
  | .cfgStageTimeout h => Sys2Proof.Machine.execCfgStageTimeout h s
  | .cfgPush m v => Sys2Proof.Machine.execCfgPush m v s
  | .cfgVerify c => Sys2Proof.Machine.execCfgVerify c s
  | .cfgVerifyCompletion h => Sys2Proof.Machine.execCfgVerifyCompletion h s
  | .cfgApply c => Sys2Proof.Machine.execCfgApply c s
  | .cfgApplyWriteDone f rewritten fail => Sys2Proof.Machine.execCfgApplyWriteDone f rewritten fail s
  | .scrubCtl c => Sys2Proof.Machine.execScrubCtl c s
  | .scrubCtlQuery c => Sys2Proof.Machine.execScrubCtlQuery c s
  | .scrubFrameCheck q hits stuck => Sys2Proof.Machine.execScrubFrameCheck q hits stuck s
  | .keyLoad c => Sys2Proof.Machine.execKeyLoad c s
  | .keyLoadCompletion es => Sys2Proof.Machine.execKeyLoadCompletion es s
  | .ringFlitReceive x y dir noise => Sys2Proof.Machine.execRingFlitReceive x y dir noise s
  | .ringReplay x y dir => Sys2Proof.Machine.execRingReplay x y dir s
  | .ringPacketRoute x y out => Sys2Proof.Machine.execRingPacketRoute x y out s
  | .niPacketDeliver x y es => Sys2Proof.Machine.execNiPacketDeliver x y es s
  | .creditReturn x y => Sys2Proof.Machine.execCreditReturn x y s
  | .fencePacket x y => Sys2Proof.Machine.execFencePacket x y s
  | .fabricRequest q v op a n tag data => Sys2Proof.Machine.execFabricRequest q v op a n tag data s
  | .fabricResponse q v => Sys2Proof.Machine.execFabricResponse q v s
  | .niFlowBeat q v given => Sys2Proof.Machine.execNiFlowBeat q v given s
  | .niFlowAdmit m q v => Sys2Proof.Machine.execNiFlowAdmit m q v s
  | .niFlowWithdraw m q v => Sys2Proof.Machine.execNiFlowWithdraw m q v s
  | .routeChangeApply x y e m r0 r1 => Sys2Proof.Machine.execRouteChangeApply x y e m r0 r1 s
  | .niStarvation x y => Sys2Proof.Machine.execNiStarvation x y s
  | .ringRequestTimeout x y tag => Sys2Proof.Machine.execRingRequestTimeout x y tag s
  | .timeBeacon reached => Sys2Proof.Machine.execTimeBeacon reached s
  | .timeBeaconLoss d => Sys2Proof.Machine.execTimeBeaconLoss d s
  | .refSelect c => Sys2Proof.Machine.execRefSelect c s
  | .refSelectQuery c => Sys2Proof.Machine.execRefSelectQuery c s
  | .refEntryQualify e off => Sys2Proof.Machine.execRefEntryQualify e off s
  | .refEntryDisqualify e => Sys2Proof.Machine.execRefEntryDisqualify e s
  | .timeLock => Sys2Proof.Machine.execTimeLock s
  | .ptpMessageReceive lane domain m => Sys2Proof.Machine.execPtpMessageReceive lane domain m s
  | .ppsEdge tenMHz => Sys2Proof.Machine.execPpsEdge tenMHz s
  | .timeSet c => Sys2Proof.Machine.execTimeSet c s
  | .timeSetQuery c => Sys2Proof.Machine.execTimeSetQuery c s
  | .timeSetSeconds => Sys2Proof.Machine.execTimeSetSeconds s
  | .loopSet c => Sys2Proof.Machine.execLoopSet c s
  | .loopSetQuery c => Sys2Proof.Machine.execLoopSetQuery c s
  | .loopLock l f => Sys2Proof.Machine.execLoopLock l f s
  | .loopWindow c => Sys2Proof.Machine.execLoopWindow c s
  | .loopWindowQuery c => Sys2Proof.Machine.execLoopWindowQuery c s
  | .loopFallback c => Sys2Proof.Machine.execLoopFallback c s
  | .loopMonitorTrip n => Sys2Proof.Machine.execLoopMonitorTrip n s
  | .loopRefQualify n f => Sys2Proof.Machine.execLoopRefQualify n f s
  | .xoReady ix => Sys2Proof.Machine.execXoReady ix s
  | .xoFail ix => Sys2Proof.Machine.execXoFail ix s
  | .xoStop => Sys2Proof.Machine.execXoStop s
  | .xo0Stopped => Sys2Proof.Machine.execXo0Stopped s
  | .fabricLoopRefLost q l => Sys2Proof.Machine.execFabricLoopRefLost q l s
  | .fabricLoopRelock q l => Sys2Proof.Machine.execFabricLoopRelock q l s
  | .clkoutSet c => Sys2Proof.Machine.execClkoutSet c s
  | .clkoutSetQuery c => Sys2Proof.Machine.execClkoutSetQuery c s
  | .laneSet c => Sys2Proof.Machine.execLaneSet c s
  | .laneSetQuery c => Sys2Proof.Machine.execLaneSetQuery c s
  | .laneSetAct n edge => Sys2Proof.Machine.execLaneSetAct n edge s
  | .laneSetCompletion n locked => Sys2Proof.Machine.execLaneSetCompletion n locked s
  | .laneSignalDetect n => Sys2Proof.Machine.execLaneSignalDetect n s
  | .laneSignalLoss n => Sys2Proof.Machine.execLaneSignalLoss n s
  | .laneCdrLock n => Sys2Proof.Machine.execLaneCdrLock n s
  | .laneLockTimeout n => Sys2Proof.Machine.execLaneLockTimeout n s
  | .laneAlignAcquire n pos => Sys2Proof.Machine.execLaneAlignAcquire n pos s
  | .laneHuntTimeout n => Sys2Proof.Machine.execLaneHuntTimeout n s
  | .laneAlignLoss n => Sys2Proof.Machine.execLaneAlignLoss n s
  | .laneRecoveryTimeout n => Sys2Proof.Machine.execLaneRecoveryTimeout n s
  | .refPinLost l k => Sys2Proof.Machine.execRefPinLost l k s
  | .refPinReturn l k => Sys2Proof.Machine.execRefPinReturn l k s
  | .lanePrbs c => Sys2Proof.Machine.execLanePrbs c s
  | .lanePrbsQuery c => Sys2Proof.Machine.execLanePrbsQuery c s
  | .prbsLock n => Sys2Proof.Machine.execPrbsLock n s
  | .prbsLockLoss n => Sys2Proof.Machine.execPrbsLockLoss n s
  | .laneEye c => Sys2Proof.Machine.execLaneEye c s
  | .laneEyeCompletion n counts => Sys2Proof.Machine.execLaneEyeCompletion n counts s
  | .laneBitslip c => Sys2Proof.Machine.execLaneBitslip c s
  | .laneCal c => Sys2Proof.Machine.execLaneCal c s
  | .laneCalCompletion n pass => Sys2Proof.Machine.execLaneCalCompletion n pass s
  | .laneRetire c => Sys2Proof.Machine.execLaneRetire c s
  | .laneRetireCompletion n => Sys2Proof.Machine.execLaneRetireCompletion n s
  | .sdiRxSet c => Sys2Proof.Machine.execSdiRxSet c s
  | .sdiRxSetQuery c => Sys2Proof.Machine.execSdiRxSetQuery c s
  | .sdiRxSetAct n edge => Sys2Proof.Machine.execSdiRxSetAct n edge s
  | .sdiRxLine n l => Sys2Proof.Machine.execSdiRxLine n l s
  | .sdiRxFrame n t pid lines samples inter => Sys2Proof.Machine.execSdiRxFrame n t pid lines samples inter s
  | .sdiInputLost n skew => Sys2Proof.Machine.execSdiInputLost n skew s
  | .sdiTxSet c => Sys2Proof.Machine.execSdiTxSet c s
  | .sdiTxSetQuery c => Sys2Proof.Machine.execSdiTxSetQuery c s
  | .sdiTxSetAct n edge => Sys2Proof.Machine.execSdiTxSetAct n edge s
  | .sdiTxFirstFrame n t => Sys2Proof.Machine.execSdiTxFirstFrame n t s
  | .sdiTxLine n active room => Sys2Proof.Machine.execSdiTxLine n active room s
  | .xptAt c => Sys2Proof.Machine.execXptAt c s
  | .xptAtQuery c => Sys2Proof.Machine.execXptAtQuery c s
  | .xptAtAct n edge => Sys2Proof.Machine.execXptAtAct n edge s
  | .ipFlowAdd c => Sys2Proof.Machine.execIpFlowAdd c s
  | .ipFlowAddQuery c => Sys2Proof.Machine.execIpFlowAddQuery c s
  | .ipFlowDel c => Sys2Proof.Machine.execIpFlowDel c s
  | .mergeSet c => Sys2Proof.Machine.execMergeSet c s
  | .mergeSetQuery c => Sys2Proof.Machine.execMergeSetQuery c s
  | .streamDisable c => Sys2Proof.Machine.execStreamDisable c s
  | .streamDisableCompletion g ix sel => Sys2Proof.Machine.execStreamDisableCompletion g ix sel s
  | .streamAbort c => Sys2Proof.Machine.execStreamAbort c s
  | .ethFrameReceive n x => Sys2Proof.Machine.execEthFrameReceive n x s
  | .ethControlPacket n x => Sys2Proof.Machine.execEthControlPacket n x s
  | .ipPacketReceive g ix p => Sys2Proof.Machine.execIpPacketReceive g ix p s
  | .mergePacketRelease g ix edge => Sys2Proof.Machine.execMergePacketRelease g ix edge s
  | .ipFlowLost g ix => Sys2Proof.Machine.execIpFlowLost g ix s
  | .ethPortUp n remote => Sys2Proof.Machine.execEthPortUp n remote s
  | .ethPortDown n lf rf => Sys2Proof.Machine.execEthPortDown n lf rf s
  | .ipTxPacketDue g ix edge L off len last => Sys2Proof.Machine.execIpTxPacketDue g ix edge L off len last s
  | .protSet c => Sys2Proof.Machine.execProtSet c s
  | .protSetQuery c => Sys2Proof.Machine.execProtSetQuery c s
  | .protEyePeriod n h v tj aj => Sys2Proof.Machine.execProtEyePeriod n h v tj aj s
  | .protSecond n => Sys2Proof.Machine.execProtSecond n s
  | .ptpDelayReqExchange lane domain answer => Sys2Proof.Machine.execPtpDelayReqExchange lane domain answer s
  | .edgeFlitReceive e bad => Sys2Proof.Machine.execEdgeFlitReceive e bad s
  | .edgeSpareSwitch e => Sys2Proof.Machine.execEdgeSpareSwitch e s
  | .edgeFullTrainDone e fails => Sys2Proof.Machine.execEdgeFullTrainDone e fails s
  | .edgeFastRetrainDone e fails => Sys2Proof.Machine.execEdgeFastRetrainDone e fails s
  | .edgeWaitSplit e => Sys2Proof.Machine.execEdgeWaitSplit e s
  | .edgeRetrain c => Sys2Proof.Machine.execEdgeRetrain c s
  | .edgeRetrainCompletion e => Sys2Proof.Machine.execEdgeRetrainCompletion e s
  | .shortEdgeWordReceive x bad => Sys2Proof.Machine.execShortEdgeWordReceive x bad s
  | .lampLineMeasure j k power offset low lost => Sys2Proof.Machine.execLampLineMeasure j k power offset low lost s
  | .lampWarmDone j => Sys2Proof.Machine.execLampWarmDone j s
  | .lampWarmTimeout j => Sys2Proof.Machine.execLampWarmTimeout j s
  | .lampSwap c => Sys2Proof.Machine.execLampSwap c s
  | .lampSwapCompletion held => Sys2Proof.Machine.execLampSwapCompletion held s
  | .ucieLinkTrained rate modules tx0 tx1 => Sys2Proof.Machine.execUcieLinkTrained rate modules tx0 tx1 s
  | .ucieIdentityRecord vendor dieCode revision power => Sys2Proof.Machine.execUcieIdentityRecord vendor dieCode revision power s
  | .ucieFlitReceive l m => Sys2Proof.Machine.execUcieFlitReceive l m s
  | .uciePartnerRequest => Sys2Proof.Machine.execUciePartnerRequest s
  | .uciePartnerEvent => Sys2Proof.Machine.execUciePartnerEvent s
  | .psysWinWrite m k limit v => Sys2Proof.Machine.execPsysWinWrite m k limit v s
  | .frameMemoryRead cls a n es => Sys2Proof.Machine.execFrameMemoryRead cls a n es s
  | .frameMemoryWrite cls a bs poison posted es => Sys2Proof.Machine.execFrameMemoryWrite cls a bs poison posted es s
  | .dramRefresh k ch => Sys2Proof.Machine.execDramRefresh k ch s
  | .correctedWriteback k line => Sys2Proof.Machine.execCorrectedWriteback k line s
  | .sectorSet c => Sys2Proof.Machine.execSectorSet c s
  | .sectorSetQuery c => Sys2Proof.Machine.execSectorSetQuery c s
  | .sectorInitDone k x => Sys2Proof.Machine.execSectorInitDone k x s
  | .sectorRemoveDone k x => Sys2Proof.Machine.execSectorRemoveDone k x s
  | .sectorRights c => Sys2Proof.Machine.execSectorRights c s
  | .sectorRightsQuery c => Sys2Proof.Machine.execSectorRightsQuery c s
  | .rekeySweepStart k x => Sys2Proof.Machine.execRekeySweepStart k x s
  | .rekeySweepDone k x => Sys2Proof.Machine.execRekeySweepDone k x s
  | .rekeyNow c => Sys2Proof.Machine.execRekeyNow c s
  | .rekeyNowCompletion k x => Sys2Proof.Machine.execRekeyNowCompletion k x s
  | .cueCtl c => Sys2Proof.Machine.execCueCtl c s
  | .cueCtlQuery c => Sys2Proof.Machine.execCueCtlQuery c s
  | .cueCtlCompletion n => Sys2Proof.Machine.execCueCtlCompletion n s
  | .cueFault n cause pc => Sys2Proof.Machine.execCueFault n cause pc s
  | .cueTimerInterrupt n => Sys2Proof.Machine.execCueTimerInterrupt n s
  | .cueReservationTimeout n => Sys2Proof.Machine.execCueReservationTimeout n s
  | .cueWdtExpiry n => Sys2Proof.Machine.execCueWdtExpiry n s
  | .cueWdtKick m n v => Sys2Proof.Machine.execCueWdtKick m n v s
  | .cueWdtCfgWrite m n v => Sys2Proof.Machine.execCueWdtCfgWrite m n v s
  | .cueMsipWrite m n v => Sys2Proof.Machine.execCueMsipWrite m n v s
  | .mbCfgWrite m ix v => Sys2Proof.Machine.execMbCfgWrite m ix v s
  | .mbMsgWrite m ix v => Sys2Proof.Machine.execMbMsgWrite m ix v s
  | .mbRing m ix v => Sys2Proof.Machine.execMbRing m ix v s
  | .mbReply m ix code => Sys2Proof.Machine.execMbReply m ix code s
  | .mbStatWithdraw m ix => Sys2Proof.Machine.execMbStatWithdraw m ix s
  | .glenuFrameReceive k f => Sys2Proof.Machine.execGlenuFrameReceive k f s
  | .glenuResendTimeout k => Sys2Proof.Machine.execGlenuResendTimeout k s
  | .glenuAligned k => Sys2Proof.Machine.execGlenuAligned k s
  | .glenuHelloSend k => Sys2Proof.Machine.execGlenuHelloSend k s
  | .glenuHelloTimeout k => Sys2Proof.Machine.execGlenuHelloTimeout k s
  | .latticeRequestTimeout who => Sys2Proof.Machine.execLatticeRequestTimeout who s
  | .latticeReplyReceive ws => Sys2Proof.Machine.execLatticeReplyReceive ws s
  | .latDiscover c => Sys2Proof.Machine.execLatDiscover c s
  | .latDiscoverCompletion => Sys2Proof.Machine.execLatDiscoverCompletion s
  | .latAssign c => Sys2Proof.Machine.execLatAssign c s
  | .latAssignQuery c => Sys2Proof.Machine.execLatAssignQuery c s
  | .latRouteSet c => Sys2Proof.Machine.execLatRouteSet c s
  | .latRouteSetQuery c => Sys2Proof.Machine.execLatRouteSetQuery c s
  | .linkRecordReapply k => Sys2Proof.Machine.execLinkRecordReapply k s
  | .powerOnReset => Sys2Proof.Machine.execPowerOnReset s
  | .railLoss rail => Sys2Proof.Machine.execRailLoss rail s
  | .stewardBoot pass step => Sys2Proof.Machine.execStewardBoot pass step s
  | .deviceBringup => Sys2Proof.Machine.execDeviceBringup s
  | .partnerRelease => Sys2Proof.Machine.execPartnerRelease s
  | .temperatureSample temps => Sys2Proof.Machine.execTemperatureSample temps s
  | .thermalControlStop => Sys2Proof.Machine.execThermalControlStop s
  | .thermTripClear m => Sys2Proof.Machine.execThermTripClear m s
  | .channelRetire c => Sys2Proof.Machine.execChannelRetire c s
  | .channelRetireCompletion => Sys2Proof.Machine.execChannelRetireCompletion s
  | .channelRestore c => Sys2Proof.Machine.execChannelRestore c s
  | .channelRestoreCompletion pass good => Sys2Proof.Machine.execChannelRestoreCompletion pass good s
  | .journalRead c => Sys2Proof.Machine.execJournalRead c s
  | .journalClear c => Sys2Proof.Machine.execJournalClear c s
  | .vccDbgRise => Sys2Proof.Machine.execVccDbgRise s
  | .vccDbgLoss => Sys2Proof.Machine.execVccDbgLoss s
  | .testLogicReset => Sys2Proof.Machine.execTestLogicReset s
  | .extest pins v => Sys2Proof.Machine.execExtest pins v s
  | .idcode => Sys2Proof.Machine.execIdcode s
  | .samplePreload pins v => Sys2Proof.Machine.execSamplePreload pins v s
  | .clamp => Sys2Proof.Machine.execClamp s
  | .highz => Sys2Proof.Machine.execHighz s
  | .extestPulse pins v => Sys2Proof.Machine.execExtestPulse pins v s
  | .extestTrain pins v => Sys2Proof.Machine.execExtestTrain pins v s
  | .bypass => Sys2Proof.Machine.execBypass s
  | .dbgreg v => Sys2Proof.Machine.execDbgreg v s
  | .cmdpath v => Sys2Proof.Machine.execCmdpath v s
  | .dbgChallenge c => Sys2Proof.Machine.execDbgChallenge c s
  | .nonceExpiry => Sys2Proof.Machine.execNonceExpiry s
  | .dbgUnlock c => Sys2Proof.Machine.execDbgUnlock c s
  | .rightsExpiry => Sys2Proof.Machine.execRightsExpiry s
  | .dbgRelock w owner => Sys2Proof.Machine.execDbgRelock w owner s
  | .dbgaGo w v => Sys2Proof.Machine.execDbgaGo w v s
  | .dbgaAccessDone es st data poison => Sys2Proof.Machine.execDbgaAccessDone es st data poison s
  | .dbgaTimeout => Sys2Proof.Machine.execDbgaTimeout s
  | .dbgHalt w n v regs => Sys2Proof.Machine.execDbgHalt w n v regs s
  | .dbgResume w n v => Sys2Proof.Machine.execDbgResume w n v s
  | .dbgStep w n v regs => Sys2Proof.Machine.execDbgStep w n v regs s
  | .dbgGroupHalt w mask regs => Sys2Proof.Machine.execDbgGroupHalt w mask regs s
  | .dbgGroupResume w mask => Sys2Proof.Machine.execDbgGroupResume w mask s
  | .breakpointHit n k kind addr regs => Sys2Proof.Machine.execBreakpointHit n k kind addr regs s
  | .dbgCregGo w n v => Sys2Proof.Machine.execDbgCregGo w n v s
  | .dbgHoldCueWrite w v => Sys2Proof.Machine.execDbgHoldCueWrite w v s
  | .dbgHoldFWrite w hi v => Sys2Proof.Machine.execDbgHoldFWrite w hi v s
  | .dbgStimWrite w p v => Sys2Proof.Machine.execDbgStimWrite w p v s
  | .pcSample pcs => Sys2Proof.Machine.execPcSample pcs s
  | .tracePacketStore es ans => Sys2Proof.Machine.execTracePacketStore es ans s
  | .dbgTrcClear w v => Sys2Proof.Machine.execDbgTrcClear w v s
  | .sauClockEdge q n sm u k adv rst fresh => Sys2Proof.Machine.execSauClockEdge q n sm u k adv rst fresh s
  | .tileClockEdge f col row x => Sys2Proof.Machine.execTileClockEdge f col row x s
  | .laneWordReceive n w => Sys2Proof.Machine.execLaneWordReceive n w s
  | .porNAsserted => Sys2Proof.Machine.execPorNAsserted s
  | .vccAonLoss => Sys2Proof.Machine.execVccAonLoss s

end Sys2Proof.Machine
end

