-- ==== Sys2Proof/Machine/Tick.lean ====
section
/-! DEFINITION. One microsecond without a command (assumption log 5): the clocks run on, what signals is recorded, the lattice sends what
waits, and the PCIe link may train. Nothing here completes a command or changes a setting: every other event has a row of its own. -/
namespace Sys2Proof.Machine

/-- The length of a tick in ns: the interval of the beacons (R337). -/
def tickNs : Nat := 1000

/-- The slew of TIME_SET mode 2 goes on: the servo picks a correction on the side of the one before the slew that brings the offset nearer (R346;
assumption log 2), and what it differs by comes off the offset as time runs. Within 1 ns of its end, and with the correction as near to the one before as one change
goes (R343), the slew is over, and without an active entry the correction returns there. -/
def State.slewOn (s : State) : State :=
  if s.tim.slew = 0 then s
  else
    let s1 := s.newFreq s.tim.slew (s.tim.base + (if 0 < s.tim.slew then 1 else -1))
    if 10000000000 * nano ≤ (s1.slewLeft tickNs).natAbs ∨
        (!s.tmDriven && (decide (s1.tim.base + 1 < s1.freqLo) || decide (s1.freqHi < s1.tim.base - 1))) then s1
    else s1.endSlew
/-- The correction returns to the one before a slew, as fast as R343 lets it. -/
def State.slewBack (s : State) : State :=
  match s.tim.back with
  | none => s
  | some b =>
    let s1 := s.setFreq (max s.freqLo (min s.freqHi b))
    if s1.freqNow = b then { s1 with tim := { s1.tim with back := none } } else s1
/-- Whether the 10 MHz input runs is the world's: it does while an entry of kind 2 is present or a loop on it is qualified, the row that ends this tells
of its absence, and else it is free (R339, R349, R365; assumption log 2). -/
def State.see10 (s : State) : State :=
  if (List.range 4).any (fun e => s.refKind e == 2 && s.flag (refBase e) F.TIME_REF_present) ||
      (List.range 8).any (fun n => s.loopState n != slOff && s.loopSource n == 2 && s.flag (loopBase n) F.LOOP_STAT_ref_ok) then s
  else if (List.range 4).any (fun e => s.refKind e == 2) || (List.range 8).any (fun n => s.loopState n != slOff && s.loopSource n == 2) ||
      (List.range 4).any (fun k => s.getF (clkoBase + 8 * k) F.CLKO_SET_kind == 5) then
    let f := s.freeVal
    { f.2 with tim := { f.2.tim with in10 := f.1 % 2 == 1 } }
  else s

/-- The clocks run on for one tick (R336, R343, R344). -/
def State.passTime (s : State) : State :=
  let s1 := s.slewOn.slewBack
  s1.timeRuns tickNs (staPassed s1.now tickNs s1.freqNow)

/-- The centroid's clocks have started, so the PCIe endpoint may train (R619). -/
def State.mayTrain (s : State) : Bool :=
  match s.pwr.boot with
  | .clocks | .firmware | .dies | .ready | .failed => true
  | .inReset | .t0 | .stopped => false
/-- PCIE_LINK shows the link (R121): also after a reset of die C, through which the link stays up (R76, assumption log 92). -/
def State.showLink (s : State) : State :=
  match s.evc.link with
  | some l => ((s.raise pcieBase F.PCIE_LINK_link_up).setF pcieBase F.PCIE_LINK_gen l.1).setF pcieBase F.PCIE_LINK_width l.2
  | none => s
/-- The PCIe link may come up: whether it does, and its generation and width, are the host's (R121; assumption log 2). -/
def State.pcieTrain (s : State) : State :=
  if !s.mayTrain then s
  else if s.evc.link.isSome then s.showLink
  else
    let up := s.freeVal
    let gen := up.2.freeVal
    let width := gen.2.freeVal
    if up.1 % 2 = 0 then up.2
    else ({ width.2 with evc := { width.2.evc with link := some (1 + gen.1 % 5, 2 ^ (width.1 % 5)) } } : State).showLink

/-- The calibrations of the lane groups that come ON go on (R403). -/
def State.calRuns (s : State) : State := (s.calOn 0).calOn 1

/-- One tick: among the rest, both sides of every queue controller see how far the other came (R195). A device held in reset (R617) only sees time pass. -/
def State.tick (s : State) : State :=
  if s.pwr.boot = .inReset then s.passTime
  else (s.passTime.see10.swapOn.xosRun.loopsRun.pcieTrain.latticeRun.ringTick.qcSyncAll.calRuns.fmRun tickNs).recordLive

end Sys2Proof.Machine
end

