-- ==== Sys2Proof/Safety.lean ====
section
/-! DEFINITION. The terms in which claims speak: the canonical form of memory, the components of the state, and which components each command
may write. Every command ends in a next state, so a safe run is one whose states meet the invariants named here. -/
namespace Sys2Proof.Machine

/-- Device memory: bytes by address. -/
abbrev Memory := List Host.Cell
/-- The canonical form: addresses strictly rising, and no entry equal to what an unlisted address reads as. -/
def Memory.wf (m : Memory) : Bool := SMap.wf 0 m

/-- A component of the state. -/
inductive Comp where
  /-- Fuses and assembly (R3, R46). -/
  | ident
  /-- Every register field (R54). -/
  | regs
  /-- Live statistics counters (R64). -/
  | ctrs
  /-- Snapshot holding values (R64). -/
  | snaps
  /-- Bytes of frame memory, SRAM and core memories (R38). -/
  | mem
  /-- Host memory. -/
  | host
  /-- Configuration flash. -/
  | flash
  /-- Host addresses that fail. -/
  | hostBad
  /-- Commands waiting. -/
  | pending
  /-- What left the device. -/
  | out
  /-- Wall time. -/
  | now
  /-- Station time (R335). -/
  | sta
  /-- The counter of free values. -/
  | fresh
  /-- Posted writes under way (R59). -/
  | posted
  /-- Latched time values (R58). -/
  | latches
  /-- Command paths (R83–R115). -/
  | hq
  /-- MSI-X delivery (R74–R76). -/
  | evc
  /-- Power, reset and thermal state (R609–R623). -/
  | pwr
  /-- The fault journal (R631). -/
  | jrnl
  /-- Fabric of the quadrants (R127–R163). -/
  | fab
  /-- Bays and queue controllers (R165–R205). -/
  | bays
  /-- Sample arithmetic units (R214). -/
  | saus
  /-- Facets and frames (R217–R289). -/
  | fac
  /-- Configuration controller and keys (R254–R294). -/
  | cfg
  /-- Frame memory beside its bytes (R518–R546). -/
  | fm
  /-- Serial lanes (R374–R413). -/
  | lanes
  /-- Stream engines (R414–R461). -/
  | se
  /-- Protractors (R462–R484). -/
  | prot
  /-- The ring network (R296–R334). -/
  | ring
  /-- Edges, lamps and the partner link (R485–R517). -/
  | opt
  /-- The time master (R335–R347). -/
  | tim
  /-- Loops and oscillators (R348–R365). -/
  | clk
  /-- Lattice and Glenu links (R576–R608). -/
  | lat
  /-- Cue cores (R547–R562). -/
  | cue
  /-- Debug (R637–R663). -/
  | dbg
deriving DecidableEq, Repr

/-- Every component. -/
def Comp.all : List Comp := [.ident, .regs, .ctrs, .snaps, .mem, .host, .flash, .hostBad, .pending, .out, .now, .sta, .fresh, .posted, .latches, .hq, .evc, .pwr, .jrnl, .fab, .bays, .saus, .fac, .cfg, .fm, .lanes, .se, .prot, .ring, .opt, .tim, .clk, .lat, .cue, .dbg]

/-- A component is the same in two states. -/
def Comp.same : Comp → State → State → Prop
  | .ident, s, t => t.ident = s.ident
  | .regs, s, t => t.regs = s.regs
  | .ctrs, s, t => t.ctrs = s.ctrs
  | .snaps, s, t => t.snaps = s.snaps
  | .mem, s, t => t.mem = s.mem
  | .host, s, t => t.host = s.host
  | .flash, s, t => t.flash = s.flash
  | .hostBad, s, t => t.hostBad = s.hostBad
  | .pending, s, t => t.pending = s.pending
  | .out, s, t => t.out = s.out
  | .now, s, t => t.now = s.now
  | .sta, s, t => t.sta = s.sta
  | .fresh, s, t => t.fresh = s.fresh
  | .posted, s, t => t.posted = s.posted
  | .latches, s, t => t.latches = s.latches
  | .hq, s, t => t.hq = s.hq
  | .evc, s, t => t.evc = s.evc
  | .pwr, s, t => t.pwr = s.pwr
  | .jrnl, s, t => t.jrnl = s.jrnl
  | .fab, s, t => t.fab = s.fab
  | .bays, s, t => t.bays = s.bays
  | .saus, s, t => t.saus = s.saus
  | .fac, s, t => t.fac = s.fac
  | .cfg, s, t => t.cfg = s.cfg
  | .fm, s, t => t.fm = s.fm
  | .lanes, s, t => t.lanes = s.lanes
  | .se, s, t => t.se = s.se
  | .prot, s, t => t.prot = s.prot
  | .ring, s, t => t.ring = s.ring
  | .opt, s, t => t.opt = s.opt
  | .tim, s, t => t.tim = s.tim
  | .clk, s, t => t.clk = s.clk
  | .lat, s, t => t.lat = s.lat
  | .cue, s, t => t.cue = s.cue
  | .dbg, s, t => t.dbg = s.dbg

/-- The components that a command may write. No command writes what fuses and assembly fix, the flash, the host's bad addresses or the queue. -/
def writes : Instr → List Comp
  | .registerWrite .. => [.regs, .ctrs, .snaps, .mem, .host, .out, .now, .sta, .posted, .hq, .evc, .pwr, .jrnl, .fab, .bays, .saus, .fac, .cfg, .fm, .prot, .ring, .tim, .lat, .cue, .dbg]
  | .timeLatchRead .. => [.regs, .out, .fresh, .latches, .opt]
  | .postedWriteApply .. => [.regs, .ctrs, .snaps, .mem, .host, .out, .now, .sta, .posted, .hq, .evc, .pwr, .jrnl, .fab, .bays, .saus, .fac, .cfg, .fm, .prot, .ring, .tim, .lat, .cue, .dbg]
  | .postedWriteTimeout .. => [.regs, .ctrs, .snaps, .mem, .host, .out, .now, .sta, .fresh, .posted, .hq, .evc, .pwr, .jrnl, .fab, .bays, .saus, .fac, .cfg, .fm, .prot, .ring, .tim, .lat, .cue, .dbg]
  | .snapWrite .. => [.regs, .ctrs, .snaps, .out, .fab, .prot, .tim, .dbg]
  | .snapClear .. => [.regs, .ctrs, .snaps, .out, .fab, .prot, .tim, .dbg]
  | .fabricWindowAccess .. => [.regs, .ctrs, .out, .fab, .ring, .dbg]
  | .evcSet .. => [.regs, .ctrs, .out, .dbg]
  | .evcMaskWrite .. => [.regs, .out, .evc]
  | .evcRouteWrite .. => [.regs, .out, .evc]
  | .msixMessage .. => [.out, .evc]
  | .msixUnmask .. => [.out, .evc]
  | .pcieConventionalReset => [.regs, .ctrs, .evc, .dbg]
  | .pcieHotReset => [.regs, .ctrs, .evc, .dbg]
  | .functionLevelReset .. => [.regs, .ctrs, .evc, .dbg]
  | .pcieLinkDown => [.regs, .ctrs, .evc, .dbg]
  | .doorbell .. => [.regs, .out]
  | .hqRqHeadWrite .. => [.regs, .out]
  | .hqQEnable .. => [.regs, .out, .hq]
  | .hqQDisable .. => [.regs, .out, .hq]
  | .commandFetch .. => [.regs, .ctrs, .hq, .dbg]
  | .replyWrite .. => [.regs, .ctrs, .mem, .host, .out, .hq, .pwr, .lat, .cue, .dbg]
  | .spiGo .. => [.regs, .out, .hq]
  | .spiAck .. => [.regs, .ctrs, .mem, .host, .out, .hq, .pwr, .lat, .cue, .dbg]
  | .spiWriteFrame .. => [.regs, .ctrs, .mem, .host, .out, .hq, .pwr, .lat, .cue, .dbg]
  | .spiReadFrame .. => [.out]
  | .spiStatusFrame => [.out]
  | .spiOtherFrame .. => []
  | .latticeCommandReceive .. => [.regs, .ctrs, .hq, .ring, .dbg]
  | .ping .. => [.hq]
  | .getInfo .. => [.hq]
  | .getCaps .. => [.hq]
  | .setPower .. => [.regs, .ctrs, .hq, .pwr, .fab, .fac, .ring, .opt, .dbg]
  | .setPowerQuery .. => [.hq]
  | .setPowerCompletion .. => [.regs, .ctrs, .snaps, .mem, .out, .fresh, .posted, .latches, .hq, .pwr, .jrnl, .fab, .bays, .saus, .fac, .cfg, .fm, .lanes, .se, .prot, .ring, .opt, .lat, .cue, .dbg]
  | .domainDrainEnd .. => [.regs, .ctrs, .snaps, .out, .fresh, .posted, .latches, .hq, .pwr, .jrnl, .fab, .bays, .saus, .fac, .cfg, .fm, .ring, .opt, .dbg]
  | .reset .. => [.regs, .ctrs, .snaps, .mem, .out, .fresh, .posted, .latches, .hq, .pwr, .jrnl, .fab, .bays, .saus, .fac, .cfg, .fm, .lanes, .se, .prot, .ring, .opt, .lat, .cue, .dbg]
  | .resetCompletion .. => [.regs, .ctrs, .snaps, .mem, .out, .now, .sta, .fresh, .posted, .latches, .hq, .pwr, .jrnl, .fab, .bays, .saus, .fac, .cfg, .fm, .lanes, .se, .prot, .ring, .opt, .tim, .clk, .lat, .cue, .dbg]
  | .facetResetRelease .. => [.regs, .ctrs, .fab, .fac, .dbg]
  | .fwStage .. => [.hq]
  | .fwStageCompletion .. => [.regs, .ctrs, .fresh, .hq, .jrnl, .cfg, .fm, .dbg]
  | .fwActivate .. => [.hq]
  | .fwHandoverStart => [.regs, .ctrs, .hq, .dbg]
  | .fwActivateWaitTimeout => [.regs, .ctrs, .now, .sta, .hq, .tim, .dbg]
  | .fwHandoverEnd .. => [.regs, .ctrs, .now, .sta, .hq, .pwr, .tim, .dbg]
  | .fwHandoverFail => [.regs, .ctrs, .now, .sta, .fresh, .hq, .jrnl, .tim, .dbg]
  | .schedCancel .. => [.regs, .ctrs, .hq, .dbg]
  | .snap .. => [.regs, .hq]
  | .snapAct .. => [.regs, .ctrs, .snaps, .now, .sta, .hq, .fab, .prot, .tim, .dbg]
  | .snapCompletion => [.regs, .ctrs, .hq, .dbg]
  | .scheduledActionMissed .. => [.regs, .ctrs, .now, .sta, .hq, .jrnl, .tim, .dbg]
  | .operationTimeout .. => [.regs, .ctrs, .mem, .out, .now, .sta, .fresh, .hq, .jrnl, .fab, .bays, .saus, .fac, .cfg, .fm, .lanes, .prot, .ring, .tim, .lat, .dbg]
  | .dmaStart .. => [.regs, .ctrs, .out, .dbg]
  | .dmaDisable .. => [.regs, .out]
  | .dmaDisableDone .. => [.regs, .ctrs, .mem, .host, .out, .now, .sta, .jrnl, .fab, .fm, .tim, .cue, .dbg]
  | .dmaAbort .. => [.regs, .ctrs, .mem, .host, .out, .now, .sta, .jrnl, .fab, .fm, .tim, .cue, .dbg]
  | .dmaTransferDone .. => [.regs, .ctrs, .mem, .host, .out, .now, .sta, .jrnl, .fab, .fm, .tim, .cue, .dbg]
  | .lanePortBeatReceive .. => [.regs, .ctrs, .out, .fab, .dbg]
  | .lanePortBeatRequest .. => [.regs, .ctrs, .out, .fab, .se, .dbg]
  | .spCtlWrite .. => [.regs, .out, .fab]
  | .regportRequest .. => [.regs, .out, .fab]
  | .regportResponse .. => [.regs, .ctrs, .out, .fab, .ring, .dbg]
  | .regportTimeout .. => [.regs, .ctrs, .out, .fab, .ring, .dbg]
  | .userEventLine .. => [.regs, .ctrs, .fab, .dbg]
  | .probeCtlWrite .. => [.regs, .out]
  | .bayWrite .. => [.regs, .ctrs, .out, .bays, .dbg]
  | .bayRead .. => [.regs, .ctrs, .out, .bays, .dbg]
  | .bayClear .. => [.bays]
  | .bayMend .. => [.regs, .ctrs, .jrnl, .bays, .dbg]
  | .bayRebuild .. => [.regs, .ctrs, .jrnl, .bays, .dbg]
  | .bayScrubCheck .. => [.regs, .ctrs, .jrnl, .bays, .dbg]
  | .qcRawRead .. => [.regs, .ctrs, .out, .bays, .dbg]
  | .qcRawWrite .. => [.regs, .ctrs, .out, .bays, .dbg]
  | .rawAccessDone .. => [.regs, .ctrs, .bays, .dbg]
  | .rawAccessTimeout .. => [.regs, .ctrs, .bays, .dbg]
  | .queueWrite .. => [.regs, .ctrs, .out, .bays, .dbg]
  | .queueRead .. => [.regs, .ctrs, .out, .bays, .dbg]
  | .qcQctlWrite .. => [.regs, .out]
  | .qcQcmdFlush .. => [.regs, .out, .posted, .bays]
  | .facetSwapAt .. => [.regs, .hq]
  | .facetSwapEdge .. => [.regs, .ctrs, .out, .now, .sta, .hq, .jrnl, .fab, .bays, .saus, .fac, .cfg, .ring, .tim, .dbg]
  | .facetSwapTriggerTimeout .. => [.regs, .ctrs, .now, .sta, .hq, .jrnl, .tim, .dbg]
  | .facetSwapNoEdge .. => [.regs, .ctrs, .now, .sta, .hq, .jrnl, .tim, .dbg]
  | .facetSwapHoldEnd .. => [.regs, .ctrs, .hq, .fab, .fac, .cfg, .dbg]
  | .facetBayInitDone .. => [.regs, .ctrs, .hq, .bays, .fac, .cfg, .dbg]
  | .facetFence .. => [.regs, .hq, .fac]
  | .facetFenceQuery .. => [.hq]
  | .facetRewrite .. => [.regs, .ctrs, .out, .hq, .fab, .bays, .saus, .fac, .cfg, .ring, .dbg]
  | .facetWriteDone .. => [.regs, .ctrs, .out, .hq, .jrnl, .fab, .bays, .fac, .ring, .dbg]
  | .facetReleaseStage .. => [.regs, .ctrs, .hq, .fab, .fac, .cfg, .dbg]
  | .cfgStage .. => [.regs, .ctrs, .mem, .hq, .fac, .cfg, .fm, .dbg]
  | .cfgStageData .. => [.regs, .ctrs, .mem, .hq, .jrnl, .fac, .cfg, .fm, .cue, .dbg]
  | .cfgStageTimeout .. => [.regs, .ctrs, .mem, .hq, .fac, .cfg, .fm, .dbg]
  | .cfgPush .. => [.regs, .ctrs, .mem, .out, .hq, .fac, .cfg, .fm, .cue, .dbg]
  | .cfgVerify .. => [.regs, .hq]
  | .cfgVerifyCompletion .. => [.regs, .ctrs, .mem, .hq, .fac, .cfg, .fm, .cue, .dbg]
  | .cfgApply .. => [.regs, .ctrs, .out, .hq, .fab, .bays, .saus, .fac, .cfg, .ring, .dbg]
  | .cfgApplyWriteDone .. => [.regs, .ctrs, .out, .hq, .jrnl, .fab, .bays, .saus, .fac, .cfg, .ring, .dbg]
  | .scrubCtl .. => [.regs, .hq]
  | .scrubCtlQuery .. => [.hq]
  | .scrubFrameCheck .. => [.regs, .ctrs, .hq, .jrnl, .fab, .fac, .dbg]
  | .keyLoad .. => [.hq]
  | .keyLoadCompletion .. => [.regs, .ctrs, .hq, .jrnl, .cfg, .fm, .lat, .dbg]
  | .ringFlitReceive .. => [.regs, .ctrs, .jrnl, .ring, .dbg]
  | .ringReplay .. => [.ring]
  | .ringPacketRoute .. => [.regs, .ctrs, .ring, .dbg]
  | .niPacketDeliver .. => [.regs, .ctrs, .mem, .out, .jrnl, .fab, .fm, .ring, .opt, .cue, .dbg]
  | .creditReturn .. => [.ring]
  | .fencePacket .. => [.ring]
  | .fabricRequest .. => [.ring]
  | .fabricResponse .. => [.out, .ring]
  | .niFlowBeat .. => [.regs, .ctrs, .out, .fab, .ring, .dbg]
  | .niFlowAdmit .. => [.regs, .ctrs, .out, .ring, .dbg]
  | .niFlowWithdraw .. => [.regs, .ctrs, .out, .ring, .dbg]
  | .routeChangeApply .. => [.regs, .ctrs, .ring, .dbg]
  | .niStarvation .. => [.regs, .ctrs, .ring, .dbg]
  | .ringRequestTimeout .. => [.regs, .ctrs, .out, .ring, .opt, .dbg]
  | .timeBeacon .. => [.regs, .tim]
  | .timeBeaconLoss .. => [.regs, .ctrs, .now, .sta, .fresh, .jrnl, .tim, .dbg]
  | .refSelect .. => [.regs, .ctrs, .fresh, .hq, .tim, .dbg]
  | .refSelectQuery .. => [.hq]
  | .refEntryQualify .. => [.regs, .ctrs, .sta, .fresh, .jrnl, .tim, .clk, .dbg]
  | .refEntryDisqualify .. => [.regs, .ctrs, .fresh, .tim, .dbg]
  | .timeLock => [.regs, .ctrs, .tim, .dbg]
  | .ptpMessageReceive .. => [.regs, .ctrs, .sta, .fresh, .jrnl, .tim, .clk, .dbg]
  | .ppsEdge .. => [.regs, .ctrs, .sta, .fresh, .jrnl, .tim, .clk, .dbg]
  | .timeSet .. => [.regs, .ctrs, .sta, .hq, .jrnl, .tim, .clk, .dbg]
  | .timeSetQuery .. => [.hq]
  | .timeSetSeconds => [.regs, .ctrs, .now, .sta, .jrnl, .tim, .clk, .dbg]
  | .loopSet .. => [.regs, .ctrs, .fresh, .hq, .clk, .dbg]
  | .loopSetQuery .. => [.hq]
  | .loopLock .. => [.regs, .ctrs, .fresh, .hq, .tim, .clk, .dbg]
  | .loopWindow .. => [.regs, .ctrs, .fresh, .hq, .clk, .dbg]
  | .loopWindowQuery .. => [.hq]
  | .loopFallback .. => [.regs, .ctrs, .fresh, .hq, .clk, .dbg]
  | .loopMonitorTrip .. => [.regs, .ctrs, .fresh, .hq, .tim, .clk, .dbg]
  | .loopRefQualify .. => [.regs, .ctrs, .fresh, .tim, .clk, .dbg]
  | .xoReady .. => [.regs, .ctrs, .now, .sta, .fresh, .hq, .pwr, .opt, .tim, .clk, .dbg]
  | .xoFail .. => [.regs, .ctrs, .fresh, .hq, .jrnl, .clk, .dbg]
  | .xoStop => [.regs, .ctrs, .now, .sta, .tim, .clk, .dbg]
  | .xo0Stopped => [.regs, .ctrs, .fresh, .hq, .jrnl, .clk, .dbg]
  | .fabricLoopRefLost .. => [.regs, .ctrs, .dbg]
  | .fabricLoopRelock .. => [.regs, .clk]
  | .clkoutSet .. => [.regs, .ctrs, .hq, .clk, .dbg]
  | .clkoutSetQuery .. => [.hq]
  | .laneSet .. => [.regs, .hq]
  | .laneSetQuery .. => [.hq]
  | .laneSetAct .. => [.regs, .ctrs, .now, .sta, .fresh, .hq, .lanes, .prot, .tim, .lat, .dbg]
  | .laneSetCompletion .. => [.regs, .ctrs, .hq, .lanes, .dbg]
  | .laneSignalDetect .. => [.regs, .ctrs, .fresh, .lanes, .prot, .lat, .dbg]
  | .laneSignalLoss .. => [.regs, .ctrs, .fresh, .lanes, .prot, .lat, .dbg]
  | .laneCdrLock .. => [.regs, .ctrs, .fresh, .lanes, .prot, .lat, .dbg]
  | .laneLockTimeout .. => [.regs, .ctrs, .fresh, .lanes, .prot, .lat, .dbg]
  | .laneAlignAcquire .. => [.regs, .ctrs, .fresh, .lanes, .prot, .lat, .dbg]
  | .laneHuntTimeout .. => [.regs, .ctrs, .fresh, .lanes, .prot, .lat, .dbg]
  | .laneAlignLoss .. => [.regs, .ctrs, .fresh, .hq, .jrnl, .lanes, .prot, .lat, .dbg]
  | .laneRecoveryTimeout .. => [.regs, .ctrs, .fresh, .hq, .jrnl, .lanes, .prot, .lat, .dbg]
  | .refPinLost .. => [.regs, .ctrs, .fresh, .dbg]
  | .refPinReturn .. => [.regs, .fresh, .lanes]
  | .lanePrbs .. => [.regs, .ctrs, .out, .fresh, .hq, .lanes, .prot, .lat, .dbg]
  | .lanePrbsQuery .. => [.hq]
  | .prbsLock .. => [.regs]
  | .prbsLockLoss .. => [.regs, .ctrs, .dbg]
  | .laneEye .. => [.regs, .ctrs, .hq, .lanes, .prot, .dbg]
  | .laneEyeCompletion .. => [.regs, .ctrs, .mem, .hq, .jrnl, .fm, .lanes, .cue, .dbg]
  | .laneBitslip .. => [.regs, .ctrs, .hq, .lanes, .prot, .dbg]
  | .laneCal .. => [.regs, .ctrs, .fresh, .hq, .lanes, .prot, .lat, .dbg]
  | .laneCalCompletion .. => [.regs, .ctrs, .fresh, .hq, .jrnl, .lanes, .prot, .lat, .dbg]
  | .laneRetire .. => [.regs, .hq]
  | .laneRetireCompletion .. => [.regs, .ctrs, .fresh, .hq, .jrnl, .lanes, .prot, .lat, .dbg]
  | .sdiRxSet .. => [.regs, .hq]
  | .sdiRxSetQuery .. => [.hq]
  | .sdiRxSetAct .. => [.regs, .ctrs, .out, .now, .sta, .fresh, .hq, .fab, .se, .prot, .tim, .dbg]
  | .sdiRxLine .. => [.regs, .ctrs, .out, .fresh, .fab, .se, .prot, .dbg]
  | .sdiRxFrame .. => [.regs, .ctrs, .out, .sta, .fresh, .hq, .jrnl, .fab, .se, .prot, .tim, .clk, .dbg]
  | .sdiInputLost .. => [.regs, .ctrs, .out, .fresh, .fab, .se, .prot, .dbg]
  | .sdiTxSet .. => [.regs, .hq]
  | .sdiTxSetQuery .. => [.hq]
  | .sdiTxSetAct .. => [.regs, .ctrs, .now, .sta, .hq, .se, .tim, .dbg]
  | .sdiTxFirstFrame .. => [.regs, .ctrs, .now, .sta, .hq, .se, .tim, .dbg]
  | .sdiTxLine .. => [.regs, .ctrs, .out, .se, .dbg]
  | .xptAt .. => [.regs, .hq]
  | .xptAtQuery .. => [.hq]
  | .xptAtAct .. => [.regs, .ctrs, .now, .sta, .hq, .se, .tim, .dbg]
  | .ipFlowAdd .. => [.regs, .ctrs, .out, .fresh, .hq, .fab, .se, .prot, .dbg]
  | .ipFlowAddQuery .. => [.hq]
  | .ipFlowDel .. => [.regs, .ctrs, .out, .fresh, .hq, .fab, .se, .prot, .dbg]
  | .mergeSet .. => [.regs, .ctrs, .out, .fresh, .hq, .fab, .se, .prot, .dbg]
  | .mergeSetQuery .. => [.hq]
  | .streamDisable .. => [.regs, .ctrs, .out, .fresh, .hq, .fab, .se, .prot, .dbg]
  | .streamDisableCompletion .. => [.regs, .ctrs, .hq, .se, .prot, .dbg]
  | .streamAbort .. => [.regs, .ctrs, .out, .fresh, .hq, .fab, .se, .prot, .dbg]
  | .ethFrameReceive .. => [.regs, .ctrs, .se, .prot, .dbg]
  | .ethControlPacket .. => [.regs, .ctrs, .out, .se, .prot, .dbg]
  | .ipPacketReceive .. => [.regs, .ctrs, .out, .now, .sta, .fresh, .fab, .se, .prot, .tim, .dbg]
  | .mergePacketRelease .. => [.regs, .ctrs, .out, .now, .sta, .fresh, .fab, .se, .prot, .tim, .dbg]
  | .ipFlowLost .. => [.regs, .ctrs, .out, .fresh, .fab, .se, .prot, .dbg]
  | .ethPortUp .. => [.regs]
  | .ethPortDown .. => [.regs, .ctrs, .out, .fresh, .fab, .se, .prot, .dbg]
  | .ipTxPacketDue .. => [.regs, .ctrs, .out, .now, .sta, .fresh, .fab, .se, .tim, .dbg]
  | .protSet .. => [.regs, .hq, .prot]
  | .protSetQuery .. => [.hq]
  | .protEyePeriod .. => [.regs, .ctrs, .prot, .dbg]
  | .protSecond .. => [.regs, .ctrs, .prot, .dbg]
  | .ptpDelayReqExchange .. => [.out, .tim]
  | .edgeFlitReceive .. => [.regs, .ctrs, .jrnl, .opt, .dbg]
  | .edgeSpareSwitch .. => [.regs, .ctrs, .jrnl, .ring, .opt, .dbg]
  | .edgeFullTrainDone .. => [.regs, .ctrs, .jrnl, .ring, .opt, .dbg]
  | .edgeFastRetrainDone .. => [.regs, .ctrs, .jrnl, .ring, .opt, .dbg]
  | .edgeWaitSplit .. => [.regs, .ctrs, .ring, .dbg]
  | .edgeRetrain .. => [.regs, .ctrs, .hq, .ring, .opt, .dbg]
  | .edgeRetrainCompletion .. => [.regs, .ctrs, .hq, .dbg]
  | .shortEdgeWordReceive .. => [.regs, .ctrs, .fresh, .hq, .jrnl, .lanes, .prot, .ring, .opt, .lat, .dbg]
  | .lampLineMeasure .. => [.regs, .ctrs, .jrnl, .ring, .opt, .dbg]
  | .lampWarmDone .. => [.regs, .ctrs, .hq, .opt, .dbg]
  | .lampWarmTimeout .. => [.regs, .ctrs, .hq, .jrnl, .opt, .dbg]
  | .lampSwap .. => [.hq]
  | .lampSwapCompletion .. => [.regs, .ctrs, .hq, .opt, .dbg]
  | .ucieLinkTrained .. => [.regs, .ctrs, .out, .opt, .dbg]
  | .ucieIdentityRecord .. => [.regs, .ctrs, .posted, .hq, .pwr, .jrnl, .opt, .dbg]
  | .ucieFlitReceive .. => [.regs, .ctrs, .out, .posted, .jrnl, .ring, .opt, .dbg]
  | .uciePartnerRequest => [.regs, .ctrs, .out, .ring, .opt, .dbg]
  | .uciePartnerEvent => [.regs, .ctrs, .dbg]
  | .psysWinWrite .. => [.regs, .ctrs, .out, .dbg]
  | .frameMemoryRead .. => [.regs, .ctrs, .out, .jrnl, .fm, .dbg]
  | .frameMemoryWrite .. => [.regs, .ctrs, .mem, .out, .jrnl, .fm, .dbg]
  | .dramRefresh .. => [.fm]
  | .correctedWriteback .. => [.regs, .ctrs, .fm, .dbg]
  | .sectorSet .. => [.regs, .ctrs, .mem, .out, .hq, .jrnl, .fm, .dbg]
  | .sectorSetQuery .. => [.hq]
  | .sectorInitDone .. => [.regs, .ctrs, .dbg]
  | .sectorRemoveDone .. => [.regs, .ctrs, .fm, .dbg]
  | .sectorRights .. => [.regs, .hq]
  | .sectorRightsQuery .. => [.hq]
  | .rekeySweepStart .. => [.regs, .ctrs, .fm, .dbg]
  | .rekeySweepDone .. => [.regs, .ctrs, .mem, .out, .jrnl, .fm, .dbg]
  | .rekeyNow .. => [.regs, .ctrs, .hq, .fm, .dbg]
  | .rekeyNowCompletion .. => [.regs, .ctrs, .hq, .fm, .dbg]
  | .cueCtl .. => [.regs, .ctrs, .hq, .cue, .dbg]
  | .cueCtlQuery .. => [.hq]
  | .cueCtlCompletion .. => [.regs, .ctrs, .hq, .dbg]
  | .cueFault .. => [.regs, .ctrs, .cue, .dbg]
  | .cueTimerInterrupt .. => [.now, .sta, .tim, .cue]
  | .cueReservationTimeout .. => [.now, .sta, .tim, .cue]
  | .cueWdtExpiry .. => [.regs, .ctrs, .now, .sta, .tim, .cue, .dbg]
  | .cueWdtKick .. => [.regs, .ctrs, .out, .cue, .dbg]
  | .cueWdtCfgWrite .. => [.regs, .out, .cue]
  | .cueMsipWrite .. => [.regs, .out]
  | .mbCfgWrite .. => [.regs, .ctrs, .out, .dbg]
  | .mbMsgWrite .. => [.regs, .ctrs, .out, .dbg]
  | .mbRing .. => [.regs, .ctrs, .out, .dbg]
  | .mbReply .. => [.regs, .ctrs, .out, .dbg]
  | .mbStatWithdraw .. => [.regs, .ctrs, .out, .dbg]
  | .glenuFrameReceive .. => [.regs, .ctrs, .out, .fresh, .jrnl, .fab, .ring, .lat, .dbg]
  | .glenuResendTimeout .. => [.regs, .ctrs, .out, .now, .sta, .jrnl, .tim, .lat, .dbg]
  | .glenuAligned .. => [.regs, .ctrs, .out, .lat, .dbg]
  | .glenuHelloSend .. => [.regs, .ctrs, .out, .now, .sta, .tim, .lat, .dbg]
  | .glenuHelloTimeout .. => [.regs, .ctrs, .now, .sta, .tim, .lat, .dbg]
  | .latticeRequestTimeout .. => [.regs, .ctrs, .mem, .host, .out, .now, .sta, .hq, .jrnl, .fab, .fac, .cfg, .fm, .tim, .cue, .dbg]
  | .latticeReplyReceive .. => [.regs, .ctrs, .hq, .ring, .lat, .dbg]
  | .latDiscover .. => [.regs, .ctrs, .hq, .ring, .lat, .dbg]
  | .latDiscoverCompletion => [.regs, .ctrs, .mem, .hq, .jrnl, .fm, .lat, .cue, .dbg]
  | .latAssign .. => [.regs, .hq, .lat]
  | .latAssignQuery .. => [.hq]
  | .latRouteSet .. => [.regs, .ctrs, .hq, .lat, .dbg]
  | .latRouteSetQuery .. => [.hq]
  | .linkRecordReapply .. => [.regs, .ctrs, .lat, .dbg]
  | .powerOnReset => [.regs, .ctrs, .sta, .hq, .pwr, .jrnl, .clk, .dbg]
  | .railLoss .. => [.regs, .ctrs, .snaps, .mem, .sta, .posted, .latches, .hq, .evc, .pwr, .jrnl, .fab, .bays, .saus, .fac, .cfg, .fm, .lanes, .se, .prot, .ring, .opt, .tim, .clk, .lat, .cue]
  | .stewardBoot .. => [.regs, .ctrs, .hq, .pwr, .jrnl, .dbg]
  | .deviceBringup => [.regs, .ctrs, .mem, .fresh, .hq, .pwr, .fm, .ring, .opt, .dbg]
  | .partnerRelease => [.regs, .ctrs, .pwr, .opt, .dbg]
  | .temperatureSample .. => [.regs, .ctrs, .snaps, .mem, .out, .fresh, .posted, .latches, .hq, .pwr, .jrnl, .fab, .bays, .saus, .fac, .cfg, .fm, .lanes, .se, .prot, .ring, .opt, .lat, .cue, .dbg]
  | .thermalControlStop => [.now, .sta, .pwr, .tim]
  | .thermTripClear .. => [.regs, .out, .pwr]
  | .channelRetire .. => [.regs, .hq]
  | .channelRetireCompletion => [.regs, .ctrs, .mem, .fresh, .hq, .jrnl, .fac, .cfg, .fm, .lanes, .prot, .ring, .opt, .lat, .dbg]
  | .channelRestore .. => [.regs, .ctrs, .fresh, .hq, .lanes, .prot, .ring, .opt, .lat, .dbg]
  | .channelRestoreCompletion .. => [.regs, .ctrs, .mem, .fresh, .hq, .jrnl, .fac, .cfg, .fm, .lanes, .prot, .ring, .opt, .lat, .dbg]
  | .journalRead .. => [.hq]
  | .journalClear .. => [.hq, .jrnl]
  | .vccDbgRise => [.regs, .ctrs, .snaps, .dbg]
  | .vccDbgLoss => [.regs, .ctrs, .snaps, .mem, .out, .hq, .pwr, .fab, .bays, .saus, .fac, .cfg, .ring, .cue, .dbg]
  | .testLogicReset => [.dbg]
  | .extest .. => [.out, .dbg]
  | .idcode => [.out, .dbg]
  | .samplePreload .. => [.out, .dbg]
  | .clamp => [.out, .dbg]
  | .highz => [.out, .dbg]
  | .extestPulse .. => [.out, .dbg]
  | .extestTrain .. => [.out, .dbg]
  | .bypass => [.out, .dbg]
  | .dbgreg .. => [.regs, .ctrs, .snaps, .mem, .out, .hq, .pwr, .fab, .bays, .saus, .fac, .cfg, .prot, .ring, .tim, .cue, .dbg]
  | .cmdpath .. => [.regs, .ctrs, .mem, .host, .out, .hq, .pwr, .lat, .cue, .dbg]
  | .dbgChallenge .. => [.hq, .dbg]
  | .nonceExpiry => [.now, .sta, .tim, .dbg]
  | .dbgUnlock .. => [.regs, .ctrs, .mem, .out, .hq, .pwr, .fab, .bays, .saus, .fac, .cfg, .ring, .cue, .dbg]
  | .rightsExpiry => [.regs, .ctrs, .mem, .out, .now, .sta, .hq, .pwr, .fab, .bays, .saus, .fac, .cfg, .ring, .tim, .cue, .dbg]
  | .dbgRelock .. => [.regs, .ctrs, .mem, .out, .hq, .pwr, .fab, .bays, .saus, .fac, .cfg, .ring, .cue, .dbg]
  | .dbgaGo .. => [.regs, .ctrs, .out, .fab, .ring, .dbg]
  | .dbgaAccessDone .. => [.regs, .ctrs, .snaps, .mem, .host, .out, .now, .sta, .fresh, .posted, .latches, .hq, .evc, .pwr, .jrnl, .fab, .bays, .saus, .fac, .cfg, .fm, .prot, .ring, .opt, .tim, .lat, .cue, .dbg]
  | .dbgaTimeout => [.regs, .now, .sta, .tim]
  | .dbgHalt .. => [.regs, .ctrs, .out, .cue, .dbg]
  | .dbgResume .. => [.regs, .ctrs, .out, .cue, .dbg]
  | .dbgStep .. => [.regs, .ctrs, .out, .cue, .dbg]
  | .dbgGroupHalt .. => [.regs, .ctrs, .out, .cue, .dbg]
  | .dbgGroupResume .. => [.regs, .ctrs, .out, .cue, .dbg]
  | .breakpointHit .. => [.regs, .ctrs, .cue, .dbg]
  | .dbgCregGo .. => [.regs, .out, .cue]
  | .dbgHoldCueWrite .. => [.regs, .ctrs, .mem, .out, .pwr, .cue, .dbg]
  | .dbgHoldFWrite .. => [.regs, .ctrs, .out, .hq, .pwr, .fab, .bays, .saus, .fac, .cfg, .ring, .dbg]
  | .dbgStimWrite .. => [.regs, .ctrs, .out, .dbg]
  | .pcSample .. => [.regs, .ctrs, .dbg]
  | .tracePacketStore .. => [.regs, .ctrs, .mem, .out, .now, .sta, .jrnl, .fab, .fm, .tim, .cue, .dbg]
  | .dbgTrcClear .. => [.regs, .out, .dbg]
  | .sauClockEdge .. => [.saus]
  | .tileClockEdge .. => [.fab]
  | .laneWordReceive .. => [.regs, .ctrs, .out, .lanes, .prot, .dbg]
  | .porNAsserted => [.regs, .ctrs, .snaps, .mem, .sta, .posted, .latches, .hq, .evc, .pwr, .jrnl, .fab, .bays, .saus, .fac, .cfg, .fm, .lanes, .se, .prot, .ring, .opt, .tim, .clk, .lat, .cue]
  | .vccAonLoss => [.regs, .ctrs, .snaps, .mem, .sta, .posted, .latches, .hq, .evc, .pwr, .jrnl, .fab, .bays, .saus, .fac, .cfg, .fm, .lanes, .se, .prot, .ring, .opt, .tim, .clk, .lat, .cue]

/-- The steward takes a command (R84–R86, R98, R102, R104, R107, R598, R623): it handles commands and this one is next of its set, the opcode may be used on the path, the sender may use
it, the die it names is not under reset, the path has room
and no pending operation with the tag, and no posted write of another master outlasts the steward's retries (R107). -/
abbrev Takes (s : State) (op : Nat) (c : Cmd) : Prop :=
  s.handles op c = true ∧ s.opcodeOpen c.src op = true ∧ barred c.src op = false ∧ s.rootBars c.src = false ∧
  (decide (c.die < 8) && s.pwr.inReset.getLsbD c.die) = false ∧ s.crowded c op = false ∧ s.retriesFail op c = false

/-- A write of master `m` to offset `off` of window `b` of die `d` reaches its register (R51, R59): the bus runs, nothing denies it, and the
block is not busy. -/
abbrev Reaches (s : State) (m : Master) (d b off : Nat) : Prop :=
  s.busUp = true ∧ s.denied m d b off true = none ∧ s.blkBusy d b = false

/-- A write of a debug register at `off` reaches it (R639, R643): from the JTAG port while VCC_DBG is good, or on the control bus from the
management function, or from a cue core to the stimulus ports. -/
def dbgReaches (s : State) (w : DbgBy) (off : Nat) : Bool :=
  match w with
  | .jtag => s.dbg.on
  | .bus m =>
    s.busUp && (s.denied m 0 0x0F0 off true).isNone &&
    (match m with
     | .hostMgmt => true
     | .cue _ => inStim off
     | _ => false)

/-- A write of a register of cue core n reaches it, from a master that may write the block (R553). -/
abbrev CueReaches (s : State) (m : Master) (n off : Nat) : Prop := Reaches s m 0 (0x010 + n) off ∧ cueWriter m = true

/-- The reply of a path to a packet is among those ready: the first one, or the completion. -/
abbrev Replied (s : State) (op : Nat) (c : Cmd) (st : Status) (completion : Bool) : Prop :=
  ∃ r ∈ s.hq.ready, r.src = c.src ∧ r.tag = c.tag ∧ r.opcode = op ∧ r.status = st ∧ r.completion = completion

/-- The opcode and the packet of a command packet (R109); none for any other command. -/
def packetOf : Instr → Option (Nat × Cmd)
  | .registerWrite .. => none
  | .timeLatchRead .. => none
  | .postedWriteApply .. => none
  | .postedWriteTimeout .. => none
  | .snapWrite .. => none
  | .snapClear .. => none
  | .fabricWindowAccess .. => none
  | .evcSet .. => none
  | .evcMaskWrite .. => none
  | .evcRouteWrite .. => none
  | .msixMessage .. => none
  | .msixUnmask .. => none
  | .pcieConventionalReset => none
  | .pcieHotReset => none
  | .functionLevelReset .. => none
  | .pcieLinkDown => none
  | .doorbell .. => none
  | .hqRqHeadWrite .. => none
  | .hqQEnable .. => none
  | .hqQDisable .. => none
  | .commandFetch .. => none
  | .replyWrite .. => none
  | .spiGo .. => none
  | .spiAck .. => none
  | .spiWriteFrame .. => none
  | .spiReadFrame .. => none
  | .spiStatusFrame => none
  | .spiOtherFrame .. => none
  | .latticeCommandReceive .. => none
  | .ping c => some (0x0100, c)
  | .getInfo c => some (0x0101, c)
  | .getCaps c => some (0x0102, c)
  | .setPower c => some (0x0103, c)
  | .setPowerQuery c => some (0x0183, c)
  | .setPowerCompletion .. => none
  | .domainDrainEnd .. => none
  | .reset c => some (0x0104, c)
  | .resetCompletion .. => none
  | .facetResetRelease .. => none
  | .fwStage c => some (0x0105, c)
  | .fwStageCompletion .. => none
  | .fwActivate c => some (0x0106, c)
  | .fwHandoverStart => none
  | .fwActivateWaitTimeout => none
  | .fwHandoverEnd .. => none
  | .fwHandoverFail => none
  | .schedCancel c => some (0x0107, c)
  | .snap c => some (0x0601, c)
  | .snapAct .. => none
  | .snapCompletion => none
  | .scheduledActionMissed .. => none
  | .operationTimeout .. => none
  | .dmaStart .. => none
  | .dmaDisable .. => none
  | .dmaDisableDone .. => none
  | .dmaAbort .. => none
  | .dmaTransferDone .. => none
  | .lanePortBeatReceive .. => none
  | .lanePortBeatRequest .. => none
  | .spCtlWrite .. => none
  | .regportRequest .. => none
  | .regportResponse .. => none
  | .regportTimeout .. => none
  | .userEventLine .. => none
  | .probeCtlWrite .. => none
  | .bayWrite .. => none
  | .bayRead .. => none
  | .bayClear .. => none
  | .bayMend .. => none
  | .bayRebuild .. => none
  | .bayScrubCheck .. => none
  | .qcRawRead .. => none
  | .qcRawWrite .. => none
  | .rawAccessDone .. => none
  | .rawAccessTimeout .. => none
  | .queueWrite .. => none
  | .queueRead .. => none
  | .qcQctlWrite .. => none
  | .qcQcmdFlush .. => none
  | .facetSwapAt c => some (0x0203, c)
  | .facetSwapEdge .. => none
  | .facetSwapTriggerTimeout .. => none
  | .facetSwapNoEdge .. => none
  | .facetSwapHoldEnd .. => none
  | .facetBayInitDone .. => none
  | .facetFence c => some (0x0204, c)
  | .facetFenceQuery c => some (0x0284, c)
  | .facetRewrite c => some (0x0205, c)
  | .facetWriteDone .. => none
  | .facetReleaseStage .. => none
  | .cfgStage c => some (0x0200, c)
  | .cfgStageData .. => none
  | .cfgStageTimeout .. => none
  | .cfgPush .. => none
  | .cfgVerify c => some (0x0201, c)
  | .cfgVerifyCompletion .. => none
  | .cfgApply c => some (0x0202, c)
  | .cfgApplyWriteDone .. => none
  | .scrubCtl c => some (0x0206, c)
  | .scrubCtlQuery c => some (0x0286, c)
  | .scrubFrameCheck .. => none
  | .keyLoad c => some (0x0902, c)
  | .keyLoadCompletion .. => none
  | .ringFlitReceive .. => none
  | .ringReplay .. => none
  | .ringPacketRoute .. => none
  | .niPacketDeliver .. => none
  | .creditReturn .. => none
  | .fencePacket .. => none
  | .fabricRequest .. => none
  | .fabricResponse .. => none
  | .niFlowBeat .. => none
  | .niFlowAdmit .. => none
  | .niFlowWithdraw .. => none
  | .routeChangeApply .. => none
  | .niStarvation .. => none
  | .ringRequestTimeout .. => none
  | .timeBeacon .. => none
  | .timeBeaconLoss .. => none
  | .refSelect c => some (0x0301, c)
  | .refSelectQuery c => some (0x0381, c)
  | .refEntryQualify .. => none
  | .refEntryDisqualify .. => none
  | .timeLock => none
  | .ptpMessageReceive .. => none
  | .ppsEdge .. => none
  | .timeSet c => some (0x0300, c)
  | .timeSetQuery c => some (0x0380, c)
  | .timeSetSeconds => none
  | .loopSet c => some (0x0302, c)
  | .loopSetQuery c => some (0x0382, c)
  | .loopLock .. => none
  | .loopWindow c => some (0x0303, c)
  | .loopWindowQuery c => some (0x0383, c)
  | .loopFallback c => some (0x0305, c)
  | .loopMonitorTrip .. => none
  | .loopRefQualify .. => none
  | .xoReady .. => none
  | .xoFail .. => none
  | .xoStop => none
  | .xo0Stopped => none
  | .fabricLoopRefLost .. => none
  | .fabricLoopRelock .. => none
  | .clkoutSet c => some (0x0304, c)
  | .clkoutSetQuery c => some (0x0384, c)
  | .laneSet c => some (0x0400, c)
  | .laneSetQuery c => some (0x0480, c)
  | .laneSetAct .. => none
  | .laneSetCompletion .. => none
  | .laneSignalDetect .. => none
  | .laneSignalLoss .. => none
  | .laneCdrLock .. => none
  | .laneLockTimeout .. => none
  | .laneAlignAcquire .. => none
  | .laneHuntTimeout .. => none
  | .laneAlignLoss .. => none
  | .laneRecoveryTimeout .. => none
  | .refPinLost .. => none
  | .refPinReturn .. => none
  | .lanePrbs c => some (0x0401, c)
  | .lanePrbsQuery c => some (0x0481, c)
  | .prbsLock .. => none
  | .prbsLockLoss .. => none
  | .laneEye c => some (0x0402, c)
  | .laneEyeCompletion .. => none
  | .laneBitslip c => some (0x0405, c)
  | .laneCal c => some (0x0404, c)
  | .laneCalCompletion .. => none
  | .laneRetire c => some (0x0403, c)
  | .laneRetireCompletion .. => none
  | .sdiRxSet c => some (0x0500, c)
  | .sdiRxSetQuery c => some (0x0580, c)
  | .sdiRxSetAct .. => none
  | .sdiRxLine .. => none
  | .sdiRxFrame .. => none
  | .sdiInputLost .. => none
  | .sdiTxSet c => some (0x0501, c)
  | .sdiTxSetQuery c => some (0x0581, c)
  | .sdiTxSetAct .. => none
  | .sdiTxFirstFrame .. => none
  | .sdiTxLine .. => none
  | .xptAt c => some (0x0505, c)
  | .xptAtQuery c => some (0x0585, c)
  | .xptAtAct .. => none
  | .ipFlowAdd c => some (0x0502, c)
  | .ipFlowAddQuery c => some (0x0582, c)
  | .ipFlowDel c => some (0x0503, c)
  | .mergeSet c => some (0x0504, c)
  | .mergeSetQuery c => some (0x0584, c)
  | .streamDisable c => some (0x0506, c)
  | .streamDisableCompletion .. => none
  | .streamAbort c => some (0x0507, c)
  | .ethFrameReceive .. => none
  | .ethControlPacket .. => none
  | .ipPacketReceive .. => none
  | .mergePacketRelease .. => none
  | .ipFlowLost .. => none
  | .ethPortUp .. => none
  | .ethPortDown .. => none
  | .ipTxPacketDue .. => none
  | .protSet c => some (0x0600, c)
  | .protSetQuery c => some (0x0680, c)
  | .protEyePeriod .. => none
  | .protSecond .. => none
  | .ptpDelayReqExchange .. => none
  | .edgeFlitReceive .. => none
  | .edgeSpareSwitch .. => none
  | .edgeFullTrainDone .. => none
  | .edgeFastRetrainDone .. => none
  | .edgeWaitSplit .. => none
  | .edgeRetrain c => some (0x0A04, c)
  | .edgeRetrainCompletion .. => none
  | .shortEdgeWordReceive .. => none
  | .lampLineMeasure .. => none
  | .lampWarmDone .. => none
  | .lampWarmTimeout .. => none
  | .lampSwap c => some (0x0A05, c)
  | .lampSwapCompletion .. => none
  | .ucieLinkTrained .. => none
  | .ucieIdentityRecord .. => none
  | .ucieFlitReceive .. => none
  | .uciePartnerRequest => none
  | .uciePartnerEvent => none
  | .psysWinWrite .. => none
  | .frameMemoryRead .. => none
  | .frameMemoryWrite .. => none
  | .dramRefresh .. => none
  | .correctedWriteback .. => none
  | .sectorSet c => some (0x0700, c)
  | .sectorSetQuery c => some (0x0780, c)
  | .sectorInitDone .. => none
  | .sectorRemoveDone .. => none
  | .sectorRights c => some (0x0701, c)
  | .sectorRightsQuery c => some (0x0781, c)
  | .rekeySweepStart .. => none
  | .rekeySweepDone .. => none
  | .rekeyNow c => some (0x0702, c)
  | .rekeyNowCompletion .. => none
  | .cueCtl c => some (0x0108, c)
  | .cueCtlQuery c => some (0x0188, c)
  | .cueCtlCompletion .. => none
  | .cueFault .. => none
  | .cueTimerInterrupt .. => none
  | .cueReservationTimeout .. => none
  | .cueWdtExpiry .. => none
  | .cueWdtKick .. => none
  | .cueWdtCfgWrite .. => none
  | .cueMsipWrite .. => none
  | .mbCfgWrite .. => none
  | .mbMsgWrite .. => none
  | .mbRing .. => none
  | .mbReply .. => none
  | .mbStatWithdraw .. => none
  | .glenuFrameReceive .. => none
  | .glenuResendTimeout .. => none
  | .glenuAligned .. => none
  | .glenuHelloSend .. => none
  | .glenuHelloTimeout .. => none
  | .latticeRequestTimeout .. => none
  | .latticeReplyReceive .. => none
  | .latDiscover c => some (0x0800, c)
  | .latDiscoverCompletion => none
  | .latAssign c => some (0x0801, c)
  | .latAssignQuery c => some (0x0881, c)
  | .latRouteSet c => some (0x0802, c)
  | .latRouteSetQuery c => some (0x0882, c)
  | .linkRecordReapply .. => none
  | .powerOnReset => none
  | .railLoss .. => none
  | .stewardBoot .. => none
  | .deviceBringup => none
  | .partnerRelease => none
  | .temperatureSample .. => none
  | .thermalControlStop => none
  | .thermTripClear .. => none
  | .channelRetire c => some (0x0A02, c)
  | .channelRetireCompletion => none
  | .channelRestore c => some (0x0A03, c)
  | .channelRestoreCompletion .. => none
  | .journalRead c => some (0x0A00, c)
  | .journalClear c => some (0x0A01, c)
  | .vccDbgRise => none
  | .vccDbgLoss => none
  | .testLogicReset => none
  | .extest .. => none
  | .idcode => none
  | .samplePreload .. => none
  | .clamp => none
  | .highz => none
  | .extestPulse .. => none
  | .extestTrain .. => none
  | .bypass => none
  | .dbgreg .. => none
  | .cmdpath .. => none
  | .dbgChallenge c => some (0x0900, c)
  | .nonceExpiry => none
  | .dbgUnlock c => some (0x0901, c)
  | .rightsExpiry => none
  | .dbgRelock .. => none
  | .dbgaGo .. => none
  | .dbgaAccessDone .. => none
  | .dbgaTimeout => none
  | .dbgHalt .. => none
  | .dbgResume .. => none
  | .dbgStep .. => none
  | .dbgGroupHalt .. => none
  | .dbgGroupResume .. => none
  | .breakpointHit .. => none
  | .dbgCregGo .. => none
  | .dbgHoldCueWrite .. => none
  | .dbgHoldFWrite .. => none
  | .dbgStimWrite .. => none
  | .pcSample .. => none
  | .tracePacketStore .. => none
  | .dbgTrcClear .. => none
  | .sauClockEdge .. => none
  | .tileClockEdge .. => none
  | .laneWordReceive .. => none
  | .porNAsserted => none
  | .vccAonLoss => none
end Sys2Proof.Machine
end

