-- ==== Sys2Proof/Certificates/Slice0/Obligations.lean ====
section
/-! DEFINITION. The statements for the provers. A completion statement names the next state by the operations that the rules describe; what
those operations do to a field, a record or a queue is stated by the statements on operations. -/
open Sys2Proof Sys2Proof.Machine

/-- With a command at the front of the queue, a step is that command on the state with the queue's rest. -/
def Obligations.StepRunsFront : Prop :=
  (∀ (c : Instr) (rest : List Instr) (s : State), step { s with pending := c :: rest } = exec c { s with pending := rest })

/-- A write that nothing denies is applied at once on die C, joins the posted writes of an idle block elsewhere, and is discarded by a busy one; a denied write answers with its bus error; a posted write is applied by its block, or abandoned at its bound with a record and a journal entry; a read of a time value latches it. -/
def Obligations.RegisterAccess : Prop :=
  (∀ (m : Master) (a : BitVec 40) (bytes : List Byte) (s : State),
    let x := m.toLocal a.toNat;
    s.busUp = true →
    inRegs x = true →
    s.regCause m (dieOf x) (winOf x) (offOf x) bytes.length true = none →
    isPosted (dieOf x) (winOf x) = false →
    exec (.registerWrite m a bytes) s = .next (s.regWrites m (dieOf x) (winOf x) (offOf x) (wordsOf bytes))) ∧
  (∀ (m : Master) (a : BitVec 40) (bytes : List Byte) (s : State),
    let x := m.toLocal a.toNat;
    s.busUp = true →
    inRegs x = true →
    s.regCause m (dieOf x) (winOf x) (offOf x) bytes.length true = none →
    isPosted (dieOf x) (winOf x) = true →
    s.blkBusy (dieOf x) (winOf x) = false →
    exec (.registerWrite m a bytes) s = .next ({ s with posted := s.posted ++ [{ base := winBase (dieOf x) (winOf x), addr := x, words := wordsOf bytes, master := m, time := s.now }] })) ∧
  (∀ (m : Master) (a : BitVec 40) (bytes : List Byte) (s : State),
    let x := m.toLocal a.toNat;
    s.busUp = true →
    inRegs x = true →
    s.regCause m (dieOf x) (winOf x) (offOf x) bytes.length true = none →
    isPosted (dieOf x) (winOf x) = true →
    s.blkBusy (dieOf x) (winOf x) = true →
    exec (.registerWrite m a bytes) s = .next (s.raise (winBase (dieOf x) (winOf x)) F.HDR_write_dropped)) ∧
  (∀ (m : Master) (a : BitVec 40) (bytes : List Byte) (c : BusCause) (s : State),
    let x := m.toLocal a.toNat;
    s.busUp = true →
    inRegs x = true →
    s.regCause m (dieOf x) (winOf x) (offOf x) bytes.length true = some c →
    exec (.registerWrite m a bytes) s = .next (s.busError m true x c)) ∧
  (∀ (d : Fin 8) (b : Fin 512) (p : Posted) (s : State),
    s.postedTo d.val b.val = some p →
    s.blkStopped d.val b.val = false →
    s.postedWaits d.val b.val p = false →
    exec (.postedWriteApply d b) s = .next (({ s with posted := s.posted.filter (fun x => x.base != winBase d.val b.val) } : State).regWrites p.master d.val b.val (offOf p.addr) p.words)) ∧
  (∀ (d : Fin 8) (b : Fin 512) (p : Posted) (s : State),
    let s1 := (s.reachNow (p.time + postedBound d.val)).dropPosted d.val b.val;
    let s2 := if Config.tookEffect s1.fresh && !s1.postedWaits d.val b.val p then s1.applyPosted d.val b.val p else s1;
    s.postedTo d.val b.val = some p →
    exec (.postedWriteTimeout d b) s = .next ((({ s2 with fresh := s2.fresh + 1 } : State).raise (winBase d.val b.val) F.HDR_write_timeout).journal 0x06 false (targetWord d.val b.val 0) (offOf p.addr) 0 0)) ∧
  (∀ (m : Master) (d : Fin 8) (b : BlkTime) (v : Nat) (s : State),
    let off := timeOff b.armed (blkAt d.val b.blk.val);
    let a := winBase d.val b.blk.val + off;
    let r := s.readWord m d.val b.blk.val off;
    s.busUp = true →
    s.denied m d.val b.blk.val off false = none →
    s.timeAt d.val b.blk.val off = some v →
    exec (.timeLatchRead m d b) s = .next ((r.2.latch m a v).emit (.bus m a (.value r.1)))) ∧
  (∀ (m : Master) (d : Fin 8) (b : Fin 512) (s : State),
    Reaches s m d.val b.val 8 →
    exec (.snapWrite m d b) s = .next (s.snapBlock d.val b.val false)) ∧
  (∀ (m : Master) (d : Fin 8) (b : Fin 512) (s : State),
    Reaches s m d.val b.val 8 →
    exec (.snapClear m d b) s = .next (s.snapBlock d.val b.val true)) ∧
  (∀ (m : Master) (q : Fin 4) (a : BitVec 31) (write : Bool) (be : BitVec 8) (data : BitVec 64) (s : State),
    s.blkOff (1 + q.val) 0 = false →
    exec (.fabricWindowAccess m q a write be data) s = .next (s.windowAccess q.val { master := m, addr := 8 * a.toNat, write := write, be := be, data := data, time := s.now })) ∧
  (∀ (m : Master) (q : Fin 4) (a : BitVec 31) (write : Bool) (be : BitVec 8) (data : BitVec 64) (s : State),
    s.blkOff (1 + q.val) 0 = true →
    exec (.fabricWindowAccess m q a write be data) s = .next (s.busError m write (winAddr q.val (8 * a.toNat)) .domainOff))

/-- EVC_SET records sources, EVC_MASK and EVC_ROUTE take their values, a vector that is pending, unblocked and not signalled sends its message once, unmasking a vector or the function and the enable let it go, a table entry takes its address and data, and the PCIe resets return masks and enables to their defaults. -/
def Obligations.EventsAndMessages : Prop :=
  (∀ (m : Master) (w : Fin 32) (v : Word) (s : State),
    m ≠ .steward →
    m ≠ .debugPlain →
    Reaches s m 0 0x004 (0x400 + 4 * w.val) →
    exec (.evcSet m w v) s = .next (s.evcSet w.val v.toNat)) ∧
  (∀ (m : Master) (w : Fin 32) (v : Word) (s : State),
    m ≠ .steward →
    m ≠ .debugPlain →
    Reaches s m 0 0x004 (0x300 + 4 * w.val) →
    exec (.evcMaskWrite m w v) s = .next ((s.setF (evcBase + 4 * w.val) F.EVC_MASK_mask v.toNat).settleVectors)) ∧
  (∀ (m : Master) (src : Fin 1024) (v : Word) (s : State),
    let b := evcBase + 4 * src.val;
    m ≠ .steward →
    m ≠ .debugPlain →
    Reaches s m 0 0x004 (0x1000 + 4 * src.val) →
    exec (.evcRouteWrite m src v) s = .next (((((s.setF b F.EVC_ROUTE_msix_en (bitsOf v.toNat 31 31)).setF b F.EVC_ROUTE_vector (bitsOf v.toNat 30 24)).setF b F.EVC_ROUTE_cue_en (bitsOf v.toNat 23 16)).setF b F.EVC_ROUTE_cue_line (bitsOf v.toNat 15 12)).settleVectors)) ∧
  (∀ (v : Fin 128) (s : State),
    s.vecPending v.val = true →
    s.evc.sent.getLsbD v.val = false →
    s.vecBlocked v.val = false →
    exec (.msixMessage v) s = .next ({ s with out := .msix v.val :: s.out, evc := { s.evc with sent := s.evc.sent ||| BitVec.twoPow 128 v.val } })) ∧
  (∀ (j : Fin 64) (s : State),
    let u : State := { s with evc := { s.evc with vecMask := s.evc.vecMask &&& ~~~(BitVec.twoPow 128 (64 + j.val)) } };
    exec (.msixUnmask true (.unmask j)) s = .next (u.sendVector (64 + j.val))) ∧
  (∀ (j : Fin 64) (s : State),
    let u : State := { s with evc := { s.evc with vecMask := s.evc.vecMask &&& ~~~(BitVec.twoPow 128 (j.val)) } };
    exec (.msixUnmask false (.unmask j)) s = .next (u.sendVector (j.val))) ∧
  (∀ (data : Bool) (j : Fin 64) (s : State),
    exec (.msixUnmask data (.mask j)) s = .next ({ s with evc := { s.evc with vecMask := s.evc.vecMask ||| BitVec.twoPow 128 (if data then 64 + j.val else j.val) } })) ∧
  (∀ (data : Bool) (s : State),
    exec (.msixUnmask data .disable) s = .next ({ s with evc := if data then { s.evc with enData := false } else { s.evc with enMgmt := false } })) ∧
  (∀ (data : Bool) (s : State),
    exec (.msixUnmask data .enable) s = .next ((List.range 64).foldl (fun s v => s.sendVector (if data then 64 + v else v)) ({ s with evc := if data then { s.evc with enData := true } else { s.evc with enMgmt := true } } : State))) ∧
  (∀ (data : Bool) (s : State),
    exec (.msixUnmask data .funcMask) s = .next ({ s with evc := if data then { s.evc with fmData := true } else { s.evc with fmMgmt := true } })) ∧
  (∀ (data : Bool) (s : State),
    exec (.msixUnmask data .funcUnmask) s = .next ((List.range 64).foldl (fun s v => s.sendVector (if data then 64 + v else v)) ({ s with evc := if data then { s.evc with fmData := false } else { s.evc with fmMgmt := false } } : State))) ∧
  (∀ (data : Bool) (j : Fin 64) (a : BitVec 64) (d : BitVec 32) (s : State),
    exec (.msixUnmask data (.entry j a d)) s = .next ({ s with evc := { s.evc with table := SMap.put (0, 0) s.evc.table (if data then 64 + j.val else j.val) (a.toNat, d.toNat) } })) ∧
  (∀ (s : State),
    s.evc.link.isSome = true →
    let u := (s.msixDefault false).msixDefault true;
    exec .pcieConventionalReset s = .next (((((({ u with evc := { u.evc with link := none } } : State).lower pcieBase F.PCIE_LINK_link_up).lower pcieBase F.PCIE_LINK_gen).lower pcieBase F.PCIE_LINK_width).raise pcieBase F.PCIE_ERR_link_down).hostReset)) ∧
  (∀ (s : State),
    s.evc.link = none →
    exec .pcieConventionalReset s = .next ((s.msixDefault false).msixDefault true)) ∧
  (∀ (s : State),
    exec .pcieHotReset s = .next (((s.msixDefault false).msixDefault true).hostReset)) ∧
  (∀ (data : Bool) (s : State),
    exec (.functionLevelReset data) s = .next (if data then s.msixDefault true else (s.msixDefault false).hostReset)) ∧
  (∀ (s : State),
    s.evc.link.isSome = true →
    exec .pcieLinkDown s = .next (((((({ s with evc := { s.evc with link := none } } : State).lower pcieBase F.PCIE_LINK_link_up).lower pcieBase F.PCIE_LINK_gen).lower pcieBase F.PCIE_LINK_width).raise pcieBase F.PCIE_ERR_link_down).hostReset))

/-- Doorbells and freed slots below 2^k are taken and others set bad_index, and a sender that may not write the set gets its bus error; enabling a set that is OFF starts it with empty rings, HELD during a handover, and a set that is on keeps its state; disabling forgets what is the set's own and its rings; a fetch moves head and takes the packet, stops the set where the ring fails, and records source 18 while a reply waits for a slot; a reply is written to its set's ring, to the SPI words or to the lattice; the SPI path submits, holds or ignores a go, acknowledges, and answers its frames; a command of the lattice joins its queue, while the queue holds 64 of them as one to be answered BUSY in its turn. What enabling does during a handover, and how much of a slot is judged, are the model's choices (assumption logs 87 and 89). -/
def Obligations.CommandPaths : Prop :=
  (∀ (m : Master) (q : Fin 16) (v : Word) (s : State),
    s.busUp = true →
    hqDenied m (0x100 + 0x40 * q.val + 0x14) true = false →
    setExists q.val = true →
    setWritable m q.val = true →
    v.toNat % 4096 < s.ringSlots q.val →
    exec (.doorbell m q v) s = .next (s.setF (setBase q.val) F.HQ_CQ_TAIL_tail v.toNat)) ∧
  (∀ (m : Master) (q : Fin 16) (v : Word) (s : State),
    s.busUp = true →
    hqDenied m (0x100 + 0x40 * q.val + 0x14) true = false →
    setExists q.val = true →
    setWritable m q.val = true →
    s.ringSlots q.val ≤ v.toNat % 4096 →
    exec (.doorbell m q v) s = .next (s.raise (setBase q.val) F.HQ_Q_STAT_bad_index)) ∧
  (∀ (m : Master) (q : Fin 16) (v : Word) (s : State),
    s.busUp = true →
    hqDenied m (0x100 + 0x40 * q.val + 0x14) true = false →
    setExists q.val = true →
    setWritable m q.val = false →
    exec (.doorbell m q v) s = .next (s.busError m true (setBase q.val) .mgmtOnly)) ∧
  (∀ (m : Master) (q : Fin 16) (v : Word) (s : State),
    s.busUp = true →
    hqDenied m (0x100 + 0x40 * q.val + 0x20) true = false →
    setExists q.val = true →
    setWritable m q.val = true →
    v.toNat % 4096 < s.ringSlots q.val →
    exec (.hqRqHeadWrite m q v) s = .next (s.setF (setBase q.val) F.HQ_RQ_HEAD_head v.toNat)) ∧
  (∀ (m : Master) (q : Fin 16) (v : Word) (s : State),
    s.busUp = true →
    hqDenied m (0x100 + 0x40 * q.val + 0x20) true = false →
    setExists q.val = true →
    setWritable m q.val = true →
    s.ringSlots q.val ≤ v.toNat % 4096 →
    exec (.hqRqHeadWrite m q v) s = .next (s.raise (setBase q.val) F.HQ_Q_STAT_bad_index)) ∧
  (∀ (m : Master) (q : Fin 16) (k : BitVec 4) (s : State),
    let b := setBase q.val;
    s.busUp = true →
    hqDenied m (0x100 + 0x40 * q.val + 0x10) true = false →
    setExists q.val = true →
    setWritable m q.val = true →
    (s.qset q.val).state = .off →
    exec (.hqQEnable m q k) s = .next ((((((((s.setF b F.HQ_Q_CTL_log2_slots k.toNat).raise b F.HQ_Q_CTL_enable).lower b F.HQ_CQ_HEAD_head).lower b F.HQ_CQ_TAIL_tail).lower b F.HQ_RQ_HEAD_head).lower b F.HQ_RQ_TAIL_tail).setQ q.val { state := if s.hq.handover then .held else .running, seq := 0 }))) ∧
  (∀ (m : Master) (q : Fin 16) (k : BitVec 4) (s : State),
    s.busUp = true →
    hqDenied m (0x100 + 0x40 * q.val + 0x10) true = false →
    setExists q.val = true →
    setWritable m q.val = true →
    (s.qset q.val).state ≠ .off →
    exec (.hqQEnable m q k) s = .next ((s.setF (setBase q.val) F.HQ_Q_CTL_log2_slots k.toNat).raise (setBase q.val) F.HQ_Q_CTL_enable)) ∧
  (∀ (m : Master) (q : Fin 16) (k : BitVec 4) (s : State),
    let b := setBase q.val;
    let mine (r : Src) : Bool := r.setOf == some q.val;
    let s1 := (s.setF b F.HQ_Q_CTL_log2_slots k.toNat).lower b F.HQ_Q_CTL_enable;
    let s2 : State := { s1 with hq := { s1.hq with ops := s1.hq.ops.filter (fun o => !mine o.src), inbox := s1.hq.inbox.filter (fun p => !mine p.2.src), ready := s1.hq.ready.filter (fun r => !mine r.src) } };
    s.busUp = true →
    hqDenied m (0x100 + 0x40 * q.val + 0x10) true = false →
    setExists q.val = true →
    setWritable m q.val = true →
    exec (.hqQDisable m q k) s = .next (((((s2.lower b F.HQ_CQ_HEAD_head).lower b F.HQ_CQ_TAIL_tail).lower b F.HQ_RQ_HEAD_head).lower b F.HQ_RQ_TAIL_tail).setQ q.val {})) ∧
  (∀ (q : Fin 16) (s : State),
    let h := s.getF (setBase q.val) F.HQ_CQ_HEAD_head;
    s.canFetch q.val = true →
    s.ringBad q.val false h 1020 = false →
    exec (.commandFetch q) s = .next ((s.setF (setBase q.val) F.HQ_CQ_HEAD_head ((h + 1) % s.ringSlots q.val)).received (.set q) (s.ringWords q.val false h 255))) ∧
  (∀ (q : Fin 16) (s : State),
    s.canFetch q.val = true →
    s.ringBad q.val false (s.getF (setBase q.val) F.HQ_CQ_HEAD_head) 1020 = true →
    exec (.commandFetch q) s = .next ((s.setQ q.val { (s.qset q.val) with state := .stopped }).mark (setBase q.val) F.HQ_Q_STAT_fetch_error 7)) ∧
  (∀ (q : Fin 16) (s : State),
    s.replyWait q.val = true →
    exec (.commandFetch q) s = .next (s.signal 18)) ∧
  (∀ (q : Fin 16) (r : Reply) (s : State),
    let u := if s.fetching then s.settle (.set q) else s;
    let t := u.getF (setBase q.val) F.HQ_RQ_TAIL_tail;
    let gone := ({ u with hq := { u.hq with ready := u.hq.ready.erase r } } : State);
    s.hq.handover = false →
    u.nextReply (.set q) = some r →
    (u.qset q.val).state ≠ .off →
    (u.qset q.val).state ≠ .stopped →
    u.replyFree q.val = true →
    u.ringBad q.val true t 1024 = false →
    exec (.replyWrite (.set q)) s = .next (((((gone.ringStore q.val true t (r.words (u.qset q.val).seq)).countReply q.val).setF (setBase q.val) F.HQ_RQ_TAIL_tail ((t + 1) % u.ringSlots q.val)).signal q.val).replySent r)) ∧
  (∀ (r : Reply) (s : State),
    let u := if s.fetching then s.settle .spi else s;
    let gone := ({ u with hq := { u.hq with ready := u.hq.ready.erase r } } : State);
    let w := (gone.spiStore (r.words (u.qset 16).seq)).countReply 16;
    s.hq.handover = false →
    u.nextReply .spi = some r →
    u.hq.spiReply = false →
    exec (.replyWrite .spi) s = .next ((({ w with hq := { w.hq with spiReply := true, spiRunning := w.hq.spiRunning && r.completion } } : State).signal 6).replySent r)) ∧
  (∀ (row peer : Nat) (r : Reply) (s : State),
    let u := if s.fetching then s.settle (.lattice row) else s;
    let gone := ({ u with hq := { u.hq with ready := u.hq.ready.erase r } } : State);
    s.hq.handover = false →
    u.nextReply (.lattice row) = some r →
    r.src = .lattice peer →
    exec (.replyWrite (.lattice row)) s = .next (let x := (gone.emit (.latticeReply peer (r.words (u.qset 17).seq))).countReply 17; { x with hq := { x.hq with latOut := x.hq.latOut ++ [(peer, r.words (u.qset 17).seq)] } })) ∧
  (∀ (m : Master) (s : State),
    s.busUp = true →
    hqDenied m 0x40 true = false →
    s.hq.spiRunning = false →
    s.hq.spiReply = false →
    s.fetching = true →
    exec (.spiGo m) s = .next (({ s with hq := { s.hq with spiRunning := true, spiGoHeld := false } } : State).received .spi ((List.range 255).map (fun i => wd (s.getF (hqBase + 4 * i) F.HQ_SPI_CMD_word))))) ∧
  (∀ (m : Master) (s : State),
    s.busUp = true →
    hqDenied m 0x40 true = false →
    s.hq.spiRunning = false →
    s.hq.spiReply = false →
    s.fetching = false →
    exec (.spiGo m) s = .next ({ s with hq := { s.hq with spiRunning := true, spiGoHeld := true } })) ∧
  (∀ (m : Master) (s : State),
    s.busUp = true →
    hqDenied m 0x40 true = false →
    s.hq.spiRunning = true ∨ s.hq.spiReply = true →
    exec (.spiGo m) s = .next s) ∧
  (∀ (m : Master) (s : State),
    s.busUp = true →
    hqDenied m 0x40 true = false →
    s.hq.handover = true ∨ s.hq.ready.find? (fun r => decide (r.src = .spi)) = none →
    exec (.spiAck m) s = .next ({ s with hq := { s.hq with spiReply := false } })) ∧
  (∀ (m : Master) (r : Reply) (s : State),
    let gone := ({ s with hq := { s.hq with spiReply := false, ready := s.hq.ready.erase r } } : State);
    let w := (gone.spiStore (r.words (s.qset 16).seq)).countReply 16;
    s.busUp = true →
    hqDenied m 0x40 true = false →
    s.hq.handover = false →
    s.hq.ready.find? (fun r => decide (r.src = .spi)) = some r →
    exec (.spiAck m) s = .next ((({ w with hq := { w.hq with spiReply := true, spiRunning := w.hq.spiRunning && r.completion } } : State).signal 6).replySent r)) ∧
  (∀ (off : BitVec 14) (ws : List Word) (s : State),
    s.spiAnswers = true →
    exec (.spiWriteFrame off ws) s = .next (s.spiWrites (4 * off.toNat) ws)) ∧
  (∀ (off : BitVec 14) (n : Nat) (s : State),
    s.spiAnswers = true →
    exec (.spiReadFrame off n) s = .next (s.emit (.miso (bytesOfWords ((List.range n).map (fun i => wd (s.pathRead (4 * off.toNat + 4 * i)))))))) ∧
  (∀ (s : State),
    s.spiAnswers = true →
    exec .spiStatusFrame s = .next (s.emit (.miso [BitVec.ofNat 8 (s.getF hqBase F.HQ_FW_state * 4 + bit s.hq.spiReply * 2 + bit s.hq.spiRunning)]))) ∧
  (∀ (op : Byte) (s : State),
    exec (.spiOtherFrame op) s = .next s) ∧
  (∀ (peer : Nat) (ws : List Word) (s : State),
    let u := s.takePosted ws;
    let mark := u.packetMark (.lattice peer) ws;
    u.latFull = false →
    let v : State := { u with hq := { u.hq with latQueue := u.hq.latQueue ++ [(pktOp ws + mark, pktCmd (.lattice peer) ws)] } };
    let x := if v.latFull then v.signal 19 else v;
    exec (.latticeCommandReceive peer ws) s = .next (if x.fetching then x.settle (.lattice peer) else x)) ∧
  (∀ (peer : Nat) (ws : List Word) (s : State),
    let u := s.takePosted ws;
    let mark := u.packetMark (.lattice peer) ws;
    u.latFull = true →
    let x : State := { u with hq := { u.hq with latQueue := u.hq.latQueue ++ [(pktOp ws + mark + refusedMark, pktCmd (.lattice peer) ws)] } };
    exec (.latticeCommandReceive peer ws) s = .next (if x.fetching then x.settle (.lattice peer) else x))

/-- PING, GET_INFO, GET_CAPS, FW_STAGE, FW_ACTIVATE, SCHED_CANCEL and SNAP, taken with every check passed, answer as their rules say or wait to be completed; each later event of a staging, a handover, a SNAP, a missed instant or a reached bound answers the next state named. -/
def Obligations.StewardCommands : Prop :=
  (∀ (c : Cmd) (s : State),
    Takes s 0x0100 c →
    c.len ≤ 252 →
    (c.aimsDevice || s.targetOk c.word1.toNat) = true →
    let u := s.take 0x0100 c;
    exec (.ping c) s = .next ((u).answer 0x0100 c .ok (timeWords u.sta ++ c.params))) ∧
  (∀ (c : Cmd) (s : State),
    Takes s 0x0101 c →
    c.len = 2 →
    (c.aimsDevice || c.aims 0 0 0) = true →
    let u := s.take 0x0101 c;
    exec (.getInfo c) s = .next ((u).answer 0x0101 c .ok (u.infoWords))) ∧
  (∀ (c : Cmd) (s : State),
    Takes s 0x0102 c →
    c.len = 2 →
    (c.aimsDevice || c.aims 0 0 0) = true →
    let u := s.take 0x0102 c;
    exec (.getCaps c) s = .next ((u).answer 0x0102 c .ok (u.capsWords))) ∧
  (∀ (c : Cmd) (s : State),
    Takes s 0x0105 c →
    c.len = 6 →
    (c.aimsHq) = true →
    c.w 2 ≤ 1 →
    (!s.heldByOther c) = true →
    let u := (s.take 0x0105 c).accept 0x0105 c none;
    exec (.fwStage c) s = .next (u)) ∧
  (∀ (c : Cmd) (s : State),
    Takes s 0x0106 c →
    c.len = 3 →
    (c.aimsHq) = true →
    c.f 2 31 1 = 0 →
    (s.flag hqBase F.HQ_FW_other_valid) = true →
    (!s.heldByOther c) = true →
    let u := (s.take 0x0106 c).accept 0x0106 c none;
    exec (.fwActivate c) s = .next (u)) ∧
  (∀ (c : Cmd) (s : State),
    let x := s.scheduledOn (c.f 2 15 0) c.word1;
    Takes s 0x0107 c →
    c.len = 3 →
    (s.targetOk c.word1.toNat) = true →
    c.f 2 31 16 = 0 →
    (x.isSome) = true →
    (x.all (fun o => o.stage == 0)) = true →
    let u := s.take 0x0107 c;
    exec (.schedCancel c) s = .next (match x with | some o => (u.answer 0x0107 c .ok []).complete o .fenced [] | none => u.answer 0x0107 c .ok [])) ∧
  (∀ (c : Cmd) (s : State),
    let l := snapList c.params;
    let n := c.f 5 5 0;
    Takes s 0x0601 c →
    c.len = 6 + n →
    ((c.aimsDevice || s.targetOk c.word1.toNat)) = true →
    ((c.params.drop 4).all (fun w => s.snapTarget w.toNat)) = true →
    ((c.instant 2).isSome) = true →
    1 ≤ n →
    n ≤ 32 →
    c.f 5 30 6 = 0 →
    (decide l.Nodup) = true →
    (l.all (fun x => !s.blkGone (bitsOf x 3 0) (bitsOf x 15 4))) = true →
    (!l.any (fun x => s.hq.ops.any (fun o => o.snaps x))) = true →
    (l.all (fun x => s.inTime (bitsOf x 3 0) (c.instant 2))) = true →
    let u := (s.take 0x0601 c).accept 0x0601 c (some (s.instantTime ((c.instant 2).getD .atOnce)));
    exec (.snap c) s = .next (u)) ∧
  (∀ (es : List LineErr) (o : Op) (s : State),
    s.hq.ops.find? (fun o => o.opcode == 0x0105) = some o →
    exec (.fwStageCompletion es) s = .next ((match s.fwBytes o es with | (none, s1) => (s1.setOtherSlot false).complete o .streamShort [] | (some img, s1) => (match s1.fwCheck img with | .error st => (s1.setOtherSlot false).complete o st [] | .ok plain => let v := s1.freeVal; let t := v.2.setOtherSlot true; ({ t with cfg := { t.cfg with fw := plain }, hq := { t.hq with slotVer := t.hq.slotVer.set (1 - t.hq.image) (v.1 % 1048576) } } : State).complete o .ok [])))) ∧
  (∀ (o : Op) (s : State),
    s.activating 0 = some o →
    s.othersPending o = false →
    s.hq.handover = false →
    let s1 := (s.setsFromTo .running .held).putOp { o with stage := 1, due := s.now };
    exec .fwHandoverStart s = .next (((({ s1 with hq := { s1.hq with handover := true } } : State).raise hqBase F.HQ_STAT_handover).setF hqBase F.HQ_FW_state 2).signal 16)) ∧
  (∀ (o : Op) (s : State),
    s.activating 0 = some o →
    s.othersPending o = true →
    exec .fwActivateWaitTimeout s = .next ((s.reachNow (o.began + 1000000000)).complete o .busy [])) ∧
  (∀ (us : Fin 2001) (o : Op) (s : State),
    s.activating 1 = some o →
    let i := 1 - s.hq.image;
    let s1 := (s.reachNow (s.now + us.val * 1000)).runImage i;
    let s2 : State := if o.f 2 0 0 = 1 then { s1 with hq := { s1.hq with persistent := i } } else s1;
    let s3 := s2.handoverOver.complete o .ok [wd us.val];
    exec (.fwHandoverEnd us) s = .next ((if s.pwr.boot = .failed then s3.toBoot .firmware else s3))) ∧
  (∀ (o : Op) (s : State),
    s.activating 1 = some o →
    let s1 := (s.reachNow (s.now + 2000000)).handoverOver;
    let s2 := if s.pwr.boot = .failed then s1.setF hqBase F.HQ_FW_state 3 else s1;
    let v := s2.freeVal;
    exec .fwHandoverFail s = .next ((v.2.journal 0x09 true (targetWord 0 0x001 0) s2.fwWord (v.1 % 4294967296) 0).complete o .hwFault [])) ∧
  (∀ (w : Word) (edge : Nat) (o : Op) (s : State),
    let x := bitsOf w.toNat 15 0;
    s.hq.ops.find? (fun o => o.snaps x && s.edgeActs o edge) = some o →
    s.blkOff (bitsOf x 3 0) (bitsOf x 15 4) = false →
    s.blkStopped (bitsOf x 3 0) (bitsOf x 15 4) = false →
    let s1 := (s.reachAt (bitsOf x 3 0) edge).snapBlock (bitsOf x 3 0) (bitsOf x 15 4) (o.f 5 31 31 == 1);
    exec (.snapAct w edge) s = .next (s1.putOp { o with stage := 1, acc := o.acc ++ [wd x], due := max o.due edge })) ∧
  (∀ (o : Op) (s : State),
    s.hq.ops.find? (fun o => o.opcode == 0x0601 && (snapList o.params).all (fun x => o.acc.contains (wd x))) = some o →
    exec .snapCompletion s = .next (s.complete o .ok (timeWords o.due))) ∧
  (∀ (src : Src) (tag : BitVec 8) (o : Op) (t : _) (w : _) (s : State),
    s.opOf src tag = some o →
    o.onEvent = false →
    o.instant = some t →
    o.waitsFor = some w →
    exec (.scheduledActionMissed src tag) s = .next (((s.reachAt (bitsOf w 3 0) (s.edgeLimit t)).complete o .timeout []).journal 0x08 false w o.opcode 0 0)) ∧
  (∀ (src : Src) (tag : BitVec 8) (gaps : Nat) (o : Op) (b : _) (s : State),
    s.opOf src tag = some o →
    s.opBound o gaps = some b →
    let t := (match o.instant with | some i => monus (i + b * nano) (s.staAt o.die) | none => monus (o.began + b) s.now * nano);
    exec (.operationTimeout src tag gaps) s = .next ((s.reach (s.sta + t)).timeOut o))

/-- SET_POWER, its query and RESET, taken with every check passed, begin the change they ask; the end of a drain, of a power change and of a reset answers the next state named; a facet reset releases the flip-flops of its facet and then its cells and fence. -/
def Obligations.PowerChanges : Prop :=
  (∀ (c : Cmd) (s : State),
    let d := c.domain.getD 0;
    let v := stateOf (c.f 3 1 0);
    let there := s.domShown d == v;
    let idle := (s.domOp d).isNone;
    Takes s 0x0103 c →
    c.len = 4 →
    (c.aims 0 0x058 0) = true →
    (!(c.f 2 31 24 == 6 && s.ident.site == 0)) = true →
    (c.domain.isSome) = true →
    c.f 2 23 16 = 0 →
    c.f 3 31 2 = 0 →
    (stateAllowed (domKind d).1 v) = true →
    ((!idle || there || (s.reachable d v && s.powerOrder d v))) = true →
    (!s.pwr.inReset.getLsbD (domDie d)) = true →
    (d = partnerDom → s.partnerReset = none) →
    (!s.heldByOther c) = true →
    (s.powerFree d v) = true →
    ((there || !s.domainHeld c d)) = true →
    let u := (s.take 0x0103 c).accept 0x0103 c none;
    exec (.setPower c) s = .next (if there then u.completeOf c.src c.tag .ok [wd 0] else u.powerStart d v)) ∧
  (∀ (c : Cmd) (s : State),
    let d := c.domain.getD 0;
    let last := if d = 74 ∨ d = 75 then (if s.lampDom (d - 74) = 1 then 1 else 0) else SMap.get 0 s.pwr.last d;
    Takes s 0x0183 c →
    c.len = 3 →
    (c.aims 0 0x058 0) = true →
    (!(c.f 2 31 24 == 6 && s.ident.site == 0)) = true →
    (c.domain.isSome) = true →
    c.f 2 23 16 = 0 →
    let u := s.take 0x0183 c;
    exec (.setPowerQuery c) s = .next ((u).answer 0x0183 c .ok [wd (c.w 2), wd (bit (u.domOp d).isSome * 2147483648 + codeOf last)])) ∧
  (∀ (c : Cmd) (s : State),
    let k := c.resetKind;
    let f := c.facetOf.getD 0;
    let n := c.cueOf.getD 0;
    Takes s 0x0104 c →
    c.len = 3 →
    s.resetTgt c = true →
    c.resetWarm = false →
    c.f 2 31 4 = 0 →
    1 ≤ k →
    k ≤ 5 →
    (k = 3 → s.facetState f = fcRunning ∧ s.swapArmed f = false ∧ s.applying f = false ∧ (s.facetX f).reset = 0) →
    (k = 4 → s.cueState n ≠ cuOff ∧ s.cueState n ≠ cuStopped) →
    ((k = 5 ∨ c.die = 7) → s.dom partnerDom ≠ 0 ∧ s.getF ucieBase F.UCIE_LINK_state ≠ 5) →
    s.heldByOther c = false →
    exec (.reset c) s = .next (((s.take 0x0104 c).accept 0x0104 c none).resetStart c)) ∧
  (∀ (c : Cmd) (s : State),
    Takes s 0x0104 c →
    c.len = 3 →
    s.resetTgt c = true →
    c.resetWarm = true →
    (c.src = .spi ∨ ∃ q : Fin 8, c.src = .set (q.castLE (by decide))) →
    c.f 2 31 4 = 0 →
    c.resetKind = 1 ∨ c.resetKind = 2 →
    s.heldByOther c = false →
    let u := s.take 0x0104 c;
    exec (.reset c) s = .next (({ u with pwr := { u.pwr with warmSrc := c.src.setOf.getD 0xFF } } : State).answer 0x0104 c .ok [])) ∧
  (∀ (d : Fin 85) (bad : BitVec 8) (o : Op) (s : State),
    s.domOp d.val = some o →
    let k := domKind d.val;
    let v := o.asks;
    let drained := [o.acc.headD (wd 0)];
    v = 0 →
    (¬ (k.1 ≠ 5 ∧ o.stage = 0)) →
    exec (.setPowerCompletion d bad) s = .next ((s.domainOff d.val).complete o .ok drained)) ∧
  (∀ (d : Fin 85) (bad : BitVec 8) (o : Op) (s : State),
    s.domOp d.val = some o →
    let v := o.asks;
    v ≠ 0 →
    v = 3 →
    o.stage ≠ 0 →
    exec (.setPowerCompletion d bad) s = .next ((s.reachDom d.val 3).complete o .ok [wd 0])) ∧
  (∀ (d : Fin 85) (bad : BitVec 8) (o : Op) (s : State),
    s.domOp d.val = some o →
    let v := o.asks;
    v ≠ 0 →
    v ≠ 3 →
    v = 2 →
    exec (.setPowerCompletion d bad) s = .next ((s.domainStop d.val).complete o .ok [wd 0])) ∧
  (∀ (d : Fin 85) (bad : BitVec 8) (o : Op) (s : State),
    s.domOp d.val = some o →
    let k := domKind d.val;
    let v := o.asks;
    v ≠ 0 →
    v ≠ 3 →
    v ≠ 2 →
    k.1 = 5 →
    s.lampDom k.2 = 1 →
    exec (.setPowerCompletion d bad) s = .next (s.complete o .ok [wd 0])) ∧
  (∀ (d : Fin 85) (bad : BitVec 8) (o : Op) (s : State),
    s.domOp d.val = some o →
    let k := domKind d.val;
    let v := o.asks;
    v ≠ 0 →
    v ≠ 3 →
    v ≠ 2 →
    k.1 ≠ 5 →
    k.1 = 6 →
    s.getF ucieBase F.UCIE_LINK_state = 4 →
    exec (.setPowerCompletion d bad) s = .next ((((s.freePartner.toUcie 3).reachDom d.val 1).ucieDrain).complete o .ok [wd 0])) ∧
  (∀ (d : Fin 85) (bad : BitVec 8) (o : Op) (s : State),
    s.domOp d.val = some o →
    let k := domKind d.val;
    let v := o.asks;
    v ≠ 0 →
    v ≠ 3 →
    v ≠ 2 →
    k.1 ≠ 5 →
    k.1 ≠ 6 →
    (k.1 = 2 → (quadEdges k.2).any (fun e => s.edgeTraining e) = false) →
    exec (.setPowerCompletion d bad) s = .next ((s.domainOn d.val bad).complete o .ok [wd 0])) ∧
  (∀ (d : Fin 85) (left : Nat) (o : Op) (s : State),
    s.domOp d.val = some o →
    o.stage = 0 →
    s.dom d.val = 4 →
    exec (.domainDrainEnd d left) s = .next ((if d.val < 48 then let n := s.inFlight d.val; (s.facetOffNow d.val n).putOp { o with stage := 1, acc := [wd (bit (n != 0))] } else let n := s.drainLeft d.val + left; ((s.drainDone d.val).drainNote d.val n (targetWord 0 0x058 0)).putOp { o with stage := 1, acc := [wd (bit (n != 0))] }))) ∧
  (∀ (d : Fin 85) (left : Nat) (s : State),
    s.domOp d.val = none →
    d.val < 48 →
    (s.facetX d.val).rewrite.isSome = true →
    (s.facetX d.val).drainFrom.isSome = true →
    exec (.domainDrainEnd d left) s = .next (s.rewriteDrained d.val)) ∧
  (∀ (d : Fin 85) (left : Nat) (o : Op) (s : State),
    s.domOp d.val = none →
    48 ≤ d.val →
    d.val < 52 →
    let q := d.val - 48;
    s.dieResetOp (q + 1) = some o →
    o.stage = 0 →
    let n := (List.range 12).foldl (fun n i => n + s.inFlight (12 * q + i)) 0;
    let s1 := (List.range 12).foldl (fun s i => if s.inFlight (12 * q + i) = 0 then s else s.endFlight (12 * q + i) 0x0201) s;
    exec (.domainDrainEnd d left) s = .next (((s1.drainNote d.val n (targetWord 0 0x058 0)).quadReset q).putOp { o with stage := 1 })) ∧
  (∀ (w : Option Word) (t : _) (s : State),
    w = none →
    s.pwr.warmAt = some t →
    exec (.resetCompletion w) s = .next ((s.reachNow t).warmReset)) ∧
  (∀ (w : Option Word) (tw : _) (o : Op) (s : State),
    w = some tw →
    s.pendingOn 0x0104 tw = some o →
    let k := o.f 2 3 0;
    k = 3 →
    (s.facetX (12 * (o.die - 1) + (o.blk - 0x010))).reset = 0 →
    exec (.resetCompletion w) s = .next (s.complete o .ok [])) ∧
  (∀ (w : Option Word) (tw : _) (o : Op) (s : State),
    w = some tw →
    s.pendingOn 0x0104 tw = some o →
    let k := o.f 2 3 0;
    k ≠ 3 →
    k = 4 →
    exec (.resetCompletion w) s = .next (s.complete o .ok [])) ∧
  (∀ (w : Option Word) (tw : _) (o : Op) (s : State),
    w = some tw →
    s.pendingOn 0x0104 tw = some o →
    let k := o.f 2 3 0;
    k ≠ 3 →
    k ≠ 4 →
    k ≠ 5 →
    o.die ≠ 7 →
    (o.die ≤ 4 → o.stage ≠ 0 ∧ (quadEdges (o.die - 1)).any (fun e => s.edgeTraining e) = false) →
    exec (.resetCompletion w) s = .next ((s.dieResetEnd o.die).complete o .ok [])) ∧
  (∀ (f : Fin 48) (s : State),
    s.clocksRun f.val = true →
    (s.facetX f.val).reset = 1 →
    exec (.facetResetRelease f) s = .next (s.setFacetX f.val { s.facetX f.val with reset := 2 })) ∧
  (∀ (f : Fin 48) (s : State),
    s.clocksRun f.val = true →
    1 < (s.facetX f.val).reset →
    (s.facetX f.val).clkReturn = false →
    s.facetState f.val = fcRunning →
    exec (.facetResetRelease f) s = .next ((s.setFacetX f.val { s.facetX f.val with reset := 0 }).unhold f.val)) ∧
  (∀ (f : Fin 48) (s : State),
    s.clocksRun f.val = true →
    1 < (s.facetX f.val).reset →
    (s.facetX f.val).clkReturn = true →
    exec (.facetResetRelease f) s = .next (s.setFacetX f.val { s.facetX f.val with reset := 0 }))

/-- Each event of the power-on sequence, of a rail or reset pin, and of the temperature sensors, in the state that it needs, answers the next state named. -/
def Obligations.BootAndTemperature : Prop :=
  (∀ (temps : List (BitVec 13)) (s : State),
    s.pwr.boot ≠ .inReset →
    s.pwr.boot ≠ .stopped →
    let t (i : Nat) : Nat := (temps.getD i 0).toNat;
    let valid := (List.range 14).filter (fun i => s.sensorValid i);
    let s1 := (List.range 14).foldl (fun s' i => (s'.setF (pwrBase + 4 * i) F.PWR_TEMP_temp (t i)).setB (pwrBase + 4 * i) F.PWR_TEMP_valid (s.sensorValid i)) s;
    let s1a := (List.range 144).foldl (fun s n => s.calAge n) s1;
    let s1b := (List.range 2).foldl (fun s' j => s'.lampHeat j (s.getF (pwrBase + 4 * (11 + j)) F.PWR_TEMP_temp)) s1a;
    let hot := valid.foldl (fun b i => if t b < t i then i else b) 0;
    let warn := valid.any (fun i => decide (degrees 105 ≤ t i));
    let s2 := ((s1b.setF pwrBase F.PWR_THERM_hottest hot).setF pwrBase F.PWR_THERM_temp (t hot)).setB pwrBase F.PWR_THERM_warn warn;
    let s3 := if !warn then s2 else if s.flag pwrBase F.PWR_THERM_warn then s2.raise pwrBase F.PWR_STAT_warn else s2.mark pwrBase F.PWR_STAT_warn 769;
    let s4 := if !s3.pwr.trip && valid.any (fun i => decide (degrees 115 ≤ t i)) then s3.thermalTrip hot (t hot) else s3;
    exec (.temperatureSample temps) s = .next ({ s4 with pwr := { s4.pwr with hotSince := if s4.pwr.trip ∧ degrees 115 ≤ t 0 then some (s4.pwr.hotSince.getD s4.now) else none } })) ∧
  (∀ (t : _) (s : State),
    s.pwr.hotSince = some t →
    let s1 := s.reachNow (t + 10000000);
    exec .thermalControlStop s = .next ({ s1 with pwr := { s1.pwr with boot := .stopped } })) ∧
  (∀ (m : Master) (s : State),
    Reaches s m 0 0x058 4 →
    exec (.thermTripClear m) s = .next (s.tripClear)) ∧
  (∀ (s : State),
    s.pwr.boot = .inReset →
    let cause := if s.pwr.brownout.isSome then 2 else 1;
    let s1 : State := { s with sta := 0, pwr := { s.pwr with t0 := s.now } };
    let s2 := (((s1.toBoot .t0).setF timeBase F.TIME_XO_xo_wait s.ident.xoWait).toXo 0 1).setF pwrBase F.PWR_CAUSE_cause cause;
    let s3 := (match s.pwr.brownout with | some r => s2.journal 0x05 false (targetWord 0 0x058 0) r 0 0 | none => s2);
    exec .powerOnReset s = .next (s3.journal 0x01 false (targetWord 0 0x058 0) cause 0 0)) ∧
  (∀ (rail : Fin 10) (s : State),
    exec (.railLoss rail) s = .next (s.powerReset true (some rail.val))) ∧
  (∀ (s : State),
    exec .porNAsserted s = .next (s.powerReset true (if s.pwr.boot = .inReset then s.pwr.brownout else none))) ∧
  (∀ (s : State),
    exec .vccAonLoss s = .next (s.powerReset false none)) ∧
  (∀ (pass : BitVec 2) (step : BitVec 8) (s : State),
    s.pwr.boot = .clocks →
    let p := s.hq.persistent % 2;
    let ok (i : Nat) : Bool := s.slotGood i && pass.getLsbD i;
    let s1 := (s.noteSlot 0 (ok 0 || (p == 1 && ok 1 && s.slotGood 0))).noteSlot 1 (ok 1 || (p == 0 && ok 0 && s.slotGood 1));
    exec (.stewardBoot pass step) s = .next ((if ok p then (s1.runImage p).toBoot .firmware else (if ok (1 - p) then (s1.runImage (1 - p)).toBoot .firmware else let s2 := s1.toBoot .failed; s2.journal 0x09 true (targetWord 0 0x001 0) s2.fwWord step.toNat 0)))) ∧
  (∀ (s : State),
    s.pwr.boot = .firmware →
    s.bootCut = true →
    exec .deviceBringup s = .next (s.bootDone)) ∧
  (∀ (s : State),
    s.pwr.boot = .firmware →
    s.bootCut = false →
    s.lampDom 0 = 0 →
    s.lampDom 1 = 0 →
    exec .deviceBringup s = .next (s.bootDone)) ∧
  (∀ (s : State),
    s.pwr.boot = .firmware →
    s.bootCut = false →
    ¬ (s.lampDom 0 = 0 ∧ s.lampDom 1 = 0) →
    s.lampState 0 = lpActive ∨ s.lampState 1 = lpActive →
    exec .deviceBringup s = .next (([4, 5, 6, 7].foldl (fun s e => if s.pwr.warm then s.edgeReturn e else s.edgeUp e) s).toBoot .dies)) ∧
  (∀ (s : State),
    s.pwr.boot = .dies →
    s.bootCut = true →
    exec .deviceBringup s = .next (s.bootDone)) ∧
  (∀ (s : State),
    s.pwr.boot = .dies →
    s.bootCut = false →
    (List.range 8).any (fun e => s.edgeTraining e) = false →
    s.pwr.inReset &&& 0x1E ≠ 0 →
    let s1 : State := { s with pwr := { s.pwr with inReset := s.pwr.inReset &&& 0xE1 } };
    exec .deviceBringup s = .next ([0, 1, 2, 3].foldl (fun s e => if s.pwr.warm then s.edgeReturn e else s.edgeUp e) s1)) ∧
  (∀ (s : State),
    s.pwr.boot = .dies →
    s.bootCut = false →
    (List.range 8).any (fun e => s.edgeTraining e) = false →
    s.pwr.inReset &&& 0x1E = 0 →
    let s1 : State := { s with pwr := { s.pwr with inReset := s.pwr.inReset &&& 0x80 } };
    let s2 := (List.range 4).foldl (fun s k => (if s.pwr.warm then s else s.zeroStack k).reachDom (stackDom k) 1) s1;
    exec .deviceBringup s = .next (s2.bootDone)) ∧
  (∀ (s : State),
    s.ident.site ≠ 0 →
    s.pwr.boot = .ready →
    s.pwr.trip = false →
    s.getF ucieBase F.UCIE_LINK_state = 1 →
    s.opt.ucie.freeAt ≤ s.now →
    let s1 : State := { s with pwr := { s.pwr with inReset := s.pwr.inReset &&& 0x7F } };
    exec .partnerRelease s = .next (s1.toUcie 2))

/-- CHANNEL_RETIRE, CHANNEL_RESTORE, JOURNAL_READ and JOURNAL_CLEAR, taken with every check passed, do as their rules say, and a retirement or a restoration ends in the next state named. -/
def Obligations.RetirementAndJournal : Prop :=
  (∀ (c : Cmd) (s : State),
    let x := chanOf (c.w 2);
    Takes s 0x0A02 c →
    c.len = 4 →
    (c.aimsJrnl) = true →
    (x.isSome) = true →
    c.f 2 31 28 ≠ 3 →
    c.f 3 31 1 = 0 →
    (x.all (fun x => s.chanPowered x)) = true →
    (!x.any (fun x => s.chanRetired x)) = true →
    (!s.heldByOther c) = true →
    (x.all (fun x => s.chanFree false x && !s.chanHeld c x)) = true →
    let u := (s.take 0x0A02 c).accept 0x0A02 c none;
    exec (.channelRetire c) s = .next (u)) ∧
  (∀ (c : Cmd) (s : State),
    let x := chanOf (c.w 2);
    Takes s 0x0A03 c →
    c.len = 3 →
    (c.aimsJrnl) = true →
    (x.any (fun x => s.chanOut x)) = true →
    (x.all (fun x => s.chanPowered x)) = true →
    (!s.heldByOther c) = true →
    (x.all (fun x => s.chanFree true x && !s.chanHeld c x)) = true →
    let u := (s.take 0x0A03 c).accept 0x0A03 c none;
    exec (.channelRestore c) s = .next (match x with | some x => u.restoreStart x | none => u)) ∧
  (∀ (c : Cmd) (s : State),
    Takes s 0x0A00 c →
    c.len = 4 →
    (c.aimsJrnl) = true →
    c.f 2 31 16 = 0 →
    c.f 3 31 5 = 0 →
    c.f 3 4 0 ≠ 0 →
    let u := s.take 0x0A00 c;
    let r : State × List Word :=
      (let l := u.jrnl.held
      let es := match entryNamed l (c.f 2 15 0) with
      | some i => (l.drop i).take (c.f 3 4 0)
      | none => []
      let oldest := match l.head? with | some e => e.seq | none => 0
      let newest := match l.getLast? with | some e => e.seq | none => 0
      (u, [wd (oldest * 65536 + newest), wd (l.length * 65536 + es.length)] ++ es.flatMap JEntry.words));
    exec (.journalRead c) s = .next (r.1.answer 0x0A00 c .ok r.2)) ∧
  (∀ (c : Cmd) (s : State),
    Takes s 0x0A01 c →
    c.len = 4 →
    (c.aimsJrnl) = true →
    c.f 2 30 16 = 0 →
    c.f 3 31 8 = 0 →
    c.f 3 7 0 ≠ 1 →
    (!s.heldByOther c) = true →
    let u := s.take 0x0A01 c;
    let r : State × List Word :=
      (let l := if c.f 2 31 31 = 1 then []
      else match entryNamed u.jrnl.held (c.f 2 15 0) with
      | some i => u.jrnl.held.drop (i + 1)
      | none => u.jrnl.held
      let t := if c.f 3 7 0 = 0 then u.jrnl.threshold else c.f 3 7 0
      ({ u with jrnl := { u.jrnl with held := l, threshold := t } }, [wd l.length]));
    exec (.journalClear c) s = .next (r.1.answer 0x0A01 c .ok r.2)) ∧
  (∀ (o : Op) (x : Chan) (s : State),
    s.chanOp 0x0A02 = some o →
    chanOf (o.w 2) = some x →
    s.chanPowered x = false →
    o.stage = 0 →
    exec .channelRetireCompletion s = .next (s.complete o .domainOff [])) ∧
  (∀ (o : Op) (x : Chan) (s : State),
    let res : List Word := [wd (s.chanWord x), wd (s.opMicros o)];
    let ok (s : State) : State := (s.journal 0x2A true (targetWord 0 0x050 0) (o.w 2) (s.chanWord x) 0).complete o .ok [wd (s.chanWord x), wd (s.opMicros o)];
    s.chanOp 0x0A02 = some o →
    chanOf (o.w 2) = some x →
    s.chanPowered x = true →
    o.stage = 0 →
    let s1 := s.chanRetire x;
    exec .channelRetireCompletion s = .next (if s.chanRetired x then s.complete o .retired res else if s.leavesFew x && o.f 3 0 0 == 0 then s.complete o .noSpare res else if s1.chanSettles x then s1.putOp { o with stage := 1 } else ok s1)) ∧
  (∀ (o : Op) (x : Chan) (s : State),
    let ok (s : State) : State := (s.journal 0x2A true (targetWord 0 0x050 0) (o.w 2) (s.chanWord x) 0).complete o .ok [wd (s.chanWord x), wd (s.opMicros o)];
    s.chanOp 0x0A02 = some o →
    chanOf (o.w 2) = some x →
    o.stage ≠ 0 →
    s.chanSettles x = false →
    exec .channelRetireCompletion s = .next (ok s)) ∧
  (∀ (pass : Bool) (good : Fin 75) (o : Op) (x : Chan) (s : State),
    s.chanOp 0x0A03 = some o →
    chanOf (o.w 2) = some x →
    s.chanPowered x = false →
    o.stage = 0 →
    exec (.channelRestoreCompletion pass good) s = .next (s.complete o .domainOff [])) ∧
  (∀ (pass : Bool) (good : Fin 75) (o : Op) (x : Chan) (s : State),
    let ok (s : State) : State := (s.journal 0x29 false (targetWord 0 0x050 0) (o.w 2) (s.chanWord x) 0).complete o .ok [wd (s.chanWord x), wd (s.opMicros o)];
    s.chanOp 0x0A03 = some o →
    chanOf (o.w 2) = some x →
    o.stage ≠ 0 →
    s.chanSettles x = false →
    exec (.channelRestoreCompletion pass good) s = .next (ok s)) ∧
  (∀ (pass : Bool) (good : Fin 75) (o : Op) (e : Nat) (s : State),
    let x := Chan.edge e;
    let ok (s : State) : State := (s.journal 0x29 false (targetWord 0 0x050 0) (o.w 2) (s.chanWord x) 0).complete o .ok [wd (s.chanWord x), wd (s.opMicros o)];
    s.chanOp 0x0A03 = some o →
    chanOf (o.w 2) = some x →
    o.stage = 0 →
    s.chanPowered x = true →
    s.edgeTraining e = false →
    exec (.channelRestoreCompletion pass good) s = .next (if s.edgeState e = egActive then ok s else s.complete o (if s.bestStep e = 3 then .noSpare else .hwFault) [wd (s.chanWord x), wd (s.opMicros o)])) ∧
  (∀ (pass : Bool) (good : Fin 75) (o : Op) (k ch : Nat) (s : State),
    let x := Chan.dram k ch;
    let ok (s : State) : State := (s.journal 0x29 false (targetWord 0 0x050 0) (o.w 2) (s.chanWord x) 0).complete o .ok [wd (s.chanWord x), wd (s.opMicros o)];
    s.chanOp 0x0A03 = some o →
    chanOf (o.w 2) = some x →
    o.stage = 0 →
    s.chanPowered x = true →
    exec (.channelRestoreCompletion pass good) s = .next (if pass ∧ 72 ≤ good.val then ok (s.chanRestore good.val x) else s.complete o (if pass then .noSpare else .hwFault) [wd (s.chanWord x), wd (s.opMicros o)])) ∧
  (∀ (pass : Bool) (good : Fin 75) (o : Op) (x : Chan) (s : State),
    let ok (s : State) : State := (s.journal 0x29 false (targetWord 0 0x050 0) (o.w 2) (s.chanWord x) 0).complete o .ok [wd (s.chanWord x), wd (s.opMicros o)];
    s.chanOp 0x0A03 = some o →
    chanOf (o.w 2) = some x →
    (∀ e, x ≠ .edge e) →
    (∀ k ch, x ≠ .dram k ch) →
    o.stage = 0 →
    s.chanPowered x = true →
    s.chanDropped x = false →
    let s1 := s.chanRestore 0 x;
    let s2 := s.chanFailed x;
    exec (.channelRestoreCompletion pass good) s = .next (if pass then (if s1.chanSettles x then s1.putOp { o with stage := 1 } else ok s1) else s2.complete o .hwFault [wd (s2.chanWord x), wd (s2.opMicros o)]))

/-- A debug write that reaches its register, from the owner with the right it needs, halts, resumes or steps running and halted cores, reads and writes a halted core's registers, and holds or releases what is emulated; a breakpoint hit halts its core. A halt, resume or step from any other access path than the owner, or without right 0, only sets DBG_STAT.denied. -/
def Obligations.RunControl : Prop :=
  (∀ (w : DbgBy) (n : Fin 8) (v : Word) (regs : List (Nat × Nat)) (s : State),
    let x := v.toNat ||| 2 ^ 31;
    let s1 := (s.setF (dbgCore n.val) F.DBG_RUN_halt_on_reset (bitsOf x 4 4)).setF (dbgCore n.val) F.DBG_RUN_step_ie (bitsOf x 3 3);
    dbgReaches s w (0x100 + 0x40 * n.val) = true →
    s.dbgOwner w = true →
    s.right 0 = true →
    s.mainGood = true →
    s1.cueState n.val = cuRunning →
    exec (.dbgHalt w n v regs) s = .next (s1.haltCue n.val 0 regs)) ∧
  (∀ (w : DbgBy) (n : Fin 8) (v : Word) (s : State),
    let x := v.toNat ||| 2 ^ 30;
    let s1 := (s.setF (dbgCore n.val) F.DBG_RUN_halt_on_reset (bitsOf x 4 4)).setF (dbgCore n.val) F.DBG_RUN_step_ie (bitsOf x 3 3);
    dbgReaches s w (0x100 + 0x40 * n.val) = true →
    s.dbgOwner w = true →
    s.right 0 = true →
    s.mainGood = true →
    s1.cueState n.val = cuHalted →
    exec (.dbgResume w n v) s = .next (s1.toCue n.val cuRunning)) ∧
  (∀ (w : DbgBy) (n : Fin 8) (v : Word) (regs : List (Nat × Nat)) (s : State),
    let x := v.toNat ||| 2 ^ 29;
    let s1 := (s.setF (dbgCore n.val) F.DBG_RUN_halt_on_reset (bitsOf x 4 4)).setF (dbgCore n.val) F.DBG_RUN_step_ie (bitsOf x 3 3);
    dbgReaches s w (0x100 + 0x40 * n.val) = true →
    s.dbgOwner w = true →
    s.right 0 = true →
    s.mainGood = true →
    v.toNat.testBit 30 = false →
    s1.cueState n.val = cuHalted →
    exec (.dbgStep w n v regs) s = .next ((s1.toCue n.val cuRunning).haltCue n.val 2 regs)) ∧
  (∀ (w : DbgBy) (mask : BitVec 8) (regs : List (Nat × Nat × Nat)) (s : State),
    dbgReaches s w 0x64 = true →
    s.dbgOwner w = true →
    s.right 0 = true →
    s.mainGood = true →
    exec (.dbgGroupHalt w mask regs) s = .next ((List.range 8).foldl (fun u n => if s.cueState n = cuRunning ∧ mask.toNat.testBit n then u.haltCue n 0 (regsOf n regs) else u) s)) ∧
  (∀ (w : DbgBy) (mask : BitVec 8) (s : State),
    dbgReaches s w 0x64 = true →
    s.dbgOwner w = true →
    s.right 0 = true →
    s.mainGood = true →
    exec (.dbgGroupResume w mask) s = .next ((List.range 8).foldl (fun u n => if s.cueState n ≠ cuRunning ∧ mask.toNat.testBit n then u.resumeCue n else u) s)) ∧
  (∀ (n : Fin 8) (k : Fin 4) (kind : BpKind) (addr : BitVec 40) (regs : List (Nat × Nat)) (s : State),
    s.bpHit n.val k.val kind addr.toNat = true →
    exec (.breakpointHit n k kind addr regs) s = .next (s.haltCue n.val 1 regs)) ∧
  (∀ (w : DbgBy) (n : Fin 8) (v : Word) (s : State),
    let x := v.toNat ||| 2 ^ 31;
    let b := dbgCore n.val;
    let s0 := if x.testBit 29 then s.lower b F.DBG_CREG_CTL_err else s;
    let s1 := (s0.setF b F.DBG_CREG_CTL_write (bitsOf x 30 30)).setF b F.DBG_CREG_CTL_regno (bitsOf x 15 0);
    let r := bitsOf x 15 0;
    dbgReaches s w (0x104 + 0x40 * n.val) = true →
    s.dbgOwner w = true →
    s.right 0 = true →
    s1.mainGood = true →
    s1.cueIsHalted n.val = true →
    cregOk r = true →
    exec (.dbgCregGo w n v) s = .next ((if x.testBit 30 then (if r = 0x1000 then s1 else s1.setCueReg n.val r (s1.getF b F.DBG_CREG_DATA_HI_data * 4294967296 + s1.getF b F.DBG_CREG_DATA_LO_data)) else (s1.setF b F.DBG_CREG_DATA_LO_data (s1.cueReg n.val r)).setF b F.DBG_CREG_DATA_HI_data (s1.cueReg n.val r / 4294967296)))) ∧
  (∀ (w : DbgBy) (v : Word) (s : State),
    dbgReaches s w 0x50 = true →
    s.dbgOwner w = true →
    s.right 4 = true →
    exec (.dbgHoldCueWrite w v) s = .next ((List.range 8).foldl (fun s n => if v.toNat.testBit n then s else s.endCueEmul n) (s.setF dbgBase F.DBG_HOLD_CUE_hold (v.toNat % 256)))) ∧
  (∀ (w : DbgBy) (v : Word) (s : State),
    dbgReaches s w 0x54 = true →
    s.dbgOwner w = true →
    s.right 4 = true →
    exec (.dbgHoldFWrite w false v) s = .next ((List.range 32).foldl (fun s i => if v.toNat.testBit i then s else s.endFacetEmul i) (s.setF dbgBase F.DBG_HOLD_F_LO_hold v.toNat))) ∧
  (∀ (w : DbgBy) (v : Word) (s : State),
    dbgReaches s w 0x58 = true →
    s.dbgOwner w = true →
    s.right 4 = true →
    exec (.dbgHoldFWrite w true v) s = .next ((List.range 16).foldl (fun s i => if v.toNat.testBit i then s else s.endFacetEmul (32 + i)) (s.setF dbgBase F.DBG_HOLD_F_HI_hold v.toNat))) ∧
  (∀ (w : DbgBy) (n : Fin 8) (v : Word) (regs : List (Nat × Nat)) (s : State), dbgReaches s w (0x100 + 0x40 * n.val) = true →
    s.dbgOwner w = false ∨ s.right 0 = false →
    exec (.dbgHalt w n v regs) s = .next (s.raise dbgBase F.DBG_STAT_denied) ∧
    exec (.dbgResume w n v) s = .next (s.raise dbgBase F.DBG_STAT_denied) ∧
    exec (.dbgStep w n v regs) s = .next (s.raise dbgBase F.DBG_STAT_denied))

/-- A challenge draws a nonce and an unlock uses it; the nonce and the rights expire and a relock ends them; the debug domain starts and stops with VCC_DBG; the access master starts, ends and times out; trace stores what its sources give, and waits while the register port that it exports by is held. -/
def Obligations.DebugRights : Prop :=
  (∀ (c : Cmd) (s : State),
    Takes s 0x0900 c →
    c.len = 2 →
    (c.aimsDbg) = true →
    (!s.ident.debugPolicy.testBit 6) = true →
    (s.dbg.on) = true →
    let u := s.take 0x0900 c;
    let r : State × List Word :=
      (let v := Config.nonce u.dbg.drawn
      ({ u with dbg := { u.dbg with nonce := some (u.dbg.drawn, u.now), drawn := u.dbg.drawn + 1 } },
      (List.range 8).map (fun i => wd (v / 2 ^ (32 * i)))));
    exec (.dbgChallenge c) s = .next (r.1.answer 0x0900 c .ok r.2)) ∧
  (∀ (c : Cmd) (s : State),
    Takes s 0x0901 c →
    c.len = 100 →
    c.aimsDbg = true →
    s.ident.debugPolicy.testBit 6 = false →
    c.unlockOk = true →
    s.dbg.on = true →
    let s1 := s.take 0x0901 c;
    let u : State := { s1 with dbg := { s1.dbg with nonce := none } };
    let s2 := if s1.rightsLocked then u.setRights (c.f 2 7 0) (some (s1.now + c.f 2 31 16 * 60000000000)) else u;
    exec (.dbgUnlock c) s = .next ((if s1.tokenOk c then s2.answer 0x0901 c .ok [wd (s2.getF dbgBase F.DBG_RIGHTS_rights), wd s2.rightsLeft] else (u.raise dbgBase F.DBG_STAT_auth_failed).answer 0x0901 c .authFail []))) ∧
  (∀ (x1_ : _) (t : _) (s : State),
    s.dbg.nonce = some (x1_, t) →
    let s1 := s.reachNow (t + 60000000000);
    exec .nonceExpiry s = .next ({ s1 with dbg := { s1.dbg with nonce := none } })) ∧
  (∀ (t : _) (s : State),
    s.dbg.expiry = some t →
    exec .rightsExpiry s = .next ((s.reachNow t).endRights)) ∧
  (∀ (w : DbgBy) (owner : Bool) (s : State),
    dbgReaches s w 0x14 = true →
    exec (.dbgRelock w owner) s = .next ((s.setF dbgBase F.DBG_CTL_owner (bit owner)).endRights)) ∧
  (∀ (s : State),
    s.dbg.on = false →
    let s1 : State := ((s.clearRegs dbgBase (dbgBase + 0x10000)).clearCounters dbgBase (dbgBase + 0x10000));
    let s2 : State := { s1 with dbg := { on := true, drawn := s.dbg.drawn } };
    exec .vccDbgRise s = .next ((if s2.rightsLocked then s2 else s2.setF dbgBase F.DBG_RIGHTS_rights 0xFF))) ∧
  (∀ (s : State),
    s.dbg.on = true →
    let s1 := s.setRights 0 none;
    exec .vccDbgLoss s = .next ({ ((s1.clearRegs dbgBase (dbgBase + 0x10000)).clearCounters dbgBase (dbgBase + 0x10000)) with dbg := { drawn := s1.dbg.drawn } })) ∧
  (∀ (w : DbgBy) (v : Word) (s : State),
    let s2 := (s.plainWrite 0 0x0F0 0x30 (v.toNat ||| 2 ^ 31)).lower dbgBase F.DBGA_STAT_poison;
    dbgReaches s w 0x30 = true →
    s.dbgOwner w = true →
    s.flag dbgBase F.DBGA_STAT_busy = false →
    s2.dbgaBarred = false →
    s2.mainGood = true →
    exec (.dbgaGo w v) s = .next (s2.dbgaStart)) ∧
  (∀ (es : List LineErr) (st : Status) (data : BitVec 64) (poison : Bool) (r : _) (s : State),
    s.flag dbgBase F.DBGA_STAT_busy = true →
    s.now ≤ s.dbg.goAt + 10000 →
    s.dbgaDo es st data poison = some r →
    exec (.dbgaAccessDone es st data poison) s = .next (r.2.dbgaEnd s.dbgaSize (s.flag dbgBase F.DBGA_CTL_write) r.1)) ∧
  (∀ (s : State),
    s.flag dbgBase F.DBGA_STAT_busy = true →
    let s1 := s.reachNow (s.dbg.goAt + 10000);
    exec .dbgaTimeout s = .next ((s1.lower dbgBase F.DBGA_STAT_busy).setF dbgBase F.DBGA_STAT_err 5)) ∧
  (∀ (w : DbgBy) (p : Fin 64) (v : Word) (s : State),
    dbgReaches s w (0x600 + 4 * p.val) = true →
    s.tracing = true →
    exec (.dbgStimWrite w p v) s = .next (s.traceFrom 1 p.val (s.traces 1) 1 (stimAgent w) v.toNat)) ∧
  (∀ (pcs : List (BitVec 40)) (s : State),
    s.getF dbgBase F.DBG_TRC_PCS_interval ≠ 0 →
    s.traces 4 = true →
    exec (.pcSample pcs) s = .next ((List.range 8).foldl (fun s n =>
      let pc := (pcs.getD n 0).toNat
      if (s.getF dbgBase F.DBG_TRC_PCS_cores).testBit n then s.tracePacket 4 n (pc / 4294967296) pc false else s) s)) ∧
  (∀ (es : List LineErr) (ans : Bool) (p : _) (t : _) (s : State),
    s.dbg.queue = p :: t →
    let s1 : State := { s with dbg := { s.dbg with queue := t } };
    s1.tracing = true →
    s1.exportWaits = true →
    exec (.tracePacketStore es ans) s = .next s) ∧
  (∀ (es : List LineErr) (ans : Bool) (p : _) (t : _) (s : State),
    s.dbg.queue = p :: t →
    let s1 : State := { s with dbg := { s.dbg with queue := t } };
    (s1.tracing && s1.exportWaits) = false →
    exec (.tracePacketStore es ans) s = .next ((if !s1.tracing then s1 else let s2 := (if s1.dbg.lost = 0 then s1 else ({ s1 with dbg := { s1.dbg with lost := 0 } } : State).storePacket { words := [0x60000000, s1.dbg.lost, p.words.getD 2 0, p.words.getD 3 0], trig := false } es ans); (if s2.tracing then s2.storePacket p es ans else s2)))) ∧
  (∀ (w : DbgBy) (v : Word) (s : State),
    let x := v.toNat ||| 2 ^ 28;
    let s1 := ((((s.setF dbgBase F.DBG_TRC_CTL_enable (bitsOf x 31 31)).setF dbgBase F.DBG_TRC_CTL_wrap (bitsOf x 30 30)).setF dbgBase F.DBG_TRC_CTL_export (bitsOf x 29 29)).setF dbgBase F.DBG_TRC_CTL_post (bitsOf x 15 8)).setF dbgBase F.DBG_TRC_CTL_types (bitsOf x 7 0);
    dbgReaches s w 0x400 = true →
    s.dbgOwner w = true →
    s.policyBars 4 5 = false →
    exec (.dbgTrcClear w v) s = .next ((({ s1 with dbg := { s1.dbg with stopped := false, remain := none, noExp := false, tbuf := [] } } : State).lower dbgBase F.DBG_TRC_STAT_wptr).lower dbgBase F.DBG_TRC_STAT_wrapped)) ∧
  (∀ (es : List LineErr) (st : Status) (data : BitVec 64) (poison : Bool) (s : State),
    s.flag dbgBase F.DBGA_STAT_busy = true →
    s.dbg.goAt + 10000 < s.now →
    exec (.dbgaAccessDone es st data poison) s = .next ((s.lower dbgBase F.DBGA_STAT_busy).setF dbgBase F.DBGA_STAT_err 5))

/-- Each instruction of the test access port, with VCC_DBG good, loads and shifts its register: the IDCODE, the one-bit bypass register, the boundary-scan cells while the main rails are good, a debug register, or a command-path register. -/
def Obligations.TestAccessPort : Prop :=
  (∀ (s : State),
    s.dbg.on = true →
    exec .testLogicReset s = .next (s.tapLoad .idcode)) ∧
  (∀ (s : State),
    s.dbg.on = true →
    exec .idcode s = .next ((s.tapLoad .idcode).emit (.tdo 32 0x1944056D))) ∧
  (∀ (v : BitVec 49) (s : State),
    s.dbg.on = true →
    let s1 := s.tapAccess .dbgreg;
    exec (.dbgreg v) s = .next ((if v.getLsbD 48 then (s1.dbgWrite .jtag (scanOff v) (fun s => s.dbgReg .jtag (scanOff v) (bitsOf v.toNat 31 0))).setCapture (captured 0) else s1.setCapture (captured (s1.wordAt .debug 0 0x0F0 .dbg (scanOff v)))))) ∧
  (∀ (v : BitVec 49) (s : State),
    s.dbg.on = true →
    let s1 := s.tapAccess .cmdpath;
    let o := scanOff v;
    exec (.cmdpath v) s = .next ((if !s1.spiAnswers then s1.setCapture 0 else (if v.getLsbD 48 then (s1.pathWrite o (bitsOf v.toNat 31 0)).setCapture (captured 0) else s1.setCapture (captured (s1.pathRead o)))))) ∧
  (∀ (s : State),
    s.dbg.on = true →
    exec .bypass s = .next ((s.tapLoad .bypass).emit (.tdo 1 0))) ∧
  (∀ (s : State),
    s.dbg.on = true →
    exec .clamp s = .next ((s.tapLoad .clamp).emit (.tdo 1 0))) ∧
  (∀ (s : State),
    s.dbg.on = true →
    exec .highz s = .next ((s.tapLoad .highz).emit (.tdo 1 0))) ∧
  (∀ (pins : Nat) (v : Nat) (s : State),
    let s1 := (s.tapLoad .extest).emit (.tdo scanCells (pins % 2 ^ scanCells));
    s.dbg.on = true →
    s.mainGood = true →
    exec (.extest pins v) s = .next ({ s1 with dbg := { s1.dbg with scan := v % 2 ^ scanCells } })) ∧
  (∀ (pins : Nat) (v : Nat) (s : State),
    let s1 := (s.tapLoad .sample).emit (.tdo scanCells (pins % 2 ^ scanCells));
    s.dbg.on = true →
    s.mainGood = true →
    exec (.samplePreload pins v) s = .next ({ s1 with dbg := { s1.dbg with scan := v % 2 ^ scanCells } })) ∧
  (∀ (pins : Nat) (v : Nat) (s : State),
    let s1 := (s.tapLoad .extestPulse).emit (.tdo scanCells (pins % 2 ^ scanCells));
    s.dbg.on = true →
    s.mainGood = true →
    exec (.extestPulse pins v) s = .next ({ s1 with dbg := { s1.dbg with scan := v % 2 ^ scanCells } })) ∧
  (∀ (pins : Nat) (v : Nat) (s : State),
    let s1 := (s.tapLoad .extestTrain).emit (.tdo scanCells (pins % 2 ^ scanCells));
    s.dbg.on = true →
    s.mainGood = true →
    exec (.extestTrain pins v) s = .next ({ s1 with dbg := { s1.dbg with scan := v % 2 ^ scanCells } }))

/-- CUE_CTL, taken with every check passed, and its query; the fault, timer, reservation and watchdog events of a core; and the writes that reach its watchdog and software-interrupt registers answer the next state named. -/
def Obligations.CueCores : Prop :=
  (∀ (c : Cmd) (s : State),
    let n := c.cueOf.getD 0;
    Takes s 0x0108 c →
    c.len = 5 →
    (c.cueOf.isSome) = true →
    (s.cueCtlOk n c) = true →
    s.cueState n ≠ cuOff →
    (!s.heldByOther c) = true →
    s.cueState n ≠ cuStopped →
    let u := (s.take 0x0108 c).accept 0x0108 c none;
    exec (.cueCtl c) s = .next (u.cueCtl n c)) ∧
  (∀ (c : Cmd) (s : State),
    let n := c.cueOf.getD 0;
    Takes s 0x0188 c →
    c.len = 2 →
    (c.cueOf.isSome) = true →
    let u := s.take 0x0188 c;
    exec (.cueCtlQuery c) s = .next ((u).answer 0x0188 c .ok [wd (bit (u.cueState n == cuRunning)), wd (u.cueEntry n % 4294967296), wd (u.cueEntry n / 4294967296)])) ∧
  (∀ (n : Fin 8) (o : Op) (s : State),
    s.pendingOn 0x0108 (cueWord n.val) = some o →
    exec (.cueCtlCompletion n) s = .next (s.complete o .ok [wd (s.cueState n.val)])) ∧
  (∀ (n : Fin 8) (cause : BitVec 64) (pc : BitVec 64) (s : State),
    s.cueState n.val = cuRunning →
    let b := cueBase n.val;
    let s1 := ((s.raise b F.CUE_STAT_faulted).setF b F.CUE_CAUSE_interrupt (bitsOf cause.toNat 63 63)).setF b F.CUE_CAUSE_code cause.toNat;
    let s2 := (s1.setF b F.CUE_FAULT_PC_LO_pc pc.toNat).setF b F.CUE_FAULT_PC_HI_pc (bitsOf pc.toNat 39 32);
    exec (.cueFault n cause pc) s = .next ((s2.setCueX n.val { s2.cueX n.val with resv := none }).toCue n.val cuFaulted)) ∧
  (∀ (n : Fin 8) (s : State),
    let t := s.mtimecmp n.val;
    exec (.cueTimerInterrupt n) s = .next ((if t ≤ s.mtime then s.settleTimer n.val else (s.waitNs (10 * (t - s.mtime))).settleTimer n.val))) ∧
  (∀ (n : Fin 8) (a t : Nat) (s : State),
    (s.cueX n.val).resv = some (a, t) →
    let s1 := s.waitNs (monus (t + 3414) s.now);
    exec (.cueReservationTimeout n) s = .next (s1.setCueX n.val { s1.cueX n.val with resv := none })) ∧
  (∀ (n : Fin 8) (s0 : State),
    let x := s0.cueX n.val;
    let s := s0.waitNs (monus (x.wdtAt + x.wdt * 1000) s0.now);
    s0.wdtCounts n.val = true →
    exec (.cueWdtExpiry n) s0 = .next ((if !x.first then (s.cueMark n.val F.CUE_STAT_wdt_expired).loadWdt n.val |> fun s => s.setCueX n.val { s.cueX n.val with first := true } else let a := s.getF (cueBase n.val) F.CUE_WDT_CFG_action; let s1 := (s.setCueX n.val { x with first := false }).loadWdt n.val; (if a = 0 then s1 else let s2 := s1.cueMark n.val F.CUE_STAT_wdt_reset; (if a = 2 then s2.holdCue n.val else s2.restartCue n.val))))) ∧
  (∀ (m : Master) (n : Fin 8) (v : Word) (s : State),
    let s1 := s.setCueX n.val { s.cueX n.val with first := false };
    Reaches s m 0 (0x010 + n.val) 0x20 →
    m = .debug ∨ m = .cue n →
    v.getLsbD 0 = true →
    exec (.cueWdtKick m n v) s = .next ((if s1.wdtOn n.val then s1.loadWdt n.val else s1))) ∧
  (∀ (m : Master) (n : Fin 8) (v : Word) (s : State),
    CueReaches s m n.val 0x18 →
    s.flag (cueBase n.val) F.CUE_WDT_CFG_lock = false →
    exec (.cueWdtCfgWrite m n v) s = .next (s.wdtCfg m n.val v.toNat)) ∧
  (∀ (m : Master) (n : Fin 8) (v : Word) (s : State),
    CueReaches s m n.val 0x24 →
    exec (.cueMsipWrite m n v) s = .next (s.setF (cueBase n.val) F.CUE_MSIP_msip (v.toNat % 2)))

/-- The writes that reach a mailbox from the agent its rule names: the debug master or cue core 0 binds it, its sender sends, rings and withdraws, its receiver replies; each answers the next state named. -/
def Obligations.Mailboxes : Prop :=
  (∀ (m : Master) (i : Fin 48) (v : Word) (s : State),
    Reaches s m 0 0x008 (0x100 + 0x20 * i.val + 0x00) →
    isAgent m 0 = true →
    s.mbFull i.val = false →
    exec (.mbCfgWrite m i v) s = .next (((s.setF (mbBase i.val) F.MB_CFG_enable (bitsOf v.toNat 31 31)).setF (mbBase i.val) F.MB_CFG_receiver (bitsOf v.toNat 7 4)).setF (mbBase i.val) F.MB_CFG_sender (bitsOf v.toNat 3 0))) ∧
  (∀ (m : Master) (i : Fin 48) (v : Word) (s : State),
    let b := mbBase i.val;
    Reaches s m 0 0x008 (0x100 + 0x20 * i.val + 0x04) →
    s.mbBound i.val = true →
    isAgent m (s.mbSender i.val) = true →
    s.mbFull i.val = false →
    exec (.mbMsgWrite m i v) s = .next ((((((s.setF b F.MB_MSG_msg v.toNat).raise b F.MB_STAT_full).setF b F.MB_STAT_send_epoch (s.epoch (s.mbSender i.val))).lower b F.MB_ACK_valid).lower b F.MB_ACK_orphan).mbSettle i.val)) ∧
  (∀ (m : Master) (i : Fin 48) (v : Word) (s : State),
    Reaches s m 0 0x008 (0x100 + 0x20 * i.val + 0x10) →
    s.mbBound i.val = true →
    isAgent m (s.mbSender i.val) = true →
    exec (.mbRing m i v) s = .next ((s.setF (mbBase i.val) F.MB_DOOR_door (s.getF (mbBase i.val) F.MB_DOOR_door ||| v.toNat)).mbSettle i.val)) ∧
  (∀ (m : Master) (i : Fin 48) (code : BitVec 16) (s : State),
    let b := mbBase i.val;
    Reaches s m 0 0x008 (0x100 + 0x20 * i.val + 0x1C) →
    s.mbBound i.val = true →
    isAgent m (s.mbReceiver i.val) = true →
    s.mbFull i.val = true →
    exec (.mbReply m i code) s = .next ((((((s.setF b F.MB_ACK_code code.toNat).raise b F.MB_ACK_valid).lower b F.MB_STAT_full).setB b F.MB_ACK_orphan (s.epoch (s.mbSender i.val) != s.getF b F.MB_STAT_send_epoch)).signal (640 + i.val)))) ∧
  (∀ (m : Master) (i : Fin 48) (s : State),
    Reaches s m 0 0x008 (0x100 + 0x20 * i.val + 0x08) →
    s.mbBound i.val = true →
    isAgent m (s.mbSender i.val) = true →
    s.mbFull i.val = true →
    exec (.mbStatWithdraw m i) s = .next ((s.lower (mbBase i.val) F.MB_STAT_full).mbMark i.val F.MB_STAT_withdrawn))

/-- The writes that start, disable and abort a DMA channel, from a master that may use it, and the ends of its transfer answer the next state named. -/
def Obligations.DmaChannels : Prop :=
  (∀ (m : Master) (c : Fin 16) (v : Word) (s : State),
    let s1 := s.dmaCtl c.val v.toNat;
    s.busUp = true →
    dmaForeign m c.val = false →
    Reaches s m 0 0x002 (0x100 + 0x40 * c.val + 0x14) →
    s1.dmaState c.val = 0 →
    s1.dmaSrc c.val % 64 = 0 →
    s1.dmaDst c.val % 64 = 0 →
    (2 ≤ s1.getF (dmaCh c.val) F.DMA_CTL_dir → peerAddrOk (s1.dmaSrc c.val) = true ∧ peerAddrOk (s1.dmaDst c.val) = true) →
    exec (.dmaStart m c v) s = .next ((if s1.getF (dmaCh c.val) F.DMA_LEN_len = 0 then s1.dmaEnd c.val 0 true false else (s1.setF (dmaCh c.val) F.DMA_CHSTAT_state 1).lower (dmaCh c.val) F.DMA_DONE_moved))) ∧
  (∀ (m : Master) (c : Fin 16) (v : Word) (s : State),
    let s1 := s.dmaCtl c.val v.toNat;
    s.busUp = true →
    dmaForeign m c.val = false →
    Reaches s m 0 0x002 (0x100 + 0x40 * c.val + 0x14) →
    s1.dmaState c.val = 1 →
    exec (.dmaDisable m c v) s = .next (s1.setF (dmaCh c.val) F.DMA_CHSTAT_state 2)) ∧
  (∀ (m : Master) (c : Fin 16) (v : Word) (n : Nat) (es : List LineErr) (ans : List (Option (List Byte × Bool))) (s : State),
    s.busUp = true →
    dmaForeign m c.val = false →
    Reaches s m 0 0x002 (0x100 + 0x40 * c.val + 0x14) →
    s.dmaState c.val ≠ 0 →
    exec (.dmaAbort m c v n es ans) s = .next ((s.dmaFinish c.val n false true es ans).dmaCtl c.val v.toNat)) ∧
  (∀ (c : Fin 16) (n : Nat) (es : List LineErr) (ans : List (Option (List Byte × Bool))) (s : State),
    s.dmaState c.val = 2 →
    s.hq.handover = false →
    exec (.dmaDisableDone c n es ans) s = .next (s.dmaFinish c.val n true false es ans)) ∧
  (∀ (c : Fin 16) (es : List LineErr) (ans : List (Option (List Byte × Bool))) (s : State),
    s.dmaState c.val = 1 →
    s.hq.handover = false →
    exec (.dmaTransferDone c es ans) s = .next (s.dmaFinish c.val (s.getF (dmaCh c.val) F.DMA_LEN_len) false false es ans))

/-- A lane-port beat received or requested, a write of a stream port's control, the requests, responses and timeouts of the register port, a user event line and the probe control answer the next state named. -/
def Obligations.PortsAndProbes : Prop :=
  (∀ (q : Fin 4) (p : Fin 72) (x : Beat) (taken : Nat) (s : State),
    let b := portBase q.val (.rx p);
    let f := laneFacet q.val p.val;
    let s1 := if s.spMoves b f then s.spDrain b f taken else s;
    exec (.lanePortBeatReceive q p x taken) s = .next (s1.spArrive b f 64 x)) ∧
  (∀ (q : Fin 4) (p : Fin 72) (given : List Beat) (s : State),
    let b := portBase q.val (.tx p);
    let f := laneFacet q.val p.val;
    let n := 72 * (q.val % 2) + p.val;
    let south := decide (2 ≤ q.val);
    let s1 := s.spGive b f 64 given;
    exec (.lanePortBeatRequest q p given) s = .next ((if s1.portFeeds n south then (match (s1.spq b).beats with | [] => (if s1.glUses n south then s1 else s1.spRequest b f) | x :: _ => (s1.spRequest b f).giveTaken n south x) else s1))) ∧
  (∀ (m : Master) (q : Fin 4) (p : SpPort) (v : Word) (s : State),
    Reaches s m (1 + q.val) 0x020 p.off →
    exec (.spCtlWrite m q p v) s = .next (s.spCtl q.val p v.toNat)) ∧
  (∀ (q : Fin 4) (r : _) (t : _) (s : State),
    s.rpWait q.val = r :: t →
    (s.rpOut q.val).length < 8 →
    s.regportReady q.val = true →
    exec (.regportRequest q) s = .next (((s.setRpWait q.val t).setRpOut q.val (s.rpOut q.val ++ [{ r with time := s.now }])).emit (.regport q.val r))) ∧
  (∀ (q : Fin 4) (err : Bool) (data : BitVec 64) (s : State),
    SMap.get 0 s.fab.late q.val ≠ 0 →
    exec (.regportResponse q err data) s = .next ({ s with fab := { s.fab with late := SMap.put 0 s.fab.late q.val (SMap.get 0 s.fab.late q.val - 1) } })) ∧
  (∀ (q : Fin 4) (err : Bool) (data : BitVec 64) (r : _) (t : _) (s : State),
    SMap.get 0 s.fab.late q.val = 0 →
    s.rpOut q.val = r :: t →
    let s1 := s.setRpOut q.val t;
    exec (.regportResponse q err data) s = .next ((if err then (s1.rpMark q.val F.QSYS_RP_STAT_error).rpFail q.val r 0x0500 else (match r.ring with | some h => s1.rpPart q.val h r.last 0 (if r.write then [] else enabledList r.be data) | none => s1.emit (.bus r.master (winAddr q.val r.addr) (if r.write then .done else .value (enabledBytes r.be data))))))) ∧
  (∀ (q : Fin 4) (r : _) (t : _) (s : State),
    s.rpOut q.val = r :: t →
    let s1 := s.setRpOut q.val t;
    let s2 : State := { s1 with fab := { s1.fab with late := SMap.put 0 s1.fab.late q.val (SMap.get 0 s1.fab.late q.val + 1) } };
    exec (.regportTimeout q) s = .next ((s2.rpMark q.val F.QSYS_RP_STAT_timeout).rpFail q.val r 0x0400)) ∧
  (∀ (q : Fin 4) (r : _) (t : _) (s : State),
    s.rpOut q.val = [] →
    s.rpWait q.val = r :: t →
    exec (.regportTimeout q) s = .next (((s.setRpWait q.val t).rpMark q.val F.QSYS_RP_STAT_timeout).rpFail q.val r 0x0400)) ∧
  (∀ (q : Fin 4) (j : Fin 56) (level : Bool) (s : State),
    let s1 : State := { s with fab := { s.fab with lines := SMap.put 0 s.fab.lines (56 * q.val + j.val) (bit level) } };
    exec (.userEventLine q j level) s = .next ((if s1.lineOut q.val j.val = 1 then s1.signal (lineSrc q.val j.val) else s1))) ∧
  (∀ (m : Master) (q : Fin 4) (v : Word) (s : State),
    Reaches s m (1 + q.val) 0x038 0x0C →
    s.probeLocked = false →
    exec (.probeCtlWrite m q v) s = .next (s.setF (probeBase q.val) F.PROBE_CTL_enable (v.toNat % 16)))

/-- With the inputs that routing brings it, a bay port reads, writes and clears its unit, and an idle one does nothing; the bay scrubber checks, mends and rebuilds; the raw access of a quadrant and its queues do what their rules say; a clock edge that a stream arithmetic unit or a tile counts gives it its next value. Which sources the select of an input names is open, and that an operand's bit is the level of a source outside the fabric is the model's choice (assumption log 94). -/
def Obligations.BaysQueuesAndArithmetic : Prop :=
  (∀ (q : Fin 4) (deep : Bool) (i : Fin 4096) (portB : Bool) (laneWe : BitVec 4) (addr : BitVec 18) (din : BitVec 40) (s : State),
    let u := bayUnit q.val deep i.val;
    let clr := !portB && s.bayPins u false 64 1 0 == 1;
    let s0 := if clr then s.bayClr u else s;
    let pin (lo w v : Nat) : Nat := s0.bayPins u portB lo w v;
    bayExists deep i.val = true →
    s.portOpen u portB = true →
    s0.unitLoading u = false →
    pin 0 1 1 ≠ 0 →
    pin 1 1 1 = 1 →
    let width := s0.portWidth u portB;
    let a := pin 6 18 addr.toNat;
    let p := selectOf width a (BitVec.ofNat 4 (pin 2 4 laneWe.toNat));
    exec (.bayWrite q deep i portB laneWe addr din) s = .next (if clr then s0 else s0.bayStore u (p.1 % unitDepth u) p.2 (toLanes width a (BitVec.ofNat 40 (pin 24 40 din.toNat))))) ∧
  (∀ (q : Fin 4) (deep : Bool) (i : Fin 4096) (portB : Bool) (laneWe : BitVec 4) (addr : BitVec 18) (din : BitVec 40) (s : State),
    let u := bayUnit q.val deep i.val;
    let s0 := if !portB && s.bayPins u false 64 1 0 == 1 then s.bayClr u else s;
    s0.bayPins u portB 1 1 1 ≠ 1 →
    exec (.bayWrite q deep i portB laneWe addr din) s = exec (.bayRead q deep i portB addr) s) ∧
  (∀ (q : Fin 4) (deep : Bool) (i : Fin 4096) (portB : Bool) (laneWe : BitVec 4) (addr : BitVec 18) (din : BitVec 40) (s : State),
    let u := bayUnit q.val deep i.val;
    let s0 := if !portB && s.bayPins u false 64 1 0 == 1 then s.bayClr u else s;
    let t := if bayExists deep i.val && s.portOpen u portB then s0 else s;
    s0.bayPins u portB 0 1 1 = 0 →
    exec (.bayWrite q deep i portB laneWe addr din) s = .next t ∧ exec (.bayRead q deep i portB addr) s = .next t) ∧
  (∀ (q : Fin 4) (deep : Bool) (i : Fin 4096) (portB : Bool) (addr : BitVec 18) (s : State),
    let u := bayUnit q.val deep i.val;
    let s0 := if !portB && s.bayPins u false 64 1 0 == 1 then s.bayClr u else s;
    let pin (lo w v : Nat) : Nat := s0.bayPins u portB lo w v;
    let a := pin 6 18 addr.toNat;
    bayExists deep i.val = true →
    s.portOpen u portB = true →
    pin 0 1 1 ≠ 0 →
    exec (.bayRead q deep i portB addr) s = (if pin 1 1 0 = 1 then exec (.bayWrite q deep i portB 0 addr 0) s else .next ((if s0.unitLoading u then s0.emit (.bayRead u 0 0 false) else let width := s0.portWidth u portB; let p := selectOf width a 15; let r := s0.bayFetch u (p.1 % unitDepth u) p.2; let shift := if width = 20 then 2 * (a % 2) else if width = 10 then a % 4 else 0; r.2.2.2.emit (.bayRead u (r.1.toNat / 1024 ^ shift) (r.2.1.toNat / 2 ^ shift) r.2.2.1))))) ∧
  (∀ (q : Fin 4) (deep : Bool) (i : Fin 4096) (s : State),
    let u := bayUnit q.val deep i.val;
    bayExists deep i.val = true →
    s.portOpen u false = true →
    s.bayPins u false 64 1 1 ≠ 0 →
    exec (.bayClear q deep i) s = .next (if s.unitLoading u then s else s.clearUnit u)) ∧
  (∀ (q : Fin 4) (deep : Bool) (i : Fin 4096) (s : State),
    s.bayPins (bayUnit q.val deep i.val) false 64 1 1 = 0 →
    exec (.bayClear q deep i) s = .next s) ∧
  (∀ (q : Fin 4) (deep : Bool) (i : Fin 4096) (j : BayJob) (s : State),
    let u := bayUnit q.val deep i.val;
    let t := s.rawFirst u;
    bayExists deep i.val = true →
    s.slotFree u = true →
    t.bayJob u = some j →
    j.rebuild = false →
    exec (.bayMend q deep i) s = .next ((t.setJob u none).mendGroup u j.group)) ∧
  (∀ (q : Fin 4) (deep : Bool) (i : Fin 4096) (j : BayJob) (s : State),
    let u := bayUnit q.val deep i.val;
    let t := s.rawFirst u;
    bayExists deep i.val = true →
    s.slotFree u = true →
    t.bayJob u = some j →
    j.rebuild = true →
    exec (.bayRebuild q deep i) s = .next ((t.setJob u none).rebuildGroup u j.group)) ∧
  (∀ (q : Fin 4) (deep : Bool) (i : Fin 4096) (s : State),
    let u := bayUnit q.val deep i.val;
    let g := SMap.get 0 s.bays.next u;
    bayExists deep i.val = true →
    s.slotFree u = true →
    (s.bayJob u).isSome = false →
    s.flag (scrubBase q.val) F.SCRUB_CFG_bay_en = true →
    let s1 := ((s.rawFirst u).tidyCopies u g).mendGroup u g;
    exec (.bayScrubCheck q deep i) s = .next ({ s1 with bays := { s1.bays with next := SMap.put 0 s1.bays.next u ((g + 1) % (unitDepth u / 32)) } })) ∧
  (∀ (m : Master) (q : Fin 4) (deep : Bool) (bay : BitVec 12) (s : State),
    let b := qcBase q.val;
    let s1 := (s.setF b F.QC_RAW_CTL_deep (bit deep)).setF b F.QC_RAW_CTL_bay bay.toNat;
    Reaches s m (1 + q.val) 0x028 0x40 →
    SMap.get none s.bays.raw q.val = none →
    s1.rawRefused q.val = false →
    exec (.qcRawRead m q deep bay) s = .next (({ s1 with bays := { s1.bays with raw := SMap.put none s1.bays.raw q.val (some false) } } : State).raise b F.QC_RAW_CTL_pending)) ∧
  (∀ (m : Master) (q : Fin 4) (deep : Bool) (bay : BitVec 12) (s : State),
    let b := qcBase q.val;
    let s1 := (s.setF b F.QC_RAW_CTL_deep (bit deep)).setF b F.QC_RAW_CTL_bay bay.toNat;
    Reaches s m (1 + q.val) 0x028 0x40 →
    s.injectLocked = false →
    SMap.get none s.bays.raw q.val = none →
    s1.rawRefused q.val = false →
    exec (.qcRawWrite m q deep bay) s = .next (({ s1 with bays := { s1.bays with raw := SMap.put none s1.bays.raw q.val (some true) } } : State).raise b F.QC_RAW_CTL_pending)) ∧
  (∀ (q : Fin 4) (wr : _) (s : State),
    SMap.get none s.bays.raw q.val = some wr →
    s.rawRefused q.val = true →
    exec (.rawAccessDone q) s = .next ((s.rawOver q.val).rawMark q.val F.QC_BAYERR_STAT_raw_refused)) ∧
  (∀ (q : Fin 4) (wr : _) (s : State),
    SMap.get none s.bays.raw q.val = some wr →
    s.rawRefused q.val = false →
    s.slotFree (s.rawUnit q.val) = true →
    exec (.rawAccessDone q) s = .next ((if wr then (s.rawOver q.val).rawWrite q.val else (s.rawOver q.val).rawRead q.val))) ∧
  (∀ (q : Fin 4) (x1_ : _) (s : State),
    SMap.get none s.bays.raw q.val = some x1_ →
    exec (.rawAccessTimeout q) s = .next ((s.rawOver q.val).rawMark q.val (if s.rawRefused q.val then F.QC_BAYERR_STAT_raw_refused else F.QC_BAYERR_STAT_raw_timeout))) ∧
  (∀ (q : Fin 4) (n : Fin 480) (data : BitVec 80) (poison : Bool) (seen : Nat) (b : _) (s : State),
    s.qbind q.val n.val = some b →
    s.qcRuns q.val n.val b false = true →
    let was := s.qcAfull q.val n.val;
    let p0 := s.qptr q.val n.val;
    let p : QcPtr := { p0 with wSees := min p0.r (p0.wSees + seen) };
    let s1 := s.setQptr q.val n.val p;
    exec (.queueWrite q n data poison seen) s = .next ((if !s.flag (qctlBase q.val n.val) F.QC_QCTL_enable then s1.emit (.notReady q.val n.val) else (if b.depth ≤ p.level then (if s.flag (qctlBase q.val n.val) F.QC_QCTL_drop then (s1.qctlCount q.val n.val F.QC_SH_DROP_LO_drop F.QC_QSTAT_overflow).qcMark q.val n.val F.QC_QSTAT_overflow else s1.emit (.notReady q.val n.val)) else (((s1.storeEntry b q.val (p.w % b.depth) data.toNat poison).setQptr q.val n.val { p with w := p.w + 1 }).qctlCount q.val n.val F.QC_SH_ENQ_LO_enq F.QC_QSTAT_enq_overflow).sawAfull was q.val n.val)))) ∧
  (∀ (q : Fin 4) (n : Fin 480) (seen : Nat) (b : _) (s : State),
    s.qbind q.val n.val = some b →
    s.qcRuns q.val n.val b true = true →
    let p0 := s.qptr q.val n.val;
    let p : QcPtr := { p0 with rSees := min p0.w (p0.rSees + seen) };
    let s1 := s.setQptr q.val n.val p;
    exec (.queueRead q n seen) s = .next ((if p.rSees = p.r then s1 else let e := s1.fetchEntry q.val (p.r % b.depth) (b.units q.val); let poisonedWord := (b.units q.val).any (fun u => (s1.bword u (p.r % b.depth)).poisoned); let s2 := (e.2.2.setQptr q.val n.val { p with r := p.r + 1 }).emit (.entry q.val n.val (if poisonedWord then 0 else e.1) e.2.1); (if e.2.1 then (s2.qctlCount q.val n.val F.QC_SH_POISON_LO_poison F.QC_QSTAT_poison_seen).qcMark q.val n.val F.QC_QSTAT_poison_seen else s2)))) ∧
  (∀ (m : Master) (q : Fin 4) (n : Fin 480) (v : Word) (s : State),
    Reaches s m (1 + q.val) 0x028 (0x100 + 0x40 * n.val) →
    exec (.qcQctlWrite m q n v) s = .next (s.qctl q.val n.val v.toNat)) ∧
  (∀ (m : Master) (q : Fin 4) (n : Fin 480) (s : State),
    Reaches s m (1 + q.val) 0x028 (0x110 + 0x40 * n.val) →
    exec (.qcQcmdFlush m q n) s = .next (s.qcFlush m q.val n.val)) ∧
  (∀ (q : Fin 4) (n : Fin 2048) (sm : BitVec 40) (u : BitVec 40) (k : BitVec 48) (adv : Bool) (rst : Bool) (fresh : Bool) (s : State),
    s.sauClocked q.val n.val = true →
    s.sauPins q.val n.val 130 1 (bit rst) = 1 →
    exec (.sauClockEdge q n sm u k adv rst fresh) s = .next (s.setSau q.val n.val { edges := (s.sau q.val n.val).edges + 1, was := (s.sau q.val n.val).total })) ∧
  (∀ (q : Fin 4) (n : Fin 2048) (sm : BitVec 40) (u : BitVec 40) (k : BitVec 48) (adv : Bool) (rst : Bool) (fresh : Bool) (s : State),
    let old := s.sau q.val n.val;
    s.sauClocked q.val n.val = true →
    s.sauPins q.val n.val 130 1 (bit rst) ≠ 1 →
    (s.sauPins q.val n.val 129 1 (bit adv) = 0 ∨ s.holding (sauFacet q.val n.val) = true) →
    exec (.sauClockEdge q n sm u k adv rst fresh) s = .next (s.setSau q.val n.val { old with edges := old.edges + 1, was := old.total })) ∧
  (∀ (q : Fin 4) (n : Fin 2048) (sm : BitVec 40) (u : BitVec 40) (k : BitVec 48) (adv : Bool) (rst : Bool) (fresh : Bool) (s : State),
    let pin (lo w v : Nat) : Nat := s.sauPins q.val n.val lo w v;
    let old := s.sau q.val n.val;
    let r := (s.sauCfg q.val n.val).advance old (s.sauChain q.val n.val) (BitVec.ofNat 40 (pin 0 40 sm.toNat)) (BitVec.ofNat 40 (pin 40 40 u.toNat)) (BitVec.ofNat 48 (pin 80 48 k.toNat)) (pin 128 1 (bit fresh) = 1);
    s.sauClocked q.val n.val = true →
    pin 130 1 (bit rst) ≠ 1 →
    pin 129 1 (bit adv) ≠ 0 →
    s.holding (sauFacet q.val n.val) = false →
    exec (.sauClockEdge q n sm u k adv rst fresh) s = .next (s.setSau q.val n.val { r with edges := old.edges + 1, was := old.total })) ∧
  (∀ (f : Fin 48) (col : Fin 256) (row : Fin 120) (x : TileIn) (s : State),
    let q := f.val / 12;
    let c0 := 256 * (f.val % 12 % 3) + col.val;
    let r0 := 120 * (f.val % 12 / 3) + row.val;
    let s0 := s.setLevels q x.levels;
    let edge (t : State) (c r : Nat) (win : Option (BitVec 32)) : State :=
      let g := 12 * q + tileLocal c r
      let fr := tileFrame c r
      let rise := x.rise && s0.regionRuns g (s0.fbits g (s0.facetPlane g) fr 2418 4)
      if s0.tileHeld g x.early then t
      else (List.range 32).foldl (fun t k => t.setFf g fr k (s0.ffNext q c r rise (win.any (fun w => w.getLsbD k)) k)) t;
    let place (e : Fin 12 × Fin 256 × Fin 120) : Nat × Nat := (256 * (e.1.val % 3) + e.2.1.val, 120 * (e.1.val / 3) + e.2.2.val);
    let s1 := x.tiles.foldl (fun t e => edge t (place e).1 (place e).2 ((x.windows.find? (fun p => decide (p.1 = e))).map (fun p => p.2))) (edge s0 c0 r0 x.window);
    exec (.tileClockEdge f col row x) s = .next (if x.rise then (List.range 4).foldl (fun t k => s0.probeLatch q k ((c0, r0) :: x.tiles.map place) x.clocks t) s1 else s1))

/-- CFG_STAGE, CFG_VERIFY, CFG_APPLY, SCRUB_CTL and KEY_LOAD, taken with every check passed, begin or do their work, and each later event of it answers the next state named. -/
def Obligations.ImagesAndScrubbing : Prop :=
  (∀ (c : Cmd) (s : State),
    let h := c.f 2 15 0;
    Takes s 0x0200 c →
    c.len = 8 →
    (c.aimsCfg) = true →
    (s.stageOk c) = true →
    (!s.heldByOther c) = true →
    s.hState h ≠ 3 →
    s.hState h ≠ 5 →
    s.hState h ≠ 6 →
    ((s.stageOp h).isNone) = true →
    (!(srcOfStage (c.w 2) == 3 && s.pushHandle.isSome)) = true →
    let u := (s.take 0x0200 c).accept 0x0200 c none;
    exec (.cfgStage c) s = .next (u.stage c)) ∧
  (∀ (c : Cmd) (s : State),
    let h := c.w 2;
    Takes s 0x0201 c →
    c.len = 3 →
    (c.aimsCfg) = true →
    h < 8 →
    s.hState h = 2 →
    (!s.heldByOther c) = true →
    let u := (s.take 0x0201 c).accept 0x0201 c none;
    exec (.cfgVerify c) s = .next (u.setF (handleBase h) F.CFG_HANDLE_STATE_state 3)) ∧
  (∀ (c : Cmd) (s : State),
    let sel := facetsOf (s.applyMask c);
    Takes s 0x0202 c →
    c.len = 6 →
    (c.aimsCfg) = true →
    (s.applyOk c) = true →
    (sel.all (fun f => s.facetState f != fcOff && s.facetState f != fcDraining && s.quadUp (f / 12))) = true →
    (!s.heldByOther c) = true →
    (sel.all (fun f => !s.applying f && !s.swapArmed f && (s.facetX f).rewrite.isNone && !s.otherHolds c (facetBase f))) = true →
    let u := (s.take 0x0202 c).accept 0x0202 c none;
    exec (.cfgApply c) s = .next (u.apply c)) ∧
  (∀ (c : Cmd) (s : State),
    let q := c.scrubOf.getD 0;
    let b := scrubBase q;
    Takes s 0x0206 c →
    c.len = 5 →
    (c.scrubOf.isSome) = true →
    c.f 2 31 3 = 0 →
    ((c.w 3 == 0 || (decide (16 ≤ c.w 3) && decide (c.w 3 ≤ 16384)))) = true →
    ((c.w 4 == 0 || (decide (80 ≤ c.w 4) && decide (c.w 4 ≤ 100000)))) = true →
    (s.quadUp q) = true →
    (!s.heldByOther c) = true →
    let u := s.take 0x0206 c;
    let r : State × List Word :=
      ((((((u.setF b F.SCRUB_CFG_inactive_en (c.f 2 2 2)).setF b F.SCRUB_CFG_frame_en (c.f 2 1 1)).setF b F.SCRUB_CFG_bay_en (c.f 2 0 0)).setF b
      F.SCRUB_CFG_bay_interval (if c.w 3 = 0 then 250 else c.w 3)).setF b F.SCRUB_GAP_frame_gap (if c.w 4 = 0 then 100 else c.w 4), []));
    exec (.scrubCtl c) s = .next (r.1.answer 0x0206 c .ok r.2)) ∧
  (∀ (c : Cmd) (s : State),
    let q := c.scrubOf.getD 0;
    let b := scrubBase q;
    Takes s 0x0286 c →
    c.len = 2 →
    (c.scrubOf.isSome) = true →
    (s.quadUp q) = true →
    let u := s.take 0x0286 c;
    let r : State × List Word :=
      ((u, [wd (u.getF b F.SCRUB_CFG_inactive_en * 4 + u.getF b F.SCRUB_CFG_frame_en * 2 + u.getF b F.SCRUB_CFG_bay_en),
      wd (u.getF b F.SCRUB_CFG_bay_interval), wd (u.getF b F.SCRUB_GAP_frame_gap)]));
    exec (.scrubCtlQuery c) s = .next (r.1.answer 0x0286 c .ok r.2)) ∧
  (∀ (c : Cmd) (s : State),
    Takes s 0x0902 c →
    c.len = 5 →
    (c.aims 0 0x048 0) = true →
    c.w 2 < 4 →
    c.f 4 31 8 = 0 →
    (c.w 3 % 64 == 0) = true →
    (localRange (blobAddr (c.w 3) (c.w 4)) 256) = true →
    (!s.heldByOther c) = true →
    let u := (s.take 0x0902 c).accept 0x0902 c none;
    exec (.keyLoad c) s = .next (u)) ∧
  (∀ (h : Fin 8) (n : Nat) (peer : List Byte) (err : Bool) (refused : Bool) (s : State),
    s.hState h.val = 1 →
    s.stageOp h.val = none →
    exec (.cfgStageData h n peer err refused) s = .next (s.eraseHandle h.val)) ∧
  (∀ (h : Fin 8) (n : Nat) (peer : List Byte) (err : Bool) (refused : Bool) (o : Op) (s : State),
    s.hState h.val = 1 →
    s.stageOp h.val = some o →
    srcOfStage (o.w 2) ≠ 3 →
    exec (.cfgStageData h n peer err refused) s = .next ((if refused && srcOfStage (o.w 2) == 4 then s.failStage h.val o .notAuthorised else let r := s.stageRead h.val o n peer; (match if err then none else r.1 with | some bs => r.2.stageBytes h.val o bs | none => r.2.failStage h.val o .hwFault)))) ∧
  (∀ (h : Fin 8) (s : State),
    s.hState h.val = 1 →
    exec (.cfgStageTimeout h) s = .next ((match s.stageOp h.val with | none => s.eraseHandle h.val | some o => s.failStage h.val o .streamShort))) ∧
  (∀ (m : Master) (v : Word) (s : State),
    Reaches s m 0 0x040 0x40 →
    exec (.cfgPush m v) s = .next (s.push v.toNat)) ∧
  (∀ (h : Fin 8) (s : State),
    s.hState h.val = 3 →
    exec (.cfgVerifyCompletion h) s = .next ((match s.handleOp 0x0201 h.val with | none => s.eraseHandle h.val | some o => (match s.checked 1 (s.image h.val) with | some plain => ((s.store (s.regionBase h.val) plain).setF (handleBase h.val) F.CFG_HANDLE_STATE_state 4).complete o .ok [] | none => s.failVerify h.val o .authFail)))) ∧
  (∀ (f : Fin 48) (rewritten : Nat) (fail : Option (Fin 32768)) (a : _) (s : State),
    s.cfg.applies.find? (fun a => a.current (f.val / 12) == some f.val) = some a →
    let a1 : Apply := { a with todo := a.todo.filter (· != f.val), rewrites := a.rewrites + rewritten, passed := if fail.isNone then a.passed ++ [f.val] else a.passed, failed := if fail.isNone then a.failed else a.failed ++ [f.val] };
    let s1 := (match fail with | none => s.loadPassed a f.val | some fr => s.journal 0x12 false (targetWord 0 0x040 0) f.val fr.val 0);
    let s2 := s1.putApply a1;
    exec (.cfgApplyWriteDone f rewritten fail) s = .next ((if !a.mirror ∧ fail.isSome then s2.stopApply a1 .hwFault else let s3 := (match a1.current (f.val / 12) with | some g => s2.beginLoad a.mirror g | none => s2); (if !a1.todo.isEmpty then s3 else (if a.mirror then s3.finishApply a1 (if a1.failed.isEmpty then Status.ok else Status.hwFault) a1.passed else a1.selected.foldl (fun s g => s.startRelease g) s3))))) ∧
  (∀ (q : Fin 4) (hits : List (Fin 33 × Fin 81)) (stuck : Bool) (f : _) (s : State),
    s.armedFacet q.val = some f →
    let p := otherPlane (s.facetPlane f);
    let fr := SMap.get 0 s.fac.ahead f;
    let s1 : State := { s with fac := { s.fac with ahead := SMap.put 0 s.fac.ahead f ((fr + 1) % 32768), turn := SMap.put 0 s.fac.turn q.val (f + 1) } };
    exec (.scrubFrameCheck q hits stuck) s = .next (s1.checkFrame f p fr hits stuck)) ∧
  (∀ (q : Fin 4) (hits : List (Fin 33 × Fin 81)) (stuck : Bool) (s : State),
    s.armedFacet q.val = none →
    let planes := s.scrubPlanes q.val;
    s.flag (scrubBase q.val) F.SCRUB_CFG_frame_en = true →
    planes.isEmpty = false →
    let pos0 := SMap.get 0 s.fac.pos q.val;
    let start := if planes.contains (pos0 / 32768) then (pos0, false) else scrubNext planes (pos0 / 32768) 32768;
    let pos := start.1;
    let x := pos / 32768;
    let f := 12 * q.val + x / 2;
    let nx := scrubNext planes x (pos % 32768);
    let s1 := if s.beingWritten f (x % 2) then s else s.checkFrame f (x % 2) (pos % 32768) hits stuck;
    let s2 : State := { s1 with fac := { s1.fac with pos := SMap.put 0 s1.fac.pos q.val nx.1 } };
    exec (.scrubFrameCheck q hits stuck) s = .next ((if nx.2 || start.2 then (s2.scrubCount q.val F.SCRUB_SH_PASS_LO_lo).scrubMark q.val F.SCRUB_STAT_pass_done else s2))) ∧
  (∀ (es : List LineErr) (o : Op) (s : State),
    s.hq.ops.find? (fun o => o.opcode == 0x0902) = some o →
    exec (.keyLoadCompletion es) s = .next (s.keyBlobRead o (s.blobBytes (blobAddr (o.w 3) (o.w 4)) es)))

/-- FACET_SWAP_AT, FACET_FENCE and FACET_REWRITE, taken with every check passed, begin or do their work, and each later event of a swap, a rewrite or a release answers the next state named. -/
def Obligations.FacetChanges : Prop :=
  (∀ (c : Cmd) (s : State),
    let f := c.facetOf.getD 0;
    let w := c.instant 2;
    Takes s 0x0203 c →
    c.len = 8 →
    (c.facetOf.isSome) = true →
    (s.swapOk f c) = true →
    (s.quadUp (f / 12)) = true →
    s.facetState f ≠ fcOff →
    s.facetState f ≠ fcDraining →
    (!s.hostFence f) = true →
    (!s.heldByOther c) = true →
    (!s.swapArmed f) = true →
    (!s.applying f) = true →
    (s.facetX f).reset = 0 →
    (s.inTime c.die w) = true →
    let u := (s.take 0x0203 c).accept 0x0203 c (w.map s.instantTime);
    exec (.facetSwapAt c) s = .next (u)) ∧
  (∀ (c : Cmd) (s : State),
    let f := c.facetOf.getD 0;
    Takes s 0x0204 c →
    c.len = 3 →
    (c.facetOf.isSome) = true →
    c.f 2 31 1 = 0 →
    (s.quadUp (f / 12)) = true →
    let u := s.take 0x0204 c;
    let r : State × List Word :=
      (let s1 := u.setHostFence f (c.f 2 0 0 == 1)
      (s1, [wd (min 65535 (s1.inFlight f))]));
    exec (.facetFence c) s = .next (r.1.answer 0x0204 c .ok r.2)) ∧
  (∀ (c : Cmd) (s : State),
    let f := c.facetOf.getD 0;
    Takes s 0x0284 c →
    c.len = 2 →
    (c.facetOf.isSome) = true →
    (s.quadUp (f / 12)) = true →
    let u := s.take 0x0284 c;
    exec (.facetFenceQuery c) s = .next ((u).answer 0x0284 c .ok [wd (bit (u.hostFence f)), wd (min 65535 (u.inFlight f))])) ∧
  (∀ (c : Cmd) (s : State),
    let f := c.facetOf.getD 0;
    let st := s.facetState f;
    Takes s 0x0205 c →
    c.len = 5 →
    (c.facetOf.isSome) = true →
    c.f 2 31 16 = 0 →
    (s.imageHas (c.f 2 15 0) f) = true →
    c.f 3 31 2 = 0 →
    c.f 3 1 0 ≠ 3 →
    c.f 4 31 16 = 0 →
    (gapOk (c.f 4 15 0)) = true →
    st ≠ fcStopped →
    (s.quadUp (f / 12)) = true →
    st ≠ fcOff →
    st ≠ fcDraining →
    (!s.heldByOther c) = true →
    ((st == fcRunning || st == fcEmpty)) = true →
    (!s.swapArmed f) = true →
    (s.facetX f).reset = 0 →
    (!(st == fcEmpty && s.applying f)) = true →
    let u := (s.take 0x0205 c).accept 0x0205 c none;
    exec (.facetRewrite c) s = .next (u.rewrite f c)) ∧
  (∀ (f : Fin 48) (edge : Nat) (o : Op) (s : State),
    s.armedBy 0x0203 (facetWord f.val) edge = some o →
    s.regionRuns f.val (o.f 5 3 0) = true →
    ((o.awaitsLine || o.f 5 31 31 == 0) && decide (s.swapBound o < edge)) = false →
    let s1 := s.reachAt (f.val / 12 + 1) edge;
    exec (.facetSwapEdge f edge) s = .next ((if o.awaitsLine then (if s1.lineOut (f.val / 12) (o.f 5 29 24) = 1 then s1.putOp { o with acc := [1] } else s1) else s1.swapAt f.val o edge))) ∧
  (∀ (f : Fin 48) (edge : Nat) (o : Op) (s : State),
    s.armedBy 0x0203 (facetWord f.val) edge = some o →
    s.regionRuns f.val (o.f 5 3 0) = true →
    ((o.awaitsLine || o.f 5 31 31 == 0) && decide (s.swapBound o < edge)) = true →
    let s1 := (s.reachAt (f.val / 12 + 1) edge).complete o .timeout [];
    exec (.facetSwapEdge f edge) s = .next (if o.f 5 31 31 = 1 then s1 else s1.journal 0x08 false (facetWord f.val).toNat 0x0203 0 0)) ∧
  (∀ (f : Fin 48) (o : Op) (s : State),
    s.swapOp f.val = some o →
    o.f 5 31 31 = 1 →
    o.acc = [] →
    exec (.facetSwapTriggerTimeout f) s = .next ((s.reachAt (f.val / 12 + 1) (s.swapBound o)).complete o .timeout [])) ∧
  (∀ (f : Fin 48) (o : Op) (s : State),
    s.swapOp f.val = some o →
    o.f 5 31 31 = 0 →
    exec (.facetSwapNoEdge f) s = .next (((s.reachAt (f.val / 12 + 1) (s.swapBound o)).complete o .timeout []).journal 0x08 false (facetWord f.val).toNat 0x0203 0 0)) ∧
  (∀ (f : Fin 48) (s : State),
    s.facetState f.val = fcSwapping →
    let s0 := (s.setFacetX f.val { s.facetX f.val with unfencing := false }).toFacet f.val fcRunning;
    let s1 := if (s.facetX f.val).clkReturn then s0 else s0.unhold f.val;
    exec (.facetSwapHoldEnd f) s = .next ((if (s1.facetX f.val).initLoad then s1 else s1.finishSwap f.val))) ∧
  (∀ (f : Fin 48) (s : State),
    (s.facetX f.val).initLoad = true →
    s.facetState f.val = fcRunning →
    let p := s.facetPlane f.val;
    let s1 := (match s.goldenOf f.val p with | some h => s.loadContents f.val h (s.planeCfg f.val p) | none => s);
    exec (.facetBayInitDone f) s = .next (((s1.setFacetX f.val { s1.facetX f.val with initLoad := false }).lower (facetBase f.val) F.FACET_STAT_init_busy).finishSwap f.val)) ∧
  (∀ (f : Fin 48) (fail : Option (Fin 32768)) (h : _) (mode : _) (s : State),
    let x := s.facetX f.val;
    x.rewrite = some (h, mode) →
    x.drainFrom = none →
    s.facetState f.val = fcWriting →
    exec (.facetWriteDone f fail) s = .next ((match fail with | none => ((s.writePassed f.val h).initBays f.val h mode).startRelease f.val | some fr => let s1 := ((s.writePlane f.val (s.facetPlane f.val) h).toEmpty f.val).settleHandles.journal 0x12 false (facetWord f.val).toNat f.val fr.val 0; (match s1.rewriteOp f.val with | some o => s1.complete o .hwFault [] | none => s1)))) ∧
  (∀ (f : Fin 48) (s : State),
    let x := s.facetX f.val;
    s.facetState f.val = fcReleasing →
    exec (.facetReleaseStage f) s = .next ((if x.stage = 1 then (s.setFacetX f.val { x with stage := 2 }).unhold f.val else (if x.stage = 2 then s.setFacetX f.val { x with stage := 3 } else let s1 := ((s.setFacetX f.val { x with stage := 0, rewrite := none }).toFacet f.val fcRunning).settleHandles; (match x.rewrite with | some _ => (match s1.rewriteOp f.val with | some o => s1.complete o .ok [wd ((o.acc.headD 0).toNat), wd (s1.opMicros o)] | none => s1) | none => (match s1.cfg.applies.find? (fun a => !a.mirror && a.selected.contains f.val) with | some a => (if a.selected.all (fun g => s1.facetState g == fcRunning) then s1.finishApply a .ok a.selected else s1) | none => s1))))))

/-- Each event of a ring link, a router, a network interface and a flow answers the next state named. -/
def Obligations.FabricRings : Prop :=
  (∀ (x : Fin 24) (y : Fin 18) (dir : Fin 4) (noise : BitVec 536) (w : _) (t : _) (s : State),
    let vk := vkOf x.val y.val;
    let l := s.link vk dir.val;
    let no := linkInto vk dir.val;
    l.wire = w :: t →
    vkReal x.val y.val = true →
    s.linkBroken no = false →
    l.naked = false →
    s.edgeHolds no = false →
    let f := w ^^^ noise;
    exec (.ringFlitReceive x y dir noise) s = .next ((if flitGood f && flitSeq f == l.rxSeq then let acc := SMap.get [] l.part (flitVc f) ++ [f]; let l1 := { l with wire := t, sent := l.sent.drop 1, rxSeq := (l.rxSeq + 1) % 64, fails := 0, replay := false, posFail := if l.replay then l.posFail else SMap.put 0 l.posFail l.rxSeq 0 }; (if flitTail f then let s1 := s.setLink vk dir.val { l1 with part := SMap.put [] l.part (flitVc f) [] }; s1.setVq vk dir.val (flitVc f) (s1.vq vk dir.val (flitVc f) ++ [{ pkt := ofFlits acc, d := flitVc f % 2 == 1, time := s.now }]) else s.setLink vk dir.val { l1 with part := SMap.put [] l.part (flitVc f) acc }) else let c := s.charge (linkWord no); let fails := if l.replay then l.fails + 1 else 0; let again := SMap.get 0 l.posFail l.rxSeq + bit (!l.replay); let s1 := c.2.setLink vk dir.val { l with wire := t, naked := true, replay := false, fails := fails, posFail := SMap.put 0 l.posFail l.rxSeq again }; (if c.1 || decide (2 ≤ fails) || decide (2 + Config.positionRepeats ≤ again) then s1.linkRetire no else s1)))) ∧
  (∀ (x : Fin 24) (y : Fin 18) (dir : Fin 4) (s : State),
    let vk := vkOf x.val y.val;
    let l := s.link vk dir.val;
    l.naked = true →
    exec (.ringReplay x y dir) s = .next (s.setLink vk dir.val { l with wire := l.sent, naked := false, replay := true })) ∧
  (∀ (x : Fin 24) (y : Fin 18) (out : Fin 6) (c : Cand) (d : Nat) (b : Bool) (step : Bool) (s : State),
    let vk := vkOf x.val y.val;
    vkReal x.val y.val = true →
    out.val < 4 →
    s.edgeTurn vk out.val = true →
    s.slot vk out.val = some c →
    c.act = .go d b step →
    let nv := nextVk vk out.val;
    let l := s.link nv out.val;
    let p := c.q.pkt.stepped step;
    let f := p.flit (2 * p.cls + bit b) l.txSeq c.q.gone;
    let tail := c.q.gone + 1 == p.flits;
    let rest := (s.vq vk c.inp c.vc).drop 1;
    let s1 := (s.startLocal vk c).setLink nv out.val { l with wire := l.wire ++ [f], sent := l.sent ++ [f], txSeq := (l.txSeq + 1) % 64 };
    let s2 := (s1.served vk out.val 1 c).tookTurn vk out.val;
    let s3 := if c.inp = 4 then s2.niCount vk F.NI_SH_TX_LO_lo 1 else s2;
    let s4 := (s3.setVq vk c.inp c.vc (if tail then rest else { c.q with gone := c.q.gone + 1 } :: rest)).setOut vk out.val ((s3.outPort vk out.val).put (p.cls == 2) (if tail then none else some { inp := c.inp, vc := c.vc, d := b, step := step }));
    exec (.ringPacketRoute x y out) s = .next ((if tail && c.inp == 4 then s4.refill vk else if tail && c.inp == 5 then s4.turnOn vk else s4).stallCheck vk)) ∧
  (∀ (x : Fin 24) (y : Fin 18) (out : Fin 6) (c : Cand) (s : State),
    let vk := vkOf x.val y.val;
    vkReal x.val y.val = true →
    4 ≤ out.val →
    s.pick vk out.val = some c →
    (match c.act with | .go .. => false | _ => true) = true →
    let s0 := (match c.act with | .deliver => s.startLocal vk c | .back _ => if c.q.pkt.goesHome then s.startLocal vk c else s | _ => s);
    let s1 := (s0.setVq vk c.inp c.vc ((s0.vq vk c.inp c.vc).drop 1)).served vk 4 c.q.pkt.flits c;
    let s2 := if c.inp = 4 then s1.refill vk else if c.inp = 5 then s1.turnOn vk else s1;
    exec (.ringPacketRoute x y out) s = .next ((match c.act with | .go .. => s | .deliver => s2.portAccept vk c.q.pkt | .relay dir step => s2.setVq vk 5 (2 * c.q.pkt.cls) (s2.vq vk 5 (2 * c.q.pkt.cls) ++ [{ pkt := c.q.pkt.stepped step, dir := dir, time := s.now }]) | .back st => s2.turnBack vk c.q.pkt st))) ∧
  (∀ (x : Fin 24) (y : Fin 18) (es : List LineErr) (p : _) (s : State),
    let vk := vkOf x.val y.val;
    (s.ni vk).arrive.find? (fun p => s.delivers vk p) = some p →
    let s1 := s.setNi vk { s.ni vk with arrive := (s.ni vk).arrive.erase p };
    exec (.niPacketDeliver x y es) s = .next ((if s.endFenced vk && !p.answers then (if p.op = 6 ∨ p.op = 7 then s1.dropPkt vk p else (if p.op = 2 then (s1.dropCount vk).creditPacket vk p else s1.respond vk p 0xF (if s1.endGone vk then 0x0201 else 0x0202) [] [])) else (if p.returned then let s2 := (s1.niCount vk F.NI_SH_RETURNED_LO_lo 1).niMark vk F.NI_STAT_returned 2; (if p.op = 8 then s2.setNi vk { s2.ni vk with fences := monus (s2.ni vk).fences 1 } else s2.endRequest vk p.tag (p.f 7 15 0) [] []) else (if p.op = 0xC then s1.setNi vk { s1.ni vk with fences := monus (s1.ni vk).fences 1 } else (if p.op = 9 ∨ p.op = 0xA ∨ p.op = 0xB ∨ p.op = 0xF then s1.endRequest vk p.tag (p.f 2 15 0) p.data p.poison else (if p.op = 6 then (if vkY vk < 16 then s1.essence vk p else s1.dropPkt vk p) else (s1.perform vk p es).getD s))))))) ∧
  (∀ (x : Fin 24) (y : Fin 18) (p : _) (s : State),
    let vk := vkOf x.val y.val;
    (s.ni vk).arrive.find? (fun p => p.op == 0xD && !p.returned) = some p →
    exec (.creditReturn x y) s = .next ((s.setNi vk { s.ni vk with arrive := (s.ni vk).arrive.erase p }).creditBack vk p.src (p.f 6 9 8) (p.f 6 7 0))) ∧
  (∀ (x : Fin 24) (y : Fin 18) (p : _) (s : State),
    let vk := vkOf x.val y.val;
    let acks := ((s.vq vk 4 2 ++ s.vq vk 4 6 ++ (s.ni vk).back).filter (fun q => q.pkt.op == 0xC)).length;
    (s.ni vk).arrive.find? (fun p => p.op == 8 && !p.returned) = some p →
    acks < 64 →
    exec (.fencePacket x y) s = .next ((s.setNi vk { s.ni vk with arrive := (s.ni vk).arrive.erase p }).respond vk p 0xC 0 [] [])) ∧
  (∀ (q : Fin 4) (v : Fin 96) (op : Fin 8) (a : BitVec 40) (n : Fin 512) (tag : BitVec 8) (data : List Byte) (s : State),
    let vk := vkOfLocal q.val v.val;
    let want := if op.val = 0 then 0 else if op.val = 5 then 16 else if 3 ≤ op.val then 8 else n.val + 1;
    s.niFenced vk = false →
    s.localRoom vk 0 (flitsOf want) = true →
    op.val ≠ 2 →
    s.getF (vkBase vk) F.NI_CFG_resp_bufs ≤ (s.ni vk).buffers →
    exec (.fabricRequest q v op a n tag data) s = .next ((s.setNi vk { s.ni vk with asks := true }).stallFrom vk)) ∧
  (∀ (q : Fin 4) (v : Fin 96) (op : Fin 8) (a : BitVec 40) (n : Fin 512) (tag : BitVec 8) (data : List Byte) (s : State),
    let vk := vkOfLocal q.val v.val;
    let want := if op.val = 0 then 0 else if op.val = 5 then 16 else if 3 ≤ op.val then 8 else n.val + 1;
    (s.niFenced vk = true ∨ s.localRoom vk 0 (flitsOf want) = false) →
    exec (.fabricRequest q v op a n tag data) s = .next s) ∧
  (∀ (q : Fin 4) (v : Fin 96) (op : Fin 8) (a : BitVec 40) (n : Fin 512) (tag : BitVec 8) (data : List Byte) (s : State),
    let vk := vkOfLocal q.val v.val;
    let ni := { s.ni vk with asks := false };
    let len := if 3 ≤ op.val then 8 else n.val + 1;
    let posted := op.val == 2;
    let want := if op.val = 0 then 0 else if op.val = 5 then 16 else len;
    s.niFenced vk = false →
    (!posted && decide (s.getF (vkBase vk) F.NI_CFG_resp_bufs ≤ ni.buffers)) = false →
    s.localRoom vk 0 (flitsOf want) = true →
    let bad := decide (6 ≤ op.val) || decide (512 < a.toNat % 512 + len) || (decide (3 ≤ op.val) && (a.toNat % 8 != 0 || n.val != 7)) || ni.tagUsed tag.toNat;
    let answer (st : Nat) : State := s.setNi vk { ni with ready := ni.ready ++ [(tag.toNat, st, [], [])] };
    bad = true →
    exec (.fabricRequest q v op a n tag data) s = .next (answer 0x0102)) ∧
  (∀ (q : Fin 4) (v : Fin 96) (op : Fin 8) (a : BitVec 40) (n : Fin 512) (tag : BitVec 8) (data : List Byte) (s : State),
    let vk := vkOfLocal q.val v.val;
    let ni := { s.ni vk with asks := false };
    let len := if 3 ≤ op.val then 8 else n.val + 1;
    let posted := op.val == 2;
    let want := if op.val = 0 then 0 else if op.val = 5 then 16 else len;
    s.niFenced vk = false →
    (!posted && decide (s.getF (vkBase vk) F.NI_CFG_resp_bufs ≤ ni.buffers)) = false →
    s.localRoom vk 0 (flitsOf want) = true →
    let bad := decide (6 ≤ op.val) || decide (512 < a.toNat % 512 + len) || (decide (3 ≤ op.val) && (a.toNat % 8 != 0 || n.val != 7)) || ni.tagUsed tag.toNat;
    let answer (st : Nat) : State := s.setNi vk { ni with ready := ni.ready ++ [(tag.toNat, st, [], [])] };
    bad = false →
    s.homeOf (vkX vk) a.toNat = none →
    exec (.fabricRequest q v op a n tag data) s = .next (if posted then s.setNi vk ni else answer 0x0103)) ∧
  (∀ (q : Fin 4) (v : Fin 96) (op : Fin 8) (a : BitVec 40) (n : Fin 512) (tag : BitVec 8) (data : List Byte) (dst : _) (s : State),
    let vk := vkOfLocal q.val v.val;
    let ni := { s.ni vk with asks := false };
    let len := if 3 ≤ op.val then 8 else n.val + 1;
    let posted := op.val == 2;
    let want := if op.val = 0 then 0 else if op.val = 5 then 16 else len;
    s.niFenced vk = false →
    (!posted && decide (s.getF (vkBase vk) F.NI_CFG_resp_bufs ≤ ni.buffers)) = false →
    s.localRoom vk 0 (flitsOf want) = true →
    let bad := decide (6 ≤ op.val) || decide (512 < a.toNat % 512 + len) || (decide (3 ≤ op.val) && (a.toNat % 8 != 0 || n.val != 7)) || ni.tagUsed tag.toNat;
    bad = false →
    s.homeOf (vkX vk) a.toNat = some dst →
    let ds := (data ++ List.replicate want 0).take want;
    let p := mkPkt vk dst op.val 0 (a.toNat / 4294967296) 0 (if op.val = 5 then 16 else len) tag.toNat (a.toNat % 4294967296) ds [];
    let s1 := (if posted then s.setNi vk ni else s.setNi vk { ni with outst := ni.outst ++ [{ tag := tag.toNat, ctag := tag.toNat, cls := 0, op := op.val, dst := dst, since := s.now }] });
    exec (.fabricRequest q v op a n tag data) s = .next (s1.send vk p)) ∧
  (∀ (q : Fin 4) (v : Fin 96) (r : _) (t : _) (s : State),
    let vk := vkOfLocal q.val v.val;
    (s.ni vk).ready = r :: t →
    exec (.fabricResponse q v) s = .next ((s.setNi vk { s.ni vk with ready := t }).emit (.fabric q.val v.val r.1 r.2.1 r.2.2.1 r.2.2.2))) ∧
  (∀ (q : Fin 4) (v : Fin 96) (given : List Beat) (s : State),
    let vk := vkOfLocal q.val v.val;
    let b := vkBase vk;
    let pb := portBase q.val (.egress v);
    let f := vertexFacet q.val v.val;
    s.flowReady vk = true →
    let s1 := s.spGive pb f 128 given;
    exec (.niFlowBeat q v given) s = .next ((match (s1.spq pb).beats with | [] => s1 | x :: _ => let s2 := s1.spSend pb; (if (s2.ni vk).skip && !x.side.getLsbD 6 then s2 else let s3 := s2.setNi vk { s2.ni vk with skip := false }; (if s.flag b F.NI_FLOW_CTL_kind then s3.packBytes vk x else s3.packBeat vk x))))) ∧
  (∀ (m : Master) (q : Fin 4) (v : Fin 96) (s : State),
    Reaches s m (1 + q.val) (0x100 + v.val) 0x28 →
    exec (.niFlowAdmit m q v) s = .next (s.admitWrite (vkOfLocal q.val v.val) 1)) ∧
  (∀ (m : Master) (q : Fin 4) (v : Fin 96) (s : State),
    Reaches s m (1 + q.val) (0x100 + v.val) 0x28 →
    exec (.niFlowWithdraw m q v) s = .next (s.admitWrite (vkOfLocal q.val v.val) 2)) ∧
  (∀ (x : Fin 24) (y : Fin 18) (e : Fin 64) (m : Word) (r0 : Word) (r1 : Word) (s : State),
    let vk := vkOf x.val y.val;
    let ws := [m.toNat, r0.toNat, r1.toNat];
    let n := s.ni vk;
    vkReal x.val y.val = true →
    n.change = none →
    let s1 := s.setNi vk { n with change := some (e.val, ws) };
    let hit := n.towards.filter (fun d => s1.changeHits vk d.1 d.2);
    let s2 := s1.setNi vk { s1.ni vk with fences := hit.length, towards := n.towards.filter (fun d => !hit.contains d) };
    exec (.routeChangeApply x y e m r0 r1) s = .next (hit.foldl (fun s d => s.queueLocal vk { pkt := s.chordRoute vk (mkPkt vk d.1 8 d.2 0 5 1 0 0 [] []), time := s.now }) s2)) ∧
  (∀ (x : Fin 24) (y : Fin 18) (e : Fin 64) (m : Word) (r0 : Word) (r1 : Word) (c : _) (s : State),
    let vk := vkOf x.val y.val;
    let ws := [m.toNat, r0.toNat, r1.toNat];
    let n := s.ni vk;
    vkReal x.val y.val = true →
    n.change = some c →
    c = (e.val, ws) →
    n.fences = 0 →
    let s1 := (s.setNi vk { n with change := none, held := [] }).chordWrite vk e.val m.toNat r0.toNat r1.toNat;
    exec (.routeChangeApply x y e m r0 r1) s = .next ((n.held.foldl (fun s p => s.send vk p) s1).ledgerRecompute)) ∧
  (∀ (x : Fin 24) (y : Fin 18) (vc : _) (q : _) (t : _) (s : State),
    let vk := vkOf x.val y.val;
    let bound := s.getF (vkBase vk) F.NI_STARVE_bound;
    (List.range 8).find? (fun vc => (s.vq vk 4 vc).head?.any (fun q => !q.starved && bound != 0 && decide (bound * 1000 < s.now - q.time))) = some vc →
    s.vq vk 4 vc = q :: t →
    exec (.niStarvation x y) s = .next ((s.setVq vk 4 vc ({ q with starved := true } :: t)).niMark vk F.NI_STAT_starved 1)) ∧
  (∀ (x : Fin 24) (y : Fin 18) (tag : BitVec 8) (s : State),
    let vk := vkOf x.val y.val;
    (s.ni vk).outst.any (fun o => o.tag == tag.toNat && o.lost) = true →
    exec (.ringRequestTimeout x y tag) s = .next (s.endRequest vk tag.toNat 0x0400 [] []))

/-- REF_SELECT, TIME_SET and their queries, taken with every check passed, and the events of the time service answer the next state named. -/
def Obligations.StationTime : Prop :=
  (∀ (c : Cmd) (s : State),
    Takes s 0x0301 c →
    c.len = 11 →
    (c.aimsTime) = true →
    (c.refSelectOk) = true →
    (!s.heldByOther c) = true →
    let u := s.take 0x0301 c;
    exec (.refSelect c) s = .next ((u.refSelect ((List.range 9).map (fun i => c.w (2 + i)))).answer 0x0301 c .ok [])) ∧
  (∀ (c : Cmd) (s : State),
    Takes s 0x0381 c →
    c.len = 2 →
    (c.aimsTime) = true →
    let u := s.take 0x0381 c;
    exec (.refSelectQuery c) s = .next ((u).answer 0x0381 c .ok (u.tim.refs.map wd))) ∧
  (∀ (c : Cmd) (s : State),
    Takes s 0x0300 c →
    c.len = 6 →
    (c.aimsTime) = true →
    (s.timeSetOk c) = true →
    (!s.heldByOther c) = true →
    ((c.f 2 31 28 == 2 || c.f 2 0 0 == 1 || !s.anyArmed)) = true →
    let u := s.take 0x0300 c;
    let r : State × List Word :=
      (u.timeSet c);
    exec (.timeSet c) s = .next (r.1.answer 0x0300 c .ok r.2)) ∧
  (∀ (c : Cmd) (s : State),
    Takes s 0x0380 c →
    c.len = 2 →
    (c.aimsTime) = true →
    let u := s.take 0x0380 c;
    exec (.timeSetQuery c) s = .next ((u).answer 0x0380 c .ok (wd (u.tmActive * 16384 + u.tmState * 16) :: timeWords u.sta))) ∧
  (∀ (reached : BitVec 8) (s : State),
    exec (.timeBeacon reached) s = .next ((List.range 8).foldl (fun s d => if reached.getLsbD d then ({ s with tim := { s.tim with beacons := SMap.put 0 s.tim.beacons d s.now, copies := SMap.put (0, 0) s.tim.copies d (0, 0) } }).setF timeBase F.TIME_DEGRADED_dies (s.getF timeBase F.TIME_DEGRADED_dies &&& (255 - 2 ^ d)) else s) s)) ∧
  (∀ (d : Fin 8) (s : State),
    (s.getF timeBase F.TIME_DEGRADED_dies).testBit d.val = false →
    let s0 := s.reachNow (SMap.get 0 s.tim.beacons d.val + 1000000);
    let s1 := (s0.copyAlone d.val).setF timeBase F.TIME_DEGRADED_dies (s.getF timeBase F.TIME_DEGRADED_dies ||| 2 ^ d.val);
    exec (.timeBeaconLoss d) s = .next ((s1.mark timeBase F.TIME_STAT_copy_degraded 35).journal 0x28 false (targetWord 0 0x020 0) 2 d.val 0)) ∧
  (∀ (e : Fin 4) (off : Int) (s : State),
    s.refKind e.val ≠ 0 →
    s.refQualified e.val = false →
    let s1 := s.refQualify e.val;
    exec (.refEntryQualify e off) s = .next ((if s1.tmDriven && s1.tmActive == e.val then s1.measured off else s1))) ∧
  (∀ (e : Fin 4) (s : State),
    s.refKind e.val ≠ 0 →
    exec (.refEntryDisqualify e) s = .next (s.refDisqualify e.val)) ∧
  (∀ (s : State),
    s.tmState = tmAcquiring →
    let s1 := s.toTm tmLocked;
    exec .timeLock s = .next ({ s1 with tim := { s1.tim with locked := true, stepOk := false } })) ∧
  (∀ (lane : Fin 144) (domain : Fin 128) (m : PtpMsg) (s : State),
    s.ptpPort lane.val = true →
    (s.ptpEntry lane.val domain.val || s.ptpProt lane.val domain.val) = true →
    let s1 := s.ptpMessage lane.val domain.val m;
    exec (.ptpMessageReceive lane domain m) s = .next (if s1.ptpHeard lane.val domain.val && s1.ptpFrom lane.val domain.val m then ((List.range 4).foldl (fun s e => if s.refKind e == 1 && s.getF (refBase e) F.TIME_REF_lane == lane.val && s.getF (refBase e) F.TIME_REF_domain == domain.val then s.raise (refBase e) F.TIME_REF_present else s) s1) else s1)) ∧
  (∀ (lane : Fin 144) (domain : Fin 128) (answer : Option Int) (s : State),
    s.ptpPort lane.val = true →
    (s.ptpActive lane.val domain.val || s.ptpProt lane.val domain.val) = true →
    let s1 := s.emit (.control lane.val (if s.ptpActive lane.val domain.val && s.ptpHybrid then 6 else 5) domain.val);
    let s2 := s1.setPtp lane.val domain.val { s1.ptpOf lane.val domain.val with t3 := some (s1.staNs lane.val) };
    exec (.ptpDelayReqExchange lane domain answer) s = .next ((match answer with | some t4 => s2.ptpDelay lane.val domain.val t4 | none => s2))) ∧
  (∀ (tenMHz : Bool) (s : State),
    let here := tenMHz && (match s.tim.ppsAt with | some t => decide (s.now ≤ t + 1500000000) | none => false);
    let s1 : State := { s with tim := { s.tim with in10 := tenMHz, ppsAt := some s.now } };
    let s2 := (List.range 4).foldl (fun s e => if s.refKind e == 2 then (if here then s.raise (refBase e) F.TIME_REF_present else s.refDisqualify e) else s) s1;
    exec (.ppsEdge tenMHz) s = .next ((if here && s2.tmDriven && s2.refKind s2.tmActive == 2 then s2.measured (s2.toSecond + s2.refOffset s2.tmActive) else s2))) ∧
  (∀ (sec : _) (s : State),
    s.tim.seconds = some sec →
    let s1 := s.reach s.tim.secAt;
    exec .timeSetSeconds s = .next (({ s1 with tim := { s1.tim with seconds := none } }).endSlew.stepTime (sec * second + (s1.sta - s.tim.secAt))))

/-- LOOP_SET, LOOP_WINDOW, LOOP_FALLBACK, CLKOUT_SET and their queries, taken with every check passed, and the events of the loops and oscillators answer the next state named. -/
def Obligations.LoopsAndClocks : Prop :=
  (∀ (c : Cmd) (n : Nat) (s : State),
    c.loopOf = some n →
    Takes s 0x0302 c →
    c.len = 6 →
    c.loopSetOk = true →
    s.heldByOther c = false →
    (!s.loopInterrupts n c || c.f 2 24 24 == 1 || !s.loopFeeds n) = true →
    exec (.loopSet c) s = .next (((s.take 0x0302 c).accept 0x0302 c none).loopSet n c)) ∧
  (∀ (c : Cmd) (q : Nat) (s : State),
    c.loopOf = none →
    c.floopOf = some q →
    Takes s 0x0302 c →
    c.len = 6 →
    s.floopSetOk q c = true →
    s.blkOff (q + 1) 8 = false →
    s.heldByOther c = false →
    (!s.floopInterrupts q c || c.f 2 31 31 == 1 || !s.floopFeeds q (c.f 2 23 20)) = true →
    exec (.loopSet c) s = .next (((s.take 0x0302 c).accept 0x0302 c none).floopSet q c)) ∧
  (∀ (c : Cmd) (n : Nat) (s : State),
    let b := loopBase n;
    c.loopOf = some n →
    Takes s 0x0382 c →
    c.len = 2 →
    let u := s.take 0x0382 c;
    exec (.loopSetQuery c) s = .next (u.answer 0x0382 c .ok [wd (u.loopSource n * 268435456 + u.getF b F.LOOP_CFG_flags * 8388608 + u.getF b F.LOOP_CFG_lane), wd (u.getF b F.LOOP_NUM_LO_num), wd (u.getF b F.LOOP_NUM_HI_den * 65536 + u.getF b F.LOOP_NUM_HI_num), 0])) ∧
  (∀ (c : Cmd) (q : Nat) (s : State),
    let b := floopAt q (c.f 2 23 20);
    c.loopOf = none →
    c.floopOf = some q →
    Takes s 0x0382 c →
    c.len = 3 →
    c.f 2 31 24 = 0 →
    c.f 2 19 0 = 0 →
    s.blkOff (q + 1) 8 = false →
    let u := s.take 0x0382 c;
    exec (.loopSetQuery c) s = .next (u.answer 0x0382 c .ok [wd (u.getF b F.FLOOP_REF_ref * 16777216 + c.f 2 23 20 * 1048576 + u.getF b F.FLOOP_REF_mult), wd (u.getF b F.FLOOP_DIV_div), 0, 0])) ∧
  (∀ (c : Cmd) (s : State),
    Takes s 0x0303 c →
    c.len = 5 →
    (c.loopOf.isSome) = true →
    (c.windowOk) = true →
    (!s.heldByOther c) = true →
    let u := s.take 0x0303 c;
    exec (.loopWindow c) s = .next ((u.loopWindow (c.loopOf.getD 0) c).answer 0x0303 c .ok [])) ∧
  (∀ (c : Cmd) (s : State),
    Takes s 0x0383 c →
    c.len = 2 →
    (c.loopOf.isSome) = true →
    let u := s.take 0x0383 c;
    let r : State × List Word :=
      (let b := loopBase (c.loopOf.getD 0)
      (u, [wd (u.getF b F.LOOP_WIN_ceiling * 65536 + u.getF b F.LOOP_WIN_floor), wd (u.getF b F.LOOP_SLEW_slew),
      wd (u.getF b F.LOOP_SLEW_qual_ms)]));
    exec (.loopWindowQuery c) s = .next (r.1.answer 0x0383 c .ok r.2)) ∧
  (∀ (c : Cmd) (s : State),
    let n := c.loopOf.getD 0;
    let action := c.f 2 0 0;
    Takes s 0x0305 c →
    c.len = 3 →
    (c.loopOf.isSome) = true →
    c.f 2 31 1 = 0 →
    s.loopState n ≠ slOff →
    s.loopSource n ≠ 1 →
    (!s.heldByOther c) = true →
    ((s.fallbackThere n action || (if action = 0 then s.xo (s.loopXo n) == 2 else s.flag (loopBase n) F.LOOP_STAT_ref_ok))) = true →
    let u := s.take 0x0305 c;
    let r : State × List Word :=
      ((if u.fallbackThere n action then u
      else if action = 0 then u.loopToXo n
      else (u.lower (loopBase n) F.LOOP_STAT_fallback_not_ready).toLoop n slAcquiring, []));
    exec (.loopFallback c) s = .next (r.1.answer 0x0305 c .ok r.2)) ∧
  (∀ (c : Cmd) (s : State),
    Takes s 0x0304 c →
    c.len = 4 →
    (c.aimsClko) = true →
    (s.clkoutOk c) = true →
    (!s.heldByOther c) = true →
    let u := s.take 0x0304 c;
    exec (.clkoutSet c) s = .next ((u.clkoutSet c).answer 0x0304 c .ok [])) ∧
  (∀ (c : Cmd) (s : State),
    Takes s 0x0384 c →
    c.len = 3 →
    (c.aimsClko) = true →
    c.f 2 31 26 = 0 →
    c.f 2 23 0 = 0 →
    let u := s.take 0x0384 c;
    let r : State × List Word :=
      (let b := clkoBase + 8 * c.f 2 25 24
      (u, [wd (u.getF b F.CLKO_SET_kind * 268435456 + u.getF b F.CLKO_SET_align * 134217728 + c.f 2 25 24 * 16777216 +
      u.getF b F.CLKO_SET_index), wd (u.getF b F.CLKO_DIV_div)]));
    exec (.clkoutSetQuery c) s = .next (r.1.answer 0x0384 c .ok r.2)) ∧
  (∀ (l : LoopId) (f : Int) (n : _) (s : State),
    l = .station n →
    s.loopState n.val = slAcquiring →
    let s1 := s.loopAim n.val f;
    exec (.loopLock l f) s = .next ((if !s1.loopNear n.val then s1 else (s1.sourceSeen n.val).loopReached n.val slLocked))) ∧
  (∀ (l : LoopId) (f : Int) (q : _) (k : _) (s : State),
    l = .fabric q k →
    s.getF (floopAt q.val k.val) F.FLOOP_REF_ref ≠ 0 →
    exec (.loopLock l f) s = .next (((s.setBitOf (floopBase q.val) F.FLOOP_LOCK_locked k.val true).floopHold q.val k.val false).loopDone (wd (targetWord (q.val + 1) 8 0)) (some k.val) .ok 2)) ∧
  (∀ (n : Fin 8) (s : State),
    let b := loopBase n.val;
    let src := s.loopSource n.val;
    (¬ (src ≠ 2 ∧ src ≠ 3)) →
    let s1 := s.lower b F.LOOP_STAT_ref_ok;
    let s2 := if src = 2 then ({ s1 with tim := { s1.tim with in10 := false } }).signal 38 else s1;
    exec (.loopMonitorTrip n) s = .next ((if s.loopState n.val = slAcquiring ∨ s.loopState n.val = slLocked then let s3 := s2.mark b F.LOOP_STAT_ref_lost (40 + n.val); (if s.loopFlag n.val 4 && s.xo (s.loopXo n.val) == 2 then (s3.loopToFloor n.val).loopToXo n.val else (s3.setB b F.LOOP_STAT_fallback_not_ready (s.loopFlag n.val 4)).loopCoast n.val) else s2))) ∧
  (∀ (n : Fin 8) (f : Int) (s : State),
    s.loopState n.val ≠ slOff →
    let s1 := s.sourceSeen n.val;
    exec (.loopRefQualify n f) s = .next ((if s.loopState n.val = slCoasting || (s.loopState n.val == slFallback && s.loopFlag n.val 3) then ((s1.lower (loopBase n.val) F.LOOP_STAT_fallback_not_ready).toLoop n.val slAcquiring).loopAim n.val f else (if s.loopState n.val = slAcquiring ∨ s.loopState n.val = slLocked then s1.loopAim n.val f else s1)))) ∧
  (∀ (i : Fin 2) (s : State),
    s.xo i.val = 1 ∨ s.xo i.val = 3 →
    let s0 := if s.xo i.val = 3 then s.toXo i.val 1 else s;
    let s1 := (s0.reachNow (SMap.get 0 s0.clk.xoFrom i.val + s0.xoDelay)).toXo i.val 2;
    let s2 : State := (if i = 0 ∧ s1.pwr.boot = .t0 then ({ s1 with pwr := { s1.pwr with boot := .clocks }, opt := { s1.opt with warm := [(0, s1.now), (1, s1.now)] } }.setF (lampBase 0) F.LAMP_STAT_state 1).setF (lampBase 1) F.LAMP_STAT_state 1 else s1);
    exec (.xoReady i) s = .next ((List.range 8).foldl (fun s n => if s.loopState n == slCoasting && s.loopFlag n 4 && s.loopXo n == i.val then s.loopToXo n else s) s2)) ∧
  (∀ (i : Fin 2) (s : State),
    s.xo i.val = 1 ∨ s.xo i.val = 2 →
    exec (.xoFail i) s = .next (if i = 0 ∧ s.pwr.boot ≠ .t0 ∧ s.pwr.boot ≠ .inReset then (s.xoFailed i.val).journal 0x28 false (targetWord 0 0x020 0) 1 0 0 else s.xoFailed i.val)) ∧
  (∀ (s : State),
    s.clk.xo1Free.isSome = true →
    s.xo1Named = false →
    let s1 := s.reachNow ((s.clk.xo1Free.getD 0) + 1000000000);
    exec .xoStop s = .next (({ s1 with clk := { s1.clk with xo1Free := none } }).toXo 1 0)) ∧
  (∀ (s : State),
    exec .xo0Stopped s = .next (if s.xo 0 = 3 then s else (s.xoFailed 0).journal 0x28 false (targetWord 0 0x020 0) 1 0 0)) ∧
  (∀ (q : Fin 4) (l : Fin 16) (s : State),
    s.getF (floopAt q.val l.val) F.FLOOP_REF_ref ≠ 0 →
    exec (.fabricLoopRefLost q l) s = .next (((s.setBitOf (floopBase q.val) F.FLOOP_LOCK_locked l.val false).setBitOf (floopBase q.val) F.FLOOP_LOCK_lost l.val true).signal (48 + q.val))) ∧
  (∀ (q : Fin 4) (l : Fin 16) (s : State),
    s.getF (floopAt q.val l.val) F.FLOOP_REF_ref ≠ 0 →
    exec (.fabricLoopRelock q l) s = .next ((s.setBitOf (floopBase q.val) F.FLOOP_LOCK_locked l.val true).floopHold q.val l.val false))

/-- LANE_SET, LANE_PRBS, LANE_EYE, LANE_BITSLIP, LANE_CAL, LANE_RETIRE and their queries, taken with every check passed, and the events of a lane answer the next state named; a receiver outside IN_SERVICE, and not testing a locked pattern, hands nothing on. -/
def Obligations.SerialLanes : Prop :=
  (∀ (c : Cmd) (s : State),
    let n := c.laneOf.getD 0;
    let w := c.instant 2;
    Takes s 0x0400 c →
    c.len = 10 →
    (c.laneOf.isSome) = true →
    (s.laneSetOk n c) = true →
    (s.laneOn n) = true →
    s.laneState n ≠ lnRetired →
    (!s.heldByOther c) = true →
    (!s.armedOn 0x0400 c.word1) = true →
    ((!s.laneSetInterrupts n c || c.f 5 12 12 == 1)) = true →
    (s.inTime c.die w) = true →
    let u := (s.take 0x0400 c).accept 0x0400 c (w.map s.instantTime);
    exec (.laneSet c) s = .next (u)) ∧
  (∀ (c : Cmd) (s : State),
    let b := laneBase (c.laneOf.getD 0);
    Takes s 0x0480 c →
    c.len = 2 →
    (c.laneOf.isSome) = true →
    (!s.blkOff c.die c.blk) = true →
    let u := s.take 0x0480 c;
    let r : State × List Word :=
      ((u, [wd (u.getF b F.LANE_CFG0_word5), wd (u.getF b F.LANE_CFG1_word6), wd (u.getF b F.LANE_REFKHZ_word7),
      wd (u.getF b F.LANE_TXEQ_word8), wd (u.getF b F.LANE_FILL_word9)]));
    exec (.laneSetQuery c) s = .next (r.1.answer 0x0480 c .ok r.2)) ∧
  (∀ (c : Cmd) (s : State),
    let n := c.laneOf.getD 0;
    Takes s 0x0401 c →
    c.len = 4 →
    (c.laneOf.isSome) = true →
    c.f 2 31 28 ≤ 7 →
    c.f 2 27 24 ≤ 7 →
    c.f 2 21 1 = 0 →
    (s.laneOn n) = true →
    s.laneState n ≠ lnRetired →
    (!s.heldByOther c) = true →
    (!s.armedOn 0x0400 c.word1) = true →
    let u := s.take 0x0401 c;
    exec (.lanePrbs c) s = .next ((u.lanePrbs n c).answer 0x0401 c .ok [])) ∧
  (∀ (c : Cmd) (s : State),
    let n := c.laneOf.getD 0;
    Takes s 0x0481 c →
    c.len = 2 →
    (c.laneOf.isSome) = true →
    (!s.blkOff c.die c.blk) = true →
    let u := s.take 0x0481 c;
    exec (.lanePrbsQuery c) s = .next ((u).answer 0x0481 c .ok [wd (u.laneX n).prbs, wd (u.laneX n).pattern])) ∧
  (∀ (c : Cmd) (s : State),
    let n := c.laneOf.getD 0;
    Takes s 0x0402 c →
    c.len = 7 →
    (c.laneOf.isSome) = true →
    (s.stewardMay c.eyeAddr c.eyeBytes) = true →
    (s.eyeOk n c) = true →
    (s.laneOn n) = true →
    s.laneState n ≠ lnRetired →
    (!s.heldByOther c) = true →
    ((s.pendingOn 0x0402 c.word1).isNone) = true →
    let u := (s.take 0x0402 c).accept 0x0402 c none;
    exec (.laneEye c) s = .next (let s1 := (u.setLaneX n { u.laneX n with scanning := true }).protCut n
      match s1.opOf c.src c.tag with
      | some o => s1.putOp { o with acc := timeWords (u.staAt (5 + n / 72)) }
      | none => s1)) ∧
  (∀ (c : Cmd) (s : State),
    let n := c.laneOf.getD 0;
    Takes s 0x0405 c →
    c.len = 3 →
    (c.laneOf.isSome) = true →
    c.f 2 31 7 = 0 →
    1 ≤ c.w 2 →
    c.w 2 < slipWidth (s.lanePcs n) →
    ((s.laneState n == lnService || s.laneState n == lnTest)) = true →
    (s.laneOn n) = true →
    s.laneState n ≠ lnRetired →
    (!s.heldByOther c) = true →
    let u := s.take 0x0405 c;
    let r : State × List Word :=
      (((u.setLaneX n { u.laneX n with boundary := ((u.laneX n).boundary + c.w 2) % slipWidth (u.lanePcs n) }).laneCount n
      F.LANE_SH_SLIP_LO_lo 1, []));
    exec (.laneBitslip c) s = .next (r.1.answer 0x0405 c .ok r.2)) ∧
  (∀ (c : Cmd) (s : State),
    let n := c.laneOf.getD 0;
    let full := c.f 2 0 0 == 0;
    Takes s 0x0404 c →
    c.len = 3 →
    (c.laneOf.isSome) = true →
    c.f 2 31 1 = 0 →
    (s.laneOn n) = true →
    s.laneState n ≠ lnRetired →
    (!s.heldByOther c) = true →
    ((!full || (!s.flag (lsysBase (n / 72)) F.LSYS_CAL_busy && !s.armedOn 0x0400 c.word1))) = true →
    let u := (s.take 0x0404 c).accept 0x0404 c none;
    exec (.laneCal c) s = .next (if full then (let s1 := u.setCal n true; if u.laneState n = lnOff then s1 else s1.toLane n lnCal) else u)) ∧
  (∀ (c : Cmd) (s : State),
    let n := c.laneOf.getD 0;
    Takes s 0x0403 c →
    c.len = 2 →
    (c.laneOf.isSome) = true →
    (s.laneOn n) = true →
    s.laneState n ≠ lnRetired →
    (!s.heldByOther c) = true →
    let u := (s.take 0x0403 c).accept 0x0403 c none;
    exec (.laneRetire c) s = .next (u)) ∧
  (∀ (n : Fin 144) (edge : Nat) (o : Op) (s : State),
    s.armedBy 0x0400 (laneWord n.val) edge = some o →
    o.f 5 7 0 < 8 →
    s.laneRefOk n.val (o.w 5) (o.w 7) = false →
    exec (.laneSetAct n edge) s = .next ((s.reachAt (5 + n.val / 72) edge).complete o .badParam [])) ∧
  (∀ (n : Fin 144) (edge : Nat) (o : Op) (s : State),
    s.armedBy 0x0400 (laneWord n.val) edge = some o →
    (8 ≤ o.f 5 7 0 ∨ s.laneRefOk n.val (o.w 5) (o.w 7) = true) →
    let ws := s.laneAtEdge n.val edge ((List.range 5).map (fun i => o.w (5 + i)));
    let s1 := (s.reachAt (5 + n.val / 72) edge).laneApply n.val ws;
    let s2 := s1.setLaneX n.val { s1.laneX n.val with clkAt := if (ws.getD 0 0).testBit 23 then some edge else none };
    exec (.laneSetAct n edge) s = .next (s2.putOp { o with stage := 1, acc := timeWords edge })) ∧
  (∀ (n : Fin 144) (locked : Bool) (o : Op) (s : State),
    s.actedOn 0x0400 (laneWord n.val) = some o →
    exec (.laneSetCompletion n locked) s = .next ((if locked then let s1 := (s.setLaneX n.val { s.laneX n.val with pll := true }).settleTx n.val; s1.complete o .ok (o.acc ++ [wd (s1.laneState n.val)]) else (if s.laneState n.val = lnOff ∨ (s.laneX n.val).pll then s.complete o .ok (o.acc ++ [wd (s.laneState n.val)]) else s.complete o .timeout [])))) ∧
  (∀ (n : Fin 144) (s : State),
    s.laneState n.val ≠ lnOff →
    s.laneState n.val ≠ lnRetired →
    let s1 := s.raise (laneBase n.val) F.LANE_STAT_sig_detect;
    exec (.laneSignalDetect n) s = .next ((if s.laneState n.val = lnNoSignal then s1.toLane n.val lnLocking else s1))) ∧
  (∀ (n : Fin 144) (s : State),
    exec (.laneSignalLoss n) s = .next ((if lnListening (s.laneState n.val) then ((((s.setLaneX n.val { s.laneX n.val with fails := 0 }).lower (laneBase n.val) F.LANE_STAT_sig_detect).laneMark n.val F.LANE_STAT_sig_lost).laneCount n.val F.LANE_SH_SIGLOSS_LO_lo 1).toLane n.val lnNoSignal else s.lower (laneBase n.val) F.LANE_STAT_sig_detect))) ∧
  (∀ (n : Fin 144) (s : State),
    s.laneState n.val = lnLocking →
    exec (.laneCdrLock n) s = .next (if s.lanePcs n.val = 2 then (s.setLaneX n.val { s.laneX n.val with fails := 0 }).toLane n.val lnService else s.toLane n.val lnHunting)) ∧
  (∀ (n : Fin 144) (s : State),
    s.laneState n.val ≠ lnLocking →
    s.laneState n.val = lnRecovering →
    s.lanePcs n.val = 2 →
    exec (.laneCdrLock n) s = .next ((s.setLaneX n.val { s.laneX n.val with fails := 0 }).toLane n.val lnService)) ∧
  (∀ (n : Fin 144) (s : State),
    s.laneState n.val = lnLocking →
    exec (.laneLockTimeout n) s = .next (s.toLane n.val lnLocking)) ∧
  (∀ (n : Fin 144) (pos : Nat) (s : State),
    let st := s.laneState n.val;
    st = lnHunting ∨ st = lnRecovering →
    exec (.laneAlignAcquire n pos) s = .next ((s.setLaneX n.val { s.laneX n.val with boundary := pos, fails := 0 }).toLane n.val lnService)) ∧
  (∀ (n : Fin 144) (pos : Nat) (s : State),
    let st := s.laneState n.val;
    st ≠ lnHunting →
    st ≠ lnRecovering →
    st = lnService →
    (s.laneCfg n.val).testBit 25 = true →
    (s.laneX n.val).boundary ≠ pos →
    exec (.laneAlignAcquire n pos) s = .next ((s.setLaneX n.val { s.laneX n.val with boundary := pos }).laneCount n.val F.LANE_SH_SLIP_LO_lo 1)) ∧
  (∀ (n : Fin 144) (s : State),
    s.laneState n.val = lnHunting →
    exec (.laneHuntTimeout n) s = .next (s.toLane n.val lnLocking)) ∧
  (∀ (n : Fin 144) (s : State),
    s.laneState n.val = lnService →
    s.flag (laneBase n.val) F.LANE_STAT_sig_detect = true →
    let s1 := ((s.laneMark n.val F.LANE_STAT_align_lost).laneCount n.val F.LANE_SH_RECOVER_LO_lo 1).toLane n.val lnRecovering;
    let r := s1.charge (laneWord n.val).toNat;
    exec (.laneAlignLoss n) s = .next ((if r.1 then r.2.laneFault n.val else r.2))) ∧
  (∀ (n : Fin 144) (s : State),
    s.laneState n.val = lnRecovering →
    let f := (s.laneX n.val).fails + 1;
    exec (.laneRecoveryTimeout n) s = .next ((if 2 ≤ f ∧ s.flag (laneBase n.val) F.LANE_STAT_sig_detect then (s.setLaneX n.val { s.laneX n.val with fails := 0 }).laneFault n.val else s.setLaneX n.val { s.laneX n.val with fails := f }))) ∧
  (∀ (l : Fin 2) (k : Fin 8) (s : State),
    let s1 := ((s.setBitOf (refcBase l.val) F.REFC_STAT_lost k.val true).lower (refcBase l.val + 4 * k.val) F.REFC_STATK_present).settleRefPpm l.val k.val;
    exec (.refPinLost l k) s = .next (((s.refUsers l.val k.val).filter (fun n => s.laneOn n)).foldl (fun s n => s.laneMark n F.LANE_STAT_ref_lost) s1)) ∧
  (∀ (l : Fin 2) (k : Fin 8) (s : State),
    exec (.refPinReturn l k) s = .next (((s.refUsers l.val k.val).filter (fun n => s.laneOn n)).foldl (fun s n => (s.setLaneX n { s.laneX n with pll := true }).settleTx n) ((s.raise (refcBase l.val + 4 * k.val) F.REFC_STATK_present).settleRefPpm l.val k.val))) ∧
  (∀ (n : Fin 144) (s : State),
    s.laneState n.val = lnTest →
    s.rxPat n.val ≠ 0 →
    exec (.prbsLock n) s = .next (s.raise (laneBase n.val) F.LANE_STAT_prbs_locked)) ∧
  (∀ (n : Fin 144) (s : State),
    s.flag (laneBase n.val) F.LANE_STAT_prbs_locked = true →
    exec (.prbsLockLoss n) s = .next ((s.lower (laneBase n.val) F.LANE_STAT_prbs_locked).laneMark n.val F.LANE_STAT_align_lost)) ∧
  (∀ (n : Fin 144) (counts : List Nat) (o : Op) (s : State),
    s.pendingOn 0x0402 (laneWord n.val) = some o →
    let a := o.f 4 7 0 * 4294967296 + o.w 3;
    let s1 := (s.setLaneX n.val { s.laneX n.val with scanning := false }).stewardStore a (eyeRecord n.val o counts);
    exec (.laneEyeCompletion n counts) s = .next (s1.complete o .ok [wd (eyePoints (o.f 2 31 24) (o.f 2 23 16)).length])) ∧
  (∀ (n : Fin 144) (pass : Bool) (o : Op) (s : State),
    s.dom (groupDom (n.val / 8)) ≠ 2 →
    s.pendingOn 0x0404 (laneWord n.val) = some o →
    exec (.laneCalCompletion n pass) s = .next ((if o.f 2 0 0 = 1 then s.complete o (if pass then .ok else .hwFault) [] else (if pass then (s.calEnds n.val true).complete o .ok [] else (s.complete o .hwFault []).calEnds n.val false)))) ∧
  (∀ (n : Fin 144) (pass : Bool) (s : State),
    s.dom (groupDom (n.val / 8)) ≠ 2 →
    s.pendingOn 0x0404 (laneWord n.val) = none →
    s.hq.ops.any (fun o => o.opcode == 0x0A03 && chanOf (o.w 2) == some (.lane n.val)) = false →
    (s.laneState n.val = lnCal ∨ (s.laneOn n.val = true ∧ s.calNames n.val = true)) →
    s.laneReturns n.val = false →
    let s1 := s.calDrop n.val;
    exec (.laneCalCompletion n pass) s = .next (if pass then s1.calPassed n.val else s1.calFailed n.val)) ∧
  (∀ (n : Fin 144) (o : Op) (s : State),
    s.pendingOn 0x0403 (laneWord n.val) = some o →
    exec (.laneRetireCompletion n) s = .next ((if s.laneState n.val = lnRetired then s else s.retireLane n.val 1).complete o .ok [])) ∧
  (∀ (n : Fin 144) (w : RxWord) (s : State),
    s.laneState n.val = lnTest →
    s.flag (laneBase n.val) F.LANE_STAT_prbs_locked = true →
    exec (.laneWordReceive n w) s = .next ((s.laneCount n.val F.LANE_SH_PRBS_BITS_LO_lo 1).laneCount n.val F.LANE_SH_PRBS_ERR_LO_lo w.errs.val)) ∧
  (∀ (n : Fin 144) (w : RxWord) (s : State),
    (¬ (s.laneState n.val = lnTest ∧ s.flag (laneBase n.val) F.LANE_STAT_prbs_locked = true)) →
    s.laneState n.val = lnService →
    let d := s.lanePcsWord n.val w;
    let s0 := s.setLaneX n.val { s.laneX n.val with pcs := d.2 };
    let s1 := (if d.1.bad then s0.laneCount n.val F.LANE_SH_CODE_LO_lo 1 else s0);
    exec (.laneWordReceive n w) s = .next (if s.lanePcs n.val < 2 then (s1.ebTake n.val w.taken).ebPut n.val d.1 else s1.emit (.word n.val d.1.value))) ∧
  (∀ (n : Fin 144) (w : RxWord) (s : State), s.laneState n.val ≠ lnService →
    ¬ (s.laneState n.val = lnTest ∧ s.flag (laneBase n.val) F.LANE_STAT_prbs_locked = true) →
    exec (.laneWordReceive n w) s = .next (s.setLaneX n.val { s.laneX n.val with pcs := (s.lanePcsWord n.val w).2 }))

/-- SDI_RX_SET, SDI_TX_SET, XPT_AT and their queries, taken with every check passed, and the lines and frames of an SDI channel answer the next state named. -/
def Obligations.SdiStreams : Prop :=
  (∀ (c : Cmd) (s : State),
    let n := c.chOf.getD 0;
    let w := c.instant 2;
    Takes s 0x0500 c →
    c.len = 7 →
    (c.chOf.isSome) = true →
    (s.sdiRxOk n c) = true →
    (s.grpOn (grpOf n)) = true →
    (s.sdiLanesLeft n (c.f 5 29 27)) = true →
    (!s.heldByOther c) = true →
    (!s.armedOn 0x0500 c.word1) = true →
    s.rxState n ≠ rxDisabling →
    (s.inTime c.die w) = true →
    let u := (s.take 0x0500 c).accept 0x0500 c (w.map s.instantTime);
    exec (.sdiRxSet c) s = .next (u)) ∧
  (∀ (c : Cmd) (s : State),
    let n := c.chOf.getD 0;
    Takes s 0x0580 c →
    c.len = 2 →
    (c.chOf.isSome) = true →
    (!s.isMember n && !s.portMember n) = true →
    (!s.blkOff c.die c.blk) = true →
    let u := s.take 0x0580 c;
    exec (.sdiRxSetQuery c) s = .next ((u).answer 0x0580 c .ok [wd ((u.seCh n).rx.getD 0 0), wd ((u.seCh n).rx.getD 1 0)])) ∧
  (∀ (c : Cmd) (s : State),
    let n := c.chOf.getD 0;
    let w := c.instant 2;
    Takes s 0x0501 c →
    c.len = 8 →
    (c.chOf.isSome) = true →
    (s.sdiTxOk n c) = true →
    (s.grpOn (grpOf n)) = true →
    (s.sdiLanesLeft n (c.f 5 29 27)) = true →
    (!s.heldByOther c) = true →
    (!s.armedOn 0x0501 c.word1) = true →
    s.txState n ≠ txDisabling →
    (s.inTime c.die w) = true →
    let u := (s.take 0x0501 c).accept 0x0501 c (w.map s.instantTime);
    exec (.sdiTxSet c) s = .next (u)) ∧
  (∀ (c : Cmd) (s : State),
    let n := c.chOf.getD 0;
    Takes s 0x0581 c →
    c.len = 2 →
    (c.chOf.isSome) = true →
    (!s.isMember n && !s.portMember n) = true →
    (!s.blkOff c.die c.blk) = true →
    let u := s.take 0x0581 c;
    exec (.sdiTxSetQuery c) s = .next ((u).answer 0x0581 c .ok ((List.range 3).map (fun i => wd ((u.seCh n).tx.getD i 0))))) ∧
  (∀ (c : Cmd) (s : State),
    let n := c.chOf.getD 0;
    let w := c.instant 2;
    Takes s 0x0505 c →
    c.len = 6 →
    (c.chOf.isSome) = true →
    (!s.flag (chBase n) F.SE_CH_CFG_port) = true →
    (s.xptOk n c) = true →
    (s.grpOn (grpOf n)) = true →
    s.laneState n ≠ lnRetired →
    (!s.heldByOther c) = true →
    (!s.armedOn 0x0505 c.word1) = true →
    s.txState n ≠ txDisabling →
    (s.inTime c.die w) = true →
    let u := (s.take 0x0505 c).accept 0x0505 c (w.map s.instantTime);
    exec (.xptAt c) s = .next (u)) ∧
  (∀ (c : Cmd) (s : State),
    let b := chBase (c.chOf.getD 0);
    Takes s 0x0585 c →
    c.len = 2 →
    (c.chOf.isSome) = true →
    (!s.flag b F.SE_CH_CFG_port) = true →
    (!s.isMember (c.chOf.getD 0)) = true →
    (!s.blkOff c.die c.blk) = true →
    let u := s.take 0x0585 c;
    let r : State × List Word :=
      ((u, [wd (u.getF b F.SE_CH_XPT_kind * 1073741824 + u.getF b F.SE_CH_XPT_south * 536870912 +
      u.getF b F.SE_CH_XPT_member)]));
    exec (.xptAtQuery c) s = .next (r.1.answer 0x0585 c .ok r.2)) ∧
  (∀ (n : Fin 144) (edge : Nat) (o : Op) (s : State),
    s.armedBy 0x0500 (chWord n.val) edge = some o →
    s.isMember n.val = false →
    s.portMember n.val = false →
    let r := (s.reachAt (5 + n.val / 72) edge).sdiRxApply n.val (o.w 5) (o.w 6);
    exec (.sdiRxSetAct n edge) s = .next ((if r.1 then r.2.putOp { o with stage := 1 } else (r.2.putOp { o with stage := 1 }).rxMoved n.val edge))) ∧
  (∀ (n : Fin 144) (edge : Nat) (o : Op) (s : State),
    s.armedBy 0x0500 (chWord n.val) edge = some o →
    (s.isMember n.val = true ∨ s.portMember n.val = true) →
    exec (.sdiRxSetAct n edge) s = .next ((s.reachAt (5 + n.val / 72) edge).complete o .badParam [])) ∧
  (∀ (n : Fin 144) (l : RxLine) (s : State),
    let b := chBase n.val;
    let L := s.rxLineNo n.val;
    s.scanHolds ≠ true →
    s.rxInService n.val = true →
    (¬ (s.rxState n.val ≠ rxRunning ∧ s.rxState n.val ≠ rxSearching)) →
    let s1 := (s.rxErrors n.val L l).setSeCh n.val { s.seCh n.val with rxLine := (s.seCh n.val).rxLine + 1 };
    let us := s.rxUnits n.val L l;
    exec (.sdiRxLine n l) s = .next (if s.rxState n.val ≠ rxRunning ∨ us = [] then s1 else let s2 := (s1.setSeCh n.val { s1.seCh n.val with sof := false, open_ := true, field := (s.rxReads n.val l).any (·.1) }).deliver n.val (s1.flag b F.SE_CH_CFG_south) us.flatten; s2.seCount n.val b F.SE_CH_SH_LINES_LO_lo (if (s.rxReads n.val l).any (·.2) then us.length else 0))) ∧
  (∀ (n : Fin 144) (t : Nat) (pid : RxPid) (lines : Nat) (samples : Nat) (inter : Bool) (s : State),
    let b := chBase n.val;
    s.scanHolds ≠ true →
    s.rxInService n.val = true →
    (¬ (s.rxState n.val ≠ rxRunning ∧ s.rxState n.val ≠ rxSearching)) →
    let old := s.getF b F.SE_CH_PID_pid;
    let want := (s.seCh n.val).rx.getD 1 0;
    let s1 := (s.formatCheck n.val lines samples).setF b F.SE_CH_PID_pid pid.pid;
    let s2 := if (s.seCh n.val).frameAt ≠ none ∧ old ≠ pid.pid % 4294967296 then s1.seMark n.val F.SE_CH_STAT_pid_change else s1;
    let s3 := if want ≠ 0 ∧ want ≠ pid.pid % 4294967296 then s2.seMark n.val F.SE_CH_STAT_pid_mismatch else s2;
    let s4 := (((s3.toRx n.val rxRunning).setF b F.SE_CH_FMT_lines lines).setF b F.SE_CH_FMT_samples samples).setB b F.SE_CH_FMT_interlaced inter;
    let s5 := (s4.setSeCh n.val { s4.seCh n.val with sof := true, open_ := false, frameAt := some t, rxLine := 0, links := pid.links }).moveDelivery n.val t;
    exec (.sdiRxFrame n t pid lines samples inter) s = .next ((s5.sdiReference n.val t (s.seCh n.val).frameAt).protLinks n.val t)) ∧
  (∀ (n : Fin 144) (skew : Bool) (s : State),
    (skew = false ∨ mapLanes (s.getF (chBase n.val) F.SE_CH_CFG_rx_map) ≠ 1) →
    s.rxState n.val = rxRunning →
    let s1 := if skew then s.seMark n.val F.SE_CH_STAT_skew else s;
    let s2 := s1.deliver n.val (s1.flag (chBase n.val) F.SE_CH_CFG_south) [lostBeat (s.seCh n.val).field];
    exec (.sdiInputLost n skew) s = .next (((s2.setSeCh n.val { s2.seCh n.val with open_ := false, sof := true }).seMark n.val F.SE_CH_STAT_lost).toRx n.val rxSearching)) ∧
  (∀ (n : Fin 144) (s : State),
    mapLanes (s.getF (chBase n.val) F.SE_CH_CFG_rx_map) ≠ 1 →
    s.rxState n.val = rxSearching →
    exec (.sdiInputLost n true) s = .next (s.seMark n.val F.SE_CH_STAT_skew)) ∧
  (∀ (n : Fin 144) (edge : Nat) (o : Op) (s : State),
    s.armedBy 0x0501 (chWord n.val) edge = some o →
    s.isMember n.val = false →
    s.portMember n.val = false →
    let s1 := (s.reachAt (5 + n.val / 72) edge).sdiTxApply n.val edge [o.w 5, o.w 6, o.w 7];
    exec (.sdiTxSetAct n edge) s = .next ((if o.f 5 31 31 = 0 then s1.complete o .ok (timeWords edge ++ [wd (s1.txState n.val)]) else s1.putOp { o with stage := 1 }))) ∧
  (∀ (n : Fin 144) (edge : Nat) (o : Op) (s : State),
    s.armedBy 0x0501 (chWord n.val) edge = some o →
    (s.isMember n.val = true ∨ s.portMember n.val = true) →
    exec (.sdiTxSetAct n edge) s = .next ((s.reachAt (5 + n.val / 72) edge).complete o .badParam [])) ∧
  (∀ (n : Fin 144) (t : Nat) (s : State),
    let x := s.seCh n.val;
    s.eavOk n.val t = true →
    (s.txState n.val = txStarting ∨ (s.txState n.val = txRunning ∧ x.txLine = 1 ∧ x.txNext = none)) →
    let s0 := s.reachAt (5 + n.val / 72) t;
    let s1 := if s.txState n.val = txStarting then (s0.setF (chBase n.val) F.SE_CH_STAT_tx_state txRunning).setSeCh n.val { s0.seCh n.val with txLine := 1, txAt := t } else s0;
    exec (.sdiTxFirstFrame n t) s = .next ((s1.hq.ops.filter (fun o => o.opcode == 0x0501 && o.word1 == chWord n.val && o.stage != 0)).foldl (fun s o => s.complete o .ok (timeWords t ++ [wd txRunning])) s1)) ∧
  (∀ (n : Fin 144) (t : Nat) (s : State),
    s.eavOk n.val t = false →
    exec (.sdiTxFirstFrame n t) s = .next s) ∧
  (∀ (n : Fin 144) (active : Bool) (room : Bool) (s : State),
    let b := chBase n.val;
    let x := s.seCh n.val;
    let m := s.getF b F.SE_CH_CFG_tx_map;
    x.txLine ≠ 0 →
    s.flag b F.SE_CH_CFG_tx_on = true →
    s.sdiLanes n.val (mapLanes m) = true →
    let r := seekUnit x.taken.length x.taken x.txLine;
    let l := s.txBuild n.val x.txLine r.1;
    let s1 := (if r.2.2 then l.1.seMark n.val F.SE_CH_STAT_discard else l.1).txAdvance n.val r.2.1;
    exec (.sdiTxLine n active room) s = .next (if s.txSends n.val = false then s1 else (if rasterActiveAt (s.getF b F.SE_CH_CFG_raster) m x.txLine then s1.seCount n.val b F.SE_CH_SH_TXLINES_LO_lo 1 else s1).emit (.sdi n.val x.txLine l.2.1 l.2.2 (if (pidLines (s.getF b F.SE_CH_CFG_raster) m).contains x.txLine then some (s.txPid n.val) else none)))) ∧
  (∀ (n : Fin 144) (edge : Nat) (o : Op) (s : State),
    s.armedBy 0x0505 (chWord n.val) edge = some o →
    s.eavOk n.val edge = true →
    (s.isMember n.val = true ∨ (o.f 5 31 30 = 1 ∧ s.shareOk n.val (o.f 5 2 0) (o.f 5 29 29 == 1) = false)) →
    exec (.xptAtAct n edge) s = .next ((s.reachAt (5 + n.val / 72) edge).complete o .badParam [])) ∧
  (∀ (n : Fin 144) (edge : Nat) (o : Op) (s : State),
    s.armedBy 0x0505 (chWord n.val) edge = some o →
    s.eavOk n.val edge = true →
    s.isMember n.val = false →
    (o.f 5 31 30 ≠ 1 ∨ s.shareOk n.val (o.f 5 2 0) (o.f 5 29 29 == 1) = true) →
    let b := chBase n.val;
    let port := o.f 5 31 30 == 1;
    let s1 := (((s.reachAt (5 + n.val / 72) edge).setF b F.SE_CH_XPT_kind (o.f 5 31 30)).setF b F.SE_CH_XPT_south (if port then o.f 5 29 29 else 0)).setF b F.SE_CH_XPT_member (if port then o.f 5 2 0 else 0);
    exec (.xptAtAct n edge) s = .next ((s1.setSeCh n.val { s1.seCh n.val with taken := [] }).complete o .ok (timeWords edge)))

/-- IP_FLOW_ADD, IP_FLOW_DEL, MERGE_SET, STREAM_DISABLE, STREAM_ABORT and their queries, taken with every check passed, and the packets and frames of a port answer the next state named. -/
def Obligations.IpStreams : Prop :=
  (∀ (c : Cmd) (s : State),
    let g := c.seOf.getD 0;
    let n := 8 * g + c.inst % 8;
    Takes s 0x0502 c →
    0x8000 ≤ c.inst →
    c.len = 14 →
    c.flowTgt = true →
    s.portOk n c = true →
    s.grpOn g = true →
    (∀ j < speedLanes (c.f 2 27 26), s.laneState (n + j) ≠ lnRetired) →
    s.heldByOther c = false →
    exec (.ipFlowAdd c) s = .next (((s.take 0x0502 c).portAdd n c.words).answer 0x0502 c .ok [])) ∧
  (∀ (c : Cmd) (s : State),
    let g := c.seOf.getD 0;
    Takes s 0x0502 c →
    c.inst < 0x8000 →
    c.len = 16 →
    c.flowTgt = true →
    s.flowOk g c = true →
    s.mcfRefuses g c = false →
    s.grpOn g = true →
    s.laneState (8 * g + c.f 2 23 21 + c.f 2 20 19) ≠ lnRetired →
    s.heldByOther c = false →
    s.flState g c.inst ≠ flDisabling →
    exec (.ipFlowAdd c) s = .next (((s.take 0x0502 c).flowAdd g c.inst c.words).answer 0x0502 c .ok [])) ∧
  (∀ (c : Cmd) (s : State),
    let g := c.seOf.getD 0;
    Takes s 0x0582 c →
    c.len = 2 →
    (c.flowTgt) = true →
    (c.inst < 512 ∨ (!s.portMember (8 * g + c.inst % 8) && !s.isMember (8 * g + c.inst % 8)) = true) →
    (!s.blkOff c.die c.blk) = true →
    let u := s.take 0x0582 c;
    let r : State × List Word :=
      ((u, if c.inst < 512 then (List.range 14).map (fun i => wd ((u.flow g c.inst).words.getD i 0))
      else (List.range 12).map (fun i => wd ((u.portRec (8 * g + c.inst % 8)).getD i 0))));
    exec (.ipFlowAddQuery c) s = .next (r.1.answer 0x0582 c .ok r.2)) ∧
  (∀ (c : Cmd) (s : State),
    let g := c.seOf.getD 0;
    let n := 8 * g + c.inst % 8;
    Takes s 0x0503 c →
    c.len = 2 →
    (c.flowTgt) = true →
    (if c.inst < 512 then !(s.flow g c.inst).words.isEmpty else !(s.portRec n).isEmpty) = true →
    (s.grpOn g) = true →
    (!s.heldByOther c) = true →
    let u := s.take 0x0503 c;
    exec (.ipFlowDel c) s = .next ((if c.inst < 512 then u.flowRemove g c.inst else u.portRemove n).answer 0x0503 c .ok [])) ∧
  (∀ (c : Cmd) (s : State),
    let g := c.seOf.getD 0;
    let b := c.legB;
    Takes s 0x0504 c →
    c.len = 5 →
    (c.seOf.isSome) = true →
    c.inst < 256 →
    (s.mergeOk g c) = true →
    (s.grpOn g && s.grpOn b.1) = true →
    (!s.heldByOther c && !s.otherHolds c (seBase b.1)) = true →
    s.flState g c.inst ≠ flDisabling →
    s.flState b.1 b.2 ≠ flDisabling →
    let u := s.take 0x0504 c;
    let r : State × List Word :=
      ((if c.f 2 31 31 = 1 then u.merge g c.inst b.1 b.2 c.words
      else if (u.flow g c.inst).leg = some (true, 512 * b.1 + b.2) then u.separate g c.inst else u, []));
    exec (.mergeSet c) s = .next (r.1.answer 0x0504 c .ok r.2)) ∧
  (∀ (c : Cmd) (s : State),
    let g := c.seOf.getD 0;
    Takes s 0x0584 c →
    c.len = 2 →
    (c.seOf.isSome) = true →
    c.inst < 256 →
    (!s.blkOff c.die c.blk) = true →
    let u := s.take 0x0584 c;
    exec (.mergeSetQuery c) s = .next ((u).answer 0x0584 c .ok ((List.range 3).map (fun i => wd ((u.flow g c.inst).merge.getD i 0))))) ∧
  (∀ (c : Cmd) (s : State),
    let g := c.seOf.getD 0;
    Takes s 0x0506 c →
    c.len = 3 →
    (c.streamTgt) = true →
    (s.streamOk g c) = true →
    (s.grpOn g) = true →
    (!s.heldByOther c) = true →
    let u := (s.take 0x0506 c).accept 0x0506 c none;
    exec (.streamDisable c) s = .next (u.toDisabling g c.inst (c.f 2 1 0))) ∧
  (∀ (c : Cmd) (s : State),
    let g := c.seOf.getD 0;
    Takes s 0x0507 c →
    c.len = 3 →
    c.streamTgt = true →
    s.streamOk g c = true →
    s.grpOn g = true →
    exec (.streamAbort c) s = .next ((((s.take 0x0507 c).streamAbort g c.inst (c.f 2 1 0)).answer 0x0507 c .ok []).endDisable g c.inst (c.f 2 1 0) true)) ∧
  (∀ (g : Fin 18) (i : Fin 512) (sel : Fin 3) (s : State),
    let n := 8 * g.val + i.val;
    s.disablesOf g.val i.val sel.val ≠ [] →
    ¬ (sel.val = 1 ∧ s.txState n = txDisabling ∧ s.txSending n = true) →
    let s1 := (if s.streamState g.val i.val sel.val ≠ 3 then s else (if sel.val = 0 then s.rxOff n else (if sel.val = 1 then s.txBlack n else s.toFlow g.val i.val flIdle)));
    exec (.streamDisableCompletion g i sel) s = .next ((s1.disablesOf g.val i.val sel.val).foldl (fun s o => s.complete o .ok [wd 0, wd (s.opMicros o)]) s1)) ∧
  (∀ (n : Fin 144) (x : EthFrame) (s : State),
    let b := ethBase n.val;
    s.portHears n.val = true →
    let w2 := (s.portRec n.val).getD 0 0;
    let s0 := s.protEvents n.val (x.uncorr + bit (!x.fcs));
    let s1 := s0.seCount n.val b F.SE_PORT_SH_CORR_LO_lo x.corr;
    let s2 := (if x.uncorr = 0 then s1 else (s1.seCount n.val b F.SE_PORT_SH_UNCORR_LO_lo x.uncorr).mark b F.SE_PORT_STAT_fec_uncorr (seSrc n.val));
    let vlanOk := if w2.testBit 23 then x.vlan == some (BitVec.ofNat 12 w2) else x.vlan == none;
    exec (.ethFrameReceive n x) s = .next ((if x.pause || !x.fcs || x.uncorr != 0 || decide (x.len < 64) || decide (9600 < x.len) || !vlanOk then s2.badFrame n.val else (match x.body with | .control => s2 | .other => s2.badFrame n.val | .media dst src udpDst pt => let fs := s.flowMatches n.val x.macDst dst src udpDst pt; (if fs ≠ [] then s2.setSeCh n.val { s2.seCh n.val with matched := (s2.seCh n.val).matched ++ fs.filter (fun i => let st := s.flState (grpOf n.val) i; st == flSearching || st == flRunning) } else (if isMulticast (s.portV6 n.val) dst && !s.mcfHas n.val dst src then (s2.badFrame n.val).count (mcfBase (n.val / 72)) F.MCF_SH_MISS_LO_lo 1 (mcfBase (n.val / 72)) F.MCF_STAT_cnt_overflow (mcfSrc (n.val / 72)) else s2.badFrame n.val)))))) ∧
  (∀ (n : Fin 144) (x : CtlPkt) (a : _) (s : State),
    s.portHears n.val = true →
    x = .solicit a →
    a = s.portAddr n.val →
    exec (.ethControlPacket n x) s = .next (s.emit (.control n.val 0 a))) ∧
  (∀ (n : Fin 144) (x : CtlPkt) (a : _) (s : State),
    s.portHears n.val = true →
    x = .echo a →
    a = s.portAddr n.val →
    exec (.ethControlPacket n x) s = .next (s.emit (.control n.val 1 a))) ∧
  (∀ (n : Fin 144) (x : CtlPkt) (a : Nat) (mac : _) (s : State),
    s.portHears n.val = true →
    x = .resolved a mac →
    exec (.ethControlPacket n x) s = .next ((s.portFlows n.val).foldl (fun s i => if 256 ≤ i ∧ s.nextHop n.val (addrOf (s.flow (grpOf n.val) i).words 4) = some a then let s1 := s.setFlow (grpOf n.val) i { s.flow (grpOf n.val) i with mac := mac }; (if s.flState (grpOf n.val) i = flSearching then s1.toFlow (grpOf n.val) i flRunning else s1) else s) s)) ∧
  (∀ (n : Fin 144) (x : CtlPkt) (s : State),
    s.portHears n.val = true →
    x = .query →
    exec (.ethControlPacket n x) s = .next (((s.mcfUsed (n.val / 72)).filter (fun k => k.1 == n.val)).foldl (fun s k => s.emit (reportOf k)) s)) ∧
  (∀ (g : Fin 18) (i : Fin 256) (p : RtpPkt) (s : State),
    let st := s.flState g.val i.val;
    let f := s.flow g.val i.val;
    let n := 8 * g.val + f.f 2 23 21;
    let x := s.seCh n;
    (st = flSearching ∨ st = flRunning) →
    x.matched.contains i.val = true →
    let sR := (s.reachAt (5 + g.val / 9) p.time).setSeCh n { x with matched := x.matched.erase i.val };
    let sR := sR.setFlow g.val i.val { f with seen := some (p.ts % 4294967296, p.seq + 1), silent := false };
    let s0 := if f.essence = 0 ∧ s.protF n 2 15 8 = i.val then sR.protPacket n (f.w 2) (f.w 12) f.seen p.seq (p.ts % 4294967296) p.time else sR;
    exec (.ipPacketReceive g i p) s = .next ((match f.legA g.val i.val with | some (a, j, b) => let s1 := if st = flSearching then s0.toFlow g.val i.val flRunning else s0; s1.mergeArrive a j b p | none => let late := match f.next with | some n => decide (f.seqMod / 2 ≤ f.ahead p.seq n) | none => false; (if late then s0 else (s0.accepted g.val i.val).unpack g.val i.val p.time p)))) ∧
  (∀ (g : Fin 18) (i : Fin 256) (edge : Nat) (x1_ : _) (e : _) (s : State),
    let f := s.flow g.val i.val;
    f.leg = some (true, x1_) →
    f.first = some e →
    (s.flState g.val i.val = flSearching ∨ s.flState g.val i.val = flRunning) →
    e.time + bitsOf (f.merge.getD 1 0) 15 0 * 1000 * nano ≤ edge →
    exec (.mergePacketRelease g i edge) s = .next ((s.reachAt (5 + g.val / 9) edge).mergeLeave g.val i.val e)) ∧
  (∀ (g : Fin 18) (i : Fin 256) (a j : Nat) (x : _) (s : State),
    let f := s.flow g.val i.val;
    let n := 8 * g.val + f.f 2 23 21;
    f.legA g.val i.val = some (a, j, x) →
    let s0 := s.setFlow g.val i.val { f with silent := true, seen := none };
    let s1 := if s.protF n 2 15 8 = i.val then s0.protFlowLost n (f.w 12) else s0;
    exec (.ipFlowLost g i) s = .next ((match (s1.flow a j).leg with | some (true, b) => (if (s1.flow a j).silent && (s1.flow (b / 512) (b % 512)).silent then let s2 := s1.flowLost a j; (if s2.flState (b / 512) (b % 512) = flRunning then s2.toFlow (b / 512) (b % 512) flSearching else s2) else s1) | _ => s1))) ∧
  (∀ (g : Fin 18) (i : Fin 256) (s : State),
    (s.flow g.val i.val).leg = none →
    exec (.ipFlowLost g i) s = .next (s.flowLost g.val i.val)) ∧
  (∀ (n : Fin 144) (remote : Bool) (s : State),
    let b := ethBase n.val;
    let k := s.portLanes n.val;
    (s.portRec n.val).isEmpty = false →
    s.flag b F.SE_PORT_STAT_link_up = false →
    (List.range k).all (fun j => s.laneState (n.val + j) == lnService) = true →
    exec (.ethPortUp n remote) s = .next ((((s.raise b F.SE_PORT_STAT_link_up).setB b F.SE_PORT_STAT_fec_lock (((s.portRec n.val).getD 0 0).testBit 25)).lower b F.SE_PORT_STAT_local_fault).setB b F.SE_PORT_STAT_remote_fault remote)) ∧
  (∀ (n : Fin 144) (lf : Bool) (rf : Bool) (s : State),
    let b := ethBase n.val;
    s.dom (groupDom (n.val / 8)) = 1 →
    s.flag b F.SE_PORT_STAT_link_up = true →
    let s1 := ((s.lower b F.SE_PORT_STAT_link_up).downShows n.val lf rf).mark b F.SE_PORT_STAT_link_down (seSrc n.val);
    exec (.ethPortDown n lf rf) s = .next ((s.portFlows n.val).foldl (fun s i => if i < 256 then (match (s.flow (grpOf n.val) i).leg with | some _ => s | none => s.flowLost (grpOf n.val) i) else s) s1)) ∧
  (∀ (n : Fin 144) (lf : Bool) (rf : Bool) (s : State),
    let b := ethBase n.val;
    s.dom (groupDom (n.val / 8)) = 1 →
    s.flag b F.SE_PORT_STAT_link_up = false →
    (s.portRec n.val).isEmpty = false →
    exec (.ethPortDown n lf rf) s = .next (s.downShows n.val lf rf)) ∧
  (∀ (g : Fin 18) (i : Fin 256) (edge : Nat) (L : Nat) (off : Nat) (len : Nat) (last : Bool) (p : Nat) (s : State),
    let f := s.flow g.val (256 + i.val);
    f.duePoint edge L off = some p →
    s.flState g.val (256 + i.val) = flRunning →
    f.packetFits L off len last = true →
    let s0 := s.reachAt (5 + g.val / 9) edge;
    let n := flowLane g.val f;
    let xs := (s.seCh n).taken;
    let r := s.seekFlow n i.val L xs.length xs;
    let s1 := if r.2.2 then s0.seMark n F.SE_CH_STAT_discard else s0;
    let es := f.essenceIn (r.1.getD []);
    let len1 := if f.essence = 3 then es.length else len;
    let short := r.1.isNone || !f.reaches es (off + len1);
    let s2 := s1.setSeCh n { s1.seCh n with taken := if last || short then r.2.1 else r.1.getD [] ++ r.2.1 };
    let s3 := s2.setFlow g.val (256 + i.val) { f with sent := if last || short then 0 else off + len1 };
    exec (.ipTxPacketDue g i edge L off len last) s = .next (if short then s3.mark (txfBase g.val (256 + i.val)) F.SE_TXF_STAT_underrun (seSrc n) else s3.sendPacket g.val (256 + i.val) (f.rtpTime p) ((es.drop off).take len1)))

/-- PROT_SET and its query, taken with every check passed, and the two periods of a protractor answer the next state named. -/
def Obligations.Protractors : Prop :=
  (∀ (c : Cmd) (s : State),
    let n := c.protOf.getD 0;
    Takes s 0x0600 c →
    c.len = 12 →
    (c.protOf.isSome) = true →
    (s.protSetOk n c) = true →
    (s.grpOn (grpOf n)) = true →
    s.laneState n ≠ lnRetired →
    (!s.heldByOther c) = true →
    let u := s.take 0x0600 c;
    exec (.protSet c) s = .next ((u.protApply n c.words).answer 0x0600 c .ok [])) ∧
  (∀ (c : Cmd) (s : State),
    let n := c.protOf.getD 0;
    Takes s 0x0680 c →
    c.len = 2 →
    (c.protOf.isSome) = true →
    (!s.blkOff c.die c.blk) = true →
    let u := s.take 0x0680 c;
    exec (.protSetQuery c) s = .next ((u).answer 0x0680 c .ok ((List.range 10).map (fun i => wd (u.protW n (2 + i)))))) ∧
  (∀ (n : Fin 144) (h : Fin 65) (v : Fin 128) (tj : Fin 65536) (aj : Fin 65536) (s : State),
    s.protOn n.val = true →
    s.laneNative n.val = true →
    s.eyePaused n.val = false →
    let x := s.protX n.val;
    let hm := s.protF n.val 5 15 8;
    let vm := s.protF n.val 5 7 0;
    let tm := s.protF n.val 6 31 16;
    let am := s.protF n.val 6 15 0;
    let s0 := s.setProtX n.val { x with cut := false, cutJ := false };
    let s1 := (if s.protF n.val 2 30 30 = 1 ∧ x.cut = false then (s0.eyeGauge n.val h.val v.val).setBreach n.val 1 (decide (h.val < hm) || decide (v.val < vm)) F.PROT_STAT_eye_breach else s0);
    exec (.protEyePeriod n h v tj aj) s = .next ((if s.protF n.val 2 29 29 = 1 ∧ x.cutJ = false then ((s1.jitGauge n.val 0xB4 tj.val).jitGauge n.val 0xB8 aj.val).setBreach n.val 2 ((tm != 0 && decide (tm < tj.val)) || (am != 0 && decide (am < aj.val))) F.PROT_STAT_jit_breach else s1))) ∧
  (∀ (n : Fin 144) (h : Fin 65) (v : Fin 128) (tj : Fin 65536) (aj : Fin 65536) (s : State),
    s.protOn n.val = true →
    s.laneNative n.val = true →
    s.eyePaused n.val = false →
    (s.protX n.val).cut = true →
    (s.protX n.val).cutJ = true →
    exec (.protEyePeriod n h v tj aj) s = .next (s.setProtX n.val { s.protX n.val with cut := false, cutJ := false })) ∧
  (∀ (n : Fin 144) (s : State),
    let x := s.protX n.val;
    s.protOn n.val = true →
    s.dom (groupDom (n.val / 8)) = 1 →
    let uas := x.uas || s.protDown n.val;
    let thr := s.protF n.val 2 7 0;
    let s1 := (if !x.whole then s else let s2 := s.protCount n.val F.PROT_SH_SECS_LO_lo 1; (if uas then s2.protCount n.val F.PROT_SH_UAS_LO_lo 1 else let s3 := if x.events = 0 then s2 else s2.protCount n.val F.PROT_SH_ES_LO_lo 1; (if (if thr = 0 then 100 else thr) ≤ x.events then s3.protCount n.val F.PROT_SH_SES_LO_lo 1 else s3)));
    exec (.protSecond n) s = .next (s1.setProtX n.val { s1.protX n.val with events := 0, uas := s.protDown n.val, whole := true }))

/-- EDGE_RETRAIN and LAMP_SWAP, taken with every check passed, and the events of an edge and of a lamp answer the next state named. -/
def Obligations.OpticalEdges : Prop :=
  (∀ (c : Cmd) (s : State),
    let e := (edgeOf c.die c.blk).getD 0;
    Takes s 0x0A04 c →
    c.len = 3 →
    ((edgeOf c.die c.blk).isSome) = true →
    c.inst = 0 →
    c.f 2 31 1 = 0 →
    ((edgeSpines e).all (fun q => s.dom (spineDom q) != 0)) = true →
    s.edgeState e ≠ egRetired →
    (!s.heldByOther c) = true →
    (!s.edgeTraining e) = true →
    s.swapping = false →
    ((s.retrainOp e).isNone) = true →
    (!s.edgeChanging e) = true →
    let u := (s.take 0x0A04 c).accept 0x0A04 c none;
    exec (.edgeRetrain c) s = .next (if u.edgeState e = egActive then u.edgeTrain e (if c.f 2 0 0 = 1 then egFull else egFast) (u.edgeStep e) else u)) ∧
  (∀ (c : Cmd) (s : State),
    let j := c.lampOf.getD 0;
    Takes s 0x0A05 c →
    c.len = 2 →
    (c.lampOf.isSome) = true →
    s.lampState j = lpStandby →
    (!s.heldByOther c) = true →
    s.swapping = false →
    (!(List.range 8).any (fun e => s.edgeTraining e || s.edgeChanging e)) = true →
    let u := (s.take 0x0A05 c).accept 0x0A05 c none;
    exec (.lampSwap c) s = .next (u)) ∧
  (∀ (e : Fin 8) (bad : Option (Fin 16 × Fin 18)) (s : State),
    s.edgeState e.val = egActive →
    bad = none →
    exec (.edgeFlitReceive e bad) s = .next (s.checkPass e.val)) ∧
  (∀ (e : Fin 8) (bad : Option (Fin 16 × Fin 18)) (l : _) (s : State),
    s.edgeState e.val = egActive →
    bad = some l →
    l.1.val < edgeWgs e.val →
    (s.laneCarries e.val l.1.val l.2.val || s.swapping) = true →
    s.laneOut e.val l.1.val l.2.val = false →
    let s0 := s.edgeCount e.val F.EDGE_SH_LANEERR_LO_lo 1;
    let s1 := if s.replays e.val then s0.edgeCount e.val F.EDGE_SH_REPLAY_LO_lo 1 else s0;
    let r := s1.checkFail e.val (18 * l.1.val + l.2.val) (waveWord e.val l.1.val l.2.val);
    exec (.edgeFlitReceive e bad) s = .next ((if s.laneLeaving e.val l.1.val l.2.val then s1 else if r.1 then let s2 := (r.2.checkPass e.val).laneGone e.val l.1.val l.2.val true; s2.setEdgeX e.val { s2.edgeX e.val with spare := (s2.edgeX e.val).spare ++ [18 * l.1.val + l.2.val] } else r.2))) ∧
  (∀ (e : Fin 8) (x1_ : _) (t : _) (s : State),
    (s.edgeX e.val).spare = x1_ :: t →
    exec (.edgeSpareSwitch e) s = .next ((s.setEdgeX e.val { s.edgeX e.val with spare := t }).spareOrDrop e.val)) ∧
  (∀ (e : Fin 8) (fails : List (Fin 16 × Fin 18)) (s : State),
    s.edgeState e.val = egFull →
    let old := s.edgeStep e.val;
    let s1 := ((s.edgeWaited e.val).edgeCount e.val F.EDGE_SH_RETRAIN_LO_lo 1).trainFails e.val fails;
    let best := s1.bestStep e.val;
    let step := if (s.edgeX e.val).rise || old == 3 then best else max old best;
    exec (.edgeFullTrainDone e fails) s = .next ((if best = 3 then s1.edgeRetire e.val else let s2 := if old < step then s1.edgeMark e.val F.EDGE_STAT_step_drop else s1; let s3 := s2.edgeActive e.val step; (if old = step ∨ old = 3 then s3 else s3.journal 0x19 false (edgeWord e.val) (0x30000000 + e.val * 16777216) (s3.edgeInfo e.val) 0).ledgerRecompute))) ∧
  (∀ (e : Fin 8) (fails : List (Fin 16 × Fin 18)) (s : State),
    s.edgeState e.val = egFast →
    let tested := fails.filter (fun p => s.laneCarries e.val p.1.val p.2.val);
    let s1 := ((s.edgeWaited e.val).edgeCount e.val F.EDGE_SH_RETRAIN_LO_lo 1).trainFails e.val tested;
    let best := s1.bestStep e.val;
    exec (.edgeFastRetrainDone e fails) s = .next ((if best = 3 then s1.edgeRetire e.val else (if s.edgeStep e.val < best then let s2 := (s1.edgeTrain e.val egFast best).edgeMark e.val F.EDGE_STAT_step_drop; s2.journal 0x19 false (edgeWord e.val) (0x30000000 + e.val * 16777216) (s2.edgeInfo e.val) 0 else (s1.edgeActive e.val (s.edgeStep e.val)).ledgerRecompute)))) ∧
  (∀ (e : Fin 4) (s : State),
    s.edgeTraining e.val = true →
    s.ring.split.contains e.val = false →
    (s.edgeX e.val).shut + 20000 < s.now →
    exec (.edgeWaitSplit e) s = .next (((({ s with ring := { s.ring with split := e.val :: s.ring.split } }).edgeMark e.val F.EDGE_STAT_split).edgeFolds e.val).edgeRingsChanged e.val)) ∧
  (∀ (e : Fin 8) (o : Op) (s : State),
    s.retrainOp e.val = some o →
    let res := [wd (s.edgeStep e.val * 65536 + s.edgeLanes e.val), wd (s.opMicros o)];
    s.edgeState e.val = egRetired →
    exec (.edgeRetrainCompletion e) s = .next (s.complete o .retired res)) ∧
  (∀ (e : Fin 8) (o : Op) (s : State),
    s.retrainOp e.val = some o →
    let res := [wd (s.edgeStep e.val * 65536 + s.edgeLanes e.val), wd (s.opMicros o)];
    s.edgeState e.val ≠ egRetired →
    s.edgeTraining e.val = false →
    exec (.edgeRetrainCompletion e) s = .next ((if s.edgeState e.val = egDown then s.complete o .domainOff [] else s.complete o .ok res))) ∧
  (∀ (j : Fin 2) (k : Fin 18) (power : BitVec 14) (offset : BitVec 16) (dimmed : Bool) (gone : Bool) (s : State),
    let b := lampBase j.val + 4 * k.val;
    let wasLow := s.flag b F.LAMP_LINE_low;
    let wasLost := s.flag b F.LAMP_LINE_lost;
    let key := 18 * j.val + k.val;
    let dim := SMap.get (0, 0) s.opt.dim key;
    let nominal := Config.lineNominal j.val k.val;
    let d := (dimSince s.now dim.1 (decide (power.toNat * 5 < nominal * 4)), dimSince s.now dim.2 (decide (power.toNat * 2 < nominal)));
    let low := d.1 != 0 && (dimmed || decide (d.1 + 1000000 ≤ s.now + 1));
    let lost := d.2 != 0 && (gone || decide (d.2 + 200 ≤ s.now + 1));
    let s0 : State := { s with opt := { s.opt with dim := SMap.put (0, 0) s.opt.dim key d } };
    let s1 := (((s0.setF b F.LAMP_LINE_power power.toNat).setF b F.LAMP_LINE_offset (s.lineOffset j.val k.val offset)).setB b F.LAMP_LINE_low low).setB b F.LAMP_LINE_lost lost;
    let lit := s.lampState j.val == lpStandby || s.lampState j.val == lpActive;
    let s2 := if low && !wasLow && lit then s1.lampMark j.val F.LAMP_STAT_line_low else s1;
    exec (.lampLineMeasure j k power offset dimmed gone) s = .next ((if !lost || wasLost || !lit then s2 else let s3 := ((s2.lampCount j.val F.LAMP_SH_LOST_LO_lo 1).lampMark j.val F.LAMP_STAT_line_lost).lampJournal j.val false; let recent := (s.now, k.val) :: (SMap.get [] s.opt.lost j.val).filter (fun t => decide (s.now < t.1 + 1000)); let s4 : State := { s3 with opt := { s3.opt with lost := SMap.put [] s3.opt.lost j.val recent } }; (if 4 ≤ linesLost recent ∧ s.lampState j.val = lpActive ∧ s.lampState (1 - j.val) = lpStandby then s4.lampFailover j.val else (if !s.lineServes j.val k.val then s4 else (if s.lineHealthy (1 - j.val) k.val then s4.moveLine (1 - j.val) k.val else s4.lineDark k.val)))))) ∧
  (∀ (j : Fin 2) (s : State),
    s.lampState j.val = lpWarming →
    let o := 1 - j.val;
    let none_ := s.lampState o != lpActive;
    let waits := j.val == 1 && s.pwr.boot != .ready && s.lampState 0 == lpWarming;
    let s1 := if none_ && !waits then (s.toLamp j.val lpActive).allLines j.val else s.toLamp j.val lpStandby;
    exec (.lampWarmDone j) s = .next (s1.endPower 5 j.val .ok false)) ∧
  (∀ (j : Fin 2) (s : State),
    s.lampState j.val = lpWarming →
    SMap.get 0 s.opt.warm j.val + 200000000 ≤ s.now →
    let o := 1 - j.val;
    let s1 := ((s.toLamp j.val lpFailed).lampJournal j.val true).endPower 5 j.val .hwFault false;
    exec (.lampWarmTimeout j) s = .next ((if s1.lampState o = lpStandby ∧ s1.lampState j.val ≠ lpActive then (s1.toLamp o lpActive).allLines o else s1))) ∧
  (∀ (held : BitVec 18) (op : _) (s : State),
    s.hq.ops.find? (fun o => o.opcode == 0x0A05) = some op →
    let j := op.blk - 0x060;
    let o := 1 - j;
    exec (.lampSwapCompletion held) s = .next ((if s.lampState j ≠ lpStandby then s.complete op .hwFault [] else let bad := (List.range 18).any (fun k => !s.lineHealthy o k); let s1 := (((s.allLines j).toLamp j lpActive).toLamp o (if bad then lpFailed else lpStandby)).lampsSwapped; s1.complete op .ok [wd ((op.acc.headD (wd 0)).toNat + (((List.range 18).filter (fun k => decide (op.stage ≤ k) && held.getLsbD k && s.lineHolds k)).map (2 ^ ·)).sum), wd (s1.opMicros op)])))

/-- A word of a short edge, and the training, identity, flits, requests and events of the partner's link answer the next state named; the management function sets a window while the partner is fenced. -/
def Obligations.PartnerAndShortEdges : Prop :=
  (∀ (x : ShortEdge) (bad : Option (Fin 74)) (l : _) (b : _) (s : State),
    x = .bundle l b →
    let unit := 100 + 18 * l.val + b.val;
    s.getF (sheB l.val b.val) F.SHE_B_state = 2 →
    exec (.shortEdgeWordReceive x bad) s = .next ((match bad with | none => s.checkPass unit | some k => let s1 := (if s.replays unit then s.sheReplay l.val else s); let r := s1.checkFail unit k.val (shortWord l.val b.val k.val); (if (s.shortGone l.val b.val).testBit k.val then s else (if r.1 then ((r.2.checkPass unit).uncharge (shortWord l.val b.val k.val)).bundleFail l.val b.val k.val else r.2))))) ∧
  (∀ (x : ShortEdge) (bad : Option (Fin 74)) (k : _) (ch : _) (s : State),
    x = .dram k ch →
    let unit := 200 + 16 * k.val + ch.val;
    s.getF (fmcCh k.val ch.val) F.FMC_CH_state = 2 →
    exec (.shortEdgeWordReceive x bad) s = .next ((match bad with | none => s.checkPass unit | some n => let s1 := (if s.replays unit then s.fmcCount k.val F.FMC_SH_REPLAY_LO_lo 1 else s); let r := s1.checkFail unit n.val (laneIn (dramWord k.val ch.val) n.val); (if (SMap.get 0 s.opt.short (40 + 16 * k.val + ch.val)).testBit n.val then s else (if r.1 then ((r.2.checkPass unit).uncharge (laneIn (dramWord k.val ch.val) n.val)).dramFail k.val ch.val n.val else r.2))))) ∧
  (∀ (x : ShortEdge) (bad : Option (Fin 74)) (j : _) (s : State),
    x = .lamp j →
    let unit := 300 + j.val;
    exec (.shortEdgeWordReceive x bad) s = .next ((match bad with | none => s.checkPass unit | some n => let r := s.checkFail unit n.val (laneIn (0x70000000 + j.val) n.val); (if (SMap.get 0 s.opt.short (36 + j.val)).testBit n.val then s else (if r.1 then ((r.2.checkPass unit).uncharge (laneIn (0x70000000 + j.val) n.val)).lampLaneFail j.val n.val else r.2))))) ∧
  (∀ (rate : Fin 33) (modules : Fin 4) (tx0 : Fin 5) (tx1 : Fin 5) (s : State),
    s.ident.site ≠ 0 →
    s.getF ucieBase F.UCIE_LINK_state = 2 →
    [4, 8, 12, 16, 24, 32].contains rate.val ≠ false →
    modules.val ≠ 0 →
    (¬ (s.getF ucieBase F.UCIE_LINK_rate ≠ 0 ∧ (s.getF ucieBase F.UCIE_LINK_rate < rate.val ∨ (s.getF ucieBase F.UCIE_LINK_modules ≠ 3 ∧ modules.val ≠ s.getF ucieBase F.UCIE_LINK_modules)))) →
    let oldR := s.getF ucieBase F.UCIE_LINK_rate;
    let s1 := ((((s.setF ucieBase F.UCIE_LINK_rate rate.val).setF ucieBase F.UCIE_LINK_modules modules.val).setF ucieBase F.UCIE_REPAIR_m0_tx tx0.val).setF ucieBase F.UCIE_REPAIR_m1_tx tx1.val).toUcie 3;
    let s2 := if oldR ≠ 0 ∧ rate.val < oldR then s1.ucieMark F.UCIE_STAT_rate_down else s1;
    let s2' := if s.getF ucieBase F.UCIE_REPAIR_m0_tx < tx0.val ∨ s.getF ucieBase F.UCIE_REPAIR_m1_tx < tx1.val then s2.ucieMark F.UCIE_STAT_lane_repaired else s2;
    let s3 := if s.getF ucieBase F.UCIE_LINK_modules = 3 ∧ modules.val ≠ 3 then s2'.ucieMark F.UCIE_STAT_module_lost else s2';
    exec (.ucieLinkTrained rate modules tx0 tx1) s = .next (if oldR = 0 then s3.freeUcie else s3.ucieDrain)) ∧
  (∀ (vendor : BitVec 16) (dieCode : BitVec 8) (revision : BitVec 8) (power : BitVec 16) (s : State),
    s.ident.site ≠ 0 →
    s.getF ucieBase F.UCIE_LINK_state = 3 →
    let s1 := (((s.setF psysBase F.PSYS_ID_vendor vendor.toNat).setF psysBase F.PSYS_ID_die_code dieCode.toNat).setF psysBase F.PSYS_ID_revision revision.toNat).setF psysBase F.PSYS_PWR_max_power power.toNat;
    exec (.ucieIdentityRecord vendor dieCode revision power) s = .next ((if dieCode.toNat ≠ s.ident.site ∨ 400 < power.toNat then (((s1.partnerHold.toUcie 5).ucieMark F.UCIE_STAT_id_mismatch).ucieJournal true).endPartner .hwFault else ((s1.lower psysBase F.PSYS_STAT_fenced).reachDom partnerDom 1).endPartner .ok))) ∧
  (∀ (l : List Byte) (m : Fin 2) (s : State),
    let u := s.opt.ucie;
    s.ident.site ≠ 0 →
    s.getF ucieBase F.UCIE_LINK_state = 3 →
    let n (i k : Nat) : Nat := ofBytes ((l.drop i).take k);
    exec (.ucieFlitReceive l m) s = .next ((if l.length ≠ 256 ∨ n 252 4 ≠ crc32 (l.take 252) then let s1 := s.count ucieBase F.UCIE_SH_CRC_LO_lo 1 ucieBase F.UCIE_STAT_cnt_overflow 610; let r := s1.checkFail 310 0 0x7E000000; let s2 : State := { r.2 with opt := { r.2.opt with ucie := { u with naked := true, fails := u.fails + 1 } } }; (if r.1 && decide (2 ≤ (SMap.get (0, 0) s.opt.fails 310).2) then ((s2.checkPass 310).uncharge 0x7E000000).ucieLinkFault else if r.1 then ((s2.checkPass 310).uncharge 0x7E000000).ucieLaneFault m.val else s2.ucieSend true) else (if n 204 2 ≠ u.rxSeq then ({ s with opt := { s.opt with ucie := { u with naked := true } } } : State).ucieSend true else let again := u.sent.filter (fun q => decide ((n 206 2 + 65536 - q.seq) % 65536 < 32768) == false); let s1 := s.checkPass 310; let s2 : State := { s1 with opt := { s1.opt with ucie := { u with rxSeq := (u.rxSeq + 1) % 65536, naked := false, fails := 0, sent := again, used := (List.range 32).foldl (fun m k => SMap.put 0 m k (monus (SMap.get 0 m k) (n (212 + k) 1))) u.used } } }; let s3 := (if (n 208 1) % 2 = 1 then (if again.any (fun f => decide (3 ≤ f.tries)) then s2.ucieLinkFault else (s2.count ucieBase F.UCIE_SH_RESEND_LO_lo again.length ucieBase F.UCIE_STAT_cnt_overflow 610).ucieResend) else s2); let valid := [0, 1, 2].filter (fun i => (n (68 * i + 67) 1).testBit 7); let s4 := valid.foldl (fun s i => s.slotIn (bitsOf (n (68 * i + 67) 1) 6 5) (slotFlit (l.drop (68 * i)))) s3; (s4.ucieSend (!valid.isEmpty)).ucieDrain)))) ∧
  (∀ (e : _) (p : _) (t : _) (s : State),
    s.opt.ucie.reqs = (e, p) :: t →
    let s1 := ({ s with opt := { s.opt with ucie := { s.opt.ucie with reqs := t } } } : State).ucieOwe e (2 * p.cls) p.flits;
    exec .uciePartnerRequest s = .next ((if s.partnerAdmits p then (if s.partnerWaits e p then s else s1.partnerForward e p) else ((s1.count ucieBase F.UCIE_SH_REFUSED_LO_lo 1 ucieBase F.UCIE_STAT_cnt_overflow 610).mark psysBase F.PSYS_STAT_refused 610).partnerAnswer e p 0x0303))) ∧
  (∀ (s : State),
    s.ident.site ≠ 0 →
    exec .uciePartnerEvent s = .next (s.ucieMark F.UCIE_STAT_partner_event)) ∧
  (∀ (m : Master) (k : Fin 8) (v : Word) (s : State),
    let b := psysBase + 8 * k.val;
    Reaches s m 7 0 (0x100 + 8 * k.val) →
    m = .hostMgmt →
    s.flag psysBase F.PSYS_STAT_fenced = true →
    exec (.psysWinWrite m k false v) s = .next ((((s.setF b F.PSYS_WIN_BASE_valid (bitsOf v.toNat 31 31)).setF b F.PSYS_WIN_BASE_read (bitsOf v.toNat 30 30)).setF b F.PSYS_WIN_BASE_write (bitsOf v.toNat 29 29)).setF b F.PSYS_WIN_BASE_base v.toNat)) ∧
  (∀ (m : Master) (k : Fin 8) (v : Word) (s : State),
    Reaches s m 7 0 (0x100 + 8 * k.val + 4) →
    m = .hostMgmt →
    s.flag psysBase F.PSYS_STAT_fenced = true →
    exec (.psysWinWrite m k true v) s = .next (s.setF (psysBase + 8 * k.val) F.PSYS_WIN_LIMIT_limit v.toNat))

/-- A read or write of frame memory, or its wait behind another access, a refresh and a corrected write-back; SECTOR_SET, SECTOR_RIGHTS, REKEY_NOW and their queries, taken with every check passed; and the ends of the sealing engine's work answer the next state named. -/
def Obligations.FrameMemoryAndSealing : Prop :=
  (∀ (c : Cmd) (s : State),
    Takes s 0x0700 c →
    c.len = 6 →
    (c.aimsSector) = true →
    (s.sectorOk c) = true →
    (s.stackOn c.stack) = true →
    (!s.heldByOther c) = true →
    ((c.f 2 31 31 == 1 || s.secState c.stack c.inst != secDrain)) = true →
    let u := s.take 0x0700 c;
    exec (.sectorSet c) s = .next ((if c.f 2 31 31 = 1 then u.createSector c.stack c.inst c else u.removeSector c.stack c.inst (c.f 2 28 28 == 1)).answer 0x0700 c .ok [])) ∧
  (∀ (c : Cmd) (s : State),
    Takes s 0x0780 c →
    c.len = 2 →
    (c.aimsSector) = true →
    (s.stackOn c.stack) = true →
    let u := s.take 0x0780 c;
    let r : State × List Word :=
      (let b := slotBase c.stack c.inst
      (u, [wd (u.getF b F.SEAL_SECT_CFG_enable * 2147483648 + u.getF b F.SEAL_SECT_CFG_sealed * 1073741824),
      wd (u.getF b F.SEAL_SECT_RANGE_base), wd (u.getF b F.SEAL_SECT_RANGE_limit), wd (u.getF b F.SEAL_SECT_CFG_rights)]));
    exec (.sectorSetQuery c) s = .next (r.1.answer 0x0780 c .ok r.2)) ∧
  (∀ (c : Cmd) (s : State),
    Takes s 0x0701 c →
    c.len = 3 →
    (c.aimsSector) = true →
    c.f 2 31 14 = 0 →
    s.secState c.stack c.inst ≠ secFree →
    (s.stackOn c.stack) = true →
    (!s.heldByOther c) = true →
    let u := s.take 0x0701 c;
    exec (.sectorRights c) s = .next ((u.setF (slotBase c.stack c.inst) F.SEAL_SECT_CFG_rights (c.w 2)).answer 0x0701 c .ok [])) ∧
  (∀ (c : Cmd) (s : State),
    Takes s 0x0781 c →
    c.len = 2 →
    (c.aimsSector) = true →
    (s.stackOn c.stack) = true →
    let u := s.take 0x0781 c;
    exec (.sectorRightsQuery c) s = .next ((u).answer 0x0781 c .ok [wd (u.getF (slotBase c.stack c.inst) F.SEAL_SECT_CFG_rights)])) ∧
  (∀ (c : Cmd) (s : State),
    Takes s 0x0702 c →
    c.len = 3 →
    (c.aimsSector) = true →
    c.f 2 31 1 = 0 →
    (s.secSealed c.stack c.inst) = true →
    ((s.secState c.stack c.inst == secActive || s.secState c.stack c.inst == secSweep)) = true →
    (s.stackOn c.stack) = true →
    (!s.heldByOther c) = true →
    s.secState c.stack c.inst ≠ secSweep →
    let u := (s.take 0x0702 c).accept 0x0702 c none;
    exec (.rekeyNow c) s = .next (u.startSweep c.stack c.inst (c.f 2 0 0 == 1) (some (c.src, c.tag)))) ∧
  (∀ (cls : Fin 7) (a : BitVec 33) (n : Fin 513) (es : List LineErr) (s : State),
    (s.fmBlocked a.toNat n.val = false ∨ (s.fmAdmit cls.val a.toNat true false).1 ≠ none) →
    let r := s.fmRead cls.val a.toNat n.val es;
    exec (.frameMemoryRead cls a n es) s = .next ((if cls.val = 2 then r.2.pcieCompletion r.1 else r.2).emit (.memory cls.val a.toNat r.1.status r.1.data r.1.poison))) ∧
  (∀ (cls : Fin 7) (a : BitVec 33) (n : Fin 513) (es : List LineErr) (s : State),
    s.fmBlocked a.toNat n.val = true →
    (s.fmAdmit cls.val a.toNat true false).1 = none →
    exec (.frameMemoryRead cls a n es) s = .next (s.fmWaits { cls := cls.val, addr := a.toNat, n := n.val, data := [], poison := false, posted := false, write := false, es := es })) ∧
  (∀ (cls : Fin 7) (a : BitVec 33) (bs : List Byte) (poison : Bool) (posted : Bool) (es : List LineErr) (st : _) (s1 : _) (s : State),
    s.fmWrite cls.val a.toNat bs (allBad poison bs.length) es = (some st, s1) →
    exec (.frameMemoryWrite cls a bs poison posted es) s = .next ((if posted then s1 else s1.emit (.memory cls.val a.toNat st [] false)))) ∧
  (∀ (cls : Fin 7) (a : BitVec 33) (bs : List Byte) (poison : Bool) (posted : Bool) (es : List LineErr) (s1 : _) (s : State),
    s.fmWrite cls.val a.toNat bs (allBad poison bs.length) es = (none, s1) →
    exec (.frameMemoryWrite cls a bs poison posted es) s = .next (s.fmWaits { cls := cls.val, addr := a.toNat, n := bs.length, data := bs, poison := poison, posted := posted, write := true, es := es })) ∧
  (∀ (k : Fin 4) (ch : Fin 16) (s : State),
    s.dom (stackDom k.val) ≠ 0 →
    let at_ := 16 * k.val + ch.val;
    let v := (SMap.get 0 s.fm.refresh at_ + 1) % 65536;
    exec (.dramRefresh k ch) s = .next ({ s with fm := { s.fm with refresh := SMap.put 0 s.fm.refresh at_ v } })) ∧
  (∀ (k : Fin 4) (line : BitVec 25) (s : State),
    s.fm.wback.contains (k.val, line.toNat) = true →
    exec (.correctedWriteback k line) s = .next (({ s with fm := { s.fm with wback := s.fm.wback.filter (· != (k.val, line.toNat)) } }).fmcCount k.val F.FMC_SH_WR_LO_lo 1)) ∧
  (∀ (k : Fin 4) (x : Fin 24) (s : State),
    s.secState k.val x.val = secInit →
    s.dom (stackDom k.val) = 1 →
    s.filled k.val x.val = true →
    exec (.sectorInitDone k x) s = .next ((s.setF (slotBase k.val x.val) F.SEAL_SECT_STAT_state secActive).signal (627 + 4 * k.val))) ∧
  (∀ (k : Fin 4) (x : Fin 24) (s : State),
    s.secState k.val x.val = secDrain →
    exec (.sectorRemoveDone k x) s = .next ((s.freeSlot k.val x.val).signal (627 + 4 * k.val))) ∧
  (∀ (k : Fin 4) (x : Fin 24) (s : State),
    (s.sect k.val x.val).due = true →
    (s.secState k.val x.val == secActive) = true →
    (s.dom (stackDom k.val) == 1) = true →
    exec (.rekeySweepStart k x) s = .next (s.startSweep k.val x.val false none)) ∧
  (∀ (k : Fin 4) (x : Fin 24) (s : State),
    s.secState k.val x.val = secSweep →
    s.dom (stackDom k.val) = 1 →
    s.secEnd k.val x.val ≤ (s.sect k.val x.val).ptr →
    exec (.rekeySweepDone k x) s = .next (s.sweepDone k.val x.val)) ∧
  (∀ (k : Fin 4) (x : Fin 24) (src : _) (tag : _) (epoch : _) (s : State),
    (s.sect k.val x.val).op = some (src, tag) →
    (s.sect k.val x.val).done = some epoch →
    exec (.rekeyNowCompletion k x) s = .next ((s.setSect k.val x.val { s.sect k.val x.val with op := none, done := none }).completeOf src tag .ok [wd epoch]))

/-- LAT_DISCOVER, LAT_ASSIGN, LAT_ROUTE_SET and their queries, taken with every check passed; the frames, resends and hellos of a link; and the answers and timeouts of lattice commands answer the next state named. -/
def Obligations.LatticeLinks : Prop :=
  (∀ (c : Cmd) (s : State),
    let act := c.f 2 1 0;
    let max_ := if c.f 4 31 16 = 0 then 4096 else c.f 4 31 16;
    Takes s 0x0800 c →
    (if act = 0 then c.len == 7 else if act = 1 then decide (8 ≤ c.len) && decide (c.len ≤ 134) else true) = true →
    (c.aims 0 0x000 0) = true →
    (s.discoverOk c) = true →
    (act != 0 || s.stewardMay (c.f 6 7 0 * 4294967296 + c.w 5) (32 * max_)) = true →
    (!s.heldByOther c) = true →
    ((act != 0 || s.discOp.isNone)) = true →
    let u := (s.take 0x0800 c).accept 0x0800 c none;
    exec (.latDiscover c) s = .next (if act = 0 then
      let root : DevRec := { serial := u.ident.serial, addr := u.latAddr, parent := u.latAddr, plink := 0xFF, arrival := 0xFF, depth := 0 }
      ({ u with lat := { u.lat with disc := some { next := c.w 3, stack := [{ addr := u.latAddr }], recs := [root] } } } : State).discRun 4096
      else match u.opOf c.src c.tag with
      | some o => u.relayTry o
      | none => u)) ∧
  (∀ (c : Cmd) (s : State),
    Takes s 0x0801 c →
    c.len = 5 →
    (c.aims 0 0x000 0) = true →
    (s.assignAllowed c) = true →
    c.f 2 29 16 = 0 →
    c.f 2 15 0 ≤ 0x0FFF →
    c.w 3 ≠ 0 →
    c.f 4 31 16 = 0 →
    (!s.heldByOther c) = true →
    let u := s.take 0x0801 c;
    let r : State × List Word :=
      (let a := if c.f 2 31 31 = 1 then some (c.f 2 15 0) else none
      ({ u with lat := { u.lat with next := u.lat.next ++ [(c.src, { addr := a, rootOnly := c.f 2 30 30 == 1, id := c.w 3, root := c.w 4 })] } }, []));
    exec (.latAssign c) s = .next (r.1.answer 0x0801 c .ok r.2)) ∧
  (∀ (c : Cmd) (s : State),
    Takes s 0x0881 c →
    c.len = 2 →
    (c.aims 0 0x000 0) = true →
    let u := s.take 0x0881 c;
    exec (.latAssignQuery c) s = .next ((u).answer 0x0881 c .ok [wd (bit u.lat.addr.isSome * 2147483648 + bit u.lat.rootOnly * 1073741824 + u.lat.addr.getD 0), wd u.lat.id, wd u.lat.root])) ∧
  (∀ (c : Cmd) (s : State),
    let k := c.inst;
    let isLink := decide (k < 16);
    Takes s 0x0802 c →
    (if isLink then c.len == 3 else c.len == 4) = true →
    c.die = 0 →
    c.blk = 0x000 →
    ((isLink || (decide (0x100 ≤ k) && decide (k < 0x140)))) = true →
    (if isLink then s.linkOk k c else c.f 2 30 28 == 0 && c.f 2 15 0 == 0 && c.f 3 31 28 == 0 && c.f 3 15 12 == 0) = true →
    (!isLink || c.linkLanes.all (fun n => s.laneOn n)) = true →
    (!isLink || c.linkLanes.all (fun n => s.laneState n != lnRetired)) = true →
    (!s.heldByOther c) = true →
    let u := s.take 0x0802 c;
    let r : State × List Word :=
      (if !isLink then (u.setRoute (k - 0x100) (c.w 2) (c.w 3), [])
      else if c.f 2 31 31 = 1 then ((u.glDisable k 0).glEnable k (c.w 2), [])
      else (u.glDisable k (c.w 2), []));
    exec (.latRouteSet c) s = .next (r.1.answer 0x0802 c .ok r.2)) ∧
  (∀ (c : Cmd) (s : State),
    let k := c.inst;
    let isLink := decide (k < 16);
    Takes s 0x0882 c →
    c.len = 2 →
    c.die = 0 →
    c.blk = 0x000 →
    ((isLink || (decide (0x100 ≤ k) && decide (k < 0x140)))) = true →
    let u := s.take 0x0882 c;
    let r : State × List Word :=
      (if isLink then
      let l := u.glink k
      (u, [wd l.word, wd l.word3] ++ (List.range 4).map (fun i => wd (bitsOf l.serial (32 * i + 31) (32 * i))) ++ [wd l.lattice] ++
      [l.frames, l.resends, l.crcs, l.tags, l.hops].flatMap (fun n => [wd (n % 4294967296), wd (n / 4294967296)]))
      else
      let w := SMap.get (0, 0) u.lat.routes (k - 0x100)
      (u, [wd w.1, wd w.2]));
    exec (.latRouteSetQuery c) s = .next (r.1.answer 0x0882 c .ok r.2)) ∧
  (∀ (k : Fin 16) (f : GFrame) (s : State),
    let l := s.glink k.val;
    s.scanHolds ≠ true →
    (¬ (l.state ≠ glHello ∧ l.state ≠ glUp)) →
    f.good = false →
    let n := glAdd l.crcs 1;
    exec (.glenuFrameReceive k f) s = .next (((s.setGlink k.val { l with crcs := n.1 }).glOver k.val n.2).glNak k.val)) ∧
  (∀ (k : Fin 16) (f : GFrame) (s : State),
    let l := s.glink k.val;
    let hdr := f.hdr.toNat;
    let kind := bitsOf hdr 30 28;
    let isSealed := hdr.testBit 21;
    s.scanHolds ≠ true →
    (¬ (l.state ≠ glHello ∧ l.state ≠ glUp)) →
    f.good = true →
    kind < 4 →
    exec (.glenuFrameReceive k f) s = .next ((if kind ≠ 3 ∧ f.seq ≠ (l.rxSeq + 1) % 4096 ∧ ¬(kind = 2 ∧ l.state = glHello) then s.glNak k.val else let ctr := l.peerHi * 4294967296 + f.last.toNat / 4294967296; let iv := glIv ctr l.serial; let key := s.glKey l.slot; (if kind < 2 ∧ (isSealed ≠ l.isSealed ∨ (isSealed ∧ Config.glenuTag key iv hdr f.data.toNat % 2 ^ 64 ≠ f.tag.toNat)) then let n := glAdd l.tags 1; let times := s.now :: l.tagAt.filter (fun t => decide (s.now < t + 1000000000)); let s1 := (((s.setGlink k.val { l with tags := n.1, tagAt := times }).glOver k.val n.2).glNak k.val).signal (glSrc k.val); (if 3 ≤ times.length then s1.glFail k.val else s1) else let code := bitsOf hdr 20 17; let l1 := { l with rxSeq := if kind = 3 then l.rxSeq else f.seq, sent := glAcked (bitsOf hdr 43 32) l.sent, due := l.due || kind != 3, ackAt := if (glAcked (bitsOf hdr 43 32) l.sent).length < l.sent.length then s.now else l.ackAt, used := if code < 12 then SMap.put 0 l.used code (monus (SMap.get 0 l.used code) (bitsOf hdr 16 11)) else l.used }; let s1 := s.setGlink k.val l1; let s2 := if hdr.testBit 31 then s1.glResend k.val else s1; (if kind = 3 then s2 else s2.glAccept k.val hdr (if isSealed ∧ kind < 2 then f.data.toNat ^^^ Config.glenuPad key iv % 2 ^ 512 else f.data.toNat)))))) ∧
  (∀ (k : Fin 16) (s : State),
    (s.glink k.val).state = glUp →
    (s.glink k.val).sent ≠ [] →
    exec (.glenuResendTimeout k) s = .next ((s.waitNs (monus ((s.glink k.val).ackAt + 10000) s.now)).glResend k.val)) ∧
  (∀ (k : Fin 16) (s : State),
    (s.glink k.val).state = glAligning →
    ((s.glink k.val).lanes.all (fun n => s.laneState n == lnService) && s.glLanesOk (s.glink k.val)) = true →
    exec (.glenuAligned k) s = .next ((s.toGl k.val glHello).glHelloSend k.val)) ∧
  (∀ (k : Fin 16) (s : State),
    (s.glink k.val).state = glHello ∨ (s.glink k.val).state = glUp →
    exec (.glenuHelloSend k) s = .next ((s.waitNs (monus ((s.glink k.val).helloOut + 1000000) s.now)).glHelloSend k.val)) ∧
  (∀ (k : Fin 16) (s : State),
    (s.glink k.val).state = glUp →
    exec (.glenuHelloTimeout k) s = .next ((s.waitNs (monus ((s.glink k.val).helloAt + 3000000) s.now)).toGl k.val glHello)) ∧
  (∀ (ws : List Word) (s : State),
    let s0 := s.takePosted ws;
    let tag := bitsOf ((ws.getD 0 0).toNat) 31 24;
    let op := bitsOf ((ws.getD 1 0).toNat) 14 0;
    exec (.latticeReplyReceive ws) s = .next ((match s0.hq.ops.find? (fun o => o.opcode == 0x0800 && o.f 2 1 0 == 1 && o.stage == 1 && o.f 6 31 24 == tag && o.f 6 15 0 == op) with | some o => s0.complete o .ok ws | none => (match s0.lat.disc with | some d => (if d.await = some op ∧ tag = 0 then s0.discReply d ws else s0) | none => s0)))) ∧
  (∀ (d : _) (o : Op) (s : State),
    s.lat.disc = some d →
    s.discOp = some o →
    d.stack.isEmpty = true →
    d.await.isSome = false →
    let a := o.f 6 7 0 * 4294967296 + o.w 5;
    let s1 := (d.recs.zip (List.range d.recs.length)).foldl (fun s r => s.stewardStore (a + 32 * r.2) r.1.bytes) s;
    let depth := d.recs.foldl (fun m r => max m r.depth) 0;
    exec .latDiscoverCompletion s = .next (({ s1 with lat := { s1.lat with disc := none } }).complete o .ok [wd d.recs.length, wd (d.foreign * 256 + depth % 256), wd (bit d.full * 2147483648 + (d.next - 1) % 4096)])) ∧
  (∀ (who : LatClient) (c : _) (n : _) (es : _) (ans : _) (s : State),
    who = .dma c n es ans →
    s.dmaState c.val = 1 →
    (s.dmaSrc c.val).testBit 63 ∨ (s.dmaDst c.val).testBit 63 →
    exec (.latticeRequestTimeout who) s = .next (s.dmaAbort c.val n es ans)) ∧
  (∀ (who : LatClient) (h : _) (o : Op) (s : State),
    who = .stage h →
    s.hState h.val = 1 →
    s.stageOp h.val = some o →
    srcOfStage (o.w 2) = 4 →
    exec (.latticeRequestTimeout who) s = .next (s.failStage h.val o .timeout)) ∧
  (∀ (k : Fin 16) (s : State),
    let l := s.glink k.val;
    l.pend = true →
    l.enabled = true →
    s.glLanesOk l = true →
    l.lanes.all (fun n => s.laneOn n && s.laneState n != lnRetired && (s.linkOfLane n).isNone) = true →
    exec (.linkRecordReapply k) s = .next (s.glEnable k.val l.word))

/-- With nothing waiting, a step is one tick. This is the model's choice (assumption log 5), not a rule of the spec. -/
def Obligations.IdleStepTicks : Prop :=
  (∀ s : State, s.pending = [] → step s = .next s.tick ∧ s.tick.pending = [])

/-- The state after reset. Fields whose table gives no reset value read 0, and unlisted memory reads 0: these are the model's choices (assumption logs 1 and 3). -/
def Obligations.ResetState : Prop :=
  (∀ (base : Nat) (f : Fld), (∀ n < 8, regKey base f ≠ regKey (cueBase n) F.CUE_ENTRY_LO_entry) →
    regKey base f ≠ regKey (lampBase 0) F.LAMP_INFO_lines → State.reset.getF base f = f.rst) ∧
  (∀ n < 8, 2 * State.reset.getF (cueBase n) F.CUE_ENTRY_LO_entry = 0x800000 + 0x20000 * n) ∧
  (State.reset.getF (lampBase 0) F.LAMP_INFO_lines = 0x3FFFF ∧ State.reset.pwr.boot = .inReset ∧ State.reset.pending = [] ∧
    State.reset.hq.ops = [] ∧ State.reset.hq.ready = [] ∧ State.reset.posted = [] ∧ State.reset.jrnl.held = [] ∧
    (∀ q : Fin 16, (State.reset.qset q.val).state = .off) ∧ (∀ a, State.reset.ctr a = 0) ∧
    (∀ a, SMap.get 0 State.reset.mem a = 0) ∧ (∀ n < 8, State.reset.cueState n = cuOff) ∧ (∀ f < 48, State.reset.facetState f = fcOff))

/-- The list that holds device memory is in its canonical form in the state after reset. -/
def Obligations.MemoryAtReset : Prop :=
  (Memory.wf State.reset.mem)

/-- Whatever command is at the front of the queue, a step from a state whose device memory is in its canonical form, addresses strictly rising and no zero byte listed, answers a state whose device memory is so. -/
def Obligations.MemoryStaysCanonical : Prop :=
  (∀ s t : State, Memory.wf s.mem → step s = .next t → Memory.wf t.mem)

/-- Each command leaves every component of the state that its entry in the table of written components does not name as it was, whatever the state and its operands; the fuses, the flash, the host's bad addresses and the queue are in no entry. -/
def Obligations.CommandFrame : Prop :=
  (∀ (i : Instr) (s t : State) (c : Comp), exec i s = .next t → c ∉ writes i → c.same s t) ∧
  (∀ i : Instr, Comp.ident ∉ writes i ∧ Comp.flash ∉ writes i ∧ Comp.hostBad ∉ writes i ∧ Comp.pending ∉ writes i)

/-- A step drops the command at the front of the queue and no other, and keeps the fuses, the flash and the host's bad addresses. -/
def Obligations.StepTakesOne : Prop :=
  (∀ s t : State, step s = .next t → t.pending = s.pending.tail ∧ t.ident = s.ident ∧ t.flash = s.flash ∧ t.hostBad = s.hostBad)

/-- Every command, in every state, answers a next state, and so does every step: the spec's refusals and errors are replies, responses and records, not stops. -/
def Obligations.EveryCommandCompletes : Prop :=
  (∀ (i : Instr) (s : State), ∃ t, exec i s = .next t) ∧
  (∀ s : State, ∃ t, step s = .next t)

/-- A query form, whose opcode has bit 7 set, leaves every component of the state but the steward's queues and replies as it was. -/
def Obligations.QueriesChangeNothing : Prop :=
  (∀ (i : Instr) (op : Nat) (c : Cmd) (s t : State) (x : Comp), packetOf i = some (op, c) → op.testBit 7 = true → x ≠ .hq →
    exec i s = .next t → x.same s t)

/-- While the firmware is not running, or a handover is under way, every command packet leaves the state as it is; and so does a packet while an earlier packet of its set waits to be handled. -/
def Obligations.PacketsWaitForTheSteward : Prop :=
  (∀ (i : Instr) (op : Nat) (c : Cmd) (s : State), packetOf i = some (op, c) → s.fetching = false → exec i s = .next s) ∧
  (∀ (i : Instr) (op : Nat) (c : Cmd) (s : State), packetOf i = some (op, c) → s.refused op c = false → s.inOrder op c = false →
    exec i s = .next s)

/-- A command packet whose opcode is not marked P, sent on set 4 or set 5, is answered with BAD_OPCODE, as soon as the steward handles commands and the packet is the next of its set. -/
def Obligations.PriorityLanes : Prop :=
  (∀ (i : Instr) (op : Nat) (c : Cmd) (s : State), packetOf i = some (op, c) → s.fetching = true → (s.refused op c || s.inOrder op c) = true → c.src = .set 4 ∨ c.src = .set 5 →
    op ∉ [0x0100, 0x0107, 0x0203, 0x0204, 0x0305, 0x0400, 0x0405, 0x0500, 0x0501, 0x0505, 0x0507, 0x0601] →
    ∃ t, exec i s = .next t ∧ Replied t op c .badOpcode false)

/-- The status of a refused packet is that of the first failing check, in the order opcode, length, target, authority, parameters, domain, fence, retirement, busy, late; with every check passed there is none. -/
def Obligations.StatusOrder : Prop :=
  (∀ (s : State) (op : Nat) (c : Cmd) (k : Chk), s.opcodeOpen c.src op = false → s.gate op c k = some .badOpcode) ∧
  (∀ (s : State) (op : Nat) (c : Cmd) (k : Chk), s.opcodeOpen c.src op = true →
    (k.len = false → s.gate op c k = some .badLength) ∧
    (k.len = true → k.tgt = false → s.gate op c k = some .badTarget) ∧
    (k.len = true → k.tgt = true → k.auth = false ∨ barred c.src op = true ∨ s.rootBars c.src = true → s.gate op c k = some .notAuthorised)) ∧
  (∀ (s : State) (op : Nat) (c : Cmd) (k : Chk), s.opcodeOpen c.src op = true → k.len = true → k.tgt = true → k.auth = true →
    barred c.src op = false → s.rootBars c.src = false →
    (k.par = false → s.gate op c k = some .badParam) ∧
    (k.par = true → k.dom = false ∨ (c.die < 8 ∧ s.pwr.inReset.getLsbD c.die = true) → s.gate op c k = some .domainOff)) ∧
  (∀ (s : State) (op : Nat) (c : Cmd) (k : Chk), s.opcodeOpen c.src op = true → k.len = true → k.tgt = true → k.auth = true →
    barred c.src op = false → s.rootBars c.src = false → k.par = true → k.dom = true →
    (decide (c.die < 8) && s.pwr.inReset.getLsbD c.die) = false →
    (k.fen = false → s.gate op c k = some .fenced) ∧
    (k.fen = true → k.ret = false → s.gate op c k = some .retired) ∧
    (k.fen = true → k.ret = true → k.free = false ∨ s.crowded c op = true → s.gate op c k = some .busy) ∧
    (k.fen = true → k.ret = true → k.free = true → s.crowded c op = false → s.retriesFail op c = true → s.gate op c k = some .busy) ∧
    (k.fen = true → k.ret = true → k.free = true → s.crowded c op = false → s.retriesFail op c = false → k.late = false → s.gate op c k = some .late) ∧
    (k.fen = true → k.ret = true → k.free = true → s.crowded c op = false → s.retriesFail op c = false → k.late = true → s.gate op c k = none))

/-- A field of a register reads back what was written to it, cut to its width, and every other field, every counter and every byte of memory reads as before. -/
def Obligations.RegisterFields : Prop :=
  (∀ (s : State) (b : Nat) (f : Fld) (v : Nat), (s.setF b f v).getF b f = v % 2 ^ f.width) ∧
  (∀ (s : State) (b b' : Nat) (f f' : Fld) (v : Nat), regKey b' f' ≠ regKey b f → (s.setF b f v).getF b' f' = s.getF b' f') ∧
  (∀ (s : State) (b : Nat) (f : Fld) (v a : Nat), (s.setF b f v).ctr a = s.ctr a ∧ (s.setF b f v).snapped a = s.snapped a ∧
    SMap.get 0 (s.setF b f v).mem a = SMap.get 0 s.mem a)

/-- Counting adds to one counter, which stops at 2^48 - 1, leaves every held copy and every other counter (but the trace's own count of lost packets, which a traced event may move), and sets the block's record when it reaches the top; a snapshot of a window gives each counter's held copy the counter's value and leaves the counters, or clears them to 0 when it is asked to, and does nothing to another window. -/
def Obligations.CountersAndSnapshots : Prop :=
  (∀ (s : State) (base : Nat) (f : Fld) (n rbase : Nat) (r : Fld) (src a : Nat),
    a ≠ dbgBase + F.DBG_SH_LOST_LO_lo.off →
    (s.count base f n rbase r src).ctr a = (if a = base + f.off then min 0xFFFFFFFFFFFF (s.ctr a + n) else s.ctr a) ∧
    (s.count base f n rbase r src).snapped a = s.snapped a) ∧
  (∀ (s : State) (base : Nat) (f : Fld) (n rbase : Nat) (r : Fld) (src : Nat),
    s.ctr (base + f.off) < 0xFFFFFFFFFFFF → 0xFFFFFFFFFFFF ≤ s.ctr (base + f.off) + n → r.width = 1 → src < 1024 →
    (∀ k, regKey rbase r ≠ regKey (evcBase + 4 * k) F.EVC_REC_rec) →
    (s.count base f n rbase r src).flag rbase r = true ∧ (s.count base f n rbase r src).recorded src = true) ∧
  (∀ (s : State) (base a : Nat) (clear : Bool),
    (s.snapWindow base clear).snapped a = (if base ≤ a ∧ a < base + 0x10000 then s.ctr a else s.snapped a) ∧
    (s.snapWindow base clear).ctr a = (if clear = true ∧ base ≤ a ∧ a < base + 0x10000 then 0 else s.ctr a))

/-- Signalling one of the 1,024 sources sets its record and changes no other record and no mask or route; unmasking a recorded source makes the vector it is routed to pending, and sets the interrupt input of each core it is routed to. -/
def Obligations.EventRecords : Prop :=
  (∀ (s : State) (a b : Fin 1024), (s.signal a.val).recorded b.val = (a == b || s.recorded b.val)) ∧
  (∀ (s : State) (a b : Fin 1024), (s.signal a.val).masked b.val = s.masked b.val ∧
    (s.signal a.val).getF (evcBase + 4 * b.val) F.EVC_ROUTE_vector = s.getF (evcBase + 4 * b.val) F.EVC_ROUTE_vector ∧
    (s.signal a.val).getF (evcBase + 4 * b.val) F.EVC_ROUTE_msix_en = s.getF (evcBase + 4 * b.val) F.EVC_ROUTE_msix_en) ∧
  (∀ (m : Master) (w i : Fin 32) (v : Word) (vec line : Nat) (n : Fin 8) (s : State), m ≠ .steward → m ≠ .debugPlain →
    Reaches s m 0 0x004 (0x300 + 4 * w.val) → s.recorded (32 * w.val + i.val) = true → v.toNat.testBit i.val = false →
    let b := evcBase + 4 * (32 * w.val + i.val);
    ∃ t, exec (.evcMaskWrite m w v) s = .next t ∧
      (s.getF b F.EVC_ROUTE_msix_en = 1 → s.getF b F.EVC_ROUTE_vector = vec → t.vecPending vec = true) ∧
      ((s.getF b F.EVC_ROUTE_cue_en).testBit n.val = true → s.getF b F.EVC_ROUTE_cue_line = line → t.cueInput n.val line = true))

/-- With room, an entry is added at the end with the next number and the station time, and the record `added` and source 770 are set; with 512 entries held the oldest that may be dropped makes room and source 771 is signalled too; with none that may be dropped the entry is lost and counted. Numbers go on modulo 65,536. -/
def Obligations.JournalEntries : Prop :=
  (∀ (s : State) (code target d0 d1 d2 : Nat) (p : Bool), s.jrnl.held.length < 512 →
    (s.journal code p target d0 d1 d2).jrnl.held = s.jrnl.held ++ [{ code := code, permanent := p, seq := s.jrnl.nextSeq, target := target, time := s.sta, d0 := d0, d1 := d1, d2 := d2 }] ∧
    (s.journal code p target d0 d1 d2).flag jrnlBase F.JRNL_STAT_added = true ∧ (s.journal code p target d0 d1 d2).recorded 770 = true) ∧
  (∀ (s : State) (code target d0 d1 d2 : Nat) (p : Bool) (l : List JEntry), 512 ≤ s.jrnl.held.length → dropOldest s.jrnl.held = some l →
    (s.journal code p target d0 d1 d2).jrnl.held = l ++ [{ code := code, permanent := p, seq := s.jrnl.nextSeq, target := target, time := s.sta, d0 := d0, d1 := d1, d2 := d2 }] ∧
    (s.journal code p target d0 d1 d2).recorded 771 = true) ∧
  (∀ (s : State) (code target d0 d1 d2 : Nat) (p : Bool), 512 ≤ s.jrnl.held.length → dropOldest s.jrnl.held = none →
    (s.journal code p target d0 d1 d2).jrnl.held = s.jrnl.held ∧
    (s.journal code p target d0 d1 d2).ctr (jrnlBase + F.JRNL_SH_LOST_LO_lo.off) = min 0xFFFFFFFFFFFF (s.ctr (jrnlBase + F.JRNL_SH_LOST_LO_lo.off) + 1)) ∧
  (∀ (s : State) (code target d0 d1 d2 : Nat) (p : Bool), (s.journal code p target d0 d1 d2).jrnl.nextSeq = (s.jrnl.nextSeq + 1) % 65536)

/-- A read of an invalid word gives 0 with err = 0 and poison = 0, and a read of a poisoned word gives 0 with poison = 1 and err = 0, at every width and on either port; the read changes nothing else. Where port A's clr is 1 in that cycle, the bay is cleared first. -/
def Obligations.BayReadsInvalidAndPoisoned : Prop :=
  (∀ (q : Fin 4) (deep : Bool) (i : Fin 4096) (portB : Bool) (addr : BitVec 18) (s : State), bayExists deep i.val = true →
    s.portOpen (bayUnit q.val deep i.val) portB = true → s.unitLoading (bayUnit q.val deep i.val) = false →
    let u := bayUnit q.val deep i.val;
    let s0 := if !portB && s.bayPins u false 64 1 0 == 1 then s.clearUnit u else s;
    s0.bayPins u portB 0 1 1 ≠ 0 → s0.bayPins u portB 1 1 0 ≠ 1 →
    let x := s0.bword u ((selectOf (s0.portWidth u portB) (s0.bayPins u portB 6 18 addr.toNat) 15).1 % unitDepth u);
    (x.state = 0 → exec (.bayRead q deep i portB addr) s = .next (s0.emit (.bayRead u 0 0 false))) ∧
    (2 ≤ x.state → exec (.bayRead q deep i portB addr) s = .next (s0.emit (.bayRead u 0 0 true))))

/-- A write, in a cycle without clr, that enables a lane of an invalid word makes the word valid; the enabled lanes take the written data and the others become 0. -/
def Obligations.BayWritesToInvalid : Prop :=
  (∀ (q : Fin 4) (deep : Bool) (i : Fin 4096) (portB : Bool) (we : BitVec 4) (addr : BitVec 18) (din : BitVec 40) (s : State),
    bayExists deep i.val = true → s.portOpen (bayUnit q.val deep i.val) portB = true → s.unitLoading (bayUnit q.val deep i.val) = false →
    let u := bayUnit q.val deep i.val;
    let a := s.bayPins u portB 6 18 addr.toNat;
    let p := selectOf (s.portWidth u portB) a (BitVec.ofNat 4 (s.bayPins u portB 2 4 we.toNat));
    let d := BitVec.ofNat 40 (s.bayPins u portB 24 40 din.toNat);
    let w := p.1 % unitDepth u;
    (!portB && s.bayPins u false 64 1 0 == 1) = false →
    s.bayPins u portB 0 1 1 ≠ 0 → s.bayPins u portB 1 1 1 = 1 →
    p.2 ≠ 0 → (s.bword u w).state = 0 →
    ∃ t, exec (.bayWrite q deep i portB we addr din) s = .next t ∧ (t.bword u w).valid = true ∧
      (t.bword u w).data = toLanes (s.portWidth u portB) a d &&& laneMask p.2)

/-- A write, in a cycle without clr, that enables all four lanes of a poisoned word stores the data and makes the word valid; a partial write is discarded and sets QC_BAYERR_STAT.partial_to_poison, and the word stays as it was. -/
def Obligations.BayWritesToPoisoned : Prop :=
  (∀ (q : Fin 4) (deep : Bool) (i : Fin 4096) (portB : Bool) (we : BitVec 4) (addr : BitVec 18) (din : BitVec 40) (s : State),
    bayExists deep i.val = true → s.portOpen (bayUnit q.val deep i.val) portB = true → s.unitLoading (bayUnit q.val deep i.val) = false →
    let u := bayUnit q.val deep i.val;
    let a := s.bayPins u portB 6 18 addr.toNat;
    let p := selectOf (s.portWidth u portB) a (BitVec.ofNat 4 (s.bayPins u portB 2 4 we.toNat));
    let d := BitVec.ofNat 40 (s.bayPins u portB 24 40 din.toNat);
    let w := p.1 % unitDepth u;
    (!portB && s.bayPins u false 64 1 0 == 1) = false →
    s.bayPins u portB 0 1 1 ≠ 0 → s.bayPins u portB 1 1 1 = 1 →
    p.2 ≠ 0 → (s.bword u w).poisoned = true →
    ∃ t, exec (.bayWrite q deep i portB we addr din) s = .next t ∧
      (p.2 = 15 → (t.bword u w).valid = true ∧ (t.bword u w).data = toLanes (s.portWidth u portB) a d) ∧
      (p.2 ≠ 15 → (t.bword u w).poisoned = true ∧ t.bays = s.bays ∧
        t.flag (qcBase (unitQuad u)) F.QC_BAYERR_STAT_partial_to_poison = true))

/-- A write to a bay leaves every word of every bay but the one it names as it was (of its own bay where port A's clr is 1 in the cycle), and leaves device memory, the cue cores and the steward's queues as they were. -/
def Obligations.BayWriteFrame : Prop :=
  (∀ (q : Fin 4) (deep : Bool) (i : Fin 4096) (portB : Bool) (we : BitVec 4) (addr : BitVec 18) (din : BitVec 40) (s t : State) (u w : Nat),
    exec (.bayWrite q deep i portB we addr din) s = .next t → w < 65536 →
    ¬ (u = bayUnit q.val deep i.val ∧ ((!portB && s.bayPins u false 64 1 0 == 1) = true ∨
      w = (selectOf (s.portWidth u portB) (s.bayPins u portB 6 18 addr.toNat) 15).1 % unitDepth u)) →
    t.bword u w = s.bword u w ∧ t.mem = s.mem ∧ t.cue = s.cue ∧ t.hq = s.hq)

/-- A clock edge of a stream arithmetic unit leaves every other unit as it was; a reset edge clears the unit that is clocked (but for the model's own count of its edges and its total before the edge) where the plane routes a net to its reset input, and an input that nothing routes reads 0. -/
def Obligations.ArithmeticUnitFrame : Prop :=
  (∀ (q : Fin 4) (n : Fin 2048) (sm u : BitVec 40) (k : BitVec 48) (adv rst fresh : Bool) (s t : State) (q' : Fin 4) (n' : Fin 2048),
    exec (.sauClockEdge q n sm u k adv rst fresh) s = .next t → ¬ (q' = q ∧ n' = n) → t.sau q'.val n'.val = s.sau q'.val n'.val) ∧
  (∀ (q : Fin 4) (n : Fin 2048) (sm u : BitVec 40) (k : BitVec 48) (adv rst fresh : Bool) (s : State), s.sauClocked q.val n.val = true →
    s.sauPins q.val n.val 130 1 (bit rst) = 1 →
    ∃ t, exec (.sauClockEdge q n sm u k adv rst fresh) s = .next t ∧ t.sau q.val n.val = (s.sau q.val n.val).clocked {}) ∧
  (∀ (q : Fin 4) (n : Fin 2048) (sm u : BitVec 40) (k : BitVec 48) (adv rst fresh : Bool) (s : State),
    s.sauPins q.val n.val 130 1 1 = 0 →
    exec (.sauClockEdge q n sm u k adv rst fresh) s = exec (.sauClockEdge q n sm u k adv false fresh) s)

/-- A withdraw by the sender of a full mailbox clears full and sets withdrawn, and the message stays readable; while the mailbox is not full it changes nothing. -/
def Obligations.MailboxWithdraw : Prop :=
  (∀ (m : Master) (i : Fin 48) (s : State), Reaches s m 0 0x008 (0x100 + 0x20 * i.val + 0x08) → s.mbBound i.val = true →
    isAgent m (s.mbSender i.val) = true →
    (s.mbFull i.val = true → ∃ t, exec (.mbStatWithdraw m i) s = .next t ∧ t.mbFull i.val = false ∧
      t.flag (mbBase i.val) F.MB_STAT_withdrawn = true ∧ t.getF (mbBase i.val) F.MB_MSG_msg = s.getF (mbBase i.val) F.MB_MSG_msg) ∧
    (s.mbFull i.val = false → exec (.mbStatWithdraw m i) s = .next s))

/-- A write to a mailbox's registers, whoever makes it, leaves every register field outside that mailbox, the records of its event source and the bus error records as it was, and leaves device memory as it was. -/
def Obligations.MailboxFrame : Prop :=
  (∀ (m : Master) (i : Fin 48) (v : Word) (code : BitVec 16) (s t : State) (b : Nat) (f : Fld),
    exec (.mbMsgWrite m i v) s = .next t ∨ exec (.mbRing m i v) s = .next t ∨ exec (.mbReply m i code) s = .next t ∨
    exec (.mbCfgWrite m i v) s = .next t ∨ exec (.mbStatWithdraw m i) s = .next t →
    (b + f.off < mbBase i.val + 0x100 ∨ mbBase i.val + 0x120 ≤ b + f.off) → b + f.off ≠ evcBase + 0x200 + 4 * ((640 + i.val) / 32) →
    regKey b f ≠ regKey dbgBase F.DBG_STAT_triggered → b + f.off ≠ pcieBase + F.PCIE_ERR_unsupported.off →
    b + f.off ≠ mbxBase + F.HDR_write_dropped.off → f.lo < 32 →
    regKey b f ≠ regKey dbgBase F.DBG_STAT_cnt_overflow →
    t.getF b f = s.getF b f ∧ t.mem = s.mem)

/-- A write whose address, taken through the BAR where its master has one, lies in the shared SRAM, or in the memory of a cue core that is on, stores its bytes, and one that runs past the end of the SRAM or meets a core that is off gives its bus error; a store changes the bytes it names and no other byte of memory, and clears the reservation of a core that holds one on those bytes, unless it is the core's own store. -/
def Obligations.DeviceMemoryWrites : Prop :=
  (∀ (m : Master) (x : BitVec 40) (bytes : List Byte) (s : State),
    let a := m.toLocal x.toNat;
    s.busUp = true → inRegs a = false → inSram a = true →
    (a + bytes.length ≤ sramBase + sramSize → exec (.registerWrite m x bytes) s = .next (s.storeBy m a bytes)) ∧
    (sramBase + sramSize < a + bytes.length → exec (.registerWrite m x bytes) s = .next (s.busError m true a .unmapped))) ∧
  (∀ (m : Master) (x : BitVec 40) (bytes : List Byte) (s : State),
    let a := m.toLocal x.toNat;
    s.busUp = true → inRegs a = false → inSram a = false → inCueMem a = true →
    exec (.registerWrite m x bytes) s = .next (if s.cueMemOpen a then s.storeBy m a bytes else s.busError m true a .domainOff)) ∧
  (∀ (s : State) (m : Master) (a : Nat) (bs : List Byte) (x : Nat), SMap.get 0 (s.storeBy m a bs).mem x =
    (if a ≤ x ∧ x < a + bs.length then bs.getD (x - a) 0 else SMap.get 0 s.mem x)) ∧
  (∀ (s : State) (m : Master) (n : Fin 8) (a r w : Nat) (bs : List Byte), (s.cueX n.val).resv = some (r, w) →
    ((s.storeBy m a bs).cueX n.val).resv = (if m ≠ .cue n ∧ r < a + bs.length ∧ a < r + 64 then none else some (r, w))) ∧
  (∀ (s : State) (m : Master) (n : Fin 8) (a : Nat) (bs : List Byte), (s.cueX n.val).resv = none → ((s.storeBy m a bs).cueX n.val).resv = none)

/-- A read of frame memory that need not wait behind another access to its lines, by a class whose rights at the line do not allow it, is answered with no data and no poison, and a write so refused changes no byte of memory; no read of frame memory changes a byte of it. -/
def Obligations.FrameMemoryRights : Prop :=
  (∀ (cls : Fin 7) (a : BitVec 33) (n : Fin 513) (es : List LineErr) (s t : State), exec (.frameMemoryRead cls a n es) s = .next t →
    t.mem = s.mem ∧ (s.fmBlocked a.toNat n.val = false →
      s.mayAccess cls.val (stackOf (s.phys a.toNat)) (lineOf (s.phys a.toNat)) true false = false →
      ∃ st, t.out.head? = some (.memory cls.val a.toNat st [] false))) ∧
  (∀ (cls : Fin 7) (a : BitVec 33) (bs : List Byte) (poison posted : Bool) (es : List LineErr) (s t : State),
    exec (.frameMemoryWrite cls a bs poison posted es) s = .next t →
    s.mayAccess cls.val (stackOf (s.phys a.toNat)) (lineOf (s.phys a.toNat)) false true = false → t.mem = s.mem)

/-- A write of frame memory that completes with OK leaves each of its bytes at the place that the memory map gives its address, and whatever a write answers, every byte of memory outside those places is as it was. -/
def Obligations.FrameMemoryWriteStores : Prop :=
  (∀ (cls a : Nat) (bs : List Byte) (bad : List (Nat × Nat)) (es : List LineErr) (s t : State), a + bs.length ≤ fmSize →
    s.fmWrite cls a bs bad es = (some .ok, t) → ∀ k < bs.length, SMap.get 0 t.mem (s.phys (a + k)) = bs.getD k 0) ∧
  (∀ (cls : Fin 7) (a : BitVec 33) (bs : List Byte) (poison posted : Bool) (es : List LineErr) (s t : State) (x : Nat),
    exec (.frameMemoryWrite cls a bs poison posted es) s = .next t → (∀ k < bs.length, s.phys (a.toNat + k) ≠ x) →
    SMap.get 0 t.mem x = SMap.get 0 s.mem x)

/-- The end of an eye scan leaves every byte of memory outside its record as it was; the record starts at the address that its command gave, taken through the memory map when that lies in frame memory. -/
def Obligations.EyeRecordFrame : Prop :=
  (∀ (n : Fin 144) (counts : List Nat) (o : Op) (s t : State) (x : Nat), s.pendingOn 0x0402 (laneWord n.val) = some o →
    exec (.laneEyeCompletion n counts) s = .next t →
    (∀ k < (eyeRecord n.val o counts).length, (if o.f 4 7 0 * 4294967296 + o.w 3 < fmSize then s.phys (o.f 4 7 0 * 4294967296 + o.w 3 + k)
      else o.f 4 7 0 * 4294967296 + o.w 3 + k) ≠ x) → SMap.get 0 t.mem x = SMap.get 0 s.mem x)

/-- The three words of a station time below 2^48 s give that time back, with nanoseconds below 1,000,000,000 in the first; and words whose first is not below 1,000,000,000 give none. -/
def Obligations.TimeWordsAgree : Prop :=
  (∀ t : Nat, t < 2 ^ 48 * second → timeOf ((timeWords t).getD 0 0).toNat ((timeWords t).getD 1 0).toNat ((timeWords t).getD 2 0).toNat = some t) ∧
  (∀ t : Nat, ((timeWords t).getD 0 0).toNat < 1000000000 ∧ (timeWords t).length = 3) ∧
  (∀ t0 t1 t2 : Nat, 1000000000 ≤ t0 → timeOf t0 t1 t2 = none)

/-- The flits of a ring packet whose header words and length agree, and whose poisoned flits are listed in order, give the packet back, on every virtual channel and from every sequence number; each flit passes its check, names its channel and counts on from the first, and the last alone is the tail. -/
def Obligations.RingFlitsCarryPackets : Prop :=
  (∀ (p : Pkt) (vc seq : Nat), vc < 8 → p.hdr.length = 8 → (∀ x ∈ p.hdr, x < 4294967296) →
    (if opCarries p.op then p.bytes = p.data.length else p.data = []) →
    p.poison = (List.range p.flits).filter (fun i => p.poison.contains i) → ofFlits (p.toFlits vc seq) = p) ∧
  (∀ (p : Pkt) (vc seq n : Nat), vc < 8 → n < (p.toFlits vc seq).length →
    flitGood ((p.toFlits vc seq).getD n 0) = true ∧ flitVc ((p.toFlits vc seq).getD n 0) = vc ∧
    flitSeq ((p.toFlits vc seq).getD n 0) = (seq + n) % 64 ∧
    flitTail ((p.toFlits vc seq).getD n 0) = decide (n + 1 = (p.toFlits vc seq).length)) ∧
  (∀ (p : Pkt) (vc seq : Nat), (p.toFlits vc seq).length = (if p.data.length ≤ 32 then 1 else 1 + (p.data.length - 32 + 63) / 64))

/-- When no edge of swap_clk came within 1 µs after the instant of an armed swap without a trigger, the swap completes with TIMEOUT and is no longer pending, the journal records the facet (under the journal's own rule when it is full), and the facet keeps its state and its active plane. -/
def Obligations.SwapWithoutEdge : Prop :=
  (∀ (f : Fin 48) (o : Op) (s : State), s.swapOp f.val = some o → o.f 5 31 31 = 0 →
    ∃ t, exec (.facetSwapNoEdge f) s = .next t ∧ t.facetPlane f.val = s.facetPlane f.val ∧ t.facetState f.val = s.facetState f.val ∧
      (∃ r ∈ t.hq.ready, r.src = o.src ∧ r.tag = o.tag ∧ r.opcode = 0x0203 ∧ r.status = .timeout ∧ r.completion = true) ∧
      t.opOf o.src o.tag = none ∧ t.jrnl.nextSeq = (s.jrnl.nextSeq + 1) % 65536 ∧
      (s.jrnl.held.length < 512 → ∃ e ∈ t.jrnl.held, e.seq = s.jrnl.nextSeq ∧ e.code = 0x08 ∧ e.target = (facetWord f.val).toNat))

/-- After a loss of VCC_AON, a rail or POR_N the device waits for its rails with every register field outside the debug block at its reset value, memory and queues empty and the debug domain as it was; the journal is kept, but emptied by a loss of VCC_AON. (The partner link's state is apart: it reads 0 on a device without a partner.) -/
def Obligations.PowerLoss : Prop :=
  (∀ (s t : State) (rail : Fin 10), exec .vccAonLoss s = .next t ∨ exec (.railLoss rail) s = .next t ∨ exec .porNAsserted s = .next t →
    t.pwr.boot = .inReset ∧ t.hq.ops = [] ∧ t.hq.ready = [] ∧ t.posted = [] ∧ (∀ a, SMap.get 0 t.mem a = 0) ∧ t.dbg = s.dbg ∧
    (∀ (base : Nat) (f : Fld), f.lo < 32 → (base + f.off < dbgBase ∨ dbgBase + 0x10000 ≤ base + f.off) →
      regKey base f ≠ regKey ucieBase F.UCIE_LINK_state → t.getF base f = State.reset.getF base f)) ∧
  (∀ (s : State) (rail : Fin 10), (∃ t, exec .vccAonLoss s = .next t ∧ t.jrnl.held = []) ∧
    (∃ t, exec (.railLoss rail) s = .next t ∧ t.jrnl.held = s.jrnl.held ∧ t.jrnl.nextSeq = s.jrnl.nextSeq ∧ t.pwr.brownout = some rail.val) ∧
    (∃ t, exec .porNAsserted s = .next t ∧ t.jrnl.held = s.jrnl.held))

/-- A packet that the steward would carry out, but whose write of its block is discarded because another master's posted write holds the block to the last retry, is answered BUSY, and each such block records the discarded write. LANE_SET, LANE_RETIRE, SDI_RX_SET, SDI_TX_SET, XPT_AT, FACET_SWAP_AT and CHANNEL_RETIRE, as they are taken, change no other register field, and none at all where no other master's posted write holds a block that they write. That the row of the command stands where its retries are over is the model's choice (assumption log 86). -/
def Obligations.DroppedWrites : Prop :=
  (∀ (s : State) (op : Nat) (c : Cmd) (k : Chk) (i : Option Nat) (run : State → State) (ans : State → State × List Word),
    s.handles op c = true → s.opcodeOpen c.src op = true → barred c.src op = false → s.rootBars c.src = false →
    (decide (c.die < 8) && s.pwr.inReset.getLsbD c.die) = false → s.crowded c op = false →
    (k.len && k.tgt && k.auth && k.par && k.dom && k.fen && k.ret && k.free) = true → s.retriesFail op c = true →
    let t := ((s.blockedBy op c).foldl (fun s b => s.raise b F.HDR_write_dropped) (s.take op c)).answer op c .busy [];
    s.immediate op c k ans = t ∧ s.long op c k i run = t) ∧
  (∀ (i : Instr) (op : Nat) (c : Cmd) (s t : State) (b : Nat) (f : Fld),
    i ∈ [.laneSet c, .laneRetire c, .sdiRxSet c, .sdiTxSet c, .xptAt c, .facetSwapAt c, .channelRetire c] → packetOf i = some (op, c) → exec i s = .next t →
    (∀ x ∈ s.blockedBy op c, regKey b f ≠ regKey x F.HDR_write_dropped) → t.getF b f = s.getF b f) ∧
  (∀ (i : Instr) (op : Nat) (c : Cmd) (s t : State),
    i ∈ [.laneSet c, .laneRetire c, .sdiRxSet c, .sdiTxSet c, .xptAt c, .facetSwapAt c, .channelRetire c] → packetOf i = some (op, c) → exec i s = .next t →
    (∀ p ∈ s.posted, p.base ∉ cmdBlocks op c [] ∨ p.master = .steward) → t.regs = s.regs)
end

