-- ==== Sys2Proof/Laws/Kept.lean ====
section
/-! SUPPORT. What each operation leaves alone: the components that it does not write, and a property of device memory that its writes
keep. The files Laws/Kept….lean hold one lemma for each operation on the state; a set of components is written as a number with bit
`Comp.idx` for each. -/
namespace Sys2Proof.Machine

/-- The number of a component. -/
def Comp.idx : Comp → Nat
  | .ident => 0
  | .regs => 1
  | .ctrs => 2
  | .snaps => 3
  | .mem => 4
  | .host => 5
  | .flash => 6
  | .hostBad => 7
  | .pending => 8
  | .out => 9
  | .now => 10
  | .sta => 11
  | .fresh => 12
  | .posted => 13
  | .latches => 14
  | .hq => 15
  | .evc => 16
  | .pwr => 17
  | .jrnl => 18
  | .fab => 19
  | .bays => 20
  | .saus => 21
  | .fac => 22
  | .cfg => 23
  | .fm => 24
  | .lanes => 25
  | .se => 26
  | .prot => 27
  | .ring => 28
  | .opt => 29
  | .tim => 30
  | .clk => 31
  | .lat => 32
  | .cue => 33
  | .dbg => 34

theorem Comp.same_refl (c : Comp) (s : State) : c.same s s := by cases c <;> rfl
theorem Comp.same_trans {c : Comp} {s t u : State} (h : c.same s t) (h' : c.same t u) : c.same s u := by
  cases c <;> exact Eq.trans h' h

/-- The components of `K` are as in `s0`, and device memory has property `M`. -/
def Kept (K : Nat) (s0 : State) (M : List Host.Cell → Prop) (s : State) : Prop :=
  (∀ c : Comp, K.testBit c.idx = true → c.same s0 s) ∧ M s.mem

/-- The writes of device memory keep property `M`: a byte stored, entries dropped, everything lost. -/
structure Closed (M : List Host.Cell → Prop) : Prop where
  put : ∀ m k (v : Byte), M m → M (SMap.put 0 m k v)
  filter : ∀ (m : List Host.Cell) f, M m → M (m.filter f)
  nil : M []

/-- A result that keeps: its next state does. -/
def KeptR (K : Nat) (s0 : State) (M : List Host.Cell → Prop) (r : Result) : Prop :=
  match r with
  | .next t => Kept K s0 M t
  | .fault _ => True
  | .refused _ => True

/-- An optional answer that keeps: where there is one, the state in it does. -/
def KeptO {α : Type} (K : Nat) (s0 : State) (M : List Host.Cell → Prop) (f : α → State) (o : Option α) : Prop :=
  match o with
  | some a => Kept K s0 M (f a)
  | none => True

/-- Fewer components written. -/
theorem wOff {K W W' : Nat} (h : K &&& W = 0) (hw : W' ||| W = W) : K &&& W' = 0 := by
  apply Nat.eq_of_testBit_eq
  intro i
  have h1 : (K &&& W).testBit i = false := by rw [h]; exact Nat.zero_testBit i
  have h2 : (W' ||| W).testBit i = W.testBit i := by rw [hw]
  simp only [Nat.testBit_and, Nat.testBit_or, Nat.zero_testBit] at *
  cases hK : K.testBit i <;> cases hW : W.testBit i <;> simp_all

variable {K W : Nat} {s0 : State} {M : List Host.Cell → Prop}

theorem KeptR.next {s : State} (h : Kept K s0 M s) : KeptR K s0 M (.next s) := h
theorem KeptO.some {α : Type} {f : α → State} {a : α} (h : Kept K s0 M (f a)) : KeptO K s0 M f (.some a) := h
theorem KeptO.none {α : Type} {f : α → State} : KeptO K s0 M f .none := trivial

theorem Kept.snd2 {α : Type} {a : α} {s : State} (h : Kept K s0 M s) : Kept K s0 M (a, s).2 := h
theorem Kept.snd3 {α β : Type} {a : α} {b : β} {s : State} (h : Kept K s0 M s) : Kept K s0 M (a, b, s).2.2 := h
theorem Kept.snd4 {α β γ : Type} {a : α} {b : β} {c : γ} {s : State} (h : Kept K s0 M s) : Kept K s0 M (a, b, c, s).2.2.2 := h

/-- The state in a pair that is known. -/
theorem Kept.sndEq {α : Type} {x : α × State} {a : α} {s : State} (e : x = (a, s)) (h : Kept K s0 M x.2) : Kept K s0 M s := by
  subst e; exact h
/-- The state in an optional answer that is known. -/
theorem KeptO.ite {α : Type} {f : α → State} {c : Prop} [Decidable c] {x y : Option α} (h : KeptO K s0 M f x) (h' : KeptO K s0 M f y) :
    KeptO K s0 M f (if c then x else y) := by
  split <;> assumption
theorem KeptO.get {α : Type} {f : α → State} {o : Option α} {a : α} (e : o = .some a) (h : KeptO K s0 M f o) : Kept K s0 M (f a) := by
  subst e; exact h

theorem KeptO.getD {o : Option State} {s : State} (h : KeptO K s0 M id o) (h' : Kept K s0 M s) : Kept K s0 M (o.getD s) := by
  cases o with
  | none => exact h'
  | some t => exact h

theorem Kept.ite {c : Prop} [Decidable c] {s t : State} (h : Kept K s0 M s) (h' : Kept K s0 M t) :
    Kept K s0 M (if c then s else t) := by split <;> assumption

theorem Kept.iteIn {α : Type} (g : α → State) {c : Prop} [Decidable c] {x y : α} (h : Kept K s0 M (g x)) (h' : Kept K s0 M (g y)) :
    Kept K s0 M (g (if c then x else y)) := by split <;> assumption

theorem Kept.foldl {β : Type} {f : State → β → State} {l : List β} {s : State} (h : Kept K s0 M s)
    (hf : ∀ t x, Kept K s0 M t → Kept K s0 M (f t x)) : Kept K s0 M (l.foldl f s) := by
  induction l generalizing s with
  | nil => exact h
  | cons x l ih => exact ih (hf s x h)

theorem Kept.foldlIn {α β : Type} (g : α → State) {f : α → β → α} {l : List β} {a : α} (h : Kept K s0 M (g a))
    (hf : ∀ t x, Kept K s0 M (g t) → Kept K s0 M (g (f t x))) : Kept K s0 M (g (l.foldl f a)) := by
  induction l generalizing a with
  | nil => exact h
  | cons x l ih => exact ih (hf a x h)

/-- A state in which only components of `W` differ. -/
theorem Kept.up {s t : State} (hm : K &&& W = 0) (h : Kept K s0 M s) (hs : ∀ c : Comp, W.testBit c.idx = false → c.same s t) (hM : M t.mem) :
    Kept K s0 M t := by
  refine ⟨fun c hc => Comp.same_trans (h.1 c hc) (hs c ?_), hM⟩
  have h1 : (K &&& W).testBit c.idx = false := by rw [hm]; exact Nat.zero_testBit _
  simpa [Nat.testBit_and, hc] using h1

theorem Kept.up_regs {t : State} {x_regs} (hm : K &&& 0x2 = 0) (h : Kept K s0 M t) :
    Kept K s0 M { t with regs := x_regs } :=
  h.up hm (fun c hc => by cases c <;> first | rfl | exact absurd hc (by decide)) h.2
theorem Kept.mk_regs {t : State} {x_regs} (hm : K &&& 0x2 = 0) :
    Kept K s0 M { t with regs := x_regs } ↔ Kept K s0 M t :=
  ⟨fun h => Kept.up (W := 0x2) hm h (fun c hc => by cases c <;> first | rfl | exact absurd hc (by decide)) h.2, fun h => h.up_regs hm⟩
theorem Kept.up_ctrs {t : State} {x_ctrs} (hm : K &&& 0x4 = 0) (h : Kept K s0 M t) :
    Kept K s0 M { t with ctrs := x_ctrs } :=
  h.up hm (fun c hc => by cases c <;> first | rfl | exact absurd hc (by decide)) h.2
theorem Kept.mk_ctrs {t : State} {x_ctrs} (hm : K &&& 0x4 = 0) :
    Kept K s0 M { t with ctrs := x_ctrs } ↔ Kept K s0 M t :=
  ⟨fun h => Kept.up (W := 0x4) hm h (fun c hc => by cases c <;> first | rfl | exact absurd hc (by decide)) h.2, fun h => h.up_ctrs hm⟩
theorem Kept.up_snaps {t : State} {x_snaps} (hm : K &&& 0x8 = 0) (h : Kept K s0 M t) :
    Kept K s0 M { t with snaps := x_snaps } :=
  h.up hm (fun c hc => by cases c <;> first | rfl | exact absurd hc (by decide)) h.2
theorem Kept.mk_snaps {t : State} {x_snaps} (hm : K &&& 0x8 = 0) :
    Kept K s0 M { t with snaps := x_snaps } ↔ Kept K s0 M t :=
  ⟨fun h => Kept.up (W := 0x8) hm h (fun c hc => by cases c <;> first | rfl | exact absurd hc (by decide)) h.2, fun h => h.up_snaps hm⟩
theorem Kept.up_mem {t : State} {x_mem} (hm : K &&& 0x10 = 0) (h : Kept K s0 M t) (hM : M x_mem) :
    Kept K s0 M { t with mem := x_mem } :=
  h.up hm (fun c hc => by cases c <;> first | rfl | exact absurd hc (by decide)) hM
theorem Kept.up_host {t : State} {x_host} (hm : K &&& 0x20 = 0) (h : Kept K s0 M t) :
    Kept K s0 M { t with host := x_host } :=
  h.up hm (fun c hc => by cases c <;> first | rfl | exact absurd hc (by decide)) h.2
theorem Kept.mk_host {t : State} {x_host} (hm : K &&& 0x20 = 0) :
    Kept K s0 M { t with host := x_host } ↔ Kept K s0 M t :=
  ⟨fun h => Kept.up (W := 0x20) hm h (fun c hc => by cases c <;> first | rfl | exact absurd hc (by decide)) h.2, fun h => h.up_host hm⟩
theorem Kept.up_pending {t : State} {x_pending} (hm : K &&& 0x100 = 0) (h : Kept K s0 M t) :
    Kept K s0 M { t with pending := x_pending } :=
  h.up hm (fun c hc => by cases c <;> first | rfl | exact absurd hc (by decide)) h.2
theorem Kept.mk_pending {t : State} {x_pending} (hm : K &&& 0x100 = 0) :
    Kept K s0 M { t with pending := x_pending } ↔ Kept K s0 M t :=
  ⟨fun h => Kept.up (W := 0x100) hm h (fun c hc => by cases c <;> first | rfl | exact absurd hc (by decide)) h.2, fun h => h.up_pending hm⟩
theorem Kept.up_out {t : State} {x_out} (hm : K &&& 0x200 = 0) (h : Kept K s0 M t) :
    Kept K s0 M { t with out := x_out } :=
  h.up hm (fun c hc => by cases c <;> first | rfl | exact absurd hc (by decide)) h.2
theorem Kept.mk_out {t : State} {x_out} (hm : K &&& 0x200 = 0) :
    Kept K s0 M { t with out := x_out } ↔ Kept K s0 M t :=
  ⟨fun h => Kept.up (W := 0x200) hm h (fun c hc => by cases c <;> first | rfl | exact absurd hc (by decide)) h.2, fun h => h.up_out hm⟩
theorem Kept.up_fresh {t : State} {x_fresh} (hm : K &&& 0x1000 = 0) (h : Kept K s0 M t) :
    Kept K s0 M { t with fresh := x_fresh } :=
  h.up hm (fun c hc => by cases c <;> first | rfl | exact absurd hc (by decide)) h.2
theorem Kept.mk_fresh {t : State} {x_fresh} (hm : K &&& 0x1000 = 0) :
    Kept K s0 M { t with fresh := x_fresh } ↔ Kept K s0 M t :=
  ⟨fun h => Kept.up (W := 0x1000) hm h (fun c hc => by cases c <;> first | rfl | exact absurd hc (by decide)) h.2, fun h => h.up_fresh hm⟩
theorem Kept.up_posted {t : State} {x_posted} (hm : K &&& 0x2000 = 0) (h : Kept K s0 M t) :
    Kept K s0 M { t with posted := x_posted } :=
  h.up hm (fun c hc => by cases c <;> first | rfl | exact absurd hc (by decide)) h.2
theorem Kept.mk_posted {t : State} {x_posted} (hm : K &&& 0x2000 = 0) :
    Kept K s0 M { t with posted := x_posted } ↔ Kept K s0 M t :=
  ⟨fun h => Kept.up (W := 0x2000) hm h (fun c hc => by cases c <;> first | rfl | exact absurd hc (by decide)) h.2, fun h => h.up_posted hm⟩
theorem Kept.up_latches {t : State} {x_latches} (hm : K &&& 0x4000 = 0) (h : Kept K s0 M t) :
    Kept K s0 M { t with latches := x_latches } :=
  h.up hm (fun c hc => by cases c <;> first | rfl | exact absurd hc (by decide)) h.2
theorem Kept.mk_latches {t : State} {x_latches} (hm : K &&& 0x4000 = 0) :
    Kept K s0 M { t with latches := x_latches } ↔ Kept K s0 M t :=
  ⟨fun h => Kept.up (W := 0x4000) hm h (fun c hc => by cases c <;> first | rfl | exact absurd hc (by decide)) h.2, fun h => h.up_latches hm⟩
theorem Kept.up_hq {t : State} {x_hq} (hm : K &&& 0x8000 = 0) (h : Kept K s0 M t) :
    Kept K s0 M { t with hq := x_hq } :=
  h.up hm (fun c hc => by cases c <;> first | rfl | exact absurd hc (by decide)) h.2
theorem Kept.mk_hq {t : State} {x_hq} (hm : K &&& 0x8000 = 0) :
    Kept K s0 M { t with hq := x_hq } ↔ Kept K s0 M t :=
  ⟨fun h => Kept.up (W := 0x8000) hm h (fun c hc => by cases c <;> first | rfl | exact absurd hc (by decide)) h.2, fun h => h.up_hq hm⟩
theorem Kept.up_evc {t : State} {x_evc} (hm : K &&& 0x10000 = 0) (h : Kept K s0 M t) :
    Kept K s0 M { t with evc := x_evc } :=
  h.up hm (fun c hc => by cases c <;> first | rfl | exact absurd hc (by decide)) h.2
theorem Kept.mk_evc {t : State} {x_evc} (hm : K &&& 0x10000 = 0) :
    Kept K s0 M { t with evc := x_evc } ↔ Kept K s0 M t :=
  ⟨fun h => Kept.up (W := 0x10000) hm h (fun c hc => by cases c <;> first | rfl | exact absurd hc (by decide)) h.2, fun h => h.up_evc hm⟩
theorem Kept.up_pwr {t : State} {x_pwr} (hm : K &&& 0x20000 = 0) (h : Kept K s0 M t) :
    Kept K s0 M { t with pwr := x_pwr } :=
  h.up hm (fun c hc => by cases c <;> first | rfl | exact absurd hc (by decide)) h.2
theorem Kept.mk_pwr {t : State} {x_pwr} (hm : K &&& 0x20000 = 0) :
    Kept K s0 M { t with pwr := x_pwr } ↔ Kept K s0 M t :=
  ⟨fun h => Kept.up (W := 0x20000) hm h (fun c hc => by cases c <;> first | rfl | exact absurd hc (by decide)) h.2, fun h => h.up_pwr hm⟩
theorem Kept.up_jrnl {t : State} {x_jrnl} (hm : K &&& 0x40000 = 0) (h : Kept K s0 M t) :
    Kept K s0 M { t with jrnl := x_jrnl } :=
  h.up hm (fun c hc => by cases c <;> first | rfl | exact absurd hc (by decide)) h.2
theorem Kept.mk_jrnl {t : State} {x_jrnl} (hm : K &&& 0x40000 = 0) :
    Kept K s0 M { t with jrnl := x_jrnl } ↔ Kept K s0 M t :=
  ⟨fun h => Kept.up (W := 0x40000) hm h (fun c hc => by cases c <;> first | rfl | exact absurd hc (by decide)) h.2, fun h => h.up_jrnl hm⟩
theorem Kept.up_fab {t : State} {x_fab} (hm : K &&& 0x80000 = 0) (h : Kept K s0 M t) :
    Kept K s0 M { t with fab := x_fab } :=
  h.up hm (fun c hc => by cases c <;> first | rfl | exact absurd hc (by decide)) h.2
theorem Kept.mk_fab {t : State} {x_fab} (hm : K &&& 0x80000 = 0) :
    Kept K s0 M { t with fab := x_fab } ↔ Kept K s0 M t :=
  ⟨fun h => Kept.up (W := 0x80000) hm h (fun c hc => by cases c <;> first | rfl | exact absurd hc (by decide)) h.2, fun h => h.up_fab hm⟩
theorem Kept.up_bays {t : State} {x_bays} (hm : K &&& 0x100000 = 0) (h : Kept K s0 M t) :
    Kept K s0 M { t with bays := x_bays } :=
  h.up hm (fun c hc => by cases c <;> first | rfl | exact absurd hc (by decide)) h.2
theorem Kept.mk_bays {t : State} {x_bays} (hm : K &&& 0x100000 = 0) :
    Kept K s0 M { t with bays := x_bays } ↔ Kept K s0 M t :=
  ⟨fun h => Kept.up (W := 0x100000) hm h (fun c hc => by cases c <;> first | rfl | exact absurd hc (by decide)) h.2, fun h => h.up_bays hm⟩
theorem Kept.up_saus {t : State} {x_saus} (hm : K &&& 0x200000 = 0) (h : Kept K s0 M t) :
    Kept K s0 M { t with saus := x_saus } :=
  h.up hm (fun c hc => by cases c <;> first | rfl | exact absurd hc (by decide)) h.2
theorem Kept.mk_saus {t : State} {x_saus} (hm : K &&& 0x200000 = 0) :
    Kept K s0 M { t with saus := x_saus } ↔ Kept K s0 M t :=
  ⟨fun h => Kept.up (W := 0x200000) hm h (fun c hc => by cases c <;> first | rfl | exact absurd hc (by decide)) h.2, fun h => h.up_saus hm⟩
theorem Kept.up_fac {t : State} {x_fac} (hm : K &&& 0x400000 = 0) (h : Kept K s0 M t) :
    Kept K s0 M { t with fac := x_fac } :=
  h.up hm (fun c hc => by cases c <;> first | rfl | exact absurd hc (by decide)) h.2
theorem Kept.mk_fac {t : State} {x_fac} (hm : K &&& 0x400000 = 0) :
    Kept K s0 M { t with fac := x_fac } ↔ Kept K s0 M t :=
  ⟨fun h => Kept.up (W := 0x400000) hm h (fun c hc => by cases c <;> first | rfl | exact absurd hc (by decide)) h.2, fun h => h.up_fac hm⟩
theorem Kept.up_cfg {t : State} {x_cfg} (hm : K &&& 0x800000 = 0) (h : Kept K s0 M t) :
    Kept K s0 M { t with cfg := x_cfg } :=
  h.up hm (fun c hc => by cases c <;> first | rfl | exact absurd hc (by decide)) h.2
theorem Kept.mk_cfg {t : State} {x_cfg} (hm : K &&& 0x800000 = 0) :
    Kept K s0 M { t with cfg := x_cfg } ↔ Kept K s0 M t :=
  ⟨fun h => Kept.up (W := 0x800000) hm h (fun c hc => by cases c <;> first | rfl | exact absurd hc (by decide)) h.2, fun h => h.up_cfg hm⟩
theorem Kept.up_fm {t : State} {x_fm} (hm : K &&& 0x1000000 = 0) (h : Kept K s0 M t) :
    Kept K s0 M { t with fm := x_fm } :=
  h.up hm (fun c hc => by cases c <;> first | rfl | exact absurd hc (by decide)) h.2
theorem Kept.mk_fm {t : State} {x_fm} (hm : K &&& 0x1000000 = 0) :
    Kept K s0 M { t with fm := x_fm } ↔ Kept K s0 M t :=
  ⟨fun h => Kept.up (W := 0x1000000) hm h (fun c hc => by cases c <;> first | rfl | exact absurd hc (by decide)) h.2, fun h => h.up_fm hm⟩
theorem Kept.up_lanes {t : State} {x_lanes} (hm : K &&& 0x2000000 = 0) (h : Kept K s0 M t) :
    Kept K s0 M { t with lanes := x_lanes } :=
  h.up hm (fun c hc => by cases c <;> first | rfl | exact absurd hc (by decide)) h.2
theorem Kept.mk_lanes {t : State} {x_lanes} (hm : K &&& 0x2000000 = 0) :
    Kept K s0 M { t with lanes := x_lanes } ↔ Kept K s0 M t :=
  ⟨fun h => Kept.up (W := 0x2000000) hm h (fun c hc => by cases c <;> first | rfl | exact absurd hc (by decide)) h.2, fun h => h.up_lanes hm⟩
theorem Kept.up_se {t : State} {x_se} (hm : K &&& 0x4000000 = 0) (h : Kept K s0 M t) :
    Kept K s0 M { t with se := x_se } :=
  h.up hm (fun c hc => by cases c <;> first | rfl | exact absurd hc (by decide)) h.2
theorem Kept.mk_se {t : State} {x_se} (hm : K &&& 0x4000000 = 0) :
    Kept K s0 M { t with se := x_se } ↔ Kept K s0 M t :=
  ⟨fun h => Kept.up (W := 0x4000000) hm h (fun c hc => by cases c <;> first | rfl | exact absurd hc (by decide)) h.2, fun h => h.up_se hm⟩
theorem Kept.up_prot {t : State} {x_prot} (hm : K &&& 0x8000000 = 0) (h : Kept K s0 M t) :
    Kept K s0 M { t with prot := x_prot } :=
  h.up hm (fun c hc => by cases c <;> first | rfl | exact absurd hc (by decide)) h.2
theorem Kept.mk_prot {t : State} {x_prot} (hm : K &&& 0x8000000 = 0) :
    Kept K s0 M { t with prot := x_prot } ↔ Kept K s0 M t :=
  ⟨fun h => Kept.up (W := 0x8000000) hm h (fun c hc => by cases c <;> first | rfl | exact absurd hc (by decide)) h.2, fun h => h.up_prot hm⟩
theorem Kept.up_ring {t : State} {x_ring} (hm : K &&& 0x10000000 = 0) (h : Kept K s0 M t) :
    Kept K s0 M { t with ring := x_ring } :=
  h.up hm (fun c hc => by cases c <;> first | rfl | exact absurd hc (by decide)) h.2
theorem Kept.mk_ring {t : State} {x_ring} (hm : K &&& 0x10000000 = 0) :
    Kept K s0 M { t with ring := x_ring } ↔ Kept K s0 M t :=
  ⟨fun h => Kept.up (W := 0x10000000) hm h (fun c hc => by cases c <;> first | rfl | exact absurd hc (by decide)) h.2, fun h => h.up_ring hm⟩
theorem Kept.up_opt {t : State} {x_opt} (hm : K &&& 0x20000000 = 0) (h : Kept K s0 M t) :
    Kept K s0 M { t with opt := x_opt } :=
  h.up hm (fun c hc => by cases c <;> first | rfl | exact absurd hc (by decide)) h.2
theorem Kept.mk_opt {t : State} {x_opt} (hm : K &&& 0x20000000 = 0) :
    Kept K s0 M { t with opt := x_opt } ↔ Kept K s0 M t :=
  ⟨fun h => Kept.up (W := 0x20000000) hm h (fun c hc => by cases c <;> first | rfl | exact absurd hc (by decide)) h.2, fun h => h.up_opt hm⟩
theorem Kept.up_tim {t : State} {x_tim} (hm : K &&& 0x40000000 = 0) (h : Kept K s0 M t) :
    Kept K s0 M { t with tim := x_tim } :=
  h.up hm (fun c hc => by cases c <;> first | rfl | exact absurd hc (by decide)) h.2
theorem Kept.mk_tim {t : State} {x_tim} (hm : K &&& 0x40000000 = 0) :
    Kept K s0 M { t with tim := x_tim } ↔ Kept K s0 M t :=
  ⟨fun h => Kept.up (W := 0x40000000) hm h (fun c hc => by cases c <;> first | rfl | exact absurd hc (by decide)) h.2, fun h => h.up_tim hm⟩
theorem Kept.up_clk {t : State} {x_clk} (hm : K &&& 0x80000000 = 0) (h : Kept K s0 M t) :
    Kept K s0 M { t with clk := x_clk } :=
  h.up hm (fun c hc => by cases c <;> first | rfl | exact absurd hc (by decide)) h.2
theorem Kept.mk_clk {t : State} {x_clk} (hm : K &&& 0x80000000 = 0) :
    Kept K s0 M { t with clk := x_clk } ↔ Kept K s0 M t :=
  ⟨fun h => Kept.up (W := 0x80000000) hm h (fun c hc => by cases c <;> first | rfl | exact absurd hc (by decide)) h.2, fun h => h.up_clk hm⟩
theorem Kept.up_lat {t : State} {x_lat} (hm : K &&& 0x100000000 = 0) (h : Kept K s0 M t) :
    Kept K s0 M { t with lat := x_lat } :=
  h.up hm (fun c hc => by cases c <;> first | rfl | exact absurd hc (by decide)) h.2
theorem Kept.mk_lat {t : State} {x_lat} (hm : K &&& 0x100000000 = 0) :
    Kept K s0 M { t with lat := x_lat } ↔ Kept K s0 M t :=
  ⟨fun h => Kept.up (W := 0x100000000) hm h (fun c hc => by cases c <;> first | rfl | exact absurd hc (by decide)) h.2, fun h => h.up_lat hm⟩
theorem Kept.up_cue {t : State} {x_cue} (hm : K &&& 0x200000000 = 0) (h : Kept K s0 M t) :
    Kept K s0 M { t with cue := x_cue } :=
  h.up hm (fun c hc => by cases c <;> first | rfl | exact absurd hc (by decide)) h.2
theorem Kept.mk_cue {t : State} {x_cue} (hm : K &&& 0x200000000 = 0) :
    Kept K s0 M { t with cue := x_cue } ↔ Kept K s0 M t :=
  ⟨fun h => Kept.up (W := 0x200000000) hm h (fun c hc => by cases c <;> first | rfl | exact absurd hc (by decide)) h.2, fun h => h.up_cue hm⟩
theorem Kept.up_dbg {t : State} {x_dbg} (hm : K &&& 0x400000000 = 0) (h : Kept K s0 M t) :
    Kept K s0 M { t with dbg := x_dbg } :=
  h.up hm (fun c hc => by cases c <;> first | rfl | exact absurd hc (by decide)) h.2
theorem Kept.mk_dbg {t : State} {x_dbg} (hm : K &&& 0x400000000 = 0) :
    Kept K s0 M { t with dbg := x_dbg } ↔ Kept K s0 M t :=
  ⟨fun h => Kept.up (W := 0x400000000) hm h (fun c hc => by cases c <;> first | rfl | exact absurd hc (by decide)) h.2, fun h => h.up_dbg hm⟩
theorem Kept.up_regs_latches {t : State} {x_regs x_latches} (hm : K &&& 0x4002 = 0) (h : Kept K s0 M t) :
    Kept K s0 M { t with regs := x_regs, latches := x_latches } :=
  h.up hm (fun c hc => by cases c <;> first | rfl | exact absurd hc (by decide)) h.2
theorem Kept.mk_regs_latches {t : State} {x_regs x_latches} (hm : K &&& 0x4002 = 0) :
    Kept K s0 M { t with regs := x_regs, latches := x_latches } ↔ Kept K s0 M t :=
  ⟨fun h => Kept.up (W := 0x4002) hm h (fun c hc => by cases c <;> first | rfl | exact absurd hc (by decide)) h.2, fun h => h.up_regs_latches hm⟩
theorem Kept.up_regs_fm {t : State} {x_regs x_fm} (hm : K &&& 0x1000002 = 0) (h : Kept K s0 M t) :
    Kept K s0 M { t with regs := x_regs, fm := x_fm } :=
  h.up hm (fun c hc => by cases c <;> first | rfl | exact absurd hc (by decide)) h.2
theorem Kept.mk_regs_fm {t : State} {x_regs x_fm} (hm : K &&& 0x1000002 = 0) :
    Kept K s0 M { t with regs := x_regs, fm := x_fm } ↔ Kept K s0 M t :=
  ⟨fun h => Kept.up (W := 0x1000002) hm h (fun c hc => by cases c <;> first | rfl | exact absurd hc (by decide)) h.2, fun h => h.up_regs_fm hm⟩
theorem Kept.up_ctrs_snaps {t : State} {x_ctrs x_snaps} (hm : K &&& 0xc = 0) (h : Kept K s0 M t) :
    Kept K s0 M { t with ctrs := x_ctrs, snaps := x_snaps } :=
  h.up hm (fun c hc => by cases c <;> first | rfl | exact absurd hc (by decide)) h.2
theorem Kept.mk_ctrs_snaps {t : State} {x_ctrs x_snaps} (hm : K &&& 0xc = 0) :
    Kept K s0 M { t with ctrs := x_ctrs, snaps := x_snaps } ↔ Kept K s0 M t :=
  ⟨fun h => Kept.up (W := 0xc) hm h (fun c hc => by cases c <;> first | rfl | exact absurd hc (by decide)) h.2, fun h => h.up_ctrs_snaps hm⟩
theorem Kept.up_mem_fm {t : State} {x_mem x_fm} (hm : K &&& 0x1000010 = 0) (h : Kept K s0 M t) (hM : M x_mem) :
    Kept K s0 M { t with mem := x_mem, fm := x_fm } :=
  h.up hm (fun c hc => by cases c <;> first | rfl | exact absurd hc (by decide)) hM
theorem Kept.up_out_evc {t : State} {x_out x_evc} (hm : K &&& 0x10200 = 0) (h : Kept K s0 M t) :
    Kept K s0 M { t with out := x_out, evc := x_evc } :=
  h.up hm (fun c hc => by cases c <;> first | rfl | exact absurd hc (by decide)) h.2
theorem Kept.mk_out_evc {t : State} {x_out x_evc} (hm : K &&& 0x10200 = 0) :
    Kept K s0 M { t with out := x_out, evc := x_evc } ↔ Kept K s0 M t :=
  ⟨fun h => Kept.up (W := 0x10200) hm h (fun c hc => by cases c <;> first | rfl | exact absurd hc (by decide)) h.2, fun h => h.up_out_evc hm⟩
theorem Kept.up_now_sta {t : State} {x_now x_sta} (hm : K &&& 0xc00 = 0) (h : Kept K s0 M t) :
    Kept K s0 M { t with now := x_now, sta := x_sta } :=
  h.up hm (fun c hc => by cases c <;> first | rfl | exact absurd hc (by decide)) h.2
theorem Kept.mk_now_sta {t : State} {x_now x_sta} (hm : K &&& 0xc00 = 0) :
    Kept K s0 M { t with now := x_now, sta := x_sta } ↔ Kept K s0 M t :=
  ⟨fun h => Kept.up (W := 0xc00) hm h (fun c hc => by cases c <;> first | rfl | exact absurd hc (by decide)) h.2, fun h => h.up_now_sta hm⟩
theorem Kept.up_sta_pwr {t : State} {x_sta x_pwr} (hm : K &&& 0x20800 = 0) (h : Kept K s0 M t) :
    Kept K s0 M { t with sta := x_sta, pwr := x_pwr } :=
  h.up hm (fun c hc => by cases c <;> first | rfl | exact absurd hc (by decide)) h.2
theorem Kept.mk_sta_pwr {t : State} {x_sta x_pwr} (hm : K &&& 0x20800 = 0) :
    Kept K s0 M { t with sta := x_sta, pwr := x_pwr } ↔ Kept K s0 M t :=
  ⟨fun h => Kept.up (W := 0x20800) hm h (fun c hc => by cases c <;> first | rfl | exact absurd hc (by decide)) h.2, fun h => h.up_sta_pwr hm⟩
theorem Kept.up_sta_tim {t : State} {x_sta x_tim} (hm : K &&& 0x40000800 = 0) (h : Kept K s0 M t) :
    Kept K s0 M { t with sta := x_sta, tim := x_tim } :=
  h.up hm (fun c hc => by cases c <;> first | rfl | exact absurd hc (by decide)) h.2
theorem Kept.mk_sta_tim {t : State} {x_sta x_tim} (hm : K &&& 0x40000800 = 0) :
    Kept K s0 M { t with sta := x_sta, tim := x_tim } ↔ Kept K s0 M t :=
  ⟨fun h => Kept.up (W := 0x40000800) hm h (fun c hc => by cases c <;> first | rfl | exact absurd hc (by decide)) h.2, fun h => h.up_sta_tim hm⟩
theorem Kept.up_hq_cfg {t : State} {x_hq x_cfg} (hm : K &&& 0x808000 = 0) (h : Kept K s0 M t) :
    Kept K s0 M { t with hq := x_hq, cfg := x_cfg } :=
  h.up hm (fun c hc => by cases c <;> first | rfl | exact absurd hc (by decide)) h.2
theorem Kept.mk_hq_cfg {t : State} {x_hq x_cfg} (hm : K &&& 0x808000 = 0) :
    Kept K s0 M { t with hq := x_hq, cfg := x_cfg } ↔ Kept K s0 M t :=
  ⟨fun h => Kept.up (W := 0x808000) hm h (fun c hc => by cases c <;> first | rfl | exact absurd hc (by decide)) h.2, fun h => h.up_hq_cfg hm⟩
theorem Kept.up_fac_cfg {t : State} {x_fac x_cfg} (hm : K &&& 0xc00000 = 0) (h : Kept K s0 M t) :
    Kept K s0 M { t with fac := x_fac, cfg := x_cfg } :=
  h.up hm (fun c hc => by cases c <;> first | rfl | exact absurd hc (by decide)) h.2
theorem Kept.mk_fac_cfg {t : State} {x_fac x_cfg} (hm : K &&& 0xc00000 = 0) :
    Kept K s0 M { t with fac := x_fac, cfg := x_cfg } ↔ Kept K s0 M t :=
  ⟨fun h => Kept.up (W := 0xc00000) hm h (fun c hc => by cases c <;> first | rfl | exact absurd hc (by decide)) h.2, fun h => h.up_fac_cfg hm⟩
theorem Kept.up_pwr_opt {t : State} {x_pwr x_opt} (hm : K &&& 0x20020000 = 0) (h : Kept K s0 M t) :
    Kept K s0 M { t with pwr := x_pwr, opt := x_opt } :=
  h.up hm (fun c hc => by cases c <;> first | rfl | exact absurd hc (by decide)) h.2
theorem Kept.mk_pwr_opt {t : State} {x_pwr x_opt} (hm : K &&& 0x20020000 = 0) :
    Kept K s0 M { t with pwr := x_pwr, opt := x_opt } ↔ Kept K s0 M t :=
  ⟨fun h => Kept.up (W := 0x20020000) hm h (fun c hc => by cases c <;> first | rfl | exact absurd hc (by decide)) h.2, fun h => h.up_pwr_opt hm⟩
theorem Kept.up_now_sta_tim {t : State} {x_now x_sta x_tim} (hm : K &&& 0x40000c00 = 0) (h : Kept K s0 M t) :
    Kept K s0 M { t with now := x_now, sta := x_sta, tim := x_tim } :=
  h.up hm (fun c hc => by cases c <;> first | rfl | exact absurd hc (by decide)) h.2
theorem Kept.mk_now_sta_tim {t : State} {x_now x_sta x_tim} (hm : K &&& 0x40000c00 = 0) :
    Kept K s0 M { t with now := x_now, sta := x_sta, tim := x_tim } ↔ Kept K s0 M t :=
  ⟨fun h => Kept.up (W := 0x40000c00) hm h (fun c hc => by cases c <;> first | rfl | exact absurd hc (by decide)) h.2, fun h => h.up_now_sta_tim hm⟩
theorem Kept.up_cfg_lat {t : State} {x_cfg x_lat} (hm : K &&& 0x100800000 = 0) (h : Kept K s0 M t) :
    Kept K s0 M { t with cfg := x_cfg, lat := x_lat } :=
  h.up hm (fun c hc => by cases c <;> first | rfl | exact absurd hc (by decide)) h.2
theorem Kept.mk_cfg_lat {t : State} {x_cfg x_lat} (hm : K &&& 0x100800000 = 0) :
    Kept K s0 M { t with cfg := x_cfg, lat := x_lat } ↔ Kept K s0 M t :=
  ⟨fun h => Kept.up (W := 0x100800000) hm h (fun c hc => by cases c <;> first | rfl | exact absurd hc (by decide)) h.2, fun h => h.up_cfg_lat hm⟩
theorem Kept.up_fab_bays_fac {t : State} {x_fab x_bays x_fac} (hm : K &&& 0x580000 = 0) (h : Kept K s0 M t) :
    Kept K s0 M { t with fab := x_fab, bays := x_bays, fac := x_fac } :=
  h.up hm (fun c hc => by cases c <;> first | rfl | exact absurd hc (by decide)) h.2
theorem Kept.mk_fab_bays_fac {t : State} {x_fab x_bays x_fac} (hm : K &&& 0x580000 = 0) :
    Kept K s0 M { t with fab := x_fab, bays := x_bays, fac := x_fac } ↔ Kept K s0 M t :=
  ⟨fun h => Kept.up (W := 0x580000) hm h (fun c hc => by cases c <;> first | rfl | exact absurd hc (by decide)) h.2, fun h => h.up_fab_bays_fac hm⟩
theorem Kept.up_lanes_se_prot {t : State} {x_lanes x_se x_prot} (hm : K &&& 0xe000000 = 0) (h : Kept K s0 M t) :
    Kept K s0 M { t with lanes := x_lanes, se := x_se, prot := x_prot } :=
  h.up hm (fun c hc => by cases c <;> first | rfl | exact absurd hc (by decide)) h.2
theorem Kept.mk_lanes_se_prot {t : State} {x_lanes x_se x_prot} (hm : K &&& 0xe000000 = 0) :
    Kept K s0 M { t with lanes := x_lanes, se := x_se, prot := x_prot } ↔ Kept K s0 M t :=
  ⟨fun h => Kept.up (W := 0xe000000) hm h (fun c hc => by cases c <;> first | rfl | exact absurd hc (by decide)) h.2, fun h => h.up_lanes_se_prot hm⟩
theorem Kept.up_latches_hq_fac_cfg_ring_opt_tim_clk_lat {t : State} {x_latches x_hq x_fac x_cfg x_ring x_opt x_tim x_clk x_lat} (hm : K &&& 0x1f0c0c000 = 0) (h : Kept K s0 M t) :
    Kept K s0 M { t with latches := x_latches, hq := x_hq, fac := x_fac, cfg := x_cfg, ring := x_ring, opt := x_opt, tim := x_tim, clk := x_clk, lat := x_lat } :=
  h.up hm (fun c hc => by cases c <;> first | rfl | exact absurd hc (by decide)) h.2
theorem Kept.mk_latches_hq_fac_cfg_ring_opt_tim_clk_lat {t : State} {x_latches x_hq x_fac x_cfg x_ring x_opt x_tim x_clk x_lat} (hm : K &&& 0x1f0c0c000 = 0) :
    Kept K s0 M { t with latches := x_latches, hq := x_hq, fac := x_fac, cfg := x_cfg, ring := x_ring, opt := x_opt, tim := x_tim, clk := x_clk, lat := x_lat } ↔ Kept K s0 M t :=
  ⟨fun h => Kept.up (W := 0x1f0c0c000) hm h (fun c hc => by cases c <;> first | rfl | exact absurd hc (by decide)) h.2, fun h => h.up_latches_hq_fac_cfg_ring_opt_tim_clk_lat hm⟩

end Sys2Proof.Machine
end

