-- ==== Sys2Proof/Laws/KeptOps.lean ====
section
/-! SUPPORT. The operations of Sys2Proof/Machine/Ops.lean leave alone what `Kept` names. -/
namespace Sys2Proof.Machine
set_option linter.unusedSimpArgs false
set_option linter.unusedVariables false
variable {kK : Nat} {k0 : State} {kM : List Host.Cell → Prop}

theorem State.setF_kept {s : State} {base} {f} {v} (hm : kK &&& 0x2 = 0)  (hk : Kept kK k0 kM s) :
    Kept kK k0 kM (State.setF s base f v) := by
  unfold State.setF
  repeat' first | with_reducible assumption | simp only [Kept.mk_regs (wOff hm rfl)] | dsimp only | split

theorem State.raise_kept {s : State} {base} {f} (hm : kK &&& 0x2 = 0)  (hk : Kept kK k0 kM s) :
    Kept kK k0 kM (State.raise s base f) := by
  unfold State.raise
  repeat' first | with_reducible assumption | with_reducible apply State.setF_kept (wOff hm rfl) | dsimp only | split

theorem State.lower_kept {s : State} {base} {f} (hm : kK &&& 0x2 = 0)  (hk : Kept kK k0 kM s) :
    Kept kK k0 kM (State.lower s base f) := by
  unfold State.lower
  repeat' first | with_reducible assumption | with_reducible apply State.setF_kept (wOff hm rfl) | dsimp only | split

theorem State.setB_kept {s : State} {base} {f} {b} (hm : kK &&& 0x2 = 0)  (hk : Kept kK k0 kM s) :
    Kept kK k0 kM (State.setB s base f b) := by
  unfold State.setB
  repeat' first | with_reducible assumption | with_reducible apply State.setF_kept (wOff hm rfl) | dsimp only | split

theorem State.setT_kept {s : State} {base} {f0} {f1} {f2} {t} (hm : kK &&& 0x2 = 0)  (hk : Kept kK k0 kM s) :
    Kept kK k0 kM (State.setT s base f0 f1 f2 t) := by
  unfold State.setT
  repeat' first | with_reducible assumption | with_reducible apply State.setF_kept (wOff hm rfl) | dsimp only | split

theorem State.clearRegs_kept {s : State} {lo} {hi} (hm : kK &&& 0x2 = 0)  (hk : Kept kK k0 kM s) :
    Kept kK k0 kM (State.clearRegs s lo hi) := by
  unfold State.clearRegs
  repeat' first | with_reducible assumption | simp only [Kept.mk_regs (wOff hm rfl)] | dsimp only | split

theorem State.emit_kept {s : State} {o} (hm : kK &&& 0x200 = 0)  (hk : Kept kK k0 kM s) :
    Kept kK k0 kM (State.emit s o) := by
  unfold State.emit
  repeat' first | with_reducible assumption | simp only [Kept.mk_out (wOff hm rfl)] | dsimp only | split

theorem State.freeVal_kept {s : State} (hm : kK &&& 0x1000 = 0)  (hk : Kept kK k0 kM s) :
    Kept kK k0 kM (State.freeVal s).2 := by
  unfold State.freeVal
  repeat' first | with_reducible assumption | simp only [Kept.mk_fresh (wOff hm rfl)] | dsimp only | split

theorem State.bump_kept {s : State} {a} {n} (hm : kK &&& 0x4 = 0)  (hk : Kept kK k0 kM s) :
    Kept kK k0 kM (State.bump s a n) := by
  unfold State.bump
  repeat' first | with_reducible assumption | simp only [Kept.mk_ctrs (wOff hm rfl)] | dsimp only | split

theorem State.dbgCount_kept {s : State} {f} {n} (hm : kK &&& 0x6 = 0)  (hk : Kept kK k0 kM s) :
    Kept kK k0 kM (State.dbgCount s f n) := by
  unfold State.dbgCount
  repeat' first | with_reducible assumption | with_reducible apply State.raise_kept (wOff hm rfl) | with_reducible apply State.bump_kept (wOff hm rfl) | with_reducible apply Kept.ite | dsimp only | split

theorem State.tracePacket_kept {s : State} {t} {src} {aux} {w1} {trig} (hm : kK &&& 0x400000006 = 0)  (hk : Kept kK k0 kM s) :
    Kept kK k0 kM (State.tracePacket s t src aux w1 trig) := by
  unfold State.tracePacket
  repeat' first | with_reducible assumption | with_reducible apply State.dbgCount_kept (wOff hm rfl) | with_reducible apply Kept.ite | simp only [Kept.mk_dbg (wOff hm rfl)] | dsimp only | split

theorem State.stopAfter_kept {s : State} {n} (hm : kK &&& 0x400000000 = 0)  (hk : Kept kK k0 kM s) :
    Kept kK k0 kM (State.stopAfter s n) := by
  unfold State.stopAfter
  repeat' first | with_reducible assumption | with_reducible apply Kept.ite | simp only [Kept.mk_dbg (wOff hm rfl)] | dsimp only | split

theorem State.traceFrom_kept {s : State} {kind} {src} {emits} {t} {aux} {w1} (hm : kK &&& 0x400000006 = 0)  (hk : Kept kK k0 kM s) :
    Kept kK k0 kM (State.traceFrom s kind src emits t aux w1) := by
  unfold State.traceFrom
  repeat' first | with_reducible assumption | with_reducible apply State.raise_kept (wOff hm rfl) | with_reducible apply State.tracePacket_kept (wOff hm rfl) | with_reducible apply State.stopAfter_kept (wOff hm rfl) | with_reducible apply Kept.ite | dsimp only | split

theorem State.traceEvent_kept {s : State} {src} (hm : kK &&& 0x400000006 = 0)  (hk : Kept kK k0 kM s) :
    Kept kK k0 kM (State.traceEvent s src) := by
  unfold State.traceEvent
  repeat' first | with_reducible assumption | with_reducible apply State.traceFrom_kept (wOff hm rfl) | with_reducible apply Kept.ite | dsimp only | split

theorem State.traceAction_kept {s : State} {o} (hm : kK &&& 0x400000006 = 0)  (hk : Kept kK k0 kM s) :
    Kept kK k0 kM (State.traceAction s o) := by
  unfold State.traceAction
  repeat' first | with_reducible assumption | with_reducible apply State.tracePacket_kept (wOff hm rfl) | with_reducible apply Kept.ite | dsimp only | split

theorem State.signal_kept {s : State} {src} (hm : kK &&& 0x400000006 = 0)  (hk : Kept kK k0 kM s) :
    Kept kK k0 kM (State.signal s src) := by
  unfold State.signal
  repeat' first | with_reducible assumption | with_reducible apply State.setF_kept (wOff hm rfl) | with_reducible apply State.traceEvent_kept (wOff hm rfl) | with_reducible apply Kept.ite | dsimp only | split

theorem State.mark_kept {s : State} {base} {f} {src} (hm : kK &&& 0x400000006 = 0)  (hk : Kept kK k0 kM s) :
    Kept kK k0 kM (State.mark s base f src) := by
  unfold State.mark
  repeat' first | with_reducible assumption | with_reducible apply State.raise_kept (wOff hm rfl) | with_reducible apply State.signal_kept (wOff hm rfl) | dsimp only | split

theorem State.settleVectors_kept {s : State} (hm : kK &&& 0x10000 = 0)  (hk : Kept kK k0 kM s) :
    Kept kK k0 kM (State.settleVectors s) := by
  unfold State.settleVectors
  repeat' first | with_reducible assumption | with_reducible apply Kept.ite | with_reducible refine Kept.foldl ?_ (fun _ _ _ => ?_) | with_reducible refine Kept.foldlIn Prod.snd ?_ (fun _ _ _ => ?_) | with_reducible refine Kept.foldlIn (fun p => p.2.2) ?_ (fun _ _ _ => ?_) | simp only [Kept.mk_evc (wOff hm rfl)] | dsimp only | split

theorem State.sendVector_kept {s : State} {v} (hm : kK &&& 0x10200 = 0)  (hk : Kept kK k0 kM s) :
    Kept kK k0 kM (State.sendVector s v) := by
  unfold State.sendVector
  repeat' first | with_reducible assumption | with_reducible apply Kept.ite | simp only [Kept.mk_out_evc (wOff hm rfl)] | dsimp only | split

theorem State.count_kept {s : State} {base} {f} {n} {rbase} {r} {src} (hm : kK &&& 0x400000006 = 0)  (hk : Kept kK k0 kM s) :
    Kept kK k0 kM (State.count s base f n rbase r src) := by
  unfold State.count
  repeat' first | with_reducible assumption | with_reducible apply State.bump_kept (wOff hm rfl) | with_reducible apply State.mark_kept (wOff hm rfl) | with_reducible apply Kept.ite | dsimp only | split

theorem State.snapWindow_kept {s : State} {base} {clear} (hm : kK &&& 0xc = 0)  (hk : Kept kK k0 kM s) :
    Kept kK k0 kM (State.snapWindow s base clear) := by
  unfold State.snapWindow
  repeat' first | with_reducible assumption | with_reducible apply Kept.ite | simp only [Kept.mk_ctrs_snaps (wOff hm rfl)] | dsimp only | split

theorem State.clearCounters_kept {s : State} {lo} {hi} (hm : kK &&& 0xc = 0)  (hk : Kept kK k0 kM s) :
    Kept kK k0 kM (State.clearCounters s lo hi) := by
  unfold State.clearCounters
  repeat' first | with_reducible assumption | simp only [Kept.mk_ctrs_snaps (wOff hm rfl)] | dsimp only | split

theorem State.setCueX_kept {s : State} {n} {x} (hm : kK &&& 0x200000000 = 0)  (hk : Kept kK k0 kM s) :
    Kept kK k0 kM (State.setCueX s n x) := by
  unfold State.setCueX
  repeat' first | with_reducible assumption | simp only [Kept.mk_cue (wOff hm rfl)] | dsimp only | split

theorem State.clearResv_kept {s : State} {a} {n} (hm : kK &&& 0x200000000 = 0)  (hk : Kept kK k0 kM s) :
    Kept kK k0 kM (State.clearResv s a n) := by
  unfold State.clearResv
  repeat' first | with_reducible assumption | with_reducible apply State.setCueX_kept (wOff hm rfl) | with_reducible apply Kept.ite | with_reducible refine Kept.foldl ?_ (fun _ _ _ => ?_) | with_reducible refine Kept.foldlIn Prod.snd ?_ (fun _ _ _ => ?_) | with_reducible refine Kept.foldlIn (fun p => p.2.2) ?_ (fun _ _ _ => ?_) | dsimp only | split

theorem State.store_kept {s : State} {a} {bs} (hm : kK &&& 0x200000010 = 0) (hM : Closed kM)  (hk : Kept kK k0 kM s) :
    Kept kK k0 kM (State.store s a bs) := by
  have h1 : ∀ (l : List Byte) (m : List Host.Cell) (k : Nat), kM m → kM (SMap.putAll 0 m k l) := by
    intro l
    induction l with
    | nil => exact fun _ _ hm => hm
    | cons v l ih => exact fun m k hm => ih _ _ (hM.put m k v hm)
  exact State.clearResv_kept (wOff hm rfl) (Kept.up_mem (wOff hm rfl) hk (h1 _ _ _ hk.2))

theorem State.storeBy_kept {s : State} {m} {a} {bs} (hm : kK &&& 0x200000010 = 0) (hM : Closed kM)  (hk : Kept kK k0 kM s) :
    Kept kK k0 kM (State.storeBy s m a bs) := by
  unfold State.storeBy
  repeat' first | with_reducible assumption | with_reducible apply State.setCueX_kept (wOff hm rfl) | with_reducible apply State.store_kept (wOff hm rfl) hM | dsimp only | split

theorem State.zero_kept {s : State} {a} {n} (hm : kK &&& 0x10 = 0) (hM : Closed kM)  (hk : Kept kK k0 kM s) :
    Kept kK k0 kM (State.zero s a n) := by
  exact Kept.up_mem (wOff hm rfl) hk (hM.filter _ _ hk.2)

theorem State.hostStore_kept {s : State} {a} {bs} (hm : kK &&& 0x20 = 0)  (hk : Kept kK k0 kM s) :
    Kept kK k0 kM (State.hostStore s a bs) := by
  unfold State.hostStore
  repeat' first | with_reducible assumption | simp only [Kept.mk_host (wOff hm rfl)] | dsimp only | split

theorem State.setDom_kept {s : State} {d} {v} (hm : kK &&& 0x20000 = 0)  (hk : Kept kK k0 kM s) :
    Kept kK k0 kM (State.setDom s d v) := by
  unfold State.setDom
  repeat' first | with_reducible assumption | simp only [Kept.mk_pwr (wOff hm rfl)] | dsimp only | split

theorem State.reachDom_kept {s : State} {d} {v} (hm : kK &&& 0x20000 = 0)  (hk : Kept kK k0 kM s) :
    Kept kK k0 kM (State.reachDom s d v) := by
  unfold State.reachDom
  repeat' first | with_reducible assumption | simp only [Kept.mk_pwr (wOff hm rfl)] | dsimp only | split

theorem State.journal_kept {s : State} {code} {permanent} {target} {d0} {d1} {d2} (hm : kK &&& 0x400040006 = 0)  (hk : Kept kK k0 kM s) :
    Kept kK k0 kM (State.journal s code permanent target d0 d1 d2) := by
  unfold State.journal
  repeat' first | with_reducible assumption | with_reducible apply State.raise_kept (wOff hm rfl) | with_reducible apply State.bump_kept (wOff hm rfl) | with_reducible apply State.signal_kept (wOff hm rfl) | with_reducible apply State.mark_kept (wOff hm rfl) | with_reducible apply Kept.ite | simp only [Kept.mk_jrnl (wOff hm rfl)] | dsimp only | split

theorem State.charge_kept {s : State} {channel} (hm : kK &&& 0x40000 = 0)  (hk : Kept kK k0 kM s) :
    Kept kK k0 kM (State.charge s channel).2 := by
  unfold State.charge
  repeat' first | with_reducible assumption | simp only [Kept.mk_jrnl (wOff hm rfl)] | dsimp only | split

theorem State.uncharge_kept {s : State} {channel} (hm : kK &&& 0x40000 = 0)  (hk : Kept kK k0 kM s) :
    Kept kK k0 kM (State.uncharge s channel) := by
  unfold State.uncharge
  repeat' first | with_reducible assumption | simp only [Kept.mk_jrnl (wOff hm rfl)] | dsimp only | split

theorem State.busError_kept {s : State} {m} {write} {addr} {c} (hm : kK &&& 0x202 = 0)  (hk : Kept kK k0 kM s) :
    Kept kK k0 kM (State.busError s m write addr c) := by
  unfold State.busError
  repeat' first | with_reducible assumption | with_reducible apply State.raise_kept (wOff hm rfl) | with_reducible apply State.emit_kept (wOff hm rfl) | dsimp only | split

theorem State.setQ_kept {s : State} {q} {v} (hm : kK &&& 0x8000 = 0)  (hk : Kept kK k0 kM s) :
    Kept kK k0 kM (State.setQ s q v) := by
  unfold State.setQ
  repeat' first | with_reducible assumption | simp only [Kept.mk_hq (wOff hm rfl)] | dsimp only | split

theorem State.dropOp_kept {s : State} {src} {tag} (hm : kK &&& 0x8000 = 0)  (hk : Kept kK k0 kM s) :
    Kept kK k0 kM (State.dropOp s src tag) := by
  unfold State.dropOp
  repeat' first | with_reducible assumption | simp only [Kept.mk_hq (wOff hm rfl)] | dsimp only | split

theorem State.putOp_kept {s : State} {o} (hm : kK &&& 0x400008006 = 0)  (hk : Kept kK k0 kM s) :
    Kept kK k0 kM (State.putOp s o) := by
  unfold State.putOp
  repeat' first | with_reducible assumption | with_reducible apply State.traceAction_kept (wOff hm rfl) | with_reducible apply Kept.ite | simp only [Kept.mk_hq (wOff hm rfl)] | dsimp only | split

theorem State.pushReply_kept {s : State} {r} (hm : kK &&& 0x8000 = 0)  (hk : Kept kK k0 kM s) :
    Kept kK k0 kM (State.pushReply s r) := by
  unfold State.pushReply
  repeat' first | with_reducible assumption | simp only [Kept.mk_hq (wOff hm rfl)] | dsimp only | split

theorem State.settle_kept {s : State} {src} (hm : kK &&& 0x8000 = 0)  (hk : Kept kK k0 kM s) :
    Kept kK k0 kM (State.settle s src) := by
  unfold State.settle
  repeat' first | with_reducible assumption | with_reducible refine Kept.foldl ?_ (fun _ _ _ => ?_) | with_reducible refine Kept.foldlIn Prod.snd ?_ (fun _ _ _ => ?_) | with_reducible refine Kept.foldlIn (fun p => p.2.2) ?_ (fun _ _ _ => ?_) | simp only [Kept.mk_hq (wOff hm rfl)] | dsimp only | split

theorem State.take_kept {s : State} {op} {c} (hm : kK &&& 0x8000 = 0)  (hk : Kept kK k0 kM s) :
    Kept kK k0 kM (State.take s op c) := by
  unfold State.take
  repeat' first | with_reducible assumption | with_reducible apply State.settle_kept (wOff hm rfl) | simp only [Kept.mk_hq (wOff hm rfl)] | dsimp only | split

theorem State.answer_kept {s : State} {op} {c} {st} {results} (hm : kK &&& 0x8000 = 0)  (hk : Kept kK k0 kM s) :
    Kept kK k0 kM (State.answer s op c st results) := by
  unfold State.answer
  repeat' first | with_reducible assumption | with_reducible apply State.pushReply_kept (wOff hm rfl) | dsimp only | split

theorem State.accept_kept {s : State} {op} {c} {instant} (hm : kK &&& 0x8000 = 0)  (hk : Kept kK k0 kM s) :
    Kept kK k0 kM (State.accept s op c instant) := by
  unfold State.accept
  repeat' first | with_reducible assumption | with_reducible apply State.answer_kept (wOff hm rfl) | simp only [Kept.mk_hq (wOff hm rfl)] | dsimp only | split

theorem State.complete_kept {s : State} {o} {st} {results} (hm : kK &&& 0x400008006 = 0)  (hk : Kept kK k0 kM s) :
    Kept kK k0 kM (State.complete s o st results) := by
  unfold State.complete
  repeat' first | with_reducible assumption | with_reducible apply State.traceAction_kept (wOff hm rfl) | with_reducible apply State.dropOp_kept (wOff hm rfl) | with_reducible apply State.pushReply_kept (wOff hm rfl) | with_reducible apply Kept.ite | dsimp only | split

theorem State.completeOf_kept {s : State} {src} {tag} {st} {results} (hm : kK &&& 0x400008006 = 0)  (hk : Kept kK k0 kM s) :
    Kept kK k0 kM (State.completeOf s src tag st results) := by
  unfold State.completeOf
  repeat' first | with_reducible assumption | with_reducible apply State.complete_kept (wOff hm rfl) | dsimp only | split

/-- What the gate does not answer because of the retries (R107) leaves the dropped write unrecorded. -/
theorem State.noteDropped_eq {s : State} {op : Nat} {c : Cmd} {k : Chk} {st : Status} (hr : s.retriesFail op c = false) :
    s.noteDropped op c k st = s := by
  have hb : s.blockedBy op c = [] := by simpa [State.retriesFail] using hr
  simp [State.noteDropped, hb]

/-- A check of the target that fails answers BAD_TARGET or what stands above it, never BUSY (R108). -/
theorem State.gate_badTarget {s : State} {op : Nat} {c : Cmd} {k : Chk} {st : Status} (hg : s.gate op c k = some st) (ht : k.tgt = false) :
    st ≠ .busy := by
  unfold State.gate at hg
  rw [ht] at hg
  repeat' split at hg
  all_goals first | (cases hg; decide) | simp_all

/-- R107 concerns only commands that write the block they name, or the blocks that SNAP, SET_POWER, CFG_APPLY, MERGE_SET, EDGE_RETRAIN and the two channel
commands name. -/
theorem State.retriesFail_silent {s : State} {op : Nat} {c : Cmd}
    (h : (op != 0x601 && op != 0x103 && op != 0x202 && op != 0xA02 && op != 0xA03 && op != 0xA04 && op != 0x504 && !stewardWrites op) = true) : s.retriesFail op c = false := by
  simp only [Bool.and_eq_true, bne_iff_ne, Bool.not_eq_true'] at h
  obtain ⟨⟨⟨⟨⟨⟨⟨h1, h2⟩, h3⟩, h4⟩, h5⟩, h6⟩, h8⟩, h7⟩ := h
  simp [State.retriesFail, State.blockedBy, cmdBlocks, h1, h2, h3, h4, h5, h6, h7, h8]

/-- No block of die C holds a posted write (R59). -/
theorem State.retriesFail_dieC {s : State} {op : Nat} {c : Cmd} (h : c.die = 0) 
    (ho : (op != 0x601 && op != 0x103 && op != 0x202 && op != 0xA02 && op != 0xA03 && op != 0xA04 && op != 0x504) = true) :
    s.retriesFail op c = false := by
  simp only [Bool.and_eq_true, bne_iff_ne] at ho
  obtain ⟨⟨⟨⟨⟨⟨h1, h2⟩, h3⟩, h4⟩, h5⟩, h6⟩, h8⟩ := ho
  simp [State.retriesFail, State.blockedBy, cmdBlocks, h, h1, h2, h3, h4, h5, h6, h8]

theorem Cmd.aims_dieC {c : Cmd} {b i : Nat} (h : c.aims 0 b i = true) : c.die = 0 := by
  simp only [Cmd.aims, Bool.and_eq_true, beq_iff_eq] at h
  exact h.1.1

theorem State.noteDropped_kept {s : State} {op} {c} {k} {st} (hm : kK &&& 0x2 = 0)  (hk : Kept kK k0 kM s) :
    Kept kK k0 kM (State.noteDropped s op c k st) := by
  unfold State.noteDropped
  repeat' first | with_reducible assumption | with_reducible apply State.raise_kept (wOff hm rfl) | with_reducible apply Kept.ite | with_reducible refine Kept.foldl ?_ (fun _ _ _ => ?_) | with_reducible refine Kept.foldlIn Prod.snd ?_ (fun _ _ _ => ?_) | with_reducible refine Kept.foldlIn (fun p => p.2.2) ?_ (fun _ _ _ => ?_) | dsimp only | split

theorem State.answerRefused_kept {s : State} {op} {c} {k} (hm : kK &&& 0x8000 = 0)  (hk : Kept kK k0 kM s) :
    Kept kK k0 kM (State.answerRefused s op c k) := by
  unfold State.answerRefused
  repeat' first | with_reducible assumption | with_reducible apply State.answer_kept (wOff hm rfl) | with_reducible apply State.take_kept (wOff hm rfl) | dsimp only | split

theorem State.immediateThen_kept {s : State} {op} {c} {k} {run : State → State × List Word} {after : State → State} (hm : kK &&& 0x8002 = 0) (hf0 : ∀ u, Kept kK k0 kM u → Kept kK k0 kM (run u).1) (hf1 : ∀ u, Kept kK k0 kM u → Kept kK k0 kM (after u)) (hk : Kept kK k0 kM s) :
    Kept kK k0 kM (State.immediateThen s op c k run after) := by
  unfold State.immediateThen
  repeat' first | with_reducible assumption | with_reducible apply hf0 | with_reducible apply hf1 | with_reducible apply State.take_kept (wOff hm rfl) | with_reducible apply State.answer_kept (wOff hm rfl) | with_reducible apply State.noteDropped_kept (wOff hm rfl) | with_reducible apply State.answerRefused_kept (wOff hm rfl) | with_reducible apply Kept.ite | dsimp only | split

theorem State.immediate_kept {s : State} {op} {c} {k} {run : State → State × List Word} (hm : kK &&& 0x8002 = 0) (hf0 : ∀ u, Kept kK k0 kM u → Kept kK k0 kM (run u).1) (hk : Kept kK k0 kM s) :
    Kept kK k0 kM (State.immediate s op c k run) := State.immediateThen_kept hm hf0 (fun _ h => h) hk

theorem State.long_kept {s : State} {op} {c} {k} {instant} {run : State → State} (hm : kK &&& 0x8002 = 0) (hf0 : ∀ u, Kept kK k0 kM u → Kept kK k0 kM (run u)) (hk : Kept kK k0 kM s) :
    Kept kK k0 kM (State.long s op c k instant run) := by
  unfold State.long
  repeat' first | with_reducible assumption | with_reducible apply hf0 | with_reducible apply State.take_kept (wOff hm rfl) | with_reducible apply State.answer_kept (wOff hm rfl) | with_reducible apply State.accept_kept (wOff hm rfl) | with_reducible apply State.noteDropped_kept (wOff hm rfl) | with_reducible apply State.answerRefused_kept (wOff hm rfl) | with_reducible apply Kept.ite | dsimp only | split

theorem State.timeRuns_kept {s : State} {ns} {d} (hm : kK &&& 0x40000c00 = 0)  (hk : Kept kK k0 kM s) :
    Kept kK k0 kM (State.timeRuns s ns d) := by
  unfold State.timeRuns
  repeat' first | with_reducible assumption | simp only [Kept.mk_now_sta_tim (wOff hm rfl)] | dsimp only | split

/-- What a failing check answers leaves the block headers alone where R107 does not apply. -/
theorem State.noteDropped_kept_quiet {s : State} {op} {c} {k} {st} (hr : k.tgt = true → s.retriesFail op c = false)
    (hg : s.gate op c k = some st) (hk : Kept kK k0 kM s) : Kept kK k0 kM (State.noteDropped s op c k st) := by
  cases ht : k.tgt with
  | true => rw [State.noteDropped_eq (hr ht)]; exact hk
  | false =>
    have := State.gate_badTarget hg ht
    simpa [State.noteDropped, this] using hk

/-- A command to which R107 does not apply records nothing in a block header. -/
theorem State.immediate_kept_quiet {s : State} {op} {c} {k} {run : State → State × List Word} (hm : kK &&& 0x8000 = 0)
    (hr : k.tgt = true → ∀ u : State, u.retriesFail op c = false)
    (hf0 : ∀ u, Kept kK k0 kM u → Kept kK k0 kM (run u).1) (hk : Kept kK k0 kM s) : Kept kK k0 kM (State.immediate s op c k run) := by
  have ht := State.take_kept (op := op) (c := c) hm hk
  unfold State.immediate State.immediateThen
  dsimp only
  split
  · exact State.answerRefused_kept hm hk
  split
  · exact hk
  split
  · rename_i hg
    exact State.answer_kept hm (State.noteDropped_kept_quiet (fun h => hr h _) hg ht)
  · exact State.answer_kept hm (hf0 _ ht)

theorem State.long_kept_quiet {s : State} {op} {c} {k} {instant} {run : State → State} (hm : kK &&& 0x8000 = 0)
    (hr : k.tgt = true → ∀ u : State, u.retriesFail op c = false)
    (hf0 : ∀ u, Kept kK k0 kM u → Kept kK k0 kM (run u)) (hk : Kept kK k0 kM s) : Kept kK k0 kM (State.long s op c k instant run) := by
  have ht := State.take_kept (op := op) (c := c) hm hk
  unfold State.long
  dsimp only
  split
  · exact State.answerRefused_kept hm hk
  split
  · exact hk
  split
  · rename_i hg
    exact State.answer_kept hm (State.noteDropped_kept_quiet (fun h => hr h _) hg ht)
  · exact hf0 _ (State.accept_kept hm ht)

theorem State.reach_kept {s : State} {t} (hm : kK &&& 0x40000c00 = 0)  (hk : Kept kK k0 kM s) :
    Kept kK k0 kM (State.reach s t) := by
  unfold State.reach
  repeat' first | with_reducible assumption | with_reducible apply State.timeRuns_kept (wOff hm rfl) | with_reducible apply Kept.ite | dsimp only | split

theorem State.reachNow_kept {s : State} {t} (hm : kK &&& 0x40000c00 = 0)  (hk : Kept kK k0 kM s) :
    Kept kK k0 kM (State.reachNow s t) := by
  unfold State.reachNow
  repeat' first | with_reducible assumption | with_reducible apply State.timeRuns_kept (wOff hm rfl) | with_reducible apply Kept.ite | dsimp only | split

theorem State.reachAt_kept {s : State} {d} {t} (hm : kK &&& 0x40000c00 = 0)  (hk : Kept kK k0 kM s) :
    Kept kK k0 kM (State.reachAt s d t) := by
  unfold State.reachAt
  repeat' first | with_reducible assumption | with_reducible apply State.reach_kept (wOff hm rfl) | dsimp only | split

theorem State.endOps_kept {s : State} {op} {word1} {st} (hm : kK &&& 0x400008006 = 0)  (hk : Kept kK k0 kM s) :
    Kept kK k0 kM (State.endOps s op word1 st) := by
  unfold State.endOps
  repeat' first | with_reducible assumption | with_reducible apply State.complete_kept (wOff hm rfl) | with_reducible refine Kept.foldl ?_ (fun _ _ _ => ?_) | with_reducible refine Kept.foldlIn Prod.snd ?_ (fun _ _ _ => ?_) | with_reducible refine Kept.foldlIn (fun p => p.2.2) ?_ (fun _ _ _ => ?_) | dsimp only | split

end Sys2Proof.Machine
end

