-- ==== Sys2Proof/Laws/KeptQueues.lean ====
section
/-! SUPPORT. The operations of Sys2Proof/Machine/Queues.lean leave alone what `Kept` names. -/
namespace Sys2Proof.Machine
set_option linter.unusedSimpArgs false
set_option linter.unusedVariables false
variable {kK : Nat} {k0 : State} {kM : List Host.Cell → Prop}

theorem State.setWrite_kept {s : State} {m} {q} {act : State → State} (hm : kK &&& 0x202 = 0) (hf0 : ∀ u, Kept kK k0 kM u → Kept kK k0 kM (act u)) (hk : Kept kK k0 kM s) :
    Kept kK k0 kM (State.setWrite s m q act) := by
  unfold State.setWrite
  repeat' first | with_reducible assumption | with_reducible apply hf0 | with_reducible apply State.busError_kept (wOff hm rfl) | with_reducible apply Kept.ite | dsimp only | split

theorem State.ringTail_kept {s : State} {q} {v} (hm : kK &&& 0x2 = 0)  (hk : Kept kK k0 kM s) :
    Kept kK k0 kM (State.ringTail s q v) := by
  unfold State.ringTail
  repeat' first | with_reducible assumption | with_reducible apply State.setF_kept (wOff hm rfl) | with_reducible apply State.raise_kept (wOff hm rfl) | with_reducible apply Kept.ite | dsimp only | split

theorem State.ringHead_kept {s : State} {q} {v} (hm : kK &&& 0x2 = 0)  (hk : Kept kK k0 kM s) :
    Kept kK k0 kM (State.ringHead s q v) := by
  unfold State.ringHead
  repeat' first | with_reducible assumption | with_reducible apply State.setF_kept (wOff hm rfl) | with_reducible apply State.raise_kept (wOff hm rfl) | with_reducible apply Kept.ite | dsimp only | split

theorem State.ringsZero_kept {s : State} {q} (hm : kK &&& 0x2 = 0)  (hk : Kept kK k0 kM s) :
    Kept kK k0 kM (State.ringsZero s q) := by
  unfold State.ringsZero
  repeat' first | with_reducible assumption | with_reducible apply State.lower_kept (wOff hm rfl) | dsimp only | split

theorem State.enableSet_kept {s : State} {q} {k} (hm : kK &&& 0x8002 = 0)  (hk : Kept kK k0 kM s) :
    Kept kK k0 kM (State.enableSet s q k) := by
  unfold State.enableSet
  repeat' first | with_reducible assumption | with_reducible apply State.setF_kept (wOff hm rfl) | with_reducible apply State.raise_kept (wOff hm rfl) | with_reducible apply State.setQ_kept (wOff hm rfl) | with_reducible apply State.ringsZero_kept (wOff hm rfl) | with_reducible apply Kept.ite | dsimp only | split

theorem State.abandonSet_kept {s : State} {q} (hm : kK &&& 0x8000 = 0)  (hk : Kept kK k0 kM s) :
    Kept kK k0 kM (State.abandonSet s q) := by
  unfold State.abandonSet
  repeat' first | with_reducible assumption | simp only [Kept.mk_hq (wOff hm rfl)] | dsimp only | split

theorem State.disableSet_kept {s : State} {q} {k} (hm : kK &&& 0x8002 = 0)  (hk : Kept kK k0 kM s) :
    Kept kK k0 kM (State.disableSet s q k) := by
  unfold State.disableSet
  repeat' first | with_reducible assumption | with_reducible apply State.setF_kept (wOff hm rfl) | with_reducible apply State.lower_kept (wOff hm rfl) | with_reducible apply State.setQ_kept (wOff hm rfl) | with_reducible apply State.ringsZero_kept (wOff hm rfl) | with_reducible apply State.abandonSet_kept (wOff hm rfl) | dsimp only | split

theorem State.ringFail_kept {s : State} {q} (hm : kK &&& 0x400008006 = 0)  (hk : Kept kK k0 kM s) :
    Kept kK k0 kM (State.ringFail s q) := by
  unfold State.ringFail
  repeat' first | with_reducible assumption | with_reducible apply State.mark_kept (wOff hm rfl) | with_reducible apply State.setQ_kept (wOff hm rfl) | dsimp only | split

theorem State.ringStore_kept {s : State} {q} {reply} {slot} {ws} (hm : kK &&& 0x200000030 = 0) (hM : Closed kM)  (hk : Kept kK k0 kM s) :
    Kept kK k0 kM (State.ringStore s q reply slot ws) := by
  unfold State.ringStore
  repeat' first | with_reducible assumption | with_reducible apply State.store_kept (wOff hm rfl) hM | with_reducible apply State.hostStore_kept (wOff hm rfl) | with_reducible apply Kept.ite | dsimp only | split

theorem State.received_kept {s : State} {src} {ws} (hm : kK &&& 0x8000 = 0)  (hk : Kept kK k0 kM s) :
    Kept kK k0 kM (State.received s src ws) := by
  unfold State.received
  repeat' first | with_reducible assumption | with_reducible apply State.settle_kept (wOff hm rfl) | simp only [Kept.mk_hq (wOff hm rfl)] | dsimp only | split

theorem State.busDead_kept {s : State} {m} {write} {addr} (hm : kK &&& 0x202 = 0)  (hk : Kept kK k0 kM s) :
    Kept kK k0 kM (State.busDead s m write addr) := by
  unfold State.busDead
  repeat' first | with_reducible assumption | with_reducible apply State.busError_kept (wOff hm rfl) | with_reducible apply Kept.ite | dsimp only | split

theorem State.setOwn_kept {s : State} {m} {q} {r} {act : State → State} (hm : kK &&& 0x202 = 0) (hf0 : ∀ u, Kept kK k0 kM u → Kept kK k0 kM (act u)) (hk : Kept kK k0 kM s) :
    Kept kK k0 kM (State.setOwn s m q r act) := by
  unfold State.setOwn
  repeat' first | with_reducible assumption | with_reducible apply hf0 | with_reducible apply State.busError_kept (wOff hm rfl) | with_reducible apply State.setWrite_kept (wOff hm rfl) | with_reducible apply State.busDead_kept (wOff hm rfl) | with_reducible apply Kept.ite | (intro u hu) | simp only [id] | dsimp only | split

theorem execDoorbell_kept {m} {q} {v} {s : State} (hm : kK &&& 0x202 = 0)  (hk : Kept kK k0 kM s) :
    KeptR kK k0 kM (execDoorbell m q v s) := by
  unfold execDoorbell
  repeat' first | with_reducible assumption | with_reducible apply State.ringTail_kept (wOff hm rfl) | with_reducible apply State.setOwn_kept (wOff hm rfl) | with_reducible apply KeptR.next | (intro u hu) | simp only [id] | dsimp only | split

theorem execHqRqHeadWrite_kept {m} {q} {v} {s : State} (hm : kK &&& 0x202 = 0)  (hk : Kept kK k0 kM s) :
    KeptR kK k0 kM (execHqRqHeadWrite m q v s) := by
  unfold execHqRqHeadWrite
  repeat' first | with_reducible assumption | with_reducible apply State.ringHead_kept (wOff hm rfl) | with_reducible apply State.setOwn_kept (wOff hm rfl) | with_reducible apply KeptR.next | (intro u hu) | simp only [id] | dsimp only | split

theorem execHqQEnable_kept {m} {q} {k} {s : State} (hm : kK &&& 0x8202 = 0)  (hk : Kept kK k0 kM s) :
    KeptR kK k0 kM (execHqQEnable m q k s) := by
  unfold execHqQEnable
  repeat' first | with_reducible assumption | with_reducible apply State.enableSet_kept (wOff hm rfl) | with_reducible apply State.setOwn_kept (wOff hm rfl) | with_reducible apply KeptR.next | (intro u hu) | simp only [id] | dsimp only | split

theorem execHqQDisable_kept {m} {q} {k} {s : State} (hm : kK &&& 0x8202 = 0)  (hk : Kept kK k0 kM s) :
    KeptR kK k0 kM (execHqQDisable m q k s) := by
  unfold execHqQDisable
  repeat' first | with_reducible assumption | with_reducible apply State.disableSet_kept (wOff hm rfl) | with_reducible apply State.setOwn_kept (wOff hm rfl) | with_reducible apply KeptR.next | (intro u hu) | simp only [id] | dsimp only | split

theorem execCommandFetch_kept {q} {s : State} (hm : kK &&& 0x400008006 = 0)  (hk : Kept kK k0 kM s) :
    KeptR kK k0 kM (execCommandFetch q s) := by
  unfold execCommandFetch
  repeat' first | with_reducible assumption | with_reducible apply State.setF_kept (wOff hm rfl) | with_reducible apply State.signal_kept (wOff hm rfl) | with_reducible apply State.ringFail_kept (wOff hm rfl) | with_reducible apply State.received_kept (wOff hm rfl) | with_reducible apply Kept.ite | with_reducible apply KeptR.next | dsimp only | split

theorem State.spiStore_kept {s : State} {ws} (hm : kK &&& 0x2 = 0)  (hk : Kept kK k0 kM s) :
    Kept kK k0 kM (State.spiStore s ws) := by
  unfold State.spiStore
  repeat' first | with_reducible assumption | with_reducible apply State.setF_kept (wOff hm rfl) | with_reducible refine Kept.foldl ?_ (fun _ _ _ => ?_) | with_reducible refine Kept.foldlIn Prod.snd ?_ (fun _ _ _ => ?_) | with_reducible refine Kept.foldlIn (fun p => p.2.2) ?_ (fun _ _ _ => ?_) | dsimp only | split

theorem State.countReply_kept {s : State} {i} (hm : kK &&& 0x8000 = 0)  (hk : Kept kK k0 kM s) :
    Kept kK k0 kM (State.countReply s i) := by
  unfold State.countReply
  repeat' first | with_reducible assumption | with_reducible apply State.setQ_kept (wOff hm rfl) | dsimp only | split

theorem State.warmDue_kept {s : State} {r} (hm : kK &&& 0x20000 = 0)  (hk : Kept kK k0 kM s) :
    Kept kK k0 kM (State.warmDue s r) := by
  unfold State.warmDue
  repeat' first | with_reducible assumption | with_reducible apply Kept.ite | simp only [Kept.mk_pwr (wOff hm rfl)] | dsimp only | split

theorem State.latTake_kept {s : State} {src} (hm : kK &&& 0x500000006 = 0)  (hk : Kept kK k0 kM s) :
    Kept kK k0 kM (State.latTake s src) := by
  unfold State.latTake
  repeat' first | with_reducible assumption | with_reducible apply State.signal_kept (wOff hm rfl) | with_reducible apply Kept.ite | simp only [Kept.mk_lat (wOff hm rfl)] | dsimp only | split

theorem State.replySent_kept {s : State} {r} (hm : kK &&& 0x500020006 = 0)  (hk : Kept kK k0 kM s) :
    Kept kK k0 kM (State.replySent s r) := by
  unfold State.replySent
  repeat' first | with_reducible assumption | with_reducible apply State.warmDue_kept (wOff hm rfl) | with_reducible apply State.latTake_kept (wOff hm rfl) | with_reducible apply Kept.ite | dsimp only | split

theorem State.writeReply_kept {s : State} {r} (hm : kK &&& 0x700028236 = 0) (hM : Closed kM)  (hk : Kept kK k0 kM s) :
    Kept kK k0 kM (State.writeReply s r) := by
  unfold State.writeReply
  repeat' first | with_reducible assumption | with_reducible apply State.setF_kept (wOff hm rfl) | with_reducible apply State.emit_kept (wOff hm rfl) | with_reducible apply State.signal_kept (wOff hm rfl) | with_reducible apply State.ringFail_kept (wOff hm rfl) | with_reducible apply State.ringStore_kept (wOff hm rfl) hM | with_reducible apply State.spiStore_kept (wOff hm rfl) | with_reducible apply State.countReply_kept (wOff hm rfl) | with_reducible apply State.replySent_kept (wOff hm rfl) | with_reducible apply Kept.ite | simp only [Kept.mk_hq (wOff hm rfl)] | dsimp only | split

theorem execReplyWrite_kept {src} {s : State} (hm : kK &&& 0x700028236 = 0) (hM : Closed kM)  (hk : Kept kK k0 kM s) :
    KeptR kK k0 kM (execReplyWrite src s) := by
  unfold execReplyWrite
  repeat' first | with_reducible assumption | with_reducible apply State.settle_kept (wOff hm rfl) | with_reducible apply State.writeReply_kept (wOff hm rfl) hM | with_reducible apply Kept.ite | with_reducible apply KeptR.next | dsimp only | split

theorem State.spiSubmit_kept {s : State} (hm : kK &&& 0x8000 = 0)  (hk : Kept kK k0 kM s) :
    Kept kK k0 kM (State.spiSubmit s) := by
  unfold State.spiSubmit
  repeat' first | with_reducible assumption | with_reducible apply State.received_kept (wOff hm rfl) | simp only [Kept.mk_hq (wOff hm rfl)] | dsimp only | split

theorem State.spiGo_kept {s : State} (hm : kK &&& 0x8000 = 0)  (hk : Kept kK k0 kM s) :
    Kept kK k0 kM (State.spiGo s) := by
  unfold State.spiGo
  repeat' first | with_reducible assumption | with_reducible apply State.spiSubmit_kept (wOff hm rfl) | with_reducible apply Kept.ite | simp only [Kept.mk_hq (wOff hm rfl)] | dsimp only | split

theorem State.spiHeldGo_kept {s : State} (hm : kK &&& 0x8000 = 0)  (hk : Kept kK k0 kM s) :
    Kept kK k0 kM (State.spiHeldGo s) := by
  unfold State.spiHeldGo
  repeat' first | with_reducible assumption | with_reducible apply State.settle_kept (wOff hm rfl) | with_reducible apply State.spiSubmit_kept (wOff hm rfl) | with_reducible apply Kept.ite | dsimp only | split

theorem State.spiAck_kept {s : State} (hm : kK &&& 0x700028236 = 0) (hM : Closed kM)  (hk : Kept kK k0 kM s) :
    Kept kK k0 kM (State.spiAck s) := by
  unfold State.spiAck
  repeat' first | with_reducible assumption | with_reducible apply State.writeReply_kept (wOff hm rfl) hM | with_reducible apply Kept.ite | simp only [Kept.mk_hq (wOff hm rfl)] | dsimp only | split

theorem State.doorWrite_kept {s : State} {m} {act : State → State} (hm : kK &&& 0x202 = 0) (hf0 : ∀ u, Kept kK k0 kM u → Kept kK k0 kM (act u)) (hk : Kept kK k0 kM s) :
    Kept kK k0 kM (State.doorWrite s m act) := by
  unfold State.doorWrite
  repeat' first | with_reducible assumption | with_reducible apply hf0 | with_reducible apply State.busError_kept (wOff hm rfl) | with_reducible apply State.busDead_kept (wOff hm rfl) | with_reducible apply Kept.ite | dsimp only | split

theorem execSpiGo_kept {m} {s : State} (hm : kK &&& 0x8202 = 0)  (hk : Kept kK k0 kM s) :
    KeptR kK k0 kM (execSpiGo m s) := by
  unfold execSpiGo
  repeat' first | with_reducible assumption | with_reducible apply State.spiGo_kept (wOff hm rfl) | with_reducible apply State.doorWrite_kept (wOff hm rfl) | with_reducible apply KeptR.next | (intro u hu) | simp only [id] | dsimp only | split

theorem execSpiAck_kept {m} {s : State} (hm : kK &&& 0x700028236 = 0) (hM : Closed kM)  (hk : Kept kK k0 kM s) :
    KeptR kK k0 kM (execSpiAck m s) := by
  unfold execSpiAck
  repeat' first | with_reducible assumption | with_reducible apply State.spiAck_kept (wOff hm rfl) hM | with_reducible apply State.doorWrite_kept (wOff hm rfl) | with_reducible apply KeptR.next | (intro u hu) | simp only [id] | dsimp only | split

theorem State.qStatClear_kept {s : State} {q} {v} (hm : kK &&& 0x2 = 0)  (hk : Kept kK k0 kM s) :
    Kept kK k0 kM (State.qStatClear s q v) := by
  unfold State.qStatClear
  repeat' first | with_reducible assumption | with_reducible apply State.lower_kept (wOff hm rfl) | with_reducible apply Kept.ite | dsimp only | split

theorem State.setRegWrite_kept {s : State} {q} {r} {v} (hm : kK &&& 0x8002 = 0)  (hk : Kept kK k0 kM s) :
    Kept kK k0 kM (State.setRegWrite s q r v) := by
  unfold State.setRegWrite
  repeat' first | with_reducible assumption | with_reducible apply State.setF_kept (wOff hm rfl) | with_reducible apply State.ringTail_kept (wOff hm rfl) | with_reducible apply State.ringHead_kept (wOff hm rfl) | with_reducible apply State.enableSet_kept (wOff hm rfl) | with_reducible apply State.disableSet_kept (wOff hm rfl) | with_reducible apply State.qStatClear_kept (wOff hm rfl) | with_reducible apply Kept.ite | dsimp only | split

theorem State.hqWrite_kept {s : State} {m} {o} {v} (hm : kK &&& 0x700028236 = 0) (hM : Closed kM)  (hk : Kept kK k0 kM s) :
    Kept kK k0 kM (State.hqWrite s m o v) := by
  unfold State.hqWrite
  repeat' first | with_reducible assumption | with_reducible apply State.setF_kept (wOff hm rfl) | with_reducible apply State.setWrite_kept (wOff hm rfl) | with_reducible apply State.spiGo_kept (wOff hm rfl) | with_reducible apply State.spiAck_kept (wOff hm rfl) hM | with_reducible apply State.setRegWrite_kept (wOff hm rfl) | with_reducible apply Kept.ite | (intro u hu) | simp only [id] | dsimp only | split

theorem State.pathWrite_kept {s : State} {o} {v} (hm : kK &&& 0x700028236 = 0) (hM : Closed kM)  (hk : Kept kK k0 kM s) :
    Kept kK k0 kM (State.pathWrite s o v) := by
  unfold State.pathWrite
  repeat' first | with_reducible assumption | with_reducible apply State.hqWrite_kept (wOff hm rfl) hM | with_reducible apply Kept.ite | dsimp only | split

theorem State.spiWrites_kept {a0 : State} {a1} {a2} (hm : kK &&& 0x700028236 = 0) (hM : Closed kM)  (hk : Kept kK k0 kM a0) :
    Kept kK k0 kM (State.spiWrites a0 a1 a2) := by
  induction a2 generalizing a0 a1 with
  | nil => exact hk
  | cons w ws ih => exact ih (State.pathWrite_kept (wOff hm rfl) hM hk)

theorem execSpiWriteFrame_kept {off} {ws} {s : State} (hm : kK &&& 0x700028236 = 0) (hM : Closed kM)  (hk : Kept kK k0 kM s) :
    KeptR kK k0 kM (execSpiWriteFrame off ws s) := by
  unfold execSpiWriteFrame
  repeat' first | with_reducible assumption | with_reducible apply State.spiWrites_kept (wOff hm rfl) hM | with_reducible apply Kept.ite | with_reducible apply KeptR.next | dsimp only | split

theorem execSpiReadFrame_kept {off} {n} {s : State} (hm : kK &&& 0x200 = 0)  (hk : Kept kK k0 kM s) :
    KeptR kK k0 kM (execSpiReadFrame off n s) := by
  unfold execSpiReadFrame
  repeat' first | with_reducible assumption | with_reducible apply State.emit_kept (wOff hm rfl) | with_reducible apply Kept.ite | with_reducible apply KeptR.next | dsimp only | split

theorem execSpiStatusFrame_kept {s : State} (hm : kK &&& 0x200 = 0)  (hk : Kept kK k0 kM s) :
    KeptR kK k0 kM (execSpiStatusFrame s) := by
  unfold execSpiStatusFrame
  repeat' first | with_reducible assumption | with_reducible apply State.emit_kept (wOff hm rfl) | with_reducible apply Kept.ite | with_reducible apply KeptR.next | dsimp only | split

theorem execSpiOtherFrame_kept {_op} {s : State} (hm : kK &&& 0x0 = 0)  (hk : Kept kK k0 kM s) :
    KeptR kK k0 kM (execSpiOtherFrame _op s) := by
  unfold execSpiOtherFrame
  repeat' first | with_reducible assumption | with_reducible apply KeptR.next | dsimp only | split

theorem State.latReceive_kept {s : State} {peer} {ws} (hm : kK &&& 0x400008006 = 0)  (hk : Kept kK k0 kM s) :
    Kept kK k0 kM (State.latReceive s peer ws) := by
  unfold State.latReceive
  repeat' first | with_reducible assumption | with_reducible apply State.signal_kept (wOff hm rfl) | with_reducible apply State.settle_kept (wOff hm rfl) | with_reducible apply Kept.ite | simp only [Kept.mk_hq (wOff hm rfl)] | dsimp only | split

end Sys2Proof.Machine
end

