-- ==== Sys2Proof/Laws/KeptAccess.lean ====
section
/-! SUPPORT. The operations of Sys2Proof/Machine/Access.lean leave alone what `Kept` names. -/
namespace Sys2Proof.Machine
set_option linter.unusedSimpArgs false
set_option linter.unusedVariables false
variable {kK : Nat} {k0 : State} {kM : List Host.Cell → Prop}

theorem State.ownWrite_kept {s : State} {m} {d} {b} {off} {act : State → State} (hm : kK &&& 0x202 = 0) (hf0 : ∀ u, Kept kK k0 kM u → Kept kK k0 kM (act u)) (hk : Kept kK k0 kM s) :
    Kept kK k0 kM (State.ownWrite s m d b off act) := by
  unfold State.ownWrite
  repeat' first | with_reducible assumption | with_reducible apply hf0 | with_reducible apply State.raise_kept (wOff hm rfl) | with_reducible apply State.busError_kept (wOff hm rfl) | with_reducible apply State.busDead_kept (wOff hm rfl) | with_reducible apply Kept.ite | dsimp only | split

theorem State.discardPosted_kept {s : State} {hit} {powerOff} (hm : kK &&& 0x400042006 = 0)  (hk : Kept kK k0 kM s) :
    Kept kK k0 kM (State.discardPosted s hit powerOff) := by
  unfold State.discardPosted
  repeat' first | with_reducible assumption | with_reducible apply State.raise_kept (wOff hm rfl) | with_reducible apply State.journal_kept (wOff hm rfl) | with_reducible apply Kept.ite | with_reducible refine Kept.foldl ?_ (fun _ _ _ => ?_) | with_reducible refine Kept.foldlIn Prod.snd ?_ (fun _ _ _ => ?_) | with_reducible refine Kept.foldlIn (fun p => p.2.2) ?_ (fun _ _ _ => ?_) | simp only [Kept.mk_posted (wOff hm rfl)] | dsimp only | split

theorem State.evcWrite_kept {s : State} {m} {off} {act : State → State} (hm : kK &&& 0x202 = 0) (hf0 : ∀ u, Kept kK k0 kM u → Kept kK k0 kM (act u)) (hk : Kept kK k0 kM s) :
    Kept kK k0 kM (State.evcWrite s m off act) := by
  unfold State.evcWrite
  repeat' first | with_reducible assumption | with_reducible apply hf0 | with_reducible apply State.ownWrite_kept (wOff hm rfl) | with_reducible apply Kept.ite | (intro u hu) | simp only [id] | dsimp only | split

theorem State.evcSet_kept {s : State} {w} {v} (hm : kK &&& 0x400000006 = 0)  (hk : Kept kK k0 kM s) :
    Kept kK k0 kM (State.evcSet s w v) := by
  unfold State.evcSet
  repeat' first | with_reducible assumption | with_reducible apply State.signal_kept (wOff hm rfl) | with_reducible apply Kept.ite | with_reducible refine Kept.foldl ?_ (fun _ _ _ => ?_) | with_reducible refine Kept.foldlIn Prod.snd ?_ (fun _ _ _ => ?_) | with_reducible refine Kept.foldlIn (fun p => p.2.2) ?_ (fun _ _ _ => ?_) | dsimp only | split

theorem execEvcSet_kept {m} {w} {v} {s : State} (hm : kK &&& 0x400000206 = 0)  (hk : Kept kK k0 kM s) :
    KeptR kK k0 kM (execEvcSet m w v s) := by
  unfold execEvcSet
  repeat' first | with_reducible assumption | with_reducible apply State.evcWrite_kept (wOff hm rfl) | with_reducible apply State.evcSet_kept (wOff hm rfl) | with_reducible apply KeptR.next | (intro u hu) | simp only [id] | dsimp only | split

theorem State.evcMask_kept {s : State} {w} {v} (hm : kK &&& 0x2 = 0)  (hk : Kept kK k0 kM s) :
    Kept kK k0 kM (State.evcMask s w v) := by
  unfold State.evcMask
  repeat' first | with_reducible assumption | with_reducible apply State.setF_kept (wOff hm rfl) | dsimp only | split

theorem execEvcMaskWrite_kept {m} {w} {v} {s : State} (hm : kK &&& 0x10202 = 0)  (hk : Kept kK k0 kM s) :
    KeptR kK k0 kM (execEvcMaskWrite m w v s) := by
  unfold execEvcMaskWrite
  repeat' first | with_reducible assumption | with_reducible apply State.settleVectors_kept (wOff hm rfl) | with_reducible apply State.evcWrite_kept (wOff hm rfl) | with_reducible apply State.evcMask_kept (wOff hm rfl) | with_reducible apply KeptR.next | (intro u hu) | simp only [id] | dsimp only | split

theorem State.evcRoute_kept {s : State} {src} {v} (hm : kK &&& 0x2 = 0)  (hk : Kept kK k0 kM s) :
    Kept kK k0 kM (State.evcRoute s src v) := by
  unfold State.evcRoute
  repeat' first | with_reducible assumption | with_reducible apply State.setF_kept (wOff hm rfl) | dsimp only | split

theorem execEvcRouteWrite_kept {m} {src} {v} {s : State} (hm : kK &&& 0x10202 = 0)  (hk : Kept kK k0 kM s) :
    KeptR kK k0 kM (execEvcRouteWrite m src v s) := by
  unfold execEvcRouteWrite
  repeat' first | with_reducible assumption | with_reducible apply State.settleVectors_kept (wOff hm rfl) | with_reducible apply State.evcWrite_kept (wOff hm rfl) | with_reducible apply State.evcRoute_kept (wOff hm rfl) | with_reducible apply KeptR.next | (intro u hu) | simp only [id] | dsimp only | split

theorem execMsixMessage_kept {v} {s : State} (hm : kK &&& 0x10200 = 0)  (hk : Kept kK k0 kM s) :
    KeptR kK k0 kM (execMsixMessage v s) := by
  unfold execMsixMessage
  repeat' first | with_reducible assumption | with_reducible apply State.sendVector_kept (wOff hm rfl) | with_reducible apply KeptR.next | dsimp only | split

theorem State.unmaskVector_kept {s : State} {v} (hm : kK &&& 0x10200 = 0)  (hk : Kept kK k0 kM s) :
    Kept kK k0 kM (State.unmaskVector s v) := by
  unfold State.unmaskVector
  repeat' first | with_reducible assumption | with_reducible apply State.sendVector_kept (wOff hm rfl) | simp only [Kept.mk_evc (wOff hm rfl)] | dsimp only | split

theorem State.sendFunction_kept {s : State} {data} (hm : kK &&& 0x10200 = 0)  (hk : Kept kK k0 kM s) :
    Kept kK k0 kM (State.sendFunction s data) := by
  unfold State.sendFunction
  repeat' first | with_reducible assumption | with_reducible apply State.sendVector_kept (wOff hm rfl) | with_reducible apply Kept.ite | with_reducible refine Kept.foldl ?_ (fun _ _ _ => ?_) | with_reducible refine Kept.foldlIn Prod.snd ?_ (fun _ _ _ => ?_) | with_reducible refine Kept.foldlIn (fun p => p.2.2) ?_ (fun _ _ _ => ?_) | dsimp only | split

theorem State.enableMsix_kept {s : State} {data} (hm : kK &&& 0x10200 = 0)  (hk : Kept kK k0 kM s) :
    Kept kK k0 kM (State.enableMsix s data) := by
  unfold State.enableMsix
  repeat' first | with_reducible assumption | with_reducible apply State.sendFunction_kept (wOff hm rfl) | with_reducible apply Kept.ite | simp only [Kept.mk_evc (wOff hm rfl)] | dsimp only | split

theorem State.maskFunction_kept {s : State} {data} {on} (hm : kK &&& 0x10200 = 0)  (hk : Kept kK k0 kM s) :
    Kept kK k0 kM (State.maskFunction s data on) := by
  unfold State.maskFunction
  repeat' first | with_reducible assumption | with_reducible apply State.sendFunction_kept (wOff hm rfl) | with_reducible apply Kept.ite | simp only [Kept.mk_evc (wOff hm rfl)] | dsimp only | split

theorem State.writeMsixEntry_kept {s : State} {data} {v} {a} {d} (hm : kK &&& 0x10000 = 0)  (hk : Kept kK k0 kM s) :
    Kept kK k0 kM (State.writeMsixEntry s data v a d) := by
  unfold State.writeMsixEntry
  repeat' first | with_reducible assumption | with_reducible apply Kept.ite | simp only [Kept.mk_evc (wOff hm rfl)] | dsimp only | split

theorem State.blockMsix_kept {s : State} {data} {v} (hm : kK &&& 0x10000 = 0)  (hk : Kept kK k0 kM s) :
    Kept kK k0 kM (State.blockMsix s data v) := by
  unfold State.blockMsix
  repeat' first | with_reducible assumption | with_reducible apply Kept.ite | simp only [Kept.mk_evc (wOff hm rfl)] | dsimp only | split

theorem execMsixUnmask_kept {data} {v} {s : State} (hm : kK &&& 0x10200 = 0)  (hk : Kept kK k0 kM s) :
    KeptR kK k0 kM (execMsixUnmask data v s) := by
  unfold execMsixUnmask
  repeat' first | with_reducible assumption | with_reducible apply State.unmaskVector_kept (wOff hm rfl) | with_reducible apply State.enableMsix_kept (wOff hm rfl) | with_reducible apply State.maskFunction_kept (wOff hm rfl) | with_reducible apply State.writeMsixEntry_kept (wOff hm rfl) | with_reducible apply State.blockMsix_kept (wOff hm rfl) | with_reducible apply Kept.ite | with_reducible apply KeptR.next | dsimp only | split

end Sys2Proof.Machine
end

