-- ==== Sys2Proof/Laws/KeptGauges.lean ====
section
/-! SUPPORT. The operations of Sys2Proof/Machine/Gauges.lean leave alone what `Kept` names. -/
namespace Sys2Proof.Machine
set_option linter.unusedSimpArgs false
set_option linter.unusedVariables false
variable {kK : Nat} {k0 : State} {kM : List Host.Cell → Prop}

theorem State.setProtX_kept {s : State} {n} {x} (hm : kK &&& 0x8000000 = 0)  (hk : Kept kK k0 kM s) :
    Kept kK k0 kM (State.setProtX s n x) := by
  unfold State.setProtX
  repeat' first | with_reducible assumption | simp only [Kept.mk_prot (wOff hm rfl)] | dsimp only | split

theorem State.protMark_kept {s : State} {n} {f} (hm : kK &&& 0x400000006 = 0)  (hk : Kept kK k0 kM s) :
    Kept kK k0 kM (State.protMark s n f) := by
  unfold State.protMark
  repeat' first | with_reducible assumption | with_reducible apply State.mark_kept (wOff hm rfl) | dsimp only | split

theorem State.setGauge_kept {s : State} {n} {off} {rst} {v} (hm : kK &&& 0x4 = 0)  (hk : Kept kK k0 kM s) :
    Kept kK k0 kM (State.setGauge s n off rst v) := by
  unfold State.setGauge
  repeat' first | with_reducible assumption | simp only [Kept.mk_ctrs (wOff hm rfl)] | dsimp only | split

theorem State.protCount_kept {s : State} {n} {f} {k} (hm : kK &&& 0x400000006 = 0)  (hk : Kept kK k0 kM s) :
    Kept kK k0 kM (State.protCount s n f k) := by
  unfold State.protCount
  repeat' first | with_reducible assumption | with_reducible apply State.count_kept (wOff hm rfl) | dsimp only | split

theorem State.setBreach_kept {s : State} {n} {i} {b} {f} (hm : kK &&& 0x400000006 = 0)  (hk : Kept kK k0 kM s) :
    Kept kK k0 kM (State.setBreach s n i b f) := by
  unfold State.setBreach
  repeat' first | with_reducible assumption | with_reducible apply State.setF_kept (wOff hm rfl) | with_reducible apply State.protMark_kept (wOff hm rfl) | with_reducible apply Kept.ite | dsimp only | split

theorem State.sample_kept {s : State} {n} {last} {mn} {mx} {sum} {cnt} {v} (hm : kK &&& 0x400000006 = 0)  (hk : Kept kK k0 kM s) :
    Kept kK k0 kM (State.sample s n last mn mx sum cnt v) := by
  unfold State.sample
  repeat' first | with_reducible assumption | with_reducible apply State.bump_kept (wOff hm rfl) | with_reducible apply State.protMark_kept (wOff hm rfl) | with_reducible apply State.setGauge_kept (wOff hm rfl) | with_reducible apply Kept.ite | dsimp only | split

theorem State.protTiming_kept {s : State} {n} {r} {t} {p} (hm : kK &&& 0x400000006 = 0)  (hk : Kept kK k0 kM s) :
    Kept kK k0 kM (State.protTiming s n r t p) := by
  unfold State.protTiming
  repeat' first | with_reducible assumption | with_reducible apply State.protMark_kept (wOff hm rfl) | with_reducible apply State.setBreach_kept (wOff hm rfl) | with_reducible apply State.sample_kept (wOff hm rfl) | with_reducible apply Kept.ite | dsimp only | split

theorem State.protSdi_kept {s : State} {n} {t} (hm : kK &&& 0x408000006 = 0)  (hk : Kept kK k0 kM s) :
    Kept kK k0 kM (State.protSdi s n t) := by
  unfold State.protSdi
  repeat' first | with_reducible assumption | with_reducible apply State.setProtX_kept (wOff hm rfl) | with_reducible apply State.protTiming_kept (wOff hm rfl) | with_reducible apply Kept.ite | dsimp only | split

theorem State.protEvents_kept {s : State} {n} {k} (hm : kK &&& 0x8000000 = 0)  (hk : Kept kK k0 kM s) :
    Kept kK k0 kM (State.protEvents s n k) := by
  unfold State.protEvents
  repeat' first | with_reducible assumption | with_reducible apply State.setProtX_kept (wOff hm rfl) | with_reducible apply Kept.ite | dsimp only | split

theorem State.protCrc_kept {s : State} {n} (hm : kK &&& 0x400000006 = 0)  (hk : Kept kK k0 kM s) :
    Kept kK k0 kM (State.protCrc s n) := by
  unfold State.protCrc
  repeat' first | with_reducible assumption | with_reducible apply State.protCount_kept (wOff hm rfl) | with_reducible apply Kept.ite | dsimp only | split

theorem State.protBad_kept {s : State} {n} (hm : kK &&& 0x8000000 = 0)  (hk : Kept kK k0 kM s) :
    Kept kK k0 kM (State.protBad s n) := by
  unfold State.protBad
  repeat' first | with_reducible assumption | with_reducible apply State.setProtX_kept (wOff hm rfl) | with_reducible apply Kept.ite | dsimp only | split

theorem State.protCut_kept {s : State} {n} (hm : kK &&& 0x8000000 = 0)  (hk : Kept kK k0 kM s) :
    Kept kK k0 kM (State.protCut s n) := by
  unfold State.protCut
  repeat' first | with_reducible assumption | with_reducible apply State.setProtX_kept (wOff hm rfl) | with_reducible apply Kept.ite | dsimp only | split

theorem State.protOversample_kept {s : State} {n} (hm : kK &&& 0x8000002 = 0)  (hk : Kept kK k0 kM s) :
    Kept kK k0 kM (State.protOversample s n) := by
  unfold State.protOversample
  repeat' first | with_reducible assumption | with_reducible apply State.setF_kept (wOff hm rfl) | with_reducible apply State.setProtX_kept (wOff hm rfl) | dsimp only | split

theorem State.protPtp_kept {s : State} {n} {domain} {gm} {off} {delay} (hm : kK &&& 0x400000006 = 0)  (hk : Kept kK k0 kM s) :
    Kept kK k0 kM (State.protPtp s n domain gm off delay) := by
  unfold State.protPtp
  repeat' first | with_reducible assumption | with_reducible apply State.setGauge_kept (wOff hm rfl) | with_reducible apply State.setBreach_kept (wOff hm rfl) | with_reducible apply State.sample_kept (wOff hm rfl) | with_reducible apply Kept.ite | dsimp only | split

theorem State.setNpackets_kept {s : State} {n} {np} {w12} (hm : kK &&& 0x2 = 0)  (hk : Kept kK k0 kM s) :
    Kept kK k0 kM (State.setNpackets s n np w12) := by
  unfold State.setNpackets
  repeat' first | with_reducible assumption | with_reducible apply State.setF_kept (wOff hm rfl) | with_reducible apply Kept.ite | dsimp only | split

theorem State.c21Close_kept {s : State} {n} {w12} {lost} (hm : kK &&& 0x400000006 = 0)  (hk : Kept kK k0 kM s) :
    Kept kK k0 kM (State.c21Close s n w12 lost) := by
  unfold State.c21Close
  repeat' first | with_reducible assumption | with_reducible apply State.setGauge_kept (wOff hm rfl) | with_reducible apply State.protCount_kept (wOff hm rfl) | with_reducible apply State.setNpackets_kept (wOff hm rfl) | with_reducible apply Kept.ite | dsimp only | split

theorem State.c21Judge_kept {s : State} {n} {old} {c} {dry} (hm : kK &&& 0x400000006 = 0)  (hk : Kept kK k0 kM s) :
    Kept kK k0 kM (State.c21Judge s n old c dry) := by
  unfold State.c21Judge
  repeat' first | with_reducible assumption | with_reducible apply State.setF_kept (wOff hm rfl) | with_reducible apply State.signal_kept (wOff hm rfl) | with_reducible apply State.protMark_kept (wOff hm rfl) | with_reducible apply State.setGauge_kept (wOff hm rfl) | with_reducible apply Kept.ite | dsimp only | split

theorem State.protPacket_kept {s : State} {n} {w2} {w12} {seen} {seq} {ts} {t} (hm : kK &&& 0x408000006 = 0)  (hk : Kept kK k0 kM s) :
    Kept kK k0 kM (State.protPacket s n w2 w12 seen seq ts t) := by
  unfold State.protPacket
  repeat' first | with_reducible assumption | with_reducible apply State.setProtX_kept (wOff hm rfl) | with_reducible apply State.protTiming_kept (wOff hm rfl) | with_reducible apply State.c21Close_kept (wOff hm rfl) | with_reducible apply State.c21Judge_kept (wOff hm rfl) | with_reducible apply Kept.ite | dsimp only | split

theorem State.protFlowLost_kept {s : State} {n} {w12} (hm : kK &&& 0x408000006 = 0)  (hk : Kept kK k0 kM s) :
    Kept kK k0 kM (State.protFlowLost s n w12) := by
  unfold State.protFlowLost
  repeat' first | with_reducible assumption | with_reducible apply State.setProtX_kept (wOff hm rfl) | with_reducible apply State.c21Close_kept (wOff hm rfl) | with_reducible apply Kept.ite | dsimp only | split

end Sys2Proof.Machine
end

