-- ==== Sys2Proof/Laws/KeptTime.lean ====
section
/-! SUPPORT. The operations of Sys2Proof/Machine/Time.lean leave alone what `Kept` names. -/
namespace Sys2Proof.Machine
set_option linter.unusedSimpArgs false
set_option linter.unusedVariables false
variable {kK : Nat} {k0 : State} {kM : List Host.Cell → Prop}

theorem State.toTm_kept {s : State} {v} (hm : kK &&& 0x440000006 = 0)  (hk : Kept kK k0 kM s) :
    Kept kK k0 kM (State.toTm s v) := by
  unfold State.toTm
  repeat' first | with_reducible assumption | with_reducible apply State.setF_kept (wOff hm rfl) | with_reducible apply State.signal_kept (wOff hm rfl) | with_reducible apply Kept.ite | simp only [Kept.mk_tim (wOff hm rfl)] | dsimp only | split

theorem State.loopStep_kept {s : State} {d} {n} (hm : kK &&& 0x80000000 = 0)  (hk : Kept kK k0 kM s) :
    Kept kK k0 kM (State.loopStep s d n) := by
  unfold State.loopStep
  repeat' first | with_reducible assumption | with_reducible apply Kept.ite | simp only [Kept.mk_clk (wOff hm rfl)] | dsimp only | split

theorem State.stepTime_kept {s : State} {t} (hm : kK &&& 0x4c0040806 = 0)  (hk : Kept kK k0 kM s) :
    Kept kK k0 kM (State.stepTime s t) := by
  unfold State.stepTime
  repeat' first | with_reducible assumption | with_reducible apply State.mark_kept (wOff hm rfl) | with_reducible apply State.journal_kept (wOff hm rfl) | with_reducible apply State.loopStep_kept (wOff hm rfl) | with_reducible refine Kept.foldl ?_ (fun _ _ _ => ?_) | with_reducible refine Kept.foldlIn Prod.snd ?_ (fun _ _ _ => ?_) | with_reducible refine Kept.foldlIn (fun p => p.2.2) ?_ (fun _ _ _ => ?_) | simp only [Kept.mk_sta_tim (wOff hm rfl)] | dsimp only | split

theorem State.keepPast_kept {s : State} {f} (hm : kK &&& 0x40000000 = 0)  (hk : Kept kK k0 kM s) :
    Kept kK k0 kM (State.keepPast s f) := by
  unfold State.keepPast
  repeat' first | with_reducible assumption | with_reducible apply Kept.ite | simp only [Kept.mk_tim (wOff hm rfl)] | dsimp only | split

theorem State.holdFreq_kept {s : State} (hm : kK &&& 0x40000002 = 0)  (hk : Kept kK k0 kM s) :
    Kept kK k0 kM (State.holdFreq s) := by
  unfold State.holdFreq
  repeat' first | with_reducible assumption | with_reducible apply State.setF_kept (wOff hm rfl) | with_reducible apply State.keepPast_kept (wOff hm rfl) | simp only [Kept.mk_tim (wOff hm rfl)] | dsimp only | split

theorem State.setFreq_kept {s : State} {v} (hm : kK &&& 0x40000002 = 0)  (hk : Kept kK k0 kM s) :
    Kept kK k0 kM (State.setFreq s v) := by
  unfold State.setFreq
  repeat' first | with_reducible assumption | with_reducible apply State.setF_kept (wOff hm rfl) | with_reducible apply State.keepPast_kept (wOff hm rfl) | with_reducible apply Kept.ite | simp only [Kept.mk_tim (wOff hm rfl)] | dsimp only | split

theorem State.newFreq_kept {s : State} {off} {rate} (hm : kK &&& 0x40001002 = 0)  (hk : Kept kK k0 kM s) :
    Kept kK k0 kM (State.newFreq s off rate) := by
  unfold State.newFreq
  repeat' first | with_reducible assumption | with_reducible apply State.freeVal_kept (wOff hm rfl) | with_reducible apply State.setFreq_kept (wOff hm rfl) | with_reducible apply Kept.ite | (refine Kept.sndEq (x := (State.freeVal _)) (by assumption) ?_) | dsimp only | split

theorem State.endSlew_kept {s : State} (hm : kK &&& 0x40000000 = 0)  (hk : Kept kK k0 kM s) :
    Kept kK k0 kM (State.endSlew s) := by
  unfold State.endSlew
  repeat' first | with_reducible assumption | with_reducible apply Kept.ite | simp only [Kept.mk_tim (wOff hm rfl)] | dsimp only | split

theorem State.measured_kept {s : State} {off} (hm : kK &&& 0x4c0041806 = 0)  (hk : Kept kK k0 kM s) :
    Kept kK k0 kM (State.measured s off) := by
  unfold State.measured
  repeat' first | with_reducible assumption | with_reducible apply State.setF_kept (wOff hm rfl) | with_reducible apply State.stepTime_kept (wOff hm rfl) | with_reducible apply State.newFreq_kept (wOff hm rfl) | with_reducible apply Kept.ite | simp only [Kept.mk_tim (wOff hm rfl)] | dsimp only | split

theorem execTimeBeacon_kept {reached} {s : State} (hm : kK &&& 0x40000002 = 0)  (hk : Kept kK k0 kM s) :
    KeptR kK k0 kM (execTimeBeacon reached s) := by
  unfold execTimeBeacon
  repeat' first | with_reducible assumption | with_reducible apply State.setF_kept (wOff hm rfl) | with_reducible apply Kept.ite | with_reducible apply KeptR.next | with_reducible refine Kept.foldl ?_ (fun _ _ _ => ?_) | with_reducible refine Kept.foldlIn Prod.snd ?_ (fun _ _ _ => ?_) | with_reducible refine Kept.foldlIn (fun p => p.2.2) ?_ (fun _ _ _ => ?_) | simp only [Kept.mk_tim (wOff hm rfl)] | dsimp only | split

theorem State.copyAlone_kept {s : State} {d} (hm : kK &&& 0x40001000 = 0)  (hk : Kept kK k0 kM s) :
    Kept kK k0 kM (State.copyAlone s d) := by
  unfold State.copyAlone
  repeat' first | with_reducible assumption | with_reducible apply State.freeVal_kept (wOff hm rfl) | (refine Kept.sndEq (x := (State.freeVal _)) (by assumption) ?_) | simp only [Kept.mk_tim (wOff hm rfl)] | dsimp only | split

theorem execTimeBeaconLoss_kept {d} {s : State} (hm : kK &&& 0x440041c06 = 0)  (hk : Kept kK k0 kM s) :
    KeptR kK k0 kM (execTimeBeaconLoss d s) := by
  unfold execTimeBeaconLoss
  repeat' first | with_reducible assumption | with_reducible apply State.setF_kept (wOff hm rfl) | with_reducible apply State.mark_kept (wOff hm rfl) | with_reducible apply State.journal_kept (wOff hm rfl) | with_reducible apply State.reachNow_kept (wOff hm rfl) | with_reducible apply State.copyAlone_kept (wOff hm rfl) | with_reducible apply Kept.ite | with_reducible apply KeptR.next | dsimp only | split

theorem State.setPtp_kept {s : State} {lane} {domain} {p} (hm : kK &&& 0x40000000 = 0)  (hk : Kept kK k0 kM s) :
    Kept kK k0 kM (State.setPtp s lane domain p) := by
  unfold State.setPtp
  repeat' first | with_reducible assumption | simp only [Kept.mk_tim (wOff hm rfl)] | dsimp only | split

theorem State.ptpAnew_kept {s : State} {w} (hm : kK &&& 0x40000000 = 0)  (hk : Kept kK k0 kM s) :
    Kept kK k0 kM (State.ptpAnew s w) := by
  unfold State.ptpAnew
  repeat' first | with_reducible assumption | with_reducible apply State.setPtp_kept (wOff hm rfl) | with_reducible apply Kept.ite | dsimp only | split

theorem State.setRef_kept {s0 : State} {e} {w} (hm : kK &&& 0x40000002 = 0)  (hk : Kept kK k0 kM s0) :
    Kept kK k0 kM (State.setRef s0 e w) := by
  unfold State.setRef
  repeat' first | with_reducible assumption | with_reducible apply State.setF_kept (wOff hm rfl) | with_reducible apply State.lower_kept (wOff hm rfl) | with_reducible apply State.ptpAnew_kept (wOff hm rfl) | dsimp only | split

theorem State.refSelect_kept {s : State} {ws} (hm : kK &&& 0x440000006 = 0)  (hk : Kept kK k0 kM s) :
    Kept kK k0 kM (State.refSelect s ws) := by
  unfold State.refSelect
  repeat' first | with_reducible assumption | with_reducible apply State.toTm_kept (wOff hm rfl) | with_reducible apply State.holdFreq_kept (wOff hm rfl) | with_reducible apply State.setRef_kept (wOff hm rfl) | with_reducible apply Kept.ite | with_reducible refine Kept.foldl ?_ (fun _ _ _ => ?_) | with_reducible refine Kept.foldlIn Prod.snd ?_ (fun _ _ _ => ?_) | with_reducible refine Kept.foldlIn (fun p => p.2.2) ?_ (fun _ _ _ => ?_) | simp only [Kept.mk_tim (wOff hm rfl)] | dsimp only | split

theorem execRefSelect_kept {c} {s : State} (hm : kK &&& 0x440009006 = 0)  (hk : Kept kK k0 kM s) :
    KeptR kK k0 kM (execRefSelect c s) := by
  unfold execRefSelect
  repeat' first | with_reducible assumption | with_reducible apply State.immediate_kept (wOff hm rfl) | with_reducible apply State.refSelect_kept (wOff hm rfl) | with_reducible apply KeptR.next | (intro u hu) | simp only [id] | dsimp only | split

theorem execRefSelectQuery_kept {c} {s : State} (hm : kK &&& 0x8000 = 0)  (hk : Kept kK k0 kM s) :
    KeptR kK k0 kM (execRefSelectQuery c s) := by
  unfold execRefSelectQuery
  repeat' first | with_reducible assumption | with_reducible refine State.immediate_kept_quiet (wOff hm rfl) (fun _ _ => State.retriesFail_silent (by decide)) ?_ ?_ | with_reducible apply KeptR.next | (intro u hu) | simp only [id] | dsimp only | split

theorem State.acquire_kept {s : State} {e} {step} (hm : kK &&& 0x440000006 = 0)  (hk : Kept kK k0 kM s) :
    Kept kK k0 kM (State.acquire s e step) := by
  unfold State.acquire
  repeat' first | with_reducible assumption | with_reducible apply State.setF_kept (wOff hm rfl) | with_reducible apply State.toTm_kept (wOff hm rfl) | with_reducible apply State.keepPast_kept (wOff hm rfl) | simp only [Kept.mk_tim (wOff hm rfl)] | dsimp only | split

theorem State.refQualify_kept {s : State} {e} (hm : kK &&& 0x440000006 = 0)  (hk : Kept kK k0 kM s) :
    Kept kK k0 kM (State.refQualify s e) := by
  unfold State.refQualify
  repeat' first | with_reducible assumption | with_reducible apply State.raise_kept (wOff hm rfl) | with_reducible apply State.acquire_kept (wOff hm rfl) | with_reducible apply Kept.ite | dsimp only | split

theorem execRefEntryQualify_kept {e} {off} {s : State} (hm : kK &&& 0x4c0041806 = 0)  (hk : Kept kK k0 kM s) :
    KeptR kK k0 kM (execRefEntryQualify e off s) := by
  unfold execRefEntryQualify
  repeat' first | with_reducible assumption | with_reducible apply State.measured_kept (wOff hm rfl) | with_reducible apply State.refQualify_kept (wOff hm rfl) | with_reducible apply Kept.ite | with_reducible apply KeptR.next | dsimp only | split

theorem State.ptpLost_kept {s : State} {e} (hm : kK &&& 0x40000000 = 0)  (hk : Kept kK k0 kM s) :
    Kept kK k0 kM (State.ptpLost s e) := by
  unfold State.ptpLost
  repeat' first | with_reducible assumption | with_reducible apply State.setPtp_kept (wOff hm rfl) | with_reducible apply Kept.ite | dsimp only | split

theorem State.refDisqualify_kept {s : State} {e} (hm : kK &&& 0x440000006 = 0)  (hk : Kept kK k0 kM s) :
    Kept kK k0 kM (State.refDisqualify s e) := by
  unfold State.refDisqualify
  repeat' first | with_reducible assumption | with_reducible apply State.lower_kept (wOff hm rfl) | with_reducible apply State.mark_kept (wOff hm rfl) | with_reducible apply State.toTm_kept (wOff hm rfl) | with_reducible apply State.holdFreq_kept (wOff hm rfl) | with_reducible apply State.acquire_kept (wOff hm rfl) | with_reducible apply State.ptpLost_kept (wOff hm rfl) | with_reducible apply Kept.ite | dsimp only | split

theorem execRefEntryDisqualify_kept {e} {s : State} (hm : kK &&& 0x440001006 = 0)  (hk : Kept kK k0 kM s) :
    KeptR kK k0 kM (execRefEntryDisqualify e s) := by
  unfold execRefEntryDisqualify
  repeat' first | with_reducible assumption | with_reducible apply State.refDisqualify_kept (wOff hm rfl) | with_reducible apply Kept.ite | with_reducible apply KeptR.next | dsimp only | split

theorem execTimeLock_kept {s : State} (hm : kK &&& 0x440000006 = 0)  (hk : Kept kK k0 kM s) :
    KeptR kK k0 kM (execTimeLock s) := by
  unfold execTimeLock
  repeat' first | with_reducible assumption | with_reducible apply State.toTm_kept (wOff hm rfl) | with_reducible apply Kept.ite | with_reducible apply KeptR.next | simp only [Kept.mk_tim (wOff hm rfl)] | dsimp only | split

theorem State.ptpDelay_kept {s : State} {lane} {domain} {t4} (hm : kK &&& 0x40000000 = 0)  (hk : Kept kK k0 kM s) :
    Kept kK k0 kM (State.ptpDelay s lane domain t4) := by
  unfold State.ptpDelay
  repeat' first | with_reducible assumption | with_reducible apply State.setPtp_kept (wOff hm rfl) | dsimp only | split

theorem State.ptpSilent_kept {s : State} {lane} {domain} (hm : kK &&& 0x40000000 = 0)  (hk : Kept kK k0 kM s) :
    Kept kK k0 kM (State.ptpSilent s lane domain) := by
  unfold State.ptpSilent
  repeat' first | with_reducible assumption | with_reducible apply State.setPtp_kept (wOff hm rfl) | with_reducible apply Kept.ite | dsimp only | split

theorem State.ptpMessage_kept {s0 : State} {lane} {domain} {m} (hm : kK &&& 0x4c0041806 = 0)  (hk : Kept kK k0 kM s0) :
    Kept kK k0 kM (State.ptpMessage s0 lane domain m) := by
  unfold State.ptpMessage
  repeat' first | with_reducible assumption | with_reducible apply State.protPtp_kept (wOff hm rfl) | with_reducible apply State.measured_kept (wOff hm rfl) | with_reducible apply State.setPtp_kept (wOff hm rfl) | with_reducible apply State.ptpDelay_kept (wOff hm rfl) | with_reducible apply State.ptpSilent_kept (wOff hm rfl) | with_reducible apply Kept.ite | dsimp only | split

theorem execPtpMessageReceive_kept {lane} {domain} {m} {s : State} (hm : kK &&& 0x4c0041806 = 0)  (hk : Kept kK k0 kM s) :
    KeptR kK k0 kM (execPtpMessageReceive lane domain m s) := by
  unfold execPtpMessageReceive
  repeat' first | with_reducible assumption | with_reducible apply State.raise_kept (wOff hm rfl) | with_reducible apply State.ptpMessage_kept (wOff hm rfl) | with_reducible apply Kept.ite | with_reducible apply KeptR.next | with_reducible refine Kept.foldl ?_ (fun _ _ _ => ?_) | with_reducible refine Kept.foldlIn Prod.snd ?_ (fun _ _ _ => ?_) | with_reducible refine Kept.foldlIn (fun p => p.2.2) ?_ (fun _ _ _ => ?_) | dsimp only | split

theorem execPtpDelayReqExchange_kept {lane} {domain} {answer} {s : State} (hm : kK &&& 0x40000200 = 0)  (hk : Kept kK k0 kM s) :
    KeptR kK k0 kM (execPtpDelayReqExchange lane domain answer s) := by
  unfold execPtpDelayReqExchange
  repeat' first | with_reducible assumption | with_reducible apply State.emit_kept (wOff hm rfl) | with_reducible apply State.setPtp_kept (wOff hm rfl) | with_reducible apply State.ptpDelay_kept (wOff hm rfl) | with_reducible apply Kept.ite | with_reducible apply KeptR.next | dsimp only | split

theorem execPpsEdge_kept {tenMHz} {s : State} (hm : kK &&& 0x4c0041806 = 0)  (hk : Kept kK k0 kM s) :
    KeptR kK k0 kM (execPpsEdge tenMHz s) := by
  unfold execPpsEdge
  repeat' first | with_reducible assumption | with_reducible apply State.raise_kept (wOff hm rfl) | with_reducible apply State.measured_kept (wOff hm rfl) | with_reducible apply State.refDisqualify_kept (wOff hm rfl) | with_reducible apply Kept.ite | with_reducible apply KeptR.next | with_reducible refine Kept.foldl ?_ (fun _ _ _ => ?_) | with_reducible refine Kept.foldlIn Prod.snd ?_ (fun _ _ _ => ?_) | with_reducible refine Kept.foldlIn (fun p => p.2.2) ?_ (fun _ _ _ => ?_) | simp only [Kept.mk_tim (wOff hm rfl)] | dsimp only | split

theorem State.sdiReference_kept {s : State} {lane} {t} {prev} (hm : kK &&& 0x4c0041806 = 0)  (hk : Kept kK k0 kM s) :
    Kept kK k0 kM (State.sdiReference s lane t prev) := by
  have h1 : ∀ g : Nat → Bool, Kept kK k0 kM ((List.range 4).foldl (fun t e => if g e then t.raise (refBase e) F.TIME_REF_present else t) s) :=
    fun _ => Kept.foldl hk (fun _ _ ht => Kept.ite (State.raise_kept (wOff hm rfl) ht) ht)
  unfold State.sdiReference
  generalize hg : (fun e => s.refKind e == 3 && s.getF (refBase e) F.TIME_REF_lane == lane) = g
  dsimp only
  split
  · refine Kept.ite ?_ (h1 g)
    split
    · exact State.measured_kept (wOff hm rfl) (h1 g)
    · exact h1 g
  · exact h1 g

theorem State.timeSet_kept {s : State} {c} (hm : kK &&& 0x4c0040806 = 0)  (hk : Kept kK k0 kM s) :
    Kept kK k0 kM (State.timeSet s c).1 := by
  unfold State.timeSet
  repeat' first | with_reducible assumption | with_reducible apply State.stepTime_kept (wOff hm rfl) | with_reducible apply State.endSlew_kept (wOff hm rfl) | with_reducible apply Kept.ite | simp only [Kept.mk_tim (wOff hm rfl)] | dsimp only | split

theorem execTimeSet_kept {c} {s : State} (hm : kK &&& 0x4c0048806 = 0)  (hk : Kept kK k0 kM s) :
    KeptR kK k0 kM (execTimeSet c s) := by
  unfold execTimeSet
  repeat' first | with_reducible assumption | with_reducible apply State.immediate_kept (wOff hm rfl) | with_reducible apply State.timeSet_kept (wOff hm rfl) | with_reducible apply KeptR.next | (refine Kept.sndEq (x := (State.timeSet _ _)) (by assumption) ?_) | (intro u hu) | simp only [id] | dsimp only | split

theorem execTimeSetQuery_kept {c} {s : State} (hm : kK &&& 0x8000 = 0)  (hk : Kept kK k0 kM s) :
    KeptR kK k0 kM (execTimeSetQuery c s) := by
  unfold execTimeSetQuery
  repeat' first | with_reducible assumption | with_reducible refine State.immediate_kept_quiet (wOff hm rfl) (fun _ _ => State.retriesFail_silent (by decide)) ?_ ?_ | with_reducible apply KeptR.next | (intro u hu) | simp only [id] | dsimp only | split

theorem execTimeSetSeconds_kept {s : State} (hm : kK &&& 0x4c0040c06 = 0)  (hk : Kept kK k0 kM s) :
    KeptR kK k0 kM (execTimeSetSeconds s) := by
  unfold execTimeSetSeconds
  repeat' first | with_reducible assumption | with_reducible apply State.reach_kept (wOff hm rfl) | with_reducible apply State.stepTime_kept (wOff hm rfl) | with_reducible apply State.endSlew_kept (wOff hm rfl) | with_reducible apply KeptR.next | simp only [Kept.mk_tim (wOff hm rfl)] | dsimp only | split

end Sys2Proof.Machine
end

