-- ==== Sys2Proof/Laws/KeptClocks.lean ====
section
/-! SUPPORT. The operations of Sys2Proof/Machine/Clocks.lean leave alone what `Kept` names. -/
namespace Sys2Proof.Machine
set_option linter.unusedSimpArgs false
set_option linter.unusedVariables false
variable {kK : Nat} {k0 : State} {kM : List Host.Cell → Prop}

theorem State.toXo_kept {s : State} {i} {v} (hm : kK &&& 0x480000006 = 0)  (hk : Kept kK k0 kM s) :
    Kept kK k0 kM (State.toXo s i v) := by
  unfold State.toXo
  repeat' first | with_reducible assumption | with_reducible apply State.setF_kept (wOff hm rfl) | with_reducible apply State.signal_kept (wOff hm rfl) | with_reducible apply Kept.ite | simp only [Kept.mk_clk (wOff hm rfl)] | dsimp only | split

theorem State.setLoopX_kept {s : State} {n} {x} (hm : kK &&& 0x80000000 = 0)  (hk : Kept kK k0 kM s) :
    Kept kK k0 kM (State.setLoopX s n x) := by
  unfold State.setLoopX
  repeat' first | with_reducible assumption | simp only [Kept.mk_clk (wOff hm rfl)] | dsimp only | split

theorem State.loopCode_kept {s : State} {n} (hm : kK &&& 0x1002 = 0)  (hk : Kept kK k0 kM s) :
    Kept kK k0 kM (State.loopCode s n) := by
  unfold State.loopCode
  repeat' first | with_reducible assumption | with_reducible apply State.setF_kept (wOff hm rfl) | with_reducible apply State.freeVal_kept (wOff hm rfl) | with_reducible apply Kept.ite | (refine Kept.sndEq (x := (State.freeVal _)) (by assumption) ?_) | dsimp only | split

theorem State.loopMove_kept {s : State} {n} (hm : kK &&& 0x480001006 = 0)  (hk : Kept kK k0 kM s) :
    Kept kK k0 kM (State.loopMove s n) := by
  unfold State.loopMove
  repeat' first | with_reducible assumption | with_reducible apply State.setF_kept (wOff hm rfl) | with_reducible apply State.setB_kept (wOff hm rfl) | with_reducible apply State.mark_kept (wOff hm rfl) | with_reducible apply State.setLoopX_kept (wOff hm rfl) | with_reducible apply State.loopCode_kept (wOff hm rfl) | with_reducible apply Kept.ite | dsimp only | split

theorem State.loopAim_kept {s : State} {n} {f} (hm : kK &&& 0x480001006 = 0)  (hk : Kept kK k0 kM s) :
    Kept kK k0 kM (State.loopAim s n f) := by
  unfold State.loopAim
  repeat' first | with_reducible assumption | with_reducible apply State.setLoopX_kept (wOff hm rfl) | with_reducible apply State.loopMove_kept (wOff hm rfl) | dsimp only | split

theorem State.loopRegain_kept {s : State} {n} {ns} (hm : kK &&& 0x80001000 = 0)  (hk : Kept kK k0 kM s) :
    Kept kK k0 kM (State.loopRegain s n ns) := by
  unfold State.loopRegain
  repeat' first | with_reducible assumption | with_reducible apply State.freeVal_kept (wOff hm rfl) | with_reducible apply State.setLoopX_kept (wOff hm rfl) | with_reducible apply Kept.ite | (refine Kept.sndEq (x := (State.freeVal _)) (by assumption) ?_) | dsimp only | split

theorem State.toLoop_kept {s : State} {n} {v} (hm : kK &&& 0x400001006 = 0)  (hk : Kept kK k0 kM s) :
    Kept kK k0 kM (State.toLoop s n v) := by
  unfold State.toLoop
  repeat' first | with_reducible assumption | with_reducible apply State.setF_kept (wOff hm rfl) | with_reducible apply State.setB_kept (wOff hm rfl) | with_reducible apply State.signal_kept (wOff hm rfl) | with_reducible apply State.loopCode_kept (wOff hm rfl) | with_reducible apply Kept.ite | dsimp only | split

theorem State.newFloor_kept {s : State} {n} (hm : kK &&& 0x1002 = 0)  (hk : Kept kK k0 kM s) :
    Kept kK k0 kM (State.newFloor s n) := by
  unfold State.newFloor
  repeat' first | with_reducible assumption | with_reducible apply State.setF_kept (wOff hm rfl) | with_reducible apply State.freeVal_kept (wOff hm rfl) | (refine Kept.sndEq (x := (State.freeVal _)) (by assumption) ?_) | dsimp only | split

theorem State.loopDone_kept {s : State} {word1} {l} {st} {v} (hm : kK &&& 0x400008006 = 0)  (hk : Kept kK k0 kM s) :
    Kept kK k0 kM (State.loopDone s word1 l st v) := by
  unfold State.loopDone
  repeat' first | with_reducible assumption | with_reducible apply State.complete_kept (wOff hm rfl) | with_reducible refine Kept.foldl ?_ (fun _ _ _ => ?_) | with_reducible refine Kept.foldlIn Prod.snd ?_ (fun _ _ _ => ?_) | with_reducible refine Kept.foldlIn (fun p => p.2.2) ?_ (fun _ _ _ => ?_) | dsimp only | split

theorem State.loopReached_kept {s : State} {n} {v} (hm : kK &&& 0x480009006 = 0)  (hk : Kept kK k0 kM s) :
    Kept kK k0 kM (State.loopReached s n v) := by
  unfold State.loopReached
  repeat' first | with_reducible assumption | with_reducible apply State.setLoopX_kept (wOff hm rfl) | with_reducible apply State.loopMove_kept (wOff hm rfl) | with_reducible apply State.toLoop_kept (wOff hm rfl) | with_reducible apply State.loopDone_kept (wOff hm rfl) | with_reducible apply Kept.ite | dsimp only | split

theorem State.loopToFloor_kept {s : State} {n} (hm : kK &&& 0x80000000 = 0)  (hk : Kept kK k0 kM s) :
    Kept kK k0 kM (State.loopToFloor s n) := by
  unfold State.loopToFloor
  repeat' first | with_reducible assumption | with_reducible apply State.setLoopX_kept (wOff hm rfl) | dsimp only | split

theorem State.loopCoast_kept {s : State} {n} (hm : kK &&& 0x480009006 = 0)  (hk : Kept kK k0 kM s) :
    Kept kK k0 kM (State.loopCoast s n) := by
  unfold State.loopCoast
  repeat' first | with_reducible assumption | with_reducible apply State.setF_kept (wOff hm rfl) | with_reducible apply State.loopReached_kept (wOff hm rfl) | with_reducible apply State.loopToFloor_kept (wOff hm rfl) | dsimp only | split

theorem State.xoOffset_kept {s : State} {i} (hm : kK &&& 0x1000 = 0)  (hk : Kept kK k0 kM s) :
    Kept kK k0 kM (State.xoOffset s i).2 := by
  unfold State.xoOffset
  repeat' first | with_reducible assumption | with_reducible apply State.freeVal_kept (wOff hm rfl) | with_reducible apply Kept.ite | (refine Kept.sndEq (x := (State.freeVal _)) (by assumption) ?_) | dsimp only | split

theorem State.loopToXo_kept {s : State} {n} (hm : kK &&& 0x480009006 = 0)  (hk : Kept kK k0 kM s) :
    Kept kK k0 kM (State.loopToXo s n) := by
  unfold State.loopToXo
  repeat' first | with_reducible assumption | with_reducible apply State.setF_kept (wOff hm rfl) | with_reducible apply State.lower_kept (wOff hm rfl) | with_reducible apply State.loopAim_kept (wOff hm rfl) | with_reducible apply State.loopReached_kept (wOff hm rfl) | with_reducible apply State.xoOffset_kept (wOff hm rfl) | (refine Kept.sndEq (x := (State.xoOffset _ _)) (by assumption) ?_) | dsimp only | split

theorem State.loopRename_kept {s : State} {n} {xo} (hm : kK &&& 0x480009006 = 0)  (hk : Kept kK k0 kM s) :
    Kept kK k0 kM (State.loopRename s n xo) := by
  unfold State.loopRename
  repeat' first | with_reducible assumption | with_reducible apply State.setB_kept (wOff hm rfl) | with_reducible apply State.loopCoast_kept (wOff hm rfl) | with_reducible apply State.loopToXo_kept (wOff hm rfl) | with_reducible apply Kept.ite | dsimp only | split

theorem State.settleXo1_kept {s : State} (hm : kK &&& 0x480000006 = 0)  (hk : Kept kK k0 kM s) :
    Kept kK k0 kM (State.settleXo1 s) := by
  unfold State.settleXo1
  repeat' first | with_reducible assumption | with_reducible apply State.toXo_kept (wOff hm rfl) | with_reducible apply Kept.ite | simp only [Kept.mk_clk (wOff hm rfl)] | dsimp only | split

theorem State.loopsRun_kept {s : State} (hm : kK &&& 0x480001006 = 0)  (hk : Kept kK k0 kM s) :
    Kept kK k0 kM (State.loopsRun s) := by
  unfold State.loopsRun
  repeat' first | with_reducible assumption | with_reducible apply State.loopMove_kept (wOff hm rfl) | with_reducible apply State.loopRegain_kept (wOff hm rfl) | with_reducible apply Kept.ite | with_reducible refine Kept.foldl ?_ (fun _ _ _ => ?_) | with_reducible refine Kept.foldlIn Prod.snd ?_ (fun _ _ _ => ?_) | with_reducible refine Kept.foldlIn (fun p => p.2.2) ?_ (fun _ _ _ => ?_) | dsimp only | split

theorem State.xosRun_kept {s : State} (hm : kK &&& 0x480001006 = 0)  (hk : Kept kK k0 kM s) :
    Kept kK k0 kM (State.xosRun s) := by
  unfold State.xosRun
  repeat' first | with_reducible assumption | with_reducible apply State.freeVal_kept (wOff hm rfl) | with_reducible apply State.toXo_kept (wOff hm rfl) | with_reducible apply Kept.ite | with_reducible refine Kept.foldl ?_ (fun _ _ _ => ?_) | with_reducible refine Kept.foldlIn Prod.snd ?_ (fun _ _ _ => ?_) | with_reducible refine Kept.foldlIn (fun p => p.2.2) ?_ (fun _ _ _ => ?_) | (refine Kept.sndEq (x := (State.freeVal _)) (by assumption) ?_) | dsimp only | split

theorem State.loopStore_kept {s : State} {n} {c} (hm : kK &&& 0x2 = 0)  (hk : Kept kK k0 kM s) :
    Kept kK k0 kM (State.loopStore s n c) := by
  unfold State.loopStore
  repeat' first | with_reducible assumption | with_reducible apply State.setF_kept (wOff hm rfl) | dsimp only | split

theorem State.loopSet_kept {s : State} {n} {c} (hm : kK &&& 0x480009006 = 0)  (hk : Kept kK k0 kM s) :
    Kept kK k0 kM (State.loopSet s n c) := by
  unfold State.loopSet
  repeat' first | with_reducible assumption | with_reducible apply State.lower_kept (wOff hm rfl) | with_reducible apply State.setB_kept (wOff hm rfl) | with_reducible apply State.setLoopX_kept (wOff hm rfl) | with_reducible apply State.loopCode_kept (wOff hm rfl) | with_reducible apply State.loopMove_kept (wOff hm rfl) | with_reducible apply State.toLoop_kept (wOff hm rfl) | with_reducible apply State.newFloor_kept (wOff hm rfl) | with_reducible apply State.loopDone_kept (wOff hm rfl) | with_reducible apply State.loopRename_kept (wOff hm rfl) | with_reducible apply State.settleXo1_kept (wOff hm rfl) | with_reducible apply State.loopStore_kept (wOff hm rfl) | with_reducible apply Kept.ite | dsimp only | split

theorem State.setBitOf_kept {s : State} {base} {f} {i} {v} (hm : kK &&& 0x2 = 0)  (hk : Kept kK k0 kM s) :
    Kept kK k0 kM (State.setBitOf s base f i v) := by
  unfold State.setBitOf
  repeat' first | with_reducible assumption | with_reducible apply State.setF_kept (wOff hm rfl) | with_reducible apply Kept.ite | dsimp only | split

theorem State.floopHold_kept {s : State} {q} {l} {v} (hm : kK &&& 0x80000000 = 0)  (hk : Kept kK k0 kM s) :
    Kept kK k0 kM (State.floopHold s q l v) := by
  unfold State.floopHold
  repeat' first | with_reducible assumption | with_reducible apply Kept.ite | simp only [Kept.mk_clk (wOff hm rfl)] | dsimp only | split

theorem State.floopSet_kept {s : State} {q} {c} (hm : kK &&& 0x480008006 = 0)  (hk : Kept kK k0 kM s) :
    Kept kK k0 kM (State.floopSet s q c) := by
  unfold State.floopSet
  repeat' first | with_reducible assumption | with_reducible apply State.setF_kept (wOff hm rfl) | with_reducible apply State.signal_kept (wOff hm rfl) | with_reducible apply State.loopDone_kept (wOff hm rfl) | with_reducible apply State.setBitOf_kept (wOff hm rfl) | with_reducible apply State.floopHold_kept (wOff hm rfl) | with_reducible apply Kept.ite | dsimp only | split

theorem execLoopSet_kept {c} {s : State} (hm : kK &&& 0x480009006 = 0)  (hk : Kept kK k0 kM s) :
    KeptR kK k0 kM (execLoopSet c s) := by
  unfold execLoopSet
  repeat' first | with_reducible assumption | with_reducible apply State.long_kept (wOff hm rfl) | with_reducible apply State.loopSet_kept (wOff hm rfl) | with_reducible apply State.floopSet_kept (wOff hm rfl) | with_reducible apply KeptR.next | (intro u hu) | simp only [id] | dsimp only | split

theorem execLoopSetQuery_kept {c} {s : State} (hm : kK &&& 0x8000 = 0)  (hk : Kept kK k0 kM s) :
    KeptR kK k0 kM (execLoopSetQuery c s) := by
  unfold execLoopSetQuery
  repeat' first | with_reducible assumption | with_reducible refine State.immediate_kept_quiet (wOff hm rfl) (fun _ _ => State.retriesFail_silent (by decide)) ?_ ?_ | with_reducible apply KeptR.next | (intro u hu) | simp only [id] | dsimp only | split

theorem State.sourceSeen_kept {s : State} {n} (hm : kK &&& 0x40000002 = 0)  (hk : Kept kK k0 kM s) :
    Kept kK k0 kM (State.sourceSeen s n) := by
  unfold State.sourceSeen
  repeat' first | with_reducible assumption | with_reducible apply State.raise_kept (wOff hm rfl) | with_reducible apply Kept.ite | simp only [Kept.mk_tim (wOff hm rfl)] | dsimp only | split

theorem execLoopLock_kept {l} {f} {s : State} (hm : kK &&& 0x4c0009006 = 0)  (hk : Kept kK k0 kM s) :
    KeptR kK k0 kM (execLoopLock l f s) := by
  unfold execLoopLock
  repeat' first | with_reducible assumption | with_reducible apply State.loopAim_kept (wOff hm rfl) | with_reducible apply State.loopDone_kept (wOff hm rfl) | with_reducible apply State.loopReached_kept (wOff hm rfl) | with_reducible apply State.setBitOf_kept (wOff hm rfl) | with_reducible apply State.floopHold_kept (wOff hm rfl) | with_reducible apply State.sourceSeen_kept (wOff hm rfl) | with_reducible apply Kept.ite | with_reducible apply KeptR.next | dsimp only | split

theorem State.loopWindow_kept {s : State} {n} {c} (hm : kK &&& 0x480001006 = 0)  (hk : Kept kK k0 kM s) :
    Kept kK k0 kM (State.loopWindow s n c) := by
  unfold State.loopWindow
  repeat' first | with_reducible assumption | with_reducible apply State.setF_kept (wOff hm rfl) | with_reducible apply State.loopMove_kept (wOff hm rfl) | with_reducible apply State.loopCode_kept (wOff hm rfl) | with_reducible apply State.newFloor_kept (wOff hm rfl) | with_reducible apply Kept.ite | dsimp only | split

theorem execLoopWindow_kept {c} {s : State} (hm : kK &&& 0x480009006 = 0)  (hk : Kept kK k0 kM s) :
    KeptR kK k0 kM (execLoopWindow c s) := by
  unfold execLoopWindow
  repeat' first | with_reducible assumption | with_reducible apply State.immediate_kept (wOff hm rfl) | with_reducible apply State.loopWindow_kept (wOff hm rfl) | with_reducible apply KeptR.next | (intro u hu) | simp only [id] | dsimp only | split

theorem execLoopWindowQuery_kept {c} {s : State} (hm : kK &&& 0x8000 = 0)  (hk : Kept kK k0 kM s) :
    KeptR kK k0 kM (execLoopWindowQuery c s) := by
  unfold execLoopWindowQuery
  repeat' first | with_reducible assumption | with_reducible refine State.immediate_kept_quiet (wOff hm rfl) (fun _ _ => State.retriesFail_silent (by decide)) ?_ ?_ | with_reducible apply KeptR.next | (intro u hu) | simp only [id] | dsimp only | split

theorem execLoopFallback_kept {c} {s : State} (hm : kK &&& 0x480009006 = 0)  (hk : Kept kK k0 kM s) :
    KeptR kK k0 kM (execLoopFallback c s) := by
  unfold execLoopFallback
  repeat' first | with_reducible assumption | with_reducible apply State.lower_kept (wOff hm rfl) | with_reducible apply State.immediate_kept (wOff hm rfl) | with_reducible apply State.toLoop_kept (wOff hm rfl) | with_reducible apply State.loopToXo_kept (wOff hm rfl) | with_reducible apply Kept.ite | with_reducible apply KeptR.next | (intro u hu) | simp only [id] | dsimp only | split

theorem execLoopMonitorTrip_kept {n} {s : State} (hm : kK &&& 0x4c0009006 = 0)  (hk : Kept kK k0 kM s) :
    KeptR kK k0 kM (execLoopMonitorTrip n s) := by
  unfold execLoopMonitorTrip
  repeat' first | with_reducible assumption | with_reducible apply State.lower_kept (wOff hm rfl) | with_reducible apply State.setB_kept (wOff hm rfl) | with_reducible apply State.signal_kept (wOff hm rfl) | with_reducible apply State.mark_kept (wOff hm rfl) | with_reducible apply State.loopToFloor_kept (wOff hm rfl) | with_reducible apply State.loopCoast_kept (wOff hm rfl) | with_reducible apply State.loopToXo_kept (wOff hm rfl) | with_reducible apply Kept.ite | with_reducible apply KeptR.next | simp only [Kept.mk_tim (wOff hm rfl)] | dsimp only | split

theorem execLoopRefQualify_kept {n} {f} {s : State} (hm : kK &&& 0x4c0001006 = 0)  (hk : Kept kK k0 kM s) :
    KeptR kK k0 kM (execLoopRefQualify n f s) := by
  unfold execLoopRefQualify
  repeat' first | with_reducible assumption | with_reducible apply State.lower_kept (wOff hm rfl) | with_reducible apply State.loopAim_kept (wOff hm rfl) | with_reducible apply State.toLoop_kept (wOff hm rfl) | with_reducible apply State.sourceSeen_kept (wOff hm rfl) | with_reducible apply Kept.ite | with_reducible apply KeptR.next | dsimp only | split

theorem execXoReady_kept {i} {s : State} (hm : kK &&& 0x4e0029c06 = 0)  (hk : Kept kK k0 kM s) :
    KeptR kK k0 kM (execXoReady i s) := by
  unfold execXoReady
  repeat' first | with_reducible assumption | with_reducible apply State.setF_kept (wOff hm rfl) | with_reducible apply State.reachNow_kept (wOff hm rfl) | with_reducible apply State.toXo_kept (wOff hm rfl) | with_reducible apply State.loopToXo_kept (wOff hm rfl) | with_reducible apply Kept.ite | with_reducible apply KeptR.next | with_reducible refine Kept.foldl ?_ (fun _ _ _ => ?_) | with_reducible refine Kept.foldlIn Prod.snd ?_ (fun _ _ _ => ?_) | with_reducible refine Kept.foldlIn (fun p => p.2.2) ?_ (fun _ _ _ => ?_) | simp only [Kept.mk_pwr_opt (wOff hm rfl)] | dsimp only | split

theorem State.xoFailed_kept {s : State} {i} (hm : kK &&& 0x480009006 = 0)  (hk : Kept kK k0 kM s) :
    Kept kK k0 kM (State.xoFailed s i) := by
  unfold State.xoFailed
  repeat' first | with_reducible assumption | with_reducible apply State.setB_kept (wOff hm rfl) | with_reducible apply State.toXo_kept (wOff hm rfl) | with_reducible apply State.loopCoast_kept (wOff hm rfl) | with_reducible apply Kept.ite | with_reducible refine Kept.foldl ?_ (fun _ _ _ => ?_) | with_reducible refine Kept.foldlIn Prod.snd ?_ (fun _ _ _ => ?_) | with_reducible refine Kept.foldlIn (fun p => p.2.2) ?_ (fun _ _ _ => ?_) | dsimp only | split

theorem State.xo0Journal_kept {s : State} (hm : kK &&& 0x400040006 = 0)  (hk : Kept kK k0 kM s) :
    Kept kK k0 kM (State.xo0Journal s) := by
  unfold State.xo0Journal
  repeat' first | with_reducible assumption | with_reducible apply State.journal_kept (wOff hm rfl) | dsimp only | split

theorem execXoFail_kept {i} {s : State} (hm : kK &&& 0x480049006 = 0)  (hk : Kept kK k0 kM s) :
    KeptR kK k0 kM (execXoFail i s) := by
  unfold execXoFail
  repeat' first | with_reducible assumption | with_reducible apply State.xoFailed_kept (wOff hm rfl) | with_reducible apply State.xo0Journal_kept (wOff hm rfl) | with_reducible apply Kept.ite | with_reducible apply KeptR.next | dsimp only | split

theorem execXoStop_kept {s : State} (hm : kK &&& 0x4c0000c06 = 0)  (hk : Kept kK k0 kM s) :
    KeptR kK k0 kM (execXoStop s) := by
  unfold execXoStop
  repeat' first | with_reducible assumption | with_reducible apply State.reachNow_kept (wOff hm rfl) | with_reducible apply State.toXo_kept (wOff hm rfl) | with_reducible apply Kept.ite | with_reducible apply KeptR.next | simp only [Kept.mk_clk (wOff hm rfl)] | dsimp only | split

theorem execXo0Stopped_kept {s : State} (hm : kK &&& 0x480049006 = 0)  (hk : Kept kK k0 kM s) :
    KeptR kK k0 kM (execXo0Stopped s) := by
  unfold execXo0Stopped
  repeat' first | with_reducible assumption | with_reducible apply State.xoFailed_kept (wOff hm rfl) | with_reducible apply State.xo0Journal_kept (wOff hm rfl) | with_reducible apply Kept.ite | with_reducible apply KeptR.next | dsimp only | split

theorem execFabricLoopRefLost_kept {q} {l} {s : State} (hm : kK &&& 0x400000006 = 0)  (hk : Kept kK k0 kM s) :
    KeptR kK k0 kM (execFabricLoopRefLost q l s) := by
  unfold execFabricLoopRefLost
  repeat' first | with_reducible assumption | with_reducible apply State.signal_kept (wOff hm rfl) | with_reducible apply State.setBitOf_kept (wOff hm rfl) | with_reducible apply Kept.ite | with_reducible apply KeptR.next | dsimp only | split

theorem execFabricLoopRelock_kept {q} {l} {s : State} (hm : kK &&& 0x80000002 = 0)  (hk : Kept kK k0 kM s) :
    KeptR kK k0 kM (execFabricLoopRelock q l s) := by
  unfold execFabricLoopRelock
  repeat' first | with_reducible assumption | with_reducible apply State.setBitOf_kept (wOff hm rfl) | with_reducible apply State.floopHold_kept (wOff hm rfl) | with_reducible apply Kept.ite | with_reducible apply KeptR.next | dsimp only | split

theorem State.clkoutSet_kept {s : State} {c} (hm : kK &&& 0x480000006 = 0)  (hk : Kept kK k0 kM s) :
    Kept kK k0 kM (State.clkoutSet s c) := by
  unfold State.clkoutSet
  repeat' first | with_reducible assumption | with_reducible apply State.setF_kept (wOff hm rfl) | with_reducible apply State.settleXo1_kept (wOff hm rfl) | dsimp only | split

theorem execClkoutSet_kept {c} {s : State} (hm : kK &&& 0x480008006 = 0)  (hk : Kept kK k0 kM s) :
    KeptR kK k0 kM (execClkoutSet c s) := by
  unfold execClkoutSet
  repeat' first | with_reducible assumption | with_reducible apply State.immediate_kept (wOff hm rfl) | with_reducible apply State.clkoutSet_kept (wOff hm rfl) | with_reducible apply KeptR.next | (intro u hu) | simp only [id] | dsimp only | split

theorem execClkoutSetQuery_kept {c} {s : State} (hm : kK &&& 0x8000 = 0)  (hk : Kept kK k0 kM s) :
    KeptR kK k0 kM (execClkoutSetQuery c s) := by
  unfold execClkoutSetQuery
  repeat' first | with_reducible assumption | with_reducible refine State.immediate_kept_quiet (wOff hm rfl) (fun _ _ => State.retriesFail_silent (by decide)) ?_ ?_ | with_reducible apply KeptR.next | (intro u hu) | simp only [id] | dsimp only | split

end Sys2Proof.Machine
end

