-- ==== Sys2Proof/Laws/KeptFrameMem.lean ====
section
/-! SUPPORT. The operations of Sys2Proof/Machine/FrameMem.lean leave alone what `Kept` names. -/
namespace Sys2Proof.Machine
set_option linter.unusedSimpArgs false
set_option linter.unusedVariables false
variable {kK : Nat} {k0 : State} {kM : List Host.Cell → Prop}

theorem State.putFm_kept {a0 : State} {a1} {a2} (hm : kK &&& 0x10 = 0) (hM : Closed kM)  (hk : Kept kK k0 kM a0) :
    Kept kK k0 kM (State.putFm a0 a1 a2) := by
  induction a2 generalizing a0 a1 with
  | nil => exact hk
  | cons w ws ih => exact ih (Kept.up_mem (wOff hm rfl) hk (hM.put _ _ _ hk.2))

theorem State.setSect_kept {s : State} {k} {x} {v} (hm : kK &&& 0x1000000 = 0)  (hk : Kept kK k0 kM s) :
    Kept kK k0 kM (State.setSect s k x v) := by
  unfold State.setSect
  repeat' first | with_reducible assumption | simp only [Kept.mk_fm (wOff hm rfl)] | dsimp only | split

theorem State.setLine_kept {s : State} {k} {line} {l} (hm : kK &&& 0x1000000 = 0)  (hk : Kept kK k0 kM s) :
    Kept kK k0 kM (State.setLine s k line l) := by
  unfold State.setLine
  repeat' first | with_reducible assumption | simp only [Kept.mk_fm (wOff hm rfl)] | dsimp only | split

theorem State.setOrder_kept {s : State} {k} {l} (hm : kK &&& 0x1000002 = 0)  (hk : Kept kK k0 kM s) :
    Kept kK k0 kM (State.setOrder s k l) := by
  unfold State.setOrder
  repeat' first | with_reducible assumption | with_reducible apply State.setF_kept (wOff hm rfl) | simp only [Kept.mk_fm (wOff hm rfl)] | dsimp only | split

theorem State.dramRepeat_kept {s : State} {k} {line} {place} (hm : kK &&& 0x1000000 = 0)  (hk : Kept kK k0 kM s) :
    Kept kK k0 kM (State.dramRepeat s k line place).2 := by
  unfold State.dramRepeat
  repeat' first | with_reducible assumption | simp only [Kept.mk_fm (wOff hm rfl)] | dsimp only | split

theorem State.rowFault_kept {s : State} {k} {line} (hm : kK &&& 0x400040006 = 0)  (hk : Kept kK k0 kM s) :
    Kept kK k0 kM (State.rowFault s k line) := by
  unfold State.rowFault
  repeat' first | with_reducible assumption | with_reducible apply State.setF_kept (wOff hm rfl) | with_reducible apply State.mark_kept (wOff hm rfl) | with_reducible apply State.journal_kept (wOff hm rfl) | dsimp only | split

theorem State.addPoison_kept {s : State} {k} {line} {cause} (hm : kK &&& 0x401040006 = 0)  (hk : Kept kK k0 kM s) :
    Kept kK k0 kM (State.addPoison s k line cause) := by
  unfold State.addPoison
  repeat' first | with_reducible assumption | with_reducible apply State.setF_kept (wOff hm rfl) | with_reducible apply State.raise_kept (wOff hm rfl) | with_reducible apply State.mark_kept (wOff hm rfl) | with_reducible apply State.journal_kept (wOff hm rfl) | with_reducible apply State.setOrder_kept (wOff hm rfl) | with_reducible apply State.dramRepeat_kept (wOff hm rfl) | with_reducible apply State.rowFault_kept (wOff hm rfl) | with_reducible apply Kept.ite | (refine Kept.sndEq (x := (State.dramRepeat _ _ _ _)) (by assumption) ?_) | dsimp only | split

theorem State.dropPoison_kept {s : State} {k} {line} (hm : kK &&& 0x1000002 = 0)  (hk : Kept kK k0 kM s) :
    Kept kK k0 kM (State.dropPoison s k line) := by
  unfold State.dropPoison
  repeat' first | with_reducible assumption | with_reducible apply State.lower_kept (wOff hm rfl) | with_reducible apply State.setOrder_kept (wOff hm rfl) | dsimp only | split

theorem State.fmcCount_kept {s : State} {k} {f} {n} (hm : kK &&& 0x400000006 = 0)  (hk : Kept kK k0 kM s) :
    Kept kK k0 kM (State.fmcCount s k f n) := by
  unfold State.fmcCount
  repeat' first | with_reducible assumption | with_reducible apply State.count_kept (wOff hm rfl) | dsimp only | split

theorem State.sealCount_kept {s : State} {k} {f} {n} (hm : kK &&& 0x400000006 = 0)  (hk : Kept kK k0 kM s) :
    Kept kK k0 kM (State.sealCount s k f n) := by
  unfold State.sealCount
  repeat' first | with_reducible assumption | with_reducible apply State.count_kept (wOff hm rfl) | dsimp only | split

theorem State.corrected_kept {s : State} {k} {line} {p} (hm : kK &&& 0x401040006 = 0)  (hk : Kept kK k0 kM s) :
    Kept kK k0 kM (State.corrected s k line p) := by
  unfold State.corrected
  repeat' first | with_reducible assumption | with_reducible apply State.mark_kept (wOff hm rfl) | with_reducible apply State.dramRepeat_kept (wOff hm rfl) | with_reducible apply State.rowFault_kept (wOff hm rfl) | with_reducible apply State.fmcCount_kept (wOff hm rfl) | with_reducible apply Kept.ite | (refine Kept.sndEq (x := (State.dramRepeat _ _ _ _)) (by assumption) ?_) | simp only [Kept.mk_fm (wOff hm rfl)] | dsimp only | split

theorem State.spoil_kept {s : State} {k} {line} (hm : kK &&& 0x401040006 = 0)  (hk : Kept kK k0 kM s) :
    Kept kK k0 kM (State.spoil s k line) := by
  unfold State.spoil
  repeat' first | with_reducible assumption | with_reducible apply State.setLine_kept (wOff hm rfl) | with_reducible apply State.addPoison_kept (wOff hm rfl) | with_reducible apply Kept.ite | dsimp only | split

theorem State.checkLine_kept {s : State} {k} {line} {e} (hm : kK &&& 0x401040006 = 0)  (hk : Kept kK k0 kM s) :
    Kept kK k0 kM (State.checkLine s k line e).2 := by
  unfold State.checkLine
  repeat' first | with_reducible assumption | with_reducible apply State.mark_kept (wOff hm rfl) | with_reducible apply State.fmcCount_kept (wOff hm rfl) | with_reducible apply State.sealCount_kept (wOff hm rfl) | with_reducible apply State.corrected_kept (wOff hm rfl) | with_reducible apply State.spoil_kept (wOff hm rfl) | with_reducible apply Kept.ite | dsimp only | split

theorem State.showEarly_kept {s : State} {k} (hm : kK &&& 0x2 = 0)  (hk : Kept kK k0 kM s) :
    Kept kK k0 kM (State.showEarly s k) := by
  unfold State.showEarly
  repeat' first | with_reducible assumption | with_reducible apply State.setF_kept (wOff hm rfl) | dsimp only | split

theorem State.startSweep_kept {s : State} {k} {x} {fast} {op} (hm : kK &&& 0x401000006 = 0)  (hk : Kept kK k0 kM s) :
    Kept kK k0 kM (State.startSweep s k x fast op) := by
  unfold State.startSweep
  repeat' first | with_reducible assumption | with_reducible apply State.setF_kept (wOff hm rfl) | with_reducible apply State.setB_kept (wOff hm rfl) | with_reducible apply State.signal_kept (wOff hm rfl) | with_reducible apply State.setSect_kept (wOff hm rfl) | with_reducible apply Kept.ite | simp only [Kept.mk_fm (wOff hm rfl)] | dsimp only | split

theorem State.stampEarly_kept {s : State} {k} {x} {line} {poison} (hm : kK &&& 0x1000002 = 0)  (hk : Kept kK k0 kM s) :
    KeptO kK k0 kM id (State.stampEarly s k x line poison) := by
  unfold State.stampEarly
  with_reducible refine KeptO.ite KeptO.none ?_
  with_reducible refine KeptO.some ?_
  exact State.showEarly_kept (wOff hm rfl) (State.setSect_kept (wOff hm rfl) (State.setLine_kept (wOff hm rfl) hk))

theorem State.stampLast_kept {s : State} {k} {x} {line} {key} {poison} (hm : kK &&& 0x1000000 = 0)  (hk : Kept kK k0 kM s) :
    KeptO kK k0 kM id (State.stampLast s k x line key poison) := by
  unfold State.stampLast
  split
  · exact KeptO.none
  · exact KeptO.some (State.setSect_kept (wOff hm rfl) (State.setLine_kept (wOff hm rfl) hk))

theorem State.stamp_kept {s : State} {k} {line} {poison} (hm : kK &&& 0x401000006 = 0)  (hk : Kept kK k0 kM s) :
    KeptO kK k0 kM id (State.stamp s k line poison) := by
  unfold State.stamp
  dsimp only
  split
  · exact KeptO.some (State.setLine_kept (wOff hm rfl) hk)
  · with_reducible refine KeptO.ite ?_ (KeptO.ite ?_ (KeptO.ite ?_ ?_))
    · exact KeptO.some (State.setLine_kept (wOff hm rfl) hk)
    · exact KeptO.some (State.setLine_kept (wOff hm rfl) hk)
    · exact State.stampLast_kept (wOff hm rfl) hk
    · with_reducible refine State.stampEarly_kept (wOff hm rfl) (Kept.ite hk ?_)
      exact State.startSweep_kept (wOff hm rfl) hk

theorem State.writeLine_kept {s : State} {k} {line} {a} {bs} {poison} {e} (hm : kK &&& 0x401040016 = 0) (hM : Closed kM)  (hk : Kept kK k0 kM s) :
    Kept kK k0 kM (State.writeLine s k line a bs poison e).2 := by
  unfold State.writeLine
  repeat' first | with_reducible assumption | with_reducible apply State.mark_kept (wOff hm rfl) | with_reducible apply State.journal_kept (wOff hm rfl) | with_reducible apply State.putFm_kept (wOff hm rfl) hM | with_reducible apply State.addPoison_kept (wOff hm rfl) | with_reducible apply State.dropPoison_kept (wOff hm rfl) | with_reducible apply State.fmcCount_kept (wOff hm rfl) | with_reducible apply State.checkLine_kept (wOff hm rfl) | with_reducible apply State.stamp_kept (wOff hm rfl) | with_reducible apply Kept.ite | (refine Kept.sndEq (x := (State.checkLine _ _ _ _)) (by assumption) ?_) | (refine KeptO.get (f := id) (o := (State.stamp _ _ _ _)) (by assumption) ?_) | simp only [Kept.mk_fm (wOff hm rfl)] | dsimp only | split

theorem State.fmAdmit_kept {s : State} {cls} {a} {rd} {wr} (hm : kK &&& 0x400000006 = 0)  (hk : Kept kK k0 kM s) :
    Kept kK k0 kM (State.fmAdmit s cls a rd wr).2 := by
  unfold State.fmAdmit
  repeat' first | with_reducible assumption | with_reducible apply State.mark_kept (wOff hm rfl) | with_reducible apply State.sealCount_kept (wOff hm rfl) | with_reducible apply Kept.ite | dsimp only | split

theorem State.readPieces_kept {a0 : State} {a1} {a2} (hm : kK &&& 0x401040006 = 0)  (hk : Kept kK k0 kM a0) :
    Kept kK k0 kM (State.readPieces a0 a1 a2).2 := by
  induction a1 generalizing a0 a2 with
  | nil => exact hk
  | cons p t ih =>
    obtain ⟨a, n⟩ := p
    unfold State.readPieces
    refine ih ?_
    have hc := State.checkLine_kept (wOff hm rfl) (k := stackOf (a0.phys a)) (line := lineOf (a0.phys a)) (e := a2.headD {}) hk
    split
    · exact hc
    · exact State.sealCount_kept (wOff hm rfl) hc

theorem State.readBlocks_kept {a0 : State} {a1} {a2} {a3} (hm : kK &&& 0x401040006 = 0)  (hk : Kept kK k0 kM a0) :
    Kept kK k0 kM (State.readBlocks a0 a1 a2 a3).2 := by
  induction a2 generalizing a0 a3 with
  | nil => exact hk
  | cons p t ih =>
    obtain ⟨a, n⟩ := p
    have ha := State.fmAdmit_kept (wOff hm rfl) (cls := a1) (a := a) (rd := true) (wr := false) hk
    unfold State.readBlocks
    split
    · rename_i e
      rw [e] at ha
      exact ha
    · rename_i e
      rw [e] at ha
      exact ih (State.readPieces_kept (wOff hm rfl) ha)

theorem State.fmRead_kept {s : State} {cls} {a} {n} {es} (hm : kK &&& 0x401040006 = 0)  (hk : Kept kK k0 kM s) :
    Kept kK k0 kM (State.fmRead s cls a n es).2 := by
  unfold State.fmRead
  repeat' first | with_reducible assumption | with_reducible apply State.readBlocks_kept (wOff hm rfl) | (refine Kept.sndEq (x := (State.readBlocks _ _ _ _)) (by assumption) ?_) | dsimp only | split

theorem State.writePieces_kept {a0 : State} {a1} {a2} {a3} {a4} {a5} (hm : kK &&& 0x401040016 = 0) (hM : Closed kM)  (hk : Kept kK k0 kM a0) :
    Kept kK k0 kM (State.writePieces a0 a1 a2 a3 a4 a5).2 := by
  induction a1 generalizing a0 a2 a3 a5 with
  | nil => exact hk
  | cons p t ih =>
    obtain ⟨a, n⟩ := p
    have hw := State.writeLine_kept (wOff hm rfl) (k := stackOf (a0.phys a)) (line := lineOf (a0.phys a)) (a := a) (bs := a3.take n)
      (poison := badIn a4 a2 n) (e := a5.headD {}) hM hk
    unfold State.writePieces
    dsimp only
    split
    · rename_i s1 e
      rw [e] at hw
      exact ih hw
    · exact hw

theorem State.writeBlocks_kept {a0 : State} {a1} {a2} {a3} {a4} {a5} {a6} (hm : kK &&& 0x401040016 = 0) (hM : Closed kM)  (hk : Kept kK k0 kM a0) :
    Kept kK k0 kM (State.writeBlocks a0 a1 a2 a3 a4 a5 a6).2 := by
  induction a2 generalizing a0 a3 a4 a6 with
  | nil => exact hk
  | cons p t ih =>
    obtain ⟨a, n⟩ := p
    have ha := State.fmAdmit_kept (wOff hm rfl) (cls := a1) (a := a) (rd := false) (wr := true) hk
    unfold State.writeBlocks
    split
    · rename_i e
      rw [e] at ha
      exact ha
    · rename_i s1 e
      rw [e] at ha
      have hp := State.writePieces_kept (wOff hm rfl) (a1 := linePieces a n) (a2 := a3) (a3 := a4.take n) (a4 := a5) (a5 := a6) hM ha
      split
      · rename_i s2 e2
        rw [e2] at hp
        exact ih hp
      · exact hp

theorem State.setFmWaits_kept {s : State} {l} (hm : kK &&& 0x1000000 = 0)  (hk : Kept kK k0 kM s) :
    Kept kK k0 kM (State.setFmWaits s l) := by
  unfold State.setFmWaits
  repeat' first | with_reducible assumption | simp only [Kept.mk_fm (wOff hm rfl)] | dsimp only | split

theorem State.fmWrite_kept {s : State} {cls} {a} {bs} {bad} {es} (hm : kK &&& 0x401040016 = 0) (hM : Closed kM)  (hk : Kept kK k0 kM s) :
    Kept kK k0 kM (State.fmWrite s cls a bs bad es).2 := by
  unfold State.fmWrite
  repeat' first | with_reducible assumption | with_reducible apply State.fmAdmit_kept (wOff hm rfl) | with_reducible apply State.writeBlocks_kept (wOff hm rfl) hM | with_reducible apply Kept.ite | (refine Kept.sndEq (x := (State.fmAdmit _ _ _ _ _)) (by assumption) ?_) | (refine Kept.sndEq (x := (State.writeBlocks _ _ _ _ _ _ _)) (by assumption) ?_) | dsimp only | split

theorem State.pcieCompletion_kept {s : State} {r} (hm : kK &&& 0x2 = 0)  (hk : Kept kK k0 kM s) :
    Kept kK k0 kM (State.pcieCompletion s r) := by
  unfold State.pcieCompletion
  repeat' first | with_reducible assumption | with_reducible apply State.raise_kept (wOff hm rfl) | with_reducible apply Kept.ite | dsimp only | split

theorem State.fmAnswer_kept {s : State} {cls} {adm} {a} {n} {es} (hm : kK &&& 0x401040206 = 0)  (hk : Kept kK k0 kM s) :
    Kept kK k0 kM (State.fmAnswer s cls adm a n es) := by
  unfold State.fmAnswer
  repeat' first | with_reducible assumption | with_reducible apply State.emit_kept (wOff hm rfl) | with_reducible apply State.fmRead_kept (wOff hm rfl) | with_reducible apply State.pcieCompletion_kept (wOff hm rfl) | with_reducible apply Kept.ite | (refine Kept.sndEq (x := (State.fmRead _ _ _ _ _)) (by assumption) ?_) | dsimp only | split

theorem State.fmWaits_kept {s : State} {w} (hm : kK &&& 0x1000000 = 0)  (hk : Kept kK k0 kM s) :
    Kept kK k0 kM (State.fmWaits s w) := by
  unfold State.fmWaits
  repeat' first | with_reducible assumption | simp only [Kept.mk_fm (wOff hm rfl)] | dsimp only | split

theorem State.fmRetry_kept {s : State} {w} (hm : kK &&& 0x401040216 = 0) (hM : Closed kM)  (hk : Kept kK k0 kM s) :
    KeptO kK k0 kM id (State.fmRetry s w) := by
  unfold State.fmRetry
  repeat' first | with_reducible assumption | with_reducible apply State.emit_kept (wOff hm rfl) | with_reducible apply State.writeBlocks_kept (wOff hm rfl) hM | with_reducible apply State.fmAnswer_kept (wOff hm rfl) | with_reducible apply Kept.ite | with_reducible apply KeptO.some | exact KeptO.none | (refine Kept.sndEq (x := (State.writeBlocks _ _ _ _ _ _ _)) (by assumption) ?_) | simp only [id] | dsimp only | split

theorem State.fmRetryAll_kept {s : State} (hm : kK &&& 0x401040216 = 0) (hM : Closed kM)  (hk : Kept kK k0 kM s) :
    Kept kK k0 kM (State.fmRetryAll s) := by
  unfold State.fmRetryAll
  repeat' first | with_reducible assumption | with_reducible apply State.fmWaits_kept (wOff hm rfl) | with_reducible apply State.fmRetry_kept (wOff hm rfl) hM | with_reducible apply Kept.ite | with_reducible refine Kept.foldl ?_ (fun _ _ _ => ?_) | with_reducible refine Kept.foldlIn Prod.snd ?_ (fun _ _ _ => ?_) | with_reducible refine Kept.foldlIn (fun p => p.2.2) ?_ (fun _ _ _ => ?_) | (refine KeptO.get (f := id) (o := (State.fmRetry _ _)) (by assumption) ?_) | with_reducible refine KeptO.getD ?_ ?_ | simp only [Kept.mk_fm (wOff hm rfl)] | dsimp only | split

theorem execFrameMemoryRead_kept {cls} {a} {n} {es} {s : State} (hm : kK &&& 0x401040206 = 0)  (hk : Kept kK k0 kM s) :
    KeptR kK k0 kM (execFrameMemoryRead cls a n es s) := by
  unfold execFrameMemoryRead
  repeat' first | with_reducible assumption | with_reducible apply State.fmAdmit_kept (wOff hm rfl) | with_reducible apply State.fmAnswer_kept (wOff hm rfl) | with_reducible apply State.fmWaits_kept (wOff hm rfl) | with_reducible apply Kept.ite | with_reducible apply KeptR.next | (refine Kept.sndEq (x := (State.fmAdmit _ _ _ _ _)) (by assumption) ?_) | dsimp only | split

theorem execFrameMemoryWrite_kept {cls} {a} {bs} {poison} {posted} {es} {s : State} (hm : kK &&& 0x401040216 = 0) (hM : Closed kM)  (hk : Kept kK k0 kM s) :
    KeptR kK k0 kM (execFrameMemoryWrite cls a bs poison posted es s) := by
  unfold execFrameMemoryWrite
  repeat' first | with_reducible assumption | with_reducible apply State.emit_kept (wOff hm rfl) | with_reducible apply State.fmWrite_kept (wOff hm rfl) hM | with_reducible apply State.fmWaits_kept (wOff hm rfl) | with_reducible apply Kept.ite | with_reducible apply KeptR.next | (refine Kept.sndEq (x := (State.fmWrite _ _ _ _ _ _)) (by assumption) ?_) | dsimp only | split

theorem execDramRefresh_kept {k} {ch} {s : State} (hm : kK &&& 0x1000000 = 0)  (hk : Kept kK k0 kM s) :
    KeptR kK k0 kM (execDramRefresh k ch s) := by
  unfold execDramRefresh
  repeat' first | with_reducible assumption | with_reducible apply Kept.ite | with_reducible apply KeptR.next | simp only [Kept.mk_fm (wOff hm rfl)] | dsimp only | split

theorem execCorrectedWriteback_kept {k} {line} {s : State} (hm : kK &&& 0x401000006 = 0)  (hk : Kept kK k0 kM s) :
    KeptR kK k0 kM (execCorrectedWriteback k line s) := by
  unfold execCorrectedWriteback
  repeat' first | with_reducible assumption | with_reducible apply State.fmcCount_kept (wOff hm rfl) | with_reducible apply Kept.ite | with_reducible apply KeptR.next | simp only [Kept.mk_fm (wOff hm rfl)] | dsimp only | split

theorem State.dropPoisons_kept {s : State} {k} {lo} {hi} (hm : kK &&& 0x1000002 = 0)  (hk : Kept kK k0 kM s) :
    Kept kK k0 kM (State.dropPoisons s k lo hi) := by
  unfold State.dropPoisons
  repeat' first | with_reducible assumption | with_reducible apply State.dropPoison_kept (wOff hm rfl) | with_reducible apply Kept.ite | with_reducible refine Kept.foldl ?_ (fun _ _ _ => ?_) | with_reducible refine Kept.foldlIn Prod.snd ?_ (fun _ _ _ => ?_) | with_reducible refine Kept.foldlIn (fun p => p.2.2) ?_ (fun _ _ _ => ?_) | dsimp only | split

theorem State.wroteLines_kept {s : State} {k} {lo} {hi} {key} (hm : kK &&& 0x1000002 = 0)  (hk : Kept kK k0 kM s) :
    Kept kK k0 kM (State.wroteLines s k lo hi key) := by
  unfold State.wroteLines
  repeat' first | with_reducible assumption | with_reducible apply State.dropPoisons_kept (wOff hm rfl) | simp only [Kept.mk_fm (wOff hm rfl)] | dsimp only | split

theorem State.fillLines_kept {s : State} {k} {lo} {hi} {key} (hm : kK &&& 0x1000012 = 0) (hM : Closed kM)  (hk : Kept kK k0 kM s) :
    Kept kK k0 kM (State.fillLines s k lo hi key) := by
  exact State.wroteLines_kept (wOff hm rfl) (Kept.up_mem (wOff hm rfl) hk (hM.filter _ _ hk.2))

theorem State.openSlot_kept {s : State} {k} {x} {isSealed} {staging} {rights} {base} {limit} {state} (hm : kK &&& 0x2 = 0)  (hk : Kept kK k0 kM s) :
    Kept kK k0 kM (State.openSlot s k x isSealed staging rights base limit state) := by
  unfold State.openSlot
  repeat' first | with_reducible assumption | with_reducible apply State.setF_kept (wOff hm rfl) | with_reducible apply State.raise_kept (wOff hm rfl) | with_reducible apply State.setB_kept (wOff hm rfl) | dsimp only | split

theorem State.createSector_kept {s : State} {k} {x} {c} (hm : kK &&& 0x401000016 = 0) (hM : Closed kM)  (hk : Kept kK k0 kM s) :
    Kept kK k0 kM (State.createSector s k x c) := by
  unfold State.createSector
  repeat' first | with_reducible assumption | with_reducible apply State.signal_kept (wOff hm rfl) | with_reducible apply State.setSect_kept (wOff hm rfl) | with_reducible apply State.fmcCount_kept (wOff hm rfl) | with_reducible apply State.fillLines_kept (wOff hm rfl) hM | with_reducible apply State.openSlot_kept (wOff hm rfl) | with_reducible apply Kept.ite | simp only [Kept.mk_fm (wOff hm rfl)] | dsimp only | split

theorem State.freeSlot_kept {s : State} {k} {x} (hm : kK &&& 0x1000002 = 0)  (hk : Kept kK k0 kM s) :
    Kept kK k0 kM (State.freeSlot s k x) := by
  unfold State.freeSlot
  repeat' first | with_reducible assumption | with_reducible apply State.showEarly_kept (wOff hm rfl) | simp only [Kept.mk_regs_fm (wOff hm rfl)] | dsimp only | split

theorem State.endRekey_kept {s : State} {k} {x} {st} (hm : kK &&& 0x401008006 = 0)  (hk : Kept kK k0 kM s) :
    Kept kK k0 kM (State.endRekey s k x st) := by
  unfold State.endRekey
  repeat' first | with_reducible assumption | with_reducible apply State.completeOf_kept (wOff hm rfl) | with_reducible apply State.setSect_kept (wOff hm rfl) | dsimp only | split

theorem State.fmEnd_kept {s : State} {k} {x} {abort} {w} (hm : kK &&& 0x401040216 = 0) (hM : Closed kM)  (hk : Kept kK k0 kM s) :
    Kept kK k0 kM (State.fmEnd s k x abort w) := by
  unfold State.fmEnd
  repeat' first | with_reducible assumption | with_reducible apply State.emit_kept (wOff hm rfl) | with_reducible apply State.putFm_kept (wOff hm rfl) hM | with_reducible apply State.setLine_kept (wOff hm rfl) | with_reducible apply State.fmAnswer_kept (wOff hm rfl) | with_reducible apply Kept.ite | with_reducible refine Kept.foldl ?_ (fun _ _ _ => ?_) | with_reducible refine Kept.foldlIn Prod.snd ?_ (fun _ _ _ => ?_) | with_reducible refine Kept.foldlIn (fun p => p.2.2) ?_ (fun _ _ _ => ?_) | dsimp only | split

theorem State.endWaits_kept {s : State} {k} {x} {abort} (hm : kK &&& 0x401040216 = 0) (hM : Closed kM)  (hk : Kept kK k0 kM s) :
    Kept kK k0 kM (State.endWaits s k x abort) := by
  unfold State.endWaits
  repeat' first | with_reducible assumption | with_reducible apply State.fmEnd_kept (wOff hm rfl) hM | with_reducible refine Kept.foldl ?_ (fun _ _ _ => ?_) | with_reducible refine Kept.foldlIn Prod.snd ?_ (fun _ _ _ => ?_) | with_reducible refine Kept.foldlIn (fun p => p.2.2) ?_ (fun _ _ _ => ?_) | simp only [Kept.mk_fm (wOff hm rfl)] | dsimp only | split

theorem State.removeSector_kept {s0 : State} {k} {x} {abort} (hm : kK &&& 0x401048216 = 0) (hM : Closed kM)  (hk : Kept kK k0 kM s0) :
    Kept kK k0 kM (State.removeSector s0 k x abort) := by
  unfold State.removeSector
  repeat' first | with_reducible assumption | with_reducible apply State.setF_kept (wOff hm rfl) | with_reducible apply State.lower_kept (wOff hm rfl) | with_reducible apply State.signal_kept (wOff hm rfl) | with_reducible apply State.endRekey_kept (wOff hm rfl) | with_reducible apply State.endWaits_kept (wOff hm rfl) hM | dsimp only | split

theorem execSectorSet_kept {c} {s : State} (hm : kK &&& 0x401048216 = 0) (hM : Closed kM)  (hk : Kept kK k0 kM s) :
    KeptR kK k0 kM (execSectorSet c s) := by
  unfold execSectorSet
  repeat' first | with_reducible assumption | with_reducible apply State.immediate_kept (wOff hm rfl) | with_reducible apply State.createSector_kept (wOff hm rfl) hM | with_reducible apply State.removeSector_kept (wOff hm rfl) hM | with_reducible apply Kept.ite | with_reducible apply KeptR.next | (intro u hu) | simp only [id] | dsimp only | split

theorem execSectorSetQuery_kept {c} {s : State} (hm : kK &&& 0x8000 = 0)  (hk : Kept kK k0 kM s) :
    KeptR kK k0 kM (execSectorSetQuery c s) := by
  unfold execSectorSetQuery
  repeat' first | with_reducible assumption | with_reducible refine State.immediate_kept_quiet (wOff hm rfl) (fun _ _ => State.retriesFail_silent (by decide)) ?_ ?_ | with_reducible apply KeptR.next | (intro u hu) | simp only [id] | dsimp only | split

theorem execSectorInitDone_kept {k} {x} {s : State} (hm : kK &&& 0x400000006 = 0)  (hk : Kept kK k0 kM s) :
    KeptR kK k0 kM (execSectorInitDone k x s) := by
  unfold execSectorInitDone
  repeat' first | with_reducible assumption | with_reducible apply State.setF_kept (wOff hm rfl) | with_reducible apply State.signal_kept (wOff hm rfl) | with_reducible apply Kept.ite | with_reducible apply KeptR.next | dsimp only | split

theorem execSectorRemoveDone_kept {k} {x} {s : State} (hm : kK &&& 0x401000006 = 0)  (hk : Kept kK k0 kM s) :
    KeptR kK k0 kM (execSectorRemoveDone k x s) := by
  unfold execSectorRemoveDone
  repeat' first | with_reducible assumption | with_reducible apply State.signal_kept (wOff hm rfl) | with_reducible apply State.freeSlot_kept (wOff hm rfl) | with_reducible apply Kept.ite | with_reducible apply KeptR.next | dsimp only | split

theorem execSectorRights_kept {c} {s : State} (hm : kK &&& 0x8002 = 0)  (hk : Kept kK k0 kM s) :
    KeptR kK k0 kM (execSectorRights c s) := by
  unfold execSectorRights
  repeat' first | with_reducible assumption | with_reducible apply State.setF_kept (wOff hm rfl) | with_reducible apply State.immediate_kept (wOff hm rfl) | with_reducible apply KeptR.next | (intro u hu) | simp only [id] | dsimp only | split

theorem execSectorRightsQuery_kept {c} {s : State} (hm : kK &&& 0x8000 = 0)  (hk : Kept kK k0 kM s) :
    KeptR kK k0 kM (execSectorRightsQuery c s) := by
  unfold execSectorRightsQuery
  repeat' first | with_reducible assumption | with_reducible refine State.immediate_kept_quiet (wOff hm rfl) (fun _ _ => State.retriesFail_silent (by decide)) ?_ ?_ | with_reducible apply KeptR.next | (intro u hu) | simp only [id] | dsimp only | split

theorem execRekeySweepStart_kept {k} {x} {s : State} (hm : kK &&& 0x401000006 = 0)  (hk : Kept kK k0 kM s) :
    KeptR kK k0 kM (execRekeySweepStart k x s) := by
  unfold execRekeySweepStart
  repeat' first | with_reducible assumption | with_reducible apply State.startSweep_kept (wOff hm rfl) | with_reducible apply Kept.ite | with_reducible apply KeptR.next | dsimp only | split

theorem State.sweepTo_kept {s : State} {k} {x} {p} (hm : kK &&& 0x401000006 = 0)  (hk : Kept kK k0 kM s) :
    Kept kK k0 kM (State.sweepTo s k x p) := by
  unfold State.sweepTo
  repeat' first | with_reducible assumption | with_reducible apply State.setF_kept (wOff hm rfl) | with_reducible apply State.setSect_kept (wOff hm rfl) | with_reducible apply State.fmcCount_kept (wOff hm rfl) | with_reducible apply State.sealCount_kept (wOff hm rfl) | with_reducible apply State.showEarly_kept (wOff hm rfl) | dsimp only | split

theorem State.sweepRun_kept {s : State} {ns} {key} (hm : kK &&& 0x401000006 = 0)  (hk : Kept kK k0 kM s) :
    Kept kK k0 kM (State.sweepRun s ns key) := by
  unfold State.sweepRun
  repeat' first | with_reducible assumption | with_reducible apply State.setB_kept (wOff hm rfl) | with_reducible apply State.setSect_kept (wOff hm rfl) | with_reducible apply State.sweepTo_kept (wOff hm rfl) | with_reducible apply Kept.ite | dsimp only | split

theorem State.fmRun_kept {s : State} {ns} (hm : kK &&& 0x401040216 = 0) (hM : Closed kM)  (hk : Kept kK k0 kM s) :
    Kept kK k0 kM (State.fmRun s ns) := by
  unfold State.fmRun
  repeat' first | with_reducible assumption | with_reducible apply State.fmRetryAll_kept (wOff hm rfl) hM | with_reducible apply State.sweepRun_kept (wOff hm rfl) | with_reducible apply Kept.ite | with_reducible refine Kept.foldl ?_ (fun _ _ _ => ?_) | with_reducible refine Kept.foldlIn Prod.snd ?_ (fun _ _ _ => ?_) | with_reducible refine Kept.foldlIn (fun p => p.2.2) ?_ (fun _ _ _ => ?_) | dsimp only | split

theorem State.sweepDone_kept {s : State} {k} {x} (hm : kK &&& 0x401040216 = 0) (hM : Closed kM)  (hk : Kept kK k0 kM s) :
    Kept kK k0 kM (State.sweepDone s k x) := by
  unfold State.sweepDone
  repeat' first | with_reducible assumption | with_reducible apply State.setF_kept (wOff hm rfl) | with_reducible apply State.lower_kept (wOff hm rfl) | with_reducible apply State.mark_kept (wOff hm rfl) | with_reducible apply State.setSect_kept (wOff hm rfl) | with_reducible apply State.fmRetryAll_kept (wOff hm rfl) hM | with_reducible apply State.sweepTo_kept (wOff hm rfl) | with_reducible apply Kept.ite | simp only [Kept.mk_fm (wOff hm rfl)] | dsimp only | split

theorem execRekeySweepDone_kept {k} {x} {s : State} (hm : kK &&& 0x401040216 = 0) (hM : Closed kM)  (hk : Kept kK k0 kM s) :
    KeptR kK k0 kM (execRekeySweepDone k x s) := by
  unfold execRekeySweepDone
  repeat' first | with_reducible assumption | with_reducible apply State.sweepDone_kept (wOff hm rfl) hM | with_reducible apply Kept.ite | with_reducible apply KeptR.next | dsimp only | split

theorem execRekeyNow_kept {c} {s : State} (hm : kK &&& 0x401008006 = 0)  (hk : Kept kK k0 kM s) :
    KeptR kK k0 kM (execRekeyNow c s) := by
  unfold execRekeyNow
  repeat' first | with_reducible assumption | with_reducible apply State.long_kept (wOff hm rfl) | with_reducible apply State.startSweep_kept (wOff hm rfl) | with_reducible apply KeptR.next | (intro u hu) | simp only [id] | dsimp only | split

theorem execRekeyNowCompletion_kept {k} {x} {s : State} (hm : kK &&& 0x401008006 = 0)  (hk : Kept kK k0 kM s) :
    KeptR kK k0 kM (execRekeyNowCompletion k x s) := by
  unfold execRekeyNowCompletion
  repeat' first | with_reducible assumption | with_reducible apply State.completeOf_kept (wOff hm rfl) | with_reducible apply State.setSect_kept (wOff hm rfl) | with_reducible apply KeptR.next | dsimp only | split

theorem State.abandonSweep_kept {s : State} {k} {x} (hm : kK &&& 0x401040216 = 0) (hM : Closed kM)  (hk : Kept kK k0 kM s) :
    Kept kK k0 kM (State.abandonSweep s k x) := by
  unfold State.abandonSweep
  repeat' first | with_reducible assumption | with_reducible apply State.setF_kept (wOff hm rfl) | with_reducible apply State.lower_kept (wOff hm rfl) | with_reducible apply State.setSect_kept (wOff hm rfl) | with_reducible apply State.showEarly_kept (wOff hm rfl) | with_reducible apply State.fmRetryAll_kept (wOff hm rfl) hM | with_reducible apply Kept.ite | simp only [Kept.mk_fm (wOff hm rfl)] | dsimp only | split

theorem State.dropSectors_kept {s : State} {k} (hm : kK &&& 0x401008006 = 0)  (hk : Kept kK k0 kM s) :
    Kept kK k0 kM (State.dropSectors s k) := by
  unfold State.dropSectors
  repeat' first | with_reducible assumption | with_reducible apply State.lower_kept (wOff hm rfl) | with_reducible apply State.setOrder_kept (wOff hm rfl) | with_reducible apply State.freeSlot_kept (wOff hm rfl) | with_reducible apply State.endRekey_kept (wOff hm rfl) | with_reducible refine Kept.foldl ?_ (fun _ _ _ => ?_) | with_reducible refine Kept.foldlIn Prod.snd ?_ (fun _ _ _ => ?_) | with_reducible refine Kept.foldlIn (fun p => p.2.2) ?_ (fun _ _ _ => ?_) | dsimp only | split

theorem State.zeroStack_kept {s : State} {k} (hm : kK &&& 0x1000012 = 0) (hM : Closed kM)  (hk : Kept kK k0 kM s) :
    Kept kK k0 kM (State.zeroStack s k) := by
  unfold State.zeroStack
  repeat' first | with_reducible assumption | with_reducible apply State.fillLines_kept (wOff hm rfl) hM | dsimp only | split

end Sys2Proof.Machine
end

