-- ==== Sys2Proof/Laws/KeptRingOps.lean ====
section
/-! SUPPORT. The operations of Sys2Proof/Machine/RingOps.lean leave alone what `Kept` names. -/
namespace Sys2Proof.Machine
set_option linter.unusedSimpArgs false
set_option linter.unusedVariables false
variable {kK : Nat} {k0 : State} {kM : List Host.Cell → Prop}

theorem State.changeRoutes_kept {s : State} {c} (hm : kK &&& 0x10000000 = 0)  (hk : Kept kK k0 kM s) :
    Kept kK k0 kM (State.changeRoutes s c) := by
  unfold State.changeRoutes
  repeat' first | with_reducible assumption | with_reducible apply Kept.ite | simp only [Kept.mk_ring (wOff hm rfl)] | dsimp only | split

theorem State.setLink_kept {s : State} {vk} {dir} {l} (hm : kK &&& 0x10000000 = 0)  (hk : Kept kK k0 kM s) :
    Kept kK k0 kM (State.setLink s vk dir l) := by
  unfold State.setLink
  repeat' first | with_reducible assumption | simp only [Kept.mk_ring (wOff hm rfl)] | dsimp only | split

theorem State.setVq_kept {s : State} {vk} {inp} {vc} {l} (hm : kK &&& 0x10000000 = 0)  (hk : Kept kK k0 kM s) :
    Kept kK k0 kM (State.setVq s vk inp vc l) := by
  unfold State.setVq
  repeat' first | with_reducible assumption | simp only [Kept.mk_ring (wOff hm rfl)] | dsimp only | split

theorem State.setNi_kept {s : State} {vk} {n} (hm : kK &&& 0x10000000 = 0)  (hk : Kept kK k0 kM s) :
    Kept kK k0 kM (State.setNi s vk n) := by
  unfold State.setNi
  repeat' first | with_reducible assumption | simp only [Kept.mk_ring (wOff hm rfl)] | dsimp only | split

theorem State.niMark_kept {s : State} {vk} {f} {k} (hm : kK &&& 0x400000006 = 0)  (hk : Kept kK k0 kM s) :
    Kept kK k0 kM (State.niMark s vk f k) := by
  unfold State.niMark
  repeat' first | with_reducible assumption | with_reducible apply State.mark_kept (wOff hm rfl) | dsimp only | split

theorem State.niCount_kept {s : State} {vk} {f} {n} (hm : kK &&& 0x400000006 = 0)  (hk : Kept kK k0 kM s) :
    Kept kK k0 kM (State.niCount s vk f n) := by
  unfold State.niCount
  repeat' first | with_reducible assumption | with_reducible apply State.count_kept (wOff hm rfl) | dsimp only | split

theorem State.loseAt_kept {s : State} {vk} {tag} (hm : kK &&& 0x10000000 = 0)  (hk : Kept kK k0 kM s) :
    Kept kK k0 kM (State.loseAt s vk tag) := by
  unfold State.loseAt
  repeat' first | with_reducible assumption | with_reducible apply State.setNi_kept (wOff hm rfl) | with_reducible apply Kept.ite | dsimp only | split

theorem State.dropCount_kept {s : State} {vk} (hm : kK &&& 0x400000006 = 0)  (hk : Kept kK k0 kM s) :
    Kept kK k0 kM (State.dropCount s vk) := by
  unfold State.dropCount
  repeat' first | with_reducible assumption | with_reducible apply State.niMark_kept (wOff hm rfl) | with_reducible apply State.niCount_kept (wOff hm rfl) | dsimp only | split

theorem State.loseFrame_kept {s : State} {p} (hm : kK &&& 0x10000000 = 0)  (hk : Kept kK k0 kM s) :
    Kept kK k0 kM (State.loseFrame s p) := by
  unfold State.loseFrame
  repeat' first | with_reducible assumption | with_reducible apply State.setVq_kept (wOff hm rfl) | with_reducible apply State.setNi_kept (wOff hm rfl) | with_reducible apply Kept.ite | dsimp only | split

theorem State.dropPkt_kept {s : State} {vk} {p} (hm : kK &&& 0x410000006 = 0)  (hk : Kept kK k0 kM s) :
    Kept kK k0 kM (State.dropPkt s vk p) := by
  unfold State.dropPkt
  repeat' first | with_reducible assumption | with_reducible apply State.loseAt_kept (wOff hm rfl) | with_reducible apply State.dropCount_kept (wOff hm rfl) | with_reducible apply State.loseFrame_kept (wOff hm rfl) | with_reducible apply Kept.ite | dsimp only | split

theorem State.queueLocal_kept {s : State} {vk} {q} (hm : kK &&& 0x10000000 = 0)  (hk : Kept kK k0 kM s) :
    Kept kK k0 kM (State.queueLocal s vk q) := by
  unfold State.queueLocal
  repeat' first | with_reducible assumption | with_reducible apply State.setVq_kept (wOff hm rfl) | with_reducible apply State.setNi_kept (wOff hm rfl) | with_reducible apply Kept.ite | dsimp only | split

theorem State.refill_kept {s : State} {vk} (hm : kK &&& 0x10000000 = 0)  (hk : Kept kK k0 kM s) :
    Kept kK k0 kM (State.refill s vk) := by
  unfold State.refill
  repeat' first | with_reducible assumption | with_reducible apply State.setNi_kept (wOff hm rfl) | with_reducible apply State.queueLocal_kept (wOff hm rfl) | with_reducible refine Kept.foldl ?_ (fun _ _ _ => ?_) | with_reducible refine Kept.foldlIn Prod.snd ?_ (fun _ _ _ => ?_) | with_reducible refine Kept.foldlIn (fun p => p.2.2) ?_ (fun _ _ _ => ?_) | dsimp only | split

theorem State.enqueue_kept {s : State} {vk} {p} (hm : kK &&& 0x10000000 = 0)  (hk : Kept kK k0 kM s) :
    Kept kK k0 kM (State.enqueue s vk p) := by
  unfold State.enqueue
  repeat' first | with_reducible assumption | with_reducible apply State.setNi_kept (wOff hm rfl) | with_reducible apply State.queueLocal_kept (wOff hm rfl) | dsimp only | split

theorem State.send_kept {s : State} {vk} {p} (hm : kK &&& 0x10000000 = 0)  (hk : Kept kK k0 kM s) :
    Kept kK k0 kM (State.send s vk p) := by
  unfold State.send
  repeat' first | with_reducible assumption | with_reducible apply State.setNi_kept (wOff hm rfl) | with_reducible apply State.enqueue_kept (wOff hm rfl) | with_reducible apply Kept.ite | dsimp only | split

theorem State.respond_kept {s : State} {vk} {p} {op} {status} {data} {bad} (hm : kK &&& 0x10000000 = 0)  (hk : Kept kK k0 kM s) :
    Kept kK k0 kM (State.respond s vk p op status data bad) := by
  unfold State.respond
  repeat' first | with_reducible assumption | with_reducible apply State.send_kept (wOff hm rfl) | with_reducible apply Kept.ite | dsimp only | split

theorem State.ucieSend_kept {s : State} {force} (hm : kK &&& 0x20000200 = 0)  (hk : Kept kK k0 kM s) :
    Kept kK k0 kM (State.ucieSend s force) := by
  unfold State.ucieSend
  repeat' first | with_reducible assumption | with_reducible apply State.emit_kept (wOff hm rfl) | with_reducible apply Kept.ite | simp only [Kept.mk_opt (wOff hm rfl)] | dsimp only | split

theorem State.ucieDrain_kept {s : State} (hm : kK &&& 0x20000200 = 0)  (hk : Kept kK k0 kM s) :
    Kept kK k0 kM (State.ucieDrain s) := by
  unfold State.ucieDrain
  repeat' first | with_reducible assumption | with_reducible apply State.ucieSend_kept (wOff hm rfl) | with_reducible apply Kept.ite | with_reducible refine Kept.foldl ?_ (fun _ _ _ => ?_) | with_reducible refine Kept.foldlIn Prod.snd ?_ (fun _ _ _ => ?_) | with_reducible refine Kept.foldlIn (fun p => p.2.2) ?_ (fun _ _ _ => ?_) | dsimp only | split

theorem State.toPartner_kept {s : State} {e} {p} (hm : kK &&& 0x20000200 = 0)  (hk : Kept kK k0 kM s) :
    Kept kK k0 kM (State.toPartner s e p) := by
  unfold State.toPartner
  repeat' first | with_reducible assumption | with_reducible apply State.ucieDrain_kept (wOff hm rfl) | simp only [Kept.mk_opt (wOff hm rfl)] | dsimp only | split

theorem State.ucieResend_kept {s : State} (hm : kK &&& 0x20000200 = 0)  (hk : Kept kK k0 kM s) :
    Kept kK k0 kM (State.ucieResend s) := by
  unfold State.ucieResend
  repeat' first | with_reducible assumption | with_reducible apply State.emit_kept (wOff hm rfl) | with_reducible refine Kept.foldl ?_ (fun _ _ _ => ?_) | with_reducible refine Kept.foldlIn Prod.snd ?_ (fun _ _ _ => ?_) | with_reducible refine Kept.foldlIn (fun p => p.2.2) ?_ (fun _ _ _ => ?_) | simp only [Kept.mk_opt (wOff hm rfl)] | dsimp only | split

end Sys2Proof.Machine
end

