-- ==== Sys2Proof/Laws/KeptGlenu.lean ====
section
/-! SUPPORT. The operations of Sys2Proof/Machine/Glenu.lean leave alone what `Kept` names. -/
namespace Sys2Proof.Machine
set_option linter.unusedSimpArgs false
set_option linter.unusedVariables false
variable {kK : Nat} {k0 : State} {kM : List Host.Cell → Prop}

theorem State.setGlink_kept {s : State} {k} {l} (hm : kK &&& 0x100000000 = 0)  (hk : Kept kK k0 kM s) :
    Kept kK k0 kM (State.setGlink s k l) := by
  unfold State.setGlink
  repeat' first | with_reducible assumption | simp only [Kept.mk_lat (wOff hm rfl)] | dsimp only | split

theorem State.toGl_kept {s : State} {k} {v} (hm : kK &&& 0x500000006 = 0)  (hk : Kept kK k0 kM s) :
    Kept kK k0 kM (State.toGl s k v) := by
  unfold State.toGl
  repeat' first | with_reducible assumption | with_reducible apply State.signal_kept (wOff hm rfl) | with_reducible apply State.setGlink_kept (wOff hm rfl) | with_reducible apply Kept.ite | dsimp only | split

theorem State.glOver_kept {s : State} {k} {full} (hm : kK &&& 0x500000006 = 0)  (hk : Kept kK k0 kM s) :
    Kept kK k0 kM (State.glOver s k full) := by
  unfold State.glOver
  repeat' first | with_reducible assumption | with_reducible apply State.signal_kept (wOff hm rfl) | with_reducible apply State.setGlink_kept (wOff hm rfl) | with_reducible apply Kept.ite | dsimp only | split

theorem State.glFail_kept {s : State} {k} (hm : kK &&& 0x500040006 = 0)  (hk : Kept kK k0 kM s) :
    Kept kK k0 kM (State.glFail s k) := by
  unfold State.glFail
  repeat' first | with_reducible assumption | with_reducible apply State.journal_kept (wOff hm rfl) | with_reducible apply State.toGl_kept (wOff hm rfl) | with_reducible apply Kept.ite | dsimp only | split

theorem State.glLaneLost_kept {s : State} {n} (hm : kK &&& 0x500000006 = 0)  (hk : Kept kK k0 kM s) :
    Kept kK k0 kM (State.glLaneLost s n) := by
  unfold State.glLaneLost
  repeat' first | with_reducible assumption | with_reducible apply State.toGl_kept (wOff hm rfl) | with_reducible apply Kept.ite | dsimp only | split

theorem State.glLaneFailed_kept {s : State} {n} (hm : kK &&& 0x500040006 = 0)  (hk : Kept kK k0 kM s) :
    Kept kK k0 kM (State.glLaneFailed s n) := by
  unfold State.glLaneFailed
  repeat' first | with_reducible assumption | with_reducible apply State.glFail_kept (wOff hm rfl) | dsimp only | split

end Sys2Proof.Machine
end

