-- ==== Sys2Proof/Laws/KeptLanes.lean ====
section
/-! SUPPORT. The operations of Sys2Proof/Machine/Lanes.lean leave alone what `Kept` names. -/
namespace Sys2Proof.Machine
set_option linter.unusedSimpArgs false
set_option linter.unusedVariables false
variable {kK : Nat} {k0 : State} {kM : List Host.Cell → Prop}

theorem State.setLaneX_kept {s : State} {n} {x} (hm : kK &&& 0x2000000 = 0)  (hk : Kept kK k0 kM s) :
    Kept kK k0 kM (State.setLaneX s n x) := by
  unfold State.setLaneX
  repeat' first | with_reducible assumption | simp only [Kept.mk_lanes (wOff hm rfl)] | dsimp only | split

theorem State.laneMark_kept {s : State} {n} {f} (hm : kK &&& 0x400000006 = 0)  (hk : Kept kK k0 kM s) :
    Kept kK k0 kM (State.laneMark s n f) := by
  unfold State.laneMark
  repeat' first | with_reducible assumption | with_reducible apply State.mark_kept (wOff hm rfl) | dsimp only | split

theorem State.laneCount_kept {s : State} {n} {f} {k} (hm : kK &&& 0x408000006 = 0)  (hk : Kept kK k0 kM s) :
    Kept kK k0 kM (State.laneCount s n f k) := by
  unfold State.laneCount
  repeat' first | with_reducible assumption | with_reducible apply State.count_kept (wOff hm rfl) | with_reducible apply State.protEvents_kept (wOff hm rfl) | with_reducible apply Kept.ite | dsimp only | split

theorem State.settleTx_kept {s : State} {n} (hm : kK &&& 0x2 = 0)  (hk : Kept kK k0 kM s) :
    Kept kK k0 kM (State.settleTx s n) := by
  unfold State.settleTx
  repeat' first | with_reducible assumption | with_reducible apply State.setB_kept (wOff hm rfl) | dsimp only | split

theorem State.newEq_kept {s : State} {n} (hm : kK &&& 0x2001000 = 0)  (hk : Kept kK k0 kM s) :
    Kept kK k0 kM (State.newEq s n) := by
  unfold State.newEq
  repeat' first | with_reducible assumption | with_reducible apply State.freeVal_kept (wOff hm rfl) | with_reducible apply State.setLaneX_kept (wOff hm rfl) | (refine Kept.sndEq (x := (State.freeVal _)) (by assumption) ?_) | dsimp only | split

theorem State.settleEq_kept {s : State} {n} (hm : kK &&& 0x2001000 = 0)  (hk : Kept kK k0 kM s) :
    Kept kK k0 kM (State.settleEq s n) := by
  unfold State.settleEq
  repeat' first | with_reducible assumption | with_reducible apply State.newEq_kept (wOff hm rfl) | with_reducible apply Kept.ite | dsimp only | split

theorem State.newPpm_kept {s : State} {n} (hm : kK &&& 0x2001002 = 0)  (hk : Kept kK k0 kM s) :
    Kept kK k0 kM (State.newPpm s n) := by
  unfold State.newPpm
  repeat' first | with_reducible assumption | with_reducible apply State.setF_kept (wOff hm rfl) | with_reducible apply State.freeVal_kept (wOff hm rfl) | with_reducible apply State.setLaneX_kept (wOff hm rfl) | with_reducible apply Kept.ite | (refine Kept.sndEq (x := (State.freeVal _)) (by assumption) ?_) | dsimp only | split

theorem State.toLane_kept {s : State} {n} {v} (hm : kK &&& 0x50a001006 = 0)  (hk : Kept kK k0 kM s) :
    Kept kK k0 kM (State.toLane s n v) := by
  unfold State.toLane
  repeat' first | with_reducible assumption | with_reducible apply State.setF_kept (wOff hm rfl) | with_reducible apply State.lower_kept (wOff hm rfl) | with_reducible apply State.signal_kept (wOff hm rfl) | with_reducible apply State.protBad_kept (wOff hm rfl) | with_reducible apply State.protCut_kept (wOff hm rfl) | with_reducible apply State.glLaneLost_kept (wOff hm rfl) | with_reducible apply State.settleTx_kept (wOff hm rfl) | with_reducible apply State.newEq_kept (wOff hm rfl) | with_reducible apply State.settleEq_kept (wOff hm rfl) | with_reducible apply State.newPpm_kept (wOff hm rfl) | with_reducible apply Kept.ite | dsimp only | split

theorem State.startRx_kept {s : State} {n} (hm : kK &&& 0x50a001006 = 0)  (hk : Kept kK k0 kM s) :
    Kept kK k0 kM (State.startRx s n) := by
  unfold State.startRx
  repeat' first | with_reducible assumption | with_reducible apply State.toLane_kept (wOff hm rfl) | with_reducible apply Kept.ite | dsimp only | split

theorem State.stopRx_kept {s : State} {n} (hm : kK &&& 0x50a001006 = 0)  (hk : Kept kK k0 kM s) :
    Kept kK k0 kM (State.stopRx s n) := by
  unfold State.stopRx
  repeat' first | with_reducible assumption | with_reducible apply State.lower_kept (wOff hm rfl) | with_reducible apply State.setLaneX_kept (wOff hm rfl) | with_reducible apply State.toLane_kept (wOff hm rfl) | dsimp only | split

theorem State.laneJournal_kept {s : State} {n} {permanent} (hm : kK &&& 0x400040006 = 0)  (hk : Kept kK k0 kM s) :
    Kept kK k0 kM (State.laneJournal s n permanent) := by
  unfold State.laneJournal
  repeat' first | with_reducible assumption | with_reducible apply State.journal_kept (wOff hm rfl) | dsimp only | split

theorem State.settleRefPpm_kept {s : State} {l} {k} (hm : kK &&& 0x1002 = 0)  (hk : Kept kK k0 kM s) :
    Kept kK k0 kM (State.settleRefPpm s l k) := by
  unfold State.settleRefPpm
  repeat' first | with_reducible assumption | with_reducible apply State.setF_kept (wOff hm rfl) | with_reducible apply State.lower_kept (wOff hm rfl) | with_reducible apply State.freeVal_kept (wOff hm rfl) | with_reducible apply Kept.ite | (refine Kept.sndEq (x := (State.freeVal _)) (by assumption) ?_) | dsimp only | split

theorem State.settleRefc_kept {s : State} {l} (hm : kK &&& 0x1002 = 0)  (hk : Kept kK k0 kM s) :
    Kept kK k0 kM (State.settleRefc s l) := by
  unfold State.settleRefc
  repeat' first | with_reducible assumption | with_reducible apply State.setF_kept (wOff hm rfl) | with_reducible apply State.raise_kept (wOff hm rfl) | with_reducible apply State.lower_kept (wOff hm rfl) | with_reducible apply State.settleRefPpm_kept (wOff hm rfl) | with_reducible refine Kept.foldl ?_ (fun _ _ _ => ?_) | with_reducible refine Kept.foldlIn Prod.snd ?_ (fun _ _ _ => ?_) | with_reducible refine Kept.foldlIn (fun p => p.2.2) ?_ (fun _ _ _ => ?_) | dsimp only | split

theorem State.putCal_kept {s : State} {l} {k} (hm : kK &&& 0x2 = 0)  (hk : Kept kK k0 kM s) :
    Kept kK k0 kM (State.putCal s l k) := by
  unfold State.putCal
  repeat' first | with_reducible assumption | with_reducible apply State.setF_kept (wOff hm rfl) | with_reducible apply State.setB_kept (wOff hm rfl) | dsimp only | split

theorem State.setCal_kept {s : State} {n} {on} (hm : kK &&& 0x2 = 0)  (hk : Kept kK k0 kM s) :
    Kept kK k0 kM (State.setCal s n on) := by
  unfold State.setCal
  repeat' first | with_reducible assumption | with_reducible apply State.putCal_kept (wOff hm rfl) | with_reducible apply Kept.ite | dsimp only | split

theorem State.calDrop_kept {s : State} {n} (hm : kK &&& 0x2 = 0)  (hk : Kept kK k0 kM s) :
    Kept kK k0 kM (State.calDrop s n) := by
  unfold State.calDrop
  repeat' first | with_reducible assumption | with_reducible apply State.setCal_kept (wOff hm rfl) | with_reducible apply Kept.ite | dsimp only | split

theorem State.calDone_kept {s : State} {g} (hm : kK &&& 0x2 = 0)  (hk : Kept kK k0 kM s) :
    Kept kK k0 kM (State.calDone s g) := by
  unfold State.calDone
  repeat' first | with_reducible assumption | with_reducible apply State.calDrop_kept (wOff hm rfl) | with_reducible refine Kept.foldl ?_ (fun _ _ _ => ?_) | with_reducible refine Kept.foldlIn Prod.snd ?_ (fun _ _ _ => ?_) | with_reducible refine Kept.foldlIn (fun p => p.2.2) ?_ (fun _ _ _ => ?_) | dsimp only | split

theorem State.calOn_kept {s : State} {l} (hm : kK &&& 0x1002 = 0)  (hk : Kept kK k0 kM s) :
    Kept kK k0 kM (State.calOn s l) := by
  unfold State.calOn
  repeat' first | with_reducible assumption | with_reducible apply State.freeVal_kept (wOff hm rfl) | with_reducible apply State.putCal_kept (wOff hm rfl) | with_reducible apply Kept.ite | (refine Kept.sndEq (x := (State.freeVal _)) (by assumption) ?_) | dsimp only | split

theorem State.retireLane_kept {s : State} {n} {cause} (hm : kK &&& 0x50a049006 = 0)  (hk : Kept kK k0 kM s) :
    Kept kK k0 kM (State.retireLane s n cause) := by
  unfold State.retireLane
  repeat' first | with_reducible assumption | with_reducible apply State.setF_kept (wOff hm rfl) | with_reducible apply State.signal_kept (wOff hm rfl) | with_reducible apply State.uncharge_kept (wOff hm rfl) | with_reducible apply State.endOps_kept (wOff hm rfl) | with_reducible apply State.glLaneFailed_kept (wOff hm rfl) | with_reducible apply State.setLaneX_kept (wOff hm rfl) | with_reducible apply State.toLane_kept (wOff hm rfl) | with_reducible apply State.laneJournal_kept (wOff hm rfl) | with_reducible apply State.calDrop_kept (wOff hm rfl) | dsimp only | split

theorem State.laneFault_kept {s : State} {n} (hm : kK &&& 0x50a049006 = 0)  (hk : Kept kK k0 kM s) :
    Kept kK k0 kM (State.laneFault s n) := by
  unfold State.laneFault
  repeat' first | with_reducible assumption | with_reducible apply State.glLaneFailed_kept (wOff hm rfl) | with_reducible apply State.laneMark_kept (wOff hm rfl) | with_reducible apply State.laneJournal_kept (wOff hm rfl) | with_reducible apply State.retireLane_kept (wOff hm rfl) | with_reducible apply Kept.ite | dsimp only | split

theorem execLaneSet_kept {c} {s : State} (hm : kK &&& 0x8002 = 0)  (hk : Kept kK k0 kM s) :
    KeptR kK k0 kM (execLaneSet c s) := by
  unfold execLaneSet
  repeat' first | with_reducible assumption | with_reducible apply State.long_kept (wOff hm rfl) | with_reducible apply KeptR.next | (intro u hu) | simp only [id] | dsimp only | split

theorem execLaneSetQuery_kept {c} {s : State} (hm : kK &&& 0x8000 = 0)  (hk : Kept kK k0 kM s) :
    KeptR kK k0 kM (execLaneSetQuery c s) := by
  unfold execLaneSetQuery
  repeat' first | with_reducible assumption | with_reducible refine State.immediate_kept_quiet (wOff hm rfl) (fun _ _ => State.retriesFail_silent (by decide)) ?_ ?_ | with_reducible apply KeptR.next | (intro u hu) | simp only [id] | dsimp only | split

theorem State.laneStore_kept {s : State} {n} {ws} (hm : kK &&& 0xa001002 = 0)  (hk : Kept kK k0 kM s) :
    Kept kK k0 kM (State.laneStore s n ws) := by
  unfold State.laneStore
  repeat' first | with_reducible assumption | with_reducible apply State.setF_kept (wOff hm rfl) | with_reducible apply State.protOversample_kept (wOff hm rfl) | with_reducible apply State.setLaneX_kept (wOff hm rfl) | with_reducible apply State.settleEq_kept (wOff hm rfl) | with_reducible apply Kept.ite | with_reducible refine Kept.foldl ?_ (fun _ _ _ => ?_) | with_reducible refine Kept.foldlIn Prod.snd ?_ (fun _ _ _ => ?_) | with_reducible refine Kept.foldlIn (fun p => p.2.2) ?_ (fun _ _ _ => ?_) | dsimp only | split

theorem State.laneApply_kept {s : State} {n} {ws} (hm : kK &&& 0x50a001006 = 0)  (hk : Kept kK k0 kM s) :
    Kept kK k0 kM (State.laneApply s n ws) := by
  unfold State.laneApply
  repeat' first | with_reducible assumption | with_reducible apply State.setLaneX_kept (wOff hm rfl) | with_reducible apply State.settleTx_kept (wOff hm rfl) | with_reducible apply State.startRx_kept (wOff hm rfl) | with_reducible apply State.stopRx_kept (wOff hm rfl) | with_reducible apply State.settleRefc_kept (wOff hm rfl) | with_reducible apply State.laneStore_kept (wOff hm rfl) | with_reducible apply Kept.ite | dsimp only | split

theorem execLaneSetAct_kept {n} {edge} {s : State} (hm : kK &&& 0x54a009c06 = 0)  (hk : Kept kK k0 kM s) :
    KeptR kK k0 kM (execLaneSetAct n edge s) := by
  unfold execLaneSetAct
  repeat' first | with_reducible assumption | with_reducible apply State.putOp_kept (wOff hm rfl) | with_reducible apply State.complete_kept (wOff hm rfl) | with_reducible apply State.reachAt_kept (wOff hm rfl) | with_reducible apply State.setLaneX_kept (wOff hm rfl) | with_reducible apply State.laneApply_kept (wOff hm rfl) | with_reducible apply Kept.ite | with_reducible apply KeptR.next | dsimp only | split

theorem execLaneSetCompletion_kept {n} {locked} {s : State} (hm : kK &&& 0x402008006 = 0)  (hk : Kept kK k0 kM s) :
    KeptR kK k0 kM (execLaneSetCompletion n locked s) := by
  unfold execLaneSetCompletion
  repeat' first | with_reducible assumption | with_reducible apply State.complete_kept (wOff hm rfl) | with_reducible apply State.setLaneX_kept (wOff hm rfl) | with_reducible apply State.settleTx_kept (wOff hm rfl) | with_reducible apply Kept.ite | with_reducible apply KeptR.next | dsimp only | split

theorem execLaneSignalDetect_kept {n} {s : State} (hm : kK &&& 0x50a001006 = 0)  (hk : Kept kK k0 kM s) :
    KeptR kK k0 kM (execLaneSignalDetect n s) := by
  unfold execLaneSignalDetect
  repeat' first | with_reducible assumption | with_reducible apply State.raise_kept (wOff hm rfl) | with_reducible apply State.toLane_kept (wOff hm rfl) | with_reducible apply Kept.ite | with_reducible apply KeptR.next | dsimp only | split

theorem execLaneSignalLoss_kept {n} {s : State} (hm : kK &&& 0x50a001006 = 0)  (hk : Kept kK k0 kM s) :
    KeptR kK k0 kM (execLaneSignalLoss n s) := by
  unfold execLaneSignalLoss
  repeat' first | with_reducible assumption | with_reducible apply State.lower_kept (wOff hm rfl) | with_reducible apply State.setLaneX_kept (wOff hm rfl) | with_reducible apply State.laneMark_kept (wOff hm rfl) | with_reducible apply State.laneCount_kept (wOff hm rfl) | with_reducible apply State.toLane_kept (wOff hm rfl) | with_reducible apply Kept.ite | with_reducible apply KeptR.next | dsimp only | split

theorem execLaneCdrLock_kept {n} {s : State} (hm : kK &&& 0x50a001006 = 0)  (hk : Kept kK k0 kM s) :
    KeptR kK k0 kM (execLaneCdrLock n s) := by
  unfold execLaneCdrLock
  repeat' first | with_reducible assumption | with_reducible apply State.setLaneX_kept (wOff hm rfl) | with_reducible apply State.toLane_kept (wOff hm rfl) | with_reducible apply Kept.ite | with_reducible apply KeptR.next | dsimp only | split

theorem execLaneLockTimeout_kept {n} {s : State} (hm : kK &&& 0x50a001006 = 0)  (hk : Kept kK k0 kM s) :
    KeptR kK k0 kM (execLaneLockTimeout n s) := by
  unfold execLaneLockTimeout
  repeat' first | with_reducible assumption | with_reducible apply State.toLane_kept (wOff hm rfl) | with_reducible apply Kept.ite | with_reducible apply KeptR.next | dsimp only | split

theorem execLaneAlignAcquire_kept {n} {pos} {s : State} (hm : kK &&& 0x50a001006 = 0)  (hk : Kept kK k0 kM s) :
    KeptR kK k0 kM (execLaneAlignAcquire n pos s) := by
  unfold execLaneAlignAcquire
  repeat' first | with_reducible assumption | with_reducible apply State.setLaneX_kept (wOff hm rfl) | with_reducible apply State.laneCount_kept (wOff hm rfl) | with_reducible apply State.toLane_kept (wOff hm rfl) | with_reducible apply Kept.ite | with_reducible apply KeptR.next | dsimp only | split

theorem execLaneHuntTimeout_kept {n} {s : State} (hm : kK &&& 0x50a001006 = 0)  (hk : Kept kK k0 kM s) :
    KeptR kK k0 kM (execLaneHuntTimeout n s) := by
  unfold execLaneHuntTimeout
  repeat' first | with_reducible assumption | with_reducible apply State.toLane_kept (wOff hm rfl) | with_reducible apply Kept.ite | with_reducible apply KeptR.next | dsimp only | split

theorem execLaneAlignLoss_kept {n} {s : State} (hm : kK &&& 0x50a049006 = 0)  (hk : Kept kK k0 kM s) :
    KeptR kK k0 kM (execLaneAlignLoss n s) := by
  unfold execLaneAlignLoss
  repeat' first | with_reducible assumption | with_reducible apply State.charge_kept (wOff hm rfl) | with_reducible apply State.laneMark_kept (wOff hm rfl) | with_reducible apply State.laneCount_kept (wOff hm rfl) | with_reducible apply State.toLane_kept (wOff hm rfl) | with_reducible apply State.laneFault_kept (wOff hm rfl) | with_reducible apply Kept.ite | with_reducible apply KeptR.next | (refine Kept.sndEq (x := (State.charge _ _)) (by assumption) ?_) | dsimp only | split

theorem execLaneRecoveryTimeout_kept {n} {s : State} (hm : kK &&& 0x50a049006 = 0)  (hk : Kept kK k0 kM s) :
    KeptR kK k0 kM (execLaneRecoveryTimeout n s) := by
  unfold execLaneRecoveryTimeout
  repeat' first | with_reducible assumption | with_reducible apply State.setLaneX_kept (wOff hm rfl) | with_reducible apply State.laneFault_kept (wOff hm rfl) | with_reducible apply Kept.ite | with_reducible apply KeptR.next | dsimp only | split

theorem execRefPinLost_kept {l} {k} {s : State} (hm : kK &&& 0x400001006 = 0)  (hk : Kept kK k0 kM s) :
    KeptR kK k0 kM (execRefPinLost l k s) := by
  unfold execRefPinLost
  repeat' first | with_reducible assumption | with_reducible apply State.lower_kept (wOff hm rfl) | with_reducible apply State.setBitOf_kept (wOff hm rfl) | with_reducible apply State.laneMark_kept (wOff hm rfl) | with_reducible apply State.settleRefPpm_kept (wOff hm rfl) | with_reducible apply KeptR.next | with_reducible refine Kept.foldl ?_ (fun _ _ _ => ?_) | with_reducible refine Kept.foldlIn Prod.snd ?_ (fun _ _ _ => ?_) | with_reducible refine Kept.foldlIn (fun p => p.2.2) ?_ (fun _ _ _ => ?_) | dsimp only | split

theorem execRefPinReturn_kept {l} {k} {s : State} (hm : kK &&& 0x2001002 = 0)  (hk : Kept kK k0 kM s) :
    KeptR kK k0 kM (execRefPinReturn l k s) := by
  unfold execRefPinReturn
  repeat' first | with_reducible assumption | with_reducible apply State.raise_kept (wOff hm rfl) | with_reducible apply State.setLaneX_kept (wOff hm rfl) | with_reducible apply State.settleTx_kept (wOff hm rfl) | with_reducible apply State.settleRefPpm_kept (wOff hm rfl) | with_reducible apply KeptR.next | with_reducible refine Kept.foldl ?_ (fun _ _ _ => ?_) | with_reducible refine Kept.foldlIn Prod.snd ?_ (fun _ _ _ => ?_) | with_reducible refine Kept.foldlIn (fun p => p.2.2) ?_ (fun _ _ _ => ?_) | dsimp only | split

theorem State.lanePrbs_kept {s : State} {n} {c} (hm : kK &&& 0x50a001206 = 0)  (hk : Kept kK k0 kM s) :
    Kept kK k0 kM (State.lanePrbs s n c) := by
  unfold State.lanePrbs
  repeat' first | with_reducible assumption | with_reducible apply State.lower_kept (wOff hm rfl) | with_reducible apply State.emit_kept (wOff hm rfl) | with_reducible apply State.setLaneX_kept (wOff hm rfl) | with_reducible apply State.toLane_kept (wOff hm rfl) | with_reducible apply Kept.ite | dsimp only | split

theorem execLanePrbs_kept {c} {s : State} (hm : kK &&& 0x50a009206 = 0)  (hk : Kept kK k0 kM s) :
    KeptR kK k0 kM (execLanePrbs c s) := by
  unfold execLanePrbs
  repeat' first | with_reducible assumption | with_reducible apply State.immediate_kept (wOff hm rfl) | with_reducible apply State.lanePrbs_kept (wOff hm rfl) | with_reducible apply KeptR.next | (intro u hu) | simp only [id] | dsimp only | split

theorem execLanePrbsQuery_kept {c} {s : State} (hm : kK &&& 0x8000 = 0)  (hk : Kept kK k0 kM s) :
    KeptR kK k0 kM (execLanePrbsQuery c s) := by
  unfold execLanePrbsQuery
  repeat' first | with_reducible assumption | with_reducible refine State.immediate_kept_quiet (wOff hm rfl) (fun _ _ => State.retriesFail_silent (by decide)) ?_ ?_ | with_reducible apply KeptR.next | (intro u hu) | simp only [id] | dsimp only | split

theorem execPrbsLock_kept {n} {s : State} (hm : kK &&& 0x2 = 0)  (hk : Kept kK k0 kM s) :
    KeptR kK k0 kM (execPrbsLock n s) := by
  unfold execPrbsLock
  repeat' first | with_reducible assumption | with_reducible apply State.raise_kept (wOff hm rfl) | with_reducible apply Kept.ite | with_reducible apply KeptR.next | dsimp only | split

theorem execPrbsLockLoss_kept {n} {s : State} (hm : kK &&& 0x400000006 = 0)  (hk : Kept kK k0 kM s) :
    KeptR kK k0 kM (execPrbsLockLoss n s) := by
  unfold execPrbsLockLoss
  repeat' first | with_reducible assumption | with_reducible apply State.lower_kept (wOff hm rfl) | with_reducible apply State.laneMark_kept (wOff hm rfl) | with_reducible apply Kept.ite | with_reducible apply KeptR.next | dsimp only | split

theorem execLaneEye_kept {c} {s : State} (hm : kK &&& 0x40a008006 = 0)  (hk : Kept kK k0 kM s) :
    KeptR kK k0 kM (execLaneEye c s) := by
  unfold execLaneEye
  repeat' first | with_reducible assumption | with_reducible apply State.putOp_kept (wOff hm rfl) | with_reducible apply State.long_kept (wOff hm rfl) | with_reducible apply State.protCut_kept (wOff hm rfl) | with_reducible apply State.setLaneX_kept (wOff hm rfl) | with_reducible apply KeptR.next | (intro u hu) | simp only [id] | dsimp only | split

theorem State.stewardStore_kept {s : State} {a} {bs} (hm : kK &&& 0x601040016 = 0) (hM : Closed kM)  (hk : Kept kK k0 kM s) :
    Kept kK k0 kM (State.stewardStore s a bs) := by
  unfold State.stewardStore
  repeat' first | with_reducible assumption | with_reducible apply State.store_kept (wOff hm rfl) hM | with_reducible apply State.fmWrite_kept (wOff hm rfl) hM | with_reducible apply Kept.ite | (refine Kept.sndEq (x := (State.fmWrite _ _ _ _ _ _)) (by assumption) ?_) | dsimp only | split

theorem execLaneEyeCompletion_kept {n} {counts} {s : State} (hm : kK &&& 0x603048016 = 0) (hM : Closed kM)  (hk : Kept kK k0 kM s) :
    KeptR kK k0 kM (execLaneEyeCompletion n counts s) := by
  unfold execLaneEyeCompletion
  repeat' first | with_reducible assumption | with_reducible apply State.complete_kept (wOff hm rfl) | with_reducible apply State.setLaneX_kept (wOff hm rfl) | with_reducible apply State.stewardStore_kept (wOff hm rfl) hM | with_reducible apply KeptR.next | dsimp only | split

theorem execLaneBitslip_kept {c} {s : State} (hm : kK &&& 0x40a008006 = 0)  (hk : Kept kK k0 kM s) :
    KeptR kK k0 kM (execLaneBitslip c s) := by
  unfold execLaneBitslip
  repeat' first | with_reducible assumption | with_reducible apply State.immediate_kept (wOff hm rfl) | with_reducible apply State.setLaneX_kept (wOff hm rfl) | with_reducible apply State.laneCount_kept (wOff hm rfl) | with_reducible apply KeptR.next | (intro u hu) | simp only [id] | dsimp only | split

theorem execLaneCal_kept {c} {s : State} (hm : kK &&& 0x50a009006 = 0)  (hk : Kept kK k0 kM s) :
    KeptR kK k0 kM (execLaneCal c s) := by
  unfold execLaneCal
  repeat' first | with_reducible assumption | with_reducible apply State.long_kept (wOff hm rfl) | with_reducible apply State.toLane_kept (wOff hm rfl) | with_reducible apply State.setCal_kept (wOff hm rfl) | with_reducible apply Kept.ite | with_reducible apply KeptR.next | (intro u hu) | simp only [id] | dsimp only | split

theorem State.calFailed_kept {s : State} {n} (hm : kK &&& 0x50a049006 = 0)  (hk : Kept kK k0 kM s) :
    Kept kK k0 kM (State.calFailed s n) := by
  unfold State.calFailed
  repeat' first | with_reducible assumption | with_reducible apply State.setLaneX_kept (wOff hm rfl) | with_reducible apply State.laneMark_kept (wOff hm rfl) | with_reducible apply State.startRx_kept (wOff hm rfl) | with_reducible apply State.laneJournal_kept (wOff hm rfl) | with_reducible apply State.retireLane_kept (wOff hm rfl) | with_reducible apply Kept.ite | dsimp only | split

theorem State.calAge_kept {s : State} {n} (hm : kK &&& 0x2 = 0)  (hk : Kept kK k0 kM s) :
    Kept kK k0 kM (State.calAge s n) := by
  unfold State.calAge
  repeat' first | with_reducible assumption | with_reducible apply State.setB_kept (wOff hm rfl) | with_reducible apply Kept.ite | dsimp only | split

theorem State.calPassed_kept {s : State} {n} (hm : kK &&& 0x50a001006 = 0)  (hk : Kept kK k0 kM s) :
    Kept kK k0 kM (State.calPassed s n) := by
  unfold State.calPassed
  repeat' first | with_reducible assumption | with_reducible apply State.lower_kept (wOff hm rfl) | with_reducible apply State.setLaneX_kept (wOff hm rfl) | with_reducible apply State.toLane_kept (wOff hm rfl) | with_reducible apply Kept.ite | dsimp only | split

theorem State.laneRestored_kept {s : State} {n} (hm : kK &&& 0x50a041006 = 0)  (hk : Kept kK k0 kM s) :
    Kept kK k0 kM (State.laneRestored s n) := by
  unfold State.laneRestored
  repeat' first | with_reducible assumption | with_reducible apply State.lower_kept (wOff hm rfl) | with_reducible apply State.uncharge_kept (wOff hm rfl) | with_reducible apply State.setLaneX_kept (wOff hm rfl) | with_reducible apply State.setCal_kept (wOff hm rfl) | with_reducible apply State.calPassed_kept (wOff hm rfl) | dsimp only | split

theorem State.laneUnrestored_kept {s : State} {n} (hm : kK &&& 0x50a001006 = 0)  (hk : Kept kK k0 kM s) :
    Kept kK k0 kM (State.laneUnrestored s n) := by
  unfold State.laneUnrestored
  repeat' first | with_reducible assumption | with_reducible apply State.laneMark_kept (wOff hm rfl) | with_reducible apply State.toLane_kept (wOff hm rfl) | with_reducible apply State.calDrop_kept (wOff hm rfl) | dsimp only | split

theorem State.calEnds_kept {s : State} {n} {pass} (hm : kK &&& 0x50a049006 = 0)  (hk : Kept kK k0 kM s) :
    Kept kK k0 kM (State.calEnds s n pass) := by
  unfold State.calEnds
  repeat' first | with_reducible assumption | with_reducible apply State.calDrop_kept (wOff hm rfl) | with_reducible apply State.calFailed_kept (wOff hm rfl) | with_reducible apply State.calPassed_kept (wOff hm rfl) | with_reducible apply State.laneRestored_kept (wOff hm rfl) | with_reducible apply State.laneUnrestored_kept (wOff hm rfl) | with_reducible apply Kept.ite | dsimp only | split

theorem execLaneCalCompletion_kept {n} {pass} {s : State} (hm : kK &&& 0x50a049006 = 0)  (hk : Kept kK k0 kM s) :
    KeptR kK k0 kM (execLaneCalCompletion n pass s) := by
  unfold execLaneCalCompletion
  repeat' first | with_reducible assumption | with_reducible apply State.complete_kept (wOff hm rfl) | with_reducible apply State.calEnds_kept (wOff hm rfl) | with_reducible apply Kept.ite | with_reducible apply KeptR.next | dsimp only | split

theorem execLaneRetire_kept {c} {s : State} (hm : kK &&& 0x8002 = 0)  (hk : Kept kK k0 kM s) :
    KeptR kK k0 kM (execLaneRetire c s) := by
  unfold execLaneRetire
  repeat' first | with_reducible assumption | with_reducible apply State.long_kept (wOff hm rfl) | with_reducible apply KeptR.next | (intro u hu) | simp only [id] | dsimp only | split

theorem execLaneRetireCompletion_kept {n} {s : State} (hm : kK &&& 0x50a049006 = 0)  (hk : Kept kK k0 kM s) :
    KeptR kK k0 kM (execLaneRetireCompletion n s) := by
  unfold execLaneRetireCompletion
  repeat' first | with_reducible assumption | with_reducible apply State.complete_kept (wOff hm rfl) | with_reducible apply State.retireLane_kept (wOff hm rfl) | with_reducible apply Kept.ite | with_reducible apply KeptR.next | dsimp only | split

theorem State.ebOut_kept {s : State} {n} (hm : kK &&& 0x2000200 = 0)  (hk : Kept kK k0 kM s) :
    Kept kK k0 kM (State.ebOut s n) := by
  unfold State.ebOut
  repeat' first | with_reducible assumption | with_reducible apply State.emit_kept (wOff hm rfl) | with_reducible apply State.setLaneX_kept (wOff hm rfl) | with_reducible apply Kept.ite | dsimp only | split

theorem State.ebTake_kept {s : State} {n} {a2} (hm : kK &&& 0x40a000206 = 0)  (hk : Kept kK k0 kM s) :
    Kept kK k0 kM (State.ebTake s n a2) := by
  induction a2 generalizing s with
  | zero => exact hk
  | succ k ih => exact ih (State.ebOut_kept (wOff hm rfl)
      (Kept.ite (State.setLaneX_kept (wOff hm rfl) (State.laneCount_kept (wOff hm rfl) (State.laneMark_kept (wOff hm rfl) hk))) hk))

theorem State.ebPut_kept {s : State} {n} {d} (hm : kK &&& 0x40a000006 = 0)  (hk : Kept kK k0 kM s) :
    Kept kK k0 kM (State.ebPut s n d) := by
  unfold State.ebPut
  repeat' first | with_reducible assumption | with_reducible apply State.setLaneX_kept (wOff hm rfl) | with_reducible apply State.laneMark_kept (wOff hm rfl) | with_reducible apply State.laneCount_kept (wOff hm rfl) | with_reducible apply Kept.ite | dsimp only | split

theorem execLaneWordReceive_kept {n} {w} {s : State} (hm : kK &&& 0x40a000206 = 0)  (hk : Kept kK k0 kM s) :
    KeptR kK k0 kM (execLaneWordReceive n w s) := by
  unfold execLaneWordReceive
  repeat' first | with_reducible assumption | with_reducible apply State.emit_kept (wOff hm rfl) | with_reducible apply State.setLaneX_kept (wOff hm rfl) | with_reducible apply State.laneCount_kept (wOff hm rfl) | with_reducible apply State.ebTake_kept (wOff hm rfl) | with_reducible apply State.ebPut_kept (wOff hm rfl) | with_reducible apply Kept.ite | with_reducible apply KeptR.next | dsimp only | split

end Sys2Proof.Machine
end

