-- ==== Sys2Proof/Laws/KeptWires.lean ====
section
/-! SUPPORT. The operations of Sys2Proof/Machine/Wires.lean leave alone what `Kept` names. -/
namespace Sys2Proof.Machine
set_option linter.unusedSimpArgs false
set_option linter.unusedVariables false
variable {kK : Nat} {k0 : State} {kM : List Host.Cell → Prop}

theorem State.setFword_kept {s : State} {f} {p} {fr} {w} {v} (hm : kK &&& 0x400000 = 0)  (hk : Kept kK k0 kM s) :
    Kept kK k0 kM (State.setFword s f p fr w v) := by
  unfold State.setFword
  repeat' first | with_reducible assumption | simp only [Kept.mk_fac (wOff hm rfl)] | dsimp only | split

theorem State.setFacetX_kept {s : State} {f} {x} (hm : kK &&& 0x400000 = 0)  (hk : Kept kK k0 kM s) :
    Kept kK k0 kM (State.setFacetX s f x) := by
  unfold State.setFacetX
  repeat' first | with_reducible assumption | simp only [Kept.mk_fac (wOff hm rfl)] | dsimp only | split

theorem State.holdCells_kept {s : State} {f} (hm : kK &&& 0x80000 = 0)  (hk : Kept kK k0 kM s) :
    Kept kK k0 kM (State.holdCells s f) := by
  unfold State.holdCells
  repeat' first | with_reducible assumption | with_reducible apply Kept.ite | with_reducible refine Kept.foldl ?_ (fun _ _ _ => ?_) | with_reducible refine Kept.foldlIn Prod.snd ?_ (fun _ _ _ => ?_) | with_reducible refine Kept.foldlIn (fun p => p.2.2) ?_ (fun _ _ _ => ?_) | simp only [Kept.mk_fab (wOff hm rfl)] | dsimp only | split

theorem State.signalLines_kept {s : State} {q} (hm : kK &&& 0x400000006 = 0)  (hk : Kept kK k0 kM s) :
    Kept kK k0 kM (State.signalLines s q) := by
  unfold State.signalLines
  repeat' first | with_reducible assumption | with_reducible apply State.signal_kept (wOff hm rfl) | with_reducible apply Kept.ite | with_reducible refine Kept.foldl ?_ (fun _ _ _ => ?_) | with_reducible refine Kept.foldlIn Prod.snd ?_ (fun _ _ _ => ?_) | with_reducible refine Kept.foldlIn (fun p => p.2.2) ?_ (fun _ _ _ => ?_) | dsimp only | split

theorem State.releaseCells_kept {s : State} {f} (hm : kK &&& 0x400080006 = 0)  (hk : Kept kK k0 kM s) :
    Kept kK k0 kM (State.releaseCells s f) := by
  unfold State.releaseCells
  repeat' first | with_reducible assumption | with_reducible apply State.signalLines_kept (wOff hm rfl) | simp only [Kept.mk_fab (wOff hm rfl)] | dsimp only | split

theorem State.hold_kept {s : State} {f} (hm : kK &&& 0x80002 = 0)  (hk : Kept kK k0 kM s) :
    Kept kK k0 kM (State.hold s f) := by
  unfold State.hold
  repeat' first | with_reducible assumption | with_reducible apply State.raise_kept (wOff hm rfl) | with_reducible apply State.holdCells_kept (wOff hm rfl) | with_reducible apply Kept.ite | dsimp only | split

theorem State.unhold_kept {s : State} {f} (hm : kK &&& 0x400080006 = 0)  (hk : Kept kK k0 kM s) :
    Kept kK k0 kM (State.unhold s f) := by
  unfold State.unhold
  repeat' first | with_reducible assumption | with_reducible apply State.lower_kept (wOff hm rfl) | with_reducible apply State.releaseCells_kept (wOff hm rfl) | dsimp only | split

end Sys2Proof.Machine
end

