-- ==== Sys2Proof/Laws/KeptFabric.lean ====
section
/-! SUPPORT. The operations of Sys2Proof/Machine/Fabric.lean leave alone what `Kept` names. -/
namespace Sys2Proof.Machine
set_option linter.unusedSimpArgs false
set_option linter.unusedVariables false
variable {kK : Nat} {k0 : State} {kM : List Host.Cell → Prop}

theorem State.facetRefused_kept {s : State} {f} {n} (hm : kK &&& 0x400000006 = 0)  (hk : Kept kK k0 kM s) :
    Kept kK k0 kM (State.facetRefused s f n) := by
  unfold State.facetRefused
  repeat' first | with_reducible assumption | with_reducible apply State.count_kept (wOff hm rfl) | dsimp only | split

theorem State.setSpq_kept {s : State} {b} {v} (hm : kK &&& 0x80000 = 0)  (hk : Kept kK k0 kM s) :
    Kept kK k0 kM (State.setSpq s b v) := by
  unfold State.setSpq
  repeat' first | with_reducible assumption | simp only [Kept.mk_fab (wOff hm rfl)] | dsimp only | split

theorem State.spDrop_kept {s : State} {b} {f} {n} (hm : kK &&& 0x400000006 = 0)  (hk : Kept kK k0 kM s) :
    Kept kK k0 kM (State.spDrop s b f n) := by
  unfold State.spDrop
  repeat' first | with_reducible assumption | with_reducible apply State.count_kept (wOff hm rfl) | dsimp only | split

theorem State.spCount_kept {s : State} {b} {f} {x} (hm : kK &&& 0x400000006 = 0)  (hk : Kept kK k0 kM s) :
    Kept kK k0 kM (State.spCount s b f x) := by
  unfold State.spCount
  repeat' first | with_reducible assumption | with_reducible apply State.mark_kept (wOff hm rfl) | with_reducible apply State.count_kept (wOff hm rfl) | with_reducible apply Kept.ite | dsimp only | split

theorem State.spPass_kept {s : State} {b} {f} {x} (hm : kK &&& 0x400000206 = 0)  (hk : Kept kK k0 kM s) :
    Kept kK k0 kM (State.spPass s b f x) := by
  unfold State.spPass
  repeat' first | with_reducible assumption | with_reducible apply State.emit_kept (wOff hm rfl) | with_reducible apply State.spCount_kept (wOff hm rfl) | dsimp only | split

theorem State.spDrain_kept {s : State} {b} {f} {a3} (hm : kK &&& 0x400080206 = 0)  (hk : Kept kK k0 kM s) :
    Kept kK k0 kM (State.spDrain s b f a3) := by
  induction a3 generalizing s with
  | zero => exact hk
  | succ n ih =>
    unfold State.spDrain
    split
    · exact hk
    · exact ih (State.spPass_kept (wOff hm rfl) (State.setSpq_kept (wOff hm rfl) hk))

theorem State.spTake_kept {s : State} {b} {f} (hm : kK &&& 0x400081206 = 0)  (hk : Kept kK k0 kM s) :
    Kept kK k0 kM (State.spTake s b f) := by
  unfold State.spTake
  repeat' first | with_reducible assumption | with_reducible apply State.freeVal_kept (wOff hm rfl) | with_reducible apply State.spDrain_kept (wOff hm rfl) | with_reducible apply Kept.ite | (refine Kept.sndEq (x := (State.freeVal _)) (by assumption) ?_) | dsimp only | split

theorem State.spRefuse_kept {s : State} {b} {f} (hm : kK &&& 0x400000006 = 0)  (hk : Kept kK k0 kM s) :
    Kept kK k0 kM (State.spRefuse s b f) := by
  unfold State.spRefuse
  repeat' first | with_reducible assumption | with_reducible apply State.facetRefused_kept (wOff hm rfl) | with_reducible apply State.spDrop_kept (wOff hm rfl) | dsimp only | split

theorem State.spEnter_kept {s : State} {b} {f} {depth} {sure} {x} (hm : kK &&& 0x400080006 = 0)  (hk : Kept kK k0 kM s) :
    Kept kK k0 kM (State.spEnter s b f depth sure x) := by
  unfold State.spEnter
  repeat' first | with_reducible assumption | with_reducible apply State.mark_kept (wOff hm rfl) | with_reducible apply State.setSpq_kept (wOff hm rfl) | with_reducible apply State.spDrop_kept (wOff hm rfl) | with_reducible apply Kept.ite | dsimp only | split

theorem State.spArrive_kept {s : State} {b} {f} {depth} {x} (hm : kK &&& 0x400080006 = 0)  (hk : Kept kK k0 kM s) :
    Kept kK k0 kM (State.spArrive s b f depth x) := by
  unfold State.spArrive
  repeat' first | with_reducible assumption | with_reducible apply State.spRefuse_kept (wOff hm rfl) | with_reducible apply State.spEnter_kept (wOff hm rfl) | with_reducible apply Kept.ite | dsimp only | split

theorem execLanePortBeatReceive_kept {q} {p} {x} {taken} {s : State} (hm : kK &&& 0x400080206 = 0)  (hk : Kept kK k0 kM s) :
    KeptR kK k0 kM (execLanePortBeatReceive q p x taken s) := by
  unfold execLanePortBeatReceive
  repeat' first | with_reducible assumption | with_reducible apply State.spDrain_kept (wOff hm rfl) | with_reducible apply State.spArrive_kept (wOff hm rfl) | with_reducible apply Kept.ite | with_reducible apply KeptR.next | dsimp only | split

theorem State.spGive_kept {s : State} {b} {f} {depth} {a4} (hm : kK &&& 0x400080006 = 0)  (hk : Kept kK k0 kM s) :
    Kept kK k0 kM (State.spGive s b f depth a4) := by
  induction a4 generalizing s with
  | nil => exact hk
  | cons x t ih =>
    unfold State.spGive
    dsimp only
    split
    · exact hk
    split
    · exact State.setSpq_kept (wOff hm rfl) hk
    split
    · exact hk
    · exact ih (State.spCount_kept (wOff hm rfl) (State.setSpq_kept (wOff hm rfl) hk))

theorem State.spSend_kept {s : State} {b} (hm : kK &&& 0x80200 = 0)  (hk : Kept kK k0 kM s) :
    Kept kK k0 kM (State.spSend s b) := by
  unfold State.spSend
  repeat' first | with_reducible assumption | with_reducible apply State.emit_kept (wOff hm rfl) | with_reducible apply State.setSpq_kept (wOff hm rfl) | dsimp only | split

theorem State.spRequest_kept {s : State} {b} {f} (hm : kK &&& 0x400080206 = 0)  (hk : Kept kK k0 kM s) :
    Kept kK k0 kM (State.spRequest s b f) := by
  unfold State.spRequest
  repeat' first | with_reducible assumption | with_reducible apply State.mark_kept (wOff hm rfl) | with_reducible apply State.spDrop_kept (wOff hm rfl) | with_reducible apply State.spSend_kept (wOff hm rfl) | dsimp only | split

theorem State.spCtl_kept {s : State} {q} {p} {v} (hm : kK &&& 0x80002 = 0)  (hk : Kept kK k0 kM s) :
    Kept kK k0 kM (State.spCtl s q p v) := by
  unfold State.spCtl
  repeat' first | with_reducible assumption | with_reducible apply State.setF_kept (wOff hm rfl) | with_reducible apply State.setSpq_kept (wOff hm rfl) | with_reducible apply Kept.ite | dsimp only | split

theorem execSpCtlWrite_kept {m} {q} {p} {v} {s : State} (hm : kK &&& 0x80202 = 0)  (hk : Kept kK k0 kM s) :
    KeptR kK k0 kM (execSpCtlWrite m q p v s) := by
  unfold execSpCtlWrite
  repeat' first | with_reducible assumption | with_reducible apply State.ownWrite_kept (wOff hm rfl) | with_reducible apply State.spCtl_kept (wOff hm rfl) | with_reducible apply KeptR.next | (intro u hu) | simp only [id] | dsimp only | split

theorem State.setRpOut_kept {s : State} {q} {l} (hm : kK &&& 0x80002 = 0)  (hk : Kept kK k0 kM s) :
    Kept kK k0 kM (State.setRpOut s q l) := by
  unfold State.setRpOut
  repeat' first | with_reducible assumption | with_reducible apply State.setB_kept (wOff hm rfl) | simp only [Kept.mk_fab (wOff hm rfl)] | dsimp only | split

theorem State.setRpWait_kept {s : State} {q} {l} (hm : kK &&& 0x80000 = 0)  (hk : Kept kK k0 kM s) :
    Kept kK k0 kM (State.setRpWait s q l) := by
  unfold State.setRpWait
  repeat' first | with_reducible assumption | simp only [Kept.mk_fab (wOff hm rfl)] | dsimp only | split

theorem State.rpAnswer_kept {s : State} {q} {h} {st} {data} (hm : kK &&& 0x10000000 = 0)  (hk : Kept kK k0 kM s) :
    Kept kK k0 kM (State.rpAnswer s q h st data) := by
  unfold State.rpAnswer
  repeat' first | with_reducible assumption | with_reducible apply State.respond_kept (wOff hm rfl) | with_reducible apply Kept.ite | dsimp only | split

theorem State.rpPart_kept {s : State} {q} {h} {last} {st} {data} (hm : kK &&& 0x10080000 = 0)  (hk : Kept kK k0 kM s) :
    Kept kK k0 kM (State.rpPart s q h last st data) := by
  unfold State.rpPart
  repeat' first | with_reducible assumption | with_reducible apply State.rpAnswer_kept (wOff hm rfl) | with_reducible apply Kept.ite | simp only [Kept.mk_fab (wOff hm rfl)] | dsimp only | split

theorem State.rpFail_kept {s : State} {q} {r} {st} (hm : kK &&& 0x10080202 = 0)  (hk : Kept kK k0 kM s) :
    Kept kK k0 kM (State.rpFail s q r st) := by
  unfold State.rpFail
  repeat' first | with_reducible assumption | with_reducible apply State.emit_kept (wOff hm rfl) | with_reducible apply State.busError_kept (wOff hm rfl) | with_reducible apply State.rpPart_kept (wOff hm rfl) | with_reducible apply Kept.ite | dsimp only | split

theorem State.windowAccess_kept {s : State} {q} {r} (hm : kK &&& 0x410080206 = 0)  (hk : Kept kK k0 kM s) :
    Kept kK k0 kM (State.windowAccess s q r) := by
  unfold State.windowAccess
  repeat' first | with_reducible assumption | with_reducible apply State.facetRefused_kept (wOff hm rfl) | with_reducible apply State.setRpWait_kept (wOff hm rfl) | with_reducible apply State.rpFail_kept (wOff hm rfl) | with_reducible apply Kept.ite | dsimp only | split

theorem State.windowRefuse_kept {s : State} {q} {f} {vk} {p} (hm : kK &&& 0x410000006 = 0)  (hk : Kept kK k0 kM s) :
    Kept kK k0 kM (State.windowRefuse s q f vk p) := by
  unfold State.windowRefuse
  repeat' first | with_reducible assumption | with_reducible apply State.dropCount_kept (wOff hm rfl) | with_reducible apply State.facetRefused_kept (wOff hm rfl) | with_reducible apply State.rpAnswer_kept (wOff hm rfl) | with_reducible apply Kept.ite | dsimp only | split

theorem State.windowRing_kept {s : State} {q} {vk} {p} (hm : kK &&& 0x410080006 = 0)  (hk : Kept kK k0 kM s) :
    Kept kK k0 kM (State.windowRing s q vk p) := by
  unfold State.windowRing
  repeat' first | with_reducible assumption | with_reducible apply State.setRpWait_kept (wOff hm rfl) | with_reducible apply State.rpAnswer_kept (wOff hm rfl) | with_reducible apply State.windowRefuse_kept (wOff hm rfl) | with_reducible apply Kept.ite | dsimp only | split

theorem execRegportRequest_kept {q} {s : State} (hm : kK &&& 0x80202 = 0)  (hk : Kept kK k0 kM s) :
    KeptR kK k0 kM (execRegportRequest q s) := by
  unfold execRegportRequest
  repeat' first | with_reducible assumption | with_reducible apply State.emit_kept (wOff hm rfl) | with_reducible apply State.setRpOut_kept (wOff hm rfl) | with_reducible apply State.setRpWait_kept (wOff hm rfl) | with_reducible apply Kept.ite | with_reducible apply KeptR.next | dsimp only | split

theorem State.rpMark_kept {s : State} {q} {f} (hm : kK &&& 0x400000006 = 0)  (hk : Kept kK k0 kM s) :
    Kept kK k0 kM (State.rpMark s q f) := by
  unfold State.rpMark
  repeat' first | with_reducible assumption | with_reducible apply State.raise_kept (wOff hm rfl) | with_reducible apply State.mark_kept (wOff hm rfl) | dsimp only | split

theorem execRegportResponse_kept {q} {err} {data} {s : State} (hm : kK &&& 0x410080206 = 0)  (hk : Kept kK k0 kM s) :
    KeptR kK k0 kM (execRegportResponse q err data s) := by
  unfold execRegportResponse
  repeat' first | with_reducible assumption | with_reducible apply State.emit_kept (wOff hm rfl) | with_reducible apply State.setRpOut_kept (wOff hm rfl) | with_reducible apply State.rpPart_kept (wOff hm rfl) | with_reducible apply State.rpFail_kept (wOff hm rfl) | with_reducible apply State.rpMark_kept (wOff hm rfl) | with_reducible apply Kept.ite | with_reducible apply KeptR.next | simp only [Kept.mk_fab (wOff hm rfl)] | dsimp only | split

theorem execRegportTimeout_kept {q} {s : State} (hm : kK &&& 0x410080206 = 0)  (hk : Kept kK k0 kM s) :
    KeptR kK k0 kM (execRegportTimeout q s) := by
  unfold execRegportTimeout
  repeat' first | with_reducible assumption | with_reducible apply State.setRpOut_kept (wOff hm rfl) | with_reducible apply State.setRpWait_kept (wOff hm rfl) | with_reducible apply State.rpFail_kept (wOff hm rfl) | with_reducible apply State.rpMark_kept (wOff hm rfl) | with_reducible apply KeptR.next | simp only [Kept.mk_fab (wOff hm rfl)] | dsimp only | split

theorem execUserEventLine_kept {q} {j} {level} {s : State} (hm : kK &&& 0x400080006 = 0)  (hk : Kept kK k0 kM s) :
    KeptR kK k0 kM (execUserEventLine q j level s) := by
  unfold execUserEventLine
  repeat' first | with_reducible assumption | with_reducible apply State.signal_kept (wOff hm rfl) | with_reducible apply Kept.ite | with_reducible apply KeptR.next | simp only [Kept.mk_fab (wOff hm rfl)] | dsimp only | split

theorem State.probeCtl_kept {s : State} {q} {v} (hm : kK &&& 0x2 = 0)  (hk : Kept kK k0 kM s) :
    Kept kK k0 kM (State.probeCtl s q v) := by
  unfold State.probeCtl
  repeat' first | with_reducible assumption | with_reducible apply State.setF_kept (wOff hm rfl) | with_reducible apply Kept.ite | dsimp only | split

theorem execProbeCtlWrite_kept {m} {q} {v} {s : State} (hm : kK &&& 0x202 = 0)  (hk : Kept kK k0 kM s) :
    KeptR kK k0 kM (execProbeCtlWrite m q v s) := by
  unfold execProbeCtlWrite
  repeat' first | with_reducible assumption | with_reducible apply State.ownWrite_kept (wOff hm rfl) | with_reducible apply State.probeCtl_kept (wOff hm rfl) | with_reducible apply KeptR.next | (intro u hu) | simp only [id] | dsimp only | split

end Sys2Proof.Machine
end

