-- ==== Sys2Proof/Laws/KeptRing.lean ====
section
/-! SUPPORT. The operations of Sys2Proof/Machine/Ring.lean leave alone what `Kept` names. -/
namespace Sys2Proof.Machine
set_option linter.unusedSimpArgs false
set_option linter.unusedVariables false
variable {kK : Nat} {k0 : State} {kM : List Host.Cell → Prop}

theorem State.creditBack_kept {s : State} {vk} {dst} {cls} {n} (hm : kK &&& 0x10000000 = 0)  (hk : Kept kK k0 kM s) :
    Kept kK k0 kM (State.creditBack s vk dst cls n) := by
  unfold State.creditBack
  repeat' first | with_reducible assumption | with_reducible apply State.setNi_kept (wOff hm rfl) | dsimp only | split

theorem State.endRequest_kept {s : State} {vk} {tag} {status} {data} {poison} (hm : kK &&& 0x430000206 = 0)  (hk : Kept kK k0 kM s) :
    Kept kK k0 kM (State.endRequest s vk tag status data poison) := by
  unfold State.endRequest
  repeat' first | with_reducible assumption | with_reducible apply State.mark_kept (wOff hm rfl) | with_reducible apply State.count_kept (wOff hm rfl) | with_reducible apply State.setNi_kept (wOff hm rfl) | with_reducible apply State.toPartner_kept (wOff hm rfl) | with_reducible apply State.creditBack_kept (wOff hm rfl) | with_reducible apply Kept.ite | dsimp only | split

theorem State.turnIn_kept {s : State} {vk} {q} (hm : kK &&& 0x10000000 = 0)  (hk : Kept kK k0 kM s) :
    Kept kK k0 kM (State.turnIn s vk q) := by
  unfold State.turnIn
  repeat' first | with_reducible assumption | with_reducible apply State.setVq_kept (wOff hm rfl) | with_reducible apply State.setNi_kept (wOff hm rfl) | with_reducible apply Kept.ite | dsimp only | split

theorem State.turnOn_kept {s : State} {vk} (hm : kK &&& 0x10000000 = 0)  (hk : Kept kK k0 kM s) :
    Kept kK k0 kM (State.turnOn s vk) := by
  unfold State.turnOn
  repeat' first | with_reducible assumption | with_reducible apply State.setNi_kept (wOff hm rfl) | with_reducible apply State.turnIn_kept (wOff hm rfl) | with_reducible refine Kept.foldl ?_ (fun _ _ _ => ?_) | with_reducible refine Kept.foldlIn Prod.snd ?_ (fun _ _ _ => ?_) | with_reducible refine Kept.foldlIn (fun p => p.2.2) ?_ (fun _ _ _ => ?_) | dsimp only | split

theorem State.turnBack_kept {s : State} {vk} {p} {st} (hm : kK &&& 0x410000006 = 0)  (hk : Kept kK k0 kM s) :
    Kept kK k0 kM (State.turnBack s vk p st) := by
  unfold State.turnBack
  repeat' first | with_reducible assumption | with_reducible apply State.dropPkt_kept (wOff hm rfl) | with_reducible apply State.turnIn_kept (wOff hm rfl) | with_reducible apply Kept.ite | dsimp only | split

theorem State.ledgerRecompute_kept {s : State} (hm : kK &&& 0x400000006 = 0)  (hk : Kept kK k0 kM s) :
    Kept kK k0 kM (State.ledgerRecompute s) := by
  unfold State.ledgerRecompute
  repeat' first | with_reducible assumption | with_reducible apply State.setB_kept (wOff hm rfl) | with_reducible apply State.niMark_kept (wOff hm rfl) | with_reducible apply Kept.ite | with_reducible refine Kept.foldl ?_ (fun _ _ _ => ?_) | with_reducible refine Kept.foldlIn Prod.snd ?_ (fun _ _ _ => ?_) | with_reducible refine Kept.foldlIn (fun p => p.2.2) ?_ (fun _ _ _ => ?_) | dsimp only | split

theorem State.ringChanged_kept {s : State} {r} (hm : kK &&& 0x400000006 = 0)  (hk : Kept kK k0 kM s) :
    Kept kK k0 kM (State.ringChanged s r) := by
  unfold State.ringChanged
  repeat' first | with_reducible assumption | with_reducible apply State.signal_kept (wOff hm rfl) | with_reducible apply State.ledgerRecompute_kept (wOff hm rfl) | with_reducible apply Kept.ite | with_reducible refine Kept.foldl ?_ (fun _ _ _ => ?_) | with_reducible refine Kept.foldlIn Prod.snd ?_ (fun _ _ _ => ?_) | with_reducible refine Kept.foldlIn (fun p => p.2.2) ?_ (fun _ _ _ => ?_) | dsimp only | split

theorem State.edgeRingsChanged_kept {s : State} {e} (hm : kK &&& 0x400000006 = 0)  (hk : Kept kK k0 kM s) :
    Kept kK k0 kM (State.edgeRingsChanged s e) := by
  unfold State.edgeRingsChanged
  repeat' first | with_reducible assumption | with_reducible apply State.ringChanged_kept (wOff hm rfl) | with_reducible refine Kept.foldl ?_ (fun _ _ _ => ?_) | with_reducible refine Kept.foldlIn Prod.snd ?_ (fun _ _ _ => ?_) | with_reducible refine Kept.foldlIn (fun p => p.2.2) ?_ (fun _ _ _ => ?_) | dsimp only | split

theorem State.setOut_kept {s : State} {vk} {dir} {p} (hm : kK &&& 0x10000000 = 0)  (hk : Kept kK k0 kM s) :
    Kept kK k0 kM (State.setOut s vk dir p) := by
  unfold State.setOut
  repeat' first | with_reducible assumption | simp only [Kept.mk_ring (wOff hm rfl)] | dsimp only | split

theorem State.unsend_kept {s : State} {vk} {g} (hm : kK &&& 0x410000006 = 0)  (hk : Kept kK k0 kM s) :
    Kept kK k0 kM (State.unsend s vk g) := by
  unfold State.unsend
  repeat' first | with_reducible assumption | with_reducible apply State.setVq_kept (wOff hm rfl) | with_reducible apply State.turnBack_kept (wOff hm rfl) | dsimp only | split

theorem State.salvage_kept {s : State} {sender} {vk} {dir} (hm : kK &&& 0x410000006 = 0)  (hk : Kept kK k0 kM s) :
    Kept kK k0 kM (State.salvage s sender vk dir) := by
  unfold State.salvage
  repeat' first | with_reducible assumption | with_reducible apply State.setLink_kept (wOff hm rfl) | with_reducible apply State.turnBack_kept (wOff hm rfl) | with_reducible apply State.setOut_kept (wOff hm rfl) | with_reducible apply State.unsend_kept (wOff hm rfl) | with_reducible refine Kept.foldl ?_ (fun _ _ _ => ?_) | with_reducible refine Kept.foldlIn Prod.snd ?_ (fun _ _ _ => ?_) | with_reducible refine Kept.foldlIn (fun p => p.2.2) ?_ (fun _ _ _ => ?_) | dsimp only | split

theorem State.enterBypass_kept {s : State} {vks} (hm : kK &&& 0x410000006 = 0)  (hk : Kept kK k0 kM s) :
    Kept kK k0 kM (State.enterBypass s vks) := by
  unfold State.enterBypass
  repeat' first | with_reducible assumption | with_reducible apply State.signal_kept (wOff hm rfl) | with_reducible apply Kept.ite | with_reducible refine Kept.foldl ?_ (fun _ _ _ => ?_) | with_reducible refine Kept.foldlIn Prod.snd ?_ (fun _ _ _ => ?_) | with_reducible refine Kept.foldlIn (fun p => p.2.2) ?_ (fun _ _ _ => ?_) | simp only [Kept.mk_ring (wOff hm rfl)] | dsimp only | split

theorem State.leaveBypass_kept {s : State} {vk} (hm : kK &&& 0x410000006 = 0)  (hk : Kept kK k0 kM s) :
    Kept kK k0 kM (State.leaveBypass s vk) := by
  unfold State.leaveBypass
  repeat' first | with_reducible assumption | with_reducible apply State.signal_kept (wOff hm rfl) | simp only [Kept.mk_ring (wOff hm rfl)] | dsimp only | split

theorem State.linkRetire_kept {s : State} {no} (hm : kK &&& 0x410040006 = 0)  (hk : Kept kK k0 kM s) :
    Kept kK k0 kM (State.linkRetire s no) := by
  unfold State.linkRetire
  repeat' first | with_reducible assumption | with_reducible apply State.journal_kept (wOff hm rfl) | with_reducible apply State.uncharge_kept (wOff hm rfl) | with_reducible apply State.changeRoutes_kept (wOff hm rfl) | with_reducible apply State.ringChanged_kept (wOff hm rfl) | with_reducible apply State.salvage_kept (wOff hm rfl) | with_reducible apply State.enterBypass_kept (wOff hm rfl) | with_reducible apply Kept.ite | simp only [Kept.mk_ring (wOff hm rfl)] | dsimp only | split

theorem execRingFlitReceive_kept {x} {y} {dir} {noise} {s : State} (hm : kK &&& 0x410040006 = 0)  (hk : Kept kK k0 kM s) :
    KeptR kK k0 kM (execRingFlitReceive x y dir noise s) := by
  unfold execRingFlitReceive
  repeat' first | with_reducible assumption | with_reducible apply State.charge_kept (wOff hm rfl) | with_reducible apply State.setLink_kept (wOff hm rfl) | with_reducible apply State.setVq_kept (wOff hm rfl) | with_reducible apply State.linkRetire_kept (wOff hm rfl) | with_reducible apply Kept.ite | with_reducible apply KeptR.next | (refine Kept.sndEq (x := (State.charge _ _)) (by assumption) ?_) | dsimp only | split

theorem execRingReplay_kept {x} {y} {dir} {s : State} (hm : kK &&& 0x10000000 = 0)  (hk : Kept kK k0 kM s) :
    KeptR kK k0 kM (execRingReplay x y dir s) := by
  unfold execRingReplay
  repeat' first | with_reducible assumption | with_reducible apply State.setLink_kept (wOff hm rfl) | with_reducible apply Kept.ite | with_reducible apply KeptR.next | dsimp only | split

theorem State.tookTurn_kept {s : State} {vk} {dir} (hm : kK &&& 0x10000000 = 0)  (hk : Kept kK k0 kM s) :
    Kept kK k0 kM (State.tookTurn s vk dir) := by
  unfold State.tookTurn
  repeat' first | with_reducible assumption | with_reducible apply Kept.ite | simp only [Kept.mk_ring (wOff hm rfl)] | dsimp only | split

theorem State.served_kept {s : State} {vk} {out} {n} {c} (hm : kK &&& 0x10000000 = 0)  (hk : Kept kK k0 kM s) :
    Kept kK k0 kM (State.served s vk out n c) := by
  unfold State.served
  repeat' first | with_reducible assumption | with_reducible apply Kept.ite | simp only [Kept.mk_ring (wOff hm rfl)] | dsimp only | split

theorem State.stallFrom_kept {s : State} {vk} (hm : kK &&& 0x10000000 = 0)  (hk : Kept kK k0 kM s) :
    Kept kK k0 kM (State.stallFrom s vk) := by
  unfold State.stallFrom
  repeat' first | with_reducible assumption | with_reducible apply State.setNi_kept (wOff hm rfl) | with_reducible apply Kept.ite | dsimp only | split

theorem State.stallEnd_kept {s : State} {vk} (hm : kK &&& 0x410000006 = 0)  (hk : Kept kK k0 kM s) :
    Kept kK k0 kM (State.stallEnd s vk) := by
  unfold State.stallEnd
  repeat' first | with_reducible assumption | with_reducible apply State.setNi_kept (wOff hm rfl) | with_reducible apply State.niCount_kept (wOff hm rfl) | with_reducible apply Kept.ite | dsimp only | split

theorem State.stallCheck_kept {s : State} {vk} (hm : kK &&& 0x410000006 = 0)  (hk : Kept kK k0 kM s) :
    Kept kK k0 kM (State.stallCheck s vk) := by
  unfold State.stallCheck
  repeat' first | with_reducible assumption | with_reducible apply State.stallFrom_kept (wOff hm rfl) | with_reducible apply State.stallEnd_kept (wOff hm rfl) | with_reducible apply Kept.ite | dsimp only | split

theorem State.startLocal_kept {s : State} {vk} {c} (hm : kK &&& 0x10000000 = 0)  (hk : Kept kK k0 kM s) :
    Kept kK k0 kM (State.startLocal s vk c) := by
  unfold State.startLocal
  repeat' first | with_reducible assumption | with_reducible apply State.setNi_kept (wOff hm rfl) | with_reducible apply Kept.ite | dsimp only | split

theorem State.sendFlit_kept {s : State} {vk} {dir} {d} {step} {c} (hm : kK &&& 0x410000006 = 0)  (hk : Kept kK k0 kM s) :
    Kept kK k0 kM (State.sendFlit s vk dir d step c) := by
  unfold State.sendFlit
  repeat' first | with_reducible assumption | with_reducible apply State.setLink_kept (wOff hm rfl) | with_reducible apply State.setVq_kept (wOff hm rfl) | with_reducible apply State.niCount_kept (wOff hm rfl) | with_reducible apply State.refill_kept (wOff hm rfl) | with_reducible apply State.turnOn_kept (wOff hm rfl) | with_reducible apply State.setOut_kept (wOff hm rfl) | with_reducible apply State.tookTurn_kept (wOff hm rfl) | with_reducible apply State.served_kept (wOff hm rfl) | with_reducible apply State.startLocal_kept (wOff hm rfl) | with_reducible apply Kept.ite | dsimp only | split

theorem State.creditPacket_kept {s : State} {vk} {p} (hm : kK &&& 0x10000000 = 0)  (hk : Kept kK k0 kM s) :
    Kept kK k0 kM (State.creditPacket s vk p) := by
  unfold State.creditPacket
  repeat' first | with_reducible assumption | with_reducible apply State.send_kept (wOff hm rfl) | with_reducible apply Kept.ite | dsimp only | split

theorem State.portAccept_kept {s : State} {vk} {p} (hm : kK &&& 0x410000006 = 0)  (hk : Kept kK k0 kM s) :
    Kept kK k0 kM (State.portAccept s vk p) := by
  unfold State.portAccept
  repeat' first | with_reducible assumption | with_reducible apply State.setNi_kept (wOff hm rfl) | with_reducible apply State.niCount_kept (wOff hm rfl) | with_reducible apply State.dropCount_kept (wOff hm rfl) | with_reducible apply State.spDrop_kept (wOff hm rfl) | with_reducible apply State.spRefuse_kept (wOff hm rfl) | with_reducible apply State.windowRefuse_kept (wOff hm rfl) | with_reducible apply State.creditPacket_kept (wOff hm rfl) | with_reducible apply Kept.ite | with_reducible refine Kept.foldl ?_ (fun _ _ _ => ?_) | with_reducible refine Kept.foldlIn Prod.snd ?_ (fun _ _ _ => ?_) | with_reducible refine Kept.foldlIn (fun p => p.2.2) ?_ (fun _ _ _ => ?_) | dsimp only | split

theorem State.takeWhole_kept {s : State} {vk} {c} (hm : kK &&& 0x410000006 = 0)  (hk : Kept kK k0 kM s) :
    Kept kK k0 kM (State.takeWhole s vk c) := by
  unfold State.takeWhole
  repeat' first | with_reducible assumption | with_reducible apply State.setVq_kept (wOff hm rfl) | with_reducible apply State.refill_kept (wOff hm rfl) | with_reducible apply State.turnOn_kept (wOff hm rfl) | with_reducible apply State.turnBack_kept (wOff hm rfl) | with_reducible apply State.served_kept (wOff hm rfl) | with_reducible apply State.startLocal_kept (wOff hm rfl) | with_reducible apply State.portAccept_kept (wOff hm rfl) | with_reducible apply Kept.ite | dsimp only | split

theorem State.linkSlot_kept {s : State} {vk} {dir} (hm : kK &&& 0x410000006 = 0)  (hk : Kept kK k0 kM s) :
    Kept kK k0 kM (State.linkSlot s vk dir) := by
  unfold State.linkSlot
  repeat' first | with_reducible assumption | with_reducible apply State.sendFlit_kept (wOff hm rfl) | with_reducible apply Kept.ite | dsimp only | split

theorem execRingPacketRoute_kept {x} {y} {out} {s : State} (hm : kK &&& 0x410000006 = 0)  (hk : Kept kK k0 kM s) :
    KeptR kK k0 kM (execRingPacketRoute x y out s) := by
  unfold execRingPacketRoute
  repeat' first | with_reducible assumption | with_reducible apply State.stallCheck_kept (wOff hm rfl) | with_reducible apply State.takeWhole_kept (wOff hm rfl) | with_reducible apply State.linkSlot_kept (wOff hm rfl) | with_reducible apply Kept.ite | with_reducible apply KeptR.next | dsimp only | split

theorem State.atomicDone_kept {s : State} {old} {w} (hm : kK &&& 0x0 = 0)  (hk : Kept kK k0 kM s) (hw : Kept kK k0 kM w.2) :
    Kept kK k0 kM (State.atomicDone s old w).2.2.2 := by
  unfold State.atomicDone
  cases w.1 with
  | none => exact hk
  | some st => exact hw

theorem State.atomicFm_kept {s : State} {p} {es} {r} (hm : kK &&& 0x401040016 = 0) (hM : Closed kM)  (hk : Kept kK k0 kM s) (hr : Kept kK k0 kM r.2) :
    Kept kK k0 kM (State.atomicFm s p es r).2.2.2 := by
  unfold State.atomicFm
  refine Kept.iteIn (fun x => x.2.2.2) (α := Option Nat × List Byte × List (Nat × Nat) × State) ?_ ?_
  · exact hr
  · exact State.atomicDone_kept (wOff hm rfl) hk (State.fmWrite_kept (wOff hm rfl) hM hr)

theorem State.atomic_kept {s : State} {p} {es} (hm : kK &&& 0x601040016 = 0) (hM : Closed kM)  (hk : Kept kK k0 kM s) :
    Kept kK k0 kM (State.atomic s p es).2.2.2 := by
  unfold State.atomic
  refine Kept.iteIn (fun x => x.2.2.2) (α := Option Nat × List Byte × List (Nat × Nat) × State) ?_ ?_
  · exact State.atomicFm_kept (wOff hm rfl) hM hk (State.fmRead_kept (wOff hm rfl) hk)
  · exact Kept.snd4 (State.store_kept (wOff hm rfl) hM hk)

theorem readDone_kept {r} (hm : kK &&& 0x0 = 0)   (hr : Kept kK k0 kM r.2) :
    Kept kK k0 kM (readDone r).2.2.2 := by
  exact hr

theorem writeDone_kept {w} (hm : kK &&& 0x0 = 0)   (hw : Kept kK k0 kM w.2) :
    Kept kK k0 kM (writeDone w).2.2.2 := by
  exact hw

theorem State.access_kept {s : State} {p} {es} (hm : kK &&& 0x601040016 = 0) (hM : Closed kM)  (hk : Kept kK k0 kM s) :
    Kept kK k0 kM (State.access s p es).2.2.2 := by
  unfold State.access
  refine Kept.iteIn (fun x => x.2.2.2) (α := Option Nat × List Byte × List (Nat × Nat) × State) ?_ (Kept.iteIn (fun x => x.2.2.2) (α := Option Nat × List Byte × List (Nat × Nat) × State) ?_ (State.atomic_kept (wOff hm rfl) hM hk))
  · exact Kept.iteIn (fun x => x.2.2.2) (α := Option Nat × List Byte × List (Nat × Nat) × State) (readDone_kept (wOff hm rfl) (State.fmRead_kept (wOff hm rfl) hk)) (Kept.snd4 hk)
  · exact Kept.iteIn (fun x => x.2.2.2) (α := Option Nat × List Byte × List (Nat × Nat) × State) (writeDone_kept (wOff hm rfl) (State.fmWrite_kept (wOff hm rfl) hM hk)) (Kept.snd4 (State.store_kept (wOff hm rfl) hM hk))

theorem State.partnerOwes_kept {s : State} {e} {p} (hm : kK &&& 0x20000000 = 0)  (hk : Kept kK k0 kM s) :
    Kept kK k0 kM (State.partnerOwes s e p) := by
  unfold State.partnerOwes
  repeat' first | with_reducible assumption | simp only [Kept.mk_opt (wOff hm rfl)] | dsimp only | split

theorem State.perform_kept {s : State} {vk} {p} {es} (hm : kK &&& 0x6310c0216 = 0) (hM : Closed kM)  (hk : Kept kK k0 kM s) :
    KeptO kK k0 kM id (State.perform s vk p es) := by
  unfold State.perform
  repeat' first | with_reducible assumption | with_reducible apply State.dropCount_kept (wOff hm rfl) | with_reducible apply State.respond_kept (wOff hm rfl) | with_reducible apply State.toPartner_kept (wOff hm rfl) | with_reducible apply State.windowRing_kept (wOff hm rfl) | with_reducible apply State.creditPacket_kept (wOff hm rfl) | with_reducible apply State.access_kept (wOff hm rfl) hM | with_reducible apply State.partnerOwes_kept (wOff hm rfl) | with_reducible apply Kept.ite | with_reducible apply KeptO.some | exact KeptO.none | (refine Kept.sndEq (x := (State.access _ _ _)) (by assumption) ?_) | simp only [id] | dsimp only | split

theorem State.refuse_kept {s : State} {vk} {p} {st} (hm : kK &&& 0x410000006 = 0)  (hk : Kept kK k0 kM s) :
    Kept kK k0 kM (State.refuse s vk p st) := by
  unfold State.refuse
  repeat' first | with_reducible assumption | with_reducible apply State.dropCount_kept (wOff hm rfl) | with_reducible apply State.dropPkt_kept (wOff hm rfl) | with_reducible apply State.respond_kept (wOff hm rfl) | with_reducible apply State.creditPacket_kept (wOff hm rfl) | with_reducible apply Kept.ite | dsimp only | split

theorem State.fencedAnswer_kept {s : State} {vk} {p} (hm : kK &&& 0x410000006 = 0)  (hk : Kept kK k0 kM s) :
    Kept kK k0 kM (State.fencedAnswer s vk p) := by
  unfold State.fencedAnswer
  repeat' first | with_reducible assumption | with_reducible apply State.refuse_kept (wOff hm rfl) | with_reducible apply Kept.ite | dsimp only | split

theorem State.essence_kept {s : State} {vk} {p} (hm : kK &&& 0x400080006 = 0)  (hk : Kept kK k0 kM s) :
    Kept kK k0 kM (State.essence s vk p) := by
  unfold State.essence
  repeat' first | with_reducible assumption | with_reducible apply State.setSpq_kept (wOff hm rfl) | with_reducible apply State.spEnter_kept (wOff hm rfl) | with_reducible refine Kept.foldl ?_ (fun _ _ _ => ?_) | with_reducible refine Kept.foldlIn Prod.snd ?_ (fun _ _ _ => ?_) | with_reducible refine Kept.foldlIn (fun p => p.2.2) ?_ (fun _ _ _ => ?_) | dsimp only | split

theorem execNiPacketDeliver_kept {x} {y} {es} {s : State} (hm : kK &&& 0x6310c0216 = 0) (hM : Closed kM)  (hk : Kept kK k0 kM s) :
    KeptR kK k0 kM (execNiPacketDeliver x y es s) := by
  unfold execNiPacketDeliver
  repeat' first | with_reducible assumption | with_reducible apply State.setNi_kept (wOff hm rfl) | with_reducible apply State.niMark_kept (wOff hm rfl) | with_reducible apply State.niCount_kept (wOff hm rfl) | with_reducible apply State.dropPkt_kept (wOff hm rfl) | with_reducible apply State.endRequest_kept (wOff hm rfl) | with_reducible apply State.perform_kept (wOff hm rfl) hM | with_reducible apply State.fencedAnswer_kept (wOff hm rfl) | with_reducible apply State.essence_kept (wOff hm rfl) | with_reducible apply Kept.ite | with_reducible apply KeptR.next | (refine KeptO.get (f := id) (o := (State.perform _ _ _ _)) (by assumption) ?_) | with_reducible refine KeptO.getD ?_ ?_ | dsimp only | split

theorem execCreditReturn_kept {x} {y} {s : State} (hm : kK &&& 0x10000000 = 0)  (hk : Kept kK k0 kM s) :
    KeptR kK k0 kM (execCreditReturn x y s) := by
  unfold execCreditReturn
  repeat' first | with_reducible assumption | with_reducible apply State.setNi_kept (wOff hm rfl) | with_reducible apply State.creditBack_kept (wOff hm rfl) | with_reducible apply KeptR.next | dsimp only | split

theorem execFencePacket_kept {x} {y} {s : State} (hm : kK &&& 0x10000000 = 0)  (hk : Kept kK k0 kM s) :
    KeptR kK k0 kM (execFencePacket x y s) := by
  unfold execFencePacket
  repeat' first | with_reducible assumption | with_reducible apply State.setNi_kept (wOff hm rfl) | with_reducible apply State.respond_kept (wOff hm rfl) | with_reducible apply Kept.ite | with_reducible apply KeptR.next | dsimp only | split

theorem execFabricRequest_kept {q} {v} {op} {a} {n} {tag} {data} {s : State} (hm : kK &&& 0x10000000 = 0)  (hk : Kept kK k0 kM s) :
    KeptR kK k0 kM (execFabricRequest q v op a n tag data s) := by
  unfold execFabricRequest
  repeat' first | with_reducible assumption | with_reducible apply State.setNi_kept (wOff hm rfl) | with_reducible apply State.send_kept (wOff hm rfl) | with_reducible apply State.stallFrom_kept (wOff hm rfl) | with_reducible apply Kept.ite | with_reducible apply KeptR.next | dsimp only | split

theorem execFabricResponse_kept {q} {v} {s : State} (hm : kK &&& 0x10000200 = 0)  (hk : Kept kK k0 kM s) :
    KeptR kK k0 kM (execFabricResponse q v s) := by
  unfold execFabricResponse
  repeat' first | with_reducible assumption | with_reducible apply State.emit_kept (wOff hm rfl) | with_reducible apply State.setNi_kept (wOff hm rfl) | with_reducible apply KeptR.next | dsimp only | split

theorem State.flowSend_kept {s : State} {vk} {p} (hm : kK &&& 0x10000000 = 0)  (hk : Kept kK k0 kM s) :
    Kept kK k0 kM (State.flowSend s vk p) := by
  unfold State.flowSend
  repeat' first | with_reducible assumption | with_reducible apply State.setNi_kept (wOff hm rfl) | with_reducible apply State.send_kept (wOff hm rfl) | dsimp only | split

theorem State.flushBeats_kept {s : State} {vk} (hm : kK &&& 0x10000000 = 0)  (hk : Kept kK k0 kM s) :
    Kept kK k0 kM (State.flushBeats s vk) := by
  unfold State.flushBeats
  repeat' first | with_reducible assumption | with_reducible apply State.setNi_kept (wOff hm rfl) | with_reducible apply State.flowSend_kept (wOff hm rfl) | dsimp only | split

theorem State.flushPiece_kept {s : State} {vk} {a} {bs} {bad} (hm : kK &&& 0x10000000 = 0)  (hk : Kept kK k0 kM s) :
    Kept kK k0 kM (State.flushPiece s vk a bs bad) := by
  unfold State.flushPiece
  repeat' first | with_reducible assumption | with_reducible apply State.flowSend_kept (wOff hm rfl) | dsimp only | split

theorem State.flushBytes_kept {s : State} {vk} (hm : kK &&& 0x10000000 = 0)  (hk : Kept kK k0 kM s) :
    Kept kK k0 kM (State.flushBytes s vk) := by
  unfold State.flushBytes
  repeat' first | with_reducible assumption | with_reducible apply State.setNi_kept (wOff hm rfl) | with_reducible apply State.flushPiece_kept (wOff hm rfl) | with_reducible apply Kept.ite | with_reducible refine Kept.foldl ?_ (fun _ _ _ => ?_) | with_reducible refine Kept.foldlIn Prod.snd ?_ (fun _ _ _ => ?_) | with_reducible refine Kept.foldlIn (fun p => p.2.2) ?_ (fun _ _ _ => ?_) | dsimp only | split

theorem State.packBeat_kept {s : State} {vk} {x} (hm : kK &&& 0x10000000 = 0)  (hk : Kept kK k0 kM s) :
    Kept kK k0 kM (State.packBeat s vk x) := by
  unfold State.packBeat
  repeat' first | with_reducible assumption | with_reducible apply State.setNi_kept (wOff hm rfl) | with_reducible apply State.flushBeats_kept (wOff hm rfl) | with_reducible apply Kept.ite | dsimp only | split

theorem State.packBytes_kept {s : State} {vk} {x} (hm : kK &&& 0x10000002 = 0)  (hk : Kept kK k0 kM s) :
    Kept kK k0 kM (State.packBytes s vk x) := by
  unfold State.packBytes
  repeat' first | with_reducible assumption | with_reducible apply State.setF_kept (wOff hm rfl) | with_reducible apply State.setNi_kept (wOff hm rfl) | with_reducible apply State.flushBytes_kept (wOff hm rfl) | with_reducible apply Kept.ite | dsimp only | split

theorem execNiFlowBeat_kept {q} {v} {given} {s : State} (hm : kK &&& 0x410080206 = 0)  (hk : Kept kK k0 kM s) :
    KeptR kK k0 kM (execNiFlowBeat q v given s) := by
  unfold execNiFlowBeat
  repeat' first | with_reducible assumption | with_reducible apply State.setNi_kept (wOff hm rfl) | with_reducible apply State.spGive_kept (wOff hm rfl) | with_reducible apply State.spSend_kept (wOff hm rfl) | with_reducible apply State.packBeat_kept (wOff hm rfl) | with_reducible apply State.packBytes_kept (wOff hm rfl) | with_reducible apply Kept.ite | with_reducible apply KeptR.next | dsimp only | split

theorem State.flowAdmit_kept {s : State} {vk} (hm : kK &&& 0x410000006 = 0)  (hk : Kept kK k0 kM s) :
    Kept kK k0 kM (State.flowAdmit s vk) := by
  unfold State.flowAdmit
  repeat' first | with_reducible assumption | with_reducible apply State.raise_kept (wOff hm rfl) | with_reducible apply State.setNi_kept (wOff hm rfl) | with_reducible apply State.niMark_kept (wOff hm rfl) | with_reducible apply Kept.ite | simp only [Kept.mk_ring (wOff hm rfl)] | dsimp only | split

theorem State.flowWithdraw_kept {s : State} {vk} (hm : kK &&& 0x410000006 = 0)  (hk : Kept kK k0 kM s) :
    Kept kK k0 kM (State.flowWithdraw s vk) := by
  unfold State.flowWithdraw
  repeat' first | with_reducible assumption | with_reducible apply State.lower_kept (wOff hm rfl) | with_reducible apply State.ledgerRecompute_kept (wOff hm rfl) | with_reducible apply Kept.ite | simp only [Kept.mk_ring (wOff hm rfl)] | dsimp only | split

theorem State.admitWrite_kept {s : State} {vk} {v} (hm : kK &&& 0x410000006 = 0)  (hk : Kept kK k0 kM s) :
    Kept kK k0 kM (State.admitWrite s vk v) := by
  unfold State.admitWrite
  repeat' first | with_reducible assumption | with_reducible apply State.flowAdmit_kept (wOff hm rfl) | with_reducible apply State.flowWithdraw_kept (wOff hm rfl) | with_reducible apply Kept.ite | dsimp only | split

theorem execNiFlowAdmit_kept {m} {q} {v} {s : State} (hm : kK &&& 0x410000206 = 0)  (hk : Kept kK k0 kM s) :
    KeptR kK k0 kM (execNiFlowAdmit m q v s) := by
  unfold execNiFlowAdmit
  repeat' first | with_reducible assumption | with_reducible apply State.ownWrite_kept (wOff hm rfl) | with_reducible apply State.admitWrite_kept (wOff hm rfl) | with_reducible apply KeptR.next | (intro u hu) | simp only [id] | dsimp only | split

theorem execNiFlowWithdraw_kept {m} {q} {v} {s : State} (hm : kK &&& 0x410000206 = 0)  (hk : Kept kK k0 kM s) :
    KeptR kK k0 kM (execNiFlowWithdraw m q v s) := by
  unfold execNiFlowWithdraw
  repeat' first | with_reducible assumption | with_reducible apply State.ownWrite_kept (wOff hm rfl) | with_reducible apply State.admitWrite_kept (wOff hm rfl) | with_reducible apply KeptR.next | (intro u hu) | simp only [id] | dsimp only | split

theorem State.chordWrite_kept {s : State} {vk} {e} {m} {r0} {r1} (hm : kK &&& 0x2 = 0)  (hk : Kept kK k0 kM s) :
    Kept kK k0 kM (State.chordWrite s vk e m r0 r1) := by
  unfold State.chordWrite
  repeat' first | with_reducible assumption | with_reducible apply State.setF_kept (wOff hm rfl) | dsimp only | split

theorem execRouteChangeApply_kept {x} {y} {e} {m} {r0} {r1} {s : State} (hm : kK &&& 0x410000006 = 0)  (hk : Kept kK k0 kM s) :
    KeptR kK k0 kM (execRouteChangeApply x y e m r0 r1 s) := by
  unfold execRouteChangeApply
  repeat' first | with_reducible assumption | with_reducible apply State.setNi_kept (wOff hm rfl) | with_reducible apply State.queueLocal_kept (wOff hm rfl) | with_reducible apply State.send_kept (wOff hm rfl) | with_reducible apply State.ledgerRecompute_kept (wOff hm rfl) | with_reducible apply State.chordWrite_kept (wOff hm rfl) | with_reducible apply Kept.ite | with_reducible apply KeptR.next | with_reducible refine Kept.foldl ?_ (fun _ _ _ => ?_) | with_reducible refine Kept.foldlIn Prod.snd ?_ (fun _ _ _ => ?_) | with_reducible refine Kept.foldlIn (fun p => p.2.2) ?_ (fun _ _ _ => ?_) | dsimp only | split

theorem execNiStarvation_kept {x} {y} {s : State} (hm : kK &&& 0x410000006 = 0)  (hk : Kept kK k0 kM s) :
    KeptR kK k0 kM (execNiStarvation x y s) := by
  unfold execNiStarvation
  repeat' first | with_reducible assumption | with_reducible apply State.setVq_kept (wOff hm rfl) | with_reducible apply State.niMark_kept (wOff hm rfl) | with_reducible apply KeptR.next | dsimp only | split

theorem execRingRequestTimeout_kept {x} {y} {tag} {s : State} (hm : kK &&& 0x430000206 = 0)  (hk : Kept kK k0 kM s) :
    KeptR kK k0 kM (execRingRequestTimeout x y tag s) := by
  unfold execRingRequestTimeout
  repeat' first | with_reducible assumption | with_reducible apply State.endRequest_kept (wOff hm rfl) | with_reducible apply Kept.ite | with_reducible apply KeptR.next | dsimp only | split

theorem State.applyChange_kept {s : State} {c} (hm : kK &&& 0x410000006 = 0)  (hk : Kept kK k0 kM s) :
    Kept kK k0 kM (State.applyChange s c) := by
  unfold State.applyChange
  repeat' first | with_reducible assumption | with_reducible apply State.ringChanged_kept (wOff hm rfl) | with_reducible apply State.edgeRingsChanged_kept (wOff hm rfl) | with_reducible apply Kept.ite | simp only [Kept.mk_ring (wOff hm rfl)] | dsimp only | split

theorem State.settleRoutes_kept {s : State} (hm : kK &&& 0x410000006 = 0)  (hk : Kept kK k0 kM s) :
    Kept kK k0 kM (State.settleRoutes s) := by
  unfold State.settleRoutes
  repeat' first | with_reducible assumption | with_reducible apply State.applyChange_kept (wOff hm rfl) | with_reducible apply Kept.ite | with_reducible refine Kept.foldl ?_ (fun _ _ _ => ?_) | with_reducible refine Kept.foldlIn Prod.snd ?_ (fun _ _ _ => ?_) | with_reducible refine Kept.foldlIn (fun p => p.2.2) ?_ (fun _ _ _ => ?_) | dsimp only | split

theorem State.moveRelay_kept {s : State} {x} (hm : kK &&& 0x10000000 = 0)  (hk : Kept kK k0 kM s) :
    Kept kK k0 kM (State.moveRelay s x) := by
  unfold State.moveRelay
  repeat' first | with_reducible assumption | with_reducible apply Kept.ite | simp only [Kept.mk_ring (wOff hm rfl)] | dsimp only | split

theorem State.mayLeave_kept {s : State} {vk} (hm : kK &&& 0x410001006 = 0)  (hk : Kept kK k0 kM s) :
    Kept kK k0 kM (State.mayLeave s vk) := by
  unfold State.mayLeave
  repeat' first | with_reducible assumption | with_reducible apply State.freeVal_kept (wOff hm rfl) | with_reducible apply State.leaveBypass_kept (wOff hm rfl) | with_reducible apply Kept.ite | (refine Kept.sndEq (x := (State.freeVal _)) (by assumption) ?_) | dsimp only | split

theorem State.drainPort_kept {s : State} {q} {a} (hm : kK &&& 0x400081206 = 0)  (hk : Kept kK k0 kM s) :
    Kept kK k0 kM (State.drainPort s q a) := by
  unfold State.drainPort
  repeat' first | with_reducible assumption | with_reducible apply State.spTake_kept (wOff hm rfl) | with_reducible apply Kept.ite | dsimp only | split

theorem State.ringTick_kept {s : State} (hm : kK &&& 0x410081206 = 0)  (hk : Kept kK k0 kM s) :
    Kept kK k0 kM (State.ringTick s) := by
  unfold State.ringTick
  repeat' first | with_reducible assumption | with_reducible apply State.settleRoutes_kept (wOff hm rfl) | with_reducible apply State.moveRelay_kept (wOff hm rfl) | with_reducible apply State.mayLeave_kept (wOff hm rfl) | with_reducible apply State.drainPort_kept (wOff hm rfl) | with_reducible refine Kept.foldl ?_ (fun _ _ _ => ?_) | with_reducible refine Kept.foldlIn Prod.snd ?_ (fun _ _ _ => ?_) | with_reducible refine Kept.foldlIn (fun p => p.2.2) ?_ (fun _ _ _ => ?_) | dsimp only | split

end Sys2Proof.Machine
end

