-- ==== Sys2Proof/Laws/KeptSe.lean ====
section
/-! SUPPORT. The operations of Sys2Proof/Machine/Se.lean leave alone what `Kept` names. -/
namespace Sys2Proof.Machine
set_option linter.unusedSimpArgs false
set_option linter.unusedVariables false
variable {kK : Nat} {k0 : State} {kM : List Host.Cell → Prop}

theorem State.setSeCh_kept {s : State} {n} {x} (hm : kK &&& 0x4000000 = 0)  (hk : Kept kK k0 kM s) :
    Kept kK k0 kM (State.setSeCh s n x) := by
  unfold State.setSeCh
  repeat' first | with_reducible assumption | simp only [Kept.mk_se (wOff hm rfl)] | dsimp only | split

theorem State.seMark_kept {s : State} {n} {f} (hm : kK &&& 0x400000006 = 0)  (hk : Kept kK k0 kM s) :
    Kept kK k0 kM (State.seMark s n f) := by
  unfold State.seMark
  repeat' first | with_reducible assumption | with_reducible apply State.mark_kept (wOff hm rfl) | dsimp only | split

theorem State.seCount_kept {s : State} {n} {base} {f} {k} (hm : kK &&& 0x400000006 = 0)  (hk : Kept kK k0 kM s) :
    Kept kK k0 kM (State.seCount s n base f k) := by
  unfold State.seCount
  repeat' first | with_reducible assumption | with_reducible apply State.count_kept (wOff hm rfl) | dsimp only | split

theorem State.streamBad_kept {s : State} {n} (hm : kK &&& 0x8000000 = 0)  (hk : Kept kK k0 kM s) :
    Kept kK k0 kM (State.streamBad s n) := by
  unfold State.streamBad
  repeat' first | with_reducible assumption | with_reducible apply State.protBad_kept (wOff hm rfl) | with_reducible refine Kept.foldl ?_ (fun _ _ _ => ?_) | with_reducible refine Kept.foldlIn Prod.snd ?_ (fun _ _ _ => ?_) | with_reducible refine Kept.foldlIn (fun p => p.2.2) ?_ (fun _ _ _ => ?_) | dsimp only | split

theorem State.toRx_kept {s : State} {n} {v} (hm : kK &&& 0x408000006 = 0)  (hk : Kept kK k0 kM s) :
    Kept kK k0 kM (State.toRx s n v) := by
  unfold State.toRx
  repeat' first | with_reducible assumption | with_reducible apply State.setF_kept (wOff hm rfl) | with_reducible apply State.lower_kept (wOff hm rfl) | with_reducible apply State.signal_kept (wOff hm rfl) | with_reducible apply State.streamBad_kept (wOff hm rfl) | with_reducible apply Kept.ite | dsimp only | split

theorem State.deliver_kept {s : State} {n} {south} {xs} (hm : kK &&& 0x400081206 = 0)  (hk : Kept kK k0 kM s) :
    Kept kK k0 kM (State.deliver s n south xs) := by
  unfold State.deliver
  repeat' first | with_reducible assumption | with_reducible apply State.spTake_kept (wOff hm rfl) | with_reducible apply State.spArrive_kept (wOff hm rfl) | with_reducible refine Kept.foldl ?_ (fun _ _ _ => ?_) | with_reducible refine Kept.foldlIn Prod.snd ?_ (fun _ _ _ => ?_) | with_reducible refine Kept.foldlIn (fun p => p.2.2) ?_ (fun _ _ _ => ?_) | dsimp only | split

theorem State.setFlow_kept {s : State} {g} {i} {x} (hm : kK &&& 0x4000000 = 0)  (hk : Kept kK k0 kM s) :
    Kept kK k0 kM (State.setFlow s g i x) := by
  unfold State.setFlow
  repeat' first | with_reducible assumption | simp only [Kept.mk_se (wOff hm rfl)] | dsimp only | split

theorem State.giveTaken_kept {s : State} {n} {south} {x} (hm : kK &&& 0x4000000 = 0)  (hk : Kept kK k0 kM s) :
    Kept kK k0 kM (State.giveTaken s n south x) := by
  unfold State.giveTaken
  repeat' first | with_reducible assumption | with_reducible apply State.setSeCh_kept (wOff hm rfl) | with_reducible apply Kept.ite | with_reducible refine Kept.foldl ?_ (fun _ _ _ => ?_) | with_reducible refine Kept.foldlIn Prod.snd ?_ (fun _ _ _ => ?_) | with_reducible refine Kept.foldlIn (fun p => p.2.2) ?_ (fun _ _ _ => ?_) | dsimp only | split

theorem execLanePortBeatRequest_kept {q} {p} {given} {s : State} (hm : kK &&& 0x404080206 = 0)  (hk : Kept kK k0 kM s) :
    KeptR kK k0 kM (execLanePortBeatRequest q p given s) := by
  unfold execLanePortBeatRequest
  repeat' first | with_reducible assumption | with_reducible apply State.spGive_kept (wOff hm rfl) | with_reducible apply State.spRequest_kept (wOff hm rfl) | with_reducible apply State.giveTaken_kept (wOff hm rfl) | with_reducible apply Kept.ite | with_reducible apply KeptR.next | dsimp only | split

end Sys2Proof.Machine
end

