-- ==== Sys2Proof/Laws/KeptSdi.lean ====
section
/-! SUPPORT. The operations of Sys2Proof/Machine/Sdi.lean leave alone what `Kept` names. -/
namespace Sys2Proof.Machine
set_option linter.unusedSimpArgs false
set_option linter.unusedVariables false
variable {kK : Nat} {k0 : State} {kM : List Host.Cell → Prop}

theorem State.dropArmed_kept {s : State} {op} {n} (hm : kK &&& 0x400008006 = 0)  (hk : Kept kK k0 kM s) :
    Kept kK k0 kM (State.dropArmed s op n) := by
  unfold State.dropArmed
  repeat' first | with_reducible assumption | with_reducible apply State.endOps_kept (wOff hm rfl) | dsimp only | split

theorem State.closeUnit_kept {s : State} {n} (hm : kK &&& 0x404081206 = 0)  (hk : Kept kK k0 kM s) :
    Kept kK k0 kM (State.closeUnit s n) := by
  unfold State.closeUnit
  repeat' first | with_reducible assumption | with_reducible apply State.setSeCh_kept (wOff hm rfl) | with_reducible apply State.deliver_kept (wOff hm rfl) | with_reducible apply Kept.ite | dsimp only | split

theorem State.rxOff_kept {s : State} {n} (hm : kK &&& 0x40c000006 = 0)  (hk : Kept kK k0 kM s) :
    Kept kK k0 kM (State.rxOff s n) := by
  unfold State.rxOff
  repeat' first | with_reducible assumption | with_reducible apply State.setF_kept (wOff hm rfl) | with_reducible apply State.lower_kept (wOff hm rfl) | with_reducible apply State.setSeCh_kept (wOff hm rfl) | with_reducible apply State.streamBad_kept (wOff hm rfl) | with_reducible apply State.toRx_kept (wOff hm rfl) | with_reducible apply Kept.ite | with_reducible refine Kept.foldl ?_ (fun _ _ _ => ?_) | with_reducible refine Kept.foldlIn Prod.snd ?_ (fun _ _ _ => ?_) | with_reducible refine Kept.foldlIn (fun p => p.2.2) ?_ (fun _ _ _ => ?_) | dsimp only | split

theorem State.txOff_kept {s : State} {n} (hm : kK &&& 0x4000002 = 0)  (hk : Kept kK k0 kM s) :
    Kept kK k0 kM (State.txOff s n) := by
  unfold State.txOff
  repeat' first | with_reducible assumption | with_reducible apply State.setF_kept (wOff hm rfl) | with_reducible apply State.lower_kept (wOff hm rfl) | with_reducible apply State.setSeCh_kept (wOff hm rfl) | dsimp only | split

theorem State.txBlack_kept {s : State} {n} (hm : kK &&& 0x4000002 = 0)  (hk : Kept kK k0 kM s) :
    Kept kK k0 kM (State.txBlack s n) := by
  unfold State.txBlack
  repeat' first | with_reducible assumption | with_reducible apply State.setF_kept (wOff hm rfl) | with_reducible apply State.setSeCh_kept (wOff hm rfl) | with_reducible apply State.txOff_kept (wOff hm rfl) | with_reducible apply Kept.ite | dsimp only | split

theorem State.rxAbort_kept {s : State} {n} (hm : kK &&& 0x40c089206 = 0)  (hk : Kept kK k0 kM s) :
    Kept kK k0 kM (State.rxAbort s n) := by
  unfold State.rxAbort
  repeat' first | with_reducible assumption | with_reducible apply State.dropArmed_kept (wOff hm rfl) | with_reducible apply State.closeUnit_kept (wOff hm rfl) | with_reducible apply State.rxOff_kept (wOff hm rfl) | dsimp only | split

theorem State.txAbort_kept {s : State} {n} (hm : kK &&& 0x404008006 = 0)  (hk : Kept kK k0 kM s) :
    Kept kK k0 kM (State.txAbort s n) := by
  unfold State.txAbort
  repeat' first | with_reducible assumption | with_reducible apply State.dropArmed_kept (wOff hm rfl) | with_reducible apply State.txBlack_kept (wOff hm rfl) | dsimp only | split

theorem execSdiRxSet_kept {c} {s : State} (hm : kK &&& 0x8002 = 0)  (hk : Kept kK k0 kM s) :
    KeptR kK k0 kM (execSdiRxSet c s) := by
  unfold execSdiRxSet
  repeat' first | with_reducible assumption | with_reducible apply State.long_kept (wOff hm rfl) | with_reducible apply KeptR.next | (intro u hu) | simp only [id] | dsimp only | split

theorem execSdiRxSetQuery_kept {c} {s : State} (hm : kK &&& 0x8000 = 0)  (hk : Kept kK k0 kM s) :
    KeptR kK k0 kM (execSdiRxSetQuery c s) := by
  unfold execSdiRxSetQuery
  repeat' first | with_reducible assumption | with_reducible refine State.immediate_kept_quiet (wOff hm rfl) (fun _ _ => State.retriesFail_silent (by decide)) ?_ ?_ | with_reducible apply KeptR.next | (intro u hu) | simp only [id] | dsimp only | split

theorem State.sdiRxApply_kept {s : State} {n} {w5} {w6} (hm : kK &&& 0x40c089206 = 0)  (hk : Kept kK k0 kM s) :
    Kept kK k0 kM (State.sdiRxApply s n w5 w6).2 := by
  unfold State.sdiRxApply
  repeat' first | with_reducible assumption | with_reducible apply State.setF_kept (wOff hm rfl) | with_reducible apply State.raise_kept (wOff hm rfl) | with_reducible apply State.setB_kept (wOff hm rfl) | with_reducible apply State.setSeCh_kept (wOff hm rfl) | with_reducible apply State.toRx_kept (wOff hm rfl) | with_reducible apply State.closeUnit_kept (wOff hm rfl) | with_reducible apply State.rxOff_kept (wOff hm rfl) | with_reducible apply State.rxAbort_kept (wOff hm rfl) | with_reducible apply Kept.ite | with_reducible refine Kept.foldl ?_ (fun _ _ _ => ?_) | with_reducible refine Kept.foldlIn Prod.snd ?_ (fun _ _ _ => ?_) | with_reducible refine Kept.foldlIn (fun p => p.2.2) ?_ (fun _ _ _ => ?_) | dsimp only | split

theorem State.rxMoved_kept {s : State} {n} {t} (hm : kK &&& 0x400008006 = 0)  (hk : Kept kK k0 kM s) :
    Kept kK k0 kM (State.rxMoved s n t) := by
  unfold State.rxMoved
  repeat' first | with_reducible assumption | with_reducible apply State.complete_kept (wOff hm rfl) | with_reducible refine Kept.foldl ?_ (fun _ _ _ => ?_) | with_reducible refine Kept.foldlIn Prod.snd ?_ (fun _ _ _ => ?_) | with_reducible refine Kept.foldlIn (fun p => p.2.2) ?_ (fun _ _ _ => ?_) | dsimp only | split

theorem execSdiRxSetAct_kept {n} {edge} {s : State} (hm : kK &&& 0x44c089e06 = 0)  (hk : Kept kK k0 kM s) :
    KeptR kK k0 kM (execSdiRxSetAct n edge s) := by
  unfold execSdiRxSetAct
  repeat' first | with_reducible assumption | with_reducible apply State.putOp_kept (wOff hm rfl) | with_reducible apply State.complete_kept (wOff hm rfl) | with_reducible apply State.reachAt_kept (wOff hm rfl) | with_reducible apply State.sdiRxApply_kept (wOff hm rfl) | with_reducible apply State.rxMoved_kept (wOff hm rfl) | with_reducible apply Kept.ite | with_reducible apply KeptR.next | (refine Kept.sndEq (x := (State.sdiRxApply _ _ _ _)) (by assumption) ?_) | dsimp only | split

theorem State.rxErrors_kept {s : State} {n} {L} {l} (hm : kK &&& 0x408000006 = 0)  (hk : Kept kK k0 kM s) :
    Kept kK k0 kM (State.rxErrors s n L l) := by
  unfold State.rxErrors
  repeat' first | with_reducible assumption | with_reducible apply State.protEvents_kept (wOff hm rfl) | with_reducible apply State.protCrc_kept (wOff hm rfl) | with_reducible apply State.seMark_kept (wOff hm rfl) | with_reducible apply State.seCount_kept (wOff hm rfl) | with_reducible apply Kept.ite | with_reducible refine Kept.foldl ?_ (fun _ _ _ => ?_) | with_reducible refine Kept.foldlIn Prod.snd ?_ (fun _ _ _ => ?_) | with_reducible refine Kept.foldlIn (fun p => p.2.2) ?_ (fun _ _ _ => ?_) | dsimp only | split

theorem execSdiRxLine_kept {n} {l} {s : State} (hm : kK &&& 0x40c081206 = 0)  (hk : Kept kK k0 kM s) :
    KeptR kK k0 kM (execSdiRxLine n l s) := by
  unfold execSdiRxLine
  repeat' first | with_reducible assumption | with_reducible apply State.setSeCh_kept (wOff hm rfl) | with_reducible apply State.seCount_kept (wOff hm rfl) | with_reducible apply State.deliver_kept (wOff hm rfl) | with_reducible apply State.rxErrors_kept (wOff hm rfl) | with_reducible apply Kept.ite | with_reducible apply KeptR.next | dsimp only | split

theorem State.moveDelivery_kept {s : State} {n} {t} (hm : kK &&& 0x404008006 = 0)  (hk : Kept kK k0 kM s) :
    Kept kK k0 kM (State.moveDelivery s n t) := by
  unfold State.moveDelivery
  repeat' first | with_reducible assumption | with_reducible apply State.setB_kept (wOff hm rfl) | with_reducible apply State.setSeCh_kept (wOff hm rfl) | with_reducible apply State.rxMoved_kept (wOff hm rfl) | dsimp only | split

theorem State.formatCheck_kept {s : State} {n} {lines} {samples} (hm : kK &&& 0x404081206 = 0)  (hk : Kept kK k0 kM s) :
    Kept kK k0 kM (State.formatCheck s n lines samples) := by
  unfold State.formatCheck
  repeat' first | with_reducible assumption | with_reducible apply State.setSeCh_kept (wOff hm rfl) | with_reducible apply State.seMark_kept (wOff hm rfl) | with_reducible apply State.deliver_kept (wOff hm rfl) | with_reducible apply Kept.ite | dsimp only | split

theorem State.protLinks_kept {s : State} {n} {t} (hm : kK &&& 0x408001006 = 0)  (hk : Kept kK k0 kM s) :
    Kept kK k0 kM (State.protLinks s n t) := by
  unfold State.protLinks
  repeat' first | with_reducible assumption | with_reducible apply State.freeVal_kept (wOff hm rfl) | with_reducible apply State.protSdi_kept (wOff hm rfl) | with_reducible refine Kept.foldl ?_ (fun _ _ _ => ?_) | with_reducible refine Kept.foldlIn Prod.snd ?_ (fun _ _ _ => ?_) | with_reducible refine Kept.foldlIn (fun p => p.2.2) ?_ (fun _ _ _ => ?_) | (refine Kept.sndEq (x := (State.freeVal _)) (by assumption) ?_) | dsimp only | split

theorem execSdiRxFrame_kept {n} {t} {pid} {lines} {samples} {inter} {s : State} (hm : kK &&& 0x4cc0c9a06 = 0)  (hk : Kept kK k0 kM s) :
    KeptR kK k0 kM (execSdiRxFrame n t pid lines samples inter s) := by
  unfold execSdiRxFrame
  repeat' first | with_reducible assumption | with_reducible apply State.setF_kept (wOff hm rfl) | with_reducible apply State.setB_kept (wOff hm rfl) | with_reducible apply State.sdiReference_kept (wOff hm rfl) | with_reducible apply State.setSeCh_kept (wOff hm rfl) | with_reducible apply State.seMark_kept (wOff hm rfl) | with_reducible apply State.toRx_kept (wOff hm rfl) | with_reducible apply State.moveDelivery_kept (wOff hm rfl) | with_reducible apply State.formatCheck_kept (wOff hm rfl) | with_reducible apply State.protLinks_kept (wOff hm rfl) | with_reducible apply Kept.ite | with_reducible apply KeptR.next | dsimp only | split

theorem execSdiInputLost_kept {n} {skew} {s : State} (hm : kK &&& 0x40c081206 = 0)  (hk : Kept kK k0 kM s) :
    KeptR kK k0 kM (execSdiInputLost n skew s) := by
  unfold execSdiInputLost
  repeat' first | with_reducible assumption | with_reducible apply State.setSeCh_kept (wOff hm rfl) | with_reducible apply State.seMark_kept (wOff hm rfl) | with_reducible apply State.toRx_kept (wOff hm rfl) | with_reducible apply State.deliver_kept (wOff hm rfl) | with_reducible apply Kept.ite | with_reducible apply KeptR.next | dsimp only | split

theorem execSdiTxSet_kept {c} {s : State} (hm : kK &&& 0x8002 = 0)  (hk : Kept kK k0 kM s) :
    KeptR kK k0 kM (execSdiTxSet c s) := by
  unfold execSdiTxSet
  repeat' first | with_reducible assumption | with_reducible apply State.long_kept (wOff hm rfl) | with_reducible apply KeptR.next | (intro u hu) | simp only [id] | dsimp only | split

theorem execSdiTxSetQuery_kept {c} {s : State} (hm : kK &&& 0x8000 = 0)  (hk : Kept kK k0 kM s) :
    KeptR kK k0 kM (execSdiTxSetQuery c s) := by
  unfold execSdiTxSetQuery
  repeat' first | with_reducible assumption | with_reducible refine State.immediate_kept_quiet (wOff hm rfl) (fun _ _ => State.retriesFail_silent (by decide)) ?_ ?_ | with_reducible apply KeptR.next | (intro u hu) | simp only [id] | dsimp only | split

theorem State.sdiTxApply_kept {s : State} {n} {edge} {ws} (hm : kK &&& 0x404008006 = 0)  (hk : Kept kK k0 kM s) :
    Kept kK k0 kM (State.sdiTxApply s n edge ws) := by
  unfold State.sdiTxApply
  repeat' first | with_reducible assumption | with_reducible apply State.setF_kept (wOff hm rfl) | with_reducible apply State.raise_kept (wOff hm rfl) | with_reducible apply State.lower_kept (wOff hm rfl) | with_reducible apply State.setSeCh_kept (wOff hm rfl) | with_reducible apply State.txOff_kept (wOff hm rfl) | with_reducible apply State.txAbort_kept (wOff hm rfl) | with_reducible apply Kept.ite | with_reducible refine Kept.foldl ?_ (fun _ _ _ => ?_) | with_reducible refine Kept.foldlIn Prod.snd ?_ (fun _ _ _ => ?_) | with_reducible refine Kept.foldlIn (fun p => p.2.2) ?_ (fun _ _ _ => ?_) | dsimp only | split

theorem execSdiTxSetAct_kept {n} {edge} {s : State} (hm : kK &&& 0x444008c06 = 0)  (hk : Kept kK k0 kM s) :
    KeptR kK k0 kM (execSdiTxSetAct n edge s) := by
  unfold execSdiTxSetAct
  repeat' first | with_reducible assumption | with_reducible apply State.putOp_kept (wOff hm rfl) | with_reducible apply State.complete_kept (wOff hm rfl) | with_reducible apply State.reachAt_kept (wOff hm rfl) | with_reducible apply State.sdiTxApply_kept (wOff hm rfl) | with_reducible apply Kept.ite | with_reducible apply KeptR.next | dsimp only | split

theorem State.txStarted_kept {s : State} {n} {t} (hm : kK &&& 0x400008006 = 0)  (hk : Kept kK k0 kM s) :
    Kept kK k0 kM (State.txStarted s n t) := by
  unfold State.txStarted
  repeat' first | with_reducible assumption | with_reducible apply State.complete_kept (wOff hm rfl) | with_reducible refine Kept.foldl ?_ (fun _ _ _ => ?_) | with_reducible refine Kept.foldlIn Prod.snd ?_ (fun _ _ _ => ?_) | with_reducible refine Kept.foldlIn (fun p => p.2.2) ?_ (fun _ _ _ => ?_) | dsimp only | split

theorem execSdiTxFirstFrame_kept {n} {t} {s : State} (hm : kK &&& 0x444008c06 = 0)  (hk : Kept kK k0 kM s) :
    KeptR kK k0 kM (execSdiTxFirstFrame n t s) := by
  unfold execSdiTxFirstFrame
  repeat' first | with_reducible assumption | with_reducible apply State.setF_kept (wOff hm rfl) | with_reducible apply State.reachAt_kept (wOff hm rfl) | with_reducible apply State.setSeCh_kept (wOff hm rfl) | with_reducible apply State.txStarted_kept (wOff hm rfl) | with_reducible apply Kept.ite | with_reducible apply KeptR.next | dsimp only | split

theorem State.blacked_kept {s : State} {n} (hm : kK &&& 0x400000006 = 0)  (hk : Kept kK k0 kM s) :
    Kept kK k0 kM (State.blacked s n) := by
  unfold State.blacked
  repeat' first | with_reducible assumption | with_reducible apply State.seMark_kept (wOff hm rfl) | with_reducible apply State.seCount_kept (wOff hm rfl) | dsimp only | split

theorem State.txAdvance_kept {s : State} {n} {left} (hm : kK &&& 0x4000000 = 0)  (hk : Kept kK k0 kM s) :
    Kept kK k0 kM (State.txAdvance s n left) := by
  unfold State.txAdvance
  repeat' first | with_reducible assumption | with_reducible apply State.setSeCh_kept (wOff hm rfl) | with_reducible apply Kept.ite | dsimp only | split

theorem State.txBuild_kept {s : State} {n} {L} {u} (hm : kK &&& 0x400000006 = 0)  (hk : Kept kK k0 kM s) :
    Kept kK k0 kM (State.txBuild s n L u).1 := by
  unfold State.txBuild
  repeat' first | with_reducible assumption | with_reducible apply State.seMark_kept (wOff hm rfl) | with_reducible apply State.blacked_kept (wOff hm rfl) | with_reducible apply Kept.ite | dsimp only | split

theorem execSdiTxLine_kept {n} {_active} {_room} {s : State} (hm : kK &&& 0x404000206 = 0)  (hk : Kept kK k0 kM s) :
    KeptR kK k0 kM (execSdiTxLine n _active _room s) := by
  unfold execSdiTxLine
  repeat' first | with_reducible assumption | with_reducible apply State.emit_kept (wOff hm rfl) | with_reducible apply State.seMark_kept (wOff hm rfl) | with_reducible apply State.seCount_kept (wOff hm rfl) | with_reducible apply State.txAdvance_kept (wOff hm rfl) | with_reducible apply State.txBuild_kept (wOff hm rfl) | with_reducible apply Kept.ite | with_reducible apply KeptR.next | (refine Kept.sndEq (x := (State.txBuild _ _ _ _)) (by assumption) ?_) | dsimp only | split

theorem execXptAt_kept {c} {s : State} (hm : kK &&& 0x8002 = 0)  (hk : Kept kK k0 kM s) :
    KeptR kK k0 kM (execXptAt c s) := by
  unfold execXptAt
  repeat' first | with_reducible assumption | with_reducible apply State.long_kept (wOff hm rfl) | with_reducible apply KeptR.next | (intro u hu) | simp only [id] | dsimp only | split

theorem execXptAtQuery_kept {c} {s : State} (hm : kK &&& 0x8000 = 0)  (hk : Kept kK k0 kM s) :
    KeptR kK k0 kM (execXptAtQuery c s) := by
  unfold execXptAtQuery
  repeat' first | with_reducible assumption | with_reducible refine State.immediate_kept_quiet (wOff hm rfl) (fun _ _ => State.retriesFail_silent (by decide)) ?_ ?_ | with_reducible apply KeptR.next | (intro u hu) | simp only [id] | dsimp only | split

theorem execXptAtAct_kept {n} {edge} {s : State} (hm : kK &&& 0x444008c06 = 0)  (hk : Kept kK k0 kM s) :
    KeptR kK k0 kM (execXptAtAct n edge s) := by
  unfold execXptAtAct
  repeat' first | with_reducible assumption | with_reducible apply State.setF_kept (wOff hm rfl) | with_reducible apply State.complete_kept (wOff hm rfl) | with_reducible apply State.reachAt_kept (wOff hm rfl) | with_reducible apply State.setSeCh_kept (wOff hm rfl) | with_reducible apply Kept.ite | with_reducible apply KeptR.next | dsimp only | split

end Sys2Proof.Machine
end

