-- ==== Sys2Proof/Laws/KeptIp.lean ====
section
/-! SUPPORT. The operations of Sys2Proof/Machine/Ip.lean leave alone what `Kept` names. -/
namespace Sys2Proof.Machine
set_option linter.unusedSimpArgs false
set_option linter.unusedVariables false
variable {kK : Nat} {k0 : State} {kM : List Host.Cell → Prop}

theorem State.toFlow_kept {s : State} {g} {i} {v} (hm : kK &&& 0x408000006 = 0)  (hk : Kept kK k0 kM s) :
    Kept kK k0 kM (State.toFlow s g i v) := by
  unfold State.toFlow
  repeat' first | with_reducible assumption | with_reducible apply State.setF_kept (wOff hm rfl) | with_reducible apply State.signal_kept (wOff hm rfl) | with_reducible apply State.protBad_kept (wOff hm rfl) | with_reducible apply State.protFlowLost_kept (wOff hm rfl) | with_reducible apply Kept.ite | dsimp only | split

theorem State.rxfMark_kept {s : State} {g} {i} {f} (hm : kK &&& 0x400000006 = 0)  (hk : Kept kK k0 kM s) :
    Kept kK k0 kM (State.rxfMark s g i f) := by
  unfold State.rxfMark
  repeat' first | with_reducible assumption | with_reducible apply State.mark_kept (wOff hm rfl) | dsimp only | split

theorem State.flCount_kept {s : State} {g} {base} {f} {k} (hm : kK &&& 0x400000006 = 0)  (hk : Kept kK k0 kM s) :
    Kept kK k0 kM (State.flCount s g base f k) := by
  unfold State.flCount
  repeat' first | with_reducible assumption | with_reducible apply State.seCount_kept (wOff hm rfl) | dsimp only | split

theorem State.settleMcf_kept {s : State} {l} (hm : kK &&& 0x2 = 0)  (hk : Kept kK k0 kM s) :
    Kept kK k0 kM (State.settleMcf s l) := by
  unfold State.settleMcf
  repeat' first | with_reducible assumption | with_reducible apply State.setF_kept (wOff hm rfl) | dsimp only | split

theorem State.flowDeliver_kept {s : State} {g} {i} {xs} (hm : kK &&& 0x400081206 = 0)  (hk : Kept kK k0 kM s) :
    Kept kK k0 kM (State.flowDeliver s g i xs) := by
  unfold State.flowDeliver
  repeat' first | with_reducible assumption | with_reducible apply State.deliver_kept (wOff hm rfl) | dsimp only | split

theorem State.closeRow_kept {s : State} {g} {i} (hm : kK &&& 0x404081206 = 0)  (hk : Kept kK k0 kM s) :
    Kept kK k0 kM (State.closeRow s g i) := by
  unfold State.closeRow
  repeat' first | with_reducible assumption | with_reducible apply State.setFlow_kept (wOff hm rfl) | with_reducible apply State.flowDeliver_kept (wOff hm rfl) | dsimp only | split

theorem State.rowSegment_kept {s : State} {g} {i} {t} {seg} (hm : kK &&& 0x404081206 = 0)  (hk : Kept kK k0 kM s) :
    Kept kK k0 kM (State.rowSegment s g i t seg) := by
  unfold State.rowSegment
  repeat' first | with_reducible assumption | with_reducible apply State.setFlow_kept (wOff hm rfl) | with_reducible apply State.closeRow_kept (wOff hm rfl) | with_reducible apply Kept.ite | with_reducible refine Kept.foldl ?_ (fun _ _ _ => ?_) | with_reducible refine Kept.foldlIn Prod.snd ?_ (fun _ _ _ => ?_) | with_reducible refine Kept.foldlIn (fun p => p.2.2) ?_ (fun _ _ _ => ?_) | dsimp only | split

theorem State.videoPacket_kept {s : State} {g} {i} {t} {p} (hm : kK &&& 0x404081206 = 0)  (hk : Kept kK k0 kM s) :
    Kept kK k0 kM (State.videoPacket s g i t p) := by
  unfold State.videoPacket
  repeat' first | with_reducible assumption | with_reducible apply State.setFlow_kept (wOff hm rfl) | with_reducible apply State.closeRow_kept (wOff hm rfl) | with_reducible apply State.rowSegment_kept (wOff hm rfl) | with_reducible apply Kept.ite | with_reducible refine Kept.foldl ?_ (fun _ _ _ => ?_) | with_reducible refine Kept.foldlIn Prod.snd ?_ (fun _ _ _ => ?_) | with_reducible refine Kept.foldlIn (fun p => p.2.2) ?_ (fun _ _ _ => ?_) | dsimp only | split

theorem State.poisonPacket_kept {s : State} {g} {i} {t} (hm : kK &&& 0x400081206 = 0)  (hk : Kept kK k0 kM s) :
    Kept kK k0 kM (State.poisonPacket s g i t) := by
  unfold State.poisonPacket
  repeat' first | with_reducible assumption | with_reducible apply State.flowDeliver_kept (wOff hm rfl) | dsimp only | split

theorem State.missing_kept {s : State} {g} {i} {t} {k} (hm : kK &&& 0x408081206 = 0)  (hk : Kept kK k0 kM s) :
    Kept kK k0 kM (State.missing s g i t k) := by
  unfold State.missing
  repeat' first | with_reducible assumption | with_reducible apply State.protEvents_kept (wOff hm rfl) | with_reducible apply State.essence_kept (wOff hm rfl) | with_reducible apply State.rxfMark_kept (wOff hm rfl) | with_reducible apply State.flCount_kept (wOff hm rfl) | with_reducible apply State.poisonPacket_kept (wOff hm rfl) | with_reducible apply Kept.ite | with_reducible refine Kept.foldl ?_ (fun _ _ _ => ?_) | with_reducible refine Kept.foldlIn Prod.snd ?_ (fun _ _ _ => ?_) | with_reducible refine Kept.foldlIn (fun p => p.2.2) ?_ (fun _ _ _ => ?_) | dsimp only | split

theorem State.unpack_kept {s : State} {g} {i} {t} {p} (hm : kK &&& 0x40c081206 = 0)  (hk : Kept kK k0 kM s) :
    Kept kK k0 kM (State.unpack s g i t p) := by
  unfold State.unpack
  repeat' first | with_reducible assumption | with_reducible apply State.essence_kept (wOff hm rfl) | with_reducible apply State.setFlow_kept (wOff hm rfl) | with_reducible apply State.flowDeliver_kept (wOff hm rfl) | with_reducible apply State.videoPacket_kept (wOff hm rfl) | with_reducible apply State.missing_kept (wOff hm rfl) | with_reducible apply Kept.ite | dsimp only | split

theorem State.accepted_kept {s : State} {g} {i} (hm : kK &&& 0x408000006 = 0)  (hk : Kept kK k0 kM s) :
    Kept kK k0 kM (State.accepted s g i) := by
  unfold State.accepted
  repeat' first | with_reducible assumption | with_reducible apply State.toFlow_kept (wOff hm rfl) | with_reducible apply State.flCount_kept (wOff hm rfl) | with_reducible apply Kept.ite | dsimp only | split

theorem State.mergeArrive_kept {s : State} {g} {i} {bitv} {p} (hm : kK &&& 0x40c000006 = 0)  (hk : Kept kK k0 kM s) :
    Kept kK k0 kM (State.mergeArrive s g i bitv p) := by
  unfold State.mergeArrive
  repeat' first | with_reducible assumption | with_reducible apply State.setFlow_kept (wOff hm rfl) | with_reducible apply State.accepted_kept (wOff hm rfl) | with_reducible apply Kept.ite | dsimp only | split

theorem execIpPacketReceive_kept {g} {i} {p} {s : State} (hm : kK &&& 0x44c081e06 = 0)  (hk : Kept kK k0 kM s) :
    KeptR kK k0 kM (execIpPacketReceive g i p s) := by
  unfold execIpPacketReceive
  repeat' first | with_reducible assumption | with_reducible apply State.reachAt_kept (wOff hm rfl) | with_reducible apply State.protPacket_kept (wOff hm rfl) | with_reducible apply State.essence_kept (wOff hm rfl) | with_reducible apply State.setSeCh_kept (wOff hm rfl) | with_reducible apply State.setFlow_kept (wOff hm rfl) | with_reducible apply State.toFlow_kept (wOff hm rfl) | with_reducible apply State.unpack_kept (wOff hm rfl) | with_reducible apply State.accepted_kept (wOff hm rfl) | with_reducible apply State.mergeArrive_kept (wOff hm rfl) | with_reducible apply Kept.ite | with_reducible apply KeptR.next | dsimp only | split

theorem State.mergeLeave_kept {s : State} {g} {i} {e} (hm : kK &&& 0x40c081206 = 0)  (hk : Kept kK k0 kM s) :
    Kept kK k0 kM (State.mergeLeave s g i e) := by
  unfold State.mergeLeave
  repeat' first | with_reducible assumption | with_reducible apply State.setFlow_kept (wOff hm rfl) | with_reducible apply State.rxfMark_kept (wOff hm rfl) | with_reducible apply State.flCount_kept (wOff hm rfl) | with_reducible apply State.unpack_kept (wOff hm rfl) | with_reducible apply Kept.ite | dsimp only | split

theorem execMergePacketRelease_kept {g} {i} {edge} {s : State} (hm : kK &&& 0x44c081e06 = 0)  (hk : Kept kK k0 kM s) :
    KeptR kK k0 kM (execMergePacketRelease g i edge s) := by
  unfold execMergePacketRelease
  repeat' first | with_reducible assumption | with_reducible apply State.reachAt_kept (wOff hm rfl) | with_reducible apply State.mergeLeave_kept (wOff hm rfl) | with_reducible apply Kept.ite | with_reducible apply KeptR.next | dsimp only | split

theorem State.mergeFlush_kept {s : State} {g} {i} (hm : kK &&& 0x40c081206 = 0)  (hk : Kept kK k0 kM s) :
    Kept kK k0 kM (State.mergeFlush s g i) := by
  unfold State.mergeFlush
  repeat' first | with_reducible assumption | with_reducible apply State.mergeLeave_kept (wOff hm rfl) | with_reducible refine Kept.foldl ?_ (fun _ _ _ => ?_) | with_reducible refine Kept.foldlIn Prod.snd ?_ (fun _ _ _ => ?_) | with_reducible refine Kept.foldlIn (fun p => p.2.2) ?_ (fun _ _ _ => ?_) | dsimp only | split

theorem State.flowLost_kept {s : State} {g} {i} (hm : kK &&& 0x40c081206 = 0)  (hk : Kept kK k0 kM s) :
    Kept kK k0 kM (State.flowLost s g i) := by
  unfold State.flowLost
  repeat' first | with_reducible assumption | with_reducible apply State.setFlow_kept (wOff hm rfl) | with_reducible apply State.toFlow_kept (wOff hm rfl) | with_reducible apply State.rxfMark_kept (wOff hm rfl) | with_reducible apply State.flowDeliver_kept (wOff hm rfl) | with_reducible apply State.closeRow_kept (wOff hm rfl) | with_reducible apply Kept.ite | dsimp only | split

theorem State.legSilent_kept {s : State} {g} {i} (hm : kK &&& 0x40c000006 = 0)  (hk : Kept kK k0 kM s) :
    Kept kK k0 kM (State.legSilent s g i) := by
  unfold State.legSilent
  repeat' first | with_reducible assumption | with_reducible apply State.protFlowLost_kept (wOff hm rfl) | with_reducible apply State.setFlow_kept (wOff hm rfl) | with_reducible apply Kept.ite | dsimp only | split

theorem State.mergeLost_kept {s : State} {g} {i} (hm : kK &&& 0x40c081206 = 0)  (hk : Kept kK k0 kM s) :
    Kept kK k0 kM (State.mergeLost s g i) := by
  unfold State.mergeLost
  repeat' first | with_reducible assumption | with_reducible apply State.toFlow_kept (wOff hm rfl) | with_reducible apply State.flowLost_kept (wOff hm rfl) | with_reducible apply Kept.ite | dsimp only | split

theorem execIpFlowLost_kept {g} {i} {s : State} (hm : kK &&& 0x40c081206 = 0)  (hk : Kept kK k0 kM s) :
    KeptR kK k0 kM (execIpFlowLost g i s) := by
  unfold execIpFlowLost
  repeat' first | with_reducible assumption | with_reducible apply State.flowLost_kept (wOff hm rfl) | with_reducible apply State.legSilent_kept (wOff hm rfl) | with_reducible apply State.mergeLost_kept (wOff hm rfl) | with_reducible apply KeptR.next | dsimp only | split

theorem State.showMerged_kept {s : State} {g} {i} (hm : kK &&& 0x2 = 0)  (hk : Kept kK k0 kM s) :
    Kept kK k0 kM (State.showMerged s g i) := by
  unfold State.showMerged
  repeat' first | with_reducible assumption | with_reducible apply State.setB_kept (wOff hm rfl) | with_reducible apply Kept.ite | dsimp only | split

theorem State.separate_kept {s : State} {g} {i} (hm : kK &&& 0x40c081206 = 0)  (hk : Kept kK k0 kM s) :
    Kept kK k0 kM (State.separate s g i) := by
  unfold State.separate
  repeat' first | with_reducible assumption | with_reducible apply State.setFlow_kept (wOff hm rfl) | with_reducible apply State.settleMcf_kept (wOff hm rfl) | with_reducible apply State.mergeFlush_kept (wOff hm rfl) | with_reducible apply State.showMerged_kept (wOff hm rfl) | dsimp only | split

theorem State.flowAbort_kept {s : State} {g} {i} (hm : kK &&& 0x40c081206 = 0)  (hk : Kept kK k0 kM s) :
    Kept kK k0 kM (State.flowAbort s g i) := by
  unfold State.flowAbort
  repeat' first | with_reducible assumption | with_reducible apply State.setSeCh_kept (wOff hm rfl) | with_reducible apply State.setFlow_kept (wOff hm rfl) | with_reducible apply State.toFlow_kept (wOff hm rfl) | with_reducible apply State.flowDeliver_kept (wOff hm rfl) | with_reducible apply Kept.ite | dsimp only | split

theorem State.endDisable_kept {s : State} {g} {i} {sel} {aborted} (hm : kK &&& 0x400008006 = 0)  (hk : Kept kK k0 kM s) :
    Kept kK k0 kM (State.endDisable s g i sel aborted) := by
  unfold State.endDisable
  repeat' first | with_reducible assumption | with_reducible apply State.complete_kept (wOff hm rfl) | with_reducible refine Kept.foldl ?_ (fun _ _ _ => ?_) | with_reducible refine Kept.foldlIn Prod.snd ?_ (fun _ _ _ => ?_) | with_reducible refine Kept.foldlIn (fun p => p.2.2) ?_ (fun _ _ _ => ?_) | dsimp only | split

theorem State.leaveGroup_kept {s : State} {g} {f} (hm : kK &&& 0x200 = 0)  (hk : Kept kK k0 kM s) :
    Kept kK k0 kM (State.leaveGroup s g f) := by
  unfold State.leaveGroup
  repeat' first | with_reducible assumption | with_reducible apply State.emit_kept (wOff hm rfl) | with_reducible apply Kept.ite | dsimp only | split

theorem State.flowRemove_kept {s : State} {g} {i} (hm : kK &&& 0x40c089206 = 0)  (hk : Kept kK k0 kM s) :
    Kept kK k0 kM (State.flowRemove s g i) := by
  unfold State.flowRemove
  repeat' first | with_reducible assumption | with_reducible apply State.lower_kept (wOff hm rfl) | with_reducible apply State.setSeCh_kept (wOff hm rfl) | with_reducible apply State.setFlow_kept (wOff hm rfl) | with_reducible apply State.settleMcf_kept (wOff hm rfl) | with_reducible apply State.separate_kept (wOff hm rfl) | with_reducible apply State.flowAbort_kept (wOff hm rfl) | with_reducible apply State.endDisable_kept (wOff hm rfl) | with_reducible apply State.leaveGroup_kept (wOff hm rfl) | with_reducible apply Kept.ite | dsimp only | split

theorem State.portSilent_kept {s : State} {n} (hm : kK &&& 0x2 = 0)  (hk : Kept kK k0 kM s) :
    Kept kK k0 kM (State.portSilent s n) := by
  unfold State.portSilent
  repeat' first | with_reducible assumption | with_reducible apply State.lower_kept (wOff hm rfl) | dsimp only | split

theorem State.portRemove_kept {s : State} {n} (hm : kK &&& 0x40c089206 = 0)  (hk : Kept kK k0 kM s) :
    Kept kK k0 kM (State.portRemove s n) := by
  unfold State.portRemove
  repeat' first | with_reducible assumption | with_reducible apply State.lower_kept (wOff hm rfl) | with_reducible apply State.setSeCh_kept (wOff hm rfl) | with_reducible apply State.flowRemove_kept (wOff hm rfl) | with_reducible apply State.portSilent_kept (wOff hm rfl) | with_reducible refine Kept.foldl ?_ (fun _ _ _ => ?_) | with_reducible refine Kept.foldlIn Prod.snd ?_ (fun _ _ _ => ?_) | with_reducible refine Kept.foldlIn (fun p => p.2.2) ?_ (fun _ _ _ => ?_) | dsimp only | split

theorem State.sdiEnd_kept {s : State} {n} (hm : kK &&& 0x40c089206 = 0)  (hk : Kept kK k0 kM s) :
    Kept kK k0 kM (State.sdiEnd s n) := by
  unfold State.sdiEnd
  repeat' first | with_reducible assumption | with_reducible apply State.txOff_kept (wOff hm rfl) | with_reducible apply State.rxAbort_kept (wOff hm rfl) | with_reducible apply State.txAbort_kept (wOff hm rfl) | with_reducible apply State.endDisable_kept (wOff hm rfl) | with_reducible apply Kept.ite | dsimp only | split

theorem State.portAdd_kept {s : State} {n} {ws} (hm : kK &&& 0x40c089206 = 0)  (hk : Kept kK k0 kM s) :
    Kept kK k0 kM (State.portAdd s n ws) := by
  unfold State.portAdd
  repeat' first | with_reducible assumption | with_reducible apply State.setF_kept (wOff hm rfl) | with_reducible apply State.raise_kept (wOff hm rfl) | with_reducible apply State.signal_kept (wOff hm rfl) | with_reducible apply State.mark_kept (wOff hm rfl) | with_reducible apply State.setSeCh_kept (wOff hm rfl) | with_reducible apply State.portRemove_kept (wOff hm rfl) | with_reducible apply State.sdiEnd_kept (wOff hm rfl) | with_reducible apply Kept.ite | with_reducible refine Kept.foldl ?_ (fun _ _ _ => ?_) | with_reducible refine Kept.foldlIn Prod.snd ?_ (fun _ _ _ => ?_) | with_reducible refine Kept.foldlIn (fun p => p.2.2) ?_ (fun _ _ _ => ?_) | dsimp only | split

theorem State.flowAdd_kept {s : State} {g} {i} {ws} (hm : kK &&& 0x40c089206 = 0)  (hk : Kept kK k0 kM s) :
    Kept kK k0 kM (State.flowAdd s g i ws) := by
  unfold State.flowAdd
  repeat' first | with_reducible assumption | with_reducible apply State.raise_kept (wOff hm rfl) | with_reducible apply State.emit_kept (wOff hm rfl) | with_reducible apply State.setFlow_kept (wOff hm rfl) | with_reducible apply State.toFlow_kept (wOff hm rfl) | with_reducible apply State.settleMcf_kept (wOff hm rfl) | with_reducible apply State.flowRemove_kept (wOff hm rfl) | with_reducible apply Kept.ite | dsimp only | split

theorem execIpFlowAdd_kept {c} {s : State} (hm : kK &&& 0x40c089206 = 0)  (hk : Kept kK k0 kM s) :
    KeptR kK k0 kM (execIpFlowAdd c s) := by
  unfold execIpFlowAdd
  repeat' first | with_reducible assumption | with_reducible apply State.mark_kept (wOff hm rfl) | with_reducible apply State.immediate_kept (wOff hm rfl) | with_reducible apply State.portAdd_kept (wOff hm rfl) | with_reducible apply State.flowAdd_kept (wOff hm rfl) | with_reducible apply Kept.ite | with_reducible apply KeptR.next | (intro u hu) | simp only [id] | dsimp only | split

theorem execIpFlowAddQuery_kept {c} {s : State} (hm : kK &&& 0x8000 = 0)  (hk : Kept kK k0 kM s) :
    KeptR kK k0 kM (execIpFlowAddQuery c s) := by
  unfold execIpFlowAddQuery
  repeat' first | with_reducible assumption | with_reducible refine State.immediate_kept_quiet (wOff hm rfl) (fun _ _ => State.retriesFail_silent (by decide)) ?_ ?_ | with_reducible apply Kept.ite | with_reducible apply KeptR.next | (intro u hu) | simp only [id] | dsimp only | split

theorem execIpFlowDel_kept {c} {s : State} (hm : kK &&& 0x40c089206 = 0)  (hk : Kept kK k0 kM s) :
    KeptR kK k0 kM (execIpFlowDel c s) := by
  unfold execIpFlowDel
  repeat' first | with_reducible assumption | with_reducible apply State.immediate_kept (wOff hm rfl) | with_reducible apply State.flowRemove_kept (wOff hm rfl) | with_reducible apply State.portRemove_kept (wOff hm rfl) | with_reducible apply Kept.ite | with_reducible apply KeptR.next | (intro u hu) | simp only [id] | dsimp only | split

theorem State.merge_kept {s : State} {g} {i} {gb} {ib} {ws} (hm : kK &&& 0x404081206 = 0)  (hk : Kept kK k0 kM s) :
    Kept kK k0 kM (State.merge s g i gb ib ws) := by
  unfold State.merge
  repeat' first | with_reducible assumption | with_reducible apply State.raise_kept (wOff hm rfl) | with_reducible apply State.setFlow_kept (wOff hm rfl) | with_reducible apply State.settleMcf_kept (wOff hm rfl) | with_reducible apply State.closeRow_kept (wOff hm rfl) | dsimp only | split

theorem execMergeSet_kept {c} {s : State} (hm : kK &&& 0x40c089206 = 0)  (hk : Kept kK k0 kM s) :
    KeptR kK k0 kM (execMergeSet c s) := by
  unfold execMergeSet
  repeat' first | with_reducible assumption | with_reducible apply State.immediate_kept (wOff hm rfl) | with_reducible apply State.separate_kept (wOff hm rfl) | with_reducible apply State.merge_kept (wOff hm rfl) | with_reducible apply Kept.ite | with_reducible apply KeptR.next | (intro u hu) | simp only [id] | dsimp only | split

theorem execMergeSetQuery_kept {c} {s : State} (hm : kK &&& 0x8000 = 0)  (hk : Kept kK k0 kM s) :
    KeptR kK k0 kM (execMergeSetQuery c s) := by
  unfold execMergeSetQuery
  repeat' first | with_reducible assumption | with_reducible refine State.immediate_kept_quiet (wOff hm rfl) (fun _ _ => State.retriesFail_silent (by decide)) ?_ ?_ | with_reducible apply KeptR.next | (intro u hu) | simp only [id] | dsimp only | split

theorem State.sendPacket_kept {s : State} {g} {i} {ts} {xs} (hm : kK &&& 0x404001206 = 0)  (hk : Kept kK k0 kM s) :
    Kept kK k0 kM (State.sendPacket s g i ts xs) := by
  unfold State.sendPacket
  repeat' first | with_reducible assumption | with_reducible apply State.emit_kept (wOff hm rfl) | with_reducible apply State.freeVal_kept (wOff hm rfl) | with_reducible apply State.setFlow_kept (wOff hm rfl) | with_reducible apply State.flCount_kept (wOff hm rfl) | with_reducible apply Kept.ite | (refine Kept.sndEq (x := (State.freeVal _)) (by assumption) ?_) | dsimp only | split

theorem execIpTxPacketDue_kept {g} {i} {edge} {L} {off} {len} {last} {s : State} (hm : kK &&& 0x444081e06 = 0)  (hk : Kept kK k0 kM s) :
    KeptR kK k0 kM (execIpTxPacketDue g i edge L off len last s) := by
  unfold execIpTxPacketDue
  repeat' first | with_reducible assumption | with_reducible apply State.mark_kept (wOff hm rfl) | with_reducible apply State.reachAt_kept (wOff hm rfl) | with_reducible apply State.essence_kept (wOff hm rfl) | with_reducible apply State.setSeCh_kept (wOff hm rfl) | with_reducible apply State.seMark_kept (wOff hm rfl) | with_reducible apply State.setFlow_kept (wOff hm rfl) | with_reducible apply State.sendPacket_kept (wOff hm rfl) | with_reducible apply Kept.ite | with_reducible apply KeptR.next | dsimp only | split

theorem State.sendBuilt_kept {s : State} {g} {i} (hm : kK &&& 0x404081206 = 0)  (hk : Kept kK k0 kM s) :
    Kept kK k0 kM (State.sendBuilt s g i) := by
  unfold State.sendBuilt
  repeat' first | with_reducible assumption | with_reducible apply State.essence_kept (wOff hm rfl) | with_reducible apply State.setSeCh_kept (wOff hm rfl) | with_reducible apply State.setFlow_kept (wOff hm rfl) | with_reducible apply State.sendPacket_kept (wOff hm rfl) | with_reducible apply Kept.ite | with_reducible refine Kept.foldl ?_ (fun _ _ _ => ?_) | with_reducible refine Kept.foldlIn Prod.snd ?_ (fun _ _ _ => ?_) | with_reducible refine Kept.foldlIn (fun p => p.2.2) ?_ (fun _ _ _ => ?_) | dsimp only | split

theorem State.toDisabling_kept {s : State} {g} {i} {sel} (hm : kK &&& 0x40c089206 = 0)  (hk : Kept kK k0 kM s) :
    Kept kK k0 kM (State.toDisabling s g i sel) := by
  unfold State.toDisabling
  repeat' first | with_reducible assumption | with_reducible apply State.setF_kept (wOff hm rfl) | with_reducible apply State.toRx_kept (wOff hm rfl) | with_reducible apply State.dropArmed_kept (wOff hm rfl) | with_reducible apply State.closeUnit_kept (wOff hm rfl) | with_reducible apply State.toFlow_kept (wOff hm rfl) | with_reducible apply State.closeRow_kept (wOff hm rfl) | with_reducible apply State.mergeFlush_kept (wOff hm rfl) | with_reducible apply State.sendBuilt_kept (wOff hm rfl) | with_reducible apply Kept.ite | dsimp only | split

theorem execStreamDisable_kept {c} {s : State} (hm : kK &&& 0x40c089206 = 0)  (hk : Kept kK k0 kM s) :
    KeptR kK k0 kM (execStreamDisable c s) := by
  unfold execStreamDisable
  repeat' first | with_reducible assumption | with_reducible apply State.long_kept (wOff hm rfl) | with_reducible apply State.toDisabling_kept (wOff hm rfl) | with_reducible apply KeptR.next | (intro u hu) | simp only [id] | dsimp only | split

theorem execStreamDisableCompletion_kept {g} {i} {sel} {s : State} (hm : kK &&& 0x40c008006 = 0)  (hk : Kept kK k0 kM s) :
    KeptR kK k0 kM (execStreamDisableCompletion g i sel s) := by
  unfold execStreamDisableCompletion
  repeat' first | with_reducible assumption | with_reducible apply State.rxOff_kept (wOff hm rfl) | with_reducible apply State.txBlack_kept (wOff hm rfl) | with_reducible apply State.toFlow_kept (wOff hm rfl) | with_reducible apply State.endDisable_kept (wOff hm rfl) | with_reducible apply Kept.ite | with_reducible apply KeptR.next | dsimp only | split

theorem State.streamAbort_kept {s : State} {g} {i} {sel} (hm : kK &&& 0x40c089206 = 0)  (hk : Kept kK k0 kM s) :
    Kept kK k0 kM (State.streamAbort s g i sel) := by
  unfold State.streamAbort
  repeat' first | with_reducible assumption | with_reducible apply State.rxAbort_kept (wOff hm rfl) | with_reducible apply State.txAbort_kept (wOff hm rfl) | with_reducible apply State.flowAbort_kept (wOff hm rfl) | with_reducible apply Kept.ite | dsimp only | split

theorem execStreamAbort_kept {c} {s : State} (hm : kK &&& 0x40c089206 = 0)  (hk : Kept kK k0 kM s) :
    KeptR kK k0 kM (execStreamAbort c s) := by
  unfold execStreamAbort
  repeat' first | with_reducible assumption | with_reducible apply State.immediate_kept (wOff hm rfl) | with_reducible apply State.endDisable_kept (wOff hm rfl) | with_reducible apply State.streamAbort_kept (wOff hm rfl) | with_reducible apply Kept.ite | with_reducible apply KeptR.next | (intro u hu) | simp only [id] | dsimp only | split

theorem State.groupStreamsOff_kept {s : State} {g} (hm : kK &&& 0x40c089206 = 0)  (hk : Kept kK k0 kM s) :
    Kept kK k0 kM (State.groupStreamsOff s g) := by
  unfold State.groupStreamsOff
  repeat' first | with_reducible assumption | with_reducible apply State.setSeCh_kept (wOff hm rfl) | with_reducible apply State.flowAbort_kept (wOff hm rfl) | with_reducible apply State.endDisable_kept (wOff hm rfl) | with_reducible apply State.portSilent_kept (wOff hm rfl) | with_reducible apply State.sdiEnd_kept (wOff hm rfl) | with_reducible apply Kept.ite | with_reducible refine Kept.foldl ?_ (fun _ _ _ => ?_) | with_reducible refine Kept.foldlIn Prod.snd ?_ (fun _ _ _ => ?_) | with_reducible refine Kept.foldlIn (fun p => p.2.2) ?_ (fun _ _ _ => ?_) | simp only [Kept.mk_se (wOff hm rfl)] | dsimp only | split

theorem State.groupStreamsOn_kept {s : State} {g} (hm : kK &&& 0x40c089206 = 0)  (hk : Kept kK k0 kM s) :
    Kept kK k0 kM (State.groupStreamsOn s g) := by
  unfold State.groupStreamsOn
  repeat' first | with_reducible assumption | with_reducible apply State.setF_kept (wOff hm rfl) | with_reducible apply State.sdiRxApply_kept (wOff hm rfl) | with_reducible apply State.sdiTxApply_kept (wOff hm rfl) | with_reducible apply State.portAdd_kept (wOff hm rfl) | with_reducible apply State.flowAdd_kept (wOff hm rfl) | with_reducible apply State.merge_kept (wOff hm rfl) | with_reducible apply Kept.ite | with_reducible refine Kept.foldl ?_ (fun _ _ _ => ?_) | with_reducible refine Kept.foldlIn Prod.snd ?_ (fun _ _ _ => ?_) | with_reducible refine Kept.foldlIn (fun p => p.2.2) ?_ (fun _ _ _ => ?_) | (refine Kept.sndEq (x := (State.sdiRxApply _ _ _ _)) (by assumption) ?_) | simp only [Kept.mk_se (wOff hm rfl)] | dsimp only | split

theorem State.badFrame_kept {s : State} {n} (hm : kK &&& 0x400000006 = 0)  (hk : Kept kK k0 kM s) :
    Kept kK k0 kM (State.badFrame s n) := by
  unfold State.badFrame
  repeat' first | with_reducible assumption | with_reducible apply State.mark_kept (wOff hm rfl) | with_reducible apply State.seCount_kept (wOff hm rfl) | dsimp only | split

theorem execEthFrameReceive_kept {n} {x} {s : State} (hm : kK &&& 0x40c000006 = 0)  (hk : Kept kK k0 kM s) :
    KeptR kK k0 kM (execEthFrameReceive n x s) := by
  unfold execEthFrameReceive
  repeat' first | with_reducible assumption | with_reducible apply State.mark_kept (wOff hm rfl) | with_reducible apply State.count_kept (wOff hm rfl) | with_reducible apply State.protEvents_kept (wOff hm rfl) | with_reducible apply State.setSeCh_kept (wOff hm rfl) | with_reducible apply State.seCount_kept (wOff hm rfl) | with_reducible apply State.badFrame_kept (wOff hm rfl) | with_reducible apply Kept.ite | with_reducible apply KeptR.next | dsimp only | split

theorem execEthControlPacket_kept {n} {x} {s : State} (hm : kK &&& 0x40c000206 = 0)  (hk : Kept kK k0 kM s) :
    KeptR kK k0 kM (execEthControlPacket n x s) := by
  unfold execEthControlPacket
  repeat' first | with_reducible assumption | with_reducible apply State.emit_kept (wOff hm rfl) | with_reducible apply State.setFlow_kept (wOff hm rfl) | with_reducible apply State.toFlow_kept (wOff hm rfl) | with_reducible apply Kept.ite | with_reducible apply KeptR.next | with_reducible refine Kept.foldl ?_ (fun _ _ _ => ?_) | with_reducible refine Kept.foldlIn Prod.snd ?_ (fun _ _ _ => ?_) | with_reducible refine Kept.foldlIn (fun p => p.2.2) ?_ (fun _ _ _ => ?_) | dsimp only | split

theorem execEthPortUp_kept {n} {remote} {s : State} (hm : kK &&& 0x2 = 0)  (hk : Kept kK k0 kM s) :
    KeptR kK k0 kM (execEthPortUp n remote s) := by
  unfold execEthPortUp
  repeat' first | with_reducible assumption | with_reducible apply State.raise_kept (wOff hm rfl) | with_reducible apply State.lower_kept (wOff hm rfl) | with_reducible apply State.setB_kept (wOff hm rfl) | with_reducible apply Kept.ite | with_reducible apply KeptR.next | dsimp only | split

theorem State.downShows_kept {s : State} {n} {lf} {rf} (hm : kK &&& 0x1002 = 0)  (hk : Kept kK k0 kM s) :
    Kept kK k0 kM (State.downShows s n lf rf) := by
  unfold State.downShows
  repeat' first | with_reducible assumption | with_reducible apply State.setB_kept (wOff hm rfl) | with_reducible apply State.freeVal_kept (wOff hm rfl) | (refine Kept.sndEq (x := (State.freeVal _)) (by assumption) ?_) | dsimp only | split

theorem execEthPortDown_kept {n} {lf} {rf} {s : State} (hm : kK &&& 0x40c081206 = 0)  (hk : Kept kK k0 kM s) :
    KeptR kK k0 kM (execEthPortDown n lf rf s) := by
  unfold execEthPortDown
  repeat' first | with_reducible assumption | with_reducible apply State.lower_kept (wOff hm rfl) | with_reducible apply State.mark_kept (wOff hm rfl) | with_reducible apply State.flowLost_kept (wOff hm rfl) | with_reducible apply State.downShows_kept (wOff hm rfl) | with_reducible apply Kept.ite | with_reducible apply KeptR.next | with_reducible refine Kept.foldl ?_ (fun _ _ _ => ?_) | with_reducible refine Kept.foldlIn Prod.snd ?_ (fun _ _ _ => ?_) | with_reducible refine Kept.foldlIn (fun p => p.2.2) ?_ (fun _ _ _ => ?_) | dsimp only | split

end Sys2Proof.Machine
end

