-- ==== Sys2Proof/Laws/KeptProtractor.lean ====
section
/-! SUPPORT. The operations of Sys2Proof/Machine/Protractor.lean leave alone what `Kept` names. -/
namespace Sys2Proof.Machine
set_option linter.unusedSimpArgs false
set_option linter.unusedVariables false
variable {kK : Nat} {k0 : State} {kM : List Host.Cell → Prop}

theorem State.protApply_kept {s : State} {n} {ws} (hm : kK &&& 0x8000002 = 0)  (hk : Kept kK k0 kM s) :
    Kept kK k0 kM (State.protApply s n ws) := by
  unfold State.protApply
  repeat' first | with_reducible assumption | with_reducible apply State.setF_kept (wOff hm rfl) | with_reducible apply State.setProtX_kept (wOff hm rfl) | with_reducible apply State.setNpackets_kept (wOff hm rfl) | with_reducible apply Kept.ite | with_reducible refine Kept.foldl ?_ (fun _ _ _ => ?_) | with_reducible refine Kept.foldlIn Prod.snd ?_ (fun _ _ _ => ?_) | with_reducible refine Kept.foldlIn (fun p => p.2.2) ?_ (fun _ _ _ => ?_) | dsimp only | split

theorem execProtSet_kept {c} {s : State} (hm : kK &&& 0x8008002 = 0)  (hk : Kept kK k0 kM s) :
    KeptR kK k0 kM (execProtSet c s) := by
  unfold execProtSet
  repeat' first | with_reducible assumption | with_reducible apply State.immediate_kept (wOff hm rfl) | with_reducible apply State.protApply_kept (wOff hm rfl) | with_reducible apply KeptR.next | (intro u hu) | simp only [id] | dsimp only | split

theorem execProtSetQuery_kept {c} {s : State} (hm : kK &&& 0x8000 = 0)  (hk : Kept kK k0 kM s) :
    KeptR kK k0 kM (execProtSetQuery c s) := by
  unfold execProtSetQuery
  repeat' first | with_reducible assumption | with_reducible refine State.immediate_kept_quiet (wOff hm rfl) (fun _ _ => State.retriesFail_silent (by decide)) ?_ ?_ | with_reducible apply KeptR.next | (intro u hu) | simp only [id] | dsimp only | split

theorem State.eyeGauge_kept {s : State} {n} {h} {v} (hm : kK &&& 0x4 = 0)  (hk : Kept kK k0 kM s) :
    Kept kK k0 kM (State.eyeGauge s n h v) := by
  unfold State.eyeGauge
  repeat' first | with_reducible assumption | with_reducible apply State.setGauge_kept (wOff hm rfl) | dsimp only | split

theorem State.jitGauge_kept {s : State} {n} {off} {v} (hm : kK &&& 0x4 = 0)  (hk : Kept kK k0 kM s) :
    Kept kK k0 kM (State.jitGauge s n off v) := by
  unfold State.jitGauge
  repeat' first | with_reducible assumption | with_reducible apply State.setGauge_kept (wOff hm rfl) | dsimp only | split

theorem execProtEyePeriod_kept {n} {h} {v} {tj} {aj} {s : State} (hm : kK &&& 0x408000006 = 0)  (hk : Kept kK k0 kM s) :
    KeptR kK k0 kM (execProtEyePeriod n h v tj aj s) := by
  unfold execProtEyePeriod
  repeat' first | with_reducible assumption | with_reducible apply State.setProtX_kept (wOff hm rfl) | with_reducible apply State.setBreach_kept (wOff hm rfl) | with_reducible apply State.eyeGauge_kept (wOff hm rfl) | with_reducible apply State.jitGauge_kept (wOff hm rfl) | with_reducible apply Kept.ite | with_reducible apply KeptR.next | dsimp only | split

theorem execProtSecond_kept {n} {s : State} (hm : kK &&& 0x408000006 = 0)  (hk : Kept kK k0 kM s) :
    KeptR kK k0 kM (execProtSecond n s) := by
  unfold execProtSecond
  repeat' first | with_reducible assumption | with_reducible apply State.setProtX_kept (wOff hm rfl) | with_reducible apply State.protCount_kept (wOff hm rfl) | with_reducible apply Kept.ite | with_reducible apply KeptR.next | dsimp only | split

theorem State.showGm_kept {s : State} {n} (hm : kK &&& 0x40000004 = 0)  (hk : Kept kK k0 kM s) :
    Kept kK k0 kM (State.showGm s n) := by
  unfold State.showGm
  repeat' first | with_reducible assumption | with_reducible apply State.setGauge_kept (wOff hm rfl) | with_reducible apply State.ptpSilent_kept (wOff hm rfl) | with_reducible apply Kept.ite | dsimp only | split

theorem State.protSnap_kept {s : State} {n} {clear} (hm : kK &&& 0x44808000e = 0)  (hk : Kept kK k0 kM s) :
    Kept kK k0 kM (State.protSnap s n clear) := by
  unfold State.protSnap
  repeat' first | with_reducible assumption | with_reducible apply State.snapWindow_kept (wOff hm rfl) | with_reducible apply State.setProtX_kept (wOff hm rfl) | with_reducible apply State.setGauge_kept (wOff hm rfl) | with_reducible apply State.essence_kept (wOff hm rfl) | with_reducible apply State.showGm_kept (wOff hm rfl) | with_reducible apply Kept.ite | with_reducible refine Kept.foldl ?_ (fun _ _ _ => ?_) | with_reducible refine Kept.foldlIn Prod.snd ?_ (fun _ _ _ => ?_) | with_reducible refine Kept.foldlIn (fun p => p.2.2) ?_ (fun _ _ _ => ?_) | simp only [Kept.mk_snaps (wOff hm rfl)] | dsimp only | split

theorem State.groupProtsOn_kept {s : State} {g} (hm : kK &&& 0x8000002 = 0)  (hk : Kept kK k0 kM s) :
    Kept kK k0 kM (State.groupProtsOn s g) := by
  unfold State.groupProtsOn
  repeat' first | with_reducible assumption | with_reducible apply State.setProtX_kept (wOff hm rfl) | with_reducible apply State.protApply_kept (wOff hm rfl) | with_reducible apply Kept.ite | with_reducible refine Kept.foldl ?_ (fun _ _ _ => ?_) | with_reducible refine Kept.foldlIn Prod.snd ?_ (fun _ _ _ => ?_) | with_reducible refine Kept.foldlIn (fun p => p.2.2) ?_ (fun _ _ _ => ?_) | dsimp only | split

end Sys2Proof.Machine
end

