-- ==== Sys2Proof/Laws/KeptEdges.lean ====
section
/-! SUPPORT. The operations of Sys2Proof/Machine/Edges.lean leave alone what `Kept` names. -/
namespace Sys2Proof.Machine
set_option linter.unusedSimpArgs false
set_option linter.unusedVariables false
variable {kK : Nat} {k0 : State} {kM : List Host.Cell → Prop}

theorem State.setEdgeX_kept {s : State} {e} {x} (hm : kK &&& 0x20000000 = 0)  (hk : Kept kK k0 kM s) :
    Kept kK k0 kM (State.setEdgeX s e x) := by
  unfold State.setEdgeX
  repeat' first | with_reducible assumption | simp only [Kept.mk_opt (wOff hm rfl)] | dsimp only | split

theorem State.edgeMark_kept {s : State} {e} {f} (hm : kK &&& 0x400000006 = 0)  (hk : Kept kK k0 kM s) :
    Kept kK k0 kM (State.edgeMark s e f) := by
  unfold State.edgeMark
  repeat' first | with_reducible assumption | with_reducible apply State.mark_kept (wOff hm rfl) | with_reducible refine Kept.foldl ?_ (fun _ _ _ => ?_) | with_reducible refine Kept.foldlIn Prod.snd ?_ (fun _ _ _ => ?_) | with_reducible refine Kept.foldlIn (fun p => p.2.2) ?_ (fun _ _ _ => ?_) | dsimp only | split

theorem State.edgeCount_kept {s : State} {e} {f} {n} (hm : kK &&& 0x400000006 = 0)  (hk : Kept kK k0 kM s) :
    Kept kK k0 kM (State.edgeCount s e f n) := by
  unfold State.edgeCount
  repeat' first | with_reducible assumption | with_reducible apply State.count_kept (wOff hm rfl) | with_reducible refine Kept.foldl ?_ (fun _ _ _ => ?_) | with_reducible refine Kept.foldlIn Prod.snd ?_ (fun _ _ _ => ?_) | with_reducible refine Kept.foldlIn (fun p => p.2.2) ?_ (fun _ _ _ => ?_) | dsimp only | split

theorem State.edgeSet_kept {s : State} {e} {f} {v} (hm : kK &&& 0x2 = 0)  (hk : Kept kK k0 kM s) :
    Kept kK k0 kM (State.edgeSet s e f v) := by
  unfold State.edgeSet
  repeat' first | with_reducible assumption | with_reducible apply State.setF_kept (wOff hm rfl) | with_reducible refine Kept.foldl ?_ (fun _ _ _ => ?_) | with_reducible refine Kept.foldlIn Prod.snd ?_ (fun _ _ _ => ?_) | with_reducible refine Kept.foldlIn (fun p => p.2.2) ?_ (fun _ _ _ => ?_) | dsimp only | split

theorem State.toEdge_kept {s : State} {e} {st} {step} (hm : kK &&& 0x400000006 = 0)  (hk : Kept kK k0 kM s) :
    Kept kK k0 kM (State.toEdge s e st step) := by
  unfold State.toEdge
  repeat' first | with_reducible assumption | with_reducible apply State.signal_kept (wOff hm rfl) | with_reducible apply State.edgeSet_kept (wOff hm rfl) | with_reducible apply Kept.ite | dsimp only | split

theorem State.edgeFolds_kept {s : State} {e} (hm : kK &&& 0x10000000 = 0)  (hk : Kept kK k0 kM s) :
    Kept kK k0 kM (State.edgeFolds s e) := by
  unfold State.edgeFolds
  repeat' first | with_reducible assumption | with_reducible apply State.changeRoutes_kept (wOff hm rfl) | with_reducible refine Kept.foldl ?_ (fun _ _ _ => ?_) | with_reducible refine Kept.foldlIn Prod.snd ?_ (fun _ _ _ => ?_) | with_reducible refine Kept.foldlIn (fun p => p.2.2) ?_ (fun _ _ _ => ?_) | dsimp only | split

theorem State.edgeWaited_kept {s : State} {e} (hm : kK &&& 0x400000006 = 0)  (hk : Kept kK k0 kM s) :
    Kept kK k0 kM (State.edgeWaited s e) := by
  unfold State.edgeWaited
  repeat' first | with_reducible assumption | with_reducible apply State.edgeCount_kept (wOff hm rfl) | with_reducible apply Kept.ite | dsimp only | split

theorem State.edgeTrain_kept {s0 : State} {e} {st} {step} (hm : kK &&& 0x430000006 = 0)  (hk : Kept kK k0 kM s0) :
    Kept kK k0 kM (State.edgeTrain s0 e st step) := by
  unfold State.edgeTrain
  repeat' first | with_reducible assumption | with_reducible apply State.setEdgeX_kept (wOff hm rfl) | with_reducible apply State.toEdge_kept (wOff hm rfl) | with_reducible apply State.edgeWaited_kept (wOff hm rfl) | with_reducible apply Kept.ite | simp only [Kept.mk_ring (wOff hm rfl)] | dsimp only | split

theorem State.edgeSalvage_kept {s : State} {e} (hm : kK &&& 0x410000006 = 0)  (hk : Kept kK k0 kM s) :
    Kept kK k0 kM (State.edgeSalvage s e) := by
  unfold State.edgeSalvage
  repeat' first | with_reducible assumption | with_reducible apply State.salvage_kept (wOff hm rfl) | with_reducible apply Kept.ite | with_reducible refine Kept.foldl ?_ (fun _ _ _ => ?_) | with_reducible refine Kept.foldlIn Prod.snd ?_ (fun _ _ _ => ?_) | with_reducible refine Kept.foldlIn (fun p => p.2.2) ?_ (fun _ _ _ => ?_) | dsimp only | split

theorem State.edgeRemap_kept {s : State} {e} (hm : kK &&& 0x10000000 = 0)  (hk : Kept kK k0 kM s) :
    Kept kK k0 kM (State.edgeRemap s e) := by
  unfold State.edgeRemap
  repeat' first | with_reducible assumption | with_reducible apply State.changeRoutes_kept (wOff hm rfl) | with_reducible apply Kept.ite | dsimp only | split

theorem State.edgeRetire_kept {s : State} {e} (hm : kK &&& 0x410040006 = 0)  (hk : Kept kK k0 kM s) :
    Kept kK k0 kM (State.edgeRetire s e) := by
  unfold State.edgeRetire
  repeat' first | with_reducible assumption | with_reducible apply State.journal_kept (wOff hm rfl) | with_reducible apply State.edgeRingsChanged_kept (wOff hm rfl) | with_reducible apply State.edgeMark_kept (wOff hm rfl) | with_reducible apply State.toEdge_kept (wOff hm rfl) | with_reducible apply State.edgeFolds_kept (wOff hm rfl) | with_reducible apply State.edgeSalvage_kept (wOff hm rfl) | with_reducible apply State.edgeRemap_kept (wOff hm rfl) | dsimp only | split

theorem State.edgeJoin_kept {s : State} {e} (hm : kK &&& 0x10000000 = 0)  (hk : Kept kK k0 kM s) :
    Kept kK k0 kM (State.edgeJoin s e) := by
  unfold State.edgeJoin
  repeat' first | with_reducible assumption | with_reducible apply State.changeRoutes_kept (wOff hm rfl) | with_reducible apply Kept.ite | dsimp only | split

theorem State.laneGone_kept {s : State} {e} {w} {k} {journal} (hm : kK &&& 0x400040006 = 0)  (hk : Kept kK k0 kM s) :
    Kept kK k0 kM (State.laneGone s e w k journal) := by
  unfold State.laneGone
  repeat' first | with_reducible assumption | with_reducible apply State.setF_kept (wOff hm rfl) | with_reducible apply State.journal_kept (wOff hm rfl) | with_reducible apply State.uncharge_kept (wOff hm rfl) | with_reducible apply State.edgeMark_kept (wOff hm rfl) | with_reducible apply Kept.ite | with_reducible refine Kept.foldl ?_ (fun _ _ _ => ?_) | with_reducible refine Kept.foldlIn Prod.snd ?_ (fun _ _ _ => ?_) | with_reducible refine Kept.foldlIn (fun p => p.2.2) ?_ (fun _ _ _ => ?_) | dsimp only | split

theorem State.spareOrDrop_kept {s : State} {e} (hm : kK &&& 0x430040006 = 0)  (hk : Kept kK k0 kM s) :
    Kept kK k0 kM (State.spareOrDrop s e) := by
  unfold State.spareOrDrop
  repeat' first | with_reducible assumption | with_reducible apply State.journal_kept (wOff hm rfl) | with_reducible apply State.edgeMark_kept (wOff hm rfl) | with_reducible apply State.edgeTrain_kept (wOff hm rfl) | with_reducible apply State.edgeRetire_kept (wOff hm rfl) | with_reducible apply Kept.ite | dsimp only | split

theorem State.checkFail_kept {s : State} {unit} {lane} {chan} (hm : kK &&& 0x20040000 = 0)  (hk : Kept kK k0 kM s) :
    Kept kK k0 kM (State.checkFail s unit lane chan).2 := by
  unfold State.checkFail
  repeat' first | with_reducible assumption | with_reducible apply State.charge_kept (wOff hm rfl) | with_reducible apply Kept.ite | (refine Kept.sndEq (x := (State.charge _ _)) (by assumption) ?_) | simp only [Kept.mk_opt (wOff hm rfl)] | dsimp only | split

theorem State.checkPass_kept {s : State} {unit} (hm : kK &&& 0x20000000 = 0)  (hk : Kept kK k0 kM s) :
    Kept kK k0 kM (State.checkPass s unit) := by
  unfold State.checkPass
  repeat' first | with_reducible assumption | simp only [Kept.mk_opt (wOff hm rfl)] | dsimp only | split

theorem execEdgeFlitReceive_kept {e} {bad} {s : State} (hm : kK &&& 0x420040006 = 0)  (hk : Kept kK k0 kM s) :
    KeptR kK k0 kM (execEdgeFlitReceive e bad s) := by
  unfold execEdgeFlitReceive
  repeat' first | with_reducible assumption | with_reducible apply State.setEdgeX_kept (wOff hm rfl) | with_reducible apply State.edgeCount_kept (wOff hm rfl) | with_reducible apply State.laneGone_kept (wOff hm rfl) | with_reducible apply State.checkFail_kept (wOff hm rfl) | with_reducible apply State.checkPass_kept (wOff hm rfl) | with_reducible apply Kept.ite | with_reducible apply KeptR.next | (refine Kept.sndEq (x := (State.checkFail _ _ _ _)) (by assumption) ?_) | dsimp only | split

theorem execEdgeSpareSwitch_kept {e} {s : State} (hm : kK &&& 0x430040006 = 0)  (hk : Kept kK k0 kM s) :
    KeptR kK k0 kM (execEdgeSpareSwitch e s) := by
  unfold execEdgeSpareSwitch
  repeat' first | with_reducible assumption | with_reducible apply State.setEdgeX_kept (wOff hm rfl) | with_reducible apply State.spareOrDrop_kept (wOff hm rfl) | with_reducible apply KeptR.next | dsimp only | split

theorem State.trainFails_kept {s : State} {e} {l} (hm : kK &&& 0x400040006 = 0)  (hk : Kept kK k0 kM s) :
    Kept kK k0 kM (State.trainFails s e l) := by
  unfold State.trainFails
  repeat' first | with_reducible assumption | with_reducible apply State.laneGone_kept (wOff hm rfl) | with_reducible apply Kept.ite | with_reducible refine Kept.foldl ?_ (fun _ _ _ => ?_) | with_reducible refine Kept.foldlIn Prod.snd ?_ (fun _ _ _ => ?_) | with_reducible refine Kept.foldlIn (fun p => p.2.2) ?_ (fun _ _ _ => ?_) | dsimp only | split

theorem State.edgeResend_kept {s : State} {e} (hm : kK &&& 0x30000000 = 0)  (hk : Kept kK k0 kM s) :
    Kept kK k0 kM (State.edgeResend s e) := by
  unfold State.edgeResend
  repeat' first | with_reducible assumption | with_reducible apply State.setLink_kept (wOff hm rfl) | with_reducible apply State.checkPass_kept (wOff hm rfl) | with_reducible apply Kept.ite | with_reducible refine Kept.foldl ?_ (fun _ _ _ => ?_) | with_reducible refine Kept.foldlIn Prod.snd ?_ (fun _ _ _ => ?_) | with_reducible refine Kept.foldlIn (fun p => p.2.2) ?_ (fun _ _ _ => ?_) | dsimp only | split

theorem State.edgeActive_kept {s : State} {e} {step} (hm : kK &&& 0x430000006 = 0)  (hk : Kept kK k0 kM s) :
    Kept kK k0 kM (State.edgeActive s e step) := by
  unfold State.edgeActive
  repeat' first | with_reducible assumption | with_reducible apply State.setEdgeX_kept (wOff hm rfl) | with_reducible apply State.toEdge_kept (wOff hm rfl) | with_reducible apply State.edgeRemap_kept (wOff hm rfl) | with_reducible apply State.edgeJoin_kept (wOff hm rfl) | with_reducible apply State.edgeResend_kept (wOff hm rfl) | dsimp only | split

theorem execEdgeFullTrainDone_kept {e} {fails} {s : State} (hm : kK &&& 0x430040006 = 0)  (hk : Kept kK k0 kM s) :
    KeptR kK k0 kM (execEdgeFullTrainDone e fails s) := by
  unfold execEdgeFullTrainDone
  repeat' first | with_reducible assumption | with_reducible apply State.journal_kept (wOff hm rfl) | with_reducible apply State.ledgerRecompute_kept (wOff hm rfl) | with_reducible apply State.edgeMark_kept (wOff hm rfl) | with_reducible apply State.edgeCount_kept (wOff hm rfl) | with_reducible apply State.edgeRetire_kept (wOff hm rfl) | with_reducible apply State.edgeWaited_kept (wOff hm rfl) | with_reducible apply State.trainFails_kept (wOff hm rfl) | with_reducible apply State.edgeActive_kept (wOff hm rfl) | with_reducible apply Kept.ite | with_reducible apply KeptR.next | dsimp only | split

theorem execEdgeFastRetrainDone_kept {e} {fails} {s : State} (hm : kK &&& 0x430040006 = 0)  (hk : Kept kK k0 kM s) :
    KeptR kK k0 kM (execEdgeFastRetrainDone e fails s) := by
  unfold execEdgeFastRetrainDone
  repeat' first | with_reducible assumption | with_reducible apply State.journal_kept (wOff hm rfl) | with_reducible apply State.ledgerRecompute_kept (wOff hm rfl) | with_reducible apply State.edgeMark_kept (wOff hm rfl) | with_reducible apply State.edgeCount_kept (wOff hm rfl) | with_reducible apply State.edgeTrain_kept (wOff hm rfl) | with_reducible apply State.edgeRetire_kept (wOff hm rfl) | with_reducible apply State.edgeWaited_kept (wOff hm rfl) | with_reducible apply State.trainFails_kept (wOff hm rfl) | with_reducible apply State.edgeActive_kept (wOff hm rfl) | with_reducible apply Kept.ite | with_reducible apply KeptR.next | dsimp only | split

theorem execEdgeWaitSplit_kept {e} {s : State} (hm : kK &&& 0x410000006 = 0)  (hk : Kept kK k0 kM s) :
    KeptR kK k0 kM (execEdgeWaitSplit e s) := by
  unfold execEdgeWaitSplit
  repeat' first | with_reducible assumption | with_reducible apply State.edgeRingsChanged_kept (wOff hm rfl) | with_reducible apply State.edgeMark_kept (wOff hm rfl) | with_reducible apply State.edgeFolds_kept (wOff hm rfl) | with_reducible apply Kept.ite | with_reducible apply KeptR.next | simp only [Kept.mk_ring (wOff hm rfl)] | dsimp only | split

theorem execEdgeRetrain_kept {c} {s : State} (hm : kK &&& 0x430008006 = 0)  (hk : Kept kK k0 kM s) :
    KeptR kK k0 kM (execEdgeRetrain c s) := by
  unfold execEdgeRetrain
  repeat' first | with_reducible assumption | with_reducible apply State.long_kept (wOff hm rfl) | with_reducible apply State.edgeTrain_kept (wOff hm rfl) | with_reducible apply Kept.ite | with_reducible apply KeptR.next | (intro u hu) | simp only [id] | dsimp only | split

theorem execEdgeRetrainCompletion_kept {e} {s : State} (hm : kK &&& 0x400008006 = 0)  (hk : Kept kK k0 kM s) :
    KeptR kK k0 kM (execEdgeRetrainCompletion e s) := by
  unfold execEdgeRetrainCompletion
  repeat' first | with_reducible assumption | with_reducible apply State.complete_kept (wOff hm rfl) | with_reducible apply Kept.ite | with_reducible apply KeptR.next | dsimp only | split

theorem State.edgeDown_kept {s : State} {e} (hm : kK &&& 0x430000006 = 0)  (hk : Kept kK k0 kM s) :
    Kept kK k0 kM (State.edgeDown s e) := by
  unfold State.edgeDown
  repeat' first | with_reducible assumption | with_reducible apply State.edgeRingsChanged_kept (wOff hm rfl) | with_reducible apply State.setEdgeX_kept (wOff hm rfl) | with_reducible apply State.toEdge_kept (wOff hm rfl) | with_reducible apply State.edgeFolds_kept (wOff hm rfl) | with_reducible apply State.edgeWaited_kept (wOff hm rfl) | with_reducible apply Kept.ite | simp only [Kept.mk_ring (wOff hm rfl)] | dsimp only | split

theorem State.edgeUp_kept {s : State} {e} (hm : kK &&& 0x430000006 = 0)  (hk : Kept kK k0 kM s) :
    Kept kK k0 kM (State.edgeUp s e) := by
  unfold State.edgeUp
  repeat' first | with_reducible assumption | with_reducible apply State.edgeTrain_kept (wOff hm rfl) | with_reducible apply Kept.ite | dsimp only | split

theorem State.edgeReturn_kept {s : State} {e} (hm : kK &&& 0x430001006 = 0)  (hk : Kept kK k0 kM s) :
    Kept kK k0 kM (State.edgeReturn s e) := by
  unfold State.edgeReturn
  repeat' first | with_reducible assumption | with_reducible apply State.edgeTrain_kept (wOff hm rfl) | with_reducible apply Kept.ite | simp only [Kept.mk_fresh (wOff hm rfl)] | dsimp only | split

theorem State.shortLost_kept {s : State} {u} {lane} (hm : kK &&& 0x20000000 = 0)  (hk : Kept kK k0 kM s) :
    Kept kK k0 kM (State.shortLost s u lane) := by
  unfold State.shortLost
  repeat' first | with_reducible assumption | simp only [Kept.mk_opt (wOff hm rfl)] | dsimp only | split

theorem State.bundleFail_kept {s : State} {l} {b} {lane} (hm : kK &&& 0x52a049006 = 0)  (hk : Kept kK k0 kM s) :
    Kept kK k0 kM (State.bundleFail s l b lane) := by
  unfold State.bundleFail
  repeat' first | with_reducible assumption | with_reducible apply State.setF_kept (wOff hm rfl) | with_reducible apply State.mark_kept (wOff hm rfl) | with_reducible apply State.journal_kept (wOff hm rfl) | with_reducible apply State.setBitOf_kept (wOff hm rfl) | with_reducible apply State.retireLane_kept (wOff hm rfl) | with_reducible apply State.shortLost_kept (wOff hm rfl) | with_reducible apply Kept.ite | with_reducible refine Kept.foldl ?_ (fun _ _ _ => ?_) | with_reducible refine Kept.foldlIn Prod.snd ?_ (fun _ _ _ => ?_) | with_reducible refine Kept.foldlIn (fun p => p.2.2) ?_ (fun _ _ _ => ?_) | dsimp only | split

theorem State.dramRetire_kept {s : State} {k} {ch} {cause} (hm : kK &&& 0x400040006 = 0)  (hk : Kept kK k0 kM s) :
    Kept kK k0 kM (State.dramRetire s k ch cause) := by
  unfold State.dramRetire
  repeat' first | with_reducible assumption | with_reducible apply State.setF_kept (wOff hm rfl) | with_reducible apply State.mark_kept (wOff hm rfl) | with_reducible apply State.journal_kept (wOff hm rfl) | with_reducible apply State.uncharge_kept (wOff hm rfl) | with_reducible apply Kept.ite | dsimp only | split

theorem State.dramFail_kept {s0 : State} {k} {ch} {lane} (hm : kK &&& 0x420040006 = 0)  (hk : Kept kK k0 kM s0) :
    Kept kK k0 kM (State.dramFail s0 k ch lane) := by
  unfold State.dramFail
  repeat' first | with_reducible assumption | with_reducible apply State.setF_kept (wOff hm rfl) | with_reducible apply State.mark_kept (wOff hm rfl) | with_reducible apply State.shortLost_kept (wOff hm rfl) | with_reducible apply State.dramRetire_kept (wOff hm rfl) | with_reducible apply Kept.ite | dsimp only | split

theorem State.lampMark_kept {s : State} {j} {f} (hm : kK &&& 0x400000006 = 0)  (hk : Kept kK k0 kM s) :
    Kept kK k0 kM (State.lampMark s j f) := by
  unfold State.lampMark
  repeat' first | with_reducible assumption | with_reducible apply State.mark_kept (wOff hm rfl) | dsimp only | split

theorem State.toLamp_kept {s0 : State} {j} {v} (hm : kK &&& 0x420000006 = 0)  (hk : Kept kK k0 kM s0) :
    Kept kK k0 kM (State.toLamp s0 j v) := by
  unfold State.toLamp
  repeat' first | with_reducible assumption | with_reducible apply State.setF_kept (wOff hm rfl) | with_reducible apply State.signal_kept (wOff hm rfl) | with_reducible apply Kept.ite | simp only [Kept.mk_opt (wOff hm rfl)] | dsimp only | split

theorem State.lampJournal_kept {s : State} {j} {permanent} (hm : kK &&& 0x400040006 = 0)  (hk : Kept kK k0 kM s) :
    Kept kK k0 kM (State.lampJournal s j permanent) := by
  unfold State.lampJournal
  repeat' first | with_reducible assumption | with_reducible apply State.journal_kept (wOff hm rfl) | dsimp only | split

theorem State.lampCount_kept {s : State} {j} {f} {n} (hm : kK &&& 0x400000006 = 0)  (hk : Kept kK k0 kM s) :
    Kept kK k0 kM (State.lampCount s j f n) := by
  unfold State.lampCount
  repeat' first | with_reducible assumption | with_reducible apply State.count_kept (wOff hm rfl) | dsimp only | split

theorem State.moveLine_kept {s : State} {j} {k} (hm : kK &&& 0x2 = 0)  (hk : Kept kK k0 kM s) :
    Kept kK k0 kM (State.moveLine s j k) := by
  unfold State.moveLine
  repeat' first | with_reducible assumption | with_reducible apply State.setF_kept (wOff hm rfl) | with_reducible apply Kept.ite | dsimp only | split

theorem State.allLines_kept {s : State} {j} (hm : kK &&& 0x2 = 0)  (hk : Kept kK k0 kM s) :
    Kept kK k0 kM (State.allLines s j) := by
  unfold State.allLines
  repeat' first | with_reducible assumption | with_reducible apply State.setF_kept (wOff hm rfl) | dsimp only | split

theorem State.lampsSwapped_kept {s : State} (hm : kK &&& 0x400000006 = 0)  (hk : Kept kK k0 kM s) :
    Kept kK k0 kM (State.lampsSwapped s) := by
  unfold State.lampsSwapped
  repeat' first | with_reducible assumption | with_reducible apply State.lampMark_kept (wOff hm rfl) | with_reducible apply State.lampCount_kept (wOff hm rfl) | dsimp only | split

theorem State.lineDark_kept {s : State} {k} (hm : kK &&& 0x430040006 = 0)  (hk : Kept kK k0 kM s) :
    Kept kK k0 kM (State.lineDark s k) := by
  unfold State.lineDark
  repeat' first | with_reducible assumption | with_reducible apply State.laneGone_kept (wOff hm rfl) | with_reducible apply State.spareOrDrop_kept (wOff hm rfl) | with_reducible refine Kept.foldl ?_ (fun _ _ _ => ?_) | with_reducible refine Kept.foldlIn Prod.snd ?_ (fun _ _ _ => ?_) | with_reducible refine Kept.foldlIn (fun p => p.2.2) ?_ (fun _ _ _ => ?_) | dsimp only | split

theorem State.lampFailover_kept {s : State} {j} (hm : kK &&& 0x430040006 = 0)  (hk : Kept kK k0 kM s) :
    Kept kK k0 kM (State.lampFailover s j) := by
  unfold State.lampFailover
  repeat' first | with_reducible assumption | with_reducible apply State.edgeTrain_kept (wOff hm rfl) | with_reducible apply State.toLamp_kept (wOff hm rfl) | with_reducible apply State.lampJournal_kept (wOff hm rfl) | with_reducible apply State.allLines_kept (wOff hm rfl) | with_reducible apply State.lampsSwapped_kept (wOff hm rfl) | with_reducible apply State.lineDark_kept (wOff hm rfl) | with_reducible apply Kept.ite | with_reducible refine Kept.foldl ?_ (fun _ _ _ => ?_) | with_reducible refine Kept.foldlIn Prod.snd ?_ (fun _ _ _ => ?_) | with_reducible refine Kept.foldlIn (fun p => p.2.2) ?_ (fun _ _ _ => ?_) | dsimp only | split

theorem execLampLineMeasure_kept {j} {k} {power} {offset} {low} {lost} {s : State} (hm : kK &&& 0x430040006 = 0)  (hk : Kept kK k0 kM s) :
    KeptR kK k0 kM (execLampLineMeasure j k power offset low lost s) := by
  unfold execLampLineMeasure
  repeat' first | with_reducible assumption | with_reducible apply State.setF_kept (wOff hm rfl) | with_reducible apply State.setB_kept (wOff hm rfl) | with_reducible apply State.lampMark_kept (wOff hm rfl) | with_reducible apply State.lampJournal_kept (wOff hm rfl) | with_reducible apply State.lampCount_kept (wOff hm rfl) | with_reducible apply State.moveLine_kept (wOff hm rfl) | with_reducible apply State.lineDark_kept (wOff hm rfl) | with_reducible apply State.lampFailover_kept (wOff hm rfl) | with_reducible apply Kept.ite | with_reducible apply KeptR.next | simp only [Kept.mk_opt (wOff hm rfl)] | dsimp only | split

theorem State.endPower_kept {s : State} {kind} {idx} {st} {drainTimeout} (hm : kK &&& 0x400008006 = 0)  (hk : Kept kK k0 kM s) :
    Kept kK k0 kM (State.endPower s kind idx st drainTimeout) := by
  unfold State.endPower
  repeat' first | with_reducible assumption | with_reducible apply State.complete_kept (wOff hm rfl) | with_reducible apply Kept.ite | dsimp only | split

theorem execLampWarmDone_kept {j} {s : State} (hm : kK &&& 0x420008006 = 0)  (hk : Kept kK k0 kM s) :
    KeptR kK k0 kM (execLampWarmDone j s) := by
  unfold execLampWarmDone
  repeat' first | with_reducible assumption | with_reducible apply State.toLamp_kept (wOff hm rfl) | with_reducible apply State.allLines_kept (wOff hm rfl) | with_reducible apply State.endPower_kept (wOff hm rfl) | with_reducible apply Kept.ite | with_reducible apply KeptR.next | dsimp only | split

theorem execLampWarmTimeout_kept {j} {s : State} (hm : kK &&& 0x420048006 = 0)  (hk : Kept kK k0 kM s) :
    KeptR kK k0 kM (execLampWarmTimeout j s) := by
  unfold execLampWarmTimeout
  repeat' first | with_reducible assumption | with_reducible apply State.toLamp_kept (wOff hm rfl) | with_reducible apply State.lampJournal_kept (wOff hm rfl) | with_reducible apply State.allLines_kept (wOff hm rfl) | with_reducible apply State.endPower_kept (wOff hm rfl) | with_reducible apply Kept.ite | with_reducible apply KeptR.next | dsimp only | split

theorem Cmd.lampOf_dieC {c : Cmd} (h : c.lampOf.isSome = true) : c.die = 0 := by
  unfold Cmd.lampOf at h
  split at h
  · rename_i hc
    exact hc.1
  · cases h

theorem execLampSwap_kept {c} {s : State} (hm : kK &&& 0x8000 = 0)  (hk : Kept kK k0 kM s) :
    KeptR kK k0 kM (execLampSwap c s) := by
  unfold execLampSwap
  repeat' first | with_reducible assumption | refine State.long_kept_quiet (wOff hm rfl) (fun h _ => State.retriesFail_dieC (Cmd.lampOf_dieC h) (by decide)) ?_ ?_ | with_reducible apply KeptR.next | (intro u hu) | simp only [id] | dsimp only | split

theorem State.swapLine_kept {s : State} {op} (hm : kK &&& 0x400008006 = 0)  (hk : Kept kK k0 kM s) :
    Kept kK k0 kM (State.swapLine s op) := by
  unfold State.swapLine
  repeat' first | with_reducible assumption | with_reducible apply State.putOp_kept (wOff hm rfl) | with_reducible apply State.moveLine_kept (wOff hm rfl) | with_reducible apply Kept.ite | dsimp only | split

theorem State.swapOn_kept {s : State} (hm : kK &&& 0x400008006 = 0)  (hk : Kept kK k0 kM s) :
    Kept kK k0 kM (State.swapOn s) := by
  unfold State.swapOn
  repeat' first | with_reducible assumption | with_reducible apply State.swapLine_kept (wOff hm rfl) | dsimp only | split

theorem execLampSwapCompletion_kept {held} {s : State} (hm : kK &&& 0x420008006 = 0)  (hk : Kept kK k0 kM s) :
    KeptR kK k0 kM (execLampSwapCompletion held s) := by
  unfold execLampSwapCompletion
  repeat' first | with_reducible assumption | with_reducible apply State.complete_kept (wOff hm rfl) | with_reducible apply State.toLamp_kept (wOff hm rfl) | with_reducible apply State.allLines_kept (wOff hm rfl) | with_reducible apply State.lampsSwapped_kept (wOff hm rfl) | with_reducible apply Kept.ite | with_reducible apply KeptR.next | dsimp only | split

theorem State.lampLaneFail_kept {s : State} {j} {lane} (hm : kK &&& 0x430040006 = 0)  (hk : Kept kK k0 kM s) :
    Kept kK k0 kM (State.lampLaneFail s j lane) := by
  unfold State.lampLaneFail
  repeat' first | with_reducible assumption | with_reducible apply State.shortLost_kept (wOff hm rfl) | with_reducible apply State.lampMark_kept (wOff hm rfl) | with_reducible apply State.lampFailover_kept (wOff hm rfl) | with_reducible apply Kept.ite | dsimp only | split

theorem State.sheReplay_kept {s : State} {l} (hm : kK &&& 0x400000006 = 0)  (hk : Kept kK k0 kM s) :
    Kept kK k0 kM (State.sheReplay s l) := by
  unfold State.sheReplay
  repeat' first | with_reducible assumption | with_reducible apply State.signal_kept (wOff hm rfl) | with_reducible apply State.count_kept (wOff hm rfl) | with_reducible apply Kept.ite | dsimp only | split

theorem execShortEdgeWordReceive_kept {x} {bad} {s : State} (hm : kK &&& 0x53a049006 = 0)  (hk : Kept kK k0 kM s) :
    KeptR kK k0 kM (execShortEdgeWordReceive x bad s) := by
  unfold execShortEdgeWordReceive
  repeat' first | with_reducible assumption | with_reducible apply State.uncharge_kept (wOff hm rfl) | with_reducible apply State.fmcCount_kept (wOff hm rfl) | with_reducible apply State.checkFail_kept (wOff hm rfl) | with_reducible apply State.checkPass_kept (wOff hm rfl) | with_reducible apply State.bundleFail_kept (wOff hm rfl) | with_reducible apply State.dramFail_kept (wOff hm rfl) | with_reducible apply State.lampLaneFail_kept (wOff hm rfl) | with_reducible apply State.sheReplay_kept (wOff hm rfl) | with_reducible apply Kept.ite | with_reducible apply KeptR.next | (refine Kept.sndEq (x := (State.checkFail _ _ _ _)) (by assumption) ?_) | dsimp only | split

theorem State.groupBundles_kept {s : State} {g} {v} (hm : kK &&& 0x2 = 0)  (hk : Kept kK k0 kM s) :
    Kept kK k0 kM (State.groupBundles s g v) := by
  unfold State.groupBundles
  repeat' first | with_reducible assumption | with_reducible apply State.setF_kept (wOff hm rfl) | with_reducible apply Kept.ite | with_reducible refine Kept.foldl ?_ (fun _ _ _ => ?_) | with_reducible refine Kept.foldlIn Prod.snd ?_ (fun _ _ _ => ?_) | with_reducible refine Kept.foldlIn (fun p => p.2.2) ?_ (fun _ _ _ => ?_) | dsimp only | split

theorem State.spineBundles_kept {s : State} {q} {v} (hm : kK &&& 0x2 = 0)  (hk : Kept kK k0 kM s) :
    Kept kK k0 kM (State.spineBundles s q v) := by
  unfold State.spineBundles
  repeat' first | with_reducible assumption | with_reducible apply State.setF_kept (wOff hm rfl) | with_reducible apply Kept.ite | with_reducible refine Kept.foldl ?_ (fun _ _ _ => ?_) | with_reducible refine Kept.foldlIn Prod.snd ?_ (fun _ _ _ => ?_) | with_reducible refine Kept.foldlIn (fun p => p.2.2) ?_ (fun _ _ _ => ?_) | dsimp only | split

theorem State.ucieIdle_kept {s : State} (hm : kK &&& 0x20000002 = 0)  (hk : Kept kK k0 kM s) :
    Kept kK k0 kM (State.ucieIdle s) := by
  unfold State.ucieIdle
  repeat' first | with_reducible assumption | with_reducible apply State.setF_kept (wOff hm rfl) | with_reducible refine Kept.foldl ?_ (fun _ _ _ => ?_) | with_reducible refine Kept.foldlIn Prod.snd ?_ (fun _ _ _ => ?_) | with_reducible refine Kept.foldlIn (fun p => p.2.2) ?_ (fun _ _ _ => ?_) | simp only [Kept.mk_opt (wOff hm rfl)] | dsimp only | split

theorem State.ucieMark_kept {s : State} {f} (hm : kK &&& 0x400000006 = 0)  (hk : Kept kK k0 kM s) :
    Kept kK k0 kM (State.ucieMark s f) := by
  unfold State.ucieMark
  repeat' first | with_reducible assumption | with_reducible apply State.mark_kept (wOff hm rfl) | dsimp only | split

theorem State.toUcie_kept {s0 : State} {v} (hm : kK &&& 0x420000006 = 0)  (hk : Kept kK k0 kM s0) :
    Kept kK k0 kM (State.toUcie s0 v) := by
  unfold State.toUcie
  repeat' first | with_reducible assumption | with_reducible apply State.setF_kept (wOff hm rfl) | with_reducible apply State.signal_kept (wOff hm rfl) | with_reducible apply State.ucieIdle_kept (wOff hm rfl) | with_reducible apply Kept.ite | dsimp only | split

theorem State.ucieJournal_kept {s : State} {permanent} (hm : kK &&& 0x400040006 = 0)  (hk : Kept kK k0 kM s) :
    Kept kK k0 kM (State.ucieJournal s permanent) := by
  unfold State.ucieJournal
  repeat' first | with_reducible assumption | with_reducible apply State.journal_kept (wOff hm rfl) | dsimp only | split

theorem State.endPartner_kept {s : State} {st} (hm : kK &&& 0x400008006 = 0)  (hk : Kept kK k0 kM s) :
    Kept kK k0 kM (State.endPartner s st) := by
  unfold State.endPartner
  repeat' first | with_reducible assumption | with_reducible apply State.complete_kept (wOff hm rfl) | with_reducible apply State.endPower_kept (wOff hm rfl) | with_reducible apply Kept.ite | dsimp only | split

theorem State.freeUcie_kept {s : State} (hm : kK &&& 0x20000000 = 0)  (hk : Kept kK k0 kM s) :
    Kept kK k0 kM (State.freeUcie s) := by
  unfold State.freeUcie
  repeat' first | with_reducible assumption | simp only [Kept.mk_opt (wOff hm rfl)] | dsimp only | split

theorem execUcieLinkTrained_kept {rate} {modules} {tx0} {tx1} {s : State} (hm : kK &&& 0x420000206 = 0)  (hk : Kept kK k0 kM s) :
    KeptR kK k0 kM (execUcieLinkTrained rate modules tx0 tx1 s) := by
  unfold execUcieLinkTrained
  repeat' first | with_reducible assumption | with_reducible apply State.setF_kept (wOff hm rfl) | with_reducible apply State.ucieDrain_kept (wOff hm rfl) | with_reducible apply State.ucieMark_kept (wOff hm rfl) | with_reducible apply State.toUcie_kept (wOff hm rfl) | with_reducible apply State.freeUcie_kept (wOff hm rfl) | with_reducible apply Kept.ite | with_reducible apply KeptR.next | dsimp only | split

theorem State.partnerHold_kept {s : State} (hm : kK &&& 0x400062006 = 0)  (hk : Kept kK k0 kM s) :
    Kept kK k0 kM (State.partnerHold s) := by
  unfold State.partnerHold
  repeat' first | with_reducible assumption | with_reducible apply State.reachDom_kept (wOff hm rfl) | with_reducible apply State.discardPosted_kept (wOff hm rfl) | with_reducible apply Kept.ite | simp only [Kept.mk_pwr (wOff hm rfl)] | dsimp only | split

theorem execUcieIdentityRecord_kept {vendor} {dieCode} {revision} {power} {s : State} (hm : kK &&& 0x42006a006 = 0)  (hk : Kept kK k0 kM s) :
    KeptR kK k0 kM (execUcieIdentityRecord vendor dieCode revision power s) := by
  unfold execUcieIdentityRecord
  repeat' first | with_reducible assumption | with_reducible apply State.setF_kept (wOff hm rfl) | with_reducible apply State.lower_kept (wOff hm rfl) | with_reducible apply State.reachDom_kept (wOff hm rfl) | with_reducible apply State.ucieMark_kept (wOff hm rfl) | with_reducible apply State.toUcie_kept (wOff hm rfl) | with_reducible apply State.ucieJournal_kept (wOff hm rfl) | with_reducible apply State.endPartner_kept (wOff hm rfl) | with_reducible apply State.partnerHold_kept (wOff hm rfl) | with_reducible apply Kept.ite | with_reducible apply KeptR.next | dsimp only | split

theorem State.partnerDrain_kept {s : State} (hm : kK &&& 0x30000000 = 0)  (hk : Kept kK k0 kM s) :
    Kept kK k0 kM (State.partnerDrain s) := by
  unfold State.partnerDrain
  repeat' first | with_reducible assumption | with_reducible apply State.respond_kept (wOff hm rfl) | with_reducible refine Kept.foldl ?_ (fun _ _ _ => ?_) | with_reducible refine Kept.foldlIn Prod.snd ?_ (fun _ _ _ => ?_) | with_reducible refine Kept.foldlIn (fun p => p.2.2) ?_ (fun _ _ _ => ?_) | simp only [Kept.mk_opt (wOff hm rfl)] | dsimp only | split

theorem State.ucieFence_kept {s : State} (hm : kK &&& 0x430042006 = 0)  (hk : Kept kK k0 kM s) :
    Kept kK k0 kM (State.ucieFence s) := by
  unfold State.ucieFence
  repeat' first | with_reducible assumption | with_reducible apply State.setF_kept (wOff hm rfl) | with_reducible apply State.raise_kept (wOff hm rfl) | with_reducible apply State.discardPosted_kept (wOff hm rfl) | with_reducible apply State.toUcie_kept (wOff hm rfl) | with_reducible apply State.ucieJournal_kept (wOff hm rfl) | with_reducible apply State.partnerDrain_kept (wOff hm rfl) | dsimp only | split

theorem State.ucieLaneFault_kept {s : State} {m} (hm : kK &&& 0x430042006 = 0)  (hk : Kept kK k0 kM s) :
    Kept kK k0 kM (State.ucieLaneFault s m) := by
  unfold State.ucieLaneFault
  repeat' first | with_reducible assumption | with_reducible apply State.setF_kept (wOff hm rfl) | with_reducible apply State.ucieMark_kept (wOff hm rfl) | with_reducible apply State.ucieFence_kept (wOff hm rfl) | with_reducible apply Kept.ite | dsimp only | split

theorem State.ucieLinkFault_kept {s : State} (hm : kK &&& 0x430042006 = 0)  (hk : Kept kK k0 kM s) :
    Kept kK k0 kM (State.ucieLinkFault s) := by
  unfold State.ucieLinkFault
  repeat' first | with_reducible assumption | with_reducible apply State.setF_kept (wOff hm rfl) | with_reducible apply State.ucieMark_kept (wOff hm rfl) | with_reducible apply State.toUcie_kept (wOff hm rfl) | with_reducible apply State.ucieFence_kept (wOff hm rfl) | with_reducible apply Kept.ite | dsimp only | split

theorem State.ucieOwe_kept {s : State} {e} {v} {n} (hm : kK &&& 0x20000000 = 0)  (hk : Kept kK k0 kM s) :
    Kept kK k0 kM (State.ucieOwe s e v n) := by
  unfold State.ucieOwe
  repeat' first | with_reducible assumption | simp only [Kept.mk_opt (wOff hm rfl)] | dsimp only | split

theorem State.partnerAnswered_kept {s : State} {e} {p} (hm : kK &&& 0x20000000 = 0)  (hk : Kept kK k0 kM s) :
    Kept kK k0 kM (State.partnerAnswered s e p) := by
  unfold State.partnerAnswered
  repeat' first | with_reducible assumption | simp only [Kept.mk_opt (wOff hm rfl)] | dsimp only | split

theorem State.slotIn_kept {s : State} {e} {f} (hm : kK &&& 0x30000000 = 0)  (hk : Kept kK k0 kM s) :
    Kept kK k0 kM (State.slotIn s e f) := by
  unfold State.slotIn
  repeat' first | with_reducible assumption | with_reducible apply State.send_kept (wOff hm rfl) | with_reducible apply State.ucieOwe_kept (wOff hm rfl) | with_reducible apply State.partnerAnswered_kept (wOff hm rfl) | with_reducible apply Kept.ite | simp only [Kept.mk_opt (wOff hm rfl)] | dsimp only | split

theorem execUcieFlitReceive_kept {l} {m} {s : State} (hm : kK &&& 0x430042206 = 0)  (hk : Kept kK k0 kM s) :
    KeptR kK k0 kM (execUcieFlitReceive l m s) := by
  unfold execUcieFlitReceive
  repeat' first | with_reducible assumption | with_reducible apply State.count_kept (wOff hm rfl) | with_reducible apply State.uncharge_kept (wOff hm rfl) | with_reducible apply State.ucieSend_kept (wOff hm rfl) | with_reducible apply State.ucieDrain_kept (wOff hm rfl) | with_reducible apply State.ucieResend_kept (wOff hm rfl) | with_reducible apply State.checkFail_kept (wOff hm rfl) | with_reducible apply State.checkPass_kept (wOff hm rfl) | with_reducible apply State.ucieLaneFault_kept (wOff hm rfl) | with_reducible apply State.ucieLinkFault_kept (wOff hm rfl) | with_reducible apply State.slotIn_kept (wOff hm rfl) | with_reducible apply Kept.ite | with_reducible apply KeptR.next | with_reducible refine Kept.foldl ?_ (fun _ _ _ => ?_) | with_reducible refine Kept.foldlIn Prod.snd ?_ (fun _ _ _ => ?_) | with_reducible refine Kept.foldlIn (fun p => p.2.2) ?_ (fun _ _ _ => ?_) | (refine Kept.sndEq (x := (State.checkFail _ _ _ _)) (by assumption) ?_) | simp only [Kept.mk_opt (wOff hm rfl)] | dsimp only | split

theorem State.partnerAnswer_kept {s : State} {e} {p} {st} (hm : kK &&& 0x20000200 = 0)  (hk : Kept kK k0 kM s) :
    Kept kK k0 kM (State.partnerAnswer s e p st) := by
  unfold State.partnerAnswer
  repeat' first | with_reducible assumption | with_reducible apply State.toPartner_kept (wOff hm rfl) | dsimp only | split

theorem State.partnerReserve_kept {s : State} {e} {p} {dst} (hm : kK &&& 0x10000000 = 0)  (hk : Kept kK k0 kM s) :
    Kept kK k0 kM (State.partnerReserve s e p dst) := by
  unfold State.partnerReserve
  repeat' first | with_reducible assumption | with_reducible apply State.setNi_kept (wOff hm rfl) | with_reducible apply Kept.ite | dsimp only | split

theorem State.partnerTo_kept {s : State} {e} {p} {d} (hm : kK &&& 0x30000200 = 0)  (hk : Kept kK k0 kM s) :
    Kept kK k0 kM (State.partnerTo s e p d) := by
  unfold State.partnerTo
  repeat' first | with_reducible assumption | with_reducible apply State.send_kept (wOff hm rfl) | with_reducible apply State.partnerAnswer_kept (wOff hm rfl) | with_reducible apply State.partnerReserve_kept (wOff hm rfl) | with_reducible apply Kept.ite | dsimp only | split

theorem State.partnerForward_kept {s : State} {e} {p} (hm : kK &&& 0x30000200 = 0)  (hk : Kept kK k0 kM s) :
    Kept kK k0 kM (State.partnerForward s e p) := by
  unfold State.partnerForward
  repeat' first | with_reducible assumption | with_reducible apply State.partnerTo_kept (wOff hm rfl) | dsimp only | split

theorem execUciePartnerRequest_kept {s : State} (hm : kK &&& 0x430000206 = 0)  (hk : Kept kK k0 kM s) :
    KeptR kK k0 kM (execUciePartnerRequest s) := by
  unfold execUciePartnerRequest
  repeat' first | with_reducible assumption | with_reducible apply State.mark_kept (wOff hm rfl) | with_reducible apply State.count_kept (wOff hm rfl) | with_reducible apply State.ucieOwe_kept (wOff hm rfl) | with_reducible apply State.partnerAnswer_kept (wOff hm rfl) | with_reducible apply State.partnerForward_kept (wOff hm rfl) | with_reducible apply Kept.ite | with_reducible apply KeptR.next | simp only [Kept.mk_opt (wOff hm rfl)] | dsimp only | split

theorem execUciePartnerEvent_kept {s : State} (hm : kK &&& 0x400000006 = 0)  (hk : Kept kK k0 kM s) :
    KeptR kK k0 kM (execUciePartnerEvent s) := by
  unfold execUciePartnerEvent
  repeat' first | with_reducible assumption | with_reducible apply State.ucieMark_kept (wOff hm rfl) | with_reducible apply Kept.ite | with_reducible apply KeptR.next | dsimp only | split

theorem State.psysWrite_kept {s : State} {m} {k} {limit} {v} (hm : kK &&& 0x400000006 = 0)  (hk : Kept kK k0 kM s) :
    Kept kK k0 kM (State.psysWrite s m k limit v) := by
  unfold State.psysWrite
  repeat' first | with_reducible assumption | with_reducible apply State.setF_kept (wOff hm rfl) | with_reducible apply State.mark_kept (wOff hm rfl) | with_reducible apply Kept.ite | dsimp only | split

theorem execPsysWinWrite_kept {m} {k} {limit} {v} {s : State} (hm : kK &&& 0x400000206 = 0)  (hk : Kept kK k0 kM s) :
    KeptR kK k0 kM (execPsysWinWrite m k limit v s) := by
  unfold execPsysWinWrite
  repeat' first | with_reducible assumption | with_reducible apply State.ownWrite_kept (wOff hm rfl) | with_reducible apply State.psysWrite_kept (wOff hm rfl) | with_reducible apply Kept.ite | with_reducible apply KeptR.next | (intro u hu) | simp only [id] | dsimp only | split

end Sys2Proof.Machine
end

