-- ==== Sys2Proof/Laws/KeptBays.lean ====
section
/-! SUPPORT. The operations of Sys2Proof/Machine/Bays.lean leave alone what `Kept` names. -/
namespace Sys2Proof.Machine
set_option linter.unusedSimpArgs false
set_option linter.unusedVariables false
variable {kK : Nat} {k0 : State} {kM : List Host.Cell → Prop}

theorem State.setBword_kept {s : State} {u} {w} {v} (hm : kK &&& 0x100000 = 0)  (hk : Kept kK k0 kM s) :
    Kept kK k0 kM (State.setBword s u w v) := by
  unfold State.setBword
  repeat' first | with_reducible assumption | simp only [Kept.mk_bays (wOff hm rfl)] | dsimp only | split

theorem State.setCword_kept {s : State} {u} {g} {v} (hm : kK &&& 0x100000 = 0)  (hk : Kept kK k0 kM s) :
    Kept kK k0 kM (State.setCword s u g v) := by
  unfold State.setCword
  repeat' first | with_reducible assumption | simp only [Kept.mk_bays (wOff hm rfl)] | dsimp only | split

theorem State.setCol_kept {s : State} {u} {g} {d} (hm : kK &&& 0x100000 = 0)  (hk : Kept kK k0 kM s) :
    Kept kK k0 kM (State.setCol s u g d) := by
  unfold State.setCol
  repeat' first | with_reducible assumption | with_reducible apply State.setCword_kept (wOff hm rfl) | dsimp only | split

theorem State.addCol_kept {s : State} {u} {g} {x} (hm : kK &&& 0x100000 = 0)  (hk : Kept kK k0 kM s) :
    Kept kK k0 kM (State.addCol s u g x) := by
  unfold State.addCol
  repeat' first | with_reducible assumption | with_reducible apply State.setCword_kept (wOff hm rfl) | dsimp only | split

theorem State.bayMark_kept {s : State} {u} {f} (hm : kK &&& 0x400000006 = 0)  (hk : Kept kK k0 kM s) :
    Kept kK k0 kM (State.bayMark s u f) := by
  unfold State.bayMark
  repeat' first | with_reducible assumption | with_reducible apply State.mark_kept (wOff hm rfl) | dsimp only | split

theorem State.setJob_kept {s : State} {u} {j} (hm : kK &&& 0x100000 = 0)  (hk : Kept kK k0 kM s) :
    Kept kK k0 kM (State.setJob s u j) := by
  unfold State.setJob
  repeat' first | with_reducible assumption | simp only [Kept.mk_bays (wOff hm rfl)] | dsimp only | split

theorem State.queueJob_kept {s : State} {u} {g} {rebuild} (hm : kK &&& 0x400100006 = 0)  (hk : Kept kK k0 kM s) :
    Kept kK k0 kM (State.queueJob s u g rebuild) := by
  unfold State.queueJob
  repeat' first | with_reducible assumption | with_reducible apply State.bayMark_kept (wOff hm rfl) | with_reducible apply State.setJob_kept (wOff hm rfl) | with_reducible apply Kept.ite | dsimp only | split

theorem State.markStale_kept {s : State} {u} {g} (hm : kK &&& 0x100000 = 0)  (hk : Kept kK k0 kM s) :
    Kept kK k0 kM (State.markStale s u g) := by
  unfold State.markStale
  repeat' first | with_reducible assumption | with_reducible apply Kept.ite | simp only [Kept.mk_bays (wOff hm rfl)] | dsimp only | split

theorem State.clearStale_kept {s : State} {u} {g} (hm : kK &&& 0x100000 = 0)  (hk : Kept kK k0 kM s) :
    Kept kK k0 kM (State.clearStale s u g) := by
  unfold State.clearStale
  repeat' first | with_reducible assumption | simp only [Kept.mk_bays (wOff hm rfl)] | dsimp only | split

theorem State.disturb_kept {s : State} {u} {g} (hm : kK &&& 0x400100006 = 0)  (hk : Kept kK k0 kM s) :
    Kept kK k0 kM (State.disturb s u g) := by
  unfold State.disturb
  repeat' first | with_reducible assumption | with_reducible apply State.bayMark_kept (wOff hm rfl) | with_reducible apply State.setJob_kept (wOff hm rfl) | with_reducible apply Kept.ite | dsimp only | split

theorem State.locate_kept {s : State} {u} {outcome} {w} {b} (hm : kK &&& 0x2 = 0)  (hk : Kept kK k0 kM s) :
    Kept kK k0 kM (State.locate s u outcome w b) := by
  unfold State.locate
  repeat' first | with_reducible assumption | with_reducible apply State.setF_kept (wOff hm rfl) | with_reducible apply State.setB_kept (wOff hm rfl) | dsimp only | split

theorem State.bayJournal_kept {s : State} {u} {outcome} {w} {b} {permanent} (hm : kK &&& 0x400040006 = 0)  (hk : Kept kK k0 kM s) :
    Kept kK k0 kM (State.bayJournal s u outcome w b permanent) := by
  unfold State.bayJournal
  repeat' first | with_reducible assumption | with_reducible apply State.journal_kept (wOff hm rfl) | dsimp only | split

theorem State.qcCount_kept {s : State} {u} {f} {r} (hm : kK &&& 0x400000006 = 0)  (hk : Kept kK k0 kM s) :
    Kept kK k0 kM (State.qcCount s u f r) := by
  unfold State.qcCount
  repeat' first | with_reducible assumption | with_reducible apply State.count_kept (wOff hm rfl) | dsimp only | split

theorem State.bayOutcome_kept {s : State} {u} {outcome} {w} {b} (hm : kK &&& 0x400140006 = 0)  (hk : Kept kK k0 kM s) :
    Kept kK k0 kM (State.bayOutcome s u outcome w b) := by
  unfold State.bayOutcome
  repeat' first | with_reducible assumption | with_reducible apply State.bayMark_kept (wOff hm rfl) | with_reducible apply State.locate_kept (wOff hm rfl) | with_reducible apply State.bayJournal_kept (wOff hm rfl) | with_reducible apply State.qcCount_kept (wOff hm rfl) | with_reducible apply Kept.ite | simp only [Kept.mk_bays (wOff hm rfl)] | dsimp only | split

theorem State.rawOver_kept {s : State} {q} (hm : kK &&& 0x100002 = 0)  (hk : Kept kK k0 kM s) :
    Kept kK k0 kM (State.rawOver s q) := by
  unfold State.rawOver
  repeat' first | with_reducible assumption | with_reducible apply State.lower_kept (wOff hm rfl) | simp only [Kept.mk_bays (wOff hm rfl)] | dsimp only | split

theorem State.rawMark_kept {s : State} {q} {f} (hm : kK &&& 0x400000006 = 0)  (hk : Kept kK k0 kM s) :
    Kept kK k0 kM (State.rawMark s q f) := by
  unfold State.rawMark
  repeat' first | with_reducible assumption | with_reducible apply State.raise_kept (wOff hm rfl) | with_reducible apply State.bayMark_kept (wOff hm rfl) | with_reducible apply Kept.ite | dsimp only | split

theorem State.rawLoad_kept {s : State} {q} {d} {par} {st} (hm : kK &&& 0x2 = 0)  (hk : Kept kK k0 kM s) :
    Kept kK k0 kM (State.rawLoad s q d par st) := by
  unfold State.rawLoad
  repeat' first | with_reducible assumption | with_reducible apply State.setF_kept (wOff hm rfl) | dsimp only | split

theorem State.rawRead_kept {s : State} {q} (hm : kK &&& 0x2 = 0)  (hk : Kept kK k0 kM s) :
    Kept kK k0 kM (State.rawRead s q) := by
  unfold State.rawRead
  repeat' first | with_reducible assumption | with_reducible apply State.rawLoad_kept (wOff hm rfl) | with_reducible apply Kept.ite | dsimp only | split

theorem State.rawWrite_kept {s : State} {q} (hm : kK &&& 0x100000 = 0)  (hk : Kept kK k0 kM s) :
    Kept kK k0 kM (State.rawWrite s q) := by
  unfold State.rawWrite
  repeat' first | with_reducible assumption | with_reducible apply State.setBword_kept (wOff hm rfl) | with_reducible apply State.setCword_kept (wOff hm rfl) | with_reducible apply Kept.ite | dsimp only | split

theorem State.rawAct_kept {s : State} {q} (hm : kK &&& 0x400100006 = 0)  (hk : Kept kK k0 kM s) :
    Kept kK k0 kM (State.rawAct s q) := by
  unfold State.rawAct
  repeat' first | with_reducible assumption | with_reducible apply State.rawOver_kept (wOff hm rfl) | with_reducible apply State.rawMark_kept (wOff hm rfl) | with_reducible apply State.rawRead_kept (wOff hm rfl) | with_reducible apply State.rawWrite_kept (wOff hm rfl) | with_reducible apply Kept.ite | dsimp only | split

theorem State.rawFirst_kept {s : State} {u} (hm : kK &&& 0x400100006 = 0)  (hk : Kept kK k0 kM s) :
    Kept kK k0 kM (State.rawFirst s u) := by
  unfold State.rawFirst
  repeat' first | with_reducible assumption | with_reducible apply State.rawAct_kept (wOff hm rfl) | with_reducible apply Kept.ite | dsimp only | split

theorem State.poisonWords_kept {s : State} {u} {g} {l} (hm : kK &&& 0x100000 = 0)  (hk : Kept kK k0 kM s) :
    Kept kK k0 kM (State.poisonWords s u g l) := by
  unfold State.poisonWords
  repeat' first | with_reducible assumption | with_reducible apply State.setBword_kept (wOff hm rfl) | with_reducible apply State.setCol_kept (wOff hm rfl) | with_reducible refine Kept.foldl ?_ (fun _ _ _ => ?_) | with_reducible refine Kept.foldlIn Prod.snd ?_ (fun _ _ _ => ?_) | with_reducible refine Kept.foldlIn (fun p => p.2.2) ?_ (fun _ _ _ => ?_) | dsimp only | split

theorem State.rebuildGroup_kept {s : State} {u} {g} (hm : kK &&& 0x400140006 = 0)  (hk : Kept kK k0 kM s) :
    Kept kK k0 kM (State.rebuildGroup s u g) := by
  unfold State.rebuildGroup
  repeat' first | with_reducible assumption | with_reducible apply State.clearStale_kept (wOff hm rfl) | with_reducible apply State.bayOutcome_kept (wOff hm rfl) | with_reducible apply State.poisonWords_kept (wOff hm rfl) | dsimp only | split

theorem State.mendWords_kept {s : State} {u} {g} (hm : kK &&& 0x400140006 = 0)  (hk : Kept kK k0 kM s) :
    Kept kK k0 kM (State.mendWords s u g) := by
  unfold State.mendWords
  repeat' first | with_reducible assumption | with_reducible apply State.setBword_kept (wOff hm rfl) | with_reducible apply State.setCol_kept (wOff hm rfl) | with_reducible apply State.bayOutcome_kept (wOff hm rfl) | with_reducible apply State.poisonWords_kept (wOff hm rfl) | with_reducible apply Kept.ite | dsimp only | split

theorem State.mendGroup_kept {s : State} {u} {g} (hm : kK &&& 0x400140006 = 0)  (hk : Kept kK k0 kM s) :
    Kept kK k0 kM (State.mendGroup s u g) := by
  unfold State.mendGroup
  repeat' first | with_reducible assumption | with_reducible apply State.rebuildGroup_kept (wOff hm rfl) | with_reducible apply State.mendWords_kept (wOff hm rfl) | with_reducible apply Kept.ite | dsimp only | split

theorem State.doJob_kept {s : State} {u} {rebuild} (hm : kK &&& 0x400140006 = 0)  (hk : Kept kK k0 kM s) :
    Kept kK k0 kM (State.doJob s u rebuild) := by
  unfold State.doJob
  repeat' first | with_reducible assumption | with_reducible apply State.setJob_kept (wOff hm rfl) | with_reducible apply State.rebuildGroup_kept (wOff hm rfl) | with_reducible apply State.mendGroup_kept (wOff hm rfl) | with_reducible apply Kept.ite | dsimp only | split

theorem execBayMend_kept {q} {deep} {i} {s : State} (hm : kK &&& 0x400140006 = 0)  (hk : Kept kK k0 kM s) :
    KeptR kK k0 kM (execBayMend q deep i s) := by
  unfold execBayMend
  repeat' first | with_reducible assumption | with_reducible apply State.rawFirst_kept (wOff hm rfl) | with_reducible apply State.doJob_kept (wOff hm rfl) | with_reducible apply Kept.ite | with_reducible apply KeptR.next | dsimp only | split

theorem execBayRebuild_kept {q} {deep} {i} {s : State} (hm : kK &&& 0x400140006 = 0)  (hk : Kept kK k0 kM s) :
    KeptR kK k0 kM (execBayRebuild q deep i s) := by
  unfold execBayRebuild
  repeat' first | with_reducible assumption | with_reducible apply State.rawFirst_kept (wOff hm rfl) | with_reducible apply State.doJob_kept (wOff hm rfl) | with_reducible apply Kept.ite | with_reducible apply KeptR.next | dsimp only | split

theorem State.tidyCopies_kept {s : State} {u} {g} (hm : kK &&& 0x100000 = 0)  (hk : Kept kK k0 kM s) :
    Kept kK k0 kM (State.tidyCopies s u g) := by
  unfold State.tidyCopies
  repeat' first | with_reducible assumption | with_reducible apply State.setBword_kept (wOff hm rfl) | with_reducible apply Kept.ite | with_reducible refine Kept.foldl ?_ (fun _ _ _ => ?_) | with_reducible refine Kept.foldlIn Prod.snd ?_ (fun _ _ _ => ?_) | with_reducible refine Kept.foldlIn (fun p => p.2.2) ?_ (fun _ _ _ => ?_) | dsimp only | split

theorem execBayScrubCheck_kept {q} {deep} {i} {s : State} (hm : kK &&& 0x400140006 = 0)  (hk : Kept kK k0 kM s) :
    KeptR kK k0 kM (execBayScrubCheck q deep i s) := by
  unfold execBayScrubCheck
  repeat' first | with_reducible assumption | with_reducible apply State.rawFirst_kept (wOff hm rfl) | with_reducible apply State.mendGroup_kept (wOff hm rfl) | with_reducible apply State.tidyCopies_kept (wOff hm rfl) | with_reducible apply Kept.ite | with_reducible apply KeptR.next | simp only [Kept.mk_bays (wOff hm rfl)] | dsimp only | split

theorem State.bayStore_kept {s : State} {u} {w} {we} {din} (hm : kK &&& 0x400100006 = 0)  (hk : Kept kK k0 kM s) :
    Kept kK k0 kM (State.bayStore s u w we din) := by
  unfold State.bayStore
  repeat' first | with_reducible assumption | with_reducible apply State.setBword_kept (wOff hm rfl) | with_reducible apply State.addCol_kept (wOff hm rfl) | with_reducible apply State.bayMark_kept (wOff hm rfl) | with_reducible apply State.queueJob_kept (wOff hm rfl) | with_reducible apply State.markStale_kept (wOff hm rfl) | with_reducible apply State.disturb_kept (wOff hm rfl) | with_reducible apply Kept.ite | dsimp only | split

theorem State.bayStorePoison_kept {s : State} {u} {w} (hm : kK &&& 0x400100006 = 0)  (hk : Kept kK k0 kM s) :
    Kept kK k0 kM (State.bayStorePoison s u w) := by
  unfold State.bayStorePoison
  repeat' first | with_reducible assumption | with_reducible apply State.setBword_kept (wOff hm rfl) | with_reducible apply State.addCol_kept (wOff hm rfl) | with_reducible apply State.queueJob_kept (wOff hm rfl) | with_reducible apply State.markStale_kept (wOff hm rfl) | with_reducible apply State.disturb_kept (wOff hm rfl) | with_reducible apply Kept.ite | dsimp only | split

theorem State.bayFetch_kept {s : State} {u} {w} {sel} (hm : kK &&& 0x400100006 = 0)  (hk : Kept kK k0 kM s) :
    Kept kK k0 kM (State.bayFetch s u w sel).2.2.2 := by
  unfold State.bayFetch
  repeat' first | with_reducible assumption | with_reducible apply State.queueJob_kept (wOff hm rfl) | with_reducible apply Kept.ite | dsimp only | split

theorem State.portWrite_kept {s : State} {u} {portB} {laneWe} {addr} {din} (hm : kK &&& 0x400100006 = 0)  (hk : Kept kK k0 kM s) :
    Kept kK k0 kM (State.portWrite s u portB laneWe addr din) := by
  unfold State.portWrite
  repeat' first | with_reducible assumption | with_reducible apply State.bayStore_kept (wOff hm rfl) | dsimp only | split

theorem State.portRead_kept {s : State} {u} {portB} {addr} (hm : kK &&& 0x400100206 = 0)  (hk : Kept kK k0 kM s) :
    Kept kK k0 kM (State.portRead s u portB addr) := by
  unfold State.portRead
  repeat' first | with_reducible assumption | with_reducible apply State.emit_kept (wOff hm rfl) | with_reducible apply State.bayFetch_kept (wOff hm rfl) | with_reducible apply Kept.ite | (refine Kept.sndEq (x := (State.bayFetch _ _ _ _)) (by assumption) ?_) | dsimp only | split

theorem State.clearUnit_kept {s : State} {u} (hm : kK &&& 0x100000 = 0)  (hk : Kept kK k0 kM s) :
    Kept kK k0 kM (State.clearUnit s u) := by
  unfold State.clearUnit
  repeat' first | with_reducible assumption | simp only [Kept.mk_bays (wOff hm rfl)] | dsimp only | split

theorem State.bayClr_kept {s : State} {u} (hm : kK &&& 0x100000 = 0)  (hk : Kept kK k0 kM s) :
    Kept kK k0 kM (State.bayClr s u) := by
  unfold State.bayClr
  repeat' first | with_reducible assumption | with_reducible apply State.clearUnit_kept (wOff hm rfl) | with_reducible apply Kept.ite | dsimp only | split

theorem State.portCycle_kept {s0 : State} {u} {portB} {we} {laneWe} {addr} {din} (hm : kK &&& 0x400100206 = 0)  (hk : Kept kK k0 kM s0) :
    Kept kK k0 kM (State.portCycle s0 u portB we laneWe addr din) := by
  unfold State.portCycle
  repeat' first | with_reducible assumption | with_reducible apply State.emit_kept (wOff hm rfl) | with_reducible apply State.portWrite_kept (wOff hm rfl) | with_reducible apply State.portRead_kept (wOff hm rfl) | with_reducible apply State.bayClr_kept (wOff hm rfl) | with_reducible apply Kept.ite | dsimp only | split

theorem execBayWrite_kept {q} {deep} {i} {portB} {laneWe} {addr} {din} {s : State} (hm : kK &&& 0x400100206 = 0)  (hk : Kept kK k0 kM s) :
    KeptR kK k0 kM (execBayWrite q deep i portB laneWe addr din s) := by
  unfold execBayWrite
  repeat' first | with_reducible assumption | with_reducible apply State.portCycle_kept (wOff hm rfl) | with_reducible apply Kept.ite | with_reducible apply KeptR.next | dsimp only | split

theorem execBayRead_kept {q} {deep} {i} {portB} {addr} {s : State} (hm : kK &&& 0x400100206 = 0)  (hk : Kept kK k0 kM s) :
    KeptR kK k0 kM (execBayRead q deep i portB addr s) := by
  unfold execBayRead
  repeat' first | with_reducible assumption | with_reducible apply State.portCycle_kept (wOff hm rfl) | with_reducible apply Kept.ite | with_reducible apply KeptR.next | dsimp only | split

theorem execBayClear_kept {q} {deep} {i} {s : State} (hm : kK &&& 0x100000 = 0)  (hk : Kept kK k0 kM s) :
    KeptR kK k0 kM (execBayClear q deep i s) := by
  unfold execBayClear
  repeat' first | with_reducible assumption | with_reducible apply State.bayClr_kept (wOff hm rfl) | with_reducible apply Kept.ite | with_reducible apply KeptR.next | dsimp only | split

theorem State.clearFacetBays_kept {s : State} {f} (hm : kK &&& 0x100000 = 0)  (hk : Kept kK k0 kM s) :
    Kept kK k0 kM (State.clearFacetBays s f) := by
  unfold State.clearFacetBays
  repeat' first | with_reducible assumption | simp only [Kept.mk_bays (wOff hm rfl)] | dsimp only | split

theorem State.rawCtl_kept {s : State} {q} {v} (hm : kK &&& 0x400100006 = 0)  (hk : Kept kK k0 kM s) :
    Kept kK k0 kM (State.rawCtl s q v) := by
  unfold State.rawCtl
  repeat' first | with_reducible assumption | with_reducible apply State.setF_kept (wOff hm rfl) | with_reducible apply State.raise_kept (wOff hm rfl) | with_reducible apply State.rawMark_kept (wOff hm rfl) | with_reducible apply Kept.ite | simp only [Kept.mk_bays (wOff hm rfl)] | dsimp only | split

theorem execQcRawRead_kept {m} {q} {deep} {bay} {s : State} (hm : kK &&& 0x400100206 = 0)  (hk : Kept kK k0 kM s) :
    KeptR kK k0 kM (execQcRawRead m q deep bay s) := by
  unfold execQcRawRead
  repeat' first | with_reducible assumption | with_reducible apply State.ownWrite_kept (wOff hm rfl) | with_reducible apply State.rawCtl_kept (wOff hm rfl) | with_reducible apply KeptR.next | (intro u hu) | simp only [id] | dsimp only | split

theorem execQcRawWrite_kept {m} {q} {deep} {bay} {s : State} (hm : kK &&& 0x400100206 = 0)  (hk : Kept kK k0 kM s) :
    KeptR kK k0 kM (execQcRawWrite m q deep bay s) := by
  unfold execQcRawWrite
  repeat' first | with_reducible assumption | with_reducible apply State.ownWrite_kept (wOff hm rfl) | with_reducible apply State.rawCtl_kept (wOff hm rfl) | with_reducible apply KeptR.next | (intro u hu) | simp only [id] | dsimp only | split

theorem execRawAccessDone_kept {q} {s : State} (hm : kK &&& 0x400100006 = 0)  (hk : Kept kK k0 kM s) :
    KeptR kK k0 kM (execRawAccessDone q s) := by
  unfold execRawAccessDone
  repeat' first | with_reducible assumption | with_reducible apply State.rawAct_kept (wOff hm rfl) | with_reducible apply Kept.ite | with_reducible apply KeptR.next | dsimp only | split

theorem execRawAccessTimeout_kept {q} {s : State} (hm : kK &&& 0x400100006 = 0)  (hk : Kept kK k0 kM s) :
    KeptR kK k0 kM (execRawAccessTimeout q s) := by
  unfold execRawAccessTimeout
  repeat' first | with_reducible assumption | with_reducible apply State.rawOver_kept (wOff hm rfl) | with_reducible apply State.rawMark_kept (wOff hm rfl) | with_reducible apply Kept.ite | with_reducible apply KeptR.next | dsimp only | split

theorem State.setQptr_kept {s : State} {q} {n} {p} (hm : kK &&& 0x100000 = 0)  (hk : Kept kK k0 kM s) :
    Kept kK k0 kM (State.setQptr s q n p) := by
  unfold State.setQptr
  repeat' first | with_reducible assumption | simp only [Kept.mk_bays (wOff hm rfl)] | dsimp only | split

theorem State.qcMark_kept {s : State} {q} {n} {f} (hm : kK &&& 0x400000006 = 0)  (hk : Kept kK k0 kM s) :
    Kept kK k0 kM (State.qcMark s q n f) := by
  unfold State.qcMark
  repeat' first | with_reducible assumption | with_reducible apply State.mark_kept (wOff hm rfl) | dsimp only | split

theorem State.qctlCount_kept {s : State} {q} {n} {f} {r} (hm : kK &&& 0x400000006 = 0)  (hk : Kept kK k0 kM s) :
    Kept kK k0 kM (State.qctlCount s q n f r) := by
  unfold State.qctlCount
  repeat' first | with_reducible assumption | with_reducible apply State.count_kept (wOff hm rfl) | dsimp only | split

theorem State.qcSync_kept {s : State} {q} {n} (hm : kK &&& 0x100000 = 0)  (hk : Kept kK k0 kM s) :
    Kept kK k0 kM (State.qcSync s q n) := by
  unfold State.qcSync
  repeat' first | with_reducible assumption | with_reducible apply State.setQptr_kept (wOff hm rfl) | with_reducible apply Kept.ite | dsimp only | split

theorem State.qcSyncAll_kept {s : State} (hm : kK &&& 0x100000 = 0)  (hk : Kept kK k0 kM s) :
    Kept kK k0 kM (State.qcSyncAll s) := by
  unfold State.qcSyncAll
  repeat' first | with_reducible assumption | with_reducible apply State.qcSync_kept (wOff hm rfl) | with_reducible refine Kept.foldl ?_ (fun _ _ _ => ?_) | with_reducible refine Kept.foldlIn Prod.snd ?_ (fun _ _ _ => ?_) | with_reducible refine Kept.foldlIn (fun p => p.2.2) ?_ (fun _ _ _ => ?_) | dsimp only | split

theorem State.sawAfull_kept {s : State} {before} {q} {n} (hm : kK &&& 0x400000006 = 0)  (hk : Kept kK k0 kM s) :
    Kept kK k0 kM (State.sawAfull s before q n) := by
  unfold State.sawAfull
  repeat' first | with_reducible assumption | with_reducible apply State.qcMark_kept (wOff hm rfl) | with_reducible apply Kept.ite | dsimp only | split

theorem State.storeEntry_kept {s : State} {b} {q} {w} {data} {poison} (hm : kK &&& 0x400100006 = 0)  (hk : Kept kK k0 kM s) :
    Kept kK k0 kM (State.storeEntry s b q w data poison) := by
  unfold State.storeEntry
  refine Kept.foldlIn Prod.fst (α := State × Nat) hk (fun t x ht => ?_)
  dsimp only
  split
  · exact State.bayStorePoison_kept (wOff hm rfl) ht
  · exact State.bayStore_kept (wOff hm rfl) ht

theorem execQueueWrite_kept {q} {n} {data} {poison} {seen} {s : State} (hm : kK &&& 0x400100206 = 0)  (hk : Kept kK k0 kM s) :
    KeptR kK k0 kM (execQueueWrite q n data poison seen s) := by
  unfold execQueueWrite
  repeat' first | with_reducible assumption | with_reducible apply State.emit_kept (wOff hm rfl) | with_reducible apply State.setQptr_kept (wOff hm rfl) | with_reducible apply State.qcMark_kept (wOff hm rfl) | with_reducible apply State.qctlCount_kept (wOff hm rfl) | with_reducible apply State.sawAfull_kept (wOff hm rfl) | with_reducible apply State.storeEntry_kept (wOff hm rfl) | with_reducible apply Kept.ite | with_reducible apply KeptR.next | dsimp only | split

theorem State.fetchEntry_kept {s : State} {q} {w} {a3} (hm : kK &&& 0x400100006 = 0)  (hk : Kept kK k0 kM s) :
    Kept kK k0 kM (State.fetchEntry s q w a3).2.2 := by
  induction a3 generalizing s with
  | nil => exact hk
  | cons u us ih => exact ih (State.bayFetch_kept (wOff hm rfl) hk)

theorem execQueueRead_kept {q} {n} {seen} {s : State} (hm : kK &&& 0x400100206 = 0)  (hk : Kept kK k0 kM s) :
    KeptR kK k0 kM (execQueueRead q n seen s) := by
  unfold execQueueRead
  repeat' first | with_reducible assumption | with_reducible apply State.emit_kept (wOff hm rfl) | with_reducible apply State.setQptr_kept (wOff hm rfl) | with_reducible apply State.qcMark_kept (wOff hm rfl) | with_reducible apply State.qctlCount_kept (wOff hm rfl) | with_reducible apply State.fetchEntry_kept (wOff hm rfl) | with_reducible apply Kept.ite | with_reducible apply KeptR.next | (refine Kept.sndEq (x := (State.fetchEntry _ _ _ _)) (by assumption) ?_) | dsimp only | split

theorem State.qctl_kept {s : State} {q} {n} {v} (hm : kK &&& 0x2 = 0)  (hk : Kept kK k0 kM s) :
    Kept kK k0 kM (State.qctl s q n v) := by
  unfold State.qctl
  repeat' first | with_reducible assumption | with_reducible apply State.setF_kept (wOff hm rfl) | dsimp only | split

theorem execQcQctlWrite_kept {m} {q} {n} {v} {s : State} (hm : kK &&& 0x202 = 0)  (hk : Kept kK k0 kM s) :
    KeptR kK k0 kM (execQcQctlWrite m q n v s) := by
  unfold execQcQctlWrite
  repeat' first | with_reducible assumption | with_reducible apply State.ownWrite_kept (wOff hm rfl) | with_reducible apply State.qctl_kept (wOff hm rfl) | with_reducible apply KeptR.next | (intro u hu) | simp only [id] | dsimp only | split

theorem State.flushQc_kept {s : State} {q} {n} (hm : kK &&& 0x100000 = 0)  (hk : Kept kK k0 kM s) :
    Kept kK k0 kM (State.flushQc s q n) := by
  unfold State.flushQc
  repeat' first | with_reducible assumption | with_reducible apply State.setQptr_kept (wOff hm rfl) | dsimp only | split

theorem State.flushBound_kept {s : State} {q} {c} (hm : kK &&& 0x100000 = 0)  (hk : Kept kK k0 kM s) :
    Kept kK k0 kM (State.flushBound s q c) := by
  unfold State.flushBound
  repeat' first | with_reducible assumption | with_reducible apply State.flushQc_kept (wOff hm rfl) | with_reducible refine Kept.foldl ?_ (fun _ _ _ => ?_) | with_reducible refine Kept.foldlIn Prod.snd ?_ (fun _ _ _ => ?_) | with_reducible refine Kept.foldlIn (fun p => p.2.2) ?_ (fun _ _ _ => ?_) | dsimp only | split

theorem State.qcFlush_kept {s : State} {m} {q} {n} (hm : kK &&& 0x102000 = 0)  (hk : Kept kK k0 kM s) :
    Kept kK k0 kM (State.qcFlush s m q n) := by
  unfold State.qcFlush
  repeat' first | with_reducible assumption | with_reducible apply State.flushQc_kept (wOff hm rfl) | with_reducible apply Kept.ite | simp only [Kept.mk_posted (wOff hm rfl)] | dsimp only | split

theorem execQcQcmdFlush_kept {m} {q} {n} {s : State} (hm : kK &&& 0x102202 = 0)  (hk : Kept kK k0 kM s) :
    KeptR kK k0 kM (execQcQcmdFlush m q n s) := by
  unfold execQcQcmdFlush
  repeat' first | with_reducible assumption | with_reducible apply State.ownWrite_kept (wOff hm rfl) | with_reducible apply State.qcFlush_kept (wOff hm rfl) | with_reducible apply KeptR.next | (intro u hu) | simp only [id] | dsimp only | split

end Sys2Proof.Machine
end

