-- ==== Sys2Proof/Laws/KeptSau.lean ====
section
/-! SUPPORT. The operations of Sys2Proof/Machine/Sau.lean leave alone what `Kept` names. -/
namespace Sys2Proof.Machine
set_option linter.unusedSimpArgs false
set_option linter.unusedVariables false
variable {kK : Nat} {k0 : State} {kM : List Host.Cell → Prop}

theorem State.setSau_kept {s : State} {q} {n} {r} (hm : kK &&& 0x200000 = 0)  (hk : Kept kK k0 kM s) :
    Kept kK k0 kM (State.setSau s q n r) := by
  unfold State.setSau
  repeat' first | with_reducible assumption | simp only [Kept.mk_saus (wOff hm rfl)] | dsimp only | split

theorem execSauClockEdge_kept {q} {n} {sm} {u} {k} {adv} {rst} {fresh} {s : State} (hm : kK &&& 0x200000 = 0)  (hk : Kept kK k0 kM s) :
    KeptR kK k0 kM (execSauClockEdge q n sm u k adv rst fresh s) := by
  unfold execSauClockEdge
  repeat' first | with_reducible assumption | with_reducible apply State.setSau_kept (wOff hm rfl) | with_reducible apply Kept.ite | with_reducible apply KeptR.next | dsimp only | split

theorem State.clearSaus_kept {s : State} {f} (hm : kK &&& 0x200000 = 0)  (hk : Kept kK k0 kM s) :
    Kept kK k0 kM (State.clearSaus s f) := by
  unfold State.clearSaus
  repeat' first | with_reducible assumption | simp only [Kept.mk_saus (wOff hm rfl)] | dsimp only | split

end Sys2Proof.Machine
end

