-- ==== Sys2Proof/Laws/KeptTiles.lean ====
section
/-! SUPPORT. The operations of Sys2Proof/Machine/Tiles.lean leave alone what `Kept` names. -/
namespace Sys2Proof.Machine
set_option linter.unusedSimpArgs false
set_option linter.unusedVariables false
variable {kK : Nat} {k0 : State} {kM : List Host.Cell → Prop}

theorem State.setFf_kept {s : State} {f} {fr} {k} {differs} (hm : kK &&& 0x80000 = 0)  (hk : Kept kK k0 kM s) :
    Kept kK k0 kM (State.setFf s f fr k differs) := by
  unfold State.setFf
  repeat' first | with_reducible assumption | simp only [Kept.mk_fab (wOff hm rfl)] | dsimp only | split

theorem State.initFfs_kept {s : State} {f} (hm : kK &&& 0x80000 = 0)  (hk : Kept kK k0 kM s) :
    Kept kK k0 kM (State.initFfs s f) := by
  unfold State.initFfs
  repeat' first | with_reducible assumption | simp only [Kept.mk_fab (wOff hm rfl)] | dsimp only | split

theorem State.tileEdge_kept {s0 : State} {q} {c} {r} {x} {own} {s} (hm : kK &&& 0x80000 = 0)  (hk : Kept kK k0 kM s) :
    Kept kK k0 kM (State.tileEdge s0 q c r x own s) := by
  unfold State.tileEdge
  exact Kept.ite hk (Kept.foldl hk (fun _ _ h => State.setFf_kept (wOff hm rfl) h))

theorem State.setLevels_kept {s : State} {q} {l} (hm : kK &&& 0x80000 = 0)  (hk : Kept kK k0 kM s) :
    Kept kK k0 kM (State.setLevels s q l) := by
  unfold State.setLevels
  repeat' first | with_reducible assumption | with_reducible refine Kept.foldl ?_ (fun _ _ _ => ?_) | with_reducible refine Kept.foldlIn Prod.snd ?_ (fun _ _ _ => ?_) | with_reducible refine Kept.foldlIn (fun p => p.2.2) ?_ (fun _ _ _ => ?_) | simp only [Kept.mk_fab (wOff hm rfl)] | dsimp only | split

theorem State.probeLatch_kept {s0 : State} {q} {k} {tiles} {clocks} {s} (hm : kK &&& 0x80000 = 0)  (hk : Kept kK k0 kM s) :
    Kept kK k0 kM (State.probeLatch s0 q k tiles clocks s) := by
  unfold State.probeLatch
  repeat' first | with_reducible assumption | with_reducible apply Kept.ite | simp only [Kept.mk_fab (wOff hm rfl)] | dsimp only | split

theorem execTileClockEdge_kept {f} {col} {row} {x} {s : State} (hm : kK &&& 0x80000 = 0)  (hk : Kept kK k0 kM s) :
    KeptR kK k0 kM (execTileClockEdge f col row x s) := by
  unfold execTileClockEdge
  refine KeptR.next ?_
  have h := Kept.foldl (l := x.tiles) (State.tileEdge_kept (c := 256 * (f.val % 12 % 3) + col.val) (r := 120 * (f.val % 12 / 3) + row.val)
      (s0 := s.setLevels (f.val / 12) x.levels) (q := f.val / 12) (x := x) (own := x.window) (wOff hm rfl) (State.setLevels_kept (q := f.val / 12) (l := x.levels) (wOff hm rfl) hk))
      (fun t e h => State.tileEdge_kept (s0 := s.setLevels (f.val / 12) x.levels) (q := f.val / 12) (x := x)
        (c := 256 * (e.1.val % 3) + e.2.1.val) (r := 120 * (e.1.val / 3) + e.2.2.val)
        (own := (x.windows.find? (fun p => decide (p.1 = e))).map (fun p => p.2)) (wOff hm rfl) h)
  dsimp only
  split
  · exact Kept.foldl h (fun _ _ h => State.probeLatch_kept (wOff hm rfl) h)
  · exact h

end Sys2Proof.Machine
end

