-- ==== Sys2Proof/Laws/KeptImages.lean ====
section
/-! SUPPORT. The operations of Sys2Proof/Machine/Images.lean leave alone what `Kept` names. -/
namespace Sys2Proof.Machine
set_option linter.unusedSimpArgs false
set_option linter.unusedVariables false
variable {kK : Nat} {k0 : State} {kM : List Host.Cell → Prop}

theorem State.setHandle_kept {s : State} {h} {v} (hm : kK &&& 0x800000 = 0)  (hk : Kept kK k0 kM s) :
    Kept kK k0 kM (State.setHandle s h v) := by
  unfold State.setHandle
  repeat' first | with_reducible assumption | simp only [Kept.mk_cfg (wOff hm rfl)] | dsimp only | split

theorem State.cfgMark_kept {s : State} {f} (hm : kK &&& 0x400000006 = 0)  (hk : Kept kK k0 kM s) :
    Kept kK k0 kM (State.cfgMark s f) := by
  unfold State.cfgMark
  repeat' first | with_reducible assumption | with_reducible apply State.mark_kept (wOff hm rfl) | dsimp only | split

theorem State.openRegion_kept {s : State} {h} {base} {units} (hm : kK &&& 0x2 = 0)  (hk : Kept kK k0 kM s) :
    Kept kK k0 kM (State.openRegion s h base units) := by
  unfold State.openRegion
  repeat' first | with_reducible assumption | with_reducible apply State.openSlot_kept (wOff hm rfl) | with_reducible refine Kept.foldl ?_ (fun _ _ _ => ?_) | with_reducible refine Kept.foldlIn Prod.snd ?_ (fun _ _ _ => ?_) | with_reducible refine Kept.foldlIn (fun p => p.2.2) ?_ (fun _ _ _ => ?_) | dsimp only | split

theorem State.closeRegion_kept {s : State} {h} (hm : kK &&& 0x1000012 = 0) (hM : Closed kM)  (hk : Kept kK k0 kM s) :
    Kept kK k0 kM (State.closeRegion s h) := by
  unfold State.closeRegion
  repeat' first | with_reducible assumption | with_reducible apply State.fillLines_kept (wOff hm rfl) hM | with_reducible apply State.freeSlot_kept (wOff hm rfl) | with_reducible refine Kept.foldl ?_ (fun _ _ _ => ?_) | with_reducible refine Kept.foldlIn Prod.snd ?_ (fun _ _ _ => ?_) | with_reducible refine Kept.foldlIn (fun p => p.2.2) ?_ (fun _ _ _ => ?_) | dsimp only | split

theorem State.freeHandle_kept {s : State} {h} (hm : kK &&& 0xc00002 = 0)  (hk : Kept kK k0 kM s) :
    Kept kK k0 kM (State.freeHandle s h) := by
  unfold State.freeHandle
  repeat' first | with_reducible assumption | with_reducible apply State.lower_kept (wOff hm rfl) | simp only [Kept.mk_fac_cfg (wOff hm rfl)] | dsimp only | split

theorem State.eraseHandle_kept {s : State} {h} (hm : kK &&& 0x1c00012 = 0) (hM : Closed kM)  (hk : Kept kK k0 kM s) :
    Kept kK k0 kM (State.eraseHandle s h) := by
  unfold State.eraseHandle
  repeat' first | with_reducible assumption | with_reducible apply State.closeRegion_kept (wOff hm rfl) hM | with_reducible apply State.freeHandle_kept (wOff hm rfl) | dsimp only | split

theorem State.settleHandle_kept {s : State} {h} (hm : kK &&& 0x2 = 0)  (hk : Kept kK k0 kM s) :
    Kept kK k0 kM (State.settleHandle s h) := by
  unfold State.settleHandle
  repeat' first | with_reducible assumption | with_reducible apply State.setF_kept (wOff hm rfl) | with_reducible apply Kept.ite | dsimp only | split

theorem State.settleHandles_kept {s : State} (hm : kK &&& 0x2 = 0)  (hk : Kept kK k0 kM s) :
    Kept kK k0 kM (State.settleHandles s) := by
  unfold State.settleHandles
  repeat' first | with_reducible assumption | with_reducible apply State.settleHandle_kept (wOff hm rfl) | with_reducible refine Kept.foldl ?_ (fun _ _ _ => ?_) | with_reducible refine Kept.foldlIn Prod.snd ?_ (fun _ _ _ => ?_) | with_reducible refine Kept.foldlIn (fun p => p.2.2) ?_ (fun _ _ _ => ?_) | dsimp only | split

theorem State.putFrame_kept {s : State} {f} {p} {fr} {bits} (hm : kK &&& 0x400000 = 0)  (hk : Kept kK k0 kM s) :
    Kept kK k0 kM (State.putFrame s f p fr bits) := by
  unfold State.putFrame
  repeat' first | with_reducible assumption | with_reducible apply State.setFword_kept (wOff hm rfl) | with_reducible refine Kept.foldl ?_ (fun _ _ _ => ?_) | with_reducible refine Kept.foldlIn Prod.snd ?_ (fun _ _ _ => ?_) | with_reducible refine Kept.foldlIn (fun p => p.2.2) ?_ (fun _ _ _ => ?_) | dsimp only | split

theorem State.refreshCfg_kept {s : State} {f} {p} (hm : kK &&& 0x400000 = 0)  (hk : Kept kK k0 kM s) :
    Kept kK k0 kM (State.refreshCfg s f p) := by
  unfold State.refreshCfg
  repeat' first | with_reducible assumption | simp only [Kept.mk_fac (wOff hm rfl)] | dsimp only | split

theorem State.writePlane_kept {s : State} {f} {p} {h} (hm : kK &&& 0x400000 = 0)  (hk : Kept kK k0 kM s) :
    Kept kK k0 kM (State.writePlane s f p h) := by
  unfold State.writePlane
  repeat' first | with_reducible assumption | with_reducible apply State.putFrame_kept (wOff hm rfl) | with_reducible apply State.refreshCfg_kept (wOff hm rfl) | with_reducible refine Kept.foldl ?_ (fun _ _ _ => ?_) | with_reducible refine Kept.foldlIn Prod.snd ?_ (fun _ _ _ => ?_) | with_reducible refine Kept.foldlIn (fun p => p.2.2) ?_ (fun _ _ _ => ?_) | simp only [Kept.mk_fac (wOff hm rfl)] | dsimp only | split

theorem State.loadContents_kept {s : State} {f} {h} {c} (hm : kK &&& 0x400100006 = 0)  (hk : Kept kK k0 kM s) :
    Kept kK k0 kM (State.loadContents s f h c) := by
  unfold State.loadContents
  repeat' first | with_reducible assumption | with_reducible apply State.bayStore_kept (wOff hm rfl) | with_reducible apply Kept.ite | with_reducible refine Kept.foldl ?_ (fun _ _ _ => ?_) | with_reducible refine Kept.foldlIn Prod.snd ?_ (fun _ _ _ => ?_) | with_reducible refine Kept.foldlIn (fun p => p.2.2) ?_ (fun _ _ _ => ?_) | dsimp only | split

theorem State.clearRequested_kept {s : State} {f} {c} (hm : kK &&& 0x100000 = 0)  (hk : Kept kK k0 kM s) :
    Kept kK k0 kM (State.clearRequested s f c) := by
  unfold State.clearRequested
  repeat' first | with_reducible assumption | with_reducible apply State.clearUnit_kept (wOff hm rfl) | with_reducible apply Kept.ite | with_reducible refine Kept.foldl ?_ (fun _ _ _ => ?_) | with_reducible refine Kept.foldlIn Prod.snd ?_ (fun _ _ _ => ?_) | with_reducible refine Kept.foldlIn (fun p => p.2.2) ?_ (fun _ _ _ => ?_) | dsimp only | split

end Sys2Proof.Machine
end

