-- ==== Sys2Proof/Laws/KeptFacets.lean ====
section
/-! SUPPORT. The operations of Sys2Proof/Machine/Facets.lean leave alone what `Kept` names. -/
namespace Sys2Proof.Machine
set_option linter.unusedSimpArgs false
set_option linter.unusedVariables false
variable {kK : Nat} {k0 : State} {kM : List Host.Cell → Prop}

theorem State.setMarked_kept {s : State} {f} {p} {on} (hm : kK &&& 0x400000 = 0)  (hk : Kept kK k0 kM s) :
    Kept kK k0 kM (State.setMarked s f p on) := by
  unfold State.setMarked
  repeat' first | with_reducible assumption | with_reducible apply Kept.ite | simp only [Kept.mk_fac (wOff hm rfl)] | dsimp only | split

theorem State.validate_kept {s : State} {f} {p} {design} (hm : kK &&& 0x400002 = 0)  (hk : Kept kK k0 kM s) :
    Kept kK k0 kM (State.validate s f p design) := by
  unfold State.validate
  repeat' first | with_reducible assumption | with_reducible apply State.setF_kept (wOff hm rfl) | with_reducible apply State.raise_kept (wOff hm rfl) | with_reducible apply State.setMarked_kept (wOff hm rfl) | dsimp only | split

theorem State.invalidateOnly_kept {s : State} {f} {p} (hm : kK &&& 0x2 = 0)  (hk : Kept kK k0 kM s) :
    Kept kK k0 kM (State.invalidateOnly s f p) := by
  unfold State.invalidateOnly
  repeat' first | with_reducible assumption | with_reducible apply State.lower_kept (wOff hm rfl) | dsimp only | split

theorem State.invalidate_kept {s : State} {f} {p} (hm : kK &&& 0x400002 = 0)  (hk : Kept kK k0 kM s) :
    Kept kK k0 kM (State.invalidate s f p) := by
  unfold State.invalidate
  repeat' first | with_reducible assumption | with_reducible apply State.setMarked_kept (wOff hm rfl) | with_reducible apply State.invalidateOnly_kept (wOff hm rfl) | dsimp only | split

theorem State.toFacet_kept {s : State} {f} {v} (hm : kK &&& 0x2 = 0)  (hk : Kept kK k0 kM s) :
    Kept kK k0 kM (State.toFacet s f v) := by
  unfold State.toFacet
  repeat' first | with_reducible assumption | with_reducible apply State.setF_kept (wOff hm rfl) | dsimp only | split

theorem State.facetMark_kept {s : State} {f} {x} (hm : kK &&& 0x400000006 = 0)  (hk : Kept kK k0 kM s) :
    Kept kK k0 kM (State.facetMark s f x) := by
  unfold State.facetMark
  repeat' first | with_reducible assumption | with_reducible apply State.mark_kept (wOff hm rfl) | dsimp only | split

theorem State.endSwap_kept {s : State} {f} {st} (hm : kK &&& 0x400008006 = 0)  (hk : Kept kK k0 kM s) :
    Kept kK k0 kM (State.endSwap s f st) := by
  unfold State.endSwap
  repeat' first | with_reducible assumption | with_reducible apply State.complete_kept (wOff hm rfl) | dsimp only | split

theorem State.endRegport_kept {s : State} {f} {st} {waiting} (hm : kK &&& 0x10080202 = 0)  (hk : Kept kK k0 kM s) :
    Kept kK k0 kM (State.endRegport s f st waiting) := by
  unfold State.endRegport
  repeat' first | with_reducible assumption | with_reducible apply State.setRpOut_kept (wOff hm rfl) | with_reducible apply State.setRpWait_kept (wOff hm rfl) | with_reducible apply State.rpFail_kept (wOff hm rfl) | with_reducible apply Kept.ite | with_reducible refine Kept.foldl ?_ (fun _ _ _ => ?_) | with_reducible refine Kept.foldlIn Prod.snd ?_ (fun _ _ _ => ?_) | with_reducible refine Kept.foldlIn (fun p => p.2.2) ?_ (fun _ _ _ => ?_) | simp only [Kept.mk_fab (wOff hm rfl)] | dsimp only | split

theorem State.endFlight_kept {s : State} {f} {st} (hm : kK &&& 0x430080206 = 0)  (hk : Kept kK k0 kM s) :
    Kept kK k0 kM (State.endFlight s f st) := by
  unfold State.endFlight
  repeat' first | with_reducible assumption | with_reducible apply State.setNi_kept (wOff hm rfl) | with_reducible apply State.dropCount_kept (wOff hm rfl) | with_reducible apply State.rpAnswer_kept (wOff hm rfl) | with_reducible apply State.endRequest_kept (wOff hm rfl) | with_reducible apply State.creditPacket_kept (wOff hm rfl) | with_reducible apply State.endRegport_kept (wOff hm rfl) | with_reducible apply Kept.ite | with_reducible refine Kept.foldl ?_ (fun _ _ _ => ?_) | with_reducible refine Kept.foldlIn Prod.snd ?_ (fun _ _ _ => ?_) | with_reducible refine Kept.foldlIn (fun p => p.2.2) ?_ (fun _ _ _ => ?_) | dsimp only | split

theorem State.planeActive_kept {s : State} {f} (hm : kK &&& 0x80002 = 0)  (hk : Kept kK k0 kM s) :
    Kept kK k0 kM (State.planeActive s f) := by
  unfold State.planeActive
  repeat' first | with_reducible assumption | with_reducible apply State.setF_kept (wOff hm rfl) | with_reducible apply State.raise_kept (wOff hm rfl) | with_reducible apply State.lower_kept (wOff hm rfl) | with_reducible apply Kept.ite | with_reducible refine Kept.foldl ?_ (fun _ _ _ => ?_) | with_reducible refine Kept.foldlIn Prod.snd ?_ (fun _ _ _ => ?_) | with_reducible refine Kept.foldlIn (fun p => p.2.2) ?_ (fun _ _ _ => ?_) | simp only [Kept.mk_fab (wOff hm rfl)] | dsimp only | split

theorem State.portlessEnd_kept {s : State} {q} (hm : kK &&& 0x10080202 = 0)  (hk : Kept kK k0 kM s) :
    Kept kK k0 kM (State.portlessEnd s q) := by
  unfold State.portlessEnd
  repeat' first | with_reducible assumption | with_reducible apply State.setRpWait_kept (wOff hm rfl) | with_reducible apply State.rpFail_kept (wOff hm rfl) | with_reducible refine Kept.foldl ?_ (fun _ _ _ => ?_) | with_reducible refine Kept.foldlIn Prod.snd ?_ (fun _ _ _ => ?_) | with_reducible refine Kept.foldlIn (fun p => p.2.2) ?_ (fun _ _ _ => ?_) | dsimp only | split

theorem State.regportGone_kept {s : State} {f} {st} (hm : kK &&& 0x10080202 = 0)  (hk : Kept kK k0 kM s) :
    Kept kK k0 kM (State.regportGone s f st) := by
  unfold State.regportGone
  repeat' first | with_reducible assumption | with_reducible apply State.lower_kept (wOff hm rfl) | with_reducible apply State.endRegport_kept (wOff hm rfl) | with_reducible apply Kept.ite | dsimp only | split

theorem State.designGone_kept {s : State} {q} (hm : kK &&& 0x2 = 0)  (hk : Kept kK k0 kM s) :
    Kept kK k0 kM (State.designGone s q) := by
  unfold State.designGone
  repeat' first | with_reducible assumption | with_reducible apply State.setF_kept (wOff hm rfl) | with_reducible apply Kept.ite | dsimp only | split

theorem State.quietFacet_kept {s : State} {f} (hm : kK &&& 0x380000 = 0)  (hk : Kept kK k0 kM s) :
    Kept kK k0 kM (State.quietFacet s f) := by
  unfold State.quietFacet
  repeat' first | with_reducible assumption | with_reducible apply State.flushBound_kept (wOff hm rfl) | with_reducible apply State.clearSaus_kept (wOff hm rfl) | with_reducible apply State.initFfs_kept (wOff hm rfl) | dsimp only | split

theorem execFacetSwapAt_kept {c} {s : State} (hm : kK &&& 0x8002 = 0)  (hk : Kept kK k0 kM s) :
    KeptR kK k0 kM (execFacetSwapAt c s) := by
  unfold execFacetSwapAt
  repeat' first | with_reducible assumption | with_reducible apply State.long_kept (wOff hm rfl) | with_reducible apply KeptR.next | (intro u hu) | simp only [id] | dsimp only | split

theorem State.finishSwap_kept {s : State} {f} (hm : kK &&& 0x400808006 = 0)  (hk : Kept kK k0 kM s) :
    Kept kK k0 kM (State.finishSwap s f) := by
  unfold State.finishSwap
  repeat' first | with_reducible assumption | with_reducible apply State.complete_kept (wOff hm rfl) | with_reducible apply State.settleHandles_kept (wOff hm rfl) | simp only [Kept.mk_cfg (wOff hm rfl)] | dsimp only | split

theorem State.endInit_kept {s : State} {f} {whole} (hm : kK &&& 0x400d08006 = 0)  (hk : Kept kK k0 kM s) :
    Kept kK k0 kM (State.endInit s f whole) := by
  unfold State.endInit
  repeat' first | with_reducible assumption | with_reducible apply State.lower_kept (wOff hm rfl) | with_reducible apply State.setFacetX_kept (wOff hm rfl) | with_reducible apply State.loadContents_kept (wOff hm rfl) | with_reducible apply State.finishSwap_kept (wOff hm rfl) | with_reducible apply Kept.ite | dsimp only | split

theorem State.swapAt_kept {s0 : State} {f} {o} {edge} (hm : kK &&& 0x410f88206 = 0)  (hk : Kept kK k0 kM s0) :
    Kept kK k0 kM (State.swapAt s0 f o edge) := by
  unfold State.swapAt
  repeat' first | with_reducible assumption | with_reducible apply State.setF_kept (wOff hm rfl) | with_reducible apply State.raise_kept (wOff hm rfl) | with_reducible apply State.setT_kept (wOff hm rfl) | with_reducible apply State.count_kept (wOff hm rfl) | with_reducible apply State.putOp_kept (wOff hm rfl) | with_reducible apply State.complete_kept (wOff hm rfl) | with_reducible apply State.setNi_kept (wOff hm rfl) | with_reducible apply State.setFacetX_kept (wOff hm rfl) | with_reducible apply State.hold_kept (wOff hm rfl) | with_reducible apply State.qcMark_kept (wOff hm rfl) | with_reducible apply State.flushQc_kept (wOff hm rfl) | with_reducible apply State.clearSaus_kept (wOff hm rfl) | with_reducible apply State.initFfs_kept (wOff hm rfl) | with_reducible apply State.clearRequested_kept (wOff hm rfl) | with_reducible apply State.toFacet_kept (wOff hm rfl) | with_reducible apply State.facetMark_kept (wOff hm rfl) | with_reducible apply State.endRegport_kept (wOff hm rfl) | with_reducible apply State.planeActive_kept (wOff hm rfl) | with_reducible apply State.portlessEnd_kept (wOff hm rfl) | with_reducible apply State.endInit_kept (wOff hm rfl) | with_reducible apply Kept.ite | with_reducible refine Kept.foldl ?_ (fun _ _ _ => ?_) | with_reducible refine Kept.foldlIn Prod.snd ?_ (fun _ _ _ => ?_) | with_reducible refine Kept.foldlIn (fun p => p.2.2) ?_ (fun _ _ _ => ?_) | dsimp only | split

theorem State.swapLate_kept {s : State} {f} {o} (hm : kK &&& 0x400048006 = 0)  (hk : Kept kK k0 kM s) :
    Kept kK k0 kM (State.swapLate s f o) := by
  unfold State.swapLate
  repeat' first | with_reducible assumption | with_reducible apply State.journal_kept (wOff hm rfl) | with_reducible apply State.complete_kept (wOff hm rfl) | with_reducible apply Kept.ite | dsimp only | split

theorem execFacetSwapEdge_kept {f} {edge} {s : State} (hm : kK &&& 0x450fc8e06 = 0)  (hk : Kept kK k0 kM s) :
    KeptR kK k0 kM (execFacetSwapEdge f edge s) := by
  unfold execFacetSwapEdge
  repeat' first | with_reducible assumption | with_reducible apply State.putOp_kept (wOff hm rfl) | with_reducible apply State.reachAt_kept (wOff hm rfl) | with_reducible apply State.swapAt_kept (wOff hm rfl) | with_reducible apply State.swapLate_kept (wOff hm rfl) | with_reducible apply Kept.ite | with_reducible apply KeptR.next | dsimp only | split

theorem execFacetSwapTriggerTimeout_kept {f} {s : State} (hm : kK &&& 0x440048c06 = 0)  (hk : Kept kK k0 kM s) :
    KeptR kK k0 kM (execFacetSwapTriggerTimeout f s) := by
  unfold execFacetSwapTriggerTimeout
  repeat' first | with_reducible assumption | with_reducible apply State.reachAt_kept (wOff hm rfl) | with_reducible apply State.swapLate_kept (wOff hm rfl) | with_reducible apply Kept.ite | with_reducible apply KeptR.next | dsimp only | split

theorem execFacetSwapNoEdge_kept {f} {s : State} (hm : kK &&& 0x440048c06 = 0)  (hk : Kept kK k0 kM s) :
    KeptR kK k0 kM (execFacetSwapNoEdge f s) := by
  unfold execFacetSwapNoEdge
  repeat' first | with_reducible assumption | with_reducible apply State.reachAt_kept (wOff hm rfl) | with_reducible apply State.swapLate_kept (wOff hm rfl) | with_reducible apply Kept.ite | with_reducible apply KeptR.next | dsimp only | split

theorem execFacetSwapHoldEnd_kept {f} {s : State} (hm : kK &&& 0x400c88006 = 0)  (hk : Kept kK k0 kM s) :
    KeptR kK k0 kM (execFacetSwapHoldEnd f s) := by
  unfold execFacetSwapHoldEnd
  repeat' first | with_reducible assumption | with_reducible apply State.setFacetX_kept (wOff hm rfl) | with_reducible apply State.unhold_kept (wOff hm rfl) | with_reducible apply State.toFacet_kept (wOff hm rfl) | with_reducible apply State.finishSwap_kept (wOff hm rfl) | with_reducible apply Kept.ite | with_reducible apply KeptR.next | dsimp only | split

theorem execFacetBayInitDone_kept {f} {s : State} (hm : kK &&& 0x400d08006 = 0)  (hk : Kept kK k0 kM s) :
    KeptR kK k0 kM (execFacetBayInitDone f s) := by
  unfold execFacetBayInitDone
  repeat' first | with_reducible assumption | with_reducible apply State.endInit_kept (wOff hm rfl) | with_reducible apply Kept.ite | with_reducible apply KeptR.next | dsimp only | split

theorem State.setHostFence_kept {s : State} {f} {on} (hm : kK &&& 0x400002 = 0)  (hk : Kept kK k0 kM s) :
    Kept kK k0 kM (State.setHostFence s f on) := by
  unfold State.setHostFence
  repeat' first | with_reducible assumption | with_reducible apply State.setB_kept (wOff hm rfl) | with_reducible apply State.setFacetX_kept (wOff hm rfl) | with_reducible apply Kept.ite | dsimp only | split

theorem execFacetFence_kept {c} {s : State} (hm : kK &&& 0x408002 = 0)  (hk : Kept kK k0 kM s) :
    KeptR kK k0 kM (execFacetFence c s) := by
  unfold execFacetFence
  repeat' first | with_reducible assumption | with_reducible apply State.immediate_kept (wOff hm rfl) | with_reducible apply State.setHostFence_kept (wOff hm rfl) | with_reducible apply KeptR.next | (intro u hu) | simp only [id] | dsimp only | split

theorem execFacetFenceQuery_kept {c} {s : State} (hm : kK &&& 0x8000 = 0)  (hk : Kept kK k0 kM s) :
    KeptR kK k0 kM (execFacetFenceQuery c s) := by
  unfold execFacetFenceQuery
  repeat' first | with_reducible assumption | with_reducible refine State.immediate_kept_quiet (wOff hm rfl) (fun _ _ => State.retriesFail_silent (by decide)) ?_ ?_ | with_reducible apply KeptR.next | (intro u hu) | simp only [id] | dsimp only | split

theorem State.planeGone_kept {s : State} {f} (hm : kK &&& 0x10480202 = 0)  (hk : Kept kK k0 kM s) :
    Kept kK k0 kM (State.planeGone s f) := by
  unfold State.planeGone
  repeat' first | with_reducible assumption | with_reducible apply State.invalidate_kept (wOff hm rfl) | with_reducible apply State.regportGone_kept (wOff hm rfl) | with_reducible apply State.designGone_kept (wOff hm rfl) | dsimp only | split

theorem State.beginWrite_kept {s : State} {f} (hm : kK &&& 0x410f88206 = 0)  (hk : Kept kK k0 kM s) :
    Kept kK k0 kM (State.beginWrite s f) := by
  unfold State.beginWrite
  repeat' first | with_reducible assumption | with_reducible apply State.hold_kept (wOff hm rfl) | with_reducible apply State.toFacet_kept (wOff hm rfl) | with_reducible apply State.quietFacet_kept (wOff hm rfl) | with_reducible apply State.endInit_kept (wOff hm rfl) | with_reducible apply State.planeGone_kept (wOff hm rfl) | dsimp only | split

theorem State.rewrite_kept {s : State} {f} {c} (hm : kK &&& 0x410f88206 = 0)  (hk : Kept kK k0 kM s) :
    Kept kK k0 kM (State.rewrite s f c) := by
  unfold State.rewrite
  repeat' first | with_reducible assumption | with_reducible apply State.raise_kept (wOff hm rfl) | with_reducible apply State.setFacetX_kept (wOff hm rfl) | with_reducible apply State.settleHandles_kept (wOff hm rfl) | with_reducible apply State.toFacet_kept (wOff hm rfl) | with_reducible apply State.beginWrite_kept (wOff hm rfl) | with_reducible apply Kept.ite | dsimp only | split

theorem execFacetRewrite_kept {c} {s : State} (hm : kK &&& 0x410f88206 = 0)  (hk : Kept kK k0 kM s) :
    KeptR kK k0 kM (execFacetRewrite c s) := by
  unfold execFacetRewrite
  repeat' first | with_reducible assumption | with_reducible apply State.long_kept (wOff hm rfl) | with_reducible apply State.rewrite_kept (wOff hm rfl) | with_reducible apply KeptR.next | (intro u hu) | simp only [id] | dsimp only | split

theorem State.rewriteDrained_kept {s : State} {f} (hm : kK &&& 0x430fc8206 = 0)  (hk : Kept kK k0 kM s) :
    Kept kK k0 kM (State.rewriteDrained s f) := by
  unfold State.rewriteDrained
  repeat' first | with_reducible assumption | with_reducible apply State.lower_kept (wOff hm rfl) | with_reducible apply State.journal_kept (wOff hm rfl) | with_reducible apply State.putOp_kept (wOff hm rfl) | with_reducible apply State.setFacetX_kept (wOff hm rfl) | with_reducible apply State.facetMark_kept (wOff hm rfl) | with_reducible apply State.endFlight_kept (wOff hm rfl) | with_reducible apply State.beginWrite_kept (wOff hm rfl) | with_reducible apply Kept.ite | dsimp only | split

theorem State.toEmpty_kept {s : State} {f} (hm : kK &&& 0x10480202 = 0)  (hk : Kept kK k0 kM s) :
    Kept kK k0 kM (State.toEmpty s f) := by
  unfold State.toEmpty
  repeat' first | with_reducible assumption | with_reducible apply State.lower_kept (wOff hm rfl) | with_reducible apply State.setFacetX_kept (wOff hm rfl) | with_reducible apply State.toFacet_kept (wOff hm rfl) | with_reducible apply State.planeGone_kept (wOff hm rfl) | dsimp only | split

theorem State.writePassed_kept {s : State} {f} {h} (hm : kK &&& 0x400002 = 0)  (hk : Kept kK k0 kM s) :
    Kept kK k0 kM (State.writePassed s f h) := by
  unfold State.writePassed
  repeat' first | with_reducible assumption | with_reducible apply State.setFacetX_kept (wOff hm rfl) | with_reducible apply State.writePlane_kept (wOff hm rfl) | with_reducible apply State.validate_kept (wOff hm rfl) | dsimp only | split

theorem State.startRelease_kept {s : State} {f} (hm : kK &&& 0x480002 = 0)  (hk : Kept kK k0 kM s) :
    Kept kK k0 kM (State.startRelease s f) := by
  unfold State.startRelease
  repeat' first | with_reducible assumption | with_reducible apply State.setFacetX_kept (wOff hm rfl) | with_reducible apply State.toFacet_kept (wOff hm rfl) | with_reducible apply State.planeActive_kept (wOff hm rfl) | dsimp only | split

theorem State.initBays_kept {s : State} {f} {h} {mode} (hm : kK &&& 0x400100006 = 0)  (hk : Kept kK k0 kM s) :
    Kept kK k0 kM (State.initBays s f h mode) := by
  unfold State.initBays
  repeat' first | with_reducible assumption | with_reducible apply State.clearFacetBays_kept (wOff hm rfl) | with_reducible apply State.loadContents_kept (wOff hm rfl) | with_reducible apply State.clearRequested_kept (wOff hm rfl) | with_reducible apply Kept.ite | dsimp only | split

theorem execFacetWriteDone_kept {f} {fail} {s : State} (hm : kK &&& 0x4105c8206 = 0)  (hk : Kept kK k0 kM s) :
    KeptR kK k0 kM (execFacetWriteDone f fail s) := by
  unfold execFacetWriteDone
  repeat' first | with_reducible assumption | with_reducible apply State.journal_kept (wOff hm rfl) | with_reducible apply State.complete_kept (wOff hm rfl) | with_reducible apply State.settleHandles_kept (wOff hm rfl) | with_reducible apply State.writePlane_kept (wOff hm rfl) | with_reducible apply State.toEmpty_kept (wOff hm rfl) | with_reducible apply State.writePassed_kept (wOff hm rfl) | with_reducible apply State.startRelease_kept (wOff hm rfl) | with_reducible apply State.initBays_kept (wOff hm rfl) | with_reducible apply Kept.ite | with_reducible apply KeptR.next | dsimp only | split

theorem State.finishApply_kept {s : State} {a} {st} {done} (hm : kK &&& 0x400808006 = 0)  (hk : Kept kK k0 kM s) :
    Kept kK k0 kM (State.finishApply s a st done) := by
  unfold State.finishApply
  repeat' first | with_reducible assumption | with_reducible apply State.completeOf_kept (wOff hm rfl) | with_reducible apply State.cfgMark_kept (wOff hm rfl) | with_reducible apply State.settleHandles_kept (wOff hm rfl) | with_reducible apply Kept.ite | with_reducible refine Kept.foldl ?_ (fun _ _ _ => ?_) | with_reducible refine Kept.foldlIn Prod.snd ?_ (fun _ _ _ => ?_) | with_reducible refine Kept.foldlIn (fun p => p.2.2) ?_ (fun _ _ _ => ?_) | simp only [Kept.mk_cfg (wOff hm rfl)] | dsimp only | split

theorem execFacetReleaseStage_kept {f} {s : State} (hm : kK &&& 0x400c88006 = 0)  (hk : Kept kK k0 kM s) :
    KeptR kK k0 kM (execFacetReleaseStage f s) := by
  unfold execFacetReleaseStage
  repeat' first | with_reducible assumption | with_reducible apply State.complete_kept (wOff hm rfl) | with_reducible apply State.setFacetX_kept (wOff hm rfl) | with_reducible apply State.unhold_kept (wOff hm rfl) | with_reducible apply State.settleHandles_kept (wOff hm rfl) | with_reducible apply State.toFacet_kept (wOff hm rfl) | with_reducible apply State.finishApply_kept (wOff hm rfl) | with_reducible apply Kept.ite | with_reducible apply KeptR.next | dsimp only | split

theorem State.rewriteTimeout_kept {s : State} {f} {o} (hm : kK &&& 0x4107c8206 = 0)  (hk : Kept kK k0 kM s) :
    Kept kK k0 kM (State.rewriteTimeout s f o) := by
  unfold State.rewriteTimeout
  repeat' first | with_reducible assumption | with_reducible apply State.journal_kept (wOff hm rfl) | with_reducible apply State.complete_kept (wOff hm rfl) | with_reducible apply State.hold_kept (wOff hm rfl) | with_reducible apply State.settleHandles_kept (wOff hm rfl) | with_reducible apply State.quietFacet_kept (wOff hm rfl) | with_reducible apply State.toEmpty_kept (wOff hm rfl) | dsimp only | split

theorem State.resetFacet_kept {s : State} {f} (hm : kK &&& 0x780002 = 0)  (hk : Kept kK k0 kM s) :
    Kept kK k0 kM (State.resetFacet s f) := by
  unfold State.resetFacet
  repeat' first | with_reducible assumption | with_reducible apply State.setFacetX_kept (wOff hm rfl) | with_reducible apply State.hold_kept (wOff hm rfl) | with_reducible apply State.quietFacet_kept (wOff hm rfl) | dsimp only | split

theorem execFacetResetRelease_kept {f} {s : State} (hm : kK &&& 0x400480006 = 0)  (hk : Kept kK k0 kM s) :
    KeptR kK k0 kM (execFacetResetRelease f s) := by
  unfold execFacetResetRelease
  repeat' first | with_reducible assumption | with_reducible apply State.setFacetX_kept (wOff hm rfl) | with_reducible apply State.unhold_kept (wOff hm rfl) | with_reducible apply Kept.ite | with_reducible apply KeptR.next | dsimp only | split

theorem State.facetLost_kept {s : State} {f} (hm : kK &&& 0x410f88206 = 0)  (hk : Kept kK k0 kM s) :
    Kept kK k0 kM (State.facetLost s f) := by
  unfold State.facetLost
  repeat' first | with_reducible assumption | with_reducible apply State.lower_kept (wOff hm rfl) | with_reducible apply State.setFacetX_kept (wOff hm rfl) | with_reducible apply State.hold_kept (wOff hm rfl) | with_reducible apply State.clearFacetBays_kept (wOff hm rfl) | with_reducible apply State.settleHandles_kept (wOff hm rfl) | with_reducible apply State.invalidate_kept (wOff hm rfl) | with_reducible apply State.toFacet_kept (wOff hm rfl) | with_reducible apply State.regportGone_kept (wOff hm rfl) | with_reducible apply State.designGone_kept (wOff hm rfl) | with_reducible apply State.quietFacet_kept (wOff hm rfl) | with_reducible apply State.endInit_kept (wOff hm rfl) | simp only [Kept.mk_fac_cfg (wOff hm rfl)] | dsimp only | split

theorem State.facetPowered_kept {s : State} {f} (hm : kK &&& 0x2 = 0)  (hk : Kept kK k0 kM s) :
    Kept kK k0 kM (State.facetPowered s f) := by
  unfold State.facetPowered
  repeat' first | with_reducible assumption | with_reducible apply State.lower_kept (wOff hm rfl) | with_reducible apply State.toFacet_kept (wOff hm rfl) | dsimp only | split

theorem State.facetStop_kept {s : State} {f} (hm : kK &&& 0x80002 = 0)  (hk : Kept kK k0 kM s) :
    Kept kK k0 kM (State.facetStop s f) := by
  unfold State.facetStop
  repeat' first | with_reducible assumption | with_reducible apply State.hold_kept (wOff hm rfl) | with_reducible apply State.toFacet_kept (wOff hm rfl) | with_reducible apply Kept.ite | dsimp only | split

theorem State.facetResume_kept {s : State} {f} (hm : kK &&& 0x400002 = 0)  (hk : Kept kK k0 kM s) :
    Kept kK k0 kM (State.facetResume s f) := by
  unfold State.facetResume
  repeat' first | with_reducible assumption | with_reducible apply State.setFacetX_kept (wOff hm rfl) | with_reducible apply State.toFacet_kept (wOff hm rfl) | dsimp only | split

theorem State.facetResumed_kept {s : State} {f} (hm : kK &&& 0x400480006 = 0)  (hk : Kept kK k0 kM s) :
    Kept kK k0 kM (State.facetResumed s f) := by
  unfold State.facetResumed
  repeat' first | with_reducible assumption | with_reducible apply State.setFacetX_kept (wOff hm rfl) | with_reducible apply State.unhold_kept (wOff hm rfl) | with_reducible apply Kept.ite | dsimp only | split

end Sys2Proof.Machine
end

