-- ==== Sys2Proof/Laws/KeptStreams.lean ====
section
/-! SUPPORT. The operations of Sys2Proof/Machine/Streams.lean leave alone what `Kept` names. -/
namespace Sys2Proof.Machine
set_option linter.unusedSimpArgs false
set_option linter.unusedVariables false
variable {kK : Nat} {k0 : State} {kM : List Host.Cell → Prop}

theorem State.stage_kept {s : State} {c} (hm : kK &&& 0x401c08016 = 0) (hM : Closed kM)  (hk : Kept kK k0 kM s) :
    Kept kK k0 kM (State.stage s c) := by
  unfold State.stage
  repeat' first | with_reducible assumption | with_reducible apply State.setF_kept (wOff hm rfl) | with_reducible apply State.completeOf_kept (wOff hm rfl) | with_reducible apply State.setHandle_kept (wOff hm rfl) | with_reducible apply State.openRegion_kept (wOff hm rfl) | with_reducible apply State.eraseHandle_kept (wOff hm rfl) hM | with_reducible apply Kept.ite | dsimp only | split

theorem execCfgStage_kept {c} {s : State} (hm : kK &&& 0x401c08016 = 0) (hM : Closed kM)  (hk : Kept kK k0 kM s) :
    KeptR kK k0 kM (execCfgStage c s) := by
  unfold execCfgStage
  repeat' first | with_reducible assumption | with_reducible apply State.long_kept (wOff hm rfl) | with_reducible apply State.stage_kept (wOff hm rfl) hM | with_reducible apply KeptR.next | (intro u hu) | simp only [id] | dsimp only | split

theorem State.failStage_kept {s : State} {h} {o} {st} (hm : kK &&& 0x401c08016 = 0) (hM : Closed kM)  (hk : Kept kK k0 kM s) :
    Kept kK k0 kM (State.failStage s h o st) := by
  unfold State.failStage
  repeat' first | with_reducible assumption | with_reducible apply State.complete_kept (wOff hm rfl) | with_reducible apply State.cfgMark_kept (wOff hm rfl) | with_reducible apply State.eraseHandle_kept (wOff hm rfl) hM | with_reducible apply Kept.ite | dsimp only | split

theorem State.stagedLines_kept {s : State} {a} {n} (hm : kK &&& 0x1000002 = 0)  (hk : Kept kK k0 kM s) :
    Kept kK k0 kM (State.stagedLines s a n) := by
  unfold State.stagedLines
  repeat' first | with_reducible assumption | with_reducible apply State.wroteLines_kept (wOff hm rfl) | with_reducible apply Kept.ite | with_reducible refine Kept.foldl ?_ (fun _ _ _ => ?_) | with_reducible refine Kept.foldlIn Prod.snd ?_ (fun _ _ _ => ?_) | with_reducible refine Kept.foldlIn (fun p => p.2.2) ?_ (fun _ _ _ => ?_) | dsimp only | split

theorem State.stageStore_kept {s : State} {h} {bs} (hm : kK &&& 0x201800012 = 0) (hM : Closed kM)  (hk : Kept kK k0 kM s) :
    Kept kK k0 kM (State.stageStore s h bs) := by
  unfold State.stageStore
  repeat' first | with_reducible assumption | with_reducible apply State.store_kept (wOff hm rfl) hM | with_reducible apply State.setHandle_kept (wOff hm rfl) | with_reducible apply State.stagedLines_kept (wOff hm rfl) | dsimp only | split

theorem State.stageRest_kept {s : State} {h} {o} {bs} (hm : kK &&& 0x601c08016 = 0) (hM : Closed kM)  (hk : Kept kK k0 kM s) :
    Kept kK k0 kM (State.stageRest s h o bs) := by
  unfold State.stageRest
  repeat' first | with_reducible assumption | with_reducible apply State.setF_kept (wOff hm rfl) | with_reducible apply State.complete_kept (wOff hm rfl) | with_reducible apply State.failStage_kept (wOff hm rfl) hM | with_reducible apply State.stageStore_kept (wOff hm rfl) hM | with_reducible apply Kept.ite | dsimp only | split

theorem State.stageBytes_kept {s : State} {h} {o} {bs0} (hm : kK &&& 0x601c08016 = 0) (hM : Closed kM)  (hk : Kept kK k0 kM s) :
    Kept kK k0 kM (State.stageBytes s h o bs0) := by
  unfold State.stageBytes
  repeat' first | with_reducible assumption | with_reducible apply State.setF_kept (wOff hm rfl) | with_reducible apply State.failStage_kept (wOff hm rfl) hM | with_reducible apply State.stageStore_kept (wOff hm rfl) hM | with_reducible apply State.stageRest_kept (wOff hm rfl) hM | with_reducible apply Kept.ite | dsimp only | split

theorem bytesRead_kept {r} (hm : kK &&& 0x0 = 0)   (hr : Kept kK k0 kM r.2) :
    Kept kK k0 kM (bytesRead r).2 := by
  exact hr

theorem State.readFrom_kept {s : State} {sel} {a} {k} {peer} (hm : kK &&& 0x401040006 = 0)  (hk : Kept kK k0 kM s) :
    Kept kK k0 kM (State.readFrom s sel a k peer).2 := by
  unfold State.readFrom
  refine Kept.iteIn Prod.snd (α := Option (List Byte) × State) ?_ (Kept.iteIn Prod.snd (α := Option (List Byte) × State) (Kept.snd2 hk) (Kept.iteIn Prod.snd (α := Option (List Byte) × State) (Kept.snd2 hk) (Kept.snd2 hk)))
  exact Kept.iteIn Prod.snd (α := Option (List Byte) × State) (bytesRead_kept (wOff hm rfl) (State.fmRead_kept (wOff hm rfl) hk)) (Kept.snd2 hk)

theorem State.stageRead_kept {s : State} {h} {o} {n} {peer} (hm : kK &&& 0x401040006 = 0)  (hk : Kept kK k0 kM s) :
    Kept kK k0 kM (State.stageRead s h o n peer).2 := by
  exact State.readFrom_kept (wOff hm rfl) hk

theorem execCfgStageData_kept {h} {n} {peer} {err} {refused} {s : State} (hm : kK &&& 0x601c48016 = 0) (hM : Closed kM)  (hk : Kept kK k0 kM s) :
    KeptR kK k0 kM (execCfgStageData h n peer err refused s) := by
  unfold execCfgStageData
  repeat' first | with_reducible assumption | with_reducible apply State.eraseHandle_kept (wOff hm rfl) hM | with_reducible apply State.failStage_kept (wOff hm rfl) hM | with_reducible apply State.stageBytes_kept (wOff hm rfl) hM | with_reducible apply State.stageRead_kept (wOff hm rfl) | with_reducible apply Kept.ite | with_reducible apply KeptR.next | (refine Kept.sndEq (x := (State.stageRead _ _ _ _ _)) (by assumption) ?_) | dsimp only | split

theorem execCfgStageTimeout_kept {h} {s : State} (hm : kK &&& 0x401c08016 = 0) (hM : Closed kM)  (hk : Kept kK k0 kM s) :
    KeptR kK k0 kM (execCfgStageTimeout h s) := by
  unfold execCfgStageTimeout
  repeat' first | with_reducible assumption | with_reducible apply State.eraseHandle_kept (wOff hm rfl) hM | with_reducible apply State.failStage_kept (wOff hm rfl) hM | with_reducible apply Kept.ite | with_reducible apply KeptR.next | dsimp only | split

theorem State.push_kept {s : State} {v} (hm : kK &&& 0x601c08016 = 0) (hM : Closed kM)  (hk : Kept kK k0 kM s) :
    Kept kK k0 kM (State.push s v) := by
  unfold State.push
  repeat' first | with_reducible assumption | with_reducible apply State.cfgMark_kept (wOff hm rfl) | with_reducible apply State.stageBytes_kept (wOff hm rfl) hM | dsimp only | split

theorem execCfgPush_kept {m} {v} {s : State} (hm : kK &&& 0x601c08216 = 0) (hM : Closed kM)  (hk : Kept kK k0 kM s) :
    KeptR kK k0 kM (execCfgPush m v s) := by
  unfold execCfgPush
  repeat' first | with_reducible assumption | with_reducible apply State.ownWrite_kept (wOff hm rfl) | with_reducible apply State.push_kept (wOff hm rfl) hM | with_reducible apply KeptR.next | (intro u hu) | simp only [id] | dsimp only | split

theorem execCfgVerify_kept {c} {s : State} (hm : kK &&& 0x8002 = 0)  (hk : Kept kK k0 kM s) :
    KeptR kK k0 kM (execCfgVerify c s) := by
  unfold execCfgVerify
  repeat' first | with_reducible assumption | with_reducible apply State.setF_kept (wOff hm rfl) | with_reducible apply State.long_kept (wOff hm rfl) | with_reducible apply KeptR.next | (intro u hu) | simp only [id] | dsimp only | split

theorem State.failVerify_kept {s : State} {h} {o} {st} (hm : kK &&& 0x401c08016 = 0) (hM : Closed kM)  (hk : Kept kK k0 kM s) :
    Kept kK k0 kM (State.failVerify s h o st) := by
  unfold State.failVerify
  repeat' first | with_reducible assumption | with_reducible apply State.complete_kept (wOff hm rfl) | with_reducible apply State.cfgMark_kept (wOff hm rfl) | with_reducible apply State.eraseHandle_kept (wOff hm rfl) hM | with_reducible apply Kept.ite | dsimp only | split

theorem execCfgVerifyCompletion_kept {h} {s : State} (hm : kK &&& 0x601c08016 = 0) (hM : Closed kM)  (hk : Kept kK k0 kM s) :
    KeptR kK k0 kM (execCfgVerifyCompletion h s) := by
  unfold execCfgVerifyCompletion
  repeat' first | with_reducible assumption | with_reducible apply State.setF_kept (wOff hm rfl) | with_reducible apply State.store_kept (wOff hm rfl) hM | with_reducible apply State.complete_kept (wOff hm rfl) | with_reducible apply State.eraseHandle_kept (wOff hm rfl) hM | with_reducible apply State.failVerify_kept (wOff hm rfl) hM | with_reducible apply Kept.ite | with_reducible apply KeptR.next | dsimp only | split

theorem State.beginLoad_kept {s : State} {mirror} {f} (hm : kK &&& 0x410f88206 = 0)  (hk : Kept kK k0 kM s) :
    Kept kK k0 kM (State.beginLoad s mirror f) := by
  unfold State.beginLoad
  repeat' first | with_reducible assumption | with_reducible apply State.invalidate_kept (wOff hm rfl) | with_reducible apply State.beginWrite_kept (wOff hm rfl) | with_reducible apply Kept.ite | simp only [Kept.mk_fac_cfg (wOff hm rfl)] | dsimp only | split

theorem State.putApply_kept {s : State} {a} (hm : kK &&& 0x800000 = 0)  (hk : Kept kK k0 kM s) :
    Kept kK k0 kM (State.putApply s a) := by
  unfold State.putApply
  repeat' first | with_reducible assumption | with_reducible apply Kept.ite | simp only [Kept.mk_cfg (wOff hm rfl)] | dsimp only | split

theorem State.apply_kept {s : State} {c} (hm : kK &&& 0x410f88206 = 0)  (hk : Kept kK k0 kM s) :
    Kept kK k0 kM (State.apply s c) := by
  unfold State.apply
  repeat' first | with_reducible assumption | with_reducible apply State.setF_kept (wOff hm rfl) | with_reducible apply State.raise_kept (wOff hm rfl) | with_reducible apply State.settleHandles_kept (wOff hm rfl) | with_reducible apply State.beginLoad_kept (wOff hm rfl) | with_reducible apply Kept.ite | with_reducible refine Kept.foldl ?_ (fun _ _ _ => ?_) | with_reducible refine Kept.foldlIn Prod.snd ?_ (fun _ _ _ => ?_) | with_reducible refine Kept.foldlIn (fun p => p.2.2) ?_ (fun _ _ _ => ?_) | simp only [Kept.mk_cfg (wOff hm rfl)] | dsimp only | split

theorem execCfgApply_kept {c} {s : State} (hm : kK &&& 0x410f88206 = 0)  (hk : Kept kK k0 kM s) :
    KeptR kK k0 kM (execCfgApply c s) := by
  unfold execCfgApply
  repeat' first | with_reducible assumption | with_reducible apply State.long_kept (wOff hm rfl) | with_reducible apply State.apply_kept (wOff hm rfl) | with_reducible apply KeptR.next | (intro u hu) | simp only [id] | dsimp only | split

theorem State.abortLoad_kept {s : State} {a} {f} (hm : kK &&& 0x4107c0206 = 0)  (hk : Kept kK k0 kM s) :
    Kept kK k0 kM (State.abortLoad s a f) := by
  unfold State.abortLoad
  repeat' first | with_reducible assumption | with_reducible apply State.journal_kept (wOff hm rfl) | with_reducible apply State.hold_kept (wOff hm rfl) | with_reducible apply State.quietFacet_kept (wOff hm rfl) | with_reducible apply State.toEmpty_kept (wOff hm rfl) | with_reducible apply Kept.ite | dsimp only | split

theorem State.stopApply_kept {s : State} {a} {st} (hm : kK &&& 0x410fc8206 = 0)  (hk : Kept kK k0 kM s) :
    Kept kK k0 kM (State.stopApply s a st) := by
  unfold State.stopApply
  repeat' first | with_reducible assumption | with_reducible apply State.invalidate_kept (wOff hm rfl) | with_reducible apply State.finishApply_kept (wOff hm rfl) | with_reducible apply State.abortLoad_kept (wOff hm rfl) | with_reducible apply Kept.ite | with_reducible refine Kept.foldl ?_ (fun _ _ _ => ?_) | with_reducible refine Kept.foldlIn Prod.snd ?_ (fun _ _ _ => ?_) | with_reducible refine Kept.foldlIn (fun p => p.2.2) ?_ (fun _ _ _ => ?_) | dsimp only | split

theorem State.loadPassed_kept {s : State} {a} {f} (hm : kK &&& 0x400d00006 = 0)  (hk : Kept kK k0 kM s) :
    Kept kK k0 kM (State.loadPassed s a f) := by
  unfold State.loadPassed
  repeat' first | with_reducible assumption | with_reducible apply State.writePlane_kept (wOff hm rfl) | with_reducible apply State.validate_kept (wOff hm rfl) | with_reducible apply State.writePassed_kept (wOff hm rfl) | with_reducible apply State.initBays_kept (wOff hm rfl) | with_reducible apply Kept.ite | simp only [Kept.mk_cfg (wOff hm rfl)] | dsimp only | split

theorem execCfgApplyWriteDone_kept {f} {rewritten} {fail} {s : State} (hm : kK &&& 0x410fc8206 = 0)  (hk : Kept kK k0 kM s) :
    KeptR kK k0 kM (execCfgApplyWriteDone f rewritten fail s) := by
  unfold execCfgApplyWriteDone
  repeat' first | with_reducible assumption | with_reducible apply State.journal_kept (wOff hm rfl) | with_reducible apply State.startRelease_kept (wOff hm rfl) | with_reducible apply State.finishApply_kept (wOff hm rfl) | with_reducible apply State.beginLoad_kept (wOff hm rfl) | with_reducible apply State.putApply_kept (wOff hm rfl) | with_reducible apply State.stopApply_kept (wOff hm rfl) | with_reducible apply State.loadPassed_kept (wOff hm rfl) | with_reducible apply Kept.ite | with_reducible apply KeptR.next | with_reducible refine Kept.foldl ?_ (fun _ _ _ => ?_) | with_reducible refine Kept.foldlIn Prod.snd ?_ (fun _ _ _ => ?_) | with_reducible refine Kept.foldlIn (fun p => p.2.2) ?_ (fun _ _ _ => ?_) | dsimp only | split

theorem State.loseHandle_kept {s : State} {h} (hm : kK &&& 0x411fc8216 = 0) (hM : Closed kM)  (hk : Kept kK k0 kM s) :
    Kept kK k0 kM (State.loseHandle s h) := by
  unfold State.loseHandle
  repeat' first | with_reducible assumption | with_reducible apply State.complete_kept (wOff hm rfl) | with_reducible apply State.eraseHandle_kept (wOff hm rfl) hM | with_reducible apply State.stopApply_kept (wOff hm rfl) | with_reducible refine Kept.foldl ?_ (fun _ _ _ => ?_) | with_reducible refine Kept.foldlIn Prod.snd ?_ (fun _ _ _ => ?_) | with_reducible refine Kept.foldlIn (fun p => p.2.2) ?_ (fun _ _ _ => ?_) | dsimp only | split

theorem State.scrubMark_kept {s : State} {q} {f} (hm : kK &&& 0x400000006 = 0)  (hk : Kept kK k0 kM s) :
    Kept kK k0 kM (State.scrubMark s q f) := by
  unfold State.scrubMark
  repeat' first | with_reducible assumption | with_reducible apply State.mark_kept (wOff hm rfl) | dsimp only | split

theorem State.scrubCount_kept {s : State} {q} {f} (hm : kK &&& 0x400000006 = 0)  (hk : Kept kK k0 kM s) :
    Kept kK k0 kM (State.scrubCount s q f) := by
  unfold State.scrubCount
  repeat' first | with_reducible assumption | with_reducible apply State.count_kept (wOff hm rfl) | dsimp only | split

theorem State.alterFword_kept {s : State} {f} {p} {fr} {w} {v} (hm : kK &&& 0x480000 = 0)  (hk : Kept kK k0 kM s) :
    Kept kK k0 kM (State.alterFword s f p fr w v) := by
  unfold State.alterFword
  repeat' first | with_reducible assumption | with_reducible apply State.setFword_kept (wOff hm rfl) | with_reducible apply State.setFf_kept (wOff hm rfl) | with_reducible apply State.refreshCfg_kept (wOff hm rfl) | with_reducible apply Kept.ite | with_reducible refine Kept.foldl ?_ (fun _ _ _ => ?_) | with_reducible refine Kept.foldlIn Prod.snd ?_ (fun _ _ _ => ?_) | with_reducible refine Kept.foldlIn (fun p => p.2.2) ?_ (fun _ _ _ => ?_) | dsimp only | split

theorem State.alterFrame_kept {s : State} {f} {p} {fr} {bits} (hm : kK &&& 0x480000 = 0)  (hk : Kept kK k0 kM s) :
    Kept kK k0 kM (State.alterFrame s f p fr bits) := by
  unfold State.alterFrame
  repeat' first | with_reducible assumption | with_reducible apply State.setFword_kept (wOff hm rfl) | with_reducible apply State.alterFword_kept (wOff hm rfl) | with_reducible refine Kept.foldl ?_ (fun _ _ _ => ?_) | with_reducible refine Kept.foldlIn Prod.snd ?_ (fun _ _ _ => ?_) | with_reducible refine Kept.foldlIn (fun p => p.2.2) ?_ (fun _ _ _ => ?_) | dsimp only | split

theorem State.frameMend_kept {s : State} {f} {p} {fr} {outcome} {w} {b} (hm : kK &&& 0x480002 = 0)  (hk : Kept kK k0 kM s) :
    Kept kK k0 kM (State.frameMend s f p fr outcome w b) := by
  unfold State.frameMend
  repeat' first | with_reducible assumption | with_reducible apply State.setFword_kept (wOff hm rfl) | with_reducible apply State.invalidate_kept (wOff hm rfl) | with_reducible apply State.alterFword_kept (wOff hm rfl) | with_reducible apply State.alterFrame_kept (wOff hm rfl) | with_reducible apply Kept.ite | with_reducible refine Kept.foldl ?_ (fun _ _ _ => ?_) | with_reducible refine Kept.foldlIn Prod.snd ?_ (fun _ _ _ => ?_) | with_reducible refine Kept.foldlIn (fun p => p.2.2) ?_ (fun _ _ _ => ?_) | dsimp only | split

theorem State.frameOutcome_kept {s : State} {f} {p} {fr} {outcome} {w} {b} {ess} {stuck} (hm : kK &&& 0x400440006 = 0)  (hk : Kept kK k0 kM s) :
    Kept kK k0 kM (State.frameOutcome s f p fr outcome w b ess stuck) := by
  unfold State.frameOutcome
  repeat' first | with_reducible assumption | with_reducible apply State.setF_kept (wOff hm rfl) | with_reducible apply State.setB_kept (wOff hm rfl) | with_reducible apply State.journal_kept (wOff hm rfl) | with_reducible apply State.setMarked_kept (wOff hm rfl) | with_reducible apply State.invalidateOnly_kept (wOff hm rfl) | with_reducible apply State.scrubMark_kept (wOff hm rfl) | with_reducible apply State.scrubCount_kept (wOff hm rfl) | with_reducible apply Kept.ite | simp only [Kept.mk_fac (wOff hm rfl)] | dsimp only | split

theorem State.checkFrame_kept {s : State} {f} {p} {fr} {hits} {stuck} (hm : kK &&& 0x4004c8006 = 0)  (hk : Kept kK k0 kM s) :
    Kept kK k0 kM (State.checkFrame s f p fr hits stuck) := by
  unfold State.checkFrame
  repeat' first | with_reducible assumption | with_reducible apply State.facetMark_kept (wOff hm rfl) | with_reducible apply State.endSwap_kept (wOff hm rfl) | with_reducible apply State.alterFword_kept (wOff hm rfl) | with_reducible apply State.frameMend_kept (wOff hm rfl) | with_reducible apply State.frameOutcome_kept (wOff hm rfl) | with_reducible apply Kept.ite | with_reducible refine Kept.foldl ?_ (fun _ _ _ => ?_) | with_reducible refine Kept.foldlIn Prod.snd ?_ (fun _ _ _ => ?_) | with_reducible refine Kept.foldlIn (fun p => p.2.2) ?_ (fun _ _ _ => ?_) | dsimp only | split

theorem execScrubFrameCheck_kept {q} {hits} {stuck} {s : State} (hm : kK &&& 0x4004c8006 = 0)  (hk : Kept kK k0 kM s) :
    KeptR kK k0 kM (execScrubFrameCheck q hits stuck s) := by
  unfold execScrubFrameCheck
  repeat' first | with_reducible assumption | with_reducible apply State.scrubMark_kept (wOff hm rfl) | with_reducible apply State.scrubCount_kept (wOff hm rfl) | with_reducible apply State.checkFrame_kept (wOff hm rfl) | with_reducible apply Kept.ite | with_reducible apply KeptR.next | simp only [Kept.mk_fac (wOff hm rfl)] | dsimp only | split

theorem execScrubCtl_kept {c} {s : State} (hm : kK &&& 0x8002 = 0)  (hk : Kept kK k0 kM s) :
    KeptR kK k0 kM (execScrubCtl c s) := by
  unfold execScrubCtl
  repeat' first | with_reducible assumption | with_reducible apply State.setF_kept (wOff hm rfl) | with_reducible apply State.immediate_kept (wOff hm rfl) | with_reducible apply Kept.ite | with_reducible apply KeptR.next | (intro u hu) | simp only [id] | dsimp only | split

theorem execScrubCtlQuery_kept {c} {s : State} (hm : kK &&& 0x8000 = 0)  (hk : Kept kK k0 kM s) :
    KeptR kK k0 kM (execScrubCtlQuery c s) := by
  unfold execScrubCtlQuery
  repeat' first | with_reducible assumption | with_reducible refine State.immediate_kept_quiet (wOff hm rfl) (fun _ _ => State.retriesFail_silent (by decide)) ?_ ?_ | with_reducible apply KeptR.next | (intro u hu) | simp only [id] | dsimp only | split

theorem State.setSlot_kept {s : State} {k} {key} (hm : kK &&& 0x100800002 = 0)  (hk : Kept kK k0 kM s) :
    Kept kK k0 kM (State.setSlot s k key) := by
  unfold State.setSlot
  repeat' first | with_reducible assumption | with_reducible apply State.setF_kept (wOff hm rfl) | with_reducible refine Kept.foldl ?_ (fun _ _ _ => ?_) | with_reducible refine Kept.foldlIn Prod.snd ?_ (fun _ _ _ => ?_) | with_reducible refine Kept.foldlIn (fun p => p.2.2) ?_ (fun _ _ _ => ?_) | simp only [Kept.mk_cfg_lat (wOff hm rfl)] | dsimp only | split

theorem execKeyLoad_kept {c} {s : State} (hm : kK &&& 0x8000 = 0)  (hk : Kept kK k0 kM s) :
    KeptR kK k0 kM (execKeyLoad c s) := by
  unfold execKeyLoad
  repeat' first | with_reducible assumption | refine State.long_kept_quiet (wOff hm rfl) (fun h _ => State.retriesFail_dieC (Cmd.aims_dieC h) (by decide)) ?_ ?_ | with_reducible apply KeptR.next | (intro u hu) | simp only [id] | dsimp only | split

theorem State.blobBytes_kept {s : State} {a} {es} (hm : kK &&& 0x401040006 = 0)  (hk : Kept kK k0 kM s) :
    Kept kK k0 kM (State.blobBytes s a es).2 := by
  exact Kept.iteIn Prod.snd (α := Option (List Byte) × State) (bytesRead_kept (wOff hm rfl) (State.fmRead_kept (wOff hm rfl) hk)) (Kept.snd2 hk)

theorem State.keyLoadEnd_kept {s : State} {o} {k} (hm : kK &&& 0x500808006 = 0)  (hk : Kept kK k0 kM s) :
    Kept kK k0 kM (State.keyLoadEnd s o k) := by
  unfold State.keyLoadEnd
  cases k with
  | ok k => exact State.complete_kept (wOff hm rfl) (State.setSlot_kept (wOff hm rfl) hk)
  | error st => exact State.complete_kept (wOff hm rfl) (State.mark_kept (wOff hm rfl) hk)

theorem State.keyBlobRead_kept {s : State} {o} {r} (hm : kK &&& 0x500808006 = 0)  (hk : Kept kK k0 kM s) (hr : Kept kK k0 kM r.2) :
    Kept kK k0 kM (State.keyBlobRead s o r) := by
  unfold State.keyBlobRead
  cases r.1 with
  | none => exact State.complete_kept (wOff hm rfl) hr
  | some b => exact State.keyLoadEnd_kept (wOff hm rfl) hr

theorem execKeyLoadCompletion_kept {es} {s : State} (hm : kK &&& 0x501848006 = 0)  (hk : Kept kK k0 kM s) :
    KeptR kK k0 kM (execKeyLoadCompletion es s) := by
  unfold execKeyLoadCompletion
  refine KeptR.next ?_
  split
  · exact hk
  · exact State.keyBlobRead_kept (wOff hm rfl) hk (State.blobBytes_kept (wOff hm rfl) hk)

end Sys2Proof.Machine
end

