-- ==== Sys2Proof/Laws/KeptCue.lean ====
section
/-! SUPPORT. The operations of Sys2Proof/Machine/Cue.lean leave alone what `Kept` names. -/
namespace Sys2Proof.Machine
set_option linter.unusedSimpArgs false
set_option linter.unusedVariables false
variable {kK : Nat} {k0 : State} {kM : List Host.Cell → Prop}

theorem State.cueMark_kept {s : State} {n} {f} (hm : kK &&& 0x400000006 = 0)  (hk : Kept kK k0 kM s) :
    Kept kK k0 kM (State.cueMark s n f) := by
  unfold State.cueMark
  repeat' first | with_reducible assumption | with_reducible apply State.mark_kept (wOff hm rfl) | dsimp only | split

theorem State.setWdt_kept {s : State} {n} {v} (hm : kK &&& 0x200000000 = 0)  (hk : Kept kK k0 kM s) :
    Kept kK k0 kM (State.setWdt s n v) := by
  unfold State.setWdt
  repeat' first | with_reducible assumption | with_reducible apply State.setCueX_kept (wOff hm rfl) | dsimp only | split

theorem State.loadWdt_kept {s : State} {n} (hm : kK &&& 0x200000000 = 0)  (hk : Kept kK k0 kM s) :
    Kept kK k0 kM (State.loadWdt s n) := by
  unfold State.loadWdt
  repeat' first | with_reducible assumption | with_reducible apply State.setWdt_kept (wOff hm rfl) | dsimp only | split

theorem State.toCue_kept {s : State} {n} {v} (hm : kK &&& 0x600000006 = 0)  (hk : Kept kK k0 kM s) :
    Kept kK k0 kM (State.toCue s n v) := by
  unfold State.toCue
  repeat' first | with_reducible assumption | with_reducible apply State.setF_kept (wOff hm rfl) | with_reducible apply State.tracePacket_kept (wOff hm rfl) | with_reducible apply State.signal_kept (wOff hm rfl) | with_reducible apply State.setCueX_kept (wOff hm rfl) | with_reducible apply Kept.ite | dsimp only | split

theorem State.mbMark_kept {s : State} {i} {f} (hm : kK &&& 0x400000006 = 0)  (hk : Kept kK k0 kM s) :
    Kept kK k0 kM (State.mbMark s i f) := by
  unfold State.mbMark
  repeat' first | with_reducible assumption | with_reducible apply State.mark_kept (wOff hm rfl) | dsimp only | split

theorem State.agentReset_kept {s : State} {a} (hm : kK &&& 0x400000006 = 0)  (hk : Kept kK k0 kM s) :
    Kept kK k0 kM (State.agentReset s a) := by
  unfold State.agentReset
  repeat' first | with_reducible assumption | with_reducible apply State.setF_kept (wOff hm rfl) | with_reducible apply State.mbMark_kept (wOff hm rfl) | with_reducible apply Kept.ite | with_reducible refine Kept.foldl ?_ (fun _ _ _ => ?_) | with_reducible refine Kept.foldlIn Prod.snd ?_ (fun _ _ _ => ?_) | with_reducible refine Kept.foldlIn (fun p => p.2.2) ?_ (fun _ _ _ => ?_) | dsimp only | split

theorem State.resetCue_kept {s : State} {n} (hm : kK &&& 0x600000006 = 0)  (hk : Kept kK k0 kM s) :
    Kept kK k0 kM (State.resetCue s n) := by
  unfold State.resetCue
  repeat' first | with_reducible assumption | with_reducible apply State.lower_kept (wOff hm rfl) | with_reducible apply State.setCueX_kept (wOff hm rfl) | with_reducible apply State.agentReset_kept (wOff hm rfl) | dsimp only | split

theorem State.setCueReg_kept {s : State} {n} {r} {v} (hm : kK &&& 0x200000000 = 0)  (hk : Kept kK k0 kM s) :
    Kept kK k0 kM (State.setCueReg s n r v) := by
  unfold State.setCueReg
  repeat' first | with_reducible assumption | with_reducible apply State.setCueX_kept (wOff hm rfl) | dsimp only | split

theorem State.startCue_kept {s : State} {n} (hm : kK &&& 0x600000006 = 0)  (hk : Kept kK k0 kM s) :
    Kept kK k0 kM (State.startCue s n) := by
  unfold State.startCue
  repeat' first | with_reducible assumption | with_reducible apply State.setF_kept (wOff hm rfl) | with_reducible apply State.loadWdt_kept (wOff hm rfl) | with_reducible apply State.toCue_kept (wOff hm rfl) | with_reducible apply State.setCueReg_kept (wOff hm rfl) | with_reducible apply Kept.ite | dsimp only | split

theorem State.holdCue_kept {s : State} {n} (hm : kK &&& 0x600000006 = 0)  (hk : Kept kK k0 kM s) :
    Kept kK k0 kM (State.holdCue s n) := by
  unfold State.holdCue
  repeat' first | with_reducible assumption | with_reducible apply State.toCue_kept (wOff hm rfl) | with_reducible apply State.resetCue_kept (wOff hm rfl) | dsimp only | split

theorem State.restartCue_kept {s : State} {n} (hm : kK &&& 0x600000006 = 0)  (hk : Kept kK k0 kM s) :
    Kept kK k0 kM (State.restartCue s n) := by
  unfold State.restartCue
  repeat' first | with_reducible assumption | with_reducible apply State.startCue_kept (wOff hm rfl) | with_reducible apply State.holdCue_kept (wOff hm rfl) | dsimp only | split

theorem State.cueCtl_kept {s : State} {n} {c} (hm : kK &&& 0x600000006 = 0)  (hk : Kept kK k0 kM s) :
    Kept kK k0 kM (State.cueCtl s n c) := by
  unfold State.cueCtl
  repeat' first | with_reducible assumption | with_reducible apply State.setF_kept (wOff hm rfl) | with_reducible apply State.startCue_kept (wOff hm rfl) | with_reducible apply State.holdCue_kept (wOff hm rfl) | with_reducible apply State.restartCue_kept (wOff hm rfl) | with_reducible apply Kept.ite | dsimp only | split

theorem execCueCtl_kept {c} {s : State} (hm : kK &&& 0x600008006 = 0)  (hk : Kept kK k0 kM s) :
    KeptR kK k0 kM (execCueCtl c s) := by
  unfold execCueCtl
  repeat' first | with_reducible assumption | with_reducible apply State.long_kept (wOff hm rfl) | with_reducible apply State.cueCtl_kept (wOff hm rfl) | with_reducible apply KeptR.next | (intro u hu) | simp only [id] | dsimp only | split

theorem execCueCtlQuery_kept {c} {s : State} (hm : kK &&& 0x8000 = 0)  (hk : Kept kK k0 kM s) :
    KeptR kK k0 kM (execCueCtlQuery c s) := by
  unfold execCueCtlQuery
  repeat' first | with_reducible assumption | with_reducible refine State.immediate_kept_quiet (wOff hm rfl) (fun _ _ => State.retriesFail_silent (by decide)) ?_ ?_ | with_reducible apply KeptR.next | (intro u hu) | simp only [id] | dsimp only | split

theorem execCueCtlCompletion_kept {n} {s : State} (hm : kK &&& 0x400008006 = 0)  (hk : Kept kK k0 kM s) :
    KeptR kK k0 kM (execCueCtlCompletion n s) := by
  unfold execCueCtlCompletion
  repeat' first | with_reducible assumption | with_reducible apply State.complete_kept (wOff hm rfl) | with_reducible apply KeptR.next | dsimp only | split

theorem execCueFault_kept {n} {cause} {pc} {s : State} (hm : kK &&& 0x600000006 = 0)  (hk : Kept kK k0 kM s) :
    KeptR kK k0 kM (execCueFault n cause pc s) := by
  unfold execCueFault
  repeat' first | with_reducible assumption | with_reducible apply State.setF_kept (wOff hm rfl) | with_reducible apply State.raise_kept (wOff hm rfl) | with_reducible apply State.setCueX_kept (wOff hm rfl) | with_reducible apply State.toCue_kept (wOff hm rfl) | with_reducible apply Kept.ite | with_reducible apply KeptR.next | dsimp only | split

theorem State.settleTimer_kept {s : State} {n} (hm : kK &&& 0x200000000 = 0)  (hk : Kept kK k0 kM s) :
    Kept kK k0 kM (State.settleTimer s n) := by
  unfold State.settleTimer
  repeat' first | with_reducible assumption | with_reducible apply State.setCueX_kept (wOff hm rfl) | dsimp only | split

theorem State.waitNs_kept {s : State} {d} (hm : kK &&& 0x40000c00 = 0)  (hk : Kept kK k0 kM s) :
    Kept kK k0 kM (State.waitNs s d) := by
  unfold State.waitNs
  repeat' first | with_reducible assumption | with_reducible apply State.reachNow_kept (wOff hm rfl) | dsimp only | split

theorem execCueTimerInterrupt_kept {n} {s : State} (hm : kK &&& 0x240000c00 = 0)  (hk : Kept kK k0 kM s) :
    KeptR kK k0 kM (execCueTimerInterrupt n s) := by
  unfold execCueTimerInterrupt
  repeat' first | with_reducible assumption | with_reducible apply State.settleTimer_kept (wOff hm rfl) | with_reducible apply State.waitNs_kept (wOff hm rfl) | with_reducible apply Kept.ite | with_reducible apply KeptR.next | dsimp only | split

theorem execCueReservationTimeout_kept {n} {s : State} (hm : kK &&& 0x240000c00 = 0)  (hk : Kept kK k0 kM s) :
    KeptR kK k0 kM (execCueReservationTimeout n s) := by
  unfold execCueReservationTimeout
  repeat' first | with_reducible assumption | with_reducible apply State.setCueX_kept (wOff hm rfl) | with_reducible apply State.waitNs_kept (wOff hm rfl) | with_reducible apply KeptR.next | dsimp only | split

theorem execCueWdtExpiry_kept {n} {s0 : State} (hm : kK &&& 0x640000c06 = 0)  (hk : Kept kK k0 kM s0) :
    KeptR kK k0 kM (execCueWdtExpiry n s0) := by
  unfold execCueWdtExpiry
  repeat' first | with_reducible assumption | with_reducible apply State.setCueX_kept (wOff hm rfl) | with_reducible apply State.cueMark_kept (wOff hm rfl) | with_reducible apply State.loadWdt_kept (wOff hm rfl) | with_reducible apply State.holdCue_kept (wOff hm rfl) | with_reducible apply State.restartCue_kept (wOff hm rfl) | with_reducible apply State.waitNs_kept (wOff hm rfl) | with_reducible apply Kept.ite | with_reducible apply KeptR.next | dsimp only | split

theorem State.cueWrite_kept {s : State} {m} {n} {off} {act : State → State} (hm : kK &&& 0x202 = 0) (hf0 : ∀ u, Kept kK k0 kM u → Kept kK k0 kM (act u)) (hk : Kept kK k0 kM s) :
    Kept kK k0 kM (State.cueWrite s m n off act) := by
  unfold State.cueWrite
  repeat' first | with_reducible assumption | with_reducible apply hf0 | with_reducible apply State.ownWrite_kept (wOff hm rfl) | with_reducible apply Kept.ite | (intro u hu) | simp only [id] | dsimp only | split

theorem State.wdtKick_kept {s : State} {m} {n} {v} (hm : kK &&& 0x600000006 = 0)  (hk : Kept kK k0 kM s) :
    Kept kK k0 kM (State.wdtKick s m n v) := by
  unfold State.wdtKick
  repeat' first | with_reducible assumption | with_reducible apply State.setCueX_kept (wOff hm rfl) | with_reducible apply State.cueMark_kept (wOff hm rfl) | with_reducible apply State.loadWdt_kept (wOff hm rfl) | with_reducible apply Kept.ite | dsimp only | split

theorem execCueWdtKick_kept {m} {n} {v} {s : State} (hm : kK &&& 0x600000206 = 0)  (hk : Kept kK k0 kM s) :
    KeptR kK k0 kM (execCueWdtKick m n v s) := by
  unfold execCueWdtKick
  repeat' first | with_reducible assumption | with_reducible apply State.ownWrite_kept (wOff hm rfl) | with_reducible apply State.wdtKick_kept (wOff hm rfl) | with_reducible apply KeptR.next | (intro u hu) | simp only [id] | dsimp only | split

theorem State.wdtCfg_kept {s : State} {m} {n} {v} (hm : kK &&& 0x200000002 = 0)  (hk : Kept kK k0 kM s) :
    Kept kK k0 kM (State.wdtCfg s m n v) := by
  unfold State.wdtCfg
  repeat' first | with_reducible assumption | with_reducible apply State.setF_kept (wOff hm rfl) | with_reducible apply State.setCueX_kept (wOff hm rfl) | with_reducible apply State.setWdt_kept (wOff hm rfl) | with_reducible apply State.loadWdt_kept (wOff hm rfl) | with_reducible apply Kept.ite | dsimp only | split

theorem execCueWdtCfgWrite_kept {m} {n} {v} {s : State} (hm : kK &&& 0x200000202 = 0)  (hk : Kept kK k0 kM s) :
    KeptR kK k0 kM (execCueWdtCfgWrite m n v s) := by
  unfold execCueWdtCfgWrite
  repeat' first | with_reducible assumption | with_reducible apply State.cueWrite_kept (wOff hm rfl) | with_reducible apply State.wdtCfg_kept (wOff hm rfl) | with_reducible apply KeptR.next | (intro u hu) | simp only [id] | dsimp only | split

theorem execCueMsipWrite_kept {m} {n} {v} {s : State} (hm : kK &&& 0x202 = 0)  (hk : Kept kK k0 kM s) :
    KeptR kK k0 kM (execCueMsipWrite m n v s) := by
  unfold execCueMsipWrite
  repeat' first | with_reducible assumption | with_reducible apply State.setF_kept (wOff hm rfl) | with_reducible apply State.cueWrite_kept (wOff hm rfl) | with_reducible apply KeptR.next | (intro u hu) | simp only [id] | dsimp only | split

theorem State.cueLost_kept {s : State} {n} (hm : kK &&& 0x600000016 = 0) (hM : Closed kM)  (hk : Kept kK k0 kM s) :
    Kept kK k0 kM (State.cueLost s n) := by
  unfold State.cueLost
  repeat' first | with_reducible assumption | with_reducible apply State.zero_kept (wOff hm rfl) hM | with_reducible apply State.toCue_kept (wOff hm rfl) | with_reducible apply State.resetCue_kept (wOff hm rfl) | dsimp only | split

theorem State.cuePowered_kept {s : State} {n} (hm : kK &&& 0x600000016 = 0) (hM : Closed kM)  (hk : Kept kK k0 kM s) :
    Kept kK k0 kM (State.cuePowered s n) := by
  unfold State.cuePowered
  repeat' first | with_reducible assumption | with_reducible apply State.zero_kept (wOff hm rfl) hM | with_reducible apply State.toCue_kept (wOff hm rfl) | dsimp only | split

end Sys2Proof.Machine
end

