-- ==== Sys2Proof/Laws/KeptMailbox.lean ====
section
/-! SUPPORT. The operations of Sys2Proof/Machine/Mailbox.lean leave alone what `Kept` names. -/
namespace Sys2Proof.Machine
set_option linter.unusedSimpArgs false
set_option linter.unusedVariables false
variable {kK : Nat} {k0 : State} {kM : List Host.Cell → Prop}

theorem State.mbRefuse_kept {s : State} {i} (hm : kK &&& 0x400000006 = 0)  (hk : Kept kK k0 kM s) :
    Kept kK k0 kM (State.mbRefuse s i) := by
  unfold State.mbRefuse
  repeat' first | with_reducible assumption | with_reducible apply State.mbMark_kept (wOff hm rfl) | dsimp only | split

theorem State.mbBy_kept {s : State} {m} {i} {who} {act : State → State} (hm : kK &&& 0x400000006 = 0) (hf0 : ∀ u, Kept kK k0 kM u → Kept kK k0 kM (act u)) (hk : Kept kK k0 kM s) :
    Kept kK k0 kM (State.mbBy s m i who act) := by
  unfold State.mbBy
  repeat' first | with_reducible assumption | with_reducible apply hf0 | with_reducible apply State.mbRefuse_kept (wOff hm rfl) | with_reducible apply Kept.ite | dsimp only | split

theorem State.mbSettle_kept {s : State} {i} (hm : kK &&& 0x400000006 = 0)  (hk : Kept kK k0 kM s) :
    Kept kK k0 kM (State.mbSettle s i) := by
  unfold State.mbSettle
  repeat' first | with_reducible assumption | with_reducible apply State.signal_kept (wOff hm rfl) | with_reducible apply Kept.ite | dsimp only | split

theorem State.mbCfg_kept {s : State} {m} {i} {v} (hm : kK &&& 0x400000006 = 0)  (hk : Kept kK k0 kM s) :
    Kept kK k0 kM (State.mbCfg s m i v) := by
  unfold State.mbCfg
  repeat' first | with_reducible assumption | with_reducible apply State.setF_kept (wOff hm rfl) | with_reducible apply State.mbRefuse_kept (wOff hm rfl) | with_reducible apply Kept.ite | dsimp only | split

theorem State.mbMsg_kept {s : State} {m} {i} {v} (hm : kK &&& 0x400000006 = 0)  (hk : Kept kK k0 kM s) :
    Kept kK k0 kM (State.mbMsg s m i v) := by
  unfold State.mbMsg
  repeat' first | with_reducible assumption | with_reducible apply State.setF_kept (wOff hm rfl) | with_reducible apply State.raise_kept (wOff hm rfl) | with_reducible apply State.lower_kept (wOff hm rfl) | with_reducible apply State.mbMark_kept (wOff hm rfl) | with_reducible apply State.mbBy_kept (wOff hm rfl) | with_reducible apply State.mbSettle_kept (wOff hm rfl) | with_reducible apply Kept.ite | (intro u hu) | simp only [id] | dsimp only | split

theorem State.mbRing_kept {s : State} {m} {i} {v} (hm : kK &&& 0x400000006 = 0)  (hk : Kept kK k0 kM s) :
    Kept kK k0 kM (State.mbRing s m i v) := by
  unfold State.mbRing
  repeat' first | with_reducible assumption | with_reducible apply State.setF_kept (wOff hm rfl) | with_reducible apply State.mbBy_kept (wOff hm rfl) | with_reducible apply State.mbSettle_kept (wOff hm rfl) | (intro u hu) | simp only [id] | dsimp only | split

theorem State.mbReply_kept {s : State} {m} {i} {v} (hm : kK &&& 0x400000006 = 0)  (hk : Kept kK k0 kM s) :
    Kept kK k0 kM (State.mbReply s m i v) := by
  unfold State.mbReply
  repeat' first | with_reducible assumption | with_reducible apply State.setF_kept (wOff hm rfl) | with_reducible apply State.raise_kept (wOff hm rfl) | with_reducible apply State.lower_kept (wOff hm rfl) | with_reducible apply State.setB_kept (wOff hm rfl) | with_reducible apply State.signal_kept (wOff hm rfl) | with_reducible apply State.mbRefuse_kept (wOff hm rfl) | with_reducible apply State.mbBy_kept (wOff hm rfl) | with_reducible apply Kept.ite | (intro u hu) | simp only [id] | dsimp only | split

theorem State.mbStat_kept {s : State} {m} {i} {v} (hm : kK &&& 0x400000006 = 0)  (hk : Kept kK k0 kM s) :
    Kept kK k0 kM (State.mbStat s m i v) := by
  unfold State.mbStat
  repeat' first | with_reducible assumption | with_reducible apply State.lower_kept (wOff hm rfl) | with_reducible apply State.mbMark_kept (wOff hm rfl) | with_reducible apply State.mbRefuse_kept (wOff hm rfl) | with_reducible apply State.mbBy_kept (wOff hm rfl) | with_reducible apply Kept.ite | (intro u hu) | simp only [id] | dsimp only | split

theorem State.mbDoor_kept {s : State} {m} {i} {v} (hm : kK &&& 0x400000006 = 0)  (hk : Kept kK k0 kM s) :
    Kept kK k0 kM (State.mbDoor s m i v) := by
  unfold State.mbDoor
  repeat' first | with_reducible assumption | with_reducible apply State.setF_kept (wOff hm rfl) | with_reducible apply State.mbBy_kept (wOff hm rfl) | (intro u hu) | simp only [id] | dsimp only | split

theorem State.mbDmask_kept {s : State} {m} {i} {v} (hm : kK &&& 0x400000006 = 0)  (hk : Kept kK k0 kM s) :
    Kept kK k0 kM (State.mbDmask s m i v) := by
  unfold State.mbDmask
  repeat' first | with_reducible assumption | with_reducible apply State.setF_kept (wOff hm rfl) | with_reducible apply State.mbBy_kept (wOff hm rfl) | with_reducible apply State.mbSettle_kept (wOff hm rfl) | (intro u hu) | simp only [id] | dsimp only | split

theorem State.mbAck_kept {s : State} {m} {i} {v} (hm : kK &&& 0x400000006 = 0)  (hk : Kept kK k0 kM s) :
    Kept kK k0 kM (State.mbAck s m i v) := by
  unfold State.mbAck
  repeat' first | with_reducible assumption | with_reducible apply State.lower_kept (wOff hm rfl) | with_reducible apply State.mbBy_kept (wOff hm rfl) | with_reducible apply Kept.ite | (intro u hu) | simp only [id] | dsimp only | split

theorem State.mbWrite_kept {s : State} {m} {i} {r} {v} (hm : kK &&& 0x400000006 = 0)  (hk : Kept kK k0 kM s) :
    Kept kK k0 kM (State.mbWrite s m i r v) := by
  unfold State.mbWrite
  repeat' first | with_reducible assumption | with_reducible apply State.mbCfg_kept (wOff hm rfl) | with_reducible apply State.mbMsg_kept (wOff hm rfl) | with_reducible apply State.mbRing_kept (wOff hm rfl) | with_reducible apply State.mbReply_kept (wOff hm rfl) | with_reducible apply State.mbStat_kept (wOff hm rfl) | with_reducible apply State.mbDoor_kept (wOff hm rfl) | with_reducible apply State.mbDmask_kept (wOff hm rfl) | with_reducible apply State.mbAck_kept (wOff hm rfl) | dsimp only | split

theorem State.mbxWrite_kept {s : State} {m} {i} {r} {act : State → State} (hm : kK &&& 0x202 = 0) (hf0 : ∀ u, Kept kK k0 kM u → Kept kK k0 kM (act u)) (hk : Kept kK k0 kM s) :
    Kept kK k0 kM (State.mbxWrite s m i r act) := by
  unfold State.mbxWrite
  repeat' first | with_reducible assumption | with_reducible apply hf0 | with_reducible apply State.ownWrite_kept (wOff hm rfl) | (intro u hu) | simp only [id] | dsimp only | split

theorem execMbCfgWrite_kept {m} {i} {v} {s : State} (hm : kK &&& 0x400000206 = 0)  (hk : Kept kK k0 kM s) :
    KeptR kK k0 kM (execMbCfgWrite m i v s) := by
  unfold execMbCfgWrite
  repeat' first | with_reducible assumption | with_reducible apply State.mbCfg_kept (wOff hm rfl) | with_reducible apply State.mbxWrite_kept (wOff hm rfl) | with_reducible apply KeptR.next | (intro u hu) | simp only [id] | dsimp only | split

theorem execMbMsgWrite_kept {m} {i} {v} {s : State} (hm : kK &&& 0x400000206 = 0)  (hk : Kept kK k0 kM s) :
    KeptR kK k0 kM (execMbMsgWrite m i v s) := by
  unfold execMbMsgWrite
  repeat' first | with_reducible assumption | with_reducible apply State.mbMsg_kept (wOff hm rfl) | with_reducible apply State.mbxWrite_kept (wOff hm rfl) | with_reducible apply KeptR.next | (intro u hu) | simp only [id] | dsimp only | split

theorem execMbRing_kept {m} {i} {v} {s : State} (hm : kK &&& 0x400000206 = 0)  (hk : Kept kK k0 kM s) :
    KeptR kK k0 kM (execMbRing m i v s) := by
  unfold execMbRing
  repeat' first | with_reducible assumption | with_reducible apply State.mbRing_kept (wOff hm rfl) | with_reducible apply State.mbxWrite_kept (wOff hm rfl) | with_reducible apply KeptR.next | (intro u hu) | simp only [id] | dsimp only | split

theorem execMbReply_kept {m} {i} {code} {s : State} (hm : kK &&& 0x400000206 = 0)  (hk : Kept kK k0 kM s) :
    KeptR kK k0 kM (execMbReply m i code s) := by
  unfold execMbReply
  repeat' first | with_reducible assumption | with_reducible apply State.mbReply_kept (wOff hm rfl) | with_reducible apply State.mbxWrite_kept (wOff hm rfl) | with_reducible apply KeptR.next | (intro u hu) | simp only [id] | dsimp only | split

theorem execMbStatWithdraw_kept {m} {i} {s : State} (hm : kK &&& 0x400000206 = 0)  (hk : Kept kK k0 kM s) :
    KeptR kK k0 kM (execMbStatWithdraw m i s) := by
  unfold execMbStatWithdraw
  repeat' first | with_reducible assumption | with_reducible apply State.mbStat_kept (wOff hm rfl) | with_reducible apply State.mbxWrite_kept (wOff hm rfl) | with_reducible apply KeptR.next | (intro u hu) | simp only [id] | dsimp only | split

end Sys2Proof.Machine
end

