-- ==== Sys2Proof/Laws/KeptPcie.lean ====
section
/-! SUPPORT. The operations of Sys2Proof/Machine/Pcie.lean leave alone what `Kept` names. -/
namespace Sys2Proof.Machine
set_option linter.unusedSimpArgs false
set_option linter.unusedVariables false
variable {kK : Nat} {k0 : State} {kM : List Host.Cell → Prop}

theorem State.msixDefault_kept {s : State} {data} (hm : kK &&& 0x10000 = 0)  (hk : Kept kK k0 kM s) :
    Kept kK k0 kM (State.msixDefault s data) := by
  unfold State.msixDefault
  repeat' first | with_reducible assumption | with_reducible apply Kept.ite | simp only [Kept.mk_evc (wOff hm rfl)] | dsimp only | split

theorem State.hostReset_kept {s : State} (hm : kK &&& 0x400000006 = 0)  (hk : Kept kK k0 kM s) :
    Kept kK k0 kM (State.hostReset s) := by
  unfold State.hostReset
  repeat' first | with_reducible assumption | with_reducible apply State.agentReset_kept (wOff hm rfl) | dsimp only | split

theorem State.linkDown_kept {s : State} (hm : kK &&& 0x400010006 = 0)  (hk : Kept kK k0 kM s) :
    Kept kK k0 kM (State.linkDown s) := by
  unfold State.linkDown
  repeat' first | with_reducible assumption | with_reducible apply State.raise_kept (wOff hm rfl) | with_reducible apply State.lower_kept (wOff hm rfl) | with_reducible apply State.hostReset_kept (wOff hm rfl) | with_reducible apply Kept.ite | simp only [Kept.mk_evc (wOff hm rfl)] | dsimp only | split

theorem execPcieConventionalReset_kept {s : State} (hm : kK &&& 0x400010006 = 0)  (hk : Kept kK k0 kM s) :
    KeptR kK k0 kM (execPcieConventionalReset s) := by
  unfold execPcieConventionalReset
  repeat' first | with_reducible assumption | with_reducible apply State.msixDefault_kept (wOff hm rfl) | with_reducible apply State.linkDown_kept (wOff hm rfl) | with_reducible apply KeptR.next | dsimp only | split

theorem execPcieHotReset_kept {s : State} (hm : kK &&& 0x400010006 = 0)  (hk : Kept kK k0 kM s) :
    KeptR kK k0 kM (execPcieHotReset s) := by
  unfold execPcieHotReset
  repeat' first | with_reducible assumption | with_reducible apply State.msixDefault_kept (wOff hm rfl) | with_reducible apply State.hostReset_kept (wOff hm rfl) | with_reducible apply KeptR.next | dsimp only | split

theorem execFunctionLevelReset_kept {data} {s : State} (hm : kK &&& 0x400010006 = 0)  (hk : Kept kK k0 kM s) :
    KeptR kK k0 kM (execFunctionLevelReset data s) := by
  unfold execFunctionLevelReset
  repeat' first | with_reducible assumption | with_reducible apply State.msixDefault_kept (wOff hm rfl) | with_reducible apply State.hostReset_kept (wOff hm rfl) | with_reducible apply Kept.ite | with_reducible apply KeptR.next | dsimp only | split

theorem execPcieLinkDown_kept {s : State} (hm : kK &&& 0x400010006 = 0)  (hk : Kept kK k0 kM s) :
    KeptR kK k0 kM (execPcieLinkDown s) := by
  unfold execPcieLinkDown
  repeat' first | with_reducible assumption | with_reducible apply State.linkDown_kept (wOff hm rfl) | with_reducible apply KeptR.next | dsimp only | split

theorem State.dmaWrite_kept {s : State} {m} {c} {off} {act : State → State} (hm : kK &&& 0x202 = 0) (hf0 : ∀ u, Kept kK k0 kM u → Kept kK k0 kM (act u)) (hk : Kept kK k0 kM s) :
    Kept kK k0 kM (State.dmaWrite s m c off act) := by
  unfold State.dmaWrite
  repeat' first | with_reducible assumption | with_reducible apply hf0 | with_reducible apply State.busError_kept (wOff hm rfl) | with_reducible apply State.busDead_kept (wOff hm rfl) | with_reducible apply State.ownWrite_kept (wOff hm rfl) | with_reducible apply Kept.ite | (intro u hu) | simp only [id] | dsimp only | split

theorem State.dmaEnd_kept {s : State} {c} {moved} {ok} {err} (hm : kK &&& 0x400000006 = 0)  (hk : Kept kK k0 kM s) :
    Kept kK k0 kM (State.dmaEnd s c moved ok err) := by
  unfold State.dmaEnd
  repeat' first | with_reducible assumption | with_reducible apply State.setF_kept (wOff hm rfl) | with_reducible apply State.raise_kept (wOff hm rfl) | with_reducible apply State.lower_kept (wOff hm rfl) | with_reducible apply State.signal_kept (wOff hm rfl) | with_reducible apply Kept.ite | dsimp only | split

theorem State.dmaStart_kept {s : State} {c} (hm : kK &&& 0x400000006 = 0)  (hk : Kept kK k0 kM s) :
    Kept kK k0 kM (State.dmaStart s c) := by
  unfold State.dmaStart
  repeat' first | with_reducible assumption | with_reducible apply State.setF_kept (wOff hm rfl) | with_reducible apply State.lower_kept (wOff hm rfl) | with_reducible apply State.dmaEnd_kept (wOff hm rfl) | with_reducible apply Kept.ite | dsimp only | split

theorem State.setLate_kept {s : State} {q} {n} (hm : kK &&& 0x80000 = 0)  (hk : Kept kK k0 kM s) :
    Kept kK k0 kM (State.setLate s q n) := by
  unfold State.setLate
  repeat' first | with_reducible assumption | simp only [Kept.mk_fab (wOff hm rfl)] | dsimp only | split

theorem State.portBurst_kept {s : State} {q} {rs} {ans} (hm : kK &&& 0x440080e06 = 0)  (hk : Kept kK k0 kM s) :
    Kept kK k0 kM (State.portBurst s q rs ans).2 := by
  have he : Kept kK k0 kM (rs.foldl (fun s r => s.emit (.regport q r)) s) := Kept.foldl hk (fun _ _ h => State.emit_kept (wOff hm rfl) h)
  have h0 : Kept kK k0 kM ((rs.foldl (fun s r => s.emit (.regport q r)) s).setLate q 0) := State.setLate_kept (wOff hm rfl) he
  unfold State.portBurst
  split
  · exact hk
  split
  · exact hk
  split
  · exact State.facetRefused_kept (wOff hm rfl) hk
  split
  · exact State.rpMark_kept (wOff hm rfl) (State.reachNow_kept (wOff hm rfl) hk)
  dsimp only
  split
  · exact State.rpMark_kept (wOff hm rfl) (State.reachNow_kept (wOff hm rfl) (State.setLate_kept (wOff hm rfl) he))
  · exact State.rpMark_kept (wOff hm rfl) h0
  · exact h0

theorem State.windowBurst_kept {s : State} {m} {a} {write} {bs} {ans} (hm : kK &&& 0x440080e06 = 0)  (hk : Kept kK k0 kM s) :
    Kept kK k0 kM (State.windowBurst s m a write bs ans).2 := State.portBurst_kept hm hk

theorem dmaRead_kept {ans} {r} (hm : kK &&& 0x0 = 0)   (hr : Kept kK k0 kM r.2) :
    Kept kK k0 kM (dmaRead ans r).2 := by
  exact hr

theorem State.dmaLoad_kept {s : State} {m} {a} {es} {ans} (hm : kK &&& 0x4410c0e06 = 0)  (hk : Kept kK k0 kM s) :
    Kept kK k0 kM (State.dmaLoad s m a es ans).2 := by
  unfold State.dmaLoad
  exact Kept.iteIn Prod.snd (α := DmaRead × State) (dmaRead_kept (wOff hm rfl) (State.fmRead_kept (wOff hm rfl) hk)) (Kept.iteIn Prod.snd (α := DmaRead × State) (Kept.snd2 (State.windowBurst_kept (wOff hm rfl) hk)) (Kept.iteIn Prod.snd (α := DmaRead × State) (Kept.snd2 hk) (Kept.iteIn Prod.snd (α := DmaRead × State) (Kept.snd2 hk) (Kept.snd2 hk))))

theorem State.dmaFetch_kept {s : State} {m} {dir} {a} {es} {ans} (hm : kK &&& 0x4410c0e06 = 0)  (hk : Kept kK k0 kM s) :
    Kept kK k0 kM (State.dmaFetch s m dir a es ans).2 := by
  unfold State.dmaFetch
  exact Kept.iteIn Prod.snd (α := DmaRead × State) (Kept.snd2 hk) (State.dmaLoad_kept (wOff hm rfl) hk)

theorem dmaWritten_kept {ans} {w} (hm : kK &&& 0x0 = 0)   (hw : Kept kK k0 kM w.2) :
    Kept kK k0 kM (dmaWritten ans w).2.2 := by
  exact hw

theorem State.dmaStore_kept {s : State} {m} {a} {bs} {poison} {es} {ans} (hm : kK &&& 0x6410c0e16 = 0) (hM : Closed kM)  (hk : Kept kK k0 kM s) :
    Kept kK k0 kM (State.dmaStore s m a bs poison es ans).2.2 := by
  unfold State.dmaStore
  exact Kept.iteIn (fun x => x.2.2) (α := Option Bool × List (Option (List Byte × Bool)) × State) (dmaWritten_kept (wOff hm rfl) (State.fmWrite_kept (wOff hm rfl) hM hk)) (Kept.iteIn (fun x => x.2.2) (α := Option Bool × List (Option (List Byte × Bool)) × State) (Kept.snd3 (State.windowBurst_kept (wOff hm rfl) hk)) (Kept.iteIn (fun x => x.2.2) (α := Option Bool × List (Option (List Byte × Bool)) × State) (Kept.snd3 hk) (Kept.iteIn (fun x => x.2.2) (α := Option Bool × List (Option (List Byte × Bool)) × State) (Kept.snd3 (State.store_kept (wOff hm rfl) hM hk)) (Kept.snd3 hk))))

theorem State.dmaPut_kept {s : State} {m} {dir} {a} {bs} {poison} {es} {ans} (hm : kK &&& 0x6410c0e36 = 0) (hM : Closed kM)  (hk : Kept kK k0 kM s) :
    Kept kK k0 kM (State.dmaPut s m dir a bs poison es ans).2.2 := by
  unfold State.dmaPut
  exact Kept.iteIn (fun x => x.2.2) (α := Option Bool × List (Option (List Byte × Bool)) × State) (Kept.iteIn (fun x => x.2.2) (α := Option Bool × List (Option (List Byte × Bool)) × State) (Kept.snd3 hk) (Kept.snd3 (State.hostStore_kept (wOff hm rfl) hk))) (State.dmaStore_kept (wOff hm rfl) hM hk)

theorem dmaPass_kept {c} {dir} {a} {es} {r} (hm : kK &&& 0x6410c0e36 = 0) (hM : Closed kM)   (hr : Kept kK k0 kM r.2) :
    Kept kK k0 kM (dmaPass c dir a es r).2.2 := by
  unfold dmaPass
  cases r.1.data with
  | none => exact hr
  | some d => exact State.dmaPut_kept (wOff hm rfl) hM (Kept.ite (State.raise_kept (wOff hm rfl) hr) hr)

theorem State.dmaUnit_kept {s : State} {c} {dir} {src} {dst} {es} {ans} (hm : kK &&& 0x6410c0e36 = 0) (hM : Closed kM)  (hk : Kept kK k0 kM s) :
    Kept kK k0 kM (State.dmaUnit s c dir src dst es ans).2.2 := by
  unfold State.dmaUnit
  split
  · exact hk
  · exact dmaPass_kept (wOff hm rfl) hM (State.dmaFetch_kept (wOff hm rfl) hk)

theorem State.dmaMove_kept {c} {dir} {src} {dst} {a4 : State} {a5} {a6} {a7} {a8} (hm : kK &&& 0x6410c0e36 = 0) (hM : Closed kM)  (hk : Kept kK k0 kM a4) :
    KeptO kK k0 kM (fun r => r.2.2) (State.dmaMove c dir src dst a4 a5 a6 a7 a8) := by
  induction a8 generalizing a4 a5 a6 a7 with
  | zero => exact hk
  | succ n ih =>
    unfold State.dmaMove
    have hu := State.dmaUnit_kept (wOff hm rfl) (c := c) (dir := dir) (src := src + 64 * a7) (dst := dst + 64 * a7) (es := a5) (ans := a6) hM hk
    generalize State.dmaUnit _ _ _ _ _ _ _ = u at hu
    obtain ⟨o, l, t⟩ := u
    cases o with
    | none => trivial
    | some b => cases b with
      | false => exact hu
      | true => exact ih hu

theorem State.dmaMoved_kept {s : State} {c} {full} {cut} {err} {r} (hm : kK &&& 0x400000006 = 0)  (hk : Kept kK k0 kM s) (hr : KeptO kK k0 kM (fun x => x.2.2) r) :
    Kept kK k0 kM (State.dmaMoved s c full cut err r) := by
  unfold State.dmaMoved
  cases r with
  | none => exact Kept.ite (State.dmaEnd_kept (wOff hm rfl) hk) hk
  | some m => exact State.dmaEnd_kept (wOff hm rfl) hr

theorem State.dmaFinish_kept {s : State} {c} {n} {cut} {err} {es} {ans} (hm : kK &&& 0x6410c0e36 = 0) (hM : Closed kM)  (hk : Kept kK k0 kM s) :
    Kept kK k0 kM (State.dmaFinish s c n cut err es ans) := by
  exact State.dmaMoved_kept (wOff hm rfl) hk (State.dmaMove_kept (wOff hm rfl) hM hk)

theorem State.dmaDisable_kept {s : State} {c} (hm : kK &&& 0x2 = 0)  (hk : Kept kK k0 kM s) :
    Kept kK k0 kM (State.dmaDisable s c) := by
  unfold State.dmaDisable
  repeat' first | with_reducible assumption | with_reducible apply State.setF_kept (wOff hm rfl) | with_reducible apply Kept.ite | dsimp only | split

theorem State.dmaAbort_kept {s : State} {c} {n} {es} {ans} (hm : kK &&& 0x6410c0e36 = 0) (hM : Closed kM)  (hk : Kept kK k0 kM s) :
    Kept kK k0 kM (State.dmaAbort s c n es ans) := by
  unfold State.dmaAbort
  repeat' first | with_reducible assumption | with_reducible apply State.dmaFinish_kept (wOff hm rfl) hM | with_reducible apply Kept.ite | dsimp only | split

theorem State.dmaCtl_kept {s : State} {c} {v} (hm : kK &&& 0x2 = 0)  (hk : Kept kK k0 kM s) :
    Kept kK k0 kM (State.dmaCtl s c v) := by
  unfold State.dmaCtl
  repeat' first | with_reducible assumption | with_reducible apply State.setF_kept (wOff hm rfl) | dsimp only | split

theorem execDmaStart_kept {m} {c} {v} {s : State} (hm : kK &&& 0x400000206 = 0)  (hk : Kept kK k0 kM s) :
    KeptR kK k0 kM (execDmaStart m c v s) := by
  unfold execDmaStart
  repeat' first | with_reducible assumption | with_reducible apply State.dmaWrite_kept (wOff hm rfl) | with_reducible apply State.dmaStart_kept (wOff hm rfl) | with_reducible apply State.dmaCtl_kept (wOff hm rfl) | with_reducible apply KeptR.next | (intro u hu) | simp only [id] | dsimp only | split

theorem execDmaDisable_kept {m} {c} {v} {s : State} (hm : kK &&& 0x202 = 0)  (hk : Kept kK k0 kM s) :
    KeptR kK k0 kM (execDmaDisable m c v s) := by
  unfold execDmaDisable
  repeat' first | with_reducible assumption | with_reducible apply State.dmaWrite_kept (wOff hm rfl) | with_reducible apply State.dmaDisable_kept (wOff hm rfl) | with_reducible apply State.dmaCtl_kept (wOff hm rfl) | with_reducible apply KeptR.next | (intro u hu) | simp only [id] | dsimp only | split

theorem execDmaDisableDone_kept {c} {n} {es} {ans} {s : State} (hm : kK &&& 0x6410c0e36 = 0) (hM : Closed kM)  (hk : Kept kK k0 kM s) :
    KeptR kK k0 kM (execDmaDisableDone c n es ans s) := by
  unfold execDmaDisableDone
  repeat' first | with_reducible assumption | with_reducible apply State.dmaFinish_kept (wOff hm rfl) hM | with_reducible apply Kept.ite | with_reducible apply KeptR.next | dsimp only | split

theorem execDmaAbort_kept {m} {c} {v} {n} {es} {ans} {s : State} (hm : kK &&& 0x6410c0e36 = 0) (hM : Closed kM)  (hk : Kept kK k0 kM s) :
    KeptR kK k0 kM (execDmaAbort m c v n es ans s) := by
  unfold execDmaAbort
  repeat' first | with_reducible assumption | with_reducible apply State.dmaWrite_kept (wOff hm rfl) | with_reducible apply State.dmaAbort_kept (wOff hm rfl) hM | with_reducible apply State.dmaCtl_kept (wOff hm rfl) | with_reducible apply KeptR.next | (intro u hu) | simp only [id] | dsimp only | split

theorem execDmaTransferDone_kept {c} {es} {ans} {s : State} (hm : kK &&& 0x6410c0e36 = 0) (hM : Closed kM)  (hk : Kept kK k0 kM s) :
    KeptR kK k0 kM (execDmaTransferDone c es ans s) := by
  unfold execDmaTransferDone
  repeat' first | with_reducible assumption | with_reducible apply State.dmaFinish_kept (wOff hm rfl) hM | with_reducible apply Kept.ite | with_reducible apply KeptR.next | dsimp only | split

end Sys2Proof.Machine
end

