-- ==== Sys2Proof/Laws/KeptLattice.lean ====
section
/-! SUPPORT. The operations of Sys2Proof/Machine/Lattice.lean leave alone what `Kept` names. -/
namespace Sys2Proof.Machine
set_option linter.unusedSimpArgs false
set_option linter.unusedVariables false
variable {kK : Nat} {k0 : State} {kM : List Host.Cell → Prop}

theorem State.glEnable_kept {s : State} {k} {w} (hm : kK &&& 0x500000006 = 0)  (hk : Kept kK k0 kM s) :
    Kept kK k0 kM (State.glEnable s k w) := by
  unfold State.glEnable
  repeat' first | with_reducible assumption | with_reducible apply State.setF_kept (wOff hm rfl) | with_reducible apply State.setGlink_kept (wOff hm rfl) | with_reducible apply State.toGl_kept (wOff hm rfl) | with_reducible refine Kept.foldl ?_ (fun _ _ _ => ?_) | with_reducible refine Kept.foldlIn Prod.snd ?_ (fun _ _ _ => ?_) | with_reducible refine Kept.foldlIn (fun p => p.2.2) ?_ (fun _ _ _ => ?_) | dsimp only | split

theorem State.glFree_kept {s : State} {k} (hm : kK &&& 0x2 = 0)  (hk : Kept kK k0 kM s) :
    Kept kK k0 kM (State.glFree s k) := by
  unfold State.glFree
  repeat' first | with_reducible assumption | with_reducible apply State.setF_kept (wOff hm rfl) | with_reducible apply Kept.ite | with_reducible refine Kept.foldl ?_ (fun _ _ _ => ?_) | with_reducible refine Kept.foldlIn Prod.snd ?_ (fun _ _ _ => ?_) | with_reducible refine Kept.foldlIn (fun p => p.2.2) ?_ (fun _ _ _ => ?_) | dsimp only | split

theorem State.glDisable_kept {s : State} {k} {w} (hm : kK &&& 0x500000006 = 0)  (hk : Kept kK k0 kM s) :
    Kept kK k0 kM (State.glDisable s k w) := by
  unfold State.glDisable
  repeat' first | with_reducible assumption | with_reducible apply State.setGlink_kept (wOff hm rfl) | with_reducible apply State.toGl_kept (wOff hm rfl) | with_reducible apply State.glFree_kept (wOff hm rfl) | dsimp only | split

theorem State.groupLinks_kept {s : State} {g} {on} (hm : kK &&& 0x500000006 = 0)  (hk : Kept kK k0 kM s) :
    Kept kK k0 kM (State.groupLinks s g on) := by
  unfold State.groupLinks
  repeat' first | with_reducible assumption | with_reducible apply State.toGl_kept (wOff hm rfl) | with_reducible apply State.glEnable_kept (wOff hm rfl) | with_reducible apply Kept.ite | with_reducible refine Kept.foldl ?_ (fun _ _ _ => ?_) | with_reducible refine Kept.foldlIn Prod.snd ?_ (fun _ _ _ => ?_) | with_reducible refine Kept.foldlIn (fun p => p.2.2) ?_ (fun _ _ _ => ?_) | dsimp only | split

theorem State.dieLinks_kept {s : State} {l} (hm : kK &&& 0x500000006 = 0)  (hk : Kept kK k0 kM s) :
    Kept kK k0 kM (State.dieLinks s l) := by
  unfold State.dieLinks
  repeat' first | with_reducible assumption | with_reducible apply State.setGlink_kept (wOff hm rfl) | with_reducible apply State.toGl_kept (wOff hm rfl) | with_reducible apply State.glFree_kept (wOff hm rfl) | with_reducible apply Kept.ite | with_reducible refine Kept.foldl ?_ (fun _ _ _ => ?_) | with_reducible refine Kept.foldlIn Prod.snd ?_ (fun _ _ _ => ?_) | with_reducible refine Kept.foldlIn (fun p => p.2.2) ?_ (fun _ _ _ => ?_) | dsimp only | split

theorem State.glSend_kept {s : State} {k} {kind} {sub} {data} (hm : kK &&& 0x500000206 = 0)  (hk : Kept kK k0 kM s) :
    Kept kK k0 kM (State.glSend s k kind sub data) := by
  unfold State.glSend
  repeat' first | with_reducible assumption | with_reducible apply State.emit_kept (wOff hm rfl) | with_reducible apply State.setGlink_kept (wOff hm rfl) | with_reducible apply State.glOver_kept (wOff hm rfl) | with_reducible apply Kept.ite | simp only [Kept.mk_lat (wOff hm rfl)] | dsimp only | split

theorem State.glResend_kept {s : State} {k} (hm : kK &&& 0x500040206 = 0)  (hk : Kept kK k0 kM s) :
    Kept kK k0 kM (State.glResend s k) := by
  unfold State.glResend
  repeat' first | with_reducible assumption | with_reducible apply State.emit_kept (wOff hm rfl) | with_reducible apply State.setGlink_kept (wOff hm rfl) | with_reducible apply State.glOver_kept (wOff hm rfl) | with_reducible apply State.glFail_kept (wOff hm rfl) | with_reducible apply Kept.ite | with_reducible refine Kept.foldl ?_ (fun _ _ _ => ?_) | with_reducible refine Kept.foldlIn Prod.snd ?_ (fun _ _ _ => ?_) | with_reducible refine Kept.foldlIn (fun p => p.2.2) ?_ (fun _ _ _ => ?_) | dsimp only | split

theorem State.glHelloSend_kept {s : State} {k} (hm : kK &&& 0x500000206 = 0)  (hk : Kept kK k0 kM s) :
    Kept kK k0 kM (State.glHelloSend s k) := by
  unfold State.glHelloSend
  repeat' first | with_reducible assumption | with_reducible apply State.setGlink_kept (wOff hm rfl) | with_reducible apply State.glSend_kept (wOff hm rfl) | with_reducible apply Kept.ite | dsimp only | split

theorem State.glHelloIn_kept {s : State} {k} {data} (hm : kK &&& 0x500000006 = 0)  (hk : Kept kK k0 kM s) :
    Kept kK k0 kM (State.glHelloIn s k data) := by
  unfold State.glHelloIn
  repeat' first | with_reducible assumption | with_reducible apply State.signal_kept (wOff hm rfl) | with_reducible apply State.setGlink_kept (wOff hm rfl) | with_reducible apply State.toGl_kept (wOff hm rfl) | with_reducible apply Kept.ite | dsimp only | split

theorem State.hopDrop_kept {s : State} {k} (hm : kK &&& 0x500000006 = 0)  (hk : Kept kK k0 kM s) :
    Kept kK k0 kM (State.hopDrop s k) := by
  unfold State.hopDrop
  repeat' first | with_reducible assumption | with_reducible apply State.signal_kept (wOff hm rfl) | with_reducible apply State.setGlink_kept (wOff hm rfl) | with_reducible apply State.glOver_kept (wOff hm rfl) | dsimp only | split

theorem State.latRing_kept {s : State} {vk} {dst} {p} (hm : kK &&& 0x10000000 = 0)  (hk : Kept kK k0 kM s) :
    Kept kK k0 kM (State.latRing s vk dst p) := by
  unfold State.latRing
  repeat' first | with_reducible assumption | with_reducible apply State.send_kept (wOff hm rfl) | dsimp only | split

theorem State.latBack_kept {s : State} {vk} {p} {st} (hm : kK &&& 0x410000006 = 0)  (hk : Kept kK k0 kM s) :
    Kept kK k0 kM (State.latBack s vk p st) := by
  unfold State.latBack
  repeat' first | with_reducible assumption | with_reducible apply State.dropPkt_kept (wOff hm rfl) | with_reducible apply State.latRing_kept (wOff hm rfl) | with_reducible apply Kept.ite | dsimp only | split

theorem State.latHere_kept {s : State} {vk} {p} (hm : kK &&& 0x410000006 = 0)  (hk : Kept kK k0 kM s) :
    Kept kK k0 kM (State.latHere s vk p) := by
  unfold State.latHere
  repeat' first | with_reducible assumption | with_reducible apply State.dropPkt_kept (wOff hm rfl) | with_reducible apply State.respond_kept (wOff hm rfl) | with_reducible apply State.latRing_kept (wOff hm rfl) | with_reducible apply Kept.ite | dsimp only | split

theorem State.glArrive_kept {s : State} {k} {p0} (hm : kK &&& 0x510000006 = 0)  (hk : Kept kK k0 kM s) :
    Kept kK k0 kM (State.glArrive s k p0) := by
  unfold State.glArrive
  repeat' first | with_reducible assumption | with_reducible apply State.hopDrop_kept (wOff hm rfl) | with_reducible apply State.latRing_kept (wOff hm rfl) | with_reducible apply State.latBack_kept (wOff hm rfl) | with_reducible apply State.latHere_kept (wOff hm rfl) | with_reducible apply Kept.ite | dsimp only | split

theorem State.glOwe_kept {s : State} {k} {code} (hm : kK &&& 0x100000000 = 0)  (hk : Kept kK k0 kM s) :
    Kept kK k0 kM (State.glOwe s k code) := by
  unfold State.glOwe
  repeat' first | with_reducible assumption | with_reducible apply State.setGlink_kept (wOff hm rfl) | dsimp only | split

theorem State.glAccept_kept {s : State} {k} {hdr} {data} (hm : kK &&& 0x510081206 = 0)  (hk : Kept kK k0 kM s) :
    Kept kK k0 kM (State.glAccept s k hdr data) := by
  unfold State.glAccept
  repeat' first | with_reducible assumption | with_reducible apply State.setGlink_kept (wOff hm rfl) | with_reducible apply State.deliver_kept (wOff hm rfl) | with_reducible apply State.glHelloIn_kept (wOff hm rfl) | with_reducible apply State.glArrive_kept (wOff hm rfl) | with_reducible apply State.glOwe_kept (wOff hm rfl) | with_reducible apply Kept.ite | dsimp only | split

theorem State.glNak_kept {s : State} {k} (hm : kK &&& 0x100000000 = 0)  (hk : Kept kK k0 kM s) :
    Kept kK k0 kM (State.glNak s k) := by
  unfold State.glNak
  repeat' first | with_reducible assumption | with_reducible apply State.setGlink_kept (wOff hm rfl) | dsimp only | split

theorem execGlenuFrameReceive_kept {k} {f} {s : State} (hm : kK &&& 0x5100c1206 = 0)  (hk : Kept kK k0 kM s) :
    KeptR kK k0 kM (execGlenuFrameReceive k f s) := by
  unfold execGlenuFrameReceive
  repeat' first | with_reducible assumption | with_reducible apply State.signal_kept (wOff hm rfl) | with_reducible apply State.setGlink_kept (wOff hm rfl) | with_reducible apply State.glOver_kept (wOff hm rfl) | with_reducible apply State.glFail_kept (wOff hm rfl) | with_reducible apply State.glResend_kept (wOff hm rfl) | with_reducible apply State.glAccept_kept (wOff hm rfl) | with_reducible apply State.glNak_kept (wOff hm rfl) | with_reducible apply Kept.ite | with_reducible apply KeptR.next | dsimp only | split

theorem execGlenuResendTimeout_kept {k} {s : State} (hm : kK &&& 0x540040e06 = 0)  (hk : Kept kK k0 kM s) :
    KeptR kK k0 kM (execGlenuResendTimeout k s) := by
  unfold execGlenuResendTimeout
  repeat' first | with_reducible assumption | with_reducible apply State.waitNs_kept (wOff hm rfl) | with_reducible apply State.glResend_kept (wOff hm rfl) | with_reducible apply Kept.ite | with_reducible apply KeptR.next | dsimp only | split

theorem execGlenuAligned_kept {k} {s : State} (hm : kK &&& 0x500000206 = 0)  (hk : Kept kK k0 kM s) :
    KeptR kK k0 kM (execGlenuAligned k s) := by
  unfold execGlenuAligned
  repeat' first | with_reducible assumption | with_reducible apply State.toGl_kept (wOff hm rfl) | with_reducible apply State.glHelloSend_kept (wOff hm rfl) | with_reducible apply Kept.ite | with_reducible apply KeptR.next | dsimp only | split

theorem execGlenuHelloSend_kept {k} {s : State} (hm : kK &&& 0x540000e06 = 0)  (hk : Kept kK k0 kM s) :
    KeptR kK k0 kM (execGlenuHelloSend k s) := by
  unfold execGlenuHelloSend
  repeat' first | with_reducible assumption | with_reducible apply State.waitNs_kept (wOff hm rfl) | with_reducible apply State.glHelloSend_kept (wOff hm rfl) | with_reducible apply Kept.ite | with_reducible apply KeptR.next | dsimp only | split

theorem execGlenuHelloTimeout_kept {k} {s : State} (hm : kK &&& 0x540000c06 = 0)  (hk : Kept kK k0 kM s) :
    KeptR kK k0 kM (execGlenuHelloTimeout k s) := by
  unfold execGlenuHelloTimeout
  repeat' first | with_reducible assumption | with_reducible apply State.toGl_kept (wOff hm rfl) | with_reducible apply State.waitNs_kept (wOff hm rfl) | with_reducible apply Kept.ite | with_reducible apply KeptR.next | dsimp only | split

theorem State.glUse_kept {s : State} {k} {code} {n} (hm : kK &&& 0x100000000 = 0)  (hk : Kept kK k0 kM s) :
    Kept kK k0 kM (State.glUse s k code n) := by
  unfold State.glUse
  repeat' first | with_reducible assumption | with_reducible apply State.setGlink_kept (wOff hm rfl) | dsimp only | split

theorem State.glTakeEssence_kept {s : State} {k} {m} {free} (hm : kK &&& 0x104000000 = 0)  (hk : Kept kK k0 kM s) :
    Kept kK k0 kM (State.glTakeEssence s k m free).2 := by
  unfold State.glTakeEssence
  repeat' first | with_reducible assumption | with_reducible apply State.setSeCh_kept (wOff hm rfl) | with_reducible apply State.glUse_kept (wOff hm rfl) | dsimp only | split

theorem State.glTakePkt_kept {s : State} {k} {vk} {free} {p} {p'} (hm : kK &&& 0x110000000 = 0)  (hk : Kept kK k0 kM s) :
    Kept kK k0 kM (State.glTakePkt s k vk free p p').2 := by
  unfold State.glTakePkt
  repeat' first | with_reducible assumption | with_reducible apply State.setNi_kept (wOff hm rfl) | with_reducible apply State.creditBack_kept (wOff hm rfl) | with_reducible apply State.creditPacket_kept (wOff hm rfl) | with_reducible apply State.glUse_kept (wOff hm rfl) | with_reducible apply Kept.ite | dsimp only | split

theorem State.glTakePkts_kept {s : State} {k} {free} (hm : kK &&& 0x510000006 = 0)  (hk : Kept kK k0 kM s) :
    Kept kK k0 kM (State.glTakePkts s k free).2 := by
  unfold State.glTakePkts
  repeat' first | with_reducible assumption | with_reducible apply State.setNi_kept (wOff hm rfl) | with_reducible apply State.dropPkt_kept (wOff hm rfl) | with_reducible apply State.latBack_kept (wOff hm rfl) | with_reducible apply State.latHere_kept (wOff hm rfl) | with_reducible apply State.glTakePkt_kept (wOff hm rfl) | with_reducible apply Kept.ite | with_reducible refine Kept.foldl ?_ (fun _ _ _ => ?_) | with_reducible refine Kept.foldlIn Prod.snd ?_ (fun _ _ _ => ?_) | with_reducible refine Kept.foldlIn (fun p => p.2.2) ?_ (fun _ _ _ => ?_) | (refine Kept.sndEq (x := (State.glTakePkt _ _ _ _ _ _)) (by assumption) ?_) | dsimp only | split

theorem State.glTraffic_kept {s : State} {k} (hm : kK &&& 0x514000206 = 0)  (hk : Kept kK k0 kM s) :
    Kept kK k0 kM (State.glTraffic s k) := by
  unfold State.glTraffic
  repeat' first | with_reducible assumption | with_reducible apply State.setGlink_kept (wOff hm rfl) | with_reducible apply State.glSend_kept (wOff hm rfl) | with_reducible apply State.glTakeEssence_kept (wOff hm rfl) | with_reducible apply State.glTakePkts_kept (wOff hm rfl) | with_reducible refine Kept.foldl ?_ (fun _ _ _ => ?_) | with_reducible refine Kept.foldlIn Prod.snd ?_ (fun _ _ _ => ?_) | with_reducible refine Kept.foldlIn (fun p => p.2.2) ?_ (fun _ _ _ => ?_) | (refine Kept.sndEq (x := (State.glTakeEssence _ _ _ _)) (by assumption) ?_) | (refine Kept.sndEq (x := (State.glTakePkts _ _ _)) (by assumption) ?_) | dsimp only | split

theorem State.glRun_kept {s : State} {k} (hm : kK &&& 0x514000206 = 0)  (hk : Kept kK k0 kM s) :
    Kept kK k0 kM (State.glRun s k) := by
  unfold State.glRun
  repeat' first | with_reducible assumption | with_reducible apply State.glSend_kept (wOff hm rfl) | with_reducible apply State.glTraffic_kept (wOff hm rfl) | with_reducible apply Kept.ite | dsimp only | split

theorem State.latPost_kept {s : State} {dst} {path} {ws} (hm : kK &&& 0x10000000 = 0)  (hk : Kept kK k0 kM s) :
    KeptO kK k0 kM id (State.latPost s dst path ws) := by
  unfold State.latPost
  repeat' first | with_reducible assumption | with_reducible apply State.latRing_kept (wOff hm rfl) | with_reducible apply KeptO.some | exact KeptO.none | simp only [id] | dsimp only | split

theorem State.latReplies_kept {s : State} (hm : kK &&& 0x510008006 = 0)  (hk : Kept kK k0 kM s) :
    Kept kK k0 kM (State.latReplies s) := by
  unfold State.latReplies
  refine Kept.foldl hk (fun t r ht => ?_)
  have h : ∀ x, Kept kK k0 kM { t with hq := x } := fun x => Kept.up_hq (wOff hm rfl) ht
  have h2 := KeptO.getD (State.latPost_kept (wOff hm rfl) (h { t.hq with latOut := t.hq.latOut.erase r })
    (dst := r.1 % 65536) (path := backPath (r.1 / 65536)) (ws := cutReply r.2)) (h { t.hq with latOut := t.hq.latOut.erase r })
  exact Kept.ite (State.latTake_kept (wOff hm rfl) h2) h2

theorem State.relayTry_kept {s : State} {o} (hm : kK &&& 0x410008006 = 0)  (hk : Kept kK k0 kM s) :
    Kept kK k0 kM (State.relayTry s o) := by
  unfold State.relayTry
  repeat' first | with_reducible assumption | with_reducible apply State.putOp_kept (wOff hm rfl) | with_reducible apply State.latPost_kept (wOff hm rfl) | (refine KeptO.get (f := id) (o := (State.latPost _ _ _ _)) (by assumption) ?_) | dsimp only | split

theorem State.latticeRun_kept {s : State} (hm : kK &&& 0x514008206 = 0)  (hk : Kept kK k0 kM s) :
    Kept kK k0 kM (State.latticeRun s) := by
  unfold State.latticeRun
  repeat' first | with_reducible assumption | with_reducible apply State.glRun_kept (wOff hm rfl) | with_reducible apply State.latReplies_kept (wOff hm rfl) | with_reducible apply State.relayTry_kept (wOff hm rfl) | with_reducible refine Kept.foldl ?_ (fun _ _ _ => ?_) | with_reducible refine Kept.foldlIn Prod.snd ?_ (fun _ _ _ => ?_) | with_reducible refine Kept.foldlIn (fun p => p.2.2) ?_ (fun _ _ _ => ?_) | dsimp only | split

theorem State.takePosted_kept {s : State} {ws} (hm : kK &&& 0x10000000 = 0)  (hk : Kept kK k0 kM s) :
    Kept kK k0 kM (State.takePosted s ws) := by
  unfold State.takePosted
  repeat' first | with_reducible assumption | with_reducible apply State.setNi_kept (wOff hm rfl) | with_reducible apply State.creditPacket_kept (wOff hm rfl) | dsimp only | split

theorem execLatticeCommandReceive_kept {peer} {ws} {s : State} (hm : kK &&& 0x410008006 = 0)  (hk : Kept kK k0 kM s) :
    KeptR kK k0 kM (execLatticeCommandReceive peer ws s) := by
  unfold execLatticeCommandReceive
  repeat' first | with_reducible assumption | with_reducible apply State.latReceive_kept (wOff hm rfl) | with_reducible apply State.takePosted_kept (wOff hm rfl) | with_reducible apply KeptR.next | dsimp only | split

theorem State.discAsk_kept {s : State} {d} {addr} {hop} {op} {target} {ws} (hm : kK &&& 0x110000000 = 0)  (hk : Kept kK k0 kM s) :
    Kept kK k0 kM (State.discAsk s d addr hop op target ws) := by
  unfold State.discAsk
  exact KeptO.getD (State.latPost_kept (wOff hm rfl) (Kept.up_lat (wOff hm rfl) hk)) (Kept.up_lat (wOff hm rfl) hk)

theorem State.setRoute_kept {s : State} {e} {w2} {w3} (hm : kK &&& 0x100000000 = 0)  (hk : Kept kK k0 kM s) :
    Kept kK k0 kM (State.setRoute s e w2 w3) := by
  unfold State.setRoute
  repeat' first | with_reducible assumption | simp only [Kept.mk_lat (wOff hm rfl)] | dsimp only | split

theorem State.discStep_kept {s : State} {d} {limit} (hm : kK &&& 0x110000000 = 0)  (hk : Kept kK k0 kM s) :
    Kept kK k0 kM (State.discStep s d limit) := by
  unfold State.discStep
  repeat' first | with_reducible assumption | with_reducible apply State.discAsk_kept (wOff hm rfl) | with_reducible apply State.setRoute_kept (wOff hm rfl) | with_reducible apply Kept.ite | simp only [Kept.mk_lat (wOff hm rfl)] | dsimp only | split

theorem State.discRun_kept {a0} {a1 : State} (hm : kK &&& 0x110000000 = 0)  (hk : Kept kK k0 kM a1) :
    Kept kK k0 kM (State.discRun a0 a1) := by
  induction a0 generalizing a1 with
  | zero => exact hk
  | succ n ih =>
    unfold State.discRun
    split
    · exact Kept.ite hk (ih (State.discStep_kept (wOff hm rfl) hk))
    · exact hk

theorem State.discReply_kept {s : State} {d} {ws} (hm : kK &&& 0x110000000 = 0)  (hk : Kept kK k0 kM s) :
    Kept kK k0 kM (State.discReply s d ws) := by
  unfold State.discReply
  repeat' first | with_reducible assumption | with_reducible apply State.discRun_kept (wOff hm rfl) | with_reducible apply Kept.ite | simp only [Kept.mk_lat (wOff hm rfl)] | dsimp only | split

theorem execLatticeReplyReceive_kept {ws} {s : State} (hm : kK &&& 0x510008006 = 0)  (hk : Kept kK k0 kM s) :
    KeptR kK k0 kM (execLatticeReplyReceive ws s) := by
  unfold execLatticeReplyReceive
  repeat' first | with_reducible assumption | with_reducible apply State.complete_kept (wOff hm rfl) | with_reducible apply State.takePosted_kept (wOff hm rfl) | with_reducible apply State.discReply_kept (wOff hm rfl) | with_reducible apply Kept.ite | with_reducible apply KeptR.next | dsimp only | split

theorem execLatDiscoverCompletion_kept {s : State} (hm : kK &&& 0x701048016 = 0) (hM : Closed kM)  (hk : Kept kK k0 kM s) :
    KeptR kK k0 kM (execLatDiscoverCompletion s) := by
  unfold execLatDiscoverCompletion
  repeat' first | with_reducible assumption | with_reducible apply State.complete_kept (wOff hm rfl) | with_reducible apply State.stewardStore_kept (wOff hm rfl) hM | with_reducible apply Kept.ite | with_reducible apply KeptR.next | with_reducible refine Kept.foldl ?_ (fun _ _ _ => ?_) | with_reducible refine Kept.foldlIn Prod.snd ?_ (fun _ _ _ => ?_) | with_reducible refine Kept.foldlIn (fun p => p.2.2) ?_ (fun _ _ _ => ?_) | simp only [Kept.mk_lat (wOff hm rfl)] | dsimp only | split

theorem execLatDiscover_kept {c} {s : State} (hm : kK &&& 0x510008006 = 0)  (hk : Kept kK k0 kM s) :
    KeptR kK k0 kM (execLatDiscover c s) := by
  unfold execLatDiscover
  repeat' first | with_reducible assumption | with_reducible apply State.long_kept (wOff hm rfl) | with_reducible apply State.relayTry_kept (wOff hm rfl) | with_reducible apply State.discRun_kept (wOff hm rfl) | with_reducible apply Kept.ite | with_reducible apply KeptR.next | (intro u hu) | simp only [id] | simp only [Kept.mk_lat (wOff hm rfl)] | dsimp only | split

theorem execLatticeRequestTimeout_kept {who} {s : State} (hm : kK &&& 0x641cc8e36 = 0) (hM : Closed kM)  (hk : Kept kK k0 kM s) :
    KeptR kK k0 kM (execLatticeRequestTimeout who s) := by
  unfold execLatticeRequestTimeout
  repeat' first | with_reducible assumption | with_reducible apply State.failStage_kept (wOff hm rfl) hM | with_reducible apply State.dmaAbort_kept (wOff hm rfl) hM | with_reducible apply Kept.ite | with_reducible apply KeptR.next | dsimp only | split

theorem execLatAssign_kept {c} {s : State} (hm : kK &&& 0x100008002 = 0)  (hk : Kept kK k0 kM s) :
    KeptR kK k0 kM (execLatAssign c s) := by
  unfold execLatAssign
  repeat' first | with_reducible assumption | with_reducible apply State.immediate_kept (wOff hm rfl) | with_reducible apply Kept.ite | with_reducible apply KeptR.next | (intro u hu) | simp only [id] | simp only [Kept.mk_lat (wOff hm rfl)] | dsimp only | split

theorem execLatAssignQuery_kept {c} {s : State} (hm : kK &&& 0x8000 = 0)  (hk : Kept kK k0 kM s) :
    KeptR kK k0 kM (execLatAssignQuery c s) := by
  unfold execLatAssignQuery
  repeat' first | with_reducible assumption | with_reducible refine State.immediate_kept_quiet (wOff hm rfl) (fun _ _ => State.retriesFail_silent (by decide)) ?_ ?_ | with_reducible apply KeptR.next | (intro u hu) | simp only [id] | dsimp only | split

theorem execLatRouteSet_kept {c} {s : State} (hm : kK &&& 0x500008006 = 0)  (hk : Kept kK k0 kM s) :
    KeptR kK k0 kM (execLatRouteSet c s) := by
  unfold execLatRouteSet
  repeat' first | with_reducible assumption | with_reducible apply State.immediate_kept (wOff hm rfl) | with_reducible apply State.glEnable_kept (wOff hm rfl) | with_reducible apply State.glDisable_kept (wOff hm rfl) | with_reducible apply State.setRoute_kept (wOff hm rfl) | with_reducible apply Kept.ite | with_reducible apply KeptR.next | (intro u hu) | simp only [id] | dsimp only | split

theorem execLatRouteSetQuery_kept {c} {s : State} (hm : kK &&& 0x8000 = 0)  (hk : Kept kK k0 kM s) :
    KeptR kK k0 kM (execLatRouteSetQuery c s) := by
  unfold execLatRouteSetQuery
  repeat' first | with_reducible assumption | with_reducible refine State.immediate_kept_quiet (wOff hm rfl) (fun _ _ => State.retriesFail_silent (by decide)) ?_ ?_ | with_reducible apply Kept.ite | with_reducible apply KeptR.next | (intro u hu) | simp only [id] | dsimp only | split

theorem execLinkRecordReapply_kept {k} {s : State} (hm : kK &&& 0x500000006 = 0)  (hk : Kept kK k0 kM s) :
    KeptR kK k0 kM (execLinkRecordReapply k s) := by
  unfold execLinkRecordReapply
  repeat' first | with_reducible assumption | with_reducible apply State.glEnable_kept (wOff hm rfl) | with_reducible apply Kept.ite | with_reducible apply KeptR.next | dsimp only | split

end Sys2Proof.Machine
end

