-- ==== Sys2Proof/Laws/KeptDebug.lean ====
section
/-! SUPPORT. The operations of Sys2Proof/Machine/Debug.lean leave alone what `Kept` names. -/
namespace Sys2Proof.Machine
set_option linter.unusedSimpArgs false
set_option linter.unusedVariables false
variable {kK : Nat} {k0 : State} {kM : List Host.Cell → Prop}

theorem State.dbgWrite_kept {s : State} {w} {off} {act : State → State} (hm : kK &&& 0x202 = 0) (hf0 : ∀ u, Kept kK k0 kM u → Kept kK k0 kM (act u)) (hk : Kept kK k0 kM s) :
    Kept kK k0 kM (State.dbgWrite s w off act) := by
  unfold State.dbgWrite
  repeat' first | with_reducible assumption | with_reducible apply hf0 | with_reducible apply State.busError_kept (wOff hm rfl) | with_reducible apply State.busDead_kept (wOff hm rfl) | with_reducible apply Kept.ite | dsimp only | split

theorem State.dbgOwned_kept {s : State} {w} {right} {act : State → State} (hm : kK &&& 0x2 = 0) (hf0 : ∀ u, Kept kK k0 kM u → Kept kK k0 kM (act u)) (hk : Kept kK k0 kM s) :
    Kept kK k0 kM (State.dbgOwned s w right act) := by
  unfold State.dbgOwned
  repeat' first | with_reducible assumption | with_reducible apply hf0 | with_reducible apply State.raise_kept (wOff hm rfl) | with_reducible apply Kept.ite | dsimp only | split

theorem State.cueTook_kept {s : State} {n} {regs} (hm : kK &&& 0x200000000 = 0)  (hk : Kept kK k0 kM s) :
    Kept kK k0 kM (State.cueTook s n regs) := by
  unfold State.cueTook
  repeat' first | with_reducible assumption | with_reducible apply State.setCueReg_kept (wOff hm rfl) | with_reducible apply Kept.ite | with_reducible refine Kept.foldl ?_ (fun _ _ _ => ?_) | with_reducible refine Kept.foldlIn Prod.snd ?_ (fun _ _ _ => ?_) | with_reducible refine Kept.foldlIn (fun p => p.2.2) ?_ (fun _ _ _ => ?_) | dsimp only | split

theorem State.haltCue_kept {s : State} {n} {reason} {regs} (hm : kK &&& 0x600000006 = 0)  (hk : Kept kK k0 kM s) :
    Kept kK k0 kM (State.haltCue s n reason regs) := by
  unfold State.haltCue
  repeat' first | with_reducible assumption | with_reducible apply State.setF_kept (wOff hm rfl) | with_reducible apply State.setCueX_kept (wOff hm rfl) | with_reducible apply State.toCue_kept (wOff hm rfl) | with_reducible apply State.cueTook_kept (wOff hm rfl) | with_reducible apply Kept.ite | dsimp only | split

theorem State.resumeCue_kept {s : State} {n} (hm : kK &&& 0x600000006 = 0)  (hk : Kept kK k0 kM s) :
    Kept kK k0 kM (State.resumeCue s n) := by
  unfold State.resumeCue
  repeat' first | with_reducible assumption | with_reducible apply State.toCue_kept (wOff hm rfl) | with_reducible apply Kept.ite | dsimp only | split

theorem State.stepCue_kept {s : State} {n} {regs} (hm : kK &&& 0x600000006 = 0)  (hk : Kept kK k0 kM s) :
    Kept kK k0 kM (State.stepCue s n regs) := by
  unfold State.stepCue
  repeat' first | with_reducible assumption | with_reducible apply State.haltCue_kept (wOff hm rfl) | with_reducible apply State.resumeCue_kept (wOff hm rfl) | with_reducible apply Kept.ite | dsimp only | split

theorem State.runWrite_kept {s : State} {w} {n} {v} {regs} (hm : kK &&& 0x600000006 = 0)  (hk : Kept kK k0 kM s) :
    Kept kK k0 kM (State.runWrite s w n v regs) := by
  unfold State.runWrite
  repeat' first | with_reducible assumption | with_reducible apply State.setF_kept (wOff hm rfl) | with_reducible apply State.dbgOwned_kept (wOff hm rfl) | with_reducible apply State.haltCue_kept (wOff hm rfl) | with_reducible apply State.resumeCue_kept (wOff hm rfl) | with_reducible apply State.stepCue_kept (wOff hm rfl) | with_reducible apply Kept.ite | (intro u hu) | simp only [id] | dsimp only | split

theorem State.groupWrite_kept {s : State} {w} {v} {regs} (hm : kK &&& 0x600000006 = 0)  (hk : Kept kK k0 kM s) :
    Kept kK k0 kM (State.groupWrite s w v regs) := by
  unfold State.groupWrite
  repeat' first | with_reducible assumption | with_reducible apply State.dbgOwned_kept (wOff hm rfl) | with_reducible apply State.haltCue_kept (wOff hm rfl) | with_reducible apply State.resumeCue_kept (wOff hm rfl) | with_reducible apply Kept.ite | with_reducible refine Kept.foldl ?_ (fun _ _ _ => ?_) | with_reducible refine Kept.foldlIn Prod.snd ?_ (fun _ _ _ => ?_) | with_reducible refine Kept.foldlIn (fun p => p.2.2) ?_ (fun _ _ _ => ?_) | (intro u hu) | simp only [id] | dsimp only | split

theorem execDbgHalt_kept {w} {n} {v} {regs} {s : State} (hm : kK &&& 0x600000206 = 0)  (hk : Kept kK k0 kM s) :
    KeptR kK k0 kM (execDbgHalt w n v regs s) := by
  unfold execDbgHalt
  repeat' first | with_reducible assumption | with_reducible apply State.dbgWrite_kept (wOff hm rfl) | with_reducible apply State.runWrite_kept (wOff hm rfl) | with_reducible apply KeptR.next | (intro u hu) | simp only [id] | dsimp only | split

theorem execDbgResume_kept {w} {n} {v} {s : State} (hm : kK &&& 0x600000206 = 0)  (hk : Kept kK k0 kM s) :
    KeptR kK k0 kM (execDbgResume w n v s) := by
  unfold execDbgResume
  repeat' first | with_reducible assumption | with_reducible apply State.dbgWrite_kept (wOff hm rfl) | with_reducible apply State.runWrite_kept (wOff hm rfl) | with_reducible apply KeptR.next | (intro u hu) | simp only [id] | dsimp only | split

theorem execDbgStep_kept {w} {n} {v} {regs} {s : State} (hm : kK &&& 0x600000206 = 0)  (hk : Kept kK k0 kM s) :
    KeptR kK k0 kM (execDbgStep w n v regs s) := by
  unfold execDbgStep
  repeat' first | with_reducible assumption | with_reducible apply State.dbgWrite_kept (wOff hm rfl) | with_reducible apply State.runWrite_kept (wOff hm rfl) | with_reducible apply KeptR.next | (intro u hu) | simp only [id] | dsimp only | split

theorem execDbgGroupHalt_kept {w} {mask} {regs} {s : State} (hm : kK &&& 0x600000206 = 0)  (hk : Kept kK k0 kM s) :
    KeptR kK k0 kM (execDbgGroupHalt w mask regs s) := by
  unfold execDbgGroupHalt
  repeat' first | with_reducible assumption | with_reducible apply State.dbgWrite_kept (wOff hm rfl) | with_reducible apply State.groupWrite_kept (wOff hm rfl) | with_reducible apply KeptR.next | (intro u hu) | simp only [id] | dsimp only | split

theorem execDbgGroupResume_kept {w} {mask} {s : State} (hm : kK &&& 0x600000206 = 0)  (hk : Kept kK k0 kM s) :
    KeptR kK k0 kM (execDbgGroupResume w mask s) := by
  unfold execDbgGroupResume
  repeat' first | with_reducible assumption | with_reducible apply State.dbgWrite_kept (wOff hm rfl) | with_reducible apply State.groupWrite_kept (wOff hm rfl) | with_reducible apply KeptR.next | (intro u hu) | simp only [id] | dsimp only | split

theorem execBreakpointHit_kept {n} {k} {kind} {addr} {regs} {s : State} (hm : kK &&& 0x600000006 = 0)  (hk : Kept kK k0 kM s) :
    KeptR kK k0 kM (execBreakpointHit n k kind addr regs s) := by
  unfold execBreakpointHit
  repeat' first | with_reducible assumption | with_reducible apply State.haltCue_kept (wOff hm rfl) | with_reducible apply Kept.ite | with_reducible apply KeptR.next | dsimp only | split

theorem State.cregWrite_kept {s : State} {w} {n} {v} (hm : kK &&& 0x200000002 = 0)  (hk : Kept kK k0 kM s) :
    Kept kK k0 kM (State.cregWrite s w n v) := by
  unfold State.cregWrite
  repeat' first | with_reducible assumption | with_reducible apply State.setF_kept (wOff hm rfl) | with_reducible apply State.raise_kept (wOff hm rfl) | with_reducible apply State.lower_kept (wOff hm rfl) | with_reducible apply State.setCueReg_kept (wOff hm rfl) | with_reducible apply State.dbgOwned_kept (wOff hm rfl) | with_reducible apply Kept.ite | (intro u hu) | simp only [id] | dsimp only | split

theorem execDbgCregGo_kept {w} {n} {v} {s : State} (hm : kK &&& 0x200000202 = 0)  (hk : Kept kK k0 kM s) :
    KeptR kK k0 kM (execDbgCregGo w n v s) := by
  unfold execDbgCregGo
  repeat' first | with_reducible assumption | with_reducible apply State.dbgWrite_kept (wOff hm rfl) | with_reducible apply State.cregWrite_kept (wOff hm rfl) | with_reducible apply KeptR.next | (intro u hu) | simp only [id] | dsimp only | split

theorem State.noteCue_kept {s : State} {n} {on} (hm : kK &&& 0x2 = 0)  (hk : Kept kK k0 kM s) :
    Kept kK k0 kM (State.noteCue s n on) := by
  unfold State.noteCue
  repeat' first | with_reducible assumption | with_reducible apply State.setBitOf_kept (wOff hm rfl) | dsimp only | split

theorem State.noteFacet_kept {s : State} {f} {on} (hm : kK &&& 0x2 = 0)  (hk : Kept kK k0 kM s) :
    Kept kK k0 kM (State.noteFacet s f on) := by
  unfold State.noteFacet
  repeat' first | with_reducible assumption | with_reducible apply State.setBitOf_kept (wOff hm rfl) | with_reducible apply Kept.ite | dsimp only | split

theorem State.emulCue_kept {s : State} {n} {off} (hm : kK &&& 0x600000006 = 0)  (hk : Kept kK k0 kM s) :
    Kept kK k0 kM (State.emulCue s n off) := by
  unfold State.emulCue
  repeat' first | with_reducible assumption | with_reducible apply State.setF_kept (wOff hm rfl) | with_reducible apply State.setCueX_kept (wOff hm rfl) | with_reducible apply State.toCue_kept (wOff hm rfl) | with_reducible apply State.resetCue_kept (wOff hm rfl) | with_reducible apply State.noteCue_kept (wOff hm rfl) | with_reducible apply Kept.ite | dsimp only | split

theorem State.emulFacet_kept {s : State} {f} {off} (hm : kK &&& 0x10480202 = 0)  (hk : Kept kK k0 kM s) :
    Kept kK k0 kM (State.emulFacet s f off) := by
  unfold State.emulFacet
  repeat' first | with_reducible assumption | with_reducible apply State.hold_kept (wOff hm rfl) | with_reducible apply State.invalidate_kept (wOff hm rfl) | with_reducible apply State.toFacet_kept (wOff hm rfl) | with_reducible apply State.endRegport_kept (wOff hm rfl) | with_reducible apply State.facetStop_kept (wOff hm rfl) | with_reducible apply State.noteFacet_kept (wOff hm rfl) | with_reducible apply Kept.ite | dsimp only | split

theorem State.endCueEmul_kept {s : State} {n} (hm : kK &&& 0x600020016 = 0) (hM : Closed kM)  (hk : Kept kK k0 kM s) :
    Kept kK k0 kM (State.endCueEmul s n) := by
  unfold State.endCueEmul
  repeat' first | with_reducible assumption | with_reducible apply State.setCueX_kept (wOff hm rfl) | with_reducible apply State.zero_kept (wOff hm rfl) hM | with_reducible apply State.reachDom_kept (wOff hm rfl) | with_reducible apply State.cueLost_kept (wOff hm rfl) hM | with_reducible apply State.noteCue_kept (wOff hm rfl) | with_reducible apply Kept.ite | simp only [Kept.mk_regs (wOff hm rfl)] | dsimp only | split

theorem State.endFacetEmul_kept {s : State} {f} (hm : kK &&& 0x410fa8206 = 0)  (hk : Kept kK k0 kM s) :
    Kept kK k0 kM (State.endFacetEmul s f) := by
  unfold State.endFacetEmul
  repeat' first | with_reducible assumption | with_reducible apply State.reachDom_kept (wOff hm rfl) | with_reducible apply State.facetLost_kept (wOff hm rfl) | with_reducible apply State.noteFacet_kept (wOff hm rfl) | with_reducible apply Kept.ite | dsimp only | split

theorem State.endEmulation_kept {s : State} (hm : kK &&& 0x610fa8216 = 0) (hM : Closed kM)  (hk : Kept kK k0 kM s) :
    Kept kK k0 kM (State.endEmulation s) := by
  unfold State.endEmulation
  repeat' first | with_reducible assumption | with_reducible apply State.endCueEmul_kept (wOff hm rfl) hM | with_reducible apply State.endFacetEmul_kept (wOff hm rfl) | with_reducible refine Kept.foldl ?_ (fun _ _ _ => ?_) | with_reducible refine Kept.foldlIn Prod.snd ?_ (fun _ _ _ => ?_) | with_reducible refine Kept.foldlIn (fun p => p.2.2) ?_ (fun _ _ _ => ?_) | dsimp only | split

theorem State.holdCueWrite_kept {s : State} {w} {v} (hm : kK &&& 0x600020016 = 0) (hM : Closed kM)  (hk : Kept kK k0 kM s) :
    Kept kK k0 kM (State.holdCueWrite s w v) := by
  unfold State.holdCueWrite
  repeat' first | with_reducible assumption | with_reducible apply State.setF_kept (wOff hm rfl) | with_reducible apply State.dbgOwned_kept (wOff hm rfl) | with_reducible apply State.endCueEmul_kept (wOff hm rfl) hM | with_reducible apply Kept.ite | with_reducible refine Kept.foldl ?_ (fun _ _ _ => ?_) | with_reducible refine Kept.foldlIn Prod.snd ?_ (fun _ _ _ => ?_) | with_reducible refine Kept.foldlIn (fun p => p.2.2) ?_ (fun _ _ _ => ?_) | (intro u hu) | simp only [id] | dsimp only | split

theorem State.holdFWrite_kept {s : State} {w} {hi} {v} (hm : kK &&& 0x410fa8206 = 0)  (hk : Kept kK k0 kM s) :
    Kept kK k0 kM (State.holdFWrite s w hi v) := by
  unfold State.holdFWrite
  repeat' first | with_reducible assumption | with_reducible apply State.setF_kept (wOff hm rfl) | with_reducible apply State.dbgOwned_kept (wOff hm rfl) | with_reducible apply State.endFacetEmul_kept (wOff hm rfl) | with_reducible apply Kept.ite | with_reducible refine Kept.foldl ?_ (fun _ _ _ => ?_) | with_reducible refine Kept.foldlIn Prod.snd ?_ (fun _ _ _ => ?_) | with_reducible refine Kept.foldlIn (fun p => p.2.2) ?_ (fun _ _ _ => ?_) | (intro u hu) | simp only [id] | dsimp only | split

theorem execDbgHoldCueWrite_kept {w} {v} {s : State} (hm : kK &&& 0x600020216 = 0) (hM : Closed kM)  (hk : Kept kK k0 kM s) :
    KeptR kK k0 kM (execDbgHoldCueWrite w v s) := by
  unfold execDbgHoldCueWrite
  repeat' first | with_reducible assumption | with_reducible apply State.dbgWrite_kept (wOff hm rfl) | with_reducible apply State.holdCueWrite_kept (wOff hm rfl) hM | with_reducible apply KeptR.next | (intro u hu) | simp only [id] | dsimp only | split

theorem execDbgHoldFWrite_kept {w} {hi} {v} {s : State} (hm : kK &&& 0x410fa8206 = 0)  (hk : Kept kK k0 kM s) :
    KeptR kK k0 kM (execDbgHoldFWrite w hi v s) := by
  unfold execDbgHoldFWrite
  repeat' first | with_reducible assumption | with_reducible apply State.dbgWrite_kept (wOff hm rfl) | with_reducible apply State.holdFWrite_kept (wOff hm rfl) | with_reducible apply Kept.ite | with_reducible apply KeptR.next | (intro u hu) | simp only [id] | dsimp only | split

theorem State.setRights_kept {s : State} {r} {expiry} (hm : kK &&& 0x610fa8216 = 0) (hM : Closed kM)  (hk : Kept kK k0 kM s) :
    Kept kK k0 kM (State.setRights s r expiry) := by
  unfold State.setRights
  repeat' first | with_reducible assumption | with_reducible apply State.setF_kept (wOff hm rfl) | with_reducible apply State.resumeCue_kept (wOff hm rfl) | with_reducible apply State.endEmulation_kept (wOff hm rfl) hM | with_reducible apply Kept.ite | with_reducible refine Kept.foldl ?_ (fun _ _ _ => ?_) | with_reducible refine Kept.foldlIn Prod.snd ?_ (fun _ _ _ => ?_) | with_reducible refine Kept.foldlIn (fun p => p.2.2) ?_ (fun _ _ _ => ?_) | simp only [Kept.mk_dbg (wOff hm rfl)] | dsimp only | split

theorem State.endRights_kept {s : State} (hm : kK &&& 0x610fa8216 = 0) (hM : Closed kM)  (hk : Kept kK k0 kM s) :
    Kept kK k0 kM (State.endRights s) := by
  unfold State.endRights
  repeat' first | with_reducible assumption | with_reducible apply State.raise_kept (wOff hm rfl) | with_reducible apply State.setRights_kept (wOff hm rfl) hM | with_reducible apply Kept.ite | dsimp only | split

theorem execDbgChallenge_kept {c} {s : State} (hm : kK &&& 0x400008000 = 0)  (hk : Kept kK k0 kM s) :
    KeptR kK k0 kM (execDbgChallenge c s) := by
  unfold execDbgChallenge
  repeat' first | with_reducible assumption | refine State.immediate_kept_quiet (wOff hm rfl) (fun h _ => State.retriesFail_dieC (Cmd.aims_dieC h) (by decide)) ?_ ?_ | with_reducible apply KeptR.next | (intro u hu) | simp only [id] | simp only [Kept.mk_dbg (wOff hm rfl)] | dsimp only | split

theorem execNonceExpiry_kept {s : State} (hm : kK &&& 0x440000c00 = 0)  (hk : Kept kK k0 kM s) :
    KeptR kK k0 kM (execNonceExpiry s) := by
  unfold execNonceExpiry
  repeat' first | with_reducible assumption | with_reducible apply State.reachNow_kept (wOff hm rfl) | with_reducible apply KeptR.next | simp only [Kept.mk_dbg (wOff hm rfl)] | dsimp only | split

theorem execDbgUnlock_kept {c} {s : State} (hm : kK &&& 0x610fa8216 = 0) (hM : Closed kM)  (hk : Kept kK k0 kM s) :
    KeptR kK k0 kM (execDbgUnlock c s) := by
  unfold execDbgUnlock
  repeat' first | with_reducible assumption | with_reducible apply State.raise_kept (wOff hm rfl) | with_reducible apply State.take_kept (wOff hm rfl) | with_reducible apply State.answer_kept (wOff hm rfl) | with_reducible apply State.answerRefused_kept (wOff hm rfl) | with_reducible apply State.setRights_kept (wOff hm rfl) hM | with_reducible apply Kept.ite | with_reducible apply KeptR.next | simp only [Kept.mk_dbg (wOff hm rfl)] | dsimp only | split

theorem execRightsExpiry_kept {s : State} (hm : kK &&& 0x650fa8e16 = 0) (hM : Closed kM)  (hk : Kept kK k0 kM s) :
    KeptR kK k0 kM (execRightsExpiry s) := by
  unfold execRightsExpiry
  repeat' first | with_reducible assumption | with_reducible apply State.reachNow_kept (wOff hm rfl) | with_reducible apply State.endRights_kept (wOff hm rfl) hM | with_reducible apply KeptR.next | dsimp only | split

theorem State.dbgCtl_kept {s : State} {v} (hm : kK &&& 0x610fa8216 = 0) (hM : Closed kM)  (hk : Kept kK k0 kM s) :
    Kept kK k0 kM (State.dbgCtl s v) := by
  unfold State.dbgCtl
  repeat' first | with_reducible assumption | with_reducible apply State.setF_kept (wOff hm rfl) | with_reducible apply State.endRights_kept (wOff hm rfl) hM | with_reducible apply Kept.ite | dsimp only | split

theorem execDbgRelock_kept {w} {owner} {s : State} (hm : kK &&& 0x610fa8216 = 0) (hM : Closed kM)  (hk : Kept kK k0 kM s) :
    KeptR kK k0 kM (execDbgRelock w owner s) := by
  unfold execDbgRelock
  repeat' first | with_reducible assumption | with_reducible apply State.dbgWrite_kept (wOff hm rfl) | with_reducible apply State.dbgCtl_kept (wOff hm rfl) hM | with_reducible apply KeptR.next | (intro u hu) | simp only [id] | dsimp only | split

theorem execVccDbgRise_kept {s : State} (hm : kK &&& 0x40000000e = 0)  (hk : Kept kK k0 kM s) :
    KeptR kK k0 kM (execVccDbgRise s) := by
  unfold execVccDbgRise
  repeat' first | with_reducible assumption | with_reducible apply State.setF_kept (wOff hm rfl) | with_reducible apply State.clearRegs_kept (wOff hm rfl) | with_reducible apply State.clearCounters_kept (wOff hm rfl) | with_reducible apply Kept.ite | with_reducible apply KeptR.next | simp only [Kept.mk_dbg (wOff hm rfl)] | dsimp only | split

theorem execVccDbgLoss_kept {s : State} (hm : kK &&& 0x610fa821e = 0) (hM : Closed kM)  (hk : Kept kK k0 kM s) :
    KeptR kK k0 kM (execVccDbgLoss s) := by
  unfold execVccDbgLoss
  repeat' first | with_reducible assumption | with_reducible apply State.clearRegs_kept (wOff hm rfl) | with_reducible apply State.clearCounters_kept (wOff hm rfl) | with_reducible apply State.setRights_kept (wOff hm rfl) hM | with_reducible apply Kept.ite | with_reducible apply KeptR.next | simp only [Kept.mk_dbg (wOff hm rfl)] | dsimp only | split

theorem State.tapLoad_kept {s : State} {i} (hm : kK &&& 0x400000000 = 0)  (hk : Kept kK k0 kM s) :
    Kept kK k0 kM (State.tapLoad s i) := by
  unfold State.tapLoad
  repeat' first | with_reducible assumption | with_reducible apply Kept.ite | simp only [Kept.mk_dbg (wOff hm rfl)] | dsimp only | split

theorem State.tapBypass_kept {s : State} {i} (hm : kK &&& 0x400000200 = 0)  (hk : Kept kK k0 kM s) :
    Kept kK k0 kM (State.tapBypass s i) := by
  unfold State.tapBypass
  repeat' first | with_reducible assumption | with_reducible apply State.emit_kept (wOff hm rfl) | with_reducible apply State.tapLoad_kept (wOff hm rfl) | with_reducible apply Kept.ite | dsimp only | split

theorem State.tapScan_kept {s : State} {i} {pins} {v} (hm : kK &&& 0x400000200 = 0)  (hk : Kept kK k0 kM s) :
    Kept kK k0 kM (State.tapScan s i pins v) := by
  unfold State.tapScan
  repeat' first | with_reducible assumption | with_reducible apply State.emit_kept (wOff hm rfl) | with_reducible apply State.tapLoad_kept (wOff hm rfl) | with_reducible apply State.tapBypass_kept (wOff hm rfl) | with_reducible apply Kept.ite | simp only [Kept.mk_dbg (wOff hm rfl)] | dsimp only | split

theorem execTestLogicReset_kept {s : State} (hm : kK &&& 0x400000000 = 0)  (hk : Kept kK k0 kM s) :
    KeptR kK k0 kM (execTestLogicReset s) := by
  unfold execTestLogicReset
  repeat' first | with_reducible assumption | with_reducible apply State.tapLoad_kept (wOff hm rfl) | with_reducible apply Kept.ite | with_reducible apply KeptR.next | dsimp only | split

theorem execExtest_kept {pins} {v} {s : State} (hm : kK &&& 0x400000200 = 0)  (hk : Kept kK k0 kM s) :
    KeptR kK k0 kM (execExtest pins v s) := by
  unfold execExtest
  repeat' first | with_reducible assumption | with_reducible apply State.tapScan_kept (wOff hm rfl) | with_reducible apply KeptR.next | dsimp only | split

theorem execIdcode_kept {s : State} (hm : kK &&& 0x400000200 = 0)  (hk : Kept kK k0 kM s) :
    KeptR kK k0 kM (execIdcode s) := by
  unfold execIdcode
  repeat' first | with_reducible assumption | with_reducible apply State.emit_kept (wOff hm rfl) | with_reducible apply State.tapLoad_kept (wOff hm rfl) | with_reducible apply Kept.ite | with_reducible apply KeptR.next | dsimp only | split

theorem execSamplePreload_kept {pins} {v} {s : State} (hm : kK &&& 0x400000200 = 0)  (hk : Kept kK k0 kM s) :
    KeptR kK k0 kM (execSamplePreload pins v s) := by
  unfold execSamplePreload
  repeat' first | with_reducible assumption | with_reducible apply State.tapScan_kept (wOff hm rfl) | with_reducible apply KeptR.next | dsimp only | split

theorem execClamp_kept {s : State} (hm : kK &&& 0x400000200 = 0)  (hk : Kept kK k0 kM s) :
    KeptR kK k0 kM (execClamp s) := by
  unfold execClamp
  repeat' first | with_reducible assumption | with_reducible apply State.tapBypass_kept (wOff hm rfl) | with_reducible apply KeptR.next | dsimp only | split

theorem execHighz_kept {s : State} (hm : kK &&& 0x400000200 = 0)  (hk : Kept kK k0 kM s) :
    KeptR kK k0 kM (execHighz s) := by
  unfold execHighz
  repeat' first | with_reducible assumption | with_reducible apply State.tapBypass_kept (wOff hm rfl) | with_reducible apply KeptR.next | dsimp only | split

theorem execExtestPulse_kept {pins} {v} {s : State} (hm : kK &&& 0x400000200 = 0)  (hk : Kept kK k0 kM s) :
    KeptR kK k0 kM (execExtestPulse pins v s) := by
  unfold execExtestPulse
  repeat' first | with_reducible assumption | with_reducible apply State.tapScan_kept (wOff hm rfl) | with_reducible apply KeptR.next | dsimp only | split

theorem execExtestTrain_kept {pins} {v} {s : State} (hm : kK &&& 0x400000200 = 0)  (hk : Kept kK k0 kM s) :
    KeptR kK k0 kM (execExtestTrain pins v s) := by
  unfold execExtestTrain
  repeat' first | with_reducible assumption | with_reducible apply State.tapScan_kept (wOff hm rfl) | with_reducible apply KeptR.next | dsimp only | split

theorem execBypass_kept {s : State} (hm : kK &&& 0x400000200 = 0)  (hk : Kept kK k0 kM s) :
    KeptR kK k0 kM (execBypass s) := by
  unfold execBypass
  repeat' first | with_reducible assumption | with_reducible apply State.tapBypass_kept (wOff hm rfl) | with_reducible apply KeptR.next | dsimp only | split

theorem State.stim_kept {s : State} {w} {p} {v} (hm : kK &&& 0x400000006 = 0)  (hk : Kept kK k0 kM s) :
    Kept kK k0 kM (State.stim s w p v) := by
  unfold State.stim
  repeat' first | with_reducible assumption | with_reducible apply State.traceFrom_kept (wOff hm rfl) | with_reducible apply Kept.ite | dsimp only | split

theorem execDbgStimWrite_kept {w} {p} {v} {s : State} (hm : kK &&& 0x400000206 = 0)  (hk : Kept kK k0 kM s) :
    KeptR kK k0 kM (execDbgStimWrite w p v s) := by
  unfold execDbgStimWrite
  repeat' first | with_reducible assumption | with_reducible apply State.dbgWrite_kept (wOff hm rfl) | with_reducible apply State.stim_kept (wOff hm rfl) | with_reducible apply KeptR.next | (intro u hu) | simp only [id] | dsimp only | split

theorem execPcSample_kept {pcs} {s : State} (hm : kK &&& 0x400000006 = 0)  (hk : Kept kK k0 kM s) :
    KeptR kK k0 kM (execPcSample pcs s) := by
  unfold execPcSample
  repeat' first | with_reducible assumption | with_reducible apply State.tracePacket_kept (wOff hm rfl) | with_reducible apply Kept.ite | with_reducible apply KeptR.next | with_reducible refine Kept.foldl ?_ (fun _ _ _ => ?_) | with_reducible refine Kept.foldlIn Prod.snd ?_ (fun _ _ _ => ?_) | with_reducible refine Kept.foldlIn (fun p => p.2.2) ?_ (fun _ _ _ => ?_) | dsimp only | split

theorem expWritten_kept {w} (hm : kK &&& 0x0 = 0)   (hw : Kept kK k0 kM w.2) :
    Kept kK k0 kM (expWritten w).2 := by
  exact hw

theorem State.expStore_kept {s : State} {a} {bs} {es} {ans} (hm : kK &&& 0x6410c0e16 = 0) (hM : Closed kM)  (hk : Kept kK k0 kM s) :
    Kept kK k0 kM (State.expStore s a bs es ans).2 := by
  unfold State.expStore
  exact Kept.iteIn Prod.snd (α := Bool × State) (expWritten_kept (wOff hm rfl) (State.fmWrite_kept (wOff hm rfl) hM hk)) (Kept.iteIn Prod.snd (α := Bool × State) (Kept.snd2 (State.windowBurst_kept (wOff hm rfl) hk)) (Kept.iteIn Prod.snd (α := Bool × State) (Kept.snd2 hk) (Kept.iteIn Prod.snd (α := Bool × State) (Kept.snd2 (State.store_kept (wOff hm rfl) hM hk)) (Kept.snd2 hk))))

theorem exported_kept {next} {r} (hm : kK &&& 0x400000002 = 0)   (hr : Kept kK k0 kM r.2) :
    Kept kK k0 kM (exported next r) := by
  unfold exported
  repeat' first | with_reducible assumption | with_reducible apply State.setF_kept (wOff hm rfl) | with_reducible apply State.raise_kept (wOff hm rfl) | with_reducible apply Kept.ite | simp only [Kept.mk_dbg (wOff hm rfl)] | dsimp only | split

theorem State.exportPacket_kept {s : State} {v} {es} {ans} (hm : kK &&& 0x6410c0e16 = 0) (hM : Closed kM)  (hk : Kept kK k0 kM s) :
    Kept kK k0 kM (State.exportPacket s v es ans) := by
  unfold State.exportPacket
  repeat' first | with_reducible assumption | with_reducible apply State.expStore_kept (wOff hm rfl) hM | with_reducible apply exported_kept (wOff hm rfl) | with_reducible apply Kept.ite | (refine Kept.sndEq (x := (State.expStore _ _ _ _ _)) (by assumption) ?_) | dsimp only | split

theorem State.storePacket_kept {s : State} {p} {es} {ans} (hm : kK &&& 0x6410c0e16 = 0) (hM : Closed kM)  (hk : Kept kK k0 kM s) :
    Kept kK k0 kM (State.storePacket s p es ans) := by
  unfold State.storePacket
  repeat' first | with_reducible assumption | with_reducible apply State.setF_kept (wOff hm rfl) | with_reducible apply State.raise_kept (wOff hm rfl) | with_reducible apply State.dbgCount_kept (wOff hm rfl) | with_reducible apply State.stopAfter_kept (wOff hm rfl) | with_reducible apply State.exportPacket_kept (wOff hm rfl) hM | with_reducible apply Kept.ite | simp only [Kept.mk_dbg (wOff hm rfl)] | dsimp only | split

theorem execTracePacketStore_kept {es} {ans} {s : State} (hm : kK &&& 0x6410c0e16 = 0) (hM : Closed kM)  (hk : Kept kK k0 kM s) :
    KeptR kK k0 kM (execTracePacketStore es ans s) := by
  unfold execTracePacketStore
  repeat' first | with_reducible assumption | with_reducible apply State.storePacket_kept (wOff hm rfl) hM | with_reducible apply Kept.ite | with_reducible apply KeptR.next | simp only [Kept.mk_dbg (wOff hm rfl)] | dsimp only | split

theorem State.trcCtl_kept {s : State} {w} {v} (hm : kK &&& 0x400000002 = 0)  (hk : Kept kK k0 kM s) :
    Kept kK k0 kM (State.trcCtl s w v) := by
  unfold State.trcCtl
  repeat' first | with_reducible assumption | with_reducible apply State.setF_kept (wOff hm rfl) | with_reducible apply State.lower_kept (wOff hm rfl) | with_reducible apply State.dbgOwned_kept (wOff hm rfl) | with_reducible apply Kept.ite | (intro u hu) | simp only [id] | simp only [Kept.mk_dbg (wOff hm rfl)] | dsimp only | split

theorem execDbgTrcClear_kept {w} {v} {s : State} (hm : kK &&& 0x400000202 = 0)  (hk : Kept kK k0 kM s) :
    KeptR kK k0 kM (execDbgTrcClear w v s) := by
  unfold execDbgTrcClear
  repeat' first | with_reducible assumption | with_reducible apply State.dbgWrite_kept (wOff hm rfl) | with_reducible apply State.trcCtl_kept (wOff hm rfl) | with_reducible apply KeptR.next | (intro u hu) | simp only [id] | dsimp only | split

end Sys2Proof.Machine
end

