-- ==== Sys2Proof/Laws/KeptReset.lean ====
section
/-! SUPPORT. The operations of Sys2Proof/Machine/Reset.lean leave alone what `Kept` names. -/
namespace Sys2Proof.Machine
set_option linter.unusedSimpArgs false
set_option linter.unusedVariables false
variable {kK : Nat} {k0 : State} {kM : List Host.Cell → Prop}

theorem State.resetRegs_kept {s : State} {lo} {hi} {records} {live} (hm : kK &&& 0x4002 = 0)  (hk : Kept kK k0 kM s) :
    Kept kK k0 kM (State.resetRegs s lo hi records live) := by
  unfold State.resetRegs
  repeat' first | with_reducible assumption | simp only [Kept.mk_regs_latches (wOff hm rfl)] | dsimp only | split

theorem State.endOpsWhere_kept {s : State} {hit} {st} (hm : kK &&& 0x410fc8206 = 0)  (hk : Kept kK k0 kM s) :
    Kept kK k0 kM (State.endOpsWhere s hit st) := by
  unfold State.endOpsWhere
  repeat' first | with_reducible assumption | with_reducible apply State.complete_kept (wOff hm rfl) | with_reducible apply State.stopApply_kept (wOff hm rfl) | with_reducible apply Kept.ite | with_reducible refine Kept.foldl ?_ (fun _ _ _ => ?_) | with_reducible refine Kept.foldlIn Prod.snd ?_ (fun _ _ _ => ?_) | with_reducible refine Kept.foldlIn (fun p => p.2.2) ?_ (fun _ _ _ => ?_) | dsimp only | split

theorem State.stopApplies_kept {s : State} {hit} {st} (hm : kK &&& 0x410fc8206 = 0)  (hk : Kept kK k0 kM s) :
    Kept kK k0 kM (State.stopApplies s hit st) := by
  unfold State.stopApplies
  repeat' first | with_reducible assumption | with_reducible apply State.stopApply_kept (wOff hm rfl) | with_reducible refine Kept.foldl ?_ (fun _ _ _ => ?_) | with_reducible refine Kept.foldlIn Prod.snd ?_ (fun _ _ _ => ?_) | with_reducible refine Kept.foldlIn (fun p => p.2.2) ?_ (fun _ _ _ => ?_) | dsimp only | split

theorem State.lanesStop_kept {s : State} {g} (hm : kK &&& 0x50a001006 = 0)  (hk : Kept kK k0 kM s) :
    Kept kK k0 kM (State.lanesStop s g) := by
  unfold State.lanesStop
  repeat' first | with_reducible assumption | with_reducible apply State.setLaneX_kept (wOff hm rfl) | with_reducible apply State.settleTx_kept (wOff hm rfl) | with_reducible apply State.toLane_kept (wOff hm rfl) | with_reducible apply State.stopRx_kept (wOff hm rfl) | with_reducible apply State.calDrop_kept (wOff hm rfl) | with_reducible apply Kept.ite | with_reducible refine Kept.foldl ?_ (fun _ _ _ => ?_) | with_reducible refine Kept.foldlIn Prod.snd ?_ (fun _ _ _ => ?_) | with_reducible refine Kept.foldlIn (fun p => p.2.2) ?_ (fun _ _ _ => ?_) | dsimp only | split

theorem State.groupStop_kept {s : State} {g} (hm : kK &&& 0x50e089206 = 0)  (hk : Kept kK k0 kM s) :
    Kept kK k0 kM (State.groupStop s g) := by
  unfold State.groupStop
  repeat' first | with_reducible assumption | with_reducible apply State.groupStreamsOff_kept (wOff hm rfl) | with_reducible apply State.groupBundles_kept (wOff hm rfl) | with_reducible apply State.groupLinks_kept (wOff hm rfl) | with_reducible apply State.lanesStop_kept (wOff hm rfl) | dsimp only | split

theorem State.calGivesUp_kept {s : State} {n} (hm : kK &&& 0x50a049006 = 0)  (hk : Kept kK k0 kM s) :
    Kept kK k0 kM (State.calGivesUp s n) := by
  unfold State.calGivesUp
  repeat' first | with_reducible assumption | with_reducible apply State.calFailed_kept (wOff hm rfl) | with_reducible apply Kept.ite | dsimp only | split

theorem State.groupStart_kept {s : State} {g} {full} {bad} (hm : kK &&& 0x50e0c9206 = 0)  (hk : Kept kK k0 kM s) :
    Kept kK k0 kM (State.groupStart s g full bad) := by
  unfold State.groupStart
  repeat' first | with_reducible assumption | with_reducible apply State.setLaneX_kept (wOff hm rfl) | with_reducible apply State.settleTx_kept (wOff hm rfl) | with_reducible apply State.laneStore_kept (wOff hm rfl) | with_reducible apply State.laneApply_kept (wOff hm rfl) | with_reducible apply State.calPassed_kept (wOff hm rfl) | with_reducible apply State.groupStreamsOn_kept (wOff hm rfl) | with_reducible apply State.groupProtsOn_kept (wOff hm rfl) | with_reducible apply State.groupBundles_kept (wOff hm rfl) | with_reducible apply State.groupLinks_kept (wOff hm rfl) | with_reducible apply State.calGivesUp_kept (wOff hm rfl) | with_reducible apply Kept.ite | with_reducible refine Kept.foldl ?_ (fun _ _ _ => ?_) | with_reducible refine Kept.foldlIn Prod.snd ?_ (fun _ _ _ => ?_) | with_reducible refine Kept.foldlIn (fun p => p.2.2) ?_ (fun _ _ _ => ?_) | dsimp only | split

theorem State.groupRegs_kept {s : State} {g} (hm : kK &&& 0x800400e = 0)  (hk : Kept kK k0 kM s) :
    Kept kK k0 kM (State.groupRegs s g) := by
  unfold State.groupRegs
  repeat' first | with_reducible assumption | with_reducible apply State.clearCounters_kept (wOff hm rfl) | with_reducible apply State.setProtX_kept (wOff hm rfl) | with_reducible apply State.resetRegs_kept (wOff hm rfl) | with_reducible refine Kept.foldl ?_ (fun _ _ _ => ?_) | with_reducible refine Kept.foldlIn Prod.snd ?_ (fun _ _ _ => ?_) | with_reducible refine Kept.foldlIn (fun p => p.2.2) ?_ (fun _ _ _ => ?_) | dsimp only | split

theorem State.stackLost_kept {s : State} {k} (hm : kK &&& 0x411fc8216 = 0) (hM : Closed kM)  (hk : Kept kK k0 kM s) :
    Kept kK k0 kM (State.stackLost s k) := by
  unfold State.stackLost
  repeat' first | with_reducible assumption | with_reducible apply State.dropSectors_kept (wOff hm rfl) | with_reducible apply State.loseHandle_kept (wOff hm rfl) hM | with_reducible refine Kept.foldl ?_ (fun _ _ _ => ?_) | with_reducible refine Kept.foldlIn Prod.snd ?_ (fun _ _ _ => ?_) | with_reducible refine Kept.foldlIn (fun p => p.2.2) ?_ (fun _ _ _ => ?_) | dsimp only | split

theorem State.quadNis_kept {s : State} {q} (hm : kK &&& 0x410000006 = 0)  (hk : Kept kK k0 kM s) :
    Kept kK k0 kM (State.quadNis s q) := by
  unfold State.quadNis
  repeat' first | with_reducible assumption | with_reducible apply State.signal_kept (wOff hm rfl) | with_reducible apply State.ledgerRecompute_kept (wOff hm rfl) | with_reducible apply Kept.ite | simp only [Kept.mk_ring (wOff hm rfl)] | dsimp only | split

theorem State.quadUnits_kept {s : State} {q} (hm : kK &&& 0x580000 = 0)  (hk : Kept kK k0 kM s) :
    Kept kK k0 kM (State.quadUnits s q) := by
  unfold State.quadUnits
  repeat' first | with_reducible assumption | simp only [Kept.mk_fab_bays_fac (wOff hm rfl)] | dsimp only | split

theorem State.quadFacets_kept {s : State} {q} (hm : kK &&& 0x410fa8206 = 0)  (hk : Kept kK k0 kM s) :
    Kept kK k0 kM (State.quadFacets s q) := by
  unfold State.quadFacets
  repeat' first | with_reducible assumption | with_reducible apply State.reachDom_kept (wOff hm rfl) | with_reducible apply State.facetLost_kept (wOff hm rfl) | with_reducible apply State.endFacetEmul_kept (wOff hm rfl) | with_reducible refine Kept.foldl ?_ (fun _ _ _ => ?_) | with_reducible refine Kept.foldlIn Prod.snd ?_ (fun _ _ _ => ?_) | with_reducible refine Kept.foldlIn (fun p => p.2.2) ?_ (fun _ _ _ => ?_) | dsimp only | split

theorem State.endNis_kept {s : State} {q} {records} (hm : kK &&& 0xe = 0)  (hk : Kept kK k0 kM s) :
    Kept kK k0 kM (State.endNis s q records) := by
  unfold State.endNis
  repeat' first | with_reducible assumption | with_reducible apply State.clearCounters_kept (wOff hm rfl) | with_reducible apply Kept.ite | simp only [Kept.mk_regs (wOff hm rfl)] | dsimp only | split

theorem State.quadBlocks_kept {s : State} {q} {records} (hm : kK &&& 0x410fee20e = 0)  (hk : Kept kK k0 kM s) :
    Kept kK k0 kM (State.quadBlocks s q records) := by
  unfold State.quadBlocks
  repeat' first | with_reducible assumption | with_reducible apply State.clearCounters_kept (wOff hm rfl) | with_reducible apply State.discardPosted_kept (wOff hm rfl) | with_reducible apply State.resetRegs_kept (wOff hm rfl) | with_reducible apply State.quadNis_kept (wOff hm rfl) | with_reducible apply State.quadUnits_kept (wOff hm rfl) | with_reducible apply State.quadFacets_kept (wOff hm rfl) | with_reducible apply State.endNis_kept (wOff hm rfl) | dsimp only | split

theorem State.laneDieBlocks_kept {s : State} {l} (hm : kK &&& 0x50e0ef20e = 0)  (hk : Kept kK k0 kM s) :
    Kept kK k0 kM (State.laneDieBlocks s l) := by
  unfold State.laneDieBlocks
  repeat' first | with_reducible assumption | with_reducible apply State.clearCounters_kept (wOff hm rfl) | with_reducible apply State.setDom_kept (wOff hm rfl) | with_reducible apply State.reachDom_kept (wOff hm rfl) | with_reducible apply State.discardPosted_kept (wOff hm rfl) | with_reducible apply State.dieLinks_kept (wOff hm rfl) | with_reducible apply State.resetRegs_kept (wOff hm rfl) | with_reducible apply State.groupStop_kept (wOff hm rfl) | with_reducible refine Kept.foldl ?_ (fun _ _ _ => ?_) | with_reducible refine Kept.foldlIn Prod.snd ?_ (fun _ _ _ => ?_) | with_reducible refine Kept.foldlIn (fun p => p.2.2) ?_ (fun _ _ _ => ?_) | simp only [Kept.mk_lanes_se_prot (wOff hm rfl)] | dsimp only | split

theorem State.dieResetStart_kept {s : State} {d} (hm : kK &&& 0x411fe8216 = 0) (hM : Closed kM)  (hk : Kept kK k0 kM s) :
    Kept kK k0 kM (State.dieResetStart s d) := by
  unfold State.dieResetStart
  repeat' first | with_reducible assumption | with_reducible apply State.journal_kept (wOff hm rfl) | with_reducible apply State.loseHandle_kept (wOff hm rfl) hM | with_reducible apply State.endOpsWhere_kept (wOff hm rfl) | with_reducible apply State.stopApplies_kept (wOff hm rfl) | with_reducible apply Kept.ite | with_reducible refine Kept.foldl ?_ (fun _ _ _ => ?_) | with_reducible refine Kept.foldlIn Prod.snd ?_ (fun _ _ _ => ?_) | with_reducible refine Kept.foldlIn (fun p => p.2.2) ?_ (fun _ _ _ => ?_) | simp only [Kept.mk_pwr (wOff hm rfl)] | dsimp only | split

theorem State.quadReset_kept {s : State} {q} (hm : kK &&& 0x431fef20e = 0)  (hk : Kept kK k0 kM s) :
    Kept kK k0 kM (State.quadReset s q) := by
  unfold State.quadReset
  repeat' first | with_reducible assumption | with_reducible apply State.setDom_kept (wOff hm rfl) | with_reducible apply State.dropSectors_kept (wOff hm rfl) | with_reducible apply State.edgeDown_kept (wOff hm rfl) | with_reducible apply State.edgeReturn_kept (wOff hm rfl) | with_reducible apply State.quadBlocks_kept (wOff hm rfl) | with_reducible apply Kept.ite | with_reducible refine Kept.foldl ?_ (fun _ _ _ => ?_) | with_reducible refine Kept.foldlIn Prod.snd ?_ (fun _ _ _ => ?_) | with_reducible refine Kept.foldlIn (fun p => p.2.2) ?_ (fun _ _ _ => ?_) | dsimp only | split

theorem State.laneDieReset_kept {s : State} {l} (hm : kK &&& 0x50e0ef20e = 0)  (hk : Kept kK k0 kM s) :
    Kept kK k0 kM (State.laneDieReset s l) := by
  unfold State.laneDieReset
  repeat' first | with_reducible assumption | with_reducible apply State.laneDieBlocks_kept (wOff hm rfl) | dsimp only | split

theorem State.dieResetEnd_kept {s : State} {d} (hm : kK &&& 0x401020016 = 0) (hM : Closed kM)  (hk : Kept kK k0 kM s) :
    Kept kK k0 kM (State.dieResetEnd s d) := by
  unfold State.dieResetEnd
  repeat' first | with_reducible assumption | with_reducible apply State.signal_kept (wOff hm rfl) | with_reducible apply State.reachDom_kept (wOff hm rfl) | with_reducible apply State.zeroStack_kept (wOff hm rfl) hM | with_reducible apply Kept.ite | simp only [Kept.mk_pwr (wOff hm rfl)] | dsimp only | split

end Sys2Proof.Machine
end

