-- ==== Sys2Proof/Laws/KeptPower.lean ====
section
/-! SUPPORT. The operations of Sys2Proof/Machine/Power.lean leave alone what `Kept` names. -/
namespace Sys2Proof.Machine
set_option linter.unusedSimpArgs false
set_option linter.unusedVariables false
variable {kK : Nat} {k0 : State} {kM : List Host.Cell → Prop}

theorem State.powerStart_kept {s : State} {d} {v} (hm : kK &&& 0x4304a0006 = 0)  (hk : Kept kK k0 kM s) :
    Kept kK k0 kM (State.powerStart s d v) := by
  unfold State.powerStart
  repeat' first | with_reducible assumption | with_reducible apply State.raise_kept (wOff hm rfl) | with_reducible apply State.setDom_kept (wOff hm rfl) | with_reducible apply State.putCal_kept (wOff hm rfl) | with_reducible apply State.setFacetX_kept (wOff hm rfl) | with_reducible apply State.hold_kept (wOff hm rfl) | with_reducible apply State.edgeUp_kept (wOff hm rfl) | with_reducible apply State.toLamp_kept (wOff hm rfl) | with_reducible apply State.groupBundles_kept (wOff hm rfl) | with_reducible apply State.spineBundles_kept (wOff hm rfl) | with_reducible apply State.toUcie_kept (wOff hm rfl) | with_reducible apply State.toFacet_kept (wOff hm rfl) | with_reducible apply State.facetStop_kept (wOff hm rfl) | with_reducible apply State.facetResume_kept (wOff hm rfl) | with_reducible apply Kept.ite | with_reducible refine Kept.foldl ?_ (fun _ _ _ => ?_) | with_reducible refine Kept.foldlIn Prod.snd ?_ (fun _ _ _ => ?_) | with_reducible refine Kept.foldlIn (fun p => p.2.2) ?_ (fun _ _ _ => ?_) | simp only [Kept.mk_pwr (wOff hm rfl)] | dsimp only | split

theorem execSetPower_kept {c} {s : State} (hm : kK &&& 0x4304a8006 = 0)  (hk : Kept kK k0 kM s) :
    KeptR kK k0 kM (execSetPower c s) := by
  unfold execSetPower
  repeat' first | with_reducible assumption | with_reducible apply State.completeOf_kept (wOff hm rfl) | with_reducible apply State.long_kept (wOff hm rfl) | with_reducible apply State.powerStart_kept (wOff hm rfl) | with_reducible apply Kept.ite | with_reducible apply KeptR.next | (intro u hu) | simp only [id] | dsimp only | split

theorem execSetPowerQuery_kept {c} {s : State} (hm : kK &&& 0x8000 = 0)  (hk : Kept kK k0 kM s) :
    KeptR kK k0 kM (execSetPowerQuery c s) := by
  unfold execSetPowerQuery
  repeat' first | with_reducible assumption | with_reducible refine State.immediate_kept_quiet (wOff hm rfl) (fun _ _ => State.retriesFail_silent (by decide)) ?_ ?_ | with_reducible apply Kept.ite | with_reducible apply KeptR.next | (intro u hu) | simp only [id] | dsimp only | split

theorem State.drainNote_kept {s : State} {d} {n} {target} (hm : kK &&& 0x400040006 = 0)  (hk : Kept kK k0 kM s) :
    Kept kK k0 kM (State.drainNote s d n target) := by
  unfold State.drainNote
  repeat' first | with_reducible assumption | with_reducible apply State.journal_kept (wOff hm rfl) | with_reducible apply Kept.ite | dsimp only | split

theorem State.facetOffNow_kept {s : State} {f} {n} (hm : kK &&& 0x430fc8206 = 0)  (hk : Kept kK k0 kM s) :
    Kept kK k0 kM (State.facetOffNow s f n) := by
  unfold State.facetOffNow
  repeat' first | with_reducible assumption | with_reducible apply State.lower_kept (wOff hm rfl) | with_reducible apply State.setFacetX_kept (wOff hm rfl) | with_reducible apply State.facetMark_kept (wOff hm rfl) | with_reducible apply State.endFlight_kept (wOff hm rfl) | with_reducible apply State.facetLost_kept (wOff hm rfl) | with_reducible apply State.noteFacet_kept (wOff hm rfl) | with_reducible apply State.emulFacet_kept (wOff hm rfl) | with_reducible apply State.drainNote_kept (wOff hm rfl) | with_reducible apply Kept.ite | dsimp only | split

theorem State.endDrain_kept {s : State} {vk} (hm : kK &&& 0x430000206 = 0)  (hk : Kept kK k0 kM s) :
    Kept kK k0 kM (State.endDrain s vk) := by
  unfold State.endDrain
  repeat' first | with_reducible assumption | with_reducible apply State.setNi_kept (wOff hm rfl) | with_reducible apply State.endRequest_kept (wOff hm rfl) | with_reducible apply State.refuse_kept (wOff hm rfl) | with_reducible apply Kept.ite | with_reducible refine Kept.foldl ?_ (fun _ _ _ => ?_) | with_reducible refine Kept.foldlIn Prod.snd ?_ (fun _ _ _ => ?_) | with_reducible refine Kept.foldlIn (fun p => p.2.2) ?_ (fun _ _ _ => ?_) | dsimp only | split

theorem State.drainDone_kept {s : State} {d} (hm : kK &&& 0x430000206 = 0)  (hk : Kept kK k0 kM s) :
    Kept kK k0 kM (State.drainDone s d) := by
  unfold State.drainDone
  repeat' first | with_reducible assumption | with_reducible apply State.partnerDrain_kept (wOff hm rfl) | with_reducible apply State.endDrain_kept (wOff hm rfl) | with_reducible apply Kept.ite | with_reducible refine Kept.foldl ?_ (fun _ _ _ => ?_) | with_reducible refine Kept.foldlIn Prod.snd ?_ (fun _ _ _ => ?_) | with_reducible refine Kept.foldlIn (fun p => p.2.2) ?_ (fun _ _ _ => ?_) | dsimp only | split

theorem execDomainDrainEnd_kept {d} {left} {s : State} (hm : kK &&& 0x431fef20e = 0)  (hk : Kept kK k0 kM s) :
    KeptR kK k0 kM (execDomainDrainEnd d left s) := by
  unfold execDomainDrainEnd
  repeat' first | with_reducible assumption | with_reducible apply State.putOp_kept (wOff hm rfl) | with_reducible apply State.endFlight_kept (wOff hm rfl) | with_reducible apply State.rewriteDrained_kept (wOff hm rfl) | with_reducible apply State.quadReset_kept (wOff hm rfl) | with_reducible apply State.drainNote_kept (wOff hm rfl) | with_reducible apply State.facetOffNow_kept (wOff hm rfl) | with_reducible apply State.drainDone_kept (wOff hm rfl) | with_reducible apply Kept.ite | with_reducible apply KeptR.next | with_reducible refine Kept.foldl ?_ (fun _ _ _ => ?_) | with_reducible refine Kept.foldlIn Prod.snd ?_ (fun _ _ _ => ?_) | with_reducible refine Kept.foldlIn (fun p => p.2.2) ?_ (fun _ _ _ => ?_) | dsimp only | split

theorem State.holdViews_kept {s : State} {g} (hm : kK &&& 0x2001000 = 0)  (hk : Kept kK k0 kM s) :
    Kept kK k0 kM (State.holdViews s g) := by
  unfold State.holdViews
  repeat' first | with_reducible assumption | with_reducible apply State.setLaneX_kept (wOff hm rfl) | with_reducible apply State.settleEq_kept (wOff hm rfl) | with_reducible refine Kept.foldl ?_ (fun _ _ _ => ?_) | with_reducible refine Kept.foldlIn Prod.snd ?_ (fun _ _ _ => ?_) | with_reducible refine Kept.foldlIn (fun p => p.2.2) ?_ (fun _ _ _ => ?_) | dsimp only | split

theorem State.freeViews_kept {s : State} {g} (hm : kK &&& 0x2000002 = 0)  (hk : Kept kK k0 kM s) :
    Kept kK k0 kM (State.freeViews s g) := by
  unfold State.freeViews
  repeat' first | with_reducible assumption | with_reducible apply State.setLaneX_kept (wOff hm rfl) | with_reducible apply State.calAge_kept (wOff hm rfl) | with_reducible apply State.showMerged_kept (wOff hm rfl) | with_reducible refine Kept.foldl ?_ (fun _ _ _ => ?_) | with_reducible refine Kept.foldlIn Prod.snd ?_ (fun _ _ _ => ?_) | with_reducible refine Kept.foldlIn (fun p => p.2.2) ?_ (fun _ _ _ => ?_) | dsimp only | split

theorem State.freePartner_kept {s : State} (hm : kK &&& 0x20000000 = 0)  (hk : Kept kK k0 kM s) :
    Kept kK k0 kM (State.freePartner s) := by
  unfold State.freePartner
  repeat' first | with_reducible assumption | simp only [Kept.mk_opt (wOff hm rfl)] | dsimp only | split

theorem State.domainOff_kept {s : State} {d} (hm : kK &&& 0x73ffef21e = 0) (hM : Closed kM)  (hk : Kept kK k0 kM s) :
    Kept kK k0 kM (State.domainOff s d) := by
  unfold State.domainOff
  repeat' first | with_reducible assumption | with_reducible apply State.raise_kept (wOff hm rfl) | with_reducible apply State.reachDom_kept (wOff hm rfl) | with_reducible apply State.discardPosted_kept (wOff hm rfl) | with_reducible apply State.edgeDown_kept (wOff hm rfl) | with_reducible apply State.toLamp_kept (wOff hm rfl) | with_reducible apply State.spineBundles_kept (wOff hm rfl) | with_reducible apply State.toUcie_kept (wOff hm rfl) | with_reducible apply State.cueLost_kept (wOff hm rfl) hM | with_reducible apply State.emulCue_kept (wOff hm rfl) | with_reducible apply State.groupStop_kept (wOff hm rfl) | with_reducible apply State.groupRegs_kept (wOff hm rfl) | with_reducible apply State.stackLost_kept (wOff hm rfl) hM | with_reducible apply State.quadBlocks_kept (wOff hm rfl) | with_reducible apply State.freeViews_kept (wOff hm rfl) | with_reducible apply State.freePartner_kept (wOff hm rfl) | with_reducible apply Kept.ite | with_reducible refine Kept.foldl ?_ (fun _ _ _ => ?_) | with_reducible refine Kept.foldlIn Prod.snd ?_ (fun _ _ _ => ?_) | with_reducible refine Kept.foldlIn (fun p => p.2.2) ?_ (fun _ _ _ => ?_) | dsimp only | split

theorem State.domainStop_kept {s : State} {d} (hm : kK &&& 0x73e4a9206 = 0)  (hk : Kept kK k0 kM s) :
    Kept kK k0 kM (State.domainStop s d) := by
  unfold State.domainStop
  repeat' first | with_reducible assumption | with_reducible apply State.reachDom_kept (wOff hm rfl) | with_reducible apply State.toUcie_kept (wOff hm rfl) | with_reducible apply State.facetStop_kept (wOff hm rfl) | with_reducible apply State.toCue_kept (wOff hm rfl) | with_reducible apply State.emulCue_kept (wOff hm rfl) | with_reducible apply State.emulFacet_kept (wOff hm rfl) | with_reducible apply State.groupStop_kept (wOff hm rfl) | with_reducible apply State.holdViews_kept (wOff hm rfl) | with_reducible apply Kept.ite | dsimp only | split

theorem State.domainOn_kept {s : State} {d} {bad} (hm : kK &&& 0x71ffe9216 = 0) (hM : Closed kM)  (hk : Kept kK k0 kM s) :
    Kept kK k0 kM (State.domainOn s d bad) := by
  unfold State.domainOn
  repeat' first | with_reducible assumption | with_reducible apply State.setCueX_kept (wOff hm rfl) | with_reducible apply State.reachDom_kept (wOff hm rfl) | with_reducible apply State.zeroStack_kept (wOff hm rfl) hM | with_reducible apply State.calDone_kept (wOff hm rfl) | with_reducible apply State.spineBundles_kept (wOff hm rfl) | with_reducible apply State.facetLost_kept (wOff hm rfl) | with_reducible apply State.facetPowered_kept (wOff hm rfl) | with_reducible apply State.facetResumed_kept (wOff hm rfl) | with_reducible apply State.toCue_kept (wOff hm rfl) | with_reducible apply State.cuePowered_kept (wOff hm rfl) hM | with_reducible apply State.noteCue_kept (wOff hm rfl) | with_reducible apply State.noteFacet_kept (wOff hm rfl) | with_reducible apply State.groupStart_kept (wOff hm rfl) | with_reducible apply State.freeViews_kept (wOff hm rfl) | with_reducible apply Kept.ite | simp only [Kept.mk_regs (wOff hm rfl)] | dsimp only | split

theorem execSetPowerCompletion_kept {d} {bad} {s : State} (hm : kK &&& 0x73ffef21e = 0) (hM : Closed kM)  (hk : Kept kK k0 kM s) :
    KeptR kK k0 kM (execSetPowerCompletion d bad s) := by
  unfold execSetPowerCompletion
  repeat' first | with_reducible assumption | with_reducible apply State.reachDom_kept (wOff hm rfl) | with_reducible apply State.complete_kept (wOff hm rfl) | with_reducible apply State.ucieDrain_kept (wOff hm rfl) | with_reducible apply State.toUcie_kept (wOff hm rfl) | with_reducible apply State.freePartner_kept (wOff hm rfl) | with_reducible apply State.domainOff_kept (wOff hm rfl) hM | with_reducible apply State.domainStop_kept (wOff hm rfl) | with_reducible apply State.domainOn_kept (wOff hm rfl) hM | with_reducible apply Kept.ite | with_reducible apply KeptR.next | dsimp only | split

theorem State.toBoot_kept {s : State} {b} (hm : kK &&& 0x400028006 = 0)  (hk : Kept kK k0 kM s) :
    Kept kK k0 kM (State.toBoot s b) := by
  unfold State.toBoot
  repeat' first | with_reducible assumption | with_reducible apply State.setF_kept (wOff hm rfl) | with_reducible apply State.signal_kept (wOff hm rfl) | with_reducible apply State.spiHeldGo_kept (wOff hm rfl) | with_reducible apply Kept.ite | simp only [Kept.mk_pwr (wOff hm rfl)] | dsimp only | split

theorem State.entryDefaults_kept {s : State} (hm : kK &&& 0x2 = 0)  (hk : Kept kK k0 kM s) :
    Kept kK k0 kM (State.entryDefaults s) := by
  unfold State.entryDefaults
  repeat' first | with_reducible assumption | with_reducible apply State.setF_kept (wOff hm rfl) | with_reducible refine Kept.foldl ?_ (fun _ _ _ => ?_) | with_reducible refine Kept.foldlIn Prod.snd ?_ (fun _ _ _ => ?_) | with_reducible refine Kept.foldlIn (fun p => p.2.2) ?_ (fun _ _ _ => ?_) | dsimp only | split

theorem State.domDefaults_kept {s : State} (hm : kK &&& 0x20000 = 0)  (hk : Kept kK k0 kM s) :
    Kept kK k0 kM (State.domDefaults s) := by
  unfold State.domDefaults
  repeat' first | with_reducible assumption | with_reducible apply Kept.ite | simp only [Kept.mk_pwr (wOff hm rfl)] | dsimp only | split

theorem State.dieCRegs_kept {s : State} (hm : kK &&& 0x400e = 0)  (hk : Kept kK k0 kM s) :
    Kept kK k0 kM (State.dieCRegs s) := by
  unfold State.dieCRegs
  repeat' first | with_reducible assumption | with_reducible apply State.setF_kept (wOff hm rfl) | with_reducible apply State.clearRegs_kept (wOff hm rfl) | with_reducible apply State.clearCounters_kept (wOff hm rfl) | with_reducible apply State.resetRegs_kept (wOff hm rfl) | with_reducible apply State.entryDefaults_kept (wOff hm rfl) | dsimp only | split

theorem State.warmReset_kept {s : State} (hm : kK &&& 0x7fffef21e = 0) (hM : Closed kM)  (hk : Kept kK k0 kM s) :
    Kept kK k0 kM (State.warmReset s) := by
  unfold State.warmReset
  repeat' first | with_reducible assumption | with_reducible apply State.setF_kept (wOff hm rfl) | with_reducible apply State.lower_kept (wOff hm rfl) | with_reducible apply State.setCueX_kept (wOff hm rfl) | with_reducible apply State.journal_kept (wOff hm rfl) | with_reducible apply State.discardPosted_kept (wOff hm rfl) | with_reducible apply State.setFmWaits_kept (wOff hm rfl) | with_reducible apply State.dropSectors_kept (wOff hm rfl) | with_reducible apply State.zeroStack_kept (wOff hm rfl) hM | with_reducible apply State.edgeDown_kept (wOff hm rfl) | with_reducible apply State.holdCue_kept (wOff hm rfl) | with_reducible apply State.cuePowered_kept (wOff hm rfl) hM | with_reducible apply State.endEmulation_kept (wOff hm rfl) hM | with_reducible apply State.resetRegs_kept (wOff hm rfl) | with_reducible apply State.quadBlocks_kept (wOff hm rfl) | with_reducible apply State.laneDieBlocks_kept (wOff hm rfl) | with_reducible apply State.toBoot_kept (wOff hm rfl) | with_reducible apply State.domDefaults_kept (wOff hm rfl) | with_reducible apply State.dieCRegs_kept (wOff hm rfl) | with_reducible apply Kept.ite | with_reducible refine Kept.foldl ?_ (fun _ _ _ => ?_) | with_reducible refine Kept.foldlIn Prod.snd ?_ (fun _ _ _ => ?_) | with_reducible refine Kept.foldlIn (fun p => p.2.2) ?_ (fun _ _ _ => ?_) | simp only [Kept.mk_latches_hq_fac_cfg_ring_opt_tim_clk_lat (wOff hm rfl)] | simp only [Kept.mk_pwr (wOff hm rfl)] | dsimp only | split

theorem State.partnerHeld_kept {s : State} {kind} (hm : kK &&& 0x430fea206 = 0)  (hk : Kept kK k0 kM s) :
    Kept kK k0 kM (State.partnerHeld s kind) := by
  unfold State.partnerHeld
  repeat' first | with_reducible assumption | with_reducible apply State.raise_kept (wOff hm rfl) | with_reducible apply State.journal_kept (wOff hm rfl) | with_reducible apply State.discardPosted_kept (wOff hm rfl) | with_reducible apply State.toUcie_kept (wOff hm rfl) | with_reducible apply State.endOpsWhere_kept (wOff hm rfl) | with_reducible apply State.drainDone_kept (wOff hm rfl) | simp only [Kept.mk_pwr_opt (wOff hm rfl)] | dsimp only | split

theorem State.resetStart_kept {s : State} {c} (hm : kK &&& 0x73ffef21e = 0) (hM : Closed kM)  (hk : Kept kK k0 kM s) :
    Kept kK k0 kM (State.resetStart s c) := by
  unfold State.resetStart
  repeat' first | with_reducible assumption | with_reducible apply State.resetFacet_kept (wOff hm rfl) | with_reducible apply State.holdCue_kept (wOff hm rfl) | with_reducible apply State.dieResetStart_kept (wOff hm rfl) hM | with_reducible apply State.laneDieReset_kept (wOff hm rfl) | with_reducible apply State.partnerHeld_kept (wOff hm rfl) | with_reducible apply Kept.ite | dsimp only | split

theorem execReset_kept {c} {s : State} (hm : kK &&& 0x73ffef21e = 0) (hM : Closed kM)  (hk : Kept kK k0 kM s) :
    KeptR kK k0 kM (execReset c s) := by
  unfold execReset
  repeat' first | with_reducible assumption | with_reducible apply State.immediate_kept (wOff hm rfl) | with_reducible apply State.long_kept (wOff hm rfl) | with_reducible apply State.resetStart_kept (wOff hm rfl) hM | with_reducible apply Kept.ite | with_reducible apply KeptR.next | (intro u hu) | simp only [id] | simp only [Kept.mk_pwr (wOff hm rfl)] | dsimp only | split

theorem execResetCompletion_kept {w} {s : State} (hm : kK &&& 0x7fffefe1e = 0) (hM : Closed kM)  (hk : Kept kK k0 kM s) :
    KeptR kK k0 kM (execResetCompletion w s) := by
  unfold execResetCompletion
  repeat' first | with_reducible assumption | with_reducible apply State.complete_kept (wOff hm rfl) | with_reducible apply State.reachNow_kept (wOff hm rfl) | with_reducible apply State.dieResetEnd_kept (wOff hm rfl) hM | with_reducible apply State.warmReset_kept (wOff hm rfl) hM | with_reducible apply Kept.ite | with_reducible apply KeptR.next | dsimp only | split

theorem State.allOff_kept {s : State} (hm : kK &&& 0x73ffef21e = 0) (hM : Closed kM)  (hk : Kept kK k0 kM s) :
    Kept kK k0 kM (State.allOff s) := by
  unfold State.allOff
  repeat' first | with_reducible assumption | with_reducible apply State.raise_kept (wOff hm rfl) | with_reducible apply State.discardPosted_kept (wOff hm rfl) | with_reducible apply State.edgeDown_kept (wOff hm rfl) | with_reducible apply State.toLamp_kept (wOff hm rfl) | with_reducible apply State.toUcie_kept (wOff hm rfl) | with_reducible apply State.endFlight_kept (wOff hm rfl) | with_reducible apply State.facetLost_kept (wOff hm rfl) | with_reducible apply State.cueLost_kept (wOff hm rfl) hM | with_reducible apply State.endEmulation_kept (wOff hm rfl) hM | with_reducible apply State.groupStop_kept (wOff hm rfl) | with_reducible apply State.groupRegs_kept (wOff hm rfl) | with_reducible apply State.stackLost_kept (wOff hm rfl) hM | with_reducible apply State.quadBlocks_kept (wOff hm rfl) | with_reducible apply Kept.ite | with_reducible refine Kept.foldl ?_ (fun _ _ _ => ?_) | with_reducible refine Kept.foldlIn Prod.snd ?_ (fun _ _ _ => ?_) | with_reducible refine Kept.foldlIn (fun p => p.2.2) ?_ (fun _ _ _ => ?_) | simp only [Kept.mk_pwr (wOff hm rfl)] | dsimp only | split

theorem State.thermalTrip_kept {s : State} {i} {t} (hm : kK &&& 0x73ffef21e = 0) (hM : Closed kM)  (hk : Kept kK k0 kM s) :
    Kept kK k0 kM (State.thermalTrip s i t) := by
  unfold State.thermalTrip
  repeat' first | with_reducible assumption | with_reducible apply State.signal_kept (wOff hm rfl) | with_reducible apply State.mark_kept (wOff hm rfl) | with_reducible apply State.journal_kept (wOff hm rfl) | with_reducible apply State.endOpsWhere_kept (wOff hm rfl) | with_reducible apply State.stopApplies_kept (wOff hm rfl) | with_reducible apply State.allOff_kept (wOff hm rfl) hM | with_reducible apply Kept.ite | simp only [Kept.mk_pwr (wOff hm rfl)] | dsimp only | split

theorem State.lampHeat_kept {s : State} {j} {before} (hm : kK &&& 0x430040006 = 0)  (hk : Kept kK k0 kM s) :
    Kept kK k0 kM (State.lampHeat s j before) := by
  unfold State.lampHeat
  repeat' first | with_reducible assumption | with_reducible apply State.lampMark_kept (wOff hm rfl) | with_reducible apply State.lampFailover_kept (wOff hm rfl) | with_reducible apply Kept.ite | dsimp only | split

theorem execTemperatureSample_kept {temps} {s : State} (hm : kK &&& 0x73ffef21e = 0) (hM : Closed kM)  (hk : Kept kK k0 kM s) :
    KeptR kK k0 kM (execTemperatureSample temps s) := by
  unfold execTemperatureSample
  repeat' first | with_reducible assumption | with_reducible apply State.setF_kept (wOff hm rfl) | with_reducible apply State.raise_kept (wOff hm rfl) | with_reducible apply State.setB_kept (wOff hm rfl) | with_reducible apply State.mark_kept (wOff hm rfl) | with_reducible apply State.calAge_kept (wOff hm rfl) | with_reducible apply State.thermalTrip_kept (wOff hm rfl) hM | with_reducible apply State.lampHeat_kept (wOff hm rfl) | with_reducible apply Kept.ite | with_reducible apply KeptR.next | with_reducible refine Kept.foldl ?_ (fun _ _ _ => ?_) | with_reducible refine Kept.foldlIn Prod.snd ?_ (fun _ _ _ => ?_) | with_reducible refine Kept.foldlIn (fun p => p.2.2) ?_ (fun _ _ _ => ?_) | simp only [Kept.mk_pwr (wOff hm rfl)] | dsimp only | split

theorem execThermalControlStop_kept {s : State} (hm : kK &&& 0x40020c00 = 0)  (hk : Kept kK k0 kM s) :
    KeptR kK k0 kM (execThermalControlStop s) := by
  unfold execThermalControlStop
  repeat' first | with_reducible assumption | with_reducible apply State.reachNow_kept (wOff hm rfl) | with_reducible apply KeptR.next | simp only [Kept.mk_pwr (wOff hm rfl)] | dsimp only | split

theorem State.tripClear_kept {s : State} (hm : kK &&& 0x20002 = 0)  (hk : Kept kK k0 kM s) :
    Kept kK k0 kM (State.tripClear s) := by
  unfold State.tripClear
  repeat' first | with_reducible assumption | with_reducible apply State.lower_kept (wOff hm rfl) | with_reducible apply Kept.ite | simp only [Kept.mk_pwr (wOff hm rfl)] | dsimp only | split

theorem execThermTripClear_kept {m} {s : State} (hm : kK &&& 0x20202 = 0)  (hk : Kept kK k0 kM s) :
    KeptR kK k0 kM (execThermTripClear m s) := by
  unfold execThermTripClear
  repeat' first | with_reducible assumption | with_reducible apply State.ownWrite_kept (wOff hm rfl) | with_reducible apply State.tripClear_kept (wOff hm rfl) | with_reducible apply KeptR.next | (intro u hu) | simp only [id] | dsimp only | split

theorem State.powerReset_kept {s : State} {aon} {rail} (hm : kK &&& 0x3ffffe81e = 0) (hM : Closed kM)  (hk : Kept kK k0 kM s) :
    Kept kK k0 kM (State.powerReset s aon rail) := by
  have h1 : ∀ r c n hq e j p f b sa fa cf fm ln se pr ri op ti ck la cu st po lt,
      Kept kK k0 kM { s with regs := r, ctrs := c, snaps := n, mem := [], hq := hq, evc := e, jrnl := j, pwr := p, fab := f, bays := b, saus := sa, fac := fa, cfg := cf, fm := fm, lanes := ln, se := se, prot := pr, ring := ri, opt := op, tim := ti, clk := ck, lat := la, cue := cu, sta := st, posted := po, latches := lt } :=
    fun _ _ _ _ _ _ _ _ _ _ _ _ _ _ _ _ _ _ _ _ _ _ _ _ _ => hk.up hm (fun c hc => by cases c <;> first | rfl | exact absurd hc (by decide)) hM.nil
  unfold State.powerReset
  refine Kept.up_pwr (wOff hm rfl) (Kept.ite (State.lower_kept (wOff hm rfl) (State.domDefaults_kept (wOff hm rfl) ?_)) ?_)
  all_goals
    refine State.lower_kept (wOff hm rfl) (State.lower_kept (wOff hm rfl) (State.lower_kept (wOff hm rfl) ?_))
    exact h1 _ _ _ _ _ _ _ _ _ _ _ _ _ _ _ _ _ _ _ _ _ _ _ _ _

theorem execPowerOnReset_kept {s : State} (hm : kK &&& 0x480068806 = 0)  (hk : Kept kK k0 kM s) :
    KeptR kK k0 kM (execPowerOnReset s) := by
  unfold execPowerOnReset
  repeat' first | with_reducible assumption | with_reducible apply State.setF_kept (wOff hm rfl) | with_reducible apply State.journal_kept (wOff hm rfl) | with_reducible apply State.toXo_kept (wOff hm rfl) | with_reducible apply State.toBoot_kept (wOff hm rfl) | with_reducible apply Kept.ite | with_reducible apply KeptR.next | simp only [Kept.mk_sta_pwr (wOff hm rfl)] | dsimp only | split

theorem execRailLoss_kept {rail} {s : State} (hm : kK &&& 0x3ffffe81e = 0) (hM : Closed kM)  (hk : Kept kK k0 kM s) :
    KeptR kK k0 kM (execRailLoss rail s) := by
  unfold execRailLoss
  repeat' first | with_reducible assumption | with_reducible apply State.powerReset_kept (wOff hm rfl) hM | with_reducible apply KeptR.next | dsimp only | split

theorem execPorNAsserted_kept {s : State} (hm : kK &&& 0x3ffffe81e = 0) (hM : Closed kM)  (hk : Kept kK k0 kM s) :
    KeptR kK k0 kM (execPorNAsserted s) := by
  unfold execPorNAsserted
  repeat' first | with_reducible assumption | with_reducible apply State.powerReset_kept (wOff hm rfl) hM | with_reducible apply Kept.ite | with_reducible apply KeptR.next | dsimp only | split

theorem execVccAonLoss_kept {s : State} (hm : kK &&& 0x3ffffe81e = 0) (hM : Closed kM)  (hk : Kept kK k0 kM s) :
    KeptR kK k0 kM (execVccAonLoss s) := by
  unfold execVccAonLoss
  repeat' first | with_reducible assumption | with_reducible apply State.powerReset_kept (wOff hm rfl) hM | with_reducible apply KeptR.next | dsimp only | split

theorem State.noteSlot_kept {s : State} {i} {ok} (hm : kK &&& 0x8000 = 0)  (hk : Kept kK k0 kM s) :
    Kept kK k0 kM (State.noteSlot s i ok) := by
  unfold State.noteSlot
  repeat' first | with_reducible assumption | simp only [Kept.mk_hq (wOff hm rfl)] | dsimp only | split

theorem State.runImage_kept {s : State} {i} (hm : kK &&& 0x8002 = 0)  (hk : Kept kK k0 kM s) :
    Kept kK k0 kM (State.runImage s i) := by
  unfold State.runImage
  repeat' first | with_reducible assumption | with_reducible apply State.setF_kept (wOff hm rfl) | with_reducible apply State.setB_kept (wOff hm rfl) | simp only [Kept.mk_hq (wOff hm rfl)] | dsimp only | split

theorem execStewardBoot_kept {pass} {step} {s : State} (hm : kK &&& 0x400068006 = 0)  (hk : Kept kK k0 kM s) :
    KeptR kK k0 kM (execStewardBoot pass step s) := by
  unfold execStewardBoot
  repeat' first | with_reducible assumption | with_reducible apply State.journal_kept (wOff hm rfl) | with_reducible apply State.toBoot_kept (wOff hm rfl) | with_reducible apply State.noteSlot_kept (wOff hm rfl) | with_reducible apply State.runImage_kept (wOff hm rfl) | with_reducible apply Kept.ite | with_reducible apply KeptR.next | dsimp only | split

theorem State.bootDone_kept {s : State} (hm : kK &&& 0x400028006 = 0)  (hk : Kept kK k0 kM s) :
    Kept kK k0 kM (State.bootDone s) := by
  unfold State.bootDone
  repeat' first | with_reducible assumption | with_reducible apply State.mark_kept (wOff hm rfl) | with_reducible apply State.toBoot_kept (wOff hm rfl) | with_reducible apply Kept.ite | simp only [Kept.mk_pwr (wOff hm rfl)] | dsimp only | split

theorem State.bootEdge_kept {s : State} {e} (hm : kK &&& 0x430001006 = 0)  (hk : Kept kK k0 kM s) :
    Kept kK k0 kM (State.bootEdge s e) := by
  unfold State.bootEdge
  repeat' first | with_reducible assumption | with_reducible apply State.edgeUp_kept (wOff hm rfl) | with_reducible apply State.edgeReturn_kept (wOff hm rfl) | with_reducible apply Kept.ite | dsimp only | split

theorem execDeviceBringup_kept {s : State} (hm : kK &&& 0x431029016 = 0) (hM : Closed kM)  (hk : Kept kK k0 kM s) :
    KeptR kK k0 kM (execDeviceBringup s) := by
  unfold execDeviceBringup
  repeat' first | with_reducible assumption | with_reducible apply State.reachDom_kept (wOff hm rfl) | with_reducible apply State.zeroStack_kept (wOff hm rfl) hM | with_reducible apply State.toBoot_kept (wOff hm rfl) | with_reducible apply State.bootDone_kept (wOff hm rfl) | with_reducible apply State.bootEdge_kept (wOff hm rfl) | with_reducible apply Kept.ite | with_reducible apply KeptR.next | with_reducible refine Kept.foldl ?_ (fun _ _ _ => ?_) | with_reducible refine Kept.foldlIn Prod.snd ?_ (fun _ _ _ => ?_) | with_reducible refine Kept.foldlIn (fun p => p.2.2) ?_ (fun _ _ _ => ?_) | simp only [Kept.mk_pwr (wOff hm rfl)] | dsimp only | split

theorem execPartnerRelease_kept {s : State} (hm : kK &&& 0x420020006 = 0)  (hk : Kept kK k0 kM s) :
    KeptR kK k0 kM (execPartnerRelease s) := by
  unfold execPartnerRelease
  repeat' first | with_reducible assumption | with_reducible apply State.toUcie_kept (wOff hm rfl) | with_reducible apply Kept.ite | with_reducible apply KeptR.next | simp only [Kept.mk_pwr (wOff hm rfl)] | dsimp only | split

end Sys2Proof.Machine
end

