-- ==== Sys2Proof/Laws/KeptRetire.lean ====
section
/-! SUPPORT. The operations of Sys2Proof/Machine/Retire.lean leave alone what `Kept` names. -/
namespace Sys2Proof.Machine
set_option linter.unusedSimpArgs false
set_option linter.unusedVariables false
variable {kK : Nat} {k0 : State} {kM : List Host.Cell → Prop}

theorem execChannelRetire_kept {c} {s : State} (hm : kK &&& 0x8002 = 0)  (hk : Kept kK k0 kM s) :
    KeptR kK k0 kM (execChannelRetire c s) := by
  unfold execChannelRetire
  repeat' first | with_reducible assumption | with_reducible apply State.long_kept (wOff hm rfl) | with_reducible apply KeptR.next | (intro u hu) | simp only [id] | dsimp only | split

theorem State.chanRetire_kept {s : State} {a1} (hm : kK &&& 0x53a049006 = 0)  (hk : Kept kK k0 kM s) :
    Kept kK k0 kM (State.chanRetire s a1) := by
  unfold State.chanRetire
  repeat' first | with_reducible assumption | with_reducible apply State.retireLane_kept (wOff hm rfl) | with_reducible apply State.spareOrDrop_kept (wOff hm rfl) | with_reducible apply State.laneGone_kept (wOff hm rfl) | with_reducible apply State.bundleFail_kept (wOff hm rfl) | with_reducible apply State.dramRetire_kept (wOff hm rfl) | with_reducible apply State.linkRetire_kept (wOff hm rfl) | dsimp only | split

theorem State.chanRetireEnd_kept {s : State} {o} {x} (hm : kK &&& 0x400048006 = 0)  (hk : Kept kK k0 kM s) :
    Kept kK k0 kM (State.chanRetireEnd s o x) := by
  unfold State.chanRetireEnd
  repeat' first | with_reducible assumption | with_reducible apply State.journal_kept (wOff hm rfl) | with_reducible apply State.complete_kept (wOff hm rfl) | dsimp only | split

theorem execChannelRetireCompletion_kept {s : State} (hm : kK &&& 0x53bc49016 = 0) (hM : Closed kM)  (hk : Kept kK k0 kM s) :
    KeptR kK k0 kM (execChannelRetireCompletion s) := by
  unfold execChannelRetireCompletion
  repeat' first | with_reducible assumption | with_reducible apply State.putOp_kept (wOff hm rfl) | with_reducible apply State.complete_kept (wOff hm rfl) | with_reducible apply State.stage_kept (wOff hm rfl) hM | with_reducible apply State.chanRetire_kept (wOff hm rfl) | with_reducible apply State.chanRetireEnd_kept (wOff hm rfl) | with_reducible apply Kept.ite | with_reducible apply KeptR.next | dsimp only | split

theorem State.restoreStart_kept {s : State} {a1} (hm : kK &&& 0x53a001006 = 0)  (hk : Kept kK k0 kM s) :
    Kept kK k0 kM (State.restoreStart s a1) := by
  unfold State.restoreStart
  repeat' first | with_reducible assumption | with_reducible apply State.toLane_kept (wOff hm rfl) | with_reducible apply State.setCal_kept (wOff hm rfl) | with_reducible apply State.edgeTrain_kept (wOff hm rfl) | with_reducible apply State.setEdgeX_kept (wOff hm rfl) | with_reducible apply Kept.ite | dsimp only | split

theorem execChannelRestore_kept {c} {s : State} (hm : kK &&& 0x53a009006 = 0)  (hk : Kept kK k0 kM s) :
    KeptR kK k0 kM (execChannelRestore c s) := by
  unfold execChannelRestore
  repeat' first | with_reducible assumption | with_reducible apply State.long_kept (wOff hm rfl) | with_reducible apply State.restoreStart_kept (wOff hm rfl) | with_reducible apply KeptR.next | (intro u hu) | simp only [id] | dsimp only | split

theorem State.waveBack_kept {s : State} {e} {w} {k} (hm : kK &&& 0x430040006 = 0)  (hk : Kept kK k0 kM s) :
    Kept kK k0 kM (State.waveBack s e w k) := by
  unfold State.waveBack
  repeat' first | with_reducible assumption | with_reducible apply State.setF_kept (wOff hm rfl) | with_reducible apply State.uncharge_kept (wOff hm rfl) | with_reducible apply State.setEdgeX_kept (wOff hm rfl) | with_reducible apply State.edgeTrain_kept (wOff hm rfl) | with_reducible apply Kept.ite | with_reducible refine Kept.foldl ?_ (fun _ _ _ => ?_) | with_reducible refine Kept.foldlIn Prod.snd ?_ (fun _ _ _ => ?_) | with_reducible refine Kept.foldlIn (fun p => p.2.2) ?_ (fun _ _ _ => ?_) | dsimp only | split

theorem State.shortBack_kept {s : State} {l} {b} {lane} (hm : kK &&& 0x52a041006 = 0)  (hk : Kept kK k0 kM s) :
    Kept kK k0 kM (State.shortBack s l b lane) := by
  unfold State.shortBack
  repeat' first | with_reducible assumption | with_reducible apply State.setF_kept (wOff hm rfl) | with_reducible apply State.lower_kept (wOff hm rfl) | with_reducible apply State.uncharge_kept (wOff hm rfl) | with_reducible apply State.setBitOf_kept (wOff hm rfl) | with_reducible apply State.toLane_kept (wOff hm rfl) | with_reducible apply Kept.ite | with_reducible refine Kept.foldl ?_ (fun _ _ _ => ?_) | with_reducible refine Kept.foldlIn Prod.snd ?_ (fun _ _ _ => ?_) | with_reducible refine Kept.foldlIn (fun p => p.2.2) ?_ (fun _ _ _ => ?_) | simp only [Kept.mk_opt (wOff hm rfl)] | dsimp only | split

theorem State.dramBack_kept {s : State} {k} {ch} {good} (hm : kK &&& 0x21040012 = 0) (hM : Closed kM)  (hk : Kept kK k0 kM s) :
    Kept kK k0 kM (State.dramBack s k ch good) := by
  have h1 : Kept kK k0 kM ((SMap.slice s.fm.lines (33554432 * k) (33554432 * (k + 1))).foldl
      (fun s p => if channelOf (p.1 % 33554432) = ch then s.setLine k (p.1 % 33554432) {} else s) s) :=
    Kept.foldl hk (fun _ _ ht => Kept.ite (State.setLine_kept (wOff hm rfl) ht) ht)
  unfold State.dramBack
  exact State.uncharge_kept (wOff hm rfl) (State.setF_kept (wOff hm rfl) (Kept.up_opt (wOff hm rfl)
    (State.setF_kept (wOff hm rfl) (State.setF_kept (wOff hm rfl) (State.setF_kept (wOff hm rfl) (Kept.up_mem (wOff hm rfl) h1 (hM.filter _ _ h1.2)))))))

theorem State.ringBack_kept {s : State} {no} (hm : kK &&& 0x410040006 = 0)  (hk : Kept kK k0 kM s) :
    Kept kK k0 kM (State.ringBack s no) := by
  unfold State.ringBack
  repeat' first | with_reducible assumption | with_reducible apply State.uncharge_kept (wOff hm rfl) | with_reducible apply State.changeRoutes_kept (wOff hm rfl) | with_reducible apply State.enterBypass_kept (wOff hm rfl) | dsimp only | split

theorem State.chanRestore_kept {s : State} {good} {a2} (hm : kK &&& 0x53b041016 = 0) (hM : Closed kM)  (hk : Kept kK k0 kM s) :
    Kept kK k0 kM (State.chanRestore s good a2) := by
  unfold State.chanRestore
  repeat' first | with_reducible assumption | with_reducible apply State.laneRestored_kept (wOff hm rfl) | with_reducible apply State.uncharge_kept (wOff hm rfl) | with_reducible apply State.lower_kept (wOff hm rfl) | with_reducible apply State.setCal_kept (wOff hm rfl) | with_reducible apply State.waveBack_kept (wOff hm rfl) | with_reducible apply State.shortBack_kept (wOff hm rfl) | with_reducible apply State.dramBack_kept (wOff hm rfl) hM | with_reducible apply State.ringBack_kept (wOff hm rfl) | dsimp only | split

theorem State.chanFailed_kept {s : State} {a1} (hm : kK &&& 0x50a001006 = 0)  (hk : Kept kK k0 kM s) :
    Kept kK k0 kM (State.chanFailed s a1) := by
  unfold State.chanFailed
  repeat' first | with_reducible assumption | with_reducible apply State.laneUnrestored_kept (wOff hm rfl) | with_reducible apply State.toLane_kept (wOff hm rfl) | with_reducible apply State.setCal_kept (wOff hm rfl) | dsimp only | split

theorem State.chanRestoreEnd_kept {s : State} {o} {x} (hm : kK &&& 0x400048006 = 0)  (hk : Kept kK k0 kM s) :
    Kept kK k0 kM (State.chanRestoreEnd s o x) := by
  unfold State.chanRestoreEnd
  repeat' first | with_reducible assumption | with_reducible apply State.journal_kept (wOff hm rfl) | with_reducible apply State.complete_kept (wOff hm rfl) | dsimp only | split

theorem execChannelRestoreCompletion_kept {pass} {good} {s : State} (hm : kK &&& 0x53bc49016 = 0) (hM : Closed kM)  (hk : Kept kK k0 kM s) :
    KeptR kK k0 kM (execChannelRestoreCompletion pass good s) := by
  unfold execChannelRestoreCompletion
  repeat' first | with_reducible assumption | with_reducible apply State.putOp_kept (wOff hm rfl) | with_reducible apply State.complete_kept (wOff hm rfl) | with_reducible apply State.stage_kept (wOff hm rfl) hM | with_reducible apply State.chanRestore_kept (wOff hm rfl) hM | with_reducible apply State.chanFailed_kept (wOff hm rfl) | with_reducible apply State.chanRestoreEnd_kept (wOff hm rfl) | with_reducible apply Kept.ite | with_reducible apply KeptR.next | dsimp only | split

theorem execJournalRead_kept {c} {s : State} (hm : kK &&& 0x8000 = 0)  (hk : Kept kK k0 kM s) :
    KeptR kK k0 kM (execJournalRead c s) := by
  unfold execJournalRead
  repeat' first | with_reducible assumption | with_reducible refine State.immediate_kept_quiet (wOff hm rfl) (fun _ _ => State.retriesFail_silent (by decide)) ?_ ?_ | with_reducible apply KeptR.next | (intro u hu) | simp only [id] | dsimp only | split

theorem execJournalClear_kept {c} {s : State} (hm : kK &&& 0x48000 = 0)  (hk : Kept kK k0 kM s) :
    KeptR kK k0 kM (execJournalClear c s) := by
  unfold execJournalClear
  repeat' first | with_reducible assumption | refine State.immediate_kept_quiet (wOff hm rfl) (fun h _ => State.retriesFail_dieC (Cmd.aims_dieC h) (by decide)) ?_ ?_ | with_reducible apply Kept.ite | with_reducible apply KeptR.next | (intro u hu) | simp only [id] | simp only [Kept.mk_jrnl (wOff hm rfl)] | dsimp only | split

end Sys2Proof.Machine
end

