-- ==== Sys2Proof/Laws/KeptSteward.lean ====
section
/-! SUPPORT. The operations of Sys2Proof/Machine/Steward.lean leave alone what `Kept` names. -/
namespace Sys2Proof.Machine
set_option linter.unusedSimpArgs false
set_option linter.unusedVariables false
variable {kK : Nat} {k0 : State} {kM : List Host.Cell → Prop}

theorem execPing_kept {c} {s : State} (hm : kK &&& 0x8000 = 0)  (hk : Kept kK k0 kM s) :
    KeptR kK k0 kM (execPing c s) := by
  unfold execPing
  repeat' first | with_reducible assumption | with_reducible refine State.immediate_kept_quiet (wOff hm rfl) (fun _ _ => State.retriesFail_silent (by decide)) ?_ ?_ | with_reducible apply KeptR.next | (intro u hu) | simp only [id] | dsimp only | split

theorem execGetInfo_kept {c} {s : State} (hm : kK &&& 0x8000 = 0)  (hk : Kept kK k0 kM s) :
    KeptR kK k0 kM (execGetInfo c s) := by
  unfold execGetInfo
  repeat' first | with_reducible assumption | with_reducible refine State.immediate_kept_quiet (wOff hm rfl) (fun _ _ => State.retriesFail_silent (by decide)) ?_ ?_ | with_reducible apply KeptR.next | (intro u hu) | simp only [id] | dsimp only | split

theorem execGetCaps_kept {c} {s : State} (hm : kK &&& 0x8000 = 0)  (hk : Kept kK k0 kM s) :
    KeptR kK k0 kM (execGetCaps c s) := by
  unfold execGetCaps
  repeat' first | with_reducible assumption | with_reducible refine State.immediate_kept_quiet (wOff hm rfl) (fun _ _ => State.retriesFail_silent (by decide)) ?_ ?_ | with_reducible apply KeptR.next | (intro u hu) | simp only [id] | dsimp only | split

theorem execFwStage_kept {c} {s : State} (hm : kK &&& 0x8000 = 0)  (hk : Kept kK k0 kM s) :
    KeptR kK k0 kM (execFwStage c s) := by
  unfold execFwStage
  repeat' first | with_reducible assumption | refine State.long_kept_quiet (wOff hm rfl) (fun h _ => State.retriesFail_dieC (Cmd.aims_dieC h) (by decide)) ?_ ?_ | with_reducible apply KeptR.next | (intro u hu) | simp only [id] | dsimp only | split

theorem State.fwBytes_kept {s : State} {o} {es} (hm : kK &&& 0x401040006 = 0)  (hk : Kept kK k0 kM s) :
    Kept kK k0 kM (State.fwBytes s o es).2 := by
  unfold State.fwBytes
  exact Kept.iteIn Prod.snd (α := Option (List Byte) × State) (Kept.snd2 hk) (Kept.iteIn Prod.snd (α := Option (List Byte) × State) (Kept.snd2 hk) (Kept.iteIn Prod.snd (α := Option (List Byte) × State) (bytesRead_kept (wOff hm rfl) (State.fmRead_kept (wOff hm rfl) hk)) (Kept.snd2 hk)))

theorem State.setOtherSlot_kept {s : State} {ok} (hm : kK &&& 0x8002 = 0)  (hk : Kept kK k0 kM s) :
    Kept kK k0 kM (State.setOtherSlot s ok) := by
  unfold State.setOtherSlot
  repeat' first | with_reducible assumption | with_reducible apply State.setB_kept (wOff hm rfl) | with_reducible apply State.noteSlot_kept (wOff hm rfl) | dsimp only | split

theorem execFwStageCompletion_kept {es} {s : State} (hm : kK &&& 0x401849006 = 0)  (hk : Kept kK k0 kM s) :
    KeptR kK k0 kM (execFwStageCompletion es s) := by
  unfold execFwStageCompletion
  repeat' first | with_reducible assumption | with_reducible apply State.freeVal_kept (wOff hm rfl) | with_reducible apply State.complete_kept (wOff hm rfl) | with_reducible apply State.fwBytes_kept (wOff hm rfl) | with_reducible apply State.setOtherSlot_kept (wOff hm rfl) | with_reducible apply KeptR.next | (refine Kept.sndEq (x := (State.freeVal _)) (by assumption) ?_) | (refine Kept.sndEq (x := (State.fwBytes _ _ _)) (by assumption) ?_) | simp only [Kept.mk_hq_cfg (wOff hm rfl)] | dsimp only | split

theorem execFwActivate_kept {c} {s : State} (hm : kK &&& 0x8000 = 0)  (hk : Kept kK k0 kM s) :
    KeptR kK k0 kM (execFwActivate c s) := by
  unfold execFwActivate
  repeat' first | with_reducible assumption | refine State.long_kept_quiet (wOff hm rfl) (fun h _ => State.retriesFail_dieC (Cmd.aims_dieC h) (by decide)) ?_ ?_ | with_reducible apply KeptR.next | (intro u hu) | simp only [id] | dsimp only | split

theorem State.setsFromTo_kept {s : State} {a} {b} (hm : kK &&& 0x8000 = 0)  (hk : Kept kK k0 kM s) :
    Kept kK k0 kM (State.setsFromTo s a b) := by
  unfold State.setsFromTo
  repeat' first | with_reducible assumption | with_reducible apply Kept.ite | simp only [Kept.mk_hq (wOff hm rfl)] | dsimp only | split

theorem execFwHandoverStart_kept {s : State} (hm : kK &&& 0x400008006 = 0)  (hk : Kept kK k0 kM s) :
    KeptR kK k0 kM (execFwHandoverStart s) := by
  unfold execFwHandoverStart
  repeat' first | with_reducible assumption | with_reducible apply State.setF_kept (wOff hm rfl) | with_reducible apply State.raise_kept (wOff hm rfl) | with_reducible apply State.signal_kept (wOff hm rfl) | with_reducible apply State.putOp_kept (wOff hm rfl) | with_reducible apply State.setsFromTo_kept (wOff hm rfl) | with_reducible apply Kept.ite | with_reducible apply KeptR.next | simp only [Kept.mk_hq (wOff hm rfl)] | dsimp only | split

theorem execFwActivateWaitTimeout_kept {s : State} (hm : kK &&& 0x440008c06 = 0)  (hk : Kept kK k0 kM s) :
    KeptR kK k0 kM (execFwActivateWaitTimeout s) := by
  unfold execFwActivateWaitTimeout
  repeat' first | with_reducible assumption | with_reducible apply State.complete_kept (wOff hm rfl) | with_reducible apply State.reachNow_kept (wOff hm rfl) | with_reducible apply Kept.ite | with_reducible apply KeptR.next | dsimp only | split

theorem State.handoverOver_kept {s : State} (hm : kK &&& 0x400008006 = 0)  (hk : Kept kK k0 kM s) :
    Kept kK k0 kM (State.handoverOver s) := by
  unfold State.handoverOver
  repeat' first | with_reducible assumption | with_reducible apply State.setF_kept (wOff hm rfl) | with_reducible apply State.lower_kept (wOff hm rfl) | with_reducible apply State.signal_kept (wOff hm rfl) | with_reducible apply State.spiHeldGo_kept (wOff hm rfl) | with_reducible apply State.setsFromTo_kept (wOff hm rfl) | simp only [Kept.mk_hq (wOff hm rfl)] | dsimp only | split

theorem execFwHandoverEnd_kept {us} {s : State} (hm : kK &&& 0x440028c06 = 0)  (hk : Kept kK k0 kM s) :
    KeptR kK k0 kM (execFwHandoverEnd us s) := by
  unfold execFwHandoverEnd
  repeat' first | with_reducible assumption | with_reducible apply State.complete_kept (wOff hm rfl) | with_reducible apply State.reachNow_kept (wOff hm rfl) | with_reducible apply State.toBoot_kept (wOff hm rfl) | with_reducible apply State.runImage_kept (wOff hm rfl) | with_reducible apply State.handoverOver_kept (wOff hm rfl) | with_reducible apply Kept.ite | with_reducible apply KeptR.next | simp only [Kept.mk_hq (wOff hm rfl)] | dsimp only | split

theorem execFwHandoverFail_kept {s : State} (hm : kK &&& 0x440049c06 = 0)  (hk : Kept kK k0 kM s) :
    KeptR kK k0 kM (execFwHandoverFail s) := by
  unfold execFwHandoverFail
  repeat' first | with_reducible assumption | with_reducible apply State.setF_kept (wOff hm rfl) | with_reducible apply State.freeVal_kept (wOff hm rfl) | with_reducible apply State.journal_kept (wOff hm rfl) | with_reducible apply State.complete_kept (wOff hm rfl) | with_reducible apply State.reachNow_kept (wOff hm rfl) | with_reducible apply State.handoverOver_kept (wOff hm rfl) | with_reducible apply Kept.ite | with_reducible apply KeptR.next | (refine Kept.sndEq (x := (State.freeVal _)) (by assumption) ?_) | dsimp only | split

theorem State.snapBlock_kept {s : State} {d} {b} {clear} (hm : kK &&& 0x44808000e = 0)  (hk : Kept kK k0 kM s) :
    Kept kK k0 kM (State.snapBlock s d b clear) := by
  unfold State.snapBlock
  repeat' first | with_reducible assumption | with_reducible apply State.snapWindow_kept (wOff hm rfl) | with_reducible apply State.protSnap_kept (wOff hm rfl) | with_reducible apply Kept.ite | dsimp only | split

theorem execSnapWrite_kept {m} {d} {b} {s : State} (hm : kK &&& 0x44808020e = 0)  (hk : Kept kK k0 kM s) :
    KeptR kK k0 kM (execSnapWrite m d b s) := by
  unfold execSnapWrite
  repeat' first | with_reducible assumption | with_reducible apply State.ownWrite_kept (wOff hm rfl) | with_reducible apply State.snapBlock_kept (wOff hm rfl) | with_reducible apply KeptR.next | (intro u hu) | simp only [id] | dsimp only | split

theorem execSnapClear_kept {m} {d} {b} {s : State} (hm : kK &&& 0x44808020e = 0)  (hk : Kept kK k0 kM s) :
    KeptR kK k0 kM (execSnapClear m d b s) := by
  unfold execSnapClear
  repeat' first | with_reducible assumption | with_reducible apply State.ownWrite_kept (wOff hm rfl) | with_reducible apply State.snapBlock_kept (wOff hm rfl) | with_reducible apply KeptR.next | (intro u hu) | simp only [id] | dsimp only | split

theorem execSnap_kept {c} {s : State} (hm : kK &&& 0x8002 = 0)  (hk : Kept kK k0 kM s) :
    KeptR kK k0 kM (execSnap c s) := by
  unfold execSnap
  repeat' first | with_reducible assumption | with_reducible apply State.long_kept (wOff hm rfl) | with_reducible apply KeptR.next | (intro u hu) | simp only [id] | dsimp only | split

theorem execSnapAct_kept {w} {edge} {s : State} (hm : kK &&& 0x448088c0e = 0)  (hk : Kept kK k0 kM s) :
    KeptR kK k0 kM (execSnapAct w edge s) := by
  unfold execSnapAct
  repeat' first | with_reducible assumption | with_reducible apply State.putOp_kept (wOff hm rfl) | with_reducible apply State.reachAt_kept (wOff hm rfl) | with_reducible apply State.snapBlock_kept (wOff hm rfl) | with_reducible apply Kept.ite | with_reducible apply KeptR.next | dsimp only | split

theorem execSnapCompletion_kept {s : State} (hm : kK &&& 0x400008006 = 0)  (hk : Kept kK k0 kM s) :
    KeptR kK k0 kM (execSnapCompletion s) := by
  unfold execSnapCompletion
  repeat' first | with_reducible assumption | with_reducible apply State.complete_kept (wOff hm rfl) | with_reducible apply KeptR.next | dsimp only | split

end Sys2Proof.Machine
end

