-- ==== Sys2Proof/Laws/KeptScheduling.lean ====
section
/-! SUPPORT. The operations of Sys2Proof/Machine/Scheduling.lean leave alone what `Kept` names. -/
namespace Sys2Proof.Machine
set_option linter.unusedSimpArgs false
set_option linter.unusedVariables false
variable {kK : Nat} {k0 : State} {kM : List Host.Cell → Prop}

theorem execSchedCancel_kept {c} {s : State} (hm : kK &&& 0x400008006 = 0)  (hk : Kept kK k0 kM s) :
    KeptR kK k0 kM (execSchedCancel c s) := by
  unfold execSchedCancel
  repeat' first | with_reducible assumption | with_reducible apply State.complete_kept (wOff hm rfl) | with_reducible apply State.immediateThen_kept (wOff hm rfl) | with_reducible apply KeptR.next | (intro u hu) | simp only [id] | dsimp only | split

theorem execScheduledActionMissed_kept {src} {tag} {s : State} (hm : kK &&& 0x440048c06 = 0)  (hk : Kept kK k0 kM s) :
    KeptR kK k0 kM (execScheduledActionMissed src tag s) := by
  unfold execScheduledActionMissed
  repeat' first | with_reducible assumption | with_reducible apply State.journal_kept (wOff hm rfl) | with_reducible apply State.complete_kept (wOff hm rfl) | with_reducible apply State.reachAt_kept (wOff hm rfl) | with_reducible apply Kept.ite | with_reducible apply KeptR.next | dsimp only | split

theorem State.timeOut_kept {s : State} {o} (hm : kK &&& 0x51bfc9216 = 0) (hM : Closed kM)  (hk : Kept kK k0 kM s) :
    Kept kK k0 kM (State.timeOut s o) := by
  unfold State.timeOut
  repeat' first | with_reducible assumption | with_reducible apply State.complete_kept (wOff hm rfl) | with_reducible apply State.endRekey_kept (wOff hm rfl) | with_reducible apply State.abandonSweep_kept (wOff hm rfl) hM | with_reducible apply State.setLaneX_kept (wOff hm rfl) | with_reducible apply State.toLane_kept (wOff hm rfl) | with_reducible apply State.calDrop_kept (wOff hm rfl) | with_reducible apply State.rewriteTimeout_kept (wOff hm rfl) | with_reducible apply State.failVerify_kept (wOff hm rfl) hM | with_reducible apply State.stopApply_kept (wOff hm rfl) | with_reducible apply Kept.ite | simp only [Kept.mk_lat (wOff hm rfl)] | dsimp only | split

theorem execOperationTimeout_kept {src} {tag} {gaps} {s : State} (hm : kK &&& 0x55bfc9e16 = 0) (hM : Closed kM)  (hk : Kept kK k0 kM s) :
    KeptR kK k0 kM (execOperationTimeout src tag gaps s) := by
  unfold execOperationTimeout
  repeat' first | with_reducible assumption | with_reducible apply State.reach_kept (wOff hm rfl) | with_reducible apply State.timeOut_kept (wOff hm rfl) hM | with_reducible apply KeptR.next | dsimp only | split

end Sys2Proof.Machine
end

