-- ==== Sys2Proof/Laws/KeptViews.lean ====
section
/-! SUPPORT. The operations of Sys2Proof/Machine/Views.lean leave alone what `Kept` names. -/
namespace Sys2Proof.Machine
set_option linter.unusedSimpArgs false
set_option linter.unusedVariables false
variable {kK : Nat} {k0 : State} {kM : List Host.Cell → Prop}

theorem State.readWord_kept {s : State} {m} {d} {b} {off} (hm : kK &&& 0x20001000 = 0)  (hk : Kept kK k0 kM s) :
    Kept kK k0 kM (State.readWord s m d b off).2 := by
  unfold State.readWord
  repeat' first | with_reducible assumption | with_reducible apply State.freeVal_kept (wOff hm rfl) | with_reducible apply Kept.ite | (refine Kept.sndEq (x := (State.freeVal _)) (by assumption) ?_) | simp only [Kept.mk_opt (wOff hm rfl)] | dsimp only | split

theorem State.latch_kept {s : State} {m} {a} {v} (hm : kK &&& 0x4000 = 0)  (hk : Kept kK k0 kM s) :
    Kept kK k0 kM (State.latch s m a v) := by
  unfold State.latch
  repeat' first | with_reducible assumption | simp only [Kept.mk_latches (wOff hm rfl)] | dsimp only | split

end Sys2Proof.Machine
end

