-- ==== Sys2Proof/Laws/KeptRegs.lean ====
section
/-! SUPPORT. The operations of Sys2Proof/Machine/Regs.lean leave alone what `Kept` names. -/
namespace Sys2Proof.Machine
set_option linter.unusedSimpArgs false
set_option linter.unusedVariables false
variable {kK : Nat} {k0 : State} {kM : List Host.Cell → Prop}

theorem State.cellWrite_kept {s : State} {a} {v} {f} (hm : kK &&& 0x2 = 0)  (hk : Kept kK k0 kM s) :
    Kept kK k0 kM (State.cellWrite s a v f) := by
  unfold State.cellWrite
  repeat' first | with_reducible assumption | simp only [Kept.mk_regs (wOff hm rfl)] | dsimp only | split

theorem State.plainWrite_kept {s : State} {d} {b} {off} {v} (hm : kK &&& 0x2 = 0)  (hk : Kept kK k0 kM s) :
    Kept kK k0 kM (State.plainWrite s d b off v) := by
  unfold State.plainWrite
  repeat' first | with_reducible assumption | with_reducible apply State.cellWrite_kept (wOff hm rfl) | with_reducible refine Kept.foldl ?_ (fun _ _ _ => ?_) | with_reducible refine Kept.foldlIn Prod.snd ?_ (fun _ _ _ => ?_) | with_reducible refine Kept.foldlIn (fun p => p.2.2) ?_ (fun _ _ _ => ?_) | dsimp only | split

theorem State.evcReg_kept {s : State} {m} {off} {v} (hm : kK &&& 0x400000006 = 0)  (hk : Kept kK k0 kM s) :
    Kept kK k0 kM (State.evcReg s m off v) := by
  unfold State.evcReg
  repeat' first | with_reducible assumption | with_reducible apply State.evcSet_kept (wOff hm rfl) | with_reducible apply State.evcMask_kept (wOff hm rfl) | with_reducible apply State.evcRoute_kept (wOff hm rfl) | with_reducible apply State.plainWrite_kept (wOff hm rfl) | with_reducible apply Kept.ite | dsimp only | split

theorem State.cueBlockReg_kept {s : State} {m} {n} {off} {v} (hm : kK &&& 0x600000006 = 0)  (hk : Kept kK k0 kM s) :
    Kept kK k0 kM (State.cueBlockReg s m n off v) := by
  unfold State.cueBlockReg
  repeat' first | with_reducible assumption | with_reducible apply State.settleTimer_kept (wOff hm rfl) | with_reducible apply State.wdtKick_kept (wOff hm rfl) | with_reducible apply State.wdtCfg_kept (wOff hm rfl) | with_reducible apply State.plainWrite_kept (wOff hm rfl) | with_reducible apply Kept.ite | dsimp only | split

theorem State.mbxReg_kept {s : State} {m} {off} {v} (hm : kK &&& 0x400000006 = 0)  (hk : Kept kK k0 kM s) :
    Kept kK k0 kM (State.mbxReg s m off v) := by
  unfold State.mbxReg
  repeat' first | with_reducible assumption | with_reducible apply State.mbWrite_kept (wOff hm rfl) | with_reducible apply State.plainWrite_kept (wOff hm rfl) | with_reducible apply Kept.ite | dsimp only | split

theorem State.dmaReg_kept {s : State} {off} {v} (hm : kK &&& 0x6410c0e36 = 0) (hM : Closed kM)  (hk : Kept kK k0 kM s) :
    Kept kK k0 kM (State.dmaReg s off v) := by
  unfold State.dmaReg
  repeat' first | with_reducible assumption | with_reducible apply State.dmaStart_kept (wOff hm rfl) | with_reducible apply State.dmaDisable_kept (wOff hm rfl) | with_reducible apply State.dmaAbort_kept (wOff hm rfl) hM | with_reducible apply State.dmaCtl_kept (wOff hm rfl) | with_reducible apply State.plainWrite_kept (wOff hm rfl) | with_reducible apply Kept.ite | dsimp only | split

theorem State.pwrReg_kept {s : State} {off} {v} (hm : kK &&& 0x20002 = 0)  (hk : Kept kK k0 kM s) :
    Kept kK k0 kM (State.pwrReg s off v) := by
  unfold State.pwrReg
  repeat' first | with_reducible assumption | with_reducible apply State.tripClear_kept (wOff hm rfl) | with_reducible apply State.plainWrite_kept (wOff hm rfl) | with_reducible apply Kept.ite | dsimp only | split

theorem State.spReg_kept {s : State} {q} {off} {v} (hm : kK &&& 0x80002 = 0)  (hk : Kept kK k0 kM s) :
    Kept kK k0 kM (State.spReg s q off v) := by
  unfold State.spReg
  repeat' first | with_reducible assumption | with_reducible apply State.spCtl_kept (wOff hm rfl) | with_reducible apply State.plainWrite_kept (wOff hm rfl) | dsimp only | split

theorem State.qcReg_kept {s : State} {m} {q} {off} {v} (hm : kK &&& 0x400102006 = 0)  (hk : Kept kK k0 kM s) :
    Kept kK k0 kM (State.qcReg s m q off v) := by
  unfold State.qcReg
  repeat' first | with_reducible assumption | with_reducible apply State.rawCtl_kept (wOff hm rfl) | with_reducible apply State.sawAfull_kept (wOff hm rfl) | with_reducible apply State.qctl_kept (wOff hm rfl) | with_reducible apply State.qcFlush_kept (wOff hm rfl) | with_reducible apply State.plainWrite_kept (wOff hm rfl) | with_reducible apply Kept.ite | dsimp only | split

theorem State.niReg_kept {s : State} {q} {v} {off} {w} (hm : kK &&& 0x410000006 = 0)  (hk : Kept kK k0 kM s) :
    Kept kK k0 kM (State.niReg s q v off w) := by
  unfold State.niReg
  repeat' first | with_reducible assumption | with_reducible apply State.admitWrite_kept (wOff hm rfl) | with_reducible apply State.plainWrite_kept (wOff hm rfl) | with_reducible apply Kept.ite | dsimp only | split

theorem State.psysReg_kept {s : State} {m} {off} {v} (hm : kK &&& 0x400000006 = 0)  (hk : Kept kK k0 kM s) :
    Kept kK k0 kM (State.psysReg s m off v) := by
  unfold State.psysReg
  repeat' first | with_reducible assumption | with_reducible apply State.psysWrite_kept (wOff hm rfl) | with_reducible apply State.plainWrite_kept (wOff hm rfl) | with_reducible apply Kept.ite | dsimp only | split

theorem State.dbgaStart_kept {s : State} (hm : kK &&& 0x410080206 = 0)  (hk : Kept kK k0 kM s) :
    Kept kK k0 kM (State.dbgaStart s) := by
  unfold State.dbgaStart
  repeat' first | with_reducible assumption | with_reducible apply State.setF_kept (wOff hm rfl) | with_reducible apply State.raise_kept (wOff hm rfl) | with_reducible apply State.emit_kept (wOff hm rfl) | with_reducible apply State.windowAccess_kept (wOff hm rfl) | with_reducible apply Kept.ite | simp only [Kept.mk_dbg (wOff hm rfl)] | dsimp only | split

theorem State.dbgaCtl_kept {s : State} {w} {v} (hm : kK &&& 0x410080206 = 0)  (hk : Kept kK k0 kM s) :
    Kept kK k0 kM (State.dbgaCtl s w v) := by
  unfold State.dbgaCtl
  repeat' first | with_reducible assumption | with_reducible apply State.setF_kept (wOff hm rfl) | with_reducible apply State.lower_kept (wOff hm rfl) | with_reducible apply State.dbgOwned_kept (wOff hm rfl) | with_reducible apply State.plainWrite_kept (wOff hm rfl) | with_reducible apply State.dbgaStart_kept (wOff hm rfl) | with_reducible apply Kept.ite | (intro u hu) | simp only [id] | dsimp only | split

theorem State.dbgCoreReg_kept {s : State} {w} {n} {r} {v} (hm : kK &&& 0x600000006 = 0)  (hk : Kept kK k0 kM s) :
    Kept kK k0 kM (State.dbgCoreReg s w n r v) := by
  unfold State.dbgCoreReg
  repeat' first | with_reducible assumption | with_reducible apply State.dbgOwned_kept (wOff hm rfl) | with_reducible apply State.runWrite_kept (wOff hm rfl) | with_reducible apply State.cregWrite_kept (wOff hm rfl) | with_reducible apply State.plainWrite_kept (wOff hm rfl) | with_reducible apply Kept.ite | (intro u hu) | simp only [id] | dsimp only | split

theorem State.dbgReg_kept {s : State} {w} {off} {v} (hm : kK &&& 0x658fa821e = 0) (hM : Closed kM)  (hk : Kept kK k0 kM s) :
    Kept kK k0 kM (State.dbgReg s w off v) := by
  unfold State.dbgReg
  repeat' first | with_reducible assumption | with_reducible apply State.dbgOwned_kept (wOff hm rfl) | with_reducible apply State.groupWrite_kept (wOff hm rfl) | with_reducible apply State.holdCueWrite_kept (wOff hm rfl) hM | with_reducible apply State.holdFWrite_kept (wOff hm rfl) | with_reducible apply State.dbgCtl_kept (wOff hm rfl) hM | with_reducible apply State.stim_kept (wOff hm rfl) | with_reducible apply State.trcCtl_kept (wOff hm rfl) | with_reducible apply State.snapBlock_kept (wOff hm rfl) | with_reducible apply State.plainWrite_kept (wOff hm rfl) | with_reducible apply State.dbgaCtl_kept (wOff hm rfl) | with_reducible apply State.dbgCoreReg_kept (wOff hm rfl) | with_reducible apply Kept.ite | (intro u hu) | simp only [id] | dsimp only | split

theorem State.regWrite_kept {s : State} {m} {d} {b} {off} {v} (hm : kK &&& 0x759feae3e = 0) (hM : Closed kM)  (hk : Kept kK k0 kM s) :
    Kept kK k0 kM (State.regWrite s m d b off v) := by
  unfold State.regWrite
  repeat' first | with_reducible assumption | with_reducible apply State.hqWrite_kept (wOff hm rfl) hM | with_reducible apply State.probeCtl_kept (wOff hm rfl) | with_reducible apply State.push_kept (wOff hm rfl) hM | with_reducible apply State.dbgWrite_kept (wOff hm rfl) | with_reducible apply State.snapBlock_kept (wOff hm rfl) | with_reducible apply State.plainWrite_kept (wOff hm rfl) | with_reducible apply State.evcReg_kept (wOff hm rfl) | with_reducible apply State.cueBlockReg_kept (wOff hm rfl) | with_reducible apply State.mbxReg_kept (wOff hm rfl) | with_reducible apply State.dmaReg_kept (wOff hm rfl) hM | with_reducible apply State.pwrReg_kept (wOff hm rfl) | with_reducible apply State.spReg_kept (wOff hm rfl) | with_reducible apply State.qcReg_kept (wOff hm rfl) | with_reducible apply State.niReg_kept (wOff hm rfl) | with_reducible apply State.psysReg_kept (wOff hm rfl) | with_reducible apply State.dbgReg_kept (wOff hm rfl) hM | with_reducible apply Kept.ite | (intro u hu) | simp only [id] | dsimp only | split

theorem State.regWords_kept {s : State} {m} {d} {b} {a4} {a5} (hm : kK &&& 0x759feae3e = 0) (hM : Closed kM)  (hk : Kept kK k0 kM s) :
    Kept kK k0 kM (State.regWords s m d b a4 a5) := by
  induction a5 generalizing s a4 with
  | nil => exact hk
  | cons w ws ih => exact ih (State.regWrite_kept (wOff hm rfl) hM hk)

theorem State.regWrites_kept {s : State} {m} {d} {b} {off} {ws} (hm : kK &&& 0x759ffae3e = 0) (hM : Closed kM)  (hk : Kept kK k0 kM s) :
    Kept kK k0 kM (State.regWrites s m d b off ws) := by
  unfold State.regWrites
  exact Kept.ite (State.settleVectors_kept (wOff hm rfl) (State.regWords_kept (wOff hm rfl) hM hk)) (State.regWords_kept (wOff hm rfl) hM hk)

theorem State.regTake_kept {s : State} {m} {d} {b} {off} {a} {bytes} {c} (hm : kK &&& 0x759ffae3e = 0) (hM : Closed kM)  (hk : Kept kK k0 kM s) :
    Kept kK k0 kM (State.regTake s m d b off a bytes c) := by
  unfold State.regTake
  cases c with
  | some c => exact State.busError_kept (wOff hm rfl) hk
  | none => exact Kept.ite (State.regWrites_kept (wOff hm rfl) hM hk) (Kept.ite (State.raise_kept (wOff hm rfl) hk) (Kept.up_posted (wOff hm rfl) hk))

theorem State.regArrive_kept {s : State} {m} {a} {bytes} (hm : kK &&& 0x759ffae3e = 0) (hM : Closed kM)  (hk : Kept kK k0 kM s) :
    Kept kK k0 kM (State.regArrive s m a bytes) := by
  exact State.regTake_kept (wOff hm rfl) hM hk

theorem State.busWrite_kept {s : State} {m} {a} {bytes} (hm : kK &&& 0x759ffae3e = 0) (hM : Closed kM)  (hk : Kept kK k0 kM s) :
    Kept kK k0 kM (State.busWrite s m a bytes) := by
  unfold State.busWrite
  repeat' first | with_reducible assumption | with_reducible apply State.storeBy_kept (wOff hm rfl) hM | with_reducible apply State.busError_kept (wOff hm rfl) | with_reducible apply State.busDead_kept (wOff hm rfl) | with_reducible apply State.regArrive_kept (wOff hm rfl) hM | with_reducible apply Kept.ite | dsimp only | split

theorem execRegisterWrite_kept {m} {a} {bytes} {s : State} (hm : kK &&& 0x759ffae3e = 0) (hM : Closed kM)  (hk : Kept kK k0 kM s) :
    KeptR kK k0 kM (execRegisterWrite m a bytes s) := by
  unfold execRegisterWrite
  repeat' first | with_reducible assumption | with_reducible apply State.busWrite_kept (wOff hm rfl) hM | with_reducible apply KeptR.next | dsimp only | split

theorem State.dropPosted_kept {s : State} {d} {b} (hm : kK &&& 0x2000 = 0)  (hk : Kept kK k0 kM s) :
    Kept kK k0 kM (State.dropPosted s d b) := by
  unfold State.dropPosted
  repeat' first | with_reducible assumption | simp only [Kept.mk_posted (wOff hm rfl)] | dsimp only | split

theorem State.applyPosted_kept {s : State} {d} {b} {p} (hm : kK &&& 0x759ffae3e = 0) (hM : Closed kM)  (hk : Kept kK k0 kM s) :
    Kept kK k0 kM (State.applyPosted s d b p) := by
  unfold State.applyPosted
  repeat' first | with_reducible assumption | with_reducible apply State.regWrites_kept (wOff hm rfl) hM | dsimp only | split

theorem execPostedWriteApply_kept {d} {b} {s : State} (hm : kK &&& 0x759ffae3e = 0) (hM : Closed kM)  (hk : Kept kK k0 kM s) :
    KeptR kK k0 kM (execPostedWriteApply d b s) := by
  unfold execPostedWriteApply
  repeat' first | with_reducible assumption | with_reducible apply State.dropPosted_kept (wOff hm rfl) | with_reducible apply State.applyPosted_kept (wOff hm rfl) hM | with_reducible apply Kept.ite | with_reducible apply KeptR.next | dsimp only | split

theorem execPostedWriteTimeout_kept {d} {b} {s : State} (hm : kK &&& 0x759ffbe3e = 0) (hM : Closed kM)  (hk : Kept kK k0 kM s) :
    KeptR kK k0 kM (execPostedWriteTimeout d b s) := by
  unfold execPostedWriteTimeout
  repeat' first | with_reducible assumption | with_reducible apply State.raise_kept (wOff hm rfl) | with_reducible apply State.journal_kept (wOff hm rfl) | with_reducible apply State.reachNow_kept (wOff hm rfl) | with_reducible apply State.dropPosted_kept (wOff hm rfl) | with_reducible apply State.applyPosted_kept (wOff hm rfl) hM | with_reducible apply Kept.ite | with_reducible apply KeptR.next | simp only [Kept.mk_fresh (wOff hm rfl)] | dsimp only | split

theorem execTimeLatchRead_kept {m} {d} {b} {s : State} (hm : kK &&& 0x20005202 = 0)  (hk : Kept kK k0 kM s) :
    KeptR kK k0 kM (execTimeLatchRead m d b s) := by
  unfold execTimeLatchRead
  repeat' first | with_reducible assumption | with_reducible apply State.emit_kept (wOff hm rfl) | with_reducible apply State.busError_kept (wOff hm rfl) | with_reducible apply State.busDead_kept (wOff hm rfl) | with_reducible apply State.readWord_kept (wOff hm rfl) | with_reducible apply State.latch_kept (wOff hm rfl) | with_reducible apply Kept.ite | with_reducible apply KeptR.next | (refine Kept.sndEq (x := (State.readWord _ _ _ _ _)) (by assumption) ?_) | dsimp only | split

theorem execFabricWindowAccess_kept {m} {q} {a} {write} {be} {data} {s : State} (hm : kK &&& 0x410080206 = 0)  (hk : Kept kK k0 kM s) :
    KeptR kK k0 kM (execFabricWindowAccess m q a write be data s) := by
  unfold execFabricWindowAccess
  repeat' first | with_reducible assumption | with_reducible apply State.busError_kept (wOff hm rfl) | with_reducible apply State.windowAccess_kept (wOff hm rfl) | with_reducible apply Kept.ite | with_reducible apply KeptR.next | dsimp only | split

end Sys2Proof.Machine
end

