-- ==== Sys2Proof/Laws/KeptDebugAccess.lean ====
section
/-! SUPPORT. The operations of Sys2Proof/Machine/DebugAccess.lean leave alone what `Kept` names. -/
namespace Sys2Proof.Machine
set_option linter.unusedSimpArgs false
set_option linter.unusedVariables false
variable {kK : Nat} {k0 : State} {kM : List Host.Cell → Prop}

theorem State.latchIf_kept {s : State} {m} {a} {v} (hm : kK &&& 0x4000 = 0)  (hk : Kept kK k0 kM s) :
    Kept kK k0 kM (State.latchIf s m a v) := by
  cases v with
  | none => exact hk
  | some v => exact State.latch_kept (wOff hm rfl) hk

theorem State.regBytes_kept {s : State} {m} {a2} {a3} (hm : kK &&& 0x20005000 = 0)  (hk : Kept kK k0 kM s) :
    Kept kK k0 kM (State.regBytes s m a2 a3).2 := by
  induction a3 generalizing s a2 with
  | zero => exact hk
  | succ n ih => exact ih (State.latchIf_kept (wOff hm rfl) (State.readWord_kept (wOff hm rfl) hk))

theorem State.dbgaRegPut_kept {s : State} {m} {a} {n} (hm : kK &&& 0x759ffae3e = 0) (hM : Closed kM)  (hk : Kept kK k0 kM s) :
    Kept kK k0 kM (State.dbgaRegPut s m a n).2 := by
  exact State.regArrive_kept (wOff hm rfl) hM hk

theorem State.dbgaRegGet_kept {s : State} {m} {a} {n} (hm : kK &&& 0x20005000 = 0)  (hk : Kept kK k0 kM s) :
    Kept kK k0 kM (State.dbgaRegGet s m a n).2 := by
  exact State.regBytes_kept (wOff hm rfl) hk

theorem State.dbgaRegTake_kept {s : State} {m} {a} {n} {wr} {c} (hm : kK &&& 0x779fffe3e = 0) (hM : Closed kM)  (hk : Kept kK k0 kM s) :
    Kept kK k0 kM (State.dbgaRegTake s m a n wr c).2 := by
  cases c with
  | some c => exact hk
  | none => exact Kept.iteIn (fun r : DbgaAns × State => r.2) (State.dbgaRegPut_kept (wOff hm rfl) hM hk) (State.dbgaRegGet_kept (wOff hm rfl) hk)

theorem State.dbgaReg_kept {s : State} {m} {a} {n} {wr} (hm : kK &&& 0x779fffe3e = 0) (hM : Closed kM)  (hk : Kept kK k0 kM s) :
    Kept kK k0 kM (State.dbgaReg s m a n wr).2 := by
  exact State.dbgaRegTake_kept (wOff hm rfl) hM hk

theorem State.dbgaMem_kept {s : State} {a} {n} {wr} (hm : kK &&& 0x200000010 = 0) (hM : Closed kM)  (hk : Kept kK k0 kM s) :
    Kept kK k0 kM (State.dbgaMem s a n wr).2 := by
  unfold State.dbgaMem
  repeat' first | with_reducible assumption | with_reducible apply State.store_kept (wOff hm rfl) hM | with_reducible apply Kept.ite | dsimp only | split

theorem dbgaWritten_kept {w} (hm : kK &&& 0x0 = 0)   (hw : Kept kK k0 kM w.2) :
    KeptO kK k0 kM (fun r => r.2) (dbgaWritten w) := by
  unfold dbgaWritten
  cases w.1 with
  | none => trivial
  | some st => exact hw

theorem dbgaGot_kept {r} (hm : kK &&& 0x0 = 0)   (hr : Kept kK k0 kM r.2) :
    Kept kK k0 kM (dbgaGot r).2 := by
  exact hr

theorem State.dbgaFm_kept {s : State} {a} {n} {wr} {es} (hm : kK &&& 0x401040016 = 0) (hM : Closed kM)  (hk : Kept kK k0 kM s) :
    KeptO kK k0 kM (fun r => r.2) (State.dbgaFm s a n wr es) := by
  unfold State.dbgaFm
  repeat' first | with_reducible assumption | with_reducible apply State.fmRead_kept (wOff hm rfl) | with_reducible apply State.fmWrite_kept (wOff hm rfl) hM | with_reducible apply dbgaWritten_kept (wOff hm rfl) | with_reducible apply dbgaGot_kept (wOff hm rfl) | with_reducible apply Kept.ite | with_reducible apply KeptO.some | exact KeptO.none | (refine Kept.sndEq (x := (State.fmRead _ _ _ _ _)) (by assumption) ?_) | (refine Kept.sndEq (x := (State.fmWrite _ _ _ _ _ _)) (by assumption) ?_) | (refine KeptO.get (f := (fun r => r.2)) (o := (dbgaWritten _)) (by assumption) ?_) | (refine Kept.sndEq (x := (dbgaGot _)) (by assumption) ?_) | simp only [id] | dsimp only | split

theorem State.dbgaDo_kept {s : State} {es} {st} {data} {poison} (hm : kK &&& 0x779fffe3e = 0) (hM : Closed kM)  (hk : Kept kK k0 kM s) :
    KeptO kK k0 kM (fun r => r.2) (State.dbgaDo s es st data poison) := by
  unfold State.dbgaDo
  repeat' first | with_reducible assumption | with_reducible apply State.dbgaReg_kept (wOff hm rfl) hM | with_reducible apply State.dbgaMem_kept (wOff hm rfl) hM | with_reducible apply State.dbgaFm_kept (wOff hm rfl) hM | with_reducible apply Kept.ite | with_reducible apply KeptO.some | exact KeptO.none | (refine Kept.sndEq (x := (State.dbgaReg _ _ _ _ _)) (by assumption) ?_) | (refine Kept.sndEq (x := (State.dbgaMem _ _ _ _)) (by assumption) ?_) | (refine KeptO.get (f := (fun r => r.2)) (o := (State.dbgaFm _ _ _ _ _)) (by assumption) ?_) | simp only [id] | dsimp only | split

theorem State.dbgaEnd_kept {s : State} {n} {wr} {r} (hm : kK &&& 0x2 = 0)  (hk : Kept kK k0 kM s) :
    Kept kK k0 kM (State.dbgaEnd s n wr r) := by
  unfold State.dbgaEnd
  repeat' first | with_reducible assumption | with_reducible apply State.setF_kept (wOff hm rfl) | with_reducible apply State.lower_kept (wOff hm rfl) | with_reducible apply State.setB_kept (wOff hm rfl) | with_reducible apply Kept.ite | dsimp only | split

theorem execDbgaGo_kept {w} {v} {s : State} (hm : kK &&& 0x410080206 = 0)  (hk : Kept kK k0 kM s) :
    KeptR kK k0 kM (execDbgaGo w v s) := by
  unfold execDbgaGo
  repeat' first | with_reducible assumption | with_reducible apply State.dbgWrite_kept (wOff hm rfl) | with_reducible apply State.dbgaCtl_kept (wOff hm rfl) | with_reducible apply KeptR.next | (intro u hu) | simp only [id] | dsimp only | split

theorem State.dbgaLate_kept {s : State} (hm : kK &&& 0x2 = 0)  (hk : Kept kK k0 kM s) :
    Kept kK k0 kM (State.dbgaLate s) := by
  unfold State.dbgaLate
  repeat' first | with_reducible assumption | with_reducible apply State.setF_kept (wOff hm rfl) | with_reducible apply State.lower_kept (wOff hm rfl) | dsimp only | split

theorem execDbgaAccessDone_kept {es} {st} {data} {poison} {s : State} (hm : kK &&& 0x779fffe3e = 0) (hM : Closed kM)  (hk : Kept kK k0 kM s) :
    KeptR kK k0 kM (execDbgaAccessDone es st data poison s) := by
  unfold execDbgaAccessDone
  repeat' first | with_reducible assumption | with_reducible apply State.dbgaDo_kept (wOff hm rfl) hM | with_reducible apply State.dbgaEnd_kept (wOff hm rfl) | with_reducible apply State.dbgaLate_kept (wOff hm rfl) | with_reducible apply Kept.ite | with_reducible apply KeptR.next | (refine KeptO.get (f := (fun r => r.2)) (o := (State.dbgaDo _ _ _ _ _)) (by assumption) ?_) | dsimp only | split

theorem execDbgaTimeout_kept {s : State} (hm : kK &&& 0x40000c02 = 0)  (hk : Kept kK k0 kM s) :
    KeptR kK k0 kM (execDbgaTimeout s) := by
  unfold execDbgaTimeout
  repeat' first | with_reducible assumption | with_reducible apply State.reachNow_kept (wOff hm rfl) | with_reducible apply State.dbgaLate_kept (wOff hm rfl) | with_reducible apply Kept.ite | with_reducible apply KeptR.next | dsimp only | split

theorem State.tapAccess_kept {s : State} {i} (hm : kK &&& 0x400000200 = 0)  (hk : Kept kK k0 kM s) :
    Kept kK k0 kM (State.tapAccess s i) := by
  unfold State.tapAccess
  repeat' first | with_reducible assumption | with_reducible apply State.emit_kept (wOff hm rfl) | with_reducible apply State.tapLoad_kept (wOff hm rfl) | dsimp only | split

theorem State.setCapture_kept {s : State} {v} (hm : kK &&& 0x400000000 = 0)  (hk : Kept kK k0 kM s) :
    Kept kK k0 kM (State.setCapture s v) := by
  unfold State.setCapture
  repeat' first | with_reducible assumption | simp only [Kept.mk_dbg (wOff hm rfl)] | dsimp only | split

theorem execDbgreg_kept {v} {s : State} (hm : kK &&& 0x658fa821e = 0) (hM : Closed kM)  (hk : Kept kK k0 kM s) :
    KeptR kK k0 kM (execDbgreg v s) := by
  unfold execDbgreg
  repeat' first | with_reducible assumption | with_reducible apply State.dbgWrite_kept (wOff hm rfl) | with_reducible apply State.dbgReg_kept (wOff hm rfl) hM | with_reducible apply State.tapAccess_kept (wOff hm rfl) | with_reducible apply State.setCapture_kept (wOff hm rfl) | with_reducible apply Kept.ite | with_reducible apply KeptR.next | (intro u hu) | simp only [id] | dsimp only | split

theorem execCmdpath_kept {v} {s : State} (hm : kK &&& 0x700028236 = 0) (hM : Closed kM)  (hk : Kept kK k0 kM s) :
    KeptR kK k0 kM (execCmdpath v s) := by
  unfold execCmdpath
  repeat' first | with_reducible assumption | with_reducible apply State.pathWrite_kept (wOff hm rfl) hM | with_reducible apply State.tapAccess_kept (wOff hm rfl) | with_reducible apply State.setCapture_kept (wOff hm rfl) | with_reducible apply Kept.ite | with_reducible apply KeptR.next | dsimp only | split

end Sys2Proof.Machine
end

