-- ==== Sys2Proof/Laws/KeptTick.lean ====
section
/-! SUPPORT. The operations of Sys2Proof/Machine/Tick.lean leave alone what `Kept` names. -/
namespace Sys2Proof.Machine
set_option linter.unusedSimpArgs false
set_option linter.unusedVariables false
variable {kK : Nat} {k0 : State} {kM : List Host.Cell → Prop}

theorem State.slewOn_kept {s : State} (hm : kK &&& 0x40001002 = 0)  (hk : Kept kK k0 kM s) :
    Kept kK k0 kM (State.slewOn s) := by
  unfold State.slewOn
  repeat' first | with_reducible assumption | with_reducible apply State.newFreq_kept (wOff hm rfl) | with_reducible apply State.endSlew_kept (wOff hm rfl) | with_reducible apply Kept.ite | dsimp only | split

theorem State.slewBack_kept {s : State} (hm : kK &&& 0x40000002 = 0)  (hk : Kept kK k0 kM s) :
    Kept kK k0 kM (State.slewBack s) := by
  unfold State.slewBack
  repeat' first | with_reducible assumption | with_reducible apply State.setFreq_kept (wOff hm rfl) | with_reducible apply Kept.ite | simp only [Kept.mk_tim (wOff hm rfl)] | dsimp only | split

theorem State.see10_kept {s : State} (hm : kK &&& 0x40001000 = 0)  (hk : Kept kK k0 kM s) :
    Kept kK k0 kM (State.see10 s) := by
  unfold State.see10
  repeat' first | with_reducible assumption | with_reducible apply State.freeVal_kept (wOff hm rfl) | with_reducible apply Kept.ite | (refine Kept.sndEq (x := (State.freeVal _)) (by assumption) ?_) | simp only [Kept.mk_tim (wOff hm rfl)] | dsimp only | split

theorem State.passTime_kept {s : State} (hm : kK &&& 0x40001c02 = 0)  (hk : Kept kK k0 kM s) :
    Kept kK k0 kM (State.passTime s) := by
  unfold State.passTime
  repeat' first | with_reducible assumption | with_reducible apply State.timeRuns_kept (wOff hm rfl) | with_reducible apply State.slewOn_kept (wOff hm rfl) | with_reducible apply State.slewBack_kept (wOff hm rfl) | dsimp only | split

theorem State.showLink_kept {s : State} (hm : kK &&& 0x2 = 0)  (hk : Kept kK k0 kM s) :
    Kept kK k0 kM (State.showLink s) := by
  unfold State.showLink
  repeat' first | with_reducible assumption | with_reducible apply State.setF_kept (wOff hm rfl) | with_reducible apply State.raise_kept (wOff hm rfl) | dsimp only | split

theorem State.pcieTrain_kept {s : State} (hm : kK &&& 0x11002 = 0)  (hk : Kept kK k0 kM s) :
    Kept kK k0 kM (State.pcieTrain s) := by
  unfold State.pcieTrain
  repeat' first | with_reducible assumption | with_reducible apply State.freeVal_kept (wOff hm rfl) | with_reducible apply State.showLink_kept (wOff hm rfl) | with_reducible apply Kept.ite | (refine Kept.sndEq (x := (State.freeVal _)) (by assumption) ?_) | simp only [Kept.mk_evc (wOff hm rfl)] | dsimp only | split

theorem State.calRuns_kept {s : State} (hm : kK &&& 0x1002 = 0)  (hk : Kept kK k0 kM s) :
    Kept kK k0 kM (State.calRuns s) := by
  unfold State.calRuns
  repeat' first | with_reducible assumption | with_reducible apply State.calOn_kept (wOff hm rfl) | dsimp only | split

theorem State.tick_kept {s : State} (hm : kK &&& 0x5d51d9e16 = 0) (hM : Closed kM)  (hk : Kept kK k0 kM s) :
    Kept kK k0 kM (State.tick s) := by
  unfold State.tick
  repeat' first | with_reducible assumption | with_reducible apply State.loopsRun_kept (wOff hm rfl) | with_reducible apply State.xosRun_kept (wOff hm rfl) | with_reducible apply State.fmRun_kept (wOff hm rfl) hM | with_reducible apply State.ringTick_kept (wOff hm rfl) | with_reducible apply State.swapOn_kept (wOff hm rfl) | with_reducible apply State.qcSyncAll_kept (wOff hm rfl) | with_reducible apply State.latticeRun_kept (wOff hm rfl) | with_reducible apply State.recordLive_kept (wOff hm rfl) | with_reducible apply State.see10_kept (wOff hm rfl) | with_reducible apply State.passTime_kept (wOff hm rfl) | with_reducible apply State.pcieTrain_kept (wOff hm rfl) | with_reducible apply State.calRuns_kept (wOff hm rfl) | with_reducible apply Kept.ite | dsimp only | split

end Sys2Proof.Machine
end

