-- ==== Sys2Proof/Laws/Store.lean ====
section
/-! SUPPORT. The laws of sparse stores: a read after a write gives the value written, a write leaves every other key alone,
and every operation keeps the canonical form. -/
namespace Sys2Proof

variable {α : Type}

@[simp] theorem SMap.get_nil (d : α) (k : Nat) : SMap.get d [] k = d := rfl

theorem SMap.get_insert_same (d : α) (m : SMap α) (k : Nat) (v : α) : SMap.get d (SMap.insert m k v) k = v := by
  induction m with
  | nil => simp [SMap.insert, SMap.get]
  | cons p t ih =>
    obtain ⟨k', v'⟩ := p
    unfold SMap.insert
    split
    · simp [SMap.get]
    · split
      · simp [SMap.get]
      · rename_i h
        simp [SMap.get, h, ih]

theorem SMap.get_insert_other (d : α) (m : SMap α) (k j : Nat) (v : α) (h : j ≠ k) :
    SMap.get d (SMap.insert m k v) j = SMap.get d m j := by
  induction m with
  | nil => simp [SMap.insert, SMap.get, h]
  | cons p t ih =>
    obtain ⟨k', v'⟩ := p
    unfold SMap.insert
    split
    · simp [SMap.get, h]
    · split
      · rename_i h2
        subst h2
        simp [SMap.get, h]
      · simp [SMap.get, ih]

theorem SMap.get_erase_same (d : α) (m : SMap α) (k : Nat) : SMap.get d (SMap.erase m k) k = d := by
  induction m with
  | nil => rfl
  | cons p t ih =>
    obtain ⟨k', v'⟩ := p
    by_cases hk : k' = k
    · simpa [SMap.erase, hk] using ih
    · have : ¬ k = k' := fun e => hk e.symm
      simpa [SMap.erase, hk, SMap.get, this] using ih

theorem SMap.get_erase_other (d : α) (m : SMap α) (k j : Nat) (h : j ≠ k) :
    SMap.get d (SMap.erase m k) j = SMap.get d m j := by
  induction m with
  | nil => rfl
  | cons p t ih =>
    obtain ⟨k', v'⟩ := p
    by_cases hk : k' = k
    · subst hk
      simpa [SMap.erase, SMap.get, h] using ih
    · by_cases hj : j = k'
      · simp [SMap.erase, hk, SMap.get, hj]
      · simpa [SMap.erase, hk, SMap.get, hj] using ih

/-- A read after a write to the same key gives the value written. -/
@[simp] theorem SMap.get_put_same [DecidableEq α] (d : α) (m : SMap α) (k : Nat) (v : α) :
    SMap.get d (SMap.put d m k v) k = v := by
  unfold SMap.put
  split
  · rename_i h
    rw [SMap.get_erase_same, h]
  · exact SMap.get_insert_same d m k v

/-- A write leaves every other key alone. -/
theorem SMap.get_put_other [DecidableEq α] (d : α) (m : SMap α) (k j : Nat) (v : α) (h : j ≠ k) :
    SMap.get d (SMap.put d m k v) j = SMap.get d m j := by
  unfold SMap.put
  split
  · exact SMap.get_erase_other d m k j h
  · exact SMap.get_insert_other d m k j v h

/-- A read after a write, both cases. -/
theorem SMap.get_put [DecidableEq α] (d : α) (m : SMap α) (k j : Nat) (v : α) :
    SMap.get d (SMap.put d m k v) j = if j = k then v else SMap.get d m j := by
  split
  · rename_i h; subst h; exact SMap.get_put_same d m j v
  · rename_i h; exact SMap.get_put_other d m k j v h

theorem SMap.risesFrom_mono (m : SMap α) (a b : Nat) (h : a ≤ b) (hm : SMap.risesFrom b m = true) :
    SMap.risesFrom a m = true := by
  cases m with
  | nil => rfl
  | cons p t =>
    obtain ⟨k, v⟩ := p
    simp [SMap.risesFrom] at hm ⊢
    exact ⟨by omega, hm.2⟩

theorem SMap.risesFrom_filter (m : SMap α) (q : Nat × α → Bool) (b : Nat) (hm : SMap.risesFrom b m = true) :
    SMap.risesFrom b (m.filter q) = true := by
  induction m generalizing b with
  | nil => rfl
  | cons p t ih =>
    obtain ⟨k, v⟩ := p
    simp [SMap.risesFrom] at hm
    by_cases hq : q (k, v) = true
    · simp [List.filter, hq, SMap.risesFrom]
      exact ⟨hm.1, ih _ hm.2⟩
    · simp [List.filter, hq]
      exact SMap.risesFrom_mono _ _ _ (by omega) (ih _ hm.2)

theorem SMap.risesFrom_insert (m : SMap α) (k : Nat) (v : α) (b : Nat) (hb : b ≤ k)
    (hm : SMap.risesFrom b m = true) : SMap.risesFrom b (SMap.insert m k v) = true := by
  induction m generalizing b with
  | nil => simp [SMap.insert, SMap.risesFrom, hb]
  | cons p t ih =>
    obtain ⟨k', v'⟩ := p
    simp [SMap.risesFrom] at hm
    unfold SMap.insert
    split
    · simp [SMap.risesFrom, hb, hm.2]; omega
    · split
      · rename_i h; subst h; simp [SMap.risesFrom, hb, hm.2]
      · simp [SMap.risesFrom, hm.1]
        exact ih _ (by omega) hm.2

theorem SMap.mem_insert (m : SMap α) (k : Nat) (v : α) (p : Nat × α) (h : p ∈ SMap.insert m k v) :
    p = (k, v) ∨ p ∈ m := by
  induction m with
  | nil => simpa [SMap.insert] using h
  | cons q t ih =>
    obtain ⟨k', v'⟩ := q
    unfold SMap.insert at h
    split at h
    · simpa using h
    · split at h
      · simp at h ⊢; rcases h with h | h <;> simp [h]
      · simp at h ⊢
        rcases h with h | h
        · simp [h]
        · rcases ih h with h | h <;> simp [h]

/-- A write keeps the canonical form. -/
theorem SMap.wf_put [DecidableEq α] (d : α) (m : SMap α) (k : Nat) (v : α) (h : SMap.wf d m = true) :
    SMap.wf d (SMap.put d m k v) = true := by
  simp [SMap.wf] at h ⊢
  unfold SMap.put
  split
  · refine ⟨SMap.risesFrom_filter _ _ _ h.1, ?_⟩
    intro a b hab
    exact h.2 a b (List.mem_filter.mp hab).1
  · rename_i hv
    refine ⟨SMap.risesFrom_insert _ _ _ _ (by omega) h.1, ?_⟩
    intro a b hab
    rcases SMap.mem_insert _ _ _ _ hab with e | e
    · cases e; exact hv
    · exact h.2 a b e

/-- Writing a run of keys keeps the canonical form. -/
theorem SMap.wf_putAll [DecidableEq α] (d : α) (vs : List α) (m : SMap α) (k : Nat) (h : SMap.wf d m = true) :
    SMap.wf d (SMap.putAll d m k vs) = true := by
  induction vs generalizing m k with
  | nil => exact h
  | cons v vs ih => exact ih _ _ (SMap.wf_put d m k v h)

/-- Leaving entries out keeps the canonical form. -/
theorem SMap.wf_filter [DecidableEq α] (d : α) (m : SMap α) (q : Nat × α → Bool) (h : SMap.wf d m = true) :
    SMap.wf d (m.filter q) = true := by
  simp [SMap.wf] at h ⊢
  exact ⟨SMap.risesFrom_filter _ _ _ h.1, fun a b hab => .inr (h.2 a b hab)⟩

theorem SMap.wf_cut [DecidableEq α] (d : α) (m : SMap α) (lo hi : Nat) (h : SMap.wf d m = true) :
    SMap.wf d (SMap.cut m lo hi) = true := SMap.wf_filter d m _ h

theorem SMap.wf_slice [DecidableEq α] (d : α) (m : SMap α) (lo hi : Nat) (h : SMap.wf d m = true) :
    SMap.wf d (SMap.slice m lo hi) = true := SMap.wf_filter d m _ h

/-- A read of a slice: the store inside, the default outside. -/
theorem SMap.get_slice (d : α) (m : SMap α) (lo hi k : Nat) :
    SMap.get d (SMap.slice m lo hi) k = if lo ≤ k ∧ k < hi then SMap.get d m k else d := by
  induction m with
  | nil => simp [SMap.slice, SMap.get]
  | cons p t ih =>
    obtain ⟨k', v'⟩ := p
    by_cases h : lo ≤ k' ∧ k' < hi
    · have hs : SMap.slice ((k', v') :: t) lo hi = (k', v') :: SMap.slice t lo hi := by
        simp [SMap.slice, h]
      rw [hs]
      by_cases hk : k = k'
      · subst hk; simp [SMap.get, h]
      · simp [SMap.get, hk, ih]
    · have hs : SMap.slice ((k', v') :: t) lo hi = SMap.slice t lo hi := by
        simp only [SMap.slice, List.filter_cons]
        rw [if_neg (by simp; omega)]
      rw [hs, ih]
      by_cases hk : k = k'
      · subst hk; simp [h]
      · simp [SMap.get, hk]

/-- A read of a store with a range cut out: the default inside, the store outside. -/
theorem SMap.get_cut (d : α) (m : SMap α) (lo hi k : Nat) :
    SMap.get d (SMap.cut m lo hi) k = if lo ≤ k ∧ k < hi then d else SMap.get d m k := by
  induction m with
  | nil => simp [SMap.cut, SMap.get]
  | cons p t ih =>
    obtain ⟨k', v'⟩ := p
    by_cases h : lo ≤ k' ∧ k' < hi
    · have hs : SMap.cut ((k', v') :: t) lo hi = SMap.cut t lo hi := by
        simp [SMap.cut, h]
      rw [hs, ih]
      by_cases hk : k = k'
      · subst hk; simp [h]
      · simp [SMap.get, hk]
    · have hs : SMap.cut ((k', v') :: t) lo hi = (k', v') :: SMap.cut t lo hi := by
        simp only [SMap.cut, List.filter_cons]
        rw [if_pos (by simp; omega)]
      rw [hs]
      by_cases hk : k = k'
      · subst hk; simp [SMap.get, h]
      · simp [SMap.get, hk, ih]

theorem SMap.get_append (d : α) (a b : SMap α) (k : Nat) :
    SMap.get d (a ++ b) k = SMap.get (SMap.get d b k) a k := by
  induction a with
  | nil => rfl
  | cons p t ih =>
    obtain ⟨k', v'⟩ := p
    by_cases hk : k = k' <;> simp [SMap.get, hk]
    simpa [hk] using ih

theorem SMap.get_filter_key (d : α) (m : SMap α) (q : Nat → Bool) (k : Nat) :
    SMap.get d (m.filter (fun p => q p.1)) k = if q k then SMap.get d m k else d := by
  induction m with
  | nil => simp [SMap.get]
  | cons p t ih =>
    obtain ⟨k', v'⟩ := p
    by_cases hq : q k' = true
    · by_cases hk : k = k'
      · subst hk; simp [hq, SMap.get]
      · simp [hq, SMap.get, hk, ih]
    · by_cases hk : k = k'
      · subst hk; simp [hq, ih]
      · simp [hq, SMap.get, hk, ih]

/-- A read of a splice: the second store inside the range, the first outside. -/
theorem SMap.get_splice (d : α) (a b : SMap α) (lo hi k : Nat) (hr : lo ≤ hi) :
    SMap.get d (SMap.splice lo hi a b) k = if lo ≤ k ∧ k < hi then SMap.get d b k else SMap.get d a k := by
  unfold SMap.splice
  rw [SMap.get_append, SMap.get_append]
  rw [SMap.get_filter_key (q := fun k => decide (k < lo)), SMap.get_filter_key (q := fun k => decide (hi ≤ k)), SMap.get_slice]
  by_cases c1 : k < lo
  · have : ¬ (lo ≤ k ∧ k < hi) := by omega
    have h2 : ¬ hi ≤ k := by omega
    simp [c1, this, h2]
  · by_cases c2 : hi ≤ k
    · have : ¬ (lo ≤ k ∧ k < hi) := by omega
      simp [c1, c2, this]
    · have : lo ≤ k ∧ k < hi := by omega
      simp [c1, c2, this]

theorem SMap.risesFrom_append (a b : SMap α) (lo mid : Nat) (ha : SMap.risesFrom lo a = true)
    (hlt : ∀ p ∈ a, p.1 < mid) (hb : SMap.risesFrom mid b = true) (hlm : lo ≤ mid) :
    SMap.risesFrom lo (a ++ b) = true := by
  induction a generalizing lo with
  | nil => exact SMap.risesFrom_mono _ _ _ hlm hb
  | cons p t ih =>
    obtain ⟨k, v⟩ := p
    simp [SMap.risesFrom] at ha ⊢
    have hk : k < mid := hlt (k, v) (by simp)
    exact ⟨ha.1, ih _ ha.2 (fun p hp => hlt p (by simp [hp])) (by omega)⟩

theorem SMap.risesFrom_filter_ge (m : SMap α) (b c : Nat) (q : Nat × α → Bool) (hq : ∀ p, q p = true → c ≤ p.1)
    (h : SMap.risesFrom b m = true) : SMap.risesFrom c (m.filter q) = true := by
  induction m generalizing b with
  | nil => rfl
  | cons p t ih =>
    obtain ⟨k, v⟩ := p
    simp [SMap.risesFrom] at h
    by_cases hk : q (k, v) = true
    · simp [hk, SMap.risesFrom]
      exact ⟨hq _ hk, SMap.risesFrom_filter _ _ _ h.2⟩
    · simp [hk]
      exact ih _ h.2

/-- Splicing keeps the canonical form. -/
theorem SMap.wf_splice [DecidableEq α] (d : α) (a b : SMap α) (lo hi : Nat) (hr : lo ≤ hi)
    (ha : SMap.wf d a = true) (hb : SMap.wf d b = true) : SMap.wf d (SMap.splice lo hi a b) = true := by
  simp [SMap.wf] at ha hb ⊢
  refine ⟨?_, ?_⟩
  · unfold SMap.splice SMap.slice
    refine SMap.risesFrom_append _ _ 0 hi ?_ ?_ ?_ (by omega)
    · refine SMap.risesFrom_append _ _ 0 lo (SMap.risesFrom_filter _ _ _ ha.1) ?_ ?_ (by omega)
      · intro p hp; simp at hp; exact hp.2
      · exact SMap.risesFrom_filter_ge _ 0 lo _ (by simp; omega) hb.1
    · intro p hp
      simp at hp
      omega
    · exact SMap.risesFrom_filter_ge _ 0 hi _ (by simp) ha.1
  · intro k v hkv
    simp [SMap.splice, SMap.slice] at hkv
    rcases hkv with h | h | h
    · exact ha.2 k v h.1
    · exact hb.2 k v h.1
    · exact ha.2 k v h.1

end Sys2Proof
end

