-- ==== Sys2Proof/Laws/Frames.lean ====
section
/-! SUPPORT. What a command and a step leave alone, from the lemmas of Laws/Kept….lean; and that device memory keeps its canonical form. -/
namespace Sys2Proof.Machine

/-- A list of components as a number. -/
def maskOf : List Comp → Nat
  | [] => 0
  | c :: l => 2 ^ c.idx ||| maskOf l

variable {K : Nat} {s0 : State} {M : List Host.Cell → Prop}

/-- A command leaves alone the components that it does not write, and keeps a property of device memory that writes keep. -/
theorem exec_kept {i : Instr} {s : State} (hm : K &&& maskOf (writes i) = 0) (hM : Closed M) (hk : Kept K s0 M s) :
    KeptR K s0 M (exec i s) := by
  cases i with
  | registerWrite => exact execRegisterWrite_kept hm hM hk
  | timeLatchRead => exact execTimeLatchRead_kept hm hk
  | postedWriteApply => exact execPostedWriteApply_kept hm hM hk
  | postedWriteTimeout => exact execPostedWriteTimeout_kept hm hM hk
  | snapWrite => exact execSnapWrite_kept hm hk
  | snapClear => exact execSnapClear_kept hm hk
  | fabricWindowAccess => exact execFabricWindowAccess_kept hm hk
  | evcSet => exact execEvcSet_kept hm hk
  | evcMaskWrite => exact execEvcMaskWrite_kept hm hk
  | evcRouteWrite => exact execEvcRouteWrite_kept hm hk
  | msixMessage => exact execMsixMessage_kept hm hk
  | msixUnmask => exact execMsixUnmask_kept hm hk
  | pcieConventionalReset => exact execPcieConventionalReset_kept hm hk
  | pcieHotReset => exact execPcieHotReset_kept hm hk
  | functionLevelReset => exact execFunctionLevelReset_kept hm hk
  | pcieLinkDown => exact execPcieLinkDown_kept hm hk
  | doorbell => exact execDoorbell_kept hm hk
  | hqRqHeadWrite => exact execHqRqHeadWrite_kept hm hk
  | hqQEnable => exact execHqQEnable_kept hm hk
  | hqQDisable => exact execHqQDisable_kept hm hk
  | commandFetch => exact execCommandFetch_kept hm hk
  | replyWrite => exact execReplyWrite_kept hm hM hk
  | spiGo => exact execSpiGo_kept hm hk
  | spiAck => exact execSpiAck_kept hm hM hk
  | spiWriteFrame => exact execSpiWriteFrame_kept hm hM hk
  | spiReadFrame => exact execSpiReadFrame_kept hm hk
  | spiStatusFrame => exact execSpiStatusFrame_kept hm hk
  | spiOtherFrame => exact execSpiOtherFrame_kept (_op := 0) hm hk
  | latticeCommandReceive => exact execLatticeCommandReceive_kept hm hk
  | ping => exact execPing_kept hm hk
  | getInfo => exact execGetInfo_kept hm hk
  | getCaps => exact execGetCaps_kept hm hk
  | setPower => exact execSetPower_kept hm hk
  | setPowerQuery => exact execSetPowerQuery_kept hm hk
  | setPowerCompletion => exact execSetPowerCompletion_kept hm hM hk
  | domainDrainEnd => exact execDomainDrainEnd_kept hm hk
  | reset => exact execReset_kept hm hM hk
  | resetCompletion => exact execResetCompletion_kept hm hM hk
  | facetResetRelease => exact execFacetResetRelease_kept hm hk
  | fwStage => exact execFwStage_kept hm hk
  | fwStageCompletion => exact execFwStageCompletion_kept hm hk
  | fwActivate => exact execFwActivate_kept hm hk
  | fwHandoverStart => exact execFwHandoverStart_kept hm hk
  | fwActivateWaitTimeout => exact execFwActivateWaitTimeout_kept hm hk
  | fwHandoverEnd => exact execFwHandoverEnd_kept hm hk
  | fwHandoverFail => exact execFwHandoverFail_kept hm hk
  | schedCancel => exact execSchedCancel_kept hm hk
  | snap => exact execSnap_kept hm hk
  | snapAct => exact execSnapAct_kept hm hk
  | snapCompletion => exact execSnapCompletion_kept hm hk
  | scheduledActionMissed => exact execScheduledActionMissed_kept hm hk
  | operationTimeout => exact execOperationTimeout_kept hm hM hk
  | dmaStart => exact execDmaStart_kept hm hk
  | dmaDisable => exact execDmaDisable_kept hm hk
  | dmaDisableDone => exact execDmaDisableDone_kept hm hM hk
  | dmaAbort => exact execDmaAbort_kept hm hM hk
  | dmaTransferDone => exact execDmaTransferDone_kept hm hM hk
  | lanePortBeatReceive => exact execLanePortBeatReceive_kept hm hk
  | lanePortBeatRequest => exact execLanePortBeatRequest_kept hm hk
  | spCtlWrite => exact execSpCtlWrite_kept hm hk
  | regportRequest => exact execRegportRequest_kept hm hk
  | regportResponse => exact execRegportResponse_kept hm hk
  | regportTimeout => exact execRegportTimeout_kept hm hk
  | userEventLine => exact execUserEventLine_kept hm hk
  | probeCtlWrite => exact execProbeCtlWrite_kept hm hk
  | bayWrite => exact execBayWrite_kept hm hk
  | bayRead => exact execBayRead_kept hm hk
  | bayClear => exact execBayClear_kept hm hk
  | bayMend => exact execBayMend_kept hm hk
  | bayRebuild => exact execBayRebuild_kept hm hk
  | bayScrubCheck => exact execBayScrubCheck_kept hm hk
  | qcRawRead => exact execQcRawRead_kept hm hk
  | qcRawWrite => exact execQcRawWrite_kept hm hk
  | rawAccessDone => exact execRawAccessDone_kept hm hk
  | rawAccessTimeout => exact execRawAccessTimeout_kept hm hk
  | queueWrite => exact execQueueWrite_kept hm hk
  | queueRead => exact execQueueRead_kept hm hk
  | qcQctlWrite => exact execQcQctlWrite_kept hm hk
  | qcQcmdFlush => exact execQcQcmdFlush_kept hm hk
  | facetSwapAt => exact execFacetSwapAt_kept hm hk
  | facetSwapEdge => exact execFacetSwapEdge_kept hm hk
  | facetSwapTriggerTimeout => exact execFacetSwapTriggerTimeout_kept hm hk
  | facetSwapNoEdge => exact execFacetSwapNoEdge_kept hm hk
  | facetSwapHoldEnd => exact execFacetSwapHoldEnd_kept hm hk
  | facetBayInitDone => exact execFacetBayInitDone_kept hm hk
  | facetFence => exact execFacetFence_kept hm hk
  | facetFenceQuery => exact execFacetFenceQuery_kept hm hk
  | facetRewrite => exact execFacetRewrite_kept hm hk
  | facetWriteDone => exact execFacetWriteDone_kept hm hk
  | facetReleaseStage => exact execFacetReleaseStage_kept hm hk
  | cfgStage => exact execCfgStage_kept hm hM hk
  | cfgStageData => exact execCfgStageData_kept hm hM hk
  | cfgStageTimeout => exact execCfgStageTimeout_kept hm hM hk
  | cfgPush => exact execCfgPush_kept hm hM hk
  | cfgVerify => exact execCfgVerify_kept hm hk
  | cfgVerifyCompletion => exact execCfgVerifyCompletion_kept hm hM hk
  | cfgApply => exact execCfgApply_kept hm hk
  | cfgApplyWriteDone => exact execCfgApplyWriteDone_kept hm hk
  | scrubCtl => exact execScrubCtl_kept hm hk
  | scrubCtlQuery => exact execScrubCtlQuery_kept hm hk
  | scrubFrameCheck => exact execScrubFrameCheck_kept hm hk
  | keyLoad => exact execKeyLoad_kept hm hk
  | keyLoadCompletion => exact execKeyLoadCompletion_kept hm hk
  | ringFlitReceive => exact execRingFlitReceive_kept hm hk
  | ringReplay => exact execRingReplay_kept hm hk
  | ringPacketRoute => exact execRingPacketRoute_kept hm hk
  | niPacketDeliver => exact execNiPacketDeliver_kept hm hM hk
  | creditReturn => exact execCreditReturn_kept hm hk
  | fencePacket => exact execFencePacket_kept hm hk
  | fabricRequest => exact execFabricRequest_kept hm hk
  | fabricResponse => exact execFabricResponse_kept hm hk
  | niFlowBeat => exact execNiFlowBeat_kept hm hk
  | niFlowAdmit => exact execNiFlowAdmit_kept hm hk
  | niFlowWithdraw => exact execNiFlowWithdraw_kept hm hk
  | routeChangeApply => exact execRouteChangeApply_kept hm hk
  | niStarvation => exact execNiStarvation_kept hm hk
  | ringRequestTimeout => exact execRingRequestTimeout_kept hm hk
  | timeBeacon => exact execTimeBeacon_kept hm hk
  | timeBeaconLoss => exact execTimeBeaconLoss_kept hm hk
  | refSelect => exact execRefSelect_kept hm hk
  | refSelectQuery => exact execRefSelectQuery_kept hm hk
  | refEntryQualify => exact execRefEntryQualify_kept hm hk
  | refEntryDisqualify => exact execRefEntryDisqualify_kept hm hk
  | timeLock => exact execTimeLock_kept hm hk
  | ptpMessageReceive => exact execPtpMessageReceive_kept hm hk
  | ppsEdge => exact execPpsEdge_kept hm hk
  | timeSet => exact execTimeSet_kept hm hk
  | timeSetQuery => exact execTimeSetQuery_kept hm hk
  | timeSetSeconds => exact execTimeSetSeconds_kept hm hk
  | loopSet => exact execLoopSet_kept hm hk
  | loopSetQuery => exact execLoopSetQuery_kept hm hk
  | loopLock => exact execLoopLock_kept hm hk
  | loopWindow => exact execLoopWindow_kept hm hk
  | loopWindowQuery => exact execLoopWindowQuery_kept hm hk
  | loopFallback => exact execLoopFallback_kept hm hk
  | loopMonitorTrip => exact execLoopMonitorTrip_kept hm hk
  | loopRefQualify => exact execLoopRefQualify_kept hm hk
  | xoReady => exact execXoReady_kept hm hk
  | xoFail => exact execXoFail_kept hm hk
  | xoStop => exact execXoStop_kept hm hk
  | xo0Stopped => exact execXo0Stopped_kept hm hk
  | fabricLoopRefLost => exact execFabricLoopRefLost_kept hm hk
  | fabricLoopRelock => exact execFabricLoopRelock_kept hm hk
  | clkoutSet => exact execClkoutSet_kept hm hk
  | clkoutSetQuery => exact execClkoutSetQuery_kept hm hk
  | laneSet => exact execLaneSet_kept hm hk
  | laneSetQuery => exact execLaneSetQuery_kept hm hk
  | laneSetAct => exact execLaneSetAct_kept hm hk
  | laneSetCompletion => exact execLaneSetCompletion_kept hm hk
  | laneSignalDetect => exact execLaneSignalDetect_kept hm hk
  | laneSignalLoss => exact execLaneSignalLoss_kept hm hk
  | laneCdrLock => exact execLaneCdrLock_kept hm hk
  | laneLockTimeout => exact execLaneLockTimeout_kept hm hk
  | laneAlignAcquire => exact execLaneAlignAcquire_kept hm hk
  | laneHuntTimeout => exact execLaneHuntTimeout_kept hm hk
  | laneAlignLoss => exact execLaneAlignLoss_kept hm hk
  | laneRecoveryTimeout => exact execLaneRecoveryTimeout_kept hm hk
  | refPinLost => exact execRefPinLost_kept hm hk
  | refPinReturn => exact execRefPinReturn_kept hm hk
  | lanePrbs => exact execLanePrbs_kept hm hk
  | lanePrbsQuery => exact execLanePrbsQuery_kept hm hk
  | prbsLock => exact execPrbsLock_kept hm hk
  | prbsLockLoss => exact execPrbsLockLoss_kept hm hk
  | laneEye => exact execLaneEye_kept hm hk
  | laneEyeCompletion => exact execLaneEyeCompletion_kept hm hM hk
  | laneBitslip => exact execLaneBitslip_kept hm hk
  | laneCal => exact execLaneCal_kept hm hk
  | laneCalCompletion => exact execLaneCalCompletion_kept hm hk
  | laneRetire => exact execLaneRetire_kept hm hk
  | laneRetireCompletion => exact execLaneRetireCompletion_kept hm hk
  | sdiRxSet => exact execSdiRxSet_kept hm hk
  | sdiRxSetQuery => exact execSdiRxSetQuery_kept hm hk
  | sdiRxSetAct => exact execSdiRxSetAct_kept hm hk
  | sdiRxLine => exact execSdiRxLine_kept hm hk
  | sdiRxFrame => exact execSdiRxFrame_kept hm hk
  | sdiInputLost => exact execSdiInputLost_kept hm hk
  | sdiTxSet => exact execSdiTxSet_kept hm hk
  | sdiTxSetQuery => exact execSdiTxSetQuery_kept hm hk
  | sdiTxSetAct => exact execSdiTxSetAct_kept hm hk
  | sdiTxFirstFrame => exact execSdiTxFirstFrame_kept hm hk
  | sdiTxLine n active room => exact execSdiTxLine_kept (_active := active) (_room := room) hm hk
  | xptAt => exact execXptAt_kept hm hk
  | xptAtQuery => exact execXptAtQuery_kept hm hk
  | xptAtAct => exact execXptAtAct_kept hm hk
  | ipFlowAdd => exact execIpFlowAdd_kept hm hk
  | ipFlowAddQuery => exact execIpFlowAddQuery_kept hm hk
  | ipFlowDel => exact execIpFlowDel_kept hm hk
  | mergeSet => exact execMergeSet_kept hm hk
  | mergeSetQuery => exact execMergeSetQuery_kept hm hk
  | streamDisable => exact execStreamDisable_kept hm hk
  | streamDisableCompletion => exact execStreamDisableCompletion_kept hm hk
  | streamAbort => exact execStreamAbort_kept hm hk
  | ethFrameReceive => exact execEthFrameReceive_kept hm hk
  | ethControlPacket => exact execEthControlPacket_kept hm hk
  | ipPacketReceive => exact execIpPacketReceive_kept hm hk
  | mergePacketRelease => exact execMergePacketRelease_kept hm hk
  | ipFlowLost => exact execIpFlowLost_kept hm hk
  | ethPortUp => exact execEthPortUp_kept hm hk
  | ethPortDown => exact execEthPortDown_kept hm hk
  | ipTxPacketDue => exact execIpTxPacketDue_kept hm hk
  | protSet => exact execProtSet_kept hm hk
  | protSetQuery => exact execProtSetQuery_kept hm hk
  | protEyePeriod => exact execProtEyePeriod_kept hm hk
  | protSecond => exact execProtSecond_kept hm hk
  | ptpDelayReqExchange => exact execPtpDelayReqExchange_kept hm hk
  | edgeFlitReceive => exact execEdgeFlitReceive_kept hm hk
  | edgeSpareSwitch => exact execEdgeSpareSwitch_kept hm hk
  | edgeFullTrainDone => exact execEdgeFullTrainDone_kept hm hk
  | edgeFastRetrainDone => exact execEdgeFastRetrainDone_kept hm hk
  | edgeWaitSplit => exact execEdgeWaitSplit_kept hm hk
  | edgeRetrain => exact execEdgeRetrain_kept hm hk
  | edgeRetrainCompletion => exact execEdgeRetrainCompletion_kept hm hk
  | shortEdgeWordReceive => exact execShortEdgeWordReceive_kept hm hk
  | lampLineMeasure => exact execLampLineMeasure_kept hm hk
  | lampWarmDone => exact execLampWarmDone_kept hm hk
  | lampWarmTimeout => exact execLampWarmTimeout_kept hm hk
  | lampSwap => exact execLampSwap_kept hm hk
  | lampSwapCompletion => exact execLampSwapCompletion_kept hm hk
  | ucieLinkTrained => exact execUcieLinkTrained_kept hm hk
  | ucieIdentityRecord => exact execUcieIdentityRecord_kept hm hk
  | ucieFlitReceive => exact execUcieFlitReceive_kept hm hk
  | uciePartnerRequest => exact execUciePartnerRequest_kept hm hk
  | uciePartnerEvent => exact execUciePartnerEvent_kept hm hk
  | psysWinWrite => exact execPsysWinWrite_kept hm hk
  | frameMemoryRead => exact execFrameMemoryRead_kept hm hk
  | frameMemoryWrite => exact execFrameMemoryWrite_kept hm hM hk
  | dramRefresh => exact execDramRefresh_kept hm hk
  | correctedWriteback => exact execCorrectedWriteback_kept hm hk
  | sectorSet => exact execSectorSet_kept hm hM hk
  | sectorSetQuery => exact execSectorSetQuery_kept hm hk
  | sectorInitDone => exact execSectorInitDone_kept hm hk
  | sectorRemoveDone => exact execSectorRemoveDone_kept hm hk
  | sectorRights => exact execSectorRights_kept hm hk
  | sectorRightsQuery => exact execSectorRightsQuery_kept hm hk
  | rekeySweepStart => exact execRekeySweepStart_kept hm hk
  | rekeySweepDone => exact execRekeySweepDone_kept hm hM hk
  | rekeyNow => exact execRekeyNow_kept hm hk
  | rekeyNowCompletion => exact execRekeyNowCompletion_kept hm hk
  | cueCtl => exact execCueCtl_kept hm hk
  | cueCtlQuery => exact execCueCtlQuery_kept hm hk
  | cueCtlCompletion => exact execCueCtlCompletion_kept hm hk
  | cueFault => exact execCueFault_kept hm hk
  | cueTimerInterrupt => exact execCueTimerInterrupt_kept hm hk
  | cueReservationTimeout => exact execCueReservationTimeout_kept hm hk
  | cueWdtExpiry => exact execCueWdtExpiry_kept hm hk
  | cueWdtKick => exact execCueWdtKick_kept hm hk
  | cueWdtCfgWrite => exact execCueWdtCfgWrite_kept hm hk
  | cueMsipWrite => exact execCueMsipWrite_kept hm hk
  | mbCfgWrite => exact execMbCfgWrite_kept hm hk
  | mbMsgWrite => exact execMbMsgWrite_kept hm hk
  | mbRing => exact execMbRing_kept hm hk
  | mbReply => exact execMbReply_kept hm hk
  | mbStatWithdraw => exact execMbStatWithdraw_kept hm hk
  | glenuFrameReceive => exact execGlenuFrameReceive_kept hm hk
  | glenuResendTimeout => exact execGlenuResendTimeout_kept hm hk
  | glenuAligned => exact execGlenuAligned_kept hm hk
  | glenuHelloSend => exact execGlenuHelloSend_kept hm hk
  | glenuHelloTimeout => exact execGlenuHelloTimeout_kept hm hk
  | latticeRequestTimeout => exact execLatticeRequestTimeout_kept hm hM hk
  | latticeReplyReceive => exact execLatticeReplyReceive_kept hm hk
  | latDiscover => exact execLatDiscover_kept hm hk
  | latDiscoverCompletion => exact execLatDiscoverCompletion_kept hm hM hk
  | latAssign => exact execLatAssign_kept hm hk
  | latAssignQuery => exact execLatAssignQuery_kept hm hk
  | latRouteSet => exact execLatRouteSet_kept hm hk
  | latRouteSetQuery => exact execLatRouteSetQuery_kept hm hk
  | linkRecordReapply => exact execLinkRecordReapply_kept hm hk
  | powerOnReset => exact execPowerOnReset_kept hm hk
  | railLoss => exact execRailLoss_kept hm hM hk
  | stewardBoot => exact execStewardBoot_kept hm hk
  | deviceBringup => exact execDeviceBringup_kept hm hM hk
  | partnerRelease => exact execPartnerRelease_kept hm hk
  | temperatureSample => exact execTemperatureSample_kept hm hM hk
  | thermalControlStop => exact execThermalControlStop_kept hm hk
  | thermTripClear => exact execThermTripClear_kept hm hk
  | channelRetire => exact execChannelRetire_kept hm hk
  | channelRetireCompletion => exact execChannelRetireCompletion_kept hm hM hk
  | channelRestore => exact execChannelRestore_kept hm hk
  | channelRestoreCompletion => exact execChannelRestoreCompletion_kept hm hM hk
  | journalRead => exact execJournalRead_kept hm hk
  | journalClear => exact execJournalClear_kept hm hk
  | vccDbgRise => exact execVccDbgRise_kept hm hk
  | vccDbgLoss => exact execVccDbgLoss_kept hm hM hk
  | testLogicReset => exact execTestLogicReset_kept hm hk
  | extest => exact execExtest_kept hm hk
  | idcode => exact execIdcode_kept hm hk
  | samplePreload => exact execSamplePreload_kept hm hk
  | clamp => exact execClamp_kept hm hk
  | highz => exact execHighz_kept hm hk
  | extestPulse => exact execExtestPulse_kept hm hk
  | extestTrain => exact execExtestTrain_kept hm hk
  | bypass => exact execBypass_kept hm hk
  | dbgreg => exact execDbgreg_kept hm hM hk
  | cmdpath => exact execCmdpath_kept hm hM hk
  | dbgChallenge => exact execDbgChallenge_kept hm hk
  | nonceExpiry => exact execNonceExpiry_kept hm hk
  | dbgUnlock => exact execDbgUnlock_kept hm hM hk
  | rightsExpiry => exact execRightsExpiry_kept hm hM hk
  | dbgRelock => exact execDbgRelock_kept hm hM hk
  | dbgaGo => exact execDbgaGo_kept hm hk
  | dbgaAccessDone => exact execDbgaAccessDone_kept hm hM hk
  | dbgaTimeout => exact execDbgaTimeout_kept hm hk
  | dbgHalt => exact execDbgHalt_kept hm hk
  | dbgResume => exact execDbgResume_kept hm hk
  | dbgStep => exact execDbgStep_kept hm hk
  | dbgGroupHalt => exact execDbgGroupHalt_kept hm hk
  | dbgGroupResume => exact execDbgGroupResume_kept hm hk
  | breakpointHit => exact execBreakpointHit_kept hm hk
  | dbgCregGo => exact execDbgCregGo_kept hm hk
  | dbgHoldCueWrite => exact execDbgHoldCueWrite_kept hm hM hk
  | dbgHoldFWrite => exact execDbgHoldFWrite_kept hm hk
  | dbgStimWrite => exact execDbgStimWrite_kept hm hk
  | pcSample => exact execPcSample_kept hm hk
  | tracePacketStore => exact execTracePacketStore_kept hm hM hk
  | dbgTrcClear => exact execDbgTrcClear_kept hm hk
  | sauClockEdge => exact execSauClockEdge_kept hm hk
  | tileClockEdge => exact execTileClockEdge_kept hm hk
  | laneWordReceive => exact execLaneWordReceive_kept hm hk
  | porNAsserted => exact execPorNAsserted_kept hm hM hk
  | vccAonLoss => exact execVccAonLoss_kept hm hM hk

/-- A component that is not in a list, alone, meets none of the list's. -/
theorem maskOf_off {c : Comp} {l : List Comp} (h : c ∉ l) : 2 ^ c.idx &&& maskOf l = 0 := by
  apply Nat.eq_of_testBit_eq
  intro i
  simp only [Nat.testBit_and, Nat.zero_testBit, Nat.testBit_two_pow]
  by_cases e : c.idx = i
  · subst e
    have h1 : (maskOf l).testBit c.idx = false := by
      induction l with
      | nil => exact Nat.zero_testBit _
      | cons d l ih =>
        have hd : d.idx ≠ c.idx := by
          intro e
          apply h
          have : d = c := by cases d <;> cases c <;> first | rfl | exact absurd e (by decide)
          rw [this]
          exact List.mem_cons_self
        have hl : c ∉ l := fun m => h (List.mem_cons_of_mem _ m)
        simp [maskOf, Nat.testBit_or, hd, ih hl]
    simp [h1]
  · simp [e]

/-- The writes of memory keep the canonical form. -/
theorem closed_wf : Closed (fun m => Memory.wf m = true) where
  put _ _ _ h := SMap.wf_put _ _ _ _ h
  filter _ _ h := SMap.wf_filter _ _ _ h
  nil := rfl

end Sys2Proof.Machine
end

