-- ==== Sys2Proof/Laws/Ops.lean ====
section
/-! SUPPORT. What the shared operations over registers, paths and replies do, said once: a field after a write, the checks of a packet, a
write that reaches its register. -/
namespace Sys2Proof.Machine

/-! ## Register fields -/

/-- A field after it is given a value. -/
@[simp] theorem State.getF_setF_same (s : State) (b : Nat) (f : Fld) (v : Nat) : (s.setF b f v).getF b f = v % 2 ^ f.width := by
  simp [State.getF, State.setF]

/-- A field at another address, or another field of the register. -/
theorem State.getF_setF_other (s : State) (b b' : Nat) (f f' : Fld) (v : Nat) (h : regKey b' f' ≠ regKey b f) :
    (s.setF b f v).getF b' f' = s.getF b' f' := by
  simp only [State.getF, State.setF, SMap.put]
  split
  · exact SMap.get_erase_other _ _ _ _ h
  · exact SMap.get_insert_other _ _ _ _ _ h

/-! ## Packets -/

/-- Every check of a packet passes. -/
def Chk.ok (k : Chk) : Bool := k.len && k.tgt && k.auth && k.par && k.dom && k.fen && k.ret && k.free && k.late

/-- A packet whose turn it is stands in no mark of its set's queue as one to be answered unread (R104, R106). -/
theorem handles_unmarked {s : State} {op : Nat} {c : Cmd} (h : s.handles op c = true) : s.refused op c = false := by
  simp only [State.handles, State.inOrder, Bool.and_eq_true, decide_eq_true_eq] at h
  simp [State.refused, h.2, refusedMark]

/-- A packet that the steward takes and whose own checks pass is gated by nothing. -/
theorem gate_none {s : State} {op : Nat} {c : Cmd} {k : Chk} (h : Takes s op c) (hk : k.ok = true) : (s.take op c).gate op c k = none := by
  obtain ⟨_, h2, h3, h4, h5, h6, h7⟩ := h
  simp only [Chk.ok, Bool.and_eq_true] at hk
  obtain ⟨⟨⟨⟨⟨⟨⟨⟨k1, k2⟩, k3⟩, k4⟩, k5⟩, k6⟩, k7⟩, k8⟩, k9⟩ := hk
  have e2 : (s.take op c).opcodeOpen c.src op = true := h2
  have e4 : (s.take op c).rootBars c.src = false := h4
  have e5 : (decide (c.die < 8) && (s.take op c).pwr.inReset.getLsbD c.die) = false := h5
  have e6 : (s.take op c).crowded c op = false := h6
  have e7 : (s.take op c).retriesFail op c = false := h7
  simp only [State.gate, k1, k2, k3, k4, k5, k6, k7, k8, k9, e2, h3, e4, e5, e6, e7]
  rfl

/-- An immediate command that the steward takes and whose checks pass is answered OK with its results, and then what follows the answer
happens (R100). -/
theorem immediateThen_ok {s : State} {op : Nat} {c : Cmd} {k : Chk} (run : State → State × List Word) (after : State → State)
    (h : Takes s op c) (hk : k.ok = true) :
    s.immediateThen op c k run after = after ((run (s.take op c)).1.answer op c .ok (run (s.take op c)).2) := by
  simp [State.immediateThen, h.1, handles_unmarked h.1, gate_none h hk]

/-- An immediate command that the steward takes and whose checks pass is answered OK with its results (R100). -/
theorem immediate_ok {s : State} {op : Nat} {c : Cmd} {k : Chk} (run : State → State × List Word) (h : Takes s op c) (hk : k.ok = true) :
    s.immediate op c k run = (run (s.take op c)).1.answer op c .ok (run (s.take op c)).2 := immediateThen_ok run id h hk

/-- A long operation that the steward takes and whose checks pass is accepted (R100). -/
theorem long_ok {s : State} {op : Nat} {c : Cmd} {k : Chk} (i : Option Nat) (run : State → State) (h : Takes s op c) (hk : k.ok = true) :
    s.long op c k i run = run ((s.take op c).accept op c i) := by
  simp [State.long, h.1, handles_unmarked h.1, gate_none h hk]

/-- While no steward runs, no packet is carried out (R614, R621). -/
theorem immediate_idle {s : State} {op : Nat} {c : Cmd} {k : Chk} (run : State → State × List Word) (h : s.fetching = false) :
    s.immediate op c k run = s := by
  simp [State.immediate, State.immediateThen, State.handles, h]

theorem long_idle {s : State} {op : Nat} {c : Cmd} {k : Chk} (i : Option Nat) (run : State → State) (h : s.fetching = false) :
    s.long op c k i run = s := by
  simp [State.long, State.handles, h]

/-- A packet behind another of its set waits (R104), as does one that was answered unread. -/
theorem immediate_waits {s : State} {op : Nat} {c : Cmd} {k : Chk} (run : State → State × List Word) (hr : s.refused op c = false)
    (h : s.handles op c = false) : s.immediate op c k run = s := by
  simp [State.immediate, State.immediateThen, hr, h]

theorem long_waits {s : State} {op : Nat} {c : Cmd} {k : Chk} (i : Option Nat) (run : State → State) (hr : s.refused op c = false)
    (h : s.handles op c = false) : s.long op c k i run = s := by
  simp [State.long, hr, h]

/-- A packet whose turn has come and that a check stops is answered with that check's status (R108), and write_dropped of the blocks that R107
names is set. -/
theorem immediate_refused {s : State} {op : Nat} {c : Cmd} {k : Chk} {st : Status} (run : State → State × List Word)
    (h : s.handles op c = true) (hg : (s.take op c).gate op c k = some st) :
    s.immediate op c k run = ((s.take op c).noteDropped op c k st).answer op c st [] := by
  simp [State.immediate, State.immediateThen, h, handles_unmarked h, hg]

theorem long_refused {s : State} {op : Nat} {c : Cmd} {k : Chk} {st : Status} (i : Option Nat) (run : State → State)
    (h : s.handles op c = true) (hg : (s.take op c).gate op c k = some st) :
    s.long op c k i run = ((s.take op c).noteDropped op c k st).answer op c st [] := by
  simp [State.long, h, handles_unmarked h, hg]

/-! ## Writes that have a row of their own -/

/-- A write that reaches its register acts (R59). -/
theorem ownWrite_ok {s : State} {m : Master} {d b off : Nat} {act : State → State} (h : Reaches s m d b off) :
    s.ownWrite m d b off act = act s := by
  simp [State.ownWrite, h.1, h.2.1, h.2.2]

end Sys2Proof.Machine
end

