-- ==== Sys2Proof/Laws/Regs.lean ====
section
/-! SUPPORT. A register write by its outcome (R49–R51, R59). These lemmas keep the addresses folded: the kernel must not compare a large
literal with an address that it does not know. -/
namespace Sys2Proof.Machine

/-- A write in register space arrives at its block. -/
theorem busWrite_regs {s : State} {m : Master} {a : Nat} {bytes : List Byte} (h1 : s.busUp = true) (h2 : inRegs a = true) :
    s.busWrite m a bytes = s.regArrive m a bytes := by
  unfold State.busWrite
  rw [h1, h2]; simp only [Bool.not_true, Bool.false_eq_true, if_false, if_true]

/-- A write that a cause refuses answers with its bus error. -/
theorem regTake_error {s : State} {m : Master} {d b off a : Nat} {bytes : List Byte} {x : BusCause} :
    s.regTake m d b off a bytes (some x) = s.busError m true a x := rfl

/-- A write to a block of die C is applied at once. -/
theorem regTake_apply {s : State} {m : Master} {d b off a : Nat} {bytes : List Byte} (h : isPosted d b = false) :
    s.regTake m d b off a bytes none = s.regWrites m d b off (wordsOf bytes) := by
  unfold State.regTake
  simp only [h, Bool.not_false, if_true]

/-- A write to an idle block elsewhere joins the posted writes. -/
theorem regTake_post {s : State} {m : Master} {d b off a : Nat} {bytes : List Byte} (h : isPosted d b = true) (h' : s.blkBusy d b = false) :
    s.regTake m d b off a bytes none =
      { s with posted := s.posted ++ [{ base := winBase d b, addr := a, words := wordsOf bytes, master := m, time := s.now }] } := by
  unfold State.regTake
  simp only [h, h', Bool.not_true, Bool.false_eq_true, if_false]

/-- A busy block discards the write and sets write_dropped. -/
theorem regTake_drop {s : State} {m : Master} {d b off a : Nat} {bytes : List Byte} (h : isPosted d b = true) (h' : s.blkBusy d b = true) :
    s.regTake m d b off a bytes none = s.raise (winBase d b) F.HDR_write_dropped := by
  unfold State.regTake
  simp only [h, h', Bool.not_true, Bool.false_eq_true, if_false, if_true]

end Sys2Proof.Machine
end

