-- ==== Sys2Proof/Laws/Reach.lean ====
section
/-! SUPPORT. A write that reaches its register has its effect: the shared guards of the debug registers, the cue cores, the mailboxes and the
DMA channels, each said once. -/
namespace Sys2Proof.Machine

/-- A debug write that reaches its register has its effect. -/
theorem dbgWrite_ok {s : State} {w : DbgBy} {off : Nat} (act : State → State) (h : dbgReaches s w off = true) :
    s.dbgWrite w off act = act s := by
  cases w with
  | jtag => simp_all [dbgReaches, State.dbgWrite]
  | bus m =>
    simp only [dbgReaches, Bool.and_eq_true, Option.isNone_iff_eq_none] at h
    obtain ⟨⟨h1, h2⟩, h3⟩ := h
    simp only [State.dbgWrite, h1, h2]
    cases m <;> simp_all

/-- The owner of the debug domain, with the right that the register asks, has the effect of its write. -/
theorem dbgOwned_ok {s : State} {w : DbgBy} {r : Bool} (act : State → State) (h : s.dbgOwner w = true) (hr : r = true) :
    s.dbgOwned w r act = act s := by
  simp [State.dbgOwned, h, hr]

/-- A write that reaches a cue core's register from a master that may write it has its effect. -/
theorem cueWrite_ok {s : State} {m : Master} {n off : Nat} (act : State → State) (h : CueReaches s m n off) :
    s.cueWrite m n off act = act s := by
  rw [State.cueWrite, ownWrite_ok h.1, if_pos h.2]

/-- The agent that a mailbox rule names has the effect of its write. -/
theorem mbBy_ok {s : State} {m : Master} {i a : Nat} (act : State → State) (h : s.mbBound i = true) (ha : isAgent m a = true) :
    s.mbBy m i [a] act = act s := by
  simp [State.mbBy, h, ha]

/-- A write of a DMA register from a master that may use the channel has its effect. -/
theorem dmaWrite_ok {s : State} {m : Master} {c off : Nat} (act : State → State) (h : dmaForeign m c = false)
    (hr : Reaches s m 0 0x002 (0x100 + 0x40 * c + off)) : s.dmaWrite m c off act = act s := by
  rw [State.dmaWrite, if_neg (by simp [hr.1]), if_neg (by simp [h]), ownWrite_ok hr]

end Sys2Proof.Machine
end

