-- ==== Sys2Proof/Laws/State.lean ====
section
/-! SUPPORT. What the plain updates of State leave alone: one lemma per update and field, each true by rfl, so that no proof unfolds a record
update. -/
namespace Sys2Proof.Machine.State

variable (s : State)

@[simp] theorem setF_ident (base : Nat) (f : Fld) (v : Nat) : (s.setF base f v).ident = s.ident := rfl
@[simp] theorem setF_ctrs (base : Nat) (f : Fld) (v : Nat) : (s.setF base f v).ctrs = s.ctrs := rfl
@[simp] theorem setF_snaps (base : Nat) (f : Fld) (v : Nat) : (s.setF base f v).snaps = s.snaps := rfl
@[simp] theorem setF_mem (base : Nat) (f : Fld) (v : Nat) : (s.setF base f v).mem = s.mem := rfl
@[simp] theorem setF_host (base : Nat) (f : Fld) (v : Nat) : (s.setF base f v).host = s.host := rfl
@[simp] theorem setF_flash (base : Nat) (f : Fld) (v : Nat) : (s.setF base f v).flash = s.flash := rfl
@[simp] theorem setF_hostBad (base : Nat) (f : Fld) (v : Nat) : (s.setF base f v).hostBad = s.hostBad := rfl
@[simp] theorem setF_pending (base : Nat) (f : Fld) (v : Nat) : (s.setF base f v).pending = s.pending := rfl
@[simp] theorem setF_out (base : Nat) (f : Fld) (v : Nat) : (s.setF base f v).out = s.out := rfl
@[simp] theorem setF_now (base : Nat) (f : Fld) (v : Nat) : (s.setF base f v).now = s.now := rfl
@[simp] theorem setF_sta (base : Nat) (f : Fld) (v : Nat) : (s.setF base f v).sta = s.sta := rfl
@[simp] theorem setF_fresh (base : Nat) (f : Fld) (v : Nat) : (s.setF base f v).fresh = s.fresh := rfl
@[simp] theorem setF_posted (base : Nat) (f : Fld) (v : Nat) : (s.setF base f v).posted = s.posted := rfl
@[simp] theorem setF_latches (base : Nat) (f : Fld) (v : Nat) : (s.setF base f v).latches = s.latches := rfl
@[simp] theorem setF_hq (base : Nat) (f : Fld) (v : Nat) : (s.setF base f v).hq = s.hq := rfl
@[simp] theorem setF_evc (base : Nat) (f : Fld) (v : Nat) : (s.setF base f v).evc = s.evc := rfl
@[simp] theorem setF_pwr (base : Nat) (f : Fld) (v : Nat) : (s.setF base f v).pwr = s.pwr := rfl
@[simp] theorem setF_jrnl (base : Nat) (f : Fld) (v : Nat) : (s.setF base f v).jrnl = s.jrnl := rfl
@[simp] theorem setF_fab (base : Nat) (f : Fld) (v : Nat) : (s.setF base f v).fab = s.fab := rfl
@[simp] theorem setF_bays (base : Nat) (f : Fld) (v : Nat) : (s.setF base f v).bays = s.bays := rfl
@[simp] theorem setF_saus (base : Nat) (f : Fld) (v : Nat) : (s.setF base f v).saus = s.saus := rfl
@[simp] theorem setF_fac (base : Nat) (f : Fld) (v : Nat) : (s.setF base f v).fac = s.fac := rfl
@[simp] theorem setF_cfg (base : Nat) (f : Fld) (v : Nat) : (s.setF base f v).cfg = s.cfg := rfl
@[simp] theorem setF_fm (base : Nat) (f : Fld) (v : Nat) : (s.setF base f v).fm = s.fm := rfl
@[simp] theorem setF_lanes (base : Nat) (f : Fld) (v : Nat) : (s.setF base f v).lanes = s.lanes := rfl
@[simp] theorem setF_se (base : Nat) (f : Fld) (v : Nat) : (s.setF base f v).se = s.se := rfl
@[simp] theorem setF_prot (base : Nat) (f : Fld) (v : Nat) : (s.setF base f v).prot = s.prot := rfl
@[simp] theorem setF_ring (base : Nat) (f : Fld) (v : Nat) : (s.setF base f v).ring = s.ring := rfl
@[simp] theorem setF_opt (base : Nat) (f : Fld) (v : Nat) : (s.setF base f v).opt = s.opt := rfl
@[simp] theorem setF_tim (base : Nat) (f : Fld) (v : Nat) : (s.setF base f v).tim = s.tim := rfl
@[simp] theorem setF_clk (base : Nat) (f : Fld) (v : Nat) : (s.setF base f v).clk = s.clk := rfl
@[simp] theorem setF_lat (base : Nat) (f : Fld) (v : Nat) : (s.setF base f v).lat = s.lat := rfl
@[simp] theorem setF_cue (base : Nat) (f : Fld) (v : Nat) : (s.setF base f v).cue = s.cue := rfl
@[simp] theorem setF_dbg (base : Nat) (f : Fld) (v : Nat) : (s.setF base f v).dbg = s.dbg := rfl

@[simp] theorem raise_ident (base : Nat) (f : Fld) : (s.raise base f).ident = s.ident := rfl
@[simp] theorem raise_ctrs (base : Nat) (f : Fld) : (s.raise base f).ctrs = s.ctrs := rfl
@[simp] theorem raise_snaps (base : Nat) (f : Fld) : (s.raise base f).snaps = s.snaps := rfl
@[simp] theorem raise_mem (base : Nat) (f : Fld) : (s.raise base f).mem = s.mem := rfl
@[simp] theorem raise_host (base : Nat) (f : Fld) : (s.raise base f).host = s.host := rfl
@[simp] theorem raise_flash (base : Nat) (f : Fld) : (s.raise base f).flash = s.flash := rfl
@[simp] theorem raise_hostBad (base : Nat) (f : Fld) : (s.raise base f).hostBad = s.hostBad := rfl
@[simp] theorem raise_pending (base : Nat) (f : Fld) : (s.raise base f).pending = s.pending := rfl
@[simp] theorem raise_out (base : Nat) (f : Fld) : (s.raise base f).out = s.out := rfl
@[simp] theorem raise_now (base : Nat) (f : Fld) : (s.raise base f).now = s.now := rfl
@[simp] theorem raise_sta (base : Nat) (f : Fld) : (s.raise base f).sta = s.sta := rfl
@[simp] theorem raise_fresh (base : Nat) (f : Fld) : (s.raise base f).fresh = s.fresh := rfl
@[simp] theorem raise_posted (base : Nat) (f : Fld) : (s.raise base f).posted = s.posted := rfl
@[simp] theorem raise_latches (base : Nat) (f : Fld) : (s.raise base f).latches = s.latches := rfl
@[simp] theorem raise_hq (base : Nat) (f : Fld) : (s.raise base f).hq = s.hq := rfl
@[simp] theorem raise_evc (base : Nat) (f : Fld) : (s.raise base f).evc = s.evc := rfl
@[simp] theorem raise_pwr (base : Nat) (f : Fld) : (s.raise base f).pwr = s.pwr := rfl
@[simp] theorem raise_jrnl (base : Nat) (f : Fld) : (s.raise base f).jrnl = s.jrnl := rfl
@[simp] theorem raise_fab (base : Nat) (f : Fld) : (s.raise base f).fab = s.fab := rfl
@[simp] theorem raise_bays (base : Nat) (f : Fld) : (s.raise base f).bays = s.bays := rfl
@[simp] theorem raise_saus (base : Nat) (f : Fld) : (s.raise base f).saus = s.saus := rfl
@[simp] theorem raise_fac (base : Nat) (f : Fld) : (s.raise base f).fac = s.fac := rfl
@[simp] theorem raise_cfg (base : Nat) (f : Fld) : (s.raise base f).cfg = s.cfg := rfl
@[simp] theorem raise_fm (base : Nat) (f : Fld) : (s.raise base f).fm = s.fm := rfl
@[simp] theorem raise_lanes (base : Nat) (f : Fld) : (s.raise base f).lanes = s.lanes := rfl
@[simp] theorem raise_se (base : Nat) (f : Fld) : (s.raise base f).se = s.se := rfl
@[simp] theorem raise_prot (base : Nat) (f : Fld) : (s.raise base f).prot = s.prot := rfl
@[simp] theorem raise_ring (base : Nat) (f : Fld) : (s.raise base f).ring = s.ring := rfl
@[simp] theorem raise_opt (base : Nat) (f : Fld) : (s.raise base f).opt = s.opt := rfl
@[simp] theorem raise_tim (base : Nat) (f : Fld) : (s.raise base f).tim = s.tim := rfl
@[simp] theorem raise_clk (base : Nat) (f : Fld) : (s.raise base f).clk = s.clk := rfl
@[simp] theorem raise_lat (base : Nat) (f : Fld) : (s.raise base f).lat = s.lat := rfl
@[simp] theorem raise_cue (base : Nat) (f : Fld) : (s.raise base f).cue = s.cue := rfl
@[simp] theorem raise_dbg (base : Nat) (f : Fld) : (s.raise base f).dbg = s.dbg := rfl

@[simp] theorem lower_ident (base : Nat) (f : Fld) : (s.lower base f).ident = s.ident := rfl
@[simp] theorem lower_ctrs (base : Nat) (f : Fld) : (s.lower base f).ctrs = s.ctrs := rfl
@[simp] theorem lower_snaps (base : Nat) (f : Fld) : (s.lower base f).snaps = s.snaps := rfl
@[simp] theorem lower_mem (base : Nat) (f : Fld) : (s.lower base f).mem = s.mem := rfl
@[simp] theorem lower_host (base : Nat) (f : Fld) : (s.lower base f).host = s.host := rfl
@[simp] theorem lower_flash (base : Nat) (f : Fld) : (s.lower base f).flash = s.flash := rfl
@[simp] theorem lower_hostBad (base : Nat) (f : Fld) : (s.lower base f).hostBad = s.hostBad := rfl
@[simp] theorem lower_pending (base : Nat) (f : Fld) : (s.lower base f).pending = s.pending := rfl
@[simp] theorem lower_out (base : Nat) (f : Fld) : (s.lower base f).out = s.out := rfl
@[simp] theorem lower_now (base : Nat) (f : Fld) : (s.lower base f).now = s.now := rfl
@[simp] theorem lower_sta (base : Nat) (f : Fld) : (s.lower base f).sta = s.sta := rfl
@[simp] theorem lower_fresh (base : Nat) (f : Fld) : (s.lower base f).fresh = s.fresh := rfl
@[simp] theorem lower_posted (base : Nat) (f : Fld) : (s.lower base f).posted = s.posted := rfl
@[simp] theorem lower_latches (base : Nat) (f : Fld) : (s.lower base f).latches = s.latches := rfl
@[simp] theorem lower_hq (base : Nat) (f : Fld) : (s.lower base f).hq = s.hq := rfl
@[simp] theorem lower_evc (base : Nat) (f : Fld) : (s.lower base f).evc = s.evc := rfl
@[simp] theorem lower_pwr (base : Nat) (f : Fld) : (s.lower base f).pwr = s.pwr := rfl
@[simp] theorem lower_jrnl (base : Nat) (f : Fld) : (s.lower base f).jrnl = s.jrnl := rfl
@[simp] theorem lower_fab (base : Nat) (f : Fld) : (s.lower base f).fab = s.fab := rfl
@[simp] theorem lower_bays (base : Nat) (f : Fld) : (s.lower base f).bays = s.bays := rfl
@[simp] theorem lower_saus (base : Nat) (f : Fld) : (s.lower base f).saus = s.saus := rfl
@[simp] theorem lower_fac (base : Nat) (f : Fld) : (s.lower base f).fac = s.fac := rfl
@[simp] theorem lower_cfg (base : Nat) (f : Fld) : (s.lower base f).cfg = s.cfg := rfl
@[simp] theorem lower_fm (base : Nat) (f : Fld) : (s.lower base f).fm = s.fm := rfl
@[simp] theorem lower_lanes (base : Nat) (f : Fld) : (s.lower base f).lanes = s.lanes := rfl
@[simp] theorem lower_se (base : Nat) (f : Fld) : (s.lower base f).se = s.se := rfl
@[simp] theorem lower_prot (base : Nat) (f : Fld) : (s.lower base f).prot = s.prot := rfl
@[simp] theorem lower_ring (base : Nat) (f : Fld) : (s.lower base f).ring = s.ring := rfl
@[simp] theorem lower_opt (base : Nat) (f : Fld) : (s.lower base f).opt = s.opt := rfl
@[simp] theorem lower_tim (base : Nat) (f : Fld) : (s.lower base f).tim = s.tim := rfl
@[simp] theorem lower_clk (base : Nat) (f : Fld) : (s.lower base f).clk = s.clk := rfl
@[simp] theorem lower_lat (base : Nat) (f : Fld) : (s.lower base f).lat = s.lat := rfl
@[simp] theorem lower_cue (base : Nat) (f : Fld) : (s.lower base f).cue = s.cue := rfl
@[simp] theorem lower_dbg (base : Nat) (f : Fld) : (s.lower base f).dbg = s.dbg := rfl

@[simp] theorem setB_ident (base : Nat) (f : Fld) (b : Bool) : (s.setB base f b).ident = s.ident := rfl
@[simp] theorem setB_ctrs (base : Nat) (f : Fld) (b : Bool) : (s.setB base f b).ctrs = s.ctrs := rfl
@[simp] theorem setB_snaps (base : Nat) (f : Fld) (b : Bool) : (s.setB base f b).snaps = s.snaps := rfl
@[simp] theorem setB_mem (base : Nat) (f : Fld) (b : Bool) : (s.setB base f b).mem = s.mem := rfl
@[simp] theorem setB_host (base : Nat) (f : Fld) (b : Bool) : (s.setB base f b).host = s.host := rfl
@[simp] theorem setB_flash (base : Nat) (f : Fld) (b : Bool) : (s.setB base f b).flash = s.flash := rfl
@[simp] theorem setB_hostBad (base : Nat) (f : Fld) (b : Bool) : (s.setB base f b).hostBad = s.hostBad := rfl
@[simp] theorem setB_pending (base : Nat) (f : Fld) (b : Bool) : (s.setB base f b).pending = s.pending := rfl
@[simp] theorem setB_out (base : Nat) (f : Fld) (b : Bool) : (s.setB base f b).out = s.out := rfl
@[simp] theorem setB_now (base : Nat) (f : Fld) (b : Bool) : (s.setB base f b).now = s.now := rfl
@[simp] theorem setB_sta (base : Nat) (f : Fld) (b : Bool) : (s.setB base f b).sta = s.sta := rfl
@[simp] theorem setB_fresh (base : Nat) (f : Fld) (b : Bool) : (s.setB base f b).fresh = s.fresh := rfl
@[simp] theorem setB_posted (base : Nat) (f : Fld) (b : Bool) : (s.setB base f b).posted = s.posted := rfl
@[simp] theorem setB_latches (base : Nat) (f : Fld) (b : Bool) : (s.setB base f b).latches = s.latches := rfl
@[simp] theorem setB_hq (base : Nat) (f : Fld) (b : Bool) : (s.setB base f b).hq = s.hq := rfl
@[simp] theorem setB_evc (base : Nat) (f : Fld) (b : Bool) : (s.setB base f b).evc = s.evc := rfl
@[simp] theorem setB_pwr (base : Nat) (f : Fld) (b : Bool) : (s.setB base f b).pwr = s.pwr := rfl
@[simp] theorem setB_jrnl (base : Nat) (f : Fld) (b : Bool) : (s.setB base f b).jrnl = s.jrnl := rfl
@[simp] theorem setB_fab (base : Nat) (f : Fld) (b : Bool) : (s.setB base f b).fab = s.fab := rfl
@[simp] theorem setB_bays (base : Nat) (f : Fld) (b : Bool) : (s.setB base f b).bays = s.bays := rfl
@[simp] theorem setB_saus (base : Nat) (f : Fld) (b : Bool) : (s.setB base f b).saus = s.saus := rfl
@[simp] theorem setB_fac (base : Nat) (f : Fld) (b : Bool) : (s.setB base f b).fac = s.fac := rfl
@[simp] theorem setB_cfg (base : Nat) (f : Fld) (b : Bool) : (s.setB base f b).cfg = s.cfg := rfl
@[simp] theorem setB_fm (base : Nat) (f : Fld) (b : Bool) : (s.setB base f b).fm = s.fm := rfl
@[simp] theorem setB_lanes (base : Nat) (f : Fld) (b : Bool) : (s.setB base f b).lanes = s.lanes := rfl
@[simp] theorem setB_se (base : Nat) (f : Fld) (b : Bool) : (s.setB base f b).se = s.se := rfl
@[simp] theorem setB_prot (base : Nat) (f : Fld) (b : Bool) : (s.setB base f b).prot = s.prot := rfl
@[simp] theorem setB_ring (base : Nat) (f : Fld) (b : Bool) : (s.setB base f b).ring = s.ring := rfl
@[simp] theorem setB_opt (base : Nat) (f : Fld) (b : Bool) : (s.setB base f b).opt = s.opt := rfl
@[simp] theorem setB_tim (base : Nat) (f : Fld) (b : Bool) : (s.setB base f b).tim = s.tim := rfl
@[simp] theorem setB_clk (base : Nat) (f : Fld) (b : Bool) : (s.setB base f b).clk = s.clk := rfl
@[simp] theorem setB_lat (base : Nat) (f : Fld) (b : Bool) : (s.setB base f b).lat = s.lat := rfl
@[simp] theorem setB_cue (base : Nat) (f : Fld) (b : Bool) : (s.setB base f b).cue = s.cue := rfl
@[simp] theorem setB_dbg (base : Nat) (f : Fld) (b : Bool) : (s.setB base f b).dbg = s.dbg := rfl

@[simp] theorem setQptr_ident (q n : Nat) (p : QcPtr) : (s.setQptr q n p).ident = s.ident := rfl
@[simp] theorem setQptr_regs (q n : Nat) (p : QcPtr) : (s.setQptr q n p).regs = s.regs := rfl
@[simp] theorem setQptr_ctrs (q n : Nat) (p : QcPtr) : (s.setQptr q n p).ctrs = s.ctrs := rfl
@[simp] theorem setQptr_snaps (q n : Nat) (p : QcPtr) : (s.setQptr q n p).snaps = s.snaps := rfl
@[simp] theorem setQptr_mem (q n : Nat) (p : QcPtr) : (s.setQptr q n p).mem = s.mem := rfl
@[simp] theorem setQptr_host (q n : Nat) (p : QcPtr) : (s.setQptr q n p).host = s.host := rfl
@[simp] theorem setQptr_flash (q n : Nat) (p : QcPtr) : (s.setQptr q n p).flash = s.flash := rfl
@[simp] theorem setQptr_hostBad (q n : Nat) (p : QcPtr) : (s.setQptr q n p).hostBad = s.hostBad := rfl
@[simp] theorem setQptr_pending (q n : Nat) (p : QcPtr) : (s.setQptr q n p).pending = s.pending := rfl
@[simp] theorem setQptr_out (q n : Nat) (p : QcPtr) : (s.setQptr q n p).out = s.out := rfl
@[simp] theorem setQptr_now (q n : Nat) (p : QcPtr) : (s.setQptr q n p).now = s.now := rfl
@[simp] theorem setQptr_sta (q n : Nat) (p : QcPtr) : (s.setQptr q n p).sta = s.sta := rfl
@[simp] theorem setQptr_fresh (q n : Nat) (p : QcPtr) : (s.setQptr q n p).fresh = s.fresh := rfl
@[simp] theorem setQptr_posted (q n : Nat) (p : QcPtr) : (s.setQptr q n p).posted = s.posted := rfl
@[simp] theorem setQptr_latches (q n : Nat) (p : QcPtr) : (s.setQptr q n p).latches = s.latches := rfl
@[simp] theorem setQptr_hq (q n : Nat) (p : QcPtr) : (s.setQptr q n p).hq = s.hq := rfl
@[simp] theorem setQptr_evc (q n : Nat) (p : QcPtr) : (s.setQptr q n p).evc = s.evc := rfl
@[simp] theorem setQptr_pwr (q n : Nat) (p : QcPtr) : (s.setQptr q n p).pwr = s.pwr := rfl
@[simp] theorem setQptr_jrnl (q n : Nat) (p : QcPtr) : (s.setQptr q n p).jrnl = s.jrnl := rfl
@[simp] theorem setQptr_fab (q n : Nat) (p : QcPtr) : (s.setQptr q n p).fab = s.fab := rfl
@[simp] theorem setQptr_saus (q n : Nat) (p : QcPtr) : (s.setQptr q n p).saus = s.saus := rfl
@[simp] theorem setQptr_fac (q n : Nat) (p : QcPtr) : (s.setQptr q n p).fac = s.fac := rfl
@[simp] theorem setQptr_cfg (q n : Nat) (p : QcPtr) : (s.setQptr q n p).cfg = s.cfg := rfl
@[simp] theorem setQptr_fm (q n : Nat) (p : QcPtr) : (s.setQptr q n p).fm = s.fm := rfl
@[simp] theorem setQptr_lanes (q n : Nat) (p : QcPtr) : (s.setQptr q n p).lanes = s.lanes := rfl
@[simp] theorem setQptr_se (q n : Nat) (p : QcPtr) : (s.setQptr q n p).se = s.se := rfl
@[simp] theorem setQptr_prot (q n : Nat) (p : QcPtr) : (s.setQptr q n p).prot = s.prot := rfl
@[simp] theorem setQptr_ring (q n : Nat) (p : QcPtr) : (s.setQptr q n p).ring = s.ring := rfl
@[simp] theorem setQptr_opt (q n : Nat) (p : QcPtr) : (s.setQptr q n p).opt = s.opt := rfl
@[simp] theorem setQptr_tim (q n : Nat) (p : QcPtr) : (s.setQptr q n p).tim = s.tim := rfl
@[simp] theorem setQptr_clk (q n : Nat) (p : QcPtr) : (s.setQptr q n p).clk = s.clk := rfl
@[simp] theorem setQptr_lat (q n : Nat) (p : QcPtr) : (s.setQptr q n p).lat = s.lat := rfl
@[simp] theorem setQptr_cue (q n : Nat) (p : QcPtr) : (s.setQptr q n p).cue = s.cue := rfl
@[simp] theorem setQptr_dbg (q n : Nat) (p : QcPtr) : (s.setQptr q n p).dbg = s.dbg := rfl
@[simp] theorem setQptr_getF (q n : Nat) (p : QcPtr) (base : Nat) (fld : Fld) : (s.setQptr q n p).getF base fld = s.getF base fld := rfl
@[simp] theorem setQptr_flag (q n : Nat) (p : QcPtr) (base : Nat) (fld : Fld) : (s.setQptr q n p).flag base fld = s.flag base fld := rfl

@[simp] theorem setLoopX_ident (n : Nat) (x : LoopX) : (s.setLoopX n x).ident = s.ident := rfl
@[simp] theorem setLoopX_regs (n : Nat) (x : LoopX) : (s.setLoopX n x).regs = s.regs := rfl
@[simp] theorem setLoopX_ctrs (n : Nat) (x : LoopX) : (s.setLoopX n x).ctrs = s.ctrs := rfl
@[simp] theorem setLoopX_snaps (n : Nat) (x : LoopX) : (s.setLoopX n x).snaps = s.snaps := rfl
@[simp] theorem setLoopX_mem (n : Nat) (x : LoopX) : (s.setLoopX n x).mem = s.mem := rfl
@[simp] theorem setLoopX_host (n : Nat) (x : LoopX) : (s.setLoopX n x).host = s.host := rfl
@[simp] theorem setLoopX_flash (n : Nat) (x : LoopX) : (s.setLoopX n x).flash = s.flash := rfl
@[simp] theorem setLoopX_hostBad (n : Nat) (x : LoopX) : (s.setLoopX n x).hostBad = s.hostBad := rfl
@[simp] theorem setLoopX_pending (n : Nat) (x : LoopX) : (s.setLoopX n x).pending = s.pending := rfl
@[simp] theorem setLoopX_out (n : Nat) (x : LoopX) : (s.setLoopX n x).out = s.out := rfl
@[simp] theorem setLoopX_now (n : Nat) (x : LoopX) : (s.setLoopX n x).now = s.now := rfl
@[simp] theorem setLoopX_sta (n : Nat) (x : LoopX) : (s.setLoopX n x).sta = s.sta := rfl
@[simp] theorem setLoopX_fresh (n : Nat) (x : LoopX) : (s.setLoopX n x).fresh = s.fresh := rfl
@[simp] theorem setLoopX_posted (n : Nat) (x : LoopX) : (s.setLoopX n x).posted = s.posted := rfl
@[simp] theorem setLoopX_latches (n : Nat) (x : LoopX) : (s.setLoopX n x).latches = s.latches := rfl
@[simp] theorem setLoopX_hq (n : Nat) (x : LoopX) : (s.setLoopX n x).hq = s.hq := rfl
@[simp] theorem setLoopX_evc (n : Nat) (x : LoopX) : (s.setLoopX n x).evc = s.evc := rfl
@[simp] theorem setLoopX_pwr (n : Nat) (x : LoopX) : (s.setLoopX n x).pwr = s.pwr := rfl
@[simp] theorem setLoopX_jrnl (n : Nat) (x : LoopX) : (s.setLoopX n x).jrnl = s.jrnl := rfl
@[simp] theorem setLoopX_fab (n : Nat) (x : LoopX) : (s.setLoopX n x).fab = s.fab := rfl
@[simp] theorem setLoopX_bays (n : Nat) (x : LoopX) : (s.setLoopX n x).bays = s.bays := rfl
@[simp] theorem setLoopX_saus (n : Nat) (x : LoopX) : (s.setLoopX n x).saus = s.saus := rfl
@[simp] theorem setLoopX_fac (n : Nat) (x : LoopX) : (s.setLoopX n x).fac = s.fac := rfl
@[simp] theorem setLoopX_cfg (n : Nat) (x : LoopX) : (s.setLoopX n x).cfg = s.cfg := rfl
@[simp] theorem setLoopX_fm (n : Nat) (x : LoopX) : (s.setLoopX n x).fm = s.fm := rfl
@[simp] theorem setLoopX_lanes (n : Nat) (x : LoopX) : (s.setLoopX n x).lanes = s.lanes := rfl
@[simp] theorem setLoopX_se (n : Nat) (x : LoopX) : (s.setLoopX n x).se = s.se := rfl
@[simp] theorem setLoopX_prot (n : Nat) (x : LoopX) : (s.setLoopX n x).prot = s.prot := rfl
@[simp] theorem setLoopX_ring (n : Nat) (x : LoopX) : (s.setLoopX n x).ring = s.ring := rfl
@[simp] theorem setLoopX_opt (n : Nat) (x : LoopX) : (s.setLoopX n x).opt = s.opt := rfl
@[simp] theorem setLoopX_tim (n : Nat) (x : LoopX) : (s.setLoopX n x).tim = s.tim := rfl
@[simp] theorem setLoopX_lat (n : Nat) (x : LoopX) : (s.setLoopX n x).lat = s.lat := rfl
@[simp] theorem setLoopX_cue (n : Nat) (x : LoopX) : (s.setLoopX n x).cue = s.cue := rfl
@[simp] theorem setLoopX_dbg (n : Nat) (x : LoopX) : (s.setLoopX n x).dbg = s.dbg := rfl
@[simp] theorem setLoopX_getF (n : Nat) (x : LoopX) (base : Nat) (fld : Fld) : (s.setLoopX n x).getF base fld = s.getF base fld := rfl
@[simp] theorem setLoopX_flag (n : Nat) (x : LoopX) (base : Nat) (fld : Fld) : (s.setLoopX n x).flag base fld = s.flag base fld := rfl

@[simp] theorem setCapture_ident (v : Nat) : (s.setCapture v).ident = s.ident := rfl
@[simp] theorem setCapture_regs (v : Nat) : (s.setCapture v).regs = s.regs := rfl
@[simp] theorem setCapture_ctrs (v : Nat) : (s.setCapture v).ctrs = s.ctrs := rfl
@[simp] theorem setCapture_snaps (v : Nat) : (s.setCapture v).snaps = s.snaps := rfl
@[simp] theorem setCapture_mem (v : Nat) : (s.setCapture v).mem = s.mem := rfl
@[simp] theorem setCapture_host (v : Nat) : (s.setCapture v).host = s.host := rfl
@[simp] theorem setCapture_flash (v : Nat) : (s.setCapture v).flash = s.flash := rfl
@[simp] theorem setCapture_hostBad (v : Nat) : (s.setCapture v).hostBad = s.hostBad := rfl
@[simp] theorem setCapture_pending (v : Nat) : (s.setCapture v).pending = s.pending := rfl
@[simp] theorem setCapture_out (v : Nat) : (s.setCapture v).out = s.out := rfl
@[simp] theorem setCapture_now (v : Nat) : (s.setCapture v).now = s.now := rfl
@[simp] theorem setCapture_sta (v : Nat) : (s.setCapture v).sta = s.sta := rfl
@[simp] theorem setCapture_fresh (v : Nat) : (s.setCapture v).fresh = s.fresh := rfl
@[simp] theorem setCapture_posted (v : Nat) : (s.setCapture v).posted = s.posted := rfl
@[simp] theorem setCapture_latches (v : Nat) : (s.setCapture v).latches = s.latches := rfl
@[simp] theorem setCapture_hq (v : Nat) : (s.setCapture v).hq = s.hq := rfl
@[simp] theorem setCapture_evc (v : Nat) : (s.setCapture v).evc = s.evc := rfl
@[simp] theorem setCapture_pwr (v : Nat) : (s.setCapture v).pwr = s.pwr := rfl
@[simp] theorem setCapture_jrnl (v : Nat) : (s.setCapture v).jrnl = s.jrnl := rfl
@[simp] theorem setCapture_fab (v : Nat) : (s.setCapture v).fab = s.fab := rfl
@[simp] theorem setCapture_bays (v : Nat) : (s.setCapture v).bays = s.bays := rfl
@[simp] theorem setCapture_saus (v : Nat) : (s.setCapture v).saus = s.saus := rfl
@[simp] theorem setCapture_fac (v : Nat) : (s.setCapture v).fac = s.fac := rfl
@[simp] theorem setCapture_cfg (v : Nat) : (s.setCapture v).cfg = s.cfg := rfl
@[simp] theorem setCapture_fm (v : Nat) : (s.setCapture v).fm = s.fm := rfl
@[simp] theorem setCapture_lanes (v : Nat) : (s.setCapture v).lanes = s.lanes := rfl
@[simp] theorem setCapture_se (v : Nat) : (s.setCapture v).se = s.se := rfl
@[simp] theorem setCapture_prot (v : Nat) : (s.setCapture v).prot = s.prot := rfl
@[simp] theorem setCapture_ring (v : Nat) : (s.setCapture v).ring = s.ring := rfl
@[simp] theorem setCapture_opt (v : Nat) : (s.setCapture v).opt = s.opt := rfl
@[simp] theorem setCapture_tim (v : Nat) : (s.setCapture v).tim = s.tim := rfl
@[simp] theorem setCapture_clk (v : Nat) : (s.setCapture v).clk = s.clk := rfl
@[simp] theorem setCapture_lat (v : Nat) : (s.setCapture v).lat = s.lat := rfl
@[simp] theorem setCapture_cue (v : Nat) : (s.setCapture v).cue = s.cue := rfl
@[simp] theorem setCapture_getF (v : Nat) (base : Nat) (fld : Fld) : (s.setCapture v).getF base fld = s.getF base fld := rfl
@[simp] theorem setCapture_flag (v : Nat) (base : Nat) (fld : Fld) : (s.setCapture v).flag base fld = s.flag base fld := rfl

@[simp] theorem setEdgeX_ident (e : Nat) (x : EdgeX) : (s.setEdgeX e x).ident = s.ident := rfl
@[simp] theorem setEdgeX_regs (e : Nat) (x : EdgeX) : (s.setEdgeX e x).regs = s.regs := rfl
@[simp] theorem setEdgeX_ctrs (e : Nat) (x : EdgeX) : (s.setEdgeX e x).ctrs = s.ctrs := rfl
@[simp] theorem setEdgeX_snaps (e : Nat) (x : EdgeX) : (s.setEdgeX e x).snaps = s.snaps := rfl
@[simp] theorem setEdgeX_mem (e : Nat) (x : EdgeX) : (s.setEdgeX e x).mem = s.mem := rfl
@[simp] theorem setEdgeX_host (e : Nat) (x : EdgeX) : (s.setEdgeX e x).host = s.host := rfl
@[simp] theorem setEdgeX_flash (e : Nat) (x : EdgeX) : (s.setEdgeX e x).flash = s.flash := rfl
@[simp] theorem setEdgeX_hostBad (e : Nat) (x : EdgeX) : (s.setEdgeX e x).hostBad = s.hostBad := rfl
@[simp] theorem setEdgeX_pending (e : Nat) (x : EdgeX) : (s.setEdgeX e x).pending = s.pending := rfl
@[simp] theorem setEdgeX_out (e : Nat) (x : EdgeX) : (s.setEdgeX e x).out = s.out := rfl
@[simp] theorem setEdgeX_now (e : Nat) (x : EdgeX) : (s.setEdgeX e x).now = s.now := rfl
@[simp] theorem setEdgeX_sta (e : Nat) (x : EdgeX) : (s.setEdgeX e x).sta = s.sta := rfl
@[simp] theorem setEdgeX_fresh (e : Nat) (x : EdgeX) : (s.setEdgeX e x).fresh = s.fresh := rfl
@[simp] theorem setEdgeX_posted (e : Nat) (x : EdgeX) : (s.setEdgeX e x).posted = s.posted := rfl
@[simp] theorem setEdgeX_latches (e : Nat) (x : EdgeX) : (s.setEdgeX e x).latches = s.latches := rfl
@[simp] theorem setEdgeX_hq (e : Nat) (x : EdgeX) : (s.setEdgeX e x).hq = s.hq := rfl
@[simp] theorem setEdgeX_evc (e : Nat) (x : EdgeX) : (s.setEdgeX e x).evc = s.evc := rfl
@[simp] theorem setEdgeX_pwr (e : Nat) (x : EdgeX) : (s.setEdgeX e x).pwr = s.pwr := rfl
@[simp] theorem setEdgeX_jrnl (e : Nat) (x : EdgeX) : (s.setEdgeX e x).jrnl = s.jrnl := rfl
@[simp] theorem setEdgeX_fab (e : Nat) (x : EdgeX) : (s.setEdgeX e x).fab = s.fab := rfl
@[simp] theorem setEdgeX_bays (e : Nat) (x : EdgeX) : (s.setEdgeX e x).bays = s.bays := rfl
@[simp] theorem setEdgeX_saus (e : Nat) (x : EdgeX) : (s.setEdgeX e x).saus = s.saus := rfl
@[simp] theorem setEdgeX_fac (e : Nat) (x : EdgeX) : (s.setEdgeX e x).fac = s.fac := rfl
@[simp] theorem setEdgeX_cfg (e : Nat) (x : EdgeX) : (s.setEdgeX e x).cfg = s.cfg := rfl
@[simp] theorem setEdgeX_fm (e : Nat) (x : EdgeX) : (s.setEdgeX e x).fm = s.fm := rfl
@[simp] theorem setEdgeX_lanes (e : Nat) (x : EdgeX) : (s.setEdgeX e x).lanes = s.lanes := rfl
@[simp] theorem setEdgeX_se (e : Nat) (x : EdgeX) : (s.setEdgeX e x).se = s.se := rfl
@[simp] theorem setEdgeX_prot (e : Nat) (x : EdgeX) : (s.setEdgeX e x).prot = s.prot := rfl
@[simp] theorem setEdgeX_ring (e : Nat) (x : EdgeX) : (s.setEdgeX e x).ring = s.ring := rfl
@[simp] theorem setEdgeX_tim (e : Nat) (x : EdgeX) : (s.setEdgeX e x).tim = s.tim := rfl
@[simp] theorem setEdgeX_clk (e : Nat) (x : EdgeX) : (s.setEdgeX e x).clk = s.clk := rfl
@[simp] theorem setEdgeX_lat (e : Nat) (x : EdgeX) : (s.setEdgeX e x).lat = s.lat := rfl
@[simp] theorem setEdgeX_cue (e : Nat) (x : EdgeX) : (s.setEdgeX e x).cue = s.cue := rfl
@[simp] theorem setEdgeX_dbg (e : Nat) (x : EdgeX) : (s.setEdgeX e x).dbg = s.dbg := rfl
@[simp] theorem setEdgeX_getF (e : Nat) (x : EdgeX) (base : Nat) (fld : Fld) : (s.setEdgeX e x).getF base fld = s.getF base fld := rfl
@[simp] theorem setEdgeX_flag (e : Nat) (x : EdgeX) (base : Nat) (fld : Fld) : (s.setEdgeX e x).flag base fld = s.flag base fld := rfl

@[simp] theorem setFacetX_ident (f : Nat) (x : FacetX) : (s.setFacetX f x).ident = s.ident := rfl
@[simp] theorem setFacetX_regs (f : Nat) (x : FacetX) : (s.setFacetX f x).regs = s.regs := rfl
@[simp] theorem setFacetX_ctrs (f : Nat) (x : FacetX) : (s.setFacetX f x).ctrs = s.ctrs := rfl
@[simp] theorem setFacetX_snaps (f : Nat) (x : FacetX) : (s.setFacetX f x).snaps = s.snaps := rfl
@[simp] theorem setFacetX_mem (f : Nat) (x : FacetX) : (s.setFacetX f x).mem = s.mem := rfl
@[simp] theorem setFacetX_host (f : Nat) (x : FacetX) : (s.setFacetX f x).host = s.host := rfl
@[simp] theorem setFacetX_flash (f : Nat) (x : FacetX) : (s.setFacetX f x).flash = s.flash := rfl
@[simp] theorem setFacetX_hostBad (f : Nat) (x : FacetX) : (s.setFacetX f x).hostBad = s.hostBad := rfl
@[simp] theorem setFacetX_pending (f : Nat) (x : FacetX) : (s.setFacetX f x).pending = s.pending := rfl
@[simp] theorem setFacetX_out (f : Nat) (x : FacetX) : (s.setFacetX f x).out = s.out := rfl
@[simp] theorem setFacetX_now (f : Nat) (x : FacetX) : (s.setFacetX f x).now = s.now := rfl
@[simp] theorem setFacetX_sta (f : Nat) (x : FacetX) : (s.setFacetX f x).sta = s.sta := rfl
@[simp] theorem setFacetX_fresh (f : Nat) (x : FacetX) : (s.setFacetX f x).fresh = s.fresh := rfl
@[simp] theorem setFacetX_posted (f : Nat) (x : FacetX) : (s.setFacetX f x).posted = s.posted := rfl
@[simp] theorem setFacetX_latches (f : Nat) (x : FacetX) : (s.setFacetX f x).latches = s.latches := rfl
@[simp] theorem setFacetX_hq (f : Nat) (x : FacetX) : (s.setFacetX f x).hq = s.hq := rfl
@[simp] theorem setFacetX_evc (f : Nat) (x : FacetX) : (s.setFacetX f x).evc = s.evc := rfl
@[simp] theorem setFacetX_pwr (f : Nat) (x : FacetX) : (s.setFacetX f x).pwr = s.pwr := rfl
@[simp] theorem setFacetX_jrnl (f : Nat) (x : FacetX) : (s.setFacetX f x).jrnl = s.jrnl := rfl
@[simp] theorem setFacetX_fab (f : Nat) (x : FacetX) : (s.setFacetX f x).fab = s.fab := rfl
@[simp] theorem setFacetX_bays (f : Nat) (x : FacetX) : (s.setFacetX f x).bays = s.bays := rfl
@[simp] theorem setFacetX_saus (f : Nat) (x : FacetX) : (s.setFacetX f x).saus = s.saus := rfl
@[simp] theorem setFacetX_cfg (f : Nat) (x : FacetX) : (s.setFacetX f x).cfg = s.cfg := rfl
@[simp] theorem setFacetX_fm (f : Nat) (x : FacetX) : (s.setFacetX f x).fm = s.fm := rfl
@[simp] theorem setFacetX_lanes (f : Nat) (x : FacetX) : (s.setFacetX f x).lanes = s.lanes := rfl
@[simp] theorem setFacetX_se (f : Nat) (x : FacetX) : (s.setFacetX f x).se = s.se := rfl
@[simp] theorem setFacetX_prot (f : Nat) (x : FacetX) : (s.setFacetX f x).prot = s.prot := rfl
@[simp] theorem setFacetX_ring (f : Nat) (x : FacetX) : (s.setFacetX f x).ring = s.ring := rfl
@[simp] theorem setFacetX_opt (f : Nat) (x : FacetX) : (s.setFacetX f x).opt = s.opt := rfl
@[simp] theorem setFacetX_tim (f : Nat) (x : FacetX) : (s.setFacetX f x).tim = s.tim := rfl
@[simp] theorem setFacetX_clk (f : Nat) (x : FacetX) : (s.setFacetX f x).clk = s.clk := rfl
@[simp] theorem setFacetX_lat (f : Nat) (x : FacetX) : (s.setFacetX f x).lat = s.lat := rfl
@[simp] theorem setFacetX_cue (f : Nat) (x : FacetX) : (s.setFacetX f x).cue = s.cue := rfl
@[simp] theorem setFacetX_dbg (f : Nat) (x : FacetX) : (s.setFacetX f x).dbg = s.dbg := rfl
@[simp] theorem setFacetX_getF (f : Nat) (x : FacetX) (base : Nat) (fld : Fld) : (s.setFacetX f x).getF base fld = s.getF base fld := rfl
@[simp] theorem setFacetX_flag (f : Nat) (x : FacetX) (base : Nat) (fld : Fld) : (s.setFacetX f x).flag base fld = s.flag base fld := rfl

@[simp] theorem setSpq_ident (b : Nat) (v : SpQ) : (s.setSpq b v).ident = s.ident := rfl
@[simp] theorem setSpq_regs (b : Nat) (v : SpQ) : (s.setSpq b v).regs = s.regs := rfl
@[simp] theorem setSpq_ctrs (b : Nat) (v : SpQ) : (s.setSpq b v).ctrs = s.ctrs := rfl
@[simp] theorem setSpq_snaps (b : Nat) (v : SpQ) : (s.setSpq b v).snaps = s.snaps := rfl
@[simp] theorem setSpq_mem (b : Nat) (v : SpQ) : (s.setSpq b v).mem = s.mem := rfl
@[simp] theorem setSpq_host (b : Nat) (v : SpQ) : (s.setSpq b v).host = s.host := rfl
@[simp] theorem setSpq_flash (b : Nat) (v : SpQ) : (s.setSpq b v).flash = s.flash := rfl
@[simp] theorem setSpq_hostBad (b : Nat) (v : SpQ) : (s.setSpq b v).hostBad = s.hostBad := rfl
@[simp] theorem setSpq_pending (b : Nat) (v : SpQ) : (s.setSpq b v).pending = s.pending := rfl
@[simp] theorem setSpq_out (b : Nat) (v : SpQ) : (s.setSpq b v).out = s.out := rfl
@[simp] theorem setSpq_now (b : Nat) (v : SpQ) : (s.setSpq b v).now = s.now := rfl
@[simp] theorem setSpq_sta (b : Nat) (v : SpQ) : (s.setSpq b v).sta = s.sta := rfl
@[simp] theorem setSpq_fresh (b : Nat) (v : SpQ) : (s.setSpq b v).fresh = s.fresh := rfl
@[simp] theorem setSpq_posted (b : Nat) (v : SpQ) : (s.setSpq b v).posted = s.posted := rfl
@[simp] theorem setSpq_latches (b : Nat) (v : SpQ) : (s.setSpq b v).latches = s.latches := rfl
@[simp] theorem setSpq_hq (b : Nat) (v : SpQ) : (s.setSpq b v).hq = s.hq := rfl
@[simp] theorem setSpq_evc (b : Nat) (v : SpQ) : (s.setSpq b v).evc = s.evc := rfl
@[simp] theorem setSpq_pwr (b : Nat) (v : SpQ) : (s.setSpq b v).pwr = s.pwr := rfl
@[simp] theorem setSpq_jrnl (b : Nat) (v : SpQ) : (s.setSpq b v).jrnl = s.jrnl := rfl
@[simp] theorem setSpq_bays (b : Nat) (v : SpQ) : (s.setSpq b v).bays = s.bays := rfl
@[simp] theorem setSpq_saus (b : Nat) (v : SpQ) : (s.setSpq b v).saus = s.saus := rfl
@[simp] theorem setSpq_fac (b : Nat) (v : SpQ) : (s.setSpq b v).fac = s.fac := rfl
@[simp] theorem setSpq_cfg (b : Nat) (v : SpQ) : (s.setSpq b v).cfg = s.cfg := rfl
@[simp] theorem setSpq_fm (b : Nat) (v : SpQ) : (s.setSpq b v).fm = s.fm := rfl
@[simp] theorem setSpq_lanes (b : Nat) (v : SpQ) : (s.setSpq b v).lanes = s.lanes := rfl
@[simp] theorem setSpq_se (b : Nat) (v : SpQ) : (s.setSpq b v).se = s.se := rfl
@[simp] theorem setSpq_prot (b : Nat) (v : SpQ) : (s.setSpq b v).prot = s.prot := rfl
@[simp] theorem setSpq_ring (b : Nat) (v : SpQ) : (s.setSpq b v).ring = s.ring := rfl
@[simp] theorem setSpq_opt (b : Nat) (v : SpQ) : (s.setSpq b v).opt = s.opt := rfl
@[simp] theorem setSpq_tim (b : Nat) (v : SpQ) : (s.setSpq b v).tim = s.tim := rfl
@[simp] theorem setSpq_clk (b : Nat) (v : SpQ) : (s.setSpq b v).clk = s.clk := rfl
@[simp] theorem setSpq_lat (b : Nat) (v : SpQ) : (s.setSpq b v).lat = s.lat := rfl
@[simp] theorem setSpq_cue (b : Nat) (v : SpQ) : (s.setSpq b v).cue = s.cue := rfl
@[simp] theorem setSpq_dbg (b : Nat) (v : SpQ) : (s.setSpq b v).dbg = s.dbg := rfl
@[simp] theorem setSpq_getF (b : Nat) (v : SpQ) (base : Nat) (fld : Fld) : (s.setSpq b v).getF base fld = s.getF base fld := rfl
@[simp] theorem setSpq_flag (b : Nat) (v : SpQ) (base : Nat) (fld : Fld) : (s.setSpq b v).flag base fld = s.flag base fld := rfl

@[simp] theorem setRpWait_ident (q : Nat) (l : List RpReq) : (s.setRpWait q l).ident = s.ident := rfl
@[simp] theorem setRpWait_regs (q : Nat) (l : List RpReq) : (s.setRpWait q l).regs = s.regs := rfl
@[simp] theorem setRpWait_ctrs (q : Nat) (l : List RpReq) : (s.setRpWait q l).ctrs = s.ctrs := rfl
@[simp] theorem setRpWait_snaps (q : Nat) (l : List RpReq) : (s.setRpWait q l).snaps = s.snaps := rfl
@[simp] theorem setRpWait_mem (q : Nat) (l : List RpReq) : (s.setRpWait q l).mem = s.mem := rfl
@[simp] theorem setRpWait_host (q : Nat) (l : List RpReq) : (s.setRpWait q l).host = s.host := rfl
@[simp] theorem setRpWait_flash (q : Nat) (l : List RpReq) : (s.setRpWait q l).flash = s.flash := rfl
@[simp] theorem setRpWait_hostBad (q : Nat) (l : List RpReq) : (s.setRpWait q l).hostBad = s.hostBad := rfl
@[simp] theorem setRpWait_pending (q : Nat) (l : List RpReq) : (s.setRpWait q l).pending = s.pending := rfl
@[simp] theorem setRpWait_out (q : Nat) (l : List RpReq) : (s.setRpWait q l).out = s.out := rfl
@[simp] theorem setRpWait_now (q : Nat) (l : List RpReq) : (s.setRpWait q l).now = s.now := rfl
@[simp] theorem setRpWait_sta (q : Nat) (l : List RpReq) : (s.setRpWait q l).sta = s.sta := rfl
@[simp] theorem setRpWait_fresh (q : Nat) (l : List RpReq) : (s.setRpWait q l).fresh = s.fresh := rfl
@[simp] theorem setRpWait_posted (q : Nat) (l : List RpReq) : (s.setRpWait q l).posted = s.posted := rfl
@[simp] theorem setRpWait_latches (q : Nat) (l : List RpReq) : (s.setRpWait q l).latches = s.latches := rfl
@[simp] theorem setRpWait_hq (q : Nat) (l : List RpReq) : (s.setRpWait q l).hq = s.hq := rfl
@[simp] theorem setRpWait_evc (q : Nat) (l : List RpReq) : (s.setRpWait q l).evc = s.evc := rfl
@[simp] theorem setRpWait_pwr (q : Nat) (l : List RpReq) : (s.setRpWait q l).pwr = s.pwr := rfl
@[simp] theorem setRpWait_jrnl (q : Nat) (l : List RpReq) : (s.setRpWait q l).jrnl = s.jrnl := rfl
@[simp] theorem setRpWait_bays (q : Nat) (l : List RpReq) : (s.setRpWait q l).bays = s.bays := rfl
@[simp] theorem setRpWait_saus (q : Nat) (l : List RpReq) : (s.setRpWait q l).saus = s.saus := rfl
@[simp] theorem setRpWait_fac (q : Nat) (l : List RpReq) : (s.setRpWait q l).fac = s.fac := rfl
@[simp] theorem setRpWait_cfg (q : Nat) (l : List RpReq) : (s.setRpWait q l).cfg = s.cfg := rfl
@[simp] theorem setRpWait_fm (q : Nat) (l : List RpReq) : (s.setRpWait q l).fm = s.fm := rfl
@[simp] theorem setRpWait_lanes (q : Nat) (l : List RpReq) : (s.setRpWait q l).lanes = s.lanes := rfl
@[simp] theorem setRpWait_se (q : Nat) (l : List RpReq) : (s.setRpWait q l).se = s.se := rfl
@[simp] theorem setRpWait_prot (q : Nat) (l : List RpReq) : (s.setRpWait q l).prot = s.prot := rfl
@[simp] theorem setRpWait_ring (q : Nat) (l : List RpReq) : (s.setRpWait q l).ring = s.ring := rfl
@[simp] theorem setRpWait_opt (q : Nat) (l : List RpReq) : (s.setRpWait q l).opt = s.opt := rfl
@[simp] theorem setRpWait_tim (q : Nat) (l : List RpReq) : (s.setRpWait q l).tim = s.tim := rfl
@[simp] theorem setRpWait_clk (q : Nat) (l : List RpReq) : (s.setRpWait q l).clk = s.clk := rfl
@[simp] theorem setRpWait_lat (q : Nat) (l : List RpReq) : (s.setRpWait q l).lat = s.lat := rfl
@[simp] theorem setRpWait_cue (q : Nat) (l : List RpReq) : (s.setRpWait q l).cue = s.cue := rfl
@[simp] theorem setRpWait_dbg (q : Nat) (l : List RpReq) : (s.setRpWait q l).dbg = s.dbg := rfl
@[simp] theorem setRpWait_getF (q : Nat) (l : List RpReq) (base : Nat) (fld : Fld) : (s.setRpWait q l).getF base fld = s.getF base fld := rfl
@[simp] theorem setRpWait_flag (q : Nat) (l : List RpReq) (base : Nat) (fld : Fld) : (s.setRpWait q l).flag base fld = s.flag base fld := rfl

@[simp] theorem setSect_ident (k x : Nat) (v : Sect) : (s.setSect k x v).ident = s.ident := rfl
@[simp] theorem setSect_regs (k x : Nat) (v : Sect) : (s.setSect k x v).regs = s.regs := rfl
@[simp] theorem setSect_ctrs (k x : Nat) (v : Sect) : (s.setSect k x v).ctrs = s.ctrs := rfl
@[simp] theorem setSect_snaps (k x : Nat) (v : Sect) : (s.setSect k x v).snaps = s.snaps := rfl
@[simp] theorem setSect_mem (k x : Nat) (v : Sect) : (s.setSect k x v).mem = s.mem := rfl
@[simp] theorem setSect_host (k x : Nat) (v : Sect) : (s.setSect k x v).host = s.host := rfl
@[simp] theorem setSect_flash (k x : Nat) (v : Sect) : (s.setSect k x v).flash = s.flash := rfl
@[simp] theorem setSect_hostBad (k x : Nat) (v : Sect) : (s.setSect k x v).hostBad = s.hostBad := rfl
@[simp] theorem setSect_pending (k x : Nat) (v : Sect) : (s.setSect k x v).pending = s.pending := rfl
@[simp] theorem setSect_out (k x : Nat) (v : Sect) : (s.setSect k x v).out = s.out := rfl
@[simp] theorem setSect_now (k x : Nat) (v : Sect) : (s.setSect k x v).now = s.now := rfl
@[simp] theorem setSect_sta (k x : Nat) (v : Sect) : (s.setSect k x v).sta = s.sta := rfl
@[simp] theorem setSect_fresh (k x : Nat) (v : Sect) : (s.setSect k x v).fresh = s.fresh := rfl
@[simp] theorem setSect_posted (k x : Nat) (v : Sect) : (s.setSect k x v).posted = s.posted := rfl
@[simp] theorem setSect_latches (k x : Nat) (v : Sect) : (s.setSect k x v).latches = s.latches := rfl
@[simp] theorem setSect_hq (k x : Nat) (v : Sect) : (s.setSect k x v).hq = s.hq := rfl
@[simp] theorem setSect_evc (k x : Nat) (v : Sect) : (s.setSect k x v).evc = s.evc := rfl
@[simp] theorem setSect_pwr (k x : Nat) (v : Sect) : (s.setSect k x v).pwr = s.pwr := rfl
@[simp] theorem setSect_jrnl (k x : Nat) (v : Sect) : (s.setSect k x v).jrnl = s.jrnl := rfl
@[simp] theorem setSect_fab (k x : Nat) (v : Sect) : (s.setSect k x v).fab = s.fab := rfl
@[simp] theorem setSect_bays (k x : Nat) (v : Sect) : (s.setSect k x v).bays = s.bays := rfl
@[simp] theorem setSect_saus (k x : Nat) (v : Sect) : (s.setSect k x v).saus = s.saus := rfl
@[simp] theorem setSect_fac (k x : Nat) (v : Sect) : (s.setSect k x v).fac = s.fac := rfl
@[simp] theorem setSect_cfg (k x : Nat) (v : Sect) : (s.setSect k x v).cfg = s.cfg := rfl
@[simp] theorem setSect_lanes (k x : Nat) (v : Sect) : (s.setSect k x v).lanes = s.lanes := rfl
@[simp] theorem setSect_se (k x : Nat) (v : Sect) : (s.setSect k x v).se = s.se := rfl
@[simp] theorem setSect_prot (k x : Nat) (v : Sect) : (s.setSect k x v).prot = s.prot := rfl
@[simp] theorem setSect_ring (k x : Nat) (v : Sect) : (s.setSect k x v).ring = s.ring := rfl
@[simp] theorem setSect_opt (k x : Nat) (v : Sect) : (s.setSect k x v).opt = s.opt := rfl
@[simp] theorem setSect_tim (k x : Nat) (v : Sect) : (s.setSect k x v).tim = s.tim := rfl
@[simp] theorem setSect_clk (k x : Nat) (v : Sect) : (s.setSect k x v).clk = s.clk := rfl
@[simp] theorem setSect_lat (k x : Nat) (v : Sect) : (s.setSect k x v).lat = s.lat := rfl
@[simp] theorem setSect_cue (k x : Nat) (v : Sect) : (s.setSect k x v).cue = s.cue := rfl
@[simp] theorem setSect_dbg (k x : Nat) (v : Sect) : (s.setSect k x v).dbg = s.dbg := rfl
@[simp] theorem setSect_getF (k x : Nat) (v : Sect) (base : Nat) (fld : Fld) : (s.setSect k x v).getF base fld = s.getF base fld := rfl
@[simp] theorem setSect_flag (k x : Nat) (v : Sect) (base : Nat) (fld : Fld) : (s.setSect k x v).flag base fld = s.flag base fld := rfl

@[simp] theorem setProtX_ident (n : Nat) (x : ProtX) : (s.setProtX n x).ident = s.ident := rfl
@[simp] theorem setProtX_regs (n : Nat) (x : ProtX) : (s.setProtX n x).regs = s.regs := rfl
@[simp] theorem setProtX_ctrs (n : Nat) (x : ProtX) : (s.setProtX n x).ctrs = s.ctrs := rfl
@[simp] theorem setProtX_snaps (n : Nat) (x : ProtX) : (s.setProtX n x).snaps = s.snaps := rfl
@[simp] theorem setProtX_mem (n : Nat) (x : ProtX) : (s.setProtX n x).mem = s.mem := rfl
@[simp] theorem setProtX_host (n : Nat) (x : ProtX) : (s.setProtX n x).host = s.host := rfl
@[simp] theorem setProtX_flash (n : Nat) (x : ProtX) : (s.setProtX n x).flash = s.flash := rfl
@[simp] theorem setProtX_hostBad (n : Nat) (x : ProtX) : (s.setProtX n x).hostBad = s.hostBad := rfl
@[simp] theorem setProtX_pending (n : Nat) (x : ProtX) : (s.setProtX n x).pending = s.pending := rfl
@[simp] theorem setProtX_out (n : Nat) (x : ProtX) : (s.setProtX n x).out = s.out := rfl
@[simp] theorem setProtX_now (n : Nat) (x : ProtX) : (s.setProtX n x).now = s.now := rfl
@[simp] theorem setProtX_sta (n : Nat) (x : ProtX) : (s.setProtX n x).sta = s.sta := rfl
@[simp] theorem setProtX_fresh (n : Nat) (x : ProtX) : (s.setProtX n x).fresh = s.fresh := rfl
@[simp] theorem setProtX_posted (n : Nat) (x : ProtX) : (s.setProtX n x).posted = s.posted := rfl
@[simp] theorem setProtX_latches (n : Nat) (x : ProtX) : (s.setProtX n x).latches = s.latches := rfl
@[simp] theorem setProtX_hq (n : Nat) (x : ProtX) : (s.setProtX n x).hq = s.hq := rfl
@[simp] theorem setProtX_evc (n : Nat) (x : ProtX) : (s.setProtX n x).evc = s.evc := rfl
@[simp] theorem setProtX_pwr (n : Nat) (x : ProtX) : (s.setProtX n x).pwr = s.pwr := rfl
@[simp] theorem setProtX_jrnl (n : Nat) (x : ProtX) : (s.setProtX n x).jrnl = s.jrnl := rfl
@[simp] theorem setProtX_fab (n : Nat) (x : ProtX) : (s.setProtX n x).fab = s.fab := rfl
@[simp] theorem setProtX_bays (n : Nat) (x : ProtX) : (s.setProtX n x).bays = s.bays := rfl
@[simp] theorem setProtX_saus (n : Nat) (x : ProtX) : (s.setProtX n x).saus = s.saus := rfl
@[simp] theorem setProtX_fac (n : Nat) (x : ProtX) : (s.setProtX n x).fac = s.fac := rfl
@[simp] theorem setProtX_cfg (n : Nat) (x : ProtX) : (s.setProtX n x).cfg = s.cfg := rfl
@[simp] theorem setProtX_fm (n : Nat) (x : ProtX) : (s.setProtX n x).fm = s.fm := rfl
@[simp] theorem setProtX_lanes (n : Nat) (x : ProtX) : (s.setProtX n x).lanes = s.lanes := rfl
@[simp] theorem setProtX_se (n : Nat) (x : ProtX) : (s.setProtX n x).se = s.se := rfl
@[simp] theorem setProtX_ring (n : Nat) (x : ProtX) : (s.setProtX n x).ring = s.ring := rfl
@[simp] theorem setProtX_opt (n : Nat) (x : ProtX) : (s.setProtX n x).opt = s.opt := rfl
@[simp] theorem setProtX_tim (n : Nat) (x : ProtX) : (s.setProtX n x).tim = s.tim := rfl
@[simp] theorem setProtX_clk (n : Nat) (x : ProtX) : (s.setProtX n x).clk = s.clk := rfl
@[simp] theorem setProtX_lat (n : Nat) (x : ProtX) : (s.setProtX n x).lat = s.lat := rfl
@[simp] theorem setProtX_cue (n : Nat) (x : ProtX) : (s.setProtX n x).cue = s.cue := rfl
@[simp] theorem setProtX_dbg (n : Nat) (x : ProtX) : (s.setProtX n x).dbg = s.dbg := rfl
@[simp] theorem setProtX_getF (n : Nat) (x : ProtX) (base : Nat) (fld : Fld) : (s.setProtX n x).getF base fld = s.getF base fld := rfl
@[simp] theorem setProtX_flag (n : Nat) (x : ProtX) (base : Nat) (fld : Fld) : (s.setProtX n x).flag base fld = s.flag base fld := rfl

@[simp] theorem setGauge_ident (n off rst v : Nat) : (s.setGauge n off rst v).ident = s.ident := rfl
@[simp] theorem setGauge_regs (n off rst v : Nat) : (s.setGauge n off rst v).regs = s.regs := rfl
@[simp] theorem setGauge_snaps (n off rst v : Nat) : (s.setGauge n off rst v).snaps = s.snaps := rfl
@[simp] theorem setGauge_mem (n off rst v : Nat) : (s.setGauge n off rst v).mem = s.mem := rfl
@[simp] theorem setGauge_host (n off rst v : Nat) : (s.setGauge n off rst v).host = s.host := rfl
@[simp] theorem setGauge_flash (n off rst v : Nat) : (s.setGauge n off rst v).flash = s.flash := rfl
@[simp] theorem setGauge_hostBad (n off rst v : Nat) : (s.setGauge n off rst v).hostBad = s.hostBad := rfl
@[simp] theorem setGauge_pending (n off rst v : Nat) : (s.setGauge n off rst v).pending = s.pending := rfl
@[simp] theorem setGauge_out (n off rst v : Nat) : (s.setGauge n off rst v).out = s.out := rfl
@[simp] theorem setGauge_now (n off rst v : Nat) : (s.setGauge n off rst v).now = s.now := rfl
@[simp] theorem setGauge_sta (n off rst v : Nat) : (s.setGauge n off rst v).sta = s.sta := rfl
@[simp] theorem setGauge_fresh (n off rst v : Nat) : (s.setGauge n off rst v).fresh = s.fresh := rfl
@[simp] theorem setGauge_posted (n off rst v : Nat) : (s.setGauge n off rst v).posted = s.posted := rfl
@[simp] theorem setGauge_latches (n off rst v : Nat) : (s.setGauge n off rst v).latches = s.latches := rfl
@[simp] theorem setGauge_hq (n off rst v : Nat) : (s.setGauge n off rst v).hq = s.hq := rfl
@[simp] theorem setGauge_evc (n off rst v : Nat) : (s.setGauge n off rst v).evc = s.evc := rfl
@[simp] theorem setGauge_pwr (n off rst v : Nat) : (s.setGauge n off rst v).pwr = s.pwr := rfl
@[simp] theorem setGauge_jrnl (n off rst v : Nat) : (s.setGauge n off rst v).jrnl = s.jrnl := rfl
@[simp] theorem setGauge_fab (n off rst v : Nat) : (s.setGauge n off rst v).fab = s.fab := rfl
@[simp] theorem setGauge_bays (n off rst v : Nat) : (s.setGauge n off rst v).bays = s.bays := rfl
@[simp] theorem setGauge_saus (n off rst v : Nat) : (s.setGauge n off rst v).saus = s.saus := rfl
@[simp] theorem setGauge_fac (n off rst v : Nat) : (s.setGauge n off rst v).fac = s.fac := rfl
@[simp] theorem setGauge_cfg (n off rst v : Nat) : (s.setGauge n off rst v).cfg = s.cfg := rfl
@[simp] theorem setGauge_fm (n off rst v : Nat) : (s.setGauge n off rst v).fm = s.fm := rfl
@[simp] theorem setGauge_lanes (n off rst v : Nat) : (s.setGauge n off rst v).lanes = s.lanes := rfl
@[simp] theorem setGauge_se (n off rst v : Nat) : (s.setGauge n off rst v).se = s.se := rfl
@[simp] theorem setGauge_prot (n off rst v : Nat) : (s.setGauge n off rst v).prot = s.prot := rfl
@[simp] theorem setGauge_ring (n off rst v : Nat) : (s.setGauge n off rst v).ring = s.ring := rfl
@[simp] theorem setGauge_opt (n off rst v : Nat) : (s.setGauge n off rst v).opt = s.opt := rfl
@[simp] theorem setGauge_tim (n off rst v : Nat) : (s.setGauge n off rst v).tim = s.tim := rfl
@[simp] theorem setGauge_clk (n off rst v : Nat) : (s.setGauge n off rst v).clk = s.clk := rfl
@[simp] theorem setGauge_lat (n off rst v : Nat) : (s.setGauge n off rst v).lat = s.lat := rfl
@[simp] theorem setGauge_cue (n off rst v : Nat) : (s.setGauge n off rst v).cue = s.cue := rfl
@[simp] theorem setGauge_dbg (n off rst v : Nat) : (s.setGauge n off rst v).dbg = s.dbg := rfl
@[simp] theorem setGauge_getF (n off rst v : Nat) (base : Nat) (fld : Fld) : (s.setGauge n off rst v).getF base fld = s.getF base fld := rfl
@[simp] theorem setGauge_flag (n off rst v : Nat) (base : Nat) (fld : Fld) : (s.setGauge n off rst v).flag base fld = s.flag base fld := rfl

@[simp] theorem setGlink_ident (k : Nat) (l : GLink) : (s.setGlink k l).ident = s.ident := rfl
@[simp] theorem setGlink_regs (k : Nat) (l : GLink) : (s.setGlink k l).regs = s.regs := rfl
@[simp] theorem setGlink_ctrs (k : Nat) (l : GLink) : (s.setGlink k l).ctrs = s.ctrs := rfl
@[simp] theorem setGlink_snaps (k : Nat) (l : GLink) : (s.setGlink k l).snaps = s.snaps := rfl
@[simp] theorem setGlink_mem (k : Nat) (l : GLink) : (s.setGlink k l).mem = s.mem := rfl
@[simp] theorem setGlink_host (k : Nat) (l : GLink) : (s.setGlink k l).host = s.host := rfl
@[simp] theorem setGlink_flash (k : Nat) (l : GLink) : (s.setGlink k l).flash = s.flash := rfl
@[simp] theorem setGlink_hostBad (k : Nat) (l : GLink) : (s.setGlink k l).hostBad = s.hostBad := rfl
@[simp] theorem setGlink_pending (k : Nat) (l : GLink) : (s.setGlink k l).pending = s.pending := rfl
@[simp] theorem setGlink_out (k : Nat) (l : GLink) : (s.setGlink k l).out = s.out := rfl
@[simp] theorem setGlink_now (k : Nat) (l : GLink) : (s.setGlink k l).now = s.now := rfl
@[simp] theorem setGlink_sta (k : Nat) (l : GLink) : (s.setGlink k l).sta = s.sta := rfl
@[simp] theorem setGlink_fresh (k : Nat) (l : GLink) : (s.setGlink k l).fresh = s.fresh := rfl
@[simp] theorem setGlink_posted (k : Nat) (l : GLink) : (s.setGlink k l).posted = s.posted := rfl
@[simp] theorem setGlink_latches (k : Nat) (l : GLink) : (s.setGlink k l).latches = s.latches := rfl
@[simp] theorem setGlink_hq (k : Nat) (l : GLink) : (s.setGlink k l).hq = s.hq := rfl
@[simp] theorem setGlink_evc (k : Nat) (l : GLink) : (s.setGlink k l).evc = s.evc := rfl
@[simp] theorem setGlink_pwr (k : Nat) (l : GLink) : (s.setGlink k l).pwr = s.pwr := rfl
@[simp] theorem setGlink_jrnl (k : Nat) (l : GLink) : (s.setGlink k l).jrnl = s.jrnl := rfl
@[simp] theorem setGlink_fab (k : Nat) (l : GLink) : (s.setGlink k l).fab = s.fab := rfl
@[simp] theorem setGlink_bays (k : Nat) (l : GLink) : (s.setGlink k l).bays = s.bays := rfl
@[simp] theorem setGlink_saus (k : Nat) (l : GLink) : (s.setGlink k l).saus = s.saus := rfl
@[simp] theorem setGlink_fac (k : Nat) (l : GLink) : (s.setGlink k l).fac = s.fac := rfl
@[simp] theorem setGlink_cfg (k : Nat) (l : GLink) : (s.setGlink k l).cfg = s.cfg := rfl
@[simp] theorem setGlink_fm (k : Nat) (l : GLink) : (s.setGlink k l).fm = s.fm := rfl
@[simp] theorem setGlink_lanes (k : Nat) (l : GLink) : (s.setGlink k l).lanes = s.lanes := rfl
@[simp] theorem setGlink_se (k : Nat) (l : GLink) : (s.setGlink k l).se = s.se := rfl
@[simp] theorem setGlink_prot (k : Nat) (l : GLink) : (s.setGlink k l).prot = s.prot := rfl
@[simp] theorem setGlink_ring (k : Nat) (l : GLink) : (s.setGlink k l).ring = s.ring := rfl
@[simp] theorem setGlink_opt (k : Nat) (l : GLink) : (s.setGlink k l).opt = s.opt := rfl
@[simp] theorem setGlink_tim (k : Nat) (l : GLink) : (s.setGlink k l).tim = s.tim := rfl
@[simp] theorem setGlink_clk (k : Nat) (l : GLink) : (s.setGlink k l).clk = s.clk := rfl
@[simp] theorem setGlink_cue (k : Nat) (l : GLink) : (s.setGlink k l).cue = s.cue := rfl
@[simp] theorem setGlink_dbg (k : Nat) (l : GLink) : (s.setGlink k l).dbg = s.dbg := rfl
@[simp] theorem setGlink_getF (k : Nat) (l : GLink) (base : Nat) (fld : Fld) : (s.setGlink k l).getF base fld = s.getF base fld := rfl
@[simp] theorem setGlink_flag (k : Nat) (l : GLink) (base : Nat) (fld : Fld) : (s.setGlink k l).flag base fld = s.flag base fld := rfl

@[simp] theorem setHandle_ident (h : Nat) (v : Handle) : (s.setHandle h v).ident = s.ident := rfl
@[simp] theorem setHandle_regs (h : Nat) (v : Handle) : (s.setHandle h v).regs = s.regs := rfl
@[simp] theorem setHandle_ctrs (h : Nat) (v : Handle) : (s.setHandle h v).ctrs = s.ctrs := rfl
@[simp] theorem setHandle_snaps (h : Nat) (v : Handle) : (s.setHandle h v).snaps = s.snaps := rfl
@[simp] theorem setHandle_mem (h : Nat) (v : Handle) : (s.setHandle h v).mem = s.mem := rfl
@[simp] theorem setHandle_host (h : Nat) (v : Handle) : (s.setHandle h v).host = s.host := rfl
@[simp] theorem setHandle_flash (h : Nat) (v : Handle) : (s.setHandle h v).flash = s.flash := rfl
@[simp] theorem setHandle_hostBad (h : Nat) (v : Handle) : (s.setHandle h v).hostBad = s.hostBad := rfl
@[simp] theorem setHandle_pending (h : Nat) (v : Handle) : (s.setHandle h v).pending = s.pending := rfl
@[simp] theorem setHandle_out (h : Nat) (v : Handle) : (s.setHandle h v).out = s.out := rfl
@[simp] theorem setHandle_now (h : Nat) (v : Handle) : (s.setHandle h v).now = s.now := rfl
@[simp] theorem setHandle_sta (h : Nat) (v : Handle) : (s.setHandle h v).sta = s.sta := rfl
@[simp] theorem setHandle_fresh (h : Nat) (v : Handle) : (s.setHandle h v).fresh = s.fresh := rfl
@[simp] theorem setHandle_posted (h : Nat) (v : Handle) : (s.setHandle h v).posted = s.posted := rfl
@[simp] theorem setHandle_latches (h : Nat) (v : Handle) : (s.setHandle h v).latches = s.latches := rfl
@[simp] theorem setHandle_hq (h : Nat) (v : Handle) : (s.setHandle h v).hq = s.hq := rfl
@[simp] theorem setHandle_evc (h : Nat) (v : Handle) : (s.setHandle h v).evc = s.evc := rfl
@[simp] theorem setHandle_pwr (h : Nat) (v : Handle) : (s.setHandle h v).pwr = s.pwr := rfl
@[simp] theorem setHandle_jrnl (h : Nat) (v : Handle) : (s.setHandle h v).jrnl = s.jrnl := rfl
@[simp] theorem setHandle_fab (h : Nat) (v : Handle) : (s.setHandle h v).fab = s.fab := rfl
@[simp] theorem setHandle_bays (h : Nat) (v : Handle) : (s.setHandle h v).bays = s.bays := rfl
@[simp] theorem setHandle_saus (h : Nat) (v : Handle) : (s.setHandle h v).saus = s.saus := rfl
@[simp] theorem setHandle_fac (h : Nat) (v : Handle) : (s.setHandle h v).fac = s.fac := rfl
@[simp] theorem setHandle_fm (h : Nat) (v : Handle) : (s.setHandle h v).fm = s.fm := rfl
@[simp] theorem setHandle_lanes (h : Nat) (v : Handle) : (s.setHandle h v).lanes = s.lanes := rfl
@[simp] theorem setHandle_se (h : Nat) (v : Handle) : (s.setHandle h v).se = s.se := rfl
@[simp] theorem setHandle_prot (h : Nat) (v : Handle) : (s.setHandle h v).prot = s.prot := rfl
@[simp] theorem setHandle_ring (h : Nat) (v : Handle) : (s.setHandle h v).ring = s.ring := rfl
@[simp] theorem setHandle_opt (h : Nat) (v : Handle) : (s.setHandle h v).opt = s.opt := rfl
@[simp] theorem setHandle_tim (h : Nat) (v : Handle) : (s.setHandle h v).tim = s.tim := rfl
@[simp] theorem setHandle_clk (h : Nat) (v : Handle) : (s.setHandle h v).clk = s.clk := rfl
@[simp] theorem setHandle_lat (h : Nat) (v : Handle) : (s.setHandle h v).lat = s.lat := rfl
@[simp] theorem setHandle_cue (h : Nat) (v : Handle) : (s.setHandle h v).cue = s.cue := rfl
@[simp] theorem setHandle_dbg (h : Nat) (v : Handle) : (s.setHandle h v).dbg = s.dbg := rfl
@[simp] theorem setHandle_getF (h : Nat) (v : Handle) (base : Nat) (fld : Fld) : (s.setHandle h v).getF base fld = s.getF base fld := rfl
@[simp] theorem setHandle_flag (h : Nat) (v : Handle) (base : Nat) (fld : Fld) : (s.setHandle h v).flag base fld = s.flag base fld := rfl

@[simp] theorem setLaneX_ident (n : Nat) (x : LaneX) : (s.setLaneX n x).ident = s.ident := rfl
@[simp] theorem setLaneX_regs (n : Nat) (x : LaneX) : (s.setLaneX n x).regs = s.regs := rfl
@[simp] theorem setLaneX_ctrs (n : Nat) (x : LaneX) : (s.setLaneX n x).ctrs = s.ctrs := rfl
@[simp] theorem setLaneX_snaps (n : Nat) (x : LaneX) : (s.setLaneX n x).snaps = s.snaps := rfl
@[simp] theorem setLaneX_mem (n : Nat) (x : LaneX) : (s.setLaneX n x).mem = s.mem := rfl
@[simp] theorem setLaneX_host (n : Nat) (x : LaneX) : (s.setLaneX n x).host = s.host := rfl
@[simp] theorem setLaneX_flash (n : Nat) (x : LaneX) : (s.setLaneX n x).flash = s.flash := rfl
@[simp] theorem setLaneX_hostBad (n : Nat) (x : LaneX) : (s.setLaneX n x).hostBad = s.hostBad := rfl
@[simp] theorem setLaneX_pending (n : Nat) (x : LaneX) : (s.setLaneX n x).pending = s.pending := rfl
@[simp] theorem setLaneX_out (n : Nat) (x : LaneX) : (s.setLaneX n x).out = s.out := rfl
@[simp] theorem setLaneX_now (n : Nat) (x : LaneX) : (s.setLaneX n x).now = s.now := rfl
@[simp] theorem setLaneX_sta (n : Nat) (x : LaneX) : (s.setLaneX n x).sta = s.sta := rfl
@[simp] theorem setLaneX_fresh (n : Nat) (x : LaneX) : (s.setLaneX n x).fresh = s.fresh := rfl
@[simp] theorem setLaneX_posted (n : Nat) (x : LaneX) : (s.setLaneX n x).posted = s.posted := rfl
@[simp] theorem setLaneX_latches (n : Nat) (x : LaneX) : (s.setLaneX n x).latches = s.latches := rfl
@[simp] theorem setLaneX_hq (n : Nat) (x : LaneX) : (s.setLaneX n x).hq = s.hq := rfl
@[simp] theorem setLaneX_evc (n : Nat) (x : LaneX) : (s.setLaneX n x).evc = s.evc := rfl
@[simp] theorem setLaneX_pwr (n : Nat) (x : LaneX) : (s.setLaneX n x).pwr = s.pwr := rfl
@[simp] theorem setLaneX_jrnl (n : Nat) (x : LaneX) : (s.setLaneX n x).jrnl = s.jrnl := rfl
@[simp] theorem setLaneX_fab (n : Nat) (x : LaneX) : (s.setLaneX n x).fab = s.fab := rfl
@[simp] theorem setLaneX_bays (n : Nat) (x : LaneX) : (s.setLaneX n x).bays = s.bays := rfl
@[simp] theorem setLaneX_saus (n : Nat) (x : LaneX) : (s.setLaneX n x).saus = s.saus := rfl
@[simp] theorem setLaneX_fac (n : Nat) (x : LaneX) : (s.setLaneX n x).fac = s.fac := rfl
@[simp] theorem setLaneX_cfg (n : Nat) (x : LaneX) : (s.setLaneX n x).cfg = s.cfg := rfl
@[simp] theorem setLaneX_fm (n : Nat) (x : LaneX) : (s.setLaneX n x).fm = s.fm := rfl
@[simp] theorem setLaneX_se (n : Nat) (x : LaneX) : (s.setLaneX n x).se = s.se := rfl
@[simp] theorem setLaneX_prot (n : Nat) (x : LaneX) : (s.setLaneX n x).prot = s.prot := rfl
@[simp] theorem setLaneX_ring (n : Nat) (x : LaneX) : (s.setLaneX n x).ring = s.ring := rfl
@[simp] theorem setLaneX_opt (n : Nat) (x : LaneX) : (s.setLaneX n x).opt = s.opt := rfl
@[simp] theorem setLaneX_tim (n : Nat) (x : LaneX) : (s.setLaneX n x).tim = s.tim := rfl
@[simp] theorem setLaneX_clk (n : Nat) (x : LaneX) : (s.setLaneX n x).clk = s.clk := rfl
@[simp] theorem setLaneX_lat (n : Nat) (x : LaneX) : (s.setLaneX n x).lat = s.lat := rfl
@[simp] theorem setLaneX_cue (n : Nat) (x : LaneX) : (s.setLaneX n x).cue = s.cue := rfl
@[simp] theorem setLaneX_dbg (n : Nat) (x : LaneX) : (s.setLaneX n x).dbg = s.dbg := rfl
@[simp] theorem setLaneX_getF (n : Nat) (x : LaneX) (base : Nat) (fld : Fld) : (s.setLaneX n x).getF base fld = s.getF base fld := rfl
@[simp] theorem setLaneX_flag (n : Nat) (x : LaneX) (base : Nat) (fld : Fld) : (s.setLaneX n x).flag base fld = s.flag base fld := rfl

@[simp] theorem setRoute_ident (e w2 w3 : Nat) : (s.setRoute e w2 w3).ident = s.ident := rfl
@[simp] theorem setRoute_regs (e w2 w3 : Nat) : (s.setRoute e w2 w3).regs = s.regs := rfl
@[simp] theorem setRoute_ctrs (e w2 w3 : Nat) : (s.setRoute e w2 w3).ctrs = s.ctrs := rfl
@[simp] theorem setRoute_snaps (e w2 w3 : Nat) : (s.setRoute e w2 w3).snaps = s.snaps := rfl
@[simp] theorem setRoute_mem (e w2 w3 : Nat) : (s.setRoute e w2 w3).mem = s.mem := rfl
@[simp] theorem setRoute_host (e w2 w3 : Nat) : (s.setRoute e w2 w3).host = s.host := rfl
@[simp] theorem setRoute_flash (e w2 w3 : Nat) : (s.setRoute e w2 w3).flash = s.flash := rfl
@[simp] theorem setRoute_hostBad (e w2 w3 : Nat) : (s.setRoute e w2 w3).hostBad = s.hostBad := rfl
@[simp] theorem setRoute_pending (e w2 w3 : Nat) : (s.setRoute e w2 w3).pending = s.pending := rfl
@[simp] theorem setRoute_out (e w2 w3 : Nat) : (s.setRoute e w2 w3).out = s.out := rfl
@[simp] theorem setRoute_now (e w2 w3 : Nat) : (s.setRoute e w2 w3).now = s.now := rfl
@[simp] theorem setRoute_sta (e w2 w3 : Nat) : (s.setRoute e w2 w3).sta = s.sta := rfl
@[simp] theorem setRoute_fresh (e w2 w3 : Nat) : (s.setRoute e w2 w3).fresh = s.fresh := rfl
@[simp] theorem setRoute_posted (e w2 w3 : Nat) : (s.setRoute e w2 w3).posted = s.posted := rfl
@[simp] theorem setRoute_latches (e w2 w3 : Nat) : (s.setRoute e w2 w3).latches = s.latches := rfl
@[simp] theorem setRoute_hq (e w2 w3 : Nat) : (s.setRoute e w2 w3).hq = s.hq := rfl
@[simp] theorem setRoute_evc (e w2 w3 : Nat) : (s.setRoute e w2 w3).evc = s.evc := rfl
@[simp] theorem setRoute_pwr (e w2 w3 : Nat) : (s.setRoute e w2 w3).pwr = s.pwr := rfl
@[simp] theorem setRoute_jrnl (e w2 w3 : Nat) : (s.setRoute e w2 w3).jrnl = s.jrnl := rfl
@[simp] theorem setRoute_fab (e w2 w3 : Nat) : (s.setRoute e w2 w3).fab = s.fab := rfl
@[simp] theorem setRoute_bays (e w2 w3 : Nat) : (s.setRoute e w2 w3).bays = s.bays := rfl
@[simp] theorem setRoute_saus (e w2 w3 : Nat) : (s.setRoute e w2 w3).saus = s.saus := rfl
@[simp] theorem setRoute_fac (e w2 w3 : Nat) : (s.setRoute e w2 w3).fac = s.fac := rfl
@[simp] theorem setRoute_cfg (e w2 w3 : Nat) : (s.setRoute e w2 w3).cfg = s.cfg := rfl
@[simp] theorem setRoute_fm (e w2 w3 : Nat) : (s.setRoute e w2 w3).fm = s.fm := rfl
@[simp] theorem setRoute_lanes (e w2 w3 : Nat) : (s.setRoute e w2 w3).lanes = s.lanes := rfl
@[simp] theorem setRoute_se (e w2 w3 : Nat) : (s.setRoute e w2 w3).se = s.se := rfl
@[simp] theorem setRoute_prot (e w2 w3 : Nat) : (s.setRoute e w2 w3).prot = s.prot := rfl
@[simp] theorem setRoute_ring (e w2 w3 : Nat) : (s.setRoute e w2 w3).ring = s.ring := rfl
@[simp] theorem setRoute_opt (e w2 w3 : Nat) : (s.setRoute e w2 w3).opt = s.opt := rfl
@[simp] theorem setRoute_tim (e w2 w3 : Nat) : (s.setRoute e w2 w3).tim = s.tim := rfl
@[simp] theorem setRoute_clk (e w2 w3 : Nat) : (s.setRoute e w2 w3).clk = s.clk := rfl
@[simp] theorem setRoute_cue (e w2 w3 : Nat) : (s.setRoute e w2 w3).cue = s.cue := rfl
@[simp] theorem setRoute_dbg (e w2 w3 : Nat) : (s.setRoute e w2 w3).dbg = s.dbg := rfl
@[simp] theorem setRoute_getF (e w2 w3 : Nat) (base : Nat) (fld : Fld) : (s.setRoute e w2 w3).getF base fld = s.getF base fld := rfl
@[simp] theorem setRoute_flag (e w2 w3 : Nat) (base : Nat) (fld : Fld) : (s.setRoute e w2 w3).flag base fld = s.flag base fld := rfl

@[simp] theorem emit_ident (o : Out) : (s.emit o).ident = s.ident := rfl
@[simp] theorem emit_regs (o : Out) : (s.emit o).regs = s.regs := rfl
@[simp] theorem emit_ctrs (o : Out) : (s.emit o).ctrs = s.ctrs := rfl
@[simp] theorem emit_snaps (o : Out) : (s.emit o).snaps = s.snaps := rfl
@[simp] theorem emit_mem (o : Out) : (s.emit o).mem = s.mem := rfl
@[simp] theorem emit_host (o : Out) : (s.emit o).host = s.host := rfl
@[simp] theorem emit_flash (o : Out) : (s.emit o).flash = s.flash := rfl
@[simp] theorem emit_hostBad (o : Out) : (s.emit o).hostBad = s.hostBad := rfl
@[simp] theorem emit_pending (o : Out) : (s.emit o).pending = s.pending := rfl
@[simp] theorem emit_now (o : Out) : (s.emit o).now = s.now := rfl
@[simp] theorem emit_sta (o : Out) : (s.emit o).sta = s.sta := rfl
@[simp] theorem emit_fresh (o : Out) : (s.emit o).fresh = s.fresh := rfl
@[simp] theorem emit_posted (o : Out) : (s.emit o).posted = s.posted := rfl
@[simp] theorem emit_latches (o : Out) : (s.emit o).latches = s.latches := rfl
@[simp] theorem emit_hq (o : Out) : (s.emit o).hq = s.hq := rfl
@[simp] theorem emit_evc (o : Out) : (s.emit o).evc = s.evc := rfl
@[simp] theorem emit_pwr (o : Out) : (s.emit o).pwr = s.pwr := rfl
@[simp] theorem emit_jrnl (o : Out) : (s.emit o).jrnl = s.jrnl := rfl
@[simp] theorem emit_fab (o : Out) : (s.emit o).fab = s.fab := rfl
@[simp] theorem emit_bays (o : Out) : (s.emit o).bays = s.bays := rfl
@[simp] theorem emit_saus (o : Out) : (s.emit o).saus = s.saus := rfl
@[simp] theorem emit_fac (o : Out) : (s.emit o).fac = s.fac := rfl
@[simp] theorem emit_cfg (o : Out) : (s.emit o).cfg = s.cfg := rfl
@[simp] theorem emit_fm (o : Out) : (s.emit o).fm = s.fm := rfl
@[simp] theorem emit_lanes (o : Out) : (s.emit o).lanes = s.lanes := rfl
@[simp] theorem emit_se (o : Out) : (s.emit o).se = s.se := rfl
@[simp] theorem emit_prot (o : Out) : (s.emit o).prot = s.prot := rfl
@[simp] theorem emit_ring (o : Out) : (s.emit o).ring = s.ring := rfl
@[simp] theorem emit_opt (o : Out) : (s.emit o).opt = s.opt := rfl
@[simp] theorem emit_tim (o : Out) : (s.emit o).tim = s.tim := rfl
@[simp] theorem emit_clk (o : Out) : (s.emit o).clk = s.clk := rfl
@[simp] theorem emit_lat (o : Out) : (s.emit o).lat = s.lat := rfl
@[simp] theorem emit_cue (o : Out) : (s.emit o).cue = s.cue := rfl
@[simp] theorem emit_dbg (o : Out) : (s.emit o).dbg = s.dbg := rfl
@[simp] theorem emit_getF (o : Out) (base : Nat) (fld : Fld) : (s.emit o).getF base fld = s.getF base fld := rfl
@[simp] theorem emit_flag (o : Out) (base : Nat) (fld : Fld) : (s.emit o).flag base fld = s.flag base fld := rfl

@[simp] theorem setCueX_ident (n : Nat) (x : CueX) : (s.setCueX n x).ident = s.ident := rfl
@[simp] theorem setCueX_regs (n : Nat) (x : CueX) : (s.setCueX n x).regs = s.regs := rfl
@[simp] theorem setCueX_ctrs (n : Nat) (x : CueX) : (s.setCueX n x).ctrs = s.ctrs := rfl
@[simp] theorem setCueX_snaps (n : Nat) (x : CueX) : (s.setCueX n x).snaps = s.snaps := rfl
@[simp] theorem setCueX_mem (n : Nat) (x : CueX) : (s.setCueX n x).mem = s.mem := rfl
@[simp] theorem setCueX_host (n : Nat) (x : CueX) : (s.setCueX n x).host = s.host := rfl
@[simp] theorem setCueX_flash (n : Nat) (x : CueX) : (s.setCueX n x).flash = s.flash := rfl
@[simp] theorem setCueX_hostBad (n : Nat) (x : CueX) : (s.setCueX n x).hostBad = s.hostBad := rfl
@[simp] theorem setCueX_pending (n : Nat) (x : CueX) : (s.setCueX n x).pending = s.pending := rfl
@[simp] theorem setCueX_out (n : Nat) (x : CueX) : (s.setCueX n x).out = s.out := rfl
@[simp] theorem setCueX_now (n : Nat) (x : CueX) : (s.setCueX n x).now = s.now := rfl
@[simp] theorem setCueX_sta (n : Nat) (x : CueX) : (s.setCueX n x).sta = s.sta := rfl
@[simp] theorem setCueX_fresh (n : Nat) (x : CueX) : (s.setCueX n x).fresh = s.fresh := rfl
@[simp] theorem setCueX_posted (n : Nat) (x : CueX) : (s.setCueX n x).posted = s.posted := rfl
@[simp] theorem setCueX_latches (n : Nat) (x : CueX) : (s.setCueX n x).latches = s.latches := rfl
@[simp] theorem setCueX_hq (n : Nat) (x : CueX) : (s.setCueX n x).hq = s.hq := rfl
@[simp] theorem setCueX_evc (n : Nat) (x : CueX) : (s.setCueX n x).evc = s.evc := rfl
@[simp] theorem setCueX_pwr (n : Nat) (x : CueX) : (s.setCueX n x).pwr = s.pwr := rfl
@[simp] theorem setCueX_jrnl (n : Nat) (x : CueX) : (s.setCueX n x).jrnl = s.jrnl := rfl
@[simp] theorem setCueX_fab (n : Nat) (x : CueX) : (s.setCueX n x).fab = s.fab := rfl
@[simp] theorem setCueX_bays (n : Nat) (x : CueX) : (s.setCueX n x).bays = s.bays := rfl
@[simp] theorem setCueX_saus (n : Nat) (x : CueX) : (s.setCueX n x).saus = s.saus := rfl
@[simp] theorem setCueX_fac (n : Nat) (x : CueX) : (s.setCueX n x).fac = s.fac := rfl
@[simp] theorem setCueX_cfg (n : Nat) (x : CueX) : (s.setCueX n x).cfg = s.cfg := rfl
@[simp] theorem setCueX_fm (n : Nat) (x : CueX) : (s.setCueX n x).fm = s.fm := rfl
@[simp] theorem setCueX_lanes (n : Nat) (x : CueX) : (s.setCueX n x).lanes = s.lanes := rfl
@[simp] theorem setCueX_se (n : Nat) (x : CueX) : (s.setCueX n x).se = s.se := rfl
@[simp] theorem setCueX_prot (n : Nat) (x : CueX) : (s.setCueX n x).prot = s.prot := rfl
@[simp] theorem setCueX_ring (n : Nat) (x : CueX) : (s.setCueX n x).ring = s.ring := rfl
@[simp] theorem setCueX_opt (n : Nat) (x : CueX) : (s.setCueX n x).opt = s.opt := rfl
@[simp] theorem setCueX_tim (n : Nat) (x : CueX) : (s.setCueX n x).tim = s.tim := rfl
@[simp] theorem setCueX_clk (n : Nat) (x : CueX) : (s.setCueX n x).clk = s.clk := rfl
@[simp] theorem setCueX_lat (n : Nat) (x : CueX) : (s.setCueX n x).lat = s.lat := rfl
@[simp] theorem setCueX_dbg (n : Nat) (x : CueX) : (s.setCueX n x).dbg = s.dbg := rfl
@[simp] theorem setCueX_getF (n : Nat) (x : CueX) (base : Nat) (fld : Fld) : (s.setCueX n x).getF base fld = s.getF base fld := rfl
@[simp] theorem setCueX_flag (n : Nat) (x : CueX) (base : Nat) (fld : Fld) : (s.setCueX n x).flag base fld = s.flag base fld := rfl

@[simp] theorem setDom_ident (d v : Nat) : (s.setDom d v).ident = s.ident := rfl
@[simp] theorem setDom_regs (d v : Nat) : (s.setDom d v).regs = s.regs := rfl
@[simp] theorem setDom_ctrs (d v : Nat) : (s.setDom d v).ctrs = s.ctrs := rfl
@[simp] theorem setDom_snaps (d v : Nat) : (s.setDom d v).snaps = s.snaps := rfl
@[simp] theorem setDom_mem (d v : Nat) : (s.setDom d v).mem = s.mem := rfl
@[simp] theorem setDom_host (d v : Nat) : (s.setDom d v).host = s.host := rfl
@[simp] theorem setDom_flash (d v : Nat) : (s.setDom d v).flash = s.flash := rfl
@[simp] theorem setDom_hostBad (d v : Nat) : (s.setDom d v).hostBad = s.hostBad := rfl
@[simp] theorem setDom_pending (d v : Nat) : (s.setDom d v).pending = s.pending := rfl
@[simp] theorem setDom_out (d v : Nat) : (s.setDom d v).out = s.out := rfl
@[simp] theorem setDom_now (d v : Nat) : (s.setDom d v).now = s.now := rfl
@[simp] theorem setDom_sta (d v : Nat) : (s.setDom d v).sta = s.sta := rfl
@[simp] theorem setDom_fresh (d v : Nat) : (s.setDom d v).fresh = s.fresh := rfl
@[simp] theorem setDom_posted (d v : Nat) : (s.setDom d v).posted = s.posted := rfl
@[simp] theorem setDom_latches (d v : Nat) : (s.setDom d v).latches = s.latches := rfl
@[simp] theorem setDom_hq (d v : Nat) : (s.setDom d v).hq = s.hq := rfl
@[simp] theorem setDom_evc (d v : Nat) : (s.setDom d v).evc = s.evc := rfl
@[simp] theorem setDom_jrnl (d v : Nat) : (s.setDom d v).jrnl = s.jrnl := rfl
@[simp] theorem setDom_fab (d v : Nat) : (s.setDom d v).fab = s.fab := rfl
@[simp] theorem setDom_bays (d v : Nat) : (s.setDom d v).bays = s.bays := rfl
@[simp] theorem setDom_saus (d v : Nat) : (s.setDom d v).saus = s.saus := rfl
@[simp] theorem setDom_fac (d v : Nat) : (s.setDom d v).fac = s.fac := rfl
@[simp] theorem setDom_cfg (d v : Nat) : (s.setDom d v).cfg = s.cfg := rfl
@[simp] theorem setDom_fm (d v : Nat) : (s.setDom d v).fm = s.fm := rfl
@[simp] theorem setDom_lanes (d v : Nat) : (s.setDom d v).lanes = s.lanes := rfl
@[simp] theorem setDom_se (d v : Nat) : (s.setDom d v).se = s.se := rfl
@[simp] theorem setDom_prot (d v : Nat) : (s.setDom d v).prot = s.prot := rfl
@[simp] theorem setDom_ring (d v : Nat) : (s.setDom d v).ring = s.ring := rfl
@[simp] theorem setDom_opt (d v : Nat) : (s.setDom d v).opt = s.opt := rfl
@[simp] theorem setDom_tim (d v : Nat) : (s.setDom d v).tim = s.tim := rfl
@[simp] theorem setDom_clk (d v : Nat) : (s.setDom d v).clk = s.clk := rfl
@[simp] theorem setDom_lat (d v : Nat) : (s.setDom d v).lat = s.lat := rfl
@[simp] theorem setDom_cue (d v : Nat) : (s.setDom d v).cue = s.cue := rfl
@[simp] theorem setDom_dbg (d v : Nat) : (s.setDom d v).dbg = s.dbg := rfl
@[simp] theorem setDom_getF (d v : Nat) (base : Nat) (fld : Fld) : (s.setDom d v).getF base fld = s.getF base fld := rfl
@[simp] theorem setDom_flag (d v : Nat) (base : Nat) (fld : Fld) : (s.setDom d v).flag base fld = s.flag base fld := rfl

@[simp] theorem setQ_ident (q : Nat) (v : QSet) : (s.setQ q v).ident = s.ident := rfl
@[simp] theorem setQ_regs (q : Nat) (v : QSet) : (s.setQ q v).regs = s.regs := rfl
@[simp] theorem setQ_ctrs (q : Nat) (v : QSet) : (s.setQ q v).ctrs = s.ctrs := rfl
@[simp] theorem setQ_snaps (q : Nat) (v : QSet) : (s.setQ q v).snaps = s.snaps := rfl
@[simp] theorem setQ_mem (q : Nat) (v : QSet) : (s.setQ q v).mem = s.mem := rfl
@[simp] theorem setQ_host (q : Nat) (v : QSet) : (s.setQ q v).host = s.host := rfl
@[simp] theorem setQ_flash (q : Nat) (v : QSet) : (s.setQ q v).flash = s.flash := rfl
@[simp] theorem setQ_hostBad (q : Nat) (v : QSet) : (s.setQ q v).hostBad = s.hostBad := rfl
@[simp] theorem setQ_pending (q : Nat) (v : QSet) : (s.setQ q v).pending = s.pending := rfl
@[simp] theorem setQ_out (q : Nat) (v : QSet) : (s.setQ q v).out = s.out := rfl
@[simp] theorem setQ_now (q : Nat) (v : QSet) : (s.setQ q v).now = s.now := rfl
@[simp] theorem setQ_sta (q : Nat) (v : QSet) : (s.setQ q v).sta = s.sta := rfl
@[simp] theorem setQ_fresh (q : Nat) (v : QSet) : (s.setQ q v).fresh = s.fresh := rfl
@[simp] theorem setQ_posted (q : Nat) (v : QSet) : (s.setQ q v).posted = s.posted := rfl
@[simp] theorem setQ_latches (q : Nat) (v : QSet) : (s.setQ q v).latches = s.latches := rfl
@[simp] theorem setQ_evc (q : Nat) (v : QSet) : (s.setQ q v).evc = s.evc := rfl
@[simp] theorem setQ_pwr (q : Nat) (v : QSet) : (s.setQ q v).pwr = s.pwr := rfl
@[simp] theorem setQ_jrnl (q : Nat) (v : QSet) : (s.setQ q v).jrnl = s.jrnl := rfl
@[simp] theorem setQ_fab (q : Nat) (v : QSet) : (s.setQ q v).fab = s.fab := rfl
@[simp] theorem setQ_bays (q : Nat) (v : QSet) : (s.setQ q v).bays = s.bays := rfl
@[simp] theorem setQ_saus (q : Nat) (v : QSet) : (s.setQ q v).saus = s.saus := rfl
@[simp] theorem setQ_fac (q : Nat) (v : QSet) : (s.setQ q v).fac = s.fac := rfl
@[simp] theorem setQ_cfg (q : Nat) (v : QSet) : (s.setQ q v).cfg = s.cfg := rfl
@[simp] theorem setQ_fm (q : Nat) (v : QSet) : (s.setQ q v).fm = s.fm := rfl
@[simp] theorem setQ_lanes (q : Nat) (v : QSet) : (s.setQ q v).lanes = s.lanes := rfl
@[simp] theorem setQ_se (q : Nat) (v : QSet) : (s.setQ q v).se = s.se := rfl
@[simp] theorem setQ_prot (q : Nat) (v : QSet) : (s.setQ q v).prot = s.prot := rfl
@[simp] theorem setQ_ring (q : Nat) (v : QSet) : (s.setQ q v).ring = s.ring := rfl
@[simp] theorem setQ_opt (q : Nat) (v : QSet) : (s.setQ q v).opt = s.opt := rfl
@[simp] theorem setQ_tim (q : Nat) (v : QSet) : (s.setQ q v).tim = s.tim := rfl
@[simp] theorem setQ_clk (q : Nat) (v : QSet) : (s.setQ q v).clk = s.clk := rfl
@[simp] theorem setQ_lat (q : Nat) (v : QSet) : (s.setQ q v).lat = s.lat := rfl
@[simp] theorem setQ_cue (q : Nat) (v : QSet) : (s.setQ q v).cue = s.cue := rfl
@[simp] theorem setQ_dbg (q : Nat) (v : QSet) : (s.setQ q v).dbg = s.dbg := rfl
@[simp] theorem setQ_getF (q : Nat) (v : QSet) (base : Nat) (fld : Fld) : (s.setQ q v).getF base fld = s.getF base fld := rfl
@[simp] theorem setQ_flag (q : Nat) (v : QSet) (base : Nat) (fld : Fld) : (s.setQ q v).flag base fld = s.flag base fld := rfl

@[simp] theorem pushReply_ident (r : Reply) : (s.pushReply r).ident = s.ident := rfl
@[simp] theorem pushReply_regs (r : Reply) : (s.pushReply r).regs = s.regs := rfl
@[simp] theorem pushReply_ctrs (r : Reply) : (s.pushReply r).ctrs = s.ctrs := rfl
@[simp] theorem pushReply_snaps (r : Reply) : (s.pushReply r).snaps = s.snaps := rfl
@[simp] theorem pushReply_mem (r : Reply) : (s.pushReply r).mem = s.mem := rfl
@[simp] theorem pushReply_host (r : Reply) : (s.pushReply r).host = s.host := rfl
@[simp] theorem pushReply_flash (r : Reply) : (s.pushReply r).flash = s.flash := rfl
@[simp] theorem pushReply_hostBad (r : Reply) : (s.pushReply r).hostBad = s.hostBad := rfl
@[simp] theorem pushReply_pending (r : Reply) : (s.pushReply r).pending = s.pending := rfl
@[simp] theorem pushReply_out (r : Reply) : (s.pushReply r).out = s.out := rfl
@[simp] theorem pushReply_now (r : Reply) : (s.pushReply r).now = s.now := rfl
@[simp] theorem pushReply_sta (r : Reply) : (s.pushReply r).sta = s.sta := rfl
@[simp] theorem pushReply_fresh (r : Reply) : (s.pushReply r).fresh = s.fresh := rfl
@[simp] theorem pushReply_posted (r : Reply) : (s.pushReply r).posted = s.posted := rfl
@[simp] theorem pushReply_latches (r : Reply) : (s.pushReply r).latches = s.latches := rfl
@[simp] theorem pushReply_evc (r : Reply) : (s.pushReply r).evc = s.evc := rfl
@[simp] theorem pushReply_pwr (r : Reply) : (s.pushReply r).pwr = s.pwr := rfl
@[simp] theorem pushReply_jrnl (r : Reply) : (s.pushReply r).jrnl = s.jrnl := rfl
@[simp] theorem pushReply_fab (r : Reply) : (s.pushReply r).fab = s.fab := rfl
@[simp] theorem pushReply_bays (r : Reply) : (s.pushReply r).bays = s.bays := rfl
@[simp] theorem pushReply_saus (r : Reply) : (s.pushReply r).saus = s.saus := rfl
@[simp] theorem pushReply_fac (r : Reply) : (s.pushReply r).fac = s.fac := rfl
@[simp] theorem pushReply_cfg (r : Reply) : (s.pushReply r).cfg = s.cfg := rfl
@[simp] theorem pushReply_fm (r : Reply) : (s.pushReply r).fm = s.fm := rfl
@[simp] theorem pushReply_lanes (r : Reply) : (s.pushReply r).lanes = s.lanes := rfl
@[simp] theorem pushReply_se (r : Reply) : (s.pushReply r).se = s.se := rfl
@[simp] theorem pushReply_prot (r : Reply) : (s.pushReply r).prot = s.prot := rfl
@[simp] theorem pushReply_ring (r : Reply) : (s.pushReply r).ring = s.ring := rfl
@[simp] theorem pushReply_opt (r : Reply) : (s.pushReply r).opt = s.opt := rfl
@[simp] theorem pushReply_tim (r : Reply) : (s.pushReply r).tim = s.tim := rfl
@[simp] theorem pushReply_clk (r : Reply) : (s.pushReply r).clk = s.clk := rfl
@[simp] theorem pushReply_lat (r : Reply) : (s.pushReply r).lat = s.lat := rfl
@[simp] theorem pushReply_cue (r : Reply) : (s.pushReply r).cue = s.cue := rfl
@[simp] theorem pushReply_dbg (r : Reply) : (s.pushReply r).dbg = s.dbg := rfl
@[simp] theorem pushReply_getF (r : Reply) (base : Nat) (fld : Fld) : (s.pushReply r).getF base fld = s.getF base fld := rfl
@[simp] theorem pushReply_flag (r : Reply) (base : Nat) (fld : Fld) : (s.pushReply r).flag base fld = s.flag base fld := rfl

@[simp] theorem take_ident (op : Nat) (c : Cmd) : (s.take op c).ident = s.ident := rfl
@[simp] theorem take_regs (op : Nat) (c : Cmd) : (s.take op c).regs = s.regs := rfl
@[simp] theorem take_ctrs (op : Nat) (c : Cmd) : (s.take op c).ctrs = s.ctrs := rfl
@[simp] theorem take_snaps (op : Nat) (c : Cmd) : (s.take op c).snaps = s.snaps := rfl
@[simp] theorem take_mem (op : Nat) (c : Cmd) : (s.take op c).mem = s.mem := rfl
@[simp] theorem take_host (op : Nat) (c : Cmd) : (s.take op c).host = s.host := rfl
@[simp] theorem take_flash (op : Nat) (c : Cmd) : (s.take op c).flash = s.flash := rfl
@[simp] theorem take_hostBad (op : Nat) (c : Cmd) : (s.take op c).hostBad = s.hostBad := rfl
@[simp] theorem take_pending (op : Nat) (c : Cmd) : (s.take op c).pending = s.pending := rfl
@[simp] theorem take_out (op : Nat) (c : Cmd) : (s.take op c).out = s.out := rfl
@[simp] theorem take_now (op : Nat) (c : Cmd) : (s.take op c).now = s.now := rfl
@[simp] theorem take_sta (op : Nat) (c : Cmd) : (s.take op c).sta = s.sta := rfl
@[simp] theorem take_fresh (op : Nat) (c : Cmd) : (s.take op c).fresh = s.fresh := rfl
@[simp] theorem take_posted (op : Nat) (c : Cmd) : (s.take op c).posted = s.posted := rfl
@[simp] theorem take_latches (op : Nat) (c : Cmd) : (s.take op c).latches = s.latches := rfl
@[simp] theorem take_evc (op : Nat) (c : Cmd) : (s.take op c).evc = s.evc := rfl
@[simp] theorem take_pwr (op : Nat) (c : Cmd) : (s.take op c).pwr = s.pwr := rfl
@[simp] theorem take_jrnl (op : Nat) (c : Cmd) : (s.take op c).jrnl = s.jrnl := rfl
@[simp] theorem take_fab (op : Nat) (c : Cmd) : (s.take op c).fab = s.fab := rfl
@[simp] theorem take_bays (op : Nat) (c : Cmd) : (s.take op c).bays = s.bays := rfl
@[simp] theorem take_saus (op : Nat) (c : Cmd) : (s.take op c).saus = s.saus := rfl
@[simp] theorem take_fac (op : Nat) (c : Cmd) : (s.take op c).fac = s.fac := rfl
@[simp] theorem take_cfg (op : Nat) (c : Cmd) : (s.take op c).cfg = s.cfg := rfl
@[simp] theorem take_fm (op : Nat) (c : Cmd) : (s.take op c).fm = s.fm := rfl
@[simp] theorem take_lanes (op : Nat) (c : Cmd) : (s.take op c).lanes = s.lanes := rfl
@[simp] theorem take_se (op : Nat) (c : Cmd) : (s.take op c).se = s.se := rfl
@[simp] theorem take_prot (op : Nat) (c : Cmd) : (s.take op c).prot = s.prot := rfl
@[simp] theorem take_ring (op : Nat) (c : Cmd) : (s.take op c).ring = s.ring := rfl
@[simp] theorem take_opt (op : Nat) (c : Cmd) : (s.take op c).opt = s.opt := rfl
@[simp] theorem take_tim (op : Nat) (c : Cmd) : (s.take op c).tim = s.tim := rfl
@[simp] theorem take_clk (op : Nat) (c : Cmd) : (s.take op c).clk = s.clk := rfl
@[simp] theorem take_lat (op : Nat) (c : Cmd) : (s.take op c).lat = s.lat := rfl
@[simp] theorem take_cue (op : Nat) (c : Cmd) : (s.take op c).cue = s.cue := rfl
@[simp] theorem take_dbg (op : Nat) (c : Cmd) : (s.take op c).dbg = s.dbg := rfl
@[simp] theorem take_getF (op : Nat) (c : Cmd) (base : Nat) (fld : Fld) : (s.take op c).getF base fld = s.getF base fld := rfl
@[simp] theorem take_flag (op : Nat) (c : Cmd) (base : Nat) (fld : Fld) : (s.take op c).flag base fld = s.flag base fld := rfl

@[simp] theorem dropPosted_ident (d b : Nat) : (s.dropPosted d b).ident = s.ident := rfl
@[simp] theorem dropPosted_regs (d b : Nat) : (s.dropPosted d b).regs = s.regs := rfl
@[simp] theorem dropPosted_ctrs (d b : Nat) : (s.dropPosted d b).ctrs = s.ctrs := rfl
@[simp] theorem dropPosted_snaps (d b : Nat) : (s.dropPosted d b).snaps = s.snaps := rfl
@[simp] theorem dropPosted_mem (d b : Nat) : (s.dropPosted d b).mem = s.mem := rfl
@[simp] theorem dropPosted_host (d b : Nat) : (s.dropPosted d b).host = s.host := rfl
@[simp] theorem dropPosted_flash (d b : Nat) : (s.dropPosted d b).flash = s.flash := rfl
@[simp] theorem dropPosted_hostBad (d b : Nat) : (s.dropPosted d b).hostBad = s.hostBad := rfl
@[simp] theorem dropPosted_pending (d b : Nat) : (s.dropPosted d b).pending = s.pending := rfl
@[simp] theorem dropPosted_out (d b : Nat) : (s.dropPosted d b).out = s.out := rfl
@[simp] theorem dropPosted_now (d b : Nat) : (s.dropPosted d b).now = s.now := rfl
@[simp] theorem dropPosted_sta (d b : Nat) : (s.dropPosted d b).sta = s.sta := rfl
@[simp] theorem dropPosted_fresh (d b : Nat) : (s.dropPosted d b).fresh = s.fresh := rfl
@[simp] theorem dropPosted_latches (d b : Nat) : (s.dropPosted d b).latches = s.latches := rfl
@[simp] theorem dropPosted_hq (d b : Nat) : (s.dropPosted d b).hq = s.hq := rfl
@[simp] theorem dropPosted_evc (d b : Nat) : (s.dropPosted d b).evc = s.evc := rfl
@[simp] theorem dropPosted_pwr (d b : Nat) : (s.dropPosted d b).pwr = s.pwr := rfl
@[simp] theorem dropPosted_jrnl (d b : Nat) : (s.dropPosted d b).jrnl = s.jrnl := rfl
@[simp] theorem dropPosted_fab (d b : Nat) : (s.dropPosted d b).fab = s.fab := rfl
@[simp] theorem dropPosted_bays (d b : Nat) : (s.dropPosted d b).bays = s.bays := rfl
@[simp] theorem dropPosted_saus (d b : Nat) : (s.dropPosted d b).saus = s.saus := rfl
@[simp] theorem dropPosted_fac (d b : Nat) : (s.dropPosted d b).fac = s.fac := rfl
@[simp] theorem dropPosted_cfg (d b : Nat) : (s.dropPosted d b).cfg = s.cfg := rfl
@[simp] theorem dropPosted_fm (d b : Nat) : (s.dropPosted d b).fm = s.fm := rfl
@[simp] theorem dropPosted_lanes (d b : Nat) : (s.dropPosted d b).lanes = s.lanes := rfl
@[simp] theorem dropPosted_se (d b : Nat) : (s.dropPosted d b).se = s.se := rfl
@[simp] theorem dropPosted_prot (d b : Nat) : (s.dropPosted d b).prot = s.prot := rfl
@[simp] theorem dropPosted_ring (d b : Nat) : (s.dropPosted d b).ring = s.ring := rfl
@[simp] theorem dropPosted_opt (d b : Nat) : (s.dropPosted d b).opt = s.opt := rfl
@[simp] theorem dropPosted_tim (d b : Nat) : (s.dropPosted d b).tim = s.tim := rfl
@[simp] theorem dropPosted_clk (d b : Nat) : (s.dropPosted d b).clk = s.clk := rfl
@[simp] theorem dropPosted_lat (d b : Nat) : (s.dropPosted d b).lat = s.lat := rfl
@[simp] theorem dropPosted_cue (d b : Nat) : (s.dropPosted d b).cue = s.cue := rfl
@[simp] theorem dropPosted_dbg (d b : Nat) : (s.dropPosted d b).dbg = s.dbg := rfl
@[simp] theorem dropPosted_getF (d b : Nat) (base : Nat) (fld : Fld) : (s.dropPosted d b).getF base fld = s.getF base fld := rfl
@[simp] theorem dropPosted_flag (d b : Nat) (base : Nat) (fld : Fld) : (s.dropPosted d b).flag base fld = s.flag base fld := rfl

@[simp] theorem setLink_ident (vk dir : Nat) (l : Link) : (s.setLink vk dir l).ident = s.ident := rfl
@[simp] theorem setLink_regs (vk dir : Nat) (l : Link) : (s.setLink vk dir l).regs = s.regs := rfl
@[simp] theorem setLink_ctrs (vk dir : Nat) (l : Link) : (s.setLink vk dir l).ctrs = s.ctrs := rfl
@[simp] theorem setLink_snaps (vk dir : Nat) (l : Link) : (s.setLink vk dir l).snaps = s.snaps := rfl
@[simp] theorem setLink_mem (vk dir : Nat) (l : Link) : (s.setLink vk dir l).mem = s.mem := rfl
@[simp] theorem setLink_host (vk dir : Nat) (l : Link) : (s.setLink vk dir l).host = s.host := rfl
@[simp] theorem setLink_flash (vk dir : Nat) (l : Link) : (s.setLink vk dir l).flash = s.flash := rfl
@[simp] theorem setLink_hostBad (vk dir : Nat) (l : Link) : (s.setLink vk dir l).hostBad = s.hostBad := rfl
@[simp] theorem setLink_pending (vk dir : Nat) (l : Link) : (s.setLink vk dir l).pending = s.pending := rfl
@[simp] theorem setLink_out (vk dir : Nat) (l : Link) : (s.setLink vk dir l).out = s.out := rfl
@[simp] theorem setLink_now (vk dir : Nat) (l : Link) : (s.setLink vk dir l).now = s.now := rfl
@[simp] theorem setLink_sta (vk dir : Nat) (l : Link) : (s.setLink vk dir l).sta = s.sta := rfl
@[simp] theorem setLink_fresh (vk dir : Nat) (l : Link) : (s.setLink vk dir l).fresh = s.fresh := rfl
@[simp] theorem setLink_posted (vk dir : Nat) (l : Link) : (s.setLink vk dir l).posted = s.posted := rfl
@[simp] theorem setLink_latches (vk dir : Nat) (l : Link) : (s.setLink vk dir l).latches = s.latches := rfl
@[simp] theorem setLink_hq (vk dir : Nat) (l : Link) : (s.setLink vk dir l).hq = s.hq := rfl
@[simp] theorem setLink_evc (vk dir : Nat) (l : Link) : (s.setLink vk dir l).evc = s.evc := rfl
@[simp] theorem setLink_pwr (vk dir : Nat) (l : Link) : (s.setLink vk dir l).pwr = s.pwr := rfl
@[simp] theorem setLink_jrnl (vk dir : Nat) (l : Link) : (s.setLink vk dir l).jrnl = s.jrnl := rfl
@[simp] theorem setLink_fab (vk dir : Nat) (l : Link) : (s.setLink vk dir l).fab = s.fab := rfl
@[simp] theorem setLink_bays (vk dir : Nat) (l : Link) : (s.setLink vk dir l).bays = s.bays := rfl
@[simp] theorem setLink_saus (vk dir : Nat) (l : Link) : (s.setLink vk dir l).saus = s.saus := rfl
@[simp] theorem setLink_fac (vk dir : Nat) (l : Link) : (s.setLink vk dir l).fac = s.fac := rfl
@[simp] theorem setLink_cfg (vk dir : Nat) (l : Link) : (s.setLink vk dir l).cfg = s.cfg := rfl
@[simp] theorem setLink_fm (vk dir : Nat) (l : Link) : (s.setLink vk dir l).fm = s.fm := rfl
@[simp] theorem setLink_lanes (vk dir : Nat) (l : Link) : (s.setLink vk dir l).lanes = s.lanes := rfl
@[simp] theorem setLink_se (vk dir : Nat) (l : Link) : (s.setLink vk dir l).se = s.se := rfl
@[simp] theorem setLink_prot (vk dir : Nat) (l : Link) : (s.setLink vk dir l).prot = s.prot := rfl
@[simp] theorem setLink_opt (vk dir : Nat) (l : Link) : (s.setLink vk dir l).opt = s.opt := rfl
@[simp] theorem setLink_tim (vk dir : Nat) (l : Link) : (s.setLink vk dir l).tim = s.tim := rfl
@[simp] theorem setLink_clk (vk dir : Nat) (l : Link) : (s.setLink vk dir l).clk = s.clk := rfl
@[simp] theorem setLink_lat (vk dir : Nat) (l : Link) : (s.setLink vk dir l).lat = s.lat := rfl
@[simp] theorem setLink_cue (vk dir : Nat) (l : Link) : (s.setLink vk dir l).cue = s.cue := rfl
@[simp] theorem setLink_dbg (vk dir : Nat) (l : Link) : (s.setLink vk dir l).dbg = s.dbg := rfl
@[simp] theorem setLink_getF (vk dir : Nat) (l : Link) (base : Nat) (fld : Fld) : (s.setLink vk dir l).getF base fld = s.getF base fld := rfl
@[simp] theorem setLink_flag (vk dir : Nat) (l : Link) (base : Nat) (fld : Fld) : (s.setLink vk dir l).flag base fld = s.flag base fld := rfl

@[simp] theorem setNi_ident (vk : Nat) (n : Ni) : (s.setNi vk n).ident = s.ident := rfl
@[simp] theorem setNi_regs (vk : Nat) (n : Ni) : (s.setNi vk n).regs = s.regs := rfl
@[simp] theorem setNi_ctrs (vk : Nat) (n : Ni) : (s.setNi vk n).ctrs = s.ctrs := rfl
@[simp] theorem setNi_snaps (vk : Nat) (n : Ni) : (s.setNi vk n).snaps = s.snaps := rfl
@[simp] theorem setNi_mem (vk : Nat) (n : Ni) : (s.setNi vk n).mem = s.mem := rfl
@[simp] theorem setNi_host (vk : Nat) (n : Ni) : (s.setNi vk n).host = s.host := rfl
@[simp] theorem setNi_flash (vk : Nat) (n : Ni) : (s.setNi vk n).flash = s.flash := rfl
@[simp] theorem setNi_hostBad (vk : Nat) (n : Ni) : (s.setNi vk n).hostBad = s.hostBad := rfl
@[simp] theorem setNi_pending (vk : Nat) (n : Ni) : (s.setNi vk n).pending = s.pending := rfl
@[simp] theorem setNi_out (vk : Nat) (n : Ni) : (s.setNi vk n).out = s.out := rfl
@[simp] theorem setNi_now (vk : Nat) (n : Ni) : (s.setNi vk n).now = s.now := rfl
@[simp] theorem setNi_sta (vk : Nat) (n : Ni) : (s.setNi vk n).sta = s.sta := rfl
@[simp] theorem setNi_fresh (vk : Nat) (n : Ni) : (s.setNi vk n).fresh = s.fresh := rfl
@[simp] theorem setNi_posted (vk : Nat) (n : Ni) : (s.setNi vk n).posted = s.posted := rfl
@[simp] theorem setNi_latches (vk : Nat) (n : Ni) : (s.setNi vk n).latches = s.latches := rfl
@[simp] theorem setNi_hq (vk : Nat) (n : Ni) : (s.setNi vk n).hq = s.hq := rfl
@[simp] theorem setNi_evc (vk : Nat) (n : Ni) : (s.setNi vk n).evc = s.evc := rfl
@[simp] theorem setNi_pwr (vk : Nat) (n : Ni) : (s.setNi vk n).pwr = s.pwr := rfl
@[simp] theorem setNi_jrnl (vk : Nat) (n : Ni) : (s.setNi vk n).jrnl = s.jrnl := rfl
@[simp] theorem setNi_fab (vk : Nat) (n : Ni) : (s.setNi vk n).fab = s.fab := rfl
@[simp] theorem setNi_bays (vk : Nat) (n : Ni) : (s.setNi vk n).bays = s.bays := rfl
@[simp] theorem setNi_saus (vk : Nat) (n : Ni) : (s.setNi vk n).saus = s.saus := rfl
@[simp] theorem setNi_fac (vk : Nat) (n : Ni) : (s.setNi vk n).fac = s.fac := rfl
@[simp] theorem setNi_cfg (vk : Nat) (n : Ni) : (s.setNi vk n).cfg = s.cfg := rfl
@[simp] theorem setNi_fm (vk : Nat) (n : Ni) : (s.setNi vk n).fm = s.fm := rfl
@[simp] theorem setNi_lanes (vk : Nat) (n : Ni) : (s.setNi vk n).lanes = s.lanes := rfl
@[simp] theorem setNi_se (vk : Nat) (n : Ni) : (s.setNi vk n).se = s.se := rfl
@[simp] theorem setNi_prot (vk : Nat) (n : Ni) : (s.setNi vk n).prot = s.prot := rfl
@[simp] theorem setNi_opt (vk : Nat) (n : Ni) : (s.setNi vk n).opt = s.opt := rfl
@[simp] theorem setNi_tim (vk : Nat) (n : Ni) : (s.setNi vk n).tim = s.tim := rfl
@[simp] theorem setNi_clk (vk : Nat) (n : Ni) : (s.setNi vk n).clk = s.clk := rfl
@[simp] theorem setNi_lat (vk : Nat) (n : Ni) : (s.setNi vk n).lat = s.lat := rfl
@[simp] theorem setNi_cue (vk : Nat) (n : Ni) : (s.setNi vk n).cue = s.cue := rfl
@[simp] theorem setNi_dbg (vk : Nat) (n : Ni) : (s.setNi vk n).dbg = s.dbg := rfl
@[simp] theorem setNi_getF (vk : Nat) (n : Ni) (base : Nat) (fld : Fld) : (s.setNi vk n).getF base fld = s.getF base fld := rfl
@[simp] theorem setNi_flag (vk : Nat) (n : Ni) (base : Nat) (fld : Fld) : (s.setNi vk n).flag base fld = s.flag base fld := rfl

@[simp] theorem setSau_ident (q n : Nat) (r : SauReg) : (s.setSau q n r).ident = s.ident := rfl
@[simp] theorem setSau_regs (q n : Nat) (r : SauReg) : (s.setSau q n r).regs = s.regs := rfl
@[simp] theorem setSau_ctrs (q n : Nat) (r : SauReg) : (s.setSau q n r).ctrs = s.ctrs := rfl
@[simp] theorem setSau_snaps (q n : Nat) (r : SauReg) : (s.setSau q n r).snaps = s.snaps := rfl
@[simp] theorem setSau_mem (q n : Nat) (r : SauReg) : (s.setSau q n r).mem = s.mem := rfl
@[simp] theorem setSau_host (q n : Nat) (r : SauReg) : (s.setSau q n r).host = s.host := rfl
@[simp] theorem setSau_flash (q n : Nat) (r : SauReg) : (s.setSau q n r).flash = s.flash := rfl
@[simp] theorem setSau_hostBad (q n : Nat) (r : SauReg) : (s.setSau q n r).hostBad = s.hostBad := rfl
@[simp] theorem setSau_pending (q n : Nat) (r : SauReg) : (s.setSau q n r).pending = s.pending := rfl
@[simp] theorem setSau_out (q n : Nat) (r : SauReg) : (s.setSau q n r).out = s.out := rfl
@[simp] theorem setSau_now (q n : Nat) (r : SauReg) : (s.setSau q n r).now = s.now := rfl
@[simp] theorem setSau_sta (q n : Nat) (r : SauReg) : (s.setSau q n r).sta = s.sta := rfl
@[simp] theorem setSau_fresh (q n : Nat) (r : SauReg) : (s.setSau q n r).fresh = s.fresh := rfl
@[simp] theorem setSau_posted (q n : Nat) (r : SauReg) : (s.setSau q n r).posted = s.posted := rfl
@[simp] theorem setSau_latches (q n : Nat) (r : SauReg) : (s.setSau q n r).latches = s.latches := rfl
@[simp] theorem setSau_hq (q n : Nat) (r : SauReg) : (s.setSau q n r).hq = s.hq := rfl
@[simp] theorem setSau_evc (q n : Nat) (r : SauReg) : (s.setSau q n r).evc = s.evc := rfl
@[simp] theorem setSau_pwr (q n : Nat) (r : SauReg) : (s.setSau q n r).pwr = s.pwr := rfl
@[simp] theorem setSau_jrnl (q n : Nat) (r : SauReg) : (s.setSau q n r).jrnl = s.jrnl := rfl
@[simp] theorem setSau_fab (q n : Nat) (r : SauReg) : (s.setSau q n r).fab = s.fab := rfl
@[simp] theorem setSau_bays (q n : Nat) (r : SauReg) : (s.setSau q n r).bays = s.bays := rfl
@[simp] theorem setSau_fac (q n : Nat) (r : SauReg) : (s.setSau q n r).fac = s.fac := rfl
@[simp] theorem setSau_cfg (q n : Nat) (r : SauReg) : (s.setSau q n r).cfg = s.cfg := rfl
@[simp] theorem setSau_fm (q n : Nat) (r : SauReg) : (s.setSau q n r).fm = s.fm := rfl
@[simp] theorem setSau_lanes (q n : Nat) (r : SauReg) : (s.setSau q n r).lanes = s.lanes := rfl
@[simp] theorem setSau_se (q n : Nat) (r : SauReg) : (s.setSau q n r).se = s.se := rfl
@[simp] theorem setSau_prot (q n : Nat) (r : SauReg) : (s.setSau q n r).prot = s.prot := rfl
@[simp] theorem setSau_ring (q n : Nat) (r : SauReg) : (s.setSau q n r).ring = s.ring := rfl
@[simp] theorem setSau_opt (q n : Nat) (r : SauReg) : (s.setSau q n r).opt = s.opt := rfl
@[simp] theorem setSau_tim (q n : Nat) (r : SauReg) : (s.setSau q n r).tim = s.tim := rfl
@[simp] theorem setSau_clk (q n : Nat) (r : SauReg) : (s.setSau q n r).clk = s.clk := rfl
@[simp] theorem setSau_lat (q n : Nat) (r : SauReg) : (s.setSau q n r).lat = s.lat := rfl
@[simp] theorem setSau_cue (q n : Nat) (r : SauReg) : (s.setSau q n r).cue = s.cue := rfl
@[simp] theorem setSau_dbg (q n : Nat) (r : SauReg) : (s.setSau q n r).dbg = s.dbg := rfl
@[simp] theorem setSau_getF (q n : Nat) (r : SauReg) (base : Nat) (fld : Fld) : (s.setSau q n r).getF base fld = s.getF base fld := rfl
@[simp] theorem setSau_flag (q n : Nat) (r : SauReg) (base : Nat) (fld : Fld) : (s.setSau q n r).flag base fld = s.flag base fld := rfl

@[simp] theorem setSeCh_ident (n : Nat) (x : SeCh) : (s.setSeCh n x).ident = s.ident := rfl
@[simp] theorem setSeCh_regs (n : Nat) (x : SeCh) : (s.setSeCh n x).regs = s.regs := rfl
@[simp] theorem setSeCh_ctrs (n : Nat) (x : SeCh) : (s.setSeCh n x).ctrs = s.ctrs := rfl
@[simp] theorem setSeCh_snaps (n : Nat) (x : SeCh) : (s.setSeCh n x).snaps = s.snaps := rfl
@[simp] theorem setSeCh_mem (n : Nat) (x : SeCh) : (s.setSeCh n x).mem = s.mem := rfl
@[simp] theorem setSeCh_host (n : Nat) (x : SeCh) : (s.setSeCh n x).host = s.host := rfl
@[simp] theorem setSeCh_flash (n : Nat) (x : SeCh) : (s.setSeCh n x).flash = s.flash := rfl
@[simp] theorem setSeCh_hostBad (n : Nat) (x : SeCh) : (s.setSeCh n x).hostBad = s.hostBad := rfl
@[simp] theorem setSeCh_pending (n : Nat) (x : SeCh) : (s.setSeCh n x).pending = s.pending := rfl
@[simp] theorem setSeCh_out (n : Nat) (x : SeCh) : (s.setSeCh n x).out = s.out := rfl
@[simp] theorem setSeCh_now (n : Nat) (x : SeCh) : (s.setSeCh n x).now = s.now := rfl
@[simp] theorem setSeCh_sta (n : Nat) (x : SeCh) : (s.setSeCh n x).sta = s.sta := rfl
@[simp] theorem setSeCh_fresh (n : Nat) (x : SeCh) : (s.setSeCh n x).fresh = s.fresh := rfl
@[simp] theorem setSeCh_posted (n : Nat) (x : SeCh) : (s.setSeCh n x).posted = s.posted := rfl
@[simp] theorem setSeCh_latches (n : Nat) (x : SeCh) : (s.setSeCh n x).latches = s.latches := rfl
@[simp] theorem setSeCh_hq (n : Nat) (x : SeCh) : (s.setSeCh n x).hq = s.hq := rfl
@[simp] theorem setSeCh_evc (n : Nat) (x : SeCh) : (s.setSeCh n x).evc = s.evc := rfl
@[simp] theorem setSeCh_pwr (n : Nat) (x : SeCh) : (s.setSeCh n x).pwr = s.pwr := rfl
@[simp] theorem setSeCh_jrnl (n : Nat) (x : SeCh) : (s.setSeCh n x).jrnl = s.jrnl := rfl
@[simp] theorem setSeCh_fab (n : Nat) (x : SeCh) : (s.setSeCh n x).fab = s.fab := rfl
@[simp] theorem setSeCh_bays (n : Nat) (x : SeCh) : (s.setSeCh n x).bays = s.bays := rfl
@[simp] theorem setSeCh_saus (n : Nat) (x : SeCh) : (s.setSeCh n x).saus = s.saus := rfl
@[simp] theorem setSeCh_fac (n : Nat) (x : SeCh) : (s.setSeCh n x).fac = s.fac := rfl
@[simp] theorem setSeCh_cfg (n : Nat) (x : SeCh) : (s.setSeCh n x).cfg = s.cfg := rfl
@[simp] theorem setSeCh_fm (n : Nat) (x : SeCh) : (s.setSeCh n x).fm = s.fm := rfl
@[simp] theorem setSeCh_lanes (n : Nat) (x : SeCh) : (s.setSeCh n x).lanes = s.lanes := rfl
@[simp] theorem setSeCh_prot (n : Nat) (x : SeCh) : (s.setSeCh n x).prot = s.prot := rfl
@[simp] theorem setSeCh_ring (n : Nat) (x : SeCh) : (s.setSeCh n x).ring = s.ring := rfl
@[simp] theorem setSeCh_opt (n : Nat) (x : SeCh) : (s.setSeCh n x).opt = s.opt := rfl
@[simp] theorem setSeCh_tim (n : Nat) (x : SeCh) : (s.setSeCh n x).tim = s.tim := rfl
@[simp] theorem setSeCh_clk (n : Nat) (x : SeCh) : (s.setSeCh n x).clk = s.clk := rfl
@[simp] theorem setSeCh_lat (n : Nat) (x : SeCh) : (s.setSeCh n x).lat = s.lat := rfl
@[simp] theorem setSeCh_cue (n : Nat) (x : SeCh) : (s.setSeCh n x).cue = s.cue := rfl
@[simp] theorem setSeCh_dbg (n : Nat) (x : SeCh) : (s.setSeCh n x).dbg = s.dbg := rfl
@[simp] theorem setSeCh_getF (n : Nat) (x : SeCh) (base : Nat) (fld : Fld) : (s.setSeCh n x).getF base fld = s.getF base fld := rfl
@[simp] theorem setSeCh_flag (n : Nat) (x : SeCh) (base : Nat) (fld : Fld) : (s.setSeCh n x).flag base fld = s.flag base fld := rfl

@[simp] theorem setFlow_ident (g i : Nat) (x : Flow) : (s.setFlow g i x).ident = s.ident := rfl
@[simp] theorem setFlow_regs (g i : Nat) (x : Flow) : (s.setFlow g i x).regs = s.regs := rfl
@[simp] theorem setFlow_ctrs (g i : Nat) (x : Flow) : (s.setFlow g i x).ctrs = s.ctrs := rfl
@[simp] theorem setFlow_snaps (g i : Nat) (x : Flow) : (s.setFlow g i x).snaps = s.snaps := rfl
@[simp] theorem setFlow_mem (g i : Nat) (x : Flow) : (s.setFlow g i x).mem = s.mem := rfl
@[simp] theorem setFlow_host (g i : Nat) (x : Flow) : (s.setFlow g i x).host = s.host := rfl
@[simp] theorem setFlow_flash (g i : Nat) (x : Flow) : (s.setFlow g i x).flash = s.flash := rfl
@[simp] theorem setFlow_hostBad (g i : Nat) (x : Flow) : (s.setFlow g i x).hostBad = s.hostBad := rfl
@[simp] theorem setFlow_pending (g i : Nat) (x : Flow) : (s.setFlow g i x).pending = s.pending := rfl
@[simp] theorem setFlow_out (g i : Nat) (x : Flow) : (s.setFlow g i x).out = s.out := rfl
@[simp] theorem setFlow_now (g i : Nat) (x : Flow) : (s.setFlow g i x).now = s.now := rfl
@[simp] theorem setFlow_sta (g i : Nat) (x : Flow) : (s.setFlow g i x).sta = s.sta := rfl
@[simp] theorem setFlow_fresh (g i : Nat) (x : Flow) : (s.setFlow g i x).fresh = s.fresh := rfl
@[simp] theorem setFlow_posted (g i : Nat) (x : Flow) : (s.setFlow g i x).posted = s.posted := rfl
@[simp] theorem setFlow_latches (g i : Nat) (x : Flow) : (s.setFlow g i x).latches = s.latches := rfl
@[simp] theorem setFlow_hq (g i : Nat) (x : Flow) : (s.setFlow g i x).hq = s.hq := rfl
@[simp] theorem setFlow_evc (g i : Nat) (x : Flow) : (s.setFlow g i x).evc = s.evc := rfl
@[simp] theorem setFlow_pwr (g i : Nat) (x : Flow) : (s.setFlow g i x).pwr = s.pwr := rfl
@[simp] theorem setFlow_jrnl (g i : Nat) (x : Flow) : (s.setFlow g i x).jrnl = s.jrnl := rfl
@[simp] theorem setFlow_fab (g i : Nat) (x : Flow) : (s.setFlow g i x).fab = s.fab := rfl
@[simp] theorem setFlow_bays (g i : Nat) (x : Flow) : (s.setFlow g i x).bays = s.bays := rfl
@[simp] theorem setFlow_saus (g i : Nat) (x : Flow) : (s.setFlow g i x).saus = s.saus := rfl
@[simp] theorem setFlow_fac (g i : Nat) (x : Flow) : (s.setFlow g i x).fac = s.fac := rfl
@[simp] theorem setFlow_cfg (g i : Nat) (x : Flow) : (s.setFlow g i x).cfg = s.cfg := rfl
@[simp] theorem setFlow_fm (g i : Nat) (x : Flow) : (s.setFlow g i x).fm = s.fm := rfl
@[simp] theorem setFlow_lanes (g i : Nat) (x : Flow) : (s.setFlow g i x).lanes = s.lanes := rfl
@[simp] theorem setFlow_prot (g i : Nat) (x : Flow) : (s.setFlow g i x).prot = s.prot := rfl
@[simp] theorem setFlow_ring (g i : Nat) (x : Flow) : (s.setFlow g i x).ring = s.ring := rfl
@[simp] theorem setFlow_opt (g i : Nat) (x : Flow) : (s.setFlow g i x).opt = s.opt := rfl
@[simp] theorem setFlow_tim (g i : Nat) (x : Flow) : (s.setFlow g i x).tim = s.tim := rfl
@[simp] theorem setFlow_clk (g i : Nat) (x : Flow) : (s.setFlow g i x).clk = s.clk := rfl
@[simp] theorem setFlow_lat (g i : Nat) (x : Flow) : (s.setFlow g i x).lat = s.lat := rfl
@[simp] theorem setFlow_cue (g i : Nat) (x : Flow) : (s.setFlow g i x).cue = s.cue := rfl
@[simp] theorem setFlow_dbg (g i : Nat) (x : Flow) : (s.setFlow g i x).dbg = s.dbg := rfl
@[simp] theorem setFlow_getF (g i : Nat) (x : Flow) (base : Nat) (fld : Fld) : (s.setFlow g i x).getF base fld = s.getF base fld := rfl
@[simp] theorem setFlow_flag (g i : Nat) (x : Flow) (base : Nat) (fld : Fld) : (s.setFlow g i x).flag base fld = s.flag base fld := rfl

@[simp] theorem answer_ident (op : Nat) (c : Cmd) (st : Status) (results : List Word) : (s.answer op c st results).ident = s.ident := rfl
@[simp] theorem answer_regs (op : Nat) (c : Cmd) (st : Status) (results : List Word) : (s.answer op c st results).regs = s.regs := rfl
@[simp] theorem answer_ctrs (op : Nat) (c : Cmd) (st : Status) (results : List Word) : (s.answer op c st results).ctrs = s.ctrs := rfl
@[simp] theorem answer_snaps (op : Nat) (c : Cmd) (st : Status) (results : List Word) : (s.answer op c st results).snaps = s.snaps := rfl
@[simp] theorem answer_mem (op : Nat) (c : Cmd) (st : Status) (results : List Word) : (s.answer op c st results).mem = s.mem := rfl
@[simp] theorem answer_host (op : Nat) (c : Cmd) (st : Status) (results : List Word) : (s.answer op c st results).host = s.host := rfl
@[simp] theorem answer_flash (op : Nat) (c : Cmd) (st : Status) (results : List Word) : (s.answer op c st results).flash = s.flash := rfl
@[simp] theorem answer_hostBad (op : Nat) (c : Cmd) (st : Status) (results : List Word) : (s.answer op c st results).hostBad = s.hostBad := rfl
@[simp] theorem answer_pending (op : Nat) (c : Cmd) (st : Status) (results : List Word) : (s.answer op c st results).pending = s.pending := rfl
@[simp] theorem answer_out (op : Nat) (c : Cmd) (st : Status) (results : List Word) : (s.answer op c st results).out = s.out := rfl
@[simp] theorem answer_now (op : Nat) (c : Cmd) (st : Status) (results : List Word) : (s.answer op c st results).now = s.now := rfl
@[simp] theorem answer_sta (op : Nat) (c : Cmd) (st : Status) (results : List Word) : (s.answer op c st results).sta = s.sta := rfl
@[simp] theorem answer_fresh (op : Nat) (c : Cmd) (st : Status) (results : List Word) : (s.answer op c st results).fresh = s.fresh := rfl
@[simp] theorem answer_posted (op : Nat) (c : Cmd) (st : Status) (results : List Word) : (s.answer op c st results).posted = s.posted := rfl
@[simp] theorem answer_latches (op : Nat) (c : Cmd) (st : Status) (results : List Word) : (s.answer op c st results).latches = s.latches := rfl
@[simp] theorem answer_evc (op : Nat) (c : Cmd) (st : Status) (results : List Word) : (s.answer op c st results).evc = s.evc := rfl
@[simp] theorem answer_pwr (op : Nat) (c : Cmd) (st : Status) (results : List Word) : (s.answer op c st results).pwr = s.pwr := rfl
@[simp] theorem answer_jrnl (op : Nat) (c : Cmd) (st : Status) (results : List Word) : (s.answer op c st results).jrnl = s.jrnl := rfl
@[simp] theorem answer_fab (op : Nat) (c : Cmd) (st : Status) (results : List Word) : (s.answer op c st results).fab = s.fab := rfl
@[simp] theorem answer_bays (op : Nat) (c : Cmd) (st : Status) (results : List Word) : (s.answer op c st results).bays = s.bays := rfl
@[simp] theorem answer_saus (op : Nat) (c : Cmd) (st : Status) (results : List Word) : (s.answer op c st results).saus = s.saus := rfl
@[simp] theorem answer_fac (op : Nat) (c : Cmd) (st : Status) (results : List Word) : (s.answer op c st results).fac = s.fac := rfl
@[simp] theorem answer_cfg (op : Nat) (c : Cmd) (st : Status) (results : List Word) : (s.answer op c st results).cfg = s.cfg := rfl
@[simp] theorem answer_fm (op : Nat) (c : Cmd) (st : Status) (results : List Word) : (s.answer op c st results).fm = s.fm := rfl
@[simp] theorem answer_lanes (op : Nat) (c : Cmd) (st : Status) (results : List Word) : (s.answer op c st results).lanes = s.lanes := rfl
@[simp] theorem answer_se (op : Nat) (c : Cmd) (st : Status) (results : List Word) : (s.answer op c st results).se = s.se := rfl
@[simp] theorem answer_prot (op : Nat) (c : Cmd) (st : Status) (results : List Word) : (s.answer op c st results).prot = s.prot := rfl
@[simp] theorem answer_ring (op : Nat) (c : Cmd) (st : Status) (results : List Word) : (s.answer op c st results).ring = s.ring := rfl
@[simp] theorem answer_opt (op : Nat) (c : Cmd) (st : Status) (results : List Word) : (s.answer op c st results).opt = s.opt := rfl
@[simp] theorem answer_tim (op : Nat) (c : Cmd) (st : Status) (results : List Word) : (s.answer op c st results).tim = s.tim := rfl
@[simp] theorem answer_clk (op : Nat) (c : Cmd) (st : Status) (results : List Word) : (s.answer op c st results).clk = s.clk := rfl
@[simp] theorem answer_lat (op : Nat) (c : Cmd) (st : Status) (results : List Word) : (s.answer op c st results).lat = s.lat := rfl
@[simp] theorem answer_cue (op : Nat) (c : Cmd) (st : Status) (results : List Word) : (s.answer op c st results).cue = s.cue := rfl
@[simp] theorem answer_dbg (op : Nat) (c : Cmd) (st : Status) (results : List Word) : (s.answer op c st results).dbg = s.dbg := rfl
@[simp] theorem answer_getF (op : Nat) (c : Cmd) (st : Status) (results : List Word) (base : Nat) (fld : Fld) : (s.answer op c st results).getF base fld = s.getF base fld := rfl
@[simp] theorem answer_flag (op : Nat) (c : Cmd) (st : Status) (results : List Word) (base : Nat) (fld : Fld) : (s.answer op c st results).flag base fld = s.flag base fld := rfl

@[simp] theorem accept_ident (op : Nat) (c : Cmd) (instant : Option Nat) : (s.accept op c instant).ident = s.ident := rfl
@[simp] theorem accept_regs (op : Nat) (c : Cmd) (instant : Option Nat) : (s.accept op c instant).regs = s.regs := rfl
@[simp] theorem accept_ctrs (op : Nat) (c : Cmd) (instant : Option Nat) : (s.accept op c instant).ctrs = s.ctrs := rfl
@[simp] theorem accept_snaps (op : Nat) (c : Cmd) (instant : Option Nat) : (s.accept op c instant).snaps = s.snaps := rfl
@[simp] theorem accept_mem (op : Nat) (c : Cmd) (instant : Option Nat) : (s.accept op c instant).mem = s.mem := rfl
@[simp] theorem accept_host (op : Nat) (c : Cmd) (instant : Option Nat) : (s.accept op c instant).host = s.host := rfl
@[simp] theorem accept_flash (op : Nat) (c : Cmd) (instant : Option Nat) : (s.accept op c instant).flash = s.flash := rfl
@[simp] theorem accept_hostBad (op : Nat) (c : Cmd) (instant : Option Nat) : (s.accept op c instant).hostBad = s.hostBad := rfl
@[simp] theorem accept_pending (op : Nat) (c : Cmd) (instant : Option Nat) : (s.accept op c instant).pending = s.pending := rfl
@[simp] theorem accept_out (op : Nat) (c : Cmd) (instant : Option Nat) : (s.accept op c instant).out = s.out := rfl
@[simp] theorem accept_now (op : Nat) (c : Cmd) (instant : Option Nat) : (s.accept op c instant).now = s.now := rfl
@[simp] theorem accept_sta (op : Nat) (c : Cmd) (instant : Option Nat) : (s.accept op c instant).sta = s.sta := rfl
@[simp] theorem accept_fresh (op : Nat) (c : Cmd) (instant : Option Nat) : (s.accept op c instant).fresh = s.fresh := rfl
@[simp] theorem accept_posted (op : Nat) (c : Cmd) (instant : Option Nat) : (s.accept op c instant).posted = s.posted := rfl
@[simp] theorem accept_latches (op : Nat) (c : Cmd) (instant : Option Nat) : (s.accept op c instant).latches = s.latches := rfl
@[simp] theorem accept_evc (op : Nat) (c : Cmd) (instant : Option Nat) : (s.accept op c instant).evc = s.evc := rfl
@[simp] theorem accept_pwr (op : Nat) (c : Cmd) (instant : Option Nat) : (s.accept op c instant).pwr = s.pwr := rfl
@[simp] theorem accept_jrnl (op : Nat) (c : Cmd) (instant : Option Nat) : (s.accept op c instant).jrnl = s.jrnl := rfl
@[simp] theorem accept_fab (op : Nat) (c : Cmd) (instant : Option Nat) : (s.accept op c instant).fab = s.fab := rfl
@[simp] theorem accept_bays (op : Nat) (c : Cmd) (instant : Option Nat) : (s.accept op c instant).bays = s.bays := rfl
@[simp] theorem accept_saus (op : Nat) (c : Cmd) (instant : Option Nat) : (s.accept op c instant).saus = s.saus := rfl
@[simp] theorem accept_fac (op : Nat) (c : Cmd) (instant : Option Nat) : (s.accept op c instant).fac = s.fac := rfl
@[simp] theorem accept_cfg (op : Nat) (c : Cmd) (instant : Option Nat) : (s.accept op c instant).cfg = s.cfg := rfl
@[simp] theorem accept_fm (op : Nat) (c : Cmd) (instant : Option Nat) : (s.accept op c instant).fm = s.fm := rfl
@[simp] theorem accept_lanes (op : Nat) (c : Cmd) (instant : Option Nat) : (s.accept op c instant).lanes = s.lanes := rfl
@[simp] theorem accept_se (op : Nat) (c : Cmd) (instant : Option Nat) : (s.accept op c instant).se = s.se := rfl
@[simp] theorem accept_prot (op : Nat) (c : Cmd) (instant : Option Nat) : (s.accept op c instant).prot = s.prot := rfl
@[simp] theorem accept_ring (op : Nat) (c : Cmd) (instant : Option Nat) : (s.accept op c instant).ring = s.ring := rfl
@[simp] theorem accept_opt (op : Nat) (c : Cmd) (instant : Option Nat) : (s.accept op c instant).opt = s.opt := rfl
@[simp] theorem accept_tim (op : Nat) (c : Cmd) (instant : Option Nat) : (s.accept op c instant).tim = s.tim := rfl
@[simp] theorem accept_clk (op : Nat) (c : Cmd) (instant : Option Nat) : (s.accept op c instant).clk = s.clk := rfl
@[simp] theorem accept_lat (op : Nat) (c : Cmd) (instant : Option Nat) : (s.accept op c instant).lat = s.lat := rfl
@[simp] theorem accept_cue (op : Nat) (c : Cmd) (instant : Option Nat) : (s.accept op c instant).cue = s.cue := rfl
@[simp] theorem accept_dbg (op : Nat) (c : Cmd) (instant : Option Nat) : (s.accept op c instant).dbg = s.dbg := rfl
@[simp] theorem accept_getF (op : Nat) (c : Cmd) (instant : Option Nat) (base : Nat) (fld : Fld) : (s.accept op c instant).getF base fld = s.getF base fld := rfl
@[simp] theorem accept_flag (op : Nat) (c : Cmd) (instant : Option Nat) (base : Nat) (fld : Fld) : (s.accept op c instant).flag base fld = s.flag base fld := rfl

@[simp] theorem setOut_ident (vk dir : Nat) (p : OutPort) : (s.setOut vk dir p).ident = s.ident := rfl
@[simp] theorem setOut_ctrs (vk dir : Nat) (p : OutPort) : (s.setOut vk dir p).ctrs = s.ctrs := rfl
@[simp] theorem setOut_snaps (vk dir : Nat) (p : OutPort) : (s.setOut vk dir p).snaps = s.snaps := rfl
@[simp] theorem setOut_mem (vk dir : Nat) (p : OutPort) : (s.setOut vk dir p).mem = s.mem := rfl
@[simp] theorem setOut_host (vk dir : Nat) (p : OutPort) : (s.setOut vk dir p).host = s.host := rfl
@[simp] theorem setOut_flash (vk dir : Nat) (p : OutPort) : (s.setOut vk dir p).flash = s.flash := rfl
@[simp] theorem setOut_hostBad (vk dir : Nat) (p : OutPort) : (s.setOut vk dir p).hostBad = s.hostBad := rfl
@[simp] theorem setOut_pending (vk dir : Nat) (p : OutPort) : (s.setOut vk dir p).pending = s.pending := rfl
@[simp] theorem setOut_out (vk dir : Nat) (p : OutPort) : (s.setOut vk dir p).out = s.out := rfl
@[simp] theorem setOut_now (vk dir : Nat) (p : OutPort) : (s.setOut vk dir p).now = s.now := rfl
@[simp] theorem setOut_sta (vk dir : Nat) (p : OutPort) : (s.setOut vk dir p).sta = s.sta := rfl
@[simp] theorem setOut_fresh (vk dir : Nat) (p : OutPort) : (s.setOut vk dir p).fresh = s.fresh := rfl
@[simp] theorem setOut_posted (vk dir : Nat) (p : OutPort) : (s.setOut vk dir p).posted = s.posted := rfl
@[simp] theorem setOut_latches (vk dir : Nat) (p : OutPort) : (s.setOut vk dir p).latches = s.latches := rfl
@[simp] theorem setOut_hq (vk dir : Nat) (p : OutPort) : (s.setOut vk dir p).hq = s.hq := rfl
@[simp] theorem setOut_evc (vk dir : Nat) (p : OutPort) : (s.setOut vk dir p).evc = s.evc := rfl
@[simp] theorem setOut_pwr (vk dir : Nat) (p : OutPort) : (s.setOut vk dir p).pwr = s.pwr := rfl
@[simp] theorem setOut_jrnl (vk dir : Nat) (p : OutPort) : (s.setOut vk dir p).jrnl = s.jrnl := rfl
@[simp] theorem setOut_fab (vk dir : Nat) (p : OutPort) : (s.setOut vk dir p).fab = s.fab := rfl
@[simp] theorem setOut_bays (vk dir : Nat) (p : OutPort) : (s.setOut vk dir p).bays = s.bays := rfl
@[simp] theorem setOut_saus (vk dir : Nat) (p : OutPort) : (s.setOut vk dir p).saus = s.saus := rfl
@[simp] theorem setOut_fac (vk dir : Nat) (p : OutPort) : (s.setOut vk dir p).fac = s.fac := rfl
@[simp] theorem setOut_cfg (vk dir : Nat) (p : OutPort) : (s.setOut vk dir p).cfg = s.cfg := rfl
@[simp] theorem setOut_fm (vk dir : Nat) (p : OutPort) : (s.setOut vk dir p).fm = s.fm := rfl
@[simp] theorem setOut_lanes (vk dir : Nat) (p : OutPort) : (s.setOut vk dir p).lanes = s.lanes := rfl
@[simp] theorem setOut_se (vk dir : Nat) (p : OutPort) : (s.setOut vk dir p).se = s.se := rfl
@[simp] theorem setOut_prot (vk dir : Nat) (p : OutPort) : (s.setOut vk dir p).prot = s.prot := rfl
@[simp] theorem setOut_opt (vk dir : Nat) (p : OutPort) : (s.setOut vk dir p).opt = s.opt := rfl
@[simp] theorem setOut_tim (vk dir : Nat) (p : OutPort) : (s.setOut vk dir p).tim = s.tim := rfl
@[simp] theorem setOut_clk (vk dir : Nat) (p : OutPort) : (s.setOut vk dir p).clk = s.clk := rfl
@[simp] theorem setOut_lat (vk dir : Nat) (p : OutPort) : (s.setOut vk dir p).lat = s.lat := rfl
@[simp] theorem setOut_cue (vk dir : Nat) (p : OutPort) : (s.setOut vk dir p).cue = s.cue := rfl
@[simp] theorem setOut_dbg (vk dir : Nat) (p : OutPort) : (s.setOut vk dir p).dbg = s.dbg := rfl
@[simp] theorem setOut_regs (vk dir : Nat) (p : OutPort) : (s.setOut vk dir p).regs = s.regs := rfl

@[simp] theorem setVq_ident (vk inp vc : Nat) (l : List Queued) : (s.setVq vk inp vc l).ident = s.ident := rfl
@[simp] theorem setVq_ctrs (vk inp vc : Nat) (l : List Queued) : (s.setVq vk inp vc l).ctrs = s.ctrs := rfl
@[simp] theorem setVq_snaps (vk inp vc : Nat) (l : List Queued) : (s.setVq vk inp vc l).snaps = s.snaps := rfl
@[simp] theorem setVq_mem (vk inp vc : Nat) (l : List Queued) : (s.setVq vk inp vc l).mem = s.mem := rfl
@[simp] theorem setVq_host (vk inp vc : Nat) (l : List Queued) : (s.setVq vk inp vc l).host = s.host := rfl
@[simp] theorem setVq_flash (vk inp vc : Nat) (l : List Queued) : (s.setVq vk inp vc l).flash = s.flash := rfl
@[simp] theorem setVq_hostBad (vk inp vc : Nat) (l : List Queued) : (s.setVq vk inp vc l).hostBad = s.hostBad := rfl
@[simp] theorem setVq_pending (vk inp vc : Nat) (l : List Queued) : (s.setVq vk inp vc l).pending = s.pending := rfl
@[simp] theorem setVq_out (vk inp vc : Nat) (l : List Queued) : (s.setVq vk inp vc l).out = s.out := rfl
@[simp] theorem setVq_now (vk inp vc : Nat) (l : List Queued) : (s.setVq vk inp vc l).now = s.now := rfl
@[simp] theorem setVq_sta (vk inp vc : Nat) (l : List Queued) : (s.setVq vk inp vc l).sta = s.sta := rfl
@[simp] theorem setVq_fresh (vk inp vc : Nat) (l : List Queued) : (s.setVq vk inp vc l).fresh = s.fresh := rfl
@[simp] theorem setVq_posted (vk inp vc : Nat) (l : List Queued) : (s.setVq vk inp vc l).posted = s.posted := rfl
@[simp] theorem setVq_latches (vk inp vc : Nat) (l : List Queued) : (s.setVq vk inp vc l).latches = s.latches := rfl
@[simp] theorem setVq_hq (vk inp vc : Nat) (l : List Queued) : (s.setVq vk inp vc l).hq = s.hq := rfl
@[simp] theorem setVq_evc (vk inp vc : Nat) (l : List Queued) : (s.setVq vk inp vc l).evc = s.evc := rfl
@[simp] theorem setVq_pwr (vk inp vc : Nat) (l : List Queued) : (s.setVq vk inp vc l).pwr = s.pwr := rfl
@[simp] theorem setVq_jrnl (vk inp vc : Nat) (l : List Queued) : (s.setVq vk inp vc l).jrnl = s.jrnl := rfl
@[simp] theorem setVq_fab (vk inp vc : Nat) (l : List Queued) : (s.setVq vk inp vc l).fab = s.fab := rfl
@[simp] theorem setVq_bays (vk inp vc : Nat) (l : List Queued) : (s.setVq vk inp vc l).bays = s.bays := rfl
@[simp] theorem setVq_saus (vk inp vc : Nat) (l : List Queued) : (s.setVq vk inp vc l).saus = s.saus := rfl
@[simp] theorem setVq_fac (vk inp vc : Nat) (l : List Queued) : (s.setVq vk inp vc l).fac = s.fac := rfl
@[simp] theorem setVq_cfg (vk inp vc : Nat) (l : List Queued) : (s.setVq vk inp vc l).cfg = s.cfg := rfl
@[simp] theorem setVq_fm (vk inp vc : Nat) (l : List Queued) : (s.setVq vk inp vc l).fm = s.fm := rfl
@[simp] theorem setVq_lanes (vk inp vc : Nat) (l : List Queued) : (s.setVq vk inp vc l).lanes = s.lanes := rfl
@[simp] theorem setVq_se (vk inp vc : Nat) (l : List Queued) : (s.setVq vk inp vc l).se = s.se := rfl
@[simp] theorem setVq_prot (vk inp vc : Nat) (l : List Queued) : (s.setVq vk inp vc l).prot = s.prot := rfl
@[simp] theorem setVq_opt (vk inp vc : Nat) (l : List Queued) : (s.setVq vk inp vc l).opt = s.opt := rfl
@[simp] theorem setVq_tim (vk inp vc : Nat) (l : List Queued) : (s.setVq vk inp vc l).tim = s.tim := rfl
@[simp] theorem setVq_clk (vk inp vc : Nat) (l : List Queued) : (s.setVq vk inp vc l).clk = s.clk := rfl
@[simp] theorem setVq_lat (vk inp vc : Nat) (l : List Queued) : (s.setVq vk inp vc l).lat = s.lat := rfl
@[simp] theorem setVq_cue (vk inp vc : Nat) (l : List Queued) : (s.setVq vk inp vc l).cue = s.cue := rfl
@[simp] theorem setVq_dbg (vk inp vc : Nat) (l : List Queued) : (s.setVq vk inp vc l).dbg = s.dbg := rfl
@[simp] theorem setVq_regs (vk inp vc : Nat) (l : List Queued) : (s.setVq vk inp vc l).regs = s.regs := rfl

@[simp] theorem setFmWaits_ident (l : List FmWait) : (s.setFmWaits l).ident = s.ident := rfl
@[simp] theorem setFmWaits_ctrs (l : List FmWait) : (s.setFmWaits l).ctrs = s.ctrs := rfl
@[simp] theorem setFmWaits_snaps (l : List FmWait) : (s.setFmWaits l).snaps = s.snaps := rfl
@[simp] theorem setFmWaits_mem (l : List FmWait) : (s.setFmWaits l).mem = s.mem := rfl
@[simp] theorem setFmWaits_host (l : List FmWait) : (s.setFmWaits l).host = s.host := rfl
@[simp] theorem setFmWaits_flash (l : List FmWait) : (s.setFmWaits l).flash = s.flash := rfl
@[simp] theorem setFmWaits_hostBad (l : List FmWait) : (s.setFmWaits l).hostBad = s.hostBad := rfl
@[simp] theorem setFmWaits_pending (l : List FmWait) : (s.setFmWaits l).pending = s.pending := rfl
@[simp] theorem setFmWaits_out (l : List FmWait) : (s.setFmWaits l).out = s.out := rfl
@[simp] theorem setFmWaits_now (l : List FmWait) : (s.setFmWaits l).now = s.now := rfl
@[simp] theorem setFmWaits_sta (l : List FmWait) : (s.setFmWaits l).sta = s.sta := rfl
@[simp] theorem setFmWaits_fresh (l : List FmWait) : (s.setFmWaits l).fresh = s.fresh := rfl
@[simp] theorem setFmWaits_posted (l : List FmWait) : (s.setFmWaits l).posted = s.posted := rfl
@[simp] theorem setFmWaits_latches (l : List FmWait) : (s.setFmWaits l).latches = s.latches := rfl
@[simp] theorem setFmWaits_hq (l : List FmWait) : (s.setFmWaits l).hq = s.hq := rfl
@[simp] theorem setFmWaits_evc (l : List FmWait) : (s.setFmWaits l).evc = s.evc := rfl
@[simp] theorem setFmWaits_pwr (l : List FmWait) : (s.setFmWaits l).pwr = s.pwr := rfl
@[simp] theorem setFmWaits_jrnl (l : List FmWait) : (s.setFmWaits l).jrnl = s.jrnl := rfl
@[simp] theorem setFmWaits_fab (l : List FmWait) : (s.setFmWaits l).fab = s.fab := rfl
@[simp] theorem setFmWaits_bays (l : List FmWait) : (s.setFmWaits l).bays = s.bays := rfl
@[simp] theorem setFmWaits_saus (l : List FmWait) : (s.setFmWaits l).saus = s.saus := rfl
@[simp] theorem setFmWaits_fac (l : List FmWait) : (s.setFmWaits l).fac = s.fac := rfl
@[simp] theorem setFmWaits_cfg (l : List FmWait) : (s.setFmWaits l).cfg = s.cfg := rfl
@[simp] theorem setFmWaits_lanes (l : List FmWait) : (s.setFmWaits l).lanes = s.lanes := rfl
@[simp] theorem setFmWaits_se (l : List FmWait) : (s.setFmWaits l).se = s.se := rfl
@[simp] theorem setFmWaits_prot (l : List FmWait) : (s.setFmWaits l).prot = s.prot := rfl
@[simp] theorem setFmWaits_ring (l : List FmWait) : (s.setFmWaits l).ring = s.ring := rfl
@[simp] theorem setFmWaits_opt (l : List FmWait) : (s.setFmWaits l).opt = s.opt := rfl
@[simp] theorem setFmWaits_tim (l : List FmWait) : (s.setFmWaits l).tim = s.tim := rfl
@[simp] theorem setFmWaits_clk (l : List FmWait) : (s.setFmWaits l).clk = s.clk := rfl
@[simp] theorem setFmWaits_lat (l : List FmWait) : (s.setFmWaits l).lat = s.lat := rfl
@[simp] theorem setFmWaits_cue (l : List FmWait) : (s.setFmWaits l).cue = s.cue := rfl
@[simp] theorem setFmWaits_dbg (l : List FmWait) : (s.setFmWaits l).dbg = s.dbg := rfl
@[simp] theorem setFmWaits_regs (l : List FmWait) : (s.setFmWaits l).regs = s.regs := rfl

@[simp] theorem setLine_ident (k line : Nat) (l : Line) : (s.setLine k line l).ident = s.ident := rfl
@[simp] theorem setLine_ctrs (k line : Nat) (l : Line) : (s.setLine k line l).ctrs = s.ctrs := rfl
@[simp] theorem setLine_snaps (k line : Nat) (l : Line) : (s.setLine k line l).snaps = s.snaps := rfl
@[simp] theorem setLine_mem (k line : Nat) (l : Line) : (s.setLine k line l).mem = s.mem := rfl
@[simp] theorem setLine_host (k line : Nat) (l : Line) : (s.setLine k line l).host = s.host := rfl
@[simp] theorem setLine_flash (k line : Nat) (l : Line) : (s.setLine k line l).flash = s.flash := rfl
@[simp] theorem setLine_hostBad (k line : Nat) (l : Line) : (s.setLine k line l).hostBad = s.hostBad := rfl
@[simp] theorem setLine_pending (k line : Nat) (l : Line) : (s.setLine k line l).pending = s.pending := rfl
@[simp] theorem setLine_out (k line : Nat) (l : Line) : (s.setLine k line l).out = s.out := rfl
@[simp] theorem setLine_now (k line : Nat) (l : Line) : (s.setLine k line l).now = s.now := rfl
@[simp] theorem setLine_sta (k line : Nat) (l : Line) : (s.setLine k line l).sta = s.sta := rfl
@[simp] theorem setLine_fresh (k line : Nat) (l : Line) : (s.setLine k line l).fresh = s.fresh := rfl
@[simp] theorem setLine_posted (k line : Nat) (l : Line) : (s.setLine k line l).posted = s.posted := rfl
@[simp] theorem setLine_latches (k line : Nat) (l : Line) : (s.setLine k line l).latches = s.latches := rfl
@[simp] theorem setLine_hq (k line : Nat) (l : Line) : (s.setLine k line l).hq = s.hq := rfl
@[simp] theorem setLine_evc (k line : Nat) (l : Line) : (s.setLine k line l).evc = s.evc := rfl
@[simp] theorem setLine_pwr (k line : Nat) (l : Line) : (s.setLine k line l).pwr = s.pwr := rfl
@[simp] theorem setLine_jrnl (k line : Nat) (l : Line) : (s.setLine k line l).jrnl = s.jrnl := rfl
@[simp] theorem setLine_fab (k line : Nat) (l : Line) : (s.setLine k line l).fab = s.fab := rfl
@[simp] theorem setLine_bays (k line : Nat) (l : Line) : (s.setLine k line l).bays = s.bays := rfl
@[simp] theorem setLine_saus (k line : Nat) (l : Line) : (s.setLine k line l).saus = s.saus := rfl
@[simp] theorem setLine_fac (k line : Nat) (l : Line) : (s.setLine k line l).fac = s.fac := rfl
@[simp] theorem setLine_cfg (k line : Nat) (l : Line) : (s.setLine k line l).cfg = s.cfg := rfl
@[simp] theorem setLine_lanes (k line : Nat) (l : Line) : (s.setLine k line l).lanes = s.lanes := rfl
@[simp] theorem setLine_se (k line : Nat) (l : Line) : (s.setLine k line l).se = s.se := rfl
@[simp] theorem setLine_prot (k line : Nat) (l : Line) : (s.setLine k line l).prot = s.prot := rfl
@[simp] theorem setLine_ring (k line : Nat) (l : Line) : (s.setLine k line l).ring = s.ring := rfl
@[simp] theorem setLine_opt (k line : Nat) (l : Line) : (s.setLine k line l).opt = s.opt := rfl
@[simp] theorem setLine_tim (k line : Nat) (l : Line) : (s.setLine k line l).tim = s.tim := rfl
@[simp] theorem setLine_clk (k line : Nat) (l : Line) : (s.setLine k line l).clk = s.clk := rfl
@[simp] theorem setLine_lat (k line : Nat) (l : Line) : (s.setLine k line l).lat = s.lat := rfl
@[simp] theorem setLine_cue (k line : Nat) (l : Line) : (s.setLine k line l).cue = s.cue := rfl
@[simp] theorem setLine_dbg (k line : Nat) (l : Line) : (s.setLine k line l).dbg = s.dbg := rfl
@[simp] theorem setLine_regs (k line : Nat) (l : Line) : (s.setLine k line l).regs = s.regs := rfl

@[simp] theorem setFword_ident (f p fr w v : Nat) : (s.setFword f p fr w v).ident = s.ident := rfl
@[simp] theorem setFword_ctrs (f p fr w v : Nat) : (s.setFword f p fr w v).ctrs = s.ctrs := rfl
@[simp] theorem setFword_snaps (f p fr w v : Nat) : (s.setFword f p fr w v).snaps = s.snaps := rfl
@[simp] theorem setFword_mem (f p fr w v : Nat) : (s.setFword f p fr w v).mem = s.mem := rfl
@[simp] theorem setFword_host (f p fr w v : Nat) : (s.setFword f p fr w v).host = s.host := rfl
@[simp] theorem setFword_flash (f p fr w v : Nat) : (s.setFword f p fr w v).flash = s.flash := rfl
@[simp] theorem setFword_hostBad (f p fr w v : Nat) : (s.setFword f p fr w v).hostBad = s.hostBad := rfl
@[simp] theorem setFword_pending (f p fr w v : Nat) : (s.setFword f p fr w v).pending = s.pending := rfl
@[simp] theorem setFword_out (f p fr w v : Nat) : (s.setFword f p fr w v).out = s.out := rfl
@[simp] theorem setFword_now (f p fr w v : Nat) : (s.setFword f p fr w v).now = s.now := rfl
@[simp] theorem setFword_sta (f p fr w v : Nat) : (s.setFword f p fr w v).sta = s.sta := rfl
@[simp] theorem setFword_fresh (f p fr w v : Nat) : (s.setFword f p fr w v).fresh = s.fresh := rfl
@[simp] theorem setFword_posted (f p fr w v : Nat) : (s.setFword f p fr w v).posted = s.posted := rfl
@[simp] theorem setFword_latches (f p fr w v : Nat) : (s.setFword f p fr w v).latches = s.latches := rfl
@[simp] theorem setFword_hq (f p fr w v : Nat) : (s.setFword f p fr w v).hq = s.hq := rfl
@[simp] theorem setFword_evc (f p fr w v : Nat) : (s.setFword f p fr w v).evc = s.evc := rfl
@[simp] theorem setFword_pwr (f p fr w v : Nat) : (s.setFword f p fr w v).pwr = s.pwr := rfl
@[simp] theorem setFword_jrnl (f p fr w v : Nat) : (s.setFword f p fr w v).jrnl = s.jrnl := rfl
@[simp] theorem setFword_fab (f p fr w v : Nat) : (s.setFword f p fr w v).fab = s.fab := rfl
@[simp] theorem setFword_bays (f p fr w v : Nat) : (s.setFword f p fr w v).bays = s.bays := rfl
@[simp] theorem setFword_saus (f p fr w v : Nat) : (s.setFword f p fr w v).saus = s.saus := rfl
@[simp] theorem setFword_cfg (f p fr w v : Nat) : (s.setFword f p fr w v).cfg = s.cfg := rfl
@[simp] theorem setFword_fm (f p fr w v : Nat) : (s.setFword f p fr w v).fm = s.fm := rfl
@[simp] theorem setFword_lanes (f p fr w v : Nat) : (s.setFword f p fr w v).lanes = s.lanes := rfl
@[simp] theorem setFword_se (f p fr w v : Nat) : (s.setFword f p fr w v).se = s.se := rfl
@[simp] theorem setFword_prot (f p fr w v : Nat) : (s.setFword f p fr w v).prot = s.prot := rfl
@[simp] theorem setFword_ring (f p fr w v : Nat) : (s.setFword f p fr w v).ring = s.ring := rfl
@[simp] theorem setFword_opt (f p fr w v : Nat) : (s.setFword f p fr w v).opt = s.opt := rfl
@[simp] theorem setFword_tim (f p fr w v : Nat) : (s.setFword f p fr w v).tim = s.tim := rfl
@[simp] theorem setFword_clk (f p fr w v : Nat) : (s.setFword f p fr w v).clk = s.clk := rfl
@[simp] theorem setFword_lat (f p fr w v : Nat) : (s.setFword f p fr w v).lat = s.lat := rfl
@[simp] theorem setFword_cue (f p fr w v : Nat) : (s.setFword f p fr w v).cue = s.cue := rfl
@[simp] theorem setFword_dbg (f p fr w v : Nat) : (s.setFword f p fr w v).dbg = s.dbg := rfl
@[simp] theorem setFword_regs (f p fr w v : Nat) : (s.setFword f p fr w v).regs = s.regs := rfl

@[simp] theorem setMarked_ident (f p : Nat) (on : Bool) : (s.setMarked f p on).ident = s.ident := rfl
@[simp] theorem setMarked_ctrs (f p : Nat) (on : Bool) : (s.setMarked f p on).ctrs = s.ctrs := rfl
@[simp] theorem setMarked_snaps (f p : Nat) (on : Bool) : (s.setMarked f p on).snaps = s.snaps := rfl
@[simp] theorem setMarked_mem (f p : Nat) (on : Bool) : (s.setMarked f p on).mem = s.mem := rfl
@[simp] theorem setMarked_host (f p : Nat) (on : Bool) : (s.setMarked f p on).host = s.host := rfl
@[simp] theorem setMarked_flash (f p : Nat) (on : Bool) : (s.setMarked f p on).flash = s.flash := rfl
@[simp] theorem setMarked_hostBad (f p : Nat) (on : Bool) : (s.setMarked f p on).hostBad = s.hostBad := rfl
@[simp] theorem setMarked_pending (f p : Nat) (on : Bool) : (s.setMarked f p on).pending = s.pending := rfl
@[simp] theorem setMarked_out (f p : Nat) (on : Bool) : (s.setMarked f p on).out = s.out := rfl
@[simp] theorem setMarked_now (f p : Nat) (on : Bool) : (s.setMarked f p on).now = s.now := rfl
@[simp] theorem setMarked_sta (f p : Nat) (on : Bool) : (s.setMarked f p on).sta = s.sta := rfl
@[simp] theorem setMarked_fresh (f p : Nat) (on : Bool) : (s.setMarked f p on).fresh = s.fresh := rfl
@[simp] theorem setMarked_posted (f p : Nat) (on : Bool) : (s.setMarked f p on).posted = s.posted := rfl
@[simp] theorem setMarked_latches (f p : Nat) (on : Bool) : (s.setMarked f p on).latches = s.latches := rfl
@[simp] theorem setMarked_hq (f p : Nat) (on : Bool) : (s.setMarked f p on).hq = s.hq := rfl
@[simp] theorem setMarked_evc (f p : Nat) (on : Bool) : (s.setMarked f p on).evc = s.evc := rfl
@[simp] theorem setMarked_pwr (f p : Nat) (on : Bool) : (s.setMarked f p on).pwr = s.pwr := rfl
@[simp] theorem setMarked_jrnl (f p : Nat) (on : Bool) : (s.setMarked f p on).jrnl = s.jrnl := rfl
@[simp] theorem setMarked_fab (f p : Nat) (on : Bool) : (s.setMarked f p on).fab = s.fab := rfl
@[simp] theorem setMarked_bays (f p : Nat) (on : Bool) : (s.setMarked f p on).bays = s.bays := rfl
@[simp] theorem setMarked_saus (f p : Nat) (on : Bool) : (s.setMarked f p on).saus = s.saus := rfl
@[simp] theorem setMarked_cfg (f p : Nat) (on : Bool) : (s.setMarked f p on).cfg = s.cfg := rfl
@[simp] theorem setMarked_fm (f p : Nat) (on : Bool) : (s.setMarked f p on).fm = s.fm := rfl
@[simp] theorem setMarked_lanes (f p : Nat) (on : Bool) : (s.setMarked f p on).lanes = s.lanes := rfl
@[simp] theorem setMarked_se (f p : Nat) (on : Bool) : (s.setMarked f p on).se = s.se := rfl
@[simp] theorem setMarked_prot (f p : Nat) (on : Bool) : (s.setMarked f p on).prot = s.prot := rfl
@[simp] theorem setMarked_ring (f p : Nat) (on : Bool) : (s.setMarked f p on).ring = s.ring := rfl
@[simp] theorem setMarked_opt (f p : Nat) (on : Bool) : (s.setMarked f p on).opt = s.opt := rfl
@[simp] theorem setMarked_tim (f p : Nat) (on : Bool) : (s.setMarked f p on).tim = s.tim := rfl
@[simp] theorem setMarked_clk (f p : Nat) (on : Bool) : (s.setMarked f p on).clk = s.clk := rfl
@[simp] theorem setMarked_lat (f p : Nat) (on : Bool) : (s.setMarked f p on).lat = s.lat := rfl
@[simp] theorem setMarked_cue (f p : Nat) (on : Bool) : (s.setMarked f p on).cue = s.cue := rfl
@[simp] theorem setMarked_dbg (f p : Nat) (on : Bool) : (s.setMarked f p on).dbg = s.dbg := rfl
@[simp] theorem setMarked_regs (f p : Nat) (on : Bool) : (s.setMarked f p on).regs = s.regs := rfl

@[simp] theorem setFf_ident (f fr k : Nat) (differs : Bool) : (s.setFf f fr k differs).ident = s.ident := rfl
@[simp] theorem setFf_ctrs (f fr k : Nat) (differs : Bool) : (s.setFf f fr k differs).ctrs = s.ctrs := rfl
@[simp] theorem setFf_snaps (f fr k : Nat) (differs : Bool) : (s.setFf f fr k differs).snaps = s.snaps := rfl
@[simp] theorem setFf_mem (f fr k : Nat) (differs : Bool) : (s.setFf f fr k differs).mem = s.mem := rfl
@[simp] theorem setFf_host (f fr k : Nat) (differs : Bool) : (s.setFf f fr k differs).host = s.host := rfl
@[simp] theorem setFf_flash (f fr k : Nat) (differs : Bool) : (s.setFf f fr k differs).flash = s.flash := rfl
@[simp] theorem setFf_hostBad (f fr k : Nat) (differs : Bool) : (s.setFf f fr k differs).hostBad = s.hostBad := rfl
@[simp] theorem setFf_pending (f fr k : Nat) (differs : Bool) : (s.setFf f fr k differs).pending = s.pending := rfl
@[simp] theorem setFf_out (f fr k : Nat) (differs : Bool) : (s.setFf f fr k differs).out = s.out := rfl
@[simp] theorem setFf_now (f fr k : Nat) (differs : Bool) : (s.setFf f fr k differs).now = s.now := rfl
@[simp] theorem setFf_sta (f fr k : Nat) (differs : Bool) : (s.setFf f fr k differs).sta = s.sta := rfl
@[simp] theorem setFf_fresh (f fr k : Nat) (differs : Bool) : (s.setFf f fr k differs).fresh = s.fresh := rfl
@[simp] theorem setFf_posted (f fr k : Nat) (differs : Bool) : (s.setFf f fr k differs).posted = s.posted := rfl
@[simp] theorem setFf_latches (f fr k : Nat) (differs : Bool) : (s.setFf f fr k differs).latches = s.latches := rfl
@[simp] theorem setFf_hq (f fr k : Nat) (differs : Bool) : (s.setFf f fr k differs).hq = s.hq := rfl
@[simp] theorem setFf_evc (f fr k : Nat) (differs : Bool) : (s.setFf f fr k differs).evc = s.evc := rfl
@[simp] theorem setFf_pwr (f fr k : Nat) (differs : Bool) : (s.setFf f fr k differs).pwr = s.pwr := rfl
@[simp] theorem setFf_jrnl (f fr k : Nat) (differs : Bool) : (s.setFf f fr k differs).jrnl = s.jrnl := rfl
@[simp] theorem setFf_bays (f fr k : Nat) (differs : Bool) : (s.setFf f fr k differs).bays = s.bays := rfl
@[simp] theorem setFf_saus (f fr k : Nat) (differs : Bool) : (s.setFf f fr k differs).saus = s.saus := rfl
@[simp] theorem setFf_fac (f fr k : Nat) (differs : Bool) : (s.setFf f fr k differs).fac = s.fac := rfl
@[simp] theorem setFf_cfg (f fr k : Nat) (differs : Bool) : (s.setFf f fr k differs).cfg = s.cfg := rfl
@[simp] theorem setFf_fm (f fr k : Nat) (differs : Bool) : (s.setFf f fr k differs).fm = s.fm := rfl
@[simp] theorem setFf_lanes (f fr k : Nat) (differs : Bool) : (s.setFf f fr k differs).lanes = s.lanes := rfl
@[simp] theorem setFf_se (f fr k : Nat) (differs : Bool) : (s.setFf f fr k differs).se = s.se := rfl
@[simp] theorem setFf_prot (f fr k : Nat) (differs : Bool) : (s.setFf f fr k differs).prot = s.prot := rfl
@[simp] theorem setFf_ring (f fr k : Nat) (differs : Bool) : (s.setFf f fr k differs).ring = s.ring := rfl
@[simp] theorem setFf_opt (f fr k : Nat) (differs : Bool) : (s.setFf f fr k differs).opt = s.opt := rfl
@[simp] theorem setFf_tim (f fr k : Nat) (differs : Bool) : (s.setFf f fr k differs).tim = s.tim := rfl
@[simp] theorem setFf_clk (f fr k : Nat) (differs : Bool) : (s.setFf f fr k differs).clk = s.clk := rfl
@[simp] theorem setFf_lat (f fr k : Nat) (differs : Bool) : (s.setFf f fr k differs).lat = s.lat := rfl
@[simp] theorem setFf_cue (f fr k : Nat) (differs : Bool) : (s.setFf f fr k differs).cue = s.cue := rfl
@[simp] theorem setFf_dbg (f fr k : Nat) (differs : Bool) : (s.setFf f fr k differs).dbg = s.dbg := rfl
@[simp] theorem setFf_regs (f fr k : Nat) (differs : Bool) : (s.setFf f fr k differs).regs = s.regs := rfl

@[simp] theorem setLevels_ident (q : Nat) (l : List (Fin 12 × Nat × Bool)) : (s.setLevels q l).ident = s.ident := rfl
@[simp] theorem setLevels_ctrs (q : Nat) (l : List (Fin 12 × Nat × Bool)) : (s.setLevels q l).ctrs = s.ctrs := rfl
@[simp] theorem setLevels_snaps (q : Nat) (l : List (Fin 12 × Nat × Bool)) : (s.setLevels q l).snaps = s.snaps := rfl
@[simp] theorem setLevels_mem (q : Nat) (l : List (Fin 12 × Nat × Bool)) : (s.setLevels q l).mem = s.mem := rfl
@[simp] theorem setLevels_host (q : Nat) (l : List (Fin 12 × Nat × Bool)) : (s.setLevels q l).host = s.host := rfl
@[simp] theorem setLevels_flash (q : Nat) (l : List (Fin 12 × Nat × Bool)) : (s.setLevels q l).flash = s.flash := rfl
@[simp] theorem setLevels_hostBad (q : Nat) (l : List (Fin 12 × Nat × Bool)) : (s.setLevels q l).hostBad = s.hostBad := rfl
@[simp] theorem setLevels_pending (q : Nat) (l : List (Fin 12 × Nat × Bool)) : (s.setLevels q l).pending = s.pending := rfl
@[simp] theorem setLevels_out (q : Nat) (l : List (Fin 12 × Nat × Bool)) : (s.setLevels q l).out = s.out := rfl
@[simp] theorem setLevels_now (q : Nat) (l : List (Fin 12 × Nat × Bool)) : (s.setLevels q l).now = s.now := rfl
@[simp] theorem setLevels_sta (q : Nat) (l : List (Fin 12 × Nat × Bool)) : (s.setLevels q l).sta = s.sta := rfl
@[simp] theorem setLevels_fresh (q : Nat) (l : List (Fin 12 × Nat × Bool)) : (s.setLevels q l).fresh = s.fresh := rfl
@[simp] theorem setLevels_posted (q : Nat) (l : List (Fin 12 × Nat × Bool)) : (s.setLevels q l).posted = s.posted := rfl
@[simp] theorem setLevels_latches (q : Nat) (l : List (Fin 12 × Nat × Bool)) : (s.setLevels q l).latches = s.latches := rfl
@[simp] theorem setLevels_hq (q : Nat) (l : List (Fin 12 × Nat × Bool)) : (s.setLevels q l).hq = s.hq := rfl
@[simp] theorem setLevels_evc (q : Nat) (l : List (Fin 12 × Nat × Bool)) : (s.setLevels q l).evc = s.evc := rfl
@[simp] theorem setLevels_pwr (q : Nat) (l : List (Fin 12 × Nat × Bool)) : (s.setLevels q l).pwr = s.pwr := rfl
@[simp] theorem setLevels_jrnl (q : Nat) (l : List (Fin 12 × Nat × Bool)) : (s.setLevels q l).jrnl = s.jrnl := rfl
@[simp] theorem setLevels_bays (q : Nat) (l : List (Fin 12 × Nat × Bool)) : (s.setLevels q l).bays = s.bays := rfl
@[simp] theorem setLevels_saus (q : Nat) (l : List (Fin 12 × Nat × Bool)) : (s.setLevels q l).saus = s.saus := rfl
@[simp] theorem setLevels_fac (q : Nat) (l : List (Fin 12 × Nat × Bool)) : (s.setLevels q l).fac = s.fac := rfl
@[simp] theorem setLevels_cfg (q : Nat) (l : List (Fin 12 × Nat × Bool)) : (s.setLevels q l).cfg = s.cfg := rfl
@[simp] theorem setLevels_fm (q : Nat) (l : List (Fin 12 × Nat × Bool)) : (s.setLevels q l).fm = s.fm := rfl
@[simp] theorem setLevels_lanes (q : Nat) (l : List (Fin 12 × Nat × Bool)) : (s.setLevels q l).lanes = s.lanes := rfl
@[simp] theorem setLevels_se (q : Nat) (l : List (Fin 12 × Nat × Bool)) : (s.setLevels q l).se = s.se := rfl
@[simp] theorem setLevels_prot (q : Nat) (l : List (Fin 12 × Nat × Bool)) : (s.setLevels q l).prot = s.prot := rfl
@[simp] theorem setLevels_ring (q : Nat) (l : List (Fin 12 × Nat × Bool)) : (s.setLevels q l).ring = s.ring := rfl
@[simp] theorem setLevels_opt (q : Nat) (l : List (Fin 12 × Nat × Bool)) : (s.setLevels q l).opt = s.opt := rfl
@[simp] theorem setLevels_tim (q : Nat) (l : List (Fin 12 × Nat × Bool)) : (s.setLevels q l).tim = s.tim := rfl
@[simp] theorem setLevels_clk (q : Nat) (l : List (Fin 12 × Nat × Bool)) : (s.setLevels q l).clk = s.clk := rfl
@[simp] theorem setLevels_lat (q : Nat) (l : List (Fin 12 × Nat × Bool)) : (s.setLevels q l).lat = s.lat := rfl
@[simp] theorem setLevels_cue (q : Nat) (l : List (Fin 12 × Nat × Bool)) : (s.setLevels q l).cue = s.cue := rfl
@[simp] theorem setLevels_dbg (q : Nat) (l : List (Fin 12 × Nat × Bool)) : (s.setLevels q l).dbg = s.dbg := rfl
@[simp] theorem setLevels_regs (q : Nat) (l : List (Fin 12 × Nat × Bool)) : (s.setLevels q l).regs = s.regs := rfl
@[simp] theorem setPtp_ident (lane domain : Nat) (p : Ptp) : (s.setPtp lane domain p).ident = s.ident := rfl
@[simp] theorem setPtp_regs (lane domain : Nat) (p : Ptp) : (s.setPtp lane domain p).regs = s.regs := rfl
@[simp] theorem setPtp_ctrs (lane domain : Nat) (p : Ptp) : (s.setPtp lane domain p).ctrs = s.ctrs := rfl
@[simp] theorem setPtp_snaps (lane domain : Nat) (p : Ptp) : (s.setPtp lane domain p).snaps = s.snaps := rfl
@[simp] theorem setPtp_mem (lane domain : Nat) (p : Ptp) : (s.setPtp lane domain p).mem = s.mem := rfl
@[simp] theorem setPtp_host (lane domain : Nat) (p : Ptp) : (s.setPtp lane domain p).host = s.host := rfl
@[simp] theorem setPtp_flash (lane domain : Nat) (p : Ptp) : (s.setPtp lane domain p).flash = s.flash := rfl
@[simp] theorem setPtp_hostBad (lane domain : Nat) (p : Ptp) : (s.setPtp lane domain p).hostBad = s.hostBad := rfl
@[simp] theorem setPtp_pending (lane domain : Nat) (p : Ptp) : (s.setPtp lane domain p).pending = s.pending := rfl
@[simp] theorem setPtp_out (lane domain : Nat) (p : Ptp) : (s.setPtp lane domain p).out = s.out := rfl
@[simp] theorem setPtp_now (lane domain : Nat) (p : Ptp) : (s.setPtp lane domain p).now = s.now := rfl
@[simp] theorem setPtp_sta (lane domain : Nat) (p : Ptp) : (s.setPtp lane domain p).sta = s.sta := rfl
@[simp] theorem setPtp_fresh (lane domain : Nat) (p : Ptp) : (s.setPtp lane domain p).fresh = s.fresh := rfl
@[simp] theorem setPtp_posted (lane domain : Nat) (p : Ptp) : (s.setPtp lane domain p).posted = s.posted := rfl
@[simp] theorem setPtp_latches (lane domain : Nat) (p : Ptp) : (s.setPtp lane domain p).latches = s.latches := rfl
@[simp] theorem setPtp_hq (lane domain : Nat) (p : Ptp) : (s.setPtp lane domain p).hq = s.hq := rfl
@[simp] theorem setPtp_evc (lane domain : Nat) (p : Ptp) : (s.setPtp lane domain p).evc = s.evc := rfl
@[simp] theorem setPtp_pwr (lane domain : Nat) (p : Ptp) : (s.setPtp lane domain p).pwr = s.pwr := rfl
@[simp] theorem setPtp_jrnl (lane domain : Nat) (p : Ptp) : (s.setPtp lane domain p).jrnl = s.jrnl := rfl
@[simp] theorem setPtp_fab (lane domain : Nat) (p : Ptp) : (s.setPtp lane domain p).fab = s.fab := rfl
@[simp] theorem setPtp_bays (lane domain : Nat) (p : Ptp) : (s.setPtp lane domain p).bays = s.bays := rfl
@[simp] theorem setPtp_saus (lane domain : Nat) (p : Ptp) : (s.setPtp lane domain p).saus = s.saus := rfl
@[simp] theorem setPtp_fac (lane domain : Nat) (p : Ptp) : (s.setPtp lane domain p).fac = s.fac := rfl
@[simp] theorem setPtp_cfg (lane domain : Nat) (p : Ptp) : (s.setPtp lane domain p).cfg = s.cfg := rfl
@[simp] theorem setPtp_fm (lane domain : Nat) (p : Ptp) : (s.setPtp lane domain p).fm = s.fm := rfl
@[simp] theorem setPtp_lanes (lane domain : Nat) (p : Ptp) : (s.setPtp lane domain p).lanes = s.lanes := rfl
@[simp] theorem setPtp_se (lane domain : Nat) (p : Ptp) : (s.setPtp lane domain p).se = s.se := rfl
@[simp] theorem setPtp_prot (lane domain : Nat) (p : Ptp) : (s.setPtp lane domain p).prot = s.prot := rfl
@[simp] theorem setPtp_ring (lane domain : Nat) (p : Ptp) : (s.setPtp lane domain p).ring = s.ring := rfl
@[simp] theorem setPtp_opt (lane domain : Nat) (p : Ptp) : (s.setPtp lane domain p).opt = s.opt := rfl
@[simp] theorem setPtp_clk (lane domain : Nat) (p : Ptp) : (s.setPtp lane domain p).clk = s.clk := rfl
@[simp] theorem setPtp_cue (lane domain : Nat) (p : Ptp) : (s.setPtp lane domain p).cue = s.cue := rfl
@[simp] theorem setPtp_dbg (lane domain : Nat) (p : Ptp) : (s.setPtp lane domain p).dbg = s.dbg := rfl
@[simp] theorem setPtp_getF (lane domain : Nat) (p : Ptp) : (s.setPtp lane domain p).getF = s.getF := rfl
@[simp] theorem setPtp_flag (lane domain : Nat) (p : Ptp) : (s.setPtp lane domain p).flag = s.flag := rfl
@[simp] theorem setPtp_lat (lane domain : Nat) (p : Ptp) : (s.setPtp lane domain p).lat = s.lat := rfl
@[simp] theorem endSlew_ident : (s.endSlew).ident = s.ident := rfl
@[simp] theorem endSlew_regs : (s.endSlew).regs = s.regs := rfl
@[simp] theorem endSlew_ctrs : (s.endSlew).ctrs = s.ctrs := rfl
@[simp] theorem endSlew_snaps : (s.endSlew).snaps = s.snaps := rfl
@[simp] theorem endSlew_mem : (s.endSlew).mem = s.mem := rfl
@[simp] theorem endSlew_host : (s.endSlew).host = s.host := rfl
@[simp] theorem endSlew_flash : (s.endSlew).flash = s.flash := rfl
@[simp] theorem endSlew_hostBad : (s.endSlew).hostBad = s.hostBad := rfl
@[simp] theorem endSlew_pending : (s.endSlew).pending = s.pending := rfl
@[simp] theorem endSlew_out : (s.endSlew).out = s.out := rfl
@[simp] theorem endSlew_now : (s.endSlew).now = s.now := rfl
@[simp] theorem endSlew_sta : (s.endSlew).sta = s.sta := rfl
@[simp] theorem endSlew_fresh : (s.endSlew).fresh = s.fresh := rfl
@[simp] theorem endSlew_posted : (s.endSlew).posted = s.posted := rfl
@[simp] theorem endSlew_latches : (s.endSlew).latches = s.latches := rfl
@[simp] theorem endSlew_hq : (s.endSlew).hq = s.hq := rfl
@[simp] theorem endSlew_evc : (s.endSlew).evc = s.evc := rfl
@[simp] theorem endSlew_pwr : (s.endSlew).pwr = s.pwr := rfl
@[simp] theorem endSlew_jrnl : (s.endSlew).jrnl = s.jrnl := rfl
@[simp] theorem endSlew_fab : (s.endSlew).fab = s.fab := rfl
@[simp] theorem endSlew_bays : (s.endSlew).bays = s.bays := rfl
@[simp] theorem endSlew_saus : (s.endSlew).saus = s.saus := rfl
@[simp] theorem endSlew_fac : (s.endSlew).fac = s.fac := rfl
@[simp] theorem endSlew_cfg : (s.endSlew).cfg = s.cfg := rfl
@[simp] theorem endSlew_fm : (s.endSlew).fm = s.fm := rfl
@[simp] theorem endSlew_lanes : (s.endSlew).lanes = s.lanes := rfl
@[simp] theorem endSlew_se : (s.endSlew).se = s.se := rfl
@[simp] theorem endSlew_prot : (s.endSlew).prot = s.prot := rfl
@[simp] theorem endSlew_ring : (s.endSlew).ring = s.ring := rfl
@[simp] theorem endSlew_opt : (s.endSlew).opt = s.opt := rfl
@[simp] theorem endSlew_clk : (s.endSlew).clk = s.clk := rfl
@[simp] theorem endSlew_cue : (s.endSlew).cue = s.cue := rfl
@[simp] theorem endSlew_dbg : (s.endSlew).dbg = s.dbg := rfl
@[simp] theorem endSlew_getF : (s.endSlew).getF = s.getF := rfl
@[simp] theorem endSlew_flag : (s.endSlew).flag = s.flag := rfl
@[simp] theorem endSlew_lat : (s.endSlew).lat = s.lat := rfl
@[simp] theorem keepPast_ident (f : Int) : (s.keepPast f).ident = s.ident := rfl
@[simp] theorem keepPast_regs (f : Int) : (s.keepPast f).regs = s.regs := rfl
@[simp] theorem keepPast_ctrs (f : Int) : (s.keepPast f).ctrs = s.ctrs := rfl
@[simp] theorem keepPast_snaps (f : Int) : (s.keepPast f).snaps = s.snaps := rfl
@[simp] theorem keepPast_mem (f : Int) : (s.keepPast f).mem = s.mem := rfl
@[simp] theorem keepPast_host (f : Int) : (s.keepPast f).host = s.host := rfl
@[simp] theorem keepPast_flash (f : Int) : (s.keepPast f).flash = s.flash := rfl
@[simp] theorem keepPast_hostBad (f : Int) : (s.keepPast f).hostBad = s.hostBad := rfl
@[simp] theorem keepPast_pending (f : Int) : (s.keepPast f).pending = s.pending := rfl
@[simp] theorem keepPast_out (f : Int) : (s.keepPast f).out = s.out := rfl
@[simp] theorem keepPast_now (f : Int) : (s.keepPast f).now = s.now := rfl
@[simp] theorem keepPast_sta (f : Int) : (s.keepPast f).sta = s.sta := rfl
@[simp] theorem keepPast_fresh (f : Int) : (s.keepPast f).fresh = s.fresh := rfl
@[simp] theorem keepPast_posted (f : Int) : (s.keepPast f).posted = s.posted := rfl
@[simp] theorem keepPast_latches (f : Int) : (s.keepPast f).latches = s.latches := rfl
@[simp] theorem keepPast_hq (f : Int) : (s.keepPast f).hq = s.hq := rfl
@[simp] theorem keepPast_evc (f : Int) : (s.keepPast f).evc = s.evc := rfl
@[simp] theorem keepPast_pwr (f : Int) : (s.keepPast f).pwr = s.pwr := rfl
@[simp] theorem keepPast_jrnl (f : Int) : (s.keepPast f).jrnl = s.jrnl := rfl
@[simp] theorem keepPast_fab (f : Int) : (s.keepPast f).fab = s.fab := rfl
@[simp] theorem keepPast_bays (f : Int) : (s.keepPast f).bays = s.bays := rfl
@[simp] theorem keepPast_saus (f : Int) : (s.keepPast f).saus = s.saus := rfl
@[simp] theorem keepPast_fac (f : Int) : (s.keepPast f).fac = s.fac := rfl
@[simp] theorem keepPast_cfg (f : Int) : (s.keepPast f).cfg = s.cfg := rfl
@[simp] theorem keepPast_fm (f : Int) : (s.keepPast f).fm = s.fm := rfl
@[simp] theorem keepPast_lanes (f : Int) : (s.keepPast f).lanes = s.lanes := rfl
@[simp] theorem keepPast_se (f : Int) : (s.keepPast f).se = s.se := rfl
@[simp] theorem keepPast_prot (f : Int) : (s.keepPast f).prot = s.prot := rfl
@[simp] theorem keepPast_ring (f : Int) : (s.keepPast f).ring = s.ring := rfl
@[simp] theorem keepPast_opt (f : Int) : (s.keepPast f).opt = s.opt := rfl
@[simp] theorem keepPast_clk (f : Int) : (s.keepPast f).clk = s.clk := rfl
@[simp] theorem keepPast_cue (f : Int) : (s.keepPast f).cue = s.cue := rfl
@[simp] theorem keepPast_dbg (f : Int) : (s.keepPast f).dbg = s.dbg := rfl
@[simp] theorem keepPast_getF (f : Int) : (s.keepPast f).getF = s.getF := rfl
@[simp] theorem keepPast_flag (f : Int) : (s.keepPast f).flag = s.flag := rfl
@[simp] theorem keepPast_lat (f : Int) : (s.keepPast f).lat = s.lat := rfl
@[simp] theorem fmWaits_ident (w : FmWait) : (s.fmWaits w).ident = s.ident := rfl
@[simp] theorem fmWaits_regs (w : FmWait) : (s.fmWaits w).regs = s.regs := rfl
@[simp] theorem fmWaits_ctrs (w : FmWait) : (s.fmWaits w).ctrs = s.ctrs := rfl
@[simp] theorem fmWaits_snaps (w : FmWait) : (s.fmWaits w).snaps = s.snaps := rfl
@[simp] theorem fmWaits_mem (w : FmWait) : (s.fmWaits w).mem = s.mem := rfl
@[simp] theorem fmWaits_host (w : FmWait) : (s.fmWaits w).host = s.host := rfl
@[simp] theorem fmWaits_flash (w : FmWait) : (s.fmWaits w).flash = s.flash := rfl
@[simp] theorem fmWaits_hostBad (w : FmWait) : (s.fmWaits w).hostBad = s.hostBad := rfl
@[simp] theorem fmWaits_pending (w : FmWait) : (s.fmWaits w).pending = s.pending := rfl
@[simp] theorem fmWaits_out (w : FmWait) : (s.fmWaits w).out = s.out := rfl
@[simp] theorem fmWaits_now (w : FmWait) : (s.fmWaits w).now = s.now := rfl
@[simp] theorem fmWaits_sta (w : FmWait) : (s.fmWaits w).sta = s.sta := rfl
@[simp] theorem fmWaits_fresh (w : FmWait) : (s.fmWaits w).fresh = s.fresh := rfl
@[simp] theorem fmWaits_posted (w : FmWait) : (s.fmWaits w).posted = s.posted := rfl
@[simp] theorem fmWaits_latches (w : FmWait) : (s.fmWaits w).latches = s.latches := rfl
@[simp] theorem fmWaits_hq (w : FmWait) : (s.fmWaits w).hq = s.hq := rfl
@[simp] theorem fmWaits_evc (w : FmWait) : (s.fmWaits w).evc = s.evc := rfl
@[simp] theorem fmWaits_pwr (w : FmWait) : (s.fmWaits w).pwr = s.pwr := rfl
@[simp] theorem fmWaits_jrnl (w : FmWait) : (s.fmWaits w).jrnl = s.jrnl := rfl
@[simp] theorem fmWaits_fab (w : FmWait) : (s.fmWaits w).fab = s.fab := rfl
@[simp] theorem fmWaits_bays (w : FmWait) : (s.fmWaits w).bays = s.bays := rfl
@[simp] theorem fmWaits_saus (w : FmWait) : (s.fmWaits w).saus = s.saus := rfl
@[simp] theorem fmWaits_fac (w : FmWait) : (s.fmWaits w).fac = s.fac := rfl
@[simp] theorem fmWaits_cfg (w : FmWait) : (s.fmWaits w).cfg = s.cfg := rfl
@[simp] theorem fmWaits_lanes (w : FmWait) : (s.fmWaits w).lanes = s.lanes := rfl
@[simp] theorem fmWaits_se (w : FmWait) : (s.fmWaits w).se = s.se := rfl
@[simp] theorem fmWaits_prot (w : FmWait) : (s.fmWaits w).prot = s.prot := rfl
@[simp] theorem fmWaits_ring (w : FmWait) : (s.fmWaits w).ring = s.ring := rfl
@[simp] theorem fmWaits_opt (w : FmWait) : (s.fmWaits w).opt = s.opt := rfl
@[simp] theorem fmWaits_tim (w : FmWait) : (s.fmWaits w).tim = s.tim := rfl
@[simp] theorem fmWaits_clk (w : FmWait) : (s.fmWaits w).clk = s.clk := rfl
@[simp] theorem fmWaits_cue (w : FmWait) : (s.fmWaits w).cue = s.cue := rfl
@[simp] theorem fmWaits_dbg (w : FmWait) : (s.fmWaits w).dbg = s.dbg := rfl
@[simp] theorem fmWaits_getF (w : FmWait) : (s.fmWaits w).getF = s.getF := rfl
@[simp] theorem fmWaits_flag (w : FmWait) : (s.fmWaits w).flag = s.flag := rfl
@[simp] theorem fmWaits_lat (w : FmWait) : (s.fmWaits w).lat = s.lat := rfl
@[simp] theorem floopHold_ident (q l : Nat) (v : Bool) : (s.floopHold q l v).ident = s.ident := rfl
@[simp] theorem floopHold_regs (q l : Nat) (v : Bool) : (s.floopHold q l v).regs = s.regs := rfl
@[simp] theorem floopHold_ctrs (q l : Nat) (v : Bool) : (s.floopHold q l v).ctrs = s.ctrs := rfl
@[simp] theorem floopHold_snaps (q l : Nat) (v : Bool) : (s.floopHold q l v).snaps = s.snaps := rfl
@[simp] theorem floopHold_mem (q l : Nat) (v : Bool) : (s.floopHold q l v).mem = s.mem := rfl
@[simp] theorem floopHold_host (q l : Nat) (v : Bool) : (s.floopHold q l v).host = s.host := rfl
@[simp] theorem floopHold_flash (q l : Nat) (v : Bool) : (s.floopHold q l v).flash = s.flash := rfl
@[simp] theorem floopHold_hostBad (q l : Nat) (v : Bool) : (s.floopHold q l v).hostBad = s.hostBad := rfl
@[simp] theorem floopHold_pending (q l : Nat) (v : Bool) : (s.floopHold q l v).pending = s.pending := rfl
@[simp] theorem floopHold_out (q l : Nat) (v : Bool) : (s.floopHold q l v).out = s.out := rfl
@[simp] theorem floopHold_now (q l : Nat) (v : Bool) : (s.floopHold q l v).now = s.now := rfl
@[simp] theorem floopHold_sta (q l : Nat) (v : Bool) : (s.floopHold q l v).sta = s.sta := rfl
@[simp] theorem floopHold_fresh (q l : Nat) (v : Bool) : (s.floopHold q l v).fresh = s.fresh := rfl
@[simp] theorem floopHold_posted (q l : Nat) (v : Bool) : (s.floopHold q l v).posted = s.posted := rfl
@[simp] theorem floopHold_latches (q l : Nat) (v : Bool) : (s.floopHold q l v).latches = s.latches := rfl
@[simp] theorem floopHold_hq (q l : Nat) (v : Bool) : (s.floopHold q l v).hq = s.hq := rfl
@[simp] theorem floopHold_evc (q l : Nat) (v : Bool) : (s.floopHold q l v).evc = s.evc := rfl
@[simp] theorem floopHold_pwr (q l : Nat) (v : Bool) : (s.floopHold q l v).pwr = s.pwr := rfl
@[simp] theorem floopHold_jrnl (q l : Nat) (v : Bool) : (s.floopHold q l v).jrnl = s.jrnl := rfl
@[simp] theorem floopHold_fab (q l : Nat) (v : Bool) : (s.floopHold q l v).fab = s.fab := rfl
@[simp] theorem floopHold_bays (q l : Nat) (v : Bool) : (s.floopHold q l v).bays = s.bays := rfl
@[simp] theorem floopHold_saus (q l : Nat) (v : Bool) : (s.floopHold q l v).saus = s.saus := rfl
@[simp] theorem floopHold_fac (q l : Nat) (v : Bool) : (s.floopHold q l v).fac = s.fac := rfl
@[simp] theorem floopHold_cfg (q l : Nat) (v : Bool) : (s.floopHold q l v).cfg = s.cfg := rfl
@[simp] theorem floopHold_fm (q l : Nat) (v : Bool) : (s.floopHold q l v).fm = s.fm := rfl
@[simp] theorem floopHold_lanes (q l : Nat) (v : Bool) : (s.floopHold q l v).lanes = s.lanes := rfl
@[simp] theorem floopHold_se (q l : Nat) (v : Bool) : (s.floopHold q l v).se = s.se := rfl
@[simp] theorem floopHold_prot (q l : Nat) (v : Bool) : (s.floopHold q l v).prot = s.prot := rfl
@[simp] theorem floopHold_ring (q l : Nat) (v : Bool) : (s.floopHold q l v).ring = s.ring := rfl
@[simp] theorem floopHold_opt (q l : Nat) (v : Bool) : (s.floopHold q l v).opt = s.opt := rfl
@[simp] theorem floopHold_tim (q l : Nat) (v : Bool) : (s.floopHold q l v).tim = s.tim := rfl
@[simp] theorem floopHold_lat (q l : Nat) (v : Bool) : (s.floopHold q l v).lat = s.lat := rfl
@[simp] theorem floopHold_cue (q l : Nat) (v : Bool) : (s.floopHold q l v).cue = s.cue := rfl
@[simp] theorem floopHold_dbg (q l : Nat) (v : Bool) : (s.floopHold q l v).dbg = s.dbg := rfl
@[simp] theorem floopHold_getF (q l : Nat) (v : Bool) (base : Nat) (fld : Fld) : (s.floopHold q l v).getF base fld = s.getF base fld := rfl
@[simp] theorem floopHold_flag (q l : Nat) (v : Bool) (base : Nat) (fld : Fld) : (s.floopHold q l v).flag base fld = s.flag base fld := rfl
@[simp] theorem setLate_ident (q n : Nat) : (s.setLate q n).ident = s.ident := rfl
@[simp] theorem setLate_regs (q n : Nat) : (s.setLate q n).regs = s.regs := rfl
@[simp] theorem setLate_ctrs (q n : Nat) : (s.setLate q n).ctrs = s.ctrs := rfl
@[simp] theorem setLate_snaps (q n : Nat) : (s.setLate q n).snaps = s.snaps := rfl
@[simp] theorem setLate_mem (q n : Nat) : (s.setLate q n).mem = s.mem := rfl
@[simp] theorem setLate_host (q n : Nat) : (s.setLate q n).host = s.host := rfl
@[simp] theorem setLate_flash (q n : Nat) : (s.setLate q n).flash = s.flash := rfl
@[simp] theorem setLate_hostBad (q n : Nat) : (s.setLate q n).hostBad = s.hostBad := rfl
@[simp] theorem setLate_pending (q n : Nat) : (s.setLate q n).pending = s.pending := rfl
@[simp] theorem setLate_out (q n : Nat) : (s.setLate q n).out = s.out := rfl
@[simp] theorem setLate_now (q n : Nat) : (s.setLate q n).now = s.now := rfl
@[simp] theorem setLate_sta (q n : Nat) : (s.setLate q n).sta = s.sta := rfl
@[simp] theorem setLate_fresh (q n : Nat) : (s.setLate q n).fresh = s.fresh := rfl
@[simp] theorem setLate_posted (q n : Nat) : (s.setLate q n).posted = s.posted := rfl
@[simp] theorem setLate_latches (q n : Nat) : (s.setLate q n).latches = s.latches := rfl
@[simp] theorem setLate_hq (q n : Nat) : (s.setLate q n).hq = s.hq := rfl
@[simp] theorem setLate_evc (q n : Nat) : (s.setLate q n).evc = s.evc := rfl
@[simp] theorem setLate_pwr (q n : Nat) : (s.setLate q n).pwr = s.pwr := rfl
@[simp] theorem setLate_jrnl (q n : Nat) : (s.setLate q n).jrnl = s.jrnl := rfl
@[simp] theorem setLate_bays (q n : Nat) : (s.setLate q n).bays = s.bays := rfl
@[simp] theorem setLate_saus (q n : Nat) : (s.setLate q n).saus = s.saus := rfl
@[simp] theorem setLate_fac (q n : Nat) : (s.setLate q n).fac = s.fac := rfl
@[simp] theorem setLate_cfg (q n : Nat) : (s.setLate q n).cfg = s.cfg := rfl
@[simp] theorem setLate_fm (q n : Nat) : (s.setLate q n).fm = s.fm := rfl
@[simp] theorem setLate_lanes (q n : Nat) : (s.setLate q n).lanes = s.lanes := rfl
@[simp] theorem setLate_se (q n : Nat) : (s.setLate q n).se = s.se := rfl
@[simp] theorem setLate_prot (q n : Nat) : (s.setLate q n).prot = s.prot := rfl
@[simp] theorem setLate_ring (q n : Nat) : (s.setLate q n).ring = s.ring := rfl
@[simp] theorem setLate_opt (q n : Nat) : (s.setLate q n).opt = s.opt := rfl
@[simp] theorem setLate_tim (q n : Nat) : (s.setLate q n).tim = s.tim := rfl
@[simp] theorem setLate_clk (q n : Nat) : (s.setLate q n).clk = s.clk := rfl
@[simp] theorem setLate_lat (q n : Nat) : (s.setLate q n).lat = s.lat := rfl
@[simp] theorem setLate_cue (q n : Nat) : (s.setLate q n).cue = s.cue := rfl
@[simp] theorem setLate_dbg (q n : Nat) : (s.setLate q n).dbg = s.dbg := rfl
@[simp] theorem setLate_getF (q n : Nat) (base : Nat) (fld : Fld) : (s.setLate q n).getF base fld = s.getF base fld := rfl
@[simp] theorem setLate_flag (q n : Nat) (base : Nat) (fld : Fld) : (s.setLate q n).flag base fld = s.flag base fld := rfl
@[simp] theorem clearUnit_ident (u : Nat) : (s.clearUnit u).ident = s.ident := rfl
@[simp] theorem clearUnit_regs (u : Nat) : (s.clearUnit u).regs = s.regs := rfl
@[simp] theorem clearUnit_ctrs (u : Nat) : (s.clearUnit u).ctrs = s.ctrs := rfl
@[simp] theorem clearUnit_snaps (u : Nat) : (s.clearUnit u).snaps = s.snaps := rfl
@[simp] theorem clearUnit_mem (u : Nat) : (s.clearUnit u).mem = s.mem := rfl
@[simp] theorem clearUnit_host (u : Nat) : (s.clearUnit u).host = s.host := rfl
@[simp] theorem clearUnit_flash (u : Nat) : (s.clearUnit u).flash = s.flash := rfl
@[simp] theorem clearUnit_hostBad (u : Nat) : (s.clearUnit u).hostBad = s.hostBad := rfl
@[simp] theorem clearUnit_pending (u : Nat) : (s.clearUnit u).pending = s.pending := rfl
@[simp] theorem clearUnit_out (u : Nat) : (s.clearUnit u).out = s.out := rfl
@[simp] theorem clearUnit_now (u : Nat) : (s.clearUnit u).now = s.now := rfl
@[simp] theorem clearUnit_sta (u : Nat) : (s.clearUnit u).sta = s.sta := rfl
@[simp] theorem clearUnit_fresh (u : Nat) : (s.clearUnit u).fresh = s.fresh := rfl
@[simp] theorem clearUnit_posted (u : Nat) : (s.clearUnit u).posted = s.posted := rfl
@[simp] theorem clearUnit_latches (u : Nat) : (s.clearUnit u).latches = s.latches := rfl
@[simp] theorem clearUnit_hq (u : Nat) : (s.clearUnit u).hq = s.hq := rfl
@[simp] theorem clearUnit_evc (u : Nat) : (s.clearUnit u).evc = s.evc := rfl
@[simp] theorem clearUnit_pwr (u : Nat) : (s.clearUnit u).pwr = s.pwr := rfl
@[simp] theorem clearUnit_jrnl (u : Nat) : (s.clearUnit u).jrnl = s.jrnl := rfl
@[simp] theorem clearUnit_fab (u : Nat) : (s.clearUnit u).fab = s.fab := rfl
@[simp] theorem clearUnit_saus (u : Nat) : (s.clearUnit u).saus = s.saus := rfl
@[simp] theorem clearUnit_fac (u : Nat) : (s.clearUnit u).fac = s.fac := rfl
@[simp] theorem clearUnit_cfg (u : Nat) : (s.clearUnit u).cfg = s.cfg := rfl
@[simp] theorem clearUnit_fm (u : Nat) : (s.clearUnit u).fm = s.fm := rfl
@[simp] theorem clearUnit_lanes (u : Nat) : (s.clearUnit u).lanes = s.lanes := rfl
@[simp] theorem clearUnit_se (u : Nat) : (s.clearUnit u).se = s.se := rfl
@[simp] theorem clearUnit_prot (u : Nat) : (s.clearUnit u).prot = s.prot := rfl
@[simp] theorem clearUnit_ring (u : Nat) : (s.clearUnit u).ring = s.ring := rfl
@[simp] theorem clearUnit_opt (u : Nat) : (s.clearUnit u).opt = s.opt := rfl
@[simp] theorem clearUnit_tim (u : Nat) : (s.clearUnit u).tim = s.tim := rfl
@[simp] theorem clearUnit_clk (u : Nat) : (s.clearUnit u).clk = s.clk := rfl
@[simp] theorem clearUnit_lat (u : Nat) : (s.clearUnit u).lat = s.lat := rfl
@[simp] theorem clearUnit_cue (u : Nat) : (s.clearUnit u).cue = s.cue := rfl
@[simp] theorem clearUnit_dbg (u : Nat) : (s.clearUnit u).dbg = s.dbg := rfl
@[simp] theorem clearUnit_getF (u : Nat) (base : Nat) (fld : Fld) : (s.clearUnit u).getF base fld = s.getF base fld := rfl
@[simp] theorem clearUnit_flag (u : Nat) (base : Nat) (fld : Fld) : (s.clearUnit u).flag base fld = s.flag base fld := rfl
@[simp] theorem writeMsixEntry_ident (data : Bool) (v : Fin 64) (a d : Nat) : (s.writeMsixEntry data v a d).ident = s.ident := rfl
@[simp] theorem writeMsixEntry_regs (data : Bool) (v : Fin 64) (a d : Nat) : (s.writeMsixEntry data v a d).regs = s.regs := rfl
@[simp] theorem writeMsixEntry_ctrs (data : Bool) (v : Fin 64) (a d : Nat) : (s.writeMsixEntry data v a d).ctrs = s.ctrs := rfl
@[simp] theorem writeMsixEntry_snaps (data : Bool) (v : Fin 64) (a d : Nat) : (s.writeMsixEntry data v a d).snaps = s.snaps := rfl
@[simp] theorem writeMsixEntry_mem (data : Bool) (v : Fin 64) (a d : Nat) : (s.writeMsixEntry data v a d).mem = s.mem := rfl
@[simp] theorem writeMsixEntry_host (data : Bool) (v : Fin 64) (a d : Nat) : (s.writeMsixEntry data v a d).host = s.host := rfl
@[simp] theorem writeMsixEntry_flash (data : Bool) (v : Fin 64) (a d : Nat) : (s.writeMsixEntry data v a d).flash = s.flash := rfl
@[simp] theorem writeMsixEntry_hostBad (data : Bool) (v : Fin 64) (a d : Nat) : (s.writeMsixEntry data v a d).hostBad = s.hostBad := rfl
@[simp] theorem writeMsixEntry_pending (data : Bool) (v : Fin 64) (a d : Nat) : (s.writeMsixEntry data v a d).pending = s.pending := rfl
@[simp] theorem writeMsixEntry_out (data : Bool) (v : Fin 64) (a d : Nat) : (s.writeMsixEntry data v a d).out = s.out := rfl
@[simp] theorem writeMsixEntry_now (data : Bool) (v : Fin 64) (a d : Nat) : (s.writeMsixEntry data v a d).now = s.now := rfl
@[simp] theorem writeMsixEntry_sta (data : Bool) (v : Fin 64) (a d : Nat) : (s.writeMsixEntry data v a d).sta = s.sta := rfl
@[simp] theorem writeMsixEntry_fresh (data : Bool) (v : Fin 64) (a d : Nat) : (s.writeMsixEntry data v a d).fresh = s.fresh := rfl
@[simp] theorem writeMsixEntry_posted (data : Bool) (v : Fin 64) (a d : Nat) : (s.writeMsixEntry data v a d).posted = s.posted := rfl
@[simp] theorem writeMsixEntry_latches (data : Bool) (v : Fin 64) (a d : Nat) : (s.writeMsixEntry data v a d).latches = s.latches := rfl
@[simp] theorem writeMsixEntry_hq (data : Bool) (v : Fin 64) (a d : Nat) : (s.writeMsixEntry data v a d).hq = s.hq := rfl
@[simp] theorem writeMsixEntry_pwr (data : Bool) (v : Fin 64) (a d : Nat) : (s.writeMsixEntry data v a d).pwr = s.pwr := rfl
@[simp] theorem writeMsixEntry_jrnl (data : Bool) (v : Fin 64) (a d : Nat) : (s.writeMsixEntry data v a d).jrnl = s.jrnl := rfl
@[simp] theorem writeMsixEntry_fab (data : Bool) (v : Fin 64) (a d : Nat) : (s.writeMsixEntry data v a d).fab = s.fab := rfl
@[simp] theorem writeMsixEntry_bays (data : Bool) (v : Fin 64) (a d : Nat) : (s.writeMsixEntry data v a d).bays = s.bays := rfl
@[simp] theorem writeMsixEntry_saus (data : Bool) (v : Fin 64) (a d : Nat) : (s.writeMsixEntry data v a d).saus = s.saus := rfl
@[simp] theorem writeMsixEntry_fac (data : Bool) (v : Fin 64) (a d : Nat) : (s.writeMsixEntry data v a d).fac = s.fac := rfl
@[simp] theorem writeMsixEntry_cfg (data : Bool) (v : Fin 64) (a d : Nat) : (s.writeMsixEntry data v a d).cfg = s.cfg := rfl
@[simp] theorem writeMsixEntry_fm (data : Bool) (v : Fin 64) (a d : Nat) : (s.writeMsixEntry data v a d).fm = s.fm := rfl
@[simp] theorem writeMsixEntry_lanes (data : Bool) (v : Fin 64) (a d : Nat) : (s.writeMsixEntry data v a d).lanes = s.lanes := rfl
@[simp] theorem writeMsixEntry_se (data : Bool) (v : Fin 64) (a d : Nat) : (s.writeMsixEntry data v a d).se = s.se := rfl
@[simp] theorem writeMsixEntry_prot (data : Bool) (v : Fin 64) (a d : Nat) : (s.writeMsixEntry data v a d).prot = s.prot := rfl
@[simp] theorem writeMsixEntry_ring (data : Bool) (v : Fin 64) (a d : Nat) : (s.writeMsixEntry data v a d).ring = s.ring := rfl
@[simp] theorem writeMsixEntry_opt (data : Bool) (v : Fin 64) (a d : Nat) : (s.writeMsixEntry data v a d).opt = s.opt := rfl
@[simp] theorem writeMsixEntry_tim (data : Bool) (v : Fin 64) (a d : Nat) : (s.writeMsixEntry data v a d).tim = s.tim := rfl
@[simp] theorem writeMsixEntry_clk (data : Bool) (v : Fin 64) (a d : Nat) : (s.writeMsixEntry data v a d).clk = s.clk := rfl
@[simp] theorem writeMsixEntry_lat (data : Bool) (v : Fin 64) (a d : Nat) : (s.writeMsixEntry data v a d).lat = s.lat := rfl
@[simp] theorem writeMsixEntry_cue (data : Bool) (v : Fin 64) (a d : Nat) : (s.writeMsixEntry data v a d).cue = s.cue := rfl
@[simp] theorem writeMsixEntry_dbg (data : Bool) (v : Fin 64) (a d : Nat) : (s.writeMsixEntry data v a d).dbg = s.dbg := rfl
@[simp] theorem writeMsixEntry_getF (data : Bool) (v : Fin 64) (a d : Nat) (base : Nat) (fld : Fld) : (s.writeMsixEntry data v a d).getF base fld = s.getF base fld := rfl
@[simp] theorem writeMsixEntry_flag (data : Bool) (v : Fin 64) (a d : Nat) (base : Nat) (fld : Fld) : (s.writeMsixEntry data v a d).flag base fld = s.flag base fld := rfl
@[simp] theorem timeRuns_ident (ns d : Nat) : (s.timeRuns ns d).ident = s.ident := rfl
@[simp] theorem timeRuns_regs (ns d : Nat) : (s.timeRuns ns d).regs = s.regs := rfl
@[simp] theorem timeRuns_ctrs (ns d : Nat) : (s.timeRuns ns d).ctrs = s.ctrs := rfl
@[simp] theorem timeRuns_snaps (ns d : Nat) : (s.timeRuns ns d).snaps = s.snaps := rfl
@[simp] theorem timeRuns_mem (ns d : Nat) : (s.timeRuns ns d).mem = s.mem := rfl
@[simp] theorem timeRuns_host (ns d : Nat) : (s.timeRuns ns d).host = s.host := rfl
@[simp] theorem timeRuns_flash (ns d : Nat) : (s.timeRuns ns d).flash = s.flash := rfl
@[simp] theorem timeRuns_hostBad (ns d : Nat) : (s.timeRuns ns d).hostBad = s.hostBad := rfl
@[simp] theorem timeRuns_pending (ns d : Nat) : (s.timeRuns ns d).pending = s.pending := rfl
@[simp] theorem timeRuns_out (ns d : Nat) : (s.timeRuns ns d).out = s.out := rfl
@[simp] theorem timeRuns_fresh (ns d : Nat) : (s.timeRuns ns d).fresh = s.fresh := rfl
@[simp] theorem timeRuns_posted (ns d : Nat) : (s.timeRuns ns d).posted = s.posted := rfl
@[simp] theorem timeRuns_latches (ns d : Nat) : (s.timeRuns ns d).latches = s.latches := rfl
@[simp] theorem timeRuns_hq (ns d : Nat) : (s.timeRuns ns d).hq = s.hq := rfl
@[simp] theorem timeRuns_evc (ns d : Nat) : (s.timeRuns ns d).evc = s.evc := rfl
@[simp] theorem timeRuns_pwr (ns d : Nat) : (s.timeRuns ns d).pwr = s.pwr := rfl
@[simp] theorem timeRuns_jrnl (ns d : Nat) : (s.timeRuns ns d).jrnl = s.jrnl := rfl
@[simp] theorem timeRuns_fab (ns d : Nat) : (s.timeRuns ns d).fab = s.fab := rfl
@[simp] theorem timeRuns_bays (ns d : Nat) : (s.timeRuns ns d).bays = s.bays := rfl
@[simp] theorem timeRuns_saus (ns d : Nat) : (s.timeRuns ns d).saus = s.saus := rfl
@[simp] theorem timeRuns_fac (ns d : Nat) : (s.timeRuns ns d).fac = s.fac := rfl
@[simp] theorem timeRuns_cfg (ns d : Nat) : (s.timeRuns ns d).cfg = s.cfg := rfl
@[simp] theorem timeRuns_fm (ns d : Nat) : (s.timeRuns ns d).fm = s.fm := rfl
@[simp] theorem timeRuns_lanes (ns d : Nat) : (s.timeRuns ns d).lanes = s.lanes := rfl
@[simp] theorem timeRuns_se (ns d : Nat) : (s.timeRuns ns d).se = s.se := rfl
@[simp] theorem timeRuns_prot (ns d : Nat) : (s.timeRuns ns d).prot = s.prot := rfl
@[simp] theorem timeRuns_ring (ns d : Nat) : (s.timeRuns ns d).ring = s.ring := rfl
@[simp] theorem timeRuns_opt (ns d : Nat) : (s.timeRuns ns d).opt = s.opt := rfl
@[simp] theorem timeRuns_clk (ns d : Nat) : (s.timeRuns ns d).clk = s.clk := rfl
@[simp] theorem timeRuns_lat (ns d : Nat) : (s.timeRuns ns d).lat = s.lat := rfl
@[simp] theorem timeRuns_cue (ns d : Nat) : (s.timeRuns ns d).cue = s.cue := rfl
@[simp] theorem timeRuns_dbg (ns d : Nat) : (s.timeRuns ns d).dbg = s.dbg := rfl
@[simp] theorem timeRuns_getF (ns d : Nat) (base : Nat) (fld : Fld) : (s.timeRuns ns d).getF base fld = s.getF base fld := rfl
@[simp] theorem timeRuns_flag (ns d : Nat) (base : Nat) (fld : Fld) : (s.timeRuns ns d).flag base fld = s.flag base fld := rfl
@[simp] theorem timeRuns_now (ns d : Nat) : (s.timeRuns ns d).now = s.now + ns := rfl
@[simp] theorem timeRuns_sta (ns d : Nat) : (s.timeRuns ns d).sta = s.sta + d := rfl

/-- Real time is carried to an instant that lies ahead and never goes back. -/
theorem reachNow_now (t : Nat) : (s.reachNow t).now = max s.now t := by
  unfold reachNow
  split
  · show s.now + (t - s.now) = max s.now t
    omega
  · omega

/-- Station time reaches an instant that lies ahead and never goes back. -/
theorem reach_sta (t : Nat) : (s.reach t).sta = max s.sta t := by
  unfold reach
  split
  · show s.sta + (t - s.sta) = max s.sta t
    omega
  · omega

end Sys2Proof.Machine.State
end

