-- ==== Sys2Proof/Machine/Pins.lean ====
section
/-! DEFINITION. What each group of output balls shows (R671), as the state gives it: pins hold nothing of their own. -/
namespace Sys2Proof.Machine

/-- An output ball of R671's groups: user I/O k of Qq (R686), probe output k of Qq (R157), CLKOUT k, the transmit pair of lane n, and the
single balls. -/
inductive Ball where
  | uio (q : Fin 4) (k : Fin 112)
  | probe (q k : Fin 4)
  | clkout (k : Fin 4)
  | laneTx (n : Fin 144)
  | thermN
  | tdo
  | xspiCsN
  | xspiResetN
deriving DecidableEq, Repr

/-- What a ball shows. -/
inductive BallState where
  /-- Nothing drives it, and nothing pulls it. -/
  | highZ
  /-- High-impedance with the pull of a UIO_PAD code (R686): none, down or up. -/
  | pull (code : Nat)
  /-- Driven low. -/
  | low
  /-- Driven high. -/
  | high
  /-- A lane's pair without power. -/
  | undriven
  /-- Electrical idle (R391, R392). -/
  | idle
  /-- Not pulled low by the open drain. -/
  | released
  /-- Driven by the block that owns it. -/
  | running
  /-- Held by a boundary-scan instruction (R643). -/
  | scanned
  /-- A clock spine, divided by 2^div (R164). -/
  | clock (div : Nat)
  /-- What a lane's transmitter sends (R391, R392). -/
  | sends (what : TxSource)
deriving DecidableEq, Repr

/-- A rail of the main supply, as R632 numbers it, has left its tolerance (R618). -/
def State.railLost (s : State) (r : Nat) : Bool := s.pwr.boot == .inReset && s.pwr.brownout == some r

/-- The pull that UIO_PAD shows for user I/O k of Qq (R275, R686). -/
def State.padPull (s : State) (q k : Nat) : Nat :=
  let v := s.viewUio q (0x100 + 4 * k)
  bitsOf v.value 11 10 + (if bitsOf v.mask 11 10 = 0 then F.UIO_PAD_pull.rst else 0)

/-- A driven ball shows a level. -/
def BallState.level (b : Bool) : BallState := if b then .high else .low
/-- User I/O k of Qq (R224, R275, R671): the design drives it through the isolation cells of its output and its output enable, and the pad's
pull shows while the enable is 0. Under a full load the power-on pull shows until the plane has passed its readback. -/
def State.uioBall (s : State) (q k : Nat) : BallState :=
  let f := uioFacet q k
  if s.railLost 7 then .highZ
  else if s.uioIdle f || (s.uioLoading f && !s.planeValid f (s.facetPlane f)) then .pull F.UIO_PAD_pull.rst
  else if s.uioDriven q k then .level (s.uioOut q k 0)
  else .pull (s.padPull q k)

/-- What probe output k of Qq brings to its ball while it is enabled (R158–R160, R164): a constant, a tile output as the active plane gives it,
or a divided spine. A facet that is OFF or under direct rewrite reads 0; one that is only shown OFF still drives (R657). -/
def State.probeBall (s : State) (q k : Nat) : BallState :=
  let sel := probeBase q + 4 * k
  let c := s.getF sel F.PROBE_SEL_col
  let r := s.getF sel F.PROBE_SEL_row
  let x := s.getF sel F.PROBE_SEL_spine
  let f := 12 * q + tileLocal c r
  match s.getF sel F.PROBE_SEL_kind with
  | 0 => .low
  | 1 =>
    if 768 ≤ c ∨ 480 ≤ r then .low
    else if (s.facetState f = fcOff ∧ !s.facetEmul f) ∨ (s.facetX f).rewrite.isSome then .low
    else
      match s.probeSampled q k with
      | some _ => .level (2 ≤ SMap.get 0 s.fab.samples (4 * q + k))
      | none => .level (s.node q (.out c r (s.getF sel F.PROBE_SEL_out)))
  | 2 => if x < 24 && s.spineRuns q x then .clock (s.getF sel F.PROBE_OPT_div) else .low
  | _ => .high

/-- The lane sends something on its pair (R391, R392, R434, R437): not with near-end loopback, and an SDI lane only while a raster runs on it, but
for a pattern or far-end loopback. -/
def State.laneSends (s : State) (n : Nat) : Bool :=
  s.flag (laneBase n) F.LANE_STAT_tx_ready && bitsOf (s.laneCfg n) 22 20 != 1 &&
  (s.lanePcs n != 3 || bitsOf (s.laneCfg n) 22 20 == 2 || bitsOf (s.laneX n).prbs 31 28 != 0 ||
   (List.range (n % 8 + 1)).any (fun k => let h := n - k
     s.flag (chBase h) F.SE_CH_CFG_tx_on && (s.seCh h).txLine != 0 && decide (k < mapLanes (s.getF (chBase h) F.SE_CH_CFG_tx_map))))
/-- What a ball shows (R671). TDO drives only while a scan shifts, which is within one command here. A domain that is OFF gives its balls the state of power-on reset. -/
def State.ball (s : State) : Ball → BallState
  | .uio q k => if s.scanHolds then .scanned else s.uioBall q.val k.val
  | .probe q k =>
    if s.railLost 7 then .highZ
    else if s.dom (spineDom q.val) != 0 && !s.probeLocked && (s.getF (probeBase q.val) F.PROBE_CTL_enable).testBit k.val then s.probeBall q.val k.val
    else .pull F.UIO_PAD_pull.rst
  | .clkout k =>
    if s.railLost 7 then .highZ
    else if s.getF (clkoBase + 8 * k.val) F.CLKO_SET_kind = 6 then .level s.pulseFrom.isSome
    else if s.clkoutRuns k.val then .running
    else .low
  | .laneTx n =>
    if s.railLost 5 || s.railLost 6 then .undriven
    else if s.scanHolds then .scanned
    else if s.laneSends n.val then .sends (s.txSource n.val)
    else .idle
  | .thermN => if s.pwr.thermN then .released else .low
  | .tdo => .highZ
  | .xspiCsN => if s.railLost 7 then .highZ else if s.pwr.boot = .inReset then .high else .running
  | .xspiResetN =>
    if s.railLost 7 then .highZ
    else if s.pwr.boot = .inReset ∨ (s.pwr.boot = .t0 ∧ s.now < s.pwr.t0 + 100000) then .low
    else .running

end Sys2Proof.Machine
end

