-- ==== Sys2Proof/WellFormed.lean ====
section
/-! DEFINITION. Which commands are well formed: the limits that the spec puts on an operand by itself, whatever the state. An ill-formed
command stands for nothing that the device's surroundings can do; its meaning is total all the same. -/
namespace Sys2Proof
open Sys2Proof.Machine

/-- A packet has 2 to 255 words (R96). -/
def packetLengthOk (c : Cmd) : Bool := decide (c.params.length ≤ 253)
/-- A quadrant has 4,096 bays and 200 deep bays (R165). -/
def bayNumberOk (deep : Bool) (i : Fin 4096) : Bool := !deep || decide (i.val < 200)

/-- A command is well formed. -/
def Instr.wf : Instr → Bool
  | .registerWrite _ _ bytes => decide (0 < bytes.length)
  | .timeLatchRead .. => true
  | .postedWriteApply .. => true
  | .postedWriteTimeout .. => true
  | .snapWrite .. => true
  | .snapClear .. => true
  | .fabricWindowAccess .. => true
  | .evcSet .. => true
  | .evcMaskWrite .. => true
  | .evcRouteWrite .. => true
  | .msixMessage .. => true
  | .msixUnmask .. => true
  | .pcieConventionalReset => true
  | .pcieHotReset => true
  | .functionLevelReset .. => true
  | .pcieLinkDown => true
  | .doorbell .. => true
  | .hqRqHeadWrite .. => true
  | .hqQEnable .. => true
  | .hqQDisable .. => true
  | .commandFetch .. => true
  | .replyWrite .. => true
  | .spiGo .. => true
  | .spiAck .. => true
  | .spiWriteFrame .. => true
  | .spiReadFrame .. => true
  | .spiStatusFrame => true
  | .spiOtherFrame .. => true
  | .latticeCommandReceive peer ws => decide (peer < 2 ^ 48) && decide (2 ≤ ws.length) && decide (ws.length ≤ 128)
  | .ping c => packetLengthOk c
  | .getInfo c => packetLengthOk c
  | .getCaps c => packetLengthOk c
  | .setPower c => packetLengthOk c
  | .setPowerQuery c => packetLengthOk c
  | .setPowerCompletion .. => true
  | .domainDrainEnd .. => true
  | .reset c => packetLengthOk c
  | .resetCompletion .. => true
  | .facetResetRelease .. => true
  | .fwStage c => packetLengthOk c
  | .fwStageCompletion .. => true
  | .fwActivate c => packetLengthOk c
  | .fwHandoverStart => true
  | .fwActivateWaitTimeout => true
  | .fwHandoverEnd .. => true
  | .fwHandoverFail => true
  | .schedCancel c => packetLengthOk c
  | .snap c => packetLengthOk c
  | .snapAct .. => true
  | .snapCompletion => true
  | .scheduledActionMissed .. => true
  | .operationTimeout .. => true
  | .dmaStart .. => true
  | .dmaDisable .. => true
  | .dmaDisableDone .. => true
  | .dmaAbort .. => true
  | .dmaTransferDone .. => true
  | .lanePortBeatReceive .. => true
  | .lanePortBeatRequest .. => true
  | .spCtlWrite .. => true
  | .regportRequest .. => true
  | .regportResponse .. => true
  | .regportTimeout .. => true
  | .userEventLine .. => true
  | .probeCtlWrite .. => true
  | .bayWrite _ deep i _ _ _ _ => bayNumberOk deep i
  | .bayRead _ deep i _ _ => bayNumberOk deep i
  | .bayClear _ deep i => bayNumberOk deep i
  | .bayMend _ deep i => bayNumberOk deep i
  | .bayRebuild _ deep i => bayNumberOk deep i
  | .bayScrubCheck _ deep i => bayNumberOk deep i
  | .qcRawRead .. => true
  | .qcRawWrite .. => true
  | .rawAccessDone .. => true
  | .rawAccessTimeout .. => true
  | .queueWrite .. => true
  | .queueRead .. => true
  | .qcQctlWrite .. => true
  | .qcQcmdFlush .. => true
  | .facetSwapAt c => packetLengthOk c
  | .facetSwapEdge .. => true
  | .facetSwapTriggerTimeout .. => true
  | .facetSwapNoEdge .. => true
  | .facetSwapHoldEnd .. => true
  | .facetBayInitDone .. => true
  | .facetFence c => packetLengthOk c
  | .facetFenceQuery c => packetLengthOk c
  | .facetRewrite c => packetLengthOk c
  | .facetWriteDone .. => true
  | .facetReleaseStage .. => true
  | .cfgStage c => packetLengthOk c
  | .cfgStageData .. => true
  | .cfgStageTimeout .. => true
  | .cfgPush .. => true
  | .cfgVerify c => packetLengthOk c
  | .cfgVerifyCompletion .. => true
  | .cfgApply c => packetLengthOk c
  | .cfgApplyWriteDone .. => true
  | .scrubCtl c => packetLengthOk c
  | .scrubCtlQuery c => packetLengthOk c
  | .scrubFrameCheck .. => true
  | .keyLoad c => packetLengthOk c
  | .keyLoadCompletion .. => true
  | .ringFlitReceive .. => true
  | .ringReplay .. => true
  | .ringPacketRoute .. => true
  | .niPacketDeliver .. => true
  | .creditReturn .. => true
  | .fencePacket .. => true
  | .fabricRequest .. => true
  | .fabricResponse .. => true
  | .niFlowBeat .. => true
  | .niFlowAdmit .. => true
  | .niFlowWithdraw .. => true
  | .routeChangeApply .. => true
  | .niStarvation .. => true
  | .ringRequestTimeout .. => true
  | .timeBeacon .. => true
  | .timeBeaconLoss .. => true
  | .refSelect c => packetLengthOk c
  | .refSelectQuery c => packetLengthOk c
  | .refEntryQualify .. => true
  | .refEntryDisqualify .. => true
  | .timeLock => true
  | .ptpMessageReceive .. => true
  | .ppsEdge .. => true
  | .timeSet c => packetLengthOk c
  | .timeSetQuery c => packetLengthOk c
  | .timeSetSeconds => true
  | .loopSet c => packetLengthOk c
  | .loopSetQuery c => packetLengthOk c
  | .loopLock .. => true
  | .loopWindow c => packetLengthOk c
  | .loopWindowQuery c => packetLengthOk c
  | .loopFallback c => packetLengthOk c
  | .loopMonitorTrip .. => true
  | .loopRefQualify .. => true
  | .xoReady .. => true
  | .xoFail .. => true
  | .xoStop => true
  | .xo0Stopped => true
  | .fabricLoopRefLost .. => true
  | .fabricLoopRelock .. => true
  | .clkoutSet c => packetLengthOk c
  | .clkoutSetQuery c => packetLengthOk c
  | .laneSet c => packetLengthOk c
  | .laneSetQuery c => packetLengthOk c
  | .laneSetAct .. => true
  | .laneSetCompletion .. => true
  | .laneSignalDetect .. => true
  | .laneSignalLoss .. => true
  | .laneCdrLock .. => true
  | .laneLockTimeout .. => true
  | .laneAlignAcquire _ pos => decide (pos < 66)
  | .laneHuntTimeout .. => true
  | .laneAlignLoss .. => true
  | .laneRecoveryTimeout .. => true
  | .refPinLost .. => true
  | .refPinReturn .. => true
  | .lanePrbs c => packetLengthOk c
  | .lanePrbsQuery c => packetLengthOk c
  | .prbsLock .. => true
  | .prbsLockLoss .. => true
  | .laneEye c => packetLengthOk c
  | .laneEyeCompletion .. => true
  | .laneBitslip c => packetLengthOk c
  | .laneCal c => packetLengthOk c
  | .laneCalCompletion .. => true
  | .laneRetire c => packetLengthOk c
  | .laneRetireCompletion .. => true
  | .sdiRxSet c => packetLengthOk c
  | .sdiRxSetQuery c => packetLengthOk c
  | .sdiRxSetAct .. => true
  | .sdiRxLine .. => true
  | .sdiRxFrame .. => true
  | .sdiInputLost .. => true
  | .sdiTxSet c => packetLengthOk c
  | .sdiTxSetQuery c => packetLengthOk c
  | .sdiTxSetAct .. => true
  | .sdiTxFirstFrame .. => true
  | .sdiTxLine .. => true
  | .xptAt c => packetLengthOk c
  | .xptAtQuery c => packetLengthOk c
  | .xptAtAct .. => true
  | .ipFlowAdd c => packetLengthOk c
  | .ipFlowAddQuery c => packetLengthOk c
  | .ipFlowDel c => packetLengthOk c
  | .mergeSet c => packetLengthOk c
  | .mergeSetQuery c => packetLengthOk c
  | .streamDisable c => packetLengthOk c
  | .streamDisableCompletion .. => true
  | .streamAbort c => packetLengthOk c
  | .ethFrameReceive .. => true
  | .ethControlPacket .. => true
  | .ipPacketReceive .. => true
  | .mergePacketRelease .. => true
  | .ipFlowLost .. => true
  | .ethPortUp .. => true
  | .ethPortDown .. => true
  | .ipTxPacketDue .. => true
  | .protSet c => packetLengthOk c
  | .protSetQuery c => packetLengthOk c
  | .protEyePeriod .. => true
  | .protSecond .. => true
  | .ptpDelayReqExchange .. => true
  | .edgeFlitReceive .. => true
  | .edgeSpareSwitch .. => true
  | .edgeFullTrainDone .. => true
  | .edgeFastRetrainDone .. => true
  | .edgeWaitSplit .. => true
  | .edgeRetrain c => packetLengthOk c
  | .edgeRetrainCompletion .. => true
  | .shortEdgeWordReceive x bad => (match x with | .bundle .. => bad.all (fun n => decide (n.val < 58)) | .lamp _ => bad.all (fun n => decide (n.val < 5)) | .dram .. => true)
  | .lampLineMeasure .. => true
  | .lampWarmDone .. => true
  | .lampWarmTimeout .. => true
  | .lampSwap c => packetLengthOk c
  | .lampSwapCompletion .. => true
  | .ucieLinkTrained .. => true
  | .ucieIdentityRecord .. => true
  | .ucieFlitReceive l _ => decide (l.length = 256)
  | .uciePartnerRequest => true
  | .uciePartnerEvent => true
  | .psysWinWrite .. => true
  | .frameMemoryRead _ a n _ => decide (1 ≤ n.val) && decide (a.toNat % 512 + n.val ≤ 512)
  | .frameMemoryWrite _ a bs _ _ _ => decide (1 ≤ bs.length) && decide (a.toNat % 512 + bs.length ≤ 512)
  | .dramRefresh .. => true
  | .correctedWriteback .. => true
  | .sectorSet c => packetLengthOk c
  | .sectorSetQuery c => packetLengthOk c
  | .sectorInitDone .. => true
  | .sectorRemoveDone .. => true
  | .sectorRights c => packetLengthOk c
  | .sectorRightsQuery c => packetLengthOk c
  | .rekeySweepStart .. => true
  | .rekeySweepDone .. => true
  | .rekeyNow c => packetLengthOk c
  | .rekeyNowCompletion .. => true
  | .cueCtl c => packetLengthOk c
  | .cueCtlQuery c => packetLengthOk c
  | .cueCtlCompletion .. => true
  | .cueFault .. => true
  | .cueTimerInterrupt .. => true
  | .cueReservationTimeout .. => true
  | .cueWdtExpiry .. => true
  | .cueWdtKick .. => true
  | .cueWdtCfgWrite .. => true
  | .cueMsipWrite .. => true
  | .mbCfgWrite .. => true
  | .mbMsgWrite .. => true
  | .mbRing .. => true
  | .mbReply .. => true
  | .mbStatWithdraw .. => true
  | .glenuFrameReceive .. => true
  | .glenuResendTimeout .. => true
  | .glenuAligned .. => true
  | .glenuHelloSend .. => true
  | .glenuHelloTimeout .. => true
  | .latticeRequestTimeout .. => true
  | .latticeReplyReceive .. => true
  | .latDiscover c => packetLengthOk c
  | .latDiscoverCompletion => true
  | .latAssign c => packetLengthOk c
  | .latAssignQuery c => packetLengthOk c
  | .latRouteSet c => packetLengthOk c
  | .latRouteSetQuery c => packetLengthOk c
  | .linkRecordReapply .. => true
  | .powerOnReset => true
  | .railLoss .. => true
  | .stewardBoot .. => true
  | .deviceBringup => true
  | .partnerRelease => true
  | .temperatureSample temps => decide (temps.length = 14)
  | .thermalControlStop => true
  | .thermTripClear .. => true
  | .channelRetire c => packetLengthOk c
  | .channelRetireCompletion => true
  | .channelRestore c => packetLengthOk c
  | .channelRestoreCompletion .. => true
  | .journalRead c => packetLengthOk c
  | .journalClear c => packetLengthOk c
  | .vccDbgRise => true
  | .vccDbgLoss => true
  | .testLogicReset => true
  | .extest .. => true
  | .idcode => true
  | .samplePreload .. => true
  | .clamp => true
  | .highz => true
  | .extestPulse .. => true
  | .extestTrain .. => true
  | .bypass => true
  | .dbgreg .. => true
  | .cmdpath .. => true
  | .dbgChallenge c => packetLengthOk c
  | .nonceExpiry => true
  | .dbgUnlock c => packetLengthOk c
  | .rightsExpiry => true
  | .dbgRelock .. => true
  | .dbgaGo .. => true
  | .dbgaAccessDone .. => true
  | .dbgaTimeout => true
  | .dbgHalt .. => true
  | .dbgResume .. => true
  | .dbgStep .. => true
  | .dbgGroupHalt .. => true
  | .dbgGroupResume .. => true
  | .breakpointHit .. => true
  | .dbgCregGo .. => true
  | .dbgHoldCueWrite .. => true
  | .dbgHoldFWrite .. => true
  | .dbgStimWrite .. => true
  | .pcSample pcs => decide (pcs.length = 8)
  | .tracePacketStore .. => true
  | .dbgTrcClear .. => true
  | .sauClockEdge .. => true
  | .tileClockEdge .. => true
  | .laneWordReceive .. => true
  | .porNAsserted => true
  | .vccAonLoss => true

end Sys2Proof
end

