-- ==== Sys2Proof/Tests/Slice0.lean ====
section
/-! SUPPORT. Tests: ill-formed commands, the spec's own worked examples, and for every statement of Obligations.lean a state and operands that
meet its hypotheses. A witness's theorem says that the hypotheses of the clause hold together; its proof gives the state and the operands. -/
namespace Sys2Proof.Tests
open Sys2Proof Sys2Proof.Machine
set_option maxRecDepth 40000
set_option exponentiation.threshold 1024

/-- Ready, every die out of reset, every domain ON. -/
def up : State := { State.reset with pwr := { State.reset.pwr with boot := .ready, inReset := 0, dom := (List.range 85).map (fun d => (d, 1)) } }
/-- A packet. -/
def pk (die blk inst : Nat) (ps : List Nat) : Cmd := { src := .set 0, tag := 1, word1 := targetWord die blk inst, params := ps.map wd }
/-- An operation. -/
def opr (opcode die blk inst : Nat) (ps : List Nat) (stage : Nat := 0) (instant : Option Nat := none) : Op :=
  { src := .set 0, tag := 1, opcode := opcode, word1 := targetWord die blk inst, params := ps.map wd, stage := stage, instant := instant }
/-- A state with an operation pending. -/
def run (s : State) (o : Op) : State := { s with hq := { s.hq with ops := [o] } }
/-- A state whose steward has fetched a command of the set and turns to it. -/
def got (s : State) (op : Nat) (c : Cmd) : State := { s with hq := { s.hq with inbox := [(op, c)] } }
/-- A state with fields set. -/
def withF (s : State) (l : List (Nat × Fld × Nat)) : State := l.foldl (fun s x => s.setF x.1 x.2.1 x.2.2) s
/-- A state at a boot step. -/
def at_ (b : Boot) : State := { up with pwr := { up.pwr with boot := b } }
/-- A state with a domain in a state. -/
def domAt (d v : Nat) (s : State) : State := { s with pwr := { s.pwr with dom := SMap.put 0 s.pwr.dom d v } }
/-- Debug on, with every right. -/
def dbgUp : State := withF { up with dbg := { up.dbg with on := true } } [(dbgBase, F.DBG_RIGHTS_rights, 0xFF)]
/-- Mailbox 0 bound from agent 1 to agent 2. -/
def mbUp : State := withF up [(mbBase 0, F.MB_CFG_enable, 1), (mbBase 0, F.MB_CFG_sender, 1), (mbBase 0, F.MB_CFG_receiver, 2)]
/-- The same, with a message in it. -/
def mbFullUp : State := withF mbUp [(mbBase 0, F.MB_STAT_full, 1)]
/-- Facet 0 RUNNING. -/
def run0 : State := withF up [(facetBase 0, F.FACET_STAT_state, fcRunning), (facetBase 0, F.FACET_STAT_holding, 0)]
/-- The same, with a plane whose regional clock 1 runs from station loop 0 and clocks both ports of bays 0 and 1 and unit 0 of the arithmetic,
whose inputs have sources outside the fabric. -/
def clk0 : State :=
  { run0 with fab := { run0.fab with spines := [(0, 65)] }, clk := { run0.clk with loops := [(0, { running := true })] }
              fac := { run0.fac with cfg := [(0, {
                regional := [1], clocks := [(0, 1), (1, 1), (2, 1), (3, 1)], saus := [(0, { clkSel := 1 })], sauIn := [(0, 2 ^ 131 - 1)], bayIn := (List.range 4).map (fun k => (k, 2 ^ 65 - 1))
                sels := (List.range 131).map (fun b => ((Mux.sau 0 b).number, 1)) ++ [0, 1, 64].flatMap (fun b => [((Mux.bay 0 0 b).number, 1), ((Mux.bay 1 0 b).number, 1)])
                binds := [{ n := 0, deep := false, paired := false, bay := 0 }] })] } }
/-- Tracing with export to the register port of Q1, whose facet's cells hold. -/
def exp0 : State := withF dbgUp [(dbgBase, F.DBG_TRC_CTL_enable, 1), (dbgBase, F.DBG_TRC_CTL_export, 1), (dbgBase, F.DBG_TRC_EXP_SIZE_size, 1),
  (dbgBase, F.DBG_TRC_EXP_HI_base, 0x40), (qsysBase 0, F.QSYS_REGPORT_present, 1), (facetBase 0, F.FACET_STAT_state, fcRunning),
  (facetBase 0, F.FACET_STAT_holding, 1)]
/-- Lane 0 in a state. -/
def laneIn (v : Nat) : State := withF up [(laneBase 0, F.LANE_STAT_state, v)]
/-- A packet whose header words are 0 but for the first. -/
def pkt (w : Nat) : Pkt := { hdr := w :: List.replicate 7 0 }
/-- Vertex 0 with a network interface. -/
def withNi (n : Ni) : State := { run0 with ring := { run0.ring with nis := [(0, n)] } }
/-- Lane 0 carries SDI at 1.485 Gb/s. -/
def sdi0 : State := withF up [(laneBase 0, F.LANE_STAT_state, lnService), (laneBase 0, F.LANE_CFG0_word5, 0x30000000), (laneBase 0, F.LANE_CFG1_word6, 0xA0000),
  (laneBase 0, F.LANE_REFKHZ_word7, 148500)]
/-- Lane 0 a 10G Ethernet port whose lane is in service. -/
def eth0 : State := withF up [(laneBase 0, F.LANE_STAT_state, lnService), (laneBase 0, F.LANE_CFG0_word5, 0xD0000000), (laneBase 0, F.LANE_CFG1_word6, 0x420000),
  (laneBase 0, F.LANE_REFKHZ_word7, 156250)]
/-- A state with a port record of one word on lane 0. -/
def portAt0 (s : State) : State := s.setSeCh 0 { s.seCh 0 with port := [0] }
/-- A state with flows of lane group 0. -/
def flows (l : SMap Flow) (s : State) : State := { s with se := { s.se with flows := l } }
/-- Glenu link 0. -/
def glinkAt (l : GLink) (s : State) : State := { s with lat := { s.lat with links := [(0, l)] } }
/-- A hello's frame with its check. -/
def helloFrame : GFrame :=
  { hdr := 0, data := 0, tag := 0, last := BitVec.ofNat 64 (crc32 ({ hdr := 0, data := 0, tag := 0, last := 0 } : GFrame).covered) }
/-- Line 0 of stack 0 in a sector that gives no class a right. -/
def noRights : State := withF up [(slotBase 0 0, F.SEAL_SECT_STAT_state, secActive), (slotBase 0 0, F.SEAL_SECT_CFG_rights, 0)]

/-! ## Ill-formed commands, one for each check of WellFormed.lean -/

theorem test_wf_packet : (Instr.ping (pk 0 0 0 (List.replicate 253 0))).wf = true ∧ (Instr.ping (pk 0 0 0 (List.replicate 254 0))).wf = false := by decide
theorem test_wf_write : (Instr.registerWrite .hostMgmt 0 [0]).wf = true ∧ (Instr.registerWrite .hostMgmt 0 []).wf = false := by decide
theorem test_wf_relay_peer : (Instr.latticeCommandReceive (2 ^ 48 - 1) [0, 0]).wf = true ∧ (Instr.latticeCommandReceive (2 ^ 48) [0, 0]).wf = false := by decide
theorem test_wf_relay_length : (Instr.latticeCommandReceive 0 [0]).wf = false ∧ (Instr.latticeCommandReceive 0 (List.replicate 129 0)).wf = false := by decide
theorem test_wf_fm_read : (Instr.frameMemoryRead 0 511 1 []).wf = true ∧ (Instr.frameMemoryRead 0 511 2 []).wf = false ∧ (Instr.frameMemoryRead 0 0 0 []).wf = false := by decide
theorem test_wf_fm_write : (Instr.frameMemoryWrite 0 511 [1] false false []).wf = true ∧ (Instr.frameMemoryWrite 0 511 [1, 2] false false []).wf = false ∧
    (Instr.frameMemoryWrite 0 0 [] false false []).wf = false := by decide
theorem test_wf_align : (Instr.laneAlignAcquire 0 65).wf = true ∧ (Instr.laneAlignAcquire 0 66).wf = false := by decide
theorem test_wf_temps : (Instr.temperatureSample (List.replicate 14 0)).wf = true ∧ (Instr.temperatureSample (List.replicate 13 0)).wf = false := by decide
theorem test_wf_pcs : (Instr.pcSample (List.replicate 8 0)).wf = true ∧ (Instr.pcSample []).wf = false := by decide
theorem test_wf_ucie : (Instr.ucieFlitReceive (List.replicate 256 0) 0).wf = true ∧ (Instr.ucieFlitReceive (List.replicate 255 0) 0).wf = false := by decide
theorem test_wf_bay : (Instr.bayRead 0 true 199 false 0).wf = true ∧ (Instr.bayRead 0 true 200 false 0).wf = false ∧ (Instr.bayWrite 0 true 200 false 15 0 0).wf = false ∧
    (Instr.bayClear 0 true 200).wf = false ∧ (Instr.bayMend 0 true 200).wf = false ∧ (Instr.bayRebuild 0 true 200).wf = false ∧ (Instr.bayScrubCheck 0 true 200).wf = false ∧
    (Instr.bayRead 0 false 4095 false 0).wf = true := by decide
theorem test_wf_short_edge : (Instr.shortEdgeWordReceive (.bundle 0 0) (some 57)).wf = true ∧ (Instr.shortEdgeWordReceive (.bundle 0 0) (some 58)).wf = false ∧
    (Instr.shortEdgeWordReceive (.lamp 0) (some 4)).wf = true ∧ (Instr.shortEdgeWordReceive (.lamp 0) (some 5)).wf = false ∧
    (Instr.shortEdgeWordReceive (.dram 0 0) (some 73)).wf = true := by decide

/-! ## The queue -/

/-- The front command runs and leaves the queue; with nothing waiting, time goes on by a tick. -/
theorem test_step : (∃ t, step { dbgUp with pending := [.idcode, .bypass] } = .next t ∧ t.pending = [.bypass]) ∧ (∃ t, step State.reset = .next t ∧ t.now = 1000) :=
  ⟨⟨_, rfl, by decide⟩, ⟨_, rfl, by decide⟩⟩
/-- No row of the opcode table gives bits. -/
theorem test_no_words : decodeTableWord 8 0 = none ∧ State.reset.withFetchWord 8 0 = State.reset := by decide
/-- Memory is in its canonical form at reset, and a store of zero keeps it. -/
theorem test_memory : Memory.wf State.reset.mem = true ∧ Memory.wf (up.storeBy .steward sramBase [1, 0, 2]).mem = true ∧ (up.storeBy .steward sramBase [0, 0]).mem = [] := by decide

/-! ## The worked examples of the spec -/

/-- The state after a command. -/
def after (i : Instr) (s : State) : State := match exec i s with
  | .next t => t
  | _ => s
/-- The word that the host reads at a register's address. -/
def rd (s : State) (d b off : Nat) : Nat := (s.readWord .hostMgmt d b off).1

/-- spec/02, the example of the event controller: EVC_ROUTE[433] lies at 0x7F_0004_16C4 and takes 0xC604_5000. -/
theorem test_ex_route : evcBase + 4 * 433 + 0x1000 = 0x7F000416C4 ∧ winBase 5 0x191 + 8 = 0x7F51910008 ∧
    (let t := after (.evcRouteWrite .hostMgmt 433 0xC6045000) up
     t.getF (evcBase + 4 * 433) F.EVC_ROUTE_msix_en = 1 ∧ t.getF (evcBase + 4 * 433) F.EVC_ROUTE_vector = 70 ∧
     t.getF (evcBase + 4 * 433) F.EVC_ROUTE_cue_en = 4 ∧ t.getF (evcBase + 4 * 433) F.EVC_ROUTE_cue_line = 5) := by decide
/-- spec/03, the example: words 2 and 3 of GET_INFO for grade 2 and site C1, and the words of its reply and of a completion. -/
theorem test_ex_info : up.infoWords.take 2 = [0x02019440, 0x000000B1] ∧
    ({ src := .set 0, tag := 2, status := .ok, completion := false, opcode := 0x0101, results := up.infoWords } : Reply).words 1 =
      [0x020A0000, 0x00010101] ++ up.infoWords ∧
    ({ src := .set 0, tag := 3, status := .ok, completion := true, opcode := 0x0103, results := [0] } : Reply).words 3 = [0x03030000, 0x00038103, 0] := by decide
/-- spec/03, the example: SET_POWER for facet F05 ON is accepted and turns facet 5's domain to POWERING. -/
theorem test_ex_power : let t := after (.setPower (pk 0 0x058 0 [0x01000005, 0])) (got (withF (domAt 5 0 up) [(lampBase 0, F.LAMP_STAT_state, lpActive)]) 0x0103 (pk 0 0x058 0 [0x01000005, 0]))
    t.hq.ready.map (·.status) = [.accepted] ∧ targetWord 0 0x058 0 = 0x580 := by decide
/-- spec/05, the example of the mender: bit 27 of word 517 of bay 1,203 of Q3 is wrong. -/
def bayUp : State :=
  { withF { clk0 with fab := { clk0.fab with spines := [(72, 65)] }
                      fac := { clk0.fac with cfg := [(2 * unitFacet (bayUnit 3 false 1203), { regional := [1], clocks := [(2 * 1203, 1), (2 * 1203 + 1, 1)], bayIn := [(2 * 1203 + 1, 2 ^ 65 - 1)], sels := (List.range 24).map (fun b => ((Mux.bay 1203 1 b).number, 1)) })] } } [(facetBase 44, F.FACET_STAT_state, fcRunning), (facetBase 44, F.FACET_STAT_holding, 0), (facetBase 45, F.FACET_STAT_state, fcRunning),
      (facetBase 43, F.FACET_STAT_state, fcRunning), (facetBase 39, F.FACET_STAT_state, fcRunning)] with
    bays := { up.bays with words := [(65536 * bayUnit 3 false 1203 + 517, { data := BitVec.twoPow 40 27, st := 0x15 })]
                           jobs := [(bayUnit 3 false 1203, some { rebuild := false, group := 16, restarts := 0 })] } }
theorem test_ex_bay_read : ((after (.bayRead 3 false 1203 true 517) bayUp).out.head? = some (.bayRead (bayUnit 3 false 1203) 0x8000000 4 false)) := by decide
theorem test_ex_bay_mend : let t := after (.bayMend 3 false 1203) bayUp
    rd t 4 0x028 0x14 = 0x04B3 ∧ rd t 4 0x028 0x18 = 0x0205001B ∧ (t.bword (bayUnit 3 false 1203) 517).data = 0 := by decide
/-- spec/05, the example of the queue controllers: the address of controller 85 of Q1, and its thresholds. -/
theorem test_ex_queue : qctlBase 1 85 + 0x100 = 0x7F20281640 ∧ qctlFacet 1 85 = 14 ∧
    rd (after (.qcQctlWrite .hostMgmt 1 85 0x80000000) up) 2 0x028 0x1640 = 0x80000000 := by decide
/-- spec/07, the example of the hitless change: the words of the instant and of the acting edge. -/
theorem test_ex_instant : timeOf 0x0133B543 0x8E390000 0x66669B10 = some (1718000400 * second + 20165955 * nano + 36409) ∧
    timeWords (1718000400 * second + 20165957 * nano + 20480) = [0x0133B545, 0x50000000, 0x66669B10] ∧ targetWord 2 0x015 0 = 0x152 := by decide
/-- spec/09, the example of the split rings: the chord's match word covers x 0–11, y 8–15. -/
theorem test_ex_chord : niBase 0 38 + 0x400 = 0x7F11260400 ∧
    (let t := up.chordWrite (vkOfLocal 0 38) 0 0x80F7A160 0x000FD802 0
     let b := chordBase (vkOfLocal 0 38) 0
     t.getF b F.NI_CHORD_MATCH_x_lo = 0 ∧ t.getF b F.NI_CHORD_MATCH_x_hi = 11 ∧ t.getF b F.NI_CHORD_MATCH_y_lo = 8 ∧ t.getF b F.NI_CHORD_MATCH_y_hi = 15 ∧
     t.getF b F.NI_CHORD_ROUTE0_turns = 2 ∧ t.getF b F.NI_CHORD_ROUTE0_turn1 = 0x18 ∧ t.getF b F.NI_CHORD_ROUTE0_turn2 = 0x3F) := by decide
/-- spec/10, the example of the truck: LOOP_WINDOW and LOOP_SET for SL3. -/
theorem test_ex_loop : (pk 0 0x02B 0 [0x03E8EC78, 0x64, 0x3E8]).windowOk = true ∧ (pk 0 0x02B 0 [0x2A000000, 0x934A2D00, 0x03E90022, 0]).loopSetOk = true ∧
    (pk 0 0x02B 0 [0x2A000000, 0x934A2D00, 0x03E90022, 0]).loopHz = { num := 148500000000, den := 1001 } ∧ targetWord 0 0x02B 0 = 0x2B0 ∧
    (BitVec.ofNat 16 0xEC78).toInt = -5000 := by decide
/-- Loop SL3 locked at 148.5/1.001 MHz. -/
def sl3 : State := withF up [(loopBase 3, F.LOOP_STAT_state, slLocked), (loopBase 3, F.LOOP_NUM_LO_num, 0x934A2D00), (loopBase 3, F.LOOP_NUM_HI_num, 0x22),
  (loopBase 3, F.LOOP_NUM_HI_den, 1001)]
/-- spec/11, the example of the rack test: LANE_SET for lane 100 is taken, and the counter's two words. -/
theorem test_ex_lane : laneWord 100 = 0x11C6 ∧ sl3.laneSetOk 100 (pk 6 0x11C 0 [0, 0, 0, 0xF202000B, 0x00140000, 0, 0x3006, 0]) = true ∧
    laneBase 100 + 8 = 0x7F611C0008 := by decide
/-- spec/12, the example of the camera return: LANE_SET and SDI_RX_SET for lane 40. -/
theorem test_ex_sdi : laneWord 40 = 0x1285 ∧ chWord 40 = 0x455 ∧ sl3.laneSetOk 40 (pk 5 0x128 0 [0, 0, 0, 0xB204000B, 0x00500000, 0, 0, 0]) = true ∧
    (withF sl3 [(laneBase 40, F.LANE_CFG0_word5, 0xB204000B), (laneBase 40, F.LANE_CFG1_word6, 0x00500000)]).sdiRxOk 40 (pk 5 0x045 0 [0, 0, 0, 0xD9800000, 0]) = true := by decide
/-- spec/14, the example of the failing waveguide: after λ4 and λ10 the waveguide's register, and after λ13 too. -/
theorem test_ex_edge : edgeEnd 0 1 + 0x20 + 4 * 11 = 0x7F1059004C ∧ rd (up.laneGone 2 11 4 true) 1 0x059 0x4C = 0x00440010 ∧ (up.laneGone 2 11 4 true).recorded 594 = true ∧
    rd ((up.laneGone 2 11 4 true).laneGone 2 11 10 true) 1 0x059 0x4C = 0x00400410 := by decide
/-- spec/15, the example of the sealed sector. -/
theorem test_ex_sector : targetWord 2 0x048 3 = 0x30482 ∧ up.sectorOk (pk 2 0x048 3 [0xE0000000, 0, 0xFFF, 0x2013]) = true ∧
    (let t := after (.sectorSet (pk 2 0x048 3 [0xE0000000, 0, 0xFFF, 0x2013])) (got up 0x0700 (pk 2 0x048 3 [0xE0000000, 0, 0xFFF, 0x2013]))
     t.secState 1 3 = secInit ∧ t.hq.ready.map (·.status) = [.ok] ∧ t.getF (slotBase 1 3) F.SEAL_SECT_CFG_rights = 0x2013) := by decide
/-- spec/16, the example of MB[5]: the host rings, and cue[2] replies after its reset. -/
def mb5 : State := withF up [(mbBase 5, F.MB_CFG_enable, 1), (mbBase 5, F.MB_CFG_sender, 0), (mbBase 5, F.MB_CFG_receiver, 3), (mbBase 5, F.MB_MSG_msg, 0x42)]
theorem test_ex_message : mbBase 5 + 0x100 = 0x7F000801A0 ∧ rd (after (.mbMsgWrite .hostMgmt 5 0x42) mb5) 0 0x008 0x1A8 = 0x00000001 ∧
    rd (after (.mbMsgWrite .hostMgmt 5 0x42) mb5) 0 0x008 0x1A4 = 0x42 ∧ (after (.mbMsgWrite .hostMgmt 5 0x42) mb5).recorded 645 = true := by decide
theorem test_ex_ack : rd (after (.mbReply (.cue 2) 5 1) (withF mb5 [(mbBase 5, F.MB_STAT_full, 1)])) 0 0x008 0x1B8 = 0x80000001 := by decide
/-- spec/17, the example of two devices: the link record of A, and LAT_ASSIGN. -/
theorem test_ex_lattice : (({ word := 0x90000088 } : GLink).enabled = true ∧ ({ word := 0x90000088 } : GLink).rate = 1 ∧ ({ word := 0x90000088 } : GLink).lanes = [136, 137, 138, 139]) ∧
    (let t := after (.latAssign (pk 0 0 0 [0x80000000, 0x4A7C0001, 0])) (got up 0x0801 (pk 0 0 0 [0x80000000, 0x4A7C0001, 0]))
     t.lat.next = [(.set 0, { addr := some 0, rootOnly := false, id := 0x4A7C0001, root := 0 })] ∧ t.hq.ready.map (·.status) = [.ok]) := by decide
/-- spec/18, the example of the failing channel: the words of journal entry 0x0041. -/
theorem test_ex_journal : (JEntry.mk 0x23 true 0x41 (targetWord 3 0x040 0) (1718003600 * second + 250000000 * nano) 0x50000025 2 0).words =
    [0x23800041, 0x0403, 0x0EE6B280, 0, 0x6666A790, 0x50000025, 2, 0] := by decide
/-- spec/19, the example of cue[4]: its domain's nibble, its data memory and the unlock's rights. -/
theorem test_ex_debug : (kindDom 7 4 = some 81) ∧ cueImem 4 + 0x10000 = 0x7000890000 ∧ (pk 0 0x0F0 0 (0x003C001F :: List.replicate 96 0 ++ [0x1F])).unlockOk = true := by decide
/-- spec/06, the example of BT.709: the grey pixel gives 1,029,120, rounded to 502, 503 and 502; white gives 940. -/
theorem test_ex_sau :
    (let m (x : Nat) : Int := (({ shift := 11 } : SauCfg).products (List.zipWith (· * ·) (({} : SauCfg).sums (BitVec.ofNat 40 (128 * 2 ^ 30 + x * 2 ^ 20 + x * 2 ^ 10 + x)) 0)
       (({} : SauCfg).weights (BitVec.ofNat 48 (1024 * 2 ^ 36 + 127 * 2 ^ 24 + 1254 * 2 ^ 12 + 373))))).headD 0
     m 512 = 1029120 ∧ [0, 1, 2].map (fun r => ({ shift := 11, rnd := r } : SauCfg).round (m 512)) = [502, 503, 502] ∧
     [0, 1, 2].map (fun r => ({ shift := 11, rnd := r } : SauCfg).round (m 1023)) = [940, 940, 940] ∧ ({ shift := 11 } : SauCfg).clamp 10 940 = (940, false)) := by decide
/-- spec/13, the example of the burst: TRS of 4,320 packets a frame of 1080p59.94. -/
theorem test_ex_trs : trsOf 0 (1920 * 2 ^ 20 + 1080 * 2 ^ 8 + 6) 4320 = 3707407 := by decide

/-! ## Hypotheses that can be met -/

/-- The hypotheses of RegisterAccess, clauses 0 to 10, can be met. -/
theorem test_hyps_RegisterAccess_0 :
    (∃ (m : Master) (a : BitVec 40) (bytes : List Byte) (s : State), let x := m.toLocal a.toNat; s.busUp = true ∧ inRegs x = true ∧ s.regCause m (dieOf x) (winOf x) (offOf x) bytes.length true = none ∧ isPosted (dieOf x) (winOf x) = false) ∧
    (∃ (m : Master) (a : BitVec 40) (bytes : List Byte) (s : State), let x := m.toLocal a.toNat; s.busUp = true ∧ inRegs x = true ∧ s.regCause m (dieOf x) (winOf x) (offOf x) bytes.length true = none ∧ isPosted (dieOf x) (winOf x) = true ∧ s.blkBusy (dieOf x) (winOf x) = false) ∧
    (∃ (m : Master) (a : BitVec 40) (bytes : List Byte) (s : State), let x := m.toLocal a.toNat; s.busUp = true ∧ inRegs x = true ∧ s.regCause m (dieOf x) (winOf x) (offOf x) bytes.length true = none ∧ isPosted (dieOf x) (winOf x) = true ∧ s.blkBusy (dieOf x) (winOf x) = true) ∧
    (∃ (m : Master) (a : BitVec 40) (bytes : List Byte) (c : BusCause) (s : State), let x := m.toLocal a.toNat; s.busUp = true ∧ inRegs x = true ∧ s.regCause m (dieOf x) (winOf x) (offOf x) bytes.length true = some c) ∧
    (∃ (d : Fin 8) (b : Fin 512) (p : Posted) (s : State), s.postedTo d.val b.val = some p ∧ s.blkStopped d.val b.val = false ∧ s.postedWaits d.val b.val p = false) ∧
    (∃ (d : Fin 8) (b : Fin 512) (p : Posted) (s : State), s.postedTo d.val b.val = some p) ∧
    (∃ (m : Master) (d : Fin 8) (b : BlkTime) (v : Nat) (s : State), let off := timeOff b.armed (blkAt d.val b.blk.val); s.busUp = true ∧ s.denied m d.val b.blk.val off false = none ∧ s.timeAt d.val b.blk.val off = some v) ∧
    (∃ (m : Master) (d : Fin 8) (b : Fin 512) (s : State), Reaches s m d.val b.val 8) ∧
    (∃ (m : Master) (d : Fin 8) (b : Fin 512) (s : State), Reaches s m d.val b.val 8) ∧
    (∃ (q : Fin 4) (s : State), s.blkOff (1 + q.val) 0 = false) ∧
    (∃ (q : Fin 4) (s : State), s.blkOff (1 + q.val) 0 = true) :=
  ⟨⟨.hostMgmt, 0x7F00040300, [0,0,0,0], up, by decide⟩,
   ⟨.hostMgmt, 0x7F10280040, [0,0,0,0], up, by decide⟩,
   ⟨.hostMgmt, 0x7F10280040, [0,0,0,0], { up with posted := [{ base := winBase 1 0x028, addr := 0x7F10280040, words := [0], master := .hostMgmt, time := 0 }] }, by decide⟩,
   ⟨.hostMgmt, 0x7F00040300, [0,0,0], .size, up, by decide⟩,
   ⟨1, 0x028, { base := winBase 1 0x028, addr := 0x7F10280040, words := [0], master := .hostMgmt, time := 0 }, { up with posted := [{ base := winBase 1 0x028, addr := 0x7F10280040, words := [0], master := .hostMgmt, time := 0 }] }, by decide⟩,
   ⟨1, 0x028, { base := winBase 1 0x028, addr := 0x7F10280040, words := [0], master := .hostMgmt, time := 0 }, { up with posted := [{ base := winBase 1 0x028, addr := 0x7F10280040, words := [0], master := .hostMgmt, time := 0 }] }, by decide⟩,
   ⟨.hostMgmt, 0, BlkTime.mk 0x020 false, 0, up, by (try dsimp only); first | done | decide⟩,
   ⟨.hostMgmt, 0, 0x020, up, by decide⟩,
   ⟨.hostMgmt, 0, 0x020, up, by decide⟩,
   ⟨0, up, by decide⟩,
   ⟨0, State.reset, by decide⟩⟩
/-- The hypotheses of EventsAndMessages, clauses 0 to 16, can be met. -/
theorem test_hyps_EventsAndMessages_0 :
    (∃ (m : Master) (w : Fin 32) (s : State), m ≠ .steward ∧ m ≠ .debugPlain ∧ Reaches s m 0 0x004 (0x400 + 4 * w.val)) ∧
    (∃ (m : Master) (w : Fin 32) (s : State), m ≠ .steward ∧ m ≠ .debugPlain ∧ Reaches s m 0 0x004 (0x300 + 4 * w.val)) ∧
    (∃ (m : Master) (src : Fin 1024) (s : State), m ≠ .steward ∧ m ≠ .debugPlain ∧ Reaches s m 0 0x004 (0x1000 + 4 * src.val)) ∧
    (∃ (v : Fin 128) (s : State), s.vecPending v.val = true ∧ s.evc.sent.getLsbD v.val = false ∧ s.vecBlocked v.val = false) ∧
    (∃ (s : State), s.evc.link.isSome = true) ∧
    (∃ (s : State), s.evc.link = none) ∧
    (∃ (s : State), s.evc.link.isSome = true) :=
  ⟨⟨.hostMgmt, 0, up, by decide⟩,
   ⟨.hostMgmt, 0, up, by decide⟩,
   ⟨.hostMgmt, 0, up, by decide⟩,
   ⟨0, withF { up with evc := { up.evc with vecMask := 0, enMgmt := true } } [(evcBase, F.EVC_ROUTE_msix_en, 1), (evcBase, F.EVC_REC_rec, 1), (evcBase, F.EVC_MASK_mask, 0)], by decide⟩,
   ⟨{ up with evc := { up.evc with link := some (1, 1) } }, by decide⟩,
   ⟨withF up [(pcieBase, F.PCIE_LINK_link_up, 1)], by decide⟩,
   ⟨{ up with evc := { up.evc with link := some (1, 1) } }, by decide⟩⟩
/-- The hypotheses of CommandPaths, clauses 0 to 11, can be met. -/
theorem test_hyps_CommandPaths_0 :
    (∃ (m : Master) (q : Fin 16) (v : Word) (s : State), s.busUp = true ∧ hqDenied m (0x100 + 0x40 * q.val + 0x14) true = false ∧ setExists q.val = true ∧ setWritable m q.val = true ∧ v.toNat % 4096 < s.ringSlots q.val) ∧
    (∃ (m : Master) (q : Fin 16) (v : Word) (s : State), s.busUp = true ∧ hqDenied m (0x100 + 0x40 * q.val + 0x14) true = false ∧ setExists q.val = true ∧ setWritable m q.val = true ∧ s.ringSlots q.val ≤ v.toNat % 4096) ∧
    (∃ (m : Master) (q : Fin 16) (s : State), s.busUp = true ∧ hqDenied m (0x100 + 0x40 * q.val + 0x14) true = false ∧ setExists q.val = true ∧ setWritable m q.val = false) ∧
    (∃ (m : Master) (q : Fin 16) (v : Word) (s : State), s.busUp = true ∧ hqDenied m (0x100 + 0x40 * q.val + 0x20) true = false ∧ setExists q.val = true ∧ setWritable m q.val = true ∧ v.toNat % 4096 < s.ringSlots q.val) ∧
    (∃ (m : Master) (q : Fin 16) (v : Word) (s : State), s.busUp = true ∧ hqDenied m (0x100 + 0x40 * q.val + 0x20) true = false ∧ setExists q.val = true ∧ setWritable m q.val = true ∧ s.ringSlots q.val ≤ v.toNat % 4096) ∧
    (∃ (m : Master) (q : Fin 16) (s : State), s.busUp = true ∧ hqDenied m (0x100 + 0x40 * q.val + 0x10) true = false ∧ setExists q.val = true ∧ setWritable m q.val = true ∧ (s.qset q.val).state = .off) ∧
    (∃ (m : Master) (q : Fin 16) (s : State), s.busUp = true ∧ hqDenied m (0x100 + 0x40 * q.val + 0x10) true = false ∧ setExists q.val = true ∧ setWritable m q.val = true ∧ (s.qset q.val).state ≠ .off) ∧
    (∃ (m : Master) (q : Fin 16) (s : State), s.busUp = true ∧ hqDenied m (0x100 + 0x40 * q.val + 0x10) true = false ∧ setExists q.val = true ∧ setWritable m q.val = true) ∧
    (∃ (q : Fin 16) (s : State), let h := s.getF (setBase q.val) F.HQ_CQ_HEAD_head; s.canFetch q.val = true ∧ s.ringBad q.val false h 1020 = false) ∧
    (∃ (q : Fin 16) (s : State), s.canFetch q.val = true ∧ s.ringBad q.val false (s.getF (setBase q.val) F.HQ_CQ_HEAD_head) 1020 = true) ∧
    (∃ (q : Fin 16) (s : State), s.replyWait q.val = true) ∧
    (∃ (q : Fin 16) (r : Reply) (s : State), let u := if s.fetching then s.settle (.set q) else s; let t := u.getF (setBase q.val) F.HQ_RQ_TAIL_tail; s.hq.handover = false ∧ u.nextReply (.set q) = some r ∧ (u.qset q.val).state ≠ .off ∧ (u.qset q.val).state ≠ .stopped ∧ u.replyFree q.val = true ∧ u.ringBad q.val true t 1024 = false) :=
  ⟨⟨.hostMgmt, 0, 0, up, by decide⟩,
   ⟨.hostMgmt, 0, 0xFFFFFFFF, up, by decide⟩,
   ⟨.steward, 8, up, by decide⟩,
   ⟨.hostMgmt, 0, 0, up, by decide⟩,
   ⟨.hostMgmt, 0, 4095, up, by decide⟩,
   ⟨.hostMgmt, 0, up, by decide⟩,
   ⟨.hostMgmt, 0, { up with hq := { up.hq with sets := [(0, { state := .running })] } }, by decide⟩,
   ⟨.hostMgmt, 0, up, by decide⟩,
   ⟨0, withF { up with hq := { up.hq with sets := [(0, { state := .running })] } } [(setBase 0, F.HQ_CQ_TAIL_tail, 1)], by (try dsimp only); first | done | decide⟩,
   ⟨0, withF { up with hq := { up.hq with sets := [(0, { state := .running })] }, hostBad := [{ lo := 0, hi := 2000 }] } [(setBase 0, F.HQ_CQ_TAIL_tail, 1)], by decide⟩,
   ⟨0, withF { up with hq := { up.hq with ready := [({ src := .set 0, tag := 1, status := .ok, completion := false, opcode := 0x100, results := [] } : Reply)] } } [(setBase 0, F.HQ_RQ_TAIL_tail, 15)], by decide⟩,
   ⟨0, { src := .set 0, tag := 1, status := .ok, completion := false, opcode := 0x100, results := [] }, { up with hq := { up.hq with sets := [(0, { state := .running })], ready := [{ src := .set 0, tag := 1, status := .ok, completion := false, opcode := 0x100, results := [] }] } }, by (try dsimp only); first | done | decide⟩⟩
/-- The hypotheses of CommandPaths, clauses 12 to 24, can be met. -/
theorem test_hyps_CommandPaths_12 :
    (∃ (r : Reply) (s : State), let u := if s.fetching then s.settle .spi else s; s.hq.handover = false ∧ u.nextReply .spi = some r ∧ u.hq.spiReply = false) ∧
    (∃ (row : Nat) (peer : Nat) (r : Reply) (s : State), let u := if s.fetching then s.settle (.lattice row) else s; s.hq.handover = false ∧ u.nextReply (.lattice row) = some r ∧ r.src = .lattice peer) ∧
    (∃ (m : Master) (s : State), s.busUp = true ∧ hqDenied m 0x40 true = false ∧ s.hq.spiRunning = false ∧ s.hq.spiReply = false ∧ s.fetching = true) ∧
    (∃ (m : Master) (s : State), s.busUp = true ∧ hqDenied m 0x40 true = false ∧ s.hq.spiRunning = false ∧ s.hq.spiReply = false ∧ s.fetching = false) ∧
    (∃ (m : Master) (s : State), s.busUp = true ∧ hqDenied m 0x40 true = false ∧ (s.hq.spiRunning = true ∨ s.hq.spiReply = true)) ∧
    (∃ (m : Master) (s : State), s.busUp = true ∧ hqDenied m 0x40 true = false ∧ (s.hq.handover = true ∨ s.hq.ready.find? (fun r => decide (r.src = .spi)) = none)) ∧
    (∃ (m : Master) (r : Reply) (s : State), s.busUp = true ∧ hqDenied m 0x40 true = false ∧ s.hq.handover = false ∧ s.hq.ready.find? (fun r => decide (r.src = .spi)) = some r) ∧
    (∃ (s : State), s.spiAnswers = true) ∧
    (∃ (s : State), s.spiAnswers = true) ∧
    (∃ (s : State), s.spiAnswers = true) ∧
    (∃ (ws : List Word) (s : State), let u := s.takePosted ws; u.latFull = false) ∧
    (∃ (ws : List Word) (s : State), let u := s.takePosted ws; u.latFull = true) :=
  ⟨⟨({ src := .spi, tag := 1, status := .ok, completion := false, opcode := 0x100, results := [] } : Reply), { up with hq := { up.hq with ready := [({ src := .spi, tag := 1, status := .ok, completion := false, opcode := 0x100, results := [] } : Reply)] } }, by (try dsimp only); first | done | decide⟩,
   ⟨0, 0, ({ src := .lattice 0, tag := 1, status := .ok, completion := false, opcode := 0x100, results := [] } : Reply), { up with hq := { up.hq with ready := [({ src := .lattice 0, tag := 1, status := .ok, completion := false, opcode := 0x100, results := [] } : Reply)] } }, by (try dsimp only); first | done | decide⟩,
   ⟨.hostMgmt, up, by decide⟩,
   ⟨.hostMgmt, at_ .firmware, by decide⟩,
   ⟨.hostMgmt, { up with hq := { up.hq with spiRunning := true } }, by decide⟩,
   ⟨.hostMgmt, up, by decide⟩,
   ⟨.hostMgmt, ({ src := .spi, tag := 1, status := .ok, completion := false, opcode := 0x100, results := [] } : Reply), { up with hq := { up.hq with ready := [({ src := .spi, tag := 1, status := .ok, completion := false, opcode := 0x100, results := [] } : Reply)] } }, by decide⟩,
   ⟨up, by decide⟩,
   ⟨up, by decide⟩,
   ⟨up, by decide⟩,
   ⟨[], up, by (try dsimp only); first | done | decide⟩,
   ⟨[0x00020100, 0], { up with hq := { up.hq with latQueue := List.replicate 64 (0x100, pk 0 0 0 []) } }, by (try dsimp only); first | done | decide⟩⟩
/-- The hypotheses of StewardCommands, clauses 0 to 11, can be met. -/
theorem test_hyps_StewardCommands_0 :
    (∃ (c : Cmd) (s : State), Takes s 0x0100 c ∧ c.len ≤ 252 ∧ (c.aimsDevice || s.targetOk c.word1.toNat) = true) ∧
    (∃ (c : Cmd) (s : State), Takes s 0x0101 c ∧ c.len = 2 ∧ (c.aimsDevice || c.aims 0 0 0) = true) ∧
    (∃ (c : Cmd) (s : State), Takes s 0x0102 c ∧ c.len = 2 ∧ (c.aimsDevice || c.aims 0 0 0) = true) ∧
    (∃ (c : Cmd) (s : State), Takes s 0x0105 c ∧ c.len = 6 ∧ (c.aimsHq) = true ∧ c.w 2 ≤ 1 ∧ (!s.heldByOther c) = true) ∧
    (∃ (c : Cmd) (s : State), Takes s 0x0106 c ∧ c.len = 3 ∧ (c.aimsHq) = true ∧ c.f 2 31 1 = 0 ∧ (s.flag hqBase F.HQ_FW_other_valid) = true ∧ (!s.heldByOther c) = true) ∧
    (∃ (c : Cmd) (s : State), let x := s.scheduledOn (c.f 2 15 0) c.word1; Takes s 0x0107 c ∧ c.len = 3 ∧ (s.targetOk c.word1.toNat) = true ∧ c.f 2 31 16 = 0 ∧ (x.isSome) = true ∧ (x.all (fun o => o.stage == 0)) = true) ∧
    (∃ (c : Cmd) (s : State), let l := snapList c.params; let n := c.f 5 5 0; Takes s 0x0601 c ∧ c.len = 6 + n ∧ ((c.aimsDevice || s.targetOk c.word1.toNat)) = true ∧ ((c.params.drop 4).all (fun w => s.snapTarget w.toNat)) = true ∧ ((c.instant 2).isSome) = true ∧ 1 ≤ n ∧ n ≤ 32 ∧ c.f 5 30 6 = 0 ∧ (decide l.Nodup) = true ∧ (l.all (fun x => !s.blkGone (bitsOf x 3 0) (bitsOf x 15 4))) = true ∧ (!l.any (fun x => s.hq.ops.any (fun o => o.snaps x))) = true ∧ (l.all (fun x => s.inTime (bitsOf x 3 0) (c.instant 2))) = true) ∧
    (∃ (o : Op) (s : State), s.hq.ops.find? (fun o => o.opcode == 0x0105) = some o) ∧
    (∃ (o : Op) (s : State), s.activating 0 = some o ∧ s.othersPending o = false ∧ s.hq.handover = false) ∧
    (∃ (o : Op) (s : State), s.activating 0 = some o ∧ s.othersPending o = true) ∧
    (∃ (o : Op) (s : State), s.activating 1 = some o) ∧
    (∃ (o : Op) (s : State), s.activating 1 = some o) :=
  ⟨⟨pk 0 0 0 [], (got (up) 0x0100 (pk 0 0 0 [])), by decide⟩,
   ⟨pk 0 0 0 [], (got (up) 0x0101 (pk 0 0 0 [])), by decide⟩,
   ⟨pk 0 0 0 [], (got (up) 0x0102 (pk 0 0 0 [])), by decide⟩,
   ⟨pk 0 1 0 [0,0,0,0], (got (up) 0x0105 (pk 0 1 0 [0,0,0,0])), by decide⟩,
   ⟨pk 0 1 0 [0], (got (withF up [(hqBase, F.HQ_FW_other_valid, 1)]) 0x0106 (pk 0 1 0 [0])), by decide⟩,
   ⟨pk 1 0x010 0 [0x0203], (got (run up { opr 0x0203 1 0x010 0 [] 0 (some 5) with tag := 2 }) 0x0107 (pk 1 0x010 0 [0x0203])), by (try dsimp only); first | done | decide⟩,
   ⟨pk 0 0 0 [0,0,0,1,0x1005], (got (up) 0x0601 (pk 0 0 0 [0,0,0,1,0x1005])), by (try dsimp only); first | done | decide⟩,
   ⟨opr 0x0105 0 1 0 [], run up (opr 0x0105 0 1 0 []), by decide⟩,
   ⟨opr 0x0106 0 1 0 [], run up (opr 0x0106 0 1 0 []), by decide⟩,
   ⟨opr 0x0106 0 1 0 [], { up with hq := { up.hq with ops := [opr 0x0106 0 1 0 [], { opr 0x0105 0 1 0 [] with tag := 2 }] } }, by decide⟩,
   ⟨opr 0x0106 0 1 0 [] 1, run up (opr 0x0106 0 1 0 [] 1), by decide⟩,
   ⟨opr 0x0106 0 1 0 [] 1, run up (opr 0x0106 0 1 0 [] 1), by decide⟩⟩
/-- The hypotheses of StewardCommands, clauses 12 to 15, can be met. -/
theorem test_hyps_StewardCommands_12 :
    (∃ (w : Word) (edge : Nat) (o : Op) (s : State), let x := bitsOf w.toNat 15 0; s.hq.ops.find? (fun o => o.snaps x && s.edgeActs o edge) = some o ∧ s.blkOff (bitsOf x 3 0) (bitsOf x 15 4) = false ∧ s.blkStopped (bitsOf x 3 0) (bitsOf x 15 4) = false) ∧
    (∃ (o : Op) (s : State), s.hq.ops.find? (fun o => o.opcode == 0x0601 && (snapList o.params).all (fun x => o.acc.contains (wd x))) = some o) ∧
    (∃ (src : Src) (tag : BitVec 8) (o : Op) (t : _) (w : _) (s : State), s.opOf src tag = some o ∧ o.onEvent = false ∧ o.instant = some t ∧ o.waitsFor = some w) ∧
    (∃ (src : Src) (tag : BitVec 8) (gaps : Nat) (o : Op) (b : _) (s : State), s.opOf src tag = some o ∧ s.opBound o gaps = some b) :=
  ⟨⟨0, 0, opr 0x0601 0 0 0 [0,0,0,1,0] 0 (some 0), run up (opr 0x0601 0 0 0 [0,0,0,1,0] 0 (some 0)), by (try dsimp only); first | done | decide⟩,
   ⟨{ opr 0x0601 0 0 0 [0,0,0,1,0] 0 (some 0) with acc := [0] }, run up { opr 0x0601 0 0 0 [0,0,0,1,0] 0 (some 0) with acc := [0] }, by decide⟩,
   ⟨.set 0, 1, opr 0x0400 5 0x100 0 [] 0 (some 0), 0, 0x1005, run up (opr 0x0400 5 0x100 0 [] 0 (some 0)), by decide⟩,
   ⟨.set 0, 1, 0, opr 0x0A04 1 0x058 0 [], 2000000, run up (opr 0x0A04 1 0x058 0 []), by decide⟩⟩
/-- The hypotheses of PowerChanges, clauses 0 to 11, can be met. -/
theorem test_hyps_PowerChanges_0 :
    (∃ (c : Cmd) (s : State), let d := c.domain.getD 0; let v := stateOf (c.f 3 1 0); let there := s.domShown d == v; let idle := (s.domOp d).isNone; Takes s 0x0103 c ∧ c.len = 4 ∧ (c.aims 0 0x058 0) = true ∧ (!(c.f 2 31 24 == 6 && s.ident.site == 0)) = true ∧ (c.domain.isSome) = true ∧ c.f 2 23 16 = 0 ∧ c.f 3 31 2 = 0 ∧ (stateAllowed (domKind d).1 v) = true ∧ ((!idle || there || (s.reachable d v && s.powerOrder d v))) = true ∧ (!s.pwr.inReset.getLsbD (domDie d)) = true ∧ (d = partnerDom → s.partnerReset = none) ∧ (!s.heldByOther c) = true ∧ (s.powerFree d v) = true ∧ ((there || !s.domainHeld c d)) = true) ∧
    (∃ (c : Cmd) (s : State), Takes s 0x0183 c ∧ c.len = 3 ∧ (c.aims 0 0x058 0) = true ∧ (!(c.f 2 31 24 == 6 && s.ident.site == 0)) = true ∧ (c.domain.isSome) = true ∧ c.f 2 23 16 = 0) ∧
    (∃ (c : Cmd) (s : State), let k := c.resetKind; let f := c.facetOf.getD 0; let n := c.cueOf.getD 0; Takes s 0x0104 c ∧ c.len = 3 ∧ s.resetTgt c = true ∧ c.resetWarm = false ∧ c.f 2 31 4 = 0 ∧ 1 ≤ k ∧ k ≤ 5 ∧ (k = 3 → s.facetState f = fcRunning ∧ s.swapArmed f = false ∧ s.applying f = false ∧ (s.facetX f).reset = 0) ∧ (k = 4 → s.cueState n ≠ cuOff ∧ s.cueState n ≠ cuStopped) ∧ ((k = 5 ∨ c.die = 7) → s.dom partnerDom ≠ 0 ∧ s.getF ucieBase F.UCIE_LINK_state ≠ 5) ∧ s.heldByOther c = false) ∧
    (∃ (c : Cmd) (s : State), Takes s 0x0104 c ∧ c.len = 3 ∧ s.resetTgt c = true ∧ c.resetWarm = true ∧ (c.src = .spi ∨ ∃ q : Fin 8, c.src = .set (q.castLE (by decide))) ∧ c.f 2 31 4 = 0 ∧ (c.resetKind = 1 ∨ c.resetKind = 2) ∧ s.heldByOther c = false) ∧
    (∃ (d : Fin 85) (o : Op) (s : State), let k := domKind d.val; let v := o.asks; s.domOp d.val = some o ∧ v = 0 ∧ (¬ (k.1 ≠ 5 ∧ o.stage = 0))) ∧
    (∃ (d : Fin 85) (o : Op) (s : State), let v := o.asks; s.domOp d.val = some o ∧ v ≠ 0 ∧ v = 3 ∧ o.stage ≠ 0) ∧
    (∃ (d : Fin 85) (o : Op) (s : State), let v := o.asks; s.domOp d.val = some o ∧ v ≠ 0 ∧ v ≠ 3 ∧ v = 2) ∧
    (∃ (d : Fin 85) (o : Op) (s : State), let k := domKind d.val; let v := o.asks; s.domOp d.val = some o ∧ v ≠ 0 ∧ v ≠ 3 ∧ v ≠ 2 ∧ k.1 = 5 ∧ s.lampDom k.2 = 1) ∧
    (∃ (d : Fin 85) (o : Op) (s : State), let k := domKind d.val; let v := o.asks; s.domOp d.val = some o ∧ v ≠ 0 ∧ v ≠ 3 ∧ v ≠ 2 ∧ k.1 ≠ 5 ∧ k.1 = 6 ∧ s.getF ucieBase F.UCIE_LINK_state = 4) ∧
    (∃ (d : Fin 85) (o : Op) (s : State), let k := domKind d.val; let v := o.asks; s.domOp d.val = some o ∧ v ≠ 0 ∧ v ≠ 3 ∧ v ≠ 2 ∧ k.1 ≠ 5 ∧ k.1 ≠ 6 ∧ (k.1 = 2 → (quadEdges k.2).any (fun e => s.edgeTraining e) = false)) ∧
    (∃ (d : Fin 85) (o : Op) (s : State), s.domOp d.val = some o ∧ o.stage = 0 ∧ s.dom d.val = 4) ∧
    (∃ (d : Fin 85) (s : State), s.domOp d.val = none ∧ d.val < 48 ∧ (s.facetX d.val).rewrite.isSome = true ∧ (s.facetX d.val).drainFrom.isSome = true) :=
  ⟨⟨pk 0 0x058 0 [0x04000000,0], (got (up) 0x0103 (pk 0 0x058 0 [0x04000000,0])), by (try dsimp only); first | done | decide⟩,
   ⟨pk 0 0x058 0 [0x04000000], (got (up) 0x0183 (pk 0 0x058 0 [0x04000000])), by decide⟩,
   ⟨pk 1 0x010 0 [3], (got (withF up [(facetBase 0, F.FACET_STAT_state, fcRunning)]) 0x0104 (pk 1 0x010 0 [3])), by (try dsimp only); first | done | decide⟩,
   ⟨pk 15 0xFFF 0 [1], (got (up) 0x0104 (pk 15 0xFFF 0 [1])), by decide⟩,
   ⟨70, opr 0x0103 0 0x058 0 [0x04000000,2] 1, run up (opr 0x0103 0 0x058 0 [0x04000000,2] 1), by (try dsimp only); first | done | decide⟩,
   ⟨70, opr 0x0103 0 0x058 0 [0x04000000, 3] 1, run up (opr 0x0103 0 0x058 0 [0x04000000, 3] 1), by (try dsimp only); first | done | decide⟩,
   ⟨77, opr 0x0103 0 0x058 0 [0x07000000,1], run up (opr 0x0103 0 0x058 0 [0x07000000,1]), by (try dsimp only); first | done | decide⟩,
   ⟨74, opr 0x0103 0 0x058 0 [0x05000000,0], withF (run up (opr 0x0103 0 0x058 0 [0x05000000,0])) [(lampBase 0, F.LAMP_STAT_state, lpStandby)], by (try dsimp only); first | done | decide⟩,
   ⟨76, opr 0x0103 0 0x058 0 [0x06000000,0], withF (run up (opr 0x0103 0 0x058 0 [0x06000000,0])) [(ucieBase, F.UCIE_LINK_state, 4)], by (try dsimp only); first | done | decide⟩,
   ⟨70, opr 0x0103 0 0x058 0 [0x04000000,0], run up (opr 0x0103 0 0x058 0 [0x04000000,0]), by (try dsimp only); first | done | decide⟩,
   ⟨0, opr 0x0103 0 0x058 0 [0x01000000,2], domAt 0 4 (run up (opr 0x0103 0 0x058 0 [0x01000000,2])), by decide⟩,
   ⟨0, up.setFacetX 0 { rewrite := some (0, 0), drainFrom := some 0 }, by decide⟩⟩
/-- The hypotheses of PowerChanges, clauses 12 to 19, can be met. -/
theorem test_hyps_PowerChanges_12 :
    (∃ (d : Fin 85) (o : Op) (s : State), let q := d.val - 48; s.domOp d.val = none ∧ 48 ≤ d.val ∧ d.val < 52 ∧ s.dieResetOp (q + 1) = some o ∧ o.stage = 0) ∧
    (∃ (w : Option Word) (t : _) (s : State), w = none ∧ s.pwr.warmAt = some t) ∧
    (∃ (w : Option Word) (tw : _) (o : Op) (s : State), let k := o.f 2 3 0; w = some tw ∧ s.pendingOn 0x0104 tw = some o ∧ k = 3 ∧ (s.facetX (12 * (o.die - 1) + (o.blk - 0x010))).reset = 0) ∧
    (∃ (w : Option Word) (tw : _) (o : Op) (s : State), let k := o.f 2 3 0; w = some tw ∧ s.pendingOn 0x0104 tw = some o ∧ k ≠ 3 ∧ k = 4) ∧
    (∃ (w : Option Word) (tw : _) (o : Op) (s : State), let k := o.f 2 3 0; w = some tw ∧ s.pendingOn 0x0104 tw = some o ∧ k ≠ 3 ∧ k ≠ 4 ∧ k ≠ 5 ∧ o.die ≠ 7 ∧ (o.die ≤ 4 → o.stage ≠ 0 ∧ (quadEdges (o.die - 1)).any (fun e => s.edgeTraining e) = false)) ∧
    (∃ (f : Fin 48) (s : State), s.clocksRun f.val = true ∧ (s.facetX f.val).reset = 1) ∧
    (∃ (f : Fin 48) (s : State), s.clocksRun f.val = true ∧ 1 < (s.facetX f.val).reset ∧ (s.facetX f.val).clkReturn = false ∧ s.facetState f.val = fcRunning) ∧
    (∃ (f : Fin 48) (s : State), s.clocksRun f.val = true ∧ 1 < (s.facetX f.val).reset ∧ (s.facetX f.val).clkReturn = true) :=
  ⟨⟨48, opr 0x0104 1 0 0 [2], run up (opr 0x0104 1 0 0 [2]), by (try dsimp only); first | done | decide⟩,
   ⟨none, 0, { up with pwr := { up.pwr with warmAt := some 0 } }, by decide⟩,
   ⟨some (targetWord 1 0x010 0), targetWord 1 0x010 0, opr 0x0104 1 0x010 0 [3], run up (opr 0x0104 1 0x010 0 [3]), by (try dsimp only); first | done | decide⟩,
   ⟨some (targetWord 0 0x010 0), targetWord 0 0x010 0, opr 0x0104 0 0x010 0 [4], run up (opr 0x0104 0 0x010 0 [4]), by (try dsimp only); first | done | decide⟩,
   ⟨some (targetWord 5 0 0), targetWord 5 0 0, opr 0x0104 5 0 0 [2], run up (opr 0x0104 5 0 0 [2]), by (try dsimp only); first | done | decide⟩,
   ⟨0, run0.setFacetX 0 { reset := 1 }, by decide⟩,
   ⟨0, run0.setFacetX 0 { reset := 2 }, by decide⟩,
   ⟨0, run0.setFacetX 0 { reset := 2, clkReturn := true }, by decide⟩⟩
/-- The hypotheses of BootAndTemperature, clauses 0 to 14, can be met. -/
theorem test_hyps_BootAndTemperature_0 :
    (∃ (s : State), s.pwr.boot ≠ .inReset ∧ s.pwr.boot ≠ .stopped) ∧
    (∃ (t : _) (s : State), s.pwr.hotSince = some t) ∧
    (∃ (m : Master) (s : State), Reaches s m 0 0x058 4) ∧
    (∃ (s : State), s.pwr.boot = .inReset) ∧
    (∃ (s : State), s.pwr.boot = .clocks) ∧
    (∃ (s : State), s.pwr.boot = .firmware ∧ s.bootCut = true) ∧
    (∃ (s : State), s.pwr.boot = .firmware ∧ s.bootCut = false ∧ s.lampDom 0 = 0 ∧ s.lampDom 1 = 0) ∧
    (∃ (s : State), s.pwr.boot = .firmware ∧ s.bootCut = false ∧ ¬ (s.lampDom 0 = 0 ∧ s.lampDom 1 = 0) ∧ (s.lampState 0 = lpActive ∨ s.lampState 1 = lpActive)) ∧
    (∃ (s : State), s.pwr.boot = .dies ∧ s.bootCut = true) ∧
    (∃ (s : State), s.pwr.boot = .dies ∧ s.bootCut = false ∧ (List.range 8).any (fun e => s.edgeTraining e) = false ∧ s.pwr.inReset &&& 0x1E ≠ 0) ∧
    (∃ (s : State), s.pwr.boot = .dies ∧ s.bootCut = false ∧ (List.range 8).any (fun e => s.edgeTraining e) = false ∧ s.pwr.inReset &&& 0x1E = 0) ∧
    (∃ (s : State), s.ident.site ≠ 0 ∧ s.pwr.boot = .ready ∧ s.pwr.trip = false ∧ s.getF ucieBase F.UCIE_LINK_state = 1 ∧ s.opt.ucie.freeAt ≤ s.now) :=
  ⟨⟨up, by decide⟩,
   ⟨0, { up with pwr := { up.pwr with hotSince := some 0 } }, by decide⟩,
   ⟨.hostMgmt, up, by decide⟩,
   ⟨State.reset, by decide⟩,
   ⟨at_ .clocks, by decide⟩,
   ⟨{ at_ .firmware with pwr := { (at_ .firmware).pwr with trip := true } }, by decide⟩,
   ⟨withF (at_ .firmware) [(lampBase 0, F.LAMP_STAT_state, lpFailed), (lampBase 1, F.LAMP_STAT_state, lpFailed)], by decide⟩,
   ⟨withF (at_ .firmware) [(lampBase 0, F.LAMP_STAT_state, lpActive)], by decide⟩,
   ⟨{ at_ .dies with pwr := { (at_ .dies).pwr with trip := true } }, by decide⟩,
   ⟨{ at_ .dies with pwr := { (at_ .dies).pwr with inReset := 2 } }, by decide⟩,
   ⟨at_ .dies, by decide⟩,
   ⟨withF up [(ucieBase, F.UCIE_LINK_state, 1)], by decide⟩⟩
/-- The hypotheses of RetirementAndJournal, clauses 0 to 11, can be met. -/
theorem test_hyps_RetirementAndJournal_0 :
    (∃ (c : Cmd) (s : State), let x := chanOf (c.w 2); Takes s 0x0A02 c ∧ c.len = 4 ∧ (c.aimsJrnl) = true ∧ (x.isSome) = true ∧ c.f 2 31 28 ≠ 3 ∧ c.f 3 31 1 = 0 ∧ (x.all (fun x => s.chanPowered x)) = true ∧ (!x.any (fun x => s.chanRetired x)) = true ∧ (!s.heldByOther c) = true ∧ (x.all (fun x => s.chanFree false x && !s.chanHeld c x)) = true) ∧
    (∃ (c : Cmd) (s : State), let x := chanOf (c.w 2); Takes s 0x0A03 c ∧ c.len = 3 ∧ (c.aimsJrnl) = true ∧ (x.any (fun x => s.chanOut x)) = true ∧ (x.all (fun x => s.chanPowered x)) = true ∧ (!s.heldByOther c) = true ∧ (x.all (fun x => s.chanFree true x && !s.chanHeld c x)) = true) ∧
    (∃ (c : Cmd) (s : State), Takes s 0x0A00 c ∧ c.len = 4 ∧ (c.aimsJrnl) = true ∧ c.f 2 31 16 = 0 ∧ c.f 3 31 5 = 0 ∧ c.f 3 4 0 ≠ 0) ∧
    (∃ (c : Cmd) (s : State), Takes s 0x0A01 c ∧ c.len = 4 ∧ (c.aimsJrnl) = true ∧ c.f 2 30 16 = 0 ∧ c.f 3 31 8 = 0 ∧ c.f 3 7 0 ≠ 1 ∧ (!s.heldByOther c) = true) ∧
    (∃ (o : Op) (x : Chan) (s : State), s.chanOp 0x0A02 = some o ∧ chanOf (o.w 2) = some x ∧ s.chanPowered x = false ∧ o.stage = 0) ∧
    (∃ (o : Op) (x : Chan) (s : State), s.chanOp 0x0A02 = some o ∧ chanOf (o.w 2) = some x ∧ s.chanPowered x = true ∧ o.stage = 0) ∧
    (∃ (o : Op) (x : Chan) (s : State), s.chanOp 0x0A02 = some o ∧ chanOf (o.w 2) = some x ∧ o.stage ≠ 0 ∧ s.chanSettles x = false) ∧
    (∃ (o : Op) (x : Chan) (s : State), s.chanOp 0x0A03 = some o ∧ chanOf (o.w 2) = some x ∧ s.chanPowered x = false ∧ o.stage = 0) ∧
    (∃ (o : Op) (x : Chan) (s : State), s.chanOp 0x0A03 = some o ∧ chanOf (o.w 2) = some x ∧ o.stage ≠ 0 ∧ s.chanSettles x = false) ∧
    (∃ (o : Op) (e : Nat) (s : State), let x := Chan.edge e; s.chanOp 0x0A03 = some o ∧ chanOf (o.w 2) = some x ∧ o.stage = 0 ∧ s.chanPowered x = true ∧ s.edgeTraining e = false) ∧
    (∃ (o : Op) (k : Nat) (ch : Nat) (s : State), let x := Chan.dram k ch; s.chanOp 0x0A03 = some o ∧ chanOf (o.w 2) = some x ∧ o.stage = 0 ∧ s.chanPowered x = true) ∧
    (∃ (o : Op) (x : Chan) (s : State), s.chanOp 0x0A03 = some o ∧ chanOf (o.w 2) = some x ∧ (∀ e, x ≠ .edge e) ∧ (∀ k ch, x ≠ .dram k ch) ∧ o.stage = 0 ∧ s.chanPowered x = true ∧ s.chanDropped x = false) :=
  ⟨⟨pk 0 0x050 0 [0x10000000,0], (got (up) 0x0A02 (pk 0 0x050 0 [0x10000000,0])), by (try dsimp only); first | done | decide⟩,
   ⟨pk 0 0x050 0 [0x10000000], (got (withF up [(laneBase 0, F.LANE_STAT_state, lnRetired)]) 0x0A03 (pk 0 0x050 0 [0x10000000])), by (try dsimp only); first | done | decide⟩,
   ⟨pk 0 0x050 0 [0,1], (got (up) 0x0A00 (pk 0 0x050 0 [0,1])), by decide⟩,
   ⟨pk 0 0x050 0 [0,0], (got (up) 0x0A01 (pk 0 0x050 0 [0,0])), by decide⟩,
   ⟨opr 0x0A02 0 0x050 0 [0x10000000, 0] 0, Chan.lane 0, domAt (groupDom 0) 0 (run up (opr 0x0A02 0 0x050 0 [0x10000000, 0] 0)), by decide⟩,
   ⟨opr 0x0A02 0 0x050 0 [0x10000000,0], Chan.lane 0, run up (opr 0x0A02 0 0x050 0 [0x10000000,0]), by decide⟩,
   ⟨opr 0x0A02 0 0x050 0 [0x10000000, 0] 1, Chan.lane 0, run up (opr 0x0A02 0 0x050 0 [0x10000000, 0] 1), by decide⟩,
   ⟨opr 0x0A03 0 0x050 0 [0x10000000] 0, Chan.lane 0, domAt (groupDom 0) 0 (run up (opr 0x0A03 0 0x050 0 [0x10000000] 0)), by decide⟩,
   ⟨opr 0x0A03 0 0x050 0 [0x10000000] 1, Chan.lane 0, run up (opr 0x0A03 0 0x050 0 [0x10000000] 1), by decide⟩,
   ⟨opr 0x0A03 0 0x050 0 [0x30000000] 0, 0, run up (opr 0x0A03 0 0x050 0 [0x30000000] 0), by (try dsimp only); first | done | decide⟩,
   ⟨opr 0x0A03 0 0x050 0 [0x50000000], 0, 0, run up (opr 0x0A03 0 0x050 0 [0x50000000]), by decide⟩,
   ⟨opr 0x0A03 0 0x050 0 [0x10000000] 0, Chan.lane 0, run (withF up [(laneBase 0, F.LANE_STAT_state, lnCal)]) (opr 0x0A03 0 0x050 0 [0x10000000] 0), by refine ⟨by decide, by decide, ?_, ?_, by decide, by decide⟩ <;> intros <;> exact Chan.noConfusion⟩⟩
/-- The hypotheses of RunControl, clauses 0 to 10, can be met. -/
theorem test_hyps_RunControl_0 :
    (∃ (w : DbgBy) (n : Fin 8) (v : Word) (s : State), let x := v.toNat ||| 2 ^ 31; let s1 := (s.setF (dbgCore n.val) F.DBG_RUN_halt_on_reset (bitsOf x 4 4)).setF (dbgCore n.val) F.DBG_RUN_step_ie (bitsOf x 3 3); dbgReaches s w (0x100 + 0x40 * n.val) = true ∧ s.dbgOwner w = true ∧ s.right 0 = true ∧ s.mainGood = true ∧ s1.cueState n.val = cuRunning) ∧
    (∃ (w : DbgBy) (n : Fin 8) (v : Word) (s : State), let x := v.toNat ||| 2 ^ 30; let s1 := (s.setF (dbgCore n.val) F.DBG_RUN_halt_on_reset (bitsOf x 4 4)).setF (dbgCore n.val) F.DBG_RUN_step_ie (bitsOf x 3 3); dbgReaches s w (0x100 + 0x40 * n.val) = true ∧ s.dbgOwner w = true ∧ s.right 0 = true ∧ s.mainGood = true ∧ s1.cueState n.val = cuHalted) ∧
    (∃ (w : DbgBy) (n : Fin 8) (v : Word) (s : State), let x := v.toNat ||| 2 ^ 29; let s1 := (s.setF (dbgCore n.val) F.DBG_RUN_halt_on_reset (bitsOf x 4 4)).setF (dbgCore n.val) F.DBG_RUN_step_ie (bitsOf x 3 3); dbgReaches s w (0x100 + 0x40 * n.val) = true ∧ s.dbgOwner w = true ∧ s.right 0 = true ∧ s.mainGood = true ∧ v.toNat.testBit 30 = false ∧ s1.cueState n.val = cuHalted) ∧
    (∃ (w : DbgBy) (s : State), dbgReaches s w 0x64 = true ∧ s.dbgOwner w = true ∧ s.right 0 = true ∧ s.mainGood = true) ∧
    (∃ (w : DbgBy) (s : State), dbgReaches s w 0x64 = true ∧ s.dbgOwner w = true ∧ s.right 0 = true ∧ s.mainGood = true) ∧
    (∃ (n : Fin 8) (k : Fin 4) (kind : BpKind) (addr : BitVec 40) (s : State), s.bpHit n.val k.val kind addr.toNat = true) ∧
    (∃ (w : DbgBy) (n : Fin 8) (v : Word) (s : State), let x := v.toNat ||| 2 ^ 31; let b := dbgCore n.val; let s0 := if x.testBit 29 then s.lower b F.DBG_CREG_CTL_err else s; let s1 := (s0.setF b F.DBG_CREG_CTL_write (bitsOf x 30 30)).setF b F.DBG_CREG_CTL_regno (bitsOf x 15 0); let r := bitsOf x 15 0; dbgReaches s w (0x104 + 0x40 * n.val) = true ∧ s.dbgOwner w = true ∧ s.right 0 = true ∧ s1.mainGood = true ∧ s1.cueIsHalted n.val = true ∧ cregOk r = true) ∧
    (∃ (w : DbgBy) (s : State), dbgReaches s w 0x50 = true ∧ s.dbgOwner w = true ∧ s.right 4 = true) ∧
    (∃ (w : DbgBy) (s : State), dbgReaches s w 0x54 = true ∧ s.dbgOwner w = true ∧ s.right 4 = true) ∧
    (∃ (w : DbgBy) (s : State), dbgReaches s w 0x58 = true ∧ s.dbgOwner w = true ∧ s.right 4 = true) ∧
    (∃ (w : DbgBy) (n : Fin 8) (s : State), dbgReaches s w (0x100 + 0x40 * n.val) = true ∧ (s.dbgOwner w = false ∨ s.right 0 = false)) :=
  ⟨⟨.jtag, 0, 0, withF dbgUp [(cueBase 0, F.CUE_STAT_state, cuRunning)], by (try dsimp only); first | done | decide⟩,
   ⟨.jtag, 0, 0, withF dbgUp [(cueBase 0, F.CUE_STAT_state, cuHalted)], by (try dsimp only); first | done | decide⟩,
   ⟨.jtag, 0, 0, withF dbgUp [(cueBase 0, F.CUE_STAT_state, cuHalted)], by (try dsimp only); first | done | decide⟩,
   ⟨.jtag, dbgUp, by decide⟩,
   ⟨.jtag, dbgUp, by decide⟩,
   ⟨0, 0, .exec, 0, withF dbgUp [(bpBase 0 0, F.DBG_BP_HI_en, 1)], by decide⟩,
   ⟨.jtag, 0, 0, withF dbgUp [(cueBase 0, F.CUE_STAT_state, cuHalted)], by (try dsimp only); first | done | decide⟩,
   ⟨.jtag, dbgUp, by decide⟩,
   ⟨.jtag, dbgUp, by decide⟩,
   ⟨.jtag, dbgUp, by decide⟩,
   ⟨.bus .hostMgmt, 0, withF { up with dbg := { up.dbg with on := true } } [], by decide⟩⟩
/-- The hypotheses of DebugRights, clauses 0 to 11, can be met. -/
theorem test_hyps_DebugRights_0 :
    (∃ (c : Cmd) (s : State), Takes s 0x0900 c ∧ c.len = 2 ∧ (c.aimsDbg) = true ∧ (!s.ident.debugPolicy.testBit 6) = true ∧ (s.dbg.on) = true) ∧
    (∃ (c : Cmd) (s : State), Takes s 0x0901 c ∧ c.len = 100 ∧ c.aimsDbg = true ∧ s.ident.debugPolicy.testBit 6 = false ∧ c.unlockOk = true ∧ s.dbg.on = true) ∧
    (∃ (x1_ : _) (t : _) (s : State), s.dbg.nonce = some (x1_, t)) ∧
    (∃ (t : _) (s : State), s.dbg.expiry = some t) ∧
    (∃ (w : DbgBy) (s : State), dbgReaches s w 0x14 = true) ∧
    (∃ (s : State), s.dbg.on = false) ∧
    (∃ (s : State), s.dbg.on = true) ∧
    (∃ (w : DbgBy) (v : Word) (s : State), let s2 := (s.plainWrite 0 0x0F0 0x30 (v.toNat ||| 2 ^ 31)).lower dbgBase F.DBGA_STAT_poison; dbgReaches s w 0x30 = true ∧ s.dbgOwner w = true ∧ s.flag dbgBase F.DBGA_STAT_busy = false ∧ s2.dbgaBarred = false ∧ s2.mainGood = true) ∧
    (∃ (es : List LineErr) (st : Status) (data : BitVec 64) (poison : Bool) (r : _) (s : State), s.flag dbgBase F.DBGA_STAT_busy = true ∧ s.now ≤ s.dbg.goAt + 10000 ∧ s.dbgaDo es st data poison = some r) ∧
    (∃ (s : State), s.flag dbgBase F.DBGA_STAT_busy = true) ∧
    (∃ (w : DbgBy) (p : Fin 64) (s : State), dbgReaches s w (0x600 + 4 * p.val) = true ∧ s.tracing = true) ∧
    (∃ (s : State), s.getF dbgBase F.DBG_TRC_PCS_interval ≠ 0 ∧ s.traces 4 = true) :=
  ⟨⟨pk 0 0x0F0 0 [], (got (dbgUp) 0x0900 (pk 0 0x0F0 0 [])), by decide⟩,
   ⟨pk 0 0x0F0 0 (0x10000 :: List.replicate 97 0), (got (dbgUp) 0x0901 (pk 0 0x0F0 0 (0x10000 :: List.replicate 97 0))), by decide⟩,
   ⟨0, 0, { dbgUp with dbg := { dbgUp.dbg with nonce := some (0, 0) } }, by decide⟩,
   ⟨0, { dbgUp with dbg := { dbgUp.dbg with expiry := some 0 } }, by decide⟩,
   ⟨.jtag, dbgUp, by decide⟩,
   ⟨up, by decide⟩,
   ⟨dbgUp, by decide⟩,
   ⟨.jtag, 0, dbgUp, by (try dsimp only); first | done | decide⟩,
   ⟨[], .ok, 0, false, (({ err := 3 } : DbgaAns), withF { dbgUp with pwr := { dbgUp.pwr with boot := .inReset } } [(dbgBase, F.DBGA_STAT_busy, 1)]), withF { dbgUp with pwr := { dbgUp.pwr with boot := .inReset } } [(dbgBase, F.DBGA_STAT_busy, 1)], by decide⟩,
   ⟨withF dbgUp [(dbgBase, F.DBGA_STAT_busy, 1)], by decide⟩,
   ⟨.jtag, 0, withF dbgUp [(dbgBase, F.DBG_TRC_CTL_enable, 1)], by decide⟩,
   ⟨withF dbgUp [(dbgBase, F.DBG_TRC_CTL_enable, 1), (dbgBase, F.DBG_TRC_CTL_types, 0xFF), (dbgBase, F.DBG_TRC_PCS_interval, 1)], by decide⟩⟩
/-- The hypotheses of DebugRights, clauses 12 to 15, can be met. -/
theorem test_hyps_DebugRights_12 :
    (∃ (p : _) (t : _) (s : State), let s1 : State := { s with dbg := { s.dbg with queue := t } }; s.dbg.queue = p :: t ∧ s1.tracing = true ∧ s1.exportWaits = true) ∧
    (∃ (p : _) (t : _) (s : State), let s1 : State := { s with dbg := { s.dbg with queue := t } }; s.dbg.queue = p :: t ∧ (s1.tracing && s1.exportWaits) = false) ∧
    (∃ (w : DbgBy) (s : State), dbgReaches s w 0x400 = true ∧ s.dbgOwner w = true ∧ s.policyBars 4 5 = false) ∧
    (∃ (s : State), s.flag dbgBase F.DBGA_STAT_busy = true ∧ s.dbg.goAt + 10000 < s.now) :=
  ⟨⟨{ words := [], trig := false }, [], { exp0 with dbg := { exp0.dbg with queue := [{ words := [], trig := false }] } }, by decide⟩,
   ⟨{ words := [], trig := false }, [], { dbgUp with dbg := { dbgUp.dbg with queue := [{ words := [], trig := false }] } }, by decide⟩,
   ⟨.jtag, dbgUp, by decide⟩,
   ⟨{ withF dbgUp [(dbgBase, F.DBGA_STAT_busy, 1)] with now := 10001 }, by decide⟩⟩
/-- The hypotheses of TestAccessPort, clauses 0 to 10, can be met. -/
theorem test_hyps_TestAccessPort_0 :
    (∃ (s : State), s.dbg.on = true) ∧
    (∃ (s : State), s.dbg.on = true) ∧
    (∃ (s : State), s.dbg.on = true) ∧
    (∃ (s : State), s.dbg.on = true) ∧
    (∃ (s : State), s.dbg.on = true) ∧
    (∃ (s : State), s.dbg.on = true) ∧
    (∃ (s : State), s.dbg.on = true) ∧
    (∃ (s : State), s.dbg.on = true ∧ s.mainGood = true) ∧
    (∃ (s : State), s.dbg.on = true ∧ s.mainGood = true) ∧
    (∃ (s : State), s.dbg.on = true ∧ s.mainGood = true) ∧
    (∃ (s : State), s.dbg.on = true ∧ s.mainGood = true) :=
  ⟨⟨dbgUp, by decide⟩,
   ⟨dbgUp, by decide⟩,
   ⟨dbgUp, by decide⟩,
   ⟨dbgUp, by decide⟩,
   ⟨dbgUp, by decide⟩,
   ⟨dbgUp, by decide⟩,
   ⟨dbgUp, by decide⟩,
   ⟨dbgUp, by decide⟩,
   ⟨dbgUp, by decide⟩,
   ⟨dbgUp, by decide⟩,
   ⟨dbgUp, by decide⟩⟩
/-- The hypotheses of CueCores, clauses 0 to 9, can be met. -/
theorem test_hyps_CueCores_0 :
    (∃ (c : Cmd) (s : State), let n := c.cueOf.getD 0; Takes s 0x0108 c ∧ c.len = 5 ∧ (c.cueOf.isSome) = true ∧ (s.cueCtlOk n c) = true ∧ s.cueState n ≠ cuOff ∧ (!s.heldByOther c) = true ∧ s.cueState n ≠ cuStopped) ∧
    (∃ (c : Cmd) (s : State), Takes s 0x0188 c ∧ c.len = 2 ∧ (c.cueOf.isSome) = true) ∧
    (∃ (n : Fin 8) (o : Op) (s : State), s.pendingOn 0x0108 (cueWord n.val) = some o) ∧
    (∃ (n : Fin 8) (s : State), s.cueState n.val = cuRunning) ∧
    (∃ (n : Fin 8) (a : Nat) (t : Nat) (s : State), (s.cueX n.val).resv = some (a, t)) ∧
    (∃ (n : Fin 8) (s0 : State), s0.wdtCounts n.val = true) ∧
    (∃ (m : Master) (n : Fin 8) (v : Word) (s : State), Reaches s m 0 (0x010 + n.val) 0x20 ∧ (m = .debug ∨ m = .cue n) ∧ v.getLsbD 0 = true) ∧
    (∃ (m : Master) (n : Fin 8) (s : State), CueReaches s m n.val 0x18 ∧ s.flag (cueBase n.val) F.CUE_WDT_CFG_lock = false) ∧
    (∃ (m : Master) (n : Fin 8) (s : State), CueReaches s m n.val 0x24) :=
  ⟨⟨pk 0 0x010 0 [0,0,0], (got (withF up [(cueBase 0, F.CUE_STAT_state, cuHeld)]) 0x0108 (pk 0 0x010 0 [0,0,0])), by (try dsimp only); first | done | decide⟩,
   ⟨pk 0 0x010 0 [], (got (up) 0x0188 (pk 0 0x010 0 [])), by decide⟩,
   ⟨0, opr 0x0108 0 0x010 0 [0,0,0], run up (opr 0x0108 0 0x010 0 [0,0,0]), by decide⟩,
   ⟨0, withF up [(cueBase 0, F.CUE_STAT_state, cuRunning)], by decide⟩,
   ⟨0, 0, 0, up.setCueX 0 { up.cueX 0 with resv := some (0, 0) }, by decide⟩,
   ⟨0, withF up [(cueBase 0, F.CUE_STAT_state, cuRunning), (cueBase 0, F.CUE_WDT_CFG_enable, 1)], by decide⟩,
   ⟨.debug, 0, 1, up, by decide⟩,
   ⟨.cue 0, 0, up, by decide⟩,
   ⟨.cue 0, 0, up, by decide⟩⟩
/-- The hypotheses of Mailboxes, clauses 0 to 4, can be met. -/
theorem test_hyps_Mailboxes_0 :
    (∃ (m : Master) (i : Fin 48) (s : State), Reaches s m 0 0x008 (0x100 + 0x20 * i.val + 0x00) ∧ isAgent m 0 = true ∧ s.mbFull i.val = false) ∧
    (∃ (m : Master) (i : Fin 48) (s : State), Reaches s m 0 0x008 (0x100 + 0x20 * i.val + 0x04) ∧ s.mbBound i.val = true ∧ isAgent m (s.mbSender i.val) = true ∧ s.mbFull i.val = false) ∧
    (∃ (m : Master) (i : Fin 48) (s : State), Reaches s m 0 0x008 (0x100 + 0x20 * i.val + 0x10) ∧ s.mbBound i.val = true ∧ isAgent m (s.mbSender i.val) = true) ∧
    (∃ (m : Master) (i : Fin 48) (s : State), Reaches s m 0 0x008 (0x100 + 0x20 * i.val + 0x1C) ∧ s.mbBound i.val = true ∧ isAgent m (s.mbReceiver i.val) = true ∧ s.mbFull i.val = true) ∧
    (∃ (m : Master) (i : Fin 48) (s : State), Reaches s m 0 0x008 (0x100 + 0x20 * i.val + 0x08) ∧ s.mbBound i.val = true ∧ isAgent m (s.mbSender i.val) = true ∧ s.mbFull i.val = true) :=
  ⟨⟨.hostMgmt, 0, up, by decide⟩,
   ⟨.cue 0, 0, mbUp, by decide⟩,
   ⟨.cue 0, 0, mbUp, by decide⟩,
   ⟨.cue 1, 0, mbFullUp, by decide⟩,
   ⟨.cue 0, 0, mbFullUp, by decide⟩⟩
/-- The hypotheses of DmaChannels, clauses 0 to 4, can be met. -/
theorem test_hyps_DmaChannels_0 :
    (∃ (m : Master) (c : Fin 16) (v : Word) (s : State), let s1 := s.dmaCtl c.val v.toNat; s.busUp = true ∧ dmaForeign m c.val = false ∧ Reaches s m 0 0x002 (0x100 + 0x40 * c.val + 0x14) ∧ s1.dmaState c.val = 0 ∧ s1.dmaSrc c.val % 64 = 0 ∧ s1.dmaDst c.val % 64 = 0 ∧ (2 ≤ s1.getF (dmaCh c.val) F.DMA_CTL_dir → peerAddrOk (s1.dmaSrc c.val) = true ∧ peerAddrOk (s1.dmaDst c.val) = true)) ∧
    (∃ (m : Master) (c : Fin 16) (v : Word) (s : State), let s1 := s.dmaCtl c.val v.toNat; s.busUp = true ∧ dmaForeign m c.val = false ∧ Reaches s m 0 0x002 (0x100 + 0x40 * c.val + 0x14) ∧ s1.dmaState c.val = 1) ∧
    (∃ (m : Master) (c : Fin 16) (s : State), s.busUp = true ∧ dmaForeign m c.val = false ∧ Reaches s m 0 0x002 (0x100 + 0x40 * c.val + 0x14) ∧ s.dmaState c.val ≠ 0) ∧
    (∃ (c : Fin 16) (s : State), s.dmaState c.val = 2 ∧ s.hq.handover = false) ∧
    (∃ (c : Fin 16) (s : State), s.dmaState c.val = 1 ∧ s.hq.handover = false) :=
  ⟨⟨.hostMgmt, 0, 0, up, by (try dsimp only); first | done | decide⟩,
   ⟨.hostMgmt, 0, 0, withF up [(dmaCh 0, F.DMA_CHSTAT_state, 1)], by (try dsimp only); first | done | decide⟩,
   ⟨.hostMgmt, 0, withF up [(dmaCh 0, F.DMA_CHSTAT_state, 1)], by decide⟩,
   ⟨0, withF up [(dmaCh 0, F.DMA_CHSTAT_state, 2)], by decide⟩,
   ⟨0, withF up [(dmaCh 0, F.DMA_CHSTAT_state, 1)], by decide⟩⟩
/-- The hypotheses of PortsAndProbes, clauses 2 to 9, can be met. -/
theorem test_hyps_PortsAndProbes_2 :
    (∃ (m : Master) (q : Fin 4) (p : SpPort) (s : State), Reaches s m (1 + q.val) 0x020 p.off) ∧
    (∃ (q : Fin 4) (r : _) (t : _) (s : State), s.rpWait q.val = r :: t ∧ (s.rpOut q.val).length < 8 ∧ s.regportReady q.val = true) ∧
    (∃ (q : Fin 4) (s : State), SMap.get 0 s.fab.late q.val ≠ 0) ∧
    (∃ (q : Fin 4) (r : _) (t : _) (s : State), SMap.get 0 s.fab.late q.val = 0 ∧ s.rpOut q.val = r :: t) ∧
    (∃ (q : Fin 4) (r : _) (t : _) (s : State), s.rpOut q.val = r :: t) ∧
    (∃ (q : Fin 4) (r : _) (t : _) (s : State), s.rpOut q.val = [] ∧ s.rpWait q.val = r :: t) ∧
    (∃ (m : Master) (q : Fin 4) (s : State), Reaches s m (1 + q.val) 0x038 0x0C ∧ s.probeLocked = false) :=
  ⟨⟨.hostMgmt, 0, .rx 0, up, by decide⟩,
   ⟨0, ({ master := .hostMgmt, addr := 0, write := false, be := 0xFF, data := 0, time := 0 } : RpReq), ([] : List RpReq), withF { run0 with fab := { run0.fab with wait := [(0, [({ master := .hostMgmt, addr := 0, write := false, be := 0xFF, data := 0, time := 0 } : RpReq)])] } } [(qsysBase 0, F.QSYS_REGPORT_present, 1)], by decide⟩,
   ⟨0, { up with fab := { up.fab with late := [(0, 1)] } }, by decide⟩,
   ⟨0, ({ master := .hostMgmt, addr := 0, write := false, be := 0xFF, data := 0, time := 0 } : RpReq), ([] : List RpReq), { up with fab := { up.fab with rp := [(0, [{ master := .hostMgmt, addr := 0, write := false, be := 0xFF, data := 0, time := 0 }])] } }, by decide⟩,
   ⟨0, ({ master := .hostMgmt, addr := 0, write := false, be := 0xFF, data := 0, time := 0 } : RpReq), ([] : List RpReq), { up with fab := { up.fab with rp := [(0, [{ master := .hostMgmt, addr := 0, write := false, be := 0xFF, data := 0, time := 0 }])] } }, by decide⟩,
   ⟨0, ({ master := .hostMgmt, addr := 0, write := false, be := 0xFF, data := 0, time := 0 } : RpReq), ([] : List RpReq), up.setRpWait 0 [({ master := .hostMgmt, addr := 0, write := false, be := 0xFF, data := 0, time := 0 } : RpReq)], by decide⟩,
   ⟨.hostMgmt, 0, up, by decide⟩⟩
/-- The hypotheses of BaysQueuesAndArithmetic, clauses 0 to 11, can be met. -/
theorem test_hyps_BaysQueuesAndArithmetic_0 :
    (∃ (q : Fin 4) (deep : Bool) (i : Fin 4096) (portB : Bool) (s : State), let u := bayUnit q.val deep i.val; let clr := !portB && s.bayPins u false 64 1 0 == 1; let s0 := if clr then s.bayClr u else s; let pin (lo w v : Nat) : Nat := s0.bayPins u portB lo w v; bayExists deep i.val = true ∧ s.portOpen u portB = true ∧ s0.unitLoading u = false ∧ pin 0 1 1 ≠ 0 ∧ pin 1 1 1 = 1) ∧
    (∃ (q : Fin 4) (deep : Bool) (i : Fin 4096) (portB : Bool) (s : State), let u := bayUnit q.val deep i.val; let s0 := if !portB && s.bayPins u false 64 1 0 == 1 then s.bayClr u else s; s0.bayPins u portB 1 1 1 ≠ 1) ∧
    (∃ (q : Fin 4) (deep : Bool) (i : Fin 4096) (portB : Bool) (s : State), let u := bayUnit q.val deep i.val; let s0 := if !portB && s.bayPins u false 64 1 0 == 1 then s.bayClr u else s; s0.bayPins u portB 0 1 1 = 0) ∧
    (∃ (q : Fin 4) (deep : Bool) (i : Fin 4096) (portB : Bool) (s : State), let u := bayUnit q.val deep i.val; let s0 := if !portB && s.bayPins u false 64 1 0 == 1 then s.bayClr u else s; let pin (lo w v : Nat) : Nat := s0.bayPins u portB lo w v; bayExists deep i.val = true ∧ s.portOpen u portB = true ∧ pin 0 1 1 ≠ 0) ∧
    (∃ (q : Fin 4) (deep : Bool) (i : Fin 4096) (s : State), let u := bayUnit q.val deep i.val; bayExists deep i.val = true ∧ s.portOpen u false = true ∧ s.bayPins u false 64 1 1 ≠ 0) ∧
    (∃ (q : Fin 4) (deep : Bool) (i : Fin 4096) (s : State), s.bayPins (bayUnit q.val deep i.val) false 64 1 1 = 0) ∧
    (∃ (q : Fin 4) (deep : Bool) (i : Fin 4096) (j : BayJob) (s : State), let u := bayUnit q.val deep i.val; let t := s.rawFirst u; bayExists deep i.val = true ∧ s.slotFree u = true ∧ t.bayJob u = some j ∧ j.rebuild = false) ∧
    (∃ (q : Fin 4) (deep : Bool) (i : Fin 4096) (j : BayJob) (s : State), let u := bayUnit q.val deep i.val; let t := s.rawFirst u; bayExists deep i.val = true ∧ s.slotFree u = true ∧ t.bayJob u = some j ∧ j.rebuild = true) ∧
    (∃ (q : Fin 4) (deep : Bool) (i : Fin 4096) (s : State), let u := bayUnit q.val deep i.val; bayExists deep i.val = true ∧ s.slotFree u = true ∧ (s.bayJob u).isSome = false ∧ s.flag (scrubBase q.val) F.SCRUB_CFG_bay_en = true) ∧
    (∃ (m : Master) (q : Fin 4) (deep : Bool) (bay : BitVec 12) (s : State), let b := qcBase q.val; let s1 := (s.setF b F.QC_RAW_CTL_deep (bit deep)).setF b F.QC_RAW_CTL_bay bay.toNat; Reaches s m (1 + q.val) 0x028 0x40 ∧ SMap.get none s.bays.raw q.val = none ∧ s1.rawRefused q.val = false) ∧
    (∃ (m : Master) (q : Fin 4) (deep : Bool) (bay : BitVec 12) (s : State), let b := qcBase q.val; let s1 := (s.setF b F.QC_RAW_CTL_deep (bit deep)).setF b F.QC_RAW_CTL_bay bay.toNat; Reaches s m (1 + q.val) 0x028 0x40 ∧ s.injectLocked = false ∧ SMap.get none s.bays.raw q.val = none ∧ s1.rawRefused q.val = false) ∧
    (∃ (q : Fin 4) (wr : _) (s : State), SMap.get none s.bays.raw q.val = some wr ∧ s.rawRefused q.val = true) :=
  ⟨⟨0, false, 1, false, clk0, by (try dsimp only); first | done | decide⟩,
   ⟨0, false, 1, false, up, by decide⟩,
   ⟨0, false, 1, false, up, by decide⟩,
   ⟨0, false, 1, false, clk0, by (try dsimp only); first | done | decide⟩,
   ⟨0, false, 1, clk0, by (try dsimp only); first | done | decide⟩,
   ⟨0, false, 1, up, by (try dsimp only); first | done | decide⟩,
   ⟨0, false, 0, ({ rebuild := false, group := 0, restarts := 0 } : BayJob), { clk0 with bays := { clk0.bays with jobs := [(0, some ({ rebuild := false, group := 0, restarts := 0 } : BayJob))] } }, by (try dsimp only); first | done | decide⟩,
   ⟨0, false, 0, ({ rebuild := true, group := 0, restarts := 0 } : BayJob), { clk0 with bays := { clk0.bays with jobs := [(0, some ({ rebuild := true, group := 0, restarts := 0 } : BayJob))] } }, by (try dsimp only); first | done | decide⟩,
   ⟨0, false, 0, withF clk0 [(scrubBase 0, F.SCRUB_CFG_bay_en, 1)], by (try dsimp only); first | done | decide⟩,
   ⟨.hostMgmt, 0, false, 0, up, by (try dsimp only); first | done | decide⟩,
   ⟨.hostMgmt, 0, false, 0, up, by (try dsimp only); first | done | decide⟩,
   ⟨0, true, withF { run0 with bays := { run0.bays with raw := [(0, some true)] } } [(qcBase 0, F.QC_RAW_ADDR_word, 1024)], by decide⟩⟩
/-- The hypotheses of BaysQueuesAndArithmetic, clauses 12 to 20, can be met. -/
theorem test_hyps_BaysQueuesAndArithmetic_12 :
    (∃ (q : Fin 4) (wr : _) (s : State), SMap.get none s.bays.raw q.val = some wr ∧ s.rawRefused q.val = false ∧ s.slotFree (s.rawUnit q.val) = true) ∧
    (∃ (q : Fin 4) (x1_ : _) (s : State), SMap.get none s.bays.raw q.val = some x1_) ∧
    (∃ (q : Fin 4) (n : Fin 480) (b : _) (s : State), s.qbind q.val n.val = some b ∧ s.qcRuns q.val n.val b false = true) ∧
    (∃ (q : Fin 4) (n : Fin 480) (b : _) (s : State), s.qbind q.val n.val = some b ∧ s.qcRuns q.val n.val b true = true) ∧
    (∃ (m : Master) (q : Fin 4) (n : Fin 480) (s : State), Reaches s m (1 + q.val) 0x028 (0x100 + 0x40 * n.val)) ∧
    (∃ (m : Master) (q : Fin 4) (n : Fin 480) (s : State), Reaches s m (1 + q.val) 0x028 (0x110 + 0x40 * n.val)) ∧
    (∃ (q : Fin 4) (n : Fin 2048) (rst : Bool) (s : State), s.sauClocked q.val n.val = true ∧ s.sauPins q.val n.val 130 1 (bit rst) = 1) ∧
    (∃ (q : Fin 4) (n : Fin 2048) (adv : Bool) (rst : Bool) (s : State), s.sauClocked q.val n.val = true ∧ s.sauPins q.val n.val 130 1 (bit rst) ≠ 1 ∧ (s.sauPins q.val n.val 129 1 (bit adv) = 0 ∨ s.holding (sauFacet q.val n.val) = true)) ∧
    (∃ (q : Fin 4) (n : Fin 2048) (adv : Bool) (rst : Bool) (s : State), let pin (lo w v : Nat) : Nat := s.sauPins q.val n.val lo w v; s.sauClocked q.val n.val = true ∧ pin 130 1 (bit rst) ≠ 1 ∧ pin 129 1 (bit adv) ≠ 0 ∧ s.holding (sauFacet q.val n.val) = false) :=
  ⟨⟨0, true, { clk0 with bays := { clk0.bays with raw := [(0, some true)] } }, by decide⟩,
   ⟨0, true, { run0 with bays := { run0.bays with raw := [(0, some true)] } }, by decide⟩,
   ⟨0, 0, ({ n := 0, deep := false, paired := false, bay := 0 } : QcBind), clk0, by decide⟩,
   ⟨0, 0, ({ n := 0, deep := false, paired := false, bay := 0 } : QcBind), clk0, by decide⟩,
   ⟨.hostMgmt, 0, 0, up, by decide⟩,
   ⟨.hostMgmt, 0, 0, up, by decide⟩,
   ⟨0, 0, true, clk0, by decide⟩,
   ⟨0, 0, false, false, clk0, by decide⟩,
   ⟨0, 0, true, false, clk0, by (try dsimp only); first | done | decide⟩⟩
/-- The hypotheses of ImagesAndScrubbing, clauses 0 to 11, can be met. -/
theorem test_hyps_ImagesAndScrubbing_0 :
    (∃ (c : Cmd) (s : State), let h := c.f 2 15 0; Takes s 0x0200 c ∧ c.len = 8 ∧ (c.aimsCfg) = true ∧ (s.stageOk c) = true ∧ (!s.heldByOther c) = true ∧ s.hState h ≠ 3 ∧ s.hState h ≠ 5 ∧ s.hState h ≠ 6 ∧ ((s.stageOp h).isNone) = true ∧ (!(srcOfStage (c.w 2) == 3 && s.pushHandle.isSome)) = true) ∧
    (∃ (c : Cmd) (s : State), let h := c.w 2; Takes s 0x0201 c ∧ c.len = 3 ∧ (c.aimsCfg) = true ∧ h < 8 ∧ s.hState h = 2 ∧ (!s.heldByOther c) = true) ∧
    (∃ (c : Cmd) (s : State), let sel := facetsOf (s.applyMask c); Takes s 0x0202 c ∧ c.len = 6 ∧ (c.aimsCfg) = true ∧ (s.applyOk c) = true ∧ (sel.all (fun f => s.facetState f != fcOff && s.facetState f != fcDraining && s.quadUp (f / 12))) = true ∧ (!s.heldByOther c) = true ∧ (sel.all (fun f => !s.applying f && !s.swapArmed f && (s.facetX f).rewrite.isNone && !s.otherHolds c (facetBase f))) = true) ∧
    (∃ (c : Cmd) (s : State), let q := c.scrubOf.getD 0; Takes s 0x0206 c ∧ c.len = 5 ∧ (c.scrubOf.isSome) = true ∧ c.f 2 31 3 = 0 ∧ ((c.w 3 == 0 || (decide (16 ≤ c.w 3) && decide (c.w 3 ≤ 16384)))) = true ∧ ((c.w 4 == 0 || (decide (80 ≤ c.w 4) && decide (c.w 4 ≤ 100000)))) = true ∧ (s.quadUp q) = true ∧ (!s.heldByOther c) = true) ∧
    (∃ (c : Cmd) (s : State), let q := c.scrubOf.getD 0; Takes s 0x0286 c ∧ c.len = 2 ∧ (c.scrubOf.isSome) = true ∧ (s.quadUp q) = true) ∧
    (∃ (c : Cmd) (s : State), Takes s 0x0902 c ∧ c.len = 5 ∧ (c.aims 0 0x048 0) = true ∧ c.w 2 < 4 ∧ c.f 4 31 8 = 0 ∧ (c.w 3 % 64 == 0) = true ∧ (localRange (blobAddr (c.w 3) (c.w 4)) 256) = true ∧ (!s.heldByOther c) = true) ∧
    (∃ (h : Fin 8) (s : State), s.hState h.val = 1 ∧ s.stageOp h.val = none) ∧
    (∃ (h : Fin 8) (o : Op) (s : State), s.hState h.val = 1 ∧ s.stageOp h.val = some o ∧ srcOfStage (o.w 2) ≠ 3) ∧
    (∃ (h : Fin 8) (s : State), s.hState h.val = 1) ∧
    (∃ (m : Master) (s : State), Reaches s m 0 0x040 0x40) ∧
    (∃ (h : Fin 8) (s : State), s.hState h.val = 3) ∧
    (∃ (f : Fin 48) (a : _) (s : State), s.cfg.applies.find? (fun a => a.current (f.val / 12) == some f.val) = some a) :=
  ⟨⟨pk 0 0x040 0 [0,0,0,0,0,0], (got (up) 0x0200 (pk 0 0x040 0 [0,0,0,0,0,0])), by (try dsimp only); first | done | decide⟩,
   ⟨pk 0 0x040 0 [0], (got (withF up [(handleBase 0, F.CFG_HANDLE_STATE_state, 2)]) 0x0201 (pk 0 0x040 0 [0])), by (try dsimp only); first | done | decide⟩,
   ⟨pk 0 0x040 0 [0,0,0,0], (got (withF up [(handleBase 0, F.CFG_HANDLE_STATE_state, 4)]) 0x0202 (pk 0 0x040 0 [0,0,0,0])), by (try dsimp only); first | done | decide⟩,
   ⟨pk 1 0x030 0 [0,0,0], (got (up) 0x0206 (pk 1 0x030 0 [0,0,0])), by (try dsimp only); first | done | decide⟩,
   ⟨pk 1 0x030 0 [], (got (up) 0x0286 (pk 1 0x030 0 [])), by (try dsimp only); first | done | decide⟩,
   ⟨pk 0 0x048 0 [0,0,0], (got (up) 0x0902 (pk 0 0x048 0 [0,0,0])), by decide⟩,
   ⟨0, withF up [(handleBase 0, F.CFG_HANDLE_STATE_state, 1)], by decide⟩,
   ⟨0, opr 0x0200 0 0x040 0 [0,0,0,0,0,0], withF (run up (opr 0x0200 0 0x040 0 [0,0,0,0,0,0])) [(handleBase 0, F.CFG_HANDLE_STATE_state, 1)], by decide⟩,
   ⟨0, withF up [(handleBase 0, F.CFG_HANDLE_STATE_state, 1)], by decide⟩,
   ⟨.hostMgmt, up, by decide⟩,
   ⟨0, withF up [(handleBase 0, F.CFG_HANDLE_STATE_state, 3)], by decide⟩,
   ⟨0, { src := .set 0, tag := 1, mirror := false, handle := 0, selected := [0], todo := [0], passed := [], failed := [], rewrites := 0 }, { up with cfg := { up.cfg with applies := [{ src := .set 0, tag := 1, mirror := false, handle := 0, selected := [0], todo := [0], passed := [], failed := [], rewrites := 0 }] } }, by decide⟩⟩
/-- The hypotheses of ImagesAndScrubbing, clauses 12 to 14, can be met. -/
theorem test_hyps_ImagesAndScrubbing_12 :
    (∃ (q : Fin 4) (f : _) (s : State), s.armedFacet q.val = some f) ∧
    (∃ (q : Fin 4) (s : State), let planes := s.scrubPlanes q.val; s.armedFacet q.val = none ∧ s.flag (scrubBase q.val) F.SCRUB_CFG_frame_en = true ∧ planes.isEmpty = false) ∧
    (∃ (o : Op) (s : State), s.hq.ops.find? (fun o => o.opcode == 0x0902) = some o) :=
  ⟨⟨0, 0, run up { opr 0x0203 1 0x010 0 [] with word1 := facetWord 0 }, by decide⟩,
   ⟨0, withF run0 [(scrubBase 0, F.SCRUB_CFG_frame_en, 1), (facetBase 0, validF 0, 1)], by (try dsimp only); first | done | decide⟩,
   ⟨opr 0x0902 0 0x048 0 [0,0,0], run up (opr 0x0902 0 0x048 0 [0,0,0]), by decide⟩⟩
/-- The hypotheses of FacetChanges, clauses 0 to 11, can be met. -/
theorem test_hyps_FacetChanges_0 :
    (∃ (c : Cmd) (s : State), let f := c.facetOf.getD 0; let w := c.instant 2; Takes s 0x0203 c ∧ c.len = 8 ∧ (c.facetOf.isSome) = true ∧ (s.swapOk f c) = true ∧ (s.quadUp (f / 12)) = true ∧ s.facetState f ≠ fcOff ∧ s.facetState f ≠ fcDraining ∧ (!s.hostFence f) = true ∧ (!s.heldByOther c) = true ∧ (!s.swapArmed f) = true ∧ (!s.applying f) = true ∧ (s.facetX f).reset = 0 ∧ (s.inTime c.die w) = true) ∧
    (∃ (c : Cmd) (s : State), let f := c.facetOf.getD 0; Takes s 0x0204 c ∧ c.len = 3 ∧ (c.facetOf.isSome) = true ∧ c.f 2 31 1 = 0 ∧ (s.quadUp (f / 12)) = true) ∧
    (∃ (c : Cmd) (s : State), let f := c.facetOf.getD 0; Takes s 0x0284 c ∧ c.len = 2 ∧ (c.facetOf.isSome) = true ∧ (s.quadUp (f / 12)) = true) ∧
    (∃ (c : Cmd) (s : State), let f := c.facetOf.getD 0; let st := s.facetState f; Takes s 0x0205 c ∧ c.len = 5 ∧ (c.facetOf.isSome) = true ∧ c.f 2 31 16 = 0 ∧ (s.imageHas (c.f 2 15 0) f) = true ∧ c.f 3 31 2 = 0 ∧ c.f 3 1 0 ≠ 3 ∧ c.f 4 31 16 = 0 ∧ (gapOk (c.f 4 15 0)) = true ∧ st ≠ fcStopped ∧ (s.quadUp (f / 12)) = true ∧ st ≠ fcOff ∧ st ≠ fcDraining ∧ (!s.heldByOther c) = true ∧ ((st == fcRunning || st == fcEmpty)) = true ∧ (!s.swapArmed f) = true ∧ (s.facetX f).reset = 0 ∧ (!(st == fcEmpty && s.applying f)) = true) ∧
    (∃ (f : Fin 48) (edge : Nat) (o : Op) (s : State), s.armedBy 0x0203 (facetWord f.val) edge = some o ∧ s.regionRuns f.val (o.f 5 3 0) = true ∧ ((o.awaitsLine || o.f 5 31 31 == 0) && decide (s.swapBound o < edge)) = false) ∧
    (∃ (f : Fin 48) (edge : Nat) (o : Op) (s : State), s.armedBy 0x0203 (facetWord f.val) edge = some o ∧ s.regionRuns f.val (o.f 5 3 0) = true ∧ ((o.awaitsLine || o.f 5 31 31 == 0) && decide (s.swapBound o < edge)) = true) ∧
    (∃ (f : Fin 48) (o : Op) (s : State), s.swapOp f.val = some o ∧ o.f 5 31 31 = 1 ∧ o.acc = []) ∧
    (∃ (f : Fin 48) (o : Op) (s : State), s.swapOp f.val = some o ∧ o.f 5 31 31 = 0) ∧
    (∃ (f : Fin 48) (s : State), s.facetState f.val = fcSwapping) ∧
    (∃ (f : Fin 48) (s : State), (s.facetX f.val).initLoad = true ∧ s.facetState f.val = fcRunning) ∧
    (∃ (f : Fin 48) (h : _) (mode : _) (s : State), let x := s.facetX f.val; x.rewrite = some (h, mode) ∧ x.drainFrom = none ∧ s.facetState f.val = fcWriting) ∧
    (∃ (f : Fin 48) (s : State), s.facetState f.val = fcReleasing) :=
  ⟨⟨pk 1 0x010 0 [0,0,0,1,0,0], (got (withF { run0 with fac := { run0.fac with cfg := [(0, { regional := [1] }), (1, { regional := [1] })] }, fab := { run0.fab with spines := [(0, 65)] }, clk := { run0.clk with loops := [(0, { running := true })] } } [(facetBase 0, validF 1, 1)]) 0x0203 (pk 1 0x010 0 [0,0,0,1,0,0])), by (try dsimp only); first | done | decide⟩,
   ⟨pk 1 0x010 0 [0], (got (up) 0x0204 (pk 1 0x010 0 [0])), by (try dsimp only); first | done | decide⟩,
   ⟨pk 1 0x010 0 [], (got (up) 0x0284 (pk 1 0x010 0 [])), by (try dsimp only); first | done | decide⟩,
   ⟨pk 1 0x010 0 [0,0,0], (got (withF { run0 with mem := [(0x030, 1)] } [(handleBase 0, F.CFG_HANDLE_STATE_state, 4)]) 0x0205 (pk 1 0x010 0 [0,0,0])), by (try dsimp only); first | done | decide⟩,
   ⟨0, 0, { opr 0x0203 1 0x010 0 [0, 0, 0, 1] 0 (some 0) with word1 := facetWord 0 }, run clk0 { opr 0x0203 1 0x010 0 [0, 0, 0, 1] 0 (some 0) with word1 := facetWord 0 }, by decide⟩,
   ⟨0, 2000000000000, { opr 0x0203 1 0x010 0 [0, 0, 0, 1] 0 (some 0) with word1 := facetWord 0 }, run clk0 { opr 0x0203 1 0x010 0 [0, 0, 0, 1] 0 (some 0) with word1 := facetWord 0 }, by decide⟩,
   ⟨0, { opr 0x0203 1 0x010 0 [0,0,0,0x80000000,0,0] with word1 := facetWord 0 }, run up { opr 0x0203 1 0x010 0 [0,0,0,0x80000000,0,0] with word1 := facetWord 0 }, by decide⟩,
   ⟨0, { opr 0x0203 1 0x010 0 [0,0,0,0,0,0] with word1 := facetWord 0 }, run up { opr 0x0203 1 0x010 0 [0,0,0,0,0,0] with word1 := facetWord 0 }, by decide⟩,
   ⟨0, withF up [(facetBase 0, F.FACET_STAT_state, fcSwapping)], by decide⟩,
   ⟨0, run0.setFacetX 0 { initLoad := true }, by decide⟩,
   ⟨0, 0, 0, (withF up [(facetBase 0, F.FACET_STAT_state, fcWriting)]).setFacetX 0 { rewrite := some (0, 0) }, by (try dsimp only); first | done | decide⟩,
   ⟨0, withF up [(facetBase 0, F.FACET_STAT_state, fcReleasing)], by decide⟩⟩
/-- The hypotheses of FabricRings, clauses 0 to 11, can be met. -/
theorem test_hyps_FabricRings_0 :
    (∃ (x : Fin 24) (y : Fin 18) (dir : Fin 4) (w : _) (t : _) (s : State), let vk := vkOf x.val y.val; let l := s.link vk dir.val; let no := linkInto vk dir.val; l.wire = w :: t ∧ vkReal x.val y.val = true ∧ s.linkBroken no = false ∧ l.naked = false ∧ s.edgeHolds no = false) ∧
    (∃ (x : Fin 24) (y : Fin 18) (dir : Fin 4) (s : State), let vk := vkOf x.val y.val; let l := s.link vk dir.val; l.naked = true) ∧
    (∃ (x : Fin 24) (y : Fin 18) (out : Fin 6) (c : Cand) (d : Nat) (b : Bool) (step : Bool) (s : State), let vk := vkOf x.val y.val; vkReal x.val y.val = true ∧ out.val < 4 ∧ s.edgeTurn vk out.val = true ∧ s.slot vk out.val = some c ∧ c.act = .go d b step) ∧
    (∃ (x : Fin 24) (y : Fin 18) (out : Fin 6) (c : Cand) (s : State), let vk := vkOf x.val y.val; vkReal x.val y.val = true ∧ 4 ≤ out.val ∧ s.pick vk out.val = some c ∧ (match c.act with | .go .. => false | _ => true) = true) ∧
    (∃ (x : Fin 24) (y : Fin 18) (p : _) (s : State), let vk := vkOf x.val y.val; (s.ni vk).arrive.find? (fun p => s.delivers vk p) = some p) ∧
    (∃ (x : Fin 24) (y : Fin 18) (p : _) (s : State), let vk := vkOf x.val y.val; (s.ni vk).arrive.find? (fun p => p.op == 0xD && !p.returned) = some p) ∧
    (∃ (x : Fin 24) (y : Fin 18) (p : _) (s : State), let vk := vkOf x.val y.val; let acks := ((s.vq vk 4 2 ++ s.vq vk 4 6 ++ (s.ni vk).back).filter (fun q => q.pkt.op == 0xC)).length; (s.ni vk).arrive.find? (fun p => p.op == 8 && !p.returned) = some p ∧ acks < 64) ∧
    (∃ (q : Fin 4) (v : Fin 96) (op : Fin 8) (n : Fin 512) (s : State), let vk := vkOfLocal q.val v.val; let want := if op.val = 0 then 0 else if op.val = 5 then 16 else if 3 ≤ op.val then 8 else n.val + 1; s.niFenced vk = false ∧ s.localRoom vk 0 (flitsOf want) = true ∧ op.val ≠ 2 ∧ s.getF (vkBase vk) F.NI_CFG_resp_bufs ≤ (s.ni vk).buffers) ∧
    (∃ (q : Fin 4) (v : Fin 96) (op : Fin 8) (n : Fin 512) (s : State), let vk := vkOfLocal q.val v.val; let want := if op.val = 0 then 0 else if op.val = 5 then 16 else if 3 ≤ op.val then 8 else n.val + 1; (s.niFenced vk = true ∨ s.localRoom vk 0 (flitsOf want) = false)) ∧
    (∃ (q : Fin 4) (v : Fin 96) (op : Fin 8) (a : BitVec 40) (n : Fin 512) (tag : BitVec 8) (s : State), let vk := vkOfLocal q.val v.val; let ni := { s.ni vk with asks := false }; let len := if 3 ≤ op.val then 8 else n.val + 1; let posted := op.val == 2; let want := if op.val = 0 then 0 else if op.val = 5 then 16 else len; let bad := decide (6 ≤ op.val) || decide (512 < a.toNat % 512 + len) || (decide (3 ≤ op.val) && (a.toNat % 8 != 0 || n.val != 7)) || ni.tagUsed tag.toNat; s.niFenced vk = false ∧ (!posted && decide (s.getF (vkBase vk) F.NI_CFG_resp_bufs ≤ ni.buffers)) = false ∧ s.localRoom vk 0 (flitsOf want) = true ∧ bad = true) ∧
    (∃ (q : Fin 4) (v : Fin 96) (op : Fin 8) (a : BitVec 40) (n : Fin 512) (tag : BitVec 8) (s : State), let vk := vkOfLocal q.val v.val; let ni := { s.ni vk with asks := false }; let len := if 3 ≤ op.val then 8 else n.val + 1; let posted := op.val == 2; let want := if op.val = 0 then 0 else if op.val = 5 then 16 else len; let bad := decide (6 ≤ op.val) || decide (512 < a.toNat % 512 + len) || (decide (3 ≤ op.val) && (a.toNat % 8 != 0 || n.val != 7)) || ni.tagUsed tag.toNat; s.niFenced vk = false ∧ (!posted && decide (s.getF (vkBase vk) F.NI_CFG_resp_bufs ≤ ni.buffers)) = false ∧ s.localRoom vk 0 (flitsOf want) = true ∧ bad = false ∧ s.homeOf (vkX vk) a.toNat = none) ∧
    (∃ (q : Fin 4) (v : Fin 96) (op : Fin 8) (a : BitVec 40) (n : Fin 512) (tag : BitVec 8) (dst : _) (s : State), let vk := vkOfLocal q.val v.val; let ni := { s.ni vk with asks := false }; let len := if 3 ≤ op.val then 8 else n.val + 1; let posted := op.val == 2; let want := if op.val = 0 then 0 else if op.val = 5 then 16 else len; let bad := decide (6 ≤ op.val) || decide (512 < a.toNat % 512 + len) || (decide (3 ≤ op.val) && (a.toNat % 8 != 0 || n.val != 7)) || ni.tagUsed tag.toNat; s.niFenced vk = false ∧ (!posted && decide (s.getF (vkBase vk) F.NI_CFG_resp_bufs ≤ ni.buffers)) = false ∧ s.localRoom vk 0 (flitsOf want) = true ∧ bad = false ∧ s.homeOf (vkX vk) a.toNat = some dst) :=
  ⟨⟨0, 0, 0, (0 : BitVec 536), ([] : List (BitVec 536)), { (withF up ((List.range 4).map (fun e => (edgeBase e, F.EDGE_STAT_state, egActive)))) with ring := { up.ring with links := [(0, { wire := [0] })] } }, by (try dsimp only); first | done | decide⟩,
   ⟨0, 0, 0, { up with ring := { up.ring with links := [(0, { naked := true })] } }, by (try dsimp only); first | done | decide⟩,
   ⟨0, 0, 0, ({ inp := 4, vc := 0, q := { pkt := pkt 1 }, act := .go 0 false false } : Cand), 0, false, false, { up with ring := { up.ring with queues := [(32, [{ pkt := pkt 1 }])] } }, by (try dsimp only); first | done | decide⟩,
   ⟨0, 0, 4, ({ inp := 4, vc := 0, q := { pkt := pkt 0 }, act := .deliver } : Cand), { up with ring := { up.ring with queues := [(32, [{ pkt := pkt 0 }])] } }, by (try dsimp only); first | done | decide⟩,
   ⟨0, 0, pkt 0, withNi { arrive := [pkt 0] }, by (try dsimp only); first | done | decide⟩,
   ⟨0, 0, pkt (0xD * 4194304), withNi { arrive := [pkt (0xD * 4194304)] }, by (try dsimp only); first | done | decide⟩,
   ⟨0, 0, pkt (8 * 4194304), withNi { arrive := [pkt (8 * 4194304)] }, by (try dsimp only); first | done | decide⟩,
   ⟨0, 0, 0, 0, withF run0 [(vkBase (vkOfLocal 0 0), F.NI_CFG_resp_bufs, 0)], by (try dsimp only); first | done | decide⟩,
   ⟨0, 0, 0, 0, up, by (try dsimp only); first | done | decide⟩,
   ⟨0, 0, 6, 0, 0, 0, run0, by (try dsimp only); first | done | decide⟩,
   ⟨0, 0, 0, 0x5000000000, 0, 0, run0, by (try dsimp only); first | done | decide⟩,
   ⟨0, 0, 0, 0, 0, 0, vkOfLocal 0 38, run0, by (try dsimp only); first | done | decide⟩⟩
/-- The hypotheses of FabricRings, clauses 12 to 19, can be met. -/
theorem test_hyps_FabricRings_12 :
    (∃ (q : Fin 4) (v : Fin 96) (r : _) (t : _) (s : State), let vk := vkOfLocal q.val v.val; (s.ni vk).ready = r :: t) ∧
    (∃ (q : Fin 4) (v : Fin 96) (s : State), let vk := vkOfLocal q.val v.val; s.flowReady vk = true) ∧
    (∃ (m : Master) (q : Fin 4) (v : Fin 96) (s : State), Reaches s m (1 + q.val) (0x100 + v.val) 0x28) ∧
    (∃ (m : Master) (q : Fin 4) (v : Fin 96) (s : State), Reaches s m (1 + q.val) (0x100 + v.val) 0x28) ∧
    (∃ (x : Fin 24) (y : Fin 18) (s : State), let vk := vkOf x.val y.val; let n := s.ni vk; vkReal x.val y.val = true ∧ n.change = none) ∧
    (∃ (x : Fin 24) (y : Fin 18) (e : Fin 64) (m : Word) (r0 : Word) (r1 : Word) (c : _) (s : State), let vk := vkOf x.val y.val; let ws := [m.toNat, r0.toNat, r1.toNat]; let n := s.ni vk; vkReal x.val y.val = true ∧ n.change = some c ∧ c = (e.val, ws) ∧ n.fences = 0) ∧
    (∃ (x : Fin 24) (y : Fin 18) (vc : _) (q : _) (t : _) (s : State), let vk := vkOf x.val y.val; let bound := s.getF (vkBase vk) F.NI_STARVE_bound; (List.range 8).find? (fun vc => (s.vq vk 4 vc).head?.any (fun q => !q.starved && bound != 0 && decide (bound * 1000 < s.now - q.time))) = some vc ∧ s.vq vk 4 vc = q :: t) ∧
    (∃ (x : Fin 24) (y : Fin 18) (tag : BitVec 8) (s : State), let vk := vkOf x.val y.val; (s.ni vk).outst.any (fun o => o.tag == tag.toNat && o.lost) = true) :=
  ⟨⟨0, 0, (0, 0, ([] : List Byte), []), [], withNi { ready := [(0, 0, [], [])] }, by (try dsimp only); first | done | decide⟩,
   ⟨0, 0, (withF clk0 [(vkBase (vkOfLocal 0 0), F.NI_FLOW_STAT_admitted, 1), (vkBase (vkOfLocal 0 0), F.NI_FLOW_CTL_enable, 1)]).setNi (vkOfLocal 0 0) { tokens := 51200 }, by (try dsimp only); first | done | decide⟩,
   ⟨.hostMgmt, 0, 0, up, by decide⟩,
   ⟨.hostMgmt, 0, 0, up, by decide⟩,
   ⟨0, 0, up, by (try dsimp only); first | done | decide⟩,
   ⟨0, 0, 0, 0, 0, 0, (0, [0, 0, 0]), withNi { change := some (0, [0, 0, 0]) }, by (try dsimp only); first | done | decide⟩,
   ⟨0, 0, 0, ({ pkt := pkt 0 } : Queued), ([] : List Queued), withF { up with now := 5000, ring := { up.ring with queues := [(32, [{ pkt := pkt 0 }])] } } [(vkBase 0, F.NI_STARVE_bound, 1)], by (try dsimp only); first | done | decide⟩,
   ⟨0, 0, 0, withNi { outst := [{ tag := 0, lost := true }] }, by (try dsimp only); first | done | decide⟩⟩
/-- The hypotheses of StationTime, clauses 0 to 12, can be met. -/
theorem test_hyps_StationTime_0 :
    (∃ (c : Cmd) (s : State), Takes s 0x0301 c ∧ c.len = 11 ∧ (c.aimsTime) = true ∧ (c.refSelectOk) = true ∧ (!s.heldByOther c) = true) ∧
    (∃ (c : Cmd) (s : State), Takes s 0x0381 c ∧ c.len = 2 ∧ (c.aimsTime) = true) ∧
    (∃ (c : Cmd) (s : State), Takes s 0x0300 c ∧ c.len = 6 ∧ (c.aimsTime) = true ∧ (s.timeSetOk c) = true ∧ (!s.heldByOther c) = true ∧ ((c.f 2 31 28 == 2 || c.f 2 0 0 == 1 || !s.anyArmed)) = true) ∧
    (∃ (c : Cmd) (s : State), Takes s 0x0380 c ∧ c.len = 2 ∧ (c.aimsTime) = true) ∧
    (∃ (d : Fin 8) (s : State), (s.getF timeBase F.TIME_DEGRADED_dies).testBit d.val = false) ∧
    (∃ (e : Fin 4) (s : State), s.refKind e.val ≠ 0 ∧ s.refQualified e.val = false) ∧
    (∃ (e : Fin 4) (s : State), s.refKind e.val ≠ 0) ∧
    (∃ (s : State), s.tmState = tmAcquiring) ∧
    (∃ (lane : Fin 144) (domain : Fin 128) (s : State), s.ptpPort lane.val = true ∧ (s.ptpEntry lane.val domain.val || s.ptpProt lane.val domain.val) = true) ∧
    (∃ (lane : Fin 144) (domain : Fin 128) (s : State), s.ptpPort lane.val = true ∧ (s.ptpActive lane.val domain.val || s.ptpProt lane.val domain.val) = true) ∧
    (∃ (sec : _) (s : State), s.tim.seconds = some sec) :=
  ⟨⟨pk 0 0x020 0 [0,0,0,0,0,0,0,0,0], (got (up) 0x0301 (pk 0 0x020 0 [0,0,0,0,0,0,0,0,0])), by decide⟩,
   ⟨pk 0 0x020 0 [], (got (up) 0x0381 (pk 0 0x020 0 [])), by decide⟩,
   ⟨pk 0 0x020 0 [0x20000000,0,0,0], (got (up) 0x0300 (pk 0 0x020 0 [0x20000000,0,0,0])), by decide⟩,
   ⟨pk 0 0x020 0 [], (got (up) 0x0380 (pk 0 0x020 0 [])), by decide⟩,
   ⟨0, up, by decide⟩,
   ⟨0, withF up [(refBase 0, F.TIME_REF_kind, 1)], by decide⟩,
   ⟨0, withF up [(refBase 0, F.TIME_REF_kind, 1)], by decide⟩,
   ⟨withF up [(timeBase, F.TIME_STAT_state, tmAcquiring)], by decide⟩,
   ⟨0, 0, portAt0 (withF up [(refBase 0, F.TIME_REF_kind, 1)]), by decide⟩,
   ⟨0, 0, portAt0 (withF up [(protBase 0, F.PROT_CFG_word, 0x90000000)]), by decide⟩,
   ⟨0, { up with tim := { up.tim with seconds := some 0 } }, by decide⟩⟩
/-- The hypotheses of LoopsAndClocks, clauses 0 to 11, can be met. -/
theorem test_hyps_LoopsAndClocks_0 :
    (∃ (c : Cmd) (n : Nat) (s : State), c.loopOf = some n ∧ Takes s 0x0302 c ∧ c.len = 6 ∧ c.loopSetOk = true ∧ s.heldByOther c = false ∧ (!s.loopInterrupts n c || c.f 2 24 24 == 1 || !s.loopFeeds n) = true) ∧
    (∃ (c : Cmd) (q : Nat) (s : State), c.loopOf = none ∧ c.floopOf = some q ∧ Takes s 0x0302 c ∧ c.len = 6 ∧ s.floopSetOk q c = true ∧ s.blkOff (q + 1) 8 = false ∧ s.heldByOther c = false ∧ (!s.floopInterrupts q c || c.f 2 31 31 == 1 || !s.floopFeeds q (c.f 2 23 20)) = true) ∧
    (∃ (c : Cmd) (n : Nat) (s : State), c.loopOf = some n ∧ Takes s 0x0382 c ∧ c.len = 2) ∧
    (∃ (c : Cmd) (q : Nat) (s : State), c.loopOf = none ∧ c.floopOf = some q ∧ Takes s 0x0382 c ∧ c.len = 3 ∧ c.f 2 31 24 = 0 ∧ c.f 2 19 0 = 0 ∧ s.blkOff (q + 1) 8 = false) ∧
    (∃ (c : Cmd) (s : State), Takes s 0x0303 c ∧ c.len = 5 ∧ (c.loopOf.isSome) = true ∧ (c.windowOk) = true ∧ (!s.heldByOther c) = true) ∧
    (∃ (c : Cmd) (s : State), Takes s 0x0383 c ∧ c.len = 2 ∧ (c.loopOf.isSome) = true) ∧
    (∃ (c : Cmd) (s : State), let n := c.loopOf.getD 0; let action := c.f 2 0 0; Takes s 0x0305 c ∧ c.len = 3 ∧ (c.loopOf.isSome) = true ∧ c.f 2 31 1 = 0 ∧ s.loopState n ≠ slOff ∧ s.loopSource n ≠ 1 ∧ (!s.heldByOther c) = true ∧ ((s.fallbackThere n action || (if action = 0 then s.xo (s.loopXo n) == 2 else s.flag (loopBase n) F.LOOP_STAT_ref_ok))) = true) ∧
    (∃ (c : Cmd) (s : State), Takes s 0x0304 c ∧ c.len = 4 ∧ (c.aimsClko) = true ∧ (s.clkoutOk c) = true ∧ (!s.heldByOther c) = true) ∧
    (∃ (c : Cmd) (s : State), Takes s 0x0384 c ∧ c.len = 3 ∧ (c.aimsClko) = true ∧ c.f 2 31 26 = 0 ∧ c.f 2 23 0 = 0) ∧
    (∃ (l : LoopId) (n : _) (s : State), l = .station n ∧ s.loopState n.val = slAcquiring) ∧
    (∃ (l : LoopId) (q : _) (k : _) (s : State), l = .fabric q k ∧ s.getF (floopAt q.val k.val) F.FLOOP_REF_ref ≠ 0) ∧
    (∃ (n : Fin 8) (s : State), let src := s.loopSource n.val; (¬ (src ≠ 2 ∧ src ≠ 3))) :=
  ⟨⟨pk 0 0x028 0 [0,10000000,0x10000,0], 0, (got (up) 0x0302 (pk 0 0x028 0 [0,10000000,0x10000,0])), by decide⟩,
   ⟨pk 1 0x008 0 [2,0,0,0], 0, (got (up) 0x0302 (pk 1 0x008 0 [2,0,0,0])), by decide⟩,
   ⟨pk 0 0x028 0 [], 0, (got (up) 0x0382 (pk 0 0x028 0 [])), by decide⟩,
   ⟨pk 1 0x008 0 [0], 0, (got (up) 0x0382 (pk 1 0x008 0 [0])), by decide⟩,
   ⟨pk 0 0x028 0 [0,0,0], (got (up) 0x0303 (pk 0 0x028 0 [0,0,0])), by decide⟩,
   ⟨pk 0 0x028 0 [], (got (up) 0x0383 (pk 0 0x028 0 [])), by decide⟩,
   ⟨pk 0 0x028 0 [0], (got (withF up [(loopBase 0, F.LOOP_STAT_state, slFallback)]) 0x0305 (pk 0 0x028 0 [0])), by (try dsimp only); first | done | decide⟩,
   ⟨pk 0 0x030 0 [0,0], (got (up) 0x0304 (pk 0 0x030 0 [0,0])), by decide⟩,
   ⟨pk 0 0x030 0 [0], (got (up) 0x0384 (pk 0 0x030 0 [0])), by decide⟩,
   ⟨LoopId.station 0, (0 : Fin 8), withF up [(loopBase 0, F.LOOP_STAT_state, slAcquiring)], by decide⟩,
   ⟨LoopId.fabric 0 0, (0 : Fin 4), (0 : Fin 16), withF up [(floopAt 0 0, F.FLOOP_REF_ref, 65)], by decide⟩,
   ⟨0, withF up [(loopBase 0, F.LOOP_CFG_source, 2)], by (try dsimp only); first | done | decide⟩⟩
/-- The hypotheses of LoopsAndClocks, clauses 12 to 18, can be met. -/
theorem test_hyps_LoopsAndClocks_12 :
    (∃ (n : Fin 8) (s : State), s.loopState n.val ≠ slOff) ∧
    (∃ (i : Fin 2) (s : State), (s.xo i.val = 1 ∨ s.xo i.val = 3)) ∧
    (∃ (i : Fin 2) (s : State), (s.xo i.val = 1 ∨ s.xo i.val = 2)) ∧
    (∃ (s : State), s.clk.xo1Free.isSome = true ∧ s.xo1Named = false) ∧
    (∃ (q : Fin 4) (l : Fin 16) (s : State), s.getF (floopAt q.val l.val) F.FLOOP_REF_ref ≠ 0) ∧
    (∃ (q : Fin 4) (l : Fin 16) (s : State), s.getF (floopAt q.val l.val) F.FLOOP_REF_ref ≠ 0) :=
  ⟨⟨0, withF up [(loopBase 0, F.LOOP_STAT_state, slAcquiring)], by decide⟩,
   ⟨0, withF up [(timeBase, F.TIME_XO_xo0, 1)], by decide⟩,
   ⟨0, withF up [(timeBase, F.TIME_XO_xo0, 1)], by decide⟩,
   ⟨{ up with clk := { up.clk with xo1Free := some 0 } }, by decide⟩,
   ⟨0, 0, withF up [(floopAt 0 0, F.FLOOP_REF_ref, 65)], by decide⟩,
   ⟨0, 0, withF up [(floopAt 0 0, F.FLOOP_REF_ref, 65)], by decide⟩⟩
/-- The hypotheses of SerialLanes, clauses 0 to 11, can be met. -/
theorem test_hyps_SerialLanes_0 :
    (∃ (c : Cmd) (s : State), let n := c.laneOf.getD 0; let w := c.instant 2; Takes s 0x0400 c ∧ c.len = 10 ∧ (c.laneOf.isSome) = true ∧ (s.laneSetOk n c) = true ∧ (s.laneOn n) = true ∧ s.laneState n ≠ lnRetired ∧ (!s.heldByOther c) = true ∧ (!s.armedOn 0x0400 c.word1) = true ∧ ((!s.laneSetInterrupts n c || c.f 5 12 12 == 1)) = true ∧ (s.inTime c.die w) = true) ∧
    (∃ (c : Cmd) (s : State), Takes s 0x0480 c ∧ c.len = 2 ∧ (c.laneOf.isSome) = true ∧ (!s.blkOff c.die c.blk) = true) ∧
    (∃ (c : Cmd) (s : State), let n := c.laneOf.getD 0; Takes s 0x0401 c ∧ c.len = 4 ∧ (c.laneOf.isSome) = true ∧ c.f 2 31 28 ≤ 7 ∧ c.f 2 27 24 ≤ 7 ∧ c.f 2 21 1 = 0 ∧ (s.laneOn n) = true ∧ s.laneState n ≠ lnRetired ∧ (!s.heldByOther c) = true ∧ (!s.armedOn 0x0400 c.word1) = true) ∧
    (∃ (c : Cmd) (s : State), Takes s 0x0481 c ∧ c.len = 2 ∧ (c.laneOf.isSome) = true ∧ (!s.blkOff c.die c.blk) = true) ∧
    (∃ (c : Cmd) (s : State), let n := c.laneOf.getD 0; Takes s 0x0402 c ∧ c.len = 7 ∧ (c.laneOf.isSome) = true ∧ (s.stewardMay c.eyeAddr c.eyeBytes) = true ∧ (s.eyeOk n c) = true ∧ (s.laneOn n) = true ∧ s.laneState n ≠ lnRetired ∧ (!s.heldByOther c) = true ∧ ((s.pendingOn 0x0402 c.word1).isNone) = true) ∧
    (∃ (c : Cmd) (s : State), let n := c.laneOf.getD 0; Takes s 0x0405 c ∧ c.len = 3 ∧ (c.laneOf.isSome) = true ∧ c.f 2 31 7 = 0 ∧ 1 ≤ c.w 2 ∧ c.w 2 < slipWidth (s.lanePcs n) ∧ ((s.laneState n == lnService || s.laneState n == lnTest)) = true ∧ (s.laneOn n) = true ∧ s.laneState n ≠ lnRetired ∧ (!s.heldByOther c) = true) ∧
    (∃ (c : Cmd) (s : State), let n := c.laneOf.getD 0; let full := c.f 2 0 0 == 0; Takes s 0x0404 c ∧ c.len = 3 ∧ (c.laneOf.isSome) = true ∧ c.f 2 31 1 = 0 ∧ (s.laneOn n) = true ∧ s.laneState n ≠ lnRetired ∧ (!s.heldByOther c) = true ∧ ((!full || (!s.flag (lsysBase (n / 72)) F.LSYS_CAL_busy && !s.armedOn 0x0400 c.word1))) = true) ∧
    (∃ (c : Cmd) (s : State), let n := c.laneOf.getD 0; Takes s 0x0403 c ∧ c.len = 2 ∧ (c.laneOf.isSome) = true ∧ (s.laneOn n) = true ∧ s.laneState n ≠ lnRetired ∧ (!s.heldByOther c) = true) ∧
    (∃ (n : Fin 144) (edge : Nat) (o : Op) (s : State), s.armedBy 0x0400 (laneWord n.val) edge = some o ∧ o.f 5 7 0 < 8 ∧ s.laneRefOk n.val (o.w 5) (o.w 7) = false) ∧
    (∃ (n : Fin 144) (edge : Nat) (o : Op) (s : State), s.armedBy 0x0400 (laneWord n.val) edge = some o ∧ (8 ≤ o.f 5 7 0 ∨ s.laneRefOk n.val (o.w 5) (o.w 7) = true)) ∧
    (∃ (n : Fin 144) (o : Op) (s : State), s.actedOn 0x0400 (laneWord n.val) = some o) ∧
    (∃ (n : Fin 144) (s : State), s.laneState n.val ≠ lnOff ∧ s.laneState n.val ≠ lnRetired) :=
  ⟨⟨pk 5 0x100 0 [0,0,0,0,0x420000,156250,0,0], (got (up) 0x0400 (pk 5 0x100 0 [0,0,0,0,0x420000,156250,0,0])), by (try dsimp only); first | done | decide⟩,
   ⟨pk 5 0x100 0 [], (got (up) 0x0480 (pk 5 0x100 0 [])), by decide⟩,
   ⟨pk 5 0x100 0 [0,0], (got (up) 0x0401 (pk 5 0x100 0 [0,0])), by (try dsimp only); first | done | decide⟩,
   ⟨pk 5 0x100 0 [], (got (up) 0x0481 (pk 5 0x100 0 [])), by decide⟩,
   ⟨pk 5 0x100 0 [0x01010014,0,0x70,10000000,0], (got (laneIn lnService) 0x0402 (pk 5 0x100 0 [0x01010014,0,0x70,10000000,0])), by (try dsimp only); first | done | decide⟩,
   ⟨pk 5 0x100 0 [1], (got (laneIn lnService) 0x0405 (pk 5 0x100 0 [1])), by (try dsimp only); first | done | decide⟩,
   ⟨pk 5 0x100 0 [0], (got (up) 0x0404 (pk 5 0x100 0 [0])), by (try dsimp only); first | done | decide⟩,
   ⟨pk 5 0x100 0 [], (got (up) 0x0403 (pk 5 0x100 0 [])), by (try dsimp only); first | done | decide⟩,
   ⟨0, 0, { opr 0x0400 5 0x100 0 [] with word1 := laneWord 0 }, run up { opr 0x0400 5 0x100 0 [] with word1 := laneWord 0 }, by decide⟩,
   ⟨0, 0, { opr 0x0400 5 0x100 0 [0, 0, 0, 8] with word1 := laneWord 0 }, run up { opr 0x0400 5 0x100 0 [0, 0, 0, 8] with word1 := laneWord 0 }, by decide⟩,
   ⟨0, { opr 0x0400 5 0x100 0 [] 1 with word1 := laneWord 0 }, run up { opr 0x0400 5 0x100 0 [] 1 with word1 := laneWord 0 }, by decide⟩,
   ⟨0, laneIn lnHunting, by decide⟩⟩
/-- The hypotheses of SerialLanes, clauses 13 to 26, can be met. -/
theorem test_hyps_SerialLanes_13 :
    (∃ (n : Fin 144) (s : State), s.laneState n.val = lnLocking) ∧
    (∃ (n : Fin 144) (s : State), s.laneState n.val ≠ lnLocking ∧ s.laneState n.val = lnRecovering ∧ s.lanePcs n.val = 2) ∧
    (∃ (n : Fin 144) (s : State), s.laneState n.val = lnLocking) ∧
    (∃ (n : Fin 144) (s : State), let st := s.laneState n.val; (st = lnHunting ∨ st = lnRecovering)) ∧
    (∃ (n : Fin 144) (pos : Nat) (s : State), let st := s.laneState n.val; st ≠ lnHunting ∧ st ≠ lnRecovering ∧ st = lnService ∧ (s.laneCfg n.val).testBit 25 = true ∧ (s.laneX n.val).boundary ≠ pos) ∧
    (∃ (n : Fin 144) (s : State), s.laneState n.val = lnHunting) ∧
    (∃ (n : Fin 144) (s : State), s.laneState n.val = lnService ∧ s.flag (laneBase n.val) F.LANE_STAT_sig_detect = true) ∧
    (∃ (n : Fin 144) (s : State), s.laneState n.val = lnRecovering) ∧
    (∃ (n : Fin 144) (s : State), s.laneState n.val = lnTest ∧ s.rxPat n.val ≠ 0) ∧
    (∃ (n : Fin 144) (s : State), s.flag (laneBase n.val) F.LANE_STAT_prbs_locked = true) ∧
    (∃ (n : Fin 144) (o : Op) (s : State), s.pendingOn 0x0402 (laneWord n.val) = some o) ∧
    (∃ (n : Fin 144) (o : Op) (s : State), s.dom (groupDom (n.val / 8)) ≠ 2 ∧ s.pendingOn 0x0404 (laneWord n.val) = some o) :=
  ⟨⟨0, laneIn lnLocking, by decide⟩,
   ⟨0, withF (laneIn lnRecovering) [(laneBase 0, F.LANE_CFG0_word5, 0x20000000)], by decide⟩,
   ⟨0, laneIn lnLocking, by decide⟩,
   ⟨0, laneIn lnHunting, by (try dsimp only); first | done | decide⟩,
   ⟨0, 1, withF (laneIn lnService) [(laneBase 0, F.LANE_CFG0_word5, 0x2000000)], by (try dsimp only); first | done | decide⟩,
   ⟨0, laneIn lnHunting, by decide⟩,
   ⟨0, withF (laneIn lnService) [(laneBase 0, F.LANE_STAT_sig_detect, 1)], by decide⟩,
   ⟨0, laneIn lnRecovering, by decide⟩,
   ⟨0, (laneIn lnTest).setLaneX 0 { prbs := 0x1000000 }, by decide⟩,
   ⟨0, withF (laneIn lnTest) [(laneBase 0, F.LANE_STAT_prbs_locked, 1)], by decide⟩,
   ⟨0, { opr 0x0402 5 0x100 0 [] with word1 := laneWord 0 }, run up { opr 0x0402 5 0x100 0 [] with word1 := laneWord 0 }, by decide⟩,
   ⟨0, { opr 0x0404 5 0x100 0 [] with word1 := laneWord 0 }, run up { opr 0x0404 5 0x100 0 [] with word1 := laneWord 0 }, by decide⟩⟩
/-- The hypotheses of SerialLanes, clauses 27 to 31, can be met. -/
theorem test_hyps_SerialLanes_27 :
    (∃ (n : Fin 144) (s : State), s.dom (groupDom (n.val / 8)) ≠ 2 ∧ s.pendingOn 0x0404 (laneWord n.val) = none ∧ s.hq.ops.any (fun o => o.opcode == 0x0A03 && chanOf (o.w 2) == some (.lane n.val)) = false ∧ (s.laneState n.val = lnCal ∨ (s.laneOn n.val = true ∧ s.calNames n.val = true)) ∧ s.laneReturns n.val = false) ∧
    (∃ (n : Fin 144) (o : Op) (s : State), s.pendingOn 0x0403 (laneWord n.val) = some o) ∧
    (∃ (n : Fin 144) (s : State), s.laneState n.val = lnTest ∧ s.flag (laneBase n.val) F.LANE_STAT_prbs_locked = true) ∧
    (∃ (n : Fin 144) (s : State), (¬ (s.laneState n.val = lnTest ∧ s.flag (laneBase n.val) F.LANE_STAT_prbs_locked = true)) ∧ s.laneState n.val = lnService) ∧
    (∃ (n : Fin 144) (s : State), s.laneState n.val ≠ lnService ∧ ¬ (s.laneState n.val = lnTest ∧ s.flag (laneBase n.val) F.LANE_STAT_prbs_locked = true)) :=
  ⟨⟨0, withF up [(laneBase 0, F.LANE_STAT_state, lnCal)], by decide⟩,
   ⟨0, { opr 0x0403 5 0x100 0 [] with word1 := laneWord 0 }, run up { opr 0x0403 5 0x100 0 [] with word1 := laneWord 0 }, by decide⟩,
   ⟨0, withF (laneIn lnTest) [(laneBase 0, F.LANE_STAT_prbs_locked, 1)], by decide⟩,
   ⟨0, laneIn lnService, by decide⟩,
   ⟨0, laneIn lnTest, by decide⟩⟩
/-- The hypotheses of SdiStreams, clauses 0 to 11, can be met. -/
theorem test_hyps_SdiStreams_0 :
    (∃ (c : Cmd) (s : State), let n := c.chOf.getD 0; let w := c.instant 2; Takes s 0x0500 c ∧ c.len = 7 ∧ (c.chOf.isSome) = true ∧ (s.sdiRxOk n c) = true ∧ (s.grpOn (grpOf n)) = true ∧ (s.sdiLanesLeft n (c.f 5 29 27)) = true ∧ (!s.heldByOther c) = true ∧ (!s.armedOn 0x0500 c.word1) = true ∧ s.rxState n ≠ rxDisabling ∧ (s.inTime c.die w) = true) ∧
    (∃ (c : Cmd) (s : State), let n := c.chOf.getD 0; Takes s 0x0580 c ∧ c.len = 2 ∧ (c.chOf.isSome) = true ∧ (!s.isMember n && !s.portMember n) = true ∧ (!s.blkOff c.die c.blk) = true) ∧
    (∃ (c : Cmd) (s : State), let n := c.chOf.getD 0; let w := c.instant 2; Takes s 0x0501 c ∧ c.len = 8 ∧ (c.chOf.isSome) = true ∧ (s.sdiTxOk n c) = true ∧ (s.grpOn (grpOf n)) = true ∧ (s.sdiLanesLeft n (c.f 5 29 27)) = true ∧ (!s.heldByOther c) = true ∧ (!s.armedOn 0x0501 c.word1) = true ∧ s.txState n ≠ txDisabling ∧ (s.inTime c.die w) = true) ∧
    (∃ (c : Cmd) (s : State), let n := c.chOf.getD 0; Takes s 0x0581 c ∧ c.len = 2 ∧ (c.chOf.isSome) = true ∧ (!s.isMember n && !s.portMember n) = true ∧ (!s.blkOff c.die c.blk) = true) ∧
    (∃ (c : Cmd) (s : State), let n := c.chOf.getD 0; let w := c.instant 2; Takes s 0x0505 c ∧ c.len = 6 ∧ (c.chOf.isSome) = true ∧ (!s.flag (chBase n) F.SE_CH_CFG_port) = true ∧ (s.xptOk n c) = true ∧ (s.grpOn (grpOf n)) = true ∧ s.laneState n ≠ lnRetired ∧ (!s.heldByOther c) = true ∧ (!s.armedOn 0x0505 c.word1) = true ∧ s.txState n ≠ txDisabling ∧ (s.inTime c.die w) = true) ∧
    (∃ (c : Cmd) (s : State), let b := chBase (c.chOf.getD 0); Takes s 0x0585 c ∧ c.len = 2 ∧ (c.chOf.isSome) = true ∧ (!s.flag b F.SE_CH_CFG_port) = true ∧ (!s.isMember (c.chOf.getD 0)) = true ∧ (!s.blkOff c.die c.blk) = true) ∧
    (∃ (n : Fin 144) (edge : Nat) (o : Op) (s : State), s.armedBy 0x0500 (chWord n.val) edge = some o ∧ s.isMember n.val = false ∧ s.portMember n.val = false) ∧
    (∃ (n : Fin 144) (edge : Nat) (o : Op) (s : State), s.armedBy 0x0500 (chWord n.val) edge = some o ∧ (s.isMember n.val = true ∨ s.portMember n.val = true)) ∧
    (∃ (n : Fin 144) (s : State), s.scanHolds ≠ true ∧ s.rxInService n.val = true ∧ (¬ (s.rxState n.val ≠ rxRunning ∧ s.rxState n.val ≠ rxSearching))) ∧
    (∃ (n : Fin 144) (s : State), s.scanHolds ≠ true ∧ s.rxInService n.val = true ∧ (¬ (s.rxState n.val ≠ rxRunning ∧ s.rxState n.val ≠ rxSearching))) ∧
    (∃ (n : Fin 144) (skew : Bool) (s : State), (skew = false ∨ mapLanes (s.getF (chBase n.val) F.SE_CH_CFG_rx_map) ≠ 1) ∧ s.rxState n.val = rxRunning) ∧
    (∃ (n : Fin 144) (s : State), mapLanes (s.getF (chBase n.val) F.SE_CH_CFG_rx_map) ≠ 1 ∧ s.rxState n.val = rxSearching) :=
  ⟨⟨pk 5 0x040 0 [0,0,0,0,0], (got (sdi0) 0x0500 (pk 5 0x040 0 [0,0,0,0,0])), by (try dsimp only); first | done | decide⟩,
   ⟨pk 5 0x040 0 [], (got (up) 0x0580 (pk 5 0x040 0 [])), by (try dsimp only); first | done | decide⟩,
   ⟨pk 5 0x040 0 [0,0,0,0x03000000,0,0], (got (sdi0) 0x0501 (pk 5 0x040 0 [0,0,0,0x03000000,0,0])), by (try dsimp only); first | done | decide⟩,
   ⟨pk 5 0x040 0 [], (got (up) 0x0581 (pk 5 0x040 0 [])), by (try dsimp only); first | done | decide⟩,
   ⟨pk 5 0x040 0 [0,0,0,0], (got (withF sdi0 [(chBase 0, F.SE_CH_STAT_tx_state, txRunning)]) 0x0505 (pk 5 0x040 0 [0,0,0,0])), by (try dsimp only); first | done | decide⟩,
   ⟨pk 5 0x040 0 [], (got (up) 0x0585 (pk 5 0x040 0 [])), by (try dsimp only); first | done | decide⟩,
   ⟨0, 0, { opr 0x0500 5 0x040 0 [] with word1 := chWord 0 }, run up { opr 0x0500 5 0x040 0 [] with word1 := chWord 0 }, by decide⟩,
   ⟨0, 0, { opr 0x0500 5 0x040 0 [] with word1 := chWord 0 }, run (withF up [(chBase 0, F.SE_CH_STAT_rx_state, rxMember)]) { opr 0x0500 5 0x040 0 [] with word1 := chWord 0 }, by decide⟩,
   ⟨0, withF sdi0 [(chBase 0, F.SE_CH_STAT_rx_state, rxRunning)], by decide⟩,
   ⟨0, withF sdi0 [(chBase 0, F.SE_CH_STAT_rx_state, rxRunning)], by decide⟩,
   ⟨0, false, withF sdi0 [(chBase 0, F.SE_CH_STAT_rx_state, rxRunning)], by decide⟩,
   ⟨0, withF sdi0 [(chBase 0, F.SE_CH_STAT_rx_state, rxSearching), (chBase 0, F.SE_CH_CFG_rx_map, 4)], by decide⟩⟩
/-- The hypotheses of SdiStreams, clauses 12 to 18, can be met. -/
theorem test_hyps_SdiStreams_12 :
    (∃ (n : Fin 144) (edge : Nat) (o : Op) (s : State), s.armedBy 0x0501 (chWord n.val) edge = some o ∧ s.isMember n.val = false ∧ s.portMember n.val = false) ∧
    (∃ (n : Fin 144) (edge : Nat) (o : Op) (s : State), s.armedBy 0x0501 (chWord n.val) edge = some o ∧ (s.isMember n.val = true ∨ s.portMember n.val = true)) ∧
    (∃ (n : Fin 144) (t : Nat) (s : State), let x := s.seCh n.val; s.eavOk n.val t = true ∧ (s.txState n.val = txStarting ∨ (s.txState n.val = txRunning ∧ x.txLine = 1 ∧ x.txNext = none))) ∧
    (∃ (n : Fin 144) (t : Nat) (s : State), s.eavOk n.val t = false) ∧
    (∃ (n : Fin 144) (s : State), let b := chBase n.val; let x := s.seCh n.val; let m := s.getF b F.SE_CH_CFG_tx_map; x.txLine ≠ 0 ∧ s.flag b F.SE_CH_CFG_tx_on = true ∧ s.sdiLanes n.val (mapLanes m) = true) ∧
    (∃ (n : Fin 144) (edge : Nat) (o : Op) (s : State), s.armedBy 0x0505 (chWord n.val) edge = some o ∧ s.eavOk n.val edge = true ∧ (s.isMember n.val = true ∨ (o.f 5 31 30 = 1 ∧ s.shareOk n.val (o.f 5 2 0) (o.f 5 29 29 == 1) = false))) ∧
    (∃ (n : Fin 144) (edge : Nat) (o : Op) (s : State), s.armedBy 0x0505 (chWord n.val) edge = some o ∧ s.eavOk n.val edge = true ∧ s.isMember n.val = false ∧ (o.f 5 31 30 ≠ 1 ∨ s.shareOk n.val (o.f 5 2 0) (o.f 5 29 29 == 1) = true)) :=
  ⟨⟨0, 0, { opr 0x0501 5 0x040 0 [] with word1 := chWord 0 }, run up { opr 0x0501 5 0x040 0 [] with word1 := chWord 0 }, by decide⟩,
   ⟨0, 0, { opr 0x0501 5 0x040 0 [] with word1 := chWord 0 }, run (withF up [(chBase 0, F.SE_CH_STAT_rx_state, rxMember)]) { opr 0x0501 5 0x040 0 [] with word1 := chWord 0 }, by decide⟩,
   ⟨0, (withF sdi0 [(chBase 0, F.SE_CH_STAT_tx_state, txStarting)]).firstFrame 0, withF sdi0 [(chBase 0, F.SE_CH_STAT_tx_state, txStarting)], by decide⟩,
   ⟨0, (withF sdi0 [(chBase 0, F.SE_CH_STAT_tx_state, txStarting)]).firstFrame 0 + 1, withF sdi0 [(chBase 0, F.SE_CH_STAT_tx_state, txStarting)], by decide⟩,
   ⟨0, (withF sdi0 [(chBase 0, F.SE_CH_CFG_tx_on, 1)]).setSeCh 0 { sdi0.seCh 0 with txLine := 1 }, by (try dsimp only); first | done | decide⟩,
   ⟨0, 0, { opr 0x0505 5 0x040 0 [0, 0, 0, 0x40000000] with word1 := chWord 0 }, (run (withF sdi0 [(chBase 1, F.SE_CH_XPT_kind, 1), (chBase 1, F.SE_CH_STAT_tx_state, txRunning)]) { opr 0x0505 5 0x040 0 [0, 0, 0, 0x40000000] with word1 := chWord 0 }).setSeCh 0 { tx := [1], txLine := 1 }, by decide⟩,
   ⟨0, 0, { opr 0x0505 5 0x040 0 [] with word1 := chWord 0 }, (run up { opr 0x0505 5 0x040 0 [] with word1 := chWord 0 }).setSeCh 0 { txLine := 1 }, by decide⟩⟩
/-- The hypotheses of IpStreams, clauses 0 to 11, can be met. -/
theorem test_hyps_IpStreams_0 :
    (∃ (c : Cmd) (s : State), let g := c.seOf.getD 0; let n := 8 * g + c.inst % 8; Takes s 0x0502 c ∧ 0x8000 ≤ c.inst ∧ c.len = 14 ∧ c.flowTgt = true ∧ s.portOk n c = true ∧ s.grpOn g = true ∧ (∀ j < speedLanes (c.f 2 27 26), s.laneState (n + j) ≠ lnRetired) ∧ s.heldByOther c = false) ∧
    (∃ (c : Cmd) (s : State), let g := c.seOf.getD 0; Takes s 0x0502 c ∧ c.inst < 0x8000 ∧ c.len = 16 ∧ c.flowTgt = true ∧ s.flowOk g c = true ∧ s.mcfRefuses g c = false ∧ s.grpOn g = true ∧ s.laneState (8 * g + c.f 2 23 21 + c.f 2 20 19) ≠ lnRetired ∧ s.heldByOther c = false ∧ s.flState g c.inst ≠ flDisabling) ∧
    (∃ (c : Cmd) (s : State), let g := c.seOf.getD 0; Takes s 0x0582 c ∧ c.len = 2 ∧ (c.flowTgt) = true ∧ (c.inst < 512 ∨ (!s.portMember (8 * g + c.inst % 8) && !s.isMember (8 * g + c.inst % 8)) = true) ∧ (!s.blkOff c.die c.blk) = true) ∧
    (∃ (c : Cmd) (s : State), let g := c.seOf.getD 0; let n := 8 * g + c.inst % 8; Takes s 0x0503 c ∧ c.len = 2 ∧ (c.flowTgt) = true ∧ (if c.inst < 512 then !(s.flow g c.inst).words.isEmpty else !(s.portRec n).isEmpty) = true ∧ (s.grpOn g) = true ∧ (!s.heldByOther c) = true) ∧
    (∃ (c : Cmd) (s : State), let g := c.seOf.getD 0; let b := c.legB; Takes s 0x0504 c ∧ c.len = 5 ∧ (c.seOf.isSome) = true ∧ c.inst < 256 ∧ (s.mergeOk g c) = true ∧ (s.grpOn g && s.grpOn b.1) = true ∧ (!s.heldByOther c && !s.otherHolds c (seBase b.1)) = true ∧ s.flState g c.inst ≠ flDisabling ∧ s.flState b.1 b.2 ≠ flDisabling) ∧
    (∃ (c : Cmd) (s : State), Takes s 0x0584 c ∧ c.len = 2 ∧ (c.seOf.isSome) = true ∧ c.inst < 256 ∧ (!s.blkOff c.die c.blk) = true) ∧
    (∃ (c : Cmd) (s : State), let g := c.seOf.getD 0; Takes s 0x0506 c ∧ c.len = 3 ∧ (c.streamTgt) = true ∧ (s.streamOk g c) = true ∧ (s.grpOn g) = true ∧ (!s.heldByOther c) = true) ∧
    (∃ (c : Cmd) (s : State), let g := c.seOf.getD 0; Takes s 0x0507 c ∧ c.len = 3 ∧ c.streamTgt = true ∧ s.streamOk g c = true ∧ s.grpOn g = true) ∧
    (∃ (g : Fin 18) (i : Fin 512) (sel : Fin 3) (s : State), let n := 8 * g.val + i.val; s.disablesOf g.val i.val sel.val ≠ [] ∧ ¬ (sel.val = 1 ∧ s.txState n = txDisabling ∧ s.txSending n = true)) ∧
    (∃ (n : Fin 144) (s : State), s.portHears n.val = true) ∧
    (∃ (n : Fin 144) (x : CtlPkt) (a : _) (s : State), s.portHears n.val = true ∧ x = .solicit a ∧ a = s.portAddr n.val) ∧
    (∃ (n : Fin 144) (x : CtlPkt) (a : _) (s : State), s.portHears n.val = true ∧ x = .echo a ∧ a = s.portAddr n.val) :=
  ⟨⟨pk 5 0x040 0x8000 [0,0,0,0,0,0,0,0,0,0,0,0], (got (eth0) 0x0502 (pk 5 0x040 0x8000 [0,0,0,0,0,0,0,0,0,0,0,0])), by (try dsimp only); first | done | decide⟩,
   ⟨pk 5 0x040 0 [0x13000000,0,0,0,0,0,0,0,0,0,0,0,0,0], (got (portAt0 eth0) 0x0502 (pk 5 0x040 0 [0x13000000,0,0,0,0,0,0,0,0,0,0,0,0,0])), by (try dsimp only); first | done | decide⟩,
   ⟨pk 5 0x040 0 [], (got (up) 0x0582 (pk 5 0x040 0 [])), by decide⟩,
   ⟨pk 5 0x040 0 [], (got (flows [(0, { words := [1] })] up) 0x0503 (pk 5 0x040 0 [])), by (try dsimp only); first | done | decide⟩,
   ⟨pk 5 0x040 0 [1,0,0], (got (flows [(0, { words := [1] }), (1, { words := [1] })] up) 0x0504 (pk 5 0x040 0 [1,0,0])), by (try dsimp only); first | done | decide⟩,
   ⟨pk 5 0x040 0 [], (got (up) 0x0584 (pk 5 0x040 0 [])), by decide⟩,
   ⟨pk 5 0x040 0 [0], (got (up) 0x0506 (pk 5 0x040 0 [0])), by (try dsimp only); first | done | decide⟩,
   ⟨pk 5 0x040 0 [0], (got (up) 0x0507 (pk 5 0x040 0 [0])), by (try dsimp only); first | done | decide⟩,
   ⟨0, 0, 0, run up (opr 0x0506 5 0x040 0 [0]), by decide⟩,
   ⟨0, withF (portAt0 eth0) [(ethBase 0, F.SE_PORT_STAT_link_up, 1)], by (try dsimp only); first | done | decide⟩,
   ⟨0, .solicit 0, 0, withF (portAt0 eth0) [(ethBase 0, F.SE_PORT_STAT_link_up, 1)], by decide⟩,
   ⟨0, .echo 0, 0, withF (portAt0 eth0) [(ethBase 0, F.SE_PORT_STAT_link_up, 1)], by decide⟩⟩
/-- The hypotheses of IpStreams, clauses 12 to 21, can be met. -/
theorem test_hyps_IpStreams_12 :
    (∃ (n : Fin 144) (x : CtlPkt) (a : Nat) (mac : _) (s : State), s.portHears n.val = true ∧ x = .resolved a mac) ∧
    (∃ (n : Fin 144) (x : CtlPkt) (s : State), s.portHears n.val = true ∧ x = .query) ∧
    (∃ (g : Fin 18) (i : Fin 256) (s : State), let st := s.flState g.val i.val; let f := s.flow g.val i.val; let n := 8 * g.val + f.f 2 23 21; let x := s.seCh n; (st = flSearching ∨ st = flRunning) ∧ x.matched.contains i.val = true) ∧
    (∃ (g : Fin 18) (i : Fin 256) (edge : Nat) (x1_ : _) (e : _) (s : State), let f := s.flow g.val i.val; f.leg = some (true, x1_) ∧ f.first = some e ∧ (s.flState g.val i.val = flSearching ∨ s.flState g.val i.val = flRunning) ∧ e.time + bitsOf (f.merge.getD 1 0) 15 0 * 1000 * nano ≤ edge) ∧
    (∃ (g : Fin 18) (i : Fin 256) (a : Nat) (j : Nat) (x : _) (s : State), let f := s.flow g.val i.val; f.legA g.val i.val = some (a, j, x)) ∧
    (∃ (g : Fin 18) (i : Fin 256) (s : State), (s.flow g.val i.val).leg = none) ∧
    (∃ (n : Fin 144) (s : State), let b := ethBase n.val; let k := s.portLanes n.val; (s.portRec n.val).isEmpty = false ∧ s.flag b F.SE_PORT_STAT_link_up = false ∧ (List.range k).all (fun j => s.laneState (n.val + j) == lnService) = true) ∧
    (∃ (n : Fin 144) (s : State), let b := ethBase n.val; s.dom (groupDom (n.val / 8)) = 1 ∧ s.flag b F.SE_PORT_STAT_link_up = true) ∧
    (∃ (n : Fin 144) (s : State), let b := ethBase n.val; s.dom (groupDom (n.val / 8)) = 1 ∧ s.flag b F.SE_PORT_STAT_link_up = false ∧ (s.portRec n.val).isEmpty = false) ∧
    (∃ (g : Fin 18) (i : Fin 256) (edge : Nat) (L : Nat) (off : Nat) (len : Nat) (last : Bool) (p : Nat) (s : State), let f := s.flow g.val (256 + i.val); f.duePoint edge L off = some p ∧ s.flState g.val (256 + i.val) = flRunning ∧ f.packetFits L off len last = true) :=
  ⟨⟨0, .resolved 0 0, 0, 0, withF (portAt0 eth0) [(ethBase 0, F.SE_PORT_STAT_link_up, 1)], by decide⟩,
   ⟨0, .query, withF (portAt0 eth0) [(ethBase 0, F.SE_PORT_STAT_link_up, 1)], by decide⟩,
   ⟨0, 0, (withF up [(rxfBase 0 0, F.SE_RXF_STAT_state, flRunning)]).setSeCh 0 { matched := [0] }, by (try dsimp only); first | done | decide⟩,
   ⟨0, 0, 0, 1, ({ seq := 0, pkt := { seq := 0, ts := 0, time := 0, rows := [], marker := false, audio := [], anc := [] }, time := 0, legs := 1 } : Stored), withF (flows [(0, { words := [1], leg := some (true, 1), store := [{ seq := 0, pkt := { seq := 0, ts := 0, time := 0, rows := [], marker := false, audio := [], anc := [] }, time := 0, legs := 1 }] })] up) [(rxfBase 0 0, F.SE_RXF_STAT_state, flRunning)], by (try dsimp only); first | done | decide⟩,
   ⟨0, 0, 0, 0, 1, flows [(0, { words := [1], leg := some (true, 1) })] up, by (try dsimp only); first | done | decide⟩,
   ⟨0, 0, up, by decide⟩,
   ⟨0, portAt0 eth0, by (try dsimp only); first | done | decide⟩,
   ⟨0, withF (portAt0 eth0) [(ethBase 0, F.SE_PORT_STAT_link_up, 1)], by (try dsimp only); first | done | decide⟩,
   ⟨0, portAt0 eth0, by (try dsimp only); first | done | decide⟩,
   ⟨0, 0, 0, 0, 0, 0, true, 0, withF (flows [(256, { words := [0x01000000] })] up) [(txfBase 0 256, F.SE_TXF_STAT_state, flRunning)], by (try dsimp only); first | done | decide⟩⟩
/-- The hypotheses of Protractors, clauses 0 to 4, can be met. -/
theorem test_hyps_Protractors_0 :
    (∃ (c : Cmd) (s : State), let n := c.protOf.getD 0; Takes s 0x0600 c ∧ c.len = 12 ∧ (c.protOf.isSome) = true ∧ (s.protSetOk n c) = true ∧ (s.grpOn (grpOf n)) = true ∧ s.laneState n ≠ lnRetired ∧ (!s.heldByOther c) = true) ∧
    (∃ (c : Cmd) (s : State), Takes s 0x0680 c ∧ c.len = 2 ∧ (c.protOf.isSome) = true ∧ (!s.blkOff c.die c.blk) = true) ∧
    (∃ (n : Fin 144) (s : State), s.protOn n.val = true ∧ s.laneNative n.val = true ∧ s.eyePaused n.val = false) ∧
    (∃ (n : Fin 144) (s : State), s.protOn n.val = true ∧ s.laneNative n.val = true ∧ s.eyePaused n.val = false ∧ (s.protX n.val).cut = true ∧ (s.protX n.val).cutJ = true) ∧
    (∃ (n : Fin 144) (s : State), s.protOn n.val = true ∧ s.dom (groupDom (n.val / 8)) = 1) :=
  ⟨⟨pk 5 0x180 0 [0,0,0,0,0,0,0,0,0,0], (got (up) 0x0600 (pk 5 0x180 0 [0,0,0,0,0,0,0,0,0,0])), by (try dsimp only); first | done | decide⟩,
   ⟨pk 5 0x180 0 [], (got (up) 0x0680 (pk 5 0x180 0 [])), by decide⟩,
   ⟨0, withF (laneIn lnService) [(protBase 0, F.PROT_CFG_word, 0x80000000)], by decide⟩,
   ⟨0, (withF (laneIn lnService) [(protBase 0, F.PROT_CFG_word, 0x80000000)]).setProtX 0 { up.protX 0 with cut := true, cutJ := true }, by decide⟩,
   ⟨0, withF (laneIn lnService) [(protBase 0, F.PROT_CFG_word, 0x80000000)], by decide⟩⟩
/-- The hypotheses of OpticalEdges, clauses 0 to 12, can be met. -/
theorem test_hyps_OpticalEdges_0 :
    (∃ (c : Cmd) (s : State), let e := (edgeOf c.die c.blk).getD 0; Takes s 0x0A04 c ∧ c.len = 3 ∧ ((edgeOf c.die c.blk).isSome) = true ∧ c.inst = 0 ∧ c.f 2 31 1 = 0 ∧ ((edgeSpines e).all (fun q => s.dom (spineDom q) != 0)) = true ∧ s.edgeState e ≠ egRetired ∧ (!s.heldByOther c) = true ∧ (!s.edgeTraining e) = true ∧ s.swapping = false ∧ ((s.retrainOp e).isNone) = true ∧ (!s.edgeChanging e) = true) ∧
    (∃ (c : Cmd) (s : State), let j := c.lampOf.getD 0; Takes s 0x0A05 c ∧ c.len = 2 ∧ (c.lampOf.isSome) = true ∧ s.lampState j = lpStandby ∧ (!s.heldByOther c) = true ∧ s.swapping = false ∧ (!(List.range 8).any (fun e => s.edgeTraining e || s.edgeChanging e)) = true) ∧
    (∃ (e : Fin 8) (bad : Option (Fin 16 × Fin 18)) (s : State), s.edgeState e.val = egActive ∧ bad = none) ∧
    (∃ (e : Fin 8) (bad : Option (Fin 16 × Fin 18)) (l : _) (s : State), s.edgeState e.val = egActive ∧ bad = some l ∧ l.1.val < edgeWgs e.val ∧ (s.laneCarries e.val l.1.val l.2.val || s.swapping) = true ∧ s.laneOut e.val l.1.val l.2.val = false) ∧
    (∃ (e : Fin 8) (x1_ : _) (t : _) (s : State), (s.edgeX e.val).spare = x1_ :: t) ∧
    (∃ (e : Fin 8) (s : State), s.edgeState e.val = egFull) ∧
    (∃ (e : Fin 8) (s : State), s.edgeState e.val = egFast) ∧
    (∃ (e : Fin 4) (s : State), s.edgeTraining e.val = true ∧ s.ring.split.contains e.val = false ∧ (s.edgeX e.val).shut + 20000 < s.now) ∧
    (∃ (e : Fin 8) (o : Op) (s : State), s.retrainOp e.val = some o ∧ s.edgeState e.val = egRetired) ∧
    (∃ (e : Fin 8) (o : Op) (s : State), s.retrainOp e.val = some o ∧ s.edgeState e.val ≠ egRetired ∧ s.edgeTraining e.val = false) ∧
    (∃ (j : Fin 2) (s : State), s.lampState j.val = lpWarming) ∧
    (∃ (j : Fin 2) (s : State), s.lampState j.val = lpWarming ∧ SMap.get 0 s.opt.warm j.val + 200000000 ≤ s.now) :=
  ⟨⟨pk 1 0x058 0 [0], (got (up) 0x0A04 (pk 1 0x058 0 [0])), by (try dsimp only); first | done | decide⟩,
   ⟨pk 0 0x060 0 [], (got (withF up [(lampBase 0, F.LAMP_STAT_state, lpStandby)]) 0x0A05 (pk 0 0x060 0 [])), by (try dsimp only); first | done | decide⟩,
   ⟨0, none, withF up [(edgeBase 0, F.EDGE_STAT_state, egActive)], by decide⟩,
   ⟨0, some (0, 0), ((0 : Fin 16), (0 : Fin 18)), withF up [(edgeBase 0, F.EDGE_STAT_state, egActive)], by decide⟩,
   ⟨0, 0, [], { up with opt := { up.opt with edges := [(0, { spare := [0] })] } }, by decide⟩,
   ⟨0, withF up [(edgeBase 0, F.EDGE_STAT_state, egFull)], by decide⟩,
   ⟨0, withF up [(edgeBase 0, F.EDGE_STAT_state, egFast)], by decide⟩,
   ⟨0, { withF up [(edgeBase 0, F.EDGE_STAT_state, egFull)] with now := 20001 }, by decide⟩,
   ⟨0, opr 0x0A04 1 0x058 0 [0], withF (run up (opr 0x0A04 1 0x058 0 [0])) [(edgeBase 0, F.EDGE_STAT_state, egRetired)], by decide⟩,
   ⟨0, opr 0x0A04 1 0x058 0 [0], run up (opr 0x0A04 1 0x058 0 [0]), by decide⟩,
   ⟨0, withF up [(lampBase 0, F.LAMP_STAT_state, lpWarming)], by decide⟩,
   ⟨0, { withF up [(lampBase 0, F.LAMP_STAT_state, lpWarming)] with now := 200000000 }, by decide⟩⟩
/-- The hypotheses of OpticalEdges, clause 13, can be met. -/
theorem test_hyps_OpticalEdges_13 :
    (∃ (op : _) (s : State), let j := op.blk - 0x060; let o := 1 - j; s.hq.ops.find? (fun o => o.opcode == 0x0A05) = some op) :=
  ⟨opr 0x0A05 0 0x060 0 [], run up (opr 0x0A05 0 0x060 0 []), by decide⟩
/-- The hypotheses of PartnerAndShortEdges, clauses 0 to 9, can be met. -/
theorem test_hyps_PartnerAndShortEdges_0 :
    (∃ (x : ShortEdge) (l : _) (b : _) (s : State), x = .bundle l b ∧ s.getF (sheB l.val b.val) F.SHE_B_state = 2) ∧
    (∃ (x : ShortEdge) (k : _) (ch : _) (s : State), x = .dram k ch ∧ s.getF (fmcCh k.val ch.val) F.FMC_CH_state = 2) ∧
    (∃ (x : ShortEdge) (j : _) (s : State), x = .lamp j) ∧
    (∃ (rate : Fin 33) (modules : Fin 4) (s : State), s.ident.site ≠ 0 ∧ s.getF ucieBase F.UCIE_LINK_state = 2 ∧ [4, 8, 12, 16, 24, 32].contains rate.val ≠ false ∧ modules.val ≠ 0 ∧ (¬ (s.getF ucieBase F.UCIE_LINK_rate ≠ 0 ∧ (s.getF ucieBase F.UCIE_LINK_rate < rate.val ∨ (s.getF ucieBase F.UCIE_LINK_modules ≠ 3 ∧ modules.val ≠ s.getF ucieBase F.UCIE_LINK_modules))))) ∧
    (∃ (s : State), s.ident.site ≠ 0 ∧ s.getF ucieBase F.UCIE_LINK_state = 3) ∧
    (∃ (s : State), s.ident.site ≠ 0 ∧ s.getF ucieBase F.UCIE_LINK_state = 3) ∧
    (∃ (e : _) (p : _) (t : _) (s : State), s.opt.ucie.reqs = (e, p) :: t) ∧
    (∃ (s : State), s.ident.site ≠ 0) ∧
    (∃ (m : Master) (k : Fin 8) (s : State), Reaches s m 7 0 (0x100 + 8 * k.val) ∧ m = .hostMgmt ∧ s.flag psysBase F.PSYS_STAT_fenced = true) ∧
    (∃ (m : Master) (k : Fin 8) (s : State), Reaches s m 7 0 (0x100 + 8 * k.val + 4) ∧ m = .hostMgmt ∧ s.flag psysBase F.PSYS_STAT_fenced = true) :=
  ⟨⟨.bundle 0 0, (0 : Fin 2), (0 : Fin 18), withF up [(sheB 0 0, F.SHE_B_state, 2)], by decide⟩,
   ⟨.dram 0 0, (0 : Fin 4), (0 : Fin 16), withF up [(fmcCh 0 0, F.FMC_CH_state, 2)], by decide⟩,
   ⟨.lamp 0, 0, up, by decide⟩,
   ⟨4, 1, withF up [(ucieBase, F.UCIE_LINK_state, 2)], by decide⟩,
   ⟨withF up [(ucieBase, F.UCIE_LINK_state, 3), (psysBase, F.PSYS_STAT_fenced, 0)], by decide⟩,
   ⟨withF up [(ucieBase, F.UCIE_LINK_state, 3), (psysBase, F.PSYS_STAT_fenced, 0)], by decide⟩,
   ⟨0, pkt 0, [], { up with opt := { up.opt with ucie := { up.opt.ucie with reqs := [(0, pkt 0)] } } }, by decide⟩,
   ⟨up, by decide⟩,
   ⟨.hostMgmt, 0, withF up [(psysBase, F.PSYS_STAT_fenced, 1)], by decide⟩,
   ⟨.hostMgmt, 0, withF up [(psysBase, F.PSYS_STAT_fenced, 1)], by decide⟩⟩
/-- The hypotheses of FrameMemoryAndSealing, clauses 0 to 11, can be met. -/
theorem test_hyps_FrameMemoryAndSealing_0 :
    (∃ (c : Cmd) (s : State), Takes s 0x0700 c ∧ c.len = 6 ∧ (c.aimsSector) = true ∧ (s.sectorOk c) = true ∧ (s.stackOn c.stack) = true ∧ (!s.heldByOther c) = true ∧ ((c.f 2 31 31 == 1 || s.secState c.stack c.inst != secDrain)) = true) ∧
    (∃ (c : Cmd) (s : State), Takes s 0x0780 c ∧ c.len = 2 ∧ (c.aimsSector) = true ∧ (s.stackOn c.stack) = true) ∧
    (∃ (c : Cmd) (s : State), Takes s 0x0701 c ∧ c.len = 3 ∧ (c.aimsSector) = true ∧ c.f 2 31 14 = 0 ∧ s.secState c.stack c.inst ≠ secFree ∧ (s.stackOn c.stack) = true ∧ (!s.heldByOther c) = true) ∧
    (∃ (c : Cmd) (s : State), Takes s 0x0781 c ∧ c.len = 2 ∧ (c.aimsSector) = true ∧ (s.stackOn c.stack) = true) ∧
    (∃ (c : Cmd) (s : State), Takes s 0x0702 c ∧ c.len = 3 ∧ (c.aimsSector) = true ∧ c.f 2 31 1 = 0 ∧ (s.secSealed c.stack c.inst) = true ∧ ((s.secState c.stack c.inst == secActive || s.secState c.stack c.inst == secSweep)) = true ∧ (s.stackOn c.stack) = true ∧ (!s.heldByOther c) = true ∧ s.secState c.stack c.inst ≠ secSweep) ∧
    (∃ (cls : Fin 7) (a : BitVec 33) (n : Fin 513) (s : State), (s.fmBlocked a.toNat n.val = false ∨ (s.fmAdmit cls.val a.toNat true false).1 ≠ none)) ∧
    (∃ (cls : Fin 7) (a : BitVec 33) (n : Fin 513) (s : State), s.fmBlocked a.toNat n.val = true ∧ (s.fmAdmit cls.val a.toNat true false).1 = none) ∧
    (∃ (cls : Fin 7) (a : BitVec 33) (bs : List Byte) (poison : Bool) (es : List LineErr) (st : _) (s1 : _) (s : State), s.fmWrite cls.val a.toNat bs (allBad poison bs.length) es = (some st, s1)) ∧
    (∃ (cls : Fin 7) (a : BitVec 33) (bs : List Byte) (poison : Bool) (es : List LineErr) (s1 : _) (s : State), s.fmWrite cls.val a.toNat bs (allBad poison bs.length) es = (none, s1)) ∧
    (∃ (k : Fin 4) (s : State), s.dom (stackDom k.val) ≠ 0) ∧
    (∃ (k : Fin 4) (line : BitVec 25) (s : State), s.fm.wback.contains (k.val, line.toNat) = true) ∧
    (∃ (k : Fin 4) (x : Fin 24) (s : State), s.secState k.val x.val = secInit ∧ s.dom (stackDom k.val) = 1 ∧ s.filled k.val x.val = true) :=
  ⟨⟨pk 1 0x048 0 [0x80000000,0,0,0], (got (up) 0x0700 (pk 1 0x048 0 [0x80000000,0,0,0])), by decide⟩,
   ⟨pk 1 0x048 0 [], (got (up) 0x0780 (pk 1 0x048 0 [])), by decide⟩,
   ⟨pk 1 0x048 0 [0], (got (withF up [(slotBase 0 0, F.SEAL_SECT_STAT_state, secActive)]) 0x0701 (pk 1 0x048 0 [0])), by decide⟩,
   ⟨pk 1 0x048 0 [], (got (up) 0x0781 (pk 1 0x048 0 [])), by decide⟩,
   ⟨pk 1 0x048 0 [0], (got (withF up [(slotBase 0 0, F.SEAL_SECT_STAT_state, secActive), (slotBase 0 0, F.SEAL_SECT_CFG_sealed, 1)]) 0x0702 (pk 1 0x048 0 [0])), by decide⟩,
   ⟨0, 0, 4, up, by decide⟩,
   ⟨6, 0, 4, { up with fm := { up.fm with waits := [({ cls := 0, addr := 0, n := 4, data := [], poison := false, posted := false, write := false, es := [] } : FmWait)] } }, by decide⟩,
   ⟨0, 0, [], false, [], .domainOff, domAt 70 0 up, domAt 70 0 up, by decide⟩,
   ⟨0, 0, [1], false, [], { up with fm := { up.fm with waits := [({ cls := 0, addr := 0, n := 4, data := [], poison := false, posted := false, write := false, es := [] } : FmWait)] } }, { up with fm := { up.fm with waits := [({ cls := 0, addr := 0, n := 4, data := [], poison := false, posted := false, write := false, es := [] } : FmWait)] } }, by rfl⟩,
   ⟨0, up, by decide⟩,
   ⟨0, 0, { up with fm := { up.fm with wback := [(0, 0)] } }, by decide⟩,
   ⟨0, 0, { withF up [(slotBase 0 0, F.SEAL_SECT_STAT_state, secInit)] with now := 1000 }, by decide⟩⟩
/-- The hypotheses of FrameMemoryAndSealing, clauses 12 to 15, can be met. -/
theorem test_hyps_FrameMemoryAndSealing_12 :
    (∃ (k : Fin 4) (x : Fin 24) (s : State), s.secState k.val x.val = secDrain) ∧
    (∃ (k : Fin 4) (x : Fin 24) (s : State), (s.sect k.val x.val).due = true ∧ (s.secState k.val x.val == secActive) = true ∧ (s.dom (stackDom k.val) == 1) = true) ∧
    (∃ (k : Fin 4) (x : Fin 24) (s : State), s.secState k.val x.val = secSweep ∧ s.dom (stackDom k.val) = 1 ∧ s.secEnd k.val x.val ≤ (s.sect k.val x.val).ptr) ∧
    (∃ (k : Fin 4) (x : Fin 24) (src : _) (tag : _) (epoch : _) (s : State), (s.sect k.val x.val).op = some (src, tag) ∧ (s.sect k.val x.val).done = some epoch) :=
  ⟨⟨0, 0, withF up [(slotBase 0 0, F.SEAL_SECT_STAT_state, secDrain)], by decide⟩,
   ⟨0, 0, withF { up with fm := { up.fm with sects := [(0, { due := true })] } } [(slotBase 0 0, F.SEAL_SECT_STAT_state, secActive)], by decide⟩,
   ⟨0, 0, (withF up [(slotBase 0 0, F.SEAL_SECT_STAT_state, secSweep)]).setSect 0 0 { ptr := 1024 }, by decide⟩,
   ⟨0, 0, .set 0, 1, 1, up.setSect 0 0 { op := some (.set 0, 1), done := some 1 }, by decide⟩⟩
/-- The hypotheses of LatticeLinks, clauses 0 to 12, can be met. -/
theorem test_hyps_LatticeLinks_0 :
    (∃ (c : Cmd) (s : State), let act := c.f 2 1 0; let max_ := if c.f 4 31 16 = 0 then 4096 else c.f 4 31 16; Takes s 0x0800 c ∧ (if act = 0 then c.len == 7 else if act = 1 then decide (8 ≤ c.len) && decide (c.len ≤ 134) else true) = true ∧ (c.aims 0 0x000 0) = true ∧ (s.discoverOk c) = true ∧ (act != 0 || s.stewardMay (c.f 6 7 0 * 4294967296 + c.w 5) (32 * max_)) = true ∧ (!s.heldByOther c) = true ∧ ((act != 0 || s.discOp.isNone)) = true) ∧
    (∃ (c : Cmd) (s : State), Takes s 0x0801 c ∧ c.len = 5 ∧ (c.aims 0 0x000 0) = true ∧ (s.assignAllowed c) = true ∧ c.f 2 29 16 = 0 ∧ c.f 2 15 0 ≤ 0x0FFF ∧ c.w 3 ≠ 0 ∧ c.f 4 31 16 = 0 ∧ (!s.heldByOther c) = true) ∧
    (∃ (c : Cmd) (s : State), Takes s 0x0881 c ∧ c.len = 2 ∧ (c.aims 0 0x000 0) = true) ∧
    (∃ (c : Cmd) (s : State), let k := c.inst; let isLink := decide (k < 16); Takes s 0x0802 c ∧ (if isLink then c.len == 3 else c.len == 4) = true ∧ c.die = 0 ∧ c.blk = 0x000 ∧ ((isLink || (decide (0x100 ≤ k) && decide (k < 0x140)))) = true ∧ (if isLink then s.linkOk k c else c.f 2 30 28 == 0 && c.f 2 15 0 == 0 && c.f 3 31 28 == 0 && c.f 3 15 12 == 0) = true ∧ (!isLink || c.linkLanes.all (fun n => s.laneOn n)) = true ∧ (!isLink || c.linkLanes.all (fun n => s.laneState n != lnRetired)) = true ∧ (!s.heldByOther c) = true) ∧
    (∃ (c : Cmd) (s : State), let k := c.inst; let isLink := decide (k < 16); Takes s 0x0882 c ∧ c.len = 2 ∧ c.die = 0 ∧ c.blk = 0x000 ∧ ((isLink || (decide (0x100 ≤ k) && decide (k < 0x140)))) = true) ∧
    (∃ (k : Fin 16) (f : GFrame) (s : State), let l := s.glink k.val; s.scanHolds ≠ true ∧ (¬ (l.state ≠ glHello ∧ l.state ≠ glUp)) ∧ f.good = false) ∧
    (∃ (k : Fin 16) (f : GFrame) (s : State), let l := s.glink k.val; let hdr := f.hdr.toNat; let kind := bitsOf hdr 30 28; s.scanHolds ≠ true ∧ (¬ (l.state ≠ glHello ∧ l.state ≠ glUp)) ∧ f.good = true ∧ kind < 4) ∧
    (∃ (k : Fin 16) (s : State), (s.glink k.val).state = glUp ∧ (s.glink k.val).sent ≠ []) ∧
    (∃ (k : Fin 16) (s : State), (s.glink k.val).state = glAligning ∧ ((s.glink k.val).lanes.all (fun n => s.laneState n == lnService) && s.glLanesOk (s.glink k.val)) = true) ∧
    (∃ (k : Fin 16) (s : State), ((s.glink k.val).state = glHello ∨ (s.glink k.val).state = glUp)) ∧
    (∃ (k : Fin 16) (s : State), (s.glink k.val).state = glUp) ∧
    (∃ (d : _) (o : Op) (s : State), s.lat.disc = some d ∧ s.discOp = some o ∧ d.stack.isEmpty = true ∧ d.await.isSome = false) :=
  ⟨⟨pk 0 0 0 [1,0,0,0,0,0], (got (up) 0x0800 (pk 0 0 0 [1,0,0,0,0,0])), by (try dsimp only); first | done | decide⟩,
   ⟨pk 0 0 0 [0,1,0], (got (up) 0x0801 (pk 0 0 0 [0,1,0])), by decide⟩,
   ⟨pk 0 0 0 [], (got (up) 0x0881 (pk 0 0 0 [])), by decide⟩,
   ⟨pk 0 0 0 [0], (got (up) 0x0802 (pk 0 0 0 [0])), by (try dsimp only); first | done | decide⟩,
   ⟨pk 0 0 0 [], (got (up) 0x0882 (pk 0 0 0 [])), by (try dsimp only); first | done | decide⟩,
   ⟨0, { hdr := 0, data := 0, tag := 0, last := 0 }, glinkAt { state := glHello } up, by (try dsimp only); first | done | decide⟩,
   ⟨0, helloFrame, glinkAt { state := glHello } up, by (try dsimp only); first | done | decide⟩,
   ⟨0, glinkAt { state := glUp, sent := [(helloFrame, 0)] } up, by decide⟩,
   ⟨0, withF (glinkAt { state := glAligning } up) ((List.range 4).flatMap (fun n => [(laneBase n, F.LANE_STAT_state, lnService), (laneBase n, F.LANE_CFG0_word5, 0xD0000000), (laneBase n, F.LANE_CFG1_word6, 0xA50000), (laneBase n, F.LANE_REFKHZ_word7, 156250)])), by decide⟩,
   ⟨0, glinkAt { state := glUp } up, by decide⟩,
   ⟨0, glinkAt { state := glUp } up, by decide⟩,
   ⟨({ next := 0, stack := [], recs := [] } : Disc), opr 0x0800 0 0 0 [0,0,0,0,0], { run up (opr 0x0800 0 0 0 [0,0,0,0,0]) with lat := { up.lat with disc := some { next := 0, stack := [], recs := [] } } }, by decide⟩⟩
/-- The hypotheses of LatticeLinks, clauses 13 to 15, can be met. -/
theorem test_hyps_LatticeLinks_13 :
    (∃ (who : LatClient) (c : _) (n : _) (es : _) (ans : _) (s : State), who = .dma c n es ans ∧ s.dmaState c.val = 1 ∧ ((s.dmaSrc c.val).testBit 63 ∨ (s.dmaDst c.val).testBit 63)) ∧
    (∃ (who : LatClient) (h : _) (o : Op) (s : State), who = .stage h ∧ s.hState h.val = 1 ∧ s.stageOp h.val = some o ∧ srcOfStage (o.w 2) = 4) ∧
    (∃ (k : Fin 16) (s : State), let l := s.glink k.val; l.pend = true ∧ l.enabled = true ∧ s.glLanesOk l = true ∧ l.lanes.all (fun n => s.laneOn n && s.laneState n != lnRetired && (s.linkOfLane n).isNone) = true) :=
  ⟨⟨.dma 0 0 [] [], (0 : Fin 16), 0, ([] : List LineErr), ([] : List (Option (List Byte × Bool))), withF up [(dmaCh 0, F.DMA_CHSTAT_state, 1), (dmaCh 0, F.DMA_SRC_HI_src, 0x80000000)], by decide⟩,
   ⟨.stage 0, (0 : Fin 8), opr 0x0200 0 0x040 0 [0x40000000,0,0,0,0,0], withF (run up (opr 0x0200 0 0x040 0 [0x40000000,0,0,0,0,0])) [(handleBase 0, F.CFG_HANDLE_STATE_state, 1)], by decide⟩,
   ⟨0, withF (glinkAt { word := 0x80000000, pend := true } up) ((List.range 4).flatMap (fun n => [(laneBase n, F.LANE_CFG0_word5, 0xD0000000), (laneBase n, F.LANE_CFG1_word6, 0xA50000), (laneBase n, F.LANE_REFKHZ_word7, 156250)])), by (try dsimp only); first | done | decide⟩⟩
theorem test_hyps_IdleStepTicks : State.reset.pending = [] := by decide
theorem test_hyps_ResetState : ∃ (base : Nat) (f : Fld), (∀ n < 8, regKey base f ≠ regKey (cueBase n) F.CUE_ENTRY_LO_entry) ∧
    regKey base f ≠ regKey (lampBase 0) F.LAMP_INFO_lines := ⟨cueBase 0, F.CUE_STAT_state, by decide⟩
theorem test_hyps_MemoryStaysCanonical : ∃ s t : State, Memory.wf s.mem ∧ step s = .next t :=
  ⟨{ State.reset with pending := [.vccDbgRise] }, _, by decide, rfl⟩
theorem test_hyps_CommandFrame : ∃ (i : Instr) (s t : State) (c : Comp), exec i s = .next t ∧ c ∉ writes i :=
  ⟨.vccDbgRise, State.reset, _, .mem, rfl, by decide⟩
theorem test_hyps_StepTakesOne : ∃ s t : State, step s = .next t := ⟨{ State.reset with pending := [.vccDbgRise, .vccDbgLoss] }, _, rfl⟩
theorem test_hyps_QueriesChangeNothing : ∃ (i : Instr) (op : Nat) (c : Cmd) (s t : State) (x : Comp), packetOf i = some (op, c) ∧ op.testBit 7 = true ∧ x ≠ .hq ∧
    exec i s = .next t := ⟨.timeSetQuery (pk 0 0x020 0 []), _, _, up, _, .tim, rfl, by decide, by decide, rfl⟩
theorem test_hyps_PacketsWaitForTheSteward : (∃ (i : Instr) (op : Nat) (c : Cmd) (s : State), packetOf i = some (op, c) ∧ s.fetching = false) ∧
    (∃ (i : Instr) (op : Nat) (c : Cmd) (s : State), packetOf i = some (op, c) ∧ s.refused op c = false ∧ s.inOrder op c = false) :=
  ⟨⟨.ping (pk 0 0 0 []), _, _, State.reset, rfl, by decide⟩,
   ⟨.getInfo (pk 0 0 0 []), _, _, { up with hq := { up.hq with inbox := [(0x0100, pk 0 0 0 []), (0x0101, pk 0 0 0 [])] } }, rfl, by decide, by decide⟩⟩
theorem test_hyps_PriorityLanes : (∃ (i : Instr) (op : Nat) (c : Cmd) (s : State), packetOf i = some (op, c) ∧ s.fetching = true ∧ (s.refused op c || s.inOrder op c) = true ∧ c.src = .set 4 ∧
      op ∉ [0x0100, 0x0107, 0x0203, 0x0204, 0x0305, 0x0400, 0x0405, 0x0500, 0x0501, 0x0505, 0x0507, 0x0601]) ∧
    (∃ (i : Instr) (op : Nat) (c : Cmd) (s : State), packetOf i = some (op, c) ∧ s.fetching = true ∧ (s.refused op c || s.inOrder op c) = true ∧ c.src = .set 5 ∧
      op ∉ [0x0100, 0x0107, 0x0203, 0x0204, 0x0305, 0x0400, 0x0405, 0x0500, 0x0501, 0x0505, 0x0507, 0x0601]) :=
  ⟨⟨.getInfo { pk 0 0 0 [] with src := .set 4 }, _, _, got up 0x0101 { pk 0 0 0 [] with src := .set 4 }, rfl, by decide, by decide, rfl, by decide⟩,
   ⟨.journalClear { pk 0 0x050 0 [0, 0] with src := .set 5 }, _, _, got up 0x0A01 { pk 0 0x050 0 [0, 0] with src := .set 5 }, rfl, by decide, by decide, rfl, by decide⟩⟩
theorem test_hyps_StatusOrder_opcode : ∃ (s : State) (op : Nat) (c : Cmd) (k : Chk), s.opcodeOpen c.src op = false ∧ k.len = true := ⟨up, 0x0000, pk 0 0 0 [], {}, by decide⟩
theorem test_hyps_StatusOrder_early : (∃ (s : State) (op : Nat) (c : Cmd) (k : Chk), s.opcodeOpen c.src op = true ∧ k.len = false) ∧
    (∃ (s : State) (op : Nat) (c : Cmd) (k : Chk), s.opcodeOpen c.src op = true ∧ k.len = true ∧ k.tgt = false) ∧
    (∃ (s : State) (op : Nat) (c : Cmd) (k : Chk), s.opcodeOpen c.src op = true ∧ k.len = true ∧ k.tgt = true ∧
      (k.auth = false ∨ barred c.src op = true ∨ s.rootBars c.src = true)) :=
  ⟨⟨up, 0x0100, pk 0 0 0 [], { len := false }, by decide⟩, ⟨up, 0x0100, pk 0 0 0 [], { tgt := false }, by decide⟩, ⟨up, 0x0100, pk 0 0 0 [], { auth := false }, by decide⟩⟩
theorem test_hyps_StatusOrder_params : (∃ (s : State) (op : Nat) (c : Cmd) (k : Chk), s.opcodeOpen c.src op = true ∧ k.len = true ∧ k.tgt = true ∧ k.auth = true ∧
      barred c.src op = false ∧ s.rootBars c.src = false ∧ k.par = false) ∧
    (∃ (s : State) (op : Nat) (c : Cmd) (k : Chk), s.opcodeOpen c.src op = true ∧ k.len = true ∧ k.tgt = true ∧ k.auth = true ∧
      barred c.src op = false ∧ s.rootBars c.src = false ∧ k.par = true ∧ (k.dom = false ∨ (c.die < 8 ∧ s.pwr.inReset.getLsbD c.die = true))) :=
  ⟨⟨up, 0x0100, pk 0 0 0 [], { par := false }, by decide⟩, ⟨{ up with pwr := { up.pwr with inReset := 0x80 } }, 0x0100, pk 7 0 0 [], {}, by decide⟩⟩
theorem test_hyps_StatusOrder_late : ∀ k ∈ [({ fen := false } : Chk), { ret := false }, { free := false }, { late := false }, {}],
    ∃ (s : State) (op : Nat) (c : Cmd), s.opcodeOpen c.src op = true ∧ k.len = true ∧ k.tgt = true ∧ k.auth = true ∧
      barred c.src op = false ∧ s.rootBars c.src = false ∧ k.par = true ∧ k.dom = true ∧ (decide (c.die < 8) && s.pwr.inReset.getLsbD c.die) = false ∧ s.crowded c op = false := by
  intro k hk
  refine ⟨up, 0x0100, pk 0 0 0 [], ?_⟩
  revert k
  decide
/-- Another master's posted write holds the block of a facet. -/
def facetHeld : State := { up with posted := [{ base := winBase 1 0x010, addr := winBase 1 0x010 + 8, words := [1], master := .hostMgmt, time := 0 }] }
/-- The steward's own write does not stand in its way, no block of die C holds one, and a query writes nothing (R107). -/
theorem test_retries : facetHeld.retriesFail 0x0203 (pk 1 0x010 0 []) = true ∧ facetHeld.retriesFail 0x0284 (pk 1 0x010 0 []) = false ∧
    facetHeld.retriesFail 0x0203 (pk 1 0x011 0 []) = false ∧
    ({ facetHeld with posted := facetHeld.posted.map (fun p => { p with master := .steward }) } : State).retriesFail 0x0203 (pk 1 0x010 0 []) = false := by decide
theorem test_hyps_StatusOrder_retries : facetHeld.opcodeOpen (.set 0) 0x0203 = true ∧ barred (.set 0) 0x0203 = false ∧ facetHeld.rootBars (.set 0) = false ∧
    (decide ((pk 1 0x010 0 []).die < 8) && facetHeld.pwr.inReset.getLsbD (pk 1 0x010 0 []).die) = false ∧ facetHeld.crowded (pk 1 0x010 0 []) 0x0203 = false ∧
    facetHeld.retriesFail 0x0203 (pk 1 0x010 0 []) = true ∧ up.retriesFail 0x0203 (pk 1 0x010 0 []) = false := by decide
theorem test_hyps_DroppedWrites : (got facetHeld 0x0203 (pk 1 0x010 0 [])).handles 0x0203 (pk 1 0x010 0 []) = true ∧ facetHeld.opcodeOpen (pk 1 0x010 0 []).src 0x0203 = true ∧ barred (pk 1 0x010 0 []).src 0x0203 = false ∧
    facetHeld.rootBars (pk 1 0x010 0 []).src = false ∧ (decide ((pk 1 0x010 0 []).die < 8) && facetHeld.pwr.inReset.getLsbD (pk 1 0x010 0 []).die) = false ∧
    facetHeld.crowded (pk 1 0x010 0 []) 0x0203 = false ∧ facetHeld.retriesFail 0x0203 (pk 1 0x010 0 []) = true := by decide
theorem test_hyps_DroppedWrites_frame : ∃ (i : Instr) (op : Nat) (c : Cmd) (s t : State) (b : Nat) (f : Fld),
    i ∈ [.laneSet c, .laneRetire c, .sdiRxSet c, .sdiTxSet c, .xptAt c, .facetSwapAt c, .channelRetire c] ∧ packetOf i = some (op, c) ∧ exec i s = .next t ∧
    s.blockedBy op c ≠ [] ∧ ∀ x ∈ s.blockedBy op c, regKey b f ≠ regKey x F.HDR_write_dropped :=
  ⟨.facetSwapAt (pk 1 0x010 0 []), _, pk 1 0x010 0 [], facetHeld, _, winBase 1 0x010, F.HDR_write_timeout, by simp, rfl, rfl, by decide, by decide⟩
theorem test_hyps_DroppedWrites_none : ∃ (i : Instr) (op : Nat) (c : Cmd) (s t : State),
    i ∈ [.laneSet c, .laneRetire c, .sdiRxSet c, .sdiTxSet c, .xptAt c, .facetSwapAt c, .channelRetire c] ∧ packetOf i = some (op, c) ∧ exec i s = .next t ∧
    (∀ p ∈ s.posted, p.base ∉ cmdBlocks op c [] ∨ p.master = .steward) :=
  ⟨.laneSet (pk 5 0x100 0 []), _, pk 5 0x100 0 [], facetHeld, _, by simp, rfl, rfl, by decide⟩
theorem test_hyps_RegisterFields : regKey timeBase F.TIME_STAT_state ≠ regKey pwrBase F.PWR_STAT_warn := by decide
theorem test_hyps_CountersAndSnapshots : (jrnlBase + F.JRNL_SH_LOST_LO_lo.off ≠ dbgBase + F.DBG_SH_LOST_LO_lo.off) ∧
    ∃ (s : State) (base : Nat) (f : Fld) (n rbase : Nat) (r : Fld) (src : Nat), s.ctr (base + f.off) < 0xFFFFFFFFFFFF ∧ 0xFFFFFFFFFFFF ≤ s.ctr (base + f.off) + n ∧
      r.width = 1 ∧ src < 1024 ∧ rbase = jrnlBase ∧ r = F.JRNL_STAT_lost :=
  ⟨by decide, { up with ctrs := [(jrnlBase + F.JRNL_SH_LOST_LO_lo.off, 0xFFFFFFFFFFFE)] }, jrnlBase, F.JRNL_SH_LOST_LO_lo, 1, jrnlBase, F.JRNL_STAT_lost, 771, by decide⟩
theorem test_hyps_CountersAndSnapshots_apart (k : Nat) : regKey jrnlBase F.JRNL_STAT_lost ≠ regKey (evcBase + 4 * k) F.EVC_REC_rec := by
  simp only [regKey, F.JRNL_STAT_lost, F.EVC_REC_rec]; omega
theorem test_hyps_EventRecords : ∃ (m : Master) (w i : Fin 32) (v : Word) (vec line : Nat) (n : Fin 8) (s : State), m ≠ .steward ∧ m ≠ .debugPlain ∧
    Reaches s m 0 0x004 (0x300 + 4 * w.val) ∧ s.recorded (32 * w.val + i.val) = true ∧ v.toNat.testBit i.val = false ∧
    s.getF (evcBase + 4 * (32 * w.val + i.val)) F.EVC_ROUTE_msix_en = 1 ∧ s.getF (evcBase + 4 * (32 * w.val + i.val)) F.EVC_ROUTE_vector = vec ∧
    (s.getF (evcBase + 4 * (32 * w.val + i.val)) F.EVC_ROUTE_cue_en).testBit n.val = true ∧ s.getF (evcBase + 4 * (32 * w.val + i.val)) F.EVC_ROUTE_cue_line = line :=
  ⟨.hostMgmt, 31, 31, 0, 0, 0, 0, withF up [(evcBase + 4 * 31, F.EVC_REC_rec, 0x80000000), (evcBase + 4 * 1023, F.EVC_ROUTE_msix_en, 1), (evcBase + 4 * 1023, F.EVC_ROUTE_vector, 0),
    (evcBase + 4 * 1023, F.EVC_ROUTE_cue_en, 1), (evcBase + 4 * 1023, F.EVC_ROUTE_cue_line, 0)], by decide⟩
/-- An entry of the journal. -/
def jentry (code : Nat) (p : Bool) : JEntry := { code := code, permanent := p, seq := 0, target := 0, time := 0, d0 := 0, d1 := 0, d2 := 0 }
theorem test_hyps_JournalEntries : State.reset.jrnl.held.length < 512 ∧
    (512 ≤ (List.replicate 512 (jentry 0x07 false)).length ∧ dropOldest (List.replicate 512 (jentry 0x07 false)) = some (List.replicate 511 (jentry 0x07 false))) ∧
    (512 ≤ (List.replicate 512 (jentry 0x04 false)).length ∧ dropOldest (List.replicate 512 (jentry 0x04 false)) = none) := by decide
theorem test_hyps_BayReads : bayExists true 199 = true ∧ clk0.portOpen (bayUnit 0 false 1) false = true ∧ clk0.portOpen (bayUnit 0 false 1) true = true ∧ clk0.unitLoading (bayUnit 0 false 1) = false ∧
    (clk0.bword (bayUnit 0 false 1) 0).state = 0 ∧ 2 ≤ (({ clk0 with bays := { clk0.bays with words := [(65536, { st := 0x3F })] } } : State).bword (bayUnit 0 false 1) 0).state := by decide
theorem test_hyps_BayWrites : ((selectOf (clk0.portWidth 1 false) 1023 8).2 ≠ 0 ∧ (clk0.bword 1 ((selectOf (clk0.portWidth 1 false) 1023 8).1 % unitDepth 1)).state = 0) ∧
    ((selectOf 40 0 15).2 = 15 ∧ (selectOf 40 0 7).2 ≠ 15 ∧ (selectOf 40 0 7).2 ≠ 0 ∧
      (({ clk0 with bays := { clk0.bays with words := [(65536, { st := 0x3F })] } } : State).bword 1 0).poisoned = true) := by decide
theorem test_hyps_BayWriteFrame : ∃ (s t : State) (u w : Nat), exec (.bayWrite 0 false 0 false 15 0 1) s = .next t ∧ w < 65536 ∧
    ¬ (u = bayUnit 0 false 0 ∧ w = (selectOf (s.portWidth u false) 0 15).1 % unitDepth u) := ⟨run0, _, 0, 1, rfl, by decide⟩
theorem test_hyps_ArithmeticUnitFrame : (∃ (s t : State) (q q' : Fin 4) (n n' : Fin 2048), exec (.sauClockEdge q n 1 1 1 true false true) s = .next t ∧ ¬ (q' = q ∧ n' = n)) ∧
    (∃ (s : State) (q : Fin 4) (n : Fin 2048), s.sauClocked q.val n.val = true ∧ (s.sauIn q.val n.val).testBit 130 = true) ∧
    (∃ (s : State) (q : Fin 4) (n : Fin 2048), (s.sauIn q.val n.val).testBit 130 = false) :=
  ⟨⟨run0, _, 0, 3, 0, 2047, rfl, by decide⟩, ⟨clk0, 0, 0, by decide⟩, ⟨clk0, 3, 2047, by decide⟩⟩
theorem test_hyps_MailboxWithdraw : ∀ s ∈ [mbUp, mbFullUp], Reaches s (.cue 0) 0 0x008 (0x100 + 0x20 * 0 + 0x08) ∧ s.mbBound 0 = true ∧ isAgent (.cue 0) (s.mbSender 0) = true := by decide
theorem test_hyps_MailboxWithdraw_full : mbFullUp.mbFull 0 = true ∧ mbUp.mbFull 0 = false := by decide
theorem test_hyps_MailboxFrame : ∃ (s t : State) (b : Nat) (f : Fld), exec (.mbMsgWrite (.cue 0) 0 5) s = .next t ∧
    (b + f.off < mbBase 0 + 0x100 ∨ mbBase 0 + 0x120 ≤ b + f.off) ∧ b + f.off ≠ evcBase + 0x200 + 4 * ((640 + 0) / 32) ∧
    regKey b f ≠ regKey dbgBase F.DBG_STAT_triggered ∧ b + f.off ≠ pcieBase + F.PCIE_ERR_unsupported.off ∧
    b + f.off ≠ mbxBase + F.HDR_write_dropped.off ∧ f.lo < 32 ∧ regKey b f ≠ regKey dbgBase F.DBG_STAT_cnt_overflow :=
  ⟨mbUp, _, mbBase 1, F.MB_STAT_full, rfl, by decide⟩
theorem test_hyps_DeviceMemoryWrites : (up.busUp = true ∧ (Master.cue 0).toLocal sramBase = sramBase ∧ inRegs sramBase = false ∧ inSram sramBase = true ∧
      sramBase + 4 ≤ sramBase + sramSize ∧ inSram (sramBase + sramSize - 1) = true ∧ inRegs (sramBase + sramSize - 1) = false ∧
      sramBase + sramSize < (sramBase + sramSize - 1) + 4) ∧
    ((Master.cue 0).toLocal (cueImem 7) = cueImem 7 ∧ inRegs (cueImem 7) = false ∧ inSram (cueImem 7) = false ∧ inCueMem (cueImem 7) = true) ∧
    (∃ (s : State), (s.cueX 0).resv = some (sramBase, 0)) ∧ (up.cueX 7).resv = none :=
  ⟨by decide, by decide, ⟨{ up with cue := [(0, { resv := some (sramBase, 0) })] }, by decide⟩, by decide⟩
theorem test_hyps_FrameMemoryRights : (∃ (s t : State), exec (.frameMemoryRead 0 0 4 []) s = .next t ∧ s.fmBlocked 0 4 = false ∧
      s.mayAccess 0 (stackOf (s.phys 0)) (lineOf (s.phys 0)) true false = false) ∧
    (∃ (s t : State), exec (.frameMemoryWrite 0 0 [1] false false []) s = .next t ∧ s.mayAccess 0 (stackOf (s.phys 0)) (lineOf (s.phys 0)) false true = false) :=
  ⟨⟨noRights, _, rfl, by decide, by decide⟩, ⟨noRights, _, rfl, by decide⟩⟩
theorem test_hyps_FrameMemoryWriteStores : (up.fmWrite 0 0 [1, 2] [] []).1 = some .ok ∧ (up.fmWrite 0 0 [1, 2] (allBad true 2) []).1 = some .ok ∧ (0x1FFFFFFFE : Nat) + 2 ≤ fmSize := by decide
theorem test_hyps_FrameMemoryWriteStores_outside : ∃ (s t : State) (x : Nat), exec (.frameMemoryWrite 0 0 [1, 2] false false []) s = .next t ∧ (∀ k < 2, s.phys (0 + k) ≠ x) :=
  ⟨up, _, 2, rfl, by decide⟩
theorem test_hyps_EyeRecordFrame : ∃ (o : Op) (s t : State) (x : Nat), s.pendingOn 0x0402 (laneWord 0) = some o ∧ exec (.laneEyeCompletion 0 []) s = .next t ∧
    (∀ k < (eyeRecord 0 o []).length, (if o.f 4 7 0 * 4294967296 + o.w 3 < fmSize then s.phys (o.f 4 7 0 * 4294967296 + o.w 3 + k)
      else o.f 4 7 0 * 4294967296 + o.w 3 + k) ≠ x) :=
  ⟨{ opr 0x0402 5 0x100 0 [0, 0, 0x70, 0, 0] with word1 := laneWord 0 }, run up { opr 0x0402 5 0x100 0 [0, 0, 0x70, 0, 0] with word1 := laneWord 0 }, _, 0, by decide, rfl, by decide⟩
theorem test_hyps_TimeWordsAgree : 2 ^ 48 * second - 1 < 2 ^ 48 * second ∧ (1000000000 : Nat) ≤ 1000000000 := by decide
theorem test_hyps_RingFlitsCarryPackets : ∀ p ∈ [pkt 0, { pkt 0x400000 with hdr := [0x400000, 0x300, 0, 0, 0, 0, 0, 0], data := [1, 2, 3, 4], poison := [0] }],
    p.hdr.length = 8 ∧ (∀ x ∈ p.hdr, x < 4294967296) ∧ (if opCarries p.op then p.bytes = p.data.length else p.data = []) ∧
    p.poison = (List.range p.flits).filter (fun i => p.poison.contains i) ∧ 0 < (p.toFlits 7 63).length := by decide
theorem test_hyps_SwapWithoutEdge : ∃ (o : Op) (s : State), s.swapOp 0 = some o ∧ o.f 5 31 31 = 0 ∧ s.jrnl.held.length < 512 :=
  ⟨{ opr 0x0203 1 0x010 0 [] with word1 := facetWord 0 }, run up { opr 0x0203 1 0x010 0 [] with word1 := facetWord 0 }, by decide⟩
theorem test_hyps_PowerLoss : ∃ (s t : State) (base : Nat) (f : Fld), exec .vccAonLoss s = .next t ∧ f.lo < 32 ∧ (base + f.off < dbgBase ∨ dbgBase + 0x10000 ≤ base + f.off) ∧
    regKey base f ≠ regKey ucieBase F.UCIE_LINK_state := ⟨up, _, timeBase, F.TIME_STAT_state, rfl, by decide⟩

end Sys2Proof.Tests
end

/-! ## Writes to device memory (O52)

The laws of a store: what it leaves in memory and of each core's reservation, and where a bus write outside register space becomes one. -/
section
namespace Sys2Proof

/-- A read after a run of writes: the listed value inside the run, the store outside. -/
theorem SMap.get_putAll {α : Type} [DecidableEq α] (d : α) (m : SMap α) (k : Nat) (vs : List α) (x : Nat) :
    SMap.get d (SMap.putAll d m k vs) x = if k ≤ x ∧ x < k + vs.length then vs.getD (x - k) d else SMap.get d m x := by
  induction vs generalizing m k with
  | nil => rw [if_neg (by simp)]; rfl
  | cons v vs ih =>
    rw [SMap.putAll, ih, SMap.get_put, List.length_cons]
    by_cases hx : x = k
    · subst hx
      rw [if_neg (by omega), if_pos rfl, if_pos (by omega), Nat.sub_self, List.getD_cons_zero]
    · by_cases hi : k + 1 ≤ x ∧ x < k + 1 + vs.length
      · have hs : x - k = x - (k + 1) + 1 := by omega
        rw [if_pos hi, if_pos (by omega), hs, List.getD_cons_succ]
      · rw [if_neg hi, if_neg hx, if_neg (by omega)]

namespace Machine

/-! ### Reservations -/

/-- A core's state after a core's state is replaced. -/
theorem State.cueX_setCueX (s : State) (n k : Nat) (x : CueX) : (s.setCueX n x).cueX k = if k = n then x else s.cueX k :=
  SMap.get_put _ _ _ _ _

/-- A store to `[a, a + n)` misses the 64-byte block of a reservation (R550). -/
def missesResv (a n : Nat) (p : Nat × Nat) : Bool := decide (¬ (p.1 < a + n ∧ a < p.1 + 64))

/-- Core k loses the reservation that a store to `[a, a + n)` meets: one core's part of `State.clearResv` (R550). -/
def State.clearResvOf (a n : Nat) (s : State) (k : Nat) : State :=
  match (s.cueX k).resv with
  | some (r, _) => if r < a + n ∧ a < r + 64 then s.setCueX k { s.cueX k with resv := none } else s
  | none => s

theorem State.clearResv_eq_foldl (s : State) (a n : Nat) : s.clearResv a n = (List.range 8).foldl (State.clearResvOf a n) s := rfl

theorem State.resv_clearResvOf (s : State) (a n k j : Nat) : ((s.clearResvOf a n k).cueX j).resv =
    if j = k then (s.cueX j).resv.filter (missesResv a n) else (s.cueX j).resv := by
  unfold State.clearResvOf
  split
  case h_1 r w hr =>
    by_cases hj : j = k
    · subst hj
      split <;> simp_all [State.cueX_setCueX, missesResv, Option.filter]
    · split <;> simp [State.cueX_setCueX, hj]
  case h_2 hr =>
    split
    · subst j; simp [hr]
    · rfl

/-- After the part of every listed core. -/
theorem State.resv_foldl_clearResvOf (a n j : Nat) (l : List Nat) (s : State) : ((l.foldl (State.clearResvOf a n) s).cueX j).resv =
    if j ∈ l then (s.cueX j).resv.filter (missesResv a n) else (s.cueX j).resv := by
  induction l generalizing s with
  | nil => simp
  | cons k l ih =>
    rw [List.foldl_cons, ih, State.resv_clearResvOf]
    by_cases hk : j = k <;> by_cases hl : j ∈ l <;> simp [hk, hl]

/-- A store clears the reservations that it meets and no other (R550). -/
theorem State.resv_clearResv (s : State) (a n j : Nat) (hj : j < 8) :
    ((s.clearResv a n).cueX j).resv = (s.cueX j).resv.filter (missesResv a n) := by
  rw [State.clearResv_eq_foldl, State.resv_foldl_clearResvOf, if_pos (List.mem_range.mpr hj)]

@[simp] theorem State.clearResv_mem (s : State) (a n : Nat) : (s.clearResv a n).mem = s.mem :=
  (State.clearResv_kept (kK := 0) (k0 := s) (kM := (· = s.mem)) rfl ⟨by simp, rfl⟩).2

/-! ### Stores -/

/-- A store writes its bytes, whoever makes it. -/
theorem State.storeBy_mem (s : State) (m : Master) (a : Nat) (bs : List Byte) : (s.storeBy m a bs).mem = SMap.putAll 0 s.mem a bs := by
  unfold State.storeBy
  split <;> simp [State.store]

theorem State.resv_store (s : State) (a : Nat) (bs : List Byte) (n : Fin 8) :
    ((s.store a bs).cueX n.val).resv = (s.cueX n.val).resv.filter (missesResv a bs.length) :=
  State.resv_clearResv _ _ _ _ n.isLt

/-- A core's reservation outlives the core's own store (R550), and of another master's store one that misses it. -/
theorem State.resv_storeBy (s : State) (m : Master) (a : Nat) (bs : List Byte) (n : Fin 8) : ((s.storeBy m a bs).cueX n.val).resv =
    if m = .cue n then (s.cueX n.val).resv else (s.cueX n.val).resv.filter (missesResv a bs.length) := by
  cases m with
  | cue k =>
    rw [State.storeBy, State.cueX_setCueX]
    by_cases hk : n = k
    · subst hk; simp
    · have hv : n.val ≠ k.val := fun e => hk (Fin.ext e)
      rw [if_neg hv, if_neg (by simpa using Ne.symm hk), State.resv_store]
  | _ => exact State.resv_store s a bs n

/-! ### Bus writes outside register space (R38, R551) -/

/-- A write that lies in the shared SRAM is a store. -/
theorem busWrite_sram {s : State} {m : Master} {a : Nat} {bytes : List Byte} (hb : s.busUp = true) (hr : inRegs a = false)
    (hs : inSram a = true) (hl : a + bytes.length ≤ sramBase + sramSize) : s.busWrite m a bytes = s.storeBy m a bytes := by
  unfold State.busWrite
  rw [hb, hr, hs, if_pos hl]
  simp only [Bool.not_true, Bool.false_eq_true, if_false, if_true]

/-- A write that starts in the shared SRAM and runs past its end meets no mapped address. -/
theorem busWrite_past_sram {s : State} {m : Master} {a : Nat} {bytes : List Byte} (hb : s.busUp = true) (hr : inRegs a = false)
    (hs : inSram a = true) (hl : sramBase + sramSize < a + bytes.length) : s.busWrite m a bytes = s.busError m true a .unmapped := by
  unfold State.busWrite
  rw [hb, hr, hs, if_neg (Nat.not_le.mpr hl)]
  simp only [Bool.not_true, Bool.false_eq_true, if_false, if_true]

/-- A write to a cue core's memory is a store while the core is on. -/
theorem busWrite_cueMem {s : State} {m : Master} {a : Nat} {bytes : List Byte} (hb : s.busUp = true) (hr : inRegs a = false)
    (hs : inSram a = false) (hc : inCueMem a = true) :
    s.busWrite m a bytes = if s.cueMemOpen a then s.storeBy m a bytes else s.busError m true a .domainOff := by
  unfold State.busWrite
  rw [hb, hr, hs, hc]
  simp only [Bool.not_true, Bool.false_eq_true, if_false, if_true]

/-- REGISTER_WRITE is a bus write at the device-local address that its master's address reaches (R47). -/
theorem exec_registerWrite (m : Master) (x : BitVec 40) (bytes : List Byte) (s : State) :
    exec (.registerWrite m x bytes) s = .next (s.busWrite m (m.toLocal x.toNat) bytes) := rfl

/-- Settles O52: a bus write by where its address lies, and a store by its bytes and by the reservations that it meets. -/
theorem deviceMemoryWrites : Obligations.DeviceMemoryWrites := by
  refine ⟨fun m x bytes s hb hr hs => ⟨fun hl => ?_, fun hl => ?_⟩, fun m x bytes s hb hr hs hc => ?_, fun s m a bs x => ?_,
    fun s m n a r w bs h => ?_, fun s m n a bs h => ?_⟩
  · rw [exec_registerWrite, busWrite_sram hb hr hs hl]
  · rw [exec_registerWrite, busWrite_past_sram hb hr hs hl]
  · rw [exec_registerWrite, busWrite_cueMem hb hr hs hc]
  · rw [State.storeBy_mem, SMap.get_putAll]
  · rw [State.resv_storeBy, h]
    by_cases hm : m = .cue n <;> by_cases hi : r < a + bs.length ∧ a < r + 64 <;> simp [hm, hi, missesResv, Option.filter]
  · simp [State.resv_storeBy, h]

end Machine
end Sys2Proof
end

/-! ## The steward's own commands (O5) -/
section
namespace Sys2Proof.Machine

/-- Every check of a packet passes, check by check in the order of R108. -/
theorem Chk.ok_iff (k : Chk) : k.ok = true ↔ k.len = true ∧ k.tgt = true ∧ k.auth = true ∧ k.par = true ∧ k.dom = true ∧ k.fen = true ∧
    k.ret = true ∧ k.free = true ∧ k.late = true := by
  simp only [Chk.ok, Bool.and_eq_true, and_assoc]

/-- Settles O5: a packet that the steward takes passes its gate, and each later event finds its operation. -/
theorem stewardCommands : Obligations.StewardCommands := by
  refine ⟨?ping, ?getInfo, ?getCaps, ?fwStage, ?fwActivate, ?schedCancel, ?snap, ?fwStageCompletion, ?fwHandoverStart, ?fwActivateWaitTimeout,
    ?fwHandoverEnd, ?fwHandoverFail, ?snapAct, ?snapCompletion, ?scheduledActionMissed, ?operationTimeout⟩
  case ping =>
    intro c s ht hl ha
    exact congrArg Host.Outcome.next (immediate_ok _ ht (by simp [Chk.ok, hl, ha]))
  case getInfo =>
    intro c s ht hl ha
    exact congrArg Host.Outcome.next (immediate_ok _ ht (by simp [Chk.ok, hl, ha]))
  case getCaps =>
    intro c s ht hl ha
    exact congrArg Host.Outcome.next (immediate_ok _ ht (by simp [Chk.ok, hl, ha]))
  case fwStage =>
    intro c s ht hl ha hp hf
    exact congrArg Host.Outcome.next (long_ok none id ht (by simp [Chk.ok, hl, ha, hp, hf]))
  case fwActivate =>
    intro c s ht hl ha hp hv hf
    exact congrArg Host.Outcome.next (long_ok none id ht (by simp [Chk.ok, hl, ha, hp, hv, hf]))
  case schedCancel =>
    intro c s x ht hl ha hp hx hw u
    exact congrArg Host.Outcome.next (immediateThen_ok _ _ ht (by simp [Chk.ok, hl, ha, hp, hx, hw, x]))
  case snap =>
    intro c s l n ht hl ha hb hi h1 h32 hp hd hg hf hw u
    have hlen : (c.len == 6 + n) = true := beq_iff_eq.mpr hl
    have htgt : ((c.aimsDevice || s.targetOk c.word1.toNat) && (c.params.drop 4).all (fun w => s.snapTarget w.toNat)) = true := by
      rw [ha, hb]; rfl
    have hpar : ((c.instant 2).isSome && decide (1 ≤ n) && decide (n ≤ 32) && c.f 5 30 6 == 0 && decide l.Nodup) = true := by
      simp only [hi, h1, h32, hp, hd]; rfl
    exact congrArg Host.Outcome.next (long_ok _ id ht ((Chk.ok_iff _).mpr ⟨hlen, htgt, rfl, hpar, hg, rfl, rfl, hf, hw⟩))
  case fwStageCompletion =>
    intro es o s ho
    show execFwStageCompletion es s = _
    rewrite [execFwStageCompletion, ho]
    rfl
  case fwHandoverStart =>
    intro o s ho hp hh s1
    show execFwHandoverStart s = _
    rewrite [execFwHandoverStart, ho]
    exact congrArg Host.Outcome.next (if_neg (by simp [hp, hh]))
  case fwActivateWaitTimeout =>
    intro o s ho hp
    show execFwActivateWaitTimeout s = _
    rewrite [execFwActivateWaitTimeout, ho]
    exact congrArg Host.Outcome.next (if_pos hp)
  case fwHandoverEnd =>
    intro us o s ho i s1 s2 s3
    show execFwHandoverEnd us s = _
    rewrite [execFwHandoverEnd, ho]
    rfl
  case fwHandoverFail =>
    intro o s ho s1 s2 v
    show execFwHandoverFail s = _
    rewrite [execFwHandoverFail, ho]
    rfl
  case snapAct =>
    intro w edge o s x ho hoff hstop s1
    show execSnapAct w edge s = _
    unfold execSnapAct
    extract_lets
    rewrite [ho]
    exact congrArg Host.Outcome.next (if_neg (by simp [x, hoff, hstop]))
  case snapCompletion =>
    intro o s ho
    show execSnapCompletion s = _
    rewrite [execSnapCompletion, ho]
    rfl
  case scheduledActionMissed =>
    intro src tag o t w s ho he ht hw
    show execScheduledActionMissed src tag s = _
    rewrite [execScheduledActionMissed, ho]
    refine congrArg Host.Outcome.next ((if_neg (by simp [he])).trans ?_)
    rewrite [ht, hw]
    rfl
  case operationTimeout =>
    intro src tag gaps o b s ho hb t
    show execOperationTimeout src tag gaps s = _
    rewrite [execOperationTimeout, ho]
    dsimp only
    rewrite [hb]
    rfl

end Sys2Proof.Machine
end

/-! ## The partner link and the short edges (O27) -/
section
namespace Sys2Proof.Machine

/-- The management function sets a window of PSYS while the partner is fenced (R511). -/
theorem psysWrite_fenced {s : State} {m : Master} (hm : m = .hostMgmt) (hf : s.flag psysBase F.PSYS_STAT_fenced = true) (k : Nat)
    (limit : Bool) (v : Nat) : s.psysWrite m k limit v =
      if limit then s.setF (psysBase + 8 * k) F.PSYS_WIN_LIMIT_limit v
      else (((s.setF (psysBase + 8 * k) F.PSYS_WIN_BASE_valid (bitsOf v 31 31)).setF (psysBase + 8 * k) F.PSYS_WIN_BASE_read (bitsOf v 30 30)).setF
        (psysBase + 8 * k) F.PSYS_WIN_BASE_write (bitsOf v 29 29)).setF (psysBase + 8 * k) F.PSYS_WIN_BASE_base v :=
  if_pos ⟨hm, hf⟩

/-- Settles O27: each event meets its guard, and a window write that reaches PSYS sets the window. -/
theorem partnerAndShortEdges : Obligations.PartnerAndShortEdges := by
  refine ⟨?bundleWord, ?dramWord, ?lampWord, ?linkTrained, ?identityRecord, ?flitReceive, ?partnerRequest, ?partnerEvent, ?winBase, ?winLimit⟩
  case bundleWord =>
    intro x bad l b s hx unit hs
    subst hx
    exact congrArg Host.Outcome.next (if_neg (Classical.not_not.mpr hs))
  case dramWord =>
    intro x bad k ch s hx unit hs
    subst hx
    exact congrArg Host.Outcome.next (if_neg (Classical.not_not.mpr hs))
  case lampWord =>
    intro x bad j s hx unit
    subst hx
    rfl
  case linkTrained =>
    intro rate modules tx0 tx1 s hsite hstate hrate hmod hlower
    exact congrArg Host.Outcome.next (if_neg (by simp only [not_or]; exact ⟨hsite, Classical.not_not.mpr hstate, hrate, hmod, hlower⟩))
  case identityRecord =>
    intro vendor dieCode revision power s hsite hstate s1
    exact congrArg Host.Outcome.next (if_neg (not_or.mpr ⟨hsite, Classical.not_not.mpr hstate⟩))
  case flitReceive =>
    intro l m s u hsite hstate n
    exact congrArg Host.Outcome.next (if_neg (not_or.mpr ⟨hsite, Classical.not_not.mpr hstate⟩))
  case partnerRequest =>
    intro e p t s hr s1
    show execUciePartnerRequest s = _
    rw [execUciePartnerRequest, hr]
  case partnerEvent =>
    intro s hsite
    exact congrArg Host.Outcome.next (if_neg hsite)
  case winBase =>
    intro m k v s b h hm hf
    exact congrArg Host.Outcome.next ((ownWrite_ok h).trans (psysWrite_fenced hm hf k.val false v.toNat))
  case winLimit =>
    intro m k v s h hm hf
    exact congrArg Host.Outcome.next ((ownWrite_ok h).trans (psysWrite_fenced hm hf k.val true v.toNat))

end Sys2Proof.Machine
end

/-! ## What every command and every step keeps (O30, O33–O36)

Each statement is `exec_kept` or `State.tick_kept` for one set of components and one property of device memory. -/
section
namespace Sys2Proof.Machine

/-- The components that no command writes. -/
def fixedComps : List Comp := [.ident, .flash, .hostBad, .pending]

/-- No entry of the table of written components names a fixed one. -/
theorem fixedComps_not_written (i : Instr) : (fixedComps.all fun c => !(writes i).contains c) = true := by
  cases i <;> rfl

theorem not_mem_writes {c : Comp} (h : c ∈ fixedComps) (i : Instr) : c ∉ writes i := by
  simpa using List.all_eq_true.mp (fixedComps_not_written i) c h

/-- The trivial property of device memory. -/
theorem closed_true : Closed (fun _ => True) :=
  ⟨fun _ _ _ _ => trivial, fun _ _ _ => trivial, trivial⟩

/-- A state keeps every component of itself. -/
theorem Kept.self (K : Nat) {s : State} {M : List Host.Cell → Prop} (h : M s.mem) : Kept K s M s :=
  ⟨fun c _ => c.same_refl s, h⟩

/-- Every meaning answers a next state: no command faults and none is refused (R51, R108). -/
theorem exec_next (i : Instr) (s : State) : ∃ t, exec i s = .next t := by
  cases i <;> exact ⟨_, rfl⟩

theorem step_nil {s : State} (h : s.pending = []) : step s = .next s.tick := by
  rw [step, h]

theorem step_cons {s : State} {i : Instr} {rest : List Instr} (h : s.pending = i :: rest) :
    step s = exec i { s with pending := rest } := by
  rw [step, h]

/-- A tick leaves the components alone that no command writes. -/
theorem tick_same (s : State) {c : Comp} (hc : c ∈ fixedComps) : c.same s s.tick := by
  have hk := (State.tick_kept (kK := maskOf fixedComps) rfl closed_true (Kept.self _ (s := s) trivial)).1
  simp only [fixedComps, List.mem_cons, List.not_mem_nil, or_false] at hc
  obtain rfl | rfl | rfl | rfl := hc <;> exact hk _ rfl

/-- What a step is: a tick on an empty queue, else the front command on the rest of the queue. -/
theorem step_cases {s t : State} (h : step s = .next t) :
    (s.pending = [] ∧ t = s.tick) ∨ ∃ i rest, s.pending = i :: rest ∧ exec i { s with pending := rest } = .next t := by
  cases hp : s.pending with
  | nil =>
    rw [step_nil hp] at h
    injection h with h
    exact .inl ⟨rfl, h.symm⟩
  | cons i rest =>
    rw [step_cons hp] at h
    exact .inr ⟨i, rest, rfl, h⟩

/-- A command that answers `t` keeps what `exec_kept` says. -/
theorem exec_kept_next {K : Nat} {s t : State} {M : List Host.Cell → Prop} {i : Instr} (hm : K &&& maskOf (writes i) = 0) (hM : Closed M)
    (h : exec i s = .next t) (hs : M s.mem) : Kept K s M t := by
  have hk := exec_kept hm hM (Kept.self K hs)
  rwa [h] at hk

/-- Settles O33: the canonical form is a property that the writes of memory keep. -/
theorem memoryStaysCanonical : Obligations.MemoryStaysCanonical := by
  intro s t hs h
  obtain ⟨_, rfl⟩ | ⟨i, rest, _, he⟩ := step_cases h
  · have hk : Kept 0 s (fun m => Memory.wf m = true) s := Kept.self 0 hs
    exact (State.tick_kept (Nat.zero_and _) closed_wf hk).2
  · exact (exec_kept_next (K := 0) (Nat.zero_and _) closed_wf he hs).2

/-- A command leaves a component alone that its entry does not name: the component's bit meets none of the entry's. -/
theorem exec_same {i : Instr} {s t : State} {c : Comp} (h : exec i s = .next t) (hc : c ∉ writes i) : c.same s t :=
  (exec_kept_next (maskOf_off hc) closed_true h trivial).1 c Nat.testBit_two_pow_self

/-- Settles O34, for the entries from `exec_kept`, for the fixed components from the table. -/
theorem commandFrame : Obligations.CommandFrame :=
  ⟨fun _ _ _ _ => exec_same, fun i => ⟨not_mem_writes (by decide) i, not_mem_writes (by decide) i, not_mem_writes (by decide) i,
    not_mem_writes (by decide) i⟩⟩

/-- A step keeps the fixed components but the queue, which loses its front. -/
theorem step_same {s t : State} {c : Comp} (h : step s = .next t) (hc : c ∈ fixedComps) : c.same { s with pending := s.pending.tail } t := by
  obtain ⟨hp, rfl⟩ | ⟨i, rest, hp, he⟩ := step_cases h
  · have hs : { s with pending := s.pending.tail } = s := by rw [hp, List.tail_nil, ← hp]
    rw [hs]
    exact tick_same s hc
  · rw [hp]
    exact exec_same he (not_mem_writes hc i)

/-- Settles O35: the fixed components of a step. -/
theorem stepTakesOne : Obligations.StepTakesOne := fun _ _ h =>
  ⟨step_same (c := .pending) h (by decide), step_same (c := .ident) h (by decide), step_same (c := .flash) h (by decide),
    step_same (c := .hostBad) h (by decide)⟩

/-- Settles O36: every arm of `exec` is a next state, and so is a tick. -/
theorem everyCommandCompletes : Obligations.EveryCommandCompletes := by
  refine ⟨exec_next, fun s => ?_⟩
  cases hp : s.pending with
  | nil => exact ⟨_, step_nil hp⟩
  | cons i rest =>
    rw [step_cons hp]
    exact exec_next i _

/-- Settles O30: the queue is a component that a tick keeps. -/
theorem idleStepTicks : Obligations.IdleStepTicks := fun s h =>
  ⟨step_nil h, (tick_same (c := .pending) s (by decide)).trans h⟩

/-- Settles O32: nothing is listed after reset. -/
theorem memoryAtReset : Obligations.MemoryAtReset := rfl

/-- Settles O41: a write of a field writes one key of the register store and no other component. -/
theorem registerFields : Obligations.RegisterFields :=
  ⟨fun s b f v => s.getF_setF_same b f v, fun s b b' f f' v h => s.getF_setF_other b b' f f' v h, fun _ _ _ _ _ => ⟨rfl, rfl, rfl⟩⟩

end Sys2Proof.Machine
end

/-! ## Event records, counters and snapshots (O42, O43)

Signalling a source writes its record and then only what the debug trace writes: its two records in DBG_STAT and its count of lost packets. -/
section
namespace Sys2Proof

/-- A key that does not read the default is listed with its value. -/
theorem SMap.mem_of_get_ne {α : Type} {d v : α} {m : SMap α} {k : Nat} (h : SMap.get d m k = v) (hv : v ≠ d) : (k, v) ∈ m := by
  induction m with
  | nil => exact absurd h.symm hv
  | cons p m ih =>
    obtain ⟨k', v'⟩ := p
    by_cases hk : k = k'
    · subst hk
      rw [SMap.get, if_pos rfl] at h
      exact h ▸ List.mem_cons_self
    · rw [SMap.get, if_neg hk] at h
      exact List.mem_cons_of_mem _ (ih h)

namespace Machine

/-! ### What the trace may write -/

/-- `t` differs from `s` at most in what the debug trace writes (R660–R662): the records `triggered` and `cnt_overflow` of DBG_STAT, which it
only sets, its count of lost packets, and the state of the debug unit. -/
structure TraceOnly (s t : State) : Prop where
  /-- Every other field is as it was. -/
  getF_eq : ∀ b f, regKey b f ≠ regKey dbgBase F.DBG_STAT_triggered → regKey b f ≠ regKey dbgBase F.DBG_STAT_cnt_overflow →
    t.getF b f = s.getF b f
  /-- A flag that was set is set. -/
  flag_of : ∀ b f, s.flag b f = true → t.flag b f = true
  /-- Every other counter is as it was. -/
  ctr_eq : ∀ a, a ≠ dbgBase + F.DBG_SH_LOST_LO_lo.off → t.ctr a = s.ctr a
  /-- The held copies are as they were. -/
  snaps_eq : t.snaps = s.snaps

theorem TraceOnly.refl (s : State) : TraceOnly s s := ⟨fun _ _ _ _ => rfl, fun _ _ h => h, fun _ _ => rfl, rfl⟩

theorem TraceOnly.trans {s t u : State} (h : TraceOnly s t) (h' : TraceOnly t u) : TraceOnly s u where
  getF_eq b f h1 h2 := (h'.getF_eq b f h1 h2).trans (h.getF_eq b f h1 h2)
  flag_of b f hf := h'.flag_of b f (h.flag_of b f hf)
  ctr_eq a ha := (h'.ctr_eq a ha).trans (h.ctr_eq a ha)
  snaps_eq := h'.snaps_eq.trans h.snaps_eq

theorem TraceOnly.setDbg (s : State) (d : Dbg) : TraceOnly s { s with dbg := d } :=
  ⟨fun _ _ _ _ => rfl, fun _ _ h => h, fun _ _ => rfl, rfl⟩

theorem State.getF_congr {b b' : Nat} {f f' : Fld} (hk : regKey b f = regKey b' f') (hr : f.rst = f'.rst) (s : State) :
    s.getF b f = s.getF b' f' := by
  rw [State.getF, State.getF, hk, hr]

/-- After a one-bit record is set, every flag that was set is set, under whatever name the record is read. -/
theorem State.flag_raise_of {s : State} {b b' : Nat} {f f' : Fld} (hr : f'.rst = 0) (hw : f'.width = 1) (h : s.flag b f = true) :
    (s.raise b' f').flag b f = true := by
  by_cases hk : regKey b f = regKey b' f'
  · have h1 : (s.raise b' f').getF b f = 1 := by
      simp only [State.getF, State.raise, State.setF, hw, hr, hk, SMap.put]
      exact SMap.get_insert_same _ _ _ _
    rw [State.flag, h1]
    rfl
  · rwa [State.flag, State.raise, State.getF_setF_other _ _ _ _ _ _ hk]

theorem TraceOnly.raise_triggered (s : State) : TraceOnly s (s.raise dbgBase F.DBG_STAT_triggered) :=
  ⟨fun _ _ h _ => s.getF_setF_other _ _ _ _ _ h, fun _ _ => State.flag_raise_of rfl rfl, fun _ _ => rfl, rfl⟩

theorem TraceOnly.raise_cnt_overflow (s : State) : TraceOnly s (s.raise dbgBase F.DBG_STAT_cnt_overflow) :=
  ⟨fun _ _ _ h => s.getF_setF_other _ _ _ _ _ h, fun _ _ => State.flag_raise_of rfl rfl, fun _ _ => rfl, rfl⟩

/-- A counter after a counter is added to. -/
theorem State.ctr_bump (s : State) (a n x : Nat) : (s.bump a n).ctr x = if x = a then min ctrMax (s.ctr a + n) else s.ctr x :=
  SMap.get_put _ _ _ _ _

theorem TraceOnly.dbgCount_lost (s : State) (n : Nat) : TraceOnly s (s.dbgCount F.DBG_SH_LOST_LO_lo n) := by
  have hb : TraceOnly s (s.bump (dbgBase + F.DBG_SH_LOST_LO_lo.off) n) :=
    ⟨fun _ _ _ _ => rfl, fun _ _ h => h, fun a ha => (s.ctr_bump _ _ _).trans (if_neg ha), rfl⟩
  unfold State.dbgCount
  split
  · exact hb.trans (.raise_cnt_overflow _)
  · exact hb

theorem TraceOnly.tracePacket (s : State) (t src aux w1 : Nat) (trig : Bool) : TraceOnly s (s.tracePacket t src aux w1 trig) := by
  unfold State.tracePacket
  split
  · exact (TraceOnly.setDbg s _).trans (.dbgCount_lost _ _)
  · exact .setDbg s _

theorem TraceOnly.stopAfter (s : State) (n : Nat) : TraceOnly s (s.stopAfter n) := by
  unfold State.stopAfter
  split
  · exact .refl s
  · exact .setDbg s _

theorem TraceOnly.ite {s t u : State} {c : Prop} [Decidable c] (h : TraceOnly s t) (h' : TraceOnly s u) : TraceOnly s (if c then t else u) := by
  split
  · exact h
  · exact h'

theorem TraceOnly.traceFrom (s : State) (kind src : Nat) (emits : Bool) (t aux w1 : Nat) :
    TraceOnly s (s.traceFrom kind src emits t aux w1) := by
  have h1 : TraceOnly s (if s.triggers kind src then s.raise dbgBase F.DBG_STAT_triggered else s) := .ite (.raise_triggered s) (.refl s)
  have h2 := h1.trans (.ite (c := emits = true) (.tracePacket _ t src aux w1 (s.triggers kind src)) (.refl _))
  exact .ite (h2.trans (.stopAfter _ _)) h2

theorem TraceOnly.traceEvent (s : State) (src : Nat) : TraceOnly s (s.traceEvent src) := by
  unfold State.traceEvent
  exact .ite (.traceFrom _ _ _ _ _ _ _) (.refl s)

/-! ### Signalling a source -/

/-- Signalling is the record and then at most a trace. -/
theorem State.signal_traceOnly (s : State) (src : Nat) :
    TraceOnly (s.setF (evcBase + 4 * (src / 32)) F.EVC_REC_rec (s.getF (evcBase + 4 * (src / 32)) F.EVC_REC_rec ||| 2 ^ (src % 32))) (s.signal src) := by
  unfold State.signal
  exact .ite (.refl _) (.traceEvent _ _)

/-- The key of a field in one of the words of an array of registers. -/
theorem regKey_word (b k : Nat) (f : Fld) : regKey (b + 4 * k) f = regKey b f + 128 * k := by
  simp only [regKey]
  omega

/-- No field of the event controller is one that the trace writes. -/
theorem regKey_evc_ne_dbg {k : Nat} {f g : Fld} (hk : k < 1024) (hf : f.off ≤ 0x1000) (hl : f.lo < 32) :
    regKey (evcBase + 4 * k) f ≠ regKey dbgBase g := by
  simp only [regKey, evcBase, dbgBase, winBase]
  omega

/-- A field of the event controller, other than the source's own record, after a source is signalled. -/
theorem State.signal_getF_evc (s : State) {src k : Nat} {f : Fld} (hk : k < 1024) (hf : f.off ≤ 0x1000) (hl : f.lo < 32)
    (h : regKey (evcBase + 4 * k) f ≠ regKey (evcBase + 4 * (src / 32)) F.EVC_REC_rec) :
    (s.signal src).getF (evcBase + 4 * k) f = s.getF (evcBase + 4 * k) f := by
  rw [(s.signal_traceOnly src).getF_eq _ _ (regKey_evc_ne_dbg hk hf hl) (regKey_evc_ne_dbg hk hf hl), State.getF_setF_other _ _ _ _ _ _ h]

/-- The word of records that holds the signalled source. -/
theorem State.signal_getF_rec (s : State) {src : Nat} (hs : src < 1024) :
    (s.signal src).getF (evcBase + 4 * (src / 32)) F.EVC_REC_rec =
      (s.getF (evcBase + 4 * (src / 32)) F.EVC_REC_rec ||| 2 ^ (src % 32)) % 2 ^ 32 := by
  have hk : src / 32 < 1024 := by omega
  rw [(s.signal_traceOnly src).getF_eq _ _ (regKey_evc_ne_dbg hk (by decide) (by decide)) (regKey_evc_ne_dbg hk (by decide) (by decide)),
    State.getF_setF_same]
  rfl

/-- The records after a source is signalled (R73). -/
theorem State.signal_recorded (s : State) {a b : Nat} (ha : a < 1024) (hb : b < 1024) :
    (s.signal a).recorded b = (a == b || s.recorded b) := by
  by_cases hw : b / 32 = a / 32
  · have hab : (a == b) = decide (a % 32 = b % 32) := by
      rw [Bool.eq_iff_iff, beq_iff_eq, decide_eq_true_iff]
      omega
    simp only [State.recorded, hw, s.signal_getF_rec ha, Nat.testBit_mod_two_pow, Nat.testBit_or, Nat.testBit_two_pow, hab,
      Nat.mod_lt b (show 32 > 0 by decide), decide_true, Bool.true_and]
    exact Bool.or_comm _ _
  · have hab : (a == b) = false := by
      rw [beq_eq_false_iff_ne]
      rintro rfl
      exact hw rfl
    have hk : regKey (evcBase + 4 * (b / 32)) F.EVC_REC_rec ≠ regKey (evcBase + 4 * (a / 32)) F.EVC_REC_rec := by
      rw [regKey_word, regKey_word]
      omega
    rw [hab, Bool.false_or, State.recorded, s.signal_getF_evc (by omega) (by decide) (by decide) hk, State.recorded]

/-- The fields of EVC after a source is signalled, but for the records (R73). -/
theorem State.signal_getF_set (s : State) {src k : Nat} {f : Fld} (hk : k < 1024) (h2 : 0x300 ≤ f.off) (hf : f.off ≤ 0x1000) (hs : src < 1024)
    (hl : f.lo < 32) : (s.signal src).getF (evcBase + 4 * k) f = s.getF (evcBase + 4 * k) f := by
  refine s.signal_getF_evc hk hf hl ?_
  have hr : F.EVC_REC_rec.off = 0x200 ∧ F.EVC_REC_rec.lo = 0 := ⟨rfl, rfl⟩
  rw [regKey_word, regKey_word, regKey, regKey, hr.1, hr.2]
  omega

/-! ### Unmasking a recorded source (R72, R74, R75, R77) -/

/-- A recorded source that is not masked makes the vector of its route pending (R74). -/
theorem State.vecPending_of_route {s : State} {src vec : Nat} (hs : src < 1024) (he : s.getF (evcBase + 4 * src) F.EVC_ROUTE_msix_en = 1)
    (hv : s.getF (evcBase + 4 * src) F.EVC_ROUTE_vector = vec) (hr : s.recorded src = true) (hm : s.masked src = false) :
    s.vecPending vec = true := by
  have hmem : (regKey (evcBase + 4 * src) F.EVC_ROUTE_msix_en, 1) ∈ s.regs := SMap.mem_of_get_ne he Nat.one_ne_zero
  have hkey : regKey (evcBase + 4 * src) F.EVC_ROUTE_msix_en = 32 * (evcBase + 0x1000 + 4 * src) + 31 := by
    show 32 * (evcBase + 4 * src + 0x1000) + 31 = _
    omega
  rw [hkey] at hmem
  refine List.any_eq_true.mpr ⟨_, List.mem_filter.mpr ⟨hmem, ?_⟩, ?_⟩
  · simp only [Bool.and_eq_true, decide_eq_true_eq]
    omega
  · have h31 : (32 * (evcBase + 0x1000 + 4 * src) + 31) % 32 = 31 := by omega
    have hsrc : ((32 * (evcBase + 0x1000 + 4 * src) + 31) / 32 - (evcBase + 0x1000)) / 4 = src := by omega
    simp [h31, hsrc, hv, hr, hm]

/-- A recorded source that is not masked sets its line of each core of its route (R75). -/
theorem State.cueInput_of_route {s : State} {src n line : Nat} (hs : src < 1024)
    (he : (s.getF (evcBase + 4 * src) F.EVC_ROUTE_cue_en).testBit n = true) (hl : s.getF (evcBase + 4 * src) F.EVC_ROUTE_cue_line = line)
    (hr : s.recorded src = true) (hm : s.masked src = false) : s.cueInput n line = true :=
  List.any_eq_true.mpr ⟨src, List.mem_range.mpr hs, by simp [he, hl, hr, hm]⟩

/-- A write of EVC's registers that reaches them, from a master that may change them, has its effect (R81). -/
theorem evcWrite_ok {s : State} {m : Master} {off : Nat} (act : State → State) (h1 : m ≠ .steward) (h2 : m ≠ .debugPlain)
    (hr : Reaches s m 0 0x004 off) : s.evcWrite m off act = act s := by
  rw [State.evcWrite, if_neg (by simp [h1, h2]), ownWrite_ok hr]

/-- The mask of a source whose mask word is written. -/
theorem State.masked_evcMask (s : State) (w i v : Nat) (hi : i < 32) : (s.evcMask w v).masked (32 * w + i) = v.testBit i := by
  have hw : (32 * w + i) / 32 = w := by omega
  have hm : (32 * w + i) % 32 = i := by omega
  rw [State.masked, State.evcMask, hw, hm, State.getF_setF_same, Nat.testBit_mod_two_pow, decide_eq_true (show i < F.EVC_MASK_mask.width from hi),
    Bool.true_and]

/-- A mask word's write leaves the fields of EVC that are no masks. -/
theorem State.getF_evcMask (s : State) {w v k : Nat} {f : Fld} (hw : w < 32) (h : f.off = 0x200 ∧ k < 32 ∨ f.off = 0x1000) (hl : f.lo < 32) :
    (s.evcMask w v).getF (evcBase + 4 * k) f = s.getF (evcBase + 4 * k) f := by
  refine State.getF_setF_other _ _ _ _ _ _ ?_
  have hm : F.EVC_MASK_mask.off = 0x300 ∧ F.EVC_MASK_mask.lo = 0 := ⟨rfl, rfl⟩
  rw [regKey_word, regKey_word, regKey, regKey, hm.1, hm.2]
  omega

theorem State.recorded_evcMask (s : State) {w v src : Nat} (hw : w < 32) (hs : src < 1024) : (s.evcMask w v).recorded src = s.recorded src := by
  rw [State.recorded, s.getF_evcMask hw (.inl ⟨rfl, by omega⟩) (by decide), State.recorded]

/-- Settles O43: the records by the source's own bit, and a route's delivery by its recorded source that a mask word frees. -/
theorem eventRecords : Obligations.EventRecords := by
  refine ⟨fun s a b => ?records, fun s a b => ⟨?masks, ?vector, ?enable⟩, ?unmask⟩
  case records =>
    rw [s.signal_recorded a.isLt b.isLt, Bool.eq_iff_iff]
    simp [Fin.ext_iff]
  case masks =>
    rw [State.masked, s.signal_getF_set (by omega) (by decide) (by decide) a.isLt (by decide), State.masked]
  case vector => exact s.signal_getF_set b.isLt (by decide) (by decide) a.isLt (by decide)
  case enable => exact s.signal_getF_set b.isLt (by decide) (by decide) a.isLt (by decide)
  case unmask =>
    intro m w i v vec line n s h1 h2 hreach hrec hbit b
    let t := s.evcMask w.val v.toNat
    have hsrc : 32 * w.val + i.val < 1024 := by omega
    have hr : t.recorded (32 * w.val + i.val) = true := (s.recorded_evcMask w.isLt hsrc).trans hrec
    have hm : t.masked (32 * w.val + i.val) = false := (s.masked_evcMask _ _ _ i.isLt).trans hbit
    have hroute : ∀ f : Fld, f.off = 0x1000 → f.lo < 32 → t.getF b f = s.getF b f := fun f ho hl => s.getF_evcMask w.isLt (.inr ho) hl
    refine ⟨t.settleVectors, congrArg Host.Outcome.next (evcWrite_ok _ h1 h2 hreach), fun he hv => ?_, fun hc hl => ?_⟩
    · exact State.vecPending_of_route (s := t) hsrc ((hroute _ rfl (by decide)).trans he) ((hroute _ rfl (by decide)).trans hv) hr hm
    · have hcue : (t.getF b F.EVC_ROUTE_cue_en).testBit n.val = true := by rw [hroute _ rfl (by decide), hc]
      exact State.cueInput_of_route (s := t) hsrc hcue ((hroute _ rfl (by decide)).trans hl) hr hm

/-! ### Counters (R64, R66, R67) -/

/-- A record that is no source's record, and was set, is set after a source is signalled. -/
theorem State.signal_flag_of {s : State} {b src : Nat} {f : Fld} (hf : s.flag b f = true)
    (h : regKey b f ≠ regKey (evcBase + 4 * (src / 32)) F.EVC_REC_rec) : (s.signal src).flag b f = true := by
  refine (s.signal_traceOnly src).flag_of b f ?_
  rwa [State.flag, State.getF_setF_other _ _ _ _ _ _ h]

/-- Setting a record and signalling its source changes no counter but the trace's own. -/
theorem State.mark_ctr (s : State) (b : Nat) (f : Fld) (src : Nat) {a : Nat} (ha : a ≠ dbgBase + F.DBG_SH_LOST_LO_lo.off) :
    (s.mark b f src).ctr a = s.ctr a := ((s.raise b f).signal_traceOnly src).ctr_eq a ha

theorem State.mark_snaps (s : State) (b : Nat) (f : Fld) (src : Nat) : (s.mark b f src).snaps = s.snaps :=
  ((s.raise b f).signal_traceOnly src).snaps_eq

/-- Every counter but the trace's own after one of them counts. -/
theorem State.count_ctr (s : State) (base : Nat) (f : Fld) (n rbase : Nat) (r : Fld) (src : Nat) {a : Nat}
    (ha : a ≠ dbgBase + F.DBG_SH_LOST_LO_lo.off) :
    (s.count base f n rbase r src).ctr a = if a = base + f.off then min ctrMax (s.ctr (base + f.off) + n) else s.ctr a := by
  rw [← s.ctr_bump]
  unfold State.count
  split
  · exact State.mark_ctr _ _ _ _ ha
  · rfl

theorem State.count_snaps (s : State) (base : Nat) (f : Fld) (n rbase : Nat) (r : Fld) (src : Nat) :
    (s.count base f n rbase r src).snaps = s.snaps := by
  unfold State.count
  split
  · exact State.mark_snaps _ _ _ _
  · rfl

/-- Counting that reaches the top sets the counter's record and signals its source (R66). -/
theorem State.count_of_top {s : State} {base : Nat} {f : Fld} {n rbase : Nat} {r : Fld} {src : Nat} (h1 : s.ctr (base + f.off) < ctrMax)
    (h2 : ctrMax ≤ s.ctr (base + f.off) + n) : s.count base f n rbase r src = (s.bump (base + f.off) n).mark rbase r src :=
  if_pos ⟨h1, h2⟩

/-- Settles O42: a count is an addition and at most a record, its source and a trace; a snapshot splices one window. -/
theorem countersAndSnapshots : Obligations.CountersAndSnapshots := by
  refine ⟨fun s base f n rbase r src a ha => ⟨?added, ?heldCopies⟩, fun s base f n rbase r src h1 h2 hw hs hk => ⟨?record, ?source⟩,
    fun s base a clear => ⟨?copied, ?cleared⟩⟩
  case added =>
    rw [State.count_ctr _ _ _ _ _ _ _ ha]
    by_cases h : a = base + f.off
    · rw [if_pos h, if_pos h, h]
      rfl
    · rw [if_neg h, if_neg h]
  case heldCopies => rw [State.snapped, State.count_snaps, State.snapped]
  case record =>
    rw [State.count_of_top h1 h2]
    refine State.signal_flag_of ?_ (hk _)
    simp [State.flag, State.raise, hw]
  case source =>
    rw [State.count_of_top h1 h2, State.mark, State.signal_recorded _ hs hs]
    simp
  case copied => exact SMap.get_splice 0 _ _ _ _ _ (by omega)
  case cleared =>
    cases clear with
    | false => simp [State.snapWindow, State.ctr]
    | true =>
      simp only [true_and]
      exact SMap.get_cut 0 s.ctrs base (base + 0x10000) a

end Machine
end Sys2Proof
end

/-! ## Commands whose write is dropped to the last retry (O60)

A long command that only accepts changes registers at one place: `noteDropped`, where its gate stops it with BUSY. -/
section
namespace Sys2Proof.Machine

/-- A field that is no write_dropped of the listed blocks, after those are set. -/
theorem State.getF_foldl_raise {l : List Nat} {g : Fld} {b : Nat} {f : Fld} (h : ∀ x ∈ l, regKey b f ≠ regKey x g) (s : State) :
    (l.foldl (fun s x => s.raise x g) s).getF b f = s.getF b f := by
  induction l generalizing s with
  | nil => rfl
  | cons x l ih =>
    rw [List.foldl_cons, ih (fun y hy => h y (List.mem_cons_of_mem _ hy))]
    exact State.getF_setF_other _ _ _ _ _ _ (h x List.mem_cons_self)

/-- A refusal notes dropped writes in the header records of the blocked blocks alone. -/
theorem State.noteDropped_getF {s : State} {op : Nat} {c : Cmd} {k : Chk} {st : Status} {b : Nat} {f : Fld}
    (h : ∀ x ∈ s.blockedBy op c, regKey b f ≠ regKey x F.HDR_write_dropped) : (s.noteDropped op c k st).getF b f = s.getF b f := by
  unfold State.noteDropped
  split
  · exact State.getF_foldl_raise h s
  · rfl

/-- With no block blocked a refusal notes nothing. -/
theorem State.noteDropped_nil {s : State} {op : Nat} {c : Cmd} {k : Chk} {st : Status} (h : s.blockedBy op c = []) :
    s.noteDropped op c k st = s := by
  unfold State.noteDropped
  split
  · rw [h]; rfl
  · rfl

/-- The registers after a long command that only accepts: as they were, or with the dropped writes noted. -/
theorem State.long_id_regs (s : State) (op : Nat) (c : Cmd) (k : Chk) (i : Option Nat) :
    (s.long op c k i id).regs = s.regs ∨ ∃ st, (s.long op c k i id).regs = ((s.take op c).noteDropped op c k st).regs := by
  unfold State.long
  split
  · exact .inl rfl
  · split
    · exact .inl rfl
    · dsimp only
      split
      case h_1 st _ => exact .inr ⟨st, rfl⟩
      case h_2 => exact .inl rfl

/-- A scheduled or long command of the seven only accepts when it is taken (R100). -/
theorem exec_accepts {i : Instr} {op : Nat} {c : Cmd} {s t : State}
    (hi : i ∈ [.laneSet c, .laneRetire c, .sdiRxSet c, .sdiTxSet c, .xptAt c, .facetSwapAt c, .channelRetire c])
    (hp : packetOf i = some (op, c)) (h : exec i s = .next t) : op ≠ 0x0202 ∧ ∃ k j, t = s.long op c k j id := by
  simp only [List.mem_cons, List.not_mem_nil, or_false] at hi
  rcases hi with rfl | rfl | rfl | rfl | rfl | rfl | rfl
  all_goals
    cases hp
    cases h
    exact ⟨by decide, _, _, rfl⟩

/-- The facets that a CFG_APPLY selects count for no other command. -/
theorem cmdBlocks_also {op : Nat} (h : op ≠ 0x0202) (c : Cmd) (also : List Nat) : cmdBlocks op c also = cmdBlocks op c [] := by
  unfold cmdBlocks
  rw [if_neg h, if_neg h]

/-- Blocks that no other master's posted write holds block nothing (R59). -/
theorem State.blockedBy_nil {s : State} {op : Nat} {c : Cmd} (ho : op ≠ 0x0202)
    (h : ∀ p ∈ s.posted, p.base ∉ cmdBlocks op c [] ∨ p.master = .steward) : s.blockedBy op c = [] := by
  rw [State.blockedBy, cmdBlocks_also ho, List.filter_eq_nil_iff]
  intro b hb hany
  obtain ⟨p, hp, hpb⟩ := List.any_eq_true.mp hany
  simp only [Bool.and_eq_true, beq_iff_eq, decide_eq_true_eq] at hpb
  obtain ⟨rfl, hm⟩ := hpb
  exact (h p hp).elim (fun hn => hn hb) hm

/-- A packet whose every check but the last passes, and whose retries fail, is BUSY (R107, R108). -/
theorem gate_busy_of_retries {s : State} {op : Nat} {c : Cmd} {k : Chk} (ho : s.opcodeOpen c.src op = true) (hb : barred c.src op = false)
    (hr : s.rootBars c.src = false) (hd : (decide (c.die < 8) && s.pwr.inReset.getLsbD c.die) = false) (hc : s.crowded c op = false)
    (hk : (k.len && k.tgt && k.auth && k.par && k.dom && k.fen && k.ret && k.free) = true) (hf : s.retriesFail op c = true) :
    s.gate op c k = some .busy := by
  simp only [Bool.and_eq_true] at hk
  obtain ⟨⟨⟨⟨⟨⟨⟨hlen, htgt⟩, hauth⟩, hpar⟩, hdom⟩, hfen⟩, hret⟩, hfree⟩ := hk
  simp only [State.gate, ho, hb, hr, hd, hc, hf, hlen, htgt, hauth, hpar, hdom, hfen, hret, hfree]
  rfl

/-- Settles O60: the gate's BUSY, and the registers of a command that only accepts. -/
theorem droppedWrites : Obligations.DroppedWrites := by
  refine ⟨?busy, ?fields, ?registers⟩
  case busy =>
    intro s op c k i run ans hh ho hb hr hd hc hk hf t
    have hg : (s.take op c).gate op c k = some .busy := gate_busy_of_retries (s := s.take op c) ho hb hr hd hc hk hf
    have hfree : k.free = true := (Bool.and_eq_true_iff.mp hk).2
    have hn : (s.take op c).noteDropped op c k .busy = (s.blockedBy op c).foldl (fun s b => s.raise b F.HDR_write_dropped) (s.take op c) :=
      if_pos ⟨rfl, hfree, by rw [show (s.take op c).crowded c op = false from hc]; exact Bool.false_ne_true⟩
    have ht : ((s.take op c).noteDropped op c k .busy).answer op c .busy [] = t := congrArg (fun u => u.answer op c .busy []) hn
    exact ⟨(immediate_refused ans hh hg).trans ht, (long_refused i run hh hg).trans ht⟩
  case fields =>
    intro i op c s t b f hi hp h hx
    obtain ⟨_, k, j, rfl⟩ := exec_accepts hi hp h
    have hgetF : ∀ {u v : State}, u.regs = v.regs → u.getF b f = v.getF b f := fun e => congrArg (fun r => SMap.get f.rst r (regKey b f)) e
    obtain he | ⟨st, he⟩ := s.long_id_regs op c k j
    · exact hgetF he
    · exact (hgetF he).trans (State.noteDropped_getF (s := s.take op c) hx)
  case registers =>
    intro i op c s t hi hp h hq
    obtain ⟨ho, k, j, rfl⟩ := exec_accepts hi hp h
    obtain he | ⟨st, he⟩ := s.long_id_regs op c k j
    · exact he
    · rw [he, State.noteDropped_nil (s := s.take op c) (State.blockedBy_nil (s := s) ho hq)]
      rfl

end Sys2Proof.Machine
end

/-! ## The device after power-on reset (O31) -/
section
namespace Sys2Proof.Machine

/-- The cue cores are HELD after reset, as CUE_STAT's table gives it (R574). -/
theorem cueState_reset_zero : State.reset.cueState 0 = cuHeld := rfl

/-- Refutes O31: it asks for cue cores that are OFF, where cue[0] reads HELD. -/
theorem not_resetState : ¬ Obligations.ResetState := by
  unfold Obligations.ResetState
  rintro ⟨_, _, _, _, _, _, _, _, _, _, _, _, hcue, _⟩
  exact absurd (cueState_reset_zero.symm.trans (hcue 0 (by decide))) (by decide)

end Sys2Proof.Machine
end

/-! ## Register access (O2) -/
section
namespace Sys2Proof.Machine

/-- TIME_LATCH_READ where the read is admitted and finds a time value (R58). -/
theorem exec_timeLatchRead {m : Master} {d : Fin 8} {b : BlkTime} {s : State} {v : Nat} (hb : s.busUp = true)
    (hd : s.denied m d.val b.blk.val (timeOff b.armed (blkAt d.val b.blk.val)) false = none)
    (hv : s.timeAt d.val b.blk.val (timeOff b.armed (blkAt d.val b.blk.val)) = some v) :
    exec (.timeLatchRead m d b) s = .next
      (let off := timeOff b.armed (blkAt d.val b.blk.val)
       let r := s.readWord m d.val b.blk.val off
       (r.2.latch m (winBase d.val b.blk.val + off) v).emit (.bus m (winBase d.val b.blk.val + off) (.value r.1))) := by
  show execTimeLatchRead m d b s = _
  simp only [execTimeLatchRead, hb, hd, hv]
  rfl

/-- Settles O2: a register write by its cause and its block, a posted write by its row, and the reads and windows by their guards. -/
theorem registerAccess : Obligations.RegisterAccess := by
  refine ⟨?atOnce, ?posted, ?dropped, ?denied, ?applied, ?abandoned, ?latched, ?snap, ?snapClear, ?window, ?windowOff⟩
  case atOnce =>
    intro m a bytes s x hb hr hc hp
    rw [exec_registerWrite, busWrite_regs hb hr, State.regArrive, hc, regTake_apply hp]
  case posted =>
    intro m a bytes s x hb hr hc hp hbusy
    rw [exec_registerWrite, busWrite_regs hb hr, State.regArrive, hc, regTake_post hp hbusy]
  case dropped =>
    intro m a bytes s x hb hr hc hp hbusy
    rw [exec_registerWrite, busWrite_regs hb hr, State.regArrive, hc, regTake_drop hp hbusy]
  case denied =>
    intro m a bytes c s x hb hr hc
    rw [exec_registerWrite, busWrite_regs hb hr, State.regArrive, hc, regTake_error]
  case applied =>
    intro d b p s hp hstop hwait
    show execPostedWriteApply d b s = _
    simp only [execPostedWriteApply, hp, hstop, hwait]
    rfl
  case abandoned =>
    intro d b p s s1 s2 hp
    show execPostedWriteTimeout d b s = _
    rw [execPostedWriteTimeout, hp]
  case latched =>
    intro m d b v s off a r hb hd hv
    exact exec_timeLatchRead hb hd hv
  case snap =>
    intro m d b s hr
    exact congrArg Host.Outcome.next (ownWrite_ok hr)
  case snapClear =>
    intro m d b s hr
    exact congrArg Host.Outcome.next (ownWrite_ok hr)
  case window =>
    intro m q a write be data s hoff
    exact congrArg Host.Outcome.next (if_neg (by simp [hoff]))
  case windowOff =>
    intro m q a write be data s hoff
    exact congrArg Host.Outcome.next (if_pos hoff)

end Sys2Proof.Machine
end

/-! ## Events and messages (O3) -/
section
namespace Sys2Proof.Machine

/-- The link goes down where it was up (R121). -/
theorem State.linkDown_up {s : State} (h : s.evc.link.isSome = true) : s.linkDown =
    ((((({ s with evc := { s.evc with link := none } } : State).lower pcieBase F.PCIE_LINK_link_up).lower pcieBase F.PCIE_LINK_gen).lower pcieBase
      F.PCIE_LINK_width).raise pcieBase F.PCIE_ERR_link_down).hostReset :=
  if_pos h

theorem State.linkDown_none {s : State} (h : s.evc.link = none) : s.linkDown = s :=
  if_neg (by simp [h])

/-- Settles O3: EVC's writes reach their registers, a vector sends when nothing holds it, and the PCIe masks and resets act at once. -/
theorem eventsAndMessages : Obligations.EventsAndMessages := by
  refine ⟨?set, ?mask, ?route, ?message, ?unmaskData, ?unmaskMgmt, ?maskVector, ?disable, ?enable, ?funcMask, ?funcUnmask, ?entry,
    ?conventionalUp, ?conventionalDown, ?hot, ?functionLevel, ?linkDown⟩
  case set => exact fun m w v s h1 h2 hr => congrArg Host.Outcome.next (evcWrite_ok _ h1 h2 hr)
  case mask => exact fun m w v s h1 h2 hr => congrArg Host.Outcome.next (evcWrite_ok _ h1 h2 hr)
  case route => exact fun m src v s h1 h2 hr => congrArg Host.Outcome.next (evcWrite_ok _ h1 h2 hr)
  case message => exact fun v s hp hs hb => congrArg Host.Outcome.next (if_pos (by rw [hp, hs, hb]; rfl))
  case unmaskData => exact fun _ _ => rfl
  case unmaskMgmt => exact fun _ _ => rfl
  case maskVector => exact fun _ _ _ => rfl
  case disable => exact fun _ _ => rfl
  case enable => exact fun _ _ => rfl
  case funcMask => exact fun _ _ => rfl
  case funcUnmask => exact fun _ _ => rfl
  case entry => exact fun _ _ _ _ _ => rfl
  case conventionalUp => exact fun s h => congrArg Host.Outcome.next (State.linkDown_up (s := (s.msixDefault false).msixDefault true) h)
  case conventionalDown => exact fun s h => congrArg Host.Outcome.next (State.linkDown_none (s := (s.msixDefault false).msixDefault true) h)
  case hot => exact fun _ => rfl
  case functionLevel =>
    intro data s
    cases data with
    | false => exact congrArg Host.Outcome.next ((if_neg Bool.false_ne_true).trans (if_neg Bool.false_ne_true).symm)
    | true => exact congrArg Host.Outcome.next ((if_pos rfl).trans (if_pos rfl).symm)
  case linkDown => exact fun s h => congrArg Host.Outcome.next (State.linkDown_up h)

end Sys2Proof.Machine
end

/-! ## Power domains, drains and resets (O6) -/
section
namespace Sys2Proof.Machine

/-- SET_POWER_COMPLETION with a change pending, by the state that the change asks for (R609). -/
theorem exec_setPowerCompletion {d : Fin 85} {o : Op} {s : State} (ho : s.domOp d.val = some o) (bad : BitVec 8) :
    exec (.setPowerCompletion d bad) s = .next
      (if o.asks = 0 then
        (if (domKind d.val).1 ≠ 5 ∧ o.stage = 0 then s else (s.domainOff d.val).complete o .ok [o.acc.headD (wd 0)])
      else if o.asks = 3 then (if o.stage = 0 then s else (s.reachDom d.val 3).complete o .ok [wd 0])
      else if o.asks = 2 then (s.domainStop d.val).complete o .ok [wd 0]
      else if (domKind d.val).1 = 5 then (if s.lampDom (domKind d.val).2 = 1 then s.complete o .ok [wd 0] else s)
      else if (domKind d.val).1 = 6 then
        (if s.getF ucieBase F.UCIE_LINK_state = 4 then (((s.freePartner.toUcie 3).reachDom d.val 1).ucieDrain).complete o .ok [wd 0] else s)
      else if (domKind d.val).1 = 2 ∧ (quadEdges (domKind d.val).2).any (fun e => s.edgeTraining e) then s
      else (s.domainOn d.val bad).complete o .ok [wd 0]) := by
  show execSetPowerCompletion d bad s = _
  rw [execSetPowerCompletion, ho]

/-- RESET_COMPLETION with a reset of the target pending, by its kind (R112). -/
theorem exec_resetCompletion {tw : Word} {o : Op} {s : State} (ho : s.pendingOn 0x0104 tw = some o) :
    exec (.resetCompletion (some tw)) s = .next
      (if o.f 2 3 0 = 3 then (if (s.facetX (12 * (o.die - 1) + (o.blk - 0x010))).reset = 0 then s.complete o .ok [] else s)
      else if o.f 2 3 0 = 4 then s.complete o .ok []
      else if o.f 2 3 0 = 5 ∨ o.die = 7 then s
      else if o.die ≤ 4 ∧ (o.stage = 0 ∨ (quadEdges (o.die - 1)).any (fun e => s.edgeTraining e)) then s
      else (s.dieResetEnd o.die).complete o .ok []) := by
  show execResetCompletion (some tw) s = _
  simp only [execResetCompletion, ho]

/-- FACET_RESET_RELEASE while the clocks run, by the stage of the reset (R250). -/
theorem exec_facetResetRelease {f : Fin 48} {s : State} (hc : s.clocksRun f.val = true) :
    exec (.facetResetRelease f) s = .next
      (if (s.facetX f.val).reset = 0 then s
      else if (s.facetX f.val).reset = 1 then s.setFacetX f.val { s.facetX f.val with reset := 2 }
      else if (s.facetX f.val).clkReturn || s.facetState f.val != fcRunning then s.setFacetX f.val { s.facetX f.val with reset := 0 }
      else (s.setFacetX f.val { s.facetX f.val with reset := 0 }).unhold f.val) := by
  show execFacetResetRelease f s = _
  simp only [execFacetResetRelease, hc, Bool.not_true, Bool.false_or, decide_eq_true_eq]

/-- The path may not reset the whole device (R112): a set of another agent than the host, or the lattice. -/
def resetLimited : Src → Bool
  | .set q => decide (8 ≤ q.val)
  | .spi => false
  | .lattice _ => true

/-- The checks of RESET (R108, R112). -/
def State.resetChk (s : State) (c : Cmd) : Chk :=
  let k := c.resetKind
  let f := c.facetOf.getD 0
  let n := c.cueOf.getD 0
  { len := c.len == 3, tgt := s.resetTgt c, auth := !(resetLimited c.src && c.resetWarm)
    par := c.f 2 31 4 == 0 && decide (1 ≤ k) && decide (k ≤ 5) && (k != 3 || (s.facetState f != fcEmpty && s.facetState f != fcStopped))
    dom := (k != 3 || (s.facetState f != fcOff && s.facetState f != fcDraining)) && (k != 4 || s.cueState n != cuOff) &&
      ((k != 5 && c.die != 7) || (s.dom partnerDom != 0 && s.getF ucieBase F.UCIE_LINK_state != 5))
    free := !s.heldByOther c && (k != 3 || (s.facetState f == fcRunning && !s.swapArmed f && !s.applying f && (s.facetX f).reset == 0)) &&
      (k != 4 || s.cueState n != cuStopped) }

/-- RESET by its checks: a warm reset is immediate, any other a long operation. -/
theorem exec_reset (c : Cmd) (s : State) : exec (.reset c) s = .next
    (if c.resetWarm then
      s.immediate 0x0104 c (s.resetChk c) (fun s => ({ s with pwr := { s.pwr with warmSrc := c.src.setOf.getD 0xFF } }, []))
    else s.long 0x0104 c (s.resetChk c) none (fun s => s.resetStart c)) := by
  obtain ⟨src, tag, w1, ps⟩ := c
  cases src <;> rfl

/-- A RESET of an admitted kind passes its checks, where the facet runs undisturbed, the core is on and not stopped, and the partner has
power, if it names one of these. -/
theorem resetChk_ok {s : State} {c : Cmd} (hl : c.len = 3) (ht : s.resetTgt c = true) (ha : resetLimited c.src = false ∨ c.resetWarm = false)
    (hz : c.f 2 31 4 = 0) (h1 : 1 ≤ c.resetKind) (h5 : c.resetKind ≤ 5)
    (hfacet : c.resetKind = 3 → s.facetState (c.facetOf.getD 0) = fcRunning ∧ s.swapArmed (c.facetOf.getD 0) = false ∧
      s.applying (c.facetOf.getD 0) = false ∧ (s.facetX (c.facetOf.getD 0)).reset = 0)
    (hcue : c.resetKind = 4 → s.cueState (c.cueOf.getD 0) ≠ cuOff ∧ s.cueState (c.cueOf.getD 0) ≠ cuStopped)
    (hpartner : c.resetKind = 5 ∨ c.die = 7 → s.dom partnerDom ≠ 0 ∧ s.getF ucieBase F.UCIE_LINK_state ≠ 5)
    (hheld : s.heldByOther c = false) : (s.resetChk c).ok = true := by
  have hrun : fcRunning ≠ fcEmpty ∧ fcRunning ≠ fcStopped ∧ fcRunning ≠ fcOff ∧ fcRunning ≠ fcDraining := by decide
  refine (Chk.ok_iff _).mpr ⟨beq_iff_eq.mpr hl, ht, ?auth, ?par, ?dom, rfl, rfl, ?free, rfl⟩
  case auth => simpa [State.resetChk] using ha
  case par =>
    have h3 : c.resetKind ≠ 3 ∨ s.facetState (c.facetOf.getD 0) ≠ fcEmpty ∧ s.facetState (c.facetOf.getD 0) ≠ fcStopped :=
      (Decidable.em _).symm.imp_right fun h => (hfacet h).1 ▸ ⟨hrun.1, hrun.2.1⟩
    simpa [State.resetChk, hz, h1, h5] using h3
  case dom =>
    have h3 : c.resetKind ≠ 3 ∨ s.facetState (c.facetOf.getD 0) ≠ fcOff ∧ s.facetState (c.facetOf.getD 0) ≠ fcDraining :=
      (Decidable.em _).symm.imp_right fun h => (hfacet h).1 ▸ hrun.2.2
    have h4 : c.resetKind ≠ 4 ∨ s.cueState (c.cueOf.getD 0) ≠ cuOff := (Decidable.em _).symm.imp_right fun h => (hcue h).1
    have h7 : (c.resetKind ≠ 5 ∧ c.die ≠ 7) ∨ s.dom partnerDom ≠ 0 ∧ s.getF ucieBase F.UCIE_LINK_state ≠ 5 :=
      (Decidable.em _).symm.imp not_or.mp hpartner
    simpa [State.resetChk, and_assoc] using ⟨h3, h4, h7⟩
  case free =>
    have h3 : c.resetKind ≠ 3 ∨ s.facetState (c.facetOf.getD 0) = fcRunning ∧ s.swapArmed (c.facetOf.getD 0) = false ∧
        s.applying (c.facetOf.getD 0) = false ∧ (s.facetX (c.facetOf.getD 0)).reset = 0 := (Decidable.em _).symm.imp_right hfacet
    have h4 : c.resetKind ≠ 4 ∨ s.cueState (c.cueOf.getD 0) ≠ cuStopped := (Decidable.em _).symm.imp_right fun h => (hcue h).2
    simpa [State.resetChk, hheld, and_assoc] using ⟨h3, h4⟩

/-- The partner is no target of a warm reset (R112, R622). -/
theorem die_ne_of_resetWarm {s : State} {c : Cmd} (hw : c.resetWarm = true) (ht : s.resetTgt c = true) : c.die ≠ 7 := by
  simp only [Cmd.resetWarm, Bool.or_eq_true, Bool.and_eq_true, beq_iff_eq] at hw
  obtain hk | ⟨_, hd⟩ := hw
  · simp only [State.resetTgt, hk, if_pos, Cmd.aims, Bool.and_eq_true, beq_iff_eq] at ht
    omega
  · omega

/-- The host's own paths may reset the whole device. -/
theorem resetLimited_host {src : Src} (h : src = .spi ∨ ∃ q : Fin 8, src = .set (q.castLE (by decide))) : resetLimited src = false := by
  obtain rfl | ⟨q, rfl⟩ := h
  · rfl
  · simp [resetLimited]

/-- Settles O6: a taken packet passes its checks, and each later event finds its operation at the stage that it needs. -/
theorem powerChanges : Obligations.PowerChanges := by
  refine ⟨?setPower, ?setPowerQuery, ?resetLong, ?resetWarm, ?changeOff, ?changeSleep, ?changeStop, ?changeLamp, ?changePartner, ?changeOn,
    ?drainEnd, ?drainRewrite, ?drainQuadrant, ?warmBegins, ?facetResetEnd, ?cueResetEnd, ?dieResetEnd, ?releaseFlops, ?releaseCells,
    ?releaseReturned⟩
  case setPower =>
    intro c s d v there idle ht hl ha hp hd h1 h2 hs hr hi hx ho hf hh u
    refine congrArg Host.Outcome.next (long_ok none _ ht ((Chk.ok_iff _).mpr ⟨?_, ?_, rfl, ?_, ?_, rfl, rfl, ?_, rfl⟩))
    · exact beq_iff_eq.mpr hl
    · exact Bool.and_eq_true_iff.mpr ⟨ha, hp⟩
    · simp only [Bool.and_eq_true, beq_iff_eq]
      exact ⟨⟨⟨⟨hd, h1⟩, h2⟩, hs⟩, hr⟩
    · have hpart : (d == partnerDom && s.partnerReset.isSome) = false := by
        rw [Bool.and_eq_false_iff, beq_eq_false_iff_ne, Option.isSome_eq_false_iff, Option.isNone_iff_eq_none]
        exact (Decidable.em (d = partnerDom)).elim (fun e => .inr (hx e)) .inl
      exact Bool.and_eq_true_iff.mpr ⟨hi, by rw [hpart]; rfl⟩
    · exact Bool.and_eq_true_iff.mpr ⟨Bool.and_eq_true_iff.mpr ⟨ho, hf⟩, hh⟩
  case setPowerQuery =>
    intro c s d last ht hl ha hp hd h1 u
    refine congrArg Host.Outcome.next (immediate_ok _ ht ((Chk.ok_iff _).mpr ⟨?_, ?_, rfl, ?_, rfl, rfl, rfl, rfl, rfl⟩))
    · exact beq_iff_eq.mpr hl
    · exact Bool.and_eq_true_iff.mpr ⟨ha, hp⟩
    · exact Bool.and_eq_true_iff.mpr ⟨hd, beq_iff_eq.mpr h1⟩
  case resetLong =>
    intro c s k f n ht hl htgt hw hz h1 h5 hfacet hcue hpartner hheld
    rw [exec_reset, if_neg (by rw [hw]; exact Bool.false_ne_true),
      long_ok none _ ht (resetChk_ok hl htgt (.inr hw) hz h1 h5 hfacet hcue hpartner hheld)]
  case resetWarm =>
    intro c s ht hl htgt hw hsrc hz hk hheld u
    have hdie := die_ne_of_resetWarm hw htgt
    rw [exec_reset, if_pos hw, immediate_ok _ ht (resetChk_ok hl htgt (.inl (resetLimited_host hsrc)) hz (by omega) (by omega)
      (fun h => by omega) (fun h => by omega) (fun h => by omega) hheld)]
  case changeOff =>
    intro d bad o s ho k v drained h0 hstage
    rw [exec_setPowerCompletion ho, if_pos h0, if_neg hstage]
  case changeSleep =>
    intro d bad o s ho v h0 h3 hstage
    rw [exec_setPowerCompletion ho, if_neg h0, if_pos h3, if_neg hstage]
  case changeStop =>
    intro d bad o s ho v h0 h3 h2
    rw [exec_setPowerCompletion ho, if_neg h0, if_neg h3, if_pos h2]
  case changeLamp =>
    intro d bad o s ho k v h0 h3 h2 h5 hl
    rw [exec_setPowerCompletion ho, if_neg h0, if_neg h3, if_neg h2, if_pos h5, if_pos hl]
  case changePartner =>
    intro d bad o s ho k v h0 h3 h2 h5 h6 hl
    rw [exec_setPowerCompletion ho, if_neg h0, if_neg h3, if_neg h2, if_neg h5, if_pos h6, if_pos hl]
  case changeOn =>
    intro d bad o s ho k v h0 h3 h2 h5 h6 hq
    have hn : ¬ (k.1 = 2 ∧ (quadEdges k.2).any (fun e => s.edgeTraining e) = true) := fun h => by simp [hq h.1] at h
    rw [exec_setPowerCompletion ho, if_neg h0, if_neg h3, if_neg h2, if_neg h5, if_neg h6, if_neg hn]
  case drainEnd =>
    intro d left o s ho hstage hdom
    show execDomainDrainEnd d left s = _
    rewrite [execDomainDrainEnd, ho]
    exact congrArg Host.Outcome.next (if_neg (by simp [hstage, hdom]))
  case drainRewrite =>
    intro d left s ho hd hr hdf
    show execDomainDrainEnd d left s = _
    rewrite [execDomainDrainEnd, ho]
    exact congrArg Host.Outcome.next ((if_pos hd).trans (if_pos (by rw [hr, hdf]; rfl)))
  case drainQuadrant =>
    intro d left o s ho h48 h52 q hop hstage n s1
    show execDomainDrainEnd d left s = _
    rewrite [execDomainDrainEnd, ho]
    refine congrArg Host.Outcome.next ((if_neg (by omega)).trans ((if_pos h52).trans ?_))
    dsimp only
    rewrite [hop]
    exact if_neg (by simp [hstage])
  case warmBegins =>
    intro w t s hw hat
    subst hw
    show execResetCompletion none s = _
    simp only [execResetCompletion, hat]
  case facetResetEnd =>
    intro w tw o s hw ho k h3 hx
    rw [hw, exec_resetCompletion ho, if_pos h3, if_pos hx]
  case cueResetEnd =>
    intro w tw o s hw ho k h3 h4
    rw [hw, exec_resetCompletion ho, if_neg h3, if_pos h4]
  case dieResetEnd =>
    intro w tw o s hw ho k h3 h4 h5 h7 hq
    have hn : ¬ (o.die ≤ 4 ∧ (o.stage = 0 ∨ (quadEdges (o.die - 1)).any (fun e => s.edgeTraining e) = true)) :=
      fun h => h.2.elim (hq h.1).1 (fun e => by simp [(hq h.1).2] at e)
    rw [hw, exec_resetCompletion ho, if_neg h3, if_neg h4, if_neg (not_or.mpr ⟨h5, h7⟩), if_neg hn]
  case releaseFlops =>
    intro f s hc h1
    rw [exec_facetResetRelease hc, if_neg (by omega), if_pos h1]
  case releaseCells =>
    intro f s hc h1 hr hs
    rw [exec_facetResetRelease hc, if_neg (by omega), if_neg (by omega), if_neg (by simp [hr, hs])]
  case releaseReturned =>
    intro f s hc h1 hr
    rw [exec_facetResetRelease hc, if_neg (by omega), if_neg (by omega), if_pos (by simp [hr])]

end Sys2Proof.Machine
end

/-! ## Command packets: steps, turns, the priority lanes and statuses (O1, O37–O40, O56) -/
section
namespace Sys2Proof.Machine

/-- Settles O1: `step` on a queue with a front. -/
theorem stepRunsFront : Obligations.StepRunsFront := fun _ _ _ => step_cons rfl

/-! ### Query forms -/

/-- The entry of a query form in the table of written components names the steward's queues alone. -/
theorem packetOf_query_writes {i : Instr} {op : Nat} {c : Cmd} (hp : packetOf i = some (op, c)) :
    (!op.testBit 7 || writes i == [.hq]) = true := by
  cases i <;> cases hp <;> rfl

theorem writes_of_query {i : Instr} {op : Nat} {c : Cmd} (hp : packetOf i = some (op, c)) (hq : op.testBit 7 = true) : writes i = [.hq] := by
  simpa [hq] using packetOf_query_writes hp

/-- Settles O37: what a command leaves alone, at the entry of a query form. -/
theorem queriesChangeNothing : Obligations.QueriesChangeNothing := by
  intro i op c s t x hp hq hx h
  refine exec_same h ?_
  rw [writes_of_query hp hq, List.mem_singleton]
  exact hx

/-! ### What handling a packet can do -/

/-- An opcode that is closed on its path is stopped by the first check (R84, R108). -/
theorem gate_closed {s : State} {op : Nat} {c : Cmd} (k : Chk) (h : s.opcodeOpen c.src op = false) : s.gate op c k = some .badOpcode := by
  simp [State.gate, h]

/-- What the row of a packet does, whatever its own meaning: nothing while the steward does not handle commands or before the packet's turn,
and where the opcode is closed on the path, one BAD_OPCODE (R84, R104, R115). -/
structure PacketRow (s : State) (op : Nat) (c : Cmd) (t : State) : Prop where
  waits : (s.fetching && s.refused op c) = false → s.handles op c = false → t = s
  closed : (s.fetching && (s.refused op c || s.inOrder op c)) = true → s.opcodeOpen c.src op = false → Replied t op c .badOpcode false

/-- An answer is among the ready replies. -/
theorem replied_answer (s : State) (op : Nat) (c : Cmd) (st : Status) (ws : List Word) : Replied (s.answer op c st ws) op c st false :=
  ⟨_, List.mem_append_right _ (List.mem_singleton_self _), rfl, rfl, rfl, rfl, rfl⟩

/-- A packet that a full lattice queue did not take, of a closed opcode. -/
theorem answerRefused_closed {s : State} {op : Nat} {c : Cmd} (k : Chk) (h : s.opcodeOpen c.src op = false) :
    s.answerRefused op c k = (s.take (op + refusedMark) c).answer op c .badOpcode [] := by
  have hg := gate_closed (s := s.take (op + refusedMark) c) { k with free := false } h
  rw [State.answerRefused, hg]
  rfl

theorem handles_of_turn {s : State} {op : Nat} {c : Cmd} (h : (s.fetching && (s.refused op c || s.inOrder op c)) = true)
    (hr : (s.fetching && s.refused op c) = false) : s.handles op c = true := by
  rw [Bool.and_or_distrib_left, hr, Bool.false_or] at h
  exact h

/-- The row of a packet by its three cases: refused by a full lattice queue, not its turn, its turn. -/
theorem PacketRow.of_turn {s t : State} {op : Nat} {c : Cmd} {k : Chk}
    (hrefused : (s.fetching && s.refused op c) = true → t = s.answerRefused op c k)
    (hwaits : (s.fetching && s.refused op c) = false → s.handles op c = false → t = s)
    (hturn : (s.fetching && s.refused op c) = false → s.handles op c = true → (s.take op c).gate op c k = some .badOpcode →
      Replied t op c .badOpcode false) : PacketRow s op c t where
  waits := hwaits
  closed ht ho := by
    cases hr : s.fetching && s.refused op c with
    | true =>
      rw [hrefused hr, answerRefused_closed k ho]
      exact replied_answer _ _ _ _ _
    | false => exact hturn hr (handles_of_turn ht hr) (gate_closed (s := s.take op c) k ho)

theorem packetRow_immediateThen (s : State) (op : Nat) (c : Cmd) (k : Chk) (run : State → State × List Word) (after : State → State) :
    PacketRow s op c (s.immediateThen op c k run after) := by
  refine .of_turn (k := k) (fun hr => ?_) (fun hr hh => ?_) (fun hr hh hg => ?_)
  · simp [State.immediateThen, hr]
  · simp [State.immediateThen, hr, hh]
  · simp only [State.immediateThen, hr, hh, hg]
    exact replied_answer _ _ _ _ _

theorem packetRow_immediate (s : State) (op : Nat) (c : Cmd) (k : Chk) (run : State → State × List Word) :
    PacketRow s op c (s.immediate op c k run) := packetRow_immediateThen s op c k run id

theorem packetRow_long (s : State) (op : Nat) (c : Cmd) (k : Chk) (i : Option Nat) (run : State → State) :
    PacketRow s op c (s.long op c k i run) := by
  refine .of_turn (k := k) (fun hr => ?_) (fun hr hh => ?_) (fun hr hh hg => ?_)
  · simp [State.long, hr]
  · simp [State.long, hr, hh]
  · rw [long_refused i run hh hg]
    exact replied_answer _ _ _ _ _

/-- What follows the answer of a packet that passed its checks changes nothing in the row's shape: it happens in its turn, on an open opcode. -/
theorem PacketRow.followed {s : State} {op : Nat} {c : Cmd} {t : State} (b : Bool) (f : State → State) (h : PacketRow s op c t)
    (hb : b = true → s.handles op c = true ∧ s.opcodeOpen c.src op = true) : PacketRow s op c (if b then f t else t) where
  waits hr hh := by
    rw [if_neg (fun e => by simp [(hb e).1] at hh)]
    exact h.waits hr hh
  closed ht ho := by
    rw [if_neg (fun e => by simp [(hb e).2] at ho)]
    exact h.closed ht ho

/-- DBG_UNLOCK, whose refusals spend the challenge (R647). -/
theorem packetRow_dbgUnlock {s t : State} {c : Cmd} (h : exec (.dbgUnlock c) s = .next t) : PacketRow s 0x0901 c t := by
  cases h
  refine .of_turn (fun hr => if_pos hr) (fun hr hh => ?_) (fun hr hh hg => ?_)
  · simp only [hr, hh]
    rfl
  · simp only [hr, hh, hg]
    exact replied_answer _ _ _ _ _

/-- The row of every packet. Most are one immediate command or one long operation; RESET and LOOP_SET are so by their kind or target, and
IP_FLOW_ADD and STREAM_ABORT go on after their answer. -/
theorem exec_packetRow {i : Instr} {op : Nat} {c : Cmd} {s t : State} (hp : packetOf i = some (op, c)) (h : exec i s = .next t) :
    PacketRow s op c t := by
  cases i
  case ping | getInfo | getCaps | setPowerQuery | facetFence | facetFenceQuery | scrubCtl | scrubCtlQuery | refSelect | refSelectQuery |
      timeSet | timeSetQuery | loopWindow | loopWindowQuery | loopFallback | clkoutSet | clkoutSetQuery | laneSetQuery | lanePrbs |
      lanePrbsQuery | laneBitslip | sdiRxSetQuery | sdiTxSetQuery | xptAtQuery | ipFlowAddQuery | ipFlowDel | mergeSet | mergeSetQuery |
      protSet | protSetQuery | sectorSet | sectorSetQuery | sectorRights | sectorRightsQuery | cueCtlQuery | latAssign | latAssignQuery
      | latRouteSet | latRouteSetQuery | journalRead | journalClear | dbgChallenge =>
    cases hp
    cases h
    exact packetRow_immediate _ _ _ _ _
  case setPower | fwStage | fwActivate | snap | facetSwapAt | facetRewrite | cfgStage | cfgVerify | cfgApply | keyLoad | laneSet |
      laneEye | laneCal | laneRetire | sdiRxSet | sdiTxSet | xptAt | streamDisable | edgeRetrain | lampSwap | rekeyNow | cueCtl |
      latDiscover | channelRetire | channelRestore =>
    cases hp
    cases h
    exact packetRow_long _ _ _ _ _ _
  case schedCancel =>
    cases hp
    cases h
    exact packetRow_immediateThen _ _ _ _ _ _
  case reset =>
    cases hp
    rw [exec_reset] at h
    cases h
    split
    · exact packetRow_immediate _ _ _ _ _
    · exact packetRow_long _ _ _ _ _ _
  case loopSet =>
    cases hp
    cases h
    split
    · exact packetRow_long _ _ _ _ _ _
    · exact packetRow_long _ _ _ _ _ _
    · exact packetRow_long _ _ _ _ _ _
  case loopSetQuery =>
    cases hp
    cases h
    split
    · exact packetRow_immediate _ _ _ _ _
    · exact packetRow_immediate _ _ _ _ _
    · exact packetRow_immediate _ _ _ _ _
  case ipFlowAdd =>
    cases hp
    cases h
    refine (packetRow_immediate _ _ _ _ _).followed _ (fun t => State.mark t _ _ _) fun hb => ?_
    simp only [Bool.and_eq_true] at hb
    simp [hb]
  case streamAbort =>
    cases hp
    cases h
    refine (packetRow_immediate _ _ _ _ _).followed _ (fun t => State.endDisable t _ _ _ true) fun hb => ?_
    obtain ⟨hh, hg⟩ := Bool.and_eq_true_iff.mp hb
    refine ⟨hh, eq_true_of_ne_false fun ho => ?_⟩
    simp [gate_closed (s := s.take _ _) _ ho] at hg
  case dbgUnlock =>
    cases hp
    exact packetRow_dbgUnlock h
  all_goals cases hp

/-- Settles O38: the row of a packet before its turn. -/
theorem packetsWaitForTheSteward : Obligations.PacketsWaitForTheSteward := by
  refine ⟨fun i op c s hp hf => ?_, fun i op c s hp hr ho => ?_⟩
  · obtain ⟨t, h⟩ := exec_next i s
    rw [h, (exec_packetRow hp h).waits (by simp [hf]) (by simp [State.handles, hf])]
  · obtain ⟨t, h⟩ := exec_next i s
    rw [h, (exec_packetRow hp h).waits (by simp [hr]) (by simp [State.handles, ho])]

/-- The opcodes that the table marks P (R109). -/
theorem prioOpcodes_eq : (opcodeTable.filter OpInfo.prio).map OpInfo.code =
    [0x0100, 0x0107, 0x0203, 0x0204, 0x0305, 0x0400, 0x0405, 0x0500, 0x0501, 0x0505, 0x0507, 0x0601] := by decide

theorem opcodePrio_iff (op : Nat) : opcodePrio op = true ↔ op ∈ (opcodeTable.filter OpInfo.prio).map OpInfo.code := by
  simp [opcodePrio, List.mem_filter, and_comm, and_left_comm, and_assoc]

/-- An opcode that is not marked P is closed on the priority lanes (R84). -/
theorem opcodeOpen_priority (s : State) {src : Src} {op : Nat} (hs : src = .set 4 ∨ src = .set 5) (hp : opcodePrio op = false) :
    s.opcodeOpen src op = false := by
  obtain rfl | rfl := hs
  all_goals
    show (opcodeKnown op && opcodePrio op && _) = false
    rw [hp, Bool.and_false, Bool.false_and]

/-- Settles O39: the row of a packet whose opcode is closed. -/
theorem priorityLanes : Obligations.PriorityLanes := by
  intro i op c s hp hf ht hs hop
  obtain ⟨t, h⟩ := exec_next i s
  refine ⟨t, h, (exec_packetRow hp h).closed (by rw [hf, ht]; rfl) (opcodeOpen_priority s hs ?_)⟩
  rwa [← Bool.not_eq_true, opcodePrio_iff, prioOpcodes_eq]

/-! ### The station time's words (R98) -/

/-- The nanoseconds of a station time within its second. -/
theorem nanoseconds_lt (t : Nat) : t % second / nano < 1000000000 := by
  simp only [second, nano]
  omega

/-- The three words as numbers. -/
theorem timeWords_toNat (t : Nat) : ((timeWords t).getD 0 0).toNat = t % second / nano ∧
    ((timeWords t).getD 1 0).toNat = t % nano * 65536 + t / second / 4294967296 % 65536 ∧
    ((timeWords t).getD 2 0).toNat = t / second % 4294967296 := by
  have h1 : t % nano * 65536 + t / second / 4294967296 % 65536 < 2 ^ 32 := by
    simp only [second, nano]
    omega
  exact ⟨Nat.mod_eq_of_lt (Nat.lt_trans (nanoseconds_lt t) (by decide)), Nat.mod_eq_of_lt h1, Nat.mod_eq_of_lt (Nat.mod_lt _ (by decide))⟩

/-- The halves of a word that two halves make. -/
theorem bitsOf_halves {hi lo : Nat} (hh : hi < 65536) (hl : lo < 65536) :
    bitsOf (hi * 65536 + lo) 15 0 = lo ∧ bitsOf (hi * 65536 + lo) 31 16 = hi := by
  simp only [bitsOf, Nat.shiftRight_eq_div_pow, Nat.reduceSub, Nat.reduceAdd, Nat.reducePow]
  omega

/-- Settles O56: a time below 2^48 s is put together again from its seconds, nanoseconds and fraction. -/
theorem timeWordsAgree : Obligations.TimeWordsAgree := by
  refine ⟨fun t ht => ?_, fun t => ?_, fun t0 t1 t2 h => if_neg (Nat.not_lt.mpr h)⟩
  · obtain ⟨h0, h1, h2⟩ := timeWords_toNat t
    have hfrac : t % nano < 65536 := Nat.mod_lt _ (by decide)
    obtain ⟨hlo, hhi⟩ := bitsOf_halves hfrac (Nat.mod_lt (t / second / 4294967296) (by decide))
    rw [h0, h1, h2, timeOf, if_pos (nanoseconds_lt t), hlo, hhi]
    simp only [second, nano] at ht ⊢
    congr 1
    omega
  · exact ⟨(timeWords_toNat t).1 ▸ nanoseconds_lt t, rfl⟩

/-! ### The order of the checks (R108) -/

/-- Settles O40: the checks of `gate` in their order. -/
theorem statusOrder : Obligations.StatusOrder := by
  refine ⟨fun s op c k h => gate_closed k h, fun s op c k ho => ⟨?len, ?tgt, ?auth⟩, fun s op c k ho hl ht ha hb hr => ⟨?par, ?dom⟩,
    fun s op c k ho hl ht ha hb hr hp hd hi => ⟨?fen, ?ret, ?free, ?retries, ?late, ?none⟩⟩
  case len =>
    intro h
    simp [State.gate, ho, h]
  case tgt =>
    intro hl h
    simp [State.gate, ho, hl, h]
  case auth =>
    intro hl ht h
    have h' : (!k.auth || barred c.src op || s.rootBars c.src) = true := by simpa [or_assoc] using h
    simp [State.gate, ho, hl, ht, h']
  case par =>
    intro h
    simp [State.gate, ho, hl, ht, ha, hb, hr, h]
  case dom =>
    intro hp h
    have h' : (!k.dom || (decide (c.die < 8) && s.pwr.inReset.getLsbD c.die)) = true := by simpa using h
    simp only [State.gate, ho, hl, ht, ha, hb, hr, hp, h']
    rfl
  case fen =>
    intro h
    simp [State.gate, ho, hl, ht, ha, hb, hr, hp, hd, hi, h]
  case ret =>
    intro hf h
    simp [State.gate, ho, hl, ht, ha, hb, hr, hp, hd, hi, hf, h]
  case free =>
    intro hf hret h
    have h' : (!k.free || s.crowded c op) = true := by simpa using h
    simp [State.gate, ho, hl, ht, ha, hb, hr, hp, hd, hi, hf, hret, h']
  case retries =>
    intro hf hret hfree hc h
    simp [State.gate, ho, hl, ht, ha, hb, hr, hp, hd, hi, hf, hret, hfree, hc, h]
  case late =>
    intro hf hret hfree hc hx h
    simp [State.gate, ho, hl, ht, ha, hb, hr, hp, hd, hi, hf, hret, hfree, hc, hx, h]
  case none =>
    intro hf hret hfree hc hx h
    simp [State.gate, ho, hl, ht, ha, hb, hr, hp, hd, hi, hf, hret, hfree, hc, hx, h]

end Sys2Proof.Machine
end

/-! ## The test access port and the DMA channels (O11, O14) -/
section
namespace Sys2Proof.Machine

/-- A scan of the boundary-scan register with all supplies good. -/
theorem State.tapScan_good {s : State} (hd : s.dbg.on = true) (hm : s.mainGood = true) (i : TapInstr) (pins v : Nat) :
    s.tapScan i pins v = (let s1 := (s.tapLoad i).emit (.tdo scanCells (pins % 2 ^ scanCells))
      { s1 with dbg := { s1.dbg with scan := v % 2 ^ scanCells } }) := by
  rw [State.tapScan, hd, hm]
  rfl

theorem State.tapBypass_on {s : State} (hd : s.dbg.on = true) (i : TapInstr) : s.tapBypass i = (s.tapLoad i).emit (.tdo 1 0) := if_pos hd

/-- Settles O11: with VCC_DBG good each instruction acts, by its register. -/
theorem testAccessPort : Obligations.TestAccessPort := by
  refine ⟨?reset, ?idcode, ?dbgreg, ?cmdpath, ?bypass, ?clamp, ?highz, ?extest, ?sample, ?pulse, ?train⟩
  case reset => exact fun s h => congrArg Host.Outcome.next (if_pos h)
  case idcode => exact fun s h => congrArg Host.Outcome.next (if_pos h)
  case dbgreg => exact fun v s h => congrArg Host.Outcome.next (if_neg (by simp [h]))
  case cmdpath => exact fun v s h => congrArg Host.Outcome.next (if_neg (by simp [h]))
  case bypass => exact fun s h => congrArg Host.Outcome.next (State.tapBypass_on h _)
  case clamp => exact fun s h => congrArg Host.Outcome.next (State.tapBypass_on h _)
  case highz => exact fun s h => congrArg Host.Outcome.next (State.tapBypass_on h _)
  case extest => exact fun pins v s hd hm => congrArg Host.Outcome.next (State.tapScan_good hd hm _ _ _)
  case sample => exact fun pins v s hd hm => congrArg Host.Outcome.next (State.tapScan_good hd hm _ _ _)
  case pulse => exact fun pins v s hd hm => congrArg Host.Outcome.next (State.tapScan_good hd hm _ _ _)
  case train => exact fun pins v s hd hm => congrArg Host.Outcome.next (State.tapScan_good hd hm _ _ _)

/-- An idle channel with aligned addresses that its direction admits starts, or ends at once where it has nothing to move (R119). -/
theorem State.dmaStart_idle {s : State} {c : Nat} (h0 : s.dmaState c = 0) (hs : s.dmaSrc c % 64 = 0) (hd : s.dmaDst c % 64 = 0)
    (hp : 2 ≤ s.getF (dmaCh c) F.DMA_CTL_dir → peerAddrOk (s.dmaSrc c) = true ∧ peerAddrOk (s.dmaDst c) = true) :
    s.dmaStart c = if s.getF (dmaCh c) F.DMA_LEN_len = 0 then s.dmaEnd c 0 true false
      else (s.setF (dmaCh c) F.DMA_CHSTAT_state 1).lower (dmaCh c) F.DMA_DONE_moved := by
  have hpeer : ¬ (2 ≤ s.getF (dmaCh c) F.DMA_CTL_dir ∧ (!(peerAddrOk (s.dmaSrc c) && peerAddrOk (s.dmaDst c))) = true) := by
    rintro ⟨h2, hbad⟩
    simp [hp h2] at hbad
  rw [State.dmaStart, if_neg (Classical.not_not.mpr h0),
    if_neg (not_or.mpr ⟨Classical.not_not.mpr hs, not_or.mpr ⟨Classical.not_not.mpr hd, hpeer⟩⟩)]

/-- Settles O14: a write reaches its channel, and a transfer ends in the state that its event needs. -/
theorem dmaChannels : Obligations.DmaChannels := by
  refine ⟨?start, ?disable, ?abort, ?disableDone, ?transferDone⟩
  case start =>
    intro m c v s s1 _ hf hr h0 hs hd hp
    exact congrArg Host.Outcome.next ((dmaWrite_ok _ hf hr).trans (State.dmaStart_idle h0 hs hd hp))
  case disable =>
    intro m c v s s1 _ hf hr h1
    exact congrArg Host.Outcome.next ((dmaWrite_ok _ hf hr).trans (if_pos h1))
  case abort =>
    intro m c v n es ans s _ hf hr h0
    exact congrArg Host.Outcome.next ((dmaWrite_ok _ hf hr).trans (congrArg (fun t => State.dmaCtl t c.val v.toNat) (if_neg h0)))
  case disableDone => exact fun c n es ans s h2 hh => congrArg Host.Outcome.next (if_pos ⟨h2, by simp [hh]⟩)
  case transferDone => exact fun c es ans s h1 hh => congrArg Host.Outcome.next (if_pos ⟨h1, by simp [hh]⟩)

end Sys2Proof.Machine
end

/-! ## Queue sets, the SPI path and the lattice queue (O4) -/
section
namespace Sys2Proof.Machine

/-! ### Registers of a set (R47, R88, R91, R93) -/

/-- A write of a set's register that its sender may make has its effect. -/
theorem setOwn_ok {s : State} {m : Master} {q r : Nat} (act : State → State) (hb : s.busUp = true)
    (hd : hqDenied m (0x100 + 0x40 * q + r) true = false) (he : setExists q = true) (hw : setWritable m q = true) :
    s.setOwn m q r act = act s := by
  simp [State.setOwn, State.setWrite, hb, hd, he, hw]

/-- One that its sender may not make gets its bus error. -/
theorem setOwn_barred {s : State} {m : Master} {q r : Nat} (act : State → State) (hb : s.busUp = true)
    (hd : hqDenied m (0x100 + 0x40 * q + r) true = false) (he : setExists q = true) (hw : setWritable m q = false) :
    s.setOwn m q r act = s.busError m true (setBase q) .mgmtOnly := by
  simp [State.setOwn, State.setWrite, hb, hd, he, hw]

/-- Enabling a set that is OFF starts it with empty rings (R91). -/
theorem State.enableSet_off {s : State} {q : Nat} (k : Nat) (h : (s.qset q).state = .off) : s.enableSet q k =
    (((s.setF (setBase q) F.HQ_Q_CTL_log2_slots k).raise (setBase q) F.HQ_Q_CTL_enable).ringsZero q).setQ q
      { state := if s.hq.handover then .held else .running, seq := 0 } := if_pos h

theorem State.enableSet_on {s : State} {q : Nat} (k : Nat) (h : (s.qset q).state ≠ .off) : s.enableSet q k =
    (s.setF (setBase q) F.HQ_Q_CTL_log2_slots k).raise (setBase q) F.HQ_Q_CTL_enable := if_neg h

/-! ### Fetching and replying (R89, R90, R94) -/

/-- COMMAND_FETCH where the set may fetch: by its ring. -/
theorem exec_commandFetch {q : Fin 16} {s : State} (h : s.canFetch q.val = true) : exec (.commandFetch q) s = .next
    (if s.ringBad q.val false (s.getF (setBase q.val) F.HQ_CQ_HEAD_head) 1020 then s.ringFail q.val
     else (s.setF (setBase q.val) F.HQ_CQ_HEAD_head ((s.getF (setBase q.val) F.HQ_CQ_HEAD_head + 1) % s.ringSlots q.val)).received (.set q)
       (s.ringWords q.val false (s.getF (setBase q.val) F.HQ_CQ_HEAD_head) 255)) :=
  congrArg Host.Outcome.next (if_pos h)

/-- No set fetches while one of its replies waits for a slot. -/
theorem canFetch_of_replyWait {s : State} {q : Nat} (h : s.replyWait q = true) : s.canFetch q = false := by
  simp [State.canFetch, h]

/-- The next reply of a path other than the lattice is one to a packet of that path. -/
theorem State.nextReply_src {s : State} {src : Src} {r : Reply} (hs : ∀ p, src ≠ .lattice p) (h : s.nextReply src = some r) : r.src = src := by
  have hr := List.find?_some h
  by_cases hc : r.completion = true
  · simpa [hc] using hr
  · have hsame : r.src.sameSet src = true := by simpa [hc] using hr
    unfold Src.sameSet at hsame
    split at hsame
    case h_1 p _ => exact absurd rfl (hs p)
    case h_2 => exact of_decide_eq_true hsame

/-- A reply to a packet of a running or held set, with a slot free in a good ring. -/
theorem State.writeReply_set {s : State} {r : Reply} {q : Fin 16} (hr : r.src = .set q) (h0 : (s.qset q.val).state ≠ .off)
    (h1 : (s.qset q.val).state ≠ .stopped) (hf : s.replyFree q.val = true)
    (hb : s.ringBad q.val true (s.getF (setBase q.val) F.HQ_RQ_TAIL_tail) 1024 = false) : s.writeReply r =
      (((((({ s with hq := { s.hq with ready := s.hq.ready.erase r } } : State).ringStore q.val true (s.getF (setBase q.val) F.HQ_RQ_TAIL_tail)
        (r.words (s.qset q.val).seq)).countReply q.val).setF (setBase q.val) F.HQ_RQ_TAIL_tail
        ((s.getF (setBase q.val) F.HQ_RQ_TAIL_tail + 1) % s.ringSlots q.val)).signal q.val).replySent r) := by
  simp only [State.writeReply, hr, hf, hb, beq_eq_false_iff_ne.mpr h0, beq_eq_false_iff_ne.mpr h1]
  rfl

/-- A reply to the SPI, with none there unacknowledged. -/
theorem State.writeReply_spi {s : State} {r : Reply} (hr : r.src = .spi) (h : s.hq.spiReply = false) : s.writeReply r =
    (let w := (({ s with hq := { s.hq with ready := s.hq.ready.erase r } } : State).spiStore (r.words (s.qset 16).seq)).countReply 16
     (({ w with hq := { w.hq with spiReply := true, spiRunning := w.hq.spiRunning && r.completion } } : State).signal 6).replySent r) := by
  simp only [State.writeReply, hr, h]
  rfl

/-- A reply to a peer of the lattice. -/
theorem State.writeReply_lattice {s : State} {r : Reply} {p : Nat} (hr : r.src = .lattice p) : s.writeReply r =
    (let x := (({ s with hq := { s.hq with ready := s.hq.ready.erase r } } : State).emit (.latticeReply p (r.words (s.qset 17).seq))).countReply 17
     { x with hq := { x.hq with latOut := x.hq.latOut ++ [(p, r.words (s.qset 17).seq)] } }) := by
  simp only [State.writeReply, hr]

/-- REPLY_WRITE writes the path's next reply where no handover is under way (R90, R115). -/
theorem exec_replyWrite {src : Src} {s : State} {r : Reply} (hh : s.hq.handover = false)
    (hr : (if s.fetching then s.settle src else s).nextReply src = some r) :
    exec (.replyWrite src) s = .next ((if s.fetching then s.settle src else s).writeReply r) := by
  show execReplyWrite src s = _
  simp only [execReplyWrite, hh, hr]
  rfl

/-! ### The SPI path (R94, R95) -/

theorem doorWrite_ok {s : State} {m : Master} (act : State → State) (hb : s.busUp = true) (hd : hqDenied m 0x40 true = false) :
    s.doorWrite m act = act s := by
  simp [State.doorWrite, hb, hd]

theorem State.spiGo_submits {s : State} (hr : s.hq.spiRunning = false) (ha : s.hq.spiReply = false) (hf : s.fetching = true) :
    s.spiGo = s.spiSubmit := by
  simp [State.spiGo, hr, ha, hf]

theorem State.spiGo_held {s : State} (hr : s.hq.spiRunning = false) (ha : s.hq.spiReply = false) (hf : s.fetching = false) :
    s.spiGo = { s with hq := { s.hq with spiRunning := true, spiGoHeld := true } } := by
  simp [State.spiGo, hr, ha, hf]

theorem State.spiGo_ignored {s : State} (h : s.hq.spiRunning = true ∨ s.hq.spiReply = true) : s.spiGo = s :=
  if_pos (by simpa using h)

/-- An acknowledgement with nothing to write after it. -/
theorem State.spiAck_nothing {s : State} (h : s.hq.handover = true ∨ s.hq.ready.find? (fun r => decide (r.src = .spi)) = none) :
    s.spiAck = { s with hq := { s.hq with spiReply := false } } := by
  unfold State.spiAck
  by_cases hh : s.hq.handover = true
  · exact if_pos hh
  · have hn := h.resolve_left hh
    simp only [hn, if_neg hh]

/-- An acknowledgement after which a reply that was held is written. -/
theorem State.spiAck_next {s : State} {r : Reply} (hh : s.hq.handover = false)
    (hr : s.hq.ready.find? (fun r => decide (r.src = .spi)) = some r) :
    s.spiAck = ({ s with hq := { s.hq with spiReply := false } } : State).writeReply r := by
  unfold State.spiAck
  simp only [hh, hr]
  rfl

/-! ### The lattice queue (R85) -/

theorem State.latReceive_room {s : State} (peer : Nat) (ws : List Word) (h : s.latFull = false) : s.latReceive peer ws =
    (let v : State := { s with hq := { s.hq with
       latQueue := s.hq.latQueue ++ [(pktOp ws + s.packetMark (.lattice peer) ws, pktCmd (.lattice peer) ws)] } }
     let x := if v.latFull then v.signal 19 else v
     if x.fetching then x.settle (.lattice peer) else x) := by
  simp only [State.latReceive, h]
  rfl

theorem State.latReceive_full {s : State} (peer : Nat) (ws : List Word) (h : s.latFull = true) : s.latReceive peer ws =
    (let x : State := { s with hq := { s.hq with
       latQueue := s.hq.latQueue ++ [(pktOp ws + s.packetMark (.lattice peer) ws + refusedMark, pktCmd (.lattice peer) ws)] } }
     if x.fetching then x.settle (.lattice peer) else x) := by
  simp only [State.latReceive, h]
  rfl

/-- Settles O4: each write reaches its register, and each path fetches, answers and queues by its own rule. -/
theorem commandPaths : Obligations.CommandPaths := by
  refine ⟨?tail, ?tailBad, ?tailBarred, ?head, ?headBad, ?enable, ?enableOn, ?disable, ?fetch, ?fetchFails, ?fetchWaits, ?replySet, ?replySpi,
    ?replyLattice, ?goSubmits, ?goHeld, ?goIgnored, ?ackNothing, ?ackNext, ?frameWrite, ?frameRead, ?frameStatus, ?frameOther, ?latticeRoom,
    ?latticeFull⟩
  case tail => exact fun m q v s hb hd he hw h => congrArg Host.Outcome.next ((setOwn_ok _ hb hd he hw).trans (if_pos h))
  case tailBad => exact fun m q v s hb hd he hw h => congrArg Host.Outcome.next ((setOwn_ok _ hb hd he hw).trans (if_neg (Nat.not_lt.mpr h)))
  case tailBarred => exact fun m q v s hb hd he hw => congrArg Host.Outcome.next (setOwn_barred _ hb hd he hw)
  case head => exact fun m q v s hb hd he hw h => congrArg Host.Outcome.next ((setOwn_ok _ hb hd he hw).trans (if_pos h))
  case headBad => exact fun m q v s hb hd he hw h => congrArg Host.Outcome.next ((setOwn_ok _ hb hd he hw).trans (if_neg (Nat.not_lt.mpr h)))
  case enable =>
    intro m q k s b hb hd he hw h
    exact congrArg Host.Outcome.next ((setOwn_ok _ hb hd he hw).trans (State.enableSet_off _ h))
  case enableOn => exact fun m q k s hb hd he hw h => congrArg Host.Outcome.next ((setOwn_ok _ hb hd he hw).trans (State.enableSet_on _ h))
  case disable =>
    intro m q k s b mine s1 s2 hb hd he hw
    exact congrArg Host.Outcome.next (setOwn_ok _ hb hd he hw)
  case fetch =>
    intro q s h hf hb
    rw [exec_commandFetch hf, if_neg (by simp [h, hb])]
  case fetchFails =>
    intro q s hf hb
    rw [exec_commandFetch hf, if_pos hb]
    rfl
  case fetchWaits =>
    intro q s hw
    exact congrArg Host.Outcome.next ((if_neg (by simp [canFetch_of_replyWait hw])).trans (if_pos hw))
  case replySet =>
    intro q r s u t gone hh hr h0 h1 hf hb
    rw [exec_replyWrite hh hr, State.writeReply_set (State.nextReply_src (fun _ => Src.noConfusion) hr) h0 h1 hf hb]
  case replySpi =>
    intro r s u gone w hh hr ha
    rw [exec_replyWrite hh hr, State.writeReply_spi (State.nextReply_src (fun _ => Src.noConfusion) hr) ha]
  case replyLattice =>
    intro row peer r s u gone hh hr hp
    rw [exec_replyWrite hh hr, State.writeReply_lattice hp]
  case goSubmits => exact fun m s hb hd hr ha hf => congrArg Host.Outcome.next ((doorWrite_ok _ hb hd).trans (State.spiGo_submits hr ha hf))
  case goHeld => exact fun m s hb hd hr ha hf => congrArg Host.Outcome.next ((doorWrite_ok _ hb hd).trans (State.spiGo_held hr ha hf))
  case goIgnored => exact fun m s hb hd h => congrArg Host.Outcome.next ((doorWrite_ok _ hb hd).trans (State.spiGo_ignored h))
  case ackNothing => exact fun m s hb hd h => congrArg Host.Outcome.next ((doorWrite_ok _ hb hd).trans (State.spiAck_nothing h))
  case ackNext =>
    intro m r s gone w hb hd hh hr
    have hsrc : r.src = .spi := by simpa using List.find?_some hr
    exact congrArg Host.Outcome.next ((doorWrite_ok _ hb hd).trans ((State.spiAck_next hh hr).trans (State.writeReply_spi hsrc rfl)))
  case frameWrite => exact fun off ws s h => congrArg Host.Outcome.next (if_pos h)
  case frameRead => exact fun off n s h => congrArg Host.Outcome.next (if_pos h)
  case frameStatus => exact fun s h => congrArg Host.Outcome.next (if_pos h)
  case frameOther => exact fun _ _ => rfl
  case latticeRoom =>
    intro peer ws s u mark h
    exact congrArg Host.Outcome.next (State.latReceive_room peer ws h)
  case latticeFull =>
    intro peer ws s u mark h
    exact congrArg Host.Outcome.next (State.latReceive_full peer ws h)

end Sys2Proof.Machine
end

/-! ## Loops, oscillators and clock outputs (O21) -/
section
namespace Sys2Proof.Machine

/-! ### A loop's target (R109) -/

/-- LOOP_SET of a station loop is one long operation. -/
theorem exec_loopSet_station {c : Cmd} {n : Nat} (h : c.loopOf = some n) (s : State) : exec (.loopSet c) s = .next
    (s.long 0x0302 c
      { len := c.len == 6, par := c.loopSetOk, free := !s.heldByOther c && (!s.loopInterrupts n c || c.f 2 24 24 == 1 || !s.loopFeeds n) } none
      (fun s => s.loopSet n c)) := by
  show execLoopSet c s = _
  rw [execLoopSet, h]

/-- LOOP_SET of a fabric loop is one long operation. -/
theorem exec_loopSet_fabric {c : Cmd} {q : Nat} (hn : c.loopOf = none) (h : c.floopOf = some q) (s : State) : exec (.loopSet c) s = .next
    (s.long 0x0302 c
      { len := c.len == 6, par := s.floopSetOk q c, dom := !s.blkOff (q + 1) 8,
        free := !s.heldByOther c && (!s.floopInterrupts q c || c.f 2 31 31 == 1 || !s.floopFeeds q (c.f 2 23 20)) } none
      (fun s => s.floopSet q c)) := by
  show execLoopSet c s = _
  rw [execLoopSet, hn, h]

/-- XO_STOP 1 s after the last loop or output that named XO[1] was changed (R358). -/
theorem exec_xoStop {s : State} (hf : s.clk.xo1Free.isSome = true) (hn : s.xo1Named = false) : exec .xoStop s = .next
    (let s1 := s.reachNow ((s.clk.xo1Free.getD 0) + 1000000000)
     ({ s1 with clk := { s1.clk with xo1Free := none } } : State).toXo 1 0) := by
  have hc : (s.clk.xo1Free.isSome && !s.xo1Named) = true := by rw [hf, hn]; rfl
  show execXoStop s = _
  rw [execXoStop, if_pos hc]

/-- Settles O21: a taken packet passes its checks, and each event of a loop or an oscillator meets its guard. -/
theorem loopsAndClocks : Obligations.LoopsAndClocks := by
  refine ⟨?loopSet, ?floopSet, ?loopSetQuery, ?floopSetQuery, ?window, ?windowQuery, ?fallback, ?clkoutSet, ?clkoutSetQuery, ?lockStation,
    ?lockFabric, ?monitorTrip, ?refQualify, ?xoReady, ?xoFail, ?xoStop, ?xo0Stopped, ?fabricLost, ?fabricRelock⟩
  case loopSet =>
    intro c n s h ht hl hp hh hi
    rw [exec_loopSet_station h, long_ok none _ ht (by simp only [Chk.ok_iff]; simp [hl, hp, hh, hi])]
  case floopSet =>
    intro c q s hn h ht hl hp hd hh hi
    rw [exec_loopSet_fabric hn h, long_ok none _ ht (by simp only [Chk.ok_iff]; simp [hl, hp, hd, hh, hi])]
  case loopSetQuery =>
    intro c n s b h ht hl u
    show execLoopSetQuery c s = _
    rewrite [execLoopSetQuery, h]
    exact congrArg Host.Outcome.next (immediate_ok _ ht (by simp [Chk.ok, hl]))
  case floopSetQuery =>
    intro c q s b hn h ht hl h31 h19 hd u
    show execLoopSetQuery c s = _
    rewrite [execLoopSetQuery, hn, h]
    exact congrArg Host.Outcome.next (immediate_ok _ ht (by simp [Chk.ok, hl, h31, h19, hd]))
  case window =>
    intro c s ht hl htgt hp hh u
    exact congrArg Host.Outcome.next (immediate_ok _ ht (by simp only [Chk.ok, hl, htgt, hp, hh]; rfl))
  case windowQuery =>
    intro c s ht hl htgt u r
    exact congrArg Host.Outcome.next (immediate_ok _ ht (by simp only [Chk.ok, hl, htgt]; rfl))
  case fallback =>
    intro c s n action ht hl htgt h31 ho hs hh hf u r
    have hpar : (c.f 2 31 1 == 0 && s.loopState n != slOff && s.loopSource n != 1) = true := by simp [h31, ho, hs]
    have hfree := Bool.and_eq_true_iff.mpr ⟨hh, hf⟩
    exact congrArg Host.Outcome.next (immediate_ok _ ht ((Chk.ok_iff _).mpr ⟨beq_iff_eq.mpr hl, htgt, rfl, hpar, rfl, rfl, rfl, hfree, rfl⟩))
  case clkoutSet =>
    intro c s ht hl htgt hp hh u
    exact congrArg Host.Outcome.next (immediate_ok _ ht (by simp only [Chk.ok, hl, htgt, hp, hh]; rfl))
  case clkoutSetQuery =>
    intro c s ht hl htgt h31 h23 u r
    exact congrArg Host.Outcome.next (immediate_ok _ ht (by simp only [Chk.ok, hl, htgt, h31, h23]; rfl))
  case lockStation =>
    intro l f n s hl h s1
    subst hl
    exact congrArg Host.Outcome.next (if_pos h)
  case lockFabric =>
    intro l f q k s hl h
    subst hl
    exact congrArg Host.Outcome.next (if_neg h)
  case monitorTrip =>
    intro n s b src h s1 s2
    exact congrArg Host.Outcome.next (if_neg h)
  case refQualify =>
    intro n f s h s1
    exact congrArg Host.Outcome.next (if_neg h)
  case xoReady =>
    intro i s h s0 s1 s2
    exact congrArg Host.Outcome.next (if_pos h)
  case xoFail =>
    intro i s h
    exact congrArg Host.Outcome.next (if_pos h)
  case xoStop =>
    intro s h hn s1
    exact exec_xoStop h hn
  case xo0Stopped => exact fun _ => rfl
  case fabricLost => exact fun q l s h => congrArg Host.Outcome.next (if_neg h)
  case fabricRelock => exact fun q l s h => congrArg Host.Outcome.next (if_neg h)

end Sys2Proof.Machine
end

/-! ## Serial lanes (O22) -/
section
namespace Sys2Proof.Machine

/-- The end of a lane's calibration that no restoration awaits (R402, R405). -/
theorem State.calEnds_plain {s : State} {n : Nat} (h : s.laneReturns n = false) (pass : Bool) :
    s.calEnds n pass = if pass then (s.calDrop n).calPassed n else (s.calDrop n).calFailed n :=
  if_neg (by simp [h])

/-- Settles O22: a taken packet passes its checks, and each event of a lane meets the lane's state. -/
theorem serialLanes : Obligations.SerialLanes := by
  refine ⟨?set, ?setQuery, ?prbs, ?prbsQuery, ?eye, ?bitslip, ?cal, ?retire, ?setActBad, ?setAct, ?setCompletion, ?signalDetect, ?signalLoss,
    ?cdrLocking, ?cdrRecovering, ?lockTimeout, ?alignAcquire, ?alignSlip, ?huntTimeout, ?alignLoss, ?recoveryTimeout, ?refLost, ?refReturn,
    ?prbsLock, ?prbsLockLoss, ?eyeCompletion, ?calCompletion, ?calEvent, ?retireCompletion, ?wordTest, ?wordService, ?wordOther⟩
  case set =>
    intro c s n w ht hl htgt hp hd hr hh ha hi hw u
    have hfree := Bool.and_eq_true_iff.mpr ⟨Bool.and_eq_true_iff.mpr ⟨hh, ha⟩, hi⟩
    exact congrArg Host.Outcome.next (long_ok _ id ht
      ((Chk.ok_iff _).mpr ⟨beq_iff_eq.mpr hl, htgt, rfl, hp, hd, rfl, bne_iff_ne.mpr hr, hfree, hw⟩))
  case setQuery =>
    intro c s b ht hl htgt hd u r
    exact congrArg Host.Outcome.next (immediate_ok _ ht (by simp only [Chk.ok, hl, htgt, hd]; rfl))
  case prbs =>
    intro c s n ht hl htgt h31 h27 h21 hd hr hh ha u
    have hpar : (decide (c.f 2 31 28 ≤ 7) && decide (c.f 2 27 24 ≤ 7) && c.f 2 21 1 == 0) = true := by simp [h31, h27, h21]
    exact congrArg Host.Outcome.next (immediate_ok _ ht
      ((Chk.ok_iff _).mpr ⟨beq_iff_eq.mpr hl, htgt, rfl, hpar, hd, rfl, bne_iff_ne.mpr hr, Bool.and_eq_true_iff.mpr ⟨hh, ha⟩, rfl⟩))
  case prbsQuery =>
    intro c s n ht hl htgt hd u
    exact congrArg Host.Outcome.next (immediate_ok _ ht (by simp only [Chk.ok, hl, htgt, hd]; rfl))
  case eye =>
    intro c s n ht hl htgt ha hp hd hr hh he u
    exact congrArg Host.Outcome.next (long_ok none _ ht
      ((Chk.ok_iff _).mpr ⟨beq_iff_eq.mpr hl, htgt, ha, hp, hd, rfl, bne_iff_ne.mpr hr, Bool.and_eq_true_iff.mpr ⟨hh, he⟩, rfl⟩))
  case bitslip =>
    intro c s n ht hl htgt h31 h1 hw hs hd hr hh u r
    have hpar : (c.f 2 31 7 == 0 && decide (1 ≤ c.w 2) && decide (c.w 2 < slipWidth (s.lanePcs n)) &&
        (s.laneState n == lnService || s.laneState n == lnTest)) = true := by simp only [h31, h1, hw, hs]; rfl
    exact congrArg Host.Outcome.next (immediate_ok _ ht
      ((Chk.ok_iff _).mpr ⟨beq_iff_eq.mpr hl, htgt, rfl, hpar, hd, rfl, bne_iff_ne.mpr hr, hh, rfl⟩))
  case cal =>
    intro c s n full ht hl htgt h31 hd hr hh hf u
    exact congrArg Host.Outcome.next (long_ok none _ ht
      ((Chk.ok_iff _).mpr ⟨beq_iff_eq.mpr hl, htgt, rfl, beq_iff_eq.mpr h31, hd, rfl, bne_iff_ne.mpr hr,
        Bool.and_eq_true_iff.mpr ⟨hh, hf⟩, rfl⟩))
  case retire =>
    intro c s n ht hl htgt hd hr hh u
    exact congrArg Host.Outcome.next (long_ok none id ht
      ((Chk.ok_iff _).mpr ⟨beq_iff_eq.mpr hl, htgt, rfl, rfl, hd, rfl, bne_iff_ne.mpr hr, hh, rfl⟩))
  case setActBad =>
    intro n edge o s ho h8 href
    show execLaneSetAct n edge s = _
    rewrite [execLaneSetAct, ho]
    exact congrArg Host.Outcome.next (if_pos ⟨h8, by rw [href]; rfl⟩)
  case setAct =>
    intro n edge o s ho href ws s1 s2
    show execLaneSetAct n edge s = _
    rewrite [execLaneSetAct, ho]
    refine congrArg Host.Outcome.next (if_neg fun hbad => ?_)
    obtain ⟨h8, hoff⟩ := hbad
    exact href.elim (fun h => absurd h8 (Nat.not_lt.mpr h)) (fun h => by simp [h] at hoff)
  case setCompletion =>
    intro n locked o s ho
    show execLaneSetCompletion n locked s = _
    rw [execLaneSetCompletion, ho]
  case signalDetect =>
    intro n s ho hr s1
    exact congrArg Host.Outcome.next (if_neg (not_or.mpr ⟨ho, hr⟩))
  case signalLoss => exact fun _ _ => rfl
  case cdrLocking => exact fun n s h => congrArg Host.Outcome.next (if_pos h)
  case cdrRecovering => exact fun n s h hr hp => congrArg Host.Outcome.next ((if_neg h).trans (if_pos ⟨hr, hp⟩))
  case lockTimeout => exact fun n s h => congrArg Host.Outcome.next (if_pos h)
  case alignAcquire =>
    intro n pos s st h
    exact congrArg Host.Outcome.next (if_pos h)
  case alignSlip =>
    intro n pos s st hh hr hs hb hp
    exact congrArg Host.Outcome.next ((if_neg (not_or.mpr ⟨hh, hr⟩)).trans (if_pos ⟨hs, hb, hp⟩))
  case huntTimeout => exact fun n s h => congrArg Host.Outcome.next (if_pos h)
  case alignLoss =>
    intro n s h hd s1 r
    exact congrArg Host.Outcome.next (if_pos (by rw [h, hd]; rfl))
  case recoveryTimeout =>
    intro n s h f
    exact congrArg Host.Outcome.next (if_pos h)
  case refLost => exact fun _ _ _ => rfl
  case refReturn => exact fun _ _ _ => rfl
  case prbsLock => exact fun n s h hr => congrArg Host.Outcome.next (if_pos ⟨h, hr⟩)
  case prbsLockLoss => exact fun n s h => congrArg Host.Outcome.next (if_pos h)
  case eyeCompletion =>
    intro n counts o s ho a s1
    show execLaneEyeCompletion n counts s = _
    rw [execLaneEyeCompletion, ho]
  case calCompletion =>
    intro n pass o s hd ho
    show execLaneCalCompletion n pass s = _
    rw [execLaneCalCompletion, if_neg hd, ho]
  case calEvent =>
    intro n pass s hd ho hx hn hr s1
    show execLaneCalCompletion n pass s = _
    rw [execLaneCalCompletion, if_neg hd, ho]
    exact congrArg Host.Outcome.next ((if_neg (by rw [hx]; exact Bool.false_ne_true)).trans ((if_pos hn).trans (State.calEnds_plain hr pass)))
  case retireCompletion =>
    intro n o s ho
    show execLaneRetireCompletion n s = _
    rw [execLaneRetireCompletion, ho]
  case wordTest => exact fun n w s h hl => congrArg Host.Outcome.next (if_pos ⟨h, hl⟩)
  case wordService =>
    intro n w s ht hs d s0 s1
    exact congrArg Host.Outcome.next ((if_neg ht).trans (if_pos hs))
  case wordOther => exact fun n w s hs ht => congrArg Host.Outcome.next ((if_neg ht).trans (if_neg hs))

end Sys2Proof.Machine
end

/-! ## Stream ports, the register port, lines and probes (O15) -/
section
namespace Sys2Proof.Machine

/-- Settles O15: a write reaches its register, and the register port's rows act on the oldest request that its lists hold. -/
theorem portsAndProbes : Obligations.PortsAndProbes := by
  refine ⟨?beatReceive, ?beatRequest, ?spCtl, ?request, ?late, ?response, ?timeoutTaken, ?timeoutWaiting, ?line, ?probe⟩
  case beatReceive => exact fun _ _ _ _ _ => rfl
  case beatRequest => exact fun _ _ _ _ => rfl
  case spCtl => exact fun m q p v s hr => congrArg Host.Outcome.next (ownWrite_ok hr)
  case request =>
    intro q r t s hw ho hready
    show execRegportRequest q s = _
    rw [execRegportRequest, hw]
    exact congrArg Host.Outcome.next (if_pos ⟨ho, hready⟩)
  case late => exact fun q err data s hl => congrArg Host.Outcome.next (if_pos hl)
  case response =>
    intro q err data r t s hl ho s1
    refine congrArg Host.Outcome.next ((if_neg (Classical.not_not.mpr hl)).trans ?_)
    generalize s.rpOut q.val = l at ho
    subst ho
    rfl
  case timeoutTaken =>
    intro q r t s ho s1 s2
    show execRegportTimeout q s = _
    rw [execRegportTimeout, ho]
  case timeoutWaiting =>
    intro q r t s ho hw
    show execRegportTimeout q s = _
    rw [execRegportTimeout, ho, hw]
  case line => exact fun _ _ _ _ => rfl
  case probe =>
    intro m q v s hr hl
    exact congrArg Host.Outcome.next ((ownWrite_ok hr).trans (if_neg (by simp [hl])))

end Sys2Proof.Machine
end

/-! ## Bays, raw access, queues, arithmetic units and tiles (O16) -/
section
namespace Sys2Proof.Machine

/-! ### A cycle of a bay port (R168, R169, R176) -/

/-- A single input bit of a bay port. -/
theorem State.bayPins_one (s : State) (u : Nat) (portB : Bool) (lo v : Nat) : s.bayPins u portB lo 1 v =
    bit (s.pinBit (unitQuad u) (Mux.bay (u % 4296) (bit portB) lo) ((s.bayIn u portB).testBit lo) (v.testBit 0)) := by
  simp [State.bayPins, State.pinBits]

/-- A bit that is 1 whatever the operand says is 1 where the operand says 1 (R169). -/
theorem State.bayPins_one_of_zero {s : State} {u lo : Nat} {portB : Bool} (h : s.bayPins u portB lo 1 0 = 1) : s.bayPins u portB lo 1 1 = 1 := by
  rw [State.bayPins_one] at h ⊢
  cases hin : (s.bayIn u portB).testBit lo <;> simp_all [State.pinBit, bit]

/-- The bay as a cycle of a port finds it: cleared where routing brings clr to port A (R176), also for a read, and not while contents are loaded (the
model's choices, assumption log 95). -/
def State.portFinds (s : State) (u : Nat) (portB : Bool) : State := if !portB && s.bayPins u false 64 1 0 == 1 then s.bayClr u else s

section
variable {s : State} {u : Nat} {portB we : Bool} {laneWe : BitVec 4} {addr : BitVec 18} {din : BitVec 40}

/-- A port without en is idle. -/
theorem State.portCycle_idle (he : (s.portFinds u portB).bayPins u portB 0 1 1 = 0) :
    s.portCycle u portB we laneWe addr din = s.portFinds u portB := if_pos he

/-- A cycle with en and we writes, unless contents are being loaded or the bay is cleared in it. -/
theorem State.portCycle_write (he : (s.portFinds u portB).bayPins u portB 0 1 1 ≠ 0)
    (hw : (s.portFinds u portB).bayPins u portB 1 1 (bit we) = 1) :
    s.portCycle u portB we laneWe addr din =
      let t := s.portFinds u portB
      if t.unitLoading u || (!portB && s.bayPins u false 64 1 0 == 1) then t
      else t.portWrite u portB (BitVec.ofNat 4 (t.bayPins u portB 2 4 laneWe.toNat)) (t.bayPins u portB 6 18 addr.toNat)
        (BitVec.ofNat 40 (t.bayPins u portB 24 40 din.toNat)) :=
  (if_neg he).trans (if_pos hw)

/-- A cycle without we reads where en is 1. -/
theorem State.portCycle_read (hw : (s.portFinds u portB).bayPins u portB 1 1 (bit we) ≠ 1) :
    s.portCycle u portB we laneWe addr din =
      let t := s.portFinds u portB
      if t.bayPins u portB 0 1 1 = 0 then t
      else if t.unitLoading u then t.emit (.bayRead u 0 0 false)
      else t.portRead u portB (t.bayPins u portB 6 18 addr.toNat) :=
  ite_congr rfl (fun _ => rfl) (fun _ => if_neg hw)

end

/-- The two orders of a guard of two conditions. -/
theorem ite_not_or_not {α : Type} (a b : Bool) (x y : α) : (if !a || !b then x else y) = if a && b then y else x := by
  cases a <;> cases b <;> rfl

section
variable {q : Fin 4} {deep portB : Bool} {i : Fin 4096} {s : State}

/-- BAY_WRITE and BAY_READ are a cycle of a port that exists and is open, and nothing else. -/
theorem exec_bayWrite (laneWe : BitVec 4) (addr : BitVec 18) (din : BitVec 40) : exec (.bayWrite q deep i portB laneWe addr din) s =
    .next (if bayExists deep i.val && s.portOpen (bayUnit q.val deep i.val) portB then
      s.portCycle (bayUnit q.val deep i.val) portB true laneWe addr din else s) :=
  congrArg Host.Outcome.next (ite_not_or_not _ _ _ _)

theorem exec_bayRead (addr : BitVec 18) : exec (.bayRead q deep i portB addr) s =
    .next (if bayExists deep i.val && s.portOpen (bayUnit q.val deep i.val) portB then
      s.portCycle (bayUnit q.val deep i.val) portB false 0 addr 0 else s) :=
  congrArg Host.Outcome.next (ite_not_or_not _ _ _ _)

end

/-! ### Maintenance slots and raw accesses (R181, R190–R192) -/

/-- A queued group is mended or rebuilt, as its job says. -/
theorem State.doJob_queued {s : State} {u : Nat} {j : BayJob} (hj : s.bayJob u = some j) :
    s.doJob u j.rebuild = if j.rebuild then (s.setJob u none).rebuildGroup u j.group else (s.setJob u none).mendGroup u j.group := by
  simp [State.doJob, hj]

section
variable {q : Fin 4} {deep : Bool} {i : Fin 4096} {s : State}

/-- A mend or a rebuild whose unit exists and whose slot comes does its job, after a raw access that waits for the unit (R181). -/
theorem exec_bayMend (hx : bayExists deep i.val = true) (hs : s.slotFree (bayUnit q.val deep i.val) = true) :
    exec (.bayMend q deep i) s = .next ((s.rawFirst (bayUnit q.val deep i.val)).doJob (bayUnit q.val deep i.val) false) :=
  congrArg Host.Outcome.next (if_neg (by rw [hx, hs]; decide))

theorem exec_bayRebuild (hx : bayExists deep i.val = true) (hs : s.slotFree (bayUnit q.val deep i.val) = true) :
    exec (.bayRebuild q deep i) s = .next ((s.rawFirst (bayUnit q.val deep i.val)).doJob (bayUnit q.val deep i.val) true) :=
  congrArg Host.Outcome.next (if_neg (by rw [hx, hs]; decide))

end

/-- The fields of QC_RAW_CTL in a word that asks for a read or, with `wr`, a write. -/
theorem rawCtl_fields (wr deep : Bool) (bay : BitVec 12) : let v := (1 + bit wr) * 131072 + bit deep * 65536 + bay.toNat
    bitsOf v 16 16 = bit deep ∧ v % 4096 = bay.toNat ∧ v.testBit 17 = !wr ∧ v.testBit 18 = wr := by
  have hbay := bay.isLt
  simp only [bitsOf, Nat.shiftRight_eq_div_pow, Nat.testBit_eq_decide_div_mod_eq, Nat.reduceSub, Nat.reduceAdd, Nat.reducePow]
  cases wr <;> cases deep <;> simp only [bit, Bool.not_true, Bool.not_false, decide_eq_true_eq, decide_eq_false_iff_not, reduceIte,
    Bool.false_eq_true] <;> omega

/-- A raw access in range is pending from the write of QC_RAW_CTL on, where none was and the policy bars no write. -/
theorem State.rawCtl_pending {s : State} {q : Nat} {wr : Bool} (deep : Bool) (bay : BitVec 12) (hlock : wr = true → s.injectLocked = false)
    (hnone : SMap.get none s.bays.raw q = none) :
    let b := qcBase q
    let s1 := (s.setF b F.QC_RAW_CTL_deep (bit deep)).setF b F.QC_RAW_CTL_bay bay.toNat
    s1.rawRefused q = false →
    s.rawCtl q ((1 + bit wr) * 131072 + bit deep * 65536 + bay.toNat) =
      ({ s1 with bays := { s1.bays with raw := SMap.put none s1.bays.raw q (some wr) } } : State).raise b F.QC_RAW_CTL_pending := by
  intro b s1 hok
  obtain ⟨hdeep, hbay, h17, h18⟩ := rawCtl_fields wr deep bay
  have hgo : (!(wr || !wr) || (wr && s.injectLocked) || (SMap.get none s.bays.raw q).isSome) = false := by
    cases wr <;> simp [hnone, hlock]
  rw [State.rawCtl, hdeep, hbay, h17, h18]
  exact (if_neg (ne_true_of_eq_false hgo)).trans (if_neg (ne_true_of_eq_false hok))

/-- A pending raw access out of range is refused. -/
theorem State.rawAct_refused {s : State} {q : Nat} {wr : Bool} (hp : SMap.get none s.bays.raw q = some wr) (hr : s.rawRefused q = true) :
    s.rawAct q = (s.rawOver q).rawMark q F.QC_BAYERR_STAT_raw_refused := by
  rw [State.rawAct, hp]
  exact if_pos hr

theorem State.rawAct_acts {s : State} {q : Nat} {wr : Bool} (hp : SMap.get none s.bays.raw q = some wr) (hr : s.rawRefused q = false) :
    s.rawAct q = if wr then (s.rawOver q).rawWrite q else (s.rawOver q).rawRead q := by
  rw [State.rawAct, hp]
  exact if_neg (by simp [hr])

/-- Settles O16: a port's rows are its cycle, a maintenance slot's rows what is pending in it, and an edge that counts the unit's next value.
That a held unit keeps its registers until its hold ends is the model's choice (assumption log 106). -/
theorem baysQueuesAndArithmetic : Obligations.BaysQueuesAndArithmetic := by
  refine ⟨?write, ?writeReads, ?idle, ?read, ?clear, ?clearIdle, ?mend, ?rebuild, ?check, ?rawRead, ?rawWrite, ?rawRefused, ?rawDone,
    ?rawTimeout, ?queueWrite, ?queueRead, ?qctl, ?flush, ?sauReset, ?sauHeld, ?sauAdvance, ?tile⟩
  case write =>
    intro q deep i portB laneWe addr din s u clr s0 pin hx ho hl he hw width a p
    rw [exec_bayWrite, hx, ho]
    refine congrArg Host.Outcome.next ((State.portCycle_write (s := s) (u := u) (portB := portB) (we := true) he hw).trans ?_)
    show (if s0.unitLoading u || clr then s0 else _) = _
    rw [hl, Bool.false_or]
    rfl
  case writeReads =>
    intro q deep i portB laneWe addr din s u s0 hw
    have hw0 : s0.bayPins u portB 1 1 0 ≠ 1 := fun h => hw (State.bayPins_one_of_zero h)
    rw [exec_bayWrite, exec_bayRead, State.portCycle_read (s := s) (u := u) (we := true) hw, State.portCycle_read (s := s) (u := u) (we := false) hw0]
  case idle =>
    intro q deep i portB laneWe addr din s u s0 t he
    rw [exec_bayWrite, exec_bayRead, State.portCycle_idle (s := s) (u := u) he, State.portCycle_idle (s := s) (u := u) he]
    exact ⟨rfl, rfl⟩
  case read =>
    intro q deep i portB addr s u s0 pin a hx ho he
    rw [exec_bayRead, exec_bayWrite, hx, ho]
    by_cases hw : pin 1 1 0 = 1
    · rw [if_pos hw]
      exact congrArg Host.Outcome.next ((State.portCycle_write (s := s) (u := u) (we := false) he hw).trans
        (State.portCycle_write (s := s) (u := u) (we := true) he (State.bayPins_one_of_zero hw)).symm)
    · rw [if_neg hw]
      exact congrArg Host.Outcome.next ((State.portCycle_read (s := s) (u := u) (we := false) hw).trans (if_neg he))
  case clear =>
    intro q deep i s u hx ho hc
    have hgo : (!bayExists deep i.val || !s.portOpen u false || decide (s.bayPins u false 64 1 1 = 0)) = false := by
      rw [hx, ho, decide_eq_false hc]; rfl
    exact congrArg Host.Outcome.next (if_neg (ne_true_of_eq_false hgo))
  case clearIdle => exact fun q deep i s hc => congrArg Host.Outcome.next (if_pos (by simp [hc]))
  case mend =>
    intro q deep i j s u t hx hs hj hr
    rw [exec_bayMend hx hs, ← hr, State.doJob_queued hj, hr]
    rfl
  case rebuild =>
    intro q deep i j s u t hx hs hj hr
    rw [exec_bayRebuild hx hs, ← hr, State.doJob_queued hj, hr]
    rfl
  case check =>
    intro q deep i s
    dsimp only
    intro hx hs hj hen
    have hgo : ¬ (!bayExists deep i.val || !s.slotFree (bayUnit q.val deep i.val) || (s.bayJob (bayUnit q.val deep i.val)).isSome ||
        !s.flag (scrubBase q.val) F.SCRUB_CFG_bay_en) = true := by
      simp only [hx, hs, hj, hen]; decide
    show execBayScrubCheck q deep i s = _
    rw [execBayScrubCheck]
    dsimp only
    rw [if_neg hgo]
  case rawRead =>
    intro m q deep bay s b s1 hr hn hok
    exact congrArg Host.Outcome.next ((ownWrite_ok hr).trans (State.rawCtl_pending (wr := false) deep bay (fun h => absurd h Bool.false_ne_true) hn hok))
  case rawWrite =>
    intro m q deep bay s b s1 hr hl hn hok
    exact congrArg Host.Outcome.next ((ownWrite_ok hr).trans (State.rawCtl_pending (wr := true) deep bay (fun _ => hl) hn hok))
  case rawRefused =>
    intro q wr s hp hr
    exact congrArg Host.Outcome.next ((if_pos (by rw [hr]; rfl)).trans (State.rawAct_refused hp hr))
  case rawDone =>
    intro q wr s hp hr hs
    exact congrArg Host.Outcome.next ((if_pos (by rw [hs, Bool.or_true])).trans (State.rawAct_acts hp hr))
  case rawTimeout =>
    intro q wr s hp
    show execRawAccessTimeout q s = _
    rw [execRawAccessTimeout, hp]
  case queueWrite =>
    intro q n data poison seen b s hb hrun was p0 p s1
    show execQueueWrite q n data poison seen s = _
    rw [execQueueWrite, hb]
    exact congrArg Host.Outcome.next (if_neg (by rw [hrun]; decide))
  case queueRead =>
    intro q n seen b s hb hrun p0 p s1
    show execQueueRead q n seen s = _
    rw [execQueueRead, hb]
    exact congrArg Host.Outcome.next (if_neg (by rw [hrun]; decide))
  case qctl => exact fun m q n v s hr => congrArg Host.Outcome.next (ownWrite_ok hr)
  case flush => exact fun m q n s hr => congrArg Host.Outcome.next (ownWrite_ok hr)
  case sauReset =>
    intro q n sm u k adv rst fresh s hc hrst
    exact congrArg Host.Outcome.next ((if_neg (by rw [hc]; decide)).trans (if_pos hrst))
  case sauHeld =>
    intro q n sm u k adv rst fresh s old hc hrst hheld
    exact congrArg Host.Outcome.next ((if_neg (by rw [hc]; decide)).trans ((if_neg hrst).trans (if_pos (by simpa using hheld))))
  case sauAdvance =>
    intro q n sm u k adv rst fresh s pin old r hc hrst hadv hhold
    have hgo : ¬ (decide (pin 129 1 (bit adv) = 0) || s.holding (sauFacet q.val n.val)) = true := by simp [hadv, hhold]
    exact congrArg Host.Outcome.next ((if_neg (by rw [hc]; decide)).trans ((if_neg hrst).trans (if_neg hgo)))
  case tile => exact fun _ _ _ _ _ => rfl

end Sys2Proof.Machine
end

/-! ## Reads and writes of bay words (O45–O48)

The rules of a bay's words: which operations leave them as they are, what a store leaves in the word it names, and what a cycle of a port does to
each. -/
section
namespace Sys2Proof.Machine

/-! ### A word after one word is replaced, and after its bay is cleared (R166, R176) -/

/-- The word depends on the bays alone. -/
theorem State.bword_congr {s t : State} (h : t.bays.words = s.bays.words) (u w : Nat) : t.bword u w = s.bword u w := by
  rw [State.bword, State.bword, h]

@[simp] theorem State.bword_setBword_same (s : State) (u w : Nat) (v : BWord) : (s.setBword u w v).bword u w = v :=
  SMap.get_put_same _ _ _ _

theorem State.bword_setBword_other (s : State) {u w u' w' : Nat} (v : BWord) (hw : w < 65536) (hw' : w' < 65536) (h : ¬ (u' = u ∧ w' = w)) :
    (s.setBword u w v).bword u' w' = s.bword u' w' :=
  SMap.get_put_other _ _ _ _ _ (by omega)

/-- No address lies beyond the keys of a unit's words. -/
theorem mod_unitDepth_lt (a u : Nat) : a % unitDepth u < 65536 := by
  unfold unitDepth
  split <;> omega

theorem State.bword_clearUnit_other (s : State) {u u' w : Nat} (hw : w < 65536) (h : u' ≠ u) : (s.clearUnit u).bword u' w = s.bword u' w :=
  (SMap.get_cut _ _ _ _ _).trans (if_neg (by omega))

theorem State.bword_bayClr_other (s : State) {u u' w : Nat} (hw : w < 65536) (h : u' ≠ u) : (s.bayClr u).bword u' w = s.bword u' w := by
  unfold State.bayClr
  split
  · rfl
  · exact s.bword_clearUnit_other hw h

/-! ### What leaves the words as they are (R178–R181) -/

/-- Setting a record and signalling its source changes no bay. -/
@[simp] theorem State.mark_bays (s : State) (b : Nat) (f : Fld) (src : Nat) : (s.mark b f src).bays = s.bays :=
  (State.mark_kept (kK := 2 ^ Comp.bays.idx) (by decide) (Kept.self _ (s := s) (M := fun _ => True) trivial)).1 .bays (by decide)

@[simp] theorem State.bayMark_bays (s : State) (u : Nat) (f : Fld) : (s.bayMark u f).bays = s.bays := s.mark_bays _ _ _

@[simp] theorem State.setJob_words (s : State) (u : Nat) (j : Option BayJob) : (s.setJob u j).bays.words = s.bays.words := rfl

@[simp] theorem State.addCol_words (s : State) (u g : Nat) (x : BitVec 40) : (s.addCol u g x).bays.words = s.bays.words := rfl

@[simp] theorem State.markStale_words (s : State) (u g : Nat) : (s.markStale u g).bays.words = s.bays.words := by
  unfold State.markStale
  split <;> rfl

@[simp] theorem State.queueJob_words (s : State) (u g : Nat) (rebuild : Bool) : (s.queueJob u g rebuild).bays.words = s.bays.words := by
  unfold State.queueJob
  split
  next => rfl
  next => split <;> simp

@[simp] theorem State.disturb_words (s : State) (u g : Nat) : (s.disturb u g).bays.words = s.bays.words := by
  unfold State.disturb
  split
  next =>
    split
    · rfl
    · split <;> simp
  next => rfl

/-- A read may queue a mend (R180), and changes no word. -/
theorem State.bayFetch_words (s : State) (u w : Nat) (sel : BitVec 4) : (s.bayFetch u w sel).2.2.2.bays.words = s.bays.words := by
  unfold State.bayFetch
  dsimp only
  split
  · rfl
  · dsimp only
    split
    · rfl
    · exact s.queueJob_words _ _ _

theorem State.portRead_words (s : State) (u : Nat) (portB : Bool) (addr : Nat) : (s.portRead u portB addr).bays.words = s.bays.words :=
  s.bayFetch_words _ _ _

/-! ### What a word shows in its states (R172, R173, R177) -/

section
variable {x : BWord}

theorem BWord.valid_of_state_zero (h : x.state = 0) : x.valid = false := by rw [BWord.valid, h]; rfl

theorem BWord.poisoned_of_state_zero (h : x.state = 0) : x.poisoned = false := by rw [BWord.poisoned, h]; rfl

/-- No word is valid and poisoned. -/
theorem BWord.valid_of_poisoned (h : x.poisoned = true) : x.valid = false := by
  simp only [BWord.poisoned, decide_eq_true_eq] at h
  simp only [BWord.valid, beq_eq_false_iff_ne]
  omega

theorem BWord.counted_of_not_valid (h : x.valid = false) : x.counted = 0 := by simp [BWord.counted, h]

theorem BWord.bad_of_not_valid (h : x.valid = false) : x.bad = 0 := by simp [BWord.bad, h]

end

/-! ### What a store leaves (R174, R175) -/

/-- The word that a store of the lanes `we` leaves: valid, with the other lanes of a word that was valid. -/
def BWord.storing (x : BWord) (we : BitVec 4) (din : BitVec 40) : BWord :=
  let d := (x.counted &&& ~~~laneMask we) ||| (din &&& laneMask we)
  { data := d, par := ((if x.valid then x.par else 0) &&& ~~~we) ||| (rowParity d &&& we), st := copies 1 }

theorem BWord.valid_storing (x : BWord) (we : BitVec 4) (din : BitVec 40) : (x.storing we din).valid = true :=
  show ({ st := copies 1 } : BWord).valid = true by decide

/-- A store to a word that is not valid leaves 0 in the lanes that it does not enable. -/
theorem BWord.data_storing {x : BWord} (h : x.valid = false) (we : BitVec 4) (din : BitVec 40) :
    (x.storing we din).data = din &&& laneMask we := by
  simp [BWord.storing, BWord.counted_of_not_valid h]

theorem and_laneMask_all (d : BitVec 40) : d &&& laneMask 15 = d := by
  have h : laneMask 15 = BitVec.allOnes 40 := by decide
  rw [h, BitVec.and_allOnes]

section
variable {s : State} {u w : Nat} {we : BitVec 4} {din : BitVec 40}

/-- A partial store to a poisoned word is recorded, and stores nothing (R175). -/
theorem State.bayStore_partial (hwe : we ≠ 0) (hp : (s.bword u w).poisoned = true) (h15 : we ≠ 15) :
    s.bayStore u w we din = s.bayMark u F.QC_BAYERR_STAT_partial_to_poison :=
  (if_neg hwe).trans (if_pos (by simpa [hp] using h15))

/-- Any other store of some lane replaces the word, and no other. -/
theorem State.bayStore_words (hwe : we ≠ 0) (hp : (s.bword u w).poisoned = false ∨ we = 15) :
    (s.bayStore u w we din).bays.words = (s.setBword u w ((s.bword u w).storing we din)).bays.words := by
  have hgo : ¬ ((s.bword u w).poisoned && we != 15) = true := by
    obtain h | h := hp <;> simp [h]
  unfold State.bayStore
  dsimp only
  rw [if_neg hwe, if_neg hgo]
  split <;> split <;> simp [State.setBword, BWord.storing]

theorem State.bword_bayStore (hwe : we ≠ 0) (hp : (s.bword u w).poisoned = false ∨ we = 15) :
    (s.bayStore u w we din).bword u w = (s.bword u w).storing we din :=
  (State.bword_congr (State.bayStore_words hwe hp) u w).trans (s.bword_setBword_same _ _ _)

theorem State.bword_bayStore_other {u' w' : Nat} (hw : w < 65536) (hw' : w' < 65536) (h : ¬ (u' = u ∧ w' = w)) :
    (s.bayStore u w we din).bword u' w' = s.bword u' w' := by
  by_cases hwe : we = 0
  · exact congrArg (fun t : State => t.bword u' w') (if_pos hwe)
  · by_cases hp : (s.bword u w).poisoned = false ∨ we = 15
    · exact (State.bword_congr (State.bayStore_words hwe hp) u' w').trans (s.bword_setBword_other _ hw hw' h)
    · obtain ⟨hpois, h15⟩ := not_or.mp hp
      rw [State.bayStore_partial hwe (by simpa using hpois) h15]
      exact State.bword_congr (by simp) u' w'

end

/-! ### The record of a discarded store (R175, R185) -/

/-- No field of a quadrant's queue controllers is the record of a facet's source. -/
theorem regKey_qc_ne_evcRec (u : Nat) (f : Fld) :
    regKey (qcBase (unitQuad u)) f ≠ regKey (evcBase + 4 * (facetSrc (unitFacet u) / 32)) F.EVC_REC_rec := by
  have hlocal : bayLocal (unitDeep u) (unitIndex u) ≤ 259 := by
    have hidx : unitIndex u < 4296 := by unfold unitIndex; split <;> omega
    unfold bayLocal localFacet
    repeat' split
    all_goals omega
  simp only [regKey, qcBase, evcBase, winBase, facetSrc, unitFacet, F.EVC_REC_rec]
  omega

theorem State.bayMark_flag (s : State) (u : Nat) {f : Fld} (hw : f.width = 1) : (s.bayMark u f).flag (qcBase (unitQuad u)) f = true :=
  State.signal_flag_of (by simp [State.flag, State.raise, hw]) (regKey_qc_ne_evcRec u f)

/-! ### A port's reads (R168, R173) -/

section
variable {s : State} {u : Nat} {portB : Bool} {addr : Nat}

/-- A word that is not valid counts 0 and fails no lane. -/
theorem State.bayFetch_invalid {w : Nat} (h : (s.bword u w).state = 0) (sel : BitVec 4) : s.bayFetch u w sel = (0, 0, false, s) := by
  have hv := BWord.valid_of_state_zero h
  simp [State.bayFetch, BWord.poisoned_of_state_zero h, BWord.counted_of_not_valid hv, BWord.bad_of_not_valid hv]

theorem State.bayFetch_poisoned {w : Nat} (h : 2 ≤ (s.bword u w).state) (sel : BitVec 4) : s.bayFetch u w sel = (0, 0, true, s) :=
  if_pos (decide_eq_true h)

/-- A port shows no data and no failing lane as 0, at every width. -/
theorem State.portRead_of_nothing {poison : Bool}
    (h : ∀ sel, s.bayFetch u ((selectOf (s.portWidth u portB) addr 15).1 % unitDepth u) sel = (0, 0, poison, s)) :
    s.portRead u portB addr = s.emit (.bayRead u 0 0 poison) := by
  rw [State.portRead, h]
  simp

end

/-! ### A port's cycle -/

/-- The word that an address selects does not depend on the lanes (R168). -/
theorem selectOf_word (width addr : Nat) (m m' : BitVec 4) : (selectOf width addr m).1 = (selectOf width addr m').1 := by
  unfold selectOf
  split
  · rfl
  · split <;> rfl

section
variable {s : State} {u : Nat} {portB we : Bool} {laneWe : BitVec 4} {addr : BitVec 18} {din : BitVec 40}

theorem State.portFinds_of_not_clr (hc : (!portB && s.bayPins u false 64 1 0 == 1) = false) : s.portFinds u portB = s :=
  if_neg (ne_true_of_eq_false hc)

/-- While no contents are loaded, clr clears the bay. -/
theorem State.portFinds_of_not_loading (hl : s.unitLoading u = false) :
    s.portFinds u portB = if !portB && s.bayPins u false 64 1 0 == 1 then s.clearUnit u else s :=
  ite_congr rfl (fun _ => if_neg (ne_true_of_eq_false hl)) (fun _ => rfl)

/-- Clearing a bay does not end the loading of contents. -/
theorem State.portFinds_unitLoading : (s.portFinds u portB).unitLoading u = s.unitLoading u := by
  unfold State.portFinds State.bayClr
  repeat' split
  all_goals rfl

/-- A cycle of a port changes no word but the one that its address selects, and those of its bay where it is cleared. -/
theorem State.portCycle_bword_other {u' w' : Nat} (hw' : w' < 65536)
    (h : ¬ (u' = u ∧ ((!portB && s.bayPins u false 64 1 0 == 1) = true ∨
      w' = (selectOf (s.portWidth u portB) (s.bayPins u portB 6 18 addr.toNat) 15).1 % unitDepth u))) :
    (s.portCycle u portB we laneWe addr din).bword u' w' = s.bword u' w' := by
  have hfinds : (s.portFinds u portB).bword u' w' = s.bword u' w' := by
    unfold State.portFinds
    split
    next hc => exact s.bword_bayClr_other hw' (fun hu => h ⟨hu, .inl hc⟩)
    next => rfl
  by_cases he : (s.portFinds u portB).bayPins u portB 0 1 1 = 0
  · rwa [State.portCycle_idle he]
  by_cases hwe : (s.portFinds u portB).bayPins u portB 1 1 (bit we) = 1
  · rw [State.portCycle_write he hwe]
    dsimp only
    split
    next => exact hfinds
    next hgo =>
      obtain ⟨-, hc⟩ := Bool.or_eq_false_iff.mp (eq_false_of_ne_true hgo)
      rw [State.portFinds_of_not_clr hc]
      refine State.bword_bayStore_other (mod_unitDepth_lt _ _) hw' (fun ⟨hu, hsel⟩ => h ⟨hu, .inr ?_⟩)
      rw [hsel, selectOf_word]
  · rw [State.portCycle_read hwe]
    dsimp only
    rw [if_neg he]
    split
    · exact hfinds
    · exact (State.bword_congr (State.portRead_words _ _ _ _) u' w').trans hfinds

end

/-! ### BAY_READ and BAY_WRITE -/

section
variable {q : Fin 4} {deep portB : Bool} {i : Fin 4096} {s : State} {addr : BitVec 18}

/-- BAY_READ where no contents are loaded and routing leaves we to the operand. -/
theorem exec_bayRead_reads {t : State} (hx : bayExists deep i.val = true) (ho : s.portOpen (bayUnit q.val deep i.val) portB = true)
    (hl : s.unitLoading (bayUnit q.val deep i.val) = false) (ht : s.portFinds (bayUnit q.val deep i.val) portB = t)
    (he : t.bayPins (bayUnit q.val deep i.val) portB 0 1 1 ≠ 0) (hw : t.bayPins (bayUnit q.val deep i.val) portB 1 1 0 ≠ 1) :
    exec (.bayRead q deep i portB addr) s = .next
      (t.portRead (bayUnit q.val deep i.val) portB (t.bayPins (bayUnit q.val deep i.val) portB 6 18 addr.toNat)) := by
  subst ht
  have hlt : ¬ (s.portFinds (bayUnit q.val deep i.val) portB).unitLoading (bayUnit q.val deep i.val) = true := by
    rw [State.portFinds_unitLoading, hl]; decide
  rw [exec_bayRead, hx, ho, State.portCycle_read (we := false) hw]
  exact congrArg Host.Outcome.next ((if_neg he).trans (if_neg hlt))

/-- BAY_WRITE in a cycle without clr, where no contents are loaded and routing leaves en and we to the operand. -/
theorem exec_bayWrite_stores (laneWe : BitVec 4) (din : BitVec 40) (hx : bayExists deep i.val = true)
    (ho : s.portOpen (bayUnit q.val deep i.val) portB = true) (hl : s.unitLoading (bayUnit q.val deep i.val) = false)
    (hc : (!portB && s.bayPins (bayUnit q.val deep i.val) false 64 1 0 == 1) = false)
    (he : s.bayPins (bayUnit q.val deep i.val) portB 0 1 1 ≠ 0) (hw : s.bayPins (bayUnit q.val deep i.val) portB 1 1 1 = 1) :
    let u := bayUnit q.val deep i.val
    exec (.bayWrite q deep i portB laneWe addr din) s = .next
      (s.portWrite u portB (BitVec.ofNat 4 (s.bayPins u portB 2 4 laneWe.toNat)) (s.bayPins u portB 6 18 addr.toNat)
        (BitVec.ofNat 40 (s.bayPins u portB 24 40 din.toNat))) := by
  have hf := State.portFinds_of_not_clr hc
  have hcycle := State.portCycle_write (s := s) (we := true) (laneWe := laneWe) (addr := addr) (din := din) (hf.symm ▸ he) (hf.symm ▸ hw)
  rw [hf] at hcycle
  rw [exec_bayWrite, hx, ho]
  exact congrArg Host.Outcome.next (hcycle.trans (if_neg (by simp [hl, hc])))

end

/-- Settles O45: such a word counts 0 and fails no lane, and a poisoned one is not read at all. That a read in a cycle with clr finds the cleared bay
is the model's choice (assumption log 95). -/
theorem bayReadsInvalidAndPoisoned : Obligations.BayReadsInvalidAndPoisoned := by
  intro q deep i portB addr s hx ho hl u s0
  have hs0 : s.portFinds u portB = s0 := State.portFinds_of_not_loading hl
  intro he hw x
  rw [exec_bayRead_reads hx ho hl hs0 he hw]
  exact ⟨fun h => congrArg Host.Outcome.next (State.portRead_of_nothing (State.bayFetch_invalid h)),
    fun h => congrArg Host.Outcome.next (State.portRead_of_nothing (State.bayFetch_poisoned h))⟩

/-- Settles O46: an invalid word is not poisoned, and brings no lane of its own into the stored word. -/
theorem bayWritesToInvalid : Obligations.BayWritesToInvalid := by
  intro q deep i portB we addr din s hx ho hl u a p d w hc he hw hp h0
  have hword := State.bword_bayStore (din := toLanes (s.portWidth u portB) a d) hp (.inl (BWord.poisoned_of_state_zero h0))
  refine ⟨_, exec_bayWrite_stores we din hx ho hl hc he hw, ?valid, ?data⟩
  case valid => exact (congrArg BWord.valid hword).trans (BWord.valid_storing _ _ _)
  case data => exact (congrArg BWord.data hword).trans (BWord.data_storing (BWord.valid_of_state_zero h0) _ _)

/-- Settles O47: a full store replaces the word, a partial one only makes the record. -/
theorem bayWritesToPoisoned : Obligations.BayWritesToPoisoned := by
  intro q deep i portB we addr din s hx ho hl u a p d w hc he hw hp hpois
  refine ⟨_, exec_bayWrite_stores we din hx ho hl hc he hw, fun hall => ?full, fun hsome => ?part⟩
  case full =>
    have hword := State.bword_bayStore (din := toLanes (s.portWidth u portB) a d) hp (.inr hall : (s.bword u w).poisoned = false ∨ p.2 = 15)
    refine ⟨(congrArg BWord.valid hword).trans (BWord.valid_storing _ _ _), (congrArg BWord.data hword).trans ?_⟩
    rw [BWord.data_storing (BWord.valid_of_poisoned hpois), hall, and_laneMask_all]
  case part =>
    have hmark : s.bayStore u w p.2 (toLanes (s.portWidth u portB) a d) = s.bayMark u F.QC_BAYERR_STAT_partial_to_poison :=
      State.bayStore_partial hp hpois hsome
    show ((s.bayStore u w p.2 _).bword u w).poisoned = true ∧ (s.bayStore u w p.2 _).bays = s.bays ∧ (s.bayStore u w p.2 _).flag _ _ = true
    rw [hmark, State.bword_congr (congrArg Bays.words (s.bayMark_bays u _)) u w]
    exact ⟨hpois, s.bayMark_bays u _, s.bayMark_flag u rfl⟩

/-- Settles O48: for the words by what a port's cycle leaves, for the rest by the table of written components. -/
theorem bayWriteFrame : Obligations.BayWriteFrame := by
  intro q deep i portB we addr din s t u w h hw hother
  have hsame : ∀ c, c ∉ [Comp.regs, .ctrs, .out, .bays, .dbg] → c.same s t := fun _ => exec_same h
  refine ⟨?_, hsame .mem (by decide), hsame .cue (by decide), hsame .hq (by decide)⟩
  rw [exec_bayWrite] at h
  injection h with h
  rw [← h]
  split
  · exact State.portCycle_bword_other hw (by rintro ⟨rfl, hsel⟩; exact hother ⟨rfl, hsel⟩)
  · rfl

end Sys2Proof.Machine
end

/-! ## The frame of an arithmetic unit's clock edge (O49)

A write to one unit's registers misses every other unit's; an edge is such a write or nothing; and a bit that reads 0 where the operand says 1 reads 0
whatever the operand says. -/
section
namespace Sys2Proof.Machine

/-! ### A unit's registers -/

theorem State.sau_setSau_same (s : State) (q n : Nat) (r : SauReg) : (s.setSau q n r).sau q n = r :=
  SMap.get_put_same _ _ _ _

/-- A quadrant has 2,048 units (R206), so that the registers of two units lie at different keys. -/
theorem State.sau_setSau_other (s : State) {q q' n n' : Nat} (r : SauReg) (hn : n < 2048) (hn' : n' < 2048) (h : ¬ (q' = q ∧ n' = n)) :
    (s.setSau q n r).sau q' n' = s.sau q' n' :=
  SMap.get_put_other _ _ _ _ _ (by omega)

/-! ### A unit's input bits (R136, R206) -/

/-- A single input bit of a unit. -/
theorem State.sauPins_one (s : State) (q n lo v : Nat) :
    s.sauPins q n lo 1 v = bit (s.pinBit q (Mux.sau n lo) ((s.sauIn q n).testBit lo) (v.testBit 0)) := by
  simp [State.sauPins, State.pinBits]

/-- An input bit rises with its operand's: it is routed nowhere, or passes the operand, or passes a level that the operand has no part in. -/
theorem State.pinBit_of_given {s : State} {q : Nat} {m : Mux} {outside : Bool} (h : s.pinBit q m outside true = false) (given : Bool) :
    s.pinBit q m outside given = false := by
  cases given with
  | true => exact h
  | false =>
    cases outside with
    | true => exact Bool.and_false _
    | false => exact h

/-- A bit that is 0 where the operand says 1 is 0 whatever the operand says. -/
theorem State.sauPins_one_eq_zero {s : State} {q n lo : Nat} (h : s.sauPins q n lo 1 1 = 0) (v : Nat) : s.sauPins q n lo 1 v = 0 := by
  have hone : s.pinBit q (Mux.sau n lo) ((s.sauIn q n).testBit lo) true = false := by
    rw [State.sauPins_one] at h
    exact Bool.eq_false_iff.mpr fun hp => absurd ((congrArg bit hp).symm.trans h) (by decide)
  rw [State.sauPins_one, State.pinBit_of_given hone]
  rfl

/-! ### A clock edge of a unit (R206, R207, R216) -/

section
variable {q : Fin 4} {n : Fin 2048} {sm u : BitVec 40} {k : BitVec 48} {adv rst fresh : Bool} {s t : State}

theorem exec_sauClockEdge : exec (.sauClockEdge q n sm u k adv rst fresh) s = execSauClockEdge q n sm u k adv rst fresh s := rfl

/-- A unit without a running clock holds every register; an edge of any other replaces its registers. -/
theorem sauClockEdge_cases (h : exec (.sauClockEdge q n sm u k adv rst fresh) s = .next t) :
    t = s ∨ ∃ r, t = s.setSau q.val n.val ((s.sau q.val n.val).clocked r) := by
  rw [exec_sauClockEdge, execSauClockEdge] at h
  injection h with h
  subst h
  dsimp only
  split
  case isTrue => exact .inl rfl
  case isFalse =>
    right
    split
    case isTrue => exact ⟨_, rfl⟩
    case isFalse => split <;> exact ⟨_, rfl⟩

/-- An edge of a clocked unit at which rst is 1 clears it, whatever adv and fresh say (R216). -/
theorem exec_sauClockEdge_reset (hc : s.sauClocked q.val n.val = true) (hrst : s.sauPins q.val n.val 130 1 (bit rst) = 1) :
    exec (.sauClockEdge q n sm u k adv rst fresh) s = .next (s.setSau q.val n.val ((s.sau q.val n.val).clocked {})) := by
  rw [exec_sauClockEdge, execSauClockEdge]
  dsimp only
  rw [hc, if_neg (by decide), if_pos hrst]

/-- An edge depends on its operand for rst through the level of the unit's reset input alone. -/
theorem exec_sauClockEdge_congr_rst {rst' : Bool} (h : s.sauPins q.val n.val 130 1 (bit rst) = s.sauPins q.val n.val 130 1 (bit rst')) :
    exec (.sauClockEdge q n sm u k adv rst fresh) s = exec (.sauClockEdge q n sm u k adv rst' fresh) s := by
  simp only [exec_sauClockEdge, execSauClockEdge, h]

end

/-- Settles O49: an edge writes the registers of its own unit alone, and a reset input that reads 0 for an operand of 1 reads 0 for every operand. The
count of the unit's edges and its total before the edge, which a reset keeps, are the model's own (assumption log 40). -/
theorem arithmeticUnitFrame : Obligations.ArithmeticUnitFrame := by
  refine ⟨?others, ?reset, ?unrouted⟩
  case others =>
    intro q n sm u k adv rst fresh s t q' n' h hother
    obtain rfl | ⟨r, rfl⟩ := sauClockEdge_cases h
    · rfl
    · exact State.sau_setSau_other _ _ n.isLt n'.isLt fun ⟨hq, hn⟩ => hother ⟨Fin.ext hq, Fin.ext hn⟩
  case reset =>
    intro q n sm u k adv rst fresh s hc hrst
    exact ⟨_, exec_sauClockEdge_reset hc hrst, State.sau_setSau_same _ _ _ _⟩
  case unrouted =>
    intro q n sm u k adv rst fresh s h
    exact exec_sauClockEdge_congr_rst ((State.sauPins_one_eq_zero h _).trans (State.sauPins_one_eq_zero h _).symm)

end Sys2Proof.Machine
end

/-! ## A swap without an edge (O58)

A journal entry writes the journal, its records and their sources, all of die C, and so nothing of a facet; a completion takes the operation from the
pending ones. -/
section
namespace Sys2Proof.Machine

/-! ### What a record of die C leaves alone (R41, R73) -/

theorem State.signal_jrnl (s : State) (src : Nat) : (s.signal src).jrnl = s.jrnl :=
  (State.signal_kept (kK := 2 ^ Comp.jrnl.idx) (by decide) (Kept.self _ (s := s) (M := fun _ => True) trivial)).1 .jrnl (by decide)

@[simp] theorem State.mark_jrnl (s : State) (b : Nat) (f : Fld) (src : Nat) : (s.mark b f src).jrnl = s.jrnl := (s.raise b f).signal_jrnl src

/-- Signalling a source leaves the fields outside die C: the records lie in EVC, and what the trace writes in DBG. -/
theorem State.signal_getF_offDieC {s : State} {b src : Nat} {f : Fld} (hb : winBase 1 0 ≤ b) (hs : src < 1024) :
    (s.signal src).getF b f = s.getF b f := by
  have hkey : 32 * winBase 1 0 ≤ regKey b f := by
    simp only [regKey]
    omega
  have hrec : regKey (evcBase + 4 * (src / 32)) F.EVC_REC_rec < 32 * winBase 1 0 := by
    simp only [regKey, evcBase, winBase, F.EVC_REC_rec]
    omega
  have htrig : regKey dbgBase F.DBG_STAT_triggered < 32 * winBase 1 0 := by decide
  have hover : regKey dbgBase F.DBG_STAT_cnt_overflow < 32 * winBase 1 0 := by decide
  rw [(s.signal_traceOnly src).getF_eq _ _ (by omega) (by omega), State.getF_setF_other _ _ _ _ _ _ (by omega)]

/-- A record of the journal is no field outside die C. -/
theorem State.raise_jrnlRec_getF_offDieC {s : State} {b : Nat} {f g : Fld} (hb : winBase 1 0 ≤ b) (hg : g.off < 0x10000) (hl : g.lo < 32) :
    (s.raise jrnlBase g).getF b f = s.getF b f := by
  refine State.getF_setF_other _ _ _ _ _ _ ?_
  simp only [regKey, jrnlBase, winBase] at hb ⊢
  omega

theorem State.mark_jrnlRec_getF_offDieC {s : State} {b src : Nat} {f g : Fld} (hb : winBase 1 0 ≤ b) (hg : g.off < 0x10000) (hl : g.lo < 32)
    (hs : src < 1024) : (s.mark jrnlBase g src).getF b f = s.getF b f :=
  (State.signal_getF_offDieC hb hs).trans (State.raise_jrnlRec_getF_offDieC hb hg hl)

/-! ### A journal entry (R631, R633) -/

section
variable (s : State) (code : Nat) (permanent : Bool) (target d0 d1 d2 : Nat)

@[simp] theorem State.journal_hq : (s.journal code permanent target d0 d1 d2).hq = s.hq :=
  (State.journal_kept (kK := 2 ^ Comp.hq.idx) (by decide) (Kept.self _ (s := s) (M := fun _ => True) trivial)).1 .hq (by decide)

/-- Every entry takes a sequence number, a lost one too. -/
theorem State.journal_nextSeq : (s.journal code permanent target d0 d1 d2).jrnl.nextSeq = (s.jrnl.nextSeq + 1) % 65536 := by
  unfold State.journal
  dsimp only
  split
  case isTrue => rw [State.mark_jrnl]
  case isFalse =>
    split
    case h_1 l hl =>
      rw [State.mark_jrnl, State.signal_jrnl]
      rfl
    case h_2 hl =>
      rw [State.mark_jrnl]
      rfl

/-- A journal with room holds the entry after those that it held. -/
theorem State.journal_held_of_room (h : s.jrnl.held.length < 512) : (s.journal code permanent target d0 d1 d2).jrnl.held =
    s.jrnl.held ++ [{ code := code, permanent := permanent, seq := s.jrnl.nextSeq, target := target, time := s.sta, d0 := d0, d1 := d1, d2 := d2 }] := by
  unfold State.journal
  dsimp only
  rw [if_pos h, State.mark_jrnl]

/-- An entry leaves the fields outside die C. -/
theorem State.journal_getF_offDieC {b : Nat} {f : Fld} (hb : winBase 1 0 ≤ b) :
    (s.journal code permanent target d0 d1 d2).getF b f = s.getF b f := by
  unfold State.journal
  dsimp only
  split
  case isTrue => exact State.mark_jrnlRec_getF_offDieC hb (by decide) (by decide) (by decide)
  case isFalse =>
    split
    case h_1 l hl =>
      rw [State.mark_jrnlRec_getF_offDieC hb (by decide) (by decide) (by decide), State.signal_getF_offDieC hb (by decide)]
      exact State.raise_jrnlRec_getF_offDieC hb (by decide) (by decide)
    case h_2 hl => exact State.mark_jrnlRec_getF_offDieC hb (by decide) (by decide) (by decide)

end

/-! ### An operation that completes (R100) -/

/-- The completion that an operation leaves. -/
def Op.completion (o : Op) (st : Status) (results : List Word) : Reply :=
  { src := o.src, tag := o.tag, status := st, completion := true, opcode := o.opcode, results := results }

/-- An operation that does not end with OK is not traced: it leaves the pending ones, and its completion is the last ready reply. -/
theorem State.complete_not_ok {s : State} {o : Op} {st : Status} (results : List Word) (h : st ≠ .ok) :
    s.complete o st results = (s.dropOp o.src o.tag).pushReply (o.completion st results) := by
  rw [State.complete, if_neg fun hok => h hok.1]
  rfl

theorem State.opOf_dropOp (s : State) (src : Src) (tag : BitVec 8) : (s.dropOp src tag).opOf src tag = none := by
  rw [State.opOf, List.find?_eq_none]
  intro o ho
  have hkept := (List.mem_filter.mp ho).2
  simpa using hkept

/-! ### The swap -/

/-- Every facet's window lies outside die C (R43). -/
theorem winBase_le_facetBase (f : Nat) : winBase 1 0 ≤ facetBase f := by
  simp only [facetBase, winBase]
  omega

theorem State.swapOp_opcode {s : State} {f : Nat} {o : Op} (h : s.swapOp f = some o) : o.opcode = 0x0203 := by
  have hfound := List.find?_some h
  simp only [Bool.and_eq_true, beq_iff_eq] at hfound
  exact hfound.1.1

@[simp] theorem State.reachAt_regs (s : State) (d t : Nat) : (s.reachAt d t).regs = s.regs :=
  (State.reachAt_kept (kK := 2 ^ Comp.regs.idx) (by decide) (Kept.self _ (s := s) (M := fun _ => True) trivial)).1 .regs (by decide)

@[simp] theorem State.reachAt_jrnl (s : State) (d t : Nat) : (s.reachAt d t).jrnl = s.jrnl :=
  (State.reachAt_kept (kK := 2 ^ Comp.jrnl.idx) (by decide) (Kept.self _ (s := s) (M := fun _ => True) trivial)).1 .jrnl (by decide)

/-- A swap that finds no edge times out at its bound. -/
theorem exec_facetSwapNoEdge {f : Fin 48} {o : Op} {s : State} (ho : s.swapOp f.val = some o) (ht : o.f 5 31 31 = 0) :
    exec (.facetSwapNoEdge f) s = .next (((s.reachAt (f.val / 12 + 1) (s.swapBound o)).complete o .timeout []).journal 0x08 false
      (facetWord f.val).toNat 0x0203 0 0) := by
  show execFacetSwapNoEdge f s = _
  rw [execFacetSwapNoEdge, ho]
  exact congrArg Host.Outcome.next ((if_pos ht).trans (if_neg (by simp [ht])))

/-- Settles O58: the swap's timeout is a completion and a journal entry, and no field of a facet is one that these write. -/
theorem swapWithoutEdge : Obligations.SwapWithoutEdge := by
  intro f o s ho ht
  let s1 := ((s.reachAt (f.val / 12 + 1) (s.swapBound o)).dropOp o.src o.tag).pushReply (o.completion .timeout [])
  have hregs : s1.regs = s.regs := s.reachAt_regs _ _
  have hjrnl : s1.jrnl = s.jrnl := s.reachAt_jrnl _ _
  have hfield : ∀ g : Fld, (s1.journal 0x08 false (facetWord f.val).toNat 0x0203 0 0).getF (facetBase f.val) g = s.getF (facetBase f.val) g :=
    fun g => (s1.journal_getF_offDieC _ _ _ _ _ _ (winBase_le_facetBase f.val)).trans (congrArg (SMap.get g.rst · _) hregs)
  refine ⟨s1.journal 0x08 false (facetWord f.val).toNat 0x0203 0 0, ?next, hfield _, hfield _, ⟨o.completion .timeout [], ?ready, rfl, rfl,
    State.swapOp_opcode ho, rfl, rfl⟩, ?gone, ?seq, fun hroom => ?entry⟩
  case next => rw [exec_facetSwapNoEdge ho ht, State.complete_not_ok [] (by decide)]
  case ready =>
    rw [State.journal_hq]
    exact List.mem_append_right _ List.mem_cons_self
  case gone =>
    rw [State.opOf, State.journal_hq]
    exact State.opOf_dropOp _ _ _
  case seq => rw [State.journal_nextSeq, hjrnl]
  case entry =>
    rw [← hjrnl] at hroom ⊢
    rw [s1.journal_held_of_room _ _ _ _ _ _ hroom]
    exact ⟨_, List.mem_append_right _ List.mem_cons_self, rfl, rfl, rfl⟩

end Sys2Proof.Machine
end

/-! ## Facet swaps, fences and rewrites (O18) -/
section
namespace Sys2Proof.Machine

/-- Settles O18: a taken packet passes its checks, and each event finds its swap or meets the state of its facet. -/
theorem facetChanges : Obligations.FacetChanges := by
  refine ⟨?swapAt, ?fence, ?fenceQuery, ?rewrite, ?edge, ?edgeLate, ?triggerTimeout, ?noEdge, ?holdEnd, ?initDone, ?writeDone, ?release⟩
  case swapAt =>
    intro c s f w ht hl htgt hp hq hoff hdrain hfence hheld harmed happly hreset hw u
    have hdom : (s.quadUp (f / 12) && s.facetState f != fcOff && s.facetState f != fcDraining) = true := by simp [hq, hoff, hdrain]
    have hfree : (!s.heldByOther c && !s.swapArmed f && !s.applying f && (s.facetX f).reset == 0) = true := by
      rw [hheld, harmed, happly, hreset]; rfl
    exact congrArg Host.Outcome.next (long_ok _ id ht
      ((Chk.ok_iff _).mpr ⟨beq_iff_eq.mpr hl, htgt, rfl, hp, hdom, hfence, rfl, hfree, hw⟩))
  case fence =>
    intro c s f ht hl htgt hp hd u r
    exact congrArg Host.Outcome.next (immediate_ok _ ht
      ((Chk.ok_iff _).mpr ⟨beq_iff_eq.mpr hl, htgt, rfl, beq_iff_eq.mpr hp, hd, rfl, rfl, rfl, rfl⟩))
  case fenceQuery =>
    intro c s f ht hl htgt hd u
    exact congrArg Host.Outcome.next (immediate_ok _ ht
      ((Chk.ok_iff _).mpr ⟨beq_iff_eq.mpr hl, htgt, rfl, rfl, hd, rfl, rfl, rfl, rfl⟩))
  case rewrite =>
    intro c s f st ht hl htgt h2 himg h3 hmode h4 hgap hstop hq hoff hdrain hheld hst harmed hreset happly u
    have hpar : (c.f 2 31 16 == 0 && s.imageHas (c.f 2 15 0) f && c.f 3 31 2 == 0 && c.f 3 1 0 != 3 && c.f 4 31 16 == 0 && gapOk (c.f 4 15 0) &&
        st != fcStopped) = true := by simp [h2, himg, h3, hmode, h4, hgap, hstop]
    have hdom : (s.quadUp (f / 12) && st != fcOff && st != fcDraining) = true := by simp [hq, hoff, hdrain]
    have hfree : (!s.heldByOther c && (st == fcRunning || st == fcEmpty) && !s.swapArmed f && (s.facetX f).reset == 0 &&
        !(st == fcEmpty && s.applying f)) = true := by rw [hheld, hst, harmed, hreset, happly]; rfl
    exact congrArg Host.Outcome.next (long_ok none _ ht
      ((Chk.ok_iff _).mpr ⟨beq_iff_eq.mpr hl, htgt, rfl, hpar, hdom, rfl, rfl, hfree, rfl⟩))
  case edge =>
    intro f edge o s ho hrun hin s1
    show execFacetSwapEdge f edge s = _
    rw [execFacetSwapEdge, ho]
    exact congrArg Host.Outcome.next ((if_neg (by simp [hrun])).trans (if_neg (ne_true_of_eq_false hin)))
  case edgeLate =>
    intro f edge o s ho hrun hlate s1
    show execFacetSwapEdge f edge s = _
    rw [execFacetSwapEdge, ho]
    exact congrArg Host.Outcome.next ((if_neg (by simp [hrun])).trans (if_pos hlate))
  case triggerTimeout =>
    intro f o s ho ht hacc
    have hwaits : o.awaitsLine = true := by simp [Op.awaitsLine, ht, hacc]
    show execFacetSwapTriggerTimeout f s = _
    rw [execFacetSwapTriggerTimeout, ho]
    exact congrArg Host.Outcome.next ((if_pos hwaits).trans (if_pos ht))
  case noEdge => exact fun f o s ho ht => exec_facetSwapNoEdge ho ht
  case holdEnd => exact fun f s h => congrArg Host.Outcome.next (if_pos h)
  case initDone =>
    intro f s hi hr p s1
    exact congrArg Host.Outcome.next ((if_pos ⟨hi, hr⟩).trans (if_pos hi))
  case writeDone =>
    intro f fail h mode s x hx hd hw
    cases fail with
    | none =>
      show execFacetWriteDone f none s = _
      rw [execFacetWriteDone]
      dsimp only [x] at hx hd ⊢
      rw [hx, hd]
      exact congrArg Host.Outcome.next (if_neg (Classical.not_not.mpr hw))
    | some fr =>
      show execFacetWriteDone f (some fr) s = _
      rw [execFacetWriteDone]
      dsimp only [x] at hx hd ⊢
      rw [hx, hd]
      refine congrArg Host.Outcome.next ((if_neg (Classical.not_not.mpr hw)).trans ?_)
      generalize ((s.writePlane f.val (s.facetPlane f.val) h).toEmpty f.val).settleHandles.journal 0x12 false (facetWord f.val).toNat f.val fr.val 0 = s1
      rfl
  case release =>
    intro f s x h
    show execFacetReleaseStage f s = _
    rw [execFacetReleaseStage]
    dsimp only [x]
    refine congrArg Host.Outcome.next ((if_neg (Classical.not_not.mpr h)).trans ?_)
    generalize ((s.setFacetX f.val { s.facetX f.val with stage := 0, rewrite := none }).toFacet f.val fcRunning).settleHandles = s1
    rfl

end Sys2Proof.Machine
end

/-! ## Ring links, routers, interfaces and flows (O19) -/
section
namespace Sys2Proof.Machine

/-- An output whose turn it is at its edge sends the next flit of the packet that has the slot. -/
theorem State.linkSlot_go {s : State} {vk dir d : Nat} {b step : Bool} {c : Cand} (ht : s.edgeTurn vk dir = true) (hs : s.slot vk dir = some c)
    (ha : c.act = .go d b step) : s.linkSlot vk dir = s.sendFlit vk dir b step c := by
  rw [State.linkSlot, hs, ht, if_neg (by decide)]
  dsimp only
  rw [ha]

section
variable {x : Fin 24} {y : Fin 18} {out : Fin 6} {c : Cand} {s : State}

/-- The first four outputs of a vertex are its links, which take slots. -/
theorem exec_ringPacketRoute_link (hv : vkReal x.val y.val = true) (ho : out.val < 4) :
    exec (.ringPacketRoute x y out) s = .next ((s.linkSlot (vkOf x.val y.val) out.val).stallCheck (vkOf x.val y.val)) :=
  congrArg Host.Outcome.next ((if_neg (by simp [hv])).trans (if_pos ho))

/-- The local port and the relay buffer take the whole packet that comes next. -/
theorem exec_ringPacketRoute_port (hv : vkReal x.val y.val = true) (ho : 4 ≤ out.val) (hc : s.pick (vkOf x.val y.val) out.val = some c) :
    exec (.ringPacketRoute x y out) s = .next (s.takeWhole (vkOf x.val y.val) c) := by
  show execRingPacketRoute x y out s = _
  rw [execRingPacketRoute]
  dsimp only
  rw [if_neg (by simp [hv]), if_neg (Nat.not_lt.mpr ho), hc]

end

/-- A port that is not fenced and whose request queue has room takes requests. -/
theorem requestPort_open {s : State} {vk n : Nat} (hf : s.niFenced vk = false) (hroom : s.localRoom vk 0 n = true) :
    ¬ (s.niFenced vk || !s.localRoom vk 0 n) = true := by simp [hf, hroom]

/-- Settles O19: each event meets its guard, and a request of the fabric passes or fails the port's checks in their order. -/
theorem fabricRings : Obligations.FabricRings := by
  refine ⟨?flit, ?replay, ?routeLink, ?routePort, ?deliver, ?credit, ?fence, ?asks, ?closed, ?bad, ?homeless, ?sent, ?response, ?beat, ?flowAdmit,
    ?flowWithdraw, ?changeBegin, ?changeEnd, ?starve, ?timeout⟩
  case flit =>
    intro x y dir noise w t s vk l no hw hv hbroken hnaked hedge f
    have hgo : (!vkReal x.val y.val || s.linkBroken no || l.naked || s.edgeHolds no) = false := by rw [hv, hbroken, hnaked, hedge]; rfl
    show execRingFlitReceive x y dir noise s = _
    rw [execRingFlitReceive]
    dsimp only [l, no, vk] at hw hgo ⊢
    rw [hw]
    dsimp only
    rw [if_neg (ne_true_of_eq_false hgo)]
  case replay =>
    intro x y dir s vk l h
    exact congrArg Host.Outcome.next (if_pos h)
  case routeLink =>
    intro x y out c d b step s vk hv ho ht hs ha nv l p f tail rest s1 s2 s3 s4
    rw [exec_ringPacketRoute_link hv ho, State.linkSlot_go ht hs ha]
    rfl
  case routePort =>
    intro x y out c s vk hv ho hc hact s0 s1 s2
    rw [exec_ringPacketRoute_port hv ho hc]
    rfl
  case deliver =>
    intro x y es p s vk h s1
    show execNiPacketDeliver x y es s = _
    rw [execNiPacketDeliver]
    dsimp only
    rw [h]
    rfl
  case credit =>
    intro x y p s vk h
    show execCreditReturn x y s = _
    rw [execCreditReturn]
    dsimp only
    rw [h]
  case fence =>
    intro x y p s vk acks h hroom
    show execFencePacket x y s = _
    rw [execFencePacket]
    dsimp only
    rw [h]
    exact congrArg Host.Outcome.next (if_neg (Nat.not_le.mpr hroom))
  case asks =>
    intro q v op a n tag data s vk want hf hroom hop hbuf
    have hfull : (!(op.val == 2) && decide (s.getF (vkBase vk) F.NI_CFG_resp_bufs ≤ (s.ni vk).buffers)) = true := by simp [hop, hbuf]
    exact congrArg Host.Outcome.next ((if_neg (requestPort_open hf hroom)).trans (if_pos hfull))
  case closed =>
    intro q v op a n tag data s vk want h
    have hclosed : (s.niFenced vk || !s.localRoom vk 0 (flitsOf want)) = true := by
      rwa [Bool.or_eq_true, Bool.not_eq_true']
    exact congrArg Host.Outcome.next (if_pos hclosed)
  case bad =>
    intro q v op a n tag data s vk ni len posted want hf hbuf hroom bad answer hbad
    exact congrArg Host.Outcome.next ((if_neg (requestPort_open hf hroom)).trans ((if_neg (ne_true_of_eq_false hbuf)).trans (if_pos hbad)))
  case homeless =>
    intro q v op a n tag data s vk ni len posted want hf hbuf hroom bad answer hbad hhome
    refine congrArg Host.Outcome.next ((if_neg (requestPort_open hf hroom)).trans ((if_neg (ne_true_of_eq_false hbuf)).trans
      ((if_neg (ne_true_of_eq_false hbad)).trans ?_)))
    rw [hhome]
  case sent =>
    intro q v op a n tag data dst s vk ni len posted want hf hbuf hroom bad hbad hhome ds p s1
    refine congrArg Host.Outcome.next ((if_neg (requestPort_open hf hroom)).trans ((if_neg (ne_true_of_eq_false hbuf)).trans
      ((if_neg (ne_true_of_eq_false hbad)).trans ?_)))
    rw [hhome]
  case response =>
    intro q v r t s vk h
    show execFabricResponse q v s = _
    rw [execFabricResponse]
    dsimp only
    rw [h]
  case beat =>
    intro q v given s vk b pb f h s1
    have hready : ¬ (!s.flowReady vk) = true := by simp [h]
    exact congrArg Host.Outcome.next (if_neg hready)
  case flowAdmit => exact fun m q v s hr => congrArg Host.Outcome.next (ownWrite_ok hr)
  case flowWithdraw => exact fun m q v s hr => congrArg Host.Outcome.next (ownWrite_ok hr)
  case changeBegin =>
    intro x y e m r0 r1 s vk ws n hv hn s1 hit s2
    show execRouteChangeApply x y e m r0 r1 s = _
    rw [execRouteChangeApply]
    dsimp only
    rw [if_neg (by simp [hv]), hn]
  case changeEnd =>
    intro x y e m r0 r1 c s vk ws n hv hn hc hf s1
    show execRouteChangeApply x y e m r0 r1 s = _
    rw [execRouteChangeApply]
    dsimp only
    rw [if_neg (by simp [hv]), hn]
    exact congrArg Host.Outcome.next (if_pos ⟨hc, hf⟩)
  case starve =>
    intro x y vc q t s vk bound h hq
    show execNiStarvation x y s = _
    rw [execNiStarvation]
    dsimp only
    rw [h]
    dsimp only
    rw [hq]
  case timeout =>
    intro x y tag s vk h
    exact congrArg Host.Outcome.next (if_pos h)

end Sys2Proof.Machine
end

/-! ## Power-on, brown-out, bring-up and temperature (O7) -/
section
namespace Sys2Proof.Machine

/-! ### The bring-up of the dies (R619, R622) -/

section
variable {s : State}

/-- With the firmware running, the bring-up waits for a lamp and then trains the edges of die C. -/
theorem exec_deviceBringup_firmware (h : s.pwr.boot = .firmware) : exec .deviceBringup s = .next
    (if s.bootCut then s.bootDone
     else if s.lampDom 0 = 0 ∧ s.lampDom 1 = 0 then s.bootDone
     else if s.lampState 0 = lpActive ∨ s.lampState 1 = lpActive then ([4, 5, 6, 7].foldl (fun s e => s.bootEdge e) s).toBoot .dies
     else s) :=
  congrArg Host.Outcome.next (if_pos h)

/-- With the dies in bring-up, it waits for the edges in training, then releases the quadrants, then the stacks and the lane dies. -/
theorem exec_deviceBringup_dies (h : s.pwr.boot = .dies) : exec .deviceBringup s = .next
    (if s.bootCut then s.bootDone
     else if (List.range 8).any (fun e => s.edgeTraining e) then s
     else if s.pwr.inReset &&& 0x1E ≠ 0 then
       let s1 : State := { s with pwr := { s.pwr with inReset := s.pwr.inReset &&& 0xE1 } }
       [0, 1, 2, 3].foldl (fun s e => s.bootEdge e) s1
     else
       let s1 : State := { s with pwr := { s.pwr with inReset := s.pwr.inReset &&& 0x80 } }
       let s2 := (List.range 4).foldl (fun s k => (if s.pwr.warm then s else s.zeroStack k).reachDom (stackDom k) 1) s1
       s2.bootDone) :=
  congrArg Host.Outcome.next ((if_neg (by simp [h])).trans (if_pos h))

end

/-- Settles O7: each event meets the state of the boot that it needs. -/
theorem bootAndTemperature : Obligations.BootAndTemperature := by
  refine ⟨?temperature, ?controlStop, ?tripClear, ?powerOn, ?railLoss, ?porN, ?vccAon, ?stewardBoot, ?firmwareCut, ?noLamp, ?lamp, ?diesCut,
    ?quadrants, ?stackPower, ?partner⟩
  case temperature =>
    intro temps s hreset hstop t valid s1 s1a s1b hot warn s2 s3 s4
    exact congrArg Host.Outcome.next (if_neg (not_or_intro hreset hstop))
  case controlStop =>
    -- by rewriting alone: the kernel must not evaluate the sum with the 10 ms of R614
    intro t s h
    show execThermalControlStop s = _
    simp only [execThermalControlStop, h]
  case tripClear => exact fun m s hr => congrArg Host.Outcome.next (ownWrite_ok hr)
  case powerOn =>
    intro s h cause s1 s2 s3
    exact congrArg Host.Outcome.next (if_neg (Classical.not_not.mpr h))
  case railLoss => exact fun rail s => rfl
  case porN => exact fun s => rfl
  case vccAon => exact fun s => rfl
  case stewardBoot =>
    intro pass step s h p ok s1
    exact congrArg Host.Outcome.next (if_neg (Classical.not_not.mpr h))
  case firmwareCut =>
    intro s h hcut
    rw [exec_deviceBringup_firmware h, if_pos hcut]
  case noLamp =>
    intro s h hcut h0 h1
    rw [exec_deviceBringup_firmware h, if_neg (ne_true_of_eq_false hcut), if_pos ⟨h0, h1⟩]
  case lamp =>
    intro s h hcut hdom hlamp
    rw [exec_deviceBringup_firmware h, if_neg (ne_true_of_eq_false hcut), if_neg hdom, if_pos hlamp]
    rfl
  case diesCut =>
    intro s h hcut
    rw [exec_deviceBringup_dies h, if_pos hcut]
  case quadrants =>
    intro s h hcut htrain hheld s1
    rw [exec_deviceBringup_dies h, if_neg (ne_true_of_eq_false hcut), if_neg (ne_true_of_eq_false htrain), if_pos hheld]
    rfl
  case stackPower =>
    intro s h hcut htrain hheld s1 s2
    rw [exec_deviceBringup_dies h, if_neg (ne_true_of_eq_false hcut), if_neg (ne_true_of_eq_false htrain),
      if_neg (Classical.not_not.mpr hheld)]
  case partner =>
    intro s hsite hready htrip hlink hfree s1
    exact congrArg Host.Outcome.next (if_neg (by simp [hsite, hready, htrip, hlink, hfree]))

end Sys2Proof.Machine
end

/-! ## Configuration images, keys and upset scrubbing (O17) -/
section
namespace Sys2Proof.Machine

/-- Settles O17: a taken packet passes its checks, and each event meets the state of its handle, or finds its apply, its plane or its key load. That
several armed planes are checked in turn is the model's choice (assumption log 97). -/
theorem imagesAndScrubbing : Obligations.ImagesAndScrubbing := by
  refine ⟨?stage, ?verify, ?apply, ?scrub, ?scrubQuery, ?key, ?dataNoOp, ?data, ?stageTimeout, ?push, ?verified, ?written, ?frameArmed, ?frame,
    ?keyDone⟩
  case stage =>
    intro c s h ht hl htgt hp hheld h3 h5 h6 hop hpush u
    have hfree : (!s.heldByOther c && s.hState h != 3 && s.hState h != 5 && s.hState h != 6 && (s.stageOp h).isNone &&
        !(srcOfStage (c.w 2) == 3 && s.pushHandle.isSome)) = true := by
      rw [hheld, hop, hpush, bne_iff_ne.mpr h3, bne_iff_ne.mpr h5, bne_iff_ne.mpr h6]; rfl
    exact congrArg Host.Outcome.next (long_ok none _ ht
      ((Chk.ok_iff _).mpr ⟨beq_iff_eq.mpr hl, htgt, rfl, hp, rfl, rfl, rfl, hfree, rfl⟩))
  case verify =>
    intro c s h ht hl htgt hh hst hheld u
    have hpar : (decide (h < 8) && s.hState h == 2) = true := by simp [hh, hst]
    exact congrArg Host.Outcome.next (long_ok none _ ht
      ((Chk.ok_iff _).mpr ⟨beq_iff_eq.mpr hl, htgt, rfl, hpar, rfl, rfl, rfl, hheld, rfl⟩))
  case apply =>
    intro c s sel ht hl htgt hp hdom hheld hsel u
    exact congrArg Host.Outcome.next (long_ok none _ ht
      ((Chk.ok_iff _).mpr ⟨beq_iff_eq.mpr hl, htgt, rfl, hp, hdom, rfl, rfl, Bool.and_eq_true_iff.mpr ⟨hheld, hsel⟩, rfl⟩))
  case scrub =>
    intro c s q b ht hl htgt h2 h3 h4 hq hheld u r
    have hpar : (c.f 2 31 3 == 0 && (c.w 3 == 0 || (decide (16 ≤ c.w 3) && decide (c.w 3 ≤ 16384))) &&
        (c.w 4 == 0 || (decide (80 ≤ c.w 4) && decide (c.w 4 ≤ 100000)))) = true := by rw [h2, h3, h4]; rfl
    exact congrArg Host.Outcome.next (immediate_ok _ ht
      ((Chk.ok_iff _).mpr ⟨beq_iff_eq.mpr hl, htgt, rfl, hpar, hq, rfl, rfl, hheld, rfl⟩))
  case scrubQuery =>
    intro c s q b ht hl htgt hq u r
    exact congrArg Host.Outcome.next (immediate_ok _ ht
      ((Chk.ok_iff _).mpr ⟨beq_iff_eq.mpr hl, htgt, rfl, rfl, hq, rfl, rfl, rfl, rfl⟩))
  case key =>
    intro c s ht hl htgt h2 h4 h3 hblob hheld u
    have hpar : (decide (c.w 2 < 4) && c.f 4 31 8 == 0 && c.w 3 % 64 == 0 && localRange (blobAddr (c.w 3) (c.w 4)) 256) = true := by
      rw [decide_eq_true h2, h4, h3, hblob]; rfl
    exact congrArg Host.Outcome.next (long_ok none id ht
      ((Chk.ok_iff _).mpr ⟨beq_iff_eq.mpr hl, htgt, rfl, hpar, rfl, rfl, rfl, hheld, rfl⟩))
  case dataNoOp =>
    intro h n peer err refused s hst hop
    refine congrArg Host.Outcome.next ((if_neg (Classical.not_not.mpr hst)).trans ?_)
    rw [hop]
  case data =>
    intro h n peer err refused o s hst hop hsrc
    refine congrArg Host.Outcome.next ((if_neg (Classical.not_not.mpr hst)).trans ?_)
    rw [hop]
    exact if_neg hsrc
  case stageTimeout => exact fun h s hst => congrArg Host.Outcome.next (if_neg (Classical.not_not.mpr hst))
  case push => exact fun m v s hr => congrArg Host.Outcome.next (ownWrite_ok hr)
  case verified => exact fun h s hst => congrArg Host.Outcome.next (if_neg (Classical.not_not.mpr hst))
  case written =>
    intro f rewritten fail a s ha a1 s1 s2
    show execCfgApplyWriteDone f rewritten fail s = _
    rewrite [execCfgApplyWriteDone, ha]
    rfl
  case frameArmed =>
    intro q hits stuck f s hf p fr s1
    show execScrubFrameCheck q hits stuck s = _
    rw [execScrubFrameCheck, hf]
  case frame =>
    intro q hits stuck s hf planes hen hplanes pos0 start pos x f nx s1 s2
    have hgo : ¬ (!s.flag (scrubBase q.val) F.SCRUB_CFG_frame_en || planes.isEmpty) = true := by simp [hen, hplanes]
    show execScrubFrameCheck q hits stuck s = _
    rw [execScrubFrameCheck, hf]
    exact congrArg Host.Outcome.next (if_neg hgo)
  case keyDone =>
    intro es o s ho
    show execKeyLoadCompletion es s = _
    rw [execKeyLoadCompletion, ho]

end Sys2Proof.Machine
end

/-! ## Ring packets and their flits (O57)

Three layers: a list of bytes comes back from the bytes of its number, a flit's parts from the flit, and the header words from the first flit's
data (R300, R302). -/
section
namespace Sys2Proof.Machine

/-! ### Bytes and their number (R14) -/

theorem length_bytesOf (n v : Nat) : (bytesOf n v).length = n := by
  induction n generalizing v with
  | zero => rfl
  | succ n ih => rw [bytesOf, List.length_cons, ih]

theorem ofBytes_lt (l : List Byte) : ofBytes l < 256 ^ l.length := by
  induction l with
  | nil => decide
  | cons b t ih =>
    have hb : b.toNat < 256 := b.isLt
    rw [ofBytes, List.length_cons, Nat.pow_succ]
    omega

/-- A piece of at most `n` bytes is a number of `8 * n` bits. -/
theorem ofBytes_take_lt {n b : Nat} (h : 8 * n = b) (l : List Byte) : ofBytes (l.take n) < 2 ^ b :=
  h ▸ Nat.pow_mul 2 8 n ▸ Nat.lt_of_lt_of_le (ofBytes_lt _) (Nat.pow_le_pow_right (by decide) (List.length_take_le n l))

/-- `n` bytes of the number of a list start with the list, where they hold it. -/
theorem take_bytesOf_ofBytes {n : Nat} {l : List Byte} (h : l.length ≤ n) : (bytesOf n (ofBytes l)).take l.length = l := by
  induction l generalizing n with
  | nil => rfl
  | cons b t ih =>
    obtain ⟨m, rfl⟩ : ∃ m, n = m + 1 := ⟨n - 1, by rw [List.length_cons] at h; omega⟩
    have hb : b.toNat < 256 := b.isLt
    have hhead : BitVec.ofNat 8 (b.toNat + 256 * ofBytes t) = b :=
      BitVec.eq_of_toNat_eq (by rw [BitVec.toNat_ofNat]; omega)
    have htail : (b.toNat + 256 * ofBytes t) / 256 = ofBytes t := by omega
    rw [ofBytes, bytesOf, htail, hhead, List.length_cons, List.take_succ_cons, ih (Nat.le_of_succ_le_succ h)]

/-- Where the rest begins with what a list has past its first `n` bytes, the `n` bytes of its first piece's number and the rest begin with the
list: a piece that is not full is the last. -/
theorem take_bytesOf_append {n : Nat} {l rest : List Byte} (h : rest.take (l.drop n).length = l.drop n) :
    (bytesOf n (ofBytes (l.take n)) ++ rest).take l.length = l := by
  have hpiece := take_bytesOf_ofBytes (List.length_take_le n l)
  rw [List.length_take] at hpiece
  rw [List.length_drop] at h
  rw [List.take_append, length_bytesOf, h]
  rcases Nat.le_total l.length n with hl | hl
  · rw [Nat.min_eq_right hl, List.take_of_length_le hl] at hpiece
    rw [List.take_of_length_le hl, hpiece, List.drop_eq_nil_of_le hl, List.append_nil]
  · rw [Nat.min_eq_left hl] at hpiece
    rw [List.take_of_length_le (Nat.le_trans (Nat.le_of_eq (length_bytesOf _ _)) hl)]
    rw [List.take_of_length_le (Nat.le_of_eq (length_bytesOf _ _))] at hpiece
    rw [hpiece, List.take_append_drop]

/-- A list cut into `m` pieces of `k` bytes that hold it begins the bytes of the pieces' numbers. -/
theorem take_flatMap_bytesOf {k m : Nat} {l : List Byte} (h : l.length ≤ k * m) :
    ((List.range m).flatMap (fun i => bytesOf k (ofBytes ((l.drop (k * i)).take k)))).take l.length = l := by
  induction m generalizing l with
  | zero =>
    rw [Nat.mul_zero, Nat.le_zero, List.length_eq_zero_iff] at h
    rw [h]; rfl
  | succ m ih =>
    have hrest : (l.drop k).length ≤ k * m := by rw [List.length_drop]; rw [Nat.mul_succ] at h; omega
    have hshift : ((List.range m).map Nat.succ).flatMap (fun i => bytesOf k (ofBytes ((l.drop (k * i)).take k))) =
        (List.range m).flatMap (fun i => bytesOf k (ofBytes (((l.drop k).drop (k * i)).take k))) := by
      rw [List.flatMap_map]
      simp only [List.drop_drop, Nat.mul_succ, Nat.add_comm]
    rw [List.range_succ_eq_map, List.flatMap_cons, hshift]
    exact take_bytesOf_append (ih hrest)

/-! ### The parts of a flit (R300) -/

theorem crcStep_lt (c : Nat) (b : Bool) : crcStep c b < 4096 := by
  have hv : c * 2 % 4096 < 2 ^ 12 := Nat.mod_lt _ (by decide)
  unfold crcStep
  dsimp only
  split
  · exact Nat.xor_lt_two_pow hv (by decide)
  · exact hv

/-- A sum over bits keeps its 12 bits. -/
theorem foldl_crcStep_lt (f : Nat → Bool) (l : List Nat) {c : Nat} (h : c < 4096) : l.foldl (fun c i => crcStep c (f i)) c < 4096 := by
  induction l generalizing c with
  | nil => exact h
  | cons i l ih => exact ih (crcStep_lt c (f i))

theorem flitCrc_lt (data hdr : Nat) : flitCrc data hdr < 4096 :=
  foldl_crcStep_lt _ _ (foldl_crcStep_lt _ _ (by decide))

theorem bit_le_one (b : Bool) : bit b ≤ 1 := by cases b <;> decide

theorem decide_bit (b : Bool) : decide (bit b = 1) = b := by cases b <;> rfl

/-- The header bits of a flit below its check, as `mkFlit` joins them. -/
def flitBits (seq vc : Nat) (poison tail head : Bool) : Nat := seq % 64 * 64 + bit poison * 32 + bit tail * 16 + bit head * 8 + vc

section
variable {data seq vc : Nat} {poison tail head : Bool} (hd : data < 2 ^ 512) (hv : vc < 8)
include hv

theorem flitBits_lt : flitBits seq vc poison tail head < 4096 := by
  have := bit_le_one poison
  have := bit_le_one tail
  have := bit_le_one head
  rw [flitBits]
  omega

include hd

theorem toNat_mkFlit : (mkFlit data seq vc poison tail head).toNat =
    (flitCrc data (flitBits seq vc poison tail head) * 4096 + flitBits seq vc poison tail head) * 2 ^ 512 + data := by
  have hc := flitCrc_lt data (flitBits seq vc poison tail head)
  have hb := flitBits_lt (seq := seq) (poison := poison) (tail := tail) (head := head) hv
  rw [mkFlit, BitVec.toNat_ofNat, ← flitBits]
  omega

theorem flitData_mkFlit : flitData (mkFlit data seq vc poison tail head) = data := by
  rw [flitData, toNat_mkFlit hd hv]
  omega

theorem flitHdr_mkFlit : flitHdr (mkFlit data seq vc poison tail head) =
    flitCrc data (flitBits seq vc poison tail head) * 4096 + flitBits seq vc poison tail head := by
  rw [flitHdr, toNat_mkFlit hd hv]
  omega

theorem flitGood_mkFlit : flitGood (mkFlit data seq vc poison tail head) = true := by
  have hb := flitBits_lt (seq := seq) (poison := poison) (tail := tail) (head := head) hv
  have hlow : (flitCrc data (flitBits seq vc poison tail head) * 4096 + flitBits seq vc poison tail head) % 4096 =
      flitBits seq vc poison tail head := by omega
  rw [flitGood, flitHdr_mkFlit hd hv, flitData_mkFlit hd hv, beq_iff_eq, hlow]
  omega

/-- The fields of the header, below its check. -/
theorem flitHdr_mkFlit_fields : flitHdr (mkFlit data seq vc poison tail head) % 8 = vc ∧
    flitHdr (mkFlit data seq vc poison tail head) / 2 ^ 4 % 2 = bit tail ∧
    flitHdr (mkFlit data seq vc poison tail head) / 2 ^ 5 % 2 = bit poison ∧
    flitHdr (mkFlit data seq vc poison tail head) / 2 ^ 6 % 64 = seq % 64 := by
  have := bit_le_one poison
  have := bit_le_one tail
  have := bit_le_one head
  rw [flitHdr_mkFlit hd hv]
  generalize flitCrc data _ = crc
  rw [flitBits]
  omega

theorem flitVc_mkFlit : flitVc (mkFlit data seq vc poison tail head) = vc :=
  (flitHdr_mkFlit_fields hd hv).1

theorem flitTail_mkFlit : flitTail (mkFlit data seq vc poison tail head) = tail := by
  obtain ⟨-, htail, -, -⟩ := flitHdr_mkFlit_fields (seq := seq) (poison := poison) (tail := tail) (head := head) hd hv
  rw [flitTail, Nat.testBit_eq_decide_div_mod_eq, htail, decide_bit]

/-- Header bit 5 marks a poisoned flit. -/
theorem flitPoison_mkFlit : (flitHdr (mkFlit data seq vc poison tail head)).testBit 5 = poison := by
  obtain ⟨-, -, hpoison, -⟩ := flitHdr_mkFlit_fields (seq := seq) (poison := poison) (tail := tail) (head := head) hd hv
  rw [Nat.testBit_eq_decide_div_mod_eq, hpoison, decide_bit]

theorem flitSeq_mkFlit : flitSeq (mkFlit data seq vc poison tail head) = seq % 64 := by
  obtain ⟨-, -, -, hseq⟩ := flitHdr_mkFlit_fields (seq := seq) (poison := poison) (tail := tail) (head := head) hd hv
  rw [flitSeq, bitsOf, Nat.shiftRight_eq_div_pow]
  exact hseq

end

/-! ### The data of a packet's flits (R302) -/

/-- The first `n` header words as one number, the first lowest. -/
def headerNum (hdr : List Nat) (n : Nat) : Nat := (List.range n).foldl (fun a i => a + hdr.getD i 0 % 4294967296 * 4294967296 ^ i) 0

theorem headerNum_succ (hdr : List Nat) (n : Nat) :
    headerNum hdr (n + 1) = headerNum hdr n + hdr.getD n 0 % 4294967296 * 4294967296 ^ n := by
  rw [headerNum, List.range_succ, List.foldl_append]
  rfl

theorem headerNum_lt (hdr : List Nat) (n : Nat) : headerNum hdr n < 4294967296 ^ n := by
  induction n with
  | zero => exact Nat.one_pos
  | succ n ih =>
    have hw : hdr.getD n 0 % 4294967296 ≤ 4294967295 := Nat.le_of_lt_succ (Nat.mod_lt _ (by decide))
    have := Nat.mul_le_mul_right (4294967296 ^ n) hw
    rw [headerNum_succ, Nat.pow_succ]
    omega

/-- A header word, out of the number and whatever stands above it. -/
theorem headerNum_word (hdr : List Nat) {i n : Nat} (h : i < n) (y : Nat) :
    (headerNum hdr n + y * 4294967296 ^ n) / 4294967296 ^ i % 4294967296 = hdr.getD i 0 % 4294967296 := by
  induction n generalizing y with
  | zero => exact absurd h (Nat.not_lt_zero i)
  | succ n ih =>
    have hjoin : headerNum hdr (n + 1) + y * 4294967296 ^ (n + 1) =
        headerNum hdr n + (hdr.getD n 0 % 4294967296 + y * 4294967296) * 4294967296 ^ n := by
      rw [headerNum_succ, Nat.pow_succ, Nat.add_mul, Nat.mul_comm (4294967296 ^ n) 4294967296, Nat.mul_assoc y, Nat.add_assoc]
    rw [hjoin]
    rcases Nat.lt_succ_iff_lt_or_eq.mp h with hlt | rfl
    · exact ih hlt _
    · rw [Nat.add_mul_div_right _ _ (Nat.pow_pos (by decide)), Nat.div_eq_of_lt (headerNum_lt hdr i), Nat.zero_add, Nat.add_mul_mod_self_right,
        Nat.mod_mod]

/-- The data of the first flit: the header words, and 32 bytes of payload above them. -/
def Pkt.headWord (p : Pkt) : Nat := headerNum p.hdr 8 + ofBytes (p.data.take 32) * 2 ^ 256

theorem Pkt.words_eq (p : Pkt) : p.words =
    p.headWord :: (List.range (p.flits - 1)).map (fun i => ofBytes (((p.data.drop 32).drop (64 * i)).take 64)) := by
  simp only [List.drop_drop]
  rfl

theorem Pkt.headWord_lt (p : Pkt) : p.headWord < 2 ^ 512 := by
  have h1 := headerNum_lt p.hdr 8
  have h2 := ofBytes_take_lt (n := 32) rfl p.data
  rw [Pkt.headWord]
  omega

theorem Pkt.flits_pos (p : Pkt) : 0 < p.flits := by
  rw [Pkt.flits, flitsOf]
  split <;> omega

theorem Pkt.length_words (p : Pkt) : p.words.length = p.flits := by
  rw [Pkt.words_eq, List.length_cons, List.length_map, List.length_range]
  exact Nat.sub_add_cancel p.flits_pos

theorem Pkt.words_lt (p : Pkt) : ∀ x ∈ p.words, x < 2 ^ 512 := by
  rw [Pkt.words_eq, List.forall_mem_cons, List.forall_mem_map]
  exact ⟨p.headWord_lt, fun i _ => ofBytes_take_lt (n := 64) (b := 512) rfl _⟩

theorem Pkt.words_getD_lt (p : Pkt) (i : Nat) : p.words.getD i 0 < 2 ^ 512 := by
  rcases Nat.lt_or_ge i p.words.length with h | h
  · rw [← List.getElem_eq_getD (h := h) 0]
    exact p.words_lt _ (List.getElem_mem h)
  · rw [List.getD_eq_getElem?_getD, List.getElem?_eq_none h, Option.getD_none]
    omega

/-- The bytes of the other flits' data begin with the payload past its first 32 bytes. -/
theorem Pkt.take_tailBytes (p : Pkt) :
    ((p.words.drop 1).flatMap (bytesOf 64)).take (p.data.drop 32).length = p.data.drop 32 := by
  have hfits : (p.data.drop 32).length ≤ 64 * (p.flits - 1) := by
    rw [List.length_drop, Pkt.flits, flitsOf]
    split <;> omega
  rw [Pkt.words_eq, List.drop_succ_cons, List.drop_zero, List.flatMap_map]
  exact take_flatMap_bytesOf hfits

theorem Pkt.headWord_div (p : Pkt) : p.headWord / 2 ^ 256 = ofBytes (p.data.take 32) := by
  have h := headerNum_lt p.hdr 8
  rw [Pkt.headWord]
  omega

/-- The payload begins the bytes that the flits carry. -/
theorem Pkt.take_payload (p : Pkt) :
    (bytesOf 32 (p.headWord / 2 ^ 256) ++ (p.words.drop 1).flatMap (bytesOf 64)).take p.data.length = p.data := by
  rw [p.headWord_div]
  exact take_bytesOf_append p.take_tailBytes

/-- The header words of the first flit's data are the packet's. -/
theorem Pkt.headWord_hdr {p : Pkt} (hlen : p.hdr.length = 8) (hw : ∀ x ∈ p.hdr, x < 4294967296) :
    (List.range 8).map (fun i => bitsOf p.headWord (32 * i + 31) (32 * i)) = p.hdr := by
  refine List.ext_getElem (by simp [hlen]) fun i hi hi' => ?_
  have h8 : i < 8 := hlen ▸ hi'
  have hword := headerNum_word p.hdr h8 (ofBytes (p.data.take 32))
  have hwidth : 32 * i + 31 - 32 * i + 1 = 32 := by omega
  rw [← List.getElem_eq_getD (h := hi') 0, Nat.mod_eq_of_lt (hw _ (List.getElem_mem hi'))] at hword
  rw [List.getElem_map, List.getElem_range, bitsOf, hwidth, Nat.shiftRight_eq_div_pow, Nat.pow_mul]
  exact hword

/-! ### The flits of a packet -/

theorem Pkt.length_toFlits (p : Pkt) (vc seq : Nat) : (p.toFlits vc seq).length = p.flits := by
  rw [Pkt.toFlits, List.length_map, List.length_range]

theorem Pkt.getElem_toFlits (p : Pkt) (vc seq : Nat) {n : Nat} (h : n < (p.toFlits vc seq).length) :
    (p.toFlits vc seq)[n] = p.flit vc (seq + n) n := by
  simp only [Pkt.toFlits, List.getElem_map, List.getElem_range]

theorem Pkt.getD_toFlits (p : Pkt) (vc seq : Nat) {n : Nat} (h : n < (p.toFlits vc seq).length) :
    (p.toFlits vc seq).getD n 0 = p.flit vc (seq + n) n := by
  rw [← List.getElem_eq_getD (h := h) 0, p.getElem_toFlits vc seq h]

/-- The flits' data are the packet's words. -/
theorem Pkt.map_flitData_toFlits (p : Pkt) {vc : Nat} (seq : Nat) (hv : vc < 8) : (p.toFlits vc seq).map flitData = p.words := by
  refine List.ext_getElem (by rw [List.length_map, p.length_toFlits, p.length_words]) fun i hi hi' => ?_
  rw [List.getElem_map, p.getElem_toFlits, Pkt.flit, flitData_mkFlit (p.words_getD_lt i) hv, ← List.getElem_eq_getD (h := hi') 0]

/-- The data of the first flit is the first word. -/
theorem Pkt.flitData_headD_toFlits (p : Pkt) {vc : Nat} (seq : Nat) (hv : vc < 8) : flitData ((p.toFlits vc seq).headD 0) = p.headWord := by
  have h := p.map_flitData_toFlits seq hv
  cases hl : p.toFlits vc seq with
  | nil => rw [hl, p.words_eq] at h; cases h
  | cons x t =>
    rw [hl, p.words_eq] at h
    exact (List.cons.inj h).1

/-- The poison bits mark the listed flits. -/
theorem Pkt.poisoned_toFlits (p : Pkt) {vc : Nat} (seq : Nat) (hv : vc < 8) :
    (List.range (p.toFlits vc seq).length).filter (fun i => (flitHdr ((p.toFlits vc seq).getD i 0)).testBit 5) =
      (List.range p.flits).filter (fun i => p.poison.contains i) := by
  rw [p.length_toFlits]
  refine List.filter_congr fun i hi => ?_
  rw [p.getD_toFlits vc seq (by rwa [p.length_toFlits, ← List.mem_range]), Pkt.flit, flitPoison_mkFlit (p.words_getD_lt i) hv]

/-- A packet comes back from its flits. -/
theorem ofFlits_toFlits {p : Pkt} {vc : Nat} (seq : Nat) (hv : vc < 8) (hlen : p.hdr.length = 8) (hw : ∀ x ∈ p.hdr, x < 4294967296)
    (hdata : if opCarries p.op then p.bytes = p.data.length else p.data = [])
    (hpoison : p.poison = (List.range p.flits).filter (fun i => p.poison.contains i)) : ofFlits (p.toFlits vc seq) = p := by
  have htail : ((p.toFlits vc seq).drop 1).flatMap (fun x => bytesOf 64 (flitData x)) = (p.words.drop 1).flatMap (bytesOf 64) := by
    rw [← p.map_flitData_toFlits seq hv, ← List.map_drop, List.flatMap_map]
  have hpay : (if opCarries p.op then
      (bytesOf 32 (p.headWord / 2 ^ 256) ++ (p.words.drop 1).flatMap (bytesOf 64)).take p.bytes else []) = p.data := by
    split at hdata
    next hc => rw [if_pos hc, hdata, p.take_payload]
    next hc => rw [if_neg hc, hdata]
  unfold ofFlits
  dsimp only
  rw [p.flitData_headD_toFlits seq hv, p.headWord_hdr hlen hw, htail, p.poisoned_toFlits seq hv, ← hpoison]
  exact congrArg (fun d => Pkt.mk p.hdr d p.poison) hpay

/-- Settles O57: a packet comes back from its flits, and each flit's parts are those that it was made of. -/
theorem ringFlitsCarryPackets : Obligations.RingFlitsCarryPackets := by
  refine ⟨fun p vc seq hv hlen hw hdata hpoison => ofFlits_toFlits seq hv hlen hw hdata hpoison, fun p vc seq n hv hn => ?_,
    fun p vc seq => p.length_toFlits vc seq⟩
  have hd := p.words_getD_lt n
  rw [p.getD_toFlits vc seq hn, p.length_toFlits, Pkt.flit]
  exact ⟨flitGood_mkFlit hd hv, flitVc_mkFlit hd hv, flitSeq_mkFlit hd hv, flitTail_mkFlit hd hv⟩

end Sys2Proof.Machine
end

/-! ## Accesses to frame memory without rights (O53)

An access begins with a request at its own address; where the rights do not allow that one, nothing is read and nothing stored. -/
section
namespace Sys2Proof.Machine

/-- The requests of an access begin at its address (R519). -/
theorem blocksOf_cons (a n : Nat) : ∃ m t, blocksOf a n = (a, m) :: t := by
  rw [blocksOf]
  split
  · exact ⟨0, [], rfl⟩
  next hn =>
    have hlo : max a ((a / 512 + 0) * 512) = a := by omega
    have hhi : (min (a + n) ((a / 512 + 0 + 1) * 512) - a != 0) = true := bne_iff_ne.mpr (by omega)
    rw [piecesOf, List.range_succ_eq_map, List.map_cons]
    dsimp only
    rw [hlo]
    exact ⟨_, _, List.filter_cons_of_pos hhi⟩

variable {s : State} {cls a : Nat}

/-- A request without the rights that it needs is refused, if not for its address or its stack (R526). -/
theorem State.fmAdmit_denied {rd wr : Bool} (h : s.mayAccess cls (stackOf (s.phys a)) (lineOf (s.phys a)) rd wr = false) :
    ∃ st, s.fmAdmit cls a rd wr = (some st, (s.fmAdmit cls a rd wr).2) := by
  unfold State.fmAdmit
  dsimp only
  split
  · exact ⟨_, rfl⟩
  split
  · exact ⟨_, rfl⟩
  rw [if_pos (by rw [h]; rfl)]
  exact ⟨_, rfl⟩

theorem State.fmAdmit_mem (s : State) (cls a : Nat) (rd wr : Bool) : (s.fmAdmit cls a rd wr).2.mem = s.mem :=
  (State.fmAdmit_kept (kK := maskOf [.mem]) rfl (Kept.self _ (s := s) (M := fun _ => True) trivial)).1 .mem rfl

/-- A read whose first request is refused answers its status alone. -/
theorem State.fmRead_denied (h : s.mayAccess cls (stackOf (s.phys a)) (lineOf (s.phys a)) true false = false) (n : Nat)
    (es : List LineErr) : ∃ st, (s.fmRead cls a n es).1 = { status := st, data := [], bad := [] } := by
  obtain ⟨m, t, hb⟩ := blocksOf_cons a n
  obtain ⟨st, ha⟩ := State.fmAdmit_denied h
  exact ⟨st, by rw [State.fmRead, hb, State.readBlocks, ha]⟩

/-- A write whose first request is refused waits for nothing, and does no more than its admission does. -/
theorem State.fmWrite_denied (h : s.mayAccess cls (stackOf (s.phys a)) (lineOf (s.phys a)) false true = false) (bs : List Byte)
    (bad : List (Nat × Nat)) (es : List LineErr) : ∃ st, s.fmWrite cls a bs bad es = (some st, (s.fmAdmit cls a false true).2) := by
  obtain ⟨m, t, hb⟩ := blocksOf_cons a bs.length
  obtain ⟨st, ha⟩ := State.fmAdmit_denied h
  have hgo : ¬ (s.fmBlocked a bs.length && (s.fmAdmit cls a false true).1.isNone) = true := by
    rw [ha, Option.isNone_some, Bool.and_false]
    exact Bool.false_ne_true
  refine ⟨st, ?_⟩
  rw [State.fmWrite, if_neg hgo, hb, State.writeBlocks, ha]

/-- A read that need not wait behind another is answered at once (R534). -/
theorem exec_frameMemoryRead_free {cls : Fin 7} {a : BitVec 33} {n : Fin 513} (h : s.fmBlocked a.toNat n.val = false) (es : List LineErr) :
    exec (.frameMemoryRead cls a n es) s = .next (s.fmAnswer cls.val cls.val a.toNat n.val es) :=
  congrArg Host.Outcome.next (if_neg (by simp [h]))

/-- A refused write answers its status after its admission. -/
theorem exec_frameMemoryWrite_denied {cls : Fin 7} {a : BitVec 33}
    (h : s.mayAccess cls.val (stackOf (s.phys a.toNat)) (lineOf (s.phys a.toNat)) false true = false) (bs : List Byte) (poison posted : Bool)
    (es : List LineErr) : ∃ st, exec (.frameMemoryWrite cls a bs poison posted es) s =
      .next (if posted then (s.fmAdmit cls.val a.toNat false true).2
        else (s.fmAdmit cls.val a.toNat false true).2.emit (.memory cls.val a.toNat st [] false)) := by
  obtain ⟨st, hw⟩ := State.fmWrite_denied h bs (allBad poison bs.length) es
  refine ⟨st, ?_⟩
  show execFrameMemoryWrite cls a bs poison posted es s = _
  rw [execFrameMemoryWrite, hw]

/-- Settles O53: a refused read answers its status alone, a refused write ends at its admission, and a read's table of written components does not
name memory. -/
theorem frameMemoryRights : Obligations.FrameMemoryRights := by
  refine ⟨fun cls a n es s t he => ⟨exec_same he (c := .mem) (by simp [writes]), fun hfree hdenied => ?read⟩,
    fun cls a bs poison posted es s t he hdenied => ?write⟩
  case read =>
    obtain ⟨st, hr⟩ := State.fmRead_denied hdenied n.val es
    obtain rfl : s.fmAnswer cls.val cls.val a.toNat n.val es = t :=
      Host.Outcome.next.inj ((exec_frameMemoryRead_free hfree es).symm.trans he)
    exact ⟨st, by rw [State.fmAnswer, hr]; rfl⟩
  case write =>
    obtain ⟨st, hw⟩ := exec_frameMemoryWrite_denied hdenied bs poison posted es
    obtain rfl := Host.Outcome.next.inj (hw.symm.trans he)
    have hmem := s.fmAdmit_mem cls.val a.toNat false true
    cases posted with
    | true => exact hmem
    | false => exact hmem

end Sys2Proof.Machine
end

/-! ## Optical edges and lamps (O26) -/
section
namespace Sys2Proof.Machine

/-- Settles O26: a taken packet passes its checks, and each event meets the state of its edge or its lamp, or finds its operation. -/
theorem opticalEdges : Obligations.OpticalEdges := by
  refine ⟨?retrain, ?swap, ?flitGood, ?flitBad, ?spareSwitch, ?fullTrainDone, ?fastRetrainDone, ?waitSplit, ?retrainRetired, ?retrainDone,
    ?lineMeasure, ?warmDone, ?warmTimeout, ?swapDone⟩
  case retrain =>
    intro c s e ht hl hedge hinst hpar hdom hret hheld htrain hswap hop hchange u
    have htgt : ((edgeOf c.die c.blk).isSome && c.inst == 0) = true := by rw [hedge, hinst]; rfl
    have hfree : (!s.heldByOther c && !s.edgeTraining e && !s.swapping && (s.retrainOp e).isNone && !s.edgeChanging e) = true := by
      rw [hheld, htrain, hswap, hop, hchange]; rfl
    exact congrArg Host.Outcome.next (long_ok none _ ht
      ((Chk.ok_iff _).mpr ⟨beq_iff_eq.mpr hl, htgt, rfl, beq_iff_eq.mpr hpar, hdom, rfl, bne_iff_ne.mpr hret, hfree, rfl⟩))
  case swap =>
    intro c s j ht hl hlamp hstandby hheld hswap hedges u
    have hfree : (!s.heldByOther c && !s.swapping && !(List.range 8).any (fun e => s.edgeTraining e || s.edgeChanging e)) = true := by
      rw [hheld, hswap, hedges]; rfl
    exact congrArg Host.Outcome.next (long_ok none id ht
      ((Chk.ok_iff _).mpr ⟨beq_iff_eq.mpr hl, hlamp, rfl, beq_iff_eq.mpr hstandby, rfl, rfl, rfl, hfree, rfl⟩))
  case flitGood =>
    intro e bad s hst hbad
    subst hbad
    exact congrArg Host.Outcome.next (if_neg (Classical.not_not.mpr hst))
  case flitBad =>
    intro e bad l s hst hbad hwg hcarries hout s0 s1 r
    subst hbad
    refine congrArg Host.Outcome.next ((if_neg (Classical.not_not.mpr hst)).trans (if_neg ?_))
    simp [hcarries, hout, hwg]
  case spareSwitch =>
    intro e lane rest s hspare
    show execEdgeSpareSwitch e s = _
    rw [execEdgeSpareSwitch, hspare]
  case fullTrainDone =>
    intro e fails s hst old s1 best step
    exact congrArg Host.Outcome.next (if_neg (Classical.not_not.mpr hst))
  case fastRetrainDone =>
    intro e fails s hst tested s1 best
    exact congrArg Host.Outcome.next (if_neg (Classical.not_not.mpr hst))
  case waitSplit =>
    intro e s htrain hsplit hshut
    exact congrArg Host.Outcome.next (if_pos (by rw [htrain, hsplit, decide_eq_true hshut]; rfl))
  case retrainRetired =>
    intro e o s hop res hst
    show execEdgeRetrainCompletion e s = _
    rw [execEdgeRetrainCompletion, hop]
    exact congrArg Host.Outcome.next (if_pos hst)
  case retrainDone =>
    intro e o s hop res hst htrain
    show execEdgeRetrainCompletion e s = _
    rw [execEdgeRetrainCompletion, hop]
    exact congrArg Host.Outcome.next ((if_neg hst).trans (if_neg (ne_true_of_eq_false htrain)))
  case lineMeasure => exact fun j k power offset dimmed gone s => rfl
  case warmDone =>
    intro j s hst o none_ waits s1
    exact congrArg Host.Outcome.next (if_neg (Classical.not_not.mpr hst))
  case warmTimeout =>
    intro j s hst hlong o s1
    exact congrArg Host.Outcome.next (if_neg (not_or_intro (Classical.not_not.mpr hst) (Nat.not_lt.mpr hlong)))
  case swapDone =>
    intro held op s hop j o
    show execLampSwapCompletion held s = _
    rw [execLampSwapCompletion, hop]

end Sys2Proof.Machine
end

/-! ## Station time (O20) -/
section
namespace Sys2Proof.Machine

/-- Settles O20: a taken packet passes its checks, and each event meets its guard. That a Delay_Req on a port which only a protractor
measures goes by multicast is the model's choice (assumption log 10); the active entry's hybrid flag decides on its own port (R340). -/
theorem stationTime : Obligations.StationTime := by
  refine ⟨?refSelect, ?refSelectQuery, ?timeSet, ?timeSetQuery, ?beacon, ?beaconLoss, ?qualify, ?disqualify, ?lock, ?ptpMessage, ?delayReq,
    ?pps, ?seconds⟩
  case refSelect =>
    intro c s ht hl htgt hp hf u
    exact congrArg Host.Outcome.next (immediate_ok _ ht
      ((Chk.ok_iff _).mpr ⟨beq_iff_eq.mpr hl, htgt, rfl, hp, rfl, rfl, rfl, hf, rfl⟩))
  case refSelectQuery =>
    intro c s ht hl htgt u
    exact congrArg Host.Outcome.next (immediate_ok _ ht
      ((Chk.ok_iff _).mpr ⟨beq_iff_eq.mpr hl, htgt, rfl, rfl, rfl, rfl, rfl, rfl, rfl⟩))
  case timeSet =>
    intro c s ht hl htgt hp hf hsteps u r
    exact congrArg Host.Outcome.next (immediate_ok _ ht
      ((Chk.ok_iff _).mpr ⟨beq_iff_eq.mpr hl, htgt, rfl, hp, rfl, rfl, rfl, Bool.and_eq_true_iff.mpr ⟨hf, hsteps⟩, rfl⟩))
  case timeSetQuery =>
    intro c s ht hl htgt u
    exact congrArg Host.Outcome.next (immediate_ok _ ht
      ((Chk.ok_iff _).mpr ⟨beq_iff_eq.mpr hl, htgt, rfl, rfl, rfl, rfl, rfl, rfl, rfl⟩))
  case beacon => exact fun reached s => rfl
  case beaconLoss => exact fun d s hfresh => congrArg Host.Outcome.next (if_neg (ne_true_of_eq_false hfresh))
  case qualify =>
    intro e off s hkind hq s1
    have hguard : ¬ (s.refKind e.val = 0 || s.refQualified e.val) = true := by
      rw [hq, decide_eq_false hkind]
      exact Bool.false_ne_true
    exact congrArg Host.Outcome.next (if_neg hguard)
  case disqualify => exact fun e s hkind => congrArg Host.Outcome.next (if_neg hkind)
  case lock => exact fun s hacq => congrArg Host.Outcome.next (if_pos hacq)
  case ptpMessage =>
    intro lane domain m s hport hwanted s1
    exact congrArg Host.Outcome.next (if_pos (Bool.and_eq_true_iff.mpr ⟨hport, hwanted⟩))
  case delayReq =>
    intro lane domain answer s hport hwanted s1 s2
    exact congrArg Host.Outcome.next (if_pos (Bool.and_eq_true_iff.mpr ⟨hport, hwanted⟩))
  case pps => exact fun tenMHz s => rfl
  case seconds =>
    intro sec s hsec s1
    show execTimeSetSeconds s = _
    rw [execTimeSetSeconds, hsec]

end Sys2Proof.Machine
end

/-! ## Writes of frame memory and the record of an eye scan (O55)

A write of frame memory finds the place of each byte by SYS_MEMMAP.interleave as it stands when the byte is stored (R39). What the engine writes
besides its bytes are registers from EVC on, so every byte of a write goes where the state before the write puts it. -/
section
namespace Sys2Proof.Machine

/-! ### What leaves the memory map as it is (R39) -/

/-- The places of addresses follow the memory map alone. -/
theorem State.phys_congr {s t : State} (h : t.interleaved = s.interleaved) (a : Nat) : t.phys a = s.phys a := by
  rw [State.phys, State.phys, h]

/-- The memory map stands in SYS, below the window of EVC. -/
theorem regKey_memmap_ne {b : Nat} (h : evcBase ≤ b) (f : Fld) : regKey sysBase F.SYS_MEMMAP_interleave ≠ regKey b f := by
  have hmap : regKey sysBase F.SYS_MEMMAP_interleave < 32 * evcBase := by decide
  have hkey : regKey b f = 32 * (b + f.off) + f.lo := rfl
  omega

theorem State.setF_interleaved (s : State) {b : Nat} (h : evcBase ≤ b) (f : Fld) (v : Nat) : (s.setF b f v).interleaved = s.interleaved := by
  rw [State.interleaved, State.flag, State.getF_setF_other _ _ _ _ _ _ (regKey_memmap_ne h f), State.interleaved, State.flag]

theorem evcBase_le_fmcBase (k : Nat) : evcBase ≤ fmcBase k := by
  simp only [evcBase, fmcBase, winBase]
  omega

theorem evcBase_le_sealBase (k : Nat) : evcBase ≤ sealBase k := by
  simp only [evcBase, sealBase, winBase]
  omega

theorem evcBase_le_poisonBase (k i : Nat) : evcBase ≤ poisonBase k i := Nat.le_trans (evcBase_le_sealBase k) (Nat.le_add_right _ _)

theorem evcBase_le_slotBase (k x : Nat) : evcBase ≤ slotBase k x := Nat.le_trans (evcBase_le_sealBase k) (Nat.le_add_right _ _)

@[simp] theorem State.signal_interleaved (s : State) (src : Nat) : (s.signal src).interleaved = s.interleaved := by
  have htrace := (s.signal_traceOnly src).getF_eq sysBase F.SYS_MEMMAP_interleave (by decide) (by decide)
  rw [State.interleaved, State.flag, htrace]
  exact s.setF_interleaved (Nat.le_add_right _ _) _ _

theorem State.mark_interleaved (s : State) {b : Nat} (h : evcBase ≤ b) (f : Fld) (src : Nat) :
    (s.mark b f src).interleaved = s.interleaved :=
  (State.signal_interleaved _ src).trans (s.setF_interleaved h f 1)

@[simp] theorem State.journal_interleaved (s : State) (code : Nat) (permanent : Bool) (target d0 d1 d2 : Nat) :
    (s.journal code permanent target d0 d1 d2).interleaved = s.interleaved := by
  have hj : evcBase ≤ jrnlBase := by decide
  unfold State.journal
  dsimp only
  split
  case isTrue => exact State.mark_interleaved _ hj _ _
  case isFalse =>
    split
    case h_1 l hl =>
      rw [State.mark_interleaved _ hj, State.signal_interleaved]
      exact State.setF_interleaved _ hj _ _
    case h_2 hl => exact State.mark_interleaved _ hj _ _

/-- A count writes no register but its own record (R66). -/
theorem State.count_interleaved (s : State) (base : Nat) (f : Fld) (n : Nat) {b : Nat} (h : evcBase ≤ b) (r : Fld) (src : Nat) :
    (s.count base f n b r src).interleaved = s.interleaved := by
  unfold State.count
  dsimp only
  split
  · exact State.mark_interleaved _ h _ _
  · rfl

section
variable (s : State) (k line : Nat)

@[simp] theorem State.fmcCount_interleaved (f : Fld) (n : Nat) : (s.fmcCount k f n).interleaved = s.interleaved :=
  s.count_interleaved _ _ _ (evcBase_le_fmcBase k) _ _

@[simp] theorem State.sealCount_interleaved (f : Fld) (n : Nat) : (s.sealCount k f n).interleaved = s.interleaved :=
  s.count_interleaved _ _ _ (evcBase_le_sealBase k) _ _

@[simp] theorem State.setOrder_interleaved (l : List Nat) : (s.setOrder k l).interleaved = s.interleaved :=
  State.setF_interleaved _ (evcBase_le_sealBase k) _ _

@[simp] theorem State.rowFault_interleaved : (s.rowFault k line).interleaved = s.interleaved := by
  have hb := evcBase_le_fmcBase k
  simp only [State.rowFault, State.journal_interleaved, State.mark_interleaved _ hb, State.setF_interleaved _ hb]

/-- Remembering an event writes the history alone (R540). -/
@[simp] theorem State.dramRepeat_interleaved (place : Nat) : (s.dramRepeat k line place).2.interleaved = s.interleaved := rfl

@[simp] theorem State.addPoison_interleaved (cause : Nat) : (s.addPoison k line cause).interleaved = s.interleaved := by
  unfold State.addPoison
  split
  case h_1 => rfl
  case h_2 =>
    extract_lets o free i s1 s2 s3 r
    have h1 : s1.interleaved = s.interleaved := by
      simp only [s1, State.raise, State.setOrder_interleaved, State.setF_interleaved _ (evcBase_le_poisonBase k i)]
    have h2 : s2.interleaved = s.interleaved := by
      unfold s2
      split
      · exact h1
      · exact (s1.mark_interleaved (evcBase_le_sealBase k) _ _).trans h1
    have h3 : s3.interleaved = s.interleaved := by
      simp only [s3, State.journal_interleaved, State.mark_interleaved _ (evcBase_le_sealBase k), h2]
    have hr : r.2.interleaved = s.interleaved := (s3.dramRepeat_interleaved k line 0).trans h3
    split
    case isTrue poisonWritten => exact h3
    case isFalse =>
      split
      case isTrue repeated => exact (r.2.rowFault_interleaved k line).trans hr
      case isFalse => exact hr

@[simp] theorem State.dropPoison_interleaved : (s.dropPoison k line).interleaved = s.interleaved := by
  unfold State.dropPoison
  split
  case h_1 => rfl
  case h_2 i hi => simp only [State.lower, State.setOrder_interleaved, State.setF_interleaved _ (evcBase_le_poisonBase k i)]

@[simp] theorem State.corrected_interleaved (p : Fin 8 × Fin 72) : (s.corrected k line p).interleaved = s.interleaved := by
  have hm : ((s.fmcCount k F.FMC_SH_CORR_LO_lo 1).mark (fmcBase k) F.FMC_STAT_corrected (624 + 4 * k)).interleaved = s.interleaved := by
    rw [State.mark_interleaved _ (evcBase_le_fmcBase k), State.fmcCount_interleaved]
  unfold State.corrected
  dsimp only
  split
  case isTrue repeated =>
    rw [State.rowFault_interleaved]
    exact hm
  case isFalse => exact hm

@[simp] theorem State.spoil_interleaved : (s.spoil k line).interleaved = s.interleaved :=
  State.addPoison_interleaved _ k line _

/-- A check counts, and corrects a good line or spoils one that it cannot trust (R522, R530). -/
@[simp] theorem State.checkLine_interleaved (e : LineErr) : (s.checkLine k line e).2.interleaved = s.interleaved := by
  unfold State.checkLine
  extract_lets s0 s1 s2
  have h0 : s0.interleaved = s.interleaved := s.fmcCount_interleaved k _ _
  have h1 : s1.interleaved = s.interleaved := by simp only [s1, State.fmcCount_interleaved, State.sealCount_interleaved, h0]
  have h2 : s2.interleaved = s.interleaved := by
    unfold s2
    split
    · rw [State.mark_interleaved _ (evcBase_le_fmcBase k), State.fmcCount_interleaved, h1]
    · exact h1
  split
  case isTrue poisoned => exact h0
  case isFalse =>
    split
    case isTrue good =>
      cases e.single with
      | none => exact h0
      | some p =>
        dsimp only
        split
        · exact (s0.corrected_interleaved k line p).trans h0
        · exact h0
    case isFalse reread =>
      split
      · exact (s2.sealCount_interleaved k _ _).trans h2
      · exact (s2.spoil_interleaved k line).trans h2

/-! ### A line's record after a write (R523, R535, R537) -/

@[simp] theorem State.startSweep_interleaved (x : Nat) (fast : Bool) (op : Option (Src × BitVec 8)) :
    (s.startSweep k x fast op).interleaved = s.interleaved := by
  have hx := evcBase_le_slotBase k x
  simp only [State.startSweep, State.signal_interleaved, State.setB, State.setF_interleaved _ hx]
  rfl

theorem State.stampEarly_interleaved {x : Nat} {poison : Bool} {t : State} (h : s.stampEarly k x line poison = some t) :
    t.interleaved = s.interleaved := by
  unfold State.stampEarly at h
  split at h
  case isTrue => cases h
  case isFalse =>
    cases h
    exact State.setF_interleaved _ (evcBase_le_sealBase k) _ _

theorem State.stampLast_interleaved {x key : Nat} {poison : Bool} {t : State} (h : s.stampLast k x line key poison = some t) :
    t.interleaved = s.interleaved := by
  unfold State.stampLast at h
  split at h
  case isTrue => cases h
  case isFalse =>
    cases h
    rfl

theorem State.stamp_interleaved {poison : Bool} {t : State} (h : s.stamp k line poison = some t) : t.interleaved = s.interleaved := by
  unfold State.stamp at h
  extract_lets l key count at h
  split at h
  case h_1 => cases h; rfl
  case h_2 x hx =>
    split at h
    case isTrue => cases h; rfl
    case isFalse =>
    split at h
    case isTrue => cases h; rfl
    case isFalse =>
    split at h
    case isTrue => exact State.stampLast_interleaved s k line h
    case isFalse =>
      rw [State.stampEarly_interleaved _ k line h]
      split
      · rfl
      · exact s.startSweep_interleaved k x _ _

end

/-! ### Where a write of frame memory stores (R39, R519) -/

/-- From `s` to `t` the memory map stays, and of memory at most the places of the `n` addresses from `a` change. -/
structure StoresIn (a n : Nat) (s t : State) : Prop where
  /-- The memory map is as it was. -/
  map_eq : t.interleaved = s.interleaved
  /-- So is every byte that is no place of the range. -/
  get_eq : ∀ x, (∀ k < n, s.phys (a + k) ≠ x) → SMap.get 0 t.mem x = SMap.get 0 s.mem x

theorem StoresIn.of_mem_eq {a n : Nat} {s t : State} (hmap : t.interleaved = s.interleaved) (hmem : t.mem = s.mem) : StoresIn a n s t :=
  ⟨hmap, fun _ _ => by rw [hmem]⟩

/-- What `Kept` says of memory. -/
theorem StoresIn.of_kept {a n : Nat} {s t : State} (hmap : t.interleaved = s.interleaved)
    (h : Kept (maskOf [.mem]) s (fun _ => True) s → Kept (maskOf [.mem]) s (fun _ => True) t) : StoresIn a n s t :=
  .of_mem_eq hmap ((h (Kept.self _ trivial)).1 .mem rfl)

theorem StoresIn.refl (a n : Nat) (s : State) : StoresIn a n s s := .of_mem_eq rfl rfl

theorem StoresIn.trans {a n : Nat} {s t u : State} (h : StoresIn a n s t) (h' : StoresIn a n t u) : StoresIn a n s u where
  map_eq := h'.map_eq.trans h.map_eq
  get_eq x hx := (h'.get_eq x fun k hk => State.phys_congr h.map_eq (a + k) ▸ hx k hk).trans (h.get_eq x hx)

/-- A range within a range. -/
theorem StoresIn.mono {a b m n : Nat} {s t : State} (h : StoresIn b m s t) (hlo : a ≤ b) (hhi : b + m ≤ a + n) : StoresIn a n s t where
  map_eq := h.map_eq
  get_eq x hx := h.get_eq x fun k hk => by
    have hb : a + (b - a + k) = b + k := by omega
    exact hb ▸ hx (b - a + k) (by omega)

theorem State.putFm_storesIn (s : State) (a : Nat) (bs : List Byte) : StoresIn a bs.length s (s.putFm a bs) := by
  induction bs generalizing s a with
  | nil => exact .refl a 0 s
  | cons b bs ih =>
    have hput : StoresIn a (b :: bs).length s { s with mem := SMap.put 0 s.mem (s.phys a) b } :=
      ⟨rfl, fun x hx => SMap.get_put_other _ _ _ _ _ (hx 0 (Nat.succ_pos _)).symm⟩
    exact hput.trans ((ih _ (a + 1)).mono (Nat.le_succ a) (by rw [List.length_cons]; omega))

/-- A line's write stores its bytes; the rest of it writes no memory (R531–R533). -/
theorem State.writeLine_storesIn (s : State) (k line a : Nat) (bs : List Byte) (poison : Bool) (e : LineErr) :
    StoresIn a bs.length s (s.writeLine k line a bs poison e).2 := by
  unfold State.writeLine
  extract_lets whole c
  have hc : StoresIn a bs.length s c.2 := by
    unfold c
    split
    · exact .refl _ _ s
    · exact .of_kept (s.checkLine_interleaved k line e) (State.checkLine_kept rfl)
  split
  case isTrue refused =>
    refine hc.trans (.of_kept ?_ fun h => State.journal_kept rfl (State.mark_kept rfl h))
    rw [State.journal_interleaved, State.mark_interleaved _ (evcBase_le_sealBase k)]
  case isFalse passed =>
    split
    case h_1 => exact .refl _ _ s
    case h_2 s1 hs1 =>
      extract_lets s2 fm s3 s4
      have h1 : StoresIn a bs.length c.2 s1 :=
        .of_kept (State.stamp_interleaved c.2 k line hs1) fun h => KeptO.get (f := id) hs1 (State.stamp_kept rfl h)
      have h2 : StoresIn a bs.length (s1.putFm a bs) s2 := .of_kept (State.fmcCount_interleaved _ k _ _) (State.fmcCount_kept rfl)
      have h3 : StoresIn a bs.length s2 s3 := .of_mem_eq rfl rfl
      have h4 : StoresIn a bs.length s3 s4 := .of_kept (s3.dropPoison_interleaved k line) (State.dropPoison_kept rfl)
      have h5 : StoresIn a bs.length s4 (if poison then s4.addPoison k line 2 else s4) := by
        split
        · exact .of_kept (s4.addPoison_interleaved k line 2) (State.addPoison_kept rfl)
        · exact .refl _ _ s4
      exact hc.trans (h1.trans ((s1.putFm_storesIn a bs).trans (h2.trans (h3.trans (h4.trans h5)))))

/-- The pieces of a range lie in it. -/
theorem piecesOf_bounds {g a n : Nat} {p : Nat × Nat} (h : p ∈ piecesOf g a n) : a ≤ p.1 ∧ p.1 + p.2 ≤ a + n := by
  obtain ⟨hp, hne⟩ := List.mem_filter.mp h
  obtain ⟨i, -, rfl⟩ := List.mem_map.mp hp
  have hpos := bne_iff_ne.mp hne
  dsimp only at hpos ⊢
  omega

/-- The requests of an access lie in its range (R519). -/
theorem blocksOf_bounds {a n : Nat} {p : Nat × Nat} (h : p ∈ blocksOf a n) : a ≤ p.1 ∧ p.1 + p.2 ≤ a + n := by
  rw [blocksOf] at h
  split at h
  · rw [List.mem_singleton.mp h]
    exact ⟨Nat.le_refl a, Nat.add_le_add_left (Nat.zero_le n) a⟩
  · exact piecesOf_bounds h

/-- Pieces of a range are stored in it. -/
theorem State.writePieces_storesIn {a n : Nat} {l : List (Nat × Nat)} (hl : ∀ p ∈ l, a ≤ p.1 ∧ p.1 + p.2 ≤ a + n) (s : State) (o : Nat)
    (bs : List Byte) (bad : List (Nat × Nat)) (es : List LineErr) : StoresIn a n s (s.writePieces l o bs bad es).2 := by
  induction l generalizing s o bs es with
  | nil => exact .refl a n s
  | cons p l ih =>
    obtain ⟨b, m⟩ := p
    obtain ⟨hlo, hhi⟩ := hl _ List.mem_cons_self
    have hline := (s.writeLine_storesIn (stackOf (s.phys b)) (lineOf (s.phys b)) b (bs.take m) (badIn bad o m) (es.headD {})).mono
      hlo (Nat.le_trans (Nat.add_le_add_left (List.length_take_le m bs) b) hhi)
    unfold State.writePieces
    dsimp only
    split
    case h_1 s1 hs1 =>
      rw [hs1] at hline
      exact hline.trans (ih (fun p hp => hl p (List.mem_cons_of_mem _ hp)) _ _ _ _)
    case h_2 => exact hline

/-- Admitting a request counts a refusal, and stores nothing (R526); past the rights its answer alone differs. -/
theorem State.fmAdmit_storesIn (s : State) (cls a n b : Nat) (rd wr : Bool) : StoresIn a n s (s.fmAdmit cls b rd wr).2 := by
  refine .of_mem_eq ?_ (s.fmAdmit_mem cls b rd wr)
  unfold State.fmAdmit
  dsimp only
  by_cases haddr : fmSize ≤ b
  · rw [if_pos haddr]
  rw [if_neg haddr]
  by_cases hoff : s.dom (stackDom (stackOf (s.phys b))) ≠ 1
  · rw [if_pos hoff]
  rw [if_neg hoff]
  by_cases hrights : (!s.mayAccess cls (stackOf (s.phys b)) (lineOf (s.phys b)) rd wr) = true
  · rw [if_pos hrights, State.mark_interleaved _ (evcBase_le_sealBase _), State.sealCount_interleaved]
  rw [if_neg hrights, apply_ite Prod.snd, apply_ite Prod.snd, ite_self, ite_self]

theorem State.writeBlocks_storesIn {a n : Nat} {l : List (Nat × Nat)} (hl : ∀ p ∈ l, a ≤ p.1 ∧ p.1 + p.2 ≤ a + n) (s : State) (cls o : Nat)
    (bs : List Byte) (bad : List (Nat × Nat)) (es : List LineErr) : StoresIn a n s (s.writeBlocks cls l o bs bad es).2 := by
  induction l generalizing s o bs es with
  | nil => exact .refl a n s
  | cons p l ih =>
    obtain ⟨b, m⟩ := p
    obtain ⟨hlo, hhi⟩ := hl _ List.mem_cons_self
    have hadmit := s.fmAdmit_storesIn cls a n b false true
    unfold State.writeBlocks
    split
    case h_1 st s1 hs1 => rwa [hs1] at hadmit
    case h_2 s1 hs1 =>
      rw [hs1] at hadmit
      have hpieces : StoresIn a n s1 (s1.writePieces (linePieces b m) o (bs.take m) bad es).2 :=
        (State.writePieces_storesIn (fun p hp => piecesOf_bounds hp) s1 o (bs.take m) bad es).mono hlo hhi
      split
      case h_1 s2 hs2 =>
        rw [hs2] at hpieces
        exact (hadmit.trans hpieces).trans (ih (fun p hp => hl p (List.mem_cons_of_mem _ hp)) _ _ _ _)
      case h_2 => exact hadmit.trans hpieces

/-- A write stores in its range, whatever it answers. -/
theorem State.fmWrite_storesIn (s : State) (cls a : Nat) (bs : List Byte) (bad : List (Nat × Nat)) (es : List LineErr) :
    StoresIn a bs.length s (s.fmWrite cls a bs bad es).2 := by
  unfold State.fmWrite
  split
  · exact .refl _ _ s
  · exact State.writeBlocks_storesIn (fun p hp => blocksOf_bounds hp) s cls 0 bs bad es

/-! ### The record of an eye scan (R399, R400) -/

/-- The place of the k-th byte that the steward stores at `a`: by the memory map in frame memory, its address elsewhere (`State.stewardStore`). -/
def State.stewardPlace (s : State) (a k : Nat) : Nat := if a < fmSize then s.phys (a + k) else a + k

theorem State.stewardStore_other (s : State) {a x : Nat} {bs : List Byte} (h : ∀ k < bs.length, s.stewardPlace a k ≠ x) :
    SMap.get 0 (s.stewardStore a bs).mem x = SMap.get 0 s.mem x := by
  unfold State.stewardPlace at h
  unfold State.stewardStore
  split
  case isTrue ha =>
    simp only [if_pos ha] at h
    split
    case h_1 s1 hs1 =>
      have hw := s.fmWrite_storesIn 5 a bs [] []
      rw [hs1] at hw
      exact hw.get_eq x h
    case h_2 => rfl
  case isFalse ha =>
    simp only [if_neg ha] at h
    show SMap.get 0 (s.storeBy .steward a bs).mem x = _
    rw [State.storeBy_mem, SMap.get_putAll, if_neg]
    intro hx
    exact h (x - a) (by omega) (by omega)

/-- A completion writes no memory. -/
@[simp] theorem State.complete_mem (s : State) (o : Op) (st : Status) (results : List Word) : (s.complete o st results).mem = s.mem :=
  (State.complete_kept (kK := maskOf [.mem]) rfl (Kept.self _ (s := s) (M := fun _ => True) trivial)).1 .mem rfl

/-- The end of a scan, where one is pending. -/
theorem exec_laneEyeCompletion {n : Fin 144} {o : Op} {s : State} (counts : List Nat) (ho : s.pendingOn 0x0402 (laneWord n.val) = some o) :
    exec (.laneEyeCompletion n counts) s = .next
      (((s.setLaneX n.val { s.laneX n.val with scanning := false }).stewardStore (o.f 4 7 0 * 4294967296 + o.w 3)
        (eyeRecord n.val o counts)).complete o .ok [wd (eyePoints (o.f 2 31 24) (o.f 2 23 16)).length]) := by
  show execLaneEyeCompletion n counts s = _
  rw [execLaneEyeCompletion, ho]

/-- Settles O55: the scan's end stores its record as the steward, and its completion stores nothing. -/
theorem eyeRecordFrame : Obligations.EyeRecordFrame := by
  intro n counts o s t x ho he hx
  obtain rfl := Host.Outcome.next.inj ((exec_laneEyeCompletion counts ho).symm.trans he)
  rw [State.complete_mem]
  exact State.stewardStore_other (s.setLaneX n.val { s.laneX n.val with scanning := false }) hx

end Sys2Proof.Machine
end

/-! ## Mailboxes (O13, O50, O51) -/
section
namespace Sys2Proof.Machine

/-! ### What signalling a source leaves alone on die C (R73, R660) -/

/-- Signalling a source leaves the fields outside EVC and DBG: its record lies in EVC, and what the trace writes in DBG. -/
theorem State.signal_getF_apart {s : State} {b src : Nat} {f : Fld} (he : b + f.off < evcBase ∨ evcBase + 0x10000 ≤ b + f.off)
    (hd : b + f.off < dbgBase ∨ dbgBase + 0x10000 ≤ b + f.off) (hl : f.lo < 32) (hs : src < 1024) :
    (s.signal src).getF b f = s.getF b f := by
  have hkey : regKey b f = 32 * (b + f.off) + f.lo := rfl
  have hrec : regKey (evcBase + 4 * (src / 32)) F.EVC_REC_rec = 32 * (evcBase + 4 * (src / 32) + 0x200) + 0 := rfl
  have htrig : regKey dbgBase F.DBG_STAT_triggered = 32 * (dbgBase + 4) + 7 := rfl
  have hover : regKey dbgBase F.DBG_STAT_cnt_overflow = 32 * (dbgBase + 4) + 9 := rfl
  rw [(s.signal_traceOnly src).getF_eq _ _ (by omega) (by omega), State.getF_setF_other _ _ _ _ _ _ (by omega)]

/-- The windows of die C in the order of R43, as far as the records of a mailbox and of the journal ask. -/
theorem window_order : evcBase + 0x10000 ≤ mbxBase ∧ mbxBase + 0x10000 ≤ jrnlBase ∧ jrnlBase + 0x10000 ≤ pcieBase ∧
    pcieBase + 0x10000 ≤ dbgBase := by decide

/-- Every register of a mailbox lies in the window of the bank. -/
theorem mbBase_bounds {i : Nat} (hi : i < 48) : mbxBase ≤ mbBase i ∧ mbBase i + 0x120 ≤ mbxBase + 0x10000 := by
  simp only [mbBase]
  omega

/-- A mailbox's source being recorded leaves the mailbox's fields. -/
theorem State.signal_getF_mb {s : State} {i : Nat} {f : Fld} (hi : i < 48) (ho : f.off < 0x120) (hl : f.lo < 32) :
    (s.signal (640 + i)).getF (mbBase i) f = s.getF (mbBase i) f := by
  have hw := window_order
  have hb := mbBase_bounds hi
  exact State.signal_getF_apart (by omega) (by omega) hl (by omega)

/-! ### A withdraw (R567) -/

/-- A write of MB_STAT whose only 1 is withdraw, to a bound mailbox. -/
theorem State.mbStat_withdraw {s : State} {i : Nat} (m : Master) (h : s.mbBound i = true) : s.mbStat m i 2 =
    s.mbBy m i [s.mbSender i] (fun s => if s.mbFull i then (s.lower (mbBase i) F.MB_STAT_full).mbMark i F.MB_STAT_withdrawn else s) :=
  if_neg (by rw [h]; exact Bool.false_ne_true)

/-- A withdraw that reaches its mailbox from the sender. -/
theorem exec_mbStatWithdraw {m : Master} {i : Fin 48} {s : State} (hr : Reaches s m 0 0x008 (0x100 + 0x20 * i.val + 0x08))
    (hb : s.mbBound i.val = true) (ha : isAgent m (s.mbSender i.val) = true) : exec (.mbStatWithdraw m i) s = .next
      (if s.mbFull i.val then (s.lower (mbBase i.val) F.MB_STAT_full).mbMark i.val F.MB_STAT_withdrawn else s) :=
  congrArg Host.Outcome.next ((ownWrite_ok hr).trans ((State.mbStat_withdraw m hb).trans (mbBy_ok _ hb ha)))

/-- Settles O13: each write reaches its register from the agent that the rule names. -/
theorem mailboxes : Obligations.Mailboxes := by
  refine ⟨?cfg, ?msg, ?ring, ?reply, ?withdraw⟩
  case cfg =>
    intro m i v s hr ha hf
    exact congrArg Host.Outcome.next ((ownWrite_ok hr).trans (if_pos (by rw [ha, hf]; rfl)))
  case msg =>
    intro m i v s b hr hb ha hf
    exact congrArg Host.Outcome.next ((ownWrite_ok hr).trans ((mbBy_ok _ hb ha).trans (if_neg (ne_true_of_eq_false hf))))
  case ring =>
    intro m i v s hr hb ha
    exact congrArg Host.Outcome.next ((ownWrite_ok hr).trans (mbBy_ok _ hb ha))
  case reply =>
    intro m i code s b hr hb ha hf
    exact congrArg Host.Outcome.next ((ownWrite_ok hr).trans ((mbBy_ok _ hb ha).trans (if_neg (by rw [hf]; exact Bool.false_ne_true))))
  case withdraw =>
    intro m i s hr hb ha hf
    rw [exec_mbStatWithdraw hr hb ha, if_pos hf]

/-- Settles O50: the fields of a mailbox after a withdraw. -/
theorem mailboxWithdraw : Obligations.MailboxWithdraw := by
  intro m i s hr hb ha
  refine ⟨fun hf => ?full, fun hf => ?notFull⟩
  case full =>
    have hfield : ∀ f : Fld, f.off < 0x120 → f.lo < 32 →
        ((s.lower (mbBase i.val) F.MB_STAT_full).mbMark i.val F.MB_STAT_withdrawn).getF (mbBase i.val) f =
          ((s.lower (mbBase i.val) F.MB_STAT_full).raise (mbBase i.val) F.MB_STAT_withdrawn).getF (mbBase i.val) f :=
      fun f ho hl => State.signal_getF_mb i.isLt ho hl
    have hother : ∀ {f g : Fld} (u : State) (v : Nat), regKey 0 f ≠ regKey 0 g →
        (u.setF (mbBase i.val) g v).getF (mbBase i.val) f = u.getF (mbBase i.val) f := fun u v h =>
      State.getF_setF_other _ _ _ _ _ _ (by simp only [regKey] at h ⊢; omega)
    refine ⟨_, (exec_mbStatWithdraw hr hb ha).trans (congrArg Host.Outcome.next (if_pos hf)), ?cleared, ?recorded, ?readable⟩
    case cleared =>
      rw [State.mbFull, State.flag, hfield _ (by decide) (by decide), State.raise, hother _ _ (by decide), State.lower, State.getF_setF_same]
      rfl
    case recorded =>
      rw [State.flag, hfield _ (by decide) (by decide), State.raise, State.getF_setF_same]
      rfl
    case readable =>
      rw [hfield _ (by decide) (by decide), State.raise, hother _ _ (by decide), State.lower, hother _ _ (by decide)]
  case notFull =>
    rw [exec_mbStatWithdraw hr hb ha, if_neg (ne_true_of_eq_false hf)]

/-! ### The frame of a mailbox write (R563–R568) -/

/-- A field that no write to mailbox `i` may change: it lies outside the mailbox's registers, the word of records of its source, what the trace
writes when that source is recorded (R660–R662), the bus error records of PCIE (R51), and write_dropped of the bank (R59). -/
structure OffMailbox (i b : Nat) (f : Fld) : Prop where
  group : b + f.off < mbBase i + 0x100 ∨ mbBase i + 0x120 ≤ b + f.off
  records : b + f.off ≠ evcBase + 0x200 + 4 * ((640 + i) / 32)
  triggered : regKey b f ≠ regKey dbgBase F.DBG_STAT_triggered
  overflow : regKey b f ≠ regKey dbgBase F.DBG_STAT_cnt_overflow
  busErrors : b + f.off ≠ pcieBase + F.PCIE_ERR_unsupported.off
  dropped : b + f.off ≠ mbxBase + F.HDR_write_dropped.off
  bits : f.lo < 32

section
variable {i b : Nat} {f : Fld} (h : OffMailbox i b f)
include h

/-- A field of another register. -/
theorem OffMailbox.getF_setF_reg {b' : Nat} {g : Fld} (hr : b + f.off ≠ b' + g.off) (hl : g.lo < 32) (s : State) (v : Nat) :
    (s.setF b' g v).getF b f = s.getF b f := by
  refine State.getF_setF_other _ _ _ _ _ _ ?_
  have hf := h.bits
  simp only [regKey]
  omega

/-- A register of the mailbox's own is written. -/
theorem OffMailbox.getF_setF {g : Fld} (hg : 0x100 ≤ g.off ∧ g.off < 0x120 ∧ g.lo < 32) (s : State) (v : Nat) :
    (s.setF (mbBase i) g v).getF b f = s.getF b f := by
  have hgroup := h.group
  exact h.getF_setF_reg (by omega) hg.2.2 s v

theorem OffMailbox.getF_signal (s : State) : (s.signal (640 + i)).getF b f = s.getF b f := by
  rw [(s.signal_traceOnly _).getF_eq _ _ h.triggered h.overflow]
  refine h.getF_setF_reg (fun hrec => h.records (hrec.trans ?_)) (by decide) _ _
  exact Nat.add_right_comm _ _ _

theorem OffMailbox.getF_mbMark {g : Fld} (hg : 0x100 ≤ g.off ∧ g.off < 0x120 ∧ g.lo < 32) (s : State) : (s.mbMark i g).getF b f = s.getF b f :=
  (h.getF_signal _).trans (h.getF_setF hg s 1)

theorem OffMailbox.getF_mbSettle (s : State) : (s.mbSettle i).getF b f = s.getF b f := by
  rw [State.mbSettle]
  split
  · exact h.getF_signal s
  · rfl

theorem OffMailbox.getF_mbBy {s : State} {act : State → State} (m : Master) (who : List Nat) (hact : (act s).getF b f = s.getF b f) :
    (s.mbBy m i who act).getF b f = s.getF b f := by
  rw [State.mbBy]
  split
  · exact hact
  · exact h.getF_mbMark (by decide) s

theorem OffMailbox.getF_mbCfg (s : State) (m : Master) (v : Nat) : (s.mbCfg m i v).getF b f = s.getF b f := by
  rw [State.mbCfg]
  split
  · rw [h.getF_setF (by decide), h.getF_setF (by decide), h.getF_setF (by decide)]
  · exact h.getF_mbMark (by decide) s

theorem OffMailbox.getF_mbMsg (s : State) (m : Master) (v : Nat) : (s.mbMsg m i v).getF b f = s.getF b f := by
  refine h.getF_mbBy m _ ?_
  split
  · exact h.getF_mbMark (by decide) s
  · rw [h.getF_mbSettle, State.lower, h.getF_setF (by decide), State.lower, h.getF_setF (by decide), h.getF_setF (by decide), State.raise,
      h.getF_setF (by decide), h.getF_setF (by decide)]

theorem OffMailbox.getF_mbRing (s : State) (m : Master) (v : Nat) : (s.mbRing m i v).getF b f = s.getF b f :=
  h.getF_mbBy m _ ((h.getF_mbSettle _).trans (h.getF_setF (by decide) _ _))

theorem OffMailbox.getF_mbReply (s : State) (m : Master) (v : Nat) : (s.mbReply m i v).getF b f = s.getF b f := by
  refine h.getF_mbBy m _ ?_
  split
  · exact h.getF_mbMark (by decide) s
  · rw [h.getF_signal, State.setB, h.getF_setF (by decide), State.lower, h.getF_setF (by decide), State.raise, h.getF_setF (by decide),
      h.getF_setF (by decide)]

theorem OffMailbox.getF_withdraw (s : State) (m : Master) : (s.mbStat m i 2).getF b f = s.getF b f := by
  by_cases hb : s.mbBound i = true
  · rw [State.mbStat_withdraw m hb]
    refine h.getF_mbBy m _ ?_
    split
    · exact (h.getF_mbMark (by decide) _).trans (h.getF_setF (by decide) s 0)
    · rfl
  · rw [State.mbStat, if_pos (by simpa using hb)]
    exact h.getF_mbMark (by decide) s

/-- A write that does not arrive is at most recorded in PCIE (R51, R121). -/
theorem OffMailbox.getF_busError (s : State) (m : Master) (write : Bool) (a : Nat) (c : BusCause) :
    (s.busError m write a c).getF b f = s.getF b f := by
  rw [State.busError]
  split
  · exact h.getF_setF_reg h.busErrors (by decide) _ 1
  · exact h.getF_setF_reg (g := F.PCIE_ERR_completer_abort) h.busErrors (by decide) _ 1
  · rfl

/-- A write to the bank acts, is answered with a bus error, or is dropped by the busy bank (R51, R59). -/
theorem OffMailbox.getF_mbxWrite {s : State} {act : State → State} (m : Master) (n : Fin 48) (r : Nat)
    (hact : (act s).getF b f = s.getF b f) : (s.mbxWrite m n r act).getF b f = s.getF b f := by
  rw [State.mbxWrite, State.ownWrite]
  split
  · rw [State.busDead]
    split
    · exact h.getF_busError s _ _ _ _
    · rfl
  · split
    · exact h.getF_busError s _ _ _ _
    · split
      · exact h.getF_setF_reg h.dropped (by decide) s 1
      · exact hact

end

/-- Settles O51: each write changes the mailbox's own registers and the records that `OffMailbox` names, and no memory. -/
theorem mailboxFrame : Obligations.MailboxFrame := by
  intro m i v code s t b f hexec hgroup hrec htrig hbus hdrop hbits hover
  have h : OffMailbox i.val b f := ⟨hgroup, hrec, htrig, hover, hbus, hdrop, hbits⟩
  have hmem : ∀ {j : Instr}, exec j s = .next t → Comp.mem ∉ writes j → t.mem = s.mem := fun he hj => exec_same he hj
  obtain he | he | he | he | he := hexec
  · exact ⟨Host.Outcome.next.inj he ▸ h.getF_mbxWrite m i _ (h.getF_mbMsg s m _), hmem he (by simp [writes])⟩
  · exact ⟨Host.Outcome.next.inj he ▸ h.getF_mbxWrite m i _ (h.getF_mbRing s m _), hmem he (by simp [writes])⟩
  · exact ⟨Host.Outcome.next.inj he ▸ h.getF_mbxWrite m i _ (h.getF_mbReply s m _), hmem he (by simp [writes])⟩
  · exact ⟨Host.Outcome.next.inj he ▸ h.getF_mbxWrite m i _ (h.getF_mbCfg s m _), hmem he (by simp [writes])⟩
  · exact ⟨Host.Outcome.next.inj he ▸ h.getF_mbxWrite m i _ (h.getF_withdraw s m), hmem he (by simp [writes])⟩

end Sys2Proof.Machine
end

/-! ## Journal entries (O44) -/
section
namespace Sys2Proof.Machine

/-- The live counters of the journal lie outside DBG. -/
theorem jrnlLost_ne_dbgLost : jrnlBase + F.JRNL_SH_LOST_LO_lo.off ≠ dbgBase + F.DBG_SH_LOST_LO_lo.off := by decide

section
variable (s : State) (code : Nat) (permanent : Bool) (target d0 d1 d2 : Nat)

/-- The state whose journal takes a list of entries, with the next number. -/
def State.withEntries (l : List JEntry) : State :=
  { s with jrnl := { s.jrnl with held := l, nextSeq := (s.jrnl.nextSeq + 1) % 65536 } }

/-- The entry that is recorded now (R631). -/
def State.entryNow : JEntry :=
  { code := code, permanent := permanent, seq := s.jrnl.nextSeq, target := target, time := s.sta, d0 := d0, d1 := d1, d2 := d2 }

/-- A journal with room (R631). -/
theorem State.journal_room (h : s.jrnl.held.length < 512) : s.journal code permanent target d0 d1 d2 =
    (s.withEntries (s.jrnl.held ++ [s.entryNow code permanent target d0 d1 d2])).mark jrnlBase F.JRNL_STAT_added 770 :=
  if_pos h

/-- A full journal with an entry that may give way (R633). -/
theorem State.journal_replaces {l : List JEntry} (h : 512 ≤ s.jrnl.held.length) (hl : dropOldest s.jrnl.held = some l) :
    s.journal code permanent target d0 d1 d2 =
      (((s.withEntries (l ++ [s.entryNow code permanent target d0 d1 d2])).raise jrnlBase F.JRNL_STAT_added).signal 770).mark
        jrnlBase F.JRNL_STAT_replaced 771 := by
  unfold State.journal
  dsimp only
  rw [if_neg (Nat.not_lt.mpr h), hl]
  rfl

/-- A full journal without one (R633). -/
theorem State.journal_loses (h : 512 ≤ s.jrnl.held.length) (hl : dropOldest s.jrnl.held = none) :
    s.journal code permanent target d0 d1 d2 =
      ((s.withEntries s.jrnl.held).bump (jrnlBase + F.JRNL_SH_LOST_LO_lo.off) 1).mark jrnlBase F.JRNL_STAT_lost 771 := by
  unfold State.journal
  dsimp only
  rw [if_neg (Nat.not_lt.mpr h), hl]
  rfl

end

/-- A source that is marked is recorded (R73). -/
theorem State.mark_recorded (s : State) (b : Nat) (f : Fld) {src : Nat} (hs : src < 1024) : (s.mark b f src).recorded src = true := by
  rw [State.mark, State.signal_recorded _ hs hs, BEq.rfl, Bool.true_or]

/-- Settles O44: what the journal holds, and its records, by its three cases. -/
theorem journalEntries : Obligations.JournalEntries := by
  refine ⟨fun s code target d0 d1 d2 p h => ⟨s.journal_held_of_room code p target d0 d1 d2 h, ?added, ?recorded⟩,
    fun s code target d0 d1 d2 p l h hl => ⟨?replaced, ?signalled⟩, fun s code target d0 d1 d2 p h hl => ⟨?lost, ?counted⟩,
    fun s code target d0 d1 d2 p => s.journal_nextSeq code p target d0 d1 d2⟩
  case added =>
    have hw := window_order
    have hadded : ∀ u : State, (u.mark jrnlBase F.JRNL_STAT_added 770).flag jrnlBase F.JRNL_STAT_added = true := fun u => by
      rw [State.flag, State.mark, State.signal_getF_apart (by omega) (by decide) (by decide) (by decide), State.raise, State.getF_setF_same]
      rfl
    rw [s.journal_room _ _ _ _ _ _ h]
    exact hadded _
  case recorded =>
    rw [s.journal_room _ _ _ _ _ _ h]
    exact State.mark_recorded _ _ _ (by decide)
  case replaced =>
    rw [s.journal_replaces _ _ _ _ _ _ h hl, State.mark_jrnl, State.signal_jrnl]
    rfl
  case signalled =>
    rw [s.journal_replaces _ _ _ _ _ _ h hl]
    exact State.mark_recorded _ _ _ (by decide)
  case lost =>
    rw [s.journal_loses _ _ _ _ _ _ h hl, State.mark_jrnl]
    rfl
  case counted =>
    rw [s.journal_loses _ _ _ _ _ _ h hl, State.mark_ctr _ _ _ _ jrnlLost_ne_dbgLost, State.ctr_bump, if_pos rfl]
    rfl

end Sys2Proof.Machine
end

/-! ## A loss of power (O59) -/
section
namespace Sys2Proof.Machine

/-! ### What a power-on reset leaves (R617, R618) -/

/-- The components of `t` after a power-on reset of `s`, in which VCC_AON stays up where `aon` says so. -/
structure PowerLost (s : State) (aon : Bool) (t : State) : Prop where
  boot_eq : t.pwr.boot = .inReset
  hq_eq : t.hq = { image := s.hq.persistent, persistent := s.hq.persistent, slotOk := s.hq.slotOk, slotVer := s.hq.slotVer }
  posted_eq : t.posted = []
  mem_eq : t.mem = []
  dbg_eq : t.dbg = s.dbg
  jrnl_eq : t.jrnl = if aon then { held := s.jrnl.held, nextSeq := s.jrnl.nextSeq } else {}

section
variable (s : State) (aon : Bool) (rail : Option Nat)

theorem State.powerReset_lost : PowerLost s aon (s.powerReset aon rail) := by
  unfold State.powerReset
  extract_lets dbgRegs s0 s1 s2 s3
  have h3 : PowerLost s aon s3 := by
    unfold s3
    split <;> exact ⟨rfl, rfl, rfl, rfl, rfl, rfl⟩
  obtain ⟨hboot, hhq, hposted, hmem, hdbg, hjrnl⟩ := h3
  exact ⟨hboot, hhq, hposted, hmem, hdbg, hjrnl⟩

/-- A field of the debug block is no field outside it. -/
theorem State.getF_lower_dbg {b : Nat} {f g : Fld} (hl : f.lo < 32) (hd : b + f.off < dbgBase ∨ dbgBase + 0x10000 ≤ b + f.off)
    (hg : g.off < 0x10000 ∧ g.lo < 32) : (s.lower dbgBase g).getF b f = s.getF b f := by
  refine State.getF_setF_other _ _ _ _ _ _ ?_
  simp only [regKey]
  omega

/-- Outside the debug block every field reads its reset value; the link state of UCIE follows the site (R618, R624, R663). -/
theorem State.powerReset_getF {b : Nat} {f : Fld} (hl : f.lo < 32) (hd : b + f.off < dbgBase ∨ dbgBase + 0x10000 ≤ b + f.off)
    (hu : regKey b f ≠ regKey ucieBase F.UCIE_LINK_state) : (s.powerReset aon rail).getF b f = State.reset.getF b f := by
  unfold State.powerReset
  extract_lets dbgRegs s0 s1 s2 s3
  have h1 : s1.getF b f = State.reset.getF b f := by
    refine (SMap.get_splice f.rst s0.regs dbgRegs _ _ _ (by omega)).trans (if_neg ?_)
    simp only [regKey]
    omega
  have h2 : s2.getF b f = s1.getF b f := by
    rw [State.getF_lower_dbg _ hl hd (by decide), State.getF_lower_dbg _ hl hd (by decide), State.getF_lower_dbg _ hl hd (by decide)]
  have h3 : s3.getF b f = s2.getF b f := by
    unfold s3
    split
    · exact State.getF_setF_other _ _ _ _ _ _ hu
    · rfl
  exact h3.trans (h2.trans h1)

end

/-- Settles O59: each loss is one power-on reset. That the registers of MBX and JRNL, which lie in the always-on domain, return to their reset
values with the others is the model's deduction (assumption log 71). -/
theorem powerLoss : Obligations.PowerLoss := by
  refine ⟨fun s t rail h => ?state, fun s rail => ⟨⟨_, rfl, ?emptied⟩, ⟨_, rfl, ?kept, ?number, rfl⟩, ⟨_, rfl, ?keptPor⟩⟩⟩
  case state =>
    have hreset : ∃ aon rail, t = s.powerReset aon rail := by
      obtain h | h | h := h <;> exact ⟨_, _, (Host.Outcome.next.inj h).symm⟩
    obtain ⟨aon, rail, rfl⟩ := hreset
    have hlost := s.powerReset_lost aon rail
    exact ⟨hlost.boot_eq, by rw [hlost.hq_eq], by rw [hlost.hq_eq], hlost.posted_eq, fun a => by rw [hlost.mem_eq, SMap.get_nil], hlost.dbg_eq,
      fun b f hl hd hu => s.powerReset_getF aon rail hl hd hu⟩
  case emptied => rw [(s.powerReset_lost _ _).jrnl_eq]; rfl
  case kept => rw [(s.powerReset_lost _ _).jrnl_eq]; rfl
  case number => rw [(s.powerReset_lost _ _).jrnl_eq]; rfl
  case keptPor => rw [(s.powerReset_lost _ _).jrnl_eq]; rfl

end Sys2Proof.Machine
end

/-! ## Cue cores, their timers and watchdogs (O12) -/
section
namespace Sys2Proof.Machine

/-- A kick by the core itself or by an effectful debug write (R559, R651). -/
theorem State.wdtKick_ok {s : State} {m : Master} {n : Fin 8} {v : Word} (hm : m = .debug ∨ m = .cue n) (hv : v.getLsbD 0 = true) :
    s.wdtKick m n.val v.toNat =
      let s1 := s.setCueX n.val { s.cueX n.val with first := false }
      if s1.wdtOn n.val then s1.loadWdt n.val else s1 := by
  have hn : Fin.ofNat 8 n.val = n := Fin.ext (Nat.mod_eq_of_lt n.isLt)
  have hbit : v.toNat % 2 = 1 := by simpa [BitVec.getLsbD] using hv
  exact (if_pos (hn.symm ▸ hm)).trans (if_pos hbit)

/-- Settles O12: a taken packet passes its checks, each event meets its guard, and each write reaches its register. -/
theorem cueCores : Obligations.CueCores := by
  refine ⟨?ctl, ?query, ?completion, ?fault, ?timer, ?reservation, ?expiry, ?kick, ?cfg, ?msip⟩
  case ctl =>
    intro c s n ht hl htgt hp hoff hh hstop u
    exact congrArg Host.Outcome.next (long_ok none _ ht
      ((Chk.ok_iff _).mpr ⟨beq_iff_eq.mpr hl, htgt, rfl, hp, bne_iff_ne.mpr hoff, rfl, rfl,
        Bool.and_eq_true_iff.mpr ⟨hh, bne_iff_ne.mpr hstop⟩, rfl⟩))
  case query =>
    intro c s n ht hl htgt u
    exact congrArg Host.Outcome.next (immediate_ok _ ht
      ((Chk.ok_iff _).mpr ⟨beq_iff_eq.mpr hl, htgt, rfl, rfl, rfl, rfl, rfl, rfl, rfl⟩))
  case completion =>
    intro n o s ho
    show execCueCtlCompletion n s = _
    rw [execCueCtlCompletion, ho]
  case fault =>
    intro n cause pc s hrun b s1 s2
    exact congrArg Host.Outcome.next (if_neg (Classical.not_not.mpr hrun))
  case timer => exact fun _ _ => rfl
  case reservation =>
    intro n a t s hresv s1
    show execCueReservationTimeout n s = _
    rw [execCueReservationTimeout, hresv]
  case expiry =>
    intro n s0 x s hcounts
    exact congrArg Host.Outcome.next (if_neg (by rw [hcounts]; exact Bool.false_ne_true))
  case kick =>
    intro m n v s s1 hr hm hv
    exact congrArg Host.Outcome.next ((ownWrite_ok hr).trans (State.wdtKick_ok hm hv))
  case cfg =>
    intro m n v s hr _
    exact congrArg Host.Outcome.next (cueWrite_ok _ hr)
  case msip =>
    intro m n v s hr
    exact congrArg Host.Outcome.next (cueWrite_ok _ hr)

end Sys2Proof.Machine
end

/-! ## SDI inputs, outputs and crosspoints (O23) -/
section
namespace Sys2Proof.Machine

/-- Settles O23: a taken packet passes its checks, and each event meets the state of its channel, or finds its operation armed. -/
theorem sdiStreams : Obligations.SdiStreams := by
  refine ⟨?rxSet, ?rxSetQuery, ?txSet, ?txSetQuery, ?xpt, ?xptQuery, ?rxAct, ?rxActMember, ?rxLine, ?rxFrame, ?inputLost, ?inputSkewed, ?txAct,
    ?txActMember, ?firstFrame, ?noEav, ?txLine, ?xptActBad, ?xptAct⟩
  case rxSet =>
    intro c s n w ht hl htgt hp hd hr hh ha hst hw u
    have hfree := Bool.and_eq_true_iff.mpr ⟨Bool.and_eq_true_iff.mpr ⟨hh, ha⟩, bne_iff_ne.mpr hst⟩
    exact congrArg Host.Outcome.next (long_ok _ id ht ((Chk.ok_iff _).mpr ⟨beq_iff_eq.mpr hl, htgt, rfl, hp, hd, rfl, hr, hfree, hw⟩))
  case rxSetQuery =>
    intro c s n ht hl htgt hp hd u
    exact congrArg Host.Outcome.next (immediate_ok _ ht ((Chk.ok_iff _).mpr ⟨beq_iff_eq.mpr hl, htgt, rfl, hp, hd, rfl, rfl, rfl, rfl⟩))
  case txSet =>
    intro c s n w ht hl htgt hp hd hr hh ha hst hw u
    have hfree := Bool.and_eq_true_iff.mpr ⟨Bool.and_eq_true_iff.mpr ⟨hh, ha⟩, bne_iff_ne.mpr hst⟩
    exact congrArg Host.Outcome.next (long_ok _ id ht ((Chk.ok_iff _).mpr ⟨beq_iff_eq.mpr hl, htgt, rfl, hp, hd, rfl, hr, hfree, hw⟩))
  case txSetQuery =>
    intro c s n ht hl htgt hp hd u
    exact congrArg Host.Outcome.next (immediate_ok _ ht ((Chk.ok_iff _).mpr ⟨beq_iff_eq.mpr hl, htgt, rfl, hp, hd, rfl, rfl, rfl, rfl⟩))
  case xpt =>
    intro c s n w ht hl hch hport hp hd hr hh ha hst hw u
    have htgt := Bool.and_eq_true_iff.mpr ⟨hch, hport⟩
    have hfree := Bool.and_eq_true_iff.mpr ⟨Bool.and_eq_true_iff.mpr ⟨hh, ha⟩, bne_iff_ne.mpr hst⟩
    exact congrArg Host.Outcome.next (long_ok _ id ht
      ((Chk.ok_iff _).mpr ⟨beq_iff_eq.mpr hl, htgt, rfl, hp, hd, rfl, bne_iff_ne.mpr hr, hfree, hw⟩))
  case xptQuery =>
    intro c s b ht hl hch hport hp hd u r
    have htgt := Bool.and_eq_true_iff.mpr ⟨hch, hport⟩
    exact congrArg Host.Outcome.next (immediate_ok _ ht ((Chk.ok_iff _).mpr ⟨beq_iff_eq.mpr hl, htgt, rfl, hp, hd, rfl, rfl, rfl, rfl⟩))
  case rxAct =>
    intro n edge o s ho hm hport r
    show execSdiRxSetAct n edge s = _
    rw [execSdiRxSetAct, ho]
    exact congrArg Host.Outcome.next (if_neg (by simp [hm, hport]))
  case rxActMember =>
    intro n edge o s ho hm
    show execSdiRxSetAct n edge s = _
    rw [execSdiRxSetAct, ho]
    exact congrArg Host.Outcome.next (if_pos hm)
  case rxLine =>
    intro n l s b L hscan hin hst s1 us
    exact congrArg Host.Outcome.next (if_neg (not_or.mpr ⟨hscan, not_or.mpr ⟨by simp [hin], hst⟩⟩))
  case rxFrame =>
    intro n t pid lines samples inter s b hscan hin hst old want s1 s2 s3 s4 s5
    exact congrArg Host.Outcome.next (if_neg (not_or.mpr ⟨hscan, not_or.mpr ⟨by simp [hin], hst⟩⟩))
  case inputLost =>
    intro n skew s hskew hst s1 s2
    have hone : ¬ (skew = true ∧ mapLanes (s.getF (chBase n.val) F.SE_CH_CFG_rx_map) = 1) :=
      fun h => hskew.elim (fun he => absurd h.1 (ne_true_of_eq_false he)) fun hm => hm h.2
    have hs1 : (if skew = true ∧ (s.rxState n.val = rxRunning ∨ s.rxState n.val = rxSearching) then s.seMark n.val F.SE_CH_STAT_skew else s) = s1 :=
      if_congr (and_iff_left (.inl hst)) rfl rfl
    show execSdiInputLost n skew s = _
    rw [execSdiInputLost, if_neg hone]
    dsimp only
    rw [hs1, if_pos hst]
  case inputSkewed =>
    intro n s hm hst
    have hrun : s.rxState n.val ≠ rxRunning := by rw [hst]; decide
    show execSdiInputLost n true s = _
    rw [execSdiInputLost, if_neg fun h => hm h.2]
    exact congrArg Host.Outcome.next ((if_neg hrun).trans (if_pos ⟨rfl, .inr hst⟩))
  case txAct =>
    intro n edge o s ho hm hport s1
    show execSdiTxSetAct n edge s = _
    rw [execSdiTxSetAct, ho]
    exact congrArg Host.Outcome.next (if_neg (by simp [hm, hport]))
  case txActMember =>
    intro n edge o s ho hm
    show execSdiTxSetAct n edge s = _
    rw [execSdiTxSetAct, ho]
    exact congrArg Host.Outcome.next (if_pos hm)
  case firstFrame =>
    intro n t s x he hst s0 s1
    have hev : ¬ (!s.eavOk n.val t) = true := by rw [he]; exact Bool.false_ne_true
    show execSdiTxFirstFrame n t s = .next (s1.txStarted n.val t)
    rw [execSdiTxFirstFrame]
    refine congrArg Host.Outcome.next ((if_neg hev).trans ?_)
    by_cases hstart : s.txState n.val = txStarting
    · have hs1 : s1 = (s0.setF (chBase n.val) F.SE_CH_STAT_tx_state txRunning).setSeCh n.val { s0.seCh n.val with txLine := 1, txAt := t } :=
        if_pos hstart
      rw [if_pos hstart, hs1]
    · have hs1 : s1 = s0 := if_neg hstart
      rw [if_neg hstart, hs1]
      exact if_pos (hst.resolve_left hstart)
  case noEav =>
    intro n t s he
    exact congrArg Host.Outcome.next (if_pos (by rw [he]; rfl))
  case txLine =>
    intro n active room s b x m hline hon hlanes r l s1
    exact congrArg Host.Outcome.next (if_neg (not_or.mpr ⟨hline, not_or.mpr ⟨ne_false_of_eq_true hon, ne_false_of_eq_true hlanes⟩⟩))
  case xptActBad =>
    intro n edge o s ho he hbad
    show execXptAtAct n edge s = _
    rw [execXptAtAct, ho]
    refine congrArg Host.Outcome.next ((if_neg (by simp [he])).trans (if_pos ?_))
    simpa using hbad
  case xptAct =>
    intro n edge o s ho he hm hport b port s1
    show execXptAtAct n edge s = _
    rw [execXptAtAct, ho]
    refine congrArg Host.Outcome.next ((if_neg (by simp [he])).trans (if_neg ?_))
    simpa [hm, or_iff_not_imp_left] using hport

end Sys2Proof.Machine
end

/-! ## Protractors (O25) -/
section
namespace Sys2Proof.Machine

/-- The period of a protractor that measures its lane is not left out (R470). -/
theorem eyePeriod_measures {s : State} {n : Nat} (hon : s.protOn n = true) (hnat : s.laneNative n = true) (hp : s.eyePaused n = false) :
    ¬ (!s.protOn n || !s.laneNative n || s.eyePaused n) = true := by
  simp [hon, hnat, hp]

/-- Settles O25: a taken packet passes its checks, and each period finds the protractor on. -/
theorem protractors : Obligations.Protractors := by
  refine ⟨?set, ?setQuery, ?eyePeriod, ?eyePeriodCut, ?second⟩
  case set =>
    intro c s n ht hl htgt hp hd hr hh u
    exact congrArg Host.Outcome.next (immediate_ok _ ht
      ((Chk.ok_iff _).mpr ⟨beq_iff_eq.mpr hl, htgt, rfl, hp, hd, rfl, bne_iff_ne.mpr hr, hh, rfl⟩))
  case setQuery =>
    intro c s n ht hl htgt hd u
    exact congrArg Host.Outcome.next (immediate_ok _ ht
      ((Chk.ok_iff _).mpr ⟨beq_iff_eq.mpr hl, htgt, rfl, rfl, hd, rfl, rfl, rfl, rfl⟩))
  case eyePeriod =>
    intro n h v tj aj s hon hnat hp x hm vm tm am s0 s1
    exact congrArg Host.Outcome.next (if_neg (eyePeriod_measures hon hnat hp))
  case eyePeriodCut =>
    intro n h v tj aj s hon hnat hp hcut hcutJ
    have heye : ¬ (s.protF n.val 2 30 30 = 1 ∧ (s.protX n.val).cut = false) := fun he => by simp [hcut] at he
    have hjit : ¬ (s.protF n.val 2 29 29 = 1 ∧ (s.protX n.val).cutJ = false) := fun he => by simp [hcutJ] at he
    exact congrArg Host.Outcome.next ((if_neg (eyePeriod_measures hon hnat hp)).trans ((if_neg hjit).trans (if_neg heye)))
  case second =>
    intro n s x hon hd uas thr s1
    exact congrArg Host.Outcome.next (if_neg (not_or.mpr ⟨by simp [hon], Classical.not_not.mpr hd⟩))

end Sys2Proof.Machine
end

/-! ## IP flows, merges, Ethernet ports and stream stops (O24) -/
section
namespace Sys2Proof.Machine

/-! ### IP_FLOW_ADD (R440, R441, R443) -/

/-- IP_FLOW_ADD of an Ethernet port that its lanes can carry. -/
theorem exec_ipFlowAdd_port {c : Cmd} {s : State} (ht : Takes s 0x0502 c) (hport : 0x8000 ≤ c.inst) (hl : c.len = 14)
    (htgt : c.flowTgt = true) (hp : s.portOk (8 * c.seOf.getD 0 + c.inst % 8) c = true) (hd : s.grpOn (c.seOf.getD 0) = true)
    (hr : ∀ j < speedLanes (c.f 2 27 26), s.laneState (8 * c.seOf.getD 0 + c.inst % 8 + j) ≠ lnRetired) (hh : s.heldByOther c = false) :
    exec (.ipFlowAdd c) s =
      .next (((s.take 0x0502 c).portAdd (8 * c.seOf.getD 0 + c.inst % 8) c.words).answer 0x0502 c .ok []) := by
  show execIpFlowAdd c s = _
  simp only [execIpFlowAdd, decide_eq_true hport, if_true, Bool.not_true, Bool.false_and, Bool.and_false, Bool.false_eq_true, if_false]
  have hret : (List.range (speedLanes (c.f 2 27 26))).all (fun j => s.laneState (8 * c.seOf.getD 0 + c.inst % 8 + j) != lnRetired) = true :=
    List.all_eq_true.mpr fun j hj => bne_iff_ne.mpr (hr j (List.mem_range.mp hj))
  exact congrArg Host.Outcome.next (immediate_ok _ ht
    ((Chk.ok_iff _).mpr ⟨beq_iff_eq.mpr hl, htgt, rfl, by rw [hp]; rfl, hd, rfl, hret, by rw [hh]; rfl, rfl⟩))

/-- IP_FLOW_ADD of a flow that its lane can carry and for which the multicast filter has room. -/
theorem exec_ipFlowAdd_flow {c : Cmd} {s : State} (ht : Takes s 0x0502 c) (hflow : c.inst < 0x8000) (hl : c.len = 16)
    (htgt : c.flowTgt = true) (hp : s.flowOk (c.seOf.getD 0) c = true) (hroom : s.mcfRefuses (c.seOf.getD 0) c = false)
    (hd : s.grpOn (c.seOf.getD 0) = true) (hr : s.laneState (8 * c.seOf.getD 0 + c.f 2 23 21 + c.f 2 20 19) ≠ lnRetired)
    (hh : s.heldByOther c = false) (hst : s.flState (c.seOf.getD 0) c.inst ≠ flDisabling) :
    exec (.ipFlowAdd c) s = .next (((s.take 0x0502 c).flowAdd (c.seOf.getD 0) c.inst c.words).answer 0x0502 c .ok []) := by
  show execIpFlowAdd c s = _
  simp only [execIpFlowAdd, decide_eq_false (Nat.not_le.mpr hflow), hroom, Bool.and_false, Bool.false_and, Bool.false_eq_true, if_false]
  have hfree : (!s.heldByOther c && (false || s.flState (c.seOf.getD 0) c.inst != flDisabling)) = true := by
    rw [hh, bne_iff_ne.mpr hst]; rfl
  exact congrArg Host.Outcome.next (immediate_ok _ ht
    ((Chk.ok_iff _).mpr ⟨beq_iff_eq.mpr hl, htgt, rfl, by rw [hp]; rfl, hd, rfl, bne_iff_ne.mpr hr, hfree, rfl⟩))

/-! ### STREAM_ABORT and flows that are lost (R448, R453, R456) -/

/-- A STREAM_ABORT that passes its checks also ends the disables that it overtakes (R456). -/
theorem exec_streamAbort {c : Cmd} {s : State} (ht : Takes s 0x0507 c) (hl : c.len = 3) (htgt : c.streamTgt = true)
    (hp : s.streamOk (c.seOf.getD 0) c = true) (hd : s.grpOn (c.seOf.getD 0) = true) : exec (.streamAbort c) s = .next
      ((((s.take 0x0507 c).streamAbort (c.seOf.getD 0) c.inst (c.f 2 1 0)).answer 0x0507 c .ok []).endDisable (c.seOf.getD 0) c.inst
        (c.f 2 1 0) true) := by
  have hk : Chk.ok { len := c.len == 3, tgt := c.streamTgt, par := s.streamOk (c.seOf.getD 0) c, dom := s.grpOn (c.seOf.getD 0) } = true :=
    (Chk.ok_iff _).mpr ⟨beq_iff_eq.mpr hl, htgt, rfl, hp, hd, rfl, rfl, rfl, rfl⟩
  show execStreamAbort c s = _
  simp only [execStreamAbort, gate_none ht hk, ht.1, immediate_ok _ ht hk]
  rfl

/-- A leg of a merged flow falls silent. -/
theorem exec_ipFlowLost_leg {g : Fin 18} {i : Fin 256} {a j x : Nat} {s : State}
    (h : (s.flow g.val i.val).legA g.val i.val = some (a, j, x)) :
    exec (.ipFlowLost g i) s = .next ((s.legSilent g.val i.val).mergeLost a j) := by
  show execIpFlowLost g i s = _
  rw [execIpFlowLost, h]

/-- A flow that is no leg is lost at once. -/
theorem exec_ipFlowLost_alone {g : Fin 18} {i : Fin 256} {s : State} (h : (s.flow g.val i.val).leg = none) :
    exec (.ipFlowLost g i) s = .next (s.flowLost g.val i.val) := by
  have hleg : (s.flow g.val i.val).legA g.val i.val = none := by rw [Flow.legA, h]
  show execIpFlowLost g i s = _
  rw [execIpFlowLost, hleg]

/-- Settles O24: a taken packet passes its checks, and each event meets the state of its port or its flow. -/
theorem ipStreams : Obligations.IpStreams := by
  refine ⟨?addPort, ?addFlow, ?addQuery, ?del, ?merge, ?mergeQuery, ?disable, ?abort, ?disabled, ?frame, ?solicit, ?echo, ?resolved, ?membership,
    ?packet, ?release, ?legLost, ?flowLost, ?portUp, ?portDown, ?portStaysDown, ?txPacket⟩
  case addPort =>
    intro c s g n ht hport hl htgt hp hd hr hh
    exact exec_ipFlowAdd_port ht hport hl htgt hp hd hr hh
  case addFlow =>
    intro c s g ht hflow hl htgt hp hroom hd hr hh hst
    exact exec_ipFlowAdd_flow ht hflow hl htgt hp hroom hd hr hh hst
  case addQuery =>
    intro c s g ht hl htgt hp hd u r
    have hpar : (decide (c.inst < 512) || (!s.portMember (8 * g + c.inst % 8) && !s.isMember (8 * g + c.inst % 8))) = true :=
      Bool.or_eq_true_iff.mpr (hp.imp_left decide_eq_true)
    exact congrArg Host.Outcome.next (immediate_ok _ ht ((Chk.ok_iff _).mpr ⟨beq_iff_eq.mpr hl, htgt, rfl, hpar, hd, rfl, rfl, rfl, rfl⟩))
  case del =>
    intro c s g n ht hl htgt hp hd hh u
    exact congrArg Host.Outcome.next (immediate_ok _ ht ((Chk.ok_iff _).mpr ⟨beq_iff_eq.mpr hl, htgt, rfl, hp, hd, rfl, rfl, hh, rfl⟩))
  case merge =>
    intro c s g b ht hl hse hinst hp hd hh ha hb u r
    have htgt := Bool.and_eq_true_iff.mpr ⟨hse, decide_eq_true hinst⟩
    have hfree := Bool.and_eq_true_iff.mpr ⟨Bool.and_eq_true_iff.mpr ⟨hh, bne_iff_ne.mpr ha⟩, bne_iff_ne.mpr hb⟩
    exact congrArg Host.Outcome.next (immediate_ok _ ht ((Chk.ok_iff _).mpr ⟨beq_iff_eq.mpr hl, htgt, rfl, hp, hd, rfl, rfl, hfree, rfl⟩))
  case mergeQuery =>
    intro c s g ht hl hse hinst hd u
    have htgt := Bool.and_eq_true_iff.mpr ⟨hse, decide_eq_true hinst⟩
    exact congrArg Host.Outcome.next (immediate_ok _ ht ((Chk.ok_iff _).mpr ⟨beq_iff_eq.mpr hl, htgt, rfl, rfl, hd, rfl, rfl, rfl, rfl⟩))
  case disable =>
    intro c s g ht hl htgt hp hd hh u
    exact congrArg Host.Outcome.next (long_ok none _ ht ((Chk.ok_iff _).mpr ⟨beq_iff_eq.mpr hl, htgt, rfl, hp, hd, rfl, rfl, hh, rfl⟩))
  case abort =>
    intro c s g ht hl htgt hp hd
    exact exec_streamAbort ht hl htgt hp hd
  case disabled =>
    intro g i sel s n hops hsend s1
    exact congrArg Host.Outcome.next (if_neg (not_or.mpr ⟨hops, hsend⟩))
  case frame =>
    intro n x s b hhears w2 s0 s1 s2 vlanOk
    exact congrArg Host.Outcome.next (if_neg (ne_false_of_eq_true hhears))
  case solicit =>
    intro n x a s hhears hx ha
    subst hx
    exact congrArg Host.Outcome.next ((if_neg (ne_false_of_eq_true hhears)).trans (if_pos ha))
  case echo =>
    intro n x a s hhears hx ha
    subst hx
    exact congrArg Host.Outcome.next ((if_neg (ne_false_of_eq_true hhears)).trans (if_pos ha))
  case resolved =>
    intro n x a mac s hhears hx
    subst hx
    exact congrArg Host.Outcome.next (if_neg (ne_false_of_eq_true hhears))
  case membership =>
    intro n x s hhears hx
    subst hx
    exact congrArg Host.Outcome.next (if_neg (ne_false_of_eq_true hhears))
  case packet =>
    intro g i p s st f n x hst hmatched sR sR' s0
    have hskip : ¬ ((st ≠ flSearching ∧ st ≠ flRunning) ∨ x.matched.contains i.val = false) :=
      not_or.mpr ⟨fun h => hst.elim h.1 h.2, ne_false_of_eq_true hmatched⟩
    exact congrArg Host.Outcome.next (if_neg hskip)
  case release =>
    intro g i edge b e s f hleg hfirst hst hdue
    show execMergePacketRelease g i edge s = _
    simp only [execMergePacketRelease, f, hleg, hfirst] at hdue ⊢
    exact congrArg Host.Outcome.next (if_pos ⟨hst, hdue⟩)
  case legLost =>
    intro g i a j x s f n hleg s0 s1
    exact exec_ipFlowLost_leg hleg
  case flowLost => exact fun g i s hleg => exec_ipFlowLost_alone hleg
  case portUp =>
    intro n remote s b k hrec hdown hlanes
    exact congrArg Host.Outcome.next (if_pos (by rw [hrec, hdown, hlanes]; rfl))
  case portDown =>
    intro n lf rf s b hd hup s1
    exact congrArg Host.Outcome.next ((if_neg (Classical.not_not.mpr hd)).trans (if_pos hup))
  case portStaysDown =>
    intro n lf rf s b hd hup hrec
    exact congrArg Host.Outcome.next ((if_neg (Classical.not_not.mpr hd)).trans
      ((if_neg (ne_true_of_eq_false hup)).trans (if_neg (ne_true_of_eq_false hrec))))
  case txPacket =>
    intro g i edge L off len last p s f hdue hst hfits s0 n xs r s1 es len1 short s2 s3
    show execIpTxPacketDue g i edge L off len last s = _
    unfold execIpTxPacketDue
    extract_lets f
    rewrite [hdue]
    exact congrArg Host.Outcome.next (if_neg (not_or.mpr ⟨Classical.not_not.mpr hst, ne_false_of_eq_true hfits⟩))

end Sys2Proof.Machine
end

/-! ## Frame memory and the sealing engine (O28) -/
section
namespace Sys2Proof.Machine

/-- Settles O28: a taken packet passes its checks, and each access and event meets its guard. -/
theorem frameMemoryAndSealing : Obligations.FrameMemoryAndSealing := by
  refine ⟨?set, ?setQuery, ?rights, ?rightsQuery, ?rekey, ?read, ?readWaits, ?write, ?writeWaits, ?refresh, ?writeback, ?initDone, ?removeDone,
    ?sweepStart, ?sweepDone, ?rekeyDone⟩
  case set =>
    intro c s ht hl htgt hp hd hh hdrain u
    have hfree := Bool.and_eq_true_iff.mpr ⟨hh, hdrain⟩
    exact congrArg Host.Outcome.next (immediate_ok _ ht ((Chk.ok_iff _).mpr ⟨beq_iff_eq.mpr hl, htgt, rfl, hp, hd, rfl, rfl, hfree, rfl⟩))
  case setQuery =>
    intro c s ht hl htgt hd u r
    exact congrArg Host.Outcome.next (immediate_ok _ ht ((Chk.ok_iff _).mpr ⟨beq_iff_eq.mpr hl, htgt, rfl, rfl, hd, rfl, rfl, rfl, rfl⟩))
  case rights =>
    intro c s ht hl htgt hz hst hd hh u
    have hpar := Bool.and_eq_true_iff.mpr ⟨beq_iff_eq.mpr hz, bne_iff_ne.mpr hst⟩
    exact congrArg Host.Outcome.next (immediate_ok _ ht ((Chk.ok_iff _).mpr ⟨beq_iff_eq.mpr hl, htgt, rfl, hpar, hd, rfl, rfl, hh, rfl⟩))
  case rightsQuery =>
    intro c s ht hl htgt hd u
    exact congrArg Host.Outcome.next (immediate_ok _ ht ((Chk.ok_iff _).mpr ⟨beq_iff_eq.mpr hl, htgt, rfl, rfl, hd, rfl, rfl, rfl, rfl⟩))
  case rekey =>
    intro c s ht hl htgt hz hsealed hst hd hh hsweep u
    have hpar := Bool.and_eq_true_iff.mpr ⟨Bool.and_eq_true_iff.mpr ⟨beq_iff_eq.mpr hz, hsealed⟩, hst⟩
    have hfree := Bool.and_eq_true_iff.mpr ⟨hh, bne_iff_ne.mpr hsweep⟩
    exact congrArg Host.Outcome.next (long_ok none _ ht ((Chk.ok_iff _).mpr ⟨beq_iff_eq.mpr hl, htgt, rfl, hpar, hd, rfl, rfl, hfree, rfl⟩))
  case read =>
    intro cls a n es s h r
    exact congrArg Host.Outcome.next (if_neg fun hw => h.elim (fun hf => ne_true_of_eq_false hf hw.1) fun ha => ha hw.2)
  case readWaits => exact fun cls a n es s hb ha => congrArg Host.Outcome.next (if_pos ⟨hb, ha⟩)
  case write =>
    intro cls a bs poison posted es st s1 s h
    show execFrameMemoryWrite cls a bs poison posted es s = _
    rw [execFrameMemoryWrite, h]
  case writeWaits =>
    intro cls a bs poison posted es s1 s h
    show execFrameMemoryWrite cls a bs poison posted es s = _
    rw [execFrameMemoryWrite, h]
  case refresh => exact fun k ch s hd => congrArg Host.Outcome.next (if_neg hd)
  case writeback => exact fun k line s h => congrArg Host.Outcome.next (if_pos h)
  case initDone => exact fun k x s hst hd hf => congrArg Host.Outcome.next (if_pos ⟨hst, hd, hf⟩)
  case removeDone => exact fun k x s hst => congrArg Host.Outcome.next (if_pos hst)
  case sweepStart =>
    intro k x s hdue hst hd
    exact congrArg Host.Outcome.next (if_pos (by rw [hdue, hst, hd]; rfl))
  case sweepDone => exact fun k x s hst hd hptr => congrArg Host.Outcome.next (if_pos ⟨hst, hd, hptr⟩)
  case rekeyDone =>
    intro k x src tag epoch s hop hdone
    show execRekeyNowCompletion k x s = _
    rw [execRekeyNowCompletion, hop, hdone]

end Sys2Proof.Machine
end

/-! ## Glenu links and the lattice (O29) -/
section
namespace Sys2Proof.Machine

/-- Settles O29: a taken packet passes its checks, and each event meets the state of its link or its operation. -/
theorem latticeLinks : Obligations.LatticeLinks := by
  refine ⟨?discover, ?assign, ?assignQuery, ?route, ?routeQuery, ?frameBad, ?frameGood, ?resend, ?aligned, ?hello, ?helloLost, ?reply,
    ?discovered, ?dmaTimeout, ?stageTimeout, ?reapply⟩
  case discover =>
    intro c s act max_ ht hl htgt hp ha hh hop u
    have hfree := Bool.and_eq_true_iff.mpr ⟨hh, hop⟩
    exact congrArg Host.Outcome.next (long_ok none _ ht ((Chk.ok_iff _).mpr ⟨hl, htgt, ha, hp, rfl, rfl, rfl, hfree, rfl⟩))
  case assign =>
    intro c s ht hl htgt ha h2 haddr h3 h4 hh u r
    have hpar : (c.f 2 29 16 == 0 && decide (c.f 2 15 0 ≤ 0x0FFF) && c.w 3 != 0 && c.f 4 31 16 == 0) = true := by
      rw [beq_iff_eq.mpr h2, decide_eq_true haddr, bne_iff_ne.mpr h3, beq_iff_eq.mpr h4]; rfl
    exact congrArg Host.Outcome.next (immediate_ok _ ht ((Chk.ok_iff _).mpr ⟨beq_iff_eq.mpr hl, htgt, ha, hpar, rfl, rfl, rfl, hh, rfl⟩))
  case assignQuery =>
    intro c s ht hl htgt u
    exact congrArg Host.Outcome.next (immediate_ok _ ht ((Chk.ok_iff _).mpr ⟨beq_iff_eq.mpr hl, htgt, rfl, rfl, rfl, rfl, rfl, rfl, rfl⟩))
  case route =>
    intro c s k isLink ht hl hdie hblk hk hp hd hr hh u r
    have htgt := Bool.and_eq_true_iff.mpr ⟨Bool.and_eq_true_iff.mpr ⟨beq_iff_eq.mpr hdie, beq_iff_eq.mpr hblk⟩, hk⟩
    exact congrArg Host.Outcome.next (immediate_ok _ ht ((Chk.ok_iff _).mpr ⟨hl, htgt, rfl, hp, hd, rfl, hr, hh, rfl⟩))
  case routeQuery =>
    intro c s k isLink ht hl hdie hblk hk u r
    have htgt := Bool.and_eq_true_iff.mpr ⟨Bool.and_eq_true_iff.mpr ⟨beq_iff_eq.mpr hdie, beq_iff_eq.mpr hblk⟩, hk⟩
    exact congrArg Host.Outcome.next (immediate_ok _ ht ((Chk.ok_iff _).mpr ⟨beq_iff_eq.mpr hl, htgt, rfl, rfl, rfl, rfl, rfl, rfl, rfl⟩))
  case frameBad =>
    intro k f s l hscan hst hbad n
    exact congrArg Host.Outcome.next ((if_neg (not_or.mpr ⟨hscan, hst⟩)).trans (if_pos (by rw [hbad]; rfl)))
  case frameGood =>
    intro k f s l hdr kind isSealed hscan hst hgood hkind
    exact congrArg Host.Outcome.next ((if_neg (not_or.mpr ⟨hscan, hst⟩)).trans
      ((if_neg (by rw [hgood]; exact Bool.false_ne_true)).trans (if_neg (Nat.not_le.mpr hkind))))
  case resend => exact fun k s hst hsent => congrArg Host.Outcome.next (if_pos ⟨hst, hsent⟩)
  case aligned => exact fun k s hst hlanes => congrArg Host.Outcome.next (if_pos ⟨hst, hlanes⟩)
  case hello => exact fun k s hst => congrArg Host.Outcome.next (if_pos hst)
  case helloLost => exact fun k s hst => congrArg Host.Outcome.next (if_pos hst)
  case reply => exact fun ws s => rfl
  case discovered =>
    intro d o s hdisc hop hstack hawait a s1 depth
    show execLatDiscoverCompletion s = _
    rw [execLatDiscoverCompletion, hdisc, hop]
    exact congrArg Host.Outcome.next (if_neg (by simp [hstack, hawait]))
  case dmaTimeout =>
    intro who c n es ans s hwho hst hpeer
    subst hwho
    exact congrArg Host.Outcome.next (if_pos ⟨hst, hpeer⟩)
  case stageTimeout =>
    intro who h o s hwho hst hop hsrc
    subst hwho
    show execLatticeRequestTimeout (.stage h) s = _
    simp only [execLatticeRequestTimeout, hop]
    exact congrArg Host.Outcome.next ((if_neg (Classical.not_not.mpr hst)).trans (if_pos hsrc))
  case reapply =>
    intro k s l hpend hen hok hlanes
    exact congrArg Host.Outcome.next (if_pos (by rw [hpend, hen, hok, hlanes]; rfl))

end Sys2Proof.Machine
end

/-! ## Channel retirement and the journal (O8) -/
section
namespace Sys2Proof.Machine

/-- A test other than an edge's and a DRAM channel's ends by its outcome alone (R629). -/
theorem execChannelRestoreCompletion_other {pass : Bool} {good : Fin 75} {o : Op} {x : Chan} {s : State}
    (ho : s.chanOp 0x0A03 = some o) (hx : chanOf (o.w 2) = some x) (he : ∀ e, x ≠ .edge e) (hd : ∀ k ch, x ≠ .dram k ch)
    (hst : o.stage = 0) (hp : s.chanPowered x = true) (hdrop : s.chanDropped x = false) :
    execChannelRestoreCompletion pass good s =
      .next (if pass then
          if (s.chanRestore 0 x).chanSettles x then (s.chanRestore 0 x).putOp { o with stage := 1 }
          else (s.chanRestore 0 x).chanRestoreEnd o x
        else (s.chanFailed x).complete o .hwFault [wd ((s.chanFailed x).chanWord x), wd ((s.chanFailed x).opMicros o)]) := by
  simp only [execChannelRestoreCompletion, ho, hx, hst, hp, hdrop, ne_eq, not_true_eq_false, if_false, Bool.not_true, Bool.false_eq_true]

/-- Settles O8: a taken packet passes its checks, and an end of work reads its operation, the channel that it names and its stage. -/
theorem retirementAndJournal : Obligations.RetirementAndJournal := by
  refine ⟨?retire, ?restore, ?read, ?clear, ?retireOff, ?retireFirst, ?retireSettled, ?restoreOff, ?restoreSettled, ?edge, ?dram, ?other⟩
  case retire =>
    intro c s x ht hl htgt hsome htype hz hd hret hh hheld u
    have hpar := Bool.and_eq_true_iff.mpr ⟨Bool.and_eq_true_iff.mpr ⟨hsome, bne_iff_ne.mpr htype⟩, beq_iff_eq.mpr hz⟩
    have hfree := Bool.and_eq_true_iff.mpr ⟨hh, hheld⟩
    exact congrArg Host.Outcome.next (long_ok none _ ht ((Chk.ok_iff _).mpr ⟨beq_iff_eq.mpr hl, htgt, rfl, hpar, hd, rfl, hret, hfree, rfl⟩))
  case restore =>
    intro c s x ht hl htgt hout hd hh hheld u
    have hfree := Bool.and_eq_true_iff.mpr ⟨hh, hheld⟩
    exact congrArg Host.Outcome.next (long_ok none _ ht ((Chk.ok_iff _).mpr ⟨beq_iff_eq.mpr hl, htgt, rfl, hout, hd, rfl, rfl, hfree, rfl⟩))
  case read =>
    intro c s ht hl htgt hz2 hz3 hn u r
    have hpar := Bool.and_eq_true_iff.mpr ⟨Bool.and_eq_true_iff.mpr ⟨beq_iff_eq.mpr hz2, beq_iff_eq.mpr hz3⟩, bne_iff_ne.mpr hn⟩
    exact congrArg Host.Outcome.next (immediate_ok _ ht ((Chk.ok_iff _).mpr ⟨beq_iff_eq.mpr hl, htgt, rfl, hpar, rfl, rfl, rfl, rfl, rfl⟩))
  case clear =>
    intro c s ht hl htgt hz2 hz3 hn hh u r
    have hpar := Bool.and_eq_true_iff.mpr ⟨Bool.and_eq_true_iff.mpr ⟨beq_iff_eq.mpr hz2, beq_iff_eq.mpr hz3⟩, bne_iff_ne.mpr hn⟩
    exact congrArg Host.Outcome.next (immediate_ok _ ht ((Chk.ok_iff _).mpr ⟨beq_iff_eq.mpr hl, htgt, rfl, hpar, rfl, rfl, rfl, hh, rfl⟩))
  case retireOff =>
    intro o x s ho hx hp hst
    show execChannelRetireCompletion s = _
    simp only [execChannelRetireCompletion, ho, hx, hst, hp, ne_eq, not_true_eq_false, if_false, Bool.not_false, if_true]
  case retireFirst =>
    intro o x s res ok ho hx hp hst s1
    show execChannelRetireCompletion s = _
    simp only [execChannelRetireCompletion, ho, hx, hst, hp, ne_eq, not_true_eq_false, if_false, Bool.not_true, Bool.false_eq_true]
    rfl
  case retireSettled =>
    intro o x s ok ho hx hst hset
    show execChannelRetireCompletion s = _
    simp only [execChannelRetireCompletion, ho, hx, hst, hset, ne_eq, not_false_eq_true, if_true, Bool.false_eq_true, if_false]
    rfl
  case restoreOff =>
    intro pass good o x s ho hx hp hst
    show execChannelRestoreCompletion pass good s = _
    simp only [execChannelRestoreCompletion, ho, hx, hst, hp, ne_eq, not_true_eq_false, if_false, Bool.not_false, if_true]
  case restoreSettled =>
    intro pass good o x s ok ho hx hst hset
    show execChannelRestoreCompletion pass good s = _
    simp only [execChannelRestoreCompletion, ho, hx, hst, hset, ne_eq, not_false_eq_true, if_true, Bool.false_eq_true, if_false]
    rfl
  case edge =>
    intro pass good o e s x ok ho hx hst hp htrain
    show execChannelRestoreCompletion pass good s = _
    simp only [execChannelRestoreCompletion, ho, hx, hst, hp, htrain, x, ne_eq, not_true_eq_false, if_false, Bool.not_true, Bool.false_eq_true]
    rfl
  case dram =>
    intro pass good o k ch s x ok ho hx hst hp
    show execChannelRestoreCompletion pass good s = _
    simp only [execChannelRestoreCompletion, ho, hx, hst, hp, x, ne_eq, not_true_eq_false, if_false, Bool.not_true, Bool.false_eq_true]
    rfl
  case other =>
    intro pass good o x s ok ho hx he hd hst hp hdrop s1 s2
    exact execChannelRestoreCompletion_other ho hx he hd hst hp hdrop

end Sys2Proof.Machine
end

/-! ## Run control (O9) -/
section
namespace Sys2Proof.Machine

/-- The debug domain is on with every right, the rails are good, core 0 is HALTED and mtime reads 10. -/
def haltedAtMtime10 : State :=
  let s : State := { now := 100, pwr := { boot := .ready }, dbg := { on := true } }
  (s.setF dbgBase F.DBG_RIGHTS_rights 0xFF).setF (cueBase 0) F.CUE_STAT_state cuHalted

/-- DBG_CREG_DATA_LO of core 0 in the state that a step leads to. -/
def cregDataOf : Result → Nat
  | .next s => s.getF (dbgCore 0) F.DBG_CREG_DATA_LO_data
  | _ => 0

/-- Refutes O9: a read of the time CSR, register 0xC01, gives mtime (R552), which the core's register file does not hold. From
`haltedAtMtime10` the model leaves 10 in DBG_CREG_DATA_LO, and the statement 0. -/
theorem not_runControl : ¬ Obligations.RunControl := by
  intro h
  obtain ⟨-, -, -, -, -, -, hcreg, -⟩ := h
  have hread := hcreg .jtag 0 0xC01 haltedAtMtime10 (by decide) (by decide) (by decide) (by decide) (by decide) (by decide)
  exact absurd (congrArg cregDataOf hread) (by decide)

end Sys2Proof.Machine
end

/-! ## Debug rights, the access master and trace (O10) -/
section
namespace Sys2Proof.Machine

/-- A command bit of a written word is set in it. -/
theorem testBit_or_two_pow_self (v i : Nat) : (v ||| 2 ^ i).testBit i = true := by
  rw [Nat.testBit_or, Nat.testBit_two_pow_self, Bool.or_true]

/-- DBG_CTL written with relock = 1 sets the owner and ends the rights (R648). -/
theorem State.dbgCtl_relock (s : State) (owner : Bool) : s.dbgCtl (2 ^ 31 + bit owner) = (s.setF dbgBase F.DBG_CTL_owner (bit owner)).endRights := by
  have howner : (2 ^ 31 + bit owner) % 2 = bit owner := by cases owner <;> decide
  have hrelock : (2 ^ 31 + bit owner).testBit 31 = true := by cases owner <;> decide
  simp only [State.dbgCtl, howner, hrelock, if_true]

/-- The owner's DBGA_CTL write with go = 1, at rest and with nothing that bars the access, starts it (R649). -/
theorem State.dbgaCtl_go {s : State} {w : DbgBy} {v : Nat} (hw : s.dbgOwner w = true) (hv : v.testBit 31 = true)
    (hbusy : s.flag dbgBase F.DBGA_STAT_busy = false)
    (hbar : ((s.plainWrite 0 0x0F0 0x30 v).lower dbgBase F.DBGA_STAT_poison).dbgaBarred = false)
    (hmain : ((s.plainWrite 0 0x0F0 0x30 v).lower dbgBase F.DBGA_STAT_poison).mainGood = true) :
    s.dbgaCtl w v = ((s.plainWrite 0 0x0F0 0x30 v).lower dbgBase F.DBGA_STAT_poison).dbgaStart := by
  rw [State.dbgaCtl, dbgOwned_ok _ hw rfl]
  simp only [hbusy, hv, hbar, hmain, Bool.not_true, Bool.false_eq_true, if_false]

/-- The nonce issued at `t` ends 60 s later (R646). -/
theorem execNonceExpiry_issued {i t : Nat} {s : State} (hn : s.dbg.nonce = some (i, t)) :
    execNonceExpiry s =
      .next { s.reachNow (t + 60000000000) with dbg := { (s.reachNow (t + 60000000000)).dbg with nonce := none } } := by
  rw [execNonceExpiry, hn]

/-- Settles O10: a taken packet passes its checks, a debug write reaches its register, and each event meets its guard. -/
theorem debugRights : Obligations.DebugRights := by
  refine ⟨?challenge, ?unlock, ?nonceExpiry, ?rightsExpiry, ?relock, ?rise, ?loss, ?go, ?accessDone, ?timeout, ?stim, ?pcSample, ?storeWaits,
    ?store, ?trcClear, ?accessLate⟩
  case challenge =>
    intro c s ht hl htgt hauth hd u r
    exact congrArg Host.Outcome.next (immediate_ok _ ht ((Chk.ok_iff _).mpr ⟨beq_iff_eq.mpr hl, htgt, hauth, rfl, hd, rfl, rfl, rfl, rfl⟩))
  case unlock =>
    intro c s ht hl htgt hauth hp hd s1 u s2
    have hgate := gate_none ht ((Chk.ok_iff { len := c.len == 100, tgt := c.aimsDbg, auth := !s.ident.debugPolicy.testBit 6, par := c.unlockOk, dom := s.dbg.on }).mpr
      ⟨beq_iff_eq.mpr hl, htgt, Bool.not_eq_true' _ |>.mpr hauth, hp, hd, rfl, rfl, rfl, rfl⟩)
    have hmark : ¬ (s.fetching && s.refused 0x0901 c) = true := by rw [handles_unmarked ht.1, Bool.and_false]; exact Bool.false_ne_true
    have hturn : ¬ (!s.handles 0x0901 c) = true := by rw [ht.1]; exact Bool.false_ne_true
    refine congrArg Host.Outcome.next ((if_neg hmark).trans ((if_neg hturn).trans ?_))
    dsimp only
    rw [hgate]
    cases htok : (s.take 0x0901 c).tokenOk c with
    | true => exact (if_neg Bool.false_ne_true).trans (if_pos rfl).symm
    | false => exact (if_pos rfl).trans (if_neg Bool.false_ne_true).symm
  case nonceExpiry => exact fun i t s hn => execNonceExpiry_issued hn
  case rightsExpiry =>
    intro t s ht
    show execRightsExpiry s = _
    rw [execRightsExpiry, ht]
  case relock => exact fun w owner s hr => congrArg Host.Outcome.next ((dbgWrite_ok _ hr).trans (s.dbgCtl_relock owner))
  case rise => exact fun s hoff => congrArg Host.Outcome.next (if_neg (ne_true_of_eq_false hoff))
  case loss =>
    intro s hon s1
    show execVccDbgLoss s = _
    rw [execVccDbgLoss, hon]
    rfl
  case go =>
    intro w v s s2 hr hw hbusy hbar hmain
    exact congrArg Host.Outcome.next
      ((dbgWrite_ok _ hr).trans (State.dbgaCtl_go hw (testBit_or_two_pow_self v.toNat 31) hbusy hbar hmain))
  case accessDone =>
    intro es st data poison r s hbusy hnow hdo
    show execDbgaAccessDone es st data poison s = _
    rw [execDbgaAccessDone, hbusy, hdo, if_neg (Nat.not_lt.mpr hnow)]
    rfl
  case timeout =>
    intro s hbusy s1
    show execDbgaTimeout s = _
    rw [execDbgaTimeout, hbusy]
    rfl
  case stim => exact fun w p v s hr ht => congrArg Host.Outcome.next ((dbgWrite_ok _ hr).trans (if_pos ht))
  case pcSample =>
    intro pcs s hi h4
    refine congrArg Host.Outcome.next (if_neg ?_)
    rw [h4]
    exact fun h => h.elim hi Bool.false_ne_true
  case storeWaits =>
    intro es ans p t s hq s1 htr hwait
    show execTracePacketStore es ans s = _
    rw [execTracePacketStore, hq]
    dsimp only
    rw [htr, hwait]
    rfl
  case store =>
    intro es ans p t s hq s1 hwait
    show execTracePacketStore es ans s = _
    cases htr : s1.tracing with
    | false => simp only [execTracePacketStore, hq, s1, htr, Bool.not_false, if_true]
    | true =>
      rw [htr, Bool.true_and] at hwait
      simp only [execTracePacketStore, hq, s1, htr, hwait, Bool.not_true, Bool.false_eq_true, if_false]
  case trcClear =>
    intro w v s x s1 hr hw hpol
    have hright : (!s.policyBars 4 5) = true := by rw [hpol]; rfl
    show execDbgTrcClear w v s = _
    rw [execDbgTrcClear, dbgWrite_ok _ hr, State.trcCtl, dbgOwned_ok _ hw hright]
    simp only [testBit_or_two_pow_self v.toNat 28, true_or, if_true]
    rfl
  case accessLate =>
    intro es st data poison s hbusy hlate
    show execDbgaAccessDone es st data poison s = _
    rw [execDbgaAccessDone, hbusy, if_pos hlate]
    rfl

end Sys2Proof.Machine
end

/-! ## A write of frame memory stores its bytes (O54)

The memory map puts different addresses at different places (R39), so what a later piece of a write stores leaves the pieces before it as they
are; and the pieces of a write follow one another without a gap (R519). -/
section
namespace Sys2Proof.Machine

/-! ### Places -/

/-- Different addresses of frame memory have different places (R39). -/
theorem State.phys_inj (s : State) {a b : Nat} (ha : a < fmSize) (hb : b < fmSize) (h : s.phys a = s.phys b) : a = b := by
  simp only [fmSize] at ha hb
  unfold State.phys at h
  split at h
  · simp only [bitsOf, Nat.shiftRight_eq_div_pow, Nat.reducePow, Nat.reduceSub, Nat.reduceAdd] at h
    have hstack : a / 4096 % 4 = b / 4096 % 4 := by omega
    have hrow : a / 16384 % 524288 = b / 16384 % 524288 := by omega
    omega
  · exact h

/-- Memory holds `bs` at the addresses from `a` on. -/
def HoldsAt (t : State) (a : Nat) (bs : List Byte) : Prop := ∀ k < bs.length, SMap.get 0 t.mem (t.phys (a + k)) = bs.getD k 0

theorem HoldsAt.of_length_eq_zero {t : State} {a : Nat} {bs : List Byte} (h : bs.length = 0) : HoldsAt t a bs :=
  fun k hk => absurd (h ▸ hk) (Nat.not_lt_zero k)

theorem HoldsAt.append {t : State} {a : Nat} {bs cs : List Byte} (hb : HoldsAt t a bs) (hc : HoldsAt t (a + bs.length) cs) :
    HoldsAt t a (bs ++ cs) := by
  intro k hk
  rw [List.length_append] at hk
  by_cases hlt : k < bs.length
  · rw [List.getD_append _ _ _ _ hlt]
    exact hb k hlt
  · have hle := Nat.not_lt.mp hlt
    rw [List.getD_append_right _ _ _ _ hle, ← hc (k - bs.length) (by omega), show a + bs.length + (k - bs.length) = a + k by omega]

/-- What is stored past them leaves the bytes held. -/
theorem HoldsAt.later {s t : State} {a b n : Nat} {bs : List Byte} (h : HoldsAt s a bs) (hst : StoresIn b n s t) (hab : a + bs.length ≤ b)
    (hend : b + n ≤ fmSize) : HoldsAt t a bs := by
  intro k hk
  rw [State.phys_congr hst.map_eq, hst.get_eq _ fun j hj heq => ?apart]
  · exact h k hk
  case apart =>
    have := s.phys_inj (a := b + j) (b := a + k) (by omega) (by omega) heq
    omega

theorem State.putFm_holdsAt (s : State) (a : Nat) (bs : List Byte) (h : a + bs.length ≤ fmSize) : HoldsAt (s.putFm a bs) a bs := by
  induction bs generalizing s a with
  | nil => exact .of_length_eq_zero rfl
  | cons b bs ih =>
    rw [List.length_cons] at h
    have hput : HoldsAt { s with mem := SMap.put 0 s.mem (s.phys a) b } a [b] := by
      intro k hk
      obtain rfl : k = 0 := Nat.lt_one_iff.mp hk
      exact SMap.get_put_same 0 s.mem (s.phys a) b
    have hhead := hput.later (State.putFm_storesIn _ (a + 1) bs) (Nat.le_refl _) (by omega)
    exact hhead.append (ih _ (a + 1) (by omega))

/-! ### A line -/

/-- A line's write that answers OK holds its bytes (R531–R533). -/
theorem State.writeLine_holdsAt {s t : State} {k line a : Nat} {bs : List Byte} {poison : Bool} {e : LineErr}
    (h : s.writeLine k line a bs poison e = (some .ok, t)) (hend : a + bs.length ≤ fmSize) : HoldsAt t a bs := by
  unfold State.writeLine at h
  extract_lets whole c at h
  split at h
  case isTrue refused => cases h
  case isFalse passed =>
    split at h
    case h_1 => cases h
    case h_2 s1 hs1 =>
      extract_lets s2 fm s3 s4 at h
      have h2 : StoresIn (a + bs.length) 0 (s1.putFm a bs) s2 := .of_kept (State.fmcCount_interleaved _ k _ _) (State.fmcCount_kept rfl)
      have h3 : StoresIn (a + bs.length) 0 s2 s3 := .of_mem_eq rfl rfl
      have h4 : StoresIn (a + bs.length) 0 s3 s4 := .of_kept (s3.dropPoison_interleaved k line) (State.dropPoison_kept rfl)
      have h5 : StoresIn (a + bs.length) 0 s4 (if poison then s4.addPoison k line 2 else s4) := by
        split
        · exact .of_kept (s4.addPoison_interleaved k line 2) (State.addPoison_kept rfl)
        · exact .refl _ _ s4
      obtain rfl := congrArg Prod.snd h
      exact (s1.putFm_holdsAt a bs hend).later (h2.trans (h3.trans (h4.trans h5))) (Nat.le_refl _) hend

/-! ### The pieces of a write (R519) -/

/-- Pieces follow one another from `a` on and have `n` bytes together. -/
def Tiles : Nat → Nat → List (Nat × Nat) → Prop
  | _, n, [] => n = 0
  | a, n, (b, m) :: l => b = a ∧ m ≤ n ∧ Tiles (a + m) (n - m) l

theorem Tiles.bounds {a n : Nat} {l : List (Nat × Nat)} (h : Tiles a n l) : ∀ p ∈ l, a ≤ p.1 ∧ p.1 + p.2 ≤ a + n := by
  induction l generalizing a n with
  | nil => exact fun p hp => absurd hp List.not_mem_nil
  | cons q l ih =>
    obtain ⟨b, m⟩ := q
    obtain ⟨rfl, hm, hl⟩ := h
    intro p hp
    rcases List.mem_cons.mp hp with rfl | hp
    · exact ⟨Nat.le_refl b, Nat.add_le_add_left hm b⟩
    · have := ih hl p hp
      omega

/-- The part of `[a, a + n)` in the i-th block of `g` bytes. -/
def pieceIn (g a n i : Nat) : Nat × Nat := (max a (i * g), min (a + n) ((i + 1) * g) - max a (i * g))

/-- The parts in the blocks from the j-th on tile what of the range is left there. -/
theorem tiles_pieceIn {g a n : Nat} (c j : Nat) (hstart : a < (j + 1) * g) (hend : a + n ≤ (j + c) * g) :
    Tiles (min (a + n) (max a (j * g))) (a + n - min (a + n) (max a (j * g)))
      (((List.range c).map fun i => pieceIn g a n (j + i)).filter fun p => p.2 != 0) := by
  induction c generalizing j with
  | zero =>
    show _ = 0
    rw [Nat.add_zero] at hend
    omega
  | succ c ih =>
    have hnext : (j + 1) * g = j * g + g := Nat.succ_mul j g
    have hnext2 : (j + 1 + 1) * g = j * g + g + g := by rw [Nat.succ_mul, hnext]
    have hrest := ih (j + 1) (by omega) (by rwa [Nat.add_right_comm, Nat.add_assoc])
    have hlist : (List.range (c + 1)).map (fun i => pieceIn g a n (j + i)) =
        pieceIn g a n j :: (List.range c).map fun i => pieceIn g a n (j + 1 + i) := by
      rw [List.range_succ_eq_map, List.map_cons, List.map_map]
      refine congrArg (List.cons _) (List.map_congr_left fun i _ => ?_)
      rw [Function.comp_apply, Nat.succ_eq_add_one, Nat.add_right_comm, Nat.add_assoc]
    rw [hlist, List.filter_cons]
    by_cases hempty : (pieceIn g a n j).2 = 0
    · rw [hempty]
      simp only [pieceIn, hnext] at hempty
      have hsame : min (a + n) (max a (j * g)) = min (a + n) (max a ((j + 1) * g)) := by omega
      rw [hsame]
      exact hrest
    · rw [bne_iff_ne.mpr hempty, if_pos rfl]
      simp only [pieceIn, hnext] at hempty
      have hfirst : max a (j * g) = min (a + n) (max a (j * g)) := by omega
      have hafter : min (a + n) (max a (j * g)) + (pieceIn g a n j).2 = min (a + n) (max a ((j + 1) * g)) := by
        simp only [pieceIn]
        omega
      refine ⟨hfirst, by omega, ?_⟩
      show Tiles (_ + (pieceIn g a n j).2) (_ - _ - (pieceIn g a n j).2) _
      rw [hafter, Nat.sub_sub, hafter]
      exact hrest

/-- The pieces of a range tile it. -/
theorem tiles_piecesOf {g : Nat} (hg : 0 < g) (a n : Nat) : Tiles a n (piecesOf g a n) := by
  have hbelow : a / g * g ≤ a := Nat.div_mul_le_self a g
  have habove : a < (a / g + 1) * g := Nat.lt_mul_of_div_lt (Nat.lt_succ_self _) hg
  have hlength : n < (n / g + 1) * g := Nat.lt_mul_of_div_lt (Nat.lt_succ_self _) hg
  have hend : a + n ≤ (a / g + (n / g + 2)) * g := by
    rw [show a / g + (n / g + 2) = (a / g + 1) + (n / g + 1) by omega, Nat.add_mul]
    omega
  have htiles := tiles_pieceIn (n := n) (n / g + 2) (a / g) habove hend
  rw [Nat.max_eq_left hbelow, Nat.min_eq_right (Nat.le_add_right a n), Nat.add_sub_cancel_left] at htiles
  exact htiles

/-! ### Pieces and requests in turn -/

/-- Pieces that tile a range, all written with OK, hold its bytes. -/
theorem State.writePieces_holdsAt {s t : State} {a o : Nat} {l : List (Nat × Nat)} {bs : List Byte} {bad : List (Nat × Nat)} {es : List LineErr}
    (hl : Tiles a bs.length l) (hend : a + bs.length ≤ fmSize) (h : s.writePieces l o bs bad es = (some .ok, t)) : HoldsAt t a bs := by
  induction l generalizing s a o bs es with
  | nil => exact HoldsAt.of_length_eq_zero hl
  | cons p l ih =>
    obtain ⟨b, m⟩ := p
    obtain ⟨rfl, hm, hrest⟩ := hl
    have htake : (bs.take m).length = m := List.length_take_of_le hm
    rw [← List.length_drop] at hrest
    have hdrop : b + m + (bs.drop m).length = b + bs.length := by rw [List.length_drop]; omega
    unfold State.writePieces at h
    dsimp only at h
    split at h
    case h_1 s1 hs1 =>
      have hline := State.writeLine_holdsAt hs1 (by omega)
      have hlater : StoresIn (b + m) (bs.drop m).length s1 t := by
        have := State.writePieces_storesIn hrest.bounds s1 (o + m) (bs.drop m) bad (es.drop 1)
        rwa [h] at this
      have hafter := ih hrest (by omega) h
      rw [← List.take_append_drop m bs]
      exact (hline.later hlater (by omega) (by omega)).append (htake.symm ▸ hafter)
    case h_2 hne => exact absurd h (hne t)

/-- A request is never admitted with an answer of OK: one that is admitted has none yet (R526). -/
theorem State.fmAdmit_ne_ok (s : State) (cls a : Nat) (rd wr : Bool) : (s.fmAdmit cls a rd wr).1 ≠ some .ok := by
  unfold State.fmAdmit
  dsimp only
  repeat' split
  all_goals
    intro h
    cases h

/-- Requests that tile a range, all written with OK, hold its bytes. -/
theorem State.writeBlocks_holdsAt {s t : State} {cls a o : Nat} {l : List (Nat × Nat)} {bs : List Byte} {bad : List (Nat × Nat)}
    {es : List LineErr} (hl : Tiles a bs.length l) (hend : a + bs.length ≤ fmSize) (h : s.writeBlocks cls l o bs bad es = (some .ok, t)) :
    HoldsAt t a bs := by
  induction l generalizing s a o bs es with
  | nil => exact HoldsAt.of_length_eq_zero hl
  | cons p l ih =>
    obtain ⟨b, m⟩ := p
    obtain ⟨rfl, hm, hrest⟩ := hl
    have htake : (bs.take m).length = m := List.length_take_of_le hm
    rw [← List.length_drop] at hrest
    have hdrop : b + m + (bs.drop m).length = b + bs.length := by rw [List.length_drop]; omega
    unfold State.writeBlocks at h
    split at h
    case h_1 st s1 hs1 => exact absurd ((congrArg Prod.fst hs1).trans (congrArg Prod.fst h)) (s.fmAdmit_ne_ok cls b false true)
    case h_2 s1 hs1 =>
      split at h
      case h_1 s2 hs2 =>
        have htiles : Tiles b (bs.take m).length (linePieces b m) := htake.symm ▸ tiles_piecesOf (by decide) b m
        have hblock := State.writePieces_holdsAt htiles (by omega) hs2
        have hlater : StoresIn (b + m) (bs.drop m).length s2 t := by
          have := State.writeBlocks_storesIn hrest.bounds s2 cls (o + m) (bs.drop m) bad (es.drop (linePieces b m).length)
          rwa [h] at this
        have hafter := ih hrest (by omega) h
        rw [← List.take_append_drop m bs]
        exact (hblock.later hlater (by omega) (by omega)).append (htake.symm ▸ hafter)
      case h_2 hne => exact absurd h (hne t)

/-- The requests of an access tile its range. -/
theorem tiles_blocksOf (a n : Nat) : Tiles a n (blocksOf a n) := by
  unfold blocksOf
  split
  case isTrue hn => exact ⟨rfl, Nat.zero_le n, hn⟩
  case isFalse => exact tiles_piecesOf (by decide) a n

/-- A write of frame memory that answers OK holds its bytes (R526, R531). -/
theorem State.fmWrite_holdsAt {s t : State} {cls a : Nat} {bs : List Byte} {bad : List (Nat × Nat)} {es : List LineErr}
    (hend : a + bs.length ≤ fmSize) (h : s.fmWrite cls a bs bad es = (some .ok, t)) : HoldsAt t a bs := by
  unfold State.fmWrite at h
  split at h
  case isTrue waits => cases h
  case isFalse => exact State.writeBlocks_holdsAt (tiles_blocksOf a bs.length) hend h

/-- Settles O54: the bytes of a write that answers OK are held where the memory map puts them, and every write stores in its range alone. -/
theorem frameMemoryWriteStores : Obligations.FrameMemoryWriteStores := by
  refine ⟨?stored, ?frame⟩
  case stored =>
    intro cls a bs bad es s t hend h k hk
    have hmap : t.interleaved = s.interleaved := by
      have := (s.fmWrite_storesIn cls a bs bad es).map_eq
      rwa [h] at this
    rw [← State.phys_congr hmap]
    exact State.fmWrite_holdsAt hend h k hk
  case frame =>
    intro cls a bs poison posted es s t x h hx
    have hstores := s.fmWrite_storesIn cls.val a.toNat bs (allBad poison bs.length) es
    obtain rfl := Host.Outcome.next.inj h
    split
    case h_1 => rfl
    case h_2 st s1 hs1 =>
      rw [hs1] at hstores
      have hget := hstores.get_eq x hx
      cases posted with
      | true => exact hget
      | false => exact hget

end Sys2Proof.Machine
end
